-- ==== Sys2Proof/Word.lean ====
section
/-!
DEFINITION. The word types of the Casurnar C9: what the spec itself treats as bits (register contents, addresses
while they are computed, vector registers, accumulator tiles, packed fields). Counts, indexes and keys are `Nat`.
-/

namespace Sys2Proof

/-- One byte of any memory. -/
abbrev Byte := BitVec 8
/-- A 64-bit register, descriptor word or scalar register (R14, R71). -/
abbrev Word := BitVec 64
/-- One 32-bit lane of a v register. -/
abbrev Lane := BitVec 32
/-- One v register: 128 lanes of 32 bits; lane 0 lowest. -/
abbrev VReg := BitVec 4096
/-- One predicate register: bit k governs lane k. -/
abbrev PReg := BitVec 128
/-- One accumulator tile: 32 x 32 FP32 values, row-major, element 0 lowest. -/
abbrev Tile := BitVec 32768
/-- One work item (R108). -/
abbrev ItemBits := BitVec 128
/-- A context descriptor: sixteen 64-bit words, word 0 lowest (R173). -/
abbrev Desc := BitVec 1024

/-- Sparse data by key, in one canonical form: keys strictly rising and no entry equal to what an unlisted key
reads as. The operations are in `Sys2Proof.Machine.Map`. -/
abbrev NMap (α : Type) := List (Nat × α)

end Sys2Proof
end

