-- ==== Sys2Proof/Syntax.lean ====
section
/-!
DEFINITION. The commands the block takes, each a constructor of `Instr`, with the operands it carries. Operand records
hold what arrives from outside (a received packet, a measurement, the outcome of an access to the flash media).
-/

namespace Sys2Proof

/-- A crossing channel (R57): sending island, receiving island, requests or responses. -/
structure Chan where
  src : Fin 566
  dst : Fin 566
  resp : Bool
  deriving DecidableEq, Repr

/-- What the governor measures in one 10 us interval (R682, R686): mean package draw over the latest 1 ms in W, and
the hottest sensors of each half and stack in 0.125 degC, with the two's complement value of 16 bits. -/
structure GovSample where
  draw : Nat
  half : List Nat
  stack : List Nat
  /-- the flash PHYs of the two halves -/
  flash : List Nat
  deriving DecidableEq, Repr

/-- An outside access that reaches a bank (R252): a device memory address, a length within one granule, and the bytes
written, none for a read. -/
structure OAccess where
  addr : Nat
  len : Nat
  data : Option (List Byte)
  deriving DecidableEq, Repr
/-- An answer of the row service (R378): its status, the peer of a FORWARD, the version and the row. -/
structure RowAns where
  status : Nat
  peer : Nat := 0
  version : Nat := 0
  data : List Byte := []
  deriving DecidableEq, Repr
/-- A message of a row migration (R394): the member it comes from, the row with its version, key and bytes, the new home
for HOME_UPDATE, and for an answer that it acknowledges or refuses. -/
structure MigMsg where
  peer : Nat
  table : Nat
  row : Nat
  /-- step of R394 that it belongs to: 2 the row, 3 the replay, 5 the new home, 6 the activation -/
  kind : Nat
  version : Nat := 0
  step : Nat := 0
  rank : Nat := 0
  seq : Nat := 0
  data : List Byte := []
  home : Nat := 0
  ack : Bool := false
  refused : Bool := false
  deriving DecidableEq, Repr
/-- A transport packet (R438): its header fields and its payload. -/
structure Pkt where
  typ : Nat := 0
  fin : Bool := false
  retx : Bool := false
  cls : Nat := 0
  tenant : Nat := 0
  src : Nat := 0
  psn : Nat := 0
  msg : Nat := 0
  key : Nat := 0
  seg : Nat := 0
  total : Nat := 0
  roff : Nat := 0
  epoch : Nat := 0
  comp : Nat := 0
  arg : Nat := 0
  data : List Byte := []
  deriving DecidableEq, Repr

/-- What a port sees of an arriving frame: its bytes from the destination MAC through the FCS, its ECN and DSCP, and the
check that drops it (R440): 0 none, 1 the FCS, 2 another. -/
structure RxMeta where
  port : Fin 6
  bytes : Nat
  ce : Bool
  ect : Bool
  dscp : Nat
  fault : Nat
  deriving DecidableEq, Repr

/-- An arriving transport packet; `ok` says that VERSION, the reserved fields and LEN keep R438. -/
structure Rx where
  m : RxMeta
  ok : Bool
  p : Pkt
  deriving DecidableEq, Repr
/-- An arriving frame that is no well-formed transport packet for this device: `forUs` says that it is a transport packet
addressed to FAB_ADDR whose TYPE is reserved; `ptp` says that it is an IEEE 1588 event message. -/
structure RxFrame where
  m : RxMeta
  forUs : Bool
  p : Pkt
  ptp : Bool
  frame : List Byte
  deriving DecidableEq, Repr
/-- A lattice packet (R516): its header fields and its payload. -/
structure LPkt where
  lop : Nat := 0
  retx : Bool := false
  cls : Nat := 0
  tenant : Nat := 0
  src : Nat := 0
  lsn : Nat := 0
  combine : Bool := false
  merged : Bool := false
  lines : Nat := 0
  tag : Nat := 0
  ctag : Nat := 0
  status : Nat := 0
  laddr : Nat := 0
  epoch : Nat := 0
  comp : Nat := 0
  arg : Nat := 0
  data : List Byte := []
  deriving DecidableEq, Repr

/-- An arriving lattice packet; `ok` says that its header meets R516. -/
structure LRx where
  m : RxMeta
  ok : Bool
  p : LPkt
  deriving DecidableEq, Repr
/-- An entry of the twin's journal (R548); DATA is a number of 40 bytes, lowest first. -/
structure JEntry where
  jsn : Nat := 0
  typ : Nat := 0
  cont : Bool := false
  count : Nat := 0
  obj : Nat := 0
  incarn : Nat := 0
  arg : Nat := 0
  data : Nat := 0
  deriving DecidableEq, Repr

/-- A twin frame (R545-R547): the header fields, and of its payload the entries of a JOURNAL, the fields of a HELLO, or
the log line of a FETCH_DATA. -/
structure TwinFrame where
  typ : Nat := 0
  node : Nat := 0
  jsn : Nat := 0
  ack : Nat := 0
  arg : Nat := 0
  incarn : Nat := 0
  ents : List JEntry := []
  role : Nat := 0
  pair : Nat := 0
  held : Bool := false
  devReset : Bool := false
  boot : Nat := 0
  taken : Nat := 0
  line : List Byte := []
  deriving DecidableEq, Repr

/-- An arriving twin frame; `ok` says that its FCS, trailer, VERSION and reserved fields are right (R545). -/
structure TwinRx where
  ok : Bool
  f : TwinFrame
  deriving DecidableEq, Repr
/-- What a mount of the flash tier finds (R415): a valid root record, and how many journal pages of each half can be read
before one fails R406. -/
structure MountObs where
  rootA : Bool
  rootB : Bool
  pagesA : Nat
  pagesB : Nat
  deriving DecidableEq, Repr

/-- What an island's probes read (R600): the ring oscillator's count per us, and the slack in 0.125 ps. -/
structure Probe where
  isl : Fin 566
  osc : Nat
  slack : Int
  deriving DecidableEq, Repr
/-- The end of a step of the start order (R617): of the device, of a half under its own reset (R613), or of step 4, which runs
beside others; whether the step succeeded; for step 4 what the link trained to; for step 5 the stacks that failed training
twice, for step 8 the tillers that failed their test pass. -/
structure StartObs where
  half : Option (Fin 2) := none
  pcie : Bool := false
  ok : Bool := true
  flit : Bool := true
  width : Nat := 16
  speed : Nat := 6
  upStacks : List Nat := []
  tests : List Nat := []
  deriving DecidableEq, Repr
/-- The four kinds of ring of a function (R636). -/
inductive RingKind where
  | req
  | cpl
  | rx
  | tx
  deriving DecidableEq, Repr


/-- The commands of the block: one constructor for each row of the table of operations and events. A tiller
instruction names its tiller and carries bits [53:0] of the instruction word; bits [63:54] are the opcode of its
mnemonic (R123, R125). -/
inductive Instr where
  /-- REGISTER_WRITE (R20). A naturally aligned 8-byte write to a register that has no row of its own updates each field according to its access code, subject to that register's own apply-or-discard rules. -/
  | registerWrite (fn : Fin 64) (off : Nat) (val : Word)
  /-- MISALIGNED_ACCESS (R15). An access to the register space that is not naturally aligned and 8 bytes wide leaves device state unchanged; a read returns all ones, a write is discarded and a register access error is recorded. -/
  | misalignedAccess (write : Bool) (off : Nat) (size : Nat)
  /-- RC_FIELD_READ (R20). A read of a register that holds RC fields returns their values and clears them, and a set made in the same cycle is kept afterwards. -/
  | rcFieldRead (fn : Fin 64) (off : Nat)
  /-- ISL_CLK_CTL (R52). A write of FREQ_REQ to an adjustable island clamps the request to the island's range and starts a move to the new effective clock. -/
  | islClkCtl (i : Fin 566) (val : Word)
  /-- CLOCK_CHANGE_DONE (R53). An island's clock change completes, and the island moves directly on to any newly computed effective clock. -/
  | clockChangeDone (i : Fin 566)
  /-- CROSSING_DELIVER (R61). A transfer that its sender held while the receiving island's buffer was full is delivered across the crossing once there is room. -/
  | crossingDeliver (c : Chan)
  /-- CROSSING (R57). A transfer crosses from one island to another in 3 cycles of the receiving island, in order per crossing channel. -/
  | crossing (c : Chan) (x : Nat) (full : Bool)
  /-- GOVERNOR_SAMPLE (R682). Every 10 µs the governor measures rail currents and sensors and sets the governor cap of each island for power, temperature and the brake. -/
  | governorSample (g : GovSample)
  /-- POWER_BRAKE (R684). Assertion of PWR_BRAKE_N sets every step of the governor to its floor within 20 µs. -/
  | powerBrake
  /-- THERMAL_TRIP (R687). A sensor that reaches its trip temperature stops every output, asserts THERMTRIP_N and holds the device in reset until power is cycled. -/
  | thermalTrip (sensor : Nat)
  /-- RAIL_FAULT (R679). A rail that leaves its range after reset release stops outputs, host writes and flash operations within 2 µs and asserts PWR_ALERT_N. -/
  | railFault (rail : Nat)
  /-- ADD_I64 (R131). ADD.I64 writes ra + rb modulo 2^64 to rd. -/
  | addI64 (t : Fin 512) (b : BitVec 54)
  /-- SUB_I64 (R131). SUB.I64 writes ra − rb modulo 2^64 to rd. -/
  | subI64 (t : Fin 512) (b : BitVec 54)
  /-- AND_I64 (R131). AND.I64 writes the bitwise AND of ra and rb to rd. -/
  | andI64 (t : Fin 512) (b : BitVec 54)
  /-- OR_I64 (R131). OR.I64 writes the bitwise OR of ra and rb to rd. -/
  | orI64 (t : Fin 512) (b : BitVec 54)
  /-- XOR_I64 (R131). XOR.I64 writes the bitwise XOR of ra and rb to rd. -/
  | xorI64 (t : Fin 512) (b : BitVec 54)
  /-- SHL_I64 (R131). SHL.I64 shifts ra left by rb[5:0]. -/
  | shlI64 (t : Fin 512) (b : BitVec 54)
  /-- SHR_I64 (R131). SHR.I64 shifts ra right by rb[5:0], filling with zeros. -/
  | shrI64 (t : Fin 512) (b : BitVec 54)
  /-- SAR_I64 (R131). SAR.I64 shifts ra right by rb[5:0], filling with the sign bit. -/
  | sarI64 (t : Fin 512) (b : BitVec 54)
  /-- MUL_I64 (R131). MUL.I64 writes the low 64 bits of ra × rb. -/
  | mulI64 (t : Fin 512) (b : BitVec 54)
  /-- MULHU_I64 (R131). MULHU.I64 writes the high 64 bits of the unsigned product. -/
  | mulhuI64 (t : Fin 512) (b : BitVec 54)
  /-- DIVU_I64 (R133). DIVU.I64 writes the unsigned quotient over 20 T-cycles, or all ones for a zero divisor. -/
  | divuI64 (t : Fin 512) (b : BitVec 54)
  /-- REMU_I64 (R133). REMU.I64 writes the unsigned remainder, or ra for a zero divisor. -/
  | remuI64 (t : Fin 512) (b : BitVec 54)
  /-- MIN_I64 (R131). MIN.I64 writes the signed minimum of ra and rb. -/
  | minI64 (t : Fin 512) (b : BitVec 54)
  /-- MAX_I64 (R131). MAX.I64 writes the signed maximum of ra and rb. -/
  | maxI64 (t : Fin 512) (b : BitVec 54)
  /-- MINU_I64 (R131). MINU.I64 writes the unsigned minimum of ra and rb. -/
  | minuI64 (t : Fin 512) (b : BitVec 54)
  /-- MAXU_I64 (R131). MAXU.I64 writes the unsigned maximum of ra and rb. -/
  | maxuI64 (t : Fin 512) (b : BitVec 54)
  /-- CLZ_I64 (R131). CLZ.I64 writes the count of leading zeros of ra. -/
  | clzI64 (t : Fin 512) (b : BitVec 54)
  /-- POPC_I64 (R131). POPC.I64 writes the population count of ra. -/
  | popcI64 (t : Fin 512) (b : BitVec 54)
  /-- SEL_I64 (R131). SEL.I64 writes ra when bit 0 of p[PD] is 1, and rb otherwise. -/
  | selI64 (t : Fin 512) (b : BitVec 54)
  /-- CMP_EQ (R130). CMP.EQ sets all bits of p[PD] when ra equals rb, and clears them otherwise. -/
  | cmpEq (t : Fin 512) (b : BitVec 54)
  /-- CMP_NE (R130). CMP.NE sets all bits of p[PD] when ra differs from rb. -/
  | cmpNe (t : Fin 512) (b : BitVec 54)
  /-- CMP_LT (R130). CMP.LT sets all bits of p[PD] when ra is less than rb, signed. -/
  | cmpLt (t : Fin 512) (b : BitVec 54)
  /-- CMP_LTU (R130). CMP.LTU sets all bits of p[PD] when ra is less than rb, unsigned. -/
  | cmpLtu (t : Fin 512) (b : BitVec 54)
  /-- CMP_GE (R130). CMP.GE sets all bits of p[PD] when ra is at least rb, signed. -/
  | cmpGe (t : Fin 512) (b : BitVec 54)
  /-- CMP_GEU (R130). CMP.GEU sets all bits of p[PD] when ra is at least rb, unsigned. -/
  | cmpGeu (t : Fin 512) (b : BitVec 54)
  /-- ADDI_I64 (R131). ADDI.I64 adds the sign-extended immediate to ra. -/
  | addiI64 (t : Fin 512) (b : BitVec 54)
  /-- ANDI_I64 (R131). ANDI.I64 ANDs ra with the sign-extended immediate. -/
  | andiI64 (t : Fin 512) (b : BitVec 54)
  /-- ORI_I64 (R131). ORI.I64 ORs ra with the sign-extended immediate. -/
  | oriI64 (t : Fin 512) (b : BitVec 54)
  /-- XORI_I64 (R131). XORI.I64 XORs ra with the sign-extended immediate. -/
  | xoriI64 (t : Fin 512) (b : BitVec 54)
  /-- SHLI_I64 (R131). SHLI.I64 shifts ra left by IMM[5:0]. -/
  | shliI64 (t : Fin 512) (b : BitVec 54)
  /-- SHRI_I64 (R131). SHRI.I64 shifts ra right by IMM[5:0], filling with zeros. -/
  | shriI64 (t : Fin 512) (b : BitVec 54)
  /-- SARI_I64 (R131). SARI.I64 shifts ra right by IMM[5:0], filling with the sign bit. -/
  | sariI64 (t : Fin 512) (b : BitVec 54)
  /-- LDI_I64 (R131). LDI.I64 loads the sign-extended immediate into rd. -/
  | ldiI64 (t : Fin 512) (b : BitVec 54)
  /-- LDIH_I64 (R131). LDIH.I64 writes the immediate to rd[63:32] and keeps rd[31:0]. -/
  | ldihI64 (t : Fin 512) (b : BitVec 54)
  /-- CMPI_EQ (R130). CMPI.EQ sets p[PD] when ra equals the sign-extended immediate. -/
  | cmpiEq (t : Fin 512) (b : BitVec 54)
  /-- CMPI_LT (R130). CMPI.LT sets p[PD] when ra is less than the immediate, signed. -/
  | cmpiLt (t : Fin 512) (b : BitVec 54)
  /-- CMPI_GE (R130). CMPI.GE sets p[PD] when ra is at least the immediate, signed. -/
  | cmpiGe (t : Fin 512) (b : BitVec 54)
  /-- LD_U8 (R134). LD.U8 issues a zero-extended byte load from local SRAM or the sheaf store. -/
  | ldU8 (t : Fin 512) (b : BitVec 54)
  /-- LD_U16 (R134). LD.U16 issues a zero-extended 16-bit load. -/
  | ldU16 (t : Fin 512) (b : BitVec 54)
  /-- LD_U32 (R134). LD.U32 issues a zero-extended 32-bit load. -/
  | ldU32 (t : Fin 512) (b : BitVec 54)
  /-- LD_64 (R134). LD.64 issues a 64-bit load. -/
  | ld64 (t : Fin 512) (b : BitVec 54)
  /-- ST_8 (R134). ST.8 stores the low byte of the RD register. -/
  | st8 (t : Fin 512) (b : BitVec 54)
  /-- ST_16 (R134). ST.16 stores the low 16 bits of the RD register. -/
  | st16 (t : Fin 512) (b : BitVec 54)
  /-- ST_32 (R134). ST.32 stores the low 32 bits of the RD register. -/
  | st32 (t : Fin 512) (b : BitVec 54)
  /-- ST_64 (R134). ST.64 stores the 64-bit RD register. -/
  | st64 (t : Fin 512) (b : BitVec 54)
  /-- AMO_ADD (R81). AMO.ADD atomically adds rb to a sheaf-store word and returns the old word. -/
  | amoAdd (t : Fin 512) (b : BitVec 54)
  /-- AMO_SWAP (R81). AMO.SWAP atomically replaces a sheaf-store word with rb and returns the old word. -/
  | amoSwap (t : Fin 512) (b : BitVec 54)
  /-- AMO_CAS (R81). AMO.CAS atomically writes rd when the old word equals rb, and returns the old word. -/
  | amoCas (t : Fin 512) (b : BitVec 54)
  /-- LOAD_DATA_RETURN (R80). The data of an issued scalar, vector or accumulator load returns, or a parity error raises MEMORY. -/
  | loadDataReturn (t : Fin 512) (i : Nat)
  /-- BR_EQ (R135). BR.EQ branches when ra equals rb. -/
  | brEq (t : Fin 512) (b : BitVec 54)
  /-- BR_NE (R135). BR.NE branches when ra differs from rb. -/
  | brNe (t : Fin 512) (b : BitVec 54)
  /-- BR_LT (R135). BR.LT branches when ra is less than rb, signed. -/
  | brLt (t : Fin 512) (b : BitVec 54)
  /-- BR_GE (R135). BR.GE branches when ra is at least rb, signed. -/
  | brGe (t : Fin 512) (b : BitVec 54)
  /-- BR_LTU (R135). BR.LTU branches when ra is less than rb, unsigned. -/
  | brLtu (t : Fin 512) (b : BitVec 54)
  /-- BR_GEU (R135). BR.GEU branches when ra is at least rb, unsigned. -/
  | brGeu (t : Fin 512) (b : BitVec 54)
  /-- BR_P (R135). BR.P branches when bit 0 of p[PS] is 1. -/
  | brP (t : Fin 512) (b : BitVec 54)
  /-- JMP (R136). JMP always branches to PC + 8 × OFFSET. -/
  | jmp (t : Fin 512) (b : BitVec 54)
  /-- JAL (R136). JAL writes PC + 8 to s[RA] and always branches. -/
  | jal (t : Fin 512) (b : BitVec 54)
  /-- JR (R136). JR jumps to the address held in s[RA]. -/
  | jr (t : Fin 512) (b : BitVec 54)
  /-- CODE_END_REACHED (R693). Execution that runs past the last instruction of the code area raises a precise ADDRESS exception at that address. -/
  | codeEndReached (t : Fin 512)
  /-- P_AND (R130). P.AND writes p[RA] AND p[RB] to p[PD]. -/
  | pAnd (t : Fin 512) (b : BitVec 54)
  /-- P_OR (R130). P.OR writes p[RA] OR p[RB] to p[PD]. -/
  | pOr (t : Fin 512) (b : BitVec 54)
  /-- P_XOR (R130). P.XOR writes p[RA] XOR p[RB] to p[PD]. -/
  | pXor (t : Fin 512) (b : BitVec 54)
  /-- P_NOT (R130). P.NOT writes the complement of p[RA] to p[PD]. -/
  | pNot (t : Fin 512) (b : BitVec 54)
  /-- P_MASK (R130). P.MASK sets bit k of p[PD] for each k below s[RB]. -/
  | pMask (t : Fin 512) (b : BitVec 54)
  /-- P_CNT (R130). P.CNT writes the number of bits set in p[RA] to rd. -/
  | pCnt (t : Fin 512) (b : BitVec 54)
  /-- VADD (R128). VADD adds VA and VB lane by lane under the guard. -/
  | vadd (t : Fin 512) (b : BitVec 54)
  /-- VSUB (R128). VSUB subtracts VB from VA lane by lane. -/
  | vsub (t : Fin 512) (b : BitVec 54)
  /-- VMUL (R128). VMUL multiplies VA by VB lane by lane. -/
  | vmul (t : Fin 512) (b : BitVec 54)
  /-- VFMA (R87). VFMA computes VA × VB + VC with one rounding in each lane. -/
  | vfma (t : Fin 512) (b : BitVec 54)
  /-- VMAX (R128). VMAX writes the exact maximum of each lane, ordering −0 below +0. -/
  | vmax (t : Fin 512) (b : BitVec 54)
  /-- VMIN (R128). VMIN writes the exact minimum of each lane. -/
  | vmin (t : Fin 512) (b : BitVec 54)
  /-- VABS (R128). VABS clears the sign of each lane. -/
  | vabs (t : Fin 512) (b : BitVec 54)
  /-- VNEG (R128). VNEG inverts the sign of each lane. -/
  | vneg (t : Fin 512) (b : BitVec 54)
  /-- VAND (R128). VAND writes the bitwise AND of each I32 lane. -/
  | vand (t : Fin 512) (b : BitVec 54)
  /-- VOR (R128). VOR writes the bitwise OR of each I32 lane. -/
  | vor (t : Fin 512) (b : BitVec 54)
  /-- VXOR (R128). VXOR writes the bitwise XOR of each I32 lane. -/
  | vxor (t : Fin 512) (b : BitVec 54)
  /-- VSHL (R128). VSHL shifts each lane left by s[RS][4:0]. -/
  | vshl (t : Fin 512) (b : BitVec 54)
  /-- VSHR (R128). VSHR shifts each lane right by s[RS][4:0], filling with zeros. -/
  | vshr (t : Fin 512) (b : BitVec 54)
  /-- VSEL (R128). VSEL selects VA or VB in each lane by p[PD]. -/
  | vsel (t : Fin 512) (b : BitVec 54)
  /-- VBCAST (R128). VBCAST copies s[RS][31:0] into every lane. -/
  | vbcast (t : Fin 512) (b : BitVec 54)
  /-- VLANE (R128). VLANE copies lane s[RS] mod 128 of VA into every lane. -/
  | vlane (t : Fin 512) (b : BitVec 54)
  /-- VPERM (R128). VPERM permutes VA by the lane indices in VB. -/
  | vperm (t : Fin 512) (b : BitVec 54)
  /-- VIOTA (R128). VIOTA writes s[RS] + k to each lane k. -/
  | viota (t : Fin 512) (b : BitVec 54)
  /-- VCMP_EQ (R128). VCMP.EQ sets bit k of p[PD] when VA[k] equals VB[k]. -/
  | vcmpEq (t : Fin 512) (b : BitVec 54)
  /-- VCMP_LT (R128). VCMP.LT sets bit k of p[PD] when VA[k] is less than VB[k]. -/
  | vcmpLt (t : Fin 512) (b : BitVec 54)
  /-- VCMP_LE (R128). VCMP.LE sets bit k of p[PD] when VA[k] is at most VB[k]. -/
  | vcmpLe (t : Fin 512) (b : BitVec 54)
  /-- VCVT (R137). VCVT converts 128 elements between formats, narrowing or widening into the selected half. -/
  | vcvt (t : Fin 512) (b : BitVec 54)
  /-- VEXP (R95). VEXP computes eˣ in each lane. -/
  | vexp (t : Fin 512) (b : BitVec 54)
  /-- VLN (R95). VLN computes the natural logarithm in each lane. -/
  | vln (t : Fin 512) (b : BitVec 54)
  /-- VRCP (R95). VRCP computes the reciprocal in each lane. -/
  | vrcp (t : Fin 512) (b : BitVec 54)
  /-- VRSUM (R96). VRSUM writes the pairwise-tree sum of the active lanes to s[RS]. -/
  | vrsum (t : Fin 512) (b : BitVec 54)
  /-- VRMAX (R96). VRMAX writes the maximum of the active lanes to s[RS]. -/
  | vrmax (t : Fin 512) (b : BitVec 54)
  /-- VRNG (R138). VRNG computes the sampling draw of R105 for each lane's candidate. -/
  | vrng (t : Fin 512) (b : BitVec 54)
  /-- VQMX (R139). VQMX quantises four 32-lane blocks to an MX format and writes their scales. -/
  | vqmx (t : Fin 512) (b : BitVec 54)
  /-- VKV4E (R140). VKV4E encodes one KV4 slot and marks the elements recorded as outliers in p[PD]. -/
  | vkv4e (t : Fin 512) (b : BitVec 54)
  /-- VKV4D (R141). VKV4D decodes KV4 codes into FP32 lanes without applying outliers. -/
  | vkv4d (t : Fin 512) (b : BitVec 54)
  /-- VLDACC (R128). VLDACC copies four rows of an accumulator tile into a v register. -/
  | vldacc (t : Fin 512) (b : BitVec 54)
  /-- VLD (R142). VLD issues a 512-byte load into a v register. -/
  | vld (t : Fin 512) (b : BitVec 54)
  /-- VST (R142). VST stores the active lanes of VA. -/
  | vst (t : Fin 512) (b : BitVec 54)
  /-- VLD_B32 (R142). VLD.B32 loads one 32-bit word into every lane. -/
  | vldB32 (t : Fin 512) (b : BitVec 54)
  /-- MMA_TILE (R88). MMA.TILE accumulates A × B over NB k-blocks into an accumulator tile. -/
  | mmaTile (t : Fin 512) (b : BitVec 54)
  /-- ARRAY_COMPLETE (R131). An array instruction finishes its duration, freeing its tile and the array. -/
  | arrayComplete (t : Fin 512) (i : Nat)
  /-- ACC_CLR (R132). ACC.CLR sets an accumulator tile to +0. -/
  | accClr (t : Fin 512) (b : BitVec 54)
  /-- ACC_LD (R145). ACC.LD loads 4 KiB into an accumulator tile. -/
  | accLd (t : Fin 512) (b : BitVec 54)
  /-- ACC_ST (R145). ACC.ST stores an accumulator tile as 4 KiB. -/
  | accSt (t : Fin 512) (b : BitVec 54)
  /-- MOV_CPY (R146). MOV.CPY queues a block copy in the move pipe. -/
  | movCpy (t : Fin 512) (b : BitVec 54)
  /-- MOV_FILL (R146). MOV.FILL queues a fill with a 64-bit pattern in the move pipe. -/
  | movFill (t : Fin 512) (b : BitVec 54)
  /-- MOVE_COMPLETE (R148). A move finishes writing its last byte, or stops at a line that fails its check with a MEMORY exception. -/
  | moveComplete (t : Fin 512)
  /-- CTX_RD (R173). CTX.RD reads one descriptor word of a context. -/
  | ctxRd (t : Fin 512) (b : BitVec 54)
  /-- CTX_STEP (R284). CTX.STEP returns the first position that the context's work in the step produces, and the step number. -/
  | ctxStep (t : Fin 512) (b : BitVec 54)
  /-- CTX_BIND (R315). CTX.BIND loads the tiller's stop matcher from the context's stop record and log. -/
  | ctxBind (t : Fin 512) (b : BitVec 54)
  /-- CTX_EMIT (R149). CTX.EMIT offers a token for the step and returns the stop-condition reason. -/
  | ctxEmit (t : Fin 512) (b : BitVec 54)
  /-- CTX_SPAN (R195). CTX.SPAN walks the span page table to translate a byte offset, backing a page when asked. -/
  | ctxSpan (t : Fin 512) (b : BitVec 54)
  /-- COPY_ON_WRITE_DONE (R197). A copy on write ends its COPY sequence or move, writes the new PTE and releases one reference of the old frame. -/
  | copyOnWriteDone (k : Nat)
  /-- CTX_HOLD (R311). CTX.HOLD asks the scheduler to hold a context out of steps with a reason. -/
  | ctxHold (t : Fin 512) (b : BitVec 54)
  /-- CONTEXT_ANSWER (R151). The answer to a context instruction arrives, writing rd or raising CONTEXT. -/
  | contextAnswer (t : Fin 512) (i : Nat)
  /-- BNK_STROKE (R153). BNK.STROKE sends a stroke command to a stack's engine. -/
  | bnkStroke (t : Fin 512) (b : BitVec 54)
  /-- FAB_PUT (R451). FAB.PUT writes local data to a remote region as part of a message. -/
  | fabPut (t : Fin 512) (b : BitVec 54)
  /-- FAB_PUTF (R452). FAB.PUTF sends the flagged final write of a message. -/
  | fabPutf (t : Fin 512) (b : BitVec 54)
  /-- FAB_GET (R460). FAB.GET requests a remote region's bytes into local memory. -/
  | fabGet (t : Fin 512) (b : BitVec 54)
  /-- FAB_SEND (R461). FAB.SEND sends a control message to a consumer. -/
  | fabSend (t : Fin 512) (b : BitVec 54)
  /-- ROW_GET (R379). ROW.GET sends a row lookup to the hinted member or the shard home. -/
  | rowGet (t : Fin 512) (b : BitVec 54)
  /-- ROW_UPD (R381). ROW.UPD sends a keyed row update to the row's home. -/
  | rowUpd (t : Fin 512) (b : BitVec 54)
  /-- SYNC_FENCE (R158). SYNC.FENCE waits until earlier accesses to the named spaces are complete and visible. -/
  | syncFence (t : Fin 512) (b : BitVec 54)
  /-- SYNC_REG (R158). SYNC.REG waits until s[RA] awaits no write. -/
  | syncReg (t : Fin 512) (b : BitVec 54)
  /-- SYNC_ARR (R158). SYNC.ARR waits until at most IMM array instructions are incomplete. -/
  | syncArr (t : Fin 512) (b : BitVec 54)
  /-- SYNC_MOV (R158). SYNC.MOV waits until at most IMM moves are incomplete. -/
  | syncMov (t : Fin 512) (b : BitVec 54)
  /-- SYNC_BAR (R159). SYNC.BAR arrives at a sheaf barrier and is released 8 S-cycles after the last arrival. -/
  | syncBar (t : Fin 512) (b : BitVec 54)
  /-- WI_PUSH (R111). WI.PUSH pushes a work item onto the tiller's deque or the sheaf's overflow queue. -/
  | wiPush (t : Fin 512) (b : BitVec 54)
  /-- PUSH_STALL_DONE (R111). A stalled push completes in the first S-cycle in which the deque or the overflow queue has room. -/
  | pushStallDone (t : Fin 512)
  /-- WI_END (R160). WI.END ends the item with a status once every pipe has drained, and the tiller takes its next item. -/
  | wiEnd (t : Fin 512) (b : BitVec 54)
  /-- NOP (R131). NOP does nothing for one cycle. -/
  | nop (t : Fin 512) (b : BitVec 54)
  /-- SYS_ID (R124). SYS.ID returns TIL_ID, the T-cycle count, the global time or TIL_FPSTAT. -/
  | sysId (t : Fin 512) (b : BitVec 54)
  /-- SYS_TRAP (R166). SYS.TRAP raises a TRAP exception with a code. -/
  | sysTrap (t : Fin 512) (b : BitVec 54)
  /-- EXCEPTION_DELIVERY (R167). Once every issued instruction has completed, the tiller writes the exception record, reports the item as faulted and takes its next item. -/
  | exceptionDelivery (t : Fin 512)
  /-- ITEM_TIMEOUT (R310). A running item that exceeds SCH_ITEM_LIMIT ends by a TIMEOUT exception. -/
  | itemTimeout (t : Fin 512)
  /-- ITEM_DISPATCH (R110). A sheaf dispatcher places an item it receives on the least-loaded deque or on the overflow queue. -/
  | itemDispatch (sh : Fin 32)
  /-- DISPATCH_HELD_PLACE (R110). An item held by a full sheaf is placed in the first S-cycle in which a deque or the overflow queue has room. -/
  | dispatchHeldPlace (sh : Fin 32)
  /-- ITEM_TAKE (R112). An idle tiller takes an item from its own deque or the overflow queue, or starts a steal. -/
  | itemTake (t : Fin 512)
  /-- STEAL (R113). A steal takes the tail item of a victim deque, or the oldest overflow item, after its cycles. -/
  | steal (t : Fin 512)
  /-- ITEM_START (R161). A tiller starts an item with cleared registers and begins at ENTRY. -/
  | itemStart (t : Fin 512)
  /-- IMAGE_LOAD (R163). The dispatcher's load of a partition image into a tiller completes, with one reload after a failed line. -/
  | imageLoad (t : Fin 512)
  /-- STROKE_COMMAND_CHECK (R244). A stroke command that reaches the engine is checked, and is rejected with a status or queued. -/
  | strokeCommandCheck (k : Nat)
  /-- STROKE_QUEUE_ENTRY (R245). A BNK.STROKE held by a full queue takes a queue place when one frees. -/
  | strokeQueueEntry (st : Fin 8)
  /-- STROKE_START (R241). The engine plans the next stroke of the running sequence and starts it on all 512 banks. -/
  | strokeStart (st : Fin 8)
  /-- STROKE_END (R246). A stroke ends on every bank; owed refreshes run, or the next stroke or sequence starts. -/
  | strokeEnd (st : Fin 8)
  /-- ROW_STEP_END (R251). A bank ends a row step and reaches a yield point. -/
  | rowStepEnd (st : Fin 8) (bank : Fin 512)
  /-- OUTSIDE_ACCESS (R252). A load, store, move, fabric, host or lattice access reaches a bank and is served, or waits for a yield point. -/
  | outsideAccess (a : OAccess)
  /-- REFRESH_DUE (R257). A stack's refresh interval expires, and the refresh is performed or owed. -/
  | refreshDue (st : Fin 8)
  /-- REFRESH_END (R257). A 160 M-cycle refresh of all banks of a stack ends. -/
  | refreshEnd (st : Fin 8)
  /-- ATTENTION_REQUEST (R270). The front end checks an inbox slot whose completion is raised and pushes attention items, or replies with a refusal. -/
  | attentionRequest (slot : Nat)
  /-- ATTENTION_ITEMS_END (R272). When every attention item of a request has ended, the front end writes the reply header and advances the progress word. -/
  | attentionItemsEnd (slot : Nat)
  /-- STEP_FORMATION (R296). A half forms a partition's next step: modifications, deadline tests, preemption, admission, batch record and start items. -/
  | stepFormation (h : Fin 2) (p : Fin 8)
  /-- COMMIT_POINT (R292). Three C-cycles after a step's work has ended, the control island commits every context of the step and makes the commit writes. -/
  | commitPoint (h : Fin 2) (p : Fin 8)
  /-- PREEMPT (R326). The PREEMPT command holds a context and preempts it at formation. -/
  | preempt (h : Fin 2)
  /-- RESUME (R326). The RESUME command clears the hold and resumes a PREEMPTED context. -/
  | resume (h : Fin 2)
  /-- SWAP_OUT (R326). The SWAP_OUT command starts the swap-out of a PREEMPTED context regardless of FRAME_LOW. -/
  | swapOut (h : Fin 2)
  /-- SWAP_IN (R326). The SWAP_IN command starts the swap-in of a SWAPPED context when the half has the frames. -/
  | swapIn (h : Fin 2)
  /-- RELEASE (R326). The RELEASE command clears PEND.HELD of a context. -/
  | release (h : Fin 2)
  /-- SCH_PART_CTL (R283). A write to a partition's control is checked for overlap and applied at the commit point of steps in progress. -/
  | schPartCtl (p : Fin 8) (val : Word)
  /-- SCH_RATIO (R334). A write to SCH_RATIO clamps its fields and restarts the ratio controller at the next formation. -/
  | schRatio (p : Fin 8) (val : Word)
  /-- PREFILL_TO_READY (R184). A PREFILL context whose KV, import and hidden-state conditions are all met moves to READY and publishes when asked. -/
  | prefillToReady (c : Fin 262144)
  /-- PROMPT_PART_DONE (R183). On a PROMPT member, a context whose prefill and exports are complete enters DRAINING FINISHED_LENGTH. -/
  | promptPartDone (c : Fin 262144)
  /-- CONTEXT_CLOSE (R183). A DRAINING context with no outstanding work and finished publication becomes CLOSED and releases its resources. -/
  | contextClose (c : Fin 262144)
  /-- CONTEXT_RELEASE (R565). A context released after a twin takeover becomes CLOSED with no record once no work names it. -/
  | contextRelease (c : Fin 262144)
  /-- ATTACHMENT_END (R205). A prefix attachment ends and writes KV_VALID, SHARED_LEN and PFX_NODE in one change. -/
  | attachmentEnd (c : Fin 262144)
  /-- PUBLICATION_END (R208). A publication of a context's blocks into the prefix tree ends. -/
  | publicationEnd (c : Fin 262144)
  /-- PFX_INVAL (R213). A write with GO starts, or queues, the invalidation of a namespace. -/
  | pfxInval (h : Fin 2) (val : Word)
  /-- INVALIDATION_END (R218). A namespace invalidation ends, and any queued invalidation starts. -/
  | invalidationEnd (h : Fin 2)
  /-- CTX_PEEK_SEL (R216). A write to CTX_PEEK_SEL snapshots the selected descriptor in one C-cycle. -/
  | ctxPeekSel (h : Fin 2) (val : Word)
  /-- SWAP_OUT_DONE (R199). A swap-out ends its page moves and takes the context to SWAPPED. -/
  | swapOutDone (c : Fin 262144)
  /-- SWAP_IN_DONE (R199). A swap-in ends its moves and attachment and takes the context to its RESUME state or REBUILD. -/
  | swapInDone (c : Fin 262144)
  /-- FRAME_MOVE_DONE (R346). The copy of one frame between tiers ends, the PTE or frame-list entry is rewritten and the old frame is released. -/
  | frameMoveDone (k : Nat)
  /-- ALLOC (R350). The ALLOC command allocates zeroed frames for a tier object. -/
  | alloc
  /-- FREE (R350). The FREE command frees a tier object and its frames. -/
  | freeObj
  /-- MOVE (R350). The MOVE command moves a tier object's frames to another tier or stack. -/
  | moveObj
  /-- GATHER (R350). The GATHER command moves each stream pair of a PREEMPTED context into one stack. -/
  | gather
  /-- TRANSFER (R351). The TRANSFER command exports a PREEMPTED context's pages to a peer and ends the source on completion. -/
  | transfer
  /-- RECLAIM (R354). While a half's pool is below its low mark, the device evicts nodes, demotes objects or evicts contexts, oldest first. -/
  | reclaim (h : Fin 2)
  /-- SLOW_TIER_RECLAIM (R355). While the host or flash pool is below its mark, the device evicts SWAPPED contexts or demotes objects. -/
  | slowTierReclaim (flash : Bool)
  /-- TIE_WIN_CTL (R360). A write to a window's control enables it, refusing frames outside the pool, or disables it at the partition's commit. -/
  | tieWinCtl (w : Fin 8) (val : Word)
  /-- WINDOW_FILL_DONE (R361). A layer fill into a window slot ends; the slot becomes READY and the next eligible fill begins. -/
  | windowFillDone (w : Fin 8)
  /-- ROW_REQUEST_GET (R382). The home checks and serves a row lookup from a shadow, the cache or the home slot. -/
  | rowRequestGet (k : Nat)
  /-- ROW_REQUEST_UPD (R388). The home checks a row update and stages it, logs it or refuses it. -/
  | rowRequestUpd (k : Nat)
  /-- ROW_ANSWER (R379). A row answer arrives; the device follows a FORWARD or REDIRECT, makes its second attempt, or writes rd. -/
  | rowAnswer (id : Nat) (a : RowAns)
  /-- ROW_RESEND (R381). 50 µs after STAGE_FULL, the device resends the update with the same key. -/
  | rowResend (id : Nat)
  /-- APPLY_TIMER (R390). When the APPLY partition has been idle for 1 ms, the home makes an apply point. -/
  | applyTimer (p : Fin 8)
  /-- ROW_CREATE (R373). The CREATE command checks a staged descriptor and creates a table. -/
  | rowCreate
  /-- ROW_DESTROY (R399). The DESTROY command closes a table and frees it once its requests and migrations end. -/
  | rowDestroy
  /-- ROW_MIGRATE (R393). The MIGRATE command starts moving a row's home within the device or to another member. -/
  | rowMigrate
  /-- ROW_RESET_HISTORY (R399). The RESET_HISTORY command sets OBS and every FREQ of a table to 0. -/
  | rowResetHistory
  /-- MIGRATION_ROW_RECEIVE (R394). The destination receives a migrating row and takes a slot and an INBOUND entry. -/
  | migrationRowReceive (m : MigMsg)
  /-- MIGRATION_REPLAY (R394). The destination stages replayed logged updates under their original keys. -/
  | migrationReplay (m : MigMsg)
  /-- MIGRATION_SWITCH (R394). When the log is found empty, the old home sets its entry REMOTE and frees the log. -/
  | migrationSwitch (log : Fin 256)
  /-- MIGRATION_HOME_UPDATE (R394). The shard home records the row's new home in one write and acknowledges. -/
  | migrationHomeUpdate (m : MigMsg)
  /-- MIGRATION_ACTIVATION (R394). The destination writes LOCAL with the new version and serves waiting requests. -/
  | migrationActivation (m : MigMsg)
  /-- MIGRATION_ABORT (R395). A migration whose destination refuses or does not answer ends before the switch and stages its log locally. -/
  | migrationAbort (log : Fin 256) (refused : Bool)
  /-- FLASH_MOUNT_DONE (R415). A flash mount ends after root, segments and journal replay, or a format, and the tier becomes MOUNTED or FAILED. -/
  | flashMountDone (o : MountObs)
  /-- JOURNAL_PAGE_PROGRAM (R412). A flash journal page is programmed when full or FLUSH_US after its first entry. -/
  | journalPageProgram (h : Fin 2)
  /-- CHECKPOINT_TIMER (R414). Every INTERVAL_S, or at JOURNAL_MAX journal pages, a half runs a map checkpoint. -/
  | checkpointTimer (h : Fin 2)
  /-- UNIT_READ_DONE (R406). A flash unit read completes and is decoded, retried at read-retry levels, or found uncorrectable. -/
  | unitReadDone (k worst total : Nat) (goodLevel : Option Nat)
  /-- UNIT_PROGRAM_DONE (R413). A unit program completes, or its status fail reprograms it elsewhere and retires the block. -/
  | unitProgramDone (k : Nat) (ok : Bool)
  /-- BLOCK_ERASE_DONE (R427). A block erase completes, or its status fail retires the block. -/
  | blockEraseDone (k : Nat) (ok : Bool)
  /-- TARGET_TIMEOUT (R427). A target that fails to complete within 10 ms three times in a row becomes FAILED. -/
  | targetTimeout (ch : Fin 16) (tgt : Fin 16)
  /-- FLASH_RECLAIM (R419). When a channel's free blocks fall below FREE_LOW, it relocates the highest-scoring block and erases it. -/
  | flashReclaim (ch : Fin 16)
  /-- BLOCK_REFRESH (R423). A block queued for refresh has its valid units relocated and is erased. -/
  | blockRefresh (ch : Fin 16)
  /-- PATROL (R424). The patrol reads one page of each closed block once in each PATROL_HOURS. -/
  | patrol (ch : Fin 16) (worst total : Nat) (goodLevel : Option Nat)
  /-- FLS_CHECKPOINT (R414). The CHECKPOINT command runs a checkpoint now. -/
  | flsCheckpoint
  /-- FLS_PATROL (R424). The PATROL command runs a full patrol pass now. -/
  | flsPatrol
  /-- FLS_RETIRE (R431). The RETIRE command retires the named block as a program fail. -/
  | flsRetire
  /-- FLS_FORMAT (R431). The FORMAT command formats the media, keeping erase counts. -/
  | flsFormat
  /-- FLS_SHUTDOWN (R418). The SHUTDOWN command checkpoints and writes a clean mark. -/
  | flsShutdown
  /-- FLS_HLOG_SNAP (R429). A write of GO copies the health log into FLS_HLOG0–63 as one snapshot. -/
  | flsHlogSnap (val : Word)
  /-- PUT (R453). A received PUT segment is checked and placed at its offset, and raises completion when the count reaches TOTAL. -/
  | put (r : Rx)
  /-- GET_REQ (R460). A responder checks a GET_REQ and sends GET_RESP packets or NACK BAD_LINE. -/
  | getReq (r : Rx)
  /-- GET_RESP (R460). A requester places GET_RESP data and completes the GET when every byte is placed. -/
  | getResp (r : Rx)
  /-- SEND (R461). A SEND packet is placed in its consumer's message. -/
  | send (r : Rx)
  /-- ACK (R465). An ACK arrives, acknowledges PSNs, gives RTT samples and counts CE marks. -/
  | ack (r : Rx)
  /-- NACK (R467). A NACK ends its packet with its status, or schedules an RNR retry. -/
  | nack (r : Rx)
  /-- DONE (R457). A DONE arrives and the PUTF or SEND of its message writes rd. -/
  | doneMsg (r : Rx)
  /-- ABORT (R459). An ABORT frees the message entry without completion. -/
  | abortMsg (r : Rx)
  /-- PROBE (R442). A PROBE resets RX_PSN for the sender and is answered with PROBE_REPLY. -/
  | probe (r : Rx)
  /-- PROBE_REPLY (R468). A PROBE_REPLY sets the peer UP and lets its transfers proceed. -/
  | probeReply (r : Rx)
  /-- FRAME_RECEIVE (R434). A received frame that the device does not consume goes to the host receive ring or is dropped. -/
  | frameReceive (f : RxFrame)
  /-- IMPORT_DONE (R462). An IMPORT_DONE message sets KV_VALID and IMPORT_DONE, and is forwarded to the owner. -/
  | importDone
  /-- CANCEL_MESSAGE (R462). A context-service CANCEL applies a cancel and answers with REPORT. -/
  | cancelMessage
  /-- REPORT (R462). A REPORT with a record code cancels the owner context. -/
  | report
  /-- HIDDEN_DONE (R462). A HIDDEN_DONE message sets PEND.HIDDEN_DONE of a PREFILL context. -/
  | hiddenDone
  /-- IMPORT_KEYED (R462). An IMPORT_KEYED message acts as IMPORT_DONE for the context bound to a SPAN region key. -/
  | importKeyed
  /-- ACK_TIMER (R464). ACK_DELAY_NS after the oldest unacknowledged packet, the receiver sends an ACK. -/
  | ackTimer (peer : Nat)
  /-- REORDER_TIMER (R465). REO_NS after a later packet's acknowledgement, an unacknowledged packet is declared lost and resent. -/
  | reorderTimer (peer psn : Nat)
  /-- RETRANSMIT_TIMEOUT (R466). A packet's retransmission timer expires; the packet is resent, the rate halved, or the peer set DOWN. -/
  | retransmitTimeout (peer psn : Nat)
  /-- RNR_RETRY (R467). RNR_US after a NO_RESOURCE NACK, the packet is sent again. -/
  | rnrRetry (peer psn : Nat)
  /-- GET_TIMEOUT (R460). A GET not fully placed within GET_MS ends TIMEOUT. -/
  | getTimeout (tag : Nat)
  /-- DONE_HOLD_END (R454). A completed message entry is freed when DONE_HOLD_MS expires. -/
  | doneHoldEnd (k : Nat)
  /-- MESSAGE_IDLE (R459). A message entry that has received nothing for MSG_IDLE_MS is freed without completion. -/
  | messageIdle (k : Nat)
  /-- PROBE_TIMER (R468). Every PROBE_MS the device sends PROBE on each enabled path of a DOWN peer. -/
  | probeTimer (peer : Nat)
  /-- PATH_HOLD_END (R444). HOLD_US after a path was held off, its OFF bit clears. -/
  | pathHoldEnd (peer : Nat) (path : Fin 16)
  /-- RATE_UPDATE (R469). Every UPDATE_US with acknowledgements, a peer's ALPHA and RATE are updated. -/
  | rateUpdate (peer : Nat)
  /-- PEER_ENABLE (R442). Software's write of STATE 1 to a peer entry initialises its rate state and starts probing. -/
  | peerEnable (peer : Nat)
  /-- FAB_REGISTER (R450). The REGISTER command creates a region with the next generation and pins what it covers. -/
  | fabRegister
  /-- FAB_REVOKE (R472). The REVOKE command sets a region REVOKING in every port cache within 2 µs. -/
  | fabRevoke
  /-- REVOKE_END (R472). When INFLIGHT reaches 0, the revocation frees the region's messages and pins and sets it FREE. -/
  | revokeEnd (idx : Fin 65536)
  /-- FAB_TIME_ADJ (R433). A write to FAB_TIME_ADJ steps the global time base or sets its rate offset. -/
  | fabTimeAdj (val : Word)
  /-- LIMITER_RELEASE (R490). A peer's credit limiter or calendar slot releases its next packet to a path and port queue. -/
  | limiterRelease (peer : Nat)
  /-- WHEEL_SLOT (R491). A 64 ns calendar slot turns and releases the packets placed in it. -/
  | wheelSlot
  /-- FRAME_START (R494). At a frame start, a port chooses a privileged, strict or DRR frame that passes its gate, and sends it. -/
  | frameStart (port : Fin 6)
  /-- LINK_DOWN (R485). A port's LINK leaves UP and every packet queued on it is discarded. -/
  | linkDown (port : Fin 6)
  /-- LINK_UP (R621). A port's training completes and LINK becomes UP. -/
  | linkUp (port : Fin 6)
  /-- RING_POLL (R513). Every POLL C-cycles the lattice engine reads ring heads and takes entries marked 0xFF. -/
  | ringPoll
  /-- LAT_DOORBELL (R513). A write to LAT_DOORBELL makes the engine read the heads of the named rings at once. -/
  | latDoorbell (val : Word)
  /-- LATTICE_LOAD (R529). A member checks and performs a LOAD and returns the lines in a RESP. -/
  | latticeLoad (r : LRx)
  /-- LATTICE_STORE (R521). A member checks and performs a STORE and answers once the lines are visible. -/
  | latticeStore (r : LRx)
  /-- ADD64 (R522). A member performs an atomic 64-bit add and returns the old value. -/
  | add64 (r : LRx)
  /-- SWAP64 (R522). A member performs an atomic 64-bit swap and returns the old value. -/
  | swap64 (r : LRx)
  /-- CAS64 (R522). A member performs an atomic 64-bit compare-and-swap and returns the old value. -/
  | cas64 (r : LRx)
  /-- LATTICE_RESP (R514). A RESP arrives; the engine follows a REDIRECT or writes RESULT and STATUS and pushes an item. -/
  | latticeResp (r : LRx)
  /-- LACK (R519). A LACK with the expected LSN makes the sender resend every unanswered request from it. -/
  | lack (r : LRx)
  /-- LPROBE (R511). An LPROBE is answered with LPROBE_REPLY. -/
  | lprobe (r : LRx)
  /-- LPROBE_REPLY (R531). An LPROBE_REPLY sets the member UP and restarts its ordered streams. -/
  | lprobeReply (r : LRx)
  /-- LPROBE_TIMER (R511). Every PROBE_MS the device sends LPROBE to each enabled member that is not UP. -/
  | lprobeTimer (rank : Fin 64)
  /-- LATTICE_TIMEOUT (R531). A lattice request's RTO_US expires and it is resent, or after RETRY_MAX the member goes DOWN. -/
  | latticeTimeout (tag : Nat)
  /-- DEDUP_EXPIRY (R524). A kept RESP of a combined atomic is dropped after DEDUP_US. -/
  | dedupExpiry (k : Nat)
  /-- LAT_WIN_CTL (R530). A write that enables a lattice window pins the objects it covers, or is refused. -/
  | latWinCtl (n : Fin 16) (val : Word)
  /-- WINDOW_UNPIN (R530). After a window is disabled, its pins are released once requests that passed its check have ended. -/
  | windowUnpin (n : Fin 16)
  /-- APERTURE_READ (R654). A host read of the lattice aperture becomes one LOAD and completes with its data or all ones. -/
  | apertureRead (off len : Nat)
  /-- APERTURE_WRITE (R654). A 64-byte aligned host write to the aperture becomes one STORE. -/
  | apertureWrite (off : Nat) (data : List Byte)
  /-- APERTURE_TIMEOUT (R655). An aperture read with no RESP within TIMEOUT_MS completes with all ones. -/
  | apertureTimeout (tag : Nat)
  /-- CMP_OPEN (R534). The OPEN command opens a composition with an initial epoch. -/
  | cmpOpen
  /-- CMP_STAGE (R534). The STAGE command writes one slot of the staging map. -/
  | cmpStage
  /-- CMP_COMMIT (R534). The COMMIT command makes the staging map current at the next epoch. -/
  | cmpCommit
  /-- CMP_RETIRE (R534). The RETIRE command retires the previous epoch at once. -/
  | cmpRetire
  /-- CMP_CLOSE (R534). The CLOSE command refuses new requests for a composition and closes it when its old count is 0. -/
  | cmpClose
  /-- COMPOSITION_CLOSED (R534). A closing composition whose old count reaches 0 closes. -/
  | compositionClosed (c : Fin 1024)
  /-- EPOCH_RETIRE (R537). The previous epoch retires after the quiet time with no old work, or RETIRE_MS after the commit. -/
  | epochRetire (c : Fin 1024)
  /-- CMP_MTR_SNAP (R542). A write of GO copies all metering counters at one global time. -/
  | cmpMtrSnap (val : Word)
  /-- METER_TICK (R541). Each ms the device adds the stack frames each tenant holds to FRAME_MS. -/
  | meterTick
  /-- HELLO (R557). A received HELLO moves the half's pair state, and may hold it, release contexts or trigger a takeover. -/
  | hello (h : Fin 2) (f : TwinRx)
  /-- HELLO_TIMER (R547). Every HELLO_US each half sends HELLO on its twin link. -/
  | helloTimer (h : Fin 2)
  /-- JOURNAL (R551). A JOURNAL frame's in-order entries are applied to the mirror, groups as one change. -/
  | journal (h : Fin 2) (f : TwinRx)
  /-- JACK (R550). A JACK, or the ACK of any twin frame, advances the acknowledged JSN and releases what waited on it. -/
  | jack (h : Fin 2) (f : TwinRx)
  /-- JACK_TIMER (R551). 10 µs after the oldest unacknowledged entry arrived, the receiver sends a JACK. -/
  | jackTimer (h : Fin 2)
  /-- JOURNAL_RESEND (R550). When no acknowledgement advances for RTO_US, the sender resends entries from the expected JSN. -/
  | journalResend (h : Fin 2)
  /-- TWIN_LINK_LOSS (R557). No twin frame for LINK_US moves the half's pair state to LOST. -/
  | twinLinkLoss (h : Fin 2)
  /-- FETCH (R556). A FETCH is answered with FETCH_DATA holding the mirrored log line, or none. -/
  | fetch (h : Fin 2) (f : TwinRx)
  /-- FETCH_DATA (R181). A fetched log line is written back with a new check, or its absence ends the context FAULTED. -/
  | fetchData (h : Fin 2) (f : TwinRx)
  /-- FETCH_TIMEOUT (R556). With no FETCH_DATA within 100 µs the answer counts as none. -/
  | fetchTimeout (k : Nat)
  /-- VOTE_REQ (R570). The twin's leading half grants or refuses a leadership epoch and records its vote. -/
  | voteReq (h : Fin 2) (f : TwinRx)
  /-- VOTE (R571). A GRANTED vote makes the half lead; a REFUSED vote fences it. -/
  | vote (h : Fin 2) (f : TwinRx)
  /-- VOTE_RETRY (R569). Every 100 µs, and after VOTE_DELAY_US for the non-leader, a half sends VOTE_REQ again. -/
  | voteRetry (h : Fin 2)
  /-- VOTE_TIMEOUT (R571). With no GRANTED within VOTE_US, the half fences. -/
  | voteTimeout (h : Fin 2)
  /-- GIVEUP (R561). A received GIVEUP marks GAVE_UP and, with AUTO_TAKE, starts a takeover. -/
  | giveup (h : Fin 2) (f : TwinRx)
  /-- D2D_LOSS (R568). The die-to-die link is declared lost; each half suspends and starts its vote. -/
  | d2dLoss
  /-- D2D_RETURN (R575). The die-to-die link returns within HOLD_S, and the fenced half resumes as follower. -/
  | d2dReturn
  /-- FENCE_HOLD_END (R575). When HOLD_S ends without the link, the fenced half sends GIVEUP and performs a half reset. -/
  | fenceHoldEnd (h : Fin 2)
  /-- TWN_TAKEOVER (R562). The TAKEOVER command opens local contexts from the mirror of the partner's half and writes the takeover list. -/
  | twnTakeover
  /-- TWN_RESYNC (R557). The RESYNC command moves the half's pair state to SYNCING. -/
  | twnResync
  /-- POISON_TEST (R585). A poisoned frame whose COUNT reaches 0 is filled and checked, then freed, repaired or withheld. -/
  | poisonTest (frame : Nat) (fails : List Nat) (again : Bool)
  /-- ROW_REPAIR (R586). A bank row with two failures in the window is copied to a spare row between strokes. -/
  | rowRepair (st : Fin 8) (bank : Fin 512) (row : Nat)
  /-- INT_SEAL (R580). The SEAL command computes the check of every line of a host-tier object. -/
  | intSeal
  /-- INT_AUDIT (R584). The AUDIT command recounts share-table counts and pins and frees unreferenced frames. -/
  | intAudit
  /-- INT_TEST (R607). The TEST command runs a full test pass on the named tiller now. -/
  | intTest
  /-- INT_SCRUB (R599). The SCRUB command runs a full scrub of the stacks now. -/
  | intScrub
  /-- INT_LOG_BASE (R606). A write to INT_LOG_BASE while logging is off sets the ring and resets HEAD and TAIL. -/
  | intLogBase (val : Word)
  /-- TEST_IDLE (R595). A tiller idle for IDLE_T T-cycles enters TEST and runs its next segment. -/
  | testIdle (t : Fin 512)
  /-- TEST_SEGMENT_END (R598). A test segment ends; its signature is compared, and the tiller reruns it, retires or returns to RUN. -/
  | testSegmentEnd (t : Fin 512) (sig : Word)
  /-- SCRUB_TIMER (R599). Once per SCRUB_H hours the stewards issue CHECK sequences over every frame. -/
  | scrubTimer
  /-- AGE_SAMPLE (R600). Every SAMPLE_S the control islands sample every island's probes. -/
  | ageSample (rs : List Probe)
  /-- AGE_PLAN (R602). Every PLAN_H, a steward plans each adjustable island's voltage offset and ceiling. -/
  | agePlan
  /-- PLAN_APPLY (R603). One island of each group per ms has its planned voltage and ceiling applied. -/
  | planApply (i : Fin 566)
  /-- POWER_ON_RESET (R611). Rails rise and the whole device resets. -/
  | powerOnReset
  /-- DEVICE_RESET (R611). SYS_RST_N or PERST# discards all stacks and descriptors and restarts the start order. -/
  | deviceReset (perst : Bool)
  /-- HALF_RESET (R613). A half resets its resources while the other half leads alone. -/
  | halfReset (h : Fin 2)
  /-- HOST_PORT_RESET (R657). PERST# with PERST_SCOPE 1 resets the PCIe endpoint, its rings and interrupts only. -/
  | hostPortReset
  /-- GLB_RESET (R614). A confirmed write to GLB_RESET requests a device reset or a half reset of half B. -/
  | glbReset (val : Word)
  /-- RESET_RELEASE (R617). Rails in range and SYS_RST_N deasserted release the device into step 1 of the start order. -/
  | resetRelease
  /-- START_STEP (R617). A step of the start order ends and the next begins, or PHASE becomes READY or FAILED. -/
  | startStep (o : StartObs)
  /-- DISCOVERY_FRAME (R626). A discovery frame begins and the device draws its announce slot. -/
  | discoveryFrame
  /-- ANNOUNCE (R626). At its slot the device sends ANNOUNCE to each registrar. -/
  | announce
  /-- REGISTERED (R627). A REGISTERED answer marks the device DISCOVERED and starts heartbeats. -/
  | registered (node boot : Nat)
  /-- BACKOFF (R627). A BACKOFF answer counts as no answer for its frame. -/
  | backoff
  /-- HEARTBEAT (R627). Every HB_S the registered device sends HEARTBEAT to each registrar. -/
  | heartbeat
  /-- OPEN (R641). An OPEN with its OPEN_EXT is checked and opens a context, copying its stop record. -/
  | openCtx (ring : Fin 256)
  /-- OPEN_EXT (R641). An OPEN_EXT not preceded by its OPEN is answered FORMAT. -/
  | openExt (ring : Fin 256)
  /-- APPEND (R642). An APPEND writes prompt tokens to the log, and with CLOSE takes the context to PREFILL. -/
  | append (ring : Fin 256)
  /-- MODIFY (R642). A MODIFY changes deadline, mode, priority or partition, or releases a hold, at the next formation. -/
  | modify (ring : Fin 256)
  /-- CANCEL (R320). A CANCEL request applies a cancel and is answered at once. -/
  | cancel (ring : Fin 256)
  /-- READ_LOG (R642). A READ_LOG copies log words to host memory and is answered when all are written. -/
  | readLog (ring : Fin 256)
  /-- REQUEST_DOORBELL (R638). A tail doorbell of a request ring lets the device take entries that have answer space. -/
  | requestDoorbell (fn : Fin 64) (k : Fin 4) (val : Word)
  /-- COMPLETION_HEAD_DOORBELL (R644). A head doorbell of a completion ring frees entries for waiting answers and records. -/
  | completionHeadDoorbell (fn : Fin 64) (k : Fin 4) (val : Word)
  /-- RX_TAIL_DOORBELL (R649). A receive-ring tail doorbell posts buffers for frames, SENDs and region completions. -/
  | rxTailDoorbell (fn : Fin 64) (val : Word)
  /-- TX_TAIL_DOORBELL (R651). A transmit-ring tail doorbell queues host frames on their ports. -/
  | txTailDoorbell (fn : Fin 64) (val : Word)
  /-- TRANSMIT_FRAME_DONE (R651). A host frame leaves or is refused, and its transmit entry is written back. -/
  | transmitFrameDone (ring : Fin 64)
  /-- SPILL_DRAIN (R647). A spilled completion record is written to its ring once an entry frees and the ring is enabled. -/
  | spillDrain (ring : Fin 256)
  /-- COALESCE_TIMER (R653). COAL_US after the first unsignalled entry, a completion ring signals its vector. -/
  | coalesceTimer (ring : Fin 256)
  /-- RING_CTL (R660). A write that sets a ring's EN resets its indices; a clear stops the taking of entries. -/
  | ringCtl (k : RingKind) (n : Fin 256) (val : Word)
  /-- FLR (R656). A function-level reset disables the function's rings and cancels its contexts. -/
  | flr (fn : Fin 64)
  /-- ATS_INVALIDATION (R658). An ATS invalidation completes once every access using the old translation has ended. -/
  | atsInvalidation (iova len : Nat)
  /-- SET_ENDPOINT_ID (R659). The MCTP Set Endpoint ID message assigns the endpoint ID. -/
  | setEndpointId (eid : Byte)
  /-- GET_ENDPOINT_ID (R659). The MCTP Get Endpoint ID message returns the endpoint ID. -/
  | getEndpointId
  /-- GET_MCTP_VERSION_SUPPORT (R659). The MCTP Get MCTP Version Support message returns the supported versions. -/
  | getMctpVersionSupport
  /-- GET_MESSAGE_TYPE_SUPPORT (R659). The MCTP Get Message Type Support message returns the supported types. -/
  | getMessageTypeSupport
  /-- GET_IDENTITY (R659). GET_IDENTITY returns GLB_ID, GLB_SERIAL, GLB_CFG and GLB_STAT. -/
  | getIdentity
  /-- GET_HEALTH (R659). GET_HEALTH returns a snapshot of the flash health log page. -/
  | getHealth
  /-- GET_THERMAL (R659). GET_THERMAL returns the hottest sensor of each half and each stack. -/
  | getThermal
  /-- GET_POWER (R681). GET_POWER returns the package draw and the limit in force. -/
  | getPower
  /-- SET_POWER_LIMIT (R49). SET_POWER_LIMIT programs the package limit, applied within 1 ms. -/
  | setPowerLimit (watts : Nat)
  /-- MCTP_RESET (R659). The confirmed MCTP RESET command sends WITHDRAW and performs a device reset. -/
  | mctpReset (confirm : BitVec 16)
  /-- READ_REG (R659). READ_REG returns a BAR0 register with the effect of a host read, refusing the SEC block. -/
  | readReg (off : Nat)
  /-- SEC_QUOTE (R664). A write of GO signs a quote of identity, measurement and nonce within 5 ms. -/
  | secQuote (val : Word)
  /-- ZEROISE (R669). The confirmed ZEROISE command stops all issue, clears every key and performs a device reset. -/
  | zeroise
  /-- ERASE_MEDIA (R670). The ERASE_MEDIA command draws a new MEDIA key and formats the flash. -/
  | eraseMedia
  /-- DEBUG_UNLOCK (R672). The DEBUG_UNLOCK command verifies a signed token, zeroises and blows the DEBUGGED fuse. -/
  | debugUnlock
  /-- BYPASS (R671). The IEEE 1149.1 BYPASS instruction, taken also for unsupported codes. -/
  | bypass (code : Nat)
  /-- IDCODE (R671). The IEEE 1149.1 IDCODE instruction shifts out SEC_JTAG_ID. -/
  | idcode
  /-- SAMPLE_PRELOAD (R671). The IEEE 1149.1 SAMPLE/PRELOAD instruction samples the pins. -/
  | samplePreload
  /-- EXTEST (R671). The IEEE 1149.1 EXTEST instruction drives the pins only while SYS_RST_N is asserted. -/
  | extest (pins : List Bool)
  /-- ILLEGAL_INSTRUCTION (R123). A tiller issues an instruction word whose opcode no table lists, including 0x000, and raises a precise ILLEGAL exception. -/
  | illegalInstruction (t : Fin 512) (w : Word)
  /-- GATE_ENTRY (R499). The time-gate cycle of a port moves to its next entry when the current entry's DURATION_NS runs out, opening and closing queues so that a waiting frame can start. -/
  | gateEntry (port : Fin 6)
  /-- POWER_BRAKE_RELEASE (R684). Deassertion of PWR_BRAKE_N ends the forced floor, so a limit written while the brake was asserted takes effect and caps may rise under R685. -/
  | powerBrakeRelease
  /-- QUOTE_DONE (R664). The signing of a quote ends, the signature appears in SEC_SIG0–11 and SEC_QUOTE.BUSY clears. -/
  | quoteDone
  /-- METER_SNAPSHOT_DONE (R542). The metering snapshot ends, CMP_MTR and CMP_MTR_TIME hold the copied values and CMP_MTR_SNAP.BUSY clears. -/
  | meterSnapshotDone
  /-- AUDIT_END (R584). A running AUDIT finishes its recount, rewrites wrong entries, frees unreferenced frames, writes the AUDIT record and completes the INT command. -/
  | auditEnd
  /-- CONFIGURATION_REQUEST (R617). A PCIe configuration request from the host is answered with Configuration Request Retry Status during start, and with a successful completion from 200 ms on. -/
  | configurationRequest
  deriving DecidableEq, Repr

end Sys2Proof
end

