-- ==== Sys2Proof/Decode.lean ====
section
/-!
DEFINITION. The command a word spells by the bits of the table of operations. The table gives no row any bits (the block
takes register accesses, messages and events, not instruction words), so no word spells one. Sirec instruction words
(R123-R125) are the operands of the tiller commands and are read in `Sys2Proof.Machine.Operands`.
-/

namespace Sys2Proof

/-- No row of the table has bits, so no word spells a command (log entry 3). -/
def decodeTableWord (_nbits _w : Nat) : Option Instr := none

end Sys2Proof
end

