-- ==== Sys2Proof/Config.lean ====
section
/-!
DEFINITION. What the spec leaves open: every constant here has no body, so nothing in Lean can evaluate it or prove a
value of it, and a statement is true whatever it is. The assumption log says where each is used.
-/

namespace Sys2Proof.Config

/-- The value the device forms for eˣ (R95 bounds it; `Sys2Proof.Machine.expLane` keeps it within the bound). -/
opaque vexp : Lane → Lane
/-- The value the device forms for ln x (R95 bounds it). -/
opaque vln : Lane → Lane
/-- The value the device forms for 1/x (R95 bounds it). -/
opaque vrcp : Lane → Lane
/-- The lane an I32 operation (its opcode) gives where the exact result lies outside the I32 range: the spec states no
result there. -/
opaque i32Over : Nat → Lane → Lane → Lane
/-- A draw of the device's random sources, by the place that draws and the number of draws made before it: steal
victims (R113), BOOT (R547), discovery slots (R626), entropy for keys (R662-R668). -/
opaque draw : Nat → Nat → Nat
/-- A choice the spec leaves to the device, by the place that chooses and a fresh number: an allocation among equals,
a step size of the governor. -/
opaque choice : Nat → Nat → Nat
/-- Word `n` of the identity public key derived from a root secret (R662). -/
opaque identityPub : Nat → Nat → Word
/-- Word `n` of the ECDSA signature made with an identity key over a message (R664). -/
opaque signature : Nat → List Byte → Nat → Nat → Word
/-- Whether a debug token verifies for a serial number and a nonce (R672). -/
opaque tokenVerifies : List Byte → Word → List Word → Bool
/-- Number of segments of one test pass (R594). -/
opaque testSegments : Nat
/-- The 64-bit signature the test ROM holds for a segment (R594). -/
opaque testSignature : Nat → Word
/-- A byte of local SRAM above the image area after a test segment, by a fresh number and its address (R596). -/
opaque testByte : Nat → Nat → Byte
/-- An accumulator tile after a test segment (R596). -/
opaque testTile : Nat → Nat → Tile

end Sys2Proof.Config
end

