-- ==== Sys2Proof/Machine/Map.lean ====
section
/-!
DEFINITION. Sparse data by key (`NMap`): a list of key and value pairs in one canonical form, keys strictly rising
and no entry equal to what an unlisted key reads as. `d` is what an unlisted key reads as.
-/

namespace Sys2Proof.Machine

/-- The value listed at key `k`, if one is. -/
def nfind {α : Type} (m : NMap α) (k : Nat) : Option α :=
  (m.find? (fun e => e.1 == k)).map (·.2)

/-- What key `k` reads as: the listed value, or the default. -/
def nget {α : Type} (d : Nat → α) (m : NMap α) (k : Nat) : α :=
  match m with
  | [] => d k
  | (j, v) :: r => if j = k then v else nget d r k

/-- A new entry, before the first larger key. -/
def ninsert {α : Type} (m : NMap α) (k : Nat) (v : α) : NMap α :=
  match m with
  | [] => [(k, v)]
  | (j, w) :: r => if k < j then (k, v) :: (j, w) :: r else (j, w) :: ninsert r k v

/-- No entry at key `k`. -/
def nerase {α : Type} (m : NMap α) (k : Nat) : NMap α :=
  m.filter (fun e => e.1 != k)

/-- Key `k` reads as `v` from now on; writing the default removes the entry. -/
def nput {α : Type} [DecidableEq α] (d : Nat → α) (m : NMap α) (k : Nat) (v : α) : NMap α :=
  if v = d k then nerase m k else ninsert (nerase m k) k v

/-- Every listed value changed by `f`; entries that become the default go. -/
def nmap {α : Type} [DecidableEq α] (d : Nat → α) (f : Nat → α → α) (m : NMap α) : NMap α :=
  m.filterMap (fun e => if f e.1 e.2 = d e.1 then none else some (e.1, f e.1 e.2))

/-- The value at key `k` changed by `f`. -/
def nupd {α : Type} [DecidableEq α] (d : Nat → α) (m : NMap α) (k : Nat) (f : α → α) : NMap α :=
  nput d m k (f (nget d m k))

/-- A listed value replaced or added, where an unlisted key means nothing is there. -/
def nset {α : Type} (m : NMap α) (k : Nat) (v : α) : NMap α :=
  ninsert (nerase m k) k v

/-- The canonical form. -/
def nwf {α : Type} [DecidableEq α] (d : Nat → α) : NMap α → Bool
  | [] => true
  | [(j, v)] => decide (v ≠ d j)
  | (j, v) :: (k, w) :: r => decide (v ≠ d j) && decide (j < k) && nwf d ((k, w) :: r)

/-- Keys strictly rising (the canonical form of a map in which an unlisted key means nothing is there). -/
def nsorted {α : Type} : NMap α → Bool
  | [] => true
  | [_] => true
  | (j, _) :: (k, w) :: r => decide (j < k) && nsorted ((k, w) :: r)

/-- `k` consecutive keys from `a`, written from a list. -/
def nputs {α : Type} [DecidableEq α] (d : Nat → α) (m : NMap α) (a : Nat) : List α → NMap α
  | [] => m
  | v :: vs => nputs d (nput d m a v) (a + 1) vs

/-- `n` consecutive keys from `a`, read into a list. -/
def ngets {α : Type} (d : Nat → α) (m : NMap α) (a : Nat) : Nat → List α
  | 0 => []
  | n + 1 => nget d m a :: ngets d m (a + 1) n

end Sys2Proof.Machine
end

