-- ==== Sys2Proof/Machine/Bits.lean ====
section
/-!
DEFINITION. Bit fields, sign extension and byte order. Bit 0 is the least significant bit of every field, register
and word (00_scope.md, Notation); multi-byte values are little-endian (R12).
-/

namespace Sys2Proof.Machine

/-- Bits `[lo+w-1:lo]` of a number. -/
def bits (x lo w : Nat) : Nat := x / 2 ^ lo % 2 ^ w

/-- A number with bits `[lo+w-1:lo]` replaced by the low `w` bits of `v`. -/
def setBits (x lo w v : Nat) : Nat := x - bits x lo w * 2 ^ lo + v % 2 ^ w * 2 ^ lo

/-- Bits `[lo+w-1:lo]` of a bit vector. -/
def bget {n : Nat} (x : BitVec n) (lo w : Nat) : Nat := bits x.toNat lo w

/-- A bit vector with bits `[lo+w-1:lo]` replaced. -/
def bset {n : Nat} (x : BitVec n) (lo w v : Nat) : BitVec n := BitVec.ofNat n (setBits x.toNat lo w v)

/-- Bit `k` of a bit vector, as a truth value. -/
def bbit {n : Nat} (x : BitVec n) (k : Nat) : Bool := bget x k 1 == 1

/-- A truth value as a number. -/
def b2n (b : Bool) : Nat := if b then 1 else 0

/-- A 64-bit word from a number. -/
def w64 (n : Nat) : Word := BitVec.ofNat 64 n

/-- A `w`-bit two's-complement number read as an integer. -/
def sext (w x : Nat) : Int := if x % 2 ^ w < 2 ^ (w - 1) then (x % 2 ^ w : Nat) else (x % 2 ^ w : Nat) - (2 ^ w : Nat)

/-- An integer as a 64-bit word, wrapping. -/
def wInt (i : Int) : Word := BitVec.ofInt 64 i

/-- The `n` bytes of a number, lowest first (R12). -/
def toBytes : Nat → Nat → List Byte
  | 0, _ => []
  | n + 1, v => BitVec.ofNat 8 v :: toBytes n (v / 256)

/-- The number that bytes spell, lowest first (R12). -/
def ofBytes : List Byte → Nat
  | [] => 0
  | b :: r => b.toNat + 256 * ofBytes r

/-- Lane `k` of a v register. -/
def lane (v : VReg) (k : Nat) : Lane := BitVec.ofNat 32 (bget v (32 * k) 32)

/-- A v register from its lanes, lane 0 first. -/
def ofLanes : List Lane → Nat
  | [] => 0
  | x :: r => x.toNat + 2 ^ 32 * ofLanes r

/-- A v register whose lane `k` is `f k`. -/
def vmake (f : Nat → Lane) : VReg := BitVec.ofNat 4096 (ofLanes ((List.range 128).map f))

/-- A number from truth values, bit 0 first. -/
def ofBools : List Bool → Nat
  | [] => 0
  | b :: r => b2n b + 2 * ofBools r

/-- A predicate register whose bit `k` is `f k`. -/
def pmake (f : Nat → Bool) : PReg := BitVec.ofNat 128 (ofBools ((List.range 128).map f))

/-- A number rounded up to a multiple of `k`. -/
def roundUp (n k : Nat) : Nat := (n + k - 1) / k * k

/-- Division rounded up. -/
def cdiv (n k : Nat) : Nat := (n + k - 1) / k

end Sys2Proof.Machine
end

