-- ==== Sys2Proof/Machine/Regs.lean ====
section
/-!
DEFINITION. The register map: every register of the field tables of spec/, under the manual's own name, with its
place in BAR0 and, field by field, its bits, its access code (R20) and its reset value. Reserved fields read 0 (R18)
and are not listed. A register in a repeated window or a register array has an instance number: window times the
array's length plus the place in the array.
-/

namespace Sys2Proof.Machine

/-- Access codes (R20). -/
inductive Access where
  | RW | RO | WO | W1C | W1S | RC
  deriving DecidableEq, Repr

/-- Where a field's value after reset comes from. -/
inductive Rst where
  /-- the value the Reset column states -/
  | val (n : Nat)
  /-- loaded from the boot image (R20) -/
  | image
  /-- loaded from the fuses (R20) -/
  | fuse
  /-- a value the table gives by a rule of its own (`Reg.resetWord` says which) -/
  | rule
  deriving DecidableEq, Repr

/-- One field of a register. -/
structure FieldSpec where
  /-- lowest bit -/
  lo : Nat
  /-- width in bits -/
  w : Nat
  acc : Access
  rst : Rst
  deriving DecidableEq, Repr

/-- Where a register lies: `base + i * st1 + j * st2` for `i < n1`, `j < n2`; instance `i * n2 + j`. -/
structure Layout where
  base : Nat
  n1 : Nat
  st1 : Nat
  n2 : Nat
  st2 : Nat
  deriving DecidableEq, Repr

/-- The registers. -/
inductive Reg where
  | GLB_ID | GLB_SERIAL | GLB_CFG | GLB_STAT | GLB_RESET | GLB_RESET_CAUSE
  | GLB_STEP_MS | GLB_DISC_CTL | GLB_DISC_STAT | HST_CTL | HST_STAT | HST_ERR
  | HST_ERR_ADDR | HST_SPILL | HST_STOP_POOL | HST_APER | HST_APER_STAT | HST_MCTP
  | HST_FN | HST_REQ_BASE | HST_REQ_CTL | HST_REQ_PTR | HST_CPL_BASE | HST_CPL_CTL
  | HST_CPL_PTR | HST_RX_BASE | HST_RX_CTL | HST_RX_PTR | HST_TX_BASE | HST_TX_CTL
  | HST_TX_PTR | SCH_CTL | SCH_PREEMPT | SCH_SWAP | SCH_ITEM_LIMIT | SCH_FAULT
  | SCH_CTX_CMD | SCH_CMD_STAT | SCH_ERR | SCH_DONE0 | SCH_DONE1 | SCH_PART_CTL
  | SCH_STEP_CTL | SCH_IMAGE | SCH_ENTRY | SCH_BATCH_BASE | SCH_RATIO | SCH_RATIO_STAT
  | SCH_STEP_NUM | SCH_STEP_STAT | SCH_STEP_TIME | CTX_CTL | CTX_LOG_POOL | CTX_PT_POOL
  | CTX_SIDE_POOL | CTX_POOL_SIZE | CTX_CNT | CTX_ERR | CTX_WALK | CTX_COW
  | CTX_PEEK_SEL | CTX_PEEK_W | PFX_CTL | PFX_NODE_POOL | PFX_IDX_POOL | PFX_SHARE_POOL
  | PFX_SIZE | PFX_USED | PFX_LOOKUPS | PFX_COLLIDE | PFX_EVICT | PFX_INVAL
  | BNK_CTL | BNK_INBOX | BNK_ATTN_ENTRY | BNK_PROG_BASE | BNK_ATTN_CNT | BNK_ERR
  | BNK_REF_CTL | BNK_STK_STAT | BNK_STROKES | BNK_BUSY | BNK_YIELD | BNK_LINE_ERR
  | BNK_REFRESH | TIE_CTL | TIE_OBJ_BASE | TIE_POOL_MARK | TIE_SLOW_MARK | TIE_POOL_STAT
  | TIE_HOST_CFG | TIE_CMD0 | TIE_CMD1 | TIE_CMD_STAT | TIE_RECLAIM | TIE_ERR
  | TIE_HOST_AREA | TIE_STK | TIE_WIN_CTL | TIE_WIN_SRC | TIE_WIN_STAT | ROW_CTL
  | ROW_CFG | ROW_TBL_BASE | ROW_LOG_CFG | ROW_SHD_DIR | ROW_SHD | ROW_CMD0
  | ROW_CMD1 | ROW_CMD_STAT | ROW_LOOKUPS | ROW_UPDATES | ROW_MOVES | ROW_APPLY
  | ROW_ERR | ROW_STAGE | FLS_CTL | FLS_STAT | FLS_GEOM | FLS_FORMAT
  | FLS_MAP | FLS_RECLAIM | FLS_REFRESH | FLS_CKPT | FLS_CMD | FLS_CMD_STAT
  | FLS_ERR | FLS_HLOG_SNAP | FLS_CH | FLS_HLOG | FAB_CTL | FAB_NODE
  | FAB_ADDR_HI | FAB_ADDR_LO | FAB_PEER_BASE | FAB_REGION_BASE | FAB_MSG_CFG | FAB_TIMER0
  | FAB_TIMER1 | FAB_TIMER2 | FAB_RATE0 | FAB_RATE1 | FAB_SPRAY | FAB_DSCP
  | FAB_CMD0 | FAB_CMD1 | FAB_CMD2 | FAB_CMD_STAT | FAB_ERR | FAB_PKTS
  | FAB_LOSS | FAB_REFUSED | FAB_TIME_ADJ | FAB_PORT_CTL | FAB_PORT_STAT | FAB_PORT_GW
  | FAB_PORT_TXTS | FAB_PORT_TXSEQ | FAB_PORT_CNT | SHP_CTL | SHP_ERR | SHP_SUB_W
  | SHP_PORT_CTL | SHP_PRIV | SHP_GATE_CTL | SHP_GATE_BASE | SHP_POL_CNT | SHP_CLASS
  | SHP_GATE | SHP_POL | SHP_PBURST | LAT_CTL | LAT_STAT | LAT_SWITCH
  | LAT_TIMER | LAT_HOST | LAT_DOORBELL | LAT_DOWN | LAT_ERR | LAT_CNT
  | LAT_MEMBER | LAT_WIN_BASE | LAT_WIN_CTL | LAT_RING | LAT_RING_HEAD | CMP_CTL
  | CMP_TIMER | CMP_CMD0 | CMP_CMD1 | CMP_STAGE | CMP_CMD_STAT | CMP_ERR
  | CMP_SEL | CMP_SEL_STAT | CMP_MTR_SNAP | CMP_MTR_TIME | CMP_MTR | TWN_CTL
  | TWN_LEAD | TWN_TIMER | TWN_FENCE | TWN_CMD | TWN_CMD_STAT | TWN_TAKE_BASE
  | TWN_ERR | TWN_HS_STAT | TWN_HS_JSENT | TWN_HS_JACKED | TWN_HS_JAPPLIED | TWN_HS_JBUF
  | TWN_HS_MIRROR | TWN_HS_CNT | INT_CTL | INT_LOG_BASE | INT_LOG_HEAD | INT_LOG_STAT
  | INT_TEST | INT_TEST_STAT | INT_SCRUB | INT_CMD | INT_CMD_STAT | INT_LINE_CNT
  | INT_POISON | INT_REPAIR | INT_ERR | AGE_CTL | AGE_PLAN | AGE_STAT
  | AGE_ISL_FUSE | AGE_ISL_NOW | AGE_ISL_PLAN | SEC_STAT | SEC_CMD | SEC_CMD_STAT
  | SEC_QUOTE | SEC_JTAG_ID | SEC_TOKEN | SEC_NONCE | SEC_MEAS | SEC_PUB
  | SEC_SIG | TIL_ID | TIL_CTL | TIL_STAT | TIL_PC | TIL_FPSTAT
  | TIL_DQ | TIL_STEALS | TIL_ITEMS | TIL_BUSY | TIL_PERR | TIL_SHF_STAT
  | TIL_SHF_PERR | ISL_ID | ISL_CLK_CTL | ISL_CLK_STAT | ISL_XSTALL
  deriving DecidableEq, Repr

/-- Every register, in the order of their numbers. -/
def Reg.all : List Reg := [
  .GLB_ID, .GLB_SERIAL, .GLB_CFG, .GLB_STAT, .GLB_RESET, .GLB_RESET_CAUSE, .GLB_STEP_MS, .GLB_DISC_CTL,
  .GLB_DISC_STAT, .HST_CTL, .HST_STAT, .HST_ERR, .HST_ERR_ADDR, .HST_SPILL, .HST_STOP_POOL, .HST_APER,
  .HST_APER_STAT, .HST_MCTP, .HST_FN, .HST_REQ_BASE, .HST_REQ_CTL, .HST_REQ_PTR, .HST_CPL_BASE, .HST_CPL_CTL,
  .HST_CPL_PTR, .HST_RX_BASE, .HST_RX_CTL, .HST_RX_PTR, .HST_TX_BASE, .HST_TX_CTL, .HST_TX_PTR, .SCH_CTL,
  .SCH_PREEMPT, .SCH_SWAP, .SCH_ITEM_LIMIT, .SCH_FAULT, .SCH_CTX_CMD, .SCH_CMD_STAT, .SCH_ERR, .SCH_DONE0,
  .SCH_DONE1, .SCH_PART_CTL, .SCH_STEP_CTL, .SCH_IMAGE, .SCH_ENTRY, .SCH_BATCH_BASE, .SCH_RATIO, .SCH_RATIO_STAT,
  .SCH_STEP_NUM, .SCH_STEP_STAT, .SCH_STEP_TIME, .CTX_CTL, .CTX_LOG_POOL, .CTX_PT_POOL, .CTX_SIDE_POOL, .CTX_POOL_SIZE,
  .CTX_CNT, .CTX_ERR, .CTX_WALK, .CTX_COW, .CTX_PEEK_SEL, .CTX_PEEK_W, .PFX_CTL, .PFX_NODE_POOL,
  .PFX_IDX_POOL, .PFX_SHARE_POOL, .PFX_SIZE, .PFX_USED, .PFX_LOOKUPS, .PFX_COLLIDE, .PFX_EVICT, .PFX_INVAL,
  .BNK_CTL, .BNK_INBOX, .BNK_ATTN_ENTRY, .BNK_PROG_BASE, .BNK_ATTN_CNT, .BNK_ERR, .BNK_REF_CTL, .BNK_STK_STAT,
  .BNK_STROKES, .BNK_BUSY, .BNK_YIELD, .BNK_LINE_ERR, .BNK_REFRESH, .TIE_CTL, .TIE_OBJ_BASE, .TIE_POOL_MARK,
  .TIE_SLOW_MARK, .TIE_POOL_STAT, .TIE_HOST_CFG, .TIE_CMD0, .TIE_CMD1, .TIE_CMD_STAT, .TIE_RECLAIM, .TIE_ERR,
  .TIE_HOST_AREA, .TIE_STK, .TIE_WIN_CTL, .TIE_WIN_SRC, .TIE_WIN_STAT, .ROW_CTL, .ROW_CFG, .ROW_TBL_BASE,
  .ROW_LOG_CFG, .ROW_SHD_DIR, .ROW_SHD, .ROW_CMD0, .ROW_CMD1, .ROW_CMD_STAT, .ROW_LOOKUPS, .ROW_UPDATES,
  .ROW_MOVES, .ROW_APPLY, .ROW_ERR, .ROW_STAGE, .FLS_CTL, .FLS_STAT, .FLS_GEOM, .FLS_FORMAT,
  .FLS_MAP, .FLS_RECLAIM, .FLS_REFRESH, .FLS_CKPT, .FLS_CMD, .FLS_CMD_STAT, .FLS_ERR, .FLS_HLOG_SNAP,
  .FLS_CH, .FLS_HLOG, .FAB_CTL, .FAB_NODE, .FAB_ADDR_HI, .FAB_ADDR_LO, .FAB_PEER_BASE, .FAB_REGION_BASE,
  .FAB_MSG_CFG, .FAB_TIMER0, .FAB_TIMER1, .FAB_TIMER2, .FAB_RATE0, .FAB_RATE1, .FAB_SPRAY, .FAB_DSCP,
  .FAB_CMD0, .FAB_CMD1, .FAB_CMD2, .FAB_CMD_STAT, .FAB_ERR, .FAB_PKTS, .FAB_LOSS, .FAB_REFUSED,
  .FAB_TIME_ADJ, .FAB_PORT_CTL, .FAB_PORT_STAT, .FAB_PORT_GW, .FAB_PORT_TXTS, .FAB_PORT_TXSEQ, .FAB_PORT_CNT, .SHP_CTL,
  .SHP_ERR, .SHP_SUB_W, .SHP_PORT_CTL, .SHP_PRIV, .SHP_GATE_CTL, .SHP_GATE_BASE, .SHP_POL_CNT, .SHP_CLASS,
  .SHP_GATE, .SHP_POL, .SHP_PBURST, .LAT_CTL, .LAT_STAT, .LAT_SWITCH, .LAT_TIMER, .LAT_HOST,
  .LAT_DOORBELL, .LAT_DOWN, .LAT_ERR, .LAT_CNT, .LAT_MEMBER, .LAT_WIN_BASE, .LAT_WIN_CTL, .LAT_RING,
  .LAT_RING_HEAD, .CMP_CTL, .CMP_TIMER, .CMP_CMD0, .CMP_CMD1, .CMP_STAGE, .CMP_CMD_STAT, .CMP_ERR,
  .CMP_SEL, .CMP_SEL_STAT, .CMP_MTR_SNAP, .CMP_MTR_TIME, .CMP_MTR, .TWN_CTL, .TWN_LEAD, .TWN_TIMER,
  .TWN_FENCE, .TWN_CMD, .TWN_CMD_STAT, .TWN_TAKE_BASE, .TWN_ERR, .TWN_HS_STAT, .TWN_HS_JSENT, .TWN_HS_JACKED,
  .TWN_HS_JAPPLIED, .TWN_HS_JBUF, .TWN_HS_MIRROR, .TWN_HS_CNT, .INT_CTL, .INT_LOG_BASE, .INT_LOG_HEAD, .INT_LOG_STAT,
  .INT_TEST, .INT_TEST_STAT, .INT_SCRUB, .INT_CMD, .INT_CMD_STAT, .INT_LINE_CNT, .INT_POISON, .INT_REPAIR,
  .INT_ERR, .AGE_CTL, .AGE_PLAN, .AGE_STAT, .AGE_ISL_FUSE, .AGE_ISL_NOW, .AGE_ISL_PLAN, .SEC_STAT,
  .SEC_CMD, .SEC_CMD_STAT, .SEC_QUOTE, .SEC_JTAG_ID, .SEC_TOKEN, .SEC_NONCE, .SEC_MEAS, .SEC_PUB,
  .SEC_SIG, .TIL_ID, .TIL_CTL, .TIL_STAT, .TIL_PC, .TIL_FPSTAT, .TIL_DQ, .TIL_STEALS,
  .TIL_ITEMS, .TIL_BUSY, .TIL_PERR, .TIL_SHF_STAT, .TIL_SHF_PERR, .ISL_ID, .ISL_CLK_CTL, .ISL_CLK_STAT,
  .ISL_XSTALL
  ]

/-- The place of each register in BAR0, by block (17_host_interface.md, R631 and the block maps of the chapters). -/
def Reg.layout : Reg → Layout
  | .GLB_ID => ⟨0x0000000, 1, 0, 1, 0⟩
  | .GLB_SERIAL => ⟨0x0000008, 1, 0, 1, 0⟩
  | .GLB_CFG => ⟨0x0000010, 1, 0, 1, 0⟩
  | .GLB_STAT => ⟨0x0000018, 1, 0, 1, 0⟩
  | .GLB_RESET => ⟨0x0000020, 1, 0, 1, 0⟩
  | .GLB_RESET_CAUSE => ⟨0x0000028, 1, 0, 1, 0⟩
  | .GLB_STEP_MS => ⟨0x0000030, 1, 0, 3, 8⟩
  | .GLB_DISC_CTL => ⟨0x0000048, 1, 0, 1, 0⟩
  | .GLB_DISC_STAT => ⟨0x0000050, 1, 0, 1, 0⟩
  | .HST_CTL => ⟨0x0100000, 1, 0, 1, 0⟩
  | .HST_STAT => ⟨0x0100008, 1, 0, 1, 0⟩
  | .HST_ERR => ⟨0x0100010, 1, 0, 1, 0⟩
  | .HST_ERR_ADDR => ⟨0x0100018, 1, 0, 1, 0⟩
  | .HST_SPILL => ⟨0x0100020, 1, 0, 1, 0⟩
  | .HST_STOP_POOL => ⟨0x0100028, 1, 0, 2, 8⟩
  | .HST_APER => ⟨0x0100038, 1, 0, 1, 0⟩
  | .HST_APER_STAT => ⟨0x0100040, 1, 0, 1, 0⟩
  | .HST_MCTP => ⟨0x0100048, 1, 0, 1, 0⟩
  | .HST_FN => ⟨0x0100100, 1, 0, 64, 8⟩
  | .HST_REQ_BASE => ⟨0x0101000, 256, 32, 1, 0⟩
  | .HST_REQ_CTL => ⟨0x0101008, 256, 32, 1, 0⟩
  | .HST_REQ_PTR => ⟨0x0101010, 256, 32, 1, 0⟩
  | .HST_CPL_BASE => ⟨0x0104000, 256, 32, 1, 0⟩
  | .HST_CPL_CTL => ⟨0x0104008, 256, 32, 1, 0⟩
  | .HST_CPL_PTR => ⟨0x0104010, 256, 32, 1, 0⟩
  | .HST_RX_BASE => ⟨0x0106000, 64, 32, 1, 0⟩
  | .HST_RX_CTL => ⟨0x0106008, 64, 32, 1, 0⟩
  | .HST_RX_PTR => ⟨0x0106010, 64, 32, 1, 0⟩
  | .HST_TX_BASE => ⟨0x0106800, 64, 32, 1, 0⟩
  | .HST_TX_CTL => ⟨0x0106808, 64, 32, 1, 0⟩
  | .HST_TX_PTR => ⟨0x0106810, 64, 32, 1, 0⟩
  | .SCH_CTL => ⟨0x0200000, 1, 0, 1, 0⟩
  | .SCH_PREEMPT => ⟨0x0200008, 1, 0, 1, 0⟩
  | .SCH_SWAP => ⟨0x0200010, 1, 0, 1, 0⟩
  | .SCH_ITEM_LIMIT => ⟨0x0200018, 1, 0, 1, 0⟩
  | .SCH_FAULT => ⟨0x0200020, 1, 0, 1, 0⟩
  | .SCH_CTX_CMD => ⟨0x0200028, 1, 0, 1, 0⟩
  | .SCH_CMD_STAT => ⟨0x0200030, 1, 0, 1, 0⟩
  | .SCH_ERR => ⟨0x0200038, 1, 0, 1, 0⟩
  | .SCH_DONE0 => ⟨0x0200040, 1, 0, 1, 0⟩
  | .SCH_DONE1 => ⟨0x0200048, 1, 0, 1, 0⟩
  | .SCH_PART_CTL => ⟨0x0201000, 8, 4096, 1, 0⟩
  | .SCH_STEP_CTL => ⟨0x0201008, 8, 4096, 1, 0⟩
  | .SCH_IMAGE => ⟨0x0201010, 8, 4096, 1, 0⟩
  | .SCH_ENTRY => ⟨0x0201018, 8, 4096, 1, 0⟩
  | .SCH_BATCH_BASE => ⟨0x0201020, 8, 4096, 1, 0⟩
  | .SCH_RATIO => ⟨0x0201028, 8, 4096, 1, 0⟩
  | .SCH_RATIO_STAT => ⟨0x0201030, 8, 4096, 1, 0⟩
  | .SCH_STEP_NUM => ⟨0x0201038, 8, 4096, 1, 0⟩
  | .SCH_STEP_STAT => ⟨0x0201040, 8, 4096, 1, 0⟩
  | .SCH_STEP_TIME => ⟨0x0201048, 8, 4096, 1, 0⟩
  | .CTX_CTL => ⟨0x0300000, 2, 524288, 1, 0⟩
  | .CTX_LOG_POOL => ⟨0x0300008, 2, 524288, 1, 0⟩
  | .CTX_PT_POOL => ⟨0x0300010, 2, 524288, 1, 0⟩
  | .CTX_SIDE_POOL => ⟨0x0300018, 2, 524288, 1, 0⟩
  | .CTX_POOL_SIZE => ⟨0x0300020, 2, 524288, 1, 0⟩
  | .CTX_CNT => ⟨0x0300028, 2, 524288, 4, 8⟩
  | .CTX_ERR => ⟨0x0300048, 2, 524288, 1, 0⟩
  | .CTX_WALK => ⟨0x0300050, 2, 524288, 1, 0⟩
  | .CTX_COW => ⟨0x0300058, 2, 524288, 1, 0⟩
  | .CTX_PEEK_SEL => ⟨0x0300060, 2, 524288, 1, 0⟩
  | .CTX_PEEK_W => ⟨0x0300100, 2, 524288, 16, 8⟩
  | .PFX_CTL => ⟨0x0400000, 2, 524288, 1, 0⟩
  | .PFX_NODE_POOL => ⟨0x0400008, 2, 524288, 1, 0⟩
  | .PFX_IDX_POOL => ⟨0x0400010, 2, 524288, 1, 0⟩
  | .PFX_SHARE_POOL => ⟨0x0400018, 2, 524288, 1, 0⟩
  | .PFX_SIZE => ⟨0x0400020, 2, 524288, 1, 0⟩
  | .PFX_USED => ⟨0x0400028, 2, 524288, 1, 0⟩
  | .PFX_LOOKUPS => ⟨0x0400030, 2, 524288, 1, 0⟩
  | .PFX_COLLIDE => ⟨0x0400038, 2, 524288, 1, 0⟩
  | .PFX_EVICT => ⟨0x0400040, 2, 524288, 1, 0⟩
  | .PFX_INVAL => ⟨0x0400048, 2, 524288, 1, 0⟩
  | .BNK_CTL => ⟨0x0500000, 1, 0, 1, 0⟩
  | .BNK_INBOX => ⟨0x0500008, 1, 0, 1, 0⟩
  | .BNK_ATTN_ENTRY => ⟨0x0500010, 1, 0, 1, 0⟩
  | .BNK_PROG_BASE => ⟨0x0500018, 1, 0, 2, 8⟩
  | .BNK_ATTN_CNT => ⟨0x0500028, 1, 0, 1, 0⟩
  | .BNK_ERR => ⟨0x0500030, 1, 0, 1, 0⟩
  | .BNK_REF_CTL => ⟨0x0500038, 1, 0, 1, 0⟩
  | .BNK_STK_STAT => ⟨0x0501000, 8, 4096, 1, 0⟩
  | .BNK_STROKES => ⟨0x0501008, 8, 4096, 1, 0⟩
  | .BNK_BUSY => ⟨0x0501010, 8, 4096, 1, 0⟩
  | .BNK_YIELD => ⟨0x0501018, 8, 4096, 1, 0⟩
  | .BNK_LINE_ERR => ⟨0x0501020, 8, 4096, 1, 0⟩
  | .BNK_REFRESH => ⟨0x0501028, 8, 4096, 1, 0⟩
  | .TIE_CTL => ⟨0x0600000, 1, 0, 1, 0⟩
  | .TIE_OBJ_BASE => ⟨0x0600008, 1, 0, 1, 0⟩
  | .TIE_POOL_MARK => ⟨0x0600010, 1, 0, 1, 0⟩
  | .TIE_SLOW_MARK => ⟨0x0600018, 1, 0, 1, 0⟩
  | .TIE_POOL_STAT => ⟨0x0600020, 1, 0, 1, 0⟩
  | .TIE_HOST_CFG => ⟨0x0600028, 1, 0, 1, 0⟩
  | .TIE_CMD0 => ⟨0x0600030, 1, 0, 1, 0⟩
  | .TIE_CMD1 => ⟨0x0600038, 1, 0, 1, 0⟩
  | .TIE_CMD_STAT => ⟨0x0600040, 1, 0, 1, 0⟩
  | .TIE_RECLAIM => ⟨0x0600048, 1, 0, 1, 0⟩
  | .TIE_ERR => ⟨0x0600050, 1, 0, 1, 0⟩
  | .TIE_HOST_AREA => ⟨0x0600100, 1, 0, 16, 8⟩
  | .TIE_STK => ⟨0x0600200, 1, 0, 8, 8⟩
  | .TIE_WIN_CTL => ⟨0x0601000, 8, 256, 1, 0⟩
  | .TIE_WIN_SRC => ⟨0x0601008, 8, 256, 1, 0⟩
  | .TIE_WIN_STAT => ⟨0x0601010, 8, 256, 1, 0⟩
  | .ROW_CTL => ⟨0x0700000, 1, 0, 1, 0⟩
  | .ROW_CFG => ⟨0x0700008, 1, 0, 1, 0⟩
  | .ROW_TBL_BASE => ⟨0x0700010, 1, 0, 1, 0⟩
  | .ROW_LOG_CFG => ⟨0x0700018, 1, 0, 1, 0⟩
  | .ROW_SHD_DIR => ⟨0x0700020, 1, 0, 1, 0⟩
  | .ROW_SHD => ⟨0x0700028, 1, 0, 8, 8⟩
  | .ROW_CMD0 => ⟨0x0700068, 1, 0, 1, 0⟩
  | .ROW_CMD1 => ⟨0x0700070, 1, 0, 1, 0⟩
  | .ROW_CMD_STAT => ⟨0x0700078, 1, 0, 1, 0⟩
  | .ROW_LOOKUPS => ⟨0x0700080, 1, 0, 1, 0⟩
  | .ROW_UPDATES => ⟨0x0700088, 1, 0, 1, 0⟩
  | .ROW_MOVES => ⟨0x0700090, 1, 0, 1, 0⟩
  | .ROW_APPLY => ⟨0x0700098, 1, 0, 1, 0⟩
  | .ROW_ERR => ⟨0x07000A0, 1, 0, 1, 0⟩
  | .ROW_STAGE => ⟨0x0700100, 1, 0, 8, 8⟩
  | .FLS_CTL => ⟨0x0800000, 1, 0, 1, 0⟩
  | .FLS_STAT => ⟨0x0800008, 1, 0, 1, 0⟩
  | .FLS_GEOM => ⟨0x0800010, 1, 0, 1, 0⟩
  | .FLS_FORMAT => ⟨0x0800018, 1, 0, 1, 0⟩
  | .FLS_MAP => ⟨0x0800020, 1, 0, 2, 8⟩
  | .FLS_RECLAIM => ⟨0x0800030, 1, 0, 1, 0⟩
  | .FLS_REFRESH => ⟨0x0800038, 1, 0, 1, 0⟩
  | .FLS_CKPT => ⟨0x0800040, 1, 0, 1, 0⟩
  | .FLS_CMD => ⟨0x0800048, 1, 0, 1, 0⟩
  | .FLS_CMD_STAT => ⟨0x0800050, 1, 0, 1, 0⟩
  | .FLS_ERR => ⟨0x0800058, 1, 0, 1, 0⟩
  | .FLS_HLOG_SNAP => ⟨0x0800060, 1, 0, 1, 0⟩
  | .FLS_CH => ⟨0x0800100, 1, 0, 16, 8⟩
  | .FLS_HLOG => ⟨0x0800200, 1, 0, 64, 8⟩
  | .FAB_CTL => ⟨0x0900000, 1, 0, 1, 0⟩
  | .FAB_NODE => ⟨0x0900008, 1, 0, 1, 0⟩
  | .FAB_ADDR_HI => ⟨0x0900010, 1, 0, 1, 0⟩
  | .FAB_ADDR_LO => ⟨0x0900018, 1, 0, 1, 0⟩
  | .FAB_PEER_BASE => ⟨0x0900020, 1, 0, 1, 0⟩
  | .FAB_REGION_BASE => ⟨0x0900028, 1, 0, 1, 0⟩
  | .FAB_MSG_CFG => ⟨0x0900030, 1, 0, 1, 0⟩
  | .FAB_TIMER0 => ⟨0x0900038, 1, 0, 1, 0⟩
  | .FAB_TIMER1 => ⟨0x0900040, 1, 0, 1, 0⟩
  | .FAB_TIMER2 => ⟨0x0900048, 1, 0, 1, 0⟩
  | .FAB_RATE0 => ⟨0x0900050, 1, 0, 1, 0⟩
  | .FAB_RATE1 => ⟨0x0900058, 1, 0, 1, 0⟩
  | .FAB_SPRAY => ⟨0x0900060, 1, 0, 1, 0⟩
  | .FAB_DSCP => ⟨0x0900068, 1, 0, 1, 0⟩
  | .FAB_CMD0 => ⟨0x0900070, 1, 0, 1, 0⟩
  | .FAB_CMD1 => ⟨0x0900078, 1, 0, 1, 0⟩
  | .FAB_CMD2 => ⟨0x0900080, 1, 0, 1, 0⟩
  | .FAB_CMD_STAT => ⟨0x0900088, 1, 0, 1, 0⟩
  | .FAB_ERR => ⟨0x0900090, 1, 0, 1, 0⟩
  | .FAB_PKTS => ⟨0x0900098, 1, 0, 1, 0⟩
  | .FAB_LOSS => ⟨0x09000A0, 1, 0, 1, 0⟩
  | .FAB_REFUSED => ⟨0x09000A8, 1, 0, 1, 0⟩
  | .FAB_TIME_ADJ => ⟨0x09000B0, 1, 0, 1, 0⟩
  | .FAB_PORT_CTL => ⟨0x0901000, 6, 256, 1, 0⟩
  | .FAB_PORT_STAT => ⟨0x0901008, 6, 256, 1, 0⟩
  | .FAB_PORT_GW => ⟨0x0901010, 6, 256, 1, 0⟩
  | .FAB_PORT_TXTS => ⟨0x0901018, 6, 256, 1, 0⟩
  | .FAB_PORT_TXSEQ => ⟨0x0901020, 6, 256, 1, 0⟩
  | .FAB_PORT_CNT => ⟨0x0901028, 6, 256, 1, 0⟩
  | .SHP_CTL => ⟨0x0A00000, 1, 0, 1, 0⟩
  | .SHP_ERR => ⟨0x0A00008, 1, 0, 1, 0⟩
  | .SHP_SUB_W => ⟨0x0A00010, 1, 0, 8, 8⟩
  | .SHP_PORT_CTL => ⟨0x0A01000, 6, 4096, 1, 0⟩
  | .SHP_PRIV => ⟨0x0A01008, 6, 4096, 1, 0⟩
  | .SHP_GATE_CTL => ⟨0x0A01010, 6, 4096, 1, 0⟩
  | .SHP_GATE_BASE => ⟨0x0A01018, 6, 4096, 1, 0⟩
  | .SHP_POL_CNT => ⟨0x0A01020, 6, 4096, 1, 0⟩
  | .SHP_CLASS => ⟨0x0A01040, 6, 4096, 8, 8⟩
  | .SHP_GATE => ⟨0x0A01080, 6, 4096, 16, 8⟩
  | .SHP_POL => ⟨0x0A01100, 6, 4096, 8, 8⟩
  | .SHP_PBURST => ⟨0x0A01180, 6, 4096, 8, 8⟩
  | .LAT_CTL => ⟨0x0B00000, 1, 0, 1, 0⟩
  | .LAT_STAT => ⟨0x0B00008, 1, 0, 1, 0⟩
  | .LAT_SWITCH => ⟨0x0B00010, 1, 0, 1, 0⟩
  | .LAT_TIMER => ⟨0x0B00018, 1, 0, 1, 0⟩
  | .LAT_HOST => ⟨0x0B00020, 1, 0, 1, 0⟩
  | .LAT_DOORBELL => ⟨0x0B00028, 1, 0, 1, 0⟩
  | .LAT_DOWN => ⟨0x0B00030, 1, 0, 1, 0⟩
  | .LAT_ERR => ⟨0x0B00038, 1, 0, 1, 0⟩
  | .LAT_CNT => ⟨0x0B00040, 1, 0, 1, 0⟩
  | .LAT_MEMBER => ⟨0x0B00100, 1, 0, 64, 8⟩
  | .LAT_WIN_BASE => ⟨0x0B00300, 1, 0, 16, 16⟩
  | .LAT_WIN_CTL => ⟨0x0B00308, 1, 0, 16, 16⟩
  | .LAT_RING => ⟨0x0B00400, 1, 0, 8, 16⟩
  | .LAT_RING_HEAD => ⟨0x0B00408, 1, 0, 8, 16⟩
  | .CMP_CTL => ⟨0x0B10000, 1, 0, 1, 0⟩
  | .CMP_TIMER => ⟨0x0B10008, 1, 0, 1, 0⟩
  | .CMP_CMD0 => ⟨0x0B10010, 1, 0, 1, 0⟩
  | .CMP_CMD1 => ⟨0x0B10018, 1, 0, 1, 0⟩
  | .CMP_STAGE => ⟨0x0B10020, 1, 0, 4, 8⟩
  | .CMP_CMD_STAT => ⟨0x0B10040, 1, 0, 1, 0⟩
  | .CMP_ERR => ⟨0x0B10048, 1, 0, 1, 0⟩
  | .CMP_SEL => ⟨0x0B10050, 1, 0, 1, 0⟩
  | .CMP_SEL_STAT => ⟨0x0B10058, 1, 0, 1, 0⟩
  | .CMP_MTR_SNAP => ⟨0x0B20000, 1, 0, 1, 0⟩
  | .CMP_MTR_TIME => ⟨0x0B20008, 1, 0, 1, 0⟩
  | .CMP_MTR => ⟨0x0B21000, 1, 0, 512, 8⟩
  | .TWN_CTL => ⟨0x0C00000, 1, 0, 1, 0⟩
  | .TWN_LEAD => ⟨0x0C00008, 1, 0, 1, 0⟩
  | .TWN_TIMER => ⟨0x0C00010, 1, 0, 1, 0⟩
  | .TWN_FENCE => ⟨0x0C00018, 1, 0, 1, 0⟩
  | .TWN_CMD => ⟨0x0C00020, 1, 0, 1, 0⟩
  | .TWN_CMD_STAT => ⟨0x0C00028, 1, 0, 1, 0⟩
  | .TWN_TAKE_BASE => ⟨0x0C00030, 1, 0, 1, 0⟩
  | .TWN_ERR => ⟨0x0C00038, 1, 0, 1, 0⟩
  | .TWN_HS_STAT => ⟨0x0C01000, 2, 256, 1, 0⟩
  | .TWN_HS_JSENT => ⟨0x0C01008, 2, 256, 1, 0⟩
  | .TWN_HS_JACKED => ⟨0x0C01010, 2, 256, 1, 0⟩
  | .TWN_HS_JAPPLIED => ⟨0x0C01018, 2, 256, 1, 0⟩
  | .TWN_HS_JBUF => ⟨0x0C01020, 2, 256, 1, 0⟩
  | .TWN_HS_MIRROR => ⟨0x0C01028, 2, 256, 1, 0⟩
  | .TWN_HS_CNT => ⟨0x0C01030, 2, 256, 1, 0⟩
  | .INT_CTL => ⟨0x0D00000, 1, 0, 1, 0⟩
  | .INT_LOG_BASE => ⟨0x0D00008, 1, 0, 1, 0⟩
  | .INT_LOG_HEAD => ⟨0x0D00010, 1, 0, 1, 0⟩
  | .INT_LOG_STAT => ⟨0x0D00018, 1, 0, 1, 0⟩
  | .INT_TEST => ⟨0x0D00020, 1, 0, 1, 0⟩
  | .INT_TEST_STAT => ⟨0x0D00028, 1, 0, 1, 0⟩
  | .INT_SCRUB => ⟨0x0D00030, 1, 0, 1, 0⟩
  | .INT_CMD => ⟨0x0D00038, 1, 0, 1, 0⟩
  | .INT_CMD_STAT => ⟨0x0D00040, 1, 0, 1, 0⟩
  | .INT_LINE_CNT => ⟨0x0D00048, 1, 0, 1, 0⟩
  | .INT_POISON => ⟨0x0D00050, 1, 0, 1, 0⟩
  | .INT_REPAIR => ⟨0x0D00058, 1, 0, 1, 0⟩
  | .INT_ERR => ⟨0x0D00060, 1, 0, 1, 0⟩
  | .AGE_CTL => ⟨0x0E00000, 1, 0, 1, 0⟩
  | .AGE_PLAN => ⟨0x0E00008, 1, 0, 1, 0⟩
  | .AGE_STAT => ⟨0x0E00010, 1, 0, 1, 0⟩
  | .AGE_ISL_FUSE => ⟨0x0E01000, 566, 32, 1, 0⟩
  | .AGE_ISL_NOW => ⟨0x0E01008, 566, 32, 1, 0⟩
  | .AGE_ISL_PLAN => ⟨0x0E01010, 566, 32, 1, 0⟩
  | .SEC_STAT => ⟨0x0F00000, 1, 0, 1, 0⟩
  | .SEC_CMD => ⟨0x0F00008, 1, 0, 1, 0⟩
  | .SEC_CMD_STAT => ⟨0x0F00010, 1, 0, 1, 0⟩
  | .SEC_QUOTE => ⟨0x0F00018, 1, 0, 1, 0⟩
  | .SEC_JTAG_ID => ⟨0x0F00020, 1, 0, 1, 0⟩
  | .SEC_TOKEN => ⟨0x0F00028, 1, 0, 1, 0⟩
  | .SEC_NONCE => ⟨0x0F00040, 1, 0, 4, 8⟩
  | .SEC_MEAS => ⟨0x0F00080, 1, 0, 6, 8⟩
  | .SEC_PUB => ⟨0x0F00100, 1, 0, 12, 8⟩
  | .SEC_SIG => ⟨0x0F00200, 1, 0, 12, 8⟩
  | .TIL_ID => ⟨0x1000000, 512, 16384, 1, 0⟩
  | .TIL_CTL => ⟨0x1000008, 512, 16384, 1, 0⟩
  | .TIL_STAT => ⟨0x1000010, 512, 16384, 1, 0⟩
  | .TIL_PC => ⟨0x1000018, 512, 16384, 1, 0⟩
  | .TIL_FPSTAT => ⟨0x1000020, 512, 16384, 1, 0⟩
  | .TIL_DQ => ⟨0x1000028, 512, 16384, 1, 0⟩
  | .TIL_STEALS => ⟨0x1000030, 512, 16384, 1, 0⟩
  | .TIL_ITEMS => ⟨0x1000038, 512, 16384, 1, 0⟩
  | .TIL_BUSY => ⟨0x1000040, 512, 16384, 1, 0⟩
  | .TIL_PERR => ⟨0x1000048, 512, 16384, 1, 0⟩
  | .TIL_SHF_STAT => ⟨0x1800000, 32, 4096, 1, 0⟩
  | .TIL_SHF_PERR => ⟨0x1800008, 32, 4096, 1, 0⟩
  | .ISL_ID => ⟨0x2000000, 566, 4096, 1, 0⟩
  | .ISL_CLK_CTL => ⟨0x2000008, 566, 4096, 1, 0⟩
  | .ISL_CLK_STAT => ⟨0x2000010, 566, 4096, 1, 0⟩
  | .ISL_XSTALL => ⟨0x2000018, 566, 4096, 1, 0⟩

/-- The fields of each register, by its field table. -/
def Reg.fields : Reg → List FieldSpec
  | .GLB_ID => [⟨48, 16, .RO, .val 19787⟩, ⟨32, 16, .RO, .val 49161⟩, ⟨16, 8, .RO, .fuse⟩, ⟨0, 2, .RO, .fuse⟩]
  | .GLB_SERIAL => [⟨0, 64, .RO, .fuse⟩]
  | .GLB_CFG => [⟨32, 32, .RO, .image⟩, ⟨5, 1, .RO, .image⟩, ⟨4, 1, .RO, .val 0⟩, ⟨1, 2, .RO, .image⟩, ⟨0, 1, .RO, .image⟩]
  | .GLB_STAT => [⟨24, 8, .RO, .val 0⟩, ⟨20, 4, .RO, .val 0⟩, ⟨16, 1, .RO, .val 0⟩, ⟨15, 1, .RO, .val 0⟩, ⟨14, 1, .RO, .val 0⟩, ⟨13, 1, .W1C, .val 0⟩, ⟨12, 1, .RO, .val 0⟩, ⟨11, 1, .RO, .val 0⟩, ⟨10, 1, .RO, .val 0⟩, ⟨9, 1, .RO, .val 0⟩, ⟨8, 1, .RO, .val 0⟩, ⟨0, 4, .RO, .val 1⟩]
  | .GLB_RESET => [⟨48, 16, .WO, .val 0⟩, ⟨0, 2, .WO, .val 0⟩]
  | .GLB_RESET_CAUSE => [⟨8, 8, .RO, .val 0⟩, ⟨0, 3, .RO, .rule⟩]
  | .GLB_STEP_MS => [⟨48, 16, .RO, .val 65535⟩, ⟨32, 16, .RO, .val 65535⟩, ⟨16, 16, .RO, .val 65535⟩, ⟨0, 16, .RO, .val 65535⟩]
  | .GLB_DISC_CTL => [⟨48, 16, .RW, .image⟩, ⟨44, 4, .RW, .val 4⟩, ⟨32, 8, .RW, .val 10⟩, ⟨16, 16, .RW, .image⟩, ⟨0, 16, .RW, .image⟩]
  | .GLB_DISC_STAT => [⟨32, 32, .RO, .val 0⟩, ⟨12, 12, .RO, .val 0⟩, ⟨0, 12, .RO, .val 0⟩]
  | .HST_CTL => [⟨16, 8, .RW, .image⟩, ⟨1, 1, .RW, .val 1⟩, ⟨0, 1, .RW, .image⟩]
  | .HST_STAT => [⟨8, 8, .RO, .val 0⟩, ⟨4, 4, .RO, .val 0⟩, ⟨2, 1, .RO, .val 0⟩, ⟨1, 1, .RO, .val 0⟩, ⟨0, 1, .RO, .val 0⟩]
  | .HST_ERR => [⟨7, 1, .W1C, .val 0⟩, ⟨6, 1, .W1C, .val 0⟩, ⟨5, 1, .W1C, .val 0⟩, ⟨4, 1, .W1C, .val 0⟩, ⟨3, 1, .W1C, .val 0⟩, ⟨2, 1, .W1C, .val 0⟩, ⟨1, 1, .W1C, .val 0⟩, ⟨0, 1, .W1C, .val 0⟩]
  | .HST_ERR_ADDR => [⟨0, 26, .RO, .val 0⟩]
  | .HST_SPILL => [⟨30, 34, .RW, .image⟩, ⟨0, 19, .RO, .val 0⟩]
  | .HST_STOP_POOL => [⟨16, 48, .RW, .image⟩]
  | .HST_APER => [⟨28, 20, .RW, .val 0⟩, ⟨0, 16, .RW, .val 10⟩]
  | .HST_APER_STAT => [⟨0, 8, .RO, .val 0⟩]
  | .HST_MCTP => [⟨8, 8, .RO, .val 0⟩, ⟨0, 7, .RW, .image⟩]
  | .HST_FN => [⟨15, 1, .RW, .rule⟩, ⟨14, 1, .RW, .val 0⟩, ⟨8, 6, .RW, .val 0⟩, ⟨0, 8, .RW, .val 255⟩]
  | .HST_REQ_BASE => [⟨12, 52, .RW, .val 0⟩]
  | .HST_REQ_CTL => [⟨63, 1, .RW, .val 0⟩, ⟨48, 5, .RW, .val 6⟩, ⟨16, 16, .RW, .val 0⟩, ⟨0, 16, .RW, .val 1⟩]
  | .HST_REQ_PTR => [⟨32, 1, .RO, .val 1⟩, ⟨16, 16, .RO, .val 0⟩, ⟨0, 16, .RO, .val 0⟩]
  | .HST_CPL_BASE => [⟨12, 52, .RW, .val 0⟩]
  | .HST_CPL_CTL => [⟨63, 1, .RW, .val 0⟩, ⟨48, 5, .RW, .val 6⟩, ⟨16, 16, .RW, .val 0⟩, ⟨0, 16, .RW, .val 1⟩]
  | .HST_CPL_PTR => [⟨32, 1, .RO, .val 1⟩, ⟨16, 16, .RO, .val 0⟩, ⟨0, 16, .RO, .val 0⟩]
  | .HST_RX_BASE => [⟨12, 52, .RW, .val 0⟩]
  | .HST_RX_CTL => [⟨63, 1, .RW, .val 0⟩, ⟨48, 5, .RW, .val 6⟩, ⟨16, 16, .RW, .val 0⟩, ⟨0, 16, .RW, .val 1⟩]
  | .HST_RX_PTR => [⟨32, 1, .RO, .val 1⟩, ⟨16, 16, .RO, .val 0⟩, ⟨0, 16, .RO, .val 0⟩]
  | .HST_TX_BASE => [⟨12, 52, .RW, .val 0⟩]
  | .HST_TX_CTL => [⟨63, 1, .RW, .val 0⟩, ⟨48, 5, .RW, .val 6⟩, ⟨16, 16, .RW, .val 0⟩, ⟨0, 16, .RW, .val 1⟩]
  | .HST_TX_PTR => [⟨32, 1, .RO, .val 1⟩, ⟨16, 16, .RO, .val 0⟩, ⟨0, 16, .RO, .val 0⟩]
  | .SCH_CTL => [⟨2, 1, .RW, .val 1⟩, ⟨1, 1, .RW, .val 1⟩, ⟨0, 1, .RW, .val 0⟩]
  | .SCH_PREEMPT => [⟨32, 24, .RW, .image⟩, ⟨8, 24, .RW, .image⟩, ⟨0, 8, .RW, .val 16⟩]
  | .SCH_SWAP => [⟨4, 4, .RW, .val 4⟩, ⟨0, 2, .RW, .val 1⟩]
  | .SCH_ITEM_LIMIT => [⟨0, 48, .RW, .val 0⟩]
  | .SCH_FAULT => [⟨0, 4, .RW, .val 3⟩]
  | .SCH_CTX_CMD => [⟨60, 4, .WO, .val 0⟩, ⟨44, 16, .WO, .val 0⟩, ⟨0, 18, .WO, .val 0⟩]
  | .SCH_CMD_STAT => [⟨32, 4, .RO, .val 0⟩, ⟨24, 7, .RO, .val 0⟩, ⟨0, 18, .RO, .val 0⟩]
  | .SCH_ERR => [⟨5, 1, .W1C, .val 0⟩, ⟨4, 1, .W1C, .val 0⟩, ⟨3, 1, .W1C, .val 0⟩, ⟨2, 1, .W1C, .val 0⟩, ⟨1, 1, .W1C, .val 0⟩, ⟨0, 1, .W1C, .val 0⟩]
  | .SCH_DONE0 => [⟨48, 16, .RC, .val 0⟩, ⟨32, 16, .RC, .val 0⟩, ⟨16, 16, .RC, .val 0⟩, ⟨0, 16, .RC, .val 0⟩]
  | .SCH_DONE1 => [⟨48, 16, .RC, .val 0⟩, ⟨16, 16, .RC, .val 0⟩, ⟨0, 16, .RC, .val 0⟩]
  | .SCH_PART_CTL => [⟨36, 1, .RW, .image⟩, ⟨32, 4, .RW, .val 1⟩, ⟨0, 32, .RW, .image⟩]
  | .SCH_STEP_CTL => [⟨48, 16, .RW, .image⟩, ⟨34, 14, .RW, .image⟩, ⟨20, 14, .RW, .image⟩, ⟨0, 13, .RW, .image⟩]
  | .SCH_IMAGE => [⟨16, 48, .RW, .image⟩]
  | .SCH_ENTRY => [⟨32, 32, .RW, .image⟩, ⟨0, 32, .RW, .image⟩]
  | .SCH_BATCH_BASE => [⟨16, 48, .RW, .image⟩]
  | .SCH_RATIO => [⟨40, 6, .RO, .rule⟩, ⟨32, 4, .RW, .val 4⟩, ⟨24, 4, .RW, .val 12⟩, ⟨16, 6, .RW, .image⟩, ⟨8, 6, .RW, .image⟩, ⟨0, 6, .RW, .image⟩]
  | .SCH_RATIO_STAT => [⟨36, 4, .RO, .val 0⟩, ⟨18, 17, .RO, .val 0⟩, ⟨0, 17, .RO, .rule⟩]
  | .SCH_STEP_NUM => [⟨0, 64, .RO, .val 0⟩]
  | .SCH_STEP_STAT => [⟨44, 17, .RO, .val 0⟩, ⟨32, 12, .RO, .val 0⟩, ⟨14, 14, .RO, .val 0⟩, ⟨0, 2, .RO, .val 0⟩]
  | .SCH_STEP_TIME => [⟨32, 32, .RC, .val 0⟩, ⟨0, 32, .RO, .val 0⟩]
  | .CTX_CTL => [⟨0, 1, .RW, .val 1⟩]
  | .CTX_LOG_POOL => [⟨16, 48, .RW, .image⟩]
  | .CTX_PT_POOL => [⟨16, 48, .RW, .image⟩]
  | .CTX_SIDE_POOL => [⟨16, 48, .RW, .image⟩]
  | .CTX_POOL_SIZE => [⟨40, 24, .RW, .image⟩, ⟨20, 20, .RW, .image⟩, ⟨0, 20, .RW, .image⟩]
  | .CTX_CNT => [⟨36, 18, .RO, .val 0⟩, ⟨18, 18, .RO, .val 0⟩, ⟨0, 18, .RO, .rule⟩]
  | .CTX_ERR => [⟨7, 1, .W1C, .val 0⟩, ⟨6, 1, .W1C, .val 0⟩, ⟨5, 1, .W1C, .val 0⟩, ⟨4, 1, .W1C, .val 0⟩, ⟨3, 1, .W1C, .val 0⟩, ⟨2, 1, .W1C, .val 0⟩, ⟨1, 1, .W1C, .val 0⟩, ⟨0, 1, .W1C, .val 0⟩]
  | .CTX_WALK => [⟨32, 32, .RC, .val 0⟩, ⟨0, 32, .RC, .val 0⟩]
  | .CTX_COW => [⟨0, 64, .RC, .val 0⟩]
  | .CTX_PEEK_SEL => [⟨0, 17, .RW, .val 0⟩]
  | .CTX_PEEK_W => [⟨0, 64, .RO, .val 0⟩]
  | .PFX_CTL => [⟨1, 1, .RW, .val 1⟩, ⟨0, 1, .RW, .val 1⟩]
  | .PFX_NODE_POOL => [⟨16, 48, .RW, .image⟩]
  | .PFX_IDX_POOL => [⟨16, 48, .RW, .image⟩]
  | .PFX_SHARE_POOL => [⟨16, 48, .RW, .image⟩]
  | .PFX_SIZE => [⟨24, 24, .RW, .image⟩, ⟨0, 22, .RW, .image⟩]
  | .PFX_USED => [⟨22, 1, .RO, .val 0⟩, ⟨0, 22, .RO, .val 0⟩]
  | .PFX_LOOKUPS => [⟨32, 32, .RC, .val 0⟩, ⟨0, 32, .RC, .val 0⟩]
  | .PFX_COLLIDE => [⟨32, 32, .RC, .val 0⟩, ⟨0, 32, .RC, .val 0⟩]
  | .PFX_EVICT => [⟨0, 64, .RC, .val 0⟩]
  | .PFX_INVAL => [⟨32, 1, .WO, .val 0⟩, ⟨0, 32, .WO, .val 0⟩]
  | .BNK_CTL => [⟨1, 1, .RW, .val 0⟩, ⟨0, 1, .RW, .val 1⟩]
  | .BNK_INBOX => [⟨16, 15, .RW, .image⟩, ⟨0, 16, .RW, .image⟩]
  | .BNK_ATTN_ENTRY => [⟨0, 32, .RW, .image⟩]
  | .BNK_PROG_BASE => [⟨16, 48, .RW, .image⟩]
  | .BNK_ATTN_CNT => [⟨32, 32, .RC, .val 0⟩, ⟨0, 32, .RC, .val 0⟩]
  | .BNK_ERR => [⟨5, 1, .W1C, .val 0⟩, ⟨4, 1, .W1C, .val 0⟩, ⟨3, 1, .W1C, .val 0⟩, ⟨2, 1, .W1C, .val 0⟩, ⟨1, 1, .W1C, .val 0⟩, ⟨0, 1, .W1C, .val 0⟩]
  | .BNK_REF_CTL => [⟨0, 3, .RW, .val 2⟩]
  | .BNK_STK_STAT => [⟨16, 7, .RO, .val 0⟩, ⟨8, 3, .RO, .val 0⟩, ⟨4, 1, .RO, .val 0⟩, ⟨3, 1, .RO, .val 0⟩, ⟨0, 2, .RO, .val 1⟩]
  | .BNK_STROKES => [⟨32, 32, .RC, .val 0⟩, ⟨0, 32, .RC, .val 0⟩]
  | .BNK_BUSY => [⟨0, 64, .RC, .val 0⟩]
  | .BNK_YIELD => [⟨40, 8, .RC, .val 0⟩, ⟨0, 40, .RC, .val 0⟩]
  | .BNK_LINE_ERR => [⟨0, 64, .RC, .val 0⟩]
  | .BNK_REFRESH => [⟨32, 3, .RC, .val 0⟩, ⟨0, 32, .RC, .val 0⟩]
  | .TIE_CTL => [⟨2, 8, .RW, .val 32⟩, ⟨1, 1, .RW, .val 1⟩, ⟨0, 1, .RW, .val 1⟩]
  | .TIE_OBJ_BASE => [⟨17, 47, .RW, .image⟩, ⟨0, 17, .RW, .image⟩]
  | .TIE_POOL_MARK => [⟨23, 23, .RW, .image⟩, ⟨0, 23, .RW, .image⟩]
  | .TIE_SLOW_MARK => [⟨32, 32, .RW, .image⟩, ⟨0, 32, .RW, .image⟩]
  | .TIE_POOL_STAT => [⟨32, 32, .RO, .val 0⟩, ⟨0, 32, .RO, .val 0⟩]
  | .TIE_HOST_CFG => [⟨0, 5, .RW, .val 0⟩]
  | .TIE_CMD0 => [⟨48, 16, .RW, .val 0⟩, ⟨32, 16, .RW, .val 0⟩, ⟨0, 18, .RW, .val 0⟩]
  | .TIE_CMD1 => [⟨60, 4, .WO, .val 0⟩, ⟨58, 2, .WO, .val 0⟩, ⟨54, 4, .WO, .val 0⟩, ⟨32, 22, .WO, .val 0⟩, ⟨0, 32, .WO, .val 0⟩]
  | .TIE_CMD_STAT => [⟨60, 4, .RO, .val 0⟩, ⟨40, 5, .RO, .val 0⟩, ⟨32, 8, .RO, .val 0⟩, ⟨0, 18, .RO, .val 0⟩]
  | .TIE_RECLAIM => [⟨48, 16, .RC, .val 0⟩, ⟨32, 16, .RC, .val 0⟩, ⟨0, 32, .RC, .val 0⟩]
  | .TIE_ERR => [⟨6, 1, .W1C, .val 0⟩, ⟨5, 1, .W1C, .val 0⟩, ⟨4, 1, .W1C, .val 0⟩, ⟨3, 1, .W1C, .val 0⟩, ⟨2, 1, .W1C, .val 0⟩, ⟨1, 1, .W1C, .val 0⟩, ⟨0, 1, .W1C, .val 0⟩]
  | .TIE_HOST_AREA => [⟨28, 36, .RW, .val 0⟩, ⟨0, 28, .RW, .val 0⟩]
  | .TIE_STK => [⟨21, 21, .RO, .val 0⟩, ⟨0, 21, .RW, .image⟩]
  | .TIE_WIN_CTL => [⟨63, 1, .RW, .image⟩, ⟨60, 3, .RW, .image⟩, ⟨59, 1, .RW, .image⟩, ⟨51, 8, .RW, .image⟩, ⟨43, 8, .RW, .image⟩, ⟨35, 8, .RW, .image⟩, ⟨17, 18, .RW, .image⟩, ⟨0, 17, .RW, .image⟩]
  | .TIE_WIN_SRC => [⟨32, 32, .RW, .image⟩, ⟨16, 16, .RW, .image⟩, ⟨0, 16, .RW, .image⟩]
  | .TIE_WIN_STAT => [⟨40, 24, .RC, .val 0⟩, ⟨32, 8, .RO, .val 0⟩, ⟨2, 30, .RC, .val 0⟩, ⟨0, 2, .RO, .val 0⟩]
  | .ROW_CTL => [⟨2, 1, .RW, .val 1⟩, ⟨1, 1, .RW, .val 1⟩, ⟨0, 1, .RW, .val 0⟩]
  | .ROW_CFG => [⟨16, 4, .RW, .val 3⟩, ⟨0, 16, .RW, .image⟩]
  | .ROW_TBL_BASE => [⟨16, 48, .RW, .image⟩]
  | .ROW_LOG_CFG => [⟨16, 16, .RW, .image⟩, ⟨0, 16, .RW, .image⟩]
  | .ROW_SHD_DIR => [⟨16, 24, .RW, .image⟩, ⟨0, 16, .RW, .image⟩]
  | .ROW_SHD => [⟨16, 32, .RO, .val 0⟩, ⟨0, 16, .RW, .image⟩]
  | .ROW_CMD0 => [⟨48, 16, .RW, .val 0⟩, ⟨46, 2, .RW, .val 0⟩, ⟨45, 1, .RW, .val 0⟩, ⟨0, 40, .RW, .val 0⟩]
  | .ROW_CMD1 => [⟨60, 4, .WO, .val 0⟩, ⟨0, 10, .WO, .val 0⟩]
  | .ROW_CMD_STAT => [⟨60, 4, .RO, .val 0⟩, ⟨40, 5, .RO, .val 0⟩, ⟨32, 8, .RO, .val 0⟩, ⟨0, 10, .RO, .val 0⟩]
  | .ROW_LOOKUPS => [⟨42, 22, .RC, .val 0⟩, ⟨21, 21, .RC, .val 0⟩, ⟨0, 21, .RC, .val 0⟩]
  | .ROW_UPDATES => [⟨42, 22, .RC, .val 0⟩, ⟨21, 21, .RC, .val 0⟩, ⟨0, 21, .RC, .val 0⟩]
  | .ROW_MOVES => [⟨48, 16, .RC, .val 0⟩, ⟨32, 16, .RC, .val 0⟩, ⟨16, 16, .RC, .val 0⟩, ⟨0, 16, .RC, .val 0⟩]
  | .ROW_APPLY => [⟨32, 32, .RC, .val 0⟩, ⟨0, 32, .RO, .val 0⟩]
  | .ROW_ERR => [⟨5, 1, .W1C, .val 0⟩, ⟨4, 1, .W1C, .val 0⟩, ⟨3, 1, .W1C, .val 0⟩, ⟨2, 1, .W1C, .val 0⟩, ⟨1, 1, .W1C, .val 0⟩, ⟨0, 1, .W1C, .val 0⟩]
  | .ROW_STAGE => [⟨0, 64, .RW, .val 0⟩]
  | .FLS_CTL => [⟨5, 1, .RW, .image⟩, ⟨4, 1, .RW, .val 1⟩, ⟨3, 1, .RW, .val 1⟩, ⟨2, 1, .RW, .val 1⟩, ⟨1, 1, .RW, .val 1⟩, ⟨0, 1, .RW, .image⟩]
  | .FLS_STAT => [⟨32, 16, .RO, .val 0⟩, ⟨7, 1, .RO, .val 0⟩, ⟨6, 1, .RO, .val 0⟩, ⟨0, 3, .RO, .val 0⟩]
  | .FLS_GEOM => [⟨44, 4, .RO, .val 0⟩, ⟨42, 2, .RO, .val 0⟩, ⟨40, 2, .RO, .val 0⟩, ⟨26, 14, .RO, .val 0⟩, ⟨13, 13, .RO, .val 0⟩, ⟨0, 13, .RO, .val 0⟩]
  | .FLS_FORMAT => [⟨32, 32, .RO, .val 0⟩, ⟨16, 16, .RW, .image⟩, ⟨0, 10, .RW, .image⟩]
  | .FLS_MAP => [⟨16, 48, .RW, .image⟩]
  | .FLS_RECLAIM => [⟨48, 16, .RW, .image⟩, ⟨40, 8, .RW, .val 4⟩, ⟨32, 8, .RW, .val 64⟩, ⟨16, 16, .RW, .image⟩, ⟨0, 16, .RW, .image⟩]
  | .FLS_REFRESH => [⟨40, 24, .RW, .image⟩, ⟨34, 6, .RW, .val 30⟩, ⟨24, 10, .RW, .image⟩, ⟨16, 8, .RW, .val 24⟩]
  | .FLS_CKPT => [⟨32, 32, .RW, .val 600⟩, ⟨16, 16, .RW, .image⟩, ⟨0, 16, .RW, .val 200⟩]
  | .FLS_CMD => [⟨60, 4, .WO, .val 0⟩, ⟨32, 4, .WO, .val 0⟩, ⟨28, 4, .WO, .val 0⟩, ⟨26, 2, .WO, .val 0⟩, ⟨12, 14, .WO, .val 0⟩]
  | .FLS_CMD_STAT => [⟨60, 4, .RO, .val 0⟩, ⟨32, 8, .RO, .val 0⟩, ⟨31, 1, .RO, .val 0⟩]
  | .FLS_ERR => [⟨8, 1, .W1C, .val 0⟩, ⟨7, 1, .W1C, .val 0⟩, ⟨6, 1, .W1C, .val 0⟩, ⟨5, 1, .W1C, .val 0⟩, ⟨4, 1, .W1C, .val 0⟩, ⟨3, 1, .W1C, .val 0⟩, ⟨2, 1, .W1C, .val 0⟩, ⟨1, 1, .W1C, .val 0⟩, ⟨0, 1, .W1C, .val 0⟩]
  | .FLS_HLOG_SNAP => [⟨0, 1, .WO, .val 0⟩]
  | .FLS_CH => [⟨44, 20, .RO, .val 0⟩, ⟨24, 20, .RO, .val 0⟩, ⟨4, 20, .RO, .val 0⟩]
  | .FLS_HLOG => [⟨0, 64, .RO, .val 0⟩]
  | .FAB_CTL => [⟨8, 8, .RW, .val 64⟩, ⟨3, 1, .RW, .val 1⟩, ⟨2, 1, .RW, .val 0⟩, ⟨1, 1, .RW, .image⟩, ⟨0, 1, .RW, .image⟩]
  | .FAB_NODE => [⟨0, 32, .RW, .image⟩]
  | .FAB_ADDR_HI => [⟨0, 64, .RW, .image⟩]
  | .FAB_ADDR_LO => [⟨0, 64, .RW, .image⟩]
  | .FAB_PEER_BASE => [⟨16, 48, .RW, .image⟩, ⟨0, 16, .RW, .image⟩]
  | .FAB_REGION_BASE => [⟨16, 48, .RW, .image⟩]
  | .FAB_MSG_CFG => [⟨16, 48, .RW, .image⟩, ⟨0, 14, .RW, .image⟩]
  | .FAB_TIMER0 => [⟨48, 16, .RW, .val 100⟩, ⟨32, 16, .RW, .val 20⟩, ⟨16, 16, .RW, .val 4000⟩, ⟨8, 8, .RW, .val 8⟩]
  | .FAB_TIMER1 => [⟨48, 16, .RW, .val 2000⟩, ⟨40, 8, .RW, .val 16⟩, ⟨24, 16, .RW, .val 4000⟩, ⟨8, 16, .RW, .val 20⟩]
  | .FAB_TIMER2 => [⟨48, 16, .RW, .val 20⟩, ⟨32, 16, .RW, .val 100⟩, ⟨24, 8, .RW, .val 10⟩, ⟨8, 16, .RW, .val 100⟩, ⟨0, 8, .RW, .val 10⟩]
  | .FAB_RATE0 => [⟨32, 32, .RW, .val 100000⟩, ⟨0, 32, .RW, .val 1000⟩]
  | .FAB_RATE1 => [⟨32, 32, .RW, .val 0x493E00⟩, ⟨16, 16, .RW, .val 2500⟩, ⟨8, 8, .RW, .val 8⟩, ⟨0, 8, .RW, .val 4⟩]
  | .FAB_SPRAY => [⟨48, 16, .RW, .val 49152⟩, ⟨24, 8, .RW, .val 4⟩, ⟨0, 24, .RW, .val 1000⟩]
  | .FAB_DSCP => [⟨0, 48, .RW, .val 0⟩]
  | .FAB_CMD0 => [⟨0, 64, .RW, .val 0⟩]
  | .FAB_CMD1 => [⟨32, 32, .RW, .val 0⟩, ⟨0, 32, .RW, .val 0⟩]
  | .FAB_CMD2 => [⟨60, 4, .WO, .val 0⟩, ⟨59, 1, .WO, .val 0⟩, ⟨58, 1, .WO, .val 0⟩, ⟨57, 1, .WO, .val 0⟩, ⟨54, 3, .WO, .val 0⟩, ⟨48, 6, .WO, .val 0⟩, ⟨47, 1, .WO, .val 0⟩, ⟨37, 10, .WO, .val 0⟩, ⟨16, 1, .WO, .val 0⟩, ⟨0, 16, .WO, .val 0⟩]
  | .FAB_CMD_STAT => [⟨60, 4, .RO, .val 0⟩, ⟨40, 5, .RO, .val 0⟩, ⟨32, 8, .RO, .val 0⟩, ⟨0, 32, .RO, .val 0⟩]
  | .FAB_ERR => [⟨7, 1, .W1C, .val 0⟩, ⟨6, 1, .W1C, .val 0⟩, ⟨5, 1, .W1C, .val 0⟩, ⟨4, 1, .W1C, .val 0⟩, ⟨3, 1, .W1C, .val 0⟩, ⟨2, 1, .W1C, .val 0⟩, ⟨1, 1, .W1C, .val 0⟩, ⟨0, 1, .W1C, .val 0⟩]
  | .FAB_PKTS => [⟨32, 32, .RC, .val 0⟩, ⟨0, 32, .RC, .val 0⟩]
  | .FAB_LOSS => [⟨32, 32, .RC, .val 0⟩, ⟨0, 32, .RC, .val 0⟩]
  | .FAB_REFUSED => [⟨32, 32, .RC, .val 0⟩, ⟨0, 32, .RC, .val 0⟩]
  | .FAB_TIME_ADJ => [⟨32, 32, .WO, .val 0⟩, ⟨0, 32, .RW, .val 0⟩]
  | .FAB_PORT_CTL => [⟨4, 12, .RW, .val 0⟩, ⟨0, 1, .RW, .image⟩]
  | .FAB_PORT_STAT => [⟨2, 1, .W1C, .val 0⟩, ⟨0, 2, .RO, .val 0⟩]
  | .FAB_PORT_GW => [⟨0, 48, .RW, .image⟩]
  | .FAB_PORT_TXTS => [⟨0, 64, .RO, .val 0⟩]
  | .FAB_PORT_TXSEQ => [⟨20, 1, .RC, .val 0⟩, ⟨16, 4, .RO, .val 0⟩, ⟨0, 16, .RO, .val 0⟩]
  | .FAB_PORT_CNT => [⟨32, 32, .RC, .val 0⟩, ⟨0, 32, .RC, .val 0⟩]
  | .SHP_CTL => [⟨0, 1, .RW, .val 1⟩]
  | .SHP_ERR => [⟨1, 1, .W1C, .val 0⟩, ⟨0, 1, .W1C, .val 0⟩]
  | .SHP_SUB_W => [⟨0, 64, .RW, .val 0x101010101010101⟩]
  | .SHP_PORT_CTL => [⟨32, 20, .RW, .val 80000⟩, ⟨2, 1, .RW, .val 0⟩, ⟨1, 1, .RW, .val 0⟩, ⟨0, 1, .RW, .val 0⟩]
  | .SHP_PRIV => [⟨24, 8, .RW, .val 48⟩, ⟨16, 8, .RW, .val 128⟩, ⟨8, 8, .RW, .val 64⟩, ⟨0, 8, .RW, .val 16⟩]
  | .SHP_GATE_CTL => [⟨60, 4, .RW, .val 0⟩, ⟨32, 16, .RW, .val 0⟩]
  | .SHP_GATE_BASE => [⟨0, 64, .RW, .val 0⟩]
  | .SHP_POL_CNT => [⟨32, 32, .RC, .val 0⟩, ⟨0, 32, .RC, .val 0⟩]
  | .SHP_CLASS => [⟨44, 20, .RW, .val 0⟩, ⟨16, 1, .RW, .val 0⟩, ⟨0, 16, .RW, .val 160⟩]
  | .SHP_GATE => [⟨32, 12, .RW, .val 4095⟩, ⟨0, 32, .RW, .val 0⟩]
  | .SHP_POL => [⟨40, 20, .RW, .val 800000⟩, ⟨20, 20, .RW, .val 800000⟩]
  | .SHP_PBURST => [⟨32, 32, .RW, .val 0x100000⟩, ⟨0, 32, .RW, .val 0x100000⟩]
  | .LAT_CTL => [⟨32, 16, .RW, .val 64⟩, ⟨8, 6, .RW, .image⟩, ⟨2, 1, .RW, .val 1⟩, ⟨1, 1, .RW, .image⟩, ⟨0, 1, .RW, .image⟩]
  | .LAT_STAT => [⟨7, 1, .RO, .val 0⟩, ⟨0, 7, .RO, .val 0⟩]
  | .LAT_SWITCH => [⟨0, 32, .RW, .image⟩]
  | .LAT_TIMER => [⟨48, 16, .RW, .val 50⟩, ⟨40, 8, .RW, .val 8⟩, ⟨24, 16, .RW, .val 1000⟩, ⟨16, 8, .RW, .val 10⟩]
  | .LAT_HOST => [⟨6, 10, .RW, .val 0⟩, ⟨0, 6, .RW, .val 0⟩]
  | .LAT_DOORBELL => [⟨0, 8, .WO, .val 0⟩]
  | .LAT_DOWN => [⟨0, 64, .RO, .val 0⟩]
  | .LAT_ERR => [⟨4, 1, .W1C, .val 0⟩, ⟨3, 1, .W1C, .val 0⟩, ⟨2, 1, .W1C, .val 0⟩, ⟨1, 1, .W1C, .val 0⟩, ⟨0, 1, .W1C, .val 0⟩]
  | .LAT_CNT => [⟨32, 32, .RC, .val 0⟩, ⟨0, 32, .RC, .val 0⟩]
  | .LAT_MEMBER => [⟨63, 1, .RW, .image⟩, ⟨61, 2, .RO, .val 0⟩, ⟨0, 16, .RW, .image⟩]
  | .LAT_WIN_BASE => [⟨0, 50, .RW, .val 0⟩]
  | .LAT_WIN_CTL => [⟨63, 1, .RW, .val 0⟩, ⟨62, 1, .RW, .val 0⟩, ⟨61, 1, .RW, .val 0⟩, ⟨60, 1, .RW, .val 0⟩, ⟨59, 1, .RW, .val 0⟩, ⟨49, 10, .RW, .val 0⟩, ⟨0, 34, .RW, .val 0⟩]
  | .LAT_RING => [⟨16, 48, .RW, .val 0⟩, ⟨0, 16, .RW, .val 0⟩]
  | .LAT_RING_HEAD => [⟨63, 1, .RW, .val 0⟩, ⟨0, 16, .RO, .val 0⟩]
  | .CMP_CTL => [⟨16, 48, .RW, .image⟩, ⟨0, 1, .RW, .image⟩]
  | .CMP_TIMER => [⟨32, 16, .RW, .val 50⟩, ⟨16, 16, .RW, .val 2⟩]
  | .CMP_CMD0 => [⟨48, 16, .RW, .val 0⟩, ⟨32, 10, .RW, .val 0⟩, ⟨0, 10, .RW, .val 0⟩]
  | .CMP_CMD1 => [⟨60, 4, .WO, .val 0⟩]
  | .CMP_STAGE => [⟨0, 64, .RW, .val 0⟩]
  | .CMP_CMD_STAT => [⟨60, 4, .RO, .val 0⟩, ⟨40, 5, .RO, .val 0⟩, ⟨32, 8, .RO, .val 0⟩, ⟨0, 10, .RO, .val 0⟩]
  | .CMP_ERR => [⟨2, 1, .W1C, .val 0⟩, ⟨1, 1, .W1C, .val 0⟩, ⟨0, 1, .W1C, .val 0⟩]
  | .CMP_SEL => [⟨0, 10, .RW, .val 0⟩]
  | .CMP_SEL_STAT => [⟨48, 16, .RO, .val 0⟩, ⟨32, 16, .RO, .val 0⟩, ⟨31, 1, .RO, .val 0⟩, ⟨30, 1, .RO, .val 0⟩, ⟨19, 11, .RO, .val 0⟩, ⟨0, 19, .RO, .val 0⟩]
  | .CMP_MTR_SNAP => [⟨1, 1, .RO, .val 0⟩, ⟨0, 1, .WO, .val 0⟩]
  | .CMP_MTR_TIME => [⟨0, 64, .RO, .val 0⟩]
  | .CMP_MTR => [⟨0, 64, .RO, .val 0⟩]
  | .TWN_CTL => [⟨32, 32, .RW, .image⟩, ⟨2, 1, .RW, .val 0⟩, ⟨1, 1, .RW, .val 0⟩, ⟨0, 1, .RW, .image⟩]
  | .TWN_LEAD => [⟨32, 32, .RO, .val 0⟩, ⟨27, 1, .RO, .val 0⟩, ⟨26, 1, .RO, .val 0⟩, ⟨25, 1, .RO, .val 0⟩, ⟨24, 1, .RO, .val 0⟩, ⟨12, 12, .RO, .fuse⟩, ⟨0, 12, .RO, .fuse⟩]
  | .TWN_TIMER => [⟨48, 16, .RW, .val 100⟩, ⟨32, 16, .RW, .val 2000⟩, ⟨16, 16, .RW, .val 500⟩, ⟨0, 16, .RW, .val 1000⟩]
  | .TWN_FENCE => [⟨16, 16, .RW, .val 20⟩, ⟨0, 16, .RW, .val 60⟩]
  | .TWN_CMD => [⟨60, 4, .WO, .val 0⟩, ⟨59, 1, .WO, .val 0⟩, ⟨58, 1, .WO, .val 0⟩]
  | .TWN_CMD_STAT => [⟨60, 4, .RO, .val 0⟩, ⟨32, 8, .RO, .val 0⟩, ⟨31, 1, .RO, .val 0⟩, ⟨0, 18, .RO, .val 0⟩]
  | .TWN_TAKE_BASE => [⟨16, 48, .RW, .image⟩]
  | .TWN_ERR => [⟨6, 1, .W1C, .val 0⟩, ⟨5, 1, .W1C, .val 0⟩, ⟨4, 1, .W1C, .val 0⟩, ⟨3, 1, .W1C, .val 0⟩, ⟨2, 1, .W1C, .val 0⟩, ⟨1, 1, .W1C, .val 0⟩, ⟨0, 1, .W1C, .val 0⟩]
  | .TWN_HS_STAT => [⟨8, 1, .RO, .val 0⟩, ⟨7, 1, .RO, .val 0⟩, ⟨4, 3, .RO, .val 7⟩, ⟨3, 1, .RO, .val 0⟩, ⟨2, 1, .RO, .val 0⟩, ⟨0, 2, .RO, .val 0⟩]
  | .TWN_HS_JSENT => [⟨0, 64, .RO, .val 0⟩]
  | .TWN_HS_JACKED => [⟨0, 64, .RO, .val 0⟩]
  | .TWN_HS_JAPPLIED => [⟨0, 64, .RO, .val 0⟩]
  | .TWN_HS_JBUF => [⟨16, 48, .RW, .image⟩, ⟨0, 16, .RW, .image⟩]
  | .TWN_HS_MIRROR => [⟨16, 48, .RW, .image⟩, ⟨0, 16, .RW, .image⟩]
  | .TWN_HS_CNT => [⟨48, 16, .RC, .val 0⟩, ⟨32, 16, .RC, .val 0⟩, ⟨0, 32, .RC, .val 0⟩]
  | .INT_CTL => [⟨8, 16, .RW, .val 168⟩, ⟨6, 2, .RW, .val 1⟩, ⟨3, 1, .RW, .val 1⟩, ⟨2, 1, .RW, .val 1⟩, ⟨1, 1, .RW, .val 1⟩, ⟨0, 1, .RW, .val 0⟩]
  | .INT_LOG_BASE => [⟨16, 48, .RW, .image⟩, ⟨0, 5, .RW, .image⟩]
  | .INT_LOG_HEAD => [⟨0, 20, .RW, .val 0⟩]
  | .INT_LOG_STAT => [⟨32, 32, .RC, .val 0⟩, ⟨0, 20, .RO, .val 0⟩]
  | .INT_TEST => [⟨32, 16, .RW, .val 24⟩, ⟨0, 32, .RW, .val 20000⟩]
  | .INT_TEST_STAT => [⟨32, 32, .RC, .val 0⟩, ⟨0, 32, .RC, .val 0⟩]
  | .INT_SCRUB => [⟨0, 16, .RW, .val 24⟩]
  | .INT_CMD => [⟨60, 4, .WO, .val 0⟩, ⟨0, 18, .WO, .val 0⟩]
  | .INT_CMD_STAT => [⟨60, 4, .RO, .val 0⟩, ⟨32, 8, .RO, .val 0⟩, ⟨31, 1, .RO, .val 0⟩]
  | .INT_LINE_CNT => [⟨32, 32, .RC, .val 0⟩, ⟨0, 32, .RC, .val 0⟩]
  | .INT_POISON => [⟨32, 32, .RO, .val 0⟩, ⟨0, 32, .RO, .val 0⟩]
  | .INT_REPAIR => [⟨32, 13, .RO, .val 4602⟩, ⟨0, 32, .RC, .val 0⟩]
  | .INT_ERR => [⟨2, 1, .W1C, .val 0⟩, ⟨1, 1, .W1C, .val 0⟩, ⟨0, 1, .W1C, .val 0⟩]
  | .AGE_CTL => [⟨2, 16, .RW, .val 60⟩, ⟨1, 1, .RW, .val 1⟩, ⟨0, 1, .RW, .val 1⟩]
  | .AGE_PLAN => [⟨16, 16, .RW, .val 168⟩, ⟨8, 8, .RW, .val 12⟩, ⟨0, 8, .RW, .val 40⟩]
  | .AGE_STAT => [⟨48, 16, .RO, .val 0⟩, ⟨32, 16, .RC, .val 0⟩, ⟨0, 32, .RC, .val 0⟩]
  | .AGE_ISL_FUSE => [⟨32, 8, .RO, .fuse⟩, ⟨16, 16, .RO, .fuse⟩, ⟨0, 16, .RO, .fuse⟩]
  | .AGE_ISL_NOW => [⟨48, 16, .RO, .val 0⟩, ⟨32, 16, .RO, .val 0⟩, ⟨0, 16, .RO, .val 0⟩]
  | .AGE_ISL_PLAN => [⟨28, 16, .RO, .val 0⟩, ⟨16, 12, .RO, .rule⟩, ⟨0, 4, .RO, .image⟩]
  | .SEC_STAT => [⟨10, 6, .RO, .image⟩, ⟨4, 6, .RO, .fuse⟩, ⟨3, 1, .W1C, .val 0⟩, ⟨2, 1, .RO, .fuse⟩, ⟨1, 1, .RO, .val 0⟩, ⟨0, 1, .RO, .val 0⟩]
  | .SEC_CMD => [⟨48, 16, .WO, .val 0⟩, ⟨0, 4, .WO, .val 0⟩]
  | .SEC_CMD_STAT => [⟨60, 4, .RO, .val 0⟩, ⟨31, 1, .RO, .val 0⟩]
  | .SEC_QUOTE => [⟨1, 1, .RO, .val 0⟩, ⟨0, 1, .WO, .val 0⟩]
  | .SEC_JTAG_ID => [⟨28, 4, .RO, .fuse⟩, ⟨12, 16, .RO, .val 49161⟩, ⟨1, 11, .RO, .fuse⟩, ⟨0, 1, .RO, .val 1⟩]
  | .SEC_TOKEN => [⟨6, 58, .RW, .val 0⟩]
  | .SEC_NONCE => [⟨0, 64, .RW, .val 0⟩]
  | .SEC_MEAS => [⟨0, 64, .RO, .val 0⟩]
  | .SEC_PUB => [⟨0, 64, .RO, .val 0⟩]
  | .SEC_SIG => [⟨0, 64, .RO, .val 0⟩]
  | .TIL_ID => [⟨14, 1, .RO, .rule⟩, ⟨9, 5, .RO, .rule⟩, ⟨0, 9, .RO, .rule⟩]
  | .TIL_CTL => [⟨1, 2, .RW, .val 0⟩, ⟨0, 1, .RW, .val 1⟩]
  | .TIL_STAT => [⟨8, 4, .RO, .val 0⟩, ⟨5, 1, .RO, .val 0⟩, ⟨4, 1, .RO, .val 0⟩, ⟨0, 3, .RO, .val 0⟩]
  | .TIL_PC => [⟨0, 64, .RO, .val 0⟩]
  | .TIL_FPSTAT => [⟨4, 1, .W1C, .val 0⟩, ⟨3, 1, .W1C, .val 0⟩, ⟨2, 1, .W1C, .val 0⟩, ⟨1, 1, .W1C, .val 0⟩, ⟨0, 1, .W1C, .val 0⟩]
  | .TIL_DQ => [⟨0, 7, .RO, .val 0⟩]
  | .TIL_STEALS => [⟨48, 16, .RC, .val 0⟩, ⟨32, 16, .RC, .val 0⟩, ⟨16, 16, .RC, .val 0⟩, ⟨0, 16, .RC, .val 0⟩]
  | .TIL_ITEMS => [⟨0, 64, .RC, .val 0⟩]
  | .TIL_BUSY => [⟨0, 64, .RC, .val 0⟩]
  | .TIL_PERR => [⟨0, 64, .RC, .val 0⟩]
  | .TIL_SHF_STAT => [⟨16, 12, .RO, .val 0⟩, ⟨0, 11, .RO, .val 0⟩]
  | .TIL_SHF_PERR => [⟨0, 64, .RC, .val 0⟩]
  | .ISL_ID => [⟨13, 3, .RO, .rule⟩, ⟨12, 1, .RO, .rule⟩, ⟨0, 10, .RO, .rule⟩]
  | .ISL_CLK_CTL => [⟨0, 12, .RW, .rule⟩]
  | .ISL_CLK_STAT => [⟨36, 12, .RO, .rule⟩, ⟨24, 12, .RO, .rule⟩, ⟨12, 12, .RO, .rule⟩, ⟨4, 1, .W1C, .val 0⟩, ⟨3, 1, .RO, .val 0⟩, ⟨0, 3, .RO, .val 0⟩]
  | .ISL_XSTALL => [⟨0, 64, .RC, .val 0⟩]

/-- A field of a register by name. -/
structure Fld where
  reg : Reg
  lo : Nat
  w : Nat
  deriving DecidableEq, Repr

namespace F

def GLB_ID_VENDOR : Fld := ⟨.GLB_ID, 48, 16⟩
def GLB_ID_PART : Fld := ⟨.GLB_ID, 32, 16⟩
def GLB_ID_STEPPING : Fld := ⟨.GLB_ID, 16, 8⟩
def GLB_ID_GRADE : Fld := ⟨.GLB_ID, 0, 2⟩
def GLB_SERIAL_SERIAL : Fld := ⟨.GLB_SERIAL, 0, 64⟩
def GLB_CFG_IMAGE_VER : Fld := ⟨.GLB_CFG, 32, 32⟩
def GLB_CFG_PERST_SCOPE : Fld := ⟨.GLB_CFG, 5, 1⟩
def GLB_CFG_IMAGE_SLOT : Fld := ⟨.GLB_CFG, 4, 1⟩
def GLB_CFG_ROLE : Fld := ⟨.GLB_CFG, 1, 2⟩
def GLB_CFG_CONFIG : Fld := ⟨.GLB_CFG, 0, 1⟩
def GLB_STAT_STACKS : Fld := ⟨.GLB_STAT, 24, 8⟩
def GLB_STAT_FAIL_STEP : Fld := ⟨.GLB_STAT, 20, 4⟩
def GLB_STAT_NO_REG : Fld := ⟨.GLB_STAT, 16, 1⟩
def GLB_STAT_DISC_LATE : Fld := ⟨.GLB_STAT, 15, 1⟩
def GLB_STAT_DISCOVERED : Fld := ⟨.GLB_STAT, 14, 1⟩
def GLB_STAT_EARLY_WRITE : Fld := ⟨.GLB_STAT, 13, 1⟩
def GLB_STAT_PORT_MISSING : Fld := ⟨.GLB_STAT, 12, 1⟩
def GLB_STAT_D2D_DOWN : Fld := ⟨.GLB_STAT, 11, 1⟩
def GLB_STAT_STACK_LOST : Fld := ⟨.GLB_STAT, 10, 1⟩
def GLB_STAT_BOOT_ALT : Fld := ⟨.GLB_STAT, 9, 1⟩
def GLB_STAT_CONFIG_ERR : Fld := ⟨.GLB_STAT, 8, 1⟩
def GLB_STAT_PHASE : Fld := ⟨.GLB_STAT, 0, 4⟩
def GLB_RESET_CONFIRM : Fld := ⟨.GLB_RESET, 48, 16⟩
def GLB_RESET_KIND : Fld := ⟨.GLB_RESET, 0, 2⟩
def GLB_RESET_CAUSE_HALF_COUNT : Fld := ⟨.GLB_RESET_CAUSE, 8, 8⟩
def GLB_RESET_CAUSE_CAUSE : Fld := ⟨.GLB_RESET_CAUSE, 0, 3⟩
def GLB_STEP_MS_STEP_D : Fld := ⟨.GLB_STEP_MS, 48, 16⟩
def GLB_STEP_MS_STEP_C : Fld := ⟨.GLB_STEP_MS, 32, 16⟩
def GLB_STEP_MS_STEP_B : Fld := ⟨.GLB_STEP_MS, 16, 16⟩
def GLB_STEP_MS_STEP_A : Fld := ⟨.GLB_STEP_MS, 0, 16⟩
def GLB_DISC_CTL_SLOTS : Fld := ⟨.GLB_DISC_CTL, 48, 16⟩
def GLB_DISC_CTL_TRIES : Fld := ⟨.GLB_DISC_CTL, 44, 4⟩
def GLB_DISC_CTL_HB_S : Fld := ⟨.GLB_DISC_CTL, 32, 8⟩
def GLB_DISC_CTL_REG1 : Fld := ⟨.GLB_DISC_CTL, 16, 16⟩
def GLB_DISC_CTL_REG0 : Fld := ⟨.GLB_DISC_CTL, 0, 16⟩
def GLB_DISC_STAT_REG_MS : Fld := ⟨.GLB_DISC_STAT, 32, 32⟩
def GLB_DISC_STAT_SLOT : Fld := ⟨.GLB_DISC_STAT, 12, 12⟩
def GLB_DISC_STAT_FRAMES : Fld := ⟨.GLB_DISC_STAT, 0, 12⟩
def HST_CTL_TAKE_RING : Fld := ⟨.HST_CTL, 16, 8⟩
def HST_CTL_ATS_HOST : Fld := ⟨.HST_CTL, 1, 1⟩
def HST_CTL_EN : Fld := ⟨.HST_CTL, 0, 1⟩
def HST_STAT_WIDTH : Fld := ⟨.HST_STAT, 8, 8⟩
def HST_STAT_SPEED : Fld := ⟨.HST_STAT, 4, 4⟩
def HST_STAT_NO_FLIT : Fld := ⟨.HST_STAT, 2, 1⟩
def HST_STAT_FLIT : Fld := ⟨.HST_STAT, 1, 1⟩
def HST_STAT_UP : Fld := ⟨.HST_STAT, 0, 1⟩
def HST_ERR_RX_LOST : Fld := ⟨.HST_ERR, 7, 1⟩
def HST_ERR_SPILL : Fld := ⟨.HST_ERR, 6, 1⟩
def HST_ERR_ATS : Fld := ⟨.HST_ERR, 5, 1⟩
def HST_ERR_APER : Fld := ⟨.HST_ERR, 4, 1⟩
def HST_ERR_RING_CFG : Fld := ⟨.HST_ERR, 3, 1⟩
def HST_ERR_DOORBELL : Fld := ⟨.HST_ERR, 2, 1⟩
def HST_ERR_TOKEN_GAP : Fld := ⟨.HST_ERR, 1, 1⟩
def HST_ERR_REG_ACCESS : Fld := ⟨.HST_ERR, 0, 1⟩
def HST_ERR_ADDR_ADDR : Fld := ⟨.HST_ERR_ADDR, 0, 26⟩
def HST_SPILL_BASE : Fld := ⟨.HST_SPILL, 30, 34⟩
def HST_SPILL_COUNT : Fld := ⟨.HST_SPILL, 0, 19⟩
def HST_STOP_POOL_BASE : Fld := ⟨.HST_STOP_POOL, 16, 48⟩
def HST_APER_BASE : Fld := ⟨.HST_APER, 28, 20⟩
def HST_APER_TIMEOUT_MS : Fld := ⟨.HST_APER, 0, 16⟩
def HST_APER_STAT_STATUS : Fld := ⟨.HST_APER_STAT, 0, 8⟩
def HST_MCTP_EID : Fld := ⟨.HST_MCTP, 8, 8⟩
def HST_MCTP_SMBUS_ADDR : Fld := ⟨.HST_MCTP, 0, 7⟩
def HST_FN_OPEN_EN : Fld := ⟨.HST_FN, 15, 1⟩
def HST_FN_TENANT_FIX : Fld := ⟨.HST_FN, 14, 1⟩
def HST_FN_TENANT : Fld := ⟨.HST_FN, 8, 6⟩
def HST_FN_PARTS : Fld := ⟨.HST_FN, 0, 8⟩
def HST_REQ_BASE_BASE : Fld := ⟨.HST_REQ_BASE, 12, 52⟩
def HST_REQ_CTL_EN : Fld := ⟨.HST_REQ_CTL, 63, 1⟩
def HST_REQ_CTL_SIZE : Fld := ⟨.HST_REQ_CTL, 48, 5⟩
def HST_REQ_CTL_COAL_US : Fld := ⟨.HST_REQ_CTL, 16, 16⟩
def HST_REQ_CTL_COAL_N : Fld := ⟨.HST_REQ_CTL, 0, 16⟩
def HST_REQ_PTR_PHASE : Fld := ⟨.HST_REQ_PTR, 32, 1⟩
def HST_REQ_PTR_DEV : Fld := ⟨.HST_REQ_PTR, 16, 16⟩
def HST_REQ_PTR_HOST : Fld := ⟨.HST_REQ_PTR, 0, 16⟩
def HST_CPL_BASE_BASE : Fld := ⟨.HST_CPL_BASE, 12, 52⟩
def HST_CPL_CTL_EN : Fld := ⟨.HST_CPL_CTL, 63, 1⟩
def HST_CPL_CTL_SIZE : Fld := ⟨.HST_CPL_CTL, 48, 5⟩
def HST_CPL_CTL_COAL_US : Fld := ⟨.HST_CPL_CTL, 16, 16⟩
def HST_CPL_CTL_COAL_N : Fld := ⟨.HST_CPL_CTL, 0, 16⟩
def HST_CPL_PTR_PHASE : Fld := ⟨.HST_CPL_PTR, 32, 1⟩
def HST_CPL_PTR_DEV : Fld := ⟨.HST_CPL_PTR, 16, 16⟩
def HST_CPL_PTR_HOST : Fld := ⟨.HST_CPL_PTR, 0, 16⟩
def HST_RX_BASE_BASE : Fld := ⟨.HST_RX_BASE, 12, 52⟩
def HST_RX_CTL_EN : Fld := ⟨.HST_RX_CTL, 63, 1⟩
def HST_RX_CTL_SIZE : Fld := ⟨.HST_RX_CTL, 48, 5⟩
def HST_RX_CTL_COAL_US : Fld := ⟨.HST_RX_CTL, 16, 16⟩
def HST_RX_CTL_COAL_N : Fld := ⟨.HST_RX_CTL, 0, 16⟩
def HST_RX_PTR_PHASE : Fld := ⟨.HST_RX_PTR, 32, 1⟩
def HST_RX_PTR_DEV : Fld := ⟨.HST_RX_PTR, 16, 16⟩
def HST_RX_PTR_HOST : Fld := ⟨.HST_RX_PTR, 0, 16⟩
def HST_TX_BASE_BASE : Fld := ⟨.HST_TX_BASE, 12, 52⟩
def HST_TX_CTL_EN : Fld := ⟨.HST_TX_CTL, 63, 1⟩
def HST_TX_CTL_SIZE : Fld := ⟨.HST_TX_CTL, 48, 5⟩
def HST_TX_CTL_COAL_US : Fld := ⟨.HST_TX_CTL, 16, 16⟩
def HST_TX_CTL_COAL_N : Fld := ⟨.HST_TX_CTL, 0, 16⟩
def HST_TX_PTR_PHASE : Fld := ⟨.HST_TX_PTR, 32, 1⟩
def HST_TX_PTR_DEV : Fld := ⟨.HST_TX_PTR, 16, 16⟩
def HST_TX_PTR_HOST : Fld := ⟨.HST_TX_PTR, 0, 16⟩
def SCH_CTL_SWAP_EN : Fld := ⟨.SCH_CTL, 2, 1⟩
def SCH_CTL_PREEMPT_EN : Fld := ⟨.SCH_CTL, 1, 1⟩
def SCH_CTL_RUN : Fld := ⟨.SCH_CTL, 0, 1⟩
def SCH_PREEMPT_FRAME_HIGH : Fld := ⟨.SCH_PREEMPT, 32, 24⟩
def SCH_PREEMPT_FRAME_LOW : Fld := ⟨.SCH_PREEMPT, 8, 24⟩
def SCH_PREEMPT_PREEMPT_MAX : Fld := ⟨.SCH_PREEMPT, 0, 8⟩
def SCH_SWAP_PAR : Fld := ⟨.SCH_SWAP, 4, 4⟩
def SCH_SWAP_TIER : Fld := ⟨.SCH_SWAP, 0, 2⟩
def SCH_ITEM_LIMIT_LIMIT : Fld := ⟨.SCH_ITEM_LIMIT, 0, 48⟩
def SCH_FAULT_CHUNK_RETRY : Fld := ⟨.SCH_FAULT, 0, 4⟩
def SCH_CTX_CMD_OP : Fld := ⟨.SCH_CTX_CMD, 60, 4⟩
def SCH_CTX_CMD_INCARNATION : Fld := ⟨.SCH_CTX_CMD, 44, 16⟩
def SCH_CTX_CMD_CTX : Fld := ⟨.SCH_CTX_CMD, 0, 18⟩
def SCH_CMD_STAT_RESULT : Fld := ⟨.SCH_CMD_STAT, 32, 4⟩
def SCH_CMD_STAT_QUEUED : Fld := ⟨.SCH_CMD_STAT, 24, 7⟩
def SCH_CMD_STAT_CTX : Fld := ⟨.SCH_CMD_STAT, 0, 18⟩
def SCH_ERR_NO_TOKEN : Fld := ⟨.SCH_ERR, 5, 1⟩
def SCH_ERR_CHUNK_HELD : Fld := ⟨.SCH_ERR, 4, 1⟩
def SCH_ERR_SWAP_FAIL : Fld := ⟨.SCH_ERR, 3, 1⟩
def SCH_ERR_CMD_FULL : Fld := ⟨.SCH_ERR, 2, 1⟩
def SCH_ERR_STEP_CFG : Fld := ⟨.SCH_ERR, 1, 1⟩
def SCH_ERR_PART_CFG : Fld := ⟨.SCH_ERR, 0, 1⟩
def SCH_DONE0_DEADLINE : Fld := ⟨.SCH_DONE0, 48, 16⟩
def SCH_DONE0_CANCELLED : Fld := ⟨.SCH_DONE0, 32, 16⟩
def SCH_DONE0_FINISHED_LENGTH : Fld := ⟨.SCH_DONE0, 16, 16⟩
def SCH_DONE0_FINISHED_STOP : Fld := ⟨.SCH_DONE0, 0, 16⟩
def SCH_DONE1_LATE : Fld := ⟨.SCH_DONE1, 48, 16⟩
def SCH_DONE1_FAULTED : Fld := ⟨.SCH_DONE1, 16, 16⟩
def SCH_DONE1_EVICTED : Fld := ⟨.SCH_DONE1, 0, 16⟩
def SCH_PART_CTL_EN : Fld := ⟨.SCH_PART_CTL, 36, 1⟩
def SCH_PART_CTL_WEIGHT : Fld := ⟨.SCH_PART_CTL, 32, 4⟩
def SCH_PART_CTL_SHEAVES : Fld := ⟨.SCH_PART_CTL, 0, 32⟩
def SCH_STEP_CTL_TOKEN_MAX : Fld := ⟨.SCH_STEP_CTL, 48, 16⟩
def SCH_STEP_CTL_CHUNK_MAX : Fld := ⟨.SCH_STEP_CTL, 34, 14⟩
def SCH_STEP_CTL_CHUNK_MIN : Fld := ⟨.SCH_STEP_CTL, 20, 14⟩
def SCH_STEP_CTL_BATCH_MAX : Fld := ⟨.SCH_STEP_CTL, 0, 13⟩
def SCH_IMAGE_BASE : Fld := ⟨.SCH_IMAGE, 16, 48⟩
def SCH_ENTRY_CHUNK : Fld := ⟨.SCH_ENTRY, 32, 32⟩
def SCH_ENTRY_DECODE : Fld := ⟨.SCH_ENTRY, 0, 32⟩
def SCH_BATCH_BASE_BASE : Fld := ⟨.SCH_BATCH_BASE, 16, 48⟩
def SCH_RATIO_P_NOW : Fld := ⟨.SCH_RATIO, 40, 6⟩
def SCH_RATIO_DWELL : Fld := ⟨.SCH_RATIO, 32, 4⟩
def SCH_RATIO_HYST : Fld := ⟨.SCH_RATIO, 24, 4⟩
def SCH_RATIO_P_MAX : Fld := ⟨.SCH_RATIO, 16, 6⟩
def SCH_RATIO_P_MIN : Fld := ⟨.SCH_RATIO, 8, 6⟩
def SCH_RATIO_P_INIT : Fld := ⟨.SCH_RATIO, 0, 6⟩
def SCH_RATIO_STAT_COUNT : Fld := ⟨.SCH_RATIO_STAT, 36, 4⟩
def SCH_RATIO_STAT_X : Fld := ⟨.SCH_RATIO_STAT, 18, 17⟩
def SCH_RATIO_STAT_F : Fld := ⟨.SCH_RATIO_STAT, 0, 17⟩
def SCH_STEP_NUM_STEP : Fld := ⟨.SCH_STEP_NUM, 0, 64⟩
def SCH_STEP_STAT_CHUNK_TOKENS : Fld := ⟨.SCH_STEP_STAT, 44, 17⟩
def SCH_STEP_STAT_CHUNKS : Fld := ⟨.SCH_STEP_STAT, 32, 12⟩
def SCH_STEP_STAT_DECODE : Fld := ⟨.SCH_STEP_STAT, 14, 14⟩
def SCH_STEP_STAT_PHASE : Fld := ⟨.SCH_STEP_STAT, 0, 2⟩
def SCH_STEP_TIME_MAX : Fld := ⟨.SCH_STEP_TIME, 32, 32⟩
def SCH_STEP_TIME_LAST : Fld := ⟨.SCH_STEP_TIME, 0, 32⟩
def CTX_CTL_OPEN_EN : Fld := ⟨.CTX_CTL, 0, 1⟩
def CTX_LOG_POOL_BASE : Fld := ⟨.CTX_LOG_POOL, 16, 48⟩
def CTX_PT_POOL_BASE : Fld := ⟨.CTX_PT_POOL, 16, 48⟩
def CTX_SIDE_POOL_BASE : Fld := ⟨.CTX_SIDE_POOL, 16, 48⟩
def CTX_POOL_SIZE_SIDE : Fld := ⟨.CTX_POOL_SIZE, 40, 24⟩
def CTX_POOL_SIZE_PT : Fld := ⟨.CTX_POOL_SIZE, 20, 20⟩
def CTX_POOL_SIZE_LOG : Fld := ⟨.CTX_POOL_SIZE, 0, 20⟩
def CTX_CNT_THIRD : Fld := ⟨.CTX_CNT, 36, 18⟩
def CTX_CNT_SECOND : Fld := ⟨.CTX_CNT, 18, 18⟩
def CTX_CNT_FIRST : Fld := ⟨.CTX_CNT, 0, 18⟩
def CTX_ERR_SHARE_MAX : Fld := ⟨.CTX_ERR, 7, 1⟩
def CTX_ERR_POOL_BUSY : Fld := ⟨.CTX_ERR, 6, 1⟩
def CTX_ERR_LOG_CHECK : Fld := ⟨.CTX_ERR, 5, 1⟩
def CTX_ERR_FRAME_FULL : Fld := ⟨.CTX_ERR, 4, 1⟩
def CTX_ERR_SIDE_FULL : Fld := ⟨.CTX_ERR, 3, 1⟩
def CTX_ERR_PT_FULL : Fld := ⟨.CTX_ERR, 2, 1⟩
def CTX_ERR_LOG_FULL : Fld := ⟨.CTX_ERR, 1, 1⟩
def CTX_ERR_NO_DESC : Fld := ⟨.CTX_ERR, 0, 1⟩
def CTX_WALK_MISSES : Fld := ⟨.CTX_WALK, 32, 32⟩
def CTX_WALK_HITS : Fld := ⟨.CTX_WALK, 0, 32⟩
def CTX_COW_COUNT : Fld := ⟨.CTX_COW, 0, 64⟩
def CTX_PEEK_SEL_INDEX : Fld := ⟨.CTX_PEEK_SEL, 0, 17⟩
def CTX_PEEK_W_WORD : Fld := ⟨.CTX_PEEK_W, 0, 64⟩
def PFX_CTL_PUBLISH_EN : Fld := ⟨.PFX_CTL, 1, 1⟩
def PFX_CTL_LOOKUP_EN : Fld := ⟨.PFX_CTL, 0, 1⟩
def PFX_NODE_POOL_BASE : Fld := ⟨.PFX_NODE_POOL, 16, 48⟩
def PFX_IDX_POOL_BASE : Fld := ⟨.PFX_IDX_POOL, 16, 48⟩
def PFX_SHARE_POOL_BASE : Fld := ⟨.PFX_SHARE_POOL, 16, 48⟩
def PFX_SIZE_BUCKETS : Fld := ⟨.PFX_SIZE, 24, 24⟩
def PFX_SIZE_NODES : Fld := ⟨.PFX_SIZE, 0, 22⟩
def PFX_USED_INVAL_BUSY : Fld := ⟨.PFX_USED, 22, 1⟩
def PFX_USED_NODES_USED : Fld := ⟨.PFX_USED, 0, 22⟩
def PFX_LOOKUPS_MATCHED : Fld := ⟨.PFX_LOOKUPS, 32, 32⟩
def PFX_LOOKUPS_LOOKUPS : Fld := ⟨.PFX_LOOKUPS, 0, 32⟩
def PFX_COLLIDE_PUBLISH_REFUSED : Fld := ⟨.PFX_COLLIDE, 32, 32⟩
def PFX_COLLIDE_HASH : Fld := ⟨.PFX_COLLIDE, 0, 32⟩
def PFX_EVICT_COUNT : Fld := ⟨.PFX_EVICT, 0, 64⟩
def PFX_INVAL_GO : Fld := ⟨.PFX_INVAL, 32, 1⟩
def PFX_INVAL_NAMESPACE : Fld := ⟨.PFX_INVAL, 0, 32⟩
def BNK_CTL_INBOX_EN : Fld := ⟨.BNK_CTL, 1, 1⟩
def BNK_CTL_STROKE_EN : Fld := ⟨.BNK_CTL, 0, 1⟩
def BNK_INBOX_SLOTS : Fld := ⟨.BNK_INBOX, 16, 15⟩
def BNK_INBOX_REGION : Fld := ⟨.BNK_INBOX, 0, 16⟩
def BNK_ATTN_ENTRY_ENTRY : Fld := ⟨.BNK_ATTN_ENTRY, 0, 32⟩
def BNK_PROG_BASE_BASE : Fld := ⟨.BNK_PROG_BASE, 16, 48⟩
def BNK_ATTN_CNT_REFUSED : Fld := ⟨.BNK_ATTN_CNT, 32, 32⟩
def BNK_ATTN_CNT_SERVED : Fld := ⟨.BNK_ATTN_CNT, 0, 32⟩
def BNK_ERR_CFG_BUSY : Fld := ⟨.BNK_ERR, 5, 1⟩
def BNK_ERR_SPLIT : Fld := ⟨.BNK_ERR, 4, 1⟩
def BNK_ERR_NO_FRAME : Fld := ⟨.BNK_ERR, 3, 1⟩
def BNK_ERR_KV_BAD : Fld := ⟨.BNK_ERR, 2, 1⟩
def BNK_ERR_ORDER : Fld := ⟨.BNK_ERR, 1, 1⟩
def BNK_ERR_MALFORMED : Fld := ⟨.BNK_ERR, 0, 1⟩
def BNK_REF_CTL_DEFER : Fld := ⟨.BNK_REF_CTL, 0, 3⟩
def BNK_STK_STAT_QUEUE : Fld := ⟨.BNK_STK_STAT, 16, 7⟩
def BNK_STK_STAT_OWED : Fld := ⟨.BNK_STK_STAT, 8, 3⟩
def BNK_STK_STAT_HOT : Fld := ⟨.BNK_STK_STAT, 4, 1⟩
def BNK_STK_STAT_STROKING : Fld := ⟨.BNK_STK_STAT, 3, 1⟩
def BNK_STK_STAT_STATE : Fld := ⟨.BNK_STK_STAT, 0, 2⟩
def BNK_STROKES_REJECTED : Fld := ⟨.BNK_STROKES, 32, 32⟩
def BNK_STROKES_DONE : Fld := ⟨.BNK_STROKES, 0, 32⟩
def BNK_BUSY_COUNT : Fld := ⟨.BNK_BUSY, 0, 64⟩
def BNK_YIELD_MAX_WAIT : Fld := ⟨.BNK_YIELD, 40, 8⟩
def BNK_YIELD_STEPS : Fld := ⟨.BNK_YIELD, 0, 40⟩
def BNK_LINE_ERR_COUNT : Fld := ⟨.BNK_LINE_ERR, 0, 64⟩
def BNK_REFRESH_MAX_OWED : Fld := ⟨.BNK_REFRESH, 32, 3⟩
def BNK_REFRESH_COUNT : Fld := ⟨.BNK_REFRESH, 0, 32⟩
def TIE_CTL_READ_AHEAD : Fld := ⟨.TIE_CTL, 2, 8⟩
def TIE_CTL_STREAM_EN : Fld := ⟨.TIE_CTL, 1, 1⟩
def TIE_CTL_RECLAIM_EN : Fld := ⟨.TIE_CTL, 0, 1⟩
def TIE_OBJ_BASE_BASE : Fld := ⟨.TIE_OBJ_BASE, 17, 47⟩
def TIE_OBJ_BASE_COUNT : Fld := ⟨.TIE_OBJ_BASE, 0, 17⟩
def TIE_POOL_MARK_HIGH : Fld := ⟨.TIE_POOL_MARK, 23, 23⟩
def TIE_POOL_MARK_LOW : Fld := ⟨.TIE_POOL_MARK, 0, 23⟩
def TIE_SLOW_MARK_FLASH_LOW : Fld := ⟨.TIE_SLOW_MARK, 32, 32⟩
def TIE_SLOW_MARK_HOST_LOW : Fld := ⟨.TIE_SLOW_MARK, 0, 32⟩
def TIE_POOL_STAT_FLASH_FREE : Fld := ⟨.TIE_POOL_STAT, 32, 32⟩
def TIE_POOL_STAT_HOST_FREE : Fld := ⟨.TIE_POOL_STAT, 0, 32⟩
def TIE_HOST_CFG_AREAS : Fld := ⟨.TIE_HOST_CFG, 0, 5⟩
def TIE_CMD0_PEER : Fld := ⟨.TIE_CMD0, 48, 16⟩
def TIE_CMD0_INCARNATION : Fld := ⟨.TIE_CMD0, 32, 16⟩
def TIE_CMD0_ID : Fld := ⟨.TIE_CMD0, 0, 18⟩
def TIE_CMD1_OP : Fld := ⟨.TIE_CMD1, 60, 4⟩
def TIE_CMD1_TIER : Fld := ⟨.TIE_CMD1, 58, 2⟩
def TIE_CMD1_PLACE : Fld := ⟨.TIE_CMD1, 54, 4⟩
def TIE_CMD1_FRAMES : Fld := ⟨.TIE_CMD1, 32, 22⟩
def TIE_CMD1_ARG : Fld := ⟨.TIE_CMD1, 0, 32⟩
def TIE_CMD_STAT_RESULT : Fld := ⟨.TIE_CMD_STAT, 60, 4⟩
def TIE_CMD_STAT_QUEUED : Fld := ⟨.TIE_CMD_STAT, 40, 5⟩
def TIE_CMD_STAT_SEQ : Fld := ⟨.TIE_CMD_STAT, 32, 8⟩
def TIE_CMD_STAT_ID : Fld := ⟨.TIE_CMD_STAT, 0, 18⟩
def TIE_RECLAIM_CONTEXTS : Fld := ⟨.TIE_RECLAIM, 48, 16⟩
def TIE_RECLAIM_DISCARDED : Fld := ⟨.TIE_RECLAIM, 32, 16⟩
def TIE_RECLAIM_DEMOTED : Fld := ⟨.TIE_RECLAIM, 0, 32⟩
def TIE_ERR_WIN_FAULT : Fld := ⟨.TIE_ERR, 6, 1⟩
def TIE_ERR_WIN_CFG : Fld := ⟨.TIE_ERR, 5, 1⟩
def TIE_ERR_DISCARD : Fld := ⟨.TIE_ERR, 4, 1⟩
def TIE_ERR_BAD_LINE : Fld := ⟨.TIE_ERR, 3, 1⟩
def TIE_ERR_CFG_BUSY : Fld := ⟨.TIE_ERR, 2, 1⟩
def TIE_ERR_CMD_FULL : Fld := ⟨.TIE_ERR, 1, 1⟩
def TIE_ERR_NO_ROOM : Fld := ⟨.TIE_ERR, 0, 1⟩
def TIE_HOST_AREA_BASE : Fld := ⟨.TIE_HOST_AREA, 28, 36⟩
def TIE_HOST_AREA_FRAMES : Fld := ⟨.TIE_HOST_AREA, 0, 28⟩
def TIE_STK_FREE : Fld := ⟨.TIE_STK, 21, 21⟩
def TIE_STK_FIXED_END : Fld := ⟨.TIE_STK, 0, 21⟩
def TIE_WIN_CTL_EN : Fld := ⟨.TIE_WIN_CTL, 63, 1⟩
def TIE_WIN_CTL_PARTITION : Fld := ⟨.TIE_WIN_CTL, 60, 3⟩
def TIE_WIN_CTL_SRC_KIND : Fld := ⟨.TIE_WIN_CTL, 59, 1⟩
def TIE_WIN_CTL_LAYERS_M1 : Fld := ⟨.TIE_WIN_CTL, 51, 8⟩
def TIE_WIN_CTL_SLOTS_M1 : Fld := ⟨.TIE_WIN_CTL, 43, 8⟩
def TIE_WIN_CTL_STACKS : Fld := ⟨.TIE_WIN_CTL, 35, 8⟩
def TIE_WIN_CTL_BASE : Fld := ⟨.TIE_WIN_CTL, 17, 18⟩
def TIE_WIN_CTL_LAYER_FRAMES : Fld := ⟨.TIE_WIN_CTL, 0, 17⟩
def TIE_WIN_SRC_KEY : Fld := ⟨.TIE_WIN_SRC, 32, 32⟩
def TIE_WIN_SRC_PEER : Fld := ⟨.TIE_WIN_SRC, 16, 16⟩
def TIE_WIN_SRC_OBJECT : Fld := ⟨.TIE_WIN_SRC, 0, 16⟩
def TIE_WIN_STAT_GATED : Fld := ⟨.TIE_WIN_STAT, 40, 24⟩
def TIE_WIN_STAT_NEXT : Fld := ⟨.TIE_WIN_STAT, 32, 8⟩
def TIE_WIN_STAT_FILLS : Fld := ⟨.TIE_WIN_STAT, 2, 30⟩
def TIE_WIN_STAT_STATE : Fld := ⟨.TIE_WIN_STAT, 0, 2⟩
def ROW_CTL_SHADOW_EN : Fld := ⟨.ROW_CTL, 2, 1⟩
def ROW_CTL_CACHE_EN : Fld := ⟨.ROW_CTL, 1, 1⟩
def ROW_CTL_SERVE_EN : Fld := ⟨.ROW_CTL, 0, 1⟩
def ROW_CFG_RETRY : Fld := ⟨.ROW_CFG, 16, 4⟩
def ROW_CFG_RANK : Fld := ⟨.ROW_CFG, 0, 16⟩
def ROW_TBL_BASE_BASE : Fld := ⟨.ROW_TBL_BASE, 16, 48⟩
def ROW_LOG_CFG_LOG_KIB : Fld := ⟨.ROW_LOG_CFG, 16, 16⟩
def ROW_LOG_CFG_OBJECT : Fld := ⟨.ROW_LOG_CFG, 0, 16⟩
def ROW_SHD_DIR_BUCKETS : Fld := ⟨.ROW_SHD_DIR, 16, 24⟩
def ROW_SHD_DIR_OBJECT : Fld := ⟨.ROW_SHD_DIR, 0, 16⟩
def ROW_SHD_FREE : Fld := ⟨.ROW_SHD, 16, 32⟩
def ROW_SHD_OBJECT : Fld := ⟨.ROW_SHD, 0, 16⟩
def ROW_CMD0_PEER : Fld := ⟨.ROW_CMD0, 48, 16⟩
def ROW_CMD0_TIER : Fld := ⟨.ROW_CMD0, 46, 2⟩
def ROW_CMD0_REMOTE : Fld := ⟨.ROW_CMD0, 45, 1⟩
def ROW_CMD0_ROW : Fld := ⟨.ROW_CMD0, 0, 40⟩
def ROW_CMD1_OP : Fld := ⟨.ROW_CMD1, 60, 4⟩
def ROW_CMD1_TABLE : Fld := ⟨.ROW_CMD1, 0, 10⟩
def ROW_CMD_STAT_RESULT : Fld := ⟨.ROW_CMD_STAT, 60, 4⟩
def ROW_CMD_STAT_QUEUED : Fld := ⟨.ROW_CMD_STAT, 40, 5⟩
def ROW_CMD_STAT_SEQ : Fld := ⟨.ROW_CMD_STAT, 32, 8⟩
def ROW_CMD_STAT_TABLE : Fld := ⟨.ROW_CMD_STAT, 0, 10⟩
def ROW_LOOKUPS_SERVED : Fld := ⟨.ROW_LOOKUPS, 42, 22⟩
def ROW_LOOKUPS_CACHE_HIT : Fld := ⟨.ROW_LOOKUPS, 21, 21⟩
def ROW_LOOKUPS_SHADOW_HIT : Fld := ⟨.ROW_LOOKUPS, 0, 21⟩
def ROW_UPDATES_STAGED : Fld := ⟨.ROW_UPDATES, 42, 22⟩
def ROW_UPDATES_APPLIED : Fld := ⟨.ROW_UPDATES, 21, 21⟩
def ROW_UPDATES_STALE : Fld := ⟨.ROW_UPDATES, 0, 21⟩
def ROW_MOVES_MIGRATED : Fld := ⟨.ROW_MOVES, 48, 16⟩
def ROW_MOVES_FORWARD : Fld := ⟨.ROW_MOVES, 32, 16⟩
def ROW_MOVES_MOVED : Fld := ⟨.ROW_MOVES, 16, 16⟩
def ROW_MOVES_LOGGED : Fld := ⟨.ROW_MOVES, 0, 16⟩
def ROW_APPLY_MAX : Fld := ⟨.ROW_APPLY, 32, 32⟩
def ROW_APPLY_LAST : Fld := ⟨.ROW_APPLY, 0, 32⟩
def ROW_ERR_CFG_BUSY : Fld := ⟨.ROW_ERR, 5, 1⟩
def ROW_ERR_BAD_LINE : Fld := ⟨.ROW_ERR, 4, 1⟩
def ROW_ERR_MISMATCH : Fld := ⟨.ROW_ERR, 3, 1⟩
def ROW_ERR_LOG_FULL : Fld := ⟨.ROW_ERR, 2, 1⟩
def ROW_ERR_STAGE_FULL : Fld := ⟨.ROW_ERR, 1, 1⟩
def ROW_ERR_CMD_FULL : Fld := ⟨.ROW_ERR, 0, 1⟩
def ROW_STAGE_WORD : Fld := ⟨.ROW_STAGE, 0, 64⟩
def FLS_CTL_FORMAT_OK : Fld := ⟨.FLS_CTL, 5, 1⟩
def FLS_CTL_PATROL_EN : Fld := ⟨.FLS_CTL, 4, 1⟩
def FLS_CTL_REFRESH_EN : Fld := ⟨.FLS_CTL, 3, 1⟩
def FLS_CTL_RECLAIM_EN : Fld := ⟨.FLS_CTL, 2, 1⟩
def FLS_CTL_WRITE_EN : Fld := ⟨.FLS_CTL, 1, 1⟩
def FLS_CTL_EN : Fld := ⟨.FLS_CTL, 0, 1⟩
def FLS_STAT_CH_OK : Fld := ⟨.FLS_STAT, 32, 16⟩
def FLS_STAT_CKPT_BUSY : Fld := ⟨.FLS_STAT, 7, 1⟩
def FLS_STAT_FRESH : Fld := ⟨.FLS_STAT, 6, 1⟩
def FLS_STAT_STATE : Fld := ⟨.FLS_STAT, 0, 3⟩
def FLS_GEOM_TARGETS_M1 : Fld := ⟨.FLS_GEOM, 44, 4⟩
def FLS_GEOM_LUNS_M1 : Fld := ⟨.FLS_GEOM, 42, 2⟩
def FLS_GEOM_PLANES : Fld := ⟨.FLS_GEOM, 40, 2⟩
def FLS_GEOM_BLOCKS : Fld := ⟨.FLS_GEOM, 26, 14⟩
def FLS_GEOM_PAGES : Fld := ⟨.FLS_GEOM, 13, 13⟩
def FLS_GEOM_SPARE_BYTES : Fld := ⟨.FLS_GEOM, 0, 13⟩
def FLS_FORMAT_LOGICAL : Fld := ⟨.FLS_FORMAT, 32, 32⟩
def FLS_FORMAT_ENDURANCE : Fld := ⟨.FLS_FORMAT, 16, 16⟩
def FLS_FORMAT_OP_PERMIL : Fld := ⟨.FLS_FORMAT, 0, 10⟩
def FLS_MAP_BASE : Fld := ⟨.FLS_MAP, 16, 48⟩
def FLS_RECLAIM_WL_GAP : Fld := ⟨.FLS_RECLAIM, 48, 16⟩
def FLS_RECLAIM_WEAR : Fld := ⟨.FLS_RECLAIM, 40, 8⟩
def FLS_RECLAIM_SHARE : Fld := ⟨.FLS_RECLAIM, 32, 8⟩
def FLS_RECLAIM_FREE_HIGH : Fld := ⟨.FLS_RECLAIM, 16, 16⟩
def FLS_RECLAIM_FREE_LOW : Fld := ⟨.FLS_RECLAIM, 0, 16⟩
def FLS_REFRESH_READ_LIMIT : Fld := ⟨.FLS_REFRESH, 40, 24⟩
def FLS_REFRESH_CORR_LIMIT : Fld := ⟨.FLS_REFRESH, 34, 6⟩
def FLS_REFRESH_RETAIN_DAYS : Fld := ⟨.FLS_REFRESH, 24, 10⟩
def FLS_REFRESH_PATROL_HOURS : Fld := ⟨.FLS_REFRESH, 16, 8⟩
def FLS_CKPT_INTERVAL_S : Fld := ⟨.FLS_CKPT, 32, 32⟩
def FLS_CKPT_JOURNAL_MAX : Fld := ⟨.FLS_CKPT, 16, 16⟩
def FLS_CKPT_FLUSH_US : Fld := ⟨.FLS_CKPT, 0, 16⟩
def FLS_CMD_OP : Fld := ⟨.FLS_CMD, 60, 4⟩
def FLS_CMD_CHANNEL : Fld := ⟨.FLS_CMD, 32, 4⟩
def FLS_CMD_TARGET : Fld := ⟨.FLS_CMD, 28, 4⟩
def FLS_CMD_LUN : Fld := ⟨.FLS_CMD, 26, 2⟩
def FLS_CMD_BLOCK : Fld := ⟨.FLS_CMD, 12, 14⟩
def FLS_CMD_STAT_RESULT : Fld := ⟨.FLS_CMD_STAT, 60, 4⟩
def FLS_CMD_STAT_SEQ : Fld := ⟨.FLS_CMD_STAT, 32, 8⟩
def FLS_CMD_STAT_BUSY : Fld := ⟨.FLS_CMD_STAT, 31, 1⟩
def FLS_ERR_CFG_BUSY : Fld := ⟨.FLS_ERR, 8, 1⟩
def FLS_ERR_CMD_BUSY : Fld := ⟨.FLS_ERR, 7, 1⟩
def FLS_ERR_READ_ONLY : Fld := ⟨.FLS_ERR, 6, 1⟩
def FLS_ERR_TARGET_FAIL : Fld := ⟨.FLS_ERR, 5, 1⟩
def FLS_ERR_UNCORRECTABLE : Fld := ⟨.FLS_ERR, 4, 1⟩
def FLS_ERR_ERASE_FAIL : Fld := ⟨.FLS_ERR, 3, 1⟩
def FLS_ERR_PROG_FAIL : Fld := ⟨.FLS_ERR, 2, 1⟩
def FLS_ERR_NO_ROOT : Fld := ⟨.FLS_ERR, 1, 1⟩
def FLS_ERR_GEOMETRY : Fld := ⟨.FLS_ERR, 0, 1⟩
def FLS_HLOG_SNAP_GO : Fld := ⟨.FLS_HLOG_SNAP, 0, 1⟩
def FLS_CH_RETIRED : Fld := ⟨.FLS_CH, 44, 20⟩
def FLS_CH_SPARE : Fld := ⟨.FLS_CH, 24, 20⟩
def FLS_CH_FREE : Fld := ⟨.FLS_CH, 4, 20⟩
def FLS_HLOG_WORD : Fld := ⟨.FLS_HLOG, 0, 64⟩
def FAB_CTL_HOP_LIMIT : Fld := ⟨.FAB_CTL, 8, 8⟩
def FAB_CTL_ECN_EN : Fld := ⟨.FAB_CTL, 3, 1⟩
def FAB_CTL_HOST_RX : Fld := ⟨.FAB_CTL, 2, 1⟩
def FAB_CTL_ACCEPT : Fld := ⟨.FAB_CTL, 1, 1⟩
def FAB_CTL_EN : Fld := ⟨.FAB_CTL, 0, 1⟩
def FAB_NODE_NODE : Fld := ⟨.FAB_NODE, 0, 32⟩
def FAB_ADDR_HI_ADDR : Fld := ⟨.FAB_ADDR_HI, 0, 64⟩
def FAB_ADDR_LO_ADDR : Fld := ⟨.FAB_ADDR_LO, 0, 64⟩
def FAB_PEER_BASE_BASE : Fld := ⟨.FAB_PEER_BASE, 16, 48⟩
def FAB_PEER_BASE_COUNT : Fld := ⟨.FAB_PEER_BASE, 0, 16⟩
def FAB_REGION_BASE_BASE : Fld := ⟨.FAB_REGION_BASE, 16, 48⟩
def FAB_MSG_CFG_BASE : Fld := ⟨.FAB_MSG_CFG, 16, 48⟩
def FAB_MSG_CFG_ENTRIES : Fld := ⟨.FAB_MSG_CFG, 0, 14⟩
def FAB_TIMER0_RTO_INIT_US : Fld := ⟨.FAB_TIMER0, 48, 16⟩
def FAB_TIMER0_RTO_MIN_US : Fld := ⟨.FAB_TIMER0, 32, 16⟩
def FAB_TIMER0_RTO_MAX_US : Fld := ⟨.FAB_TIMER0, 16, 16⟩
def FAB_TIMER0_RETRY_MAX : Fld := ⟨.FAB_TIMER0, 8, 8⟩
def FAB_TIMER1_ACK_DELAY_NS : Fld := ⟨.FAB_TIMER1, 48, 16⟩
def FAB_TIMER1_ACK_COALESCE : Fld := ⟨.FAB_TIMER1, 40, 8⟩
def FAB_TIMER1_REO_NS : Fld := ⟨.FAB_TIMER1, 24, 16⟩
def FAB_TIMER1_GET_MS : Fld := ⟨.FAB_TIMER1, 8, 16⟩
def FAB_TIMER2_RNR_US : Fld := ⟨.FAB_TIMER2, 48, 16⟩
def FAB_TIMER2_RNR_MAX : Fld := ⟨.FAB_TIMER2, 32, 16⟩
def FAB_TIMER2_DONE_HOLD_MS : Fld := ⟨.FAB_TIMER2, 24, 8⟩
def FAB_TIMER2_MSG_IDLE_MS : Fld := ⟨.FAB_TIMER2, 8, 16⟩
def FAB_TIMER2_PROBE_MS : Fld := ⟨.FAB_TIMER2, 0, 8⟩
def FAB_RATE0_INIT : Fld := ⟨.FAB_RATE0, 32, 32⟩
def FAB_RATE0_MIN : Fld := ⟨.FAB_RATE0, 0, 32⟩
def FAB_RATE1_MAX : Fld := ⟨.FAB_RATE1, 32, 32⟩
def FAB_RATE1_AI : Fld := ⟨.FAB_RATE1, 16, 16⟩
def FAB_RATE1_UPDATE_US : Fld := ⟨.FAB_RATE1, 8, 8⟩
def FAB_RATE1_START_MIB : Fld := ⟨.FAB_RATE1, 0, 8⟩
def FAB_SPRAY_PORT_BASE : Fld := ⟨.FAB_SPRAY, 48, 16⟩
def FAB_SPRAY_LOSS_N : Fld := ⟨.FAB_SPRAY, 24, 8⟩
def FAB_SPRAY_HOLD_US : Fld := ⟨.FAB_SPRAY, 0, 24⟩
def FAB_DSCP_DSCP : Fld := ⟨.FAB_DSCP, 0, 48⟩
def FAB_CMD0_BASE : Fld := ⟨.FAB_CMD0, 0, 64⟩
def FAB_CMD1_NOTIFY_ARG : Fld := ⟨.FAB_CMD1, 32, 32⟩
def FAB_CMD1_LEN64 : Fld := ⟨.FAB_CMD1, 0, 32⟩
def FAB_CMD2_OP : Fld := ⟨.FAB_CMD2, 60, 4⟩
def FAB_CMD2_KIND : Fld := ⟨.FAB_CMD2, 59, 1⟩
def FAB_CMD2_READ : Fld := ⟨.FAB_CMD2, 58, 1⟩
def FAB_CMD2_WRITE : Fld := ⟨.FAB_CMD2, 57, 1⟩
def FAB_CMD2_NOTIFY : Fld := ⟨.FAB_CMD2, 54, 3⟩
def FAB_CMD2_TENANT : Fld := ⟨.FAB_CMD2, 48, 6⟩
def FAB_CMD2_ANY_COMP : Fld := ⟨.FAB_CMD2, 47, 1⟩
def FAB_CMD2_COMP : Fld := ⟨.FAB_CMD2, 37, 10⟩
def FAB_CMD2_INDEX_ANY : Fld := ⟨.FAB_CMD2, 16, 1⟩
def FAB_CMD2_INDEX : Fld := ⟨.FAB_CMD2, 0, 16⟩
def FAB_CMD_STAT_RESULT : Fld := ⟨.FAB_CMD_STAT, 60, 4⟩
def FAB_CMD_STAT_QUEUED : Fld := ⟨.FAB_CMD_STAT, 40, 5⟩
def FAB_CMD_STAT_SEQ : Fld := ⟨.FAB_CMD_STAT, 32, 8⟩
def FAB_CMD_STAT_KEY : Fld := ⟨.FAB_CMD_STAT, 0, 32⟩
def FAB_ERR_IDLE_DROP : Fld := ⟨.FAB_ERR, 7, 1⟩
def FAB_ERR_PATH_OFF : Fld := ⟨.FAB_ERR, 6, 1⟩
def FAB_ERR_MALFORMED_RX : Fld := ⟨.FAB_ERR, 5, 1⟩
def FAB_ERR_CTX_MSG : Fld := ⟨.FAB_ERR, 4, 1⟩
def FAB_ERR_MSG_FULL : Fld := ⟨.FAB_ERR, 3, 1⟩
def FAB_ERR_PEER_DOWN : Fld := ⟨.FAB_ERR, 2, 1⟩
def FAB_ERR_CFG_BUSY : Fld := ⟨.FAB_ERR, 1, 1⟩
def FAB_ERR_CMD_FULL : Fld := ⟨.FAB_ERR, 0, 1⟩
def FAB_PKTS_RX : Fld := ⟨.FAB_PKTS, 32, 32⟩
def FAB_PKTS_TX : Fld := ⟨.FAB_PKTS, 0, 32⟩
def FAB_LOSS_DROPPED : Fld := ⟨.FAB_LOSS, 32, 32⟩
def FAB_LOSS_RETX : Fld := ⟨.FAB_LOSS, 0, 32⟩
def FAB_REFUSED_NACK_RX : Fld := ⟨.FAB_REFUSED, 32, 32⟩
def FAB_REFUSED_NACK_TX : Fld := ⟨.FAB_REFUSED, 0, 32⟩
def FAB_TIME_ADJ_STEP_NS : Fld := ⟨.FAB_TIME_ADJ, 32, 32⟩
def FAB_TIME_ADJ_RATE_PPB : Fld := ⟨.FAB_TIME_ADJ, 0, 32⟩
def FAB_PORT_CTL_VLAN : Fld := ⟨.FAB_PORT_CTL, 4, 12⟩
def FAB_PORT_CTL_EN : Fld := ⟨.FAB_PORT_CTL, 0, 1⟩
def FAB_PORT_STAT_PTP_OVERRUN : Fld := ⟨.FAB_PORT_STAT, 2, 1⟩
def FAB_PORT_STAT_LINK : Fld := ⟨.FAB_PORT_STAT, 0, 2⟩
def FAB_PORT_GW_MAC : Fld := ⟨.FAB_PORT_GW, 0, 48⟩
def FAB_PORT_TXTS_TIME : Fld := ⟨.FAB_PORT_TXTS, 0, 64⟩
def FAB_PORT_TXSEQ_VALID : Fld := ⟨.FAB_PORT_TXSEQ, 20, 1⟩
def FAB_PORT_TXSEQ_MSG_TYPE : Fld := ⟨.FAB_PORT_TXSEQ, 16, 4⟩
def FAB_PORT_TXSEQ_SEQ_ID : Fld := ⟨.FAB_PORT_TXSEQ, 0, 16⟩
def FAB_PORT_CNT_CE_RX : Fld := ⟨.FAB_PORT_CNT, 32, 32⟩
def FAB_PORT_CNT_FCS_ERR : Fld := ⟨.FAB_PORT_CNT, 0, 32⟩
def SHP_CTL_CREDIT_ALL : Fld := ⟨.SHP_CTL, 0, 1⟩
def SHP_ERR_POL_CFG : Fld := ⟨.SHP_ERR, 1, 1⟩
def SHP_ERR_CFG_BUSY : Fld := ⟨.SHP_ERR, 0, 1⟩
def SHP_SUB_W_WEIGHTS : Fld := ⟨.SHP_SUB_W, 0, 64⟩
def SHP_PORT_CTL_PRIV_RATE : Fld := ⟨.SHP_PORT_CTL, 32, 20⟩
def SHP_PORT_CTL_GATE_EN : Fld := ⟨.SHP_PORT_CTL, 2, 1⟩
def SHP_PORT_CTL_COLOR_AWARE : Fld := ⟨.SHP_PORT_CTL, 1, 1⟩
def SHP_PORT_CTL_POLICE_EN : Fld := ⟨.SHP_PORT_CTL, 0, 1⟩
def SHP_PRIV_W_JOURNAL : Fld := ⟨.SHP_PRIV, 24, 8⟩
def SHP_PRIV_W_LATTICE : Fld := ⟨.SHP_PRIV, 16, 8⟩
def SHP_PRIV_W_CONTROL : Fld := ⟨.SHP_PRIV, 8, 8⟩
def SHP_PRIV_W_CLOCK : Fld := ⟨.SHP_PRIV, 0, 8⟩
def SHP_GATE_CTL_ENTRIES_M1 : Fld := ⟨.SHP_GATE_CTL, 60, 4⟩
def SHP_GATE_CTL_GUARD_NS : Fld := ⟨.SHP_GATE_CTL, 32, 16⟩
def SHP_GATE_BASE_BASE : Fld := ⟨.SHP_GATE_BASE, 0, 64⟩
def SHP_POL_CNT_RED : Fld := ⟨.SHP_POL_CNT, 32, 32⟩
def SHP_POL_CNT_YELLOW : Fld := ⟨.SHP_POL_CNT, 0, 32⟩
def SHP_CLASS_PEAK : Fld := ⟨.SHP_CLASS, 44, 20⟩
def SHP_CLASS_STRICT : Fld := ⟨.SHP_CLASS, 16, 1⟩
def SHP_CLASS_QUANTUM : Fld := ⟨.SHP_CLASS, 0, 16⟩
def SHP_GATE_OPEN : Fld := ⟨.SHP_GATE, 32, 12⟩
def SHP_GATE_DURATION_NS : Fld := ⟨.SHP_GATE, 0, 32⟩
def SHP_POL_PIR : Fld := ⟨.SHP_POL, 40, 20⟩
def SHP_POL_CIR : Fld := ⟨.SHP_POL, 20, 20⟩
def SHP_PBURST_PBS : Fld := ⟨.SHP_PBURST, 32, 32⟩
def SHP_PBURST_CBS : Fld := ⟨.SHP_PBURST, 0, 32⟩
def LAT_CTL_POLL : Fld := ⟨.LAT_CTL, 32, 16⟩
def LAT_CTL_RANK : Fld := ⟨.LAT_CTL, 8, 6⟩
def LAT_CTL_COMBINE_EN : Fld := ⟨.LAT_CTL, 2, 1⟩
def LAT_CTL_SERVE_EN : Fld := ⟨.LAT_CTL, 1, 1⟩
def LAT_CTL_EN : Fld := ⟨.LAT_CTL, 0, 1⟩
def LAT_STAT_FORMED : Fld := ⟨.LAT_STAT, 7, 1⟩
def LAT_STAT_UP : Fld := ⟨.LAT_STAT, 0, 7⟩
def LAT_SWITCH_NODE : Fld := ⟨.LAT_SWITCH, 0, 32⟩
def LAT_TIMER_RTO_US : Fld := ⟨.LAT_TIMER, 48, 16⟩
def LAT_TIMER_RETRY_MAX : Fld := ⟨.LAT_TIMER, 40, 8⟩
def LAT_TIMER_DEDUP_US : Fld := ⟨.LAT_TIMER, 24, 16⟩
def LAT_TIMER_PROBE_MS : Fld := ⟨.LAT_TIMER, 16, 8⟩
def LAT_HOST_COMP : Fld := ⟨.LAT_HOST, 6, 10⟩
def LAT_HOST_TENANT : Fld := ⟨.LAT_HOST, 0, 6⟩
def LAT_DOORBELL_RING : Fld := ⟨.LAT_DOORBELL, 0, 8⟩
def LAT_DOWN_RANKS : Fld := ⟨.LAT_DOWN, 0, 64⟩
def LAT_ERR_RING_FORMAT : Fld := ⟨.LAT_ERR, 4, 1⟩
def LAT_ERR_MALFORMED_RX : Fld := ⟨.LAT_ERR, 3, 1⟩
def LAT_ERR_IN_DOUBT : Fld := ⟨.LAT_ERR, 2, 1⟩
def LAT_ERR_MEMBER_DOWN : Fld := ⟨.LAT_ERR, 1, 1⟩
def LAT_ERR_CFG_BUSY : Fld := ⟨.LAT_ERR, 0, 1⟩
def LAT_CNT_SERVED : Fld := ⟨.LAT_CNT, 32, 32⟩
def LAT_CNT_SENT : Fld := ⟨.LAT_CNT, 0, 32⟩
def LAT_MEMBER_EN : Fld := ⟨.LAT_MEMBER, 63, 1⟩
def LAT_MEMBER_STATE : Fld := ⟨.LAT_MEMBER, 61, 2⟩
def LAT_MEMBER_PEER : Fld := ⟨.LAT_MEMBER, 0, 16⟩
def LAT_WIN_BASE_BASE : Fld := ⟨.LAT_WIN_BASE, 0, 50⟩
def LAT_WIN_CTL_EN : Fld := ⟨.LAT_WIN_CTL, 63, 1⟩
def LAT_WIN_CTL_READ : Fld := ⟨.LAT_WIN_CTL, 62, 1⟩
def LAT_WIN_CTL_WRITE : Fld := ⟨.LAT_WIN_CTL, 61, 1⟩
def LAT_WIN_CTL_ATOMIC : Fld := ⟨.LAT_WIN_CTL, 60, 1⟩
def LAT_WIN_CTL_ANY_COMP : Fld := ⟨.LAT_WIN_CTL, 59, 1⟩
def LAT_WIN_CTL_COMP : Fld := ⟨.LAT_WIN_CTL, 49, 10⟩
def LAT_WIN_CTL_FRAMES : Fld := ⟨.LAT_WIN_CTL, 0, 34⟩
def LAT_RING_BASE : Fld := ⟨.LAT_RING, 16, 48⟩
def LAT_RING_ENTRIES_M1 : Fld := ⟨.LAT_RING, 0, 16⟩
def LAT_RING_HEAD_EN : Fld := ⟨.LAT_RING_HEAD, 63, 1⟩
def LAT_RING_HEAD_HEAD : Fld := ⟨.LAT_RING_HEAD, 0, 16⟩
def CMP_CTL_BASE : Fld := ⟨.CMP_CTL, 16, 48⟩
def CMP_CTL_EN : Fld := ⟨.CMP_CTL, 0, 1⟩
def CMP_TIMER_RETIRE_MS : Fld := ⟨.CMP_TIMER, 32, 16⟩
def CMP_TIMER_QUIET_MS : Fld := ⟨.CMP_TIMER, 16, 16⟩
def CMP_CMD0_EPOCH : Fld := ⟨.CMP_CMD0, 48, 16⟩
def CMP_CMD0_SLOT : Fld := ⟨.CMP_CMD0, 32, 10⟩
def CMP_CMD0_COMP : Fld := ⟨.CMP_CMD0, 0, 10⟩
def CMP_CMD1_OP : Fld := ⟨.CMP_CMD1, 60, 4⟩
def CMP_STAGE_WORD : Fld := ⟨.CMP_STAGE, 0, 64⟩
def CMP_CMD_STAT_RESULT : Fld := ⟨.CMP_CMD_STAT, 60, 4⟩
def CMP_CMD_STAT_QUEUED : Fld := ⟨.CMP_CMD_STAT, 40, 5⟩
def CMP_CMD_STAT_SEQ : Fld := ⟨.CMP_CMD_STAT, 32, 8⟩
def CMP_CMD_STAT_COMP : Fld := ⟨.CMP_CMD_STAT, 0, 10⟩
def CMP_ERR_REDIRECT_TX : Fld := ⟨.CMP_ERR, 2, 1⟩
def CMP_ERR_STALE_RX : Fld := ⟨.CMP_ERR, 1, 1⟩
def CMP_ERR_CMD_FULL : Fld := ⟨.CMP_ERR, 0, 1⟩
def CMP_SEL_COMP : Fld := ⟨.CMP_SEL, 0, 10⟩
def CMP_SEL_STAT_CUR : Fld := ⟨.CMP_SEL_STAT, 48, 16⟩
def CMP_SEL_STAT_PREV : Fld := ⟨.CMP_SEL_STAT, 32, 16⟩
def CMP_SEL_STAT_OPEN : Fld := ⟨.CMP_SEL_STAT, 31, 1⟩
def CMP_SEL_STAT_PREV_VALID : Fld := ⟨.CMP_SEL_STAT, 30, 1⟩
def CMP_SEL_STAT_MEMBERS : Fld := ⟨.CMP_SEL_STAT, 19, 11⟩
def CMP_SEL_STAT_OLD_COUNT : Fld := ⟨.CMP_SEL_STAT, 0, 19⟩
def CMP_MTR_SNAP_BUSY : Fld := ⟨.CMP_MTR_SNAP, 1, 1⟩
def CMP_MTR_SNAP_GO : Fld := ⟨.CMP_MTR_SNAP, 0, 1⟩
def CMP_MTR_TIME_TIME : Fld := ⟨.CMP_MTR_TIME, 0, 64⟩
def CMP_MTR_VALUE : Fld := ⟨.CMP_MTR, 0, 64⟩
def TWN_CTL_TWIN_NODE : Fld := ⟨.TWN_CTL, 32, 32⟩
def TWN_CTL_AUTO_TAKE : Fld := ⟨.TWN_CTL, 2, 1⟩
def TWN_CTL_FENCE_MODE : Fld := ⟨.TWN_CTL, 1, 1⟩
def TWN_CTL_EN : Fld := ⟨.TWN_CTL, 0, 1⟩
def TWN_LEAD_LEPOCH : Fld := ⟨.TWN_LEAD, 32, 32⟩
def TWN_LEAD_FENCED_B : Fld := ⟨.TWN_LEAD, 27, 1⟩
def TWN_LEAD_FENCED_A : Fld := ⟨.TWN_LEAD, 26, 1⟩
def TWN_LEAD_D2D_UP : Fld := ⟨.TWN_LEAD, 25, 1⟩
def TWN_LEAD_LEADER : Fld := ⟨.TWN_LEAD, 24, 1⟩
def TWN_LEAD_FRANK_B : Fld := ⟨.TWN_LEAD, 12, 12⟩
def TWN_LEAD_FRANK_A : Fld := ⟨.TWN_LEAD, 0, 12⟩
def TWN_TIMER_HELLO_US : Fld := ⟨.TWN_TIMER, 48, 16⟩
def TWN_TIMER_LINK_US : Fld := ⟨.TWN_TIMER, 32, 16⟩
def TWN_TIMER_VOTE_DELAY_US : Fld := ⟨.TWN_TIMER, 16, 16⟩
def TWN_TIMER_VOTE_US : Fld := ⟨.TWN_TIMER, 0, 16⟩
def TWN_FENCE_RTO_US : Fld := ⟨.TWN_FENCE, 16, 16⟩
def TWN_FENCE_HOLD_S : Fld := ⟨.TWN_FENCE, 0, 16⟩
def TWN_CMD_OP : Fld := ⟨.TWN_CMD, 60, 4⟩
def TWN_CMD_HALF : Fld := ⟨.TWN_CMD, 59, 1⟩
def TWN_CMD_FORCE : Fld := ⟨.TWN_CMD, 58, 1⟩
def TWN_CMD_STAT_RESULT : Fld := ⟨.TWN_CMD_STAT, 60, 4⟩
def TWN_CMD_STAT_SEQ : Fld := ⟨.TWN_CMD_STAT, 32, 8⟩
def TWN_CMD_STAT_BUSY : Fld := ⟨.TWN_CMD_STAT, 31, 1⟩
def TWN_CMD_STAT_ENTRIES : Fld := ⟨.TWN_CMD_STAT, 0, 18⟩
def TWN_TAKE_BASE_BASE : Fld := ⟨.TWN_TAKE_BASE, 16, 48⟩
def TWN_ERR_MIRROR_FULL : Fld := ⟨.TWN_ERR, 6, 1⟩
def TWN_ERR_TAKEN : Fld := ⟨.TWN_ERR, 5, 1⟩
def TWN_ERR_FETCH_MISS : Fld := ⟨.TWN_ERR, 4, 1⟩
def TWN_ERR_SYNC : Fld := ⟨.TWN_ERR, 3, 1⟩
def TWN_ERR_VOTE_LOST : Fld := ⟨.TWN_ERR, 2, 1⟩
def TWN_ERR_LINK_LOST : Fld := ⟨.TWN_ERR, 1, 1⟩
def TWN_ERR_CFG_BUSY : Fld := ⟨.TWN_ERR, 0, 1⟩
def TWN_HS_STAT_REBOOTED : Fld := ⟨.TWN_HS_STAT, 8, 1⟩
def TWN_HS_STAT_MIRROR_OK : Fld := ⟨.TWN_HS_STAT, 7, 1⟩
def TWN_HS_STAT_TWIN_ROLE : Fld := ⟨.TWN_HS_STAT, 4, 3⟩
def TWN_HS_STAT_HELD : Fld := ⟨.TWN_HS_STAT, 3, 1⟩
def TWN_HS_STAT_GAVE_UP : Fld := ⟨.TWN_HS_STAT, 2, 1⟩
def TWN_HS_STAT_PAIR : Fld := ⟨.TWN_HS_STAT, 0, 2⟩
def TWN_HS_JSENT_JSN : Fld := ⟨.TWN_HS_JSENT, 0, 64⟩
def TWN_HS_JACKED_JSN : Fld := ⟨.TWN_HS_JACKED, 0, 64⟩
def TWN_HS_JAPPLIED_JSN : Fld := ⟨.TWN_HS_JAPPLIED, 0, 64⟩
def TWN_HS_JBUF_BASE : Fld := ⟨.TWN_HS_JBUF, 16, 48⟩
def TWN_HS_JBUF_LAG_K : Fld := ⟨.TWN_HS_JBUF, 0, 16⟩
def TWN_HS_MIRROR_BASE : Fld := ⟨.TWN_HS_MIRROR, 16, 48⟩
def TWN_HS_MIRROR_GIB : Fld := ⟨.TWN_HS_MIRROR, 0, 16⟩
def TWN_HS_CNT_DROPPED : Fld := ⟨.TWN_HS_CNT, 48, 16⟩
def TWN_HS_CNT_RESENT : Fld := ⟨.TWN_HS_CNT, 32, 16⟩
def TWN_HS_CNT_FRAMES : Fld := ⟨.TWN_HS_CNT, 0, 32⟩
def INT_CTL_REPAIR_H : Fld := ⟨.INT_CTL, 8, 16⟩
def INT_CTL_IRQ_LEVEL : Fld := ⟨.INT_CTL, 6, 2⟩
def INT_CTL_SCRUB_EN : Fld := ⟨.INT_CTL, 3, 1⟩
def INT_CTL_TEST_EN : Fld := ⟨.INT_CTL, 2, 1⟩
def INT_CTL_REPAIR_EN : Fld := ⟨.INT_CTL, 1, 1⟩
def INT_CTL_LOG_EN : Fld := ⟨.INT_CTL, 0, 1⟩
def INT_LOG_BASE_BASE : Fld := ⟨.INT_LOG_BASE, 16, 48⟩
def INT_LOG_BASE_SIZE : Fld := ⟨.INT_LOG_BASE, 0, 5⟩
def INT_LOG_HEAD_HEAD : Fld := ⟨.INT_LOG_HEAD, 0, 20⟩
def INT_LOG_STAT_LOST : Fld := ⟨.INT_LOG_STAT, 32, 32⟩
def INT_LOG_STAT_TAIL : Fld := ⟨.INT_LOG_STAT, 0, 20⟩
def INT_TEST_COVER_H : Fld := ⟨.INT_TEST, 32, 16⟩
def INT_TEST_IDLE_T : Fld := ⟨.INT_TEST, 0, 32⟩
def INT_TEST_STAT_FAILS : Fld := ⟨.INT_TEST_STAT, 32, 32⟩
def INT_TEST_STAT_PASSES : Fld := ⟨.INT_TEST_STAT, 0, 32⟩
def INT_SCRUB_SCRUB_H : Fld := ⟨.INT_SCRUB, 0, 16⟩
def INT_CMD_OP : Fld := ⟨.INT_CMD, 60, 4⟩
def INT_CMD_ARG : Fld := ⟨.INT_CMD, 0, 18⟩
def INT_CMD_STAT_RESULT : Fld := ⟨.INT_CMD_STAT, 60, 4⟩
def INT_CMD_STAT_SEQ : Fld := ⟨.INT_CMD_STAT, 32, 8⟩
def INT_CMD_STAT_BUSY : Fld := ⟨.INT_CMD_STAT, 31, 1⟩
def INT_LINE_CNT_STACK : Fld := ⟨.INT_LINE_CNT, 32, 32⟩
def INT_LINE_CNT_HOST : Fld := ⟨.INT_LINE_CNT, 0, 32⟩
def INT_POISON_POISONED : Fld := ⟨.INT_POISON, 32, 32⟩
def INT_POISON_WITHHELD : Fld := ⟨.INT_POISON, 0, 32⟩
def INT_REPAIR_SPARE_MIN : Fld := ⟨.INT_REPAIR, 32, 13⟩
def INT_REPAIR_REPAIRED : Fld := ⟨.INT_REPAIR, 0, 32⟩
def INT_ERR_NO_LOG : Fld := ⟨.INT_ERR, 2, 1⟩
def INT_ERR_CMD_BUSY : Fld := ⟨.INT_ERR, 1, 1⟩
def INT_ERR_CFG_BUSY : Fld := ⟨.INT_ERR, 0, 1⟩
def AGE_CTL_SAMPLE_S : Fld := ⟨.AGE_CTL, 2, 16⟩
def AGE_CTL_EMERG_EN : Fld := ⟨.AGE_CTL, 1, 1⟩
def AGE_CTL_EN : Fld := ⟨.AGE_CTL, 0, 1⟩
def AGE_PLAN_PLAN_H : Fld := ⟨.AGE_PLAN, 16, 16⟩
def AGE_PLAN_VMAX_STEPS : Fld := ⟨.AGE_PLAN, 8, 8⟩
def AGE_PLAN_GUARD_PS : Fld := ⟨.AGE_PLAN, 0, 8⟩
def AGE_STAT_RETIRED : Fld := ⟨.AGE_STAT, 48, 16⟩
def AGE_STAT_LIMITED : Fld := ⟨.AGE_STAT, 32, 16⟩
def AGE_STAT_PLANS : Fld := ⟨.AGE_STAT, 0, 32⟩
def AGE_ISL_FUSE_K : Fld := ⟨.AGE_ISL_FUSE, 32, 8⟩
def AGE_ISL_FUSE_FREQ : Fld := ⟨.AGE_ISL_FUSE, 16, 16⟩
def AGE_ISL_FUSE_SLACK : Fld := ⟨.AGE_ISL_FUSE, 0, 16⟩
def AGE_ISL_NOW_OSC : Fld := ⟨.AGE_ISL_NOW, 48, 16⟩
def AGE_ISL_NOW_FREQ : Fld := ⟨.AGE_ISL_NOW, 32, 16⟩
def AGE_ISL_NOW_SLACK : Fld := ⟨.AGE_ISL_NOW, 0, 16⟩
def AGE_ISL_PLAN_DRIFT : Fld := ⟨.AGE_ISL_PLAN, 28, 16⟩
def AGE_ISL_PLAN_CEIL : Fld := ⟨.AGE_ISL_PLAN, 16, 12⟩
def AGE_ISL_PLAN_VOFF : Fld := ⟨.AGE_ISL_PLAN, 0, 4⟩
def SEC_STAT_IMAGE_SVN : Fld := ⟨.SEC_STAT, 10, 6⟩
def SEC_STAT_FUSE_SVN : Fld := ⟨.SEC_STAT, 4, 6⟩
def SEC_STAT_MEDIA_KEY : Fld := ⟨.SEC_STAT, 3, 1⟩
def SEC_STAT_DEBUGGED : Fld := ⟨.SEC_STAT, 2, 1⟩
def SEC_STAT_IMAGE_ALT : Fld := ⟨.SEC_STAT, 1, 1⟩
def SEC_STAT_MEASURED : Fld := ⟨.SEC_STAT, 0, 1⟩
def SEC_CMD_CONFIRM : Fld := ⟨.SEC_CMD, 48, 16⟩
def SEC_CMD_OP : Fld := ⟨.SEC_CMD, 0, 4⟩
def SEC_CMD_STAT_RESULT : Fld := ⟨.SEC_CMD_STAT, 60, 4⟩
def SEC_CMD_STAT_BUSY : Fld := ⟨.SEC_CMD_STAT, 31, 1⟩
def SEC_QUOTE_BUSY : Fld := ⟨.SEC_QUOTE, 1, 1⟩
def SEC_QUOTE_GO : Fld := ⟨.SEC_QUOTE, 0, 1⟩
def SEC_JTAG_ID_VERSION : Fld := ⟨.SEC_JTAG_ID, 28, 4⟩
def SEC_JTAG_ID_PART : Fld := ⟨.SEC_JTAG_ID, 12, 16⟩
def SEC_JTAG_ID_MANUF : Fld := ⟨.SEC_JTAG_ID, 1, 11⟩
def SEC_JTAG_ID_ONE : Fld := ⟨.SEC_JTAG_ID, 0, 1⟩
def SEC_TOKEN_ADDR : Fld := ⟨.SEC_TOKEN, 6, 58⟩
def SEC_NONCE_WORD : Fld := ⟨.SEC_NONCE, 0, 64⟩
def SEC_MEAS_WORD : Fld := ⟨.SEC_MEAS, 0, 64⟩
def SEC_PUB_WORD : Fld := ⟨.SEC_PUB, 0, 64⟩
def SEC_SIG_WORD : Fld := ⟨.SEC_SIG, 0, 64⟩
def TIL_ID_HALF : Fld := ⟨.TIL_ID, 14, 1⟩
def TIL_ID_SHEAF : Fld := ⟨.TIL_ID, 9, 5⟩
def TIL_ID_TILLER : Fld := ⟨.TIL_ID, 0, 9⟩
def TIL_CTL_THIEF_SCOPE : Fld := ⟨.TIL_CTL, 1, 2⟩
def TIL_CTL_VICTIM_EN : Fld := ⟨.TIL_CTL, 0, 1⟩
def TIL_STAT_PIPE_BUSY : Fld := ⟨.TIL_STAT, 8, 4⟩
def TIL_STAT_SEARCHING : Fld := ⟨.TIL_STAT, 5, 1⟩
def TIL_STAT_ITEM : Fld := ⟨.TIL_STAT, 4, 1⟩
def TIL_STAT_STATE : Fld := ⟨.TIL_STAT, 0, 3⟩
def TIL_PC_PC : Fld := ⟨.TIL_PC, 0, 64⟩
def TIL_FPSTAT_NANIN : Fld := ⟨.TIL_FPSTAT, 4, 1⟩
def TIL_FPSTAT_SAT : Fld := ⟨.TIL_FPSTAT, 3, 1⟩
def TIL_FPSTAT_DIV : Fld := ⟨.TIL_FPSTAT, 2, 1⟩
def TIL_FPSTAT_OF : Fld := ⟨.TIL_FPSTAT, 1, 1⟩
def TIL_FPSTAT_NV : Fld := ⟨.TIL_FPSTAT, 0, 1⟩
def TIL_DQ_DEPTH : Fld := ⟨.TIL_DQ, 0, 7⟩
def TIL_STEALS_STOLEN : Fld := ⟨.TIL_STEALS, 48, 16⟩
def TIL_STEALS_DEVICE : Fld := ⟨.TIL_STEALS, 32, 16⟩
def TIL_STEALS_HALF : Fld := ⟨.TIL_STEALS, 16, 16⟩
def TIL_STEALS_SHEAF : Fld := ⟨.TIL_STEALS, 0, 16⟩
def TIL_ITEMS_COUNT : Fld := ⟨.TIL_ITEMS, 0, 64⟩
def TIL_BUSY_COUNT : Fld := ⟨.TIL_BUSY, 0, 64⟩
def TIL_PERR_COUNT : Fld := ⟨.TIL_PERR, 0, 64⟩
def TIL_SHF_STAT_STEALABLE : Fld := ⟨.TIL_SHF_STAT, 16, 12⟩
def TIL_SHF_STAT_OVF_DEPTH : Fld := ⟨.TIL_SHF_STAT, 0, 11⟩
def TIL_SHF_PERR_COUNT : Fld := ⟨.TIL_SHF_PERR, 0, 64⟩
def ISL_ID_TYPE : Fld := ⟨.ISL_ID, 13, 3⟩
def ISL_ID_HALF : Fld := ⟨.ISL_ID, 12, 1⟩
def ISL_ID_NUMBER : Fld := ⟨.ISL_ID, 0, 10⟩
def ISL_CLK_CTL_FREQ_REQ : Fld := ⟨.ISL_CLK_CTL, 0, 12⟩
def ISL_CLK_STAT_CEIL : Fld := ⟨.ISL_CLK_STAT, 36, 12⟩
def ISL_CLK_STAT_GOV : Fld := ⟨.ISL_CLK_STAT, 24, 12⟩
def ISL_CLK_STAT_FREQ_NOW : Fld := ⟨.ISL_CLK_STAT, 12, 12⟩
def ISL_CLK_STAT_CLAMP : Fld := ⟨.ISL_CLK_STAT, 4, 1⟩
def ISL_CLK_STAT_CHANGING : Fld := ⟨.ISL_CLK_STAT, 3, 1⟩
def ISL_CLK_STAT_STATE : Fld := ⟨.ISL_CLK_STAT, 0, 3⟩
def ISL_XSTALL_COUNT : Fld := ⟨.ISL_XSTALL, 0, 64⟩

end F

end Sys2Proof.Machine
end

