-- ==== Sys2Proof/Machine/State.lean ====
section
/-!
DEFINITION. The state of the Casurnar C9 as plain data: everything the spec gives the machine. `State` holds one
record per unit of the device; the register file (`regs`) is the home of every register field that is no view of other
state; `pending` is the queue of commands that wait. Every default value written here is the value after reset.
-/

namespace Sys2Proof.Machine

/-! ### Fuses, boot images, pins and keys (16_bringup.md, 18_security.md, 19_package_electrical.md) -/

/-- The fuses (R9, R11, R602, R661). -/
structure Fuses where
  stepping : Nat := 0
  grade : Nat := 0
  serial : Word := 0
  frankA : Nat := 0
  frankB : Nat := 0
  svn : Nat := 0
  debugged : Bool := false
  manuf : Nat := 0
  /-- identifies the 256-bit root secret; the fuses can never be read (R661) -/
  rootSecret : Nat := 0
  /-- ageing baselines, AGE_ISL_FUSE by island index -/
  islFuse : NMap Word := []
  deriving DecidableEq, Repr

/-- One boot image in SPI NOR (R617, R618, R663). -/
structure BootImage where
  /-- its signature verifies under a key whose hash equals the fused hash -/
  signed : Bool := false
  /-- its format is valid -/
  valid : Bool := false
  svn : Nat := 0
  /-- SHA-384 of the image, six words -/
  meas : List Word := []
  /-- package limit in W (R681) -/
  limit : Nat := 900
  /-- register words whose Reset is "image", by register key; only image fields are taken -/
  regs : NMap Word := []
  /-- ceiling of each island in MHz, 0 for none (R690) -/
  ceil : NMap Nat := []
  /-- VOFF of each island -/
  voff : NMap Nat := []
  /-- bytes the image places in device memory: the FAB peer table and other tables -/
  mem : NMap Byte := []
  deriving DecidableEq, Repr

/-- Pins of the package the spec gives a meaning (R673, R679, R683, R684, R687). `true` means asserted. -/
structure Pins where
  sysRst : Bool := false
  perst : Bool := false
  thermTrip : Bool := false
  pwrAlert : Bool := false
  pwrBrake : Bool := false
  /-- what EXTEST drives (R671), none when it is not in effect -/
  extest : Option (List Bool) := none
  /-- every output is stopped (R679, R687) -/
  outputsStopped : Bool := false
  deriving DecidableEq, Repr

/-- The keys in force, each as the number of the draw that made it; 0 when cleared (R665-R669). -/
structure Keys where
  identity : Nat := 0
  stack : NMap Nat := []
  host : Nat := 0
  media : Nat := 0
  kek : Nat := 0
  deriving DecidableEq, Repr

/-! ### Islands, crossings and the governor (02_islands_latency.md, 19_package_electrical.md) -/

/-- A clock change in progress (R53, R54): the effective clock it moves to. -/
structure ClkChange where
  target : Nat := 0
  deriving DecidableEq, Repr

/-- A transfer that its sender holds while the receiving buffer is full, and since when in ns (R61). -/
structure HeldX where
  x : Nat := 0
  since : Nat := 0
  /-- held because the die-to-die link is lost, not under R61 -/
  cut : Bool := false
  deriving DecidableEq, Repr

/-- The power and temperature governor (R47-R49, R681-R687). -/
structure Gov where
  /-- package limit in W -/
  limit : Nat := 900
  /-- a limit written while the brake is asserted (R684) -/
  limitNext : Option Nat := none
  /-- mean draw over the latest 1 ms in W, as measured last (R682) -/
  draw : Nat := 0
  /-- caps of the T-, S- and N-islands in MHz that power and temperature call for in each half -/
  capT : NMap Nat := []
  capS : NMap Nat := []
  capN : NMap Nat := []
  /-- interval between strokes in M-cycles that they call for; 0 no limit (R683) -/
  gap : NMap Nat := []
  /-- each half is being throttled for its temperature (R686) -/
  hot : NMap Bool := []
  /-- 10 us samples since a cause last called for a lower cap (R685) -/
  quiet : Nat := 0
  /-- hottest sensor of each half and stack, 0.125 degC, as two's complement 16 bit (R659) -/
  tempHalf : NMap Nat := []
  tempStack : NMap Nat := []
  tempFlash : NMap Nat := []
  deriving DecidableEq, Repr

/-- Islands (R50-R65, R600-R605). -/
structure Isl where
  /-- clock changes in progress, by island index -/
  changing : NMap ClkChange := []
  /-- transfers held by their senders, by channel, oldest first (R57-R61) -/
  held : NMap (List HeldX) := []
  /-- transfers delivered into each island with their channels, oldest first -/
  delivered : NMap (List (Nat × Nat)) := []
  /-- time in ns up to which ISL_XSTALL has counted, plus 1, by receiving island while a sender holds a transfer for it (R61) -/
  stall : NMap Nat := []
  /-- requested frequency in force at an island when it became RETIRED (R69) -/
  frozen : NMap Nat := []
  deriving DecidableEq, Repr

/-- One sample of an island (R601): time in ms, clock in MHz, slack in 0.125 ps. -/
structure AgeSample where
  t : Nat := 0
  f : Nat := 0
  slack : Int := 0
  deriving DecidableEq, Repr

/-- The planner's own data for one island (R600-R603). -/
structure AgeIsl where
  /-- samples since the previous plan, oldest first -/
  samples : List AgeSample := []
  /-- plan decided and not yet applied: (VOFF, ceiling) -/
  next : Option (Nat × Nat) := none
  /-- (VOFF, ceiling) before the plan, once its first half has been applied -/
  old : Option (Nat × Nat) := none
  deriving DecidableEq, Repr

/-- Ageing (R600-R605). -/
structure Age where
  isl : NMap AgeIsl := []
  /-- plans made since reset -/
  plans : Nat := 0
  deriving DecidableEq, Repr

/-! ### Memory (08_memory_tiers.md, 15_integrity_ageing.md) -/

/-- An entry of the share table (R196). -/
structure Share where
  count : Nat := 0
  poison : Bool := false
  deriving DecidableEq, Repr

/-- A tier move of one frame in progress (R346): of an object, or of a KV page. -/
structure FrameMove where
  /-- 0 object frame, 1 KV page -/
  kind : Nat := 0
  /-- object or context -/
  owner : Nat := 0
  /-- frame index in the list, or page index of the span -/
  idx : Nat := 0
  /-- PTE or frame-list entry address -/
  pte : Nat := 0
  old : Nat := 0
  new : Nat := 0
  /-- 0 MOVE, 1 GATHER, 2 demotion, 3 swap-out, 4 swap-in -/
  why : Nat := 0
  /-- flash units of the frame read or programmed so far, by unit (R406, R413) -/
  units : Nat := 0
  /-- where the units of a flash frame lay when its copy began (R426) -/
  locs : List Nat := []
  /-- writes that wait for the new home (R347): address and bytes -/
  held : List (Nat × List Byte) := []
  deriving DecidableEq, Repr

/-- A queued TIE command (R350). -/
structure TieCmd where
  cmd0 : Word := 0
  cmd1 : Word := 0
  deriving DecidableEq, Repr

/-- One slot of a weight window (R361). -/
structure WinSlot where
  /-- 0 EMPTY, 1 FILLING, 2 READY -/
  st : Nat := 0
  layer : Nat := 0
  pass : Nat := 0
  /-- frames of the layer read so far, while it is FILLING from an object (R341) -/
  got : Nat := 0
  deriving DecidableEq, Repr

/-- A weight window beside its registers (R358-R366). -/
structure Win where
  slots : NMap WinSlot := []
  /-- next (pass, layer) to fill -/
  pass : Nat := 1
  layer : Nat := 0
  /-- retries of the fill in progress (R366) -/
  retries : Nat := 0
  /-- a clear of EN that waits for the commit point (R365) -/
  closing : Bool := false
  /-- fabric reads of the fill in progress -/
  gets : Nat := 0
  /-- frames to fill again after a failed line (R366), each with the tries made -/
  refill : NMap Nat := []
  /-- those of them whose fabric read is under way -/
  reading : List Nat := []
  deriving DecidableEq, Repr

/-- Memory tiers (08_memory_tiers.md). -/
structure Tie where
  /-- use of each frame, key tier * 2^32 + frame: 0 free, 1 KV page, 2 object, 3 window, 4 poisoned, 5 withheld,
  6 other structure -/
  used : NMap Nat := []
  /-- share table by stack frame -/
  share : NMap Share := []
  /-- frames whose release waits for what started before it, each with its stamp (R196, R346) -/
  deferred : List (Nat × Nat) := []
  /-- new home of a frame that a move has left and whose release waits: writes that began before go there (R347) -/
  fwd : NMap Nat := []
  /-- frame moves in progress -/
  moves : NMap FrameMove := []
  nextMove : Nat := 0
  queue : List TieCmd := []
  /-- the command in progress, when it runs over several steps (MOVE, GATHER, TRANSFER) -/
  run : Option TieCmd := none
  /-- the context of the GATHER or TRANSFER in progress has left PREEMPTED since it began (R352) -/
  left : Bool := false
  /-- span pages that the TRANSFER still has to send (R351), and the number of its message -/
  xfer : List Nat := []
  xmsg : Nat := 0
  /-- a pool is being reclaimed up to its upper mark (R354, R355): 0 and 1 the halves, 2 host, 3 flash -/
  reclaiming : NMap Bool := []
  wins : NMap Win := []
  deriving DecidableEq, Repr

/-! ### Integrity (15_integrity_ageing.md) -/

/-- An INT command in progress, and the audit filter (R584, R607). -/
structure Int0 where
  /-- operation of the command that runs, 0 none -/
  op : Nat := 0
  arg : Nat := 0
  /-- the command has begun and ends with another event (AUDIT, TEST) -/
  begun : Bool := false
  /-- frames that gained a reference while the audit runs (R584) -/
  filter : List Nat := []
  /-- frames unreferenced when the audit began -/
  orphans : List Nat := []
  /-- records written (SEQ of R592) -/
  seq : Nat := 0
  /-- failed lines of the stacks: address and time in ms (R586) -/
  fails : List (Nat × Nat) := []
  /-- rows mapped to spares: (stack, bank, row) (R586) -/
  repaired : List (Nat × Nat × Nat) := []
  /-- banks that have failed a repair: (stack, bank) (R587) -/
  dead : List (Nat × Nat) := []
  deriving DecidableEq, Repr

/-! ### Tillers and sheaves (03_tiller_engine.md, 04_sirec_isa.md) -/

/-- A work item with what the dispatchers keep beside its 128 bits (R114, R290). -/
structure Work where
  /-- the 128-bit item (R108) -/
  bits : ItemBits := 0
  /-- partition of the step the item belongs to -/
  part : Nat := 0
  /-- number of that step; 0 for an item that belongs to no step (R289) -/
  step : Nat := 0
  /-- 0 none, 1 prompt, 2 generation (R114) -/
  kind : Nat := 0
  /-- attention slot that an item of an attention request descends from, plus 1 (R270); 0 none -/
  slot : Nat := 0
  deriving DecidableEq, Repr

/-- An issued, incomplete instruction (R72-R75). -/
inductive Pend where
  /-- a scalar load of `size` bytes into s[rd] -/
  | load (rd size addr : Nat)
  /-- VLD -/
  | vload (vd : Nat) (g : PReg) (addr : Nat)
  /-- VLD.B32 -/
  | vword (vd : Nat) (g : PReg) (addr : Nat)
  /-- ACC.LD -/
  | accLoad (acc addr : Nat)
  /-- ACC.ST -/
  | accStore (acc addr : Nat)
  /-- MMA.TILE -/
  | mma (acc ra rb rs ta tb : Nat) (zero : Bool) (nb : Nat)
  /-- MOV.CPY -/
  | copy (rd dst src len : Nat)
  /-- MOV.FILL -/
  | fill (rd dst : Nat) (pat : Word) (len : Nat)
  /-- a context instruction whose answer is under way: value, predicate write, exception -/
  | ctx (rd : Nat) (val : Word) (pd : Option (Nat × Bool)) (exc : Bool) (cid : Nat)
  /-- a CTX.SPAN that waits for copy on write number `k` -/
  | cow (rd pd k : Nat)
  /-- a bank, fabric or row instruction that waits for its status, with the ranges of tiller addresses it reads and writes:
  address, length, written -/
  | ask (rd id : Nat) (ranges : List (Nat × Nat × Bool))
  deriving DecidableEq, Repr

/-- An incomplete instruction with its address and its word (an imprecise exception record names them). -/
structure Issued where
  op : Pend
  pc : Word := 0
  word : Word := 0
  /-- its place in the program order of the item -/
  n : Nat := 0
  deriving DecidableEq, Repr

/-- An exception detected and not delivered yet (R166-R168). -/
structure Exc where
  code : Nat := 0
  precise : Bool := false
  pc : Word := 0
  instr : Word := 0
  addr : Word := 0
  time : Nat := 0
  /-- place of its instruction in program order, and T-cycle of its detection (R168) -/
  n : Nat := 0
  cyc : Nat := 0
  deriving DecidableEq, Repr

/-- The image resident at local SRAM address 0 (R162). -/
structure Img where
  /-- device memory address of its home -/
  home : Nat := 0
  codeLen : Nat := 0
  dataLen : Nat := 0
  id : Word := 0
  deriving DecidableEq, Repr

/-- The stop matcher of a tiller (R315, R316). -/
structure Matcher where
  cid : Nat := 0
  inc : Nat := 0
  ends : List Nat := []
  /-- stop sequences, each with its tokens -/
  seqs : List (List Nat) := []
  maxTok : Nat := 0
  generated : Nat := 0
  maxLen : Nat := 0
  length : Nat := 0
  /-- last log words, oldest first: (token, GEN) -/
  last : List (Nat × Bool) := []
  deriving DecidableEq, Repr

/-- One tiller. Its numeric flags, counters and steal limits are registers. -/
structure Tiller where
  s : NMap Word := []
  v : NMap VReg := []
  acc : NMap Tile := []
  p : NMap PReg := []
  sram : NMap Byte := []
  /-- 32-bit words of local SRAM whose parity bit is wrong (R82) -/
  bad : List Nat := []
  pc : Word := 0
  /-- the item that runs, and the stamp of its start -/
  item : Option Work := none
  start : Nat := 0
  /-- an item taken and not started yet -/
  taken : Option Work := none
  img : Option Img := none
  /-- an image load under way: home address and reloads made (R163, R164) -/
  loading : Option (Nat × Nat) := none
  /-- (partition, step) of the item for which that image is loaded -/
  loadFor : Nat × Nat := (0, 0)
  /-- step, by partition, of which the tiller runs no item because its image failed (R164) -/
  noImg : NMap Nat := []
  /-- head first -/
  deque : List Work := []
  /-- oldest first -/
  pend : List Issued := []
  /-- T-cycles, in thousandths, up to which TIL_BUSY has counted the running item -/
  busyCyc : Nat := 0
  /-- instructions of the item that have been issued and did not complete at their issue -/
  seq : Nat := 0
  exc : Option Exc := none
  suppressed : Nat := 0
  /-- the running item has raised TIMEOUT -/
  late : Bool := false
  /-- device memory ranges that CTX.SPAN has returned to the running item for writing (R194): first byte, end -/
  grants : List (Nat × Nat) := []
  matcher : Option Matcher := none
  /-- barrier number the tiller waits at (R159) -/
  atBar : Option Nat := none
  /-- item of a stalled push (R111) -/
  pushing : Option Work := none
  /-- step of R112 at which the search goes on; 0 when not searching -/
  search : Nat := 0
  /-- T-cycles counted up to time `cycT`, in thousandths (SYS.ID 1) -/
  cyc : Nat := 0
  cycT : Nat := 0
  /-- T-cycle count in thousandths when the item started -/
  itemCyc : Nat := 0
  /-- T-cycle count in thousandths when the tiller became idle (R595) -/
  idleCyc : Nat := 0
  /-- segments of the current test pass that have run, and time in ns its pass started (R597) -/
  segDone : Nat := 0
  passStart : Nat := 0
  /-- TEST command: the pass runs to its end (R607) -/
  testAll : Bool := false
  /-- signature that failed in the first run of the segment (R598) -/
  sigBad : Option Word := none
  /-- the latest test segment wrote local SRAM from `junkFrom` on, and the accumulators: which draw of unknown contents
  they hold; 0 none (R596) -/
  junk : Nat := 0
  junkFrom : Nat := 0
  deriving DecidableEq, Repr

/-- A barrier round of a sheaf (R159). -/
structure Bar where
  need : Nat := 0
  arrived : List Nat := []
  deriving DecidableEq, Repr

/-- One sheaf: store, overflow queue and dispatcher. -/
structure Sheaf where
  store : NMap Byte := []
  bad : List Nat := []
  /-- overflow queue, oldest first -/
  ovf : List Work := []
  /-- items received and not placed yet, oldest first -/
  inbox : List Work := []
  /-- items held because everything was full, oldest first (R110) -/
  held : List Work := []
  bars : NMap Bar := []
  deriving DecidableEq, Repr

/-! ### Host port (17_host_interface.md) -/

/-- A completion ring beside its registers (R639, R644, R653). -/
structure Cpl where
  /-- entries written that the host's head has not passed -/
  used : Nat := 0
  /-- free entries promised to answers -/
  promised : Nat := 0
  /-- entries written since the last signal -/
  coal : Nat := 0
  deriving DecidableEq, Repr

/-- An entry of the spill area: its ring and its slot at HST_SPILL.BASE (R647, R648). -/
structure SpillEnt where
  ring : Nat := 0
  slot : Nat := 0
  deriving DecidableEq, Repr

/-- A region completion that waits for a posted receive entry (R650). -/
structure RxNote where
  port : Nat := 0
  node : Nat := 0
  msg : Nat := 0
  key : Nat := 0
  deriving DecidableEq, Repr

/-- A transmit entry taken and not written back yet (R651). -/
structure TxEnt where
  idx : Nat := 0
  port : Nat := 0
  cls : Nat := 0
  tenant : Nat := 0
  ptp : Bool := false
  /-- 0 queued; otherwise its STATUS plus 1: 1 SENT, 2 LINK_DOWN, 3 FORMAT -/
  st : Nat := 0
  /-- PHASE of its write-back -/
  phase : Nat := 1
  deriving DecidableEq, Repr

/-- An aperture access under way (R654, R655). -/
structure Aper where
  write : Bool := false
  off : Nat := 0
  len : Nat := 0
  deriving DecidableEq, Repr

/-- The host port. -/
structure HostPort where
  cpl : NMap Cpl := []
  spill : List SpillEnt := []
  rxWait : NMap (List RxNote) := []
  /-- READ_LOG requests whose log lines are being fetched: completion ring and entry (R181, R642) -/
  reads : List (Nat × List Byte) := []
  tx : NMap (List TxEnt) := []
  /-- MSI-X tables: word 2v and 2v + 1 of vector v of function f at key 64 f + 2 v (PCIe) -/
  msix : NMap Word := []
  /-- pending bits by key 32 f + v -/
  pba : NMap Bool := []
  /-- aperture accesses by lattice tag -/
  aper : NMap Aper := []
  /-- configuration requests are answered: 0 no answer, 1 retry status, 2 success (R617) -/
  cfg : Nat := 0
  deriving DecidableEq, Repr


/-! ### Contexts and the prefix tree (05_contexts.md) -/

/-- A chunk of a context in a step in progress (R301-R303, R312). -/
structure Chunk where
  part : Nat := 0
  step : Nat := 0
  start : Nat := 0
  len : Nat := 0
  /-- state of the context at admission -/
  st : Nat := 0
  deriving DecidableEq, Repr

/-- A context: its descriptor, and what the device keeps for it outside the descriptor. -/
structure Ctx where
  d : Desc := 0
  /-- function whose ring opened it (R637), and its completion ring (R645) -/
  fn : Nat := 0
  cring : Nat := 0
  stream : Bool := false
  outIova : Nat := 0
  outWords : Nat := 0
  /-- IMPORT flag of its OPEN (R641) -/
  imp : Bool := false
  /-- bad-log mark (R181) -/
  badLog : Bool := false
  /-- the next token notice carries GAP (R643) -/
  gap : Bool := false
  /-- its completion record is discarded (R656) -/
  norec : Bool := false
  /-- words kept while their log line is fetched, by position (R696) -/
  kept : NMap (BitVec 32) := []
  /-- global time in ns of the entry into its state, and of its latest admission (R299, R301, R357) -/
  entered : Nat := 0
  admitted : Option Nat := none
  /-- decode: partition and step (R300) -/
  dec : Option (Nat × Nat) := none
  chunk : Option Chunk := none
  /-- token offered in this step: token, reason, stop sequence (R149) -/
  offer : Option (Nat × Nat × Nat) := none
  /-- code of the first exception other than MEMORY of an item naming it in this step (R308); 0 none -/
  exc : Nat := 0
  /-- an item naming it ended with an exception in this step (R312) -/
  fault : Bool := false
  /-- steps in a row in which its chunk failed to commit because of exceptions (R313) -/
  chunkFails : Nat := 0
  /-- rebuilds of the same hole in a row that ended in a new KV_BAD (transition 20) -/
  rebuilds : Nat := 0
  /-- the hole that the latest of them left -/
  lastHole : Option (Nat × Nat) := none
  /-- peer-table entries of the members whose messages served this context of a pool GENERATION member: they hold its prompt part
  or cache part (R44) -/
  members : List Nat := []
  /-- attachment of R205 in progress: 0 none, 1 after transition 3, 2 at a swap-in -/
  attach : Nat := 0
  /-- swap in flight: 0 none, 1 out, 2 in, 3 in with its attachment repeated (R199) -/
  swap : Nat := 0
  swapTier : Nat := 0
  /-- its swap-out found no room in the tier: tried again at the next formation (R323) -/
  swapFailed : Bool := false
  /-- a swap-out commanded that waits for room among the swaps in flight (R323, R326) -/
  swapAsk : Bool := false
  /-- a preemption commanded in DECODE, for the next formation (R188) -/
  preempt : Bool := false
  /-- page columns released at swap-out (R199) -/
  rel : List Nat := []
  /-- a publication is in progress (R208): 0 none, 1 at READY, 2 at the close -/
  pub : Nat := 0
  /-- a release of R565 waits -/
  release : Bool := false
  /-- exports under way: the messages its work items have opened, 2^32 times the peer plus the number (R183) -/
  exports : List Nat := []
  /-- JSN of the CLOSE entry of a CLOSED context (R554) -/
  closeJsn : Nat := 0
  deriving DecidableEq, Repr

/-- A copy on write under way (R197). -/
structure Cow where
  cid : Nat := 0
  /-- span page -/
  v : Nat := 0
  old : Word := 0
  /-- frame taken, and side record for KV4 -/
  frame : Nat := 0
  side : Nat := 0
  /-- slots copied -/
  u : Nat := 0
  /-- offset in the page that was asked for -/
  off : Nat := 0
  /-- the COPY sequence has ended: 0 not yet, 1 DONE, 2 with another status -/
  copied : Nat := 0
  deriving DecidableEq, Repr

/-- A change that a half applies at its next formation (R174, R296, R326). -/
inductive StepReq where
  /-- a modify request: function, completion ring, the 64-byte entry -/
  | modify (fn cring : Nat) (e : List Byte)
  /-- a context command: the word written to SCH_CTX_CMD -/
  | cmd (w : Word)
  deriving DecidableEq, Repr

/-- Allocations in the pools of one half: log segments (segment, context), page-table blocks and page-set records
(first 64-byte unit, units), side records, prefix nodes (R177, R202). -/
structure Pools where
  segs : NMap Nat := []
  pt : NMap Nat := []
  side : List Nat := []
  nodes : List Nat := []
  /-- namespace of the invalidation in progress, and of the one queued (R213, R218) -/
  inval : Option Nat := none
  invalNext : Option Nat := none
  deriving DecidableEq, Repr

/-! ### Step scheduler (07_step_scheduler.md) -/

/-- One half's part of a step. -/
structure StepHalf where
  /-- the half has formed, has committed -/
  formed : Bool := false
  committed : Bool := false
  /-- decode batch in admission order, with the incarnations of its batch record (R304) -/
  dec : List Nat := []
  /-- contexts with a chunk -/
  chunks : List Nat := []
  deriving DecidableEq, Repr

/-- A step in progress (R288). -/
structure Step where
  num : Nat := 0
  a : StepHalf := {}
  b : StepHalf := {}
  /-- unended items (R290), and by LAYER -/
  items : Nat := 0
  open' : NMap Nat := []
  /-- layers of which an item has ended (R363) -/
  ended : List Nat := []
  /-- formation time in ns -/
  t0 : Nat := 0
  /-- image, entries and batch records it was formed with (R333) -/
  image : Nat := 0
  entDec : Nat := 0
  entChunk : Nat := 0
  batch : Nat := 0
  /-- prompt sheaves (R306) -/
  p : Nat := 0
  /-- SCH_STEP_CTL as the formation found it (R332) -/
  ctl : Word := 0
  /-- T-cycles of items run on prompt and on generation sheaves (R307) -/
  wp : Nat := 0
  wg : Nat := 0
  deriving DecidableEq, Repr

/-- A partition beside its registers. -/
structure Part where
  step : Option Step := none
  credit : Int := 0
  /-- prompt sheaves of the next step (R307), sign of the last difference -/
  pNext : Nat := 0
  sign : Int := 0
  /-- the controller restarts at the next formation (R334) -/
  restart : Bool := false
  /-- a write to SCH_PART_CTL that waits for a commit point (R283) -/
  ctlNext : Option Word := none
  deriving DecidableEq, Repr

/-- The step scheduler. -/
structure Sch where
  part : NMap Part := []
  /-- member partition that a slice group gives its next step to, by the group's sheaves (R280) -/
  turn : NMap Nat := []
  /-- changes queued for the next formation, by half, oldest first -/
  queue : NMap (List StepReq) := []
  deriving DecidableEq, Repr
/-! ### Start order, discovery and security (16_bringup.md, 18_security.md) -/

/-- A discovery frame in progress (R626): its number, the slot drawn, the registrars it names, and what has happened in it. -/
structure Disc where
  frame : Nat := 0
  slot : Nat := 0
  reg0 : Nat := 65535
  reg1 : Nat := 65535
  tries : Nat := 4
  sent : Bool := false
  deriving DecidableEq, Repr

/-- The start order beside GLB_STAT. -/
structure Start where
  /-- held in reset until its release -/
  held : Bool := false
  /-- step that a half under its own reset runs; 0 none (R613) -/
  half : NMap Nat := []
  /-- step 4: 0 not begun, 1 in progress, 2 ended with the link up, 3 ended with it down (R617) -/
  pcie : Nat := 0
  disc : Option Disc := none
  deriving DecidableEq, Repr

/-- The SEC block beside its registers. -/
structure Sec where
  /-- the quote message being signed (R664) -/
  quote : Option (List Byte) := none
  /-- command that runs: its OP and CONFIRM; none -/
  cmd : Option (Nat × Nat) := none
  /-- vendor test chains: 1 enabled from the next reset on, 2 enabled (R672) -/
  chains : Nat := 0
  deriving DecidableEq, Repr


/-! ### Twin (14_twin_halves.md) -/

/-- A context mirrored from the partner's half (R560). -/
structure Mir where
  d : Desc := 0
  stop : NMap Byte := []
  log : NMap (BitVec 32) := []
  /-- V, TIER and LOST bits of page-table entries by span page -/
  ptes : NMap Word := []
  deriving DecidableEq, Repr

/-- A completion record that waits for the twin's acknowledgement of a journal entry (R553). -/
structure HeldRec where
  jsn : Nat := 0
  ring : Nat := 0
  bytes : List Byte := []
  deriving DecidableEq, Repr

/-- One half's twin link, journal and mirror. -/
structure TwinHalf where
  /-- JSN of the latest entry appended -/
  jsn : Nat := 0
  /-- unacknowledged entries, oldest first (R550) -/
  jour : List JEntry := []
  /-- JSN of the SNAP_END of the snapshot under way -/
  snap : Option Nat := none
  /-- next JSN expected of the partner; none until the first frame after entering SYNCING -/
  expect : Option Nat := none
  /-- entries of a group that is not complete yet -/
  group : List JEntry := []
  /-- entries applied and not yet acknowledged by a frame -/
  unacked : Nat := 0
  mir : NMap Mir := []
  mirReg : NMap Nat := []
  mirMap : NMap (List JEntry) := []
  /-- BOOT of this half, of the partner's half as last seen, before the loss, and TAKEN_BOOT sent -/
  boot : Nat := 0
  seen : Nat := 0
  before : Nat := 0
  taken : Nat := 0
  /-- configuration of the last HELLO received -/
  peerRole : Nat := 7
  recs : List HeldRec := []
  /-- this half waits for a vote; frames and host writes are suspended (R568, R569) -/
  suspended : Bool := false
  /-- epoch this half asks for since the loss of the die-to-die link; 0 none (R569) -/
  ask : Nat := 0
  /-- TAKEN_BOOT that this half has already acted on (R565) -/
  takenSeen : Nat := 0
  deriving DecidableEq, Repr

/-- A log line asked of the twin (R556). -/
structure Fetch where
  cid : Nat := 0
  /-- INCARNATION of the context -/
  inc : Nat := 0
  line : Nat := 0
  deriving DecidableEq, Repr

/-- The twin links. -/
structure Twin where
  half : NMap TwinHalf := []
  /-- vote record kept for the partner (R570) -/
  vote : Option (Nat × Nat) := none
  fetches : NMap Fetch := []
  /-- the die-to-die link is lost (R568) -/
  lost : Bool := false
  /-- commands waiting, the first one running: the word written to TWN_CMD (R561) -/
  cmds : List Word := []
  deriving DecidableEq, Repr

/-! ### Stacks and bank attention (06_bank_attention.md) -/

/-- An entry of a column list (R234). -/
structure Col where
  fa : Nat := 0
  fb : Nat := 0
  sa : Nat := 0
  sb : Nat := 0
  arg : Nat := 0
  deriving DecidableEq, Repr

/-- A sequence of strokes (R234, R245). -/
structure Seq where
  op : Nat := 0
  fmt : Nat := 0
  dim : Nat := 0
  g : Nat := 0
  stack : Nat := 0
  block : Nat := 0
  posStart : Nat := 0
  posEnd : Nat := 0
  scale : Nat := 0
  hstride : Nat := 0
  pattern : Nat := 0
  /-- ATTN.SPAN: context, incarnation, and first span page of the K stream -/
  span : Bool := false
  cid : Nat := 0
  inc : Nat := 0
  stream : Nat := 0
  /-- query elements as FP16 codes, head by head -/
  query : List Nat := []
  /-- columns of the strokes still to run, and of the stroke that runs -/
  cols : List Col := []
  now : List Col := []
  /-- columns that have ended, for CHECK results -/
  past : List Col := []
  /-- tiller and number of the BNK.STROKE that waits for rd, and result area -/
  til : Nat := 0
  id : Nat := 0
  rb : Nat := 0
  /-- copy on write that the sequence performs (R229), plus 1; 0 none -/
  cow : Nat := 0
  /-- state buffers: (m, l, o) per bank and head, key bank * 32 + head -/
  part : NMap (List Nat) := []
  /-- granules written to scratch rows, by granule address -/
  dst : NMap Nat := []
  /-- addresses of lines that failed (R261) -/
  bad : List Nat := []
  /-- stamp of its start (R196) -/
  stamp : Nat := 0
  deriving DecidableEq, Repr

/-- A BNK.STROKE on its way to its stack's engine: what it read at issue. -/
structure Arrival where
  til : Nat := 0
  id : Nat := 0
  /-- address of the header and of the result area -/
  ra : Nat := 0
  rb : Nat := 0
  /-- the header's 64 bytes, query block and column list read at issue -/
  head : List Byte := []
  query : List Byte := []
  cols : List Byte := []
  /-- an address of the command lies where the move pipe does not reach -/
  addrBad : Bool := false
  /-- address of the first line or granule of the command that failed its check; for ATTN.SPAN, of its query block on its own,
  whose size the descriptor gives -/
  fail : Option Nat := none
  qfail : Option Nat := none
  deriving DecidableEq, Repr

/-- An outside access that waits in a stack (R252, R255): address, length, bytes written (none for a read), time of its
arrival in ns. -/
structure Outside where
  addr : Nat := 0
  len : Nat := 0
  t : Nat := 0
  data : Option (List Byte) := none
  /-- a work item pushed once the write has applied (R514) -/
  work : Option Work := none
  deriving DecidableEq, Repr

/-- One stack. -/
structure Stk where
  run : Option Seq := none
  queue : List Seq := []
  /-- sequences that found the queue full, in order of arrival -/
  wait : List Seq := []
  /-- row steps each bank has performed in the stroke that runs, and the time in ns of its start -/
  steps : NMap Nat := []
  t0 : Nat := 0
  /-- granules as the stroke read them, by address: data, then a mask of failed lines above bit 1023 -/
  cap : NMap Nat := []
  /-- KV4 side records as the stroke read them, by address: data, then bit 8192 set when a line failed -/
  side : NMap Nat := []
  /-- lines that failed as banks read destination rows of the stroke into scratch rows (R248, R260) -/
  scratchBad : List Nat := []
  /-- outside accesses that wait, oldest first -/
  out : List Outside := []
  /-- writes held by an uncommitted sequence (R255), oldest first -/
  held : List Outside := []
  /-- a refresh is in progress -/
  refreshing : Bool := false
  deriving DecidableEq, Repr

/-- A slot of the attention inbox in use (R265-R274). -/
structure AttReq where
  reqId : Nat := 0
  cid : Nat := 0
  inc : Nat := 0
  layer : Nat := 0
  pos : Nat := 0
  /-- REQ_ID of the progress word before the request -/
  prev : Nat := 0
  /-- items not ended, and whether K and V are placed (false when served again) -/
  items : Nat := 0
  place : Bool := true
  /-- first status other than 0 of an item, 0 none -/
  bad : Nat := 0
  kvBad : Bool := false
  noFrame : Bool := false
  stepNo : Nat := 0
  /-- where the reply goes -/
  peer : Nat := 0
  key : Nat := 0
  off : Nat := 0
  comp : Nat := 0
  epoch : Nat := 0
  cls : Nat := 0
  tenant : Nat := 0
  deriving DecidableEq, Repr

/-- A completion raised in the attention inbox and not handled yet (R265): slot, and the message that filled it. -/
structure InboxNote where
  slot : Nat := 0
  peer : Nat := 0
  cls : Nat := 0
  tenant : Nat := 0
  comp : Nat := 0
  epoch : Nat := 0
  deriving DecidableEq, Repr

/-- Stacks and attention front end. -/
structure Bnk where
  stk : NMap Stk := []
  arr : NMap Arrival := []
  slots : NMap AttReq := []
  inbox : List InboxNote := []
  deriving DecidableEq, Repr

/-! ### Flash tier (10_flash_tier.md) -/

/-- One channel's media as the parameter pages describe it (R401-R404), and what the media keeps. -/
structure FlsChan where
  /-- 0 it does not train, 1 at 2,400 MT/s, 2 at 3,600 MT/s -/
  speed : Nat := 0
  targets : Nat := 1
  luns : Nat := 1
  /-- 0 one plane, 1 two, 2 four -/
  planes : Nat := 0
  blocks : Nat := 0
  pages : Nat := 0
  main : Nat := 16384
  spare : Nat := 1184
  /-- blocks with the factory bad mark: target, LUN and block as in a map entry without its page -/
  bad : List Nat := []
  /-- the last read-retry level that the parameter page advertises (R406) -/
  levels : Nat := 0
  deriving DecidableEq, Repr

/-- A block of the media (R411, R414, R419-R427), key 2^32 x channel + (TARGET, LUN, BLOCK). -/
structure FlsBlk where
  /-- 0 free and erased, 1 open for writes, 2 open for relocation, 3 closed, 5 RETIRING, 6 RETIRED -/
  st : Nat := 0
  erases : Nat := 0
  reads : Nat := 0
  /-- time of its close in ms, next page to program -/
  closed : Nat := 0
  next : Nat := 0
  suspect : Bool := false
  /-- queued for refresh: 0 no, 1 after read-retry, 2 otherwise (R423, R424) -/
  refresh : Nat := 0
  /-- number of the journal entry of the latest map change that left the block (R426) -/
  chg : Nat := 0
  deriving DecidableEq, Repr

/-- The counters of the health log (R429). -/
structure FlsLog where
  mounts : Nat := 0
  roughEnds : Nat := 0
  written : Nat := 0
  relocated : Nat := 0
  read : Nat := 0
  progFails : Nat := 0
  eraseFails : Nat := 0
  uncorr : Nat := 0
  retries : Nat := 0
  corrected : Nat := 0
  refreshes : Nat := 0
  powerOn : Nat := 0
  tempMax : Int := 0
  tempMin : Int := 0
  tempSeen : Bool := false
  hist : NMap Nat := []
  deriving DecidableEq, Repr

/-- A root record and what it names: the map, the block table with the health log, and the first journal page of each half still
needed (R414, R418, R429). -/
structure FlsRoot where
  seq : Nat := 0
  clean : Bool := false
  map : NMap Nat := []
  blk : NMap FlsBlk := []
  log : FlsLog := {}
  fresh : Bool := false
  erases : Nat := 0
  first : NMap Nat := []
  deriving DecidableEq, Repr

/-- What the flash media keeps when the device is reset (R610). -/
structure FlsMedia where
  chan : NMap FlsChan := []
  /-- the root records on channels 0 and 8: 0 and 1 (R414) -/
  roots : NMap FlsRoot := []
  /-- the MEDIA key of the format, and the KEK it is wrapped under in the root record (R667) -/
  key : Nat := 0
  kek : Nat := 0
  /-- the latest mount found no clean mark -/
  unclean : Bool := false
  /-- logical units per channel and frames since the format (R410), spare of each channel after it -/
  units : NMap Nat := []
  frames : Nat := 0
  spare0 : NMap Nat := []
  /-- the journal pages that a root still needs, by half, oldest first, and the number of the first of them (R412, R414) -/
  pages : NMap (List (List (Nat × Nat))) := []
  pbase : NMap Nat := []
  /-- data of programmed pages, key 2^32 x channel + location: bytes by their offset, zeros not listed -/
  page : NMap (NMap Byte) := []
  blk : NMap FlsBlk := []
  /-- program sequence number of each half -/
  seq : NMap Nat := []
  fresh : Bool := false
  erases : Nat := 0
  log : FlsLog := {}
  /-- failed targets: 16 x channel + target -/
  failed : List Nat := []
  deriving DecidableEq, Repr

/-- One half's map journal (R412). -/
structure FlsHalf where
  /-- entries not programmed yet: logical unit, or 2^40 + block, and its new value -/
  jr : List (Nat × Nat) := []
  /-- time in ns of each of them (R412) -/
  jt : List Nat := []
  /-- entries appended, entries programmed -/
  jn : Nat := 0
  jp : Nat := 0
  /-- time in ms of the latest checkpoint -/
  ckptT : Nat := 0
  deriving DecidableEq, Repr

/-- The flash translation layer. -/
structure Flash where
  media : FlsMedia := {}
  /-- map entry by logical unit (R408); an unlisted unit is UNMAPPED -/
  map : NMap Nat := []
  half : NMap FlsHalf := []
  /-- units written line by line that wait to be programmed -/
  wr : List Nat := []
  /-- block that a channel relocates: for reclaim 1, refresh 2, retirement 3 (R421, R423) -/
  work : NMap (Nat × Nat) := []
  /-- units read for relocation, with the location they were copied from -/
  copied : NMap Nat := []
  /-- a channel reclaims up to FREE_HIGH (R419) -/
  reclaiming : NMap Bool := []
  /-- block that the patrol of a channel read last; blocks still to read for the PATROL command -/
  patrol : NMap Nat := []
  /-- time in ms at which the pass of a channel's patrol began (R424) -/
  passT : NMap Nat := []
  due : List Nat := []
  /-- timeouts in a row of a target, 16 x channel + target (R427) -/
  late : NMap Nat := []
  cmd : Option Word := none
  /-- time in ms of the mount, second of the latest temperature sample -/
  mountT : Nat := 0
  tempS : Nat := 0
  /-- the mount restores the map of this half alone (R613) -/
  part : Option Nat := none
  deriving DecidableEq, Repr
/-! ### Row tables (09_row_tables.md) -/

/-- The key of an update (R381). -/
structure RowKey where
  step : Nat := 0
  rank : Nat := 0
  seq : Nat := 0
  deriving DecidableEq, Repr

/-- What the device keeps for a table beside its descriptor. -/
structure RowTab where
  /-- local rows, from byte 0 of the map -/
  local' : Nat := 0
  /-- addresses of slots of STK_OBJ in use, and of slots of INIT_OBJ that a row has left (R374) -/
  stk : List Nat := []
  free : List Nat := []
  deriving DecidableEq, Repr

/-- A stage record: a staged update, and the address of its slot (R388). -/
structure Staged where
  table : Nat := 0
  row : Nat := 0
  key : RowKey := {}
  slot : Nat := 0
  deriving DecidableEq, Repr

/-- A shadow record: the stacks that hold a shadow of the row, each with its slot (R386). -/
structure Shadow where
  /-- place of the record in the directory -/
  idx : Nat := 0
  table : Nat := 0
  row : Nat := 0
  version : Nat := 0
  slots : List (Nat × Nat) := []
  deriving DecidableEq, Repr

/-- A row request of this device that waits for its answer (R379-R381). -/
structure RowReq where
  til : Nat := 0
  upd : Bool := false
  table : Nat := 0
  row : Nat := 0
  /-- tiller address of the row, for a GET -/
  addr : Nat := 0
  /-- key and row, for an update -/
  key : RowKey := {}
  data : List Byte := []
  /-- attempt, and whether the attempt has followed a FORWARD -/
  attempt : Nat := 1
  fwd : Bool := false
  /-- member of the latest sending -/
  peer : Nat := 0
  retries : Nat := 0
  /-- it waits 50 us before a resend -/
  waiting : Bool := false
  deriving DecidableEq, Repr

/-- A migration to another member at its old home (R394). -/
structure Mig where
  table : Nat := 0
  row : Nat := 0
  peer : Nat := 0
  /-- 0 waits for an apply point, 1 OUTBOUND, 2 switched and the shard home is being told -/
  phase : Nat := 0
  version : Nat := 0
  /-- forwarding log of updates that reached the row, oldest first, and those replayed -/
  log : List (RowKey × List Byte) := []
  done : List (RowKey × List Byte) := []
  deriving DecidableEq, Repr

/-- A row command (R399). -/
structure RowCmd where
  cmd0 : Word := 0
  cmd1 : Word := 0
  stage : List Word := []
  deriving DecidableEq, Repr

/-- Row tables. -/
structure Rows where
  tab : NMap RowTab := []
  /-- SEQ of R381 by table -/
  seq : NMap Nat := []
  staged : List Staged := []
  shadows : List Shadow := []
  /-- hint cache: table, row and peer, oldest first (R379) -/
  hints : List (Nat × Nat × Nat) := []
  reqs : NMap RowReq := []
  /-- migrations by log -/
  migs : NMap Mig := []
  /-- rows with an INBOUND entry here: table and row -/
  inbound : List (Nat × Nat) := []
  /-- migration messages sent, with the peer they go to -/
  sent : List (Nat × MigMsg) := []
  cmds : List RowCmd := []
  /-- log of the MIGRATE that runs -/
  run : Option Nat := none
  /-- time in ns of the latest apply point by partition (R390) -/
  applied : NMap Nat := []
  deriving DecidableEq, Repr

/-! ### Lattice and compositions (13_lattice_composition.md) -/

/-- A lattice request of this device (R512-R519, R524). -/
structure LatReq where
  /-- ring and entry; ring 8 for the aperture -/
  ring : Nat := 0
  idx : Nat := 0
  rank : Nat := 0
  /-- the packet as sent; its TAG is the key of the request -/
  p : LPkt := {}
  /-- device memory address of the load destination or store source -/
  loc : Nat := 0
  /-- work item pushed at the end -/
  item : Option Nat := none
  tries : Nat := 0
  redirected : Bool := false
  /-- refused BUSY: it goes out again when its timer expires -/
  busy : Bool := false
  deriving DecidableEq, Repr

/-- What the device keeps for a lattice member: the next LSN it sends, the unanswered ordered requests in LSN order, and
those that wait for one of the 256 places (R518). -/
structure LatRank where
  lsn : Nat := 0
  un : List Nat := []
  wait : List Nat := []
  /-- path in use, changed after a timeout only (R517) -/
  path : Option Nat := none
  deriving DecidableEq, Repr

/-- A kept RESP of a combined atomic (R524). -/
structure Kept where
  src : Nat := 0
  tag : Nat := 0
  p : LPkt := {}
  deriving DecidableEq, Repr

/-- The lattice engine. -/
structure Lat where
  reqs : NMap LatReq := []
  ranks : NMap LatRank := []
  /-- next expected LSN by rank of the sender (R519) -/
  expect : NMap Nat := []
  kept : NMap Kept := []
  /-- windows disabled whose pins are not released yet (R530) -/
  unpin : List Nat := []
  deriving DecidableEq, Repr

/-- A composition beside its maps in the composition table (R532-R537). -/
structure Comp where
  open' : Bool := false
  closing : Bool := false
  cur : Nat := 0
  prev : Nat := 0
  prevValid : Bool := false
  /-- time in ns of the commit that made `prev`, and of the latest request that carried it -/
  committed : Nat := 0
  lastOld : Nat := 0
  deriving DecidableEq, Repr

/-- A composition command with the entry of a STAGE (R534). -/
structure CmpCmd where
  cmd0 : Word := 0
  cmd1 : Word := 0
  stage : Nat := 0
  deriving DecidableEq, Repr

/-- Compositions. -/
structure Cmp where
  comps : NMap Comp := []
  cmds : List CmpCmd := []
  deriving DecidableEq, Repr

/-! ### Fabric transport (11_fabric_transport.md) -/

/-- A packet to send: its header, and where its payload is read at each sending (R458): in the packet itself, or at a
tiller address. -/
structure TxRef where
  /-- operation it belongs to; 0 for none (a GET_RESP) -/
  op : Nat := 0
  p : Pkt := {}
  len : Nat := 0
  /-- tiller and tiller address of the payload; none when `p` holds it -/
  at' : Option (Nat × Nat) := none
  deriving DecidableEq, Repr

/-- A packet sent and not acknowledged (R463-R468). -/
structure Unacked where
  ref : TxRef := {}
  psn : Nat := 0
  /-- time of the latest sending in ns, its place in the order of sendings, its path -/
  sent : Nat := 0
  order : Nat := 0
  path : Nat := 0
  /-- it has been sent more than once -/
  rtx : Bool := false
  expiries : Nat := 0
  /-- its retransmission timer in us -/
  rto : Nat := 0
  rnr : Nat := 0
  /-- it is declared lost, or waits after NO_RESOURCE, and is queued to be sent again -/
  again : Bool := false
  /-- it was refused NO_RESOURCE and waits for RNR_US (R467) -/
  rnrWait : Bool := false
  /-- a packet sent later has been acknowledged -/
  later : Bool := false
  deriving DecidableEq, Repr

/-- What the device keeps for a peer beside its table entry. -/
structure PeerX where
  /-- produced and not released by the limiter, oldest first (R483) -/
  wait : List TxRef := []
  un : List Unacked := []
  /-- sendings so far -/
  order : Nat := 0
  /-- path that follows the one used last (R443) -/
  path : Nat := 0
  /-- packets lost in a row by path (R444) -/
  lost : NMap Nat := []
  /-- a PROBE waits for its reply (R442, R468) -/
  probing : Bool := false
  /-- credit in 1/8,000 byte at time `cT` (R490) -/
  c : Nat := 0
  cT : Nat := 0
  /-- release time of R491 as a fraction of ns -/
  tn : Nat := 0
  td : Nat := 1
  /-- bytes acknowledged since the last entry into START (R471) -/
  acked : Nat := 0
  /-- packets acknowledged and marked in the rate interval (R469) -/
  pkts : Nat := 0
  ce : Nat := 0
  /-- received PSNs above RX_PSN -/
  got : List Nat := []
  /-- packets and marks since the previous ACK (R464) -/
  rxPkts : Nat := 0
  rxCe : Nat := 0
  deriving DecidableEq, Repr

/-- A fabric instruction, or an operation the device itself starts (R450-R462). -/
structure FabOp where
  /-- 1 PUT, 2 PUTF, 3 GET, 4 SEND -/
  kind : Nat := 0
  /-- tiller and request that wait for rd; none for the device's own -/
  ask : Option (Nat × Nat) := none
  /-- 0 an instruction, 1 an attention reply, 2 a TRANSFER, 3 a context-service message, 4 a row message, 5 a steward's,
  6 a window fill -/
  owner : Nat := 0
  arg : Nat := 0
  peer : Nat := 0
  msg : Nat := 0
  /-- tiller and tiller address of the local data of a GET -/
  til : Nat := 0
  laddr : Nat := 0
  len : Nat := 0
  /-- packets not ended yet, bytes of a GET placed; first status other than OK, and the NODE of a REDIRECT -/
  left : Nat := 0
  status : Nat := 0
  node : Nat := 0
  got : Nat := 0
  /-- requests of a GET not sent yet for want of a tag: offset and length -/
  more : List (Nat × Nat) := []
  /-- header fields of a GET's requests -/
  head : Pkt := {}
  /-- context of the work item that issued it -/
  cid : Option Nat := none
  /-- stamp of its start (R196) -/
  stamp : Nat := 0
  deriving DecidableEq, Repr

/-- A message at its sender (R451), key 2^32 x peer + MSG. -/
structure MsgTx where
  key : Nat := 0
  cls : Nat := 0
  tenant : Nat := 0
  comp : Nat := 0
  epoch : Nat := 0
  segs : Nat := 0
  /-- aborted (R459) -/
  dead : Bool := false
  /-- time in ns of its close -/
  closed : Option Nat := none
  deriving DecidableEq, Repr

/-- A message-table entry at the receiver (R453, R454), or a control message under way (R461). -/
structure MsgRx where
  src : Nat := 0
  msg : Nat := 0
  send : Bool := false
  /-- region key, or consumer of a SEND -/
  key : Nat := 0
  segs : List Nat := []
  total : Option Nat := none
  done : Bool := false
  /-- offset in the region of the final write -/
  off : Nat := 0
  cls : Nat := 0
  tenant : Nat := 0
  comp : Nat := 0
  epoch : Nat := 0
  /-- contexts, INCARNATIONs and span pages that the message backed (R459) -/
  pages : List (Nat × Nat × Nat) := []
  /-- parts of a SEND: offset and bytes -/
  parts : List (Nat × List Byte) := []
  /-- stamp of its first segment (R196) -/
  stamp : Nat := 0
  deriving DecidableEq, Repr

/-- A GET request under way, by tag (R460). -/
structure GetReq where
  op : Nat := 0
  off : Nat := 0
  len : Nat := 0
  got : List Nat := []
  bytes : Nat := 0
  deriving DecidableEq, Repr

/-- A region command (R479). -/
structure FabCmd where
  cmd0 : Word := 0
  cmd1 : Word := 0
  cmd2 : Word := 0
  deriving DecidableEq, Repr

/-- The transport. -/
structure Fab where
  peers : NMap PeerX := []
  ops : NMap FabOp := []
  msgs : NMap MsgTx := []
  rx : NMap MsgRx := []
  gets : NMap GetReq := []
  cmds : List FabCmd := []
  /-- region index of the REVOKE in its second phase -/
  revoke : Option Nat := none
  /-- control messages received and not handled: peer and bytes, for the context service, the row service (with the half of
  the port or tiller; peer 65535 for a request of this device), the stewards -/
  svc : List (Nat × List Byte) := []
  rows : List (Nat × Nat × List Byte) := []
  stew : List (Nat × List Byte) := []
  /-- operations of the device's own that have ended: owner, argument, status -/
  ended : List (Nat × Nat × Nat) := []
  deriving DecidableEq, Repr

/-! ### Egress (12_egress_shaping.md) -/

/-- A frame in a port's queues: a transport packet, a lattice packet or a frame of host software. -/
structure OutFrame where
  wire : Nat := 0
  /-- 0 transport, 1 lattice, 2 host software -/
  kind : Nat := 0
  peer : Nat := 0
  path : Nat := 0
  p : Pkt := {}
  l : LPkt := {}
  /-- transmit ring and entry of a host frame, and whether it is an IEEE 1588 event message -/
  ring : Nat := 0
  idx : Nat := 0
  ptp : Bool := false
  bytes : List Byte := []
  deriving DecidableEq, Repr

/-- A class of a port: its deficit, its subscribers' deficits, the subscriber being visited, its peak bucket in 1/8,000 byte. -/
structure ClassQ where
  deficit : Nat := 0
  sub : NMap Nat := []
  cur : Option Nat := none
  peak : Int := 9236 * 8000
  peakT : Nat := 0
  deriving DecidableEq, Repr

/-- A fabric port's egress scheduler and ingress policer. -/
structure PortQ where
  /-- privileged queues by number -/
  priv : NMap (List OutFrame) := []
  /-- leaf queues by 64 x class + tenant -/
  leaf : NMap (List OutFrame) := []
  v : Nat := 0
  fl : NMap Nat := []
  /-- finish tags of the heads -/
  tag : NMap Nat := []
  bucket : Int := 16384 * 8000
  bucketT : Nat := 0
  classes : NMap ClassQ := []
  cur : Option Nat := none
  /-- policer buckets by class in 1/8,000 byte: committed, peak, time in ns; unlisted while full -/
  pol : NMap (Nat × Nat × Nat) := []
  /-- gate entry entered last (R499) -/
  entry : Nat := 0
  deriving DecidableEq, Repr

/-- What the device has sent out of the package, newest last: MSI-X messages (function, vector), answers on SMBus,
data of the last register read, bits shifted out of the test port, writes of the host port that are no ring entry. -/
structure Out where
  /-- frames sent on the fabric ports, with their port -/
  frames : List (Nat × OutFrame) := []
  irqs : List (Nat × Nat) := []
  mctp : List (Nat × List Byte) := []
  /-- ATS invalidation completions: address and length (R658) -/
  ats : List (Nat × Nat) := []
  /-- frames sent on the twin links, by half (R545) -/
  twin : List (Nat × TwinFrame) := []
  readData : Word := 0
  aperData : List Byte := []
  jtag : List Bool := []
  cfgStatus : Nat := 0
  deriving DecidableEq, Repr


/-! ### The machine -/

/-- The device. -/
structure State where
  /-- the commands that wait, first in, first out -/
  pending : List Instr := []
  /-- draws and free values taken so far -/
  fresh : Nat := 0
  /-- ns since reset release -/
  now : Nat := 0
  /-- the global time base (R56) in 10^-9 ns -/
  gtime : Nat := 0
  /-- the register file by register key -/
  regs : NMap Word := []
  fuse : Fuses := {}
  /-- primary and secondary boot image in SPI NOR (R618) -/
  image0 : BootImage := {}
  image1 : BootImage := {}
  pins : Pins := {}
  keys : Keys := {}
  isl : Isl := {}
  gov : Gov := {}
  age : Age := {}
  /-- device memory by device memory address, plaintext, every tier (R336, R665) -/
  mem : List Host.Cell := []
  /-- lines whose stored check differs from the check of their data: the difference, by line number (R577) -/
  syn : NMap (BitVec 32) := []
  /-- host memory by I/O virtual address -/
  hostMem : List Host.Cell := []
  /-- ranges of host memory whose translation fails or whose read ends with an error (R641, R658) -/
  hostBad : List (Nat × Nat) := []
  tie : Tie := {}
  int0 : Int0 := {}
  til : NMap Tiller := []
  shf : NMap Sheaf := []
  host : HostPort := {}
  sch : Sch := {}
  /-- contexts by context ID (R170) -/
  ctx : NMap Ctx := []
  /-- 32-bit descriptor words with wrong parity: context times 32 plus word (R581) -/
  descBad : List Nat := []
  cows : NMap Cow := []
  bnk : Bnk := {}
  pools : NMap Pools := []
  fab : Fab := {}
  rows : Rows := {}
  flash : Flash := {}
  lat : Lat := {}
  cmp : Cmp := {}
  /-- metering counters by 8 x tenant + k (R541) -/
  meter : NMap Nat := []
  port : NMap PortQ := []
  twin : Twin := {}
  start : Start := {}
  sec : Sec := {}
  /-- starts of items, strokes and transfers, and releases of frames, counted (R196) -/
  stamp : Nat := 0
  out : Out := {}
  deriving DecidableEq, Repr

/-- Reasons a step stops with a fault. No rule of the spec stops the device as a whole, so no meaning raises one. -/
inductive Fault where
  /-- raised by nothing: kept so that the type is not empty (safe) -/
  | none
  deriving DecidableEq, Repr

/-- Reasons a command is refused. -/
inductive Refusal where
  /-- a command that has no meaning yet, by its mnemonic (safe: the model stops) -/
  | notModelled (mnemonic : String)
  deriving DecidableEq, Repr

/-- The machine right after reset. -/
def State.reset : State := {}

end Sys2Proof.Machine
end

