-- ==== Sys2Proof/Machine/RegFile.lean ====
section
/-!
DEFINITION. The register file: where a register's value lives, what it reads after reset, and the named operations that
read and write its fields. Reading and writing by software is in `Sys2Proof.Machine.RegAccess`.
-/

namespace Sys2Proof.Machine

/-! ### Islands (R50, R11) -/

/-- Type of an island: 0 T, 1 S, 2 M, 3 F, 4 H, 5 C, 6 N, 7 G. -/
def islType (i : Nat) : Nat :=
  if i < 512 then 0 else if i < 544 then 1 else if i < 552 then 2 else if i < 560 then 3
  else if i < 561 then 4 else if i < 563 then 5 else if i < 565 then 6 else 7

/-- Number of an island within its type. -/
def islNumber (i : Nat) : Nat :=
  if i < 512 then i else if i < 544 then i - 512 else if i < 552 then i - 544 else if i < 560 then i - 552
  else if i < 561 then i - 560 else if i < 563 then i - 561 else if i < 565 then i - 563 else i - 565

/-- Half of an island; 0 for the H- and G-islands. F-islands 0-2 and 6 belong to half A (R11). -/
def islHalf (i : Nat) : Nat :=
  let n := islNumber i
  match islType i with
  | 0 => n / 256
  | 1 => n / 16
  | 2 => n / 4
  | 3 => if n < 3 then 0 else if n < 6 then 1 else n - 6
  | 5 => n
  | 6 => n
  | _ => 0

/-- Adjustable islands (R50). -/
def islAdj (i : Nat) : Bool :=
  match islType i with
  | 0 => true | 1 => true | 6 => true | _ => false

/-- Lowest clock of an island in MHz (R50). -/
def islMin (i : Nat) : Nat :=
  match islType i with
  | 0 => 800 | 1 => 800 | 2 => 1000 | 3 => 1250 | 4 => 1000 | 5 => 1000 | 6 => 450 | _ => 2000

/-- Highest clock of an island in MHz for a grade (R10, R50). -/
def islMax (grade i : Nat) : Nat :=
  match islType i with
  | 0 => if grade = 1 then 1800 else 2000
  | 1 => 1600 | 2 => 1000 | 3 => 1250 | 4 => 1000 | 5 => 1000 | 6 => 900 | _ => 2000

/-! ### Reset values -/

/-- The reset value of a field as a number; image and fuse fields read 0 until they are loaded (DESIGN CHOICE, log
entry 4). -/
def Rst.num : Rst → Nat
  | .val n => n
  | _ => 0

/-- The fields of a list put together at their reset values. -/
def fieldsReset : List FieldSpec → Nat
  | [] => 0
  | f :: r => f.rst.num % 2 ^ f.w * 2 ^ f.lo + fieldsReset r

/-- The value of instance `i` of a register after reset, before fuses and image are loaded. Grade A ranges stand until
step 2 has read the grade (R50, log entry 4). -/
def Reg.resetNat (r : Reg) (i : Nat) : Nat :=
  match r with
  | .ISL_ID => islType i * 2 ^ 13 + islHalf i * 2 ^ 12 + islNumber i
  | .ISL_CLK_CTL => islMax 0 i
  | .ISL_CLK_STAT => islMax 0 i * 2 ^ 36 + islMax 0 i * 2 ^ 24 + islMax 0 i * 2 ^ 12
  | .AGE_ISL_PLAN => islMax 0 i * 2 ^ 16
  | .TIL_ID => i / 256 * 2 ^ 14 + i / 16 * 2 ^ 9 + i
  | .HST_FN => fieldsReset r.fields + (if i = 0 then 2 ^ 15 else 0)
  | .CTX_CNT => if i % 4 = 0 then 131072 else 0
  | _ => fieldsReset r.fields

/-- The bits of a register that belong to its fields; every other bit is reserved (R18). -/
def Reg.mask (r : Reg) : Word := w64 (r.fields.foldl (fun m f => m ||| (2 ^ f.w - 1) * 2 ^ f.lo) 0)

/-- The word of a register after reset. -/
def Reg.resetWord (r : Reg) (i : Nat) : Word := w64 (r.resetNat i) &&& r.mask

/-! ### Keys and offsets -/

/-- The number of a register. -/
def Reg.num (r : Reg) : Nat := r.ctorIdx

/-- Where instance `i` of a register lives in the register file. -/
def rkey (r : Reg) (i : Nat) : Nat := r.num * 65536 + i % 65536

/-- What an unlisted key of the register file reads as: the reset value. -/
def regDefault (k : Nat) : Word := (Reg.all.getD (k / 65536) .GLB_ID).resetWord (k % 65536)

/-- BAR0 offset of instance `i` of a register. -/
def Reg.offset (r : Reg) (i : Nat) : Nat :=
  let l := r.layout
  l.base + i / l.n2 * l.st1 + i % l.n2 * l.st2

/-- How many instances a register has. -/
def Reg.count (r : Reg) : Nat := r.layout.n1 * r.layout.n2

/-- The instance of a register that lies at a BAR0 offset, if one does. -/
def Layout.find (l : Layout) (off : Nat) : Option Nat :=
  if off < l.base then none
  else
    let d := off - l.base
    let i := if l.st1 = 0 then 0 else min (d / l.st1) (l.n1 - 1)
    let e := d - i * l.st1
    if l.st2 = 0 then (if e = 0 then some (i * l.n2) else none)
    else if e % l.st2 = 0 ∧ e / l.st2 < l.n2 then some (i * l.n2 + e / l.st2) else none

/-- The register at a BAR0 offset (R16). -/
def Reg.at (off : Nat) : Option (Reg × Nat) :=
  Reg.all.findSome? (fun r => (r.layout.find off).map (fun i => (r, i)))

/-! ### Reading and writing inside the device -/

/-- The word of a register. -/
def rword (s : State) (r : Reg) (i : Nat) : Word := nget regDefault s.regs (rkey r i)

/-- A register's word replaced. -/
def rput (s : State) (r : Reg) (i : Nat) (w : Word) : State :=
  { s with regs := nput regDefault s.regs (rkey r i) w }

/-- A field of instance `i` of its register. -/
def fget (s : State) (f : Fld) (i : Nat) : Nat := bget (rword s f.reg i) f.lo f.w

/-- A one-bit field as a truth value. -/
def fbit (s : State) (f : Fld) (i : Nat) : Bool := fget s f i == 1

/-- A field of instance `i` of its register replaced. -/
def fput (s : State) (f : Fld) (i : Nat) (v : Nat) : State :=
  rput s f.reg i (bset (rword s f.reg i) f.lo f.w v)

/-- Hardware sets a flag. -/
def fset (s : State) (f : Fld) (i : Nat) : State := fput s f i 1

/-- Hardware sets a flag when `b` holds. -/
def fsetIf (s : State) (b : Bool) (f : Fld) (i : Nat) : State := if b then fset s f i else s

/-- A counter grows and holds its maximum (R24). -/
def fadd1 (s : State) (f : Fld) (i : Nat) (n : Nat) : State := fput s f i (min (fget s f i + n) (2 ^ f.w - 1))

/-- A number field grows modulo its width (command sequence numbers). -/
def finc (s : State) (f : Fld) (i : Nat) : State := fput s f i ((fget s f i + 1) % 2 ^ f.w)

/-- A field holds the largest value seen. -/
def fmaxTo (s : State) (f : Fld) (i : Nat) (n : Nat) : State := fput s f i (max (fget s f i) (min n (2 ^ f.w - 1)))

end Sys2Proof.Machine
end

