-- ==== Sys2Proof/Machine/Ops.lean ====
section
/-!
DEFINITION. Named operations over the state that every family shares: time, draws, interrupts, device memory, host
memory, line checks, frames, event records.
-/

namespace Sys2Proof.Machine

/-! ### Time, draws, interrupts -/

/-- Global time in ns (R56). -/
def timeNs (s : State) : Nat := s.gtime / 1000000000

/-- Global time in ms. -/
def timeMs (s : State) : Nat := timeNs s / 1000000

/-- The number of draws taken grows by one. -/
def bump (s : State) : State := { s with fresh := s.fresh + 1 }

/-- A draw of a random source (R113, R547, R626, R662-R668); every draw is a fresh value. -/
def drawOf (s : State) (place : Nat) : Nat := Config.draw place s.fresh

/-- A choice the spec leaves to the device. -/
def choiceOf (s : State) (place : Nat) : Nat := Config.choice place s.fresh

/-- Global configuration: standalone (R1). -/
def standalone (s : State) : Bool := fbit s F.GLB_CFG_CONFIG 0

/-- Role of a pool member: 0 PROMPT, 1 GENERATION, 2 CACHE, 3 none (R3). -/
def role (s : State) : Nat := fget s F.GLB_CFG_ROLE 0

/-- What a word of an MSI-X table reads after reset: every vector masked (PCIe, log entry 8). -/
def msixDefault (k : Nat) : Word := if k % 2 = 1 then w64 (2 ^ 32) else 0

/-- Vector `v` of function `f` is signalled: a message, or its pending bit while it is masked (R653). -/
def irq (s : State) (f v : Nat) : State :=
  if bbit (nget msixDefault s.host.msix (64 * f + 2 * v + 1)) 32 then
    { s with host := { s.host with pba := nput (fun _ => false) s.host.pba (32 * f + v) true } }
  else { s with out := { s.out with irqs := s.out.irqs ++ [(f, v)] } }

/-- Hardware sets a flag of HST_ERR, which signals vector 17 of the PF when the bit was 0 (17_host_interface.md,
MSI-X vectors). -/
def hstErr (s : State) (f : Fld) : State := if fbit s f 0 then s else irq (fset s f 0) 0 17

/-! ### Metering (R541) -/

/-- Counter `k` of a tenant grows (R541); it wraps. -/
def meter (s : State) (tenant k n : Nat) : State :=
  if n = 0 then s else { s with meter := nupd (fun _ => 0) s.meter (8 * (tenant % 64) + k) (fun v => (v + n) % 2 ^ 64) }

/-! ### Clocks -/

/-- Effective clock of an island in MHz. -/
def islFreq (s : State) (i : Nat) : Nat := fget s F.ISL_CLK_STAT_FREQ_NOW i

/-- State of an island: 0 RUN, 1 HELD, 2 TEST, 3 RETIRED (R70). -/
def islState (s : State) (i : Nat) : Nat := fget s F.ISL_CLK_STAT_STATE i

/-! ### Device memory addresses (R336-R340) -/

def addrTier (a : Nat) : Nat := bits a 48 2
def addrFrame (a : Nat) : Nat := bits a 16 32
/-- Stack of a stack-tier address (R337). -/
def addrStack (a : Nat) : Nat := addrFrame a / 2 ^ 21
/-- Frame index within the stack (R337). -/
def addrF (a : Nat) : Nat := addrFrame a % 2 ^ 21
/-- Frame key: tier times 2^32 plus frame. -/
def addrKey (a : Nat) : Nat := a / 65536
/-- Address of a frame from its key. -/
def keyAddr (k : Nat) : Nat := k * 65536
/-- Half of a stack-tier address. -/
def addrHalf (a : Nat) : Nat := addrStack a / 4

/-- Frames of the host tier's areas (R339). -/
def hostFrameHeld (s : State) (h : Nat) : Bool :=
  let n := fget s F.TIE_HOST_CFG_AREAS 0
  n != 0 && decide (h / n < fget s F.TIE_HOST_AREA_FRAMES (h % n))

/-- Logical frames of the flash tier, which the FLS block reports once it has mounted (R340, R410). -/
def flashFrames (s : State) : Nat := fget s F.FLS_FORMAT_LOGICAL 0

/-- The flash tier serves: MOUNTED or READ_ONLY (R416, R427), with no half's map still to be restored (R613), and its operations are
not stopped (R679). -/
def flashUp (s : State) : Bool :=
  (fget s F.FLS_STAT_STATE 0 == 2 || fget s F.FLS_STAT_STATE 0 == 3) && s.flash.part.isNone && !s.pins.outputsStopped

/-- An address is mapped (R338). -/
def mapped (s : State) (a : Nat) : Bool :=
  decide (a < 2 ^ 50) &&
  match addrTier a with
  | 0 => decide (addrStack a < 8) && decide (addrF a ≤ 1220703)
  | 1 => hostFrameHeld s (addrFrame a)
  | 2 => decide (addrFrame a < flashFrames s)
  | _ => false

/-- A read of a flash address waits: for a mount that is under way (R416), or for the steward of a half that has been reset and has not
restored its map yet (R35, R613). -/
def flashWait (s : State) (a : Nat) : Bool :=
  addrTier a == 2 && (fget s F.FLS_STAT_STATE 0 == 1 || s.flash.part == some (a % 2 ^ 48 / 16384 % 16 / 8))

/-- A read of `n` bytes at `a` touches a flash unit whose reads wait. -/
def flashWaits (s : State) (a n : Nat) : Bool :=
  (List.range (cdiv (a % 16384 + n) 16384)).any (fun i => flashWait s (a / 16384 * 16384 + i * 16384))

/-- Writes into the flash tier end NO_ROOM (R427). -/
def flashShut (s : State) (a : Nat) : Bool :=
  addrTier a == 2 && (fget s F.FLS_STAT_STATE 0 == 3 || !fbit s F.FLS_CTL_WRITE_EN 0)

/-- A stack is retired (R587, R691). -/
def stackRetired (s : State) (st : Nat) : Bool := fget s F.BNK_STK_STAT_STATE st == 2

/-! ### Bytes and line checks (R577-R581) -/

/-- What a byte of device memory that nothing has written reads as (log entry 5). -/
def memDefault : Nat → Byte := fun _ => 0

/-- One byte of device memory. -/
def memByte (s : State) (a : Nat) : Byte := nget memDefault s.mem a

/-- `n` bytes of device memory. -/
def memBytes (s : State) (a n : Nat) : List Byte := ngets memDefault s.mem a n

/-- `n` bytes of device memory as a little-endian number (R12). -/
def memNat (s : State) (a n : Nat) : Nat := ofBytes (memBytes s a n)

/-- One step of the reflected CRC-32C over one bit. -/
def crcBit (c : BitVec 32) : BitVec 32 :=
  if c.getLsbD 0 then (c >>> 1) ^^^ 0x82F63B78 else c >>> 1

/-- The CRC-32C of bytes (R577). -/
def crc32c (bs : List Byte) : BitVec 32 :=
  ~~~ (bs.foldl (fun c b =>
    let c := c ^^^ (b.setWidth 32)
    crcBit (crcBit (crcBit (crcBit (crcBit (crcBit (crcBit (crcBit c)))))))) 0xFFFFFFFF)

/-- The check of a line: over its address and its data (R577). -/
def lineCheck (a : Nat) (data : List Byte) : BitVec 32 := crc32c (toBytes 8 (a / 64 * 64) ++ data)

/-- The check stored with a line (R579): the right one, but for the recorded difference. -/
def storedCheck (s : State) (a : Nat) : BitVec 32 :=
  lineCheck a (memBytes s (a / 64 * 64) 64) ^^^ nget (fun _ => 0) s.syn (a / 64)

/-! ### Flash map (R408, R412) -/

def flsUNMAPPED : Nat := 0xFFFFFFFF
def flsLOST : Nat := 0xFFFFFFFE

/-- Map entry of a logical unit. -/
def flsMap (s : State) (L : Nat) : Nat := nget (fun _ => flsUNMAPPED) s.flash.map L

/-- Half whose map holds a logical unit. -/
def flsHalfOf (L : Nat) : Nat := L % 16 / 8

/-- Where the map entry of a unit lies in device memory (R408). -/
def flsEntAddr (s : State) (L : Nat) : Nat :=
  fget s F.FLS_MAP_BASE (flsHalfOf L) * 65536 + 4 * (L / 16 * 8 + L % 8)

/-- The stored check of a line is right and its stack is in service. -/
def synOk (s : State) (a : Nat) : Bool :=
  nget (fun _ => 0) s.syn (a / 64) == 0 && !(addrTier a == 0 && stackRetired s (addrStack a))

/-- A unit is LOST, or the map line that holds its entry fails its check (R407, R581). -/
def unitLost (s : State) (L : Nat) : Bool := flsMap s L == flsLOST || !synOk s (flsEntAddr s L)

/-- The logical unit that an address of the flash tier lies in. -/
def unitOf (a : Nat) : Nat := a % 2 ^ 48 / 16384

/-- I/O virtual address of a byte of the host tier (R339). -/
def hostIova (s : State) (a : Nat) : Nat :=
  let n := max (fget s F.TIE_HOST_CFG_AREAS 0) 1
  fget s F.TIE_HOST_AREA_BASE (addrFrame a % n) * 65536 + addrFrame a / n * 65536 + a % 65536

/-- The translation of a host-tier access fails, or the host answers it with an error (R658). -/
def hostTierBad (s : State) (a : Nat) : Bool :=
  s.hostBad.any (fun r => decide (r.1 < hostIova s a / 64 * 64 + 64) && decide (hostIova s a / 64 * 64 < r.1 + r.2))

/-- The line of address `a` passes its check. A line of a retired stack never does (R691), nor does one of a LOST flash
unit (R407) or a host line that cannot be reached (R658). -/
def lineOk (s : State) (a : Nat) : Bool :=
  synOk s a && !(addrTier a == 2 && unitLost s (unitOf a)) && !(addrTier a == 1 && hostTierBad s a)

/-- A half's flash journal. -/
def flsHalf (s : State) (h : Nat) : FlsHalf := nget (fun _ => {}) s.flash.half h

/-- Channel and block of a unit at a location. -/
def locBlk (L loc : Nat) : Nat := L % 16 * 2 ^ 32 + loc / 4096

def flsBlk (s : State) (k : Nat) : FlsBlk := nget (fun _ => {}) s.flash.media.blk k

def flsBlkPut (s : State) (k : Nat) (b : FlsBlk) : State :=
  { s with flash := { s.flash with media := { s.flash.media with blk := nput (fun _ => {}) s.flash.media.blk k b } } }

/-- A journal entry waits for its page (R412). -/
def flsJournal (s : State) (h key v : Nat) : State :=
  let x := flsHalf s h
  { s with flash := { s.flash with half := nput (fun _ => {}) s.flash.half h { x with jr := x.jr ++ [(key, v)], jt := x.jt ++ [s.now], jn := x.jn + 1 } } }

/-- A discard of the frame waits for its journal page (R413). -/
def flsPending (s : State) (f : Nat) : Bool :=
  s.flash.half.any (fun h => h.2.jr.any (fun e => decide (e.1 < 2 ^ 40) && e.1 / 4 == f))

/-- The first line of a range that fails its check. -/
def badLine (s : State) (a : Nat) : Nat → Option Nat
  | 0 => none
  | n + 1 => if lineOk s a then badLine s (a + 64) n else some (a / 64 * 64)

/-- The first failing line among those that `n` bytes at `a` touch. -/
def badLineIn (s : State) (a n : Nat) : Option Nat := badLine s (a / 64 * 64) (cdiv (a % 64 + n) 64)

/-- Lines of a range get the right check. -/
def clearSyn (s : State) (line : Nat) : Nat → State
  | 0 => s
  | n + 1 => clearSyn { s with syn := nput (fun _ => 0) s.syn line 0 } (line + 1) n

/-- The flash units of a range that is written line by line wait to be programmed. -/
def flsWrites (s : State) (a n : Nat) : State :=
  if addrTier a ≠ 2 ∨ n = 0 then s
  else
    let us := (List.range (unitOf (a + n - 1) - unitOf a + 1)).map (· + unitOf a)
    { s with flash := { s.flash with wr := s.flash.wr.filter (fun L => !us.contains L) ++ us } }

/-- Bytes written; every line written gets its own check (R578). A write to a retired stack is discarded (R691). -/
def memWrite (s : State) (a : Nat) (bs : List Byte) : State :=
  if addrTier a == 0 && stackRetired s (addrStack a) then s
  else
    let s := flsWrites s a bs.length
    clearSyn { s with mem := nputs memDefault s.mem a bs } (a / 64) (cdiv (a % 64 + bs.length) 64)

/-- `n` bytes of a little-endian number written. -/
def memPut (s : State) (a n v : Nat) : State := memWrite s a (toBytes n v)

/-- The map entry of a unit as it stands in device memory (R408); in a line that fails its check it is not written. -/
def flsEntPut (s : State) (L v : Nat) : State :=
  if fget s F.FLS_MAP_BASE (flsHalfOf L) = 0 ∨ !synOk s (flsEntAddr s L) then s else memPut s (flsEntAddr s L) 4 v

/-- A map entry changes; the block it leaves remembers when (R412, R426). -/
def flsSet (s : State) (L v : Nat) : State :=
  let old := flsMap s L
  let s := flsEntPut { s with flash := { s.flash with map := nput (fun _ => flsUNMAPPED) s.flash.map L v } } L v
  let s := flsJournal s (flsHalfOf L) L v
  if flsLOST ≤ old then s
  else flsBlkPut s (locBlk L old) { flsBlk s (locBlk L old) with chg := (flsHalf s (flsHalfOf L)).jn }

/-- A flash frame's units are discarded (R428). -/
def flsDiscard (s : State) (f : Nat) : State :=
  (List.range 4).foldl (fun s u => if flsMap s (4 * f + u) = flsUNMAPPED then s else flsSet s (4 * f + u) flsUNMAPPED)
    { s with flash := { s.flash with wr := s.flash.wr.filter (fun L => L / 4 != f) } }

/-- A line's stored check is made wrong until the line is written again (R586). -/
def spoilLine (s : State) (a : Nat) : State := { s with syn := nput (fun _ => 0) s.syn (a / 64) 1 }

/-- Every line that lies in frame `k` (a frame key) gets zero bytes and valid checks. -/
def zeroFrame (s : State) (k : Nat) : State :=
  { s with
    mem := s.mem.filter (fun e => e.1 / 65536 != k)
    syn := s.syn.filter (fun e => e.1 / 1024 != k) }

/-- One frame's bytes copied to another frame, each line with its own check (R346, R578). -/
def copyFrame (s : State) (src dst : Nat) : State :=
  let s1 := zeroFrame s dst
  { s1 with mem := (s.mem.filter (fun e => e.1 / 65536 == src)).foldl (fun m e => nput memDefault m (dst * 65536 + e.1 % 65536) e.2) s1.mem }

/-- The first line of frame `k` that fails its check. -/
def frameBad (s : State) (k : Nat) : Option Nat :=
  if addrTier (keyAddr k) == 0 && stackRetired s (addrStack (keyAddr k)) then some (keyAddr k)
  else if addrTier (keyAddr k) = 2 ∧ (List.range 4).any (fun u => unitLost s (4 * (k % 2 ^ 32) + u)) then some (keyAddr k)
  else if addrTier (keyAddr k) = 1 ∧ hostTierBad s (keyAddr k) then some (keyAddr k)
  else (s.syn.find? (fun e => e.1 / 1024 == k)).map (fun e => e.1 * 64)

/-! ### Host memory -/

/-- What host memory that nothing has written reads as (log entry 5). -/
def hostDefault : Nat → Byte := fun _ => 0

/-- `n` bytes of host memory at an I/O virtual address. -/
def hostBytes (s : State) (a n : Nat) : List Byte := ngets hostDefault s.hostMem a n

def hostNat (s : State) (a n : Nat) : Nat := ofBytes (hostBytes s a n)

/-- A host read of the range fails: its translation fails or it completes with an error (R641, R658). -/
def hostFails (s : State) (a n : Nat) : Bool := s.hostBad.any (fun r => decide (r.1 < a + n) && decide (a < r.1 + r.2))

/-- Bytes written to host memory; nothing leaves while every output is stopped (R679, R687). -/
def hostWrite (s : State) (a : Nat) (bs : List Byte) : State :=
  if s.pins.outputsStopped then s else { s with hostMem := nputs hostDefault s.hostMem a bs }

/-! ### Frames: use, share table, pools (R196, R353) -/

/-- Use of a frame: 0 free, 1 KV page, 2 object, 3 window, 4 poisoned, 5 withheld, 6 other. -/
def frameUse (s : State) (k : Nat) : Nat := nget (fun _ => 0) s.tie.used k

def setUse (s : State) (k u : Nat) : State :=
  { s with tie := { s.tie with used := nput (fun _ => 0) s.tie.used k u } }

def share (s : State) (k : Nat) : Share := nget (fun _ => {}) s.tie.share k

/-- Device memory address of the share-table entry of a stack frame, in the table of its half: 4 bytes each, by the frame's number in
the half (R196; the order is a DESIGN CHOICE, log entry 124). 0 while the table has no place. -/
def shareAddr (s : State) (k : Nat) : Nat :=
  let b := fget s F.PFX_SHARE_POOL_BASE (k / 2 ^ 23 % 2)
  if b = 0 then 0 else b * 65536 + k % 2 ^ 23 * 4

/-- The share-table line of a stack frame passes its check, so the frame can be given out (R581). -/
def shareOk (s : State) (k : Nat) : Bool := shareAddr s k == 0 || lineOk s (shareAddr s k)

/-- The 32-bit entry as it stands in the share table: POISON in bit 31, COUNT in bits [15:0] (R196). -/
def shareEntry (e : Share) : Nat := b2n e.poison * 2 ^ 31 + e.count % 65536

/-- An entry of the share table is written; a frame that gains a reference while an AUDIT runs joins the audit filter
(R584). In a line that fails its check the bytes wait for the audit (R581). -/
def setShare (s : State) (k : Nat) (e : Share) : State :=
  let s := if shareAddr s k ≠ 0 ∧ shareOk s k then memPut s (shareAddr s k) 4 (shareEntry e) else s
  let s := if s.int0.op = 2 ∧ (share s k).count < e.count ∧ !s.int0.filter.contains k then
      { s with int0 := { s.int0 with filter := s.int0.filter ++ [k] } } else s
  { s with tie := { s.tie with share := nput (fun _ => {}) s.tie.share k e } }

/-- Stack frames per stack (R337). -/
def stackFrames : Nat := 1220704

/-- A stack frame lies in the capacity pool's range and its stack is in service (R353, R587). -/
def inPool (s : State) (k : Nat) : Bool :=
  let a := keyAddr k
  addrTier a == 0 && decide (addrStack a < 8) && decide (fget s F.TIE_STK_FIXED_END (addrStack a) ≤ addrF a) &&
    decide (addrF a < stackFrames) && !stackRetired s (addrStack a)

/-- A frame can be given out. -/
def frameFree (s : State) (k : Nat) : Bool :=
  frameUse s k == 0 && !s.tie.deferred.any (fun e => e.1 == k) &&
  match addrTier (keyAddr k) with
  | 0 => inPool s k && !(share s k).poison && shareOk s k
  | 2 => mapped s (keyAddr k) && !flsPending s (k % 2 ^ 32)
  | _ => mapped s (keyAddr k)

/-- Frames of a stack's pool that nothing uses, withheld because their share-table line fails its check (R581). -/
def withheld (s : State) (st : Nat) : List Nat :=
  let b := fget s F.PFX_SHARE_POOL_BASE (st / 4) * 1024
  if b = 0 then []
  else (s.syn.filter (fun e => decide (b ≤ e.1) && decide (e.1 < b + 2 ^ 19))).flatMap (fun e =>
    ((List.range 16).map (fun i => st / 4 * 2 ^ 23 + (e.1 - b) * 16 + i)).filter (fun k =>
      k / 2 ^ 21 == st && inPool s k && frameUse s k == 0 && !s.tie.deferred.any (fun d => d.1 == k)))

/-- Free frames of a stack in the capacity pool (TIE_STKn.FREE). -/
def stackFree (s : State) (st : Nat) : Nat :=
  if stackRetired s st then 0
  else
    let fe := fget s F.TIE_STK_FIXED_END st
    let busy := s.tie.used.filter (fun e => e.1 / 2 ^ 21 == st && decide (fe ≤ e.1 % 2 ^ 21) && e.2 != 0)
    let def' := s.tie.deferred.filter (fun e => e.1 / 2 ^ 21 == st && frameUse s e.1 == 0)
    stackFrames - fe - busy.length - def'.length - (withheld s st).length

/-- Free frames of a half's pool (R354). -/
def halfFree (s : State) (h : Nat) : Nat :=
  stackFree s (4 * h) + stackFree s (4 * h + 1) + stackFree s (4 * h + 2) + stackFree s (4 * h + 3)

/-- Frames the host tier holds (R339). -/
def hostTotal (s : State) : Nat :=
  (List.range (fget s F.TIE_HOST_CFG_AREAS 0)).foldl (fun n i => n + fget s F.TIE_HOST_AREA_FRAMES i) 0

/-- Used frames of a slow tier. -/
def tierUsed (s : State) (tier : Nat) : Nat :=
  (s.tie.used.filter (fun e => e.1 / 2 ^ 32 == tier && e.2 != 0)).length

/-- Discards that wait for their journal pages, by frame. -/
def flsWaiting (s : State) : List Nat :=
  (s.flash.half.flatMap (fun h => h.2.jr.filterMap (fun e => if e.1 < 2 ^ 40 then some (e.1 / 4) else none))).foldl
    (fun l f => if l.contains f then l else f :: l) []

/-- Free frames of the host (1) or flash (2) tier; none in the flash tier until it has mounted (R416). -/
def slowFree (s : State) (tier : Nat) : Nat :=
  let late := (s.tie.deferred.filter (fun e => e.1 / 2 ^ 32 == tier && frameUse s e.1 == 0)).length
  if tier = 1 then hostTotal s - tierUsed s 1 - late
  else if flashUp s then
    flashFrames s - tierUsed s 2 - late - ((flsWaiting s).filter (fun f => frameUse s (2 * 2 ^ 32 + f) == 0)).length
  else 0

/-- The first free frame at or after `k`, searching `n` frames. -/
def firstFree (s : State) (k : Nat) : Nat → Option Nat
  | 0 => none
  | n + 1 => if frameFree s k then some k else firstFree s (k + 1) n

/-- A frame of a stack the allocator gives (R195, R346): which free frame is the device's own choice (log entry 7).
Every used frame of the stack lies among the used entries, so one more than their number reaches a free one. -/
def pickStack (s : State) (st : Nat) : Option Nat :=
  let base := st * 2 ^ 21 + fget s F.TIE_STK_FIXED_END st
  let c := st * 2 ^ 21 + choiceOf s 1 % 2 ^ 21
  if stackFree s st = 0 then none
  else if frameFree s c then some c
  else firstFree s base (s.tie.used.length + s.tie.deferred.length + s.tie.share.length + 1)

/-- A frame of a slow tier the allocator gives: none of the flash tier until it has mounted, while it is READ_ONLY or while
WRITE_EN is 0 (R416, R427). -/
def pickSlow (s : State) (tier : Nat) : Option Nat :=
  let base := tier * 2 ^ 32
  let c := base + choiceOf s 2 % 2 ^ 32
  if tier = 2 ∧ (fget s F.FLS_STAT_STATE 0 ≠ 2 ∨ !fbit s F.FLS_CTL_WRITE_EN 0) then none
  else if frameFree s c then some c
  else firstFree s base
    (s.tie.used.length + s.tie.deferred.length + 1 + (if tier = 1 then 16 * hostTotal s else (flsWaiting s).length))

/-- The stack of a list with the most free frames, the first on a tie (R350). -/
def mostFree (s : State) (sts : List Nat) : Option Nat :=
  sts.foldl (fun b x => match b with
    | none => if stackFree s x = 0 then none else some x
    | some y => if stackFree s y < stackFree s x then some x else some y) none

/-! ### Event records (R591-R593) -/

/-- One 64-byte record written at TAIL, or counted in LOST; the interrupt by severity, which an exception record has
none of (R591, R593). -/
def logRecord (s : State) (sev : Option Nat) (bs : List Byte) : State :=
  let size := 2 ^ fget s F.INT_LOG_BASE_SIZE 0
  let tail := fget s F.INT_LOG_STAT_TAIL 0
  let head := fget s F.INT_LOG_HEAD_HEAD 0
  let s := { s with int0 := { s.int0 with seq := (s.int0.seq + 1) % 2 ^ 32 } }
  if !fbit s F.INT_CTL_LOG_EN 0 || (tail + 1) % size == head then fadd1 s F.INT_LOG_STAT_LOST 0 1
  else
    let s := memWrite s (fget s F.INT_LOG_BASE_BASE 0 * 65536 + 64 * tail) bs
    let s := fput s F.INT_LOG_STAT_TAIL 0 ((tail + 1) % size)
    match sev with
    | some v => if fget s F.INT_CTL_IRQ_LEVEL 0 ≤ v then irq s 0 12 else s
    | none => s

/-- An event record of a class from 0x20 on (R592). `detail` is bytes 24-47 as a number. -/
def event (s : State) (cls sev unit count addr obj incarn detail : Nat) : State :=
  logRecord s (some sev) (toBytes 1 cls ++ toBytes 1 sev ++ toBytes 2 unit ++ toBytes 4 count ++ toBytes 8 addr ++
    toBytes 4 obj ++ toBytes 2 incarn ++ toBytes 2 0 ++ toBytes 24 detail ++ toBytes 8 (timeNs s) ++
    toBytes 4 s.int0.seq ++ toBytes 4 0)

/-- The integrity logic receives a failed line's address from a finder of kind 1-10 (R582): POISON of a shared frame,
one LINE record that names the object, the count. A line of a retired stack counts only (R691). -/
def lineFailureOf (s : State) (finder sev a obj incarn : Nat) : State :=
  let tier := addrTier a
  let s := if tier == 1 && hostTierBad s a then hstErr s F.HST_ERR_ATS else s
  let s := if tier == 0 then
      fadd1 { s with int0 := { s.int0 with fails := s.int0.fails ++ [(a, timeMs s)] } } F.INT_LINE_CNT_STACK 0 1
    else if tier == 1 then fadd1 s F.INT_LINE_CNT_HOST 0 1 else s
  if tier == 0 && stackRetired s (addrStack a) then s
  else
    let k := addrKey a
    let s := if tier == 0 && decide (0 < (share s k).count) && !(share s k).poison then
        let s := setShare s k { share s k with poison := true }
        fput s F.INT_POISON_POISONED 0 (fget s F.INT_POISON_POISONED 0 + 1)
      else s
    event s 0x20 sev (if tier == 0 then 544 + addrStack a else if tier == 1 then 560 else 563 + flsHalfOf (unitOf a)) 1 a obj incarn finder

/-- A failed line of no context, object or table. -/
def lineFailure (s : State) (finder sev a : Nat) : State := lineFailureOf s finder sev a 0 0

/-! ### Time passing -/

/-- One nanosecond passes; the global time base advances by it, adjusted by RATE_PPB (R56, R433; log entry 1). -/
def idle (s : State) : State :=
  let rate : Int := sext 32 (fget s F.FAB_TIME_ADJ_RATE_PPB 0)
  { s with now := s.now + 1, gtime := s.gtime + (1000000000 + rate).toNat }

end Sys2Proof.Machine
end

