-- ==== Sys2Proof/Machine/Tiller.lean ====
section
/-!
DEFINITION. The tiller: reading and writing its registers and memories, what an instruction waits for (R72, R74), how an
instruction issues, and how an exception is raised and recorded (R166-R168).
-/

namespace Sys2Proof.Machine

/-! ### Tillers and their registers -/

def til (s : State) (t : Nat) : Tiller := nget (fun _ => {}) s.til t

def tput (s : State) (t : Nat) (x : Tiller) : State := { s with til := nput (fun _ => {}) s.til t x }

def tupd (s : State) (t : Nat) (f : Tiller → Tiller) : State := tput s t (f (til s t))

def shf (s : State) (h : Nat) : Sheaf := nget (fun _ => {}) s.shf h

def shput (s : State) (h : Nat) (x : Sheaf) : State := { s with shf := nput (fun _ => {}) s.shf h x }

def shupd (s : State) (h : Nat) (f : Sheaf → Sheaf) : State := shput s h (f (shf s h))

/-- s[r]; s0 reads 0. -/
def sreg (x : Tiller) (r : Nat) : Word := if r = 0 then 0 else nget (fun _ => 0) x.s r

/-- s[r] written; a write to s0 is discarded (R129). -/
def sset (x : Tiller) (r : Nat) (w : Word) : Tiller :=
  if r = 0 then x else { x with s := nput (fun _ => 0) x.s r w }

def vreg (x : Tiller) (r : Nat) : VReg := nget (fun _ => 0) x.v r

def vset (x : Tiller) (r : Nat) (w : VReg) : Tiller := { x with v := nput (fun _ => 0) x.v r w }

/-- What an accumulator that nothing has written reads as: 0, or what a test segment left (R596). -/
def accDefault (x : Tiller) (r : Nat) : Tile := if x.junk = 0 then 0 else Config.testTile x.junk r

/-- What a byte of local SRAM that nothing has written reads as: 0, or what a test segment left (R596). -/
def sramDefault (x : Tiller) (a : Nat) : Byte := if x.junk = 0 ∨ a < x.junkFrom then 0 else Config.testByte x.junk a

def areg (x : Tiller) (r : Nat) : Tile := nget (accDefault x) x.acc r

def aset (x : Tiller) (r : Nat) (w : Tile) : Tiller := { x with acc := nput (accDefault x) x.acc r w }

/-- p[r]; p0 reads all ones. -/
def preg (x : Tiller) (r : Nat) : PReg := if r = 0 then BitVec.allOnes 128 else nget (fun _ => 0) x.p r

/-- p[r] written; a write to p0 is discarded (R130). -/
def pset (x : Tiller) (r : Nat) (w : PReg) : Tiller :=
  if r = 0 then x else { x with p := nput (fun _ => 0) x.p r w }

/-- A predicate of 128 equal bits. -/
def pfill (b : Bool) : PReg := if b then BitVec.allOnes 128 else 0

/-- The next instruction in program order. -/
def advPc (x : Tiller) : Tiller := { x with pc := x.pc + 8 }

/-- A counter of a tiller counts, unless the tiller is RETIRED (R121). -/
def tcount (s : State) (f : Fld) (t n : Nat) : State := if islState s t = 3 then s else fadd1 s f t n

/-- Numeric flags of a tiller set (R119); the registers of a RETIRED one keep their values (R121). -/
def fpFlags (s : State) (t fl : Nat) : State :=
  if fl = 0 ∨ islState s t = 3 then s
  else rput s .TIL_FPSTAT t (BitVec.ofNat 64 ((rword s .TIL_FPSTAT t).toNat ||| fl % 32))

/-! ### T-cycles -/

/-- T-cycles of a tiller since reset release, in thousandths, each counted at the clock in force (SYS.ID 1). -/
def tcyc (s : State) (t : Nat) : Nat := (til s t).cyc + (s.now - (til s t).cycT) * islFreq s t

/-- The cycle count of a T-island's tiller is brought up to the present, before the clock changes. -/
def tcycFix (s : State) (t : Nat) : State :=
  if 512 ≤ t then s
  else
    let c := tcyc s t
    tupd s t (fun x => { x with cyc := c, cycT := s.now })

/-- TIL_BUSY is brought up to the present: the whole T-cycles that the running item has used (R121). -/
def busyFix (s : State) (t : Nat) : State :=
  let n := (tcyc s t - (til s t).busyCyc) / 1000
  if (til s t).item.isNone then s
  else tcount (tupd s t (fun x => { x with busyCyc := x.busyCyc + 1000 * n })) F.TIL_BUSY_COUNT t n

/-! ### What an incomplete instruction still reads and writes (R72-R74) -/

def Pend.writesS : Pend → Option Nat
  | .load rd _ _ => some rd
  | .copy rd _ _ _ => some rd
  | .fill rd _ _ _ => some rd
  | .ctx rd _ _ _ _ => some rd
  | .cow rd _ _ => some rd
  | .ask rd _ _ => some rd
  | _ => none

def Pend.writesV : Pend → Option Nat
  | .vload vd _ _ => some vd
  | .vword vd _ _ => some vd
  | _ => none

def Pend.writesP : Pend → Option Nat
  | .ctx _ _ (some (p, _)) _ _ => some p
  | .cow _ p _ => some p
  | _ => none

def Pend.writesAcc : Pend → Option Nat
  | .accLoad a _ => some a
  | .mma a _ _ _ _ _ _ _ => some a
  | _ => none

def Pend.readsAcc : Pend → Option Nat
  | .accStore a _ => some a
  | .mma a _ _ _ _ _ _ _ => some a
  | _ => none

def Pend.isArray : Pend → Bool
  | .accLoad _ _ => true
  | .accStore _ _ => true
  | .mma _ _ _ _ _ _ _ _ => true
  | _ => false

def Pend.isMov : Pend → Bool
  | .copy _ _ _ _ => true
  | .fill _ _ _ _ => true
  | _ => false

/-- Held in the move pipe (R131). -/
def Pend.inMovePipe : Pend → Bool
  | .copy _ _ _ _ => true
  | .fill _ _ _ _ => true
  | .ctx _ _ _ _ _ => true
  | .cow _ _ _ => true
  | .ask _ _ _ => true
  | _ => false

def awaitS (x : Tiller) (r : Nat) : Bool := r != 0 && x.pend.any (fun p => p.op.writesS == some r)
def awaitV (x : Tiller) (r : Nat) : Bool := x.pend.any (fun p => p.op.writesV == some r)
def awaitP (x : Tiller) (r : Nat) : Bool := r != 0 && x.pend.any (fun p => p.op.writesP == some r)
def awaitAcc (x : Tiller) (r : Nat) : Bool := x.pend.any (fun p => p.op.writesAcc == some r)
def accBusy (x : Tiller) (r : Nat) : Bool := x.pend.any (fun p => p.op.writesAcc == some r || p.op.readsAcc == some r)

def freeS (x : Tiller) (rs : List Nat) : Bool := rs.all (fun r => !awaitS x r)
def freeV (x : Tiller) (rs : List Nat) : Bool := rs.all (fun r => !awaitV x r)
def freeP (x : Tiller) (rs : List Nat) : Bool := rs.all (fun r => !awaitP x r)

/-! ### Memory a tiller reaches (the tiller address map) -/

def sramSize : Nat := 0x200000
def storeBase : Nat := 0x1000000
def storeSize : Nat := 0x1000000
def devBase : Nat := 0x10000000000

/-- `n` bytes at `a` lie in local SRAM. -/
def inLocal (a n : Nat) : Bool := decide (a + n ≤ sramSize)
/-- `n` bytes at `a` lie in the sheaf store. -/
def inStore (a n : Nat) : Bool := decide (storeBase ≤ a) && decide (a + n ≤ storeBase + storeSize)
/-- `n` bytes at `a` lie at mapped device memory addresses (R338): every frame touched is mapped. -/
def inDevice (s : State) (a n : Nat) : Bool :=
  decide (devBase ≤ a) && decide (a + n ≤ 2 ^ 64) &&
    (List.range (cdiv ((a - devBase) % 65536 + n) 65536)).all (fun i => mapped s ((a - devBase) / 65536 * 65536 + i * 65536))

/-- The image area (R162): its end. -/
def imageEnd (x : Tiller) : Nat :=
  match x.img with
  | none => 0
  | some g => roundUp (64 + g.codeLen + g.dataLen) 64

/-- The code area holds an address (R162). -/
def inCode (x : Tiller) (a : Nat) : Bool :=
  match x.img with
  | none => false
  | some g => decide (64 ≤ a) && decide (a < 64 + g.codeLen) && a % 8 == 0

def localBytes (x : Tiller) (a n : Nat) : List Byte := ngets (sramDefault x) x.sram a n

/-- `n` 32-bit words from `w` on get their parity right (R82). -/
def dropWords (bad : List Nat) (a n : Nat) : List Nat :=
  bad.filter (fun w => !(decide (a / 4 ≤ w) && decide (w ≤ (a + n - 1) / 4)))

/-- Bytes written to local SRAM; every write recomputes parity (R82). -/
def localWrite (x : Tiller) (a : Nat) (bs : List Byte) : Tiller :=
  { x with sram := nputs (sramDefault x) x.sram a bs, bad := if bs.length = 0 then x.bad else dropWords x.bad a bs.length }

def storeBytes (h : Sheaf) (a n : Nat) : List Byte := ngets (fun _ => 0) h.store (a - storeBase) n

def storeWrite (h : Sheaf) (a : Nat) (bs : List Byte) : Sheaf :=
  { h with
    store := nputs (fun _ => 0) h.store (a - storeBase) bs
    bad := if bs.length = 0 then h.bad else dropWords h.bad (a - storeBase) bs.length }

/-- A word with wrong parity among `n` bytes at `a`. -/
def parityBad (bad : List Nat) (a n : Nat) : Bool :=
  bad.any (fun w => decide (a / 4 ≤ w) && decide (w ≤ (a + n - 1) / 4))

/-- The sheaf of a tiller (R11). -/
def sheafOf (t : Nat) : Nat := t / 16

/-- Half of a tiller (R11). -/
def halfOf (t : Nat) : Nat := t / 256

/-- `n` bytes a tiller reads at `a` in local SRAM or its sheaf store. -/
def tread (s : State) (t a n : Nat) : List Byte :=
  if inLocal a n then localBytes (til s t) a n else storeBytes (shf s (sheafOf t)) a n

/-- Bytes a tiller writes at `a` in local SRAM or its sheaf store. -/
def twrite (s : State) (t a : Nat) (bs : List Byte) : State :=
  if inLocal a bs.length then tupd s t (fun x => localWrite x a bs)
  else shupd s (sheafOf t) (fun h => storeWrite h a bs)

/-- A read at `a` finds a parity error (R82). -/
def tparity (s : State) (t a n : Nat) : Bool :=
  if inLocal a n then parityBad (til s t).bad a n else parityBad (shf s (sheafOf t)).bad (a - storeBase) n

/-- Local SRAM ranges an incomplete instruction touches: address, length, written. -/
def Pend.local : Pend → List (Nat × Nat × Bool)
  | .load _ n a => [(a, n, false)]
  | .vload _ _ a => [(a, 512, false)]
  | .vword _ _ a => [(a, 4, false)]
  | .accLoad _ a => [(a, 4096, false)]
  | .accStore _ a => [(a, 4096, true)]
  | .mma _ ra rb rs ta tb _ nb =>
    let q (ty : Nat) : Nat := if ty = 1 then 64 else if ty = 5 then 16 else if ty = 6 ∨ ty = 7 then 24 else 32
    [(ra, nb * 32 * q ta, false), (rb, nb * 32 * q tb, false), (rs, if rs = 0 then 0 else 64 * nb, false)]
  | .copy _ d sr n => [(d, n, true), (sr, n, false)]
  | .fill _ d _ n => [(d, n, true)]
  | .ask _ _ l => l
  | _ => []

/-- Two ranges of local SRAM touch one 64-byte granule. -/
def sameGranule (a n b m : Nat) : Bool :=
  n != 0 && m != 0 && inLocal a n && inLocal b m && decide (a / 64 ≤ (b + m - 1) / 64) && decide (b / 64 ≤ (a + n - 1) / 64)

/-- An access to local SRAM has to wait for an earlier one (R74). -/
def sramWait (ps : List Issued) (a n : Nat) (w : Bool) : Bool :=
  ps.any (fun p => p.op.local.any (fun r => (w || r.2.2) && sameGranule a n r.1 r.2.1))

/-- One of several accesses (address, length, written) has to wait. -/
def sramBusy (ps : List Issued) (l : List (Nat × Nat × Bool)) : Bool := l.any (fun r => sramWait ps r.1 r.2.1 r.2.2)

/-! ### Issue and exceptions -/

/-- The tiller can issue: it runs an item, no exception waits for delivery, it does not wait at a barrier or for a push,
and the address of the next instruction lies in the code area (R71, R122, R159, R167, R693). -/
def canIssue (x : Tiller) : Bool :=
  x.item.isSome && x.exc.isNone && x.atBar.isNone && x.pushing.isNone && inCode x x.pc.toNat

/-- An exception is detected: the first of an item is recorded, a further one counts (R167). Of two in one T-cycle the one of
the earlier instruction in program order is recorded (R168). -/
def raise (s : State) (t : Nat) (e : Exc) : State :=
  let e := { e with time := timeNs s, cyc := tcyc s t / 1000 }
  tupd s t (fun x => match x.exc with
    | some o => { x with exc := some (if o.cyc = e.cyc ∧ e.n < o.n then e else o), suppressed := x.suppressed + 1 }
    | none => { x with exc := some e })

/-- The instruction word of an opcode and the 54 bits below it (R123). -/
def wordOf (op : Nat) (b : BitVec 54) : Word := w64 (op * 2 ^ 54 + b.toNat)

/-- An exception detected at issue: precise, the instruction has no effect (R166). -/
def raiseAt (s : State) (t op : Nat) (b : BitVec 54) (code : Nat) (addr : Word) : State :=
  raise s t { code := code, precise := true, pc := (til s t).pc, instr := wordOf op b, addr := addr, n := (til s t).seq }

/-- The guard predicate (R125). -/
def guardOf (b : BitVec 54) : Nat := bget b 51 3

/-- The guard turns the whole instruction off: bit 0 of it decides, and for a vector instruction every bit (R127, R128). -/
def guardOff (x : Tiller) (b : BitVec 54) (vec : Bool) : Bool :=
  if vec then preg x (guardOf b) == 0 else !bbit (preg x (guardOf b)) 0

/-- One instruction at its issue (R72, R124, R127, R128): nothing happens while the tiller cannot issue or the guard awaits a
write; an illegal word raises ILLEGAL unless the guard turns it off; nothing happens while another register the instruction
needs awaits a write or its pipe is full (`ready`); then an instruction that the guard turns off only passes, and `k` is any
other's effect, a legal vector instruction's always. -/
def issue (s : State) (t op : Nat) (b : BitVec 54) (vec legal ready : Bool) (k : State → State) : State :=
  let off := guardOff (til s t) b vec
  if !canIssue (til s t) then s
  else if awaitP (til s t) (guardOf b) then s
  else if !legal && !off then raiseAt s t op b 1 0
  else if !ready then s
  else if off && !(vec && legal) then tupd s t advPc
  else k s

/-- An instruction is added to the incomplete ones and the next instruction follows. -/
def pushPend (s : State) (t op : Nat) (b : BitVec 54) (p : Pend) : State :=
  tupd s t (fun x => { advPc x with pend := x.pend ++ [{ op := p, pc := x.pc, word := wordOf op b, n := x.seq }], seq := x.seq + 1 })

/-- Incomplete instruction `i`. -/
def pendOp (x : Tiller) (i : Nat) : Option Pend := (x.pend[i]?).map (fun p => p.op)

/-- Incomplete instruction `i` leaves the list. -/
def dropPend (x : Tiller) (i : Nat) : Tiller := { x with pend := x.pend.eraseIdx i }

/-- Incomplete instruction `i` ends by an exception detected at its completion: imprecise (R166). -/
def imprecise (s : State) (t i code : Nat) (addr : Word) : State :=
  match (til s t).pend[i]? with
  | none => s
  | some p => raise (tupd s t (fun x => dropPend x i)) t { code := code, pc := p.pc, instr := p.word, addr := addr, n := p.n }

/-- Place and destination register of request `id` among a tiller's incomplete instructions. -/
def askAt (s : State) (t id : Nat) : Option (Nat × Nat) :=
  (List.range (til s t).pend.length).findSome? (fun i => match pendOp (til s t) i with
    | some (.ask rd k _) => if k = id then some (i, rd) else none
    | _ => none)

/-- Request `id` of a tiller is answered: its rd is written and the instruction is complete. An answer to an instruction
that is no longer there goes nowhere. -/
def askDone (s : State) (t id : Nat) (v : Word) : State :=
  match askAt s t id with
  | some (i, rd) => tupd s t (fun x => sset (dropPend x i) rd v)
  | none => s

/-- The move pipe accepts another instruction (R131). -/
def movePipeFree (x : Tiller) : Bool := decide ((x.pend.filter (fun p => p.op.inMovePipe)).length < 16)

end Sys2Proof.Machine
end

