-- ==== Sys2Proof/Machine/Operands.lean ====
section
/-!
DEFINITION. The operand forms of Sirec: the fields of the six instruction formats (R125), on bits [53:0] of the word,
with the reserved fields each form keeps at 0 (R124).
-/

namespace Sys2Proof.Machine

/-! Format R and I -/
def fRD (b : BitVec 54) : Nat := bget b 46 5
def fRA (b : BitVec 54) : Nat := bget b 41 5
def fRB (b : BitVec 54) : Nat := bget b 36 5
def fPD (b : BitVec 54) : Nat := bget b 33 3
def fRlow (b : BitVec 54) : Nat := bget b 0 33
def fI32 (b : BitVec 54) : Nat := bget b 32 1
def fIMM (b : BitVec 54) : Nat := bget b 0 32
/-- IMM of format I, sign-extended to 64 bits. -/
def fIMMs (b : BitVec 54) : Word := wInt (sext 32 (fIMM b))

/-! Format B -/
def fBRA (b : BitVec 54) : Nat := bget b 46 5
def fBRB (b : BitVec 54) : Nat := bget b 41 5
def fBPS (b : BitVec 54) : Nat := bget b 38 3
def fBres (b : BitVec 54) : Nat := bget b 32 6
def fOFF (b : BitVec 54) : Nat := bget b 0 32

/-! Format V -/
def fVD (b : BitVec 54) : Nat := bget b 46 5
def fVA (b : BitVec 54) : Nat := bget b 41 5
def fVB (b : BitVec 54) : Nat := bget b 36 5
def fVC (b : BitVec 54) : Nat := bget b 31 5
def fVPD (b : BitVec 54) : Nat := bget b 28 3
def fTYPE (b : BitVec 54) : Nat := bget b 24 4
def fVRS (b : BitVec 54) : Nat := bget b 19 5
def fVres (b : BitVec 54) : Nat := bget b 16 3
def fVIMM (b : BitVec 54) : Nat := bget b 0 16

/-! Format A -/
def fACC (b : BitVec 54) : Nat := bget b 49 2
def fARA (b : BitVec 54) : Nat := bget b 44 5
def fARB (b : BitVec 54) : Nat := bget b 39 5
def fARS (b : BitVec 54) : Nat := bget b 34 5
def fTA (b : BitVec 54) : Nat := bget b 30 4
def fTB (b : BitVec 54) : Nat := bget b 26 4
def fZERO (b : BitVec 54) : Nat := bget b 25 1
def fNBM1 (b : BitVec 54) : Nat := bget b 17 8
def fAres (b : BitVec 54) : Nat := bget b 0 17

/-! Format X -/
def fXRD (b : BitVec 54) : Nat := bget b 46 5
def fXRA (b : BitVec 54) : Nat := bget b 41 5
def fXRB (b : BitVec 54) : Nat := bget b 36 5
def fXRC (b : BitVec 54) : Nat := bget b 31 5
def fXPD (b : BitVec 54) : Nat := bget b 28 3
def fXIMM (b : BitVec 54) : Nat := bget b 0 28

/-- Every field of a list is 0: the fields an instruction does not use (R124). -/
def zeros (fs : List Nat) : Bool := fs.all (· == 0)

end Sys2Proof.Machine
end

