-- ==== Sys2Proof/Machine/Scalar.lean ====
section
/-!
DEFINITION. Scalar arithmetic, immediates, memory, branches and predicate instructions (04_sirec_isa.md, "Scalar, branch
and predicate instructions").
-/

namespace Sys2Proof.Machine

/-! ### Shared operations -/

/-- Format R with two sources and a destination: rd = f ra rb. PD and the low bits are reserved. -/
def aluR (s : State) (t op : Nat) (b : BitVec 54) (f : Word → Word → Word) : State :=
  let x := til s t
  issue s t op b false (zeros [fPD b, fRlow b]) (freeS x [fRD b, fRA b, fRB b])
    (fun s => tupd s t (fun x => advPc (sset x (fRD b) (f (sreg x (fRA b)) (sreg x (fRB b))))))

/-- Format R with one source: RB is 0 (R131). -/
def aluR1 (s : State) (t op : Nat) (b : BitVec 54) (f : Word → Word) : State :=
  let x := til s t
  issue s t op b false (zeros [fPD b, fRlow b, fRB b]) (freeS x [fRD b, fRA b])
    (fun s => tupd s t (fun x => advPc (sset x (fRD b) (f (sreg x (fRA b))))))

/-- Compares in format R: p[PD] is all ones or all zeros (R130). RD is reserved. -/
def cmpR (s : State) (t op : Nat) (b : BitVec 54) (f : Word → Word → Bool) : State :=
  let x := til s t
  issue s t op b false (zeros [fRD b, fRlow b]) (freeS x [fRA b, fRB b] && freeP x [fPD b])
    (fun s => tupd s t (fun x => advPc (pset x (fPD b) (pfill (f (sreg x (fRA b)) (sreg x (fRB b)))))))

/-- Format I with one source and a sign-extended immediate. -/
def aluI (s : State) (t op : Nat) (b : BitVec 54) (f : Word → Word → Word) : State :=
  let x := til s t
  issue s t op b false (zeros [fRB b, fPD b, fI32 b]) (freeS x [fRD b, fRA b])
    (fun s => tupd s t (fun x => advPc (sset x (fRD b) (f (sreg x (fRA b)) (fIMMs b)))))

/-- Shifts by IMM[5:0]; IMM[31:6] are 0. -/
def shiftI (s : State) (t op : Nat) (b : BitVec 54) (f : Word → Nat → Word) : State :=
  let x := til s t
  issue s t op b false (zeros [fRB b, fPD b, fI32 b, fIMM b / 64]) (freeS x [fRD b, fRA b])
    (fun s => tupd s t (fun x => advPc (sset x (fRD b) (f (sreg x (fRA b)) (fIMM b % 64)))))

/-- Compares with a sign-extended immediate. -/
def cmpI (s : State) (t op : Nat) (b : BitVec 54) (f : Word → Word → Bool) : State :=
  let x := til s t
  issue s t op b false (zeros [fRD b, fRB b, fI32 b]) (freeS x [fRA b] && freeP x [fPD b])
    (fun s => tupd s t (fun x => advPc (pset x (fPD b) (pfill (f (sreg x (fRA b)) (fIMMs b))))))

def sltW (a b : Word) : Bool := BitVec.slt a b
def sgeW (a b : Word) : Bool := !BitVec.slt a b
def ultW (a b : Word) : Bool := BitVec.ult a b
def ugeW (a b : Word) : Bool := !BitVec.ult a b

/-- Leading zeros of a word. -/
def clz64 (w : Word) : Word := if w = 0 then 64 else w64 (63 - Nat.log2 w.toNat)

/-- Number of bits set among the low `n` bits of a number. -/
def popc : Nat → Nat → Nat
  | 0, _ => 0
  | n + 1, v => v % 2 + popc n (v / 2)

/-! ### Scalar arithmetic -/

def execAddI64 (t : Fin 512) (b : BitVec 54) (s : State) : Host.Outcome State Fault Refusal :=
  .next (aluR s t 0x001 b (fun x y => x + y))
def execSubI64 (t : Fin 512) (b : BitVec 54) (s : State) : Host.Outcome State Fault Refusal :=
  .next (aluR s t 0x002 b (fun x y => x - y))
def execAndI64 (t : Fin 512) (b : BitVec 54) (s : State) : Host.Outcome State Fault Refusal :=
  .next (aluR s t 0x003 b (fun x y => x &&& y))
def execOrI64 (t : Fin 512) (b : BitVec 54) (s : State) : Host.Outcome State Fault Refusal :=
  .next (aluR s t 0x004 b (fun x y => x ||| y))
def execXorI64 (t : Fin 512) (b : BitVec 54) (s : State) : Host.Outcome State Fault Refusal :=
  .next (aluR s t 0x005 b (fun x y => x ^^^ y))
/-- SHL.I64 shifts by rb[5:0]. -/
def execShlI64 (t : Fin 512) (b : BitVec 54) (s : State) : Host.Outcome State Fault Refusal :=
  .next (aluR s t 0x006 b (fun x y => x <<< (y.toNat % 64)))
def execShrI64 (t : Fin 512) (b : BitVec 54) (s : State) : Host.Outcome State Fault Refusal :=
  .next (aluR s t 0x007 b (fun x y => x >>> (y.toNat % 64)))
def execSarI64 (t : Fin 512) (b : BitVec 54) (s : State) : Host.Outcome State Fault Refusal :=
  .next (aluR s t 0x008 b (fun x y => x.sshiftRight (y.toNat % 64)))
def execMulI64 (t : Fin 512) (b : BitVec 54) (s : State) : Host.Outcome State Fault Refusal :=
  .next (aluR s t 0x009 b (fun x y => x * y))
def execMulhuI64 (t : Fin 512) (b : BitVec 54) (s : State) : Host.Outcome State Fault Refusal :=
  .next (aluR s t 0x00A b (fun x y => w64 (x.toNat * y.toNat / 2 ^ 64)))
/-- DIVU.I64; a zero divisor gives all ones (R133). -/
def execDivuI64 (t : Fin 512) (b : BitVec 54) (s : State) : Host.Outcome State Fault Refusal :=
  .next (aluR s t 0x00B b (fun x y => if y = 0 then BitVec.allOnes 64 else x / y))
/-- REMU.I64; a zero divisor gives ra (R133). -/
def execRemuI64 (t : Fin 512) (b : BitVec 54) (s : State) : Host.Outcome State Fault Refusal :=
  .next (aluR s t 0x00C b (fun x y => if y = 0 then x else x % y))
def execMinI64 (t : Fin 512) (b : BitVec 54) (s : State) : Host.Outcome State Fault Refusal :=
  .next (aluR s t 0x00D b (fun x y => if sltW y x then y else x))
def execMaxI64 (t : Fin 512) (b : BitVec 54) (s : State) : Host.Outcome State Fault Refusal :=
  .next (aluR s t 0x00E b (fun x y => if sltW x y then y else x))
def execMinuI64 (t : Fin 512) (b : BitVec 54) (s : State) : Host.Outcome State Fault Refusal :=
  .next (aluR s t 0x00F b (fun x y => if ultW y x then y else x))
def execMaxuI64 (t : Fin 512) (b : BitVec 54) (s : State) : Host.Outcome State Fault Refusal :=
  .next (aluR s t 0x010 b (fun x y => if ultW x y then y else x))
def execClzI64 (t : Fin 512) (b : BitVec 54) (s : State) : Host.Outcome State Fault Refusal :=
  .next (aluR1 s t 0x011 b clz64)
def execPopcI64 (t : Fin 512) (b : BitVec 54) (s : State) : Host.Outcome State Fault Refusal :=
  .next (aluR1 s t 0x012 b (fun x => w64 (popc 64 x.toNat)))
/-- SEL.I64 reads p[PD]. -/
def execSelI64 (t : Fin 512) (b : BitVec 54) (s : State) : Host.Outcome State Fault Refusal :=
  let x := til s t
  .next (issue s t 0x013 b false (zeros [fRlow b]) (freeS x [fRD b, fRA b, fRB b] && freeP x [fPD b])
    (fun s => tupd s t (fun x => advPc (sset x (fRD b)
      (if bbit (preg x (fPD b)) 0 then sreg x (fRA b) else sreg x (fRB b))))))
def execCmpEq (t : Fin 512) (b : BitVec 54) (s : State) : Host.Outcome State Fault Refusal :=
  .next (cmpR s t 0x018 b (fun x y => x == y))
def execCmpNe (t : Fin 512) (b : BitVec 54) (s : State) : Host.Outcome State Fault Refusal :=
  .next (cmpR s t 0x019 b (fun x y => x != y))
def execCmpLt (t : Fin 512) (b : BitVec 54) (s : State) : Host.Outcome State Fault Refusal :=
  .next (cmpR s t 0x01A b sltW)
def execCmpLtu (t : Fin 512) (b : BitVec 54) (s : State) : Host.Outcome State Fault Refusal :=
  .next (cmpR s t 0x01B b ultW)
def execCmpGe (t : Fin 512) (b : BitVec 54) (s : State) : Host.Outcome State Fault Refusal :=
  .next (cmpR s t 0x01C b sgeW)
def execCmpGeu (t : Fin 512) (b : BitVec 54) (s : State) : Host.Outcome State Fault Refusal :=
  .next (cmpR s t 0x01D b ugeW)

/-! ### Immediates -/

def execAddiI64 (t : Fin 512) (b : BitVec 54) (s : State) : Host.Outcome State Fault Refusal :=
  .next (aluI s t 0x021 b (fun x y => x + y))
def execAndiI64 (t : Fin 512) (b : BitVec 54) (s : State) : Host.Outcome State Fault Refusal :=
  .next (aluI s t 0x022 b (fun x y => x &&& y))
def execOriI64 (t : Fin 512) (b : BitVec 54) (s : State) : Host.Outcome State Fault Refusal :=
  .next (aluI s t 0x023 b (fun x y => x ||| y))
def execXoriI64 (t : Fin 512) (b : BitVec 54) (s : State) : Host.Outcome State Fault Refusal :=
  .next (aluI s t 0x024 b (fun x y => x ^^^ y))
def execShliI64 (t : Fin 512) (b : BitVec 54) (s : State) : Host.Outcome State Fault Refusal :=
  .next (shiftI s t 0x025 b (fun x n => x <<< n))
def execShriI64 (t : Fin 512) (b : BitVec 54) (s : State) : Host.Outcome State Fault Refusal :=
  .next (shiftI s t 0x026 b (fun x n => x >>> n))
def execSariI64 (t : Fin 512) (b : BitVec 54) (s : State) : Host.Outcome State Fault Refusal :=
  .next (shiftI s t 0x027 b (fun x n => x.sshiftRight n))
/-- LDI.I64: rd = IMM sign-extended; RA is 0. -/
def execLdiI64 (t : Fin 512) (b : BitVec 54) (s : State) : Host.Outcome State Fault Refusal :=
  let x := til s t
  .next (issue s t 0x028 b false (zeros [fRA b, fRB b, fPD b, fI32 b]) (freeS x [fRD b])
    (fun s => tupd s t (fun x => advPc (sset x (fRD b) (fIMMs b)))))
/-- LDIH.I64: rd[63:32] = IMM; rd[31:0] keeps its value; RA is not used. -/
def execLdihI64 (t : Fin 512) (b : BitVec 54) (s : State) : Host.Outcome State Fault Refusal :=
  let x := til s t
  .next (issue s t 0x029 b false (zeros [fRA b, fRB b, fPD b, fI32 b]) (freeS x [fRD b])
    (fun s => tupd s t (fun x => advPc (sset x (fRD b)
      (w64 (fIMM b * 2 ^ 32 + (sreg x (fRD b)).toNat % 2 ^ 32))))))
def execCmpiEq (t : Fin 512) (b : BitVec 54) (s : State) : Host.Outcome State Fault Refusal :=
  .next (cmpI s t 0x02A b (fun x y => x == y))
def execCmpiLt (t : Fin 512) (b : BitVec 54) (s : State) : Host.Outcome State Fault Refusal :=
  .next (cmpI s t 0x02B b sltW)
def execCmpiGe (t : Fin 512) (b : BitVec 54) (s : State) : Host.Outcome State Fault Refusal :=
  .next (cmpI s t 0x02C b sgeW)

/-! ### Scalar memory (R79-R82, R134) -/

/-- The address ra + IMM. -/
def memAddr (x : Tiller) (b : BitVec 54) : Nat := (sreg x (fRA b) + fIMMs b).toNat

/-- A scalar load of `n` bytes issues: ADDRESS for a misaligned address (R134) or one outside local SRAM and the sheaf
store (R79). Its data returns later (R80). -/
def loadI (s : State) (t op : Nat) (b : BitVec 54) (n : Nat) : State :=
  let x := til s t
  let a := memAddr x b
  issue s t op b false (zeros [fRB b, fPD b, fI32 b])
    (freeS x [fRD b, fRA b])
    (fun s =>
      if sramWait x.pend a n false then s
      else if a % n ≠ 0 ∨ !(inLocal a n || inStore a n) then raiseAt s t op b 2 (w64 a)
      else pushPend s t op b (.load (fRD b) n a))

/-- A scalar store of `n` bytes: ADDRESS as a load, and into the image area (R134). -/
def storeI (s : State) (t op : Nat) (b : BitVec 54) (n : Nat) : State :=
  let x := til s t
  let a := memAddr x b
  issue s t op b false (zeros [fRB b, fPD b, fI32 b])
    (freeS x [fRD b, fRA b])
    (fun s =>
      if sramWait x.pend a n true then s
      else if a % n ≠ 0 ∨ !(inLocal a n || inStore a n) ∨ (inLocal a n && decide (a < imageEnd (til s t))) then
        raiseAt s t op b 2 (w64 a)
      else tupd (twrite s t a (toBytes n (sreg (til s t) (fRD b)).toNat)) t advPc)

/-- A sheaf-store atomic (R81): `f` gives the new word from the old word, rb and rd. A word with wrong parity delivers
no data and raises MEMORY (R82). The access is complete at its command. -/
def amoI (s : State) (t op : Nat) (b : BitVec 54) (f : Word → Word → Word → Word) : State :=
  let x := til s t
  let a := memAddr x b
  issue s t op b false (zeros [fPD b, fI32 b]) (freeS x [fRD b, fRA b, fRB b])
    (fun s =>
      if a % 8 ≠ 0 ∨ !inStore a 8 then raiseAt s t op b 2 (w64 a)
      else if tparity s t a 8 then
        let s := fadd1 s F.TIL_SHF_PERR_COUNT (sheafOf t) 1
        let s := event s 0x23 1 (512 + sheafOf t) 1 0 0 0 (sheafOf t)
        let x := til s t
        tupd (raise s t { code := 3, pc := x.pc, instr := wordOf op b, addr := w64 a, n := x.seq }) t advPc
      else
        let old := w64 (ofBytes (tread s t a 8))
        let new := f old (sreg (til s t) (fRB b)) (sreg (til s t) (fRD b))
        tupd (twrite s t a (toBytes 8 new.toNat)) t (fun x => advPc (sset x (fRD b) old)))

def execLdU8 (t : Fin 512) (b : BitVec 54) (s : State) : Host.Outcome State Fault Refusal := .next (loadI s t 0x030 b 1)
def execLdU16 (t : Fin 512) (b : BitVec 54) (s : State) : Host.Outcome State Fault Refusal := .next (loadI s t 0x031 b 2)
def execLdU32 (t : Fin 512) (b : BitVec 54) (s : State) : Host.Outcome State Fault Refusal := .next (loadI s t 0x032 b 4)
def execLd64 (t : Fin 512) (b : BitVec 54) (s : State) : Host.Outcome State Fault Refusal := .next (loadI s t 0x033 b 8)
def execSt8 (t : Fin 512) (b : BitVec 54) (s : State) : Host.Outcome State Fault Refusal := .next (storeI s t 0x034 b 1)
def execSt16 (t : Fin 512) (b : BitVec 54) (s : State) : Host.Outcome State Fault Refusal := .next (storeI s t 0x035 b 2)
def execSt32 (t : Fin 512) (b : BitVec 54) (s : State) : Host.Outcome State Fault Refusal := .next (storeI s t 0x036 b 4)
def execSt64 (t : Fin 512) (b : BitVec 54) (s : State) : Host.Outcome State Fault Refusal := .next (storeI s t 0x037 b 8)
def execAmoAdd (t : Fin 512) (b : BitVec 54) (s : State) : Host.Outcome State Fault Refusal :=
  .next (amoI s t 0x038 b (fun old rb _ => old + rb))
def execAmoSwap (t : Fin 512) (b : BitVec 54) (s : State) : Host.Outcome State Fault Refusal :=
  .next (amoI s t 0x039 b (fun _ rb _ => rb))
def execAmoCas (t : Fin 512) (b : BitVec 54) (s : State) : Host.Outcome State Fault Refusal :=
  .next (amoI s t 0x03A b (fun old rb rd => if old = rb then rd else old))

/-- A load finds a parity error: no data, MEMORY, the count and the PARITY record (R82). -/
def parityFail (s : State) (t i a n : Nat) : State :=
  let s := if inLocal a n then event (tcount s F.TIL_PERR_COUNT t 1) 0x23 1 t 1 0 0 0 t
    else event (fadd1 s F.TIL_SHF_PERR_COUNT (sheafOf t) 1) 0x23 1 (512 + sheafOf t) 1 0 0 0 (sheafOf t)
  imprecise s t i 3 (w64 a)

/-- The data of incomplete load `i` returns (R80, R82). Lanes whose guard bit was 0 keep their value (R128). -/
def loadReturn (s : State) (t i : Nat) : State :=
  match pendOp (til s t) i with
  | some (.load rd n a) =>
    if tparity s t a n then parityFail s t i a n
    else
      let w := w64 (ofBytes (tread s t a n))
      tupd s t (fun x => sset (dropPend x i) rd w)
  | some (.vload vd g a) =>
    let touched := (List.range 128).any (fun k => bbit g k && tparity s t (a + 4 * k) 4)
    if touched then parityFail s t i a 512
    else
      let w : VReg := BitVec.ofNat 4096 (ofBytes (tread s t a 512))
      tupd s t (fun x => vset (dropPend x i) vd (vmake (fun k => if bbit g k then lane w k else lane (vreg x vd) k)))
  | some (.vword vd g a) =>
    if tparity s t a 4 then parityFail s t i a 4
    else
      let w : Lane := BitVec.ofNat 32 (ofBytes (tread s t a 4))
      tupd s t (fun x => vset (dropPend x i) vd (vmake (fun k => if bbit g k then w else lane (vreg x vd) k)))
  | some (.accLoad acc a) =>
    if tparity s t a 4096 then parityFail s t i a 4096
    else
      let w : Tile := BitVec.ofNat 32768 (ofBytes (tread s t a 4096))
      tupd s t (fun x => aset (dropPend x i) acc w)
  | _ => s

def execLoadDataReturn (t : Fin 512) (i : Nat) (s : State) : Host.Outcome State Fault Refusal := .next (loadReturn s t i)

/-! ### Branches (R135, R136) -/

/-- A branch goes to `target` when taken; a target that is no multiple of 8 or lies outside the code area raises ADDRESS
on the branch itself, whose link is then not written. -/
def branchTo (s : State) (t op : Nat) (b : BitVec 54) (target : Word) (link : Option Nat) : State :=
  let x := til s t
  if inCode x target.toNat then
    let x := match link with
      | some r => sset x r (x.pc + 8)
      | none => x
    tput s t { x with pc := target }
  else raiseAt s t op b 2 target

/-- PC + 8 times OFFSET. -/
def branchTarget (x : Tiller) (b : BitVec 54) : Word := x.pc + wInt (8 * sext 32 (fOFF b))

/-- A branch on a comparison. -/
def branchCmp (s : State) (t op : Nat) (b : BitVec 54) (f : Word → Word → Bool) : State :=
  let x := til s t
  issue s t op b false (zeros [fBPS b, fBres b]) (freeS x [fBRA b, fBRB b])
    (fun s =>
      let x := til s t
      if f (sreg x (fBRA b)) (sreg x (fBRB b)) then branchTo s t op b (branchTarget x b) none else tupd s t advPc)

def execBrEq (t : Fin 512) (b : BitVec 54) (s : State) : Host.Outcome State Fault Refusal :=
  .next (branchCmp s t 0x041 b (fun x y => x == y))
def execBrNe (t : Fin 512) (b : BitVec 54) (s : State) : Host.Outcome State Fault Refusal :=
  .next (branchCmp s t 0x042 b (fun x y => x != y))
def execBrLt (t : Fin 512) (b : BitVec 54) (s : State) : Host.Outcome State Fault Refusal := .next (branchCmp s t 0x043 b sltW)
def execBrGe (t : Fin 512) (b : BitVec 54) (s : State) : Host.Outcome State Fault Refusal := .next (branchCmp s t 0x044 b sgeW)
def execBrLtu (t : Fin 512) (b : BitVec 54) (s : State) : Host.Outcome State Fault Refusal := .next (branchCmp s t 0x045 b ultW)
def execBrGeu (t : Fin 512) (b : BitVec 54) (s : State) : Host.Outcome State Fault Refusal := .next (branchCmp s t 0x046 b ugeW)
def execBrP (t : Fin 512) (b : BitVec 54) (s : State) : Host.Outcome State Fault Refusal :=
  let x := til s t
  .next (issue s t 0x047 b false (zeros [fBRA b, fBRB b, fBres b]) (freeP x [fBPS b])
    (fun s =>
      let x := til s t
      if bbit (preg x (fBPS b)) 0 then branchTo s t 0x047 b (branchTarget x b) none else tupd s t advPc))
def execJmp (t : Fin 512) (b : BitVec 54) (s : State) : Host.Outcome State Fault Refusal :=
  .next (issue s t 0x048 b false (zeros [fBRA b, fBRB b, fBPS b, fBres b]) true
    (fun s => branchTo s t 0x048 b (branchTarget (til s t) b) none))
def execJal (t : Fin 512) (b : BitVec 54) (s : State) : Host.Outcome State Fault Refusal :=
  .next (issue s t 0x049 b false (zeros [fBRB b, fBPS b, fBres b]) (freeS (til s t) [fBRA b])
    (fun s => branchTo s t 0x049 b (branchTarget (til s t) b) (some (fBRA b))))
def execJr (t : Fin 512) (b : BitVec 54) (s : State) : Host.Outcome State Fault Refusal :=
  .next (issue s t 0x04A b false (zeros [fBRB b, fBPS b, fBres b, fOFF b]) (freeS (til s t) [fBRA b])
    (fun s => branchTo s t 0x04A b (sreg (til s t) (fBRA b)) none))

/-- Execution reached the end of the code area: nothing issues there, and a precise ADDRESS is raised with that address
as PC and ADDR and INSTR 0 (R693). -/
def codeEnd (s : State) (t : Nat) : State :=
  let x := til s t
  match x.img with
  | none => s
  | some g =>
    if x.item.isSome && x.exc.isNone && x.atBar.isNone && x.pushing.isNone && decide (64 + g.codeLen ≤ x.pc.toNat) then
      raise s t { code := 2, precise := true, pc := x.pc, instr := 0, addr := x.pc }
    else s

def execCodeEndReached (t : Fin 512) (s : State) : Host.Outcome State Fault Refusal := .next (codeEnd s t)

/-! ### Predicates -/

/-- P.AND, P.OR, P.XOR: RA and RB name predicates in their bits [2:0]; RD is reserved. -/
def predR (s : State) (t op : Nat) (b : BitVec 54) (f : PReg → PReg → PReg) : State :=
  let x := til s t
  issue s t op b false (zeros [fRD b, fRlow b, fRA b / 8, fRB b / 8]) (freeP x [fPD b, fRA b, fRB b])
    (fun s => tupd s t (fun x => advPc (pset x (fPD b) (f (preg x (fRA b)) (preg x (fRB b))))))

def execPAnd (t : Fin 512) (b : BitVec 54) (s : State) : Host.Outcome State Fault Refusal :=
  .next (predR s t 0x061 b (fun x y => x &&& y))
def execPOr (t : Fin 512) (b : BitVec 54) (s : State) : Host.Outcome State Fault Refusal :=
  .next (predR s t 0x062 b (fun x y => x ||| y))
def execPXor (t : Fin 512) (b : BitVec 54) (s : State) : Host.Outcome State Fault Refusal :=
  .next (predR s t 0x063 b (fun x y => x ^^^ y))
def execPNot (t : Fin 512) (b : BitVec 54) (s : State) : Host.Outcome State Fault Refusal :=
  .next (issue s t 0x064 b false (zeros [fRD b, fRB b, fRlow b, fRA b / 8]) (freeP (til s t) [fPD b, fRA b])
    (fun s => tupd s t (fun x => advPc (pset x (fPD b) (~~~ preg x (fRA b))))))
/-- P.MASK: bit k is 1 when k < s[RB]; RD, RA and IMM are 0. -/
def execPMask (t : Fin 512) (b : BitVec 54) (s : State) : Host.Outcome State Fault Refusal :=
  .next (issue s t 0x065 b false (zeros [fRD b, fRA b, fI32 b, fIMM b]) (freeS (til s t) [fRB b] && freeP (til s t) [fPD b])
    (fun s => tupd s t (fun x => advPc (pset x (fPD b) (pmake (fun k => decide (k < (sreg x (fRB b)).toNat)))))))
/-- P.CNT: RA names a predicate in its bits [2:0]. -/
def execPCnt (t : Fin 512) (b : BitVec 54) (s : State) : Host.Outcome State Fault Refusal :=
  .next (issue s t 0x066 b false (zeros [fRB b, fPD b, fRlow b, fRA b / 8]) (freeS (til s t) [fRD b] && freeP (til s t) [fRA b])
    (fun s => tupd s t (fun x => advPc (sset x (fRD b) (w64 (popc 128 (preg x (fRA b)).toNat))))))

end Sys2Proof.Machine
end

