-- ==== Sys2Proof/Machine/Fp.lean ====
section
/-!
DEFINITION. Number formats and exact arithmetic of the tiller (03_tiller_engine.md, R84-R96). Values are exact: a
number is sign, magnitude and power of two; a result is rounded once, to nearest with ties to even (R84).
-/

namespace Sys2Proof.Machine

/-- A value of a number format. `fin neg m e` is plus or minus m times 2^e. -/
inductive FV where
  | nan
  | inf (neg : Bool)
  | fin (neg : Bool) (m : Nat) (e : Int)
  deriving DecidableEq, Repr

/-- A binary format: total width, exponent and mantissa widths, bias, the code of the largest finite magnitude, the
code of infinity (0 when it has none) and the canonical NaN (R86). -/
structure Fmt where
  w : Nat
  mw : Nat
  bias : Nat
  maxc : Nat
  infc : Nat
  nanc : Nat
  deriving DecidableEq, Repr

def fmtF32 : Fmt := ⟨32, 23, 127, 0x7F7FFFFF, 0x7F800000, 0x7FC00000⟩
def fmtBf16 : Fmt := ⟨16, 7, 127, 0x7F7F, 0x7F80, 0x7FC0⟩
def fmtF16 : Fmt := ⟨16, 10, 15, 0x7BFF, 0x7C00, 0x7E00⟩
def fmtE4m3 : Fmt := ⟨8, 3, 7, 0x7E, 0, 0x7F⟩
def fmtE5m2 : Fmt := ⟨8, 2, 15, 0x7B, 0x7C, 0x7F⟩
def fmtE2m1 : Fmt := ⟨4, 1, 1, 7, 0, 0⟩
def fmtE3m2 : Fmt := ⟨6, 2, 3, 0x1F, 0, 0⟩
def fmtE2m3 : Fmt := ⟨6, 3, 1, 0x1F, 0, 0⟩

/-- The format of a type code (R126); I32 and INT8 are handled by their own functions. -/
def fmtOf (ty : Nat) : Fmt :=
  match ty with
  | 0 => fmtF32 | 1 => fmtBf16 | 2 => fmtF16 | 3 => fmtE4m3 | 4 => fmtE5m2
  | 5 => fmtE2m1 | 6 => fmtE3m2 | 7 => fmtE2m3 | _ => fmtF32

/-- Flag bits of TIL_FPSTAT. -/
def flNV : Nat := 1
def flOF : Nat := 2
def flDIV : Nat := 4
def flSAT : Nat := 8
def flNANIN : Nat := 16

/-- The magnitude code of a word of format `f`. -/
def fmag (f : Fmt) (x : Nat) : Nat := x % 2 ^ (f.w - 1)

/-- The sign of a word of format `f`. -/
def fneg (f : Fmt) (x : Nat) : Bool := x / 2 ^ (f.w - 1) % 2 == 1

/-- The value of a word of format `f`. -/
def fval (f : Fmt) (x : Nat) : FV :=
  let g := fmag f x
  let n := fneg f x
  if f.maxc < g then (if f.infc ≠ 0 ∧ g = f.infc then .inf n else .nan)
  else
    let ex := g / 2 ^ f.mw
    let ma := g % 2 ^ f.mw
    if ex = 0 then .fin n ma (1 - (f.bias : Int) - f.mw)
    else .fin n (2 ^ f.mw + ma) ((ex : Int) - f.bias - f.mw)

/-- The value of an MXINT8 element: two's complement times 2^-6. -/
def int8val (x : Nat) : FV :=
  let i := sext 8 x
  .fin (decide (i < 0)) i.natAbs (-6)

/-- The value of an element of type `ty`. -/
def tyval (ty x : Nat) : FV := if ty = 8 then int8val x else fval (fmtOf ty) x

def ilog2 (p q : Nat) : Int :=
  -- floor of log2 (p / q), p and q not 0
  let k : Int := (Nat.log2 p : Int) - (Nat.log2 q : Int)
  let ok := if 0 ≤ k then q * 2 ^ k.toNat ≤ p else q ≤ p * 2 ^ (-k).toNat
  if ok then k else k - 1

/-- p / q times 2^e to the nearest integer, ties to even. -/
def rneRat (p q : Nat) (e : Int) : Nat :=
  let num := if 0 ≤ e then p * 2 ^ e.toNat else p
  let den := if 0 ≤ e then q else q * 2 ^ (-e).toNat
  let n := num / den
  let r := num % den
  if 2 * r < den then n else if den < 2 * r then n + 1 else if n % 2 = 0 then n else n + 1

/-- The magnitude code to which p / q times 2^e rounds in format `f` when the exponent range has no upper end: a code
above `f.maxc` is an overflow. -/
def roundCode (f : Fmt) (p q : Nat) (e : Int) : Nat :=
  if p = 0 then 0
  else
    let k := ilog2 p q + e
    let emin : Int := 1 - f.bias
    let qe := max k emin - f.mw
    let n := rneRat p q (e - qe)
    if n < 2 ^ f.mw then n
    else ((qe + f.mw + f.bias).toNat) * 2 ^ f.mw + (n - 2 ^ f.mw)

/-- A sign put before a magnitude code. -/
def withSign (f : Fmt) (neg : Bool) (c : Nat) : Nat := if neg then c + 2 ^ (f.w - 1) else c

/-- p / q times 2^e rounded into `f`; overflow gives an infinity and OF (R92). -/
def roundFin (f : Fmt) (neg : Bool) (p q : Nat) (e : Int) : Nat × Nat :=
  let c := roundCode f p q e
  if f.maxc < c then (withSign f neg f.infc, flOF) else (withSign f neg c, 0)

/-- A signed exact sum `i` times 2^e rounded into `f`; an exact zero has the sign `zneg`. -/
def roundInt (f : Fmt) (zneg : Bool) (i : Int) (e : Int) : Nat × Nat :=
  if i = 0 then (withSign f zneg 0, 0) else roundFin f (decide (i < 0)) i.natAbs 1 e

/-- The signed integer of a finite value. -/
def sgn (neg : Bool) (m : Nat) : Int := if neg then -(m : Int) else m

/-- Exact sum of two finite values, as an integer times a power of two. -/
def addExact (a : Int) (ea : Int) (b : Int) (eb : Int) : Int × Int :=
  let e := min ea eb
  (a * 2 ^ (ea - e).toNat + b * 2 ^ (eb - e).toNat, e)

/-- Addition in format `f` with its flags. -/
def fadd (f : Fmt) (x y : Nat) : Nat × Nat :=
  match fval f x, fval f y with
  | .nan, _ => (f.nanc, flNANIN)
  | _, .nan => (f.nanc, flNANIN)
  | .inf n, .inf m => if n = m then (withSign f n f.infc, 0) else (f.nanc, flNV)
  | .inf n, .fin .. => (withSign f n f.infc, 0)
  | .fin .., .inf n => (withSign f n f.infc, 0)
  | .fin n a ea, .fin m b eb =>
    let (i, e) := addExact (sgn n a) ea (sgn m b) eb
    roundInt f (n && m) i e

/-- The word with its sign inverted. -/
def fnegate (f : Fmt) (x : Nat) : Nat := withSign f (!fneg f x) (fmag f x)

/-- Subtraction in format `f`. -/
def fsub (f : Fmt) (x y : Nat) : Nat × Nat := fadd f x (fnegate f y)

/-- Multiplication in format `f`. -/
def fmul (f : Fmt) (x y : Nat) : Nat × Nat :=
  match fval f x, fval f y with
  | .nan, _ => (f.nanc, flNANIN)
  | _, .nan => (f.nanc, flNANIN)
  | .inf n, .inf m => (withSign f (n != m) f.infc, 0)
  | .inf n, .fin m b _ => if b = 0 then (f.nanc, flNV) else (withSign f (n != m) f.infc, 0)
  | .fin n a _, .inf m => if a = 0 then (f.nanc, flNV) else (withSign f (n != m) f.infc, 0)
  | .fin n a ea, .fin m b eb => roundInt f (n != m) (sgn (n != m) (a * b)) (ea + eb)

/-- x times y plus z, computed exactly and rounded once (R87). -/
def ffma (f : Fmt) (x y z : Nat) : Nat × Nat :=
  match fval f x, fval f y, fval f z with
  | .nan, _, _ => (f.nanc, flNANIN)
  | _, .nan, _ => (f.nanc, flNANIN)
  | _, _, .nan => (f.nanc, flNANIN)
  | .fin n a ea, .fin m b eb, .fin k c ec =>
    let (i, e) := addExact (sgn (n != m) (a * b)) (ea + eb) (sgn k c) ec
    roundInt f ((n != m) && k) i e
  | .fin _ _ _, .fin _ _ _, .inf k => (withSign f k f.infc, 0)
  | u, v, w =>
    -- at least one factor is an infinity
    let zero := match u, v with
      | .fin _ a _, _ => a == 0
      | _, .fin _ b _ => b == 0
      | _, _ => false
    let p := fneg f x != fneg f y
    if zero then (f.nanc, flNV)
    else match w with
      | .inf k => if k = p then (withSign f p f.infc, 0) else (f.nanc, flNV)
      | _ => (withSign f p f.infc, 0)

/-- The order of the words of `f` that are no NaN, with minus 0 below plus 0. -/
def forder (f : Fmt) (x : Nat) : Int := if fneg f x then -(fmag f x : Int) - 1 else fmag f x

/-- The order of the words of `f` that are no NaN, with both zeros equal. -/
def fkey (f : Fmt) (x : Nat) : Int := if fneg f x then -(fmag f x : Int) else fmag f x

def fisNan (f : Fmt) (x : Nat) : Bool := fval f x == .nan

/-- Exact maximum; a NaN operand gives the canonical NaN. -/
def fmax (f : Fmt) (x y : Nat) : Nat × Nat :=
  if fisNan f x || fisNan f y then (f.nanc, flNANIN) else (if forder f x < forder f y then y else x, 0)

/-- Exact minimum; a NaN operand gives the canonical NaN. -/
def fmin (f : Fmt) (x y : Nat) : Nat × Nat :=
  if fisNan f x || fisNan f y then (f.nanc, flNANIN) else (if forder f y < forder f x then y else x, 0)

/-- Division x / y in FP32, rounded once, without flags (the scaled value of R102). -/
def fdiv32 (x y : Nat) : Nat :=
  let f := fmtF32
  match fval f x, fval f y with
  | .nan, _ => f.nanc
  | _, .nan => f.nanc
  | .inf _, .inf _ => f.nanc
  | .inf n, .fin m _ _ => withSign f (n != m) f.infc
  | .fin n _ _, .inf m => withSign f (n != m) 0
  | .fin n a ea, .fin m b eb =>
    if b = 0 then (if a = 0 then f.nanc else withSign f (n != m) f.infc)
    else (roundFin f (n != m) a b (ea - eb)).1

/-! ### Conversions (R91, R92, R137) -/

/-- A value converted to a float type `ty`; `sat` is saturating mode, which governs E4M3 and E5M2 (R91) and the MX
element types. Whether a value is beyond the largest finite one is judged after rounding (DESIGN CHOICE, log entry 115). -/
def cvtTo (ty : Nat) (sat : Bool) (v : FV) : Nat × Nat :=
  let f := fmtOf ty
  match v with
  | .nan => (f.nanc, flNANIN)
  | .inf n =>
    if f.w = 8 then
      if sat then (withSign f n f.maxc, flSAT)
      else (if f.infc = 0 then (f.nanc, 0) else (withSign f n f.infc, 0))
    else if f.infc = 0 then (withSign f n f.maxc, flSAT)
    else (withSign f n f.infc, 0)
  | .fin n m e =>
    let c := roundCode f m 1 e
    if c ≤ f.maxc then (withSign f n c, 0)
    else if f.w = 8 then
      if sat then (withSign f n f.maxc, flSAT)
      else (if f.infc = 0 then (f.nanc, flOF) else (withSign f n f.infc, flOF))
    else if f.infc = 0 then (withSign f n f.maxc, flSAT)
    else (withSign f n f.infc, flOF)

/-- A value rounded to an I32, saturating (R137). -/
def cvtI32 (v : FV) : Nat × Nat :=
  match v with
  | .nan => (0, flNANIN)
  | .inf n => (if n then 0x80000000 else 0x7FFFFFFF, flSAT)
  | .fin n m e =>
    let r := rneRat m 1 e
    if n then (if 0x80000000 < r then (0x80000000, flSAT) else ((2 ^ 32 - r) % 2 ^ 32, 0))
    else (if 0x7FFFFFFF < r then (0x7FFFFFFF, flSAT) else (r, 0))

/-- The exact value of an I32. -/
def i32val (x : Nat) : FV :=
  let i := sext 32 x
  .fin (decide (i < 0)) i.natAbs 0

/-- A value rounded to an MXINT8 element: steps of 2^-6, saturating. -/
def cvtI8 (v : FV) : Nat × Nat :=
  match v with
  | .nan => (0, flNANIN)
  | .inf n => (if n then 0x80 else 0x7F, flSAT)
  | .fin n m e =>
    let r := rneRat m 1 (e + 6)
    if n then (if 0x80 < r then (0x80, flSAT) else ((256 - r) % 256, 0))
    else (if 0x7F < r then (0x7F, flSAT) else (r, 0))

/-- Conversion of one element from type `st` to type `dt` (R137). -/
def cvtElem (st dt : Nat) (sat : Bool) (x : Nat) : Nat × Nat :=
  let v := if st = 9 then i32val x else tyval st x
  if dt = 9 then cvtI32 v else cvtTo dt sat v

/-! ### Exponential, logarithm and reciprocal (R95) -/

/-- ln 2 times 2^128, rounded down. -/
def ln2Fix : Nat := 235865763225513294137944142764154484399

/-- One unit of the fixed-point numbers of this section. -/
def fixOne : Nat := 2 ^ 128

/-- Sum of t + t r / k + ... of the exponential series in fixed point: `n` terms from term `k` on. -/
def expSeries (r : Int) : Nat → Nat → Int → Int
  | 0, _, _ => 0
  | n + 1, k, t => t + expSeries r n (k + 1) (t * r / fixOne / (k : Int))

/-- eˣ for x = i times 2^e as (mantissa in fixed point, power of two), with an error far below 2^-80 of the value. -/
def expFix (i e : Int) : Int × Int :=
  let x : Int := if 0 ≤ e + 128 then i * 2 ^ (e + 128).toNat else i / 2 ^ (-(e + 128)).toNat
  let k := x / (ln2Fix : Int)
  let r := x - k * ln2Fix
  (expSeries r 40 1 fixOne, k)

/-- 2 atanh (z) by its series in fixed point. -/
def atanhSeries (z2 : Int) : Nat → Nat → Int → Int
  | 0, _, _ => 0
  | n + 1, k, t => t / (k : Int) + atanhSeries z2 n (k + 2) (t * z2 / fixOne)

/-- ln of m times 2^e (m not 0) in fixed point, with an error far below 2^-100. -/
def lnFix (m : Nat) (e : Int) : Int :=
  let k := Nat.log2 m
  let a : Int := (m : Int) * fixOne / 2 ^ k
  let z := (a - fixOne) * fixOne / (a + fixOne)
  (e + k) * ln2Fix + 2 * atanhSeries (z * z / fixOne) 45 1 z

/-- The distance of two exact rationals a / b, c / d is at most p / q. -/
def within (a b c d p q : Int) : Bool := decide ((a * d - c * b).natAbs * q.natAbs ≤ p.natAbs * (b * d).natAbs)

/-- The value n times 2^e as a fraction. -/
def dyFrac (n e : Int) : Int × Int := if 0 ≤ e then (n * 2 ^ e.toNat, 1) else (n, 2 ^ (-e).toNat)

/-- eˣ for one lane (R95): the device's own value while it lies within the bound, else the nearest one. -/
def expLane (x : Nat) : Nat × Nat :=
  let f := fmtF32
  match fval f x with
  | .nan => (f.nanc, flNANIN)
  | .inf n => (if n then 0 else f.infc, 0)
  | .fin n m e =>
    if !n && decide (0x42B17218 ≤ x) then (f.infc, flOF)
    else if n && decide (0xC2AEAC50 ≤ x) then (0, 0)
    else
      let (y, k) := expFix (sgn n m) e
      let (a, b) := dyFrac y (k - 128)
      let c := (Config.vexp (BitVec.ofNat 32 x)).toNat
      let near := (roundFin f false a.natAbs b.natAbs 0).1
      match fval f c with
      | .fin false cm ce =>
        let (u, v) := dyFrac cm ce
        -- relative error at most 2^-21, up to the error of the enclosure
        if within u v a b (a * (2 ^ 59 + 1)) (b * 2 ^ 80) then (c, 0) else (near, 0)
      | _ => (near, 0)

/-- ln x for one lane (R95). -/
def lnLane (x : Nat) : Nat × Nat :=
  let f := fmtF32
  match fval f x with
  | .nan => (f.nanc, flNANIN)
  | .inf n => if n then (f.nanc, flNV) else (f.infc, 0)
  | .fin n m e =>
    if m = 0 then (withSign f true f.infc, 0)
    else if n then (f.nanc, flNV)
    else
      let y := lnFix m e
      let c := (Config.vln (BitVec.ofNat 32 x)).toNat
      let near := (roundInt f false y (-128)).1
      match fval f c with
      | .fin cn cm ce =>
        let (u, v) := dyFrac (sgn cn cm) ce
        let one : Int := fixOne
        let ok := if y.natAbs < fixOne then within u v y one (2 ^ 58 + 1) (2 ^ 80)
          else within u v y one (y * (2 ^ 59 + 1)) (one * 2 ^ 80)
        if ok then (c, 0) else (near, 0)
      | _ => (near, 0)

/-- 1/x for one lane (R95). A subnormal result is no zero (R85); where no FP32 value lies within the bound for it, the device's
own value stands while it lies within one subnormal step of 1/x, else the nearest one (DESIGN CHOICE, log entry 34). For a result
beyond the range the spec states none, and the device's own value stands. -/
def rcpLane (x : Nat) : Nat × Nat :=
  let f := fmtF32
  match fval f x with
  | .nan => (f.nanc, flNANIN)
  | .inf n => (withSign f n 0, 0)
  | .fin n m e =>
    if m = 0 then (withSign f n f.infc, flDIV)
    else
      let (a, b) := dyFrac (sgn n m) e
      let c := (Config.vrcp (BitVec.ofNat 32 x)).toNat
      let (near, fl) := roundFin f n 1 m (-e)
      let ok (w : Nat) : Bool :=
        match fval f w with
        | .fin cn cm ce =>
          let (u, v) := dyFrac (sgn cn cm) ce
          within u v b a b (a * 2 ^ 23)
        | _ => false
      let step (w : Nat) : Bool :=
        match fval f w with
        | .fin cn cm ce =>
          let (u, v) := dyFrac (sgn cn cm) ce
          within u v b a 1 (2 ^ 149)
        | _ => false
      if ok near then (if ok c then (c, 0) else (near, 0))
      else if fmag f near ≤ f.maxc then (if step c then (c, fl) else (near, fl))
      else (c, fl)

/-! ### The array (R88-R90) -/

/-- The value of the E8M0 block scale as an exponent; 0xFF is NaN. -/
def e8m0 (x : Nat) : Option Int := if x = 0xFF then none else some ((x : Int) - 127)

/-- A sum under way: exact integer times 2^e, or the infinities met. -/
structure BlkSum where
  nan : Bool := false
  nv : Bool := false
  pinf : Bool := false
  ninf : Bool := false
  i : Int := 0
  e : Int := 0
  deriving DecidableEq, Repr

/-- One product added to a block sum (R88, R90). -/
def blkAdd (b : BlkSum) (x y : FV) : BlkSum :=
  match x, y with
  | .nan, _ => { b with nan := true }
  | _, .nan => { b with nan := true }
  | .fin n p ex, .fin m q ey =>
    let (i, e) := addExact b.i b.e (sgn (n != m) (p * q)) (ex + ey)
    { b with i := i, e := e }
  | .inf n, .inf m => if n != m then { b with ninf := true } else { b with pinf := true }
  | .inf n, .fin m q _ =>
    if q = 0 then { b with nv := true } else if n != m then { b with ninf := true } else { b with pinf := true }
  | .fin n p _, .inf m =>
    if p = 0 then { b with nv := true } else if n != m then { b with ninf := true } else { b with pinf := true }

/-- The exact sum of the products of one block of 32. -/
def blkSum : List FV → List FV → BlkSum → BlkSum
  | x :: xs, y :: ys, b => blkSum xs ys (blkAdd b x y)
  | _, _, b => b

/-- One block contribution added to an accumulator element with one rounding, and the flags (R88, R90, R697). A block sum that is
exactly zero is taken as +0 (DESIGN CHOICE, log entry 116). -/
def accAdd (acc : Nat) (b : BlkSum) (scale : Option Int) : Nat × Nat :=
  let f := fmtF32
  let accNan := fisNan f acc
  let fl0 := if accNan then flNANIN else 0
  match scale with
  | none => (f.nanc, fl0 ||| flNANIN)
  | some sc =>
    if b.nan then (f.nanc, fl0 ||| flNANIN ||| (if b.nv || (b.pinf && b.ninf) then flNV else 0))
    else if b.nv || (b.pinf && b.ninf) then (f.nanc, fl0 ||| flNV)
    else
      let past := !b.pinf && !b.ninf && decide (f.maxc < roundCode f b.i.natAbs 1 (b.e + sc))
      let fl1 := fl0 ||| (if past then flOF else 0)
      let c : FV := if b.pinf then .inf false else if b.ninf then .inf true
        else if past then .inf (decide (b.i < 0)) else .fin (decide (b.i < 0)) b.i.natAbs (b.e + sc)
      match fval f acc, c with
      | .nan, _ => (f.nanc, fl1)
      | .inf n, .inf m => if n = m then (acc, fl1) else (f.nanc, fl1 ||| flNV)
      | .inf _, _ => (acc, fl1)
      | .fin .., .inf m => (withSign f m f.infc, fl1)
      | .fin n p ea, .fin m q eb =>
        let (i, e) := addExact (sgn n p) ea (sgn m q) eb
        let (r, fl) := roundInt f (n && m) i e
        (r, fl1 ||| fl)
      | _, .nan => (f.nanc, fl1)

/-! ### MX quantisation (R93, R94) -/

/-- The exponent emax of an MX element type. -/
def mxEmax (ty : Nat) : Int :=
  match ty with
  | 5 => 2 | 6 => 4 | 7 => 2 | _ => 0

/-- Element codes, each with its flags, and scale of one block of 32 FP32 words. -/
def quantBlock (ty : Nat) (xs : List Nat) : List (Nat × Nat) × Nat :=
  let f := fmtF32
  let nan := xs.any (fisNan f)
  let amax := xs.foldl (fun a x => max a (fmag f x)) 0
  if nan || decide (f.maxc < amax) then (xs.map (fun x => (0, if fisNan f x then flNANIN else 0)), 0xFF)
  else if amax = 0 then (xs.map (fun _ => (0, 0)), 0)
  else
    let lg : Int := match fval f amax with
      | .fin _ m e => (Nat.log2 m : Int) + e
      | _ => 0
    let e : Int := max (-127) (min 127 (lg - mxEmax ty))
    let conv (x : Nat) : Nat × Nat :=
      let v : FV := match fval f x with
        | .fin n m ex => .fin n m (ex - e)
        | w => w
      if ty = 8 then cvtI8 v else cvtTo ty true v
    (xs.map conv, (e + 127).toNat)

/-! ### KV4 (R97-R102) -/

/-- Twice-doubled coordinates of a code's point: quarters, signed (R98). -/
def kv4Point (c : Nat) : Int × Int :=
  let mag : Int × Int := match c / 4 with
    | 0 => (2, 2) | 1 => (6, 2) | 2 => (2, 6) | _ => (5, 5)
  (if c % 2 = 1 then -mag.1 else mag.1, if c / 2 % 2 = 1 then -mag.2 else mag.2)

/-- A scaled value for the nearest-point choice: NaN as 0, clamped to -448..448, as an integer times 2^-151. -/
def kv4Clamp (x : Nat) : Int :=
  match fval fmtF32 x with
  | .nan => 0
  | .inf n => sgn n (448 * 2 ^ 151)
  | .fin n m e =>
    let v := sgn n (m * 2 ^ (e + 151).toNat)
    max (-(448 * 2 ^ 151)) (min (448 * 2 ^ 151) v)

/-- The code of the nearest codebook point, the lower code on a tie (R102). -/
def kv4Code (x y : Nat) : Nat :=
  let a := kv4Clamp x
  let b := kv4Clamp y
  let dist (c : Nat) : Int :=
    let (px, py) := kv4Point c
    (a - px * 2 ^ 149) ^ 2 + (b - py * 2 ^ 149) ^ 2
  (List.range 16).foldl (fun best c => if dist c < dist best then c else best) 0

/-- The scaled magnitude exceeds 2.0 (R102). -/
def kv4Far (x : Nat) : Bool :=
  !fisNan fmtF32 x && decide (0x40000000 < fmag fmtF32 x)

/-- The coordinate of a code's point for an even or odd dimension times an FP32 scale, rounded once into format `f`. -/
def kv4Decode (f : Fmt) (c d : Nat) (scale : FV) : Nat × Nat :=
  let q := if d % 2 = 0 then (kv4Point c).1 else (kv4Point c).2
  match scale with
  | .nan => (f.nanc, flNANIN)
  | .inf n => (withSign f (n != decide (q < 0)) f.infc, 0)
  | .fin n m e => roundInt f (n != decide (q < 0)) (sgn n m * q) (e - 2)

/-! ### The sampling generator (R104, R105) -/

/-- One of the four rounds of R105. -/
def rngRound (x : Word) : Word :=
  let x := x + 0x9E3779B97F4A7C15
  let x := (x ^^^ (x >>> 30)) * 0xBF58476D1CE4E5B9
  let x := (x ^^^ (x >>> 27)) * 0x94D049BB133111EB
  x ^^^ (x >>> 31)

/-- The FP32 draw for a key and a counter (R105): ((x >> 41) * 2 + 1) * 2^-24, exact. -/
def rngDraw (key counter : Word) : Nat :=
  let x := rngRound (rngRound (rngRound (rngRound (counter ^^^ key))))
  (roundFin fmtF32 false (((x >>> 41).toNat) * 2 + 1) 1 (-24)).1

/-- The counter of R104. -/
def rngCounter (position drawNo candidate : Nat) : Word :=
  w64 (position % 2 ^ 32 * 2 ^ 32 + drawNo % 16 * 2 ^ 28 + candidate % 2 ^ 20)

end Sys2Proof.Machine
end

