-- ==== Sys2Proof/Machine/Flags.lean ====
section
/-!
DEFINITION. Flag computation of the vector pipe: an operation on one lane gives its word and the TIL_FPSTAT bits it
raises; a lane whose guard bit is 0 keeps its destination value and raises none (R119, R128, R697).
-/

namespace Sys2Proof.Machine

/-- One lane's word and flags. -/
abbrev LaneRes := Nat × Nat

/-- Lane `k` of a v register as a number. -/
def laneN (v : VReg) (k : Nat) : Nat := bget v (32 * k) 32

/-- Results of all 128 lanes under a guard; a lane that is off keeps its old word. -/
def lanes (g : PReg) (old : VReg) (f : Nat → LaneRes) : List LaneRes :=
  (List.range 128).map (fun k => if bbit g k then f k else (laneN old k, 0))

/-- The v register of lane results. -/
def lanesReg (rs : List LaneRes) : VReg := BitVec.ofNat 4096 (ofLanes (rs.map (fun r => BitVec.ofNat 32 r.1)))

/-- The flags of lane results together. -/
def lanesFlags (rs : List LaneRes) : Nat := rs.foldl (fun a r => a ||| r.2) 0

/-- An operation on two BF16 elements of a lane, the lower-numbered one in bits [15:0]. -/
def pair16 (f : Nat → Nat → LaneRes) (a b : Nat) : LaneRes :=
  let lo := f (a % 65536) (b % 65536)
  let hi := f (a / 65536) (b / 65536)
  (hi.1 * 65536 + lo.1, lo.2 ||| hi.2)

/-- As `pair16` with three operands. -/
def tri16 (f : Nat → Nat → Nat → LaneRes) (a b c : Nat) : LaneRes :=
  let lo := f (a % 65536) (b % 65536) (c % 65536)
  let hi := f (a / 65536) (b / 65536) (c / 65536)
  (hi.1 * 65536 + lo.1, lo.2 ||| hi.2)

/-- An exact I32 result as a lane; outside the range the spec states no result and the lane is free (log entry 12). -/
def i32Res (op a b : Nat) (i : Int) : LaneRes :=
  if -(2 ^ 31) ≤ i ∧ i < 2 ^ 31 then (((i + 2 ^ 32) % 2 ^ 32).toNat, 0)
  else ((Config.i32Over op (BitVec.ofNat 32 a) (BitVec.ofNat 32 b)).toNat, 0)

/-- An operation of two sources by type: FP32, BF16 pairs, or I32. -/
def byType (ty : Nat) (ff : Fmt → Nat → Nat → LaneRes) (fi : Nat → Nat → LaneRes) (a b : Nat) : LaneRes :=
  if ty = 0 then ff fmtF32 a b else if ty = 1 then pair16 (ff fmtBf16) a b else fi a b

/-- Adjacent partials combined, level by level (R96). -/
def pairUp (f : Nat → Nat → LaneRes) : List Nat → List LaneRes
  | x :: y :: r => f x y :: pairUp f r
  | [x] => [(x, 0)]
  | [] => []

/-- A pairwise tree of `n` levels over lanes: the result and the flags. -/
def tree (f : Nat → Nat → LaneRes) : Nat → List Nat → Nat → LaneRes
  | 0, xs, fl => (xs.headD 0, fl)
  | n + 1, xs, fl =>
    let rs := pairUp f xs
    tree f n (rs.map (·.1)) (fl ||| lanesFlags rs)

end Sys2Proof.Machine
end

