-- ==== Sys2Proof/Machine/Vector.lean ====
section
/-!
DEFINITION. Vector instructions (04_sirec_isa.md, "Vector instructions"; numerics 03_tiller_engine.md).
-/

namespace Sys2Proof.Machine

/-! ### Shared operations -/

/-- The result lanes of a vector instruction written to VD, with the flags. -/
def vwrite (s : State) (t vd : Nat) (rs : List LaneRes) : State :=
  fpFlags (tupd s t (fun x => advPc (vset x vd (lanesReg rs)))) t (lanesFlags rs)

/-- A vector instruction that writes VD lane by lane: `types` it accepts, fields `zs` it does not use, v, s and p sources,
and the result of lane k. -/
def vlanes (s : State) (t op : Nat) (b : BitVec 54) (types zs vs ss ps : List Nat) (f : Tiller → Nat → LaneRes) : State :=
  let x := til s t
  issue s t op b true (types.contains (fTYPE b) && zeros (fVres b :: zs))
    (freeV x (fVD b :: vs) && freeS x ss && freeP x ps)
    (fun s =>
      let x := til s t
      vwrite s t (fVD b) (lanes (preg x (guardOf b)) (vreg x (fVD b)) (f x)))

/-- VA and VB lane by lane. -/
def vop2 (s : State) (t op : Nat) (b : BitVec 54) (types : List Nat) (f : Nat → Nat → LaneRes) : State :=
  vlanes s t op b types [fVC b, fVPD b, fVRS b, fVIMM b] [fVA b, fVB b] [] []
    (fun x k => f (laneN (vreg x (fVA b)) k) (laneN (vreg x (fVB b)) k))

/-- VA lane by lane. -/
def vop1 (s : State) (t op : Nat) (b : BitVec 54) (types : List Nat) (f : Nat → LaneRes) : State :=
  vlanes s t op b types [fVB b, fVC b, fVPD b, fVRS b, fVIMM b] [fVA b] [] []
    (fun x k => f (laneN (vreg x (fVA b)) k))

/-- F32, BF16 and I32. -/
def tyArith : List Nat := [0, 1, 9]

/-! ### Arithmetic -/

def execVadd (t : Fin 512) (b : BitVec 54) (s : State) : Host.Outcome State Fault Refusal :=
  .next (vop2 s t 0x081 b tyArith (byType (fTYPE b) fadd (fun x y => i32Res 0x081 x y (sext 32 x + sext 32 y))))
def execVsub (t : Fin 512) (b : BitVec 54) (s : State) : Host.Outcome State Fault Refusal :=
  .next (vop2 s t 0x082 b tyArith (byType (fTYPE b) fsub (fun x y => i32Res 0x082 x y (sext 32 x - sext 32 y))))
/-- VMUL; I32 keeps the low 32 bits. -/
def execVmul (t : Fin 512) (b : BitVec 54) (s : State) : Host.Outcome State Fault Refusal :=
  .next (vop2 s t 0x083 b tyArith (byType (fTYPE b) fmul (fun x y => (x * y % 2 ^ 32, 0))))
/-- VFMA: one rounding (R87). -/
def execVfma (t : Fin 512) (b : BitVec 54) (s : State) : Host.Outcome State Fault Refusal :=
  .next (vlanes s t 0x084 b [0, 1] [fVPD b, fVRS b, fVIMM b] [fVA b, fVB b, fVC b] [] []
    (fun x k =>
      let p := laneN (vreg x (fVA b)) k
      let q := laneN (vreg x (fVB b)) k
      let r := laneN (vreg x (fVC b)) k
      if fTYPE b = 0 then ffma fmtF32 p q r else tri16 (ffma fmtBf16) p q r))
def execVmax (t : Fin 512) (b : BitVec 54) (s : State) : Host.Outcome State Fault Refusal :=
  .next (vop2 s t 0x085 b tyArith (byType (fTYPE b) fmax (fun x y => (if sext 32 x < sext 32 y then y else x, 0))))
def execVmin (t : Fin 512) (b : BitVec 54) (s : State) : Host.Outcome State Fault Refusal :=
  .next (vop2 s t 0x086 b tyArith (byType (fTYPE b) fmin (fun x y => (if sext 32 y < sext 32 x then y else x, 0))))
/-- VABS: floats change the sign bit only. -/
def execVabs (t : Fin 512) (b : BitVec 54) (s : State) : Host.Outcome State Fault Refusal :=
  .next (vop1 s t 0x087 b tyArith (fun x =>
    if fTYPE b = 0 then (x % 2 ^ 31, 0)
    else if fTYPE b = 1 then (x / 65536 % 2 ^ 15 * 65536 + x % 2 ^ 15, 0)
    else i32Res 0x087 x 0 (sext 32 x).natAbs))
/-- VNEG: floats change the sign bit only. -/
def execVneg (t : Fin 512) (b : BitVec 54) (s : State) : Host.Outcome State Fault Refusal :=
  .next (vop1 s t 0x088 b tyArith (fun x =>
    if fTYPE b = 0 then (Nat.xor x 0x80000000, 0)
    else if fTYPE b = 1 then (Nat.xor x 0x80008000, 0)
    else i32Res 0x088 x 0 (-(sext 32 x))))
def execVand (t : Fin 512) (b : BitVec 54) (s : State) : Host.Outcome State Fault Refusal :=
  .next (vop2 s t 0x089 b [9] (fun x y => (Nat.land x y, 0)))
def execVor (t : Fin 512) (b : BitVec 54) (s : State) : Host.Outcome State Fault Refusal :=
  .next (vop2 s t 0x08A b [9] (fun x y => (Nat.lor x y, 0)))
def execVxor (t : Fin 512) (b : BitVec 54) (s : State) : Host.Outcome State Fault Refusal :=
  .next (vop2 s t 0x08B b [9] (fun x y => (Nat.xor x y, 0)))

/-- Shifts of each lane by s[RS][4:0]. -/
def vshift (s : State) (t op : Nat) (b : BitVec 54) (f : Nat → Nat → Nat) : State :=
  vlanes s t op b [9] [fVB b, fVC b, fVPD b, fVIMM b] [fVA b] [fVRS b] []
    (fun x k => (f (laneN (vreg x (fVA b)) k) ((sreg x (fVRS b)).toNat % 32), 0))

def execVshl (t : Fin 512) (b : BitVec 54) (s : State) : Host.Outcome State Fault Refusal :=
  .next (vshift s t 0x08C b (fun x n => x * 2 ^ n % 2 ^ 32))
def execVshr (t : Fin 512) (b : BitVec 54) (s : State) : Host.Outcome State Fault Refusal :=
  .next (vshift s t 0x08D b (fun x n => x / 2 ^ n))
/-- VSEL: lane k of VA where bit k of p[PD] is 1, else of VB; any type. -/
def execVsel (t : Fin 512) (b : BitVec 54) (s : State) : Host.Outcome State Fault Refusal :=
  .next (vlanes s t 0x08E b (List.range 10) [fVC b, fVRS b, fVIMM b] [fVA b, fVB b] [] [fVPD b]
    (fun x k => (if bbit (preg x (fVPD b)) k then laneN (vreg x (fVA b)) k else laneN (vreg x (fVB b)) k, 0)))
def execVbcast (t : Fin 512) (b : BitVec 54) (s : State) : Host.Outcome State Fault Refusal :=
  .next (vlanes s t 0x08F b [0, 9] [fVA b, fVB b, fVC b, fVPD b, fVIMM b] [] [fVRS b] []
    (fun x _ => ((sreg x (fVRS b)).toNat % 2 ^ 32, 0)))
def execVlane (t : Fin 512) (b : BitVec 54) (s : State) : Host.Outcome State Fault Refusal :=
  .next (vlanes s t 0x090 b [0, 9] [fVB b, fVC b, fVPD b, fVIMM b] [fVA b] [fVRS b] []
    (fun x _ => (laneN (vreg x (fVA b)) ((sreg x (fVRS b)).toNat % 128), 0)))
def execVperm (t : Fin 512) (b : BitVec 54) (s : State) : Host.Outcome State Fault Refusal :=
  .next (vlanes s t 0x091 b [0, 9] [fVC b, fVPD b, fVRS b, fVIMM b] [fVA b, fVB b] [] []
    (fun x k => (laneN (vreg x (fVA b)) (laneN (vreg x (fVB b)) k % 128), 0)))
def execViota (t : Fin 512) (b : BitVec 54) (s : State) : Host.Outcome State Fault Refusal :=
  .next (vlanes s t 0x092 b [9] [fVA b, fVB b, fVC b, fVPD b, fVIMM b] [] [fVRS b] []
    (fun x k =>
      let a := (sreg x (fVRS b)).toNat % 2 ^ 32
      i32Res 0x092 a k (sext 32 a + k)))

/-! ### Compares -/

/-- VCMP: bit k of p[PD] is the comparison of the lanes; a NaN operand compares false; lanes off by the guard write 0. -/
def vcmp (s : State) (t op : Nat) (b : BitVec 54) (f : Int → Int → Bool) : State :=
  let x := til s t
  issue s t op b true ([0, 9].contains (fTYPE b) && zeros [fVres b, fVD b, fVC b, fVRS b, fVIMM b])
    (freeV x [fVA b, fVB b] && freeP x [fVPD b])
    (fun s =>
      let x := til s t
      let g := preg x (guardOf b)
      let p (k : Nat) : Nat := laneN (vreg x (fVA b)) k
      let q (k : Nat) : Nat := laneN (vreg x (fVB b)) k
      let bad (k : Nat) : Bool := fTYPE b == 0 && (fisNan fmtF32 (p k) || fisNan fmtF32 (q k))
      let r (k : Nat) : Bool :=
        if bad k then false
        else if fTYPE b = 0 then f (fkey fmtF32 (p k)) (fkey fmtF32 (q k)) else f (sext 32 (p k)) (sext 32 (q k))
      fpFlags (tupd s t (fun x => advPc (pset x (fVPD b) (pmake (fun k => bbit g k && r k))))) t
        (if (List.range 128).any (fun k => bbit g k && bad k) then flNANIN else 0))

def execVcmpEq (t : Fin 512) (b : BitVec 54) (s : State) : Host.Outcome State Fault Refusal :=
  .next (vcmp s t 0x0A1 b (fun x y => decide (x = y)))
def execVcmpLt (t : Fin 512) (b : BitVec 54) (s : State) : Host.Outcome State Fault Refusal :=
  .next (vcmp s t 0x0A2 b (fun x y => decide (x < y)))
def execVcmpLe (t : Fin 512) (b : BitVec 54) (s : State) : Host.Outcome State Fault Refusal :=
  .next (vcmp s t 0x0A3 b (fun x y => decide (x ≤ y)))

/-! ### Conversion (R137) -/

/-- Byte width of a type VCVT accepts; 0 for a type it does not accept. -/
def cvtWidth (ty : Nat) : Nat :=
  match ty with
  | 0 => 4 | 1 => 2 | 2 => 2 | 3 => 1 | 4 => 1 | 9 => 4 | _ => 0

/-- A number with `w` bytes at byte offset `o` replaced. -/
def putBytes (x o w v : Nat) : Nat := setBits x (8 * o) (8 * w) v

/-- The conversion of one register: source and destination types, mode, HALF, guard, source and old destination. Between two
types of width 1, for which R137 has no bullet, element k is read and element 128 * HALF + k written, as in a narrowing
conversion (DESIGN CHOICE, log entry 119). -/
def vcvtReg (st dt : Nat) (sat : Bool) (half : Nat) (g : PReg) (src old : VReg) : VReg × Nat :=
  let sw := cvtWidth st
  let dw := cvtWidth dt
  -- element read and element written for lane k
  let rd (k : Nat) : Nat := if sw < dw ∨ (sw = 2 ∧ dw = 2) then 128 * half + k else k
  let wr (k : Nat) : Nat := if sw < dw then k else if dw = 4 then k else 128 * half + k
  let res (k : Nat) : LaneRes := cvtElem st dt sat (bget src (8 * sw * rd k) (8 * sw))
  -- bytes outside the written range: kept when HALF is 1 in a narrowing or equal-width conversion, else 0
  let keep := half = 1 ∧ ¬ sw < dw
  let base : Nat := if keep ∨ dw = 4 then old.toNat
    else setBits 0 (8 * dw * wr 0) (8 * dw * 128) (bget old (8 * dw * wr 0) (8 * dw * 128))
  let out := (List.range 128).foldl (fun (a : Nat × Nat) k =>
    if bbit g k then
      let r := res k
      (putBytes a.1 (dw * wr k) dw r.1, a.2 ||| r.2)
    else a) (base, 0)
  (BitVec.ofNat 4096 out.1, out.2)

def execVcvt (t : Fin 512) (b : BitVec 54) (s : State) : Host.Outcome State Fault Refusal :=
  let x := til s t
  let st := fVIMM b % 16
  let half := fVIMM b / 32 % 2
  let sw := cvtWidth st
  let dw := cvtWidth (fTYPE b)
  .next (issue s t 0x0A4 b true
    (sw != 0 && dw != 0 && zeros [fVres b, fVB b, fVC b, fVPD b, fVRS b, fVIMM b / 64] && !(sw == 4 && dw == 4 && half == 1))
    (freeV x [fVD b, fVA b])
    (fun s =>
      let x := til s t
      let g := preg x (guardOf b)
      let r := vcvtReg st (fTYPE b) (fVIMM b / 16 % 2 == 0) half g (vreg x (fVA b)) (vreg x (fVD b))
      fpFlags (tupd s t (fun x => advPc (vset x (fVD b) r.1))) t r.2))

/-! ### Functions of R95, reductions, draws -/

def execVexp (t : Fin 512) (b : BitVec 54) (s : State) : Host.Outcome State Fault Refusal := .next (vop1 s t 0x0A5 b [0] expLane)
def execVln (t : Fin 512) (b : BitVec 54) (s : State) : Host.Outcome State Fault Refusal := .next (vop1 s t 0x0A6 b [0] lnLane)
def execVrcp (t : Fin 512) (b : BitVec 54) (s : State) : Host.Outcome State Fault Refusal := .next (vop1 s t 0x0A7 b [0] rcpLane)

/-- VRSUM and VRMAX: a tree over the lanes, the lanes off by the guard taking part as the identity; s[RS] is written even
when every guard bit is 0 (R96, R128). -/
def vreduce (s : State) (t op : Nat) (b : BitVec 54) (ident : Nat) (f : Nat → Nat → LaneRes) : State :=
  let x := til s t
  issue s t op b true ([0, 9].contains (fTYPE b) && zeros [fVres b, fVD b, fVB b, fVC b, fVPD b, fVIMM b])
    (freeV x [fVA b] && freeS x [fVRS b])
    (fun s =>
      let x := til s t
      let g := preg x (guardOf b)
      let xs := (List.range 128).map (fun k => if bbit g k then laneN (vreg x (fVA b)) k else ident)
      let r := tree f 7 xs 0
      -- a partial is no operand of the instruction (R697)
      let nan := fTYPE b == 0 && xs.any (fisNan fmtF32)
      fpFlags (tupd s t (fun x => advPc (sset x (fVRS b) (w64 r.1)))) t (if nan then r.2 else r.2 % flNANIN))

def execVrsum (t : Fin 512) (b : BitVec 54) (s : State) : Host.Outcome State Fault Refusal :=
  .next (vreduce s t 0x0A8 b 0 (fun x y =>
    if fTYPE b = 0 then fadd fmtF32 x y else i32Res 0x0A8 x y (sext 32 x + sext 32 y)))
def execVrmax (t : Fin 512) (b : BitVec 54) (s : State) : Host.Outcome State Fault Refusal :=
  .next (vreduce s t 0x0A9 b (if fTYPE b = 0 then 0xFF800000 else 0x80000000) (fun x y =>
    if fTYPE b = 0 then fmax fmtF32 x y else (if sext 32 x < sext 32 y then y else x, 0)))

/-- VRNG: RS is even; key s[RS], position s[RS+1][31:0], draw IMM[3:0], candidate VA[k][19:0] (R138). -/
def execVrng (t : Fin 512) (b : BitVec 54) (s : State) : Host.Outcome State Fault Refusal :=
  .next (vlanes s t 0x0AA b [0] [fVB b, fVC b, fVPD b, fVIMM b / 16, fVRS b % 2] [fVA b] [fVRS b, fVRS b + 1] []
    (fun x k => (rngDraw (sreg x (fVRS b))
      (rngCounter (sreg x (fVRS b + 1)).toNat (fVIMM b % 16) (laneN (vreg x (fVA b)) k)), 0)))

/-! ### MX quantisation (R139) -/

/-- Bits of an element of an MX type. -/
def mxBits (ty : Nat) : Nat :=
  match ty with
  | 5 => 4 | 6 => 6 | 7 => 6 | _ => 8

/-- Elements of `w` bits packed from bit 0 up (R143). -/
def packElems (w : Nat) : List Nat → Nat
  | [] => 0
  | x :: r => x % 2 ^ w + 2 ^ w * packElems w r

def execVqmx (t : Fin 512) (b : BitVec 54) (s : State) : Host.Outcome State Fault Refusal :=
  let x := til s t
  let ty := fTYPE b
  .next (issue s t 0x0AB b true ([5, 6, 7, 8].contains ty && zeros [fVres b, fVB b, fVC b, fVPD b, fVIMM b])
    (freeV x [fVD b, fVA b] && freeS x [fVRS b])
    (fun s =>
      let x := til s t
      let g := preg x (guardOf b)
      let blk (i : Nat) : List Nat := (List.range 32).map (fun k => laneN (vreg x (fVA b)) (32 * i + k))
      let q (i : Nat) := quantBlock ty (blk i)
      let w := mxBits ty
      let r := 4 * w
      let packed := (List.range 4).foldl (fun a i => a + packElems w ((q i).1.map (·.1)) * 2 ^ (8 * r * i)) 0
      let scales := (List.range 4).foldl (fun a i => a + (q i).2 * 2 ^ (8 * i)) 0
      let el := (List.range 4).flatMap (fun i => (q i).1)
      let fl := lanesFlags ((List.range 128).map (fun k => if bbit g k then el.getD k (0, 0) else (0, 0)))
      let v : VReg := BitVec.ofNat 4096 packed
      fpFlags (tupd s t (fun x => advPc (sset (vset x (fVD b)
        (vmake (fun k => if bbit g k then lane v k else lane (vreg x (fVD b)) k))) (fVRS b) (w64 scales)))) t fl))

/-! ### KV4 (R140, R141) -/

/-- Elements of the range that one instruction handles: 64 for D = 64, else 128. -/
def kv4Count (dim : Nat) : Nat := if dim = 0 then 64 else 128

/-- The IMM fields KV4 instructions accept: at most 4 outliers, DIM 0-2, HALF only with DIM 2. -/
def kv4Legal (imm : Nat) : Bool :=
  decide (imm % 8 ≤ 4) && decide (imm / 8 % 4 ≤ 2) && (imm / 32 % 2 == 0 || imm / 8 % 4 == 2) && imm / 64 == 0

/-- Elements recorded as outliers, in ascending lane order, at most `lim` of them. -/
def kv4Pick (far : Nat → Bool) : List Nat → Nat → List Nat
  | [], _ => []
  | k :: r, lim => if far k && decide (0 < lim) then k :: kv4Pick far r (lim - 1) else kv4Pick far r lim

def execVkv4e (t : Fin 512) (b : BitVec 54) (s : State) : Host.Outcome State Fault Refusal :=
  let x := til s t
  let imm := fVIMM b
  .next (issue s t 0x0AC b true (fTYPE b == 0 && kv4Legal imm && zeros [fVres b, fVC b])
    (freeV x [fVD b, fVA b, fVB b] && freeS x [fVRS b] && freeP x [fVPD b])
    (fun s =>
      let x := til s t
      let g := preg x (guardOf b)
      let n := kv4Count (imm / 8 % 4)
      let va (k : Nat) : Nat := laneN (vreg x (fVA b)) k
      let vb (k : Nat) : Nat := laneN (vreg x (fVB b)) k
      let sv (k : Nat) : Nat := fdiv32 (va k) (vb k)
      let lim := min (4 - imm % 8) (112 - (sreg x (fVRS b)).toNat)
      let outs := kv4Pick (fun k => bbit g k && kv4Far (sv k)) (List.range n) lim
      let code := (List.range (n / 2)).foldl (fun a j => a + kv4Code (sv (2 * j)) (sv (2 * j + 1)) * 16 ^ j) 0
      let fl := if (List.range n).any (fun k => bbit g k && (fisNan fmtF32 (va k) || fisNan fmtF32 (vb k))) then flNANIN else 0
      fpFlags (tupd s t (fun x => advPc (pset (if g = 0 then x else vset x (fVD b) (BitVec.ofNat 4096 code))
        (fVPD b) (pmake (fun k => outs.contains k))))) t fl))

def execVkv4d (t : Fin 512) (b : BitVec 54) (s : State) : Host.Outcome State Fault Refusal :=
  let x := til s t
  let imm := fVIMM b
  .next (issue s t 0x0AD b true (fTYPE b == 0 && kv4Legal imm && zeros [fVres b, fVC b, fVPD b, fVRS b])
    (freeV x [fVD b, fVA b, fVB b])
    (fun s =>
      let x := til s t
      let n := kv4Count (imm / 8 % 4)
      vwrite s t (fVD b) (lanes (preg x (guardOf b)) (vreg x (fVD b)) (fun k =>
        if n ≤ k then (0, 0)
        else kv4Decode fmtF32 (bget (vreg x (fVA b)) (4 * (k / 2)) 4) k (fval fmtF32 (laneN (vreg x (fVB b)) k))))))

/-- VLDACC: rows 4g to 4g+3 of tile acc[IMM[1:0]], g = IMM[4:2]. -/
def execVldacc (t : Fin 512) (b : BitVec 54) (s : State) : Host.Outcome State Fault Refusal :=
  let x := til s t
  let imm := fVIMM b
  .next (issue s t 0x0AE b true (fTYPE b == 0 && zeros [fVres b, fVA b, fVB b, fVC b, fVPD b, fVRS b, imm / 32])
    (freeV x [fVD b] && !awaitAcc x (imm % 4))
    (fun s =>
      let x := til s t
      vwrite s t (fVD b) (lanes (preg x (guardOf b)) (vreg x (fVD b))
        (fun k => (bget (areg x (imm % 4)) (32 * (128 * (imm / 4 % 8) + k)) 32, 0)))))

/-! ### Vector memory (R142) -/

/-- The address s[RS] + m * IMM, IMM sign-extended. -/
def vmemAddr (x : Tiller) (b : BitVec 54) (m : Int) : Nat := (sreg x (fVRS b) + wInt (m * sext 16 (fVIMM b))).toNat

def execVld (t : Fin 512) (b : BitVec 54) (s : State) : Host.Outcome State Fault Refusal :=
  let x := til s t
  let a := vmemAddr x b 64
  .next (issue s t 0x0C1 b true (zeros [fTYPE b, fVres b, fVA b, fVB b, fVC b, fVPD b])
    (freeV x [fVD b] && freeS x [fVRS b])
    (fun s =>
      let g := preg (til s t) (guardOf b)
      if g = 0 then tupd s t advPc
      else if sramWait x.pend a 512 false then s
      else if a % 64 ≠ 0 ∨ !(inLocal a 512 || inStore a 512) then raiseAt s t 0x0C1 b 2 (w64 a)
      else pushPend s t 0x0C1 b (.vload (fVD b) g a)))

/-- The active lanes of VA stored one by one. -/
def storeLanes (s : State) (t a : Nat) (v : VReg) (g : PReg) : List Nat → State
  | [] => s
  | k :: r => storeLanes (if bbit g k then twrite s t (a + 4 * k) (toBytes 4 (laneN v k)) else s) t a v g r

def execVst (t : Fin 512) (b : BitVec 54) (s : State) : Host.Outcome State Fault Refusal :=
  let x := til s t
  let a := vmemAddr x b 64
  .next (issue s t 0x0C2 b true (zeros [fTYPE b, fVres b, fVD b, fVB b, fVC b, fVPD b])
    (freeV x [fVA b] && freeS x [fVRS b])
    (fun s =>
      let x := til s t
      let g := preg x (guardOf b)
      if g = 0 then tupd s t advPc
      else if sramWait x.pend a 512 true then s
      else if a % 64 ≠ 0 ∨ !(inLocal a 512 || inStore a 512) ∨ (inLocal a 512 && decide (a < imageEnd x)) then
        raiseAt s t 0x0C2 b 2 (w64 a)
      else tupd (storeLanes s t a (vreg x (fVA b)) g (List.range 128)) t advPc))

def execVldB32 (t : Fin 512) (b : BitVec 54) (s : State) : Host.Outcome State Fault Refusal :=
  let x := til s t
  let a := vmemAddr x b 4
  .next (issue s t 0x0C3 b true (zeros [fTYPE b, fVres b, fVA b, fVB b, fVC b, fVPD b])
    (freeV x [fVD b] && freeS x [fVRS b])
    (fun s =>
      let g := preg (til s t) (guardOf b)
      if g = 0 then tupd s t advPc
      else if sramWait x.pend a 4 false then s
      else if a % 4 ≠ 0 ∨ !(inLocal a 4 || inStore a 4) then raiseAt s t 0x0C3 b 2 (w64 a)
      else pushPend s t 0x0C3 b (.vword (fVD b) g a)))

end Sys2Proof.Machine
end

