-- ==== Sys2Proof/Machine/Array.lean ====
section
/-!
DEFINITION. Array instructions (04_sirec_isa.md, "Array instructions"; R88-R90, R132, R143-R145).
-/

namespace Sys2Proof.Machine

/-- Bytes of a run of 32 elements (R143). -/
def runBytes (ty : Nat) : Nat :=
  match ty with
  | 1 => 64 | 5 => 16 | 6 => 24 | 7 => 24 | _ => 32

def isFp8 (ty : Nat) : Bool := ty == 3 || ty == 4
def isMx (ty : Nat) : Bool := decide (5 ≤ ty) && decide (ty ≤ 8)

/-- Operand pairs the array accepts (R89). -/
def pairOk (ta tb : Nat) : Bool := (isFp8 ta && isFp8 tb) || (isMx ta && isMx tb) || (ta == 1 && tb == 1)

/-- The 32 element values of a run (R143). -/
def runVals (x : Tiller) (ty a : Nat) : List FV :=
  let n := ofBytes (localBytes x a (runBytes ty))
  let w := if ty = 1 then 16 else mxBits ty
  (List.range 32).map (fun k => tyval ty (bits n (w * k) w))

/-- The scale of row or column `i` in a block, for an MX operand (R144). -/
def scaleAt (x : Tiller) (mx : Bool) (a : Nat) : Option Int :=
  if mx then e8m0 (ofBytes (localBytes x a 1)) else some 0

/-- The sum of two block scales; none when either is NaN. -/
def scaleSum (p q : Option Int) : Option Int :=
  match p, q with
  | some u, some v => some (u + v)
  | _, _ => none

/-- One block added to all 1,024 accumulator elements, row-major, with the flags (R88). -/
def mmaBlock (as bs : List (List FV × Option Int)) : List Nat → Nat → List Nat × Nat
  | acc, fl =>
    let pairs := as.flatMap (fun a => bs.map (fun c => (a, c)))
    let rs := List.zipWith (fun (p : (List FV × Option Int) × (List FV × Option Int)) z =>
      accAdd z (blkSum p.1.1 p.2.1 {}) (scaleSum p.1.2 p.2.2)) pairs acc
    (rs.map (·.1), fl ||| lanesFlags rs)

/-- Blocks `k`, `k+1`, ... of an MMA.TILE in program order. -/
def mmaBlocks (x : Tiller) (ra rb rs ta tb nb : Nat) : Nat → Nat → List Nat → Nat → List Nat × Nat
  | 0, _, acc, fl => (acc, fl)
  | n + 1, k, acc, fl =>
    let qa := runBytes ta
    let qb := runBytes tb
    let mx := isMx ta
    let as := (List.range 32).map (fun i => (runVals x ta (ra + k * 32 * qa + i * qa), scaleAt x mx (rs + 32 * k + i)))
    let bs := (List.range 32).map (fun j =>
      (runVals x tb (rb + k * 32 * qb + j * qb), scaleAt x mx (rs + 32 * nb + 32 * k + j)))
    let r := mmaBlock as bs acc fl
    mmaBlocks x ra rb rs ta tb nb n (k + 1) r.1 r.2

/-- The elements of a tile, element 0 first. -/
def tileElems (a : Tile) : List Nat := (List.range 1024).map (fun k => bget a (32 * k) 32)

def execMmaTile (t : Fin 512) (b : BitVec 54) (s : State) : Host.Outcome State Fault Refusal :=
  let x := til s t
  let ra := (sreg x (fARA b)).toNat
  let rb := (sreg x (fARB b)).toNat
  let mx := isMx (fTA b)
  let rs := if mx then (sreg x (fARS b)).toNat else 0
  let nb := fNBM1 b + 1
  let na := nb * 32 * runBytes (fTA b)
  let nbb := nb * 32 * runBytes (fTB b)
  .next (issue s t 0x101 b false (pairOk (fTA b) (fTB b) && fAres b == 0 && (mx || fARS b == 0))
    (freeS x [fARA b, fARB b, fARS b] && !accBusy x (fACC b))
    (fun s =>
      if sramBusy x.pend [(ra, na, false), (rb, nbb, false), (rs, if mx then 64 * nb else 0, false)] then s
      else if ra % 64 ≠ 0 ∨ !inLocal ra na then raiseAt s t 0x101 b 2 (w64 ra)
      else if rb % 64 ≠ 0 ∨ !inLocal rb nbb then raiseAt s t 0x101 b 2 (w64 rb)
      else if mx ∧ (rs % 64 ≠ 0 ∨ !inLocal rs (64 * nb)) then raiseAt s t 0x101 b 2 (w64 rs)
      else pushPend s t 0x101 b (.mma (fACC b) ra rb rs (fTA b) (fTB b) (fZERO b == 1) nb)))

/-- ACC.CLR: the tile is +0. -/
def execAccClr (t : Fin 512) (b : BitVec 54) (s : State) : Host.Outcome State Fault Refusal :=
  .next (issue s t 0x102 b false (zeros [bget b 0 49]) (!accBusy (til s t) (fACC b))
    (fun s => tupd s t (fun x => advPc (aset x (fACC b) 0))))

def execAccLd (t : Fin 512) (b : BitVec 54) (s : State) : Host.Outcome State Fault Refusal :=
  let x := til s t
  let a := (sreg x (fARA b)).toNat
  .next (issue s t 0x103 b false (zeros [bget b 0 44]) (freeS x [fARA b] && !accBusy x (fACC b))
    (fun s =>
      if sramWait x.pend a 4096 false then s
      else if a % 64 ≠ 0 ∨ !inLocal a 4096 then raiseAt s t 0x103 b 2 (w64 a)
      else pushPend s t 0x103 b (.accLoad (fACC b) a)))

def execAccSt (t : Fin 512) (b : BitVec 54) (s : State) : Host.Outcome State Fault Refusal :=
  let x := til s t
  let a := (sreg x (fARA b)).toNat
  .next (issue s t 0x104 b false (zeros [bget b 0 44]) (freeS x [fARA b] && !awaitAcc x (fACC b))
    (fun s =>
      if sramWait x.pend a 4096 true then s
      else if a % 64 ≠ 0 ∨ !inLocal a 4096 ∨ a < imageEnd (til s t) then raiseAt s t 0x104 b 2 (w64 a)
      else pushPend s t 0x104 b (.accStore (fACC b) a)))

/-- Incomplete array instruction `i` finishes: a product is in its tile, a stored tile is in local SRAM. Operands with a
parity error raise MEMORY and deliver nothing (R82). -/
def arrayDone (s : State) (t i : Nat) : State :=
  let x := til s t
  match pendOp x i with
  | some (.accStore acc a) =>
    tupd s t (fun x => localWrite (dropPend x i) a (toBytes 4096 (areg x acc).toNat))
  | some (.mma acc ra rb rs ta tb zero nb) =>
    let na := nb * 32 * runBytes ta
    let nbb := nb * 32 * runBytes tb
    if parityBad x.bad ra na then parityFail s t i ra na
    else if parityBad x.bad rb nbb then parityFail s t i rb nbb
    else if isMx ta && parityBad x.bad rs (64 * nb) then parityFail s t i rs (64 * nb)
    else
      let r := mmaBlocks x ra rb rs ta tb nb nb 0 (tileElems (if zero then 0 else areg x acc)) 0
      let tile : Tile := BitVec.ofNat 32768 (ofLanes (r.1.map (fun n => BitVec.ofNat 32 n)))
      fpFlags (tupd s t (fun x => aset (dropPend x i) acc tile)) t r.2
  | _ => s

def execArrayComplete (t : Fin 512) (i : Nat) (s : State) : Host.Outcome State Fault Refusal := .next (arrayDone s t i)

end Sys2Proof.Machine
end

