-- ==== Sys2Proof/Machine/BankMath.lean ====
section
/-!
DEFINITION. What one bank unit computes: operands converted into FP16, scores, and the running partial of a query head
(R230-R237).
-/

namespace Sys2Proof.Machine

/-- An FP16 word as FP32; the conversion is exact. -/
def f16to32 (x : Nat) : Nat := (cvtTo 0 false (fval fmtF16 x)).1

/-- An FP32 word rounded into FP16 (R92). -/
def f32to16 (x : Nat) : Nat := (cvtTo 2 false (fval fmtF32 x)).1

/-- The exact product of two values, rounded once into format `f`. -/
def mulRound (f : Fmt) (x y : FV) : Nat :=
  match x, y with
  | .nan, _ => f.nanc
  | _, .nan => f.nanc
  | .inf n, .inf m => withSign f (n != m) f.infc
  | .inf n, .fin m a _ => if a = 0 then f.nanc else withSign f (n != m) f.infc
  | .fin n a _, .inf m => if a = 0 then f.nanc else withSign f (n != m) f.infc
  | .fin n a ea, .fin m b eb => (roundFin f (n != m) (a * b) 1 (ea + eb)).1

/-- A query element: round_fp16(q x SCALE) of a BF16 element and an FP32 factor (R232). -/
def queryElem (q scale : Nat) : Nat := mulRound fmtF16 (fval fmtBf16 q) (fval fmtF32 scale)

/-- Bits of a granule's byte `i`. -/
def granByte (g i : Nat) : Nat := bits g (8 * i) 8

/-- Number of outlier entries that count, and entry `k`, of a side record given as a number (R99). -/
def sideOutliers (sd : Nat) : Nat := min (bits sd 48 16) 112
def sideEntry (sd k : Nat) : Nat := bits sd (8 * (576 + 4 * k)) 32
def sideScale (sd d : Nat) : Nat := bits sd (8 * (64 + 2 * d)) 16

/-- KV4 element (t, d) in FP16 (R100): the outlier entry with the lowest index, or the coordinate of the pair's point. -/
def kv4Elem (sd code t d : Nat) : Nat :=
  let sc := fval fmtF16 (sideScale sd d)
  match (List.range (sideOutliers sd)).find? (fun k => bits (sideEntry sd k) 20 12 == t && bits (sideEntry sd k) 12 8 == d) with
  | some k => mulRound fmtF16 (fval fmtE4m3 (bits (sideEntry sd k) 0 8)) sc
  | none => (kv4Decode fmtF16 code d sc).1

/-- Element `d` of the slot that begins at byte `o` of a granule, slot `t` of its page, in FP16 (R232). -/
def kvElem (fmt g sd o t d : Nat) : Nat :=
  match fmt with
  | 0 => (cvtTo 2 false (fval fmtE4m3 (granByte g (o + d)))).1
  | 1 => (cvtTo 2 false (fval fmtE5m2 (granByte g (o + d)))).1
  | _ => kv4Elem sd (bits g (8 * o + 4 * (d / 2)) 4) t d

/-- Adjacent values added in pairs. -/
def addPairs : List Nat → List Nat
  | a :: b :: r => (fadd fmtF32 a b).1 :: addPairs r
  | r => r

/-- Adjacent partial sums combined level by level, `n` levels (R96). -/
def sumTree : Nat → List Nat → Nat
  | 0, l => l.headD 0
  | n + 1, l => sumTree n (addPairs l)

/-- A score: 64 lane sums, then the tree (R233). Operands are FP16 words by dimension. -/
def score (D : Nat) (q k : Nat → Nat) : Nat :=
  let prod (d : Nat) : Nat := (fmul fmtF32 (f16to32 (q d)) (f16to32 (k d))).1
  let lane (j : Nat) : Nat := (List.range (D / 64 - 1)).foldl (fun a i =>
    let d := j + 64 * (i + 1)
    (ffma fmtF32 (f16to32 (q d)) (f16to32 (k d)) a).1) (prod j)
  sumTree 6 ((List.range 64).map lane)

def f32NegInf : Nat := 0xFF800000

/-- A state buffer at the start of a sequence: m, l and o (R237). -/
def partStart (D : Nat) : List Nat := f32NegInf :: List.replicate (D + 1) 0

/-- One slot's weight enters l and o. -/
def addSlot (D mx : Nat) (l : Nat) (o : List Nat) (s : Nat) (v : Nat → Nat) : Nat × List Nat :=
  let p := f16to32 (f32to16 (expLane (fsub fmtF32 s mx).1).1)
  ((fadd fmtF32 l p).1, (List.range D).zipWith (fun d x => (ffma fmtF32 p (f16to32 (v d)) x).1) o)

/-- One block of the partial of a query head (R237): `ts` are the slots of the bank in the block's columns, each with its
K and V elements. -/
def blockStep (D : Nat) (q : Nat → Nat) (ts : List ((Nat → Nat) × (Nat → Nat))) (x : List Nat) : List Nat :=
  if ts.isEmpty then x
  else
    let m := x.headD 0
    let ss := ts.map (fun t => score D q t.1)
    let mx := ss.foldl (fun a b => (fmax fmtF32 a b).1) m
    let a := f16to32 (f32to16 (expLane (fsub fmtF32 m mx).1).1)
    let l := (fmul fmtF32 ((x.drop 1).headD 0) a).1
    let o := (x.drop 2).map (fun y => (fmul fmtF32 y a).1)
    let r := (List.zip ss ts).foldl (fun r e => addSlot D mx r.1 r.2 e.1 e.2.2) (l, o)
    mx :: r.1 :: r.2

end Sys2Proof.Machine
end

