-- ==== Sys2Proof/Machine/Desc.lean ====
section
/-!
DEFINITION. The context descriptor: its fields (R173), the state codes (R182), and the geometry of a span (R192).
-/

namespace Sys2Proof.Machine

/-- A field of a descriptor: its lowest bit in the 1,024-bit descriptor, and its width. -/
structure DFld where
  lo : Nat
  w : Nat
  deriving DecidableEq, Repr

namespace D
def INCARNATION : DFld := ⟨48, 16⟩
def TENANT : DFld := ⟨42, 6⟩
def PARTITION : DFld := ⟨39, 3⟩
def PRIORITY : DFld := ⟨36, 3⟩
def DL_MODE : DFld := ⟨34, 2⟩
def PUBLISH : DFld := ⟨33, 1⟩
def PUBLISH_CLOSE : DFld := ⟨32, 1⟩
def STATE : DFld := ⟨28, 4⟩
def RESUME : DFld := ⟨24, 4⟩
def PEND : DFld := ⟨16, 8⟩
def CANCEL : DFld := ⟨16, 1⟩
def DL_PASSED : DFld := ⟨17, 1⟩
def KV_BAD : DFld := ⟨18, 1⟩
def SWAP_BUSY : DFld := ⟨19, 1⟩
def HELD : DFld := ⟨20, 1⟩
def IMPORT_DONE : DFld := ⟨21, 1⟩
def HIDDEN_DONE : DFld := ⟨22, 1⟩
def PROMPT_DONE : DFld := ⟨23, 1⟩
def HOLD_REASON : DFld := ⟨8, 8⟩
def KIND : DFld := ⟨4, 4⟩
def STATUS : DFld := ⟨0, 4⟩
def MAX_LEN : DFld := ⟨64 + 42, 21⟩
def PROMPT_LEN : DFld := ⟨64 + 21, 21⟩
def LENGTH : DFld := ⟨64, 21⟩
def MAX_TOKENS : DFld := ⟨128 + 42, 21⟩
def GENERATED : DFld := ⟨128 + 21, 21⟩
def KV_VALID : DFld := ⟨128, 21⟩
def SPAN_PT : DFld := ⟨192, 64⟩
def LOG_DIR : DFld := ⟨256, 64⟩
def STOP_REC : DFld := ⟨320, 64⟩
def SEED : DFld := ⟨384, 64⟩
def FILTER : DFld := ⟨448 + 32, 32⟩
def TEMP : DFld := ⟨448, 32⟩
def DEADLINE : DFld := ⟨512, 64⟩
def SHARED_LEN : DFld := ⟨576 + 32, 21⟩
def LAST_STEP : DFld := ⟨576, 32⟩
def PPS : DFld := ⟨640 + 24, 16⟩
def FMT : DFld := ⟨640 + 18, 2⟩
def DIM : DFld := ⟨640 + 16, 2⟩
def KVH_M1 : DFld := ⟨640 + 8, 8⟩
def LAYERS_M1 : DFld := ⟨640, 8⟩
def PFX_NODE : DFld := ⟨704 + 32, 23⟩
def NAMESPACE : DFld := ⟨704, 32⟩
def TAG : DFld := ⟨768, 64⟩
def AUX : DFld := ⟨832, 64⟩
def HOLE_END : DFld := ⟨896 + 21, 21⟩
def HOLE_START : DFld := ⟨896, 21⟩
def COMP : DFld := ⟨960 + 34, 10⟩
def OWNER_CTX : DFld := ⟨960 + 16, 18⟩
def OWNER_PEER : DFld := ⟨960, 16⟩
end D

/-- A field of a descriptor. -/
def dg (d : Desc) (f : DFld) : Nat := bget d f.lo f.w

/-- A field of a descriptor replaced. -/
def ds (d : Desc) (f : DFld) (v : Nat) : Desc := bset d f.lo f.w v

/-- A one-bit field as a truth value. -/
def db (d : Desc) (f : DFld) : Bool := dg d f == 1

/-- Word `n` of a descriptor. -/
def dword (d : Desc) (n : Nat) : Word := w64 (bget d (64 * n) 64)

/-! State codes (R182) -/
def stFREE : Nat := 0
def stOPEN : Nat := 1
def stPREFILL : Nat := 2
def stREADY : Nat := 3
def stDECODE : Nat := 4
def stPREEMPTED : Nat := 5
def stSWAPPED : Nat := 6
def stREBUILD : Nat := 7
def stDRAINING : Nat := 8
def stCLOSED : Nat := 9

/-! Status codes (R327) -/
def endSTOP : Nat := 1
def endLENGTH : Nat := 2
def endCANCELLED : Nat := 3
def endDEADLINE : Nat := 4
def endEVICTED : Nat := 5
def endFAULTED : Nat := 6

/-! ### Geometry (R177, R192) -/

/-- Head dimension. -/
def dimOf (code : Nat) : Nat := 64 * 2 ^ code

/-- Slots per page: 65,536 / D for FP8 and 262,144 / D for KV4 (R192). -/
def slotsOf (fmt dim : Nat) : Nat := (if fmt = 2 then 262144 else 65536) / dimOf dim

def dSlots (d : Desc) : Nat := slotsOf (dg d D.FMT) (dg d D.DIM)

/-- Bytes per slot. -/
def dSlotBytes (d : Desc) : Nat := if dg d D.FMT = 2 then dimOf (dg d D.DIM) / 4 else dimOf (dg d D.DIM)

def dStreams (d : Desc) : Nat := (dg d D.LAYERS_M1 + 1) * (dg d D.KVH_M1 + 1) * 2

/-- Span pages of a context. -/
def dPages (d : Desc) : Nat := dStreams d * dg d D.PPS

/-- Bytes of a page-table block: 512 + 8 x STREAMS x PPS rounded up to 64 (R177). -/
def ptBytes (streams pps : Nat) : Nat := roundUp (512 + 8 * streams * pps) 64

/-- Address of the page-table entry of span page `v` (R193). -/
def pteAddr (d : Desc) (v : Nat) : Nat := dg d D.SPAN_PT + 512 + 8 * v

/-- A hole exists. -/
def dHole (d : Desc) : Bool := decide (dg d D.HOLE_START < dg d D.HOLE_END)

/-- The hole grows to cover positions `a` to `b - 1` (R198). -/
def widen (d : Desc) (a b : Nat) : Desc :=
  if b ≤ a then d
  else if dHole d then ds (ds d D.HOLE_START (min a (dg d D.HOLE_START))) D.HOLE_END (max b (dg d D.HOLE_END))
  else ds (ds d D.HOLE_START a) D.HOLE_END b

end Sys2Proof.Machine
end

