-- ==== Sys2Proof/Machine/HostOut.lean ====
section
/-!
DEFINITION. What the device writes to host memory through completion rings: entries, answers, spilled records, and the
signalling of vectors (17_host_interface.md, "Completion rings").
-/

namespace Sys2Proof.Machine

def cplOf (s : State) (n : Nat) : Cpl := nget (fun _ => {}) s.host.cpl n

def setCpl (s : State) (n : Nat) (c : Cpl) : State :=
  { s with host := { s.host with cpl := nput (fun _ => {}) s.host.cpl n c } }

/-- Entries of a completion ring. -/
def cplSize (s : State) (n : Nat) : Nat := 2 ^ fget s F.HST_CPL_CTL_SIZE n

/-- The ring is enabled and has an entry that is free and not promised (R639, R647). -/
def cplFree (s : State) (n : Nat) : Bool :=
  fbit s F.HST_CPL_CTL_EN n && decide ((cplOf s n).used + (cplOf s n).promised < cplSize s n)

/-- The ring signals its vector now (R653). -/
def cplSignal (s : State) (n : Nat) : State :=
  irq (setCpl s n { cplOf s n with coal := 0 }) (n / 4) (n % 4)

/-- One 64-byte entry written at DEV, with its trailer, and the signal of R653 (R644). -/
def cplWrite (s : State) (n typ : Nat) (bs : List Byte) : State :=
  let dev := fget s F.HST_CPL_PTR_DEV n
  let ph := fget s F.HST_CPL_PTR_PHASE n
  let size := cplSize s n
  let entry := bs.take 60 ++ List.replicate (60 - bs.length) 0 ++ toBytes 4 (typ + ph * 2 ^ 31)
  let s := hostWrite s (fget s F.HST_CPL_BASE_BASE n * 4096 + 64 * dev) entry
  let s := fput s F.HST_CPL_PTR_DEV n ((dev + 1) % size)
  let s := if dev + 1 = size then fput s F.HST_CPL_PTR_PHASE n (1 - ph) else s
  let c := cplOf s n
  let s := setCpl s n { c with used := c.used + 1, coal := c.coal + 1 }
  if fget s F.HST_CPL_CTL_COAL_US n = 0 ∨ fget s F.HST_CPL_CTL_COAL_N n ≤ c.coal + 1 then cplSignal s n else s

/-- An answer to a request: bytes 0-59 of a TYPE 2 entry. It takes the entry promised to it (R639); answers of a ring
that has been disabled since are discarded (R656). -/
def answer (s : State) (n reqId op result cid inc value : Nat) : State :=
  let c := cplOf s n
  let s := setCpl s n { c with promised := c.promised - 1 }
  if fbit s F.HST_CPL_CTL_EN n then
    cplWrite s n 2 (toBytes 4 reqId ++ toBytes 1 op ++ toBytes 1 result ++ toBytes 2 0 ++ toBytes 4 cid ++ toBytes 2 inc ++
      toBytes 2 0 ++ toBytes 8 value)
  else s

/-- The lowest slot of the spill area that holds nothing. -/
def spillSlot (s : State) : Nat → Nat → Nat
  | 0, k => k
  | n + 1, k => if s.host.spill.any (fun e => e.slot == k) then spillSlot s n (k + 1) else k

def setSpill (s : State) (l : List SpillEnt) : State :=
  fput { s with host := { s.host with spill := l } } F.HST_SPILL_COUNT 0 l.length

/-- A completion record reaches its ring, or the spill area while the ring has no free entry, is disabled or has spilled
entries (R645-R648). -/
def recordOut (s : State) (n : Nat) (bs : List Byte) : State :=
  if cplFree s n && !s.host.spill.any (fun e => e.ring == n) then cplWrite s n 1 bs
  else
    let k := spillSlot s s.host.spill.length 0
    let s := memWrite s (fget s F.HST_SPILL_BASE 0 * 65536 + 64 * k) (bs.take 60 ++ List.replicate (60 - bs.length) 0 ++ toBytes 4 1)
    hstErr (setSpill s (s.host.spill ++ [{ ring := n, slot := k }])) F.HST_ERR_SPILL

/-- A half writes nothing to host memory: it is fenced or suspended (R568, R572). -/
def halfQuiet (s : State) (h : Nat) : Bool :=
  (if h = 0 then fbit s F.TWN_LEAD_FENCED_A 0 else fbit s F.TWN_LEAD_FENCED_B 0) ||
    (nget (fun _ => {}) s.twin.half h).suspended

def tw (s : State) (h : Nat) : TwinHalf := nget (fun _ => {}) s.twin.half h

def twPut (s : State) (h : Nat) (x : TwinHalf) : State :=
  { s with twin := { s.twin with half := nput (fun _ => {}) s.twin.half h x } }

/-- Pair state of a half: 0 UNPAIRED, 1 SYNCING, 2 PAIRED, 3 LOST (R557). -/
def pairState (s : State) (h : Nat) : Nat := fget s F.TWN_HS_STAT_PAIR h

/-- A record of half `h` whose ending is journal entry `jsn` may be shown to the host (R553). The host port lies in half A:
half B reaches it over the die-to-die link (R574). -/
def recReady (s : State) (h jsn : Nat) : Bool :=
  !halfQuiet s h && !halfQuiet s 0 && (h == 0 || !s.twin.lost) && (!(pairState s h == 1 || pairState s h == 2) || decide (jsn ≤ fget s F.TWN_HS_JACKED_JSN h))

/-- Records that may now be shown reach their rings, in order. -/
def flushRecs (s : State) (h : Nat) : State :=
  let l := (tw s h).recs
  let go := l.takeWhile (fun r => recReady s h r.jsn)
  let s := twPut s h { tw s h with recs := l.drop go.length }
  go.foldl (fun s r => recordOut s r.ring r.bytes) s

/-- A completion record of a context of half `h`: shown at once or held (R553, R645). -/
def record (s : State) (h jsn ring : Nat) (bs : List Byte) : State :=
  flushRecs (twPut s h { tw s h with recs := (tw s h).recs ++ [{ jsn := jsn, ring := ring, bytes := bs }] }) h

end Sys2Proof.Machine
end

