-- ==== Sys2Proof/Machine/Journal.lean ====
section
/-!
DEFINITION. The journal to the twin (R548-R555), and the region table's changes (R446, R474).
-/

namespace Sys2Proof.Machine

/-! ### Sending on a twin link (R545, R550) -/

/-- A half is fenced (R572). -/
def fenced (s : State) (h : Nat) : Bool := if h = 0 then fbit s F.TWN_LEAD_FENCED_A 0 else fbit s F.TWN_LEAD_FENCED_B 0

/-- The host reaches the register space: configuration requests succeed (R617), and half A is not fenced (R574). -/
def hostReach (s : State) : Bool := s.host.cfg == 2 && !fenced s 0

/-- A write of the host at a BAR0 offset. Until PHASE reads READY only the GLB and HST blocks take writes, and a write to another
block sets EARLY_WRITE (R623). -/
def hostGate (s : State) (off : Nat) (f : State → State) : State :=
  if !hostReach s then s
  else if fget s F.GLB_STAT_PHASE 0 = 12 ∨ off < 0x200000 then f s
  else fset s F.GLB_STAT_EARLY_WRITE 0

/-- A write of the host to instance `i` of a register. -/
def regGate (s : State) (r : Reg) (i : Nat) (f : State → State) : State := hostGate s (r.offset i) f

/-- A frame leaves on twin link `h`, with the next JSN expected from the partner in ACK (R551); nothing leaves while TWN_CTL.EN
is 0 or every output is stopped. -/
def twinSend (s : State) (h : Nat) (f : TwinFrame) : State :=
  if !fbit s F.TWN_CTL_EN 0 || s.pins.outputsStopped then s
  else
    let x := tw s h
    let f := { f with node := fget s F.FAB_NODE_NODE 0, ack := x.expect.getD 0 }
    let s := twPut s h { x with unacked := 0 }
    { s with out := { s.out with twin := s.out.twin ++ [(h, f)] } }

/-- JOURNAL frames of up to 128 entries (R550). -/
def sendEnts (s : State) (h : Nat) : Nat → List JEntry → State
  | 0, _ => s
  | n + 1, es =>
    match es with
    | [] => s
    | e :: _ => sendEnts (twinSend s h { typ := 2, jsn := e.jsn, ents := es.take 128 }) h n (es.drop 128)

/-! ### Appending (R548) -/

/-- Entries numbered on from a JSN, CONT set on every one but the last (R548). -/
def numberEnts (jsn : Nat) : List JEntry → List JEntry
  | [] => []
  | [e] => [{ e with jsn := jsn, cont := false }]
  | e :: r => { e with jsn := jsn, cont := true } :: numberEnts (jsn + 1) r

/-- One change journaled by half `h` as one entry or one group, and sent while the half is SYNCING or PAIRED. While the
half is UNPAIRED nothing is held, since no twin acknowledges and a pairing starts with a snapshot (log entry 13); while it
is LOST a full buffer is discarded (R555). -/
def journal (s : State) (h : Nat) (es : List JEntry) : State :=
  if es.isEmpty then s
  else
    let x := tw s h
    let l := numberEnts (x.jsn + 1) es
    let x := { x with jsn := x.jsn + es.length }
    let p := pairState s h
    if p == 0 then twPut s h x
    else if p == 3 && decide (1048576 < x.jour.length + es.length) then
      fset (twPut s h { x with jour := [] }) F.TWN_ERR_SYNC 0
    else
      let s := twPut s h { x with jour := x.jour ++ l }
      if p == 3 then s else fput (sendEnts s h l.length l) F.TWN_HS_JSENT_JSN h x.jsn

/-! ### Region table (R446) -/

/-- Address of entry `i` of the region table. -/
def regionAddr (s : State) (i : Nat) : Nat := fget s F.FAB_REGION_BASE_BASE 0 * 65536 + 32 * i

/-- Entry `i` of the region table as a 256-bit number. -/
def region (s : State) (i : Nat) : Nat := memNat s (regionAddr s i) 32

/-- A changed entry, which half A's journal carries (R548). -/
def setRegion (s : State) (i v : Nat) : State :=
  journal (memPut s (regionAddr s i) 32 v) 0 [{ typ := 6, count := 1, obj := i, data := v % 2 ^ 256 }]

/-- Indexes of region-table entries that are not all zero. -/
def regionIdxs (s : State) : List Nat :=
  let b := regionAddr s 0
  let l := s.mem.filter (fun e => decide (b ≤ e.1) && decide (e.1 < b + 65536 * 32) && (e.1 - b) % 32 == 0)
  l.map (fun e => (e.1 - b) / 32)

/-- A region entry is a SPAN bound to context `c` with incarnation `inc`. -/
def regionOf (v c inc : Nat) : Bool := bits v 5 1 == 1 && bits v 64 18 == c && bits v 82 16 == inc

/-- Every SPAN region bound to a context becomes REVOKING (R474). -/
def revokeSpans (s : State) (c inc : Nat) : State :=
  (regionIdxs s).foldl (fun s i =>
    let v := region s i
    if bits v 0 2 == 1 && regionOf v c inc then setRegion s i (setBits v 0 2 2) else s) s

/-- A revocation of a region bound to the context is not complete (R474). -/
def revoking (s : State) (c inc : Nat) : Bool :=
  (regionIdxs s).any (fun i => bits (region s i) 0 2 == 2 && regionOf (region s i) c inc)

end Sys2Proof.Machine
end

