-- ==== Sys2Proof/Machine/Ctx.lean ====
section
/-!
DEFINITION. Contexts: changing a descriptor as one journaled change (R176, R183), the token log (R178-R181, R696), entry
into DRAINING with its completion record (R185, R328), and the transitions other units cause.
-/

namespace Sys2Proof.Machine

def ctxDefault : Nat → Ctx := fun _ => {}

def cx (s : State) (c : Nat) : Ctx := nget ctxDefault s.ctx c

/-- A context replaced, with no journal entry: for what the device keeps outside the descriptor. -/
def cxPut (s : State) (c : Nat) (x : Ctx) : State := { s with ctx := nput ctxDefault s.ctx c x }

def cxUpd (s : State) (c : Nat) (f : Ctx → Ctx) : State := cxPut s c (f (cx s c))

/-- Half of a context (R31). -/
def ctxHalf (c : Nat) : Nat := c / 131072 % 2

def cstate (s : State) (c : Nat) : Nat := dg (cx s c).d D.STATE

/-- Contexts of half `h` that are listed, in ascending order. -/
def ctxsOf (s : State) (h : Nat) : List Nat := (s.ctx.filter (fun e => ctxHalf e.1 == h)).map (·.1)

/-- Contexts of half `h` in state `st`. -/
def ctxCount (s : State) (h st : Nat) : Nat :=
  let n := ((ctxsOf s h).filter (fun c => cstate s c == st)).length
  if st = 0 then 131072 - ((ctxsOf s h).filter (fun c => cstate s c != 0)).length else n

/-! ### Journal entries of a descriptor -/

/-- Numbers of the words in which two descriptors differ. -/
def changedWords (d e : Desc) : List Nat := (List.range 16).filter (fun n => dword d n != dword e n)

/-- Words put together lowest first. -/
def packWords : List Word → Nat
  | [] => 0
  | w :: r => w.toNat + 2 ^ 64 * packWords r

/-- A DESC entry for at most five words. -/
def descEnt (c : Nat) (d : Desc) (ws : List Nat) : JEntry :=
  { typ := 1, count := ws.length, obj := c, incarn := dg d D.INCARNATION,
    arg := ws.foldl (fun m n => m + 2 ^ n) 0, data := packWords (ws.map (dword d)) }

/-- DESC entries for some words, five at a time. -/
def descEnts (c : Nat) (d : Desc) (ws : List Nat) : List JEntry :=
  let parts := [ws.take 5, (ws.drop 5).take 5, (ws.drop 10).take 5, ws.drop 15]
  (parts.filter (fun l => !l.isEmpty)).map (descEnt c d)

/-- Address of the progress word of a context (R268). -/
def progAddr (s : State) (c : Nat) : Nat :=
  fget s F.BNK_PROG_BASE_BASE (ctxHalf c) * 65536 + 8 * (c % 131072)

/-- The GATHER or TRANSFER in progress is one of context `c` (R352). -/
def namesRun (s : State) (c : Nat) : Bool := match s.tie.run with
  | some k => (bget k.cmd1 60 4 == 4 || bget k.cmd1 60 4 == 5) && bget k.cmd0 0 18 == c
  | none => false

/-- One indivisible change of a context: descriptor, what goes with it, and one journal group (R176, R183, R548). The
entry time of a state is kept (R357). A CACHE part that enters READY gets its progress word (R269). -/
def cxChange (s : State) (c : Nat) (x : Ctx) (extra : List JEntry) : State :=
  let old := (cx s c).d
  let moved := dg old D.STATE != dg x.d D.STATE
  let x := if moved then { x with entered := timeNs s } else x
  let s := { s with tie := { s.tie with left := s.tie.left || moved && dg old D.STATE == stPREEMPTED && namesRun s c } }
  let s := if moved && dg x.d D.STATE == stREADY && dg x.d D.KIND == 2 then
      memPut s (progAddr s c) 8 (dg x.d D.KV_VALID * 256)
    else s
  journal (cxPut s c x) (ctxHalf c) (extra ++ descEnts c x.d (changedWords old x.d))

/-- A change of the descriptor alone. -/
def dmod (s : State) (c : Nat) (f : Desc → Desc) : State := cxChange s c { cx s c with d := f (cx s c).d } []

/-! ### Token log -/

/-- Address of the log-directory entry of segment `k` (R179). -/
def logDirAddr (d : Desc) (k : Nat) : Nat := dg d D.LOG_DIR + 8 * k

/-- Address of the log word of position `p`; 0 when its segment is not allocated. -/
def logAddr (s : State) (d : Desc) (p : Nat) : Nat :=
  let seg := memNat s (logDirAddr d (p / 16384)) 8
  if seg = 0 then 0 else seg + 4 * (p % 16384)

/-- The log word of position `p`: a kept word while its line is fetched (R696). -/
def logWord (s : State) (c p : Nat) : BitVec 32 :=
  match nfind (cx s c).kept p with
  | some w => w
  | none =>
    let a := logAddr s (cx s c).d p
    if a = 0 then 0 else BitVec.ofNat 32 (memNat s a 4)

/-- The line of position `p`, or the directory line that leads to it, fails its check. -/
def logBad (s : State) (d : Desc) (p : Nat) : Option Nat :=
  let e := logDirAddr d (p / 16384)
  if !lineOk s e then some (e / 64 * 64)
  else
    let a := logAddr s d p
    if a ≠ 0 ∧ !lineOk s a then some (a / 64 * 64) else none

/-- A failed log line is reported and asked of the twin's mirror (R181, R556, R581). -/
def logFetch (s : State) (c p addr : Nat) : State :=
  let line := p / 16
  if s.twin.fetches.any (fun f => f.2.cid == c && f.2.inc == dg (cx s c).d D.INCARNATION && f.2.line == line) then s
  else
    let h := ctxHalf c
    let s := lineFailureOf (fset s F.CTX_ERR_LOG_CHECK h) 9 1 addr c (dg (cx s c).d D.INCARNATION)
    let s := if fenced s h then s
      else twinSend s h { typ := 6, jsn := line, arg := c, incarn := dg (cx s c).d D.INCARNATION }
    { s with twin := { s.twin with fetches := nset s.twin.fetches s.fresh { cid := c, inc := dg (cx s c).d D.INCARNATION, line := line } }, fresh := s.fresh + 1 }

def poolOf (s : State) (h : Nat) : Pools := nget (fun _ => {}) s.pools h

def poolPut (s : State) (h : Nat) (x : Pools) : State := { s with pools := nput (fun _ => {}) s.pools h x }

/-- The lowest number from `k` on that a list does not hold. -/
def lowestOut (l : List Nat) : Nat → Nat → Nat
  | 0, k => k
  | n + 1, k => if l.contains k then lowestOut l n (k + 1) else k

/-- A number below `size` that a list does not hold: the device's own choice (log entry 7). -/
def pickOut (l : List Nat) (size cand : Nat) : Nat :=
  let c := cand % max size 1
  if l.contains c then lowestOut l l.length 0 else c

/-- The segment of position `p` is allocated from the reserved ones (R177, R179). -/
def logSegment (s : State) (c p : Nat) : State :=
  let d := (cx s c).d
  let h := ctxHalf c
  let e := logDirAddr d (p / 16384)
  if memNat s e 8 ≠ 0 then s
  else
    let q := poolOf s h
    let k := pickOut (q.segs.map (·.1)) (fget s F.CTX_POOL_SIZE_LOG h) (choiceOf s 3)
    let s := bump (poolPut s h { q with segs := nset q.segs k c })
    memPut s e 8 (fget s F.CTX_LOG_POOL_BASE h * 65536 + 65536 * k)

/-- One log word is written at position `p`: into its line, or kept while the line is bad (R180, R696). -/
def logWrite (s : State) (c p : Nat) (w : BitVec 32) : State :=
  let d := (cx s c).d
  let keep (s : State) := cxUpd s c (fun x => { x with kept := nset x.kept p w })
  match logBad s d p with
  | some a => logFetch (keep s) c p a
  | none =>
    let s := logSegment s c p
    let a := logAddr s d p
    memPut s a 4 w.toNat

/-- Log words written from position `p` on. -/
def logWrites (s : State) (c p : Nat) : List (BitVec 32) → State
  | [] => s
  | w :: r => logWrites (logWrite s c p w) c (p + 1) r

/-- LOG entries for words from position `p` on, ten at a time (R548). -/
def logEnts (c inc p : Nat) : Nat → List (BitVec 32) → List JEntry
  | 0, _ => []
  | n + 1, ws =>
    if ws.isEmpty then []
    else { typ := 2, count := (ws.take 10).length, obj := c, incarn := inc, arg := p,
           data := (ws.take 10).foldr (fun w m => w.toNat + 2 ^ 32 * m) 0 } :: logEnts c inc (p + 10) n (ws.drop 10)

/-! ### Entry into DRAINING (R185, R328) -/

/-- How a context ends. -/
structure Ending where
  status : Nat := 0
  /-- CTX.EMIT reason and stop sequence of the final token -/
  reason : Nat := 0
  seq : Nat := 0
  code : Nat := 0
  step : Nat := 0
  moved : Bool := false
  deriving DecidableEq, Repr

/-- The 60 bytes of a completion record (R328). -/
def recordBytes (s : State) (c : Nat) (d : Desc) (e : Ending) : List Byte :=
  let len := dg d D.LENGTH
  let last := if len = 0 then 0 else (logWord s c (len - 1)).toNat
  toBytes 4 c ++ toBytes 2 (dg d D.INCARNATION) ++ toBytes 1 e.status ++
    toBytes 1 (bits last 21 1 + 2 * dg d D.DL_PASSED + 4 * (dg d D.KIND % 4) + 16 * b2n e.moved) ++
    toBytes 8 (dg d D.TAG) ++ toBytes 4 len ++ toBytes 4 (dg d D.GENERATED) ++ toBytes 4 (dg d D.KV_VALID) ++
    toBytes 4 (dg d D.SHARED_LEN) ++ toBytes 1 e.reason ++ toBytes 1 e.seq ++ toBytes 1 (dg d D.TENANT) ++
    toBytes 1 (dg d D.PARTITION) ++ toBytes 4 last ++ toBytes 8 e.step ++ toBytes 8 (timeNs s) ++
    toBytes 1 e.code ++ toBytes 1 (dg d D.HOLD_REASON) ++ toBytes 2 0

/-- The completion counter of a status (SCH_DONE0, SCH_DONE1). -/
def doneCount (s : State) (status : Nat) : State :=
  match status with
  | 1 => fadd1 s F.SCH_DONE0_FINISHED_STOP 0 1
  | 2 => fadd1 s F.SCH_DONE0_FINISHED_LENGTH 0 1
  | 3 => fadd1 s F.SCH_DONE0_CANCELLED 0 1
  | 4 => fadd1 s F.SCH_DONE0_DEADLINE 0 1
  | 5 => fadd1 s F.SCH_DONE1_EVICTED 0 1
  | _ => fadd1 s F.SCH_DONE1_FAULTED 0 1

/-- Frame moves and swaps for a context are abandoned (R190): a page move in progress runs to its end. -/
def abandon (x : Ctx) : Ctx :=
  { x with swap := 0, attach := 0, dec := none, offer := none, d := ds x.d D.SWAP_BUSY 0 }

/-- A context enters DRAINING: one change of the descriptor `x.d`, one completion record, its SPAN regions revoked, a
publication started when PUBLISH_CLOSE asks for one (R185, R190, R208, R474). -/
def drain (s : State) (c : Nat) (x : Ctx) (e : Ending) (extra : List JEntry) : State :=
  let x := abandon x
  let d := ds (ds x.d D.STATE stDRAINING) D.STATUS e.status
  let pub := if db d D.PUBLISH_CLOSE && (e.status == endSTOP || e.status == endLENGTH) && dg d D.NAMESPACE != 0 then 2 else x.pub
  let s := cxChange s c { x with d := d, pub := pub } extra
  let s := if x.norec then s
    else doneCount (record s (ctxHalf c) (tw s (ctxHalf c)).jsn x.cring (recordBytes s c d e)) e.status
  revokeSpans s c (dg d D.INCARNATION)

/-- A context ends outside a commit (transitions 17-20). -/
def endNow (s : State) (c : Nat) (e : Ending) : State := drain s c (cx s c) e []

/-- A log that no good copy repairs, or a failed descriptor word (R181, R581): transition 20 at once, or the bad-log
mark in DECODE. -/
def badLogAt (s : State) (c step : Nat) : State :=
  let st := cstate s c
  if st = stDECODE then cxUpd s c (fun x => { x with badLog := true })
  else if st = stFREE ∨ st = stDRAINING ∨ st = stCLOSED then s
  else endNow s c { status := endFAULTED, code := 0x10, step := step }

def badLog (s : State) (c : Nat) : State := badLogAt s c 0

/-- A descriptor word with wrong parity is found at its next read (R581); `step` is the STEP of a record that this ends with (R328). -/
def descReadAt (s : State) (c step : Nat) : State :=
  if s.descBad.any (fun k => k / 32 == c) then
    badLogAt { s with descBad := s.descBad.filter (fun k => k / 32 != c) } c step
  else s

def descRead (s : State) (c : Nat) : State := descReadAt s c 0

/-- The request names a context (R175): its incarnation is the descriptor's and it is not FREE. -/
def named (s : State) (c inc : Nat) : Bool := cstate s c != stFREE && dg (cx s c).d D.INCARNATION == inc

/-! ### Invalid KV (R198) -/

/-- KV of positions `a` to `b - 1` of a context is invalid: the hole widens, and transition 15 or PEND.KV_BAD follows. -/
def kvInvalid (s : State) (c a b : Nat) (extra : List JEntry) : State :=
  let x := cx s c
  let d := widen x.d a (min b (dg x.d D.KV_VALID))
  let st := dg d D.STATE
  if st = stDECODE then cxChange s c { x with d := ds d D.KV_BAD 1 } extra
  else if st = stPREFILL ∨ st = stREADY then
    cxChange s c { x with d := ds (ds d D.RESUME st) D.STATE stREBUILD } extra
  else if st = stPREEMPTED then cxChange s c { x with d := ds d D.STATE stREBUILD } extra
  else if st = stSWAPPED ∨ st = stREBUILD then cxChange s c { x with d := d } extra
  else cxChange s c x extra

/-! ### Roles and PREFILL -> READY (R36, R184) -/

/-- The role decodes this context (R184). -/
def decodes (s : State) (d : Desc) : Bool := dg d D.KIND == 0 && (standalone s || role s == 1)

/-- The conditions of transition 5 hold (R184). -/
def prefillDone (s : State) (d : Desc) : Bool :=
  dg d D.STATE == stPREFILL && dg d D.KV_VALID == dg d D.PROMPT_LEN && !dHole d && db d D.IMPORT_DONE &&
    (!decodes s d || db d D.HIDDEN_DONE)

end Sys2Proof.Machine
end

