-- ==== Sys2Proof/Machine/Span.lean ====
section
/-!
DEFINITION. Spans: page-table entries (R193), the share table (R196), backing a page (R195, R226-R228, R692), copy on
write (R197), releasing what a context holds (transition 21), and poisoned frames (R582, R583).
-/

namespace Sys2Proof.Machine

/-! ### Page-table entries -/

def pV (e : Word) : Bool := bbit e 63
def pW (e : Word) : Bool := bbit e 62
def pTier (e : Word) : Nat := bget e 60 2
def pLost (e : Word) : Bool := bbit e 59
def pFmt (e : Word) : Nat := bget e 56 3
def pSide (e : Word) : Nat := bget e 32 24
def pFrame (e : Word) : Nat := bget e 0 32

/-- A page-table entry (R193). -/
def pte (v w : Bool) (tier : Nat) (lost : Bool) (fmt side frame : Nat) : Word :=
  w64 (b2n v * 2 ^ 63 + b2n w * 2 ^ 62 + tier % 4 * 2 ^ 60 + b2n lost * 2 ^ 59 + fmt % 8 * 2 ^ 56 + side % 2 ^ 24 * 2 ^ 32 +
    frame % 2 ^ 32)

/-- Frame key of an entry. -/
def pKey (e : Word) : Nat := pTier e * 2 ^ 32 + pFrame e

/-- Entry of span page `v`. -/
def ptGet (s : State) (d : Desc) (v : Nat) : Word := w64 (memNat s (pteAddr d v) 8)

/-- A PTE journal entry (R548). -/
def pteEnt (c : Nat) (d : Desc) (v : Nat) (e : Word) : JEntry :=
  { typ := 3, count := 1, obj := c, incarn := dg d D.INCARNATION, arg := v, data := e.toNat }

/-- An entry written as one 8-byte write and journaled (R176, R346). -/
def ptPut (s : State) (c v : Nat) (e : Word) : State :=
  let d := (cx s c).d
  journal (memPut s (pteAddr d v) 8 e.toNat) (ctxHalf c) [pteEnt c d v e]

/-- Span page of stream `st`, column `col` (R193). -/
def pageOf (d : Desc) (st col : Nat) : Nat := st * dg d D.PPS + col

/-- Positions of a span page that lie below KV_VALID: first and end. -/
def pagePos (d : Desc) (v : Nat) : Nat × Nat :=
  let c := v % max (dg d D.PPS) 1
  (c * dSlots d, (c + 1) * dSlots d)

/-- The page-table line of page `v`, when it fails its check, is rewritten with lost entries, and their positions join
the hole (R581). -/
def ptCheck (s : State) (c v : Nat) : State :=
  let d := (cx s c).d
  let a := pteAddr d v
  if lineOk s a then s
  else
    let s := lineFailure s 10 1 (a / 64 * 64)
    let v0 := v / 8 * 8
    let vs := (List.range 8).map (fun i => v0 + i)
    let e := pte false false 0 true (dg d D.FMT) 0 0
    let s := memWrite s (a / 64 * 64) ((List.range 8).flatMap (fun _ => toBytes 8 e.toNat))
    vs.foldl (fun s w =>
      if w < dPages d then kvInvalid s c (pagePos d w).1 (pagePos d w).2 [pteEnt c d w e] else s) s

/-! ### Share table and release of frames (R196) -/

/-- A share-table line that fails its check as an entry of it is used is reported (R581). -/
def shareCheck (s : State) (k : Nat) : State := if shareOk s k then s else lineFailure s 10 1 (shareAddr s k / 64 * 64)

/-- COUNT of a frame grows by one. -/
def addShare (s0 : State) (k : Nat) : State :=
  let s := shareCheck s0 k
  setShare s k { share s k with count := (share s k).count + 1 }

/-- The start stamps of the items, strokes and transfers in progress. -/
def activeStamps (s : State) : List Nat :=
  (s.til.filter (fun e => e.2.item.isSome)).map (fun e => e.2.start) ++
  s.bnk.stk.flatMap (fun e => match e.2.run with
    | some q => [q.stamp]
    | none => []) ++
  s.fab.ops.map (fun e => e.2.stamp) ++ (s.fab.rx.filter (fun e => !e.2.done)).map (fun e => e.2.stamp)

/-- A frame's wait is over: the old data of a flash frame is discarded (R346, R409). -/
def frameLeft (s : State) (k : Nat) : State :=
  if addrTier (keyAddr k) = 2 then flsDiscard (zeroFrame s k) (k % 2 ^ 32) else s

/-- A frame is given up: it returns to the pool once what started before has ended (R196); a poisoned frame waits for
its test (R585). -/
def giveFrame (s : State) (k : Nat) : State :=
  if (share s k).poison && addrTier (keyAddr k) == 0 then setUse s k 4
  else
    let s := setUse s k 0
    if (activeStamps s).isEmpty then frameLeft s k
    else { s with tie := { s.tie with deferred := s.tie.deferred ++ [(k, s.stamp)] }, stamp := s.stamp + 1 }

/-- COUNT of a stack frame falls by one; at 0 the frame is given up (R196). -/
def dropShare (s0 : State) (k : Nat) : State :=
  let s := shareCheck s0 k
  let n := (share s k).count - 1
  let s := setShare s k { share s k with count := n }
  if n = 0 then giveFrame s k else s

/-- Frames whose wait is over return to the free pool (R196, R346). -/
def reap (s : State) : State :=
  let act := activeStamps s
  let wait (e : Nat × Nat) : Bool := act.any (fun a => decide (a ≤ e.2))
  let gone := s.tie.deferred.filter (fun e => !wait e)
  let s1 := { s with tie := { s.tie with
    deferred := s.tie.deferred.filter wait
    fwd := s.tie.fwd.filter (fun f => !gone.any (fun e => e.1 == f.1)) } }
  gone.foldl (fun s e => frameLeft s e.1) s1

/-- Bytes of a range become 0, each line with its own check. -/
def zeroRange (s : State) (a n : Nat) : State :=
  { s with
    mem := s.mem.filter (fun e => !(decide (a ≤ e.1) && decide (e.1 < a + n)))
    syn := s.syn.filter (fun e => !(decide (a / 64 ≤ e.1) && decide (e.1 ≤ (a + n - 1) / 64))) }

/-! ### Page-table pool: blocks and page-set records (R177) -/

/-- A run of free 64-byte units: the device's own choice `cand` where it is free (log entry 7), else one at the start of the
pool or after a used run. -/
def fitUnits (l : NMap Nat) (size n cand : Nat) : Option Nat :=
  let free (a : Nat) : Bool := decide (a + n ≤ size) && l.all (fun e => decide (e.1 + e.2 ≤ a) || decide (a + n ≤ e.1))
  ((cand % max size 1 :: 0 :: l.map (fun e => e.1 + e.2)).filter free).head?

/-- `n` bytes of the page-table pool of a half, zero. -/
def takePt (s : State) (h n : Nat) : Option (Nat × State) :=
  let q := poolOf s h
  (fitUnits q.pt (fget s F.CTX_POOL_SIZE_PT h * 1024) (cdiv n 64) (choiceOf s 15)).map (fun u =>
    let a := fget s F.CTX_PT_POOL_BASE h * 65536 + 64 * u
    (a, zeroRange (poolPut (bump s) h { q with pt := nset q.pt u (cdiv n 64) }) a (cdiv n 64 * 64)))

/-- A block of the page-table pool is released. -/
def dropPt (s : State) (h a : Nat) : State :=
  let q := poolOf s h
  poolPut s h { q with pt := nerase q.pt ((a - fget s F.CTX_PT_POOL_BASE h * 65536) / 64) }

/-! ### Choosing a frame (R226-R228, R692) -/

/-- The lowest-numbered free frame of a stack. -/
def lowFree (s : State) (st : Nat) : Option Nat :=
  if stackFree s st = 0 then none
  else firstFree s (st * 2 ^ 21 + fget s F.TIE_STK_FIXED_END st)
    (s.tie.used.length + s.tie.deferred.length + s.tie.share.length + 1)

/-- Stacks of a half. -/
def halfStacks (h : Nat) : List Nat := [4 * h, 4 * h + 1, 4 * h + 2, 4 * h + 3]

/-- A frame that neither R226 nor R228 places (R692). -/
def anyFrame (s : State) (h : Nat) : Option Nat := (mostFree s (halfStacks h)).bind (lowFree s)

/-- Entries of one stream that are backed in the stacks: column and frame. -/
def backedCols (s : State) (d : Desc) (st : Nat) : List (Nat × Nat) :=
  (List.range (dg d D.PPS)).filterMap (fun c =>
    let e := ptGet s d (pageOf d st c)
    if pV e && pTier e == 0 then some (c, pFrame e) else none)

/-- The stack of the backed pages of a stream pair (R226). -/
def pairStack (s : State) (d : Desc) (st : Nat) : Option Nat :=
  let a := backedCols s d (st / 2 * 2)
  let b := backedCols s d (st / 2 * 2 + 1)
  ((a ++ b).head?).map (fun e => e.2 / 2 ^ 21)

/-- A frame in stack `k` for column `col` of a stream: its place in the row group of the stream's other columns, or the lowest free
one (R228). -/
def placeIn (s : State) (d : Desc) (st col k : Nat) : Option Nat :=
  let near := (backedCols s d st).find? (fun e => e.1 != col && e.1 / 16 == col / 16 && e.2 / 2 ^ 21 == k)
  match near with
  | some (_, f) =>
    let want := k * 2 ^ 21 + f % 2 ^ 21 / 16 * 16 + col % 16
    if frameFree s want then some want else lowFree s k
  | none => lowFree s k

/-- The frame of a new page of a context (R226-R228, R692), and whether the stream pair is split by it (R227). -/
def pickPage (s : State) (c : Nat) (d : Desc) (st col : Nat) : Option (Nat × Bool) :=
  match pairStack s d st with
  | none => ((mostFree s (halfStacks (ctxHalf c))).bind (placeIn s d st col)).map (fun k => (k, false))
  | some k =>
    match placeIn s d st col k with
    | some f => some (f, false)
    | none => ((mostFree s ((halfStacks (ctxHalf c)).filter (· != k))).bind (placeIn s d st col)).map (fun f => (f, true))

/-! ### Side records (R101, R177, R193) -/

/-- Half of the side pool that holds the record of an entry of context `c` (R193). -/
def sideHalf (c : Nat) (e : Word) : Nat := if pTier e = 0 then pFrame e / 2 ^ 21 / 4 % 2 else ctxHalf c

def sideAddr (s : State) (h i : Nat) : Nat := fget s F.CTX_SIDE_POOL_BASE h * 65536 + 1024 * i

/-- A free side record of a half, its line 0 zero (R195). -/
def takeSide (s : State) (h : Nat) : Option (Nat × State) :=
  let q := poolOf s h
  let n := fget s F.CTX_POOL_SIZE_SIDE h
  if n ≤ q.side.length then none
  else
    let i := pickOut q.side n (choiceOf s 4)
    let s := bump (poolPut s h { q with side := q.side ++ [i] })
    some (i, memWrite s (sideAddr s h i) (List.replicate 64 0))

def dropSide (s : State) (h i : Nat) : State :=
  let q := poolOf s h
  poolPut s h { q with side := q.side.filter (· != i) }

/-! ### Backing (R195, R215) -/

/-- What an entry of a context (or of a page set, with any context of its half) holds is released: its reference to the
frame, and the side record with the last reference. -/
def releaseEntry (s : State) (c : Nat) (e : Word) : State :=
  if !pV e then s
  else
    let last := pTier e != 0 || decide ((share s (pKey e)).count ≤ 1)
    let s := if pFmt e = 2 && last then dropSide s (sideHalf c e) (pSide e) else s
    if pTier e = 0 then dropShare s (pKey e) else giveFrame s (pKey e)

/-- A page is backed with a new frame, COUNT 1, W = 1 (R195). A LOST page's old reference is released (R198). Nothing is
backed, and the error is recorded, when no frame or no side record is free (R215). -/
def backPage (s : State) (c v : Nat) : Option State × State :=
  let d := (cx s c).d
  let st := v / max (dg d D.PPS) 1
  let col := v % max (dg d D.PPS) 1
  let old := ptGet s d v
  match pickPage s c d st col with
  | none => (none, fset s F.CTX_ERR_FRAME_FULL (ctxHalf c))
  | some (k, split) =>
    let kv4 := dg d D.FMT == 2
    let h := k / 2 ^ 21 / 4 % 2
    let side := if kv4 then takeSide s h else some (0, s)
    match side with
    | none => (none, fset s F.CTX_ERR_SIDE_FULL (ctxHalf c))
    | some (i, s) =>
      let s := fsetIf s split F.BNK_ERR_SPLIT 0
      let s := releaseEntry s c old
      let s := setUse (setShare s k { share s k with count := 1 }) k 1
      let s := ptPut s c v (pte true true 0 false (dg d D.FMT) i k)
      (some s, s)

/-- Slots of the old page that a copy on write copies (R197). -/
def cowSlots (d : Desc) (v : Nat) : Nat :=
  let a := (pagePos d v).1
  min (dg d D.KV_VALID - a) (dSlots d)

/-- A position may be written (R194): at or above KV_VALID, or in the hole where its page is not backed or is LOST. -/
def mayWrite (d : Desc) (e : Word) (pos : Nat) : Bool :=
  decide (dg d D.KV_VALID ≤ pos) ||
    (decide (dg d D.HOLE_START ≤ pos) && decide (pos < dg d D.HOLE_END) && (!pV e || pLost e))

/-- Position of a byte offset in a page. -/
def posOf (d : Desc) (v off : Nat) : Nat := (pagePos d v).1 + off / max (dSlotBytes d) 1

/-- The frame of a backed page is poisoned, or its stack is retired (R583, R587). -/
def pagePoison (s : State) (e : Word) : Bool :=
  pTier e == 0 && ((share s (pKey e)).poison || stackRetired s (pFrame e / 2 ^ 21))

/-- A KV page of a context is found bad: POISON of its frame, LOST in the context's entry, R198 (R582, R583). -/
def pageLost (s : State) (c v : Nat) : State :=
  let d := (cx s c).d
  let e := ptGet s d v
  let s := if pTier e == 0 && !(share s (pKey e)).poison && !stackRetired s (pFrame e / 2 ^ 21) then
      let s := setShare s (pKey e) { share s (pKey e) with poison := true }
      fadd1 s F.INT_POISON_POISONED 0 1
    else s
  let e' : Word := bset e 59 1 1
  let s := memPut s (pteAddr d v) 8 e'.toNat
  kvInvalid s c (pagePos d v).1 (pagePos d v).2 [pteEnt c d v e']

/-! ### Closing (transitions 21 and 23) -/

/-- Every page, log segment, page-table block and auxiliary frame of a context is released (R196). -/
def releaseAll (s : State) (c : Nat) : State :=
  let d := (cx s c).d
  let h := ctxHalf c
  let lo := pteAddr d 0
  let hi := pteAddr d (dPages d)
  let vs := (s.mem.filter (fun e => decide (lo ≤ e.1) && decide (e.1 < hi))).map (fun e => (e.1 - lo) / 8)
  let vs := vs.foldl (fun l v => if l.head? = some v then l else v :: l) []
  let s := vs.foldl (fun s v =>
    let e := ptGet s d v
    if pV e then memPut (releaseEntry s c e) (pteAddr d v) 8 0 else s) s
  let q := poolOf s h
  let s := dropPt (poolPut s h { q with segs := q.segs.filter (fun e => e.2 != c) }) h (dg d D.SPAN_PT)
  if dg d D.AUX = 0 then s else giveFrame s (addrKey (dg d D.AUX))

end Sys2Proof.Machine
end

