-- ==== Sys2Proof/Machine/Prefix.lean ====
section
/-!
DEFINITION. The prefix tree (R201-R213): nodes, the hash index, attachment, publication, eviction and invalidation.
-/

namespace Sys2Proof.Machine

/-! ### Hashes (R201) -/

def mix (x : Word) : Word :=
  let x := x + 0x9E3779B97F4A7C15
  let x := (x ^^^ (x >>> 30)) * 0xBF58476D1CE4E5B9
  let x := (x ^^^ (x >>> 27)) * 0x94D049BB133111EB
  x ^^^ (x >>> 31)

/-- One block's 32 tokens mixed in, token `i` on. -/
def mixTokens (h : Word) (i : Nat) : List Nat → Word
  | [] => h
  | t :: r => mixTokens (mix (h ^^^ w64 (t ||| i * 2 ^ 20))) (i + 1) r

/-- What a block is found by: the running hash, 1 in place of 0. -/
def hashOf (h : Word) : Word := if h = 0 then 1 else h

/-! ### Nodes (R202) -/

/-- The index that names no node. -/
def noNode : Nat := 2 ^ 22

def nodeAddr (s : State) (i : Nat) : Nat := fget s F.PFX_NODE_POOL_BASE (i / 2 ^ 21) * 65536 + 128 * (i % 2 ^ 21)

/-- A node as a 1,024-bit number. -/
def node (s : State) (i : Nat) : Nat := memNat s (nodeAddr s i) 128

def setNode (s : State) (i v : Nat) : State := memPut s (nodeAddr s i) 128 v

def nHash (v : Nat) : Nat := bits v 0 64
def nParent (v : Nat) : Nat := bits v 64 23
def nSetNode (v : Nat) : Nat := bits v 96 23
def nHasSet (v : Nat) : Bool := bits v 119 1 == 1
def nStale (v : Nat) : Bool := bits v 120 1 == 1
def nValid (v : Nat) : Bool := bits v 121 1 == 1
def nNamespace (v : Nat) : Nat := bits v 128 32
def nChildren (v : Nat) : Nat := bits v 160 32
def nLastUse (v : Nat) : Nat := bits v 192 32
def nDepth (v : Nat) : Nat := bits v 224 15
def nSeal (v : Nat) : Nat := bits v 240 13
def nSetAddr (v : Nat) : Nat := bits v 256 64
def nTokens (v : Nat) : Nat := bits v 320 640

/-- Global time in ms, low 32 bits. -/
def useNow (s : State) : Nat := timeMs s % 2 ^ 32

def packTokens : List Nat → Nat
  | [] => 0
  | t :: r => t % 2 ^ 20 + 2 ^ 20 * packTokens r

/-- A node is changed. -/
def nodeMod (s : State) (i : Nat) (f : Nat → Nat) : State := setNode s i (f (node s i))

/-- A node that fails its check loses VALID; its references stay counted (R581). -/
def nodeCheck (s : State) (i : Nat) : State :=
  match badLineIn s (nodeAddr s i) 128 with
  | none => s
  | some a =>
    let h := i / 2 ^ 21
    let s := nodeMod (lineFailure s 10 1 a) i (fun v => setBits v 121 1 0)
    let q := poolOf s h
    fput (poolPut s h { q with nodes := q.nodes.filter (· != i) }) F.PFX_USED_NODES_USED h (q.nodes.filter (· != i)).length

/-! ### The hash index (R203, R204) -/

def bucketAddr (s : State) (h hash : Nat) : Nat :=
  fget s F.PFX_IDX_POOL_BASE h * 65536 + 64 * (hash % max (fget s F.PFX_SIZE_BUCKETS h) 1)

/-- Entry `j` of a bucket: hash, and node index with VALID at bit 31. -/
def bucketEnt (s : State) (h hash j : Nat) : Nat × Nat :=
  let a := bucketAddr s h hash + 16 * j
  (memNat s a 8, memNat s (a + 8) 4)

/-- Valid entries of a bucket in entry order; a bucket whose line fails its check gives none (R581). -/
def probe (s : State) (h hash : Nat) : List (Nat × Nat) :=
  if fget s F.PFX_SIZE_BUCKETS h = 0 ∨ !lineOk s (bucketAddr s h hash) then []
  else ([0, 1, 2, 3].map (bucketEnt s h hash)).filter (fun e => bits e.2 31 1 == 1)

/-- A block's match (R204): the first probed entry whose node passes every test; entries with the right hash whose node
fails another test count as collisions. -/
def findIn (s : State) (hash parent ns toks : Nat) : List (Nat × Nat) → Nat → Option Nat × Nat
  | [], n => (none, n)
  | (hh, e) :: r, n =>
    if hh ≠ hash then findIn s hash parent ns toks r n
    else
      let i := bits e 0 23
      let v := node s i
      if nValid v && (badLineIn s (nodeAddr s i) 128).isNone && nHash v == hash && nParent v == parent &&
          nNamespace v == ns && nTokens v == toks then (some i, n)
      else findIn s hash parent ns toks r (n + 1)

/-- A block is looked up in its own half's index, then in the other's; collisions count in half `h`. -/
def matchBlock (s : State) (h hash parent ns toks : Nat) : Option Nat × State :=
  let r := findIn s hash parent ns toks (probe s h hash ++ probe s (1 - h) hash) 0
  (r.1, fadd1 s F.PFX_COLLIDE_HASH h r.2)

/-- The tokens of block `b` of a context; none where a log line fails its check (R181). -/
def blockTokens (s : State) (c b : Nat) : Option (List Nat) :=
  let d := (cx s c).d
  let ps := (List.range 32).map (fun i => 32 * b + i)
  if ps.any (fun p => (logBad s d p).isSome && (nfind (cx s c).kept p).isNone) then none
  else some (ps.map (fun p => (logWord s c p).toNat % 2 ^ 20))

/-- The failed log lines of block `b` are asked of the twin (R181). -/
def blockFetch (s : State) (c b : Nat) : State :=
  ((List.range 32).map (fun i => 32 * b + i)).foldl (fun s p =>
    match (if (nfind (cx s c).kept p).isNone then logBad s (cx s c).d p else none) with
    | some a => logFetch s c p a
    | none => s) s

/-! ### Page sets (R202) -/

/-- The page set at an address fits a descriptor and column, with no frame poisoned or at its greatest COUNT (R206);
also whether a COUNT is 65,535, and whether a line fails its check. -/
structure SetCheck where
  ok : Bool
  full : Bool
  bad : Bool

def setEntry (s : State) (a st : Nat) : Word := w64 (memNat s (a + 64 + 8 * st) 8)

def checkSet (s : State) (a : Nat) (d : Desc) : SetCheck :=
  let n := dStreams d
  if (badLineIn s a (64 + 8 * n)).isSome then { ok := false, full := false, bad := true }
  else
    let fits := memNat s a 4 == n && memNat s (a + 4) 1 == dg d D.FMT && memNat s (a + 5) 1 == dg d D.DIM
    let es := (List.range n).map (setEntry s a)
    let poison := es.any (fun e => pagePoison s e)
    let full := es.any (fun e => decide (65535 ≤ (share s (pKey e)).count))
    { ok := fits && !poison && !full, full := fits && !poison && full, bad := false }

/-- A page set's references are released and its record freed. -/
def releaseSet (s : State) (i : Nat) : State :=
  let v := node s i
  if !nHasSet v then s
  else
    let h := i / 2 ^ 21
    let a := nSetAddr v
    let n := memNat s a 4
    let s := (List.range n).foldl (fun s st => releaseEntry s (131072 * h) (setEntry s a st)) s
    nodeMod (dropPt s h a) i (fun v => setBits (setBits v 119 1 0) 256 64 0)

/-! ### Eviction (R210) -/

/-- Ancestors of a node that name it as SET_NODE forget it. -/
def forget (s : State) (i : Nat) : Nat → Nat → State
  | 0, _ => s
  | n + 1, p =>
    if p = noNode then s
    else
      let v := node s p
      forget (if nSetNode v = i then setNode s p (setBits v 96 23 noNode) else s) i n (nParent v)

/-- A node's entry leaves its bucket. -/
def unindex (s : State) (i : Nat) : State :=
  let h := i / 2 ^ 21
  let hash := nHash (node s i)
  [0, 1, 2, 3].foldl (fun s j =>
    let e := bucketEnt s h hash j
    if e.1 = hash ∧ bits e.2 31 1 = 1 ∧ bits e.2 0 23 = i then memPut s (bucketAddr s h hash + 16 * j) 16 0 else s) s

def setNodes (s : State) (h : Nat) (l : List Nat) : State :=
  fput (poolPut s h { poolOf s h with nodes := l }) F.PFX_USED_NODES_USED h l.length

/-- A node is evicted (R210). -/
def evictNode (s : State) (i : Nat) : State :=
  let h := i / 2 ^ 21
  let s := releaseSet s i
  let p := nParent (node s i)
  let s := if p = noNode then s else nodeMod s p (fun v => setBits v 160 32 (nChildren v - 1))
  let s := forget s i 128 p
  let s := unindex s i
  let s := setNode s i 0
  fadd1 (setNodes s h ((poolOf s h).nodes.filter (· != i))) F.PFX_EVICT_COUNT h 1

/-- Milliseconds since a node's LAST_USE. -/
def useAge (s : State) (i : Nat) : Nat := (useNow s + 2 ^ 32 - nLastUse (node s i)) % 2 ^ 32

/-- The evictable node with the oldest LAST_USE among some nodes, outside `keep`. -/
def oldestNode (s : State) (l keep : List Nat) : Option Nat :=
  (l.filter (fun i => nChildren (node s i) == 0 && !keep.contains i)).foldl (fun b i => match b with
    | none => some i
    | some j => if useAge s j < useAge s i then some i else some j) none

/-! ### Attachment (R205-R207) -/

/-- Blocks matched one after another from block `b`: the nodes, deepest first. -/
def matchFrom (s : State) (c h ns : Nat) : Nat → Nat → Word → List Nat → List Nat × State
  | 0, _, _, acc => (acc, s)
  | n + 1, b, hw, acc =>
    match blockTokens s c b with
    | none => (acc, s)
    | some ts =>
      let hw := mixTokens hw 0 ts
      let r := matchBlock s h (hashOf hw).toNat (acc.headD noNode) ns (packTokens ts)
      match r.1 with
      | none => (acc, r.2)
      | some i => if nStale (node r.2 i) then (acc, r.2) else matchFrom r.2 c h ns n (b + 1) hw (i :: acc)

/-- The page set of one column is written into the span where nothing is backed, and counted (R205). -/
def attachSet (s : State) (c col a : Nat) : State :=
  let d := (cx s c).d
  (List.range (dStreams d)).foldl (fun s st =>
    let v := pageOf d st col
    let old := ptGet s d v
    if pV old && !pLost old then s
    else
      let e := setEntry s a st
      ptPut (addShare (releaseEntry s c old) (pKey e)) c v (bset e 62 1 0)) s

/-- A column cannot attach: its node becomes STALE, or loses VALID where a line of the page set failed (R206, R581). -/
def failColumn (s : State) (c i : Nat) (k : SetCheck) : State :=
  let s := fsetIf s k.full F.CTX_ERR_SHARE_MAX (ctxHalf c)
  if k.bad then
    let h := i / 2 ^ 21
    let s := nodeMod (lineFailure s 10 1 (nSetAddr (node s i))) i (fun v => setBits v 121 1 0)
    setNodes s h ((poolOf s h).nodes.filter (· != i))
  else nodeMod s i (fun v => setBits v 120 1 1)

/-- Columns attached from `col` on; `nodes` is the list of matched nodes by depth. Gives the attached length. -/
def attachCols (s : State) (c : Nat) (nodes : List Nat) (E : Nat) : Nat → Nat → Nat × State
  | 0, _ => (E, s)
  | n + 1, col =>
    let d := (cx s c).d
    let S := dSlots d
    let cl := (E - 1) / S
    let last := col == cl
    let here := if last then nodes.getD (E / 32 - 1) noNode else nodes.getD ((col + 1) * S / 32 - 1) noNode
    let holder := if nHasSet (node s here) then here else if last then nSetNode (node s here) else noNode
    let v := if holder = noNode then 0 else node s holder
    if !(nHasSet v && nValid v) then
      (min E (col * S), failColumn s c here { ok := false, full := false, bad := false })
    else
      let k := checkSet s (nSetAddr v) d
      if !k.ok then (min E (col * S), failColumn s c here k)
      else
        let s := attachSet s c col (nSetAddr v)
        if last then ((if nSeal v < E - cl * S then cl * S + nSeal v else E), s)
        else attachCols s c nodes E n (col + 1)

/-- The block at which an attachment of at most `limit` blocks meets a failed log line (R181). -/
def attachBlocked (s : State) (c limit : Nat) : Option Nat :=
  let d := (cx s c).d
  let k := (matchFrom s c (ctxHalf c) (dg d D.NAMESPACE) limit 0 (mix (w64 (dg d D.NAMESPACE))) []).1.length
  if fbit s F.PFX_CTL_LOOKUP_EN (ctxHalf c) && decide (k < limit) && (blockTokens s c k).isNone then some k else none

/-- Attachment of at most `limit` blocks: the attached length A and the deepest node attached (R205, R206). -/
def attach (s : State) (c limit : Nat) : Nat × Nat × State :=
  let d := (cx s c).d
  let h := ctxHalf c
  let s := fadd1 s F.PFX_LOOKUPS_LOOKUPS h 1
  if !fbit s F.PFX_CTL_LOOKUP_EN h then (0, noNode, s)
  else
    let ns := dg d D.NAMESPACE
    let r := matchFrom s c h ns limit 0 (mix (w64 ns)) []
    let nodes := r.1.reverse
    let s := fadd1 r.2 F.PFX_LOOKUPS_MATCHED h nodes.length
    let s := nodes.foldl (fun s i => nodeMod s i (fun v => setBits v 192 32 (useNow s))) s
    if nodes.isEmpty then (0, noNode, s)
    else
      let E := 32 * nodes.length
      let q := attachCols s c nodes E ((E - 1) / max (dSlots d) 1 + 1) 0
      (q.1, (if q.1 = 0 then noNode else nodes.getD (q.1 / 32 - 1) noNode), q.2)

/-! ### Publication (R208, R209) -/

/-- A free node of a half, evicting the oldest evictable one when none is free (R210). -/
def freeNode (s : State) (h : Nat) (keep : List Nat) : Option (Nat × State) :=
  let size := fget s F.PFX_SIZE_NODES h
  let pick (s : State) : Nat × State :=
    let i := pickOut ((poolOf s h).nodes.map (· % 2 ^ 21)) size (choiceOf s 5)
    (h * 2 ^ 21 + i, bump s)
  if (poolOf s h).nodes.length < size then some (pick s)
  else (oldestNode s (poolOf s h).nodes keep).map (fun j => pick (evictNode s j))

/-- A bucket place for a hash in a half's index, evicting an evictable node of the bucket when it is full. -/
def freeBucket (s : State) (h hash : Nat) (keep : List Nat) : Option (Nat × State) :=
  let place (s : State) : Option Nat := [0, 1, 2, 3].find? (fun j => bits (bucketEnt s h hash j).2 31 1 == 0)
  if fget s F.PFX_SIZE_BUCKETS h = 0 ∨ !lineOk s (bucketAddr s h hash) then none
  else match place s with
    | some j => some (j, s)
    | none =>
      let l := (probe s h hash).map (fun e => bits e.2 0 23)
      (oldestNode s l keep).bind (fun i =>
        let s := evictNode s i
        (place s).map (fun j => (j, s)))

/-- A new node for a block (R202); none when the index bucket or the node pool is full. What was evicted for it stays evicted. -/
def insertNode (s : State) (h hash parent ns toks depth : Nat) (keep : List Nat) : Option Nat × State :=
  match freeBucket s h hash keep with
  | none => (none, s)
  | some b => match freeNode b.2 h keep with
    | none => (none, b.2)
    | some n =>
      let i := n.1
      let v := hash + parent * 2 ^ 64 + noNode * 2 ^ 96 + 2 ^ 121 + ns * 2 ^ 128 + useNow n.2 * 2 ^ 192 +
        depth % 2 ^ 15 * 2 ^ 224 + toks * 2 ^ 320
      let s := setNode n.2 i v
      let s := memPut s (bucketAddr s h hash + 16 * b.1) 16 (hash + (i + 2 ^ 31) * 2 ^ 64)
      let s := if parent = noNode then s else nodeMod s parent (fun v => setBits v 160 32 (nChildren v + 1))
      (some i, setNodes s h ((poolOf s h).nodes ++ [i]))

/-- Why publication may not pass into a column (R209): a page not in the stacks or LOST; a COUNT of 65,535. -/
def columnStops (s : State) (d : Desc) (col : Nat) : Bool × Bool :=
  let es := (List.range (dStreams d)).map (fun st => ptGet s d (pageOf d st col))
  (es.any (fun e => !pV e || pLost e || pTier e != 0),
    es.any (fun e => pV e && pTier e == 0 && decide (65535 ≤ (share s (pKey e)).count)))

/-- Room for a page-set record, evicting nodes while none is free. -/
def roomForSet (s : State) (h bytes : Nat) (keep : List Nat) : Nat → Option Nat × State
  | 0 => match takePt s h bytes with
    | some r => (some r.1, r.2)
    | none => (none, s)
  | n + 1 => match takePt s h bytes, oldestNode s (poolOf s h).nodes keep with
    | some r, _ => (some r.1, r.2)
    | none, some i => roomForSet (evictNode s i) h bytes keep n
    | none, none => (none, s)

/-- Node `i` receives the page set of a column of a context, covering `seal` slots (R208); false when no record is free. What was
evicted for it stays evicted. -/
def giveSet (s : State) (c i col slots : Nat) (keep : List Nat) : Bool × State :=
  let d := (cx s c).d
  let h := i / 2 ^ 21
  let n := dStreams d
  match roomForSet s h (64 + 8 * n) keep (poolOf s h).nodes.length with
  | (none, s) => (false, s)
  | (some a, s) =>
    let s := memWrite s a (toBytes 4 n ++ toBytes 1 (dg d D.FMT) ++ toBytes 1 (dg d D.DIM) ++ toBytes 2 0 ++ toBytes 4 col ++
      toBytes 52 0)
    let s := (List.range n).foldl (fun s st =>
      let e := ptGet s d (pageOf d st col)
      memPut (addShare s (pKey e)) (a + 64 + 8 * st) 8 (bset e 62 1 0).toNat) s
    (true, nodeMod s i (fun v => setBits (setBits (setBits v 119 1 1) 240 13 slots) 256 64 a))

/-- Published nodes of a column whose SET_NODE is none take the node that holds the column's page set. -/
def nameSet (s : State) (i : Nat) (l : List Nat) : State :=
  l.foldl (fun s j => if nSetNode (node s j) = noNode then nodeMod s j (fun v => setBits v 96 23 i) else s) s

/-- Blocks published from block `b` on; `path` is the nodes so far, deepest first, `n` the blocks still to publish. -/
def publishFrom (s : State) (c h total : Nat) : Nat → Nat → Word → List Nat → State
  | 0, _, _, _ => s
  | n + 1, b, hw, path =>
    let d := (cx s c).d
    let S := max (dSlots d) 1
    let per := S / 32
    let col := 32 * b / S
    let refuse (s : State) := fadd1 s F.PFX_COLLIDE_PUBLISH_REFUSED h 1
    let st := if b % max per 1 = 0 then columnStops s d col else (false, false)
    if st.1 || st.2 then refuse (fsetIf s st.2 F.CTX_ERR_SHARE_MAX h)
    else match blockTokens s c b with
      | none => refuse s
      | some ts =>
        let ns := dg d D.NAMESPACE
        let hw := mixTokens hw 0 ts
        let hash := (hashOf hw).toNat
        let parent := path.headD noNode
        let m := matchBlock s h hash parent ns (packTokens ts)
        let got : Option Nat × State := match m.1 with
          | some i =>
            let s := if nStale (node m.2 i) then releaseSet m.2 i else m.2
            (some i, nodeMod s i (fun v => setBits (setBits v 120 1 0) 192 32 (useNow s)))
          | none => insertNode m.2 h hash parent ns (packTokens ts) b path
        match got with
        | (none, s) => refuse s
        | (some i, s) =>
          let path := i :: path
          let inCol := path.take (b % max per 1 + 1)
          let v := node s i
          let bound := (b + 1) * 32 % S == 0
          let tail := b + 1 == total && !bound
          let covered := nHasSet v || (tail && nSetNode v != noNode && nHasSet (node s (nSetNode v)))
          if (bound || tail) && !covered then
            match giveSet s c i col (if bound then S else (b + 1) * 32 - col * S) path with
            | (false, s) => refuse s
            | (true, s) => publishFrom (nameSet s i inCol) c h total n (b + 1) hw path
          else publishFrom s c h total n (b + 1) hw path

/-- Publication of a context's KV_VALID blocks (R208); nothing is published while PUBLISH_EN is 0. -/
def publish (s : State) (c : Nat) : State :=
  let d := (cx s c).d
  let h := ctxHalf c
  let n := dg d D.KV_VALID / 32
  if !fbit s F.PFX_CTL_PUBLISH_EN h then s
  else publishFrom s c h n n 0 (mix (w64 (dg d D.NAMESPACE))) []

/-! ### Invalidation (R213, R218) -/

/-- The block of a context's KV_VALID blocks at which a publication meets a failed log line, before any column that stops it (R181,
R209). -/
def publishBlocked (s : State) (c : Nat) : Option Nat :=
  let d := (cx s c).d
  let stops (b : Nat) : Bool := let k := columnStops s d (32 * b / max (dSlots d) 1); k.1 || k.2
  if !fbit s F.PFX_CTL_PUBLISH_EN (ctxHalf c) then none
  else ((List.range (dg d D.KV_VALID / 32)).takeWhile (fun b => !stops b)).find? (fun b => (blockTokens s c b).isNone)

/-- Every node of a namespace becomes STALE, in both halves (R213). -/
def staleAll (s : State) (ns : Nat) : State :=
  ((poolOf s 0).nodes ++ (poolOf s 1).nodes).foldl (fun s i =>
    if nNamespace (node s i) = ns then nodeMod s i (fun v => setBits v 120 1 1) else s) s

/-- PFX_INVAL (R213, R218): with GO an invalidation starts, or is queued behind the one in progress. -/
def pfxInval (s : State) (h : Nat) (val : Word) : State :=
  if !bbit val 32 then s
  else
    let q := poolOf s h
    match q.inval with
    | none => fset (poolPut s h { q with inval := some (bget val 0 32) }) F.PFX_USED_INVAL_BUSY h
    | some _ => poolPut s h { q with invalNext := some (bget val 0 32) }

def execPfxInval (h : Fin 2) (val : Word) (s : State) : Host.Outcome State Fault Refusal :=
  .next (regGate s .PFX_INVAL h (fun s => pfxInval s h val))

/-- The invalidation in progress ends: every node of its namespace is STALE by now, and a queued one starts. -/
def execInvalidationEnd (h : Fin 2) (s : State) : Host.Outcome State Fault Refusal :=
  let q := poolOf s h
  match q.inval with
  | none => .next s
  | some ns =>
    let s := staleAll s ns
    let s := poolPut s h { poolOf s h with inval := q.invalNext, invalNext := none }
    .next (fput s F.PFX_USED_INVAL_BUSY h (b2n q.invalNext.isSome))

end Sys2Proof.Machine
end

