-- ==== Sys2Proof/Machine/BankOps.lean ====
section
/-!
DEFINITION. Stacks: reading and changing one, and a sequence's place in its queue (R245).
-/

namespace Sys2Proof.Machine

def stk (s : State) (k : Nat) : Stk := nget (fun _ => {}) s.bnk.stk k

def stkPut (s : State) (k : Nat) (x : Stk) : State :=
  { s with bnk := { s.bnk with stk := nput (fun _ => {}) s.bnk.stk k x } }

def stkUpd (s : State) (k : Nat) (f : Stk → Stk) : State := stkPut s k (f (stk s k))

/-- A sequence takes a place in its stack's queue, or waits while the queue of 64 places is full (R245). -/
def enqueueSeq (s : State) (q : Seq) : State :=
  stkUpd s q.stack (fun x =>
    if x.wait.isEmpty && decide (x.queue.length < 64) then { x with queue := x.queue ++ [q] }
    else { x with wait := x.wait ++ [q] })

end Sys2Proof.Machine
end

