-- ==== Sys2Proof/Machine/CtxInstr.lean ====
section
/-!
DEFINITION. The context instructions (R149-R152, R191-R197, R315, R316), their answers, and copy on write.
-/

namespace Sys2Proof.Machine

/-- A context instruction at its issue: it takes a place in the move pipe. `k` computes the answer: value, predicate,
exception, and the state after. -/
def ctxIssue (s : State) (t op : Nat) (b : BitVec 54) (legal : Bool) (useB useP : Bool)
    (k : State → Nat → Word → State × Pend) : State :=
  let x := til s t
  issue s t op b false legal
    (freeS x ([fXRD b, fXRA b] ++ if useB then [fXRB b] else []) && (!useP || freeP x [fXPD b]) && movePipeFree x)
    (fun s =>
      let x := til s t
      let r := k s ((sreg x (fXRA b)).toNat % 2 ^ 18) (sreg x (fXRB b))
      pushPend r.1 t op b r.2)

/-- The answer that raises CONTEXT (R151). -/
def ctxExc (b : BitVec 54) (c : Nat) : Pend := .ctx (fXRD b) 0 none true c

/-- The answer without a predicate. -/
def ctxVal (b : BitVec 54) (v : Word) (c : Nat) : Pend := .ctx (fXRD b) v none false c

/-- A context can be reached: the die-to-die link is not lost, or the context is of the tiller's half (R574). -/
def reach (s : State) (t c : Nat) : Bool := !s.twin.lost || halfOf t == ctxHalf c

/-- CTX.RD: one descriptor word, in every state but FREE. -/
def execCtxRd (t : Fin 512) (b : BitVec 54) (s : State) : Host.Outcome State Fault Refusal :=
  .next (ctxIssue s t 0x181 b (zeros [fXRB b, fXRC b, fXPD b, fXIMM b / 16]) false false (fun s c _ =>
    let bad := s.descBad.any (fun k => k / 32 == c)
    let s := descRead s c
    if bad || cstate s c == stFREE || !reach s t c then (s, ctxExc b c)
    else (s, ctxVal b (dword (cx s c).d (fXIMM b % 16)) c)))

/-- First position that the context's work in the step in progress produces (CTX.STEP). -/
def firstPos (x : Ctx) : Nat :=
  let st := dg x.d D.STATE
  if st = stDECODE then dg x.d D.LENGTH
  else if st = stREBUILD then dg x.d D.HOLE_START
  else match x.chunk with
    | some k => k.start
    | none => dg x.d D.KV_VALID

def execCtxStep (t : Fin 512) (b : BitVec 54) (s : State) : Host.Outcome State Fault Refusal :=
  .next (ctxIssue s t 0x182 b (zeros [fXRB b, fXRC b, fXPD b, fXIMM b]) false false (fun s c _ =>
    let x := cx s c
    let st := dg x.d D.STATE
    if (st == stPREFILL || st == stDECODE || st == stREBUILD) && reach s t c then
      (s, ctxVal b (w64 (firstPos x * 2 ^ 32 + fget s F.SCH_STEP_NUM_STEP (dg x.d D.PARTITION) % 2 ^ 32)) c)
    else (s, ctxExc b c)))

/-! ### CTX.BIND (R314, R315) -/

/-- Words of 32 bits from an address. -/
def words32 (s : State) (a n : Nat) : List Nat := (List.range n).map (fun i => memNat s (a + 4 * i) 4)

/-- A stop record that breaks a rule of R315. -/
def stopBad (s : State) (a : Nat) : Bool :=
  let nseq := memNat s a 1
  let nend := memNat s (a + 1) 1
  let len (i : Nat) := memNat s (a + 8 + i) 1
  memNat s (a + 2) 6 != 0 || memNat s (a + 24) 40 != 0 || decide (16 < nseq) || decide (64 < nend) ||
  (List.range (min nseq 16)).any (fun i => decide (len i < 1) || decide (32 < len i)) ||
  (words32 s (a + 64) 64).any (fun w => decide (2 ^ 20 ≤ w)) ||
  (words32 s (a + 320) 512).any (fun w => decide (2 ^ 20 ≤ w))

/-- The stop matcher of a context (R315); none when its stop record breaks a rule or a line of it fails its check. -/
def bindOf (s : State) (c : Nat) : Option Matcher :=
  let d := (cx s c).d
  let a := dg d D.STOP_REC
  let len := dg d D.LENGTH
  let n := min 31 len
  let last := (List.range n).map (fun i =>
    let w := logWord s c (len - n + i)
    (w.toNat % 2 ^ 20, bbit w 20))
  let base : Matcher := { cid := c, inc := dg d D.INCARNATION, maxTok := dg d D.MAX_TOKENS, generated := dg d D.GENERATED,
                          maxLen := dg d D.MAX_LEN, length := len, last := last }
  if a = 0 then some base
  else if (badLineIn s a 2368).isSome || stopBad s a then none
  else some { base with
    ends := words32 s (a + 64) (memNat s (a + 1) 1)
    seqs := (List.range (memNat s a 1)).map (fun i => words32 s (a + 320 + 128 * i) (memNat s (a + 8 + i) 1)) }

/-- Failed lines among the last 31 log words are asked of the twin (R181). -/
def bindLogCheck (s : State) (c : Nat) : State :=
  let d := (cx s c).d
  let len := dg d D.LENGTH
  ((List.range (min 31 len)).map (len - min 31 len + ·)).foldl (fun s p =>
    match logBad s d p with
      | some a => logFetch s c p a
      | none => s) s

def execCtxBind (t : Fin 512) (b : BitVec 54) (s : State) : Host.Outcome State Fault Refusal :=
  .next (ctxIssue s t 0x183 b (zeros [fXRB b, fXRC b, fXPD b, fXIMM b]) false false (fun s c _ =>
    if cstate s c == stDECODE && reach s t c then
      let s := bindLogCheck s c
      match bindOf s c with
      | some m => (tupd s t (fun x => { x with matcher := some m }), ctxVal b 0 c)
      | none =>
        let a := dg (cx s c).d D.STOP_REC
        let s := match badLineIn s a 2368 with
          | some l => if a = 0 then s else lineFailure s 10 1 l
          | none => s
        (s, ctxExc b c)
    else (s, ctxExc b c)))

/-! ### CTX.EMIT (R149-R151, R316) -/

/-- The last tokens of a list, newest first, all sampled, equal a reversed sequence. -/
def tailMatches : List Nat → List (Nat × Bool) → Bool
  | [], _ => true
  | _ :: _, [] => false
  | q :: qs, (w, g) :: ws => g && q == w && tailMatches qs ws

/-- Reason and stop sequence index of an offered token (R316, R149): the lowest reason, the lowest index. -/
def stopReason (m : Matcher) (tok : Nat) : Nat × Nat :=
  let log := (tok, true) :: m.last.reverse
  if m.ends.contains tok then (1, 0)
  else match (List.range m.seqs.length).find? (fun i =>
      let q := m.seqs.getD i []
      decide (q.length ≤ m.generated + 1) && tailMatches q.reverse log) with
    | some i => (2, i)
    | none => if m.generated + 1 = m.maxTok ∨ m.length + 1 = m.maxLen then (3, 0) else (0, 0)

def execCtxEmit (t : Fin 512) (b : BitVec 54) (s : State) : Host.Outcome State Fault Refusal :=
  .next (ctxIssue s t 0x184 b (zeros [fXRC b, fXIMM b]) true true (fun s c w =>
    let x := cx s c
    match (til s t).matcher with
    | none => (s, ctxExc b c)
    | some m =>
      if dg x.d D.STATE ≠ stDECODE ∨ m.cid ≠ c ∨ m.inc ≠ dg x.d D.INCARNATION ∨ 2 ^ 20 ≤ w.toNat ∨ x.offer.isSome ∨ !reach s t c then
        (s, ctxExc b c)
      else
        let r := stopReason m w.toNat
        (cxPut s c { x with offer := some (w.toNat, r.1, r.2) },
          .ctx (fXRD b) (w64 (r.1 + r.2 * 256)) (some (fXPD b, r.1 != 0)) false c)))

/-! ### CTX.SPAN (R152, R191-R197) -/

/-- States that allow a walk (R191). -/
def spanAllowed (s : State) (st : Nat) (write : Bool) : Bool :=
  st == stPREFILL || st == stDECODE || st == stREBUILD ||
    (st == stREADY && (!write || standalone s || role s == 2))

/-- A walk counts as a hit or a miss of the PTE cache, which the spec does not describe (free choice). -/
def countWalk (s : State) (c : Nat) : State :=
  let s1 := bump s
  if choiceOf s 6 % 2 = 0 then fadd1 s1 F.CTX_WALK_HITS (ctxHalf c) 1 else fadd1 s1 F.CTX_WALK_MISSES (ctxHalf c) 1

/-- A copy on write of the context is under way, so a further walk for write waits (R197). -/
def cowBusy (s : State) (c : Nat) : Bool := s.cows.any (fun e => e.2.cid == c)

/-- Device memory address of a byte of a page. -/
def pageAddr (e : Word) (off : Nat) : Nat := pTier e * 2 ^ 48 + pFrame e * 65536 + off % 65536

/-- A copy on write starts: the frame, and for KV4 the side record, are taken, and the COPY sequence is queued when both
frames lie in one stack (R197, R229). None when nothing can be backed (R215). -/
def cowStart (s : State) (c v off : Nat) : Option Nat × State :=
  let d := (cx s c).d
  let old := ptGet s d v
  match pickPage s c d (v / max (dg d D.PPS) 1) (v % max (dg d D.PPS) 1) with
  | none => (none, fset s F.CTX_ERR_FRAME_FULL (ctxHalf c))
  | some (k, split) =>
    let h := k / 2 ^ 21 / 4 % 2
    match (if dg d D.FMT == 2 then takeSide s h else some (0, s)) with
    | none => (none, fset s F.CTX_ERR_SIDE_FULL (ctxHalf c))
    | some (i, s) =>
      let n := s.fresh
      let u := cowSlots d v
      let s := setUse (fsetIf (bump s) split F.BNK_ERR_SPLIT 0) k 1
      let s := { s with cows := nset s.cows n { cid := c, v := v, old := old, frame := k, side := i, u := u, off := off } }
      let s := if pTier old = 0 ∧ pFrame old / 2 ^ 21 = k / 2 ^ 21 then
          enqueueSeq s { op := 3, fmt := dg d D.FMT, dim := dg d D.DIM, stack := k / 2 ^ 21,
                         cols := [{ fa := pFrame old, fb := k, arg := u }], cow := n + 1 }
        else s
      (some n, s)

/-- The running item may write a range of device memory (R194). -/
def grant (x : Tiller) (lo hi : Nat) : Tiller := { x with grants := (devBase + lo, devBase + hi) :: x.grants }

/-- First byte of a backed page that a write translation opens: that of the slot of position KV_VALID (R194). -/
def grantFrom (d : Desc) (v : Nat) : Nat := (dg d D.KV_VALID - (pagePos d v).1) * dSlotBytes d

/-- The walk of R195: the answer, or the number of the copy on write it waits for. -/
def walk (s : State) (t c off : Nat) (write : Bool) : State × (Option (Word × Bool) ⊕ Nat) :=
  let d := (cx s c).d
  if !spanAllowed s (dg d D.STATE) write ∨ 65536 * dPages d ≤ off ∨ !reach s t c then (s, .inl none)
  else
    let v := off / 65536
    let s := countWalk (ptCheck s c v) c
    let e := ptGet s (cx s c).d v
    let s := if pV e && !pLost e && pagePoison s e then pageLost s c v else s
    let d := (cx s c).d
    let e := ptGet s d v
    if write && !(mayWrite d e (posOf d v (off % 65536)) && spanAllowed s (dg d D.STATE) true) then (s, .inl none)
    else if !pV e || pLost e then
      if !write then (s, .inl (some (0, false)))
      else match backPage s c v with
        | (some s', _) =>
          let p := pageAddr (ptGet s' d v) 0
          (tupd s' t (fun x => grant x p (p + 65536)), .inl (some (w64 (pageAddr (ptGet s' d v) off), true)))
        | (none, s') => (s', .inl none)
    else if write && !pW e then
      match cowStart s c v off with
      | (some n, s') => (s', .inr n)
      | (none, s') => (s', .inl none)
    else
      let p := pageAddr e 0
      (if write then tupd s t (fun x => grant x (p + grantFrom d v) (p + 65536)) else s, .inl (some (w64 (pageAddr e off), true)))

/-- A walk for write that is allowed finds no frame or no side record to back its page (R215). -/
def pageShort (s : State) (c off : Nat) : Bool :=
  let d := (cx s c).d
  let v := off / 65536
  let e := ptGet s d v
  spanAllowed s (dg d D.STATE) true && decide (off < 65536 * dPages d) && mayWrite d e (posOf d v (off % 65536)) &&
  (!pV e || pLost e || !pW e) &&
  (match pickPage s c d (v / max (dg d D.PPS) 1) (v % max (dg d D.PPS) 1) with
   | none => true
   | some (k, _) => dg d D.FMT == 2 && (takeSide s (k / 2 ^ 21 / 4 % 2)).isNone)

/-- The front end learns that an attention item found no frame (R272). -/
def noFrame (s : State) (t : Nat) : State :=
  let slot := ((til s t).item.map (fun w => w.slot)).getD 0
  match (if slot = 0 then none else nfind s.bnk.slots (slot - 1)) with
  | some q => { s with bnk := { s.bnk with slots := nset s.bnk.slots (slot - 1) { q with noFrame := true } } }
  | none => s

def execCtxSpan (t : Fin 512) (b : BitVec 54) (s : State) : Host.Outcome State Fault Refusal :=
  let x := til s t
  let write := fXIMM b == 1
  let c := (sreg x (fXRA b)).toNat % 2 ^ 18
  .next (issue s t 0x185 b false (zeros [fXRC b, fXIMM b / 2])
    (freeS x [fXRD b, fXRA b, fXRB b] && freeP x [fXPD b] && movePipeFree x && !(write && cowBusy s c))
    (fun s =>
      let off := (sreg (til s t) (fXRB b)).toNat
      let r := walk s t c off write
      let r := if write && r.2 == .inl none && pageShort s c off then (noFrame r.1 t, r.2) else r
      let p : Pend := match r.2 with
        | .inl (some (a, q)) => .ctx (fXRD b) a (some (fXPD b, q)) false c
        | .inl none => ctxExc b c
        | .inr n => .cow (fXRD b) (fXPD b) n
      pushPend r.1 t 0x185 b p))

/-! ### CTX.HOLD (R311) -/

def execCtxHold (t : Fin 512) (b : BitVec 54) (s : State) : Host.Outcome State Fault Refusal :=
  .next (ctxIssue s t 0x186 b (zeros [fXRB b, fXRC b, fXPD b, fXIMM b / 256]) false false (fun s c _ =>
    let st := cstate s c
    if (st == stPREFILL || st == stDECODE || st == stREBUILD) && reach s t c then
      (dmod s c (fun d => ds (ds d D.HELD 1) D.HOLD_REASON (fXIMM b % 256)), ctxVal b 0 c)
    else (s, ctxExc b c)))

/-! ### Answers -/

/-- The answer of incomplete context instruction `i` arrives: rd and the predicate are written, or CONTEXT is raised at
completion (R151, R166). -/
def contextAnswer (s : State) (t i : Nat) : State :=
  match pendOp (til s t) i with
  | some (.ctx rd v pd exc _) =>
    if exc then imprecise s t i 4 0
    else tupd s t (fun x =>
      let x := sset (dropPend x i) rd v
      match pd with
      | some (p, q) => pset x p (pfill q)
      | none => x)
  | _ => s

def execContextAnswer (t : Fin 512) (i : Nat) (s : State) : Host.Outcome State Fault Refusal := .next (contextAnswer s t i)

/-- Walks that wait for copy on write `n` get their answer. -/
def cowAnswer (n : Nat) (f : Nat → Nat → Pend) (p : Issued) : Issued :=
  match p.op with
  | .cow rd pd k => if k = n then { p with op := f rd pd } else p
  | _ => p

/-- The instruction waits for copy on write `n`. -/
def cowWaits (n : Nat) (p : Issued) : Bool :=
  match p.op with
  | .cow _ _ k => k == n
  | _ => false

/-- The side record of the new page of a copy on write (R197): SCALE copied, COUNT = u, the outlier entries of slots
below u kept in order. -/
def cowSide (s : State) (src dst u : Nat) : State :=
  let n := memNat s (src + 6) 2
  let es := (words32 s (src + 576) (min n 112)).filter (fun w => decide (bits w 20 12 < u))
  let head := memBytes s src 4 ++ toBytes 2 u ++ toBytes 2 es.length ++ memBytes s (src + 8) 568
  memWrite s dst (head ++ es.flatMap (toBytes 4) ++ List.replicate (448 - 4 * es.length) 0)

/-- A copy on write ends (R197): the slots below u are in the new frame, the new PTE has W = 1, and COUNT of the old frame
falls by 1. A copy that meets a failed line releases the new frame and the walk raises CONTEXT, the page being lost
(R198). -/
def cowDone (s : State) (n : Nat) : State :=
  match nfind s.cows n with
  | none => s
  | some w =>
    let d := (cx s w.cid).d
    let same := pTier w.old == 0 && pFrame w.old / 2 ^ 21 == w.frame / 2 ^ 21
    if same && w.copied == 0 then s
    else
      let bytes := w.u * dSlotBytes d
      let src := pKey w.old * 65536
      let bad := if same then w.copied == 2 else (badLineIn s src bytes).isSome && bytes != 0
      let s := { s with cows := nerase s.cows n }
      let answerAll (s : State) (f : Nat → Nat → Pend) (g : Tiller → Tiller) : State :=
        { s with til := nmap (fun _ => {}) (fun _ (x : Tiller) =>
          let y := if x.pend.any (cowWaits n) then g x else x
          { y with pend := x.pend.map (cowAnswer n f) }) s.til }
      if bad then
        let s := if same then s else match badLineIn s src bytes with
          | some l => lineFailureOf s 8 1 l w.cid (dg d D.INCARNATION)
          | none => s
        let s := giveFrame (if dg d D.FMT = 2 then dropSide s (w.frame / 2 ^ 21 / 4 % 2) w.side else s) w.frame
        answerAll (pageLost s w.cid w.v) (fun rd _ => .ctx rd 0 none true w.cid) id
      else
        let s := if same then s else memWrite s (w.frame * 65536) (memBytes s src bytes)
        let s := if dg d D.FMT = 2 then
            cowSide s (sideAddr s (sideHalf w.cid w.old) (pSide w.old)) (sideAddr s (w.frame / 2 ^ 21 / 4 % 2) w.side) w.u
          else s
        let s := setShare s w.frame { share s w.frame with count := 1 }
        let e := pte true true 0 false (dg d D.FMT) w.side w.frame
        let s := releaseEntry (ptPut s w.cid w.v e) w.cid w.old
        let s := fadd1 s F.CTX_COW_COUNT (ctxHalf w.cid) 1
        let p := pageAddr e 0
        answerAll s (fun rd pd => .ctx rd (w64 (pageAddr e w.off)) (some (pd, true)) false w.cid)
          (fun x => grant x (p + grantFrom d w.v) (p + 65536))

def execCopyOnWriteDone (k : Nat) (s : State) : Host.Outcome State Fault Refusal := .next (cowDone s k)

end Sys2Proof.Machine
end

