-- ==== Sys2Proof/Machine/TieOps.lean ====
section
/-!
DEFINITION. Shared operations of the memory tiers: object-table entries (R344), weight windows (R358-R366), and what a
failed line in a frame means for the frame's owner (R581).
-/

namespace Sys2Proof.Machine

/-! ### Objects (R344) -/

def objAddr (s : State) (o : Nat) : Nat := fget s F.TIE_OBJ_BASE_BASE 0 * 131072 + 32 * o

/-- An object-table entry as a 256-bit number. -/
def obj (s : State) (o : Nat) : Nat := memNat s (objAddr s o) 32

def setObj (s : State) (o v : Nat) : State := memPut s (objAddr s o) 32 v

def oState (v : Nat) : Nat := bits v 0 8
def oFlags (v : Nat) : Nat := bits v 8 8
def oPinned (v : Nat) : Bool := bits v 8 1 == 1
def oEvictable (v : Nat) : Bool := bits v 9 1 == 1
def oWeight (v : Nat) : Bool := bits v 10 1 == 1
def oDemote (v : Nat) : Nat := bits v 16 8
def oFrames (v : Nat) : Nat := bits v 32 32
def oList (v : Nat) : Nat := bits v 64 64
def oLastUse (v : Nat) : Nat := bits v 128 64

def objState (s : State) (o st : Nat) : State := setObj s o (setBits (obj s o) 0 8 st)
def objUsed (s : State) (o : Nat) : State := setObj s o (setBits (obj s o) 128 64 (timeMs s))

/-- Entry `i` of an object's frame list, in the format of a page-table entry (R344). -/
def objEnt (s : State) (o i : Nat) : Word := w64 (memNat s (oList (obj s o) + 8 * i) 8)

/-- Objects with an entry that is not FREE, in ascending order. -/
def objIdxs (s : State) : List Nat :=
  let b := objAddr s 0
  (s.mem.filter (fun e => decide (b ≤ e.1) && decide (e.1 < b + 32 * fget s F.TIE_OBJ_BASE_COUNT 0) && (e.1 - b) % 32 == 0)).map
    (fun e => (e.1 - b) / 32)

/-! ### Windows (R358-R366) -/

def win (s : State) (w : Nat) : Win := nget (fun _ => {}) s.tie.wins w

def winPut (s : State) (w : Nat) (x : Win) : State :=
  { s with tie := { s.tie with wins := nput (fun _ => {}) s.tie.wins w x } }

def winEn (s : State) (w : Nat) : Bool := fbit s F.TIE_WIN_CTL_EN w
def winLayers (s : State) (w : Nat) : Nat := fget s F.TIE_WIN_CTL_LAYERS_M1 w + 1
def winSlots (s : State) (w : Nat) : Nat := fget s F.TIE_WIN_CTL_SLOTS_M1 w + 1

/-- Stacks of a window in ascending order (R359). -/
def winStacks (s : State) (w : Nat) : List Nat := (List.range 8).filter (fun k => bits (fget s F.TIE_WIN_CTL_STACKS w) k 1 == 1)

/-- Window units of one slot. -/
def winUnits (s : State) (w : Nat) : Nat := cdiv (fget s F.TIE_WIN_CTL_LAYER_FRAMES w) 16

/-- Frame `j` of slot `i` of a window (R359). -/
def winFrame (s : State) (w i j : Nat) : Nat :=
  let l := winStacks s w
  let u := i * winUnits s w + j / 16
  l.getD (u % max l.length 1) 0 * 2 ^ 21 + 16 * (fget s F.TIE_WIN_CTL_BASE w + u / max l.length 1) + j % 16

/-- Every frame of a window. -/
def winFrames (s : State) (w : Nat) : List Nat :=
  (List.range (winSlots s w)).flatMap (fun i => (List.range (fget s F.TIE_WIN_CTL_LAYER_FRAMES w)).map (winFrame s w i))

/-- The window is resident (R364). -/
def winResident (s : State) (w : Nat) : Bool := decide (winLayers s w ≤ winSlots s w)

def winSlot (s : State) (w i : Nat) : WinSlot := nget (fun _ => {}) (win s w).slots i

/-- The window of a partition, if one is enabled. -/
def partWin (s : State) (p : Nat) : Option Nat :=
  (List.range 8).find? (fun w => winEn s w && fget s F.TIE_WIN_CTL_PARTITION w == p)

/-- A step of the window's partition may start an item of a layer (R362, R364). -/
def layerReady (s : State) (w layer pass : Nat) : Bool :=
  let x := winSlot s w (layer % winSlots s w)
  decide (winLayers s w ≤ layer) || (x.st == 2 && x.layer == layer && (winResident s w || x.pass == pass))

/-- The window slot and frame that holds a stack frame: window, slot, frame of the layer. -/
def windowOf (s : State) (k : Nat) : Option (Nat × Nat × Nat) :=
  (List.range 8).findSome? (fun w =>
    let l := winStacks s w
    let f := k % 2 ^ 21
    let b := fget s F.TIE_WIN_CTL_BASE w
    if !winEn s w || !l.contains (k / 2 ^ 21) || decide (f / 16 < b) then none
    else
      let u := (f / 16 - b) * l.length + l.findIdx (· == k / 2 ^ 21)
      let i := u / max (winUnits s w) 1
      let j := u % max (winUnits s w) 1 * 16 + f % 16
      if i < winSlots s w ∧ j < fget s F.TIE_WIN_CTL_LAYER_FRAMES w then some (w, i, j) else none)

/-- The span page of a context whose entry names a frame. -/
def findPage (s : State) (c k : Nat) : Option Nat :=
  let d := (cx s c).d
  let lo := pteAddr d 0
  ((s.mem.filter (fun e => decide (lo ≤ e.1) && decide (e.1 < lo + 8 * dPages d) && (e.1 - lo) % 8 == 7)).map
    (fun e => (e.1 - lo) / 8)).find? (fun v => pV (ptGet s d v) && pKey (ptGet s d v) == k)

/-- A tiller finds a failed line at a device address while it runs an item: the frame of a READY window slot is filled
again (R366); for an item with BATCH 0 on a KV page of its context, R198 (R581). -/
def tillerLine (s : State) (t a : Nat) : State :=
  let s := lineFailure s 1 1 a
  let k := addrKey a
  let s := match (if addrTier a = 0 then windowOf s k else none) with
    | some (w, i, _) =>
      if (winSlot s w i).st = 2 then winPut s w { win s w with refill := nset (win s w).refill k 0 } else s
    | none => s
  match (til s t).item with
  | some w =>
    let c := bget w.bits 110 18
    if bbit w.bits 109 then s
    else match findPage s c k with
      | some v => if pLost (ptGet s (cx s c).d v) then s else pageLost s c v
      | none => s
  | none => s

/-! ### Frame moves (R346, R347) -/

/-- A frame is being copied to another place, so a write to it waits (R347). -/
def moving (s : State) (k : Nat) : Bool := s.tie.moves.any (fun m => m.2.old == k)

/-- Where a write to frame `k` goes: to the frame's new home while its release waits (R347). -/
def fwdKey (s : State) (k : Nat) : Nat := (nfind s.tie.fwd k).getD k

/-- A range of device memory cut at frames, each part where a write of it goes: address and length. -/
def fwdParts (s : State) (a n : Nat) : List (Nat × Nat) :=
  (List.range (cdiv (a % 65536 + n) 65536)).map (fun i =>
    let lo := max a ((addrKey a + i) * 65536)
    (keyAddr (fwdKey s (addrKey a + i)) + lo % 65536, min (a + n) ((addrKey a + i + 1) * 65536) - lo))

/-- Bytes written to device memory by an access that may have begun before a move of the frame (R347). A flash tier that takes no
writes discards them (R427, log entry 129). -/
def fwdWrite (s : State) (a : Nat) (bs : List Byte) : State :=
  if flashShut s a then s
  else if s.tie.fwd.isEmpty then memWrite s a bs
  else ((fwdParts s a bs.length).foldl (fun (p : State × List Byte) x => (memWrite p.1 x.1 (p.2.take x.2), p.2.drop x.2)) (s, bs)).1

/-- The stack whose uncommitted COPY or FILL has a destination granule in a range (R255). -/
def destStack (s : State) (a n : Nat) : Option Nat :=
  (s.bnk.stk.find? (fun e => match e.2.run with
    | some q => q.dst.any (fun g => decide (g.1 < a + n) && decide (a < g.1 + 128))
    | none => false)).map (·.1)

/-- A write of `n` bytes at `a` waits: for a frame move (R347), or for an uncommitted COPY or FILL (R255). -/
def writeWaits (s : State) (a n : Nat) : Bool :=
  (fwdParts s a n).any (fun x => moving s (addrKey x.1) || (destStack s x.1 x.2).isSome)

/-- The frame's old home `k` waits for what began before the move, whose writes go to the new home (R346, R347). -/
def fwdSet (s : State) (k new : Nat) : State :=
  if s.tie.deferred.any (fun e => e.1 == k) then
    { s with tie := { s.tie with fwd := nset (nmap (fun _ => 0) (fun _ x => if x = k then new else x) s.tie.fwd) k new } }
  else s

/-- A write ends with a failure because its stack is retired (R691). -/
def writeDown (s : State) (a : Nat) : Bool := addrTier a == 0 && stackRetired s (addrStack a)

/-! ### The command queue (R350) -/

/-- A command ends: result, ID, count and the TIE interrupt. -/
def tieEnd (s : State) (res id : Nat) : State :=
  let s := { s with tie := { s.tie with run := none, left := false, xfer := [] } }
  let s := fsetIf s (res == 3) F.TIE_ERR_NO_ROOM 0
  irq (finc (fput (fput s F.TIE_CMD_STAT_RESULT 0 res) F.TIE_CMD_STAT_ID 0 id) F.TIE_CMD_STAT_SEQ 0) 0 8

/-- Commands with a reserved OP that reach the head of the queue end FORMAT (R26, R350). -/
def tieReserved (s : State) : Nat → State
  | 0 => s
  | n + 1 =>
    if s.tie.run.isSome then s
    else match s.tie.queue with
      | [] => s
      | c :: r =>
        let op := bget c.cmd1 60 4
        if 1 ≤ op ∧ op ≤ 5 then s
        else tieReserved (tieEnd { s with tie := { s.tie with queue := r } } 4 (bget c.cmd0 0 18)) n

/-- A command ends, and the next one comes to the head of the queue. -/
def tieDone (s : State) (res id : Nat) : State := tieReserved (tieEnd s res id) 16

def tcId (c : TieCmd) : Nat := bget c.cmd0 0 18
def tcInc (c : TieCmd) : Nat := bget c.cmd0 32 16
def tcPeer (c : TieCmd) : Nat := bget c.cmd0 48 16
def tcTier (c : TieCmd) : Nat := bget c.cmd1 58 2
def tcPlace (c : TieCmd) : Nat := bget c.cmd1 54 4
def tcFrames (c : TieCmd) : Nat := bget c.cmd1 32 22
def tcArg (c : TieCmd) : Nat := bget c.cmd1 0 32

end Sys2Proof.Machine
end

