-- ==== Sys2Proof/Machine/MovePipe.lean ====
section
/-!
DEFINITION. The move instructions (R146-R148) and the completion of a move (R83, R581).
-/

namespace Sys2Proof.Machine

/-- Device memory address of a tiller address in the device window. -/
def devAddr (a : Nat) : Nat := a - devBase

def inDev (a : Nat) : Bool := decide (devBase ≤ a)

/-- `n` bytes at `a` lie in one of the three ranges of the tiller address map. -/
def inMap (s : State) (a n : Nat) : Bool := inLocal a n || inStore a n || inDevice s a n

/-- The address lies in a stack of the half that tiller `t` cannot reach while the die-to-die link is lost (R574). -/
def farDev (s : State) (t a : Nat) : Bool :=
  s.twin.lost && inDev a && addrTier (devAddr a) == 0 && addrHalf (devAddr a) != halfOf t

/-- A move raises ADDRESS (R146), for a copy. -/
def copyBad (s : State) (x : Tiller) (d r n : Nat) : Bool :=
  d % 64 != 0 || r % 64 != 0 || n % 64 != 0 || n == 0 || decide (16777216 < n) || (inDev d && inDev r) ||
  (decide (d < r + n) && decide (r < d + n)) || decide (d < imageEnd x) || !inMap s d n || !inMap s r n

def fillBad (s : State) (x : Tiller) (d n : Nat) : Bool :=
  d % 64 != 0 || n % 64 != 0 || n == 0 || decide (16777216 < n) || decide (d < imageEnd x) || !inMap s d n

/-- The first operand that breaks R146: the address the exception record names. -/
def movAddr (s : State) (x : Tiller) (d r n : Nat) : Nat :=
  if 16777216 < n ∨ d % 64 ≠ 0 ∨ !inMap s d n ∨ d < imageEnd x then d else if r % 64 ≠ 0 ∨ !inMap s r n then r else d

def execMovCpy (t : Fin 512) (b : BitVec 54) (s : State) : Host.Outcome State Fault Refusal :=
  let x := til s t
  let d := (sreg x (fXRA b)).toNat
  let r := (sreg x (fXRB b)).toNat
  let n := (sreg x (fXRC b)).toNat
  .next (issue s t 0x141 b false (zeros [fXPD b, fXIMM b])
    (freeS x [fXRD b, fXRA b, fXRB b, fXRC b] && movePipeFree x && !(inDev r && flashWaits s (devAddr r) n))
    (fun s =>
      if sramBusy x.pend [(d, n, true), (r, n, false)] then s
      else if copyBad s (til s t) d r n || farDev s t d || farDev s t r then raiseAt s t 0x141 b 2 (w64 (movAddr s (til s t) d r n))
      else pushPend s t 0x141 b (.copy (fXRD b) d r n)))

def execMovFill (t : Fin 512) (b : BitVec 54) (s : State) : Host.Outcome State Fault Refusal :=
  let x := til s t
  let d := (sreg x (fXRA b)).toNat
  let n := (sreg x (fXRC b)).toNat
  .next (issue s t 0x142 b false (zeros [fXPD b, fXIMM b])
    (freeS x [fXRD b, fXRA b, fXRB b, fXRC b] && movePipeFree x)
    (fun s =>
      if sramWait x.pend d n true then s
      else if fillBad s (til s t) d n || farDev s t d then raiseAt s t 0x142 b 2 (w64 d)
      else pushPend s t 0x142 b (.fill (fXRD b) d (sreg (til s t) (fXRB b)) n)))

/-- Bytes read at a tiller address, device memory included. -/
def movRead (s : State) (t a n : Nat) : List Byte := if inDev a then memBytes s (devAddr a) n else tread s t a n

/-- The parts of a device range in one frame that a tiller's item may write: of a KV page only what CTX.SPAN with IMM[0] = 1 has
returned to the item (R194); address and length. -/
def kvParts (s : State) (t : Nat) (x : Nat × Nat) : List (Nat × Nat) :=
  if frameUse s (fwdKey s (addrKey x.1)) ≠ 1 then [x]
  else (til s t).grants.filterMap (fun g =>
    let lo := max x.1 (g.1 - devBase)
    let hi := min (x.1 + x.2) (g.2 - devBase)
    if lo < hi then some (lo, hi - lo) else none)

/-- Bytes that a tiller writes to device memory. Those of a KV page that its item may not write are dropped (DESIGN CHOICE, log entry
125). -/
def devWrite (s : State) (t a : Nat) (bs : List Byte) : State :=
  let cut := (List.range (cdiv (a % 65536 + bs.length) 65536)).map (fun i =>
    let lo := max a ((addrKey a + i) * 65536)
    (lo, min (a + bs.length) ((addrKey a + i + 1) * 65536) - lo))
  (cut.flatMap (kvParts s t)).foldl (fun s x => fwdWrite s x.1 ((bs.drop (x.1 - a)).take x.2)) s

/-- Bytes written at a tiller address, device memory included. -/
def movWrite (s : State) (t a : Nat) (bs : List Byte) : State :=
  if bs.isEmpty then s else if inDev a then devWrite s t (devAddr a) bs else twrite s t a bs

/-- How many bytes of a source of `n` bytes are good from its start: up to the first failed line, or the first 64-byte
granule with a parity error. -/
def goodBytes (s : State) (t a n : Nat) : Nat :=
  if inDev a then (match badLineIn s (devAddr a) n with
    | some l => l - devAddr a
    | none => n)
  else if tparity s t a n then
    (((List.range (n / 64)).find? (fun i => tparity s t (a + 64 * i) 64)).getD 0) * 64
  else n

/-- The oldest incomplete move: its place and operation. -/
def oldestMove (x : Tiller) : Option (Nat × Pend) :=
  ((List.range x.pend.length).find? (fun i => (x.pend[i]?).any (fun p => p.op.isMov))).bind
    (fun i => (pendOp x i).map (fun p => (i, p)))

/-- A move ends by a failure at address `a` (R82, R83, R691). -/
def moveFails (s : State) (t i a : Nat) : State :=
  let s := if inDev a then tillerLine s t (devAddr a)
    else parityFail s t i a 64
  if inDev a then imprecise s t i 3 (w64 a) else s

/-- The oldest move completes (R147, R148): its bytes are at the destination and rd = 0; at a line that fails, nothing of
that line or after it is delivered and MEMORY is raised (R83). A destination whose write has to wait keeps it waiting
(R255, R347); a read of a flash frame waits for the mount (R416). A write into a flash tier that takes none fails in the same way as
one into a retired stack (R427, log entry 129). -/
def moveComplete (s : State) (t : Nat) : State :=
  let x := til s t
  match oldestMove x with
  | some (i, .copy rd d r n) =>
    if (inDev d && writeWaits s (devAddr d) n) || (inDev r && flashWaits s (devAddr r) n) then s
    else
      let g := goodBytes s t r n
      if inDev d && writeDown s (devAddr d) then
        imprecise (fadd1 s F.INT_LINE_CNT_STACK 0 1) t i 3 (w64 d)
      else if inDev d && flashShut s (devAddr d) then imprecise s t i 3 (w64 d)
      else
        let s := movWrite s t d (movRead s t r g)
        if g < n then moveFails s t i (r + g)
        else tupd s t (fun x => sset (dropPend x i) rd 0)
  | some (i, .fill rd d pat n) =>
    if inDev d && writeWaits s (devAddr d) n then s
    else if inDev d && writeDown s (devAddr d) then imprecise (fadd1 s F.INT_LINE_CNT_STACK 0 1) t i 3 (w64 d)
    else if inDev d && flashShut s (devAddr d) then imprecise s t i 3 (w64 d)
    else
      let s := movWrite s t d ((List.range (n / 8)).flatMap (fun _ => toBytes 8 pat.toNat))
      tupd s t (fun x => sset (dropPend x i) rd 0)
  | _ => s

def execMoveComplete (t : Fin 512) (s : State) : Host.Outcome State Fault Refusal := .next (moveComplete s t)

end Sys2Proof.Machine
end

