-- ==== Sys2Proof/Machine/Items.lean ====
section
/-!
DEFINITION. Work items: placing, taking, stealing and starting them, image loads, and the end of an item (R108-R117,
R161-R165, R289, R290, R306, R310, R362, R695).
-/

namespace Sys2Proof.Machine

/-! ### Steps in progress -/

def part (s : State) (p : Nat) : Part := nget (fun _ => {}) s.sch.part p

def partPut (s : State) (p : Nat) (x : Part) : State :=
  { s with sch := { s.sch with part := nput (fun _ => {}) s.sch.part p x } }

/-- The step in progress of a partition, when its number is `n`. -/
def stepOf (s : State) (p n : Nat) : Option Step := ((part s p).step).filter (fun k => k.num == n)

def stepPut (s : State) (p : Nat) (k : Step) : State := partPut s p { part s p with step := some k }

def stepHalf (k : Step) (h : Nat) : StepHalf := if h = 0 then k.a else k.b

def setStepHalf (k : Step) (h : Nat) (x : StepHalf) : Step := if h = 0 then { k with a := x } else { k with b := x }

/-! ### The fields of an item (R108) -/

def itId (b : ItemBits) : Nat := bget b 110 18
def itBatch (b : ItemBits) : Bool := bbit b 109
def itLayer (b : ItemBits) : Nat := bget b 97 12
def itScope (b : ItemBits) : Nat := bget b 79 2
def itRes (b : ItemBits) : Nat := bget b 64 15
def itEntry (b : ItemBits) : Nat := bget b 32 32

/-- An item's 128 bits (R108). -/
def mkItem (id : Nat) (batch : Bool) (layer chunk scope entry arg : Nat) : ItemBits :=
  BitVec.ofNat 128 (id % 2 ^ 18 * 2 ^ 110 + b2n batch * 2 ^ 109 + layer % 2 ^ 12 * 2 ^ 97 + chunk % 2 ^ 16 * 2 ^ 81 +
    scope % 4 * 2 ^ 79 + entry % 2 ^ 32 * 2 ^ 32 + arg % 2 ^ 32)

/-! ### Sheaves -/

/-- Tillers of a sheaf. -/
def sheafTillers (h : Nat) : List Nat := (List.range 16).map (fun i => 16 * h + i)

/-- A tiller's T-island is in state RUN (R70). -/
def running (s : State) (t : Nat) : Bool := islState s t == 0

/-- The deque with room and the fewest items among the sheaf's tillers in RUN (R110). -/
def fewest (s : State) (h : Nat) : Option Nat :=
  ((sheafTillers h).filter (fun t => running s t && decide ((til s t).deque.length < 64))).foldl (fun b t => match b with
    | none => some t
    | some u => if (til s t).deque.length < (til s u).deque.length then some t else some u) none

/-- An item is placed at the head of a deque or on the overflow queue (R110, R112); none when everything is full. -/
def placeItem (s : State) (h : Nat) (w : Work) : Option State :=
  match fewest s h with
  | some t => some (tupd s t (fun x => { x with deque := w :: x.deque }))
  | none => if (shf s h).ovf.length < 1024 then some (shupd s h (fun x => { x with ovf := x.ovf ++ [w] })) else none

/-- The dispatcher of a sheaf receives an item. -/
def sendItem (s : State) (h : Nat) (w : Work) : State := shupd s h (fun x => { x with inbox := x.inbox ++ [w] })

/-- The dispatcher places the item it received first; while it holds items, a new one joins them (R110). -/
def execItemDispatch (sh : Fin 32) (s : State) : Host.Outcome State Fault Refusal :=
  match (shf s sh).inbox with
  | [] => .next s
  | w :: r =>
    let s := shupd s sh (fun x => { x with inbox := r })
    if (shf s sh).held.isEmpty then
      match placeItem s sh w with
      | some s => .next s
      | none => .next (shupd s sh (fun x => { x with held := [w] }))
    else .next (shupd s sh (fun x => { x with held := x.held ++ [w] }))

/-- The item held longest is placed once there is room (R110). -/
def execDispatchHeldPlace (sh : Fin 32) (s : State) : Host.Outcome State Fault Refusal :=
  match (shf s sh).held with
  | [] => .next s
  | w :: r =>
    match placeItem s sh w with
    | some s => .next (shupd s sh (fun x => { x with held := r }))
    | none => .next s

/-- The items on a RETIRED tiller's deque move to its sheaf's overflow queue while it has room, the tail item first; the others wait
(R117; the order is a DESIGN CHOICE, log entry 118). -/
def spill (s : State) (t : Nat) : State :=
  let r := (til s t).deque.reverse
  let n := 1024 - (shf s (sheafOf t)).ovf.length
  if islState s t ≠ 3 ∨ r.isEmpty then s
  else tupd (shupd s (sheafOf t) (fun x => { x with ovf := x.ovf ++ r.take n })) t (fun x => { x with deque := (r.drop n).reverse })

/-- The overflow queue of a sheaf may have room again for items that wait on RETIRED tillers' deques (R117). -/
def spillSheaf (s : State) (h : Nat) : State := (sheafTillers h).foldl spill s

/-- Items of a sheaf in all: deques of its tillers in RUN, and its overflow queue (R695). -/
def sheafLoad (s : State) (h : Nat) : Nat :=
  ((sheafTillers h).filter (running s)).foldl (fun n t => n + (til s t).deque.length) (shf s h).ovf.length

/-- The sheaf of a set that an item goes to (R695). -/
def chooseSheaf (s : State) (l : List Nat) : Option Nat :=
  let ok := l.filter (fun h => (sheafTillers h).any (running s))
  if ok.isEmpty then l.head?
  else ok.foldl (fun b h => match b with
    | none => some h
    | some g => if sheafLoad s h < sheafLoad s g then some h else some g) none

/-- An item is pushed to a set of sheaves; nothing is pushed to an empty set. -/
def pushToSet (s : State) (l : List Nat) (w : Work) : State :=
  match chooseSheaf s l with
  | some h => sendItem s h w
  | none => s

/-! ### Partitions' sheaves (R278, R306) -/

/-- Sheaves of a partition in ascending order. -/
def partSheaves (s : State) (p : Nat) : List Nat :=
  (List.range 32).filter (fun h => bits (fget s F.SCH_PART_CTL_SHEAVES p) h 1 == 1)

/-- The order of R306: by number within the half, half A first at each number. -/
def ratioOrder (s : State) (p : Nat) : List Nat :=
  let l := partSheaves s p
  (List.range 16).flatMap (fun i => (if l.contains i then [i] else []) ++ (if l.contains (16 + i) then [16 + i] else []))

/-- Sheaves doing prompt work when the first `n` do (R306). -/
def promptSheaves (s : State) (p n : Nat) : List Nat := (ratioOrder s p).take n

/-- Kind of work that sheaf `h` does in a step in progress of partition `p`: 1 prompt, 2 generation, 0 either. -/
def sheafKind (s : State) (p : Nat) (k : Step) (h : Nat) : Nat :=
  if !standalone s then 0 else if (promptSheaves s p k.p).contains h then 1 else 2

/-! ### What a tiller may take (R113, R114, R117, R164, R362) -/

/-- The window of the item's partition lets it start (R362); items of no step are never held. -/
def windowLets (s : State) (w : Work) : Bool :=
  if w.step = 0 then true
  else match partWin s w.part with
    | some k => layerReady s k (itLayer w.bits) w.step
    | none => true

/-- The tiller has no usable image for the item's partition (R164): of the step whose image failed it runs no item, and no item of
the partition that belongs to no step. -/
def imageBarred (x : Tiller) (w : Work) : Bool := match nfind x.noImg w.part with
  | some n => w.step == 0 || w.step == n
  | none => false

/-- The tiller may run the item. -/
def mayRun (s : State) (t : Nat) (w : Work) : Bool := windowLets s w && !imageBarred (til s t) w

/-- The image that the item's step needs (R163, R285). An item of no step needs none and starts on what the tiller holds
(DESIGN CHOICE, log entry 121). -/
def imageNeeded (s : State) (w : Work) : Option Nat :=
  if w.step = 0 then none else ((stepOf s w.part w.step).map (fun k => k.image * 65536))

/-- The tiller holds the image the item needs (R163): images are told apart by their home address alone (DESIGN CHOICE, log entry
121). -/
def imageHeld (s : State) (t : Nat) (w : Work) : Bool :=
  match imageNeeded s w with
  | none => true
  | some a => (til s t).img.any (fun g => g.home == a)

/-- The thief may take the item from sheaf `v` (R114, R278, R306). -/
def thiefMay (s : State) (t v : Nat) (w : Work) : Bool :=
  let h := sheafOf t
  let lim := fget s F.TIL_CTL_THIEF_SCOPE t
  let dist := if v = h then 2 else if v / 16 = h / 16 then 1 else 0
  decide (lim ≤ dist) && decide (itScope w.bits ≤ dist) && mayRun s t w &&
  (w.step == 0 ||
    ((partSheaves s w.part).contains h &&
      (match stepOf s w.part w.step with
       | some k => sheafKind s w.part k h == 0 || w.kind == 0 || sheafKind s w.part k h == w.kind
       | none => true)))

/-- The first item of a list that satisfies a test, and the list without it. -/
def takeFirst (f : Work → Bool) : List Work → Option (Work × List Work)
  | [] => none
  | w :: r => if f w then some (w, r) else (takeFirst f r).map (fun q => (q.1, w :: q.2))

/-- The last item of a list that satisfies a test, and the list without it. -/
def takeLast (f : Work → Bool) (l : List Work) : Option (Work × List Work) :=
  (takeFirst f l.reverse).map (fun q => (q.1, q.2.reverse))

/-- One bit for each pipe that holds an incomplete instruction; a load is in the scalar or the vector pipe (TIL_STAT). -/
def pipesBusy (x : Tiller) : Nat :=
  let has (f : Pend → Bool) : Nat := b2n (x.pend.any (fun p => f p.op))
  let scalar (p : Pend) : Bool := match p with
    | .load _ _ _ => true
    | _ => false
  let vector (p : Pend) : Bool := match p with
    | .vload _ _ _ => true
    | .vword _ _ _ => true
    | _ => false
  has scalar + 2 * has vector + 4 * has Pend.isArray + 8 * has Pend.inMovePipe

/-- A tiller looks for an item: it is in RUN, runs none and has none taken. -/
def looking (s : State) (t : Nat) : Bool :=
  let x := til s t
  running s t && x.item.isNone && x.taken.isNone && x.loading.isNone

/-- What TIL_STAT shows of a tiller that is not RETIRED. -/
def tilStat (s : State) (t : Nat) : Nat :=
  let x := til s t
  islState s t + 16 * b2n x.item.isSome + 32 * b2n (looking s t) + 256 * pipesBusy x

/-- The image of an item's partition starts to load from home `a` (R163). -/
def loadStart (s : State) (t a : Nat) (w : Work) : State :=
  tupd s t (fun x => { x with loading := some (a, 0), loadFor := (w.part, w.step) })

/-- Items held back by a window count in GATED (R362, TIE_WINw_STAT). -/
def gated (s : State) (w : Work) : State :=
  if windowLets s w then s
  else match partWin s w.part with
    | some k => fadd1 s F.TIE_WIN_STAT_GATED k 1
    | none => s

/-- The next item is taken from the tiller's own deque or its sheaf's overflow queue (R112 steps 1 and 2), or the image it
needs starts to load while it stays where it is (R163); else the search goes on with steals. An item that the tiller may not run
now stays, and the next one is looked at (DESIGN CHOICE, log entry 117). -/
def itemTake (s : State) (t : Nat) : State :=
  if !looking s t then s
  else
    let x := til s t
    let h := sheafOf t
    let need (w : Work) : Option Nat := if imageHeld s t w then none else imageNeeded s w
    match takeFirst (mayRun s t) x.deque with
    | some (w, r) =>
      (match need w with
       | some a => loadStart s t a w
       | none => tupd s t (fun x => { x with deque := r, taken := some w, search := 0 }))
    | none =>
      (match takeFirst (mayRun s t) (shf s h).ovf with
       | some (w, r) =>
         (match need w with
          | some a => loadStart s t a w
          | none => spillSheaf (tupd (shupd s h (fun q => { q with ovf := r })) t (fun x => { x with taken := some w, search := 0 })) h)
       | none => tupd (x.deque.foldl gated s) t (fun x => { x with search := 3 }))

def execItemTake (t : Fin 512) (s : State) : Host.Outcome State Fault Refusal := .next (itemTake s t)

/-- Tillers of sheaf `v` whose deques hold an item the thief may take (R113, R114). -/
def victims (s : State) (t v : Nat) : List Nat :=
  (sheafTillers v).filter (fun u => u != t && fbit s F.TIL_CTL_VICTIM_EN u && (til s u).deque.any (thiefMay s t v))

/-- Sheaves that hold an item the thief may take. -/
def victimSheaves (s : State) (t : Nat) (l : List Nat) : List Nat :=
  l.filter (fun v => !(victims s t v).isEmpty || (shf s v).ovf.any (thiefMay s t v))

/-- A stolen item reaches the thief: taken, or at the head of its deque while its image has to be loaded first (R163). -/
def stolen (s : State) (t : Nat) (w : Work) : State :=
  if imageHeld s t w then tupd s t (fun x => { x with taken := some w, search := 0 })
  else tupd s t (fun x => { x with deque := w :: x.deque, search := 0 })

/-- A steal from one deque of sheaf `v`, chosen uniformly at random (R113): of its items that the thief may take, the one nearest the
tail (DESIGN CHOICE, log entry 117). -/
def stealDeque (s : State) (t v : Nat) (f : Fld) : State :=
  let l := victims s t v
  let u := l.getD (drawOf s 10 % max l.length 1) 0
  match takeLast (thiefMay s t v) (til s u).deque with
  | some (w, r) =>
    let s := tcount (tupd (bump s) u (fun x => { x with deque := r })) F.TIL_STEALS_STOLEN u 1
    stolen (fadd1 s f t 1) t w
  | none => s

/-- A steal from another sheaf: the oldest overflow item first (R113). -/
def stealSheaf (s : State) (t : Nat) (vs : List Nat) (f : Fld) : State :=
  let v := vs.getD (drawOf s 11 % max vs.length 1) 0
  match takeFirst (thiefMay s t v) (shf s v).ovf with
  | some (w, r) => spillSheaf (stolen (fadd1 (shupd (bump s) v (fun x => { x with ovf := r })) f t 1) t w) v
  | none => stealDeque (bump s) t v f

/-- A steal at the step of R112 that the search has reached; a step that finds nothing passes the search on, and after
the last it begins anew (R112, R116). -/
def steal (s : State) (t : Nat) : State :=
  let x := til s t
  let h := sheafOf t
  if !looking s t ∨ x.search < 3 then s
  else if x.search = 3 then
    if (victims s t h).isEmpty then tupd s t (fun x => { x with search := 4 }) else stealDeque s t h F.TIL_STEALS_SHEAF
  else if x.search = 4 then
    let vs := victimSheaves s t ((List.range 32).filter (fun v => v / 16 == h / 16 && v != h))
    if vs.isEmpty then tupd s t (fun x => { x with search := 5 }) else stealSheaf s t vs F.TIL_STEALS_HALF
  else
    let vs := if s.twin.lost then [] else victimSheaves s t ((List.range 32).filter (fun v => v / 16 != h / 16))
    if vs.isEmpty then tupd s t (fun x => { x with search := 1 }) else stealSheaf s t vs F.TIL_STEALS_DEVICE

def execSteal (t : Fin 512) (s : State) : Host.Outcome State Fault Refusal := .next (steal s t)

/-! ### Starting an item (R109, R161, R165) -/

/-- The item taken starts: s1 and s2 hold it, the other registers are 0, the acc tiles keep their values; an ENTRY
outside the code area raises ADDRESS before the first instruction (R165). -/
def itemStart (s : State) (t : Nat) : State :=
  match (til s t).taken with
  | none => s
  | some w =>
    if !(running s t && mayRun s t w && imageHeld s t w && (til s t).item.isNone) then s
    else
      let c := tcyc s t
      let entry := itEntry w.bits
      let n := s.stamp
      let s := { s with stamp := s.stamp + 1 }
      let s := tupd s t (fun x =>
        { x with
          item := some w, taken := none, start := n, s := [], v := [], p := [], pc := w64 entry,
          itemCyc := c, busyCyc := c, idleCyc := 0, search := 0, pend := [], suppressed := 0, seq := 0, late := false, grants := [] })
      let s := tupd s t (fun x => sset (sset x 1 (w64 (bget w.bits 0 64))) 2 (w64 (bget w.bits 64 64)))
      if inCode (til s t) entry then s
      else raise s t { code := 2, precise := true, pc := w64 entry, instr := 0, addr := w64 entry }

def execItemStart (t : Fin 512) (s : State) : Host.Outcome State Fault Refusal := .next (itemStart s t)

/-! ### Image loads (R162-R164) -/

/-- An image header that is right (R162). A CODE_LEN that is no multiple of 8, or an image above 256 KiB, is a fault as well (DESIGN
CHOICE, log entry 122). -/
def headerOk (s : State) (a : Nat) : Bool :=
  let code := memNat s (a + 8) 4
  let data := memNat s (a + 12) 4
  memNat s a 4 == 0x43524953 && memNat s (a + 4) 2 == 1 && memNat s (a + 6) 2 == 0 && code % 8 == 0 &&
    memNat s (a + 24) 40 == 0 && decide (64 + code + data ≤ 262144)

/-- The tiller keeps no image and runs no item of the partition; the IMAGE record (R164). -/
def imageFault (s : State) (t a : Nat) : State :=
  let s := event s 0x24 2 t 1 a 0 0 (memNat s (a + 16) 8)
  tupd s t (fun x => { x with img := none, loading := none, noImg := nset x.noImg x.loadFor.1 x.loadFor.2 })

/-- The load of an image into local SRAM ends: it is resident, or a line fails and it is loaded once more, or it is
faulty (R163, R164, R83). -/
def imageLoad (s : State) (t : Nat) : State :=
  match (til s t).loading with
  | none => s
  | some (a, n) =>
    let len := roundUp (64 + memNat s (a + 8) 4 + memNat s (a + 12) 4) 64
    match badLineIn s a (min len 262144) with
    | some l =>
      let s := lineFailure s 3 1 l
      if n = 0 then tupd s t (fun x => { x with loading := some (a, 1) }) else imageFault s t a
    | none =>
      if !headerOk s a then imageFault s t a
      else
        let g : Img := { home := a, codeLen := memNat s (a + 8) 4, dataLen := memNat s (a + 12) 4, id := w64 (memNat s (a + 16) 8) }
        let bs := memBytes s a len
        tupd s t (fun x => { localWrite x 0 bs with img := some g, loading := none, noImg := nerase x.noImg x.loadFor.1 })

def execImageLoad (t : Fin 512) (s : State) : Host.Outcome State Fault Refusal := .next (imageLoad s t)

/-! ### The end of an item (R112, R160, R167, R290, R310) -/

/-- Where batch record `id` lies: bits [17:2] its partition, bit 1 its half, bit 0 the parity of its step (R303, R304). -/
def batchAddr (s : State) (id : Nat) : Nat :=
  let p := id / 4 % 8
  let base := match (part s p).step with
    | some k => if k.num % 2 = id % 2 then k.batch else fget s F.SCH_BATCH_BASE_BASE p
    | none => fget s F.SCH_BATCH_BASE_BASE p
  base * 65536 + id % 4 * 65536

/-- Contexts that a batch record names, with their INCARNATIONs (R304). -/
def batchContexts (s : State) (id : Nat) : List (Nat × Nat) :=
  let a := batchAddr s id
  (List.range (min (memNat s (a + 8) 2) 4096)).map (fun i => (memNat s (a + 64 + 8 * i) 4 % 2 ^ 18, memNat s (a + 68 + 8 * i) 2))

/-- Contexts an item names (R310): its ID, or every context of its batch record. -/
def itemContexts (s : State) (w : Work) : List Nat :=
  if itBatch w.bits then
    ((batchContexts s (itId w.bits)).filter (fun e => named s e.1 e.2)).map (·.1)
  else [itId w.bits]

/-- Half that an item of a step belongs to: of its context, or of its batch record. -/
def itemHalf (w : Work) : Nat := if itBatch w.bits then itId w.bits / 2 % 2 else itId w.bits / 131072 % 2

/-- Items of a half's tillers and sheaves. -/
def worksIn (s : State) (h : Nat) : List Work :=
  (s.til.filter (fun e => e.1 / 256 == h)).flatMap (fun e =>
      e.2.item.toList ++ e.2.taken.toList ++ e.2.pushing.toList ++ e.2.deque) ++
    (s.shf.filter (fun e => e.1 / 16 == h)).flatMap (fun e => e.2.inbox ++ e.2.held ++ e.2.ovf)

/-- An item ends by an exception: the contexts it names (R310, R312). -/
def faultContexts (s : State) (w : Work) (code : Nat) : State :=
  (itemContexts s w).foldl (fun s c =>
    let x := cx s c
    let s := cxPut s c { x with fault := true, exc := if code ≠ 3 ∧ x.exc = 0 then code else x.exc }
    if code = 3 ∧ dg x.d D.STATE = stDECODE then dmod s c (fun d => ds d D.KV_BAD 1) else s) s

/-- The count of unended items of a step changes by one at the start of an item (R290). -/
def stepAdd (s : State) (w : Work) : State :=
  if w.step = 0 then s
  else match stepOf s w.part w.step with
    | none => s
    | some k => stepPut s w.part { k with
        items := k.items + 1
        open' := nupd (fun _ => 0) k.open' (itLayer w.bits) (· + 1) }

/-- An item of a step has ended; `cyc` thousandths of T-cycles ran on sheaf `h`, counted in whole T-cycles (R290, R307, R363). -/
def stepSub (s : State) (w : Work) (h cyc : Nat) : State :=
  if w.step = 0 then s
  else match stepOf s w.part w.step with
    | none => s
    | some k =>
      let l := itLayer w.bits
      let gen := sheafKind s w.part k h == 2
      stepPut s w.part { k with
        items := k.items - 1
        open' := nupd (fun _ => 0) k.open' l (· - 1)
        ended := if k.ended.contains l then k.ended else k.ended ++ [l]
        wp := if gen then k.wp else k.wp + cyc / 1000
        wg := if gen then k.wg + cyc / 1000 else k.wg }

/-- Slots of a window that hold a layer no item of the step can still need are released (R363); a resident window keeps
every slot (R364). -/
def releaseSlots (s : State) (p n : Nat) : State :=
  match partWin s p, stepOf s p n with
  | some w, some k =>
    if winResident s w then s
    else
      let done (x : WinSlot) : Bool :=
        x.st == 2 && x.pass == n && k.ended.contains x.layer && k.open'.all (fun e => e.2 == 0 || decide (x.layer < e.1))
      winPut s w { win s w with slots := (win s w).slots.filter (fun e => !done e.2) }
  | _, _ => s

/-- An attention item ends: the front end notes its status (R272). -/
def attEnd (s : State) (w : Work) (status : Nat) (exc : Bool) : State :=
  if w.slot = 0 then s
  else match nfind s.bnk.slots (w.slot - 1) with
    | none => s
    | some q =>
      let st := if exc then 255 else status
      let q := { q with items := q.items - 1, bad := if q.bad = 0 then st else q.bad, kvBad := q.kvBad || st == 6 }
      { s with bnk := { s.bnk with slots := nset s.bnk.slots (w.slot - 1) q } }

/-- The running item ends with a status, or with an exception of some code (0 none): counts, step, contexts, attention
slot; the tiller is idle and frames whose wait is over return (R112, R160, R167, R196, R290). -/
def itemEnd (s : State) (t status code : Nat) : State :=
  match (til s t).item with
  | none => s
  | some w =>
    let c := tcyc s t
    let spent := c - (til s t).itemCyc
    let s := tcount (busyFix s t) F.TIL_ITEMS_COUNT t 1
    let s := tupd s t (fun x => { x with item := none, exc := none, suppressed := 0, atBar := none, search := 1, idleCyc := c })
    let s := if code = 0 then s else faultContexts s w code
    let s := releaseSlots (stepSub s w (sheafOf t) spent) w.part w.step
    let s := attEnd s w status (code != 0)
    reap s

end Sys2Proof.Machine
end

