-- ==== Sys2Proof/Machine/Banks.lean ====
section
/-!
DEFINITION. Stacks: BNK.STROKE and the checks of its command (R234, R244), the queue of sequences (R245), strokes and
their row steps (R241-R262), outside access at yield points (R251-R256) and refresh (R257-R259).
-/

namespace Sys2Proof.Machine

/-! ### BNK.STROKE (R153, R234, R239) -/

/-- The first line or granule of a range of tiller memory that fails its check. -/
def rangeFail (s : State) (t a n : Nat) : Option Nat :=
  let g := goodBytes s t a n
  if n = 0 ∨ n ≤ g then none else some (a + g)

/-- The command as the engine receives it: header, query block and column list read at the issue. -/
def readCommand (s : State) (t id ra rb : Nat) : Arrival :=
  let a : Arrival := { til := t, id := id, ra := ra, rb := rb }
  if !inMap s ra 64 || farDev s t ra then { a with addrBad := true }
  else
    let h := movRead s t ra 64
    let hf := ofBytes h
    let op := bits hf 0 8
    let qa := ra + bits hf 320 32
    let qn := if op = 1 then bits hf 24 8 * dimOf (bits hf 16 8 % 4) * 2 else 0
    let ca := ra + bits hf 352 32
    let cn := if op = 2 then 0 else 16 * min (bits hf 48 16) 2048
    let span := ((List.range 64).takeWhile (fun i => op == 2 && inMap s (qa + 64 * i) 64 && !farDev s t (qa + 64 * i))).length * 64
    if (qn ≠ 0 ∧ (!inMap s qa qn || farDev s t qa)) ∨ (cn ≠ 0 ∧ (!inMap s ca cn || farDev s t ca)) then { a with head := h, addrBad := true }
    else
      let fail := ((rangeFail s t ra 64).orElse (fun _ => rangeFail s t qa qn)).orElse (fun _ => rangeFail s t ca cn)
      { a with
        head := h, query := if qn + span = 0 then [] else movRead s t qa (qn + span)
        cols := if cn = 0 then [] else movRead s t ca cn, fail := fail, qfail := rangeFail s t qa span }

/-- The ranges of tiller addresses that a command reads, and those its results take: address, length, written. -/
def strokeRanges (a : Arrival) : List (Nat × Nat × Bool) :=
  let h := ofBytes a.head
  let op := bits h 0 8
  let res := if op = 1 ∨ op = 2 then bits h 24 8 * bits h 160 32 else if op = 5 then 64 * bits h 48 16 else 0
  [(a.ra, 64, false), (a.ra + bits h 320 32, a.query.length, false), (a.ra + bits h 352 32, a.cols.length, false), (a.rb, res, true)]

def execBnkStroke (t : Fin 512) (b : BitVec 54) (s : State) : Host.Outcome State Fault Refusal :=
  let x := til s t
  .next (issue s t 0x1A1 b false (zeros [fXRC b, fXPD b, fXIMM b])
    (freeS x [fXRD b, fXRA b, fXRB b] && movePipeFree x)
    (fun s =>
      let id := s.fresh
      let x := til s t
      let a := readCommand s t id (sreg x (fXRA b)).toNat (sreg x (fXRB b)).toNat
      if sramWait x.pend a.ra 64 false || sramBusy x.pend (strokeRanges a) then s
      else
        let s := { bump s with bnk := { s.bnk with arr := nset s.bnk.arr id a } }
        pushPend s t 0x1A1 b (.ask (fXRD b) id (strokeRanges a))))

/-! ### Checks of a command (R244) -/

/-- Codes of R247. -/
def bkDONE : Nat := 0
def bkFORMAT : Nat := 1
def bkLAYOUT : Nat := 2
def bkTOOLONG : Nat := 3
def bkNOTRES : Nat := 4
def bkCONTEXT : Nat := 5
def bkBADLINE : Nat := 6
def bkEMPTY : Nat := 7
def bkDOWN : Nat := 8

/-- A column list entry (R234). -/
def colOf (bs : List Byte) (i : Nat) : Col :=
  let n := ofBytes ((bs.drop (16 * i)).take 16)
  { fa := bits n 0 32, fb := bits n 32 32, sa := bits n 64 24, sb := bits n 88 24, arg := bits n 112 16 }

/-- The header's fields and the query block keep the rules of R234, as far as no descriptor is needed, and the results stay
out of the image area (R162; DEDUCED, log entry 52); `h` is the header as a number. -/
def headOk (s : State) (a : Arrival) (h : Nat) : Bool :=
  let b (i : Nat) := bits h (8 * i) 8
  let op := b 0
  let att := op == 1
  let span := op == 2
  let g := b 3
  let d := dimOf (b 2)
  let ncol := bits h 48 16
  let hs := bits h 160 32
  let res := if att || span then g * hs else if op = 5 then 64 * ncol else 0
  decide (1 ≤ op) && decide (op ≤ 5) &&
  (if att || op == 3 then decide (b 1 ≤ 2) && decide (b 2 ≤ 2) else b 1 == 0 && b 2 == 0) &&
  (if att || span then decide (1 ≤ g) && decide (g ≤ 32) && (span || decide (g * d ≤ 2048)) else g == 0) &&
  (if span then b 4 == 0 else decide (b 4 < 8)) &&
  (if att || span then decide (1 ≤ b 5) && decide (b 5 ≤ 16) else b 5 == 0) &&
  (!span || ncol == 0) && hs % 64 == 0 && bits h 210 14 == 0 &&
  (span || bits h 192 32 == 0) &&
  (op == 4 || bits h 256 64 == 0) && bits h 320 32 % 64 == 0 && bits h 352 32 % 64 == 0 &&
  (!span || bits h 352 32 == 0) && bits h 384 128 == 0 && a.ra % 64 == 0 &&
  (res == 0 || (a.rb % 64 == 0 && inMap s a.rb res && !farDev s a.til a.rb && decide (imageEnd (til s a.til) ≤ a.rb)))

/-- The entries of a column list keep the rules of R234. -/
def colOk (op fmt dim : Nat) (c : Col) : Bool :=
  match op with
  | 1 => fmt == 2 || (c.sa == 0 && c.sb == 0)
  | 3 => c.sa == 0 && c.sb == 0 && decide (c.arg ≤ slotsOf fmt dim)
  | _ => c.fb == 0 && c.sa == 0 && c.sb == 0 && c.arg == 0

/-- Distinct values in order of first appearance. -/
def distinct (l : List Nat) : List Nat := l.foldl (fun a x => if a.contains x then a else a ++ [x]) []

/-- Rows in which frames lie: the row group of each (R223). -/
def rowsOf (fs : List Nat) : List Nat := distinct (fs.map (· / 16))

/-- Slots in one granule (R224). -/
def sigma (fmt dim : Nat) : Nat := 128 / ((if fmt = 2 then dimOf dim / 4 else dimOf dim))

/-- What R241 adds for one block of an attention stroke. -/
def blockPlan (g fmt dim : Nat) (cols : List Col) : Nat :=
  let d := dimOf dim
  let rows := (rowsOf (cols.map (·.fa))).length + (rowsOf (cols.map (·.fb))).length
  cdiv (g * d) 64 + max (sigma fmt dim * cols.length * g * d / 32) (192 * rows)

/-- Planned length of a stroke of COPY, FILL or CHECK (R241). -/
def writePlan (op : Nat) (cols : List Col) : Nat :=
  let src := (rowsOf (cols.map (·.fa))).length
  let rows := match op with
    | 3 => src + 2 * (rowsOf (cols.map (·.fb))).length
    | 4 => 2 * src
    | _ => src
  16 + 192 * rows

/-- Columns grouped into blocks, in list order (R237). -/
def blocksOf (block : Nat) : List Col → List (List Col)
  | [] => []
  | c :: r =>
    match blocksOf block r with
    | [] => [[c]]
    | [] :: bs => [c] :: bs
    | (e :: b) :: bs => if c.arg / block = e.arg / block then (c :: e :: b) :: bs else [c] :: (e :: b) :: bs

/-- The parts a sequence may not be cut inside (R242). -/
def unitsOf (q : Seq) (cols : List Col) : List (List Col) :=
  if q.op = 1 then blocksOf (max q.block 1) cols else cols.map (fun c => [c])

/-- Planned length of a stroke made of some units (R241). -/
def planOf (q : Seq) (us : List (List Col)) : Nat :=
  if q.op = 1 then 16 + (us.map (blockPlan q.g q.fmt q.dim)).foldl (· + ·) 0 else writePlan q.op us.flatten

/-- A stroke of some units satisfies R242. -/
def strokeFits (q : Seq) (us : List (List Col)) : Bool :=
  decide (planOf q us ≤ 1600) && (q.op != 1 || us.all (fun u => decide (sigma q.fmt q.dim * u.length ≤ 2048 / max q.g 1))) &&
  (q.fmt != 2 || decide (us.flatten.length ≤ 8))

/-- A listed column holds an attended position. -/
def colAttended (q : Seq) (c : Col) : Bool :=
  let S := slotsOf q.fmt q.dim
  decide (max (c.arg * S) q.posStart < min ((c.arg + 1) * S) q.posEnd)

/-- A frame of the column list lies in the sequence's stack. -/
def inStack (q : Seq) (f : Nat) : Bool := f / 2 ^ 21 == q.stack && decide (f % 2 ^ 21 ≤ 1220703)

/-- Statuses 5 to 8 of the order of R244, for a sequence whose columns are known; 0 when it may run. -/
def lateChecks (s : State) (til : Nat) (q : Seq) : Nat :=
  let att := q.op == 1
  let layout := q.cols.any (fun c => !inStack q c.fa || ((att || q.op == 3) && !inStack q c.fb)) ||
    (att && (decide (q.fmt ≤ 1) && q.dim == 2)) || (att && decide (q.hstride < 4096 + 2048 * dimOf q.dim))
  if layout then bkLAYOUT
  else if (unitsOf q q.cols).any (fun u => !strokeFits q [u]) then bkTOOLONG
  else if att && !q.cols.any (colAttended q) then bkEMPTY
  else if fget s F.BNK_STK_STAT_STATE q.stack ≠ 0 ∨ (s.twin.lost ∧ q.stack / 4 ≠ halfOf til) then bkDOWN
  else 0

/-- BF16 query elements converted (R232). -/
def queryOf (bs : List Byte) (n scale : Nat) : List Nat :=
  (List.range n).map (fun i => queryElem (ofBytes ((bs.drop (2 * i)).take 2)) scale)

/-- The sequence of a command without a context, or its rejection. -/
def plainSeq (s : State) (a : Arrival) (h : Nat) : Nat ⊕ Seq :=
  let b (i : Nat) := bits h (8 * i) 8
  let n := bits h 48 16
  let cols := (List.range n).map (colOf a.cols)
  let q : Seq := {
    op := b 0, fmt := b 1, dim := b 2, g := b 3, stack := b 4, block := b 5, posStart := bits h 64 32
    posEnd := bits h 96 32, scale := bits h 128 32, hstride := bits h 160 32, pattern := bits h 256 64
    query := if b 0 = 1 then queryOf a.query (b 3 * dimOf (b 2)) (bits h 128 32) else []
    cols := cols, til := a.til, id := a.id, rb := a.rb }
  let rising (l : List Nat) : Bool := (List.zip l (l.drop 1)).all (fun e => decide (e.1 < e.2))
  let dst := if q.op = 3 then (rowsOf (cols.map (·.fb))).length else if q.op = 4 then (rowsOf (cols.map (·.fa))).length else 0
  if n < 1 ∨ 2048 < n ∨ !cols.all (colOk q.op q.fmt q.dim) ∨ (q.op = 1 ∧ !rising (cols.map (·.arg))) ∨ 1024 < dst then .inl bkFORMAT
  else match lateChecks s a.til q with
    | 0 => .inr q
    | e => .inl e

/-- Bytes of the query block that an ATTN.SPAN names, with D from the context's descriptor (R234, R235). -/
def spanQuery (s : State) (h : Nat) : Nat := 2 * bits h 24 8 * dimOf (dg (cx s (bits h 192 18)).d D.DIM)

/-- The sequence of ATTN.SPAN (R235), or its rejection. -/
def spanSeq (s : State) (a : Arrival) (h : Nat) : Nat ⊕ Seq :=
  let b (i : Nat) := bits h (8 * i) 8
  let c := bits h 192 18
  let inc := bits h 224 16
  let x := cx s c
  let d := x.d
  let st := dg d D.STATE
  let D' := dimOf (dg d D.DIM)
  let lo := bits h 64 32
  let hi := bits h 96 32
  if a.query.length < spanQuery s h then .inl bkFORMAT
  else if !named s c inc ∨ !(st == stREADY || st == stDECODE) ∨ (s.twin.lost ∧ ctxHalf c ≠ halfOf a.til) then .inl bkCONTEXT
  else
    let S := max (dSlots d) 1
    let stream := (b 30 * (dg d D.KVH_M1 + 1) + b 31) * 2
    let c0 := lo / S
    let c1 := (hi - 1) / S
    if dg d D.LAYERS_M1 < b 30 ∨ dg d D.KVH_M1 < b 31 ∨ 2048 < b 3 * D' ∨ (lo < hi ∧ dg d D.PPS ≤ c1) then .inl bkFORMAT
    else
      let cs := if lo < hi then (List.range (c1 + 1 - c0)).map (· + c0) else []
      let es := cs.map (fun k => (k, ptGet s d (pageOf d stream k), ptGet s d (pageOf d (stream + 1) k)))
      let gone (e : Word) : Bool := !pV e || pLost e || pTier e != 0
      if es.any (fun e => gone e.2.1 || gone e.2.2) then .inl bkNOTRES
      else
        let cols := es.map (fun e => ({ fa := pFrame e.2.1, fb := pFrame e.2.2, sa := pSide e.2.1, sb := pSide e.2.2, arg := e.1 } : Col))
        let stack := match cols with
          | k :: _ => k.fa / 2 ^ 21
          | [] => 0
        let q : Seq := {
          op := 1, fmt := dg d D.FMT, dim := dg d D.DIM, g := b 3, stack := stack, block := b 5, posStart := lo, posEnd := hi
          scale := bits h 128 32, hstride := bits h 160 32, span := true, cid := c, inc := inc, stream := stream
          query := queryOf a.query (b 3 * D') (bits h 128 32), cols := cols, til := a.til, id := a.id, rb := a.rb }
        match lateChecks s a.til q with
        | 0 => .inr q
        | e => .inl e

/-- The engine checks a command: it is rejected with a status in rd, or its sequence takes or awaits a place in the
stack's queue (R244, R245). -/
def commandCheck (s : State) (k : Nat) : State :=
  match nfind s.bnk.arr k with
  | none => s
  | some a =>
    let s := { s with bnk := { s.bnk with arr := nerase s.bnk.arr k } }
    let h := ofBytes a.head
    let qfail := a.qfail.filter (fun l => decide (l < a.ra + bits h 320 32 + spanQuery s h))
    match a.fail.orElse (fun _ => qfail), askAt s a.til a.id with
    | some l, some (i, _) => moveFails s a.til i l
    | _, _ =>
      let bad := a.addrBad && !(bits h 0 8 == 2)
      let reject (e : Nat) : State :=
        askDone (fadd1 s F.BNK_STROKES_REJECTED (bits h 32 3) 1) a.til a.id (w64 e)
      if bad || a.head.isEmpty || !headOk s a h then reject bkFORMAT
      else match (if bits h 0 8 = 2 then spanSeq s a h else plainSeq s a h) with
        | .inl e => reject e
        | .inr q => enqueueSeq s q

def execStrokeCommandCheck (k : Nat) (s : State) : Host.Outcome State Fault Refusal := .next (commandCheck s k)

/-- A waiting sequence takes a queue place that is free (R245). -/
def queueEntry (s : State) (st : Nat) : State :=
  stkUpd s st (fun x => match x.wait with
    | q :: r => if x.queue.length < 64 then { x with queue := x.queue ++ [q], wait := r } else x
    | [] => x)

def execStrokeQueueEntry (st : Fin 8) (s : State) : Host.Outcome State Fault Refusal := .next (queueEntry s st)

/-! ### Granules -/

/-- Address of granule `k` of a stack frame: it lies in bank `k` (R222). -/
def granAddr (f k : Nat) : Nat := f * 65536 + 128 * k

/-- A granule as it stands: its 1,024 bits, and above them a mask of its lines that fail their checks. -/
def granule (s : State) (a : Nat) : Nat :=
  memNat s a 128 + (b2n (!lineOk s a) + 2 * b2n (!lineOk s (a + 64))) * 2 ^ 1024

/-- Lines of a granule that failed. -/
def granBad (a g : Nat) : List Nat :=
  (if bits g 1024 1 = 1 then [a] else []) ++ (if bits g 1025 1 = 1 then [a + 64] else [])

/-- A granule as the running stroke read it (R254). -/
def captured (x : Stk) (a : Nat) : Nat := nget (fun _ => 0) x.cap a

/-- Granules that hold a byte of a slot below `u` (R235). -/
def copyGranules (q : Seq) (u : Nat) : Nat :=
  cdiv (u * (if q.fmt = 2 then dimOf q.dim / 4 else dimOf q.dim)) 128

/-- One row step of a stroke: frames that it reads, or frames of a destination row that it copies into a scratch row, each of them
for the banks below some number (R248, R251). -/
inductive RowStep where
  | read (fs : List Nat)
  | scratch (fs : List Nat) (banks : Nat)
  deriving DecidableEq, Repr

/-- The row steps of a stroke, in order; a destination row takes one of its own. -/
def rowSteps (q : Seq) (cols : List Col) : List RowStep :=
  let steps (fs : List Nat) : List RowStep := (rowsOf fs).map (fun r => .read (distinct (fs.filter (fun f => f / 16 == r))))
  let dest (fs : List (Nat × Nat)) : List RowStep := (rowsOf (fs.map (·.1))).map (fun r =>
    .scratch ((List.range 16).map (16 * r + ·)) (((fs.filter (fun f => f.1 / 16 == r)).map (·.2)).foldl max 0))
  match q.op with
  | 1 => (unitsOf q cols).flatMap (fun u => steps (u.map (·.fa)) ++ steps (u.map (·.fb)))
  | 3 => steps (cols.map (·.fa)) ++ dest (cols.map (fun c => (c.fb, copyGranules q c.arg)))
  | 4 => dest (cols.map (fun c => (c.fa, 512)))
  | _ => steps (cols.map (·.fa))

/-- Bank `k` captures its granules of some frames, or notes the lines of a destination row that fail their checks (R260). -/
def capture (s : State) (st k : Nat) : RowStep → State
  | .read fs =>
    let new := fs.map (fun f => (granAddr f k, granule s (granAddr f k)))
    stkUpd s st (fun x => { x with cap := new.foldl (fun m e => nset m e.1 e.2) x.cap })
  | .scratch fs n =>
    if n ≤ k then s
    else stkUpd s st (fun x => { x with scratchBad := x.scratchBad ++ fs.flatMap (fun f => granBad (granAddr f k) (granule s (granAddr f k))) })

/-! ### Outside access (R251-R256) -/

/-- An outside access is served: a write applies, or waits for the sequence that writes its granule (R255). -/
def serve (s : State) (o : Outside) : State :=
  match o.data with
  | none => s
  | some bs => match destStack s o.addr bs.length with
    | some st => stkUpd s st (fun x => { x with held := x.held ++ [o] })
    | none =>
      let s := fwdWrite s o.addr bs
      match o.work with
      | some w => pushToSet s (List.range 16) w
      | none => s

/-- Writes in an order of their own: from the first that has to wait for a sequence, all of them wait in that stack (R255). -/
def lateWrites (s : State) : List Outside → State
  | [] => s
  | o :: r => match destStack s o.addr ((o.data.getD []).length) with
    | some st => stkUpd s st (fun x => { x with held := x.held ++ o :: r })
    | none => lateWrites (serve s o) r

/-- Bank of a stack address within its stack. -/
def bankOf (a : Nat) : Nat := a / 128 % 512

/-- Row of a stack address in its bank. -/
def rowOf (a : Nat) : Nat := a % 2 ^ 37 / 2 ^ 20

/-- Every waiting access that some test picks is served, in order. -/
def serveAll (s : State) (st : Nat) (f : Outside → Bool) : State :=
  let l := (stk s st).out
  let s := stkUpd s st (fun x => { x with out := l.filter (fun o => !f o) })
  (l.filter f).foldl serve s

/-- One outside row step of a bank: it serves every waiting access to the row that the head of the bank's queue opens (R253). -/
def outsideStep (s : State) (st k : Nat) : State :=
  match (stk s st).out.find? (fun o => bankOf o.addr == k) with
  | none => s
  | some o => serveAll s st (fun p => bankOf p.addr == k && rowOf p.addr == rowOf o.addr)

/-- The outside row step of a bank at a yield point (R252, R253). -/
def yieldPoint (s : State) (st k : Nat) : State :=
  match (stk s st).out.find? (fun o => bankOf o.addr == k) with
  | none => s
  | some o => outsideStep (fmaxTo (fadd1 s F.BNK_YIELD_STEPS st 1) F.BNK_YIELD_MAX_WAIT st (s.now - o.t)) st k

/-- Row steps bank `k` still has to perform in the running stroke. -/
def stepsLeft (x : Stk) (k : Nat) : List RowStep := match x.run with
  | some q => (rowSteps q q.now).drop (nget (fun _ => 0) x.steps k)
  | none => []

/-- A bank ends a row step: its granules are read as they stand now, and it reaches a yield point. After its last one its bank unit
does not need the array any more, and outside row steps follow one another without limit (R251, R253, R254). -/
def rowStepEnd (s : State) (st k : Nat) : State :=
  match stepsLeft (stk s st) k with
  | [] => s
  | fs :: _ =>
    let s := capture s st k fs
    let s := yieldPoint (stkUpd s st (fun x => { x with steps := nupd (fun _ => 0) x.steps k (· + 1) })) st k
    if (stepsLeft (stk s st) k).isEmpty then (stk s st).out.foldl (fun s _ => outsideStep s st k) s else s

def execRowStepEnd (st : Fin 8) (bank : Fin 512) (s : State) : Host.Outcome State Fault Refusal := .next (rowStepEnd s st bank)

/-- An outside access reaches its bank: it is served, or waits behind earlier ones for a yield point or for the end of a
refresh (R252, R253, R257). An access that no single granule holds, or that is to a retired stack or to no stack, reaches
no bank. -/
def outsideAccess (s : State) (a : OAccess) : State :=
  let st := addrStack a.addr
  let n := match a.data with
    | some bs => bs.length
    | none => a.len
  if addrTier a.addr ≠ 0 ∨ !mapped s a.addr ∨ 128 < a.addr % 128 + n ∨ stackRetired s st then s
  else
    let x := stk s st
    let o : Outside := { addr := a.addr, len := n, t := s.now, data := a.data }
    if x.refreshing || !(stepsLeft x (bankOf a.addr)).isEmpty || x.out.any (fun p => bankOf p.addr == bankOf a.addr) then
      stkUpd s st (fun x => { x with out := x.out ++ [o] })
    else serve s o

def execOutsideAccess (a : OAccess) (s : State) : Host.Outcome State Fault Refusal := .next (outsideAccess s a)

/-! ### Refresh (R257-R259) -/

def owed (s : State) (st : Nat) : Nat := fget s F.BNK_STK_STAT_OWED st

/-- A refresh begins: one fewer is owed. -/
def refreshBegin (s : State) (st : Nat) : State :=
  stkUpd (fput s F.BNK_STK_STAT_OWED st (owed s st - 1)) st (fun x => { x with refreshing := true })

def stroking (s : State) (st : Nat) : Bool := fbit s F.BNK_STK_STAT_STROKING st

/-- A refresh falls due: performed at once when no stroke runs, owed while one does or while another is performed; never
more than 4 are owed (R257, R258). The interval in force shows in HOT. -/
def refreshDue (s : State) (st : Nat) : State :=
  let s := fput s F.BNK_STK_STAT_HOT st (b2n (decide (680 < sext 16 (nget (fun _ => 0) s.gov.tempStack st))))
  if stroking s st || (stk s st).refreshing then
    let n := min 4 (owed s st + 1)
    fmaxTo (fput s F.BNK_STK_STAT_OWED st n) F.BNK_REFRESH_MAX_OWED st n
  else stkUpd s st (fun x => { x with refreshing := true })

def execRefreshDue (st : Fin 8) (s : State) : Host.Outcome State Fault Refusal := .next (refreshDue s st)

/-- A refresh ends. Before the next refresh of a burst each bank serves waiting accesses for one row step; after the last one no
bank unit needs its array, and all of them are served (R253, R259). -/
def refreshEnd (s : State) (st : Nat) : State :=
  if !(stk s st).refreshing then s
  else
    let s := fadd1 (stkUpd s st (fun x => { x with refreshing := false })) F.BNK_REFRESH_COUNT st 1
    if owed s st = 0 then serveAll s st (fun _ => true)
    else refreshBegin ((List.range 512).foldl (fun s k => outsideStep s st k) s) st

def execRefreshEnd (st : Fin 8) (s : State) : Host.Outcome State Fault Refusal := .next (refreshEnd s st)

/-! ### Starting a stroke -/

/-- The longest run of whole units that satisfies R242, at least one; and the rest. -/
def cut (q : Seq) : List (List Col) → List (List Col) → List (List Col) × List (List Col)
  | acc, [] => (acc, [])
  | acc, u :: us => if acc.isEmpty || strokeFits q (acc ++ [u]) then cut q (acc ++ [u]) us else (acc, u :: us)

/-- Destination granules of a COPY or FILL, which keep their value until the commit (R249, R255). -/
def destOf (q : Seq) : List Nat :=
  match q.op with
  | 3 => q.cols.flatMap (fun c => (List.range (copyGranules q c.arg)).map (granAddr c.fb))
  | 4 => q.cols.flatMap (fun c => (List.range 512).map (granAddr c.fa))
  | _ => []

/-- A sequence ends with a status: its counts, and rd or the copy on write that it serves (R240, R247, R250). Writes that
waited for it apply (R255). -/
def seqEnd (s : State) (st status : Nat) : State :=
  match (stk s st).run with
  | none => s
  | some q =>
    let held := (stk s st).held
    let s := stkUpd s st (fun x => { x with run := none, held := [], cap := [], side := [], steps := [] })
    let s := reap (lateWrites s held)
    let s := if status = 0 then fadd1 s F.BNK_STROKES_DONE st 1 else fadd1 s F.BNK_STROKES_REJECTED st 1
    if q.cow = 0 then askDone s q.til q.id (w64 status)
    else match nfind s.cows (q.cow - 1) with
      | some w => { s with cows := nset s.cows (q.cow - 1) { w with copied := if status = 0 then 1 else 2 } }
      | none => s

/-- Pages of an ATTN.SPAN sequence whose frame is poisoned: their context learns of it (R583). -/
def poisonedPages (s : State) (q : Seq) : List Nat :=
  if !q.span then []
  else q.cols.flatMap (fun c =>
    let d := (cx s q.cid).d
    (if (share s c.fa).poison then [pageOf d q.stream c.arg] else []) ++
      (if (share s c.fb).poison then [pageOf d (q.stream + 1) c.arg] else []))

/-- Pages of the sequence's context become LOST, unless the context has been closed since (R198, R261). -/
def spanLost (s : State) (q : Seq) (vs : List Nat) : State :=
  if !named s q.cid q.inc then s
  else (distinct vs).foldl (fun s v =>
    if pV (ptGet s (cx s q.cid).d v) && !pLost (ptGet s (cx s q.cid).d v) then pageLost s q.cid v else s) s

/-- The next sequence of the queue becomes the running one; a poisoned frame ends it at once (R583), and a stack out of
service ends it STACK_DOWN (R277). -/
def seqBegin (s : State) (st : Nat) : State :=
  match (stk s st).queue with
  | [] => s
  | q :: r =>
    let q := { q with stamp := s.stamp, dst := (destOf q).foldl (fun m a => nset m a 0) [] }
    let s := { s with stamp := s.stamp + 1 }
    let s := stkUpd s st (fun x => { x with run := some q, queue := r })
    if fget s F.BNK_STK_STAT_STATE st ≠ 0 then seqEnd s st bkDOWN
    else
      let vs := poisonedPages s q
      if vs.isEmpty then s else seqEnd (spanLost s q vs) st bkBADLINE

/-- The shortest interval between strokes of a stack in M-cycles that the governor calls for (R683, R684). -/
def strokeGap (s : State) (st : Nat) : Nat := if s.pins.pwrBrake then 3200 else nget (fun _ => 0) s.gov.gap (st / 4)

/-- The engine plans the next stroke and starts it on all banks (R241-R246); none starts while a stroke or a refresh runs
or STROKE_EN is 0. -/
def strokeStart (s : State) (st : Nat) : State :=
  if stroking s st || (stk s st).refreshing || !fbit s F.BNK_CTL_STROKE_EN 0 ||
      (strokeGap s st != 0 && decide (s.now < (stk s st).t0 + strokeGap s st)) then s
  else
    let s := if (stk s st).run.isNone then seqBegin s st else s
    match (stk s st).run with
    | none => s
    | some q =>
      if fget s F.BNK_STK_STAT_STATE st ≠ 0 then seqEnd s st bkDOWN
      else
        let r := cut q [] (unitsOf q q.cols)
        let now := r.1.flatten
        let sides := if q.fmt = 2 ∧ q.op = 1 then now.flatMap (fun c => [sideAddr s (st / 4) c.sa, sideAddr s (st / 4) c.sb]) else []
        let rd (a : Nat) : Nat := (List.range 16).foldl (fun n i => n + b2n (!lineOk s (a + 64 * i)) * 2 ^ (8192 + i)) (memNat s a 1024)
        let side : NMap Nat := sides.foldl (fun m a => nset m a (rd a)) []
        let s := stkUpd s st (fun x => { x with
          run := some { q with cols := r.2.flatten, now := now }
          steps := [], cap := [], side := side, scratchBad := [], t0 := s.now })
        fset s F.BNK_STK_STAT_STROKING st

def execStrokeStart (st : Fin 8) (s : State) : Host.Outcome State Fault Refusal := .next (strokeStart s st)

/-! ### The end of a stroke -/

/-- Every bank performs the row steps it has left. -/
def finishSteps (s : State) (st : Nat) : State :=
  (List.range 512).foldl (fun s k => (stepsLeft (stk s st) k).foldl (fun s _ => rowStepEnd s st k) s) s

/-- Slots of bank `k` in one column at attended positions, each with its K and V elements (R237). -/
def bankSlots (x : Stk) (q : Seq) (sa sb : Nat → Nat) (k : Nat) (c : Col) : List ((Nat → Nat) × (Nat → Nat)) :=
  let n := sigma q.fmt q.dim
  let size := 128 / max n 1
  let S := slotsOf q.fmt q.dim
  (List.range n).filterMap (fun i =>
    let t := k * n + i
    let p := c.arg * S + t
    if q.posStart ≤ p ∧ p < q.posEnd then
      some (kvElem q.fmt (captured x (granAddr c.fa k)) (sa c.sa) (size * i) t,
            kvElem q.fmt (captured x (granAddr c.fb k)) (sb c.sb) (size * i) t)
    else none)

/-- The partials of all banks after a stroke of an attention sequence. -/
def attnStroke (s : State) (st : Nat) (q : Seq) : Seq :=
  let x := stk s st
  let D' := dimOf q.dim
  let sd (i : Nat) : Nat := nget (fun _ => 0) x.side (sideAddr s (st / 4) i)
  (List.range 512).foldl (fun q k => (List.range q.g).foldl (fun q h =>
    let key := 32 * k + h
    let query (d : Nat) : Nat := q.query.getD (h * D' + d) 0
    let p := (unitsOf q q.now).foldl (fun p u => blockStep D' query (u.flatMap (bankSlots x q sd sd k)) p)
      (nget (fun _ => partStart D') q.part key)
    { q with part := nput (fun _ => partStart D') q.part key p }) q) q

/-- Granules of a COPY or FILL stroke written to scratch rows (R248). -/
def writeStroke (s : State) (st : Nat) (q : Seq) : Seq :=
  let x := stk s st
  let put (q : Seq) (a v : Nat) : Seq := { q with dst := nset q.dst a v }
  q.now.foldl (fun q c =>
    if q.op = 3 then (List.range (copyGranules q c.arg)).foldl (fun q k =>
      put q (granAddr c.fb k) (captured x (granAddr c.fa k) % 2 ^ 1024)) q
    else (List.range 512).foldl (fun q k => put q (granAddr c.fa k) (ofBytes ((List.range 16).flatMap (fun _ => toBytes 8 q.pattern)))) q) q

/-- Failed lines that the stroke met, and the span pages they belong to. -/
def strokeBad (s : State) (st : Nat) (q : Seq) : List Nat × List Nat :=
  let x := stk s st
  let d := (cx s q.cid).d
  let lines := x.cap.flatMap (fun e => granBad e.1 e.2) ++ x.scratchBad ++
    x.side.flatMap (fun e => ((List.range 16).filter (fun i => bits e.2 (8192 + i) 1 == 1)).map (fun i => e.1 + 64 * i))
  let hit (f i : Nat) : Bool := lines.any (fun l => l / 65536 == f || (q.fmt == 2 && l / 1024 * 1024 == sideAddr s (st / 4) i))
  let pages := if q.span then q.now.flatMap (fun c =>
      (cond (hit c.fa c.sa) [pageOf d q.stream c.arg] []) ++ cond (hit c.fb c.sb) [pageOf d (q.stream + 1) c.arg] [])
    else []
  (lines, pages)

/-- The result areas of an attention sequence (R238). -/
def attnResults (s : State) (q : Seq) : State :=
  let D' := dimOf q.dim
  let p (k h : Nat) : List Nat := nget (fun _ => partStart D') q.part (32 * k + h)
  (List.range q.g).foldl (fun s h =>
    let ks := List.range 512
    movWrite s q.til (q.rb + h * q.hstride) (ks.flatMap (fun k => toBytes 4 ((p k h).headD 0)) ++
      ks.flatMap (fun k => toBytes 4 (((p k h).drop 1).headD 0)) ++ ks.flatMap (fun k => ((p k h).drop 2).flatMap (toBytes 4)))) s

/-- The maps of a CHECK: bit g of a column's 512 bits is set when a line of granule g failed (R262). -/
def checkResults (s : State) (q : Seq) (past : List Col) : State :=
  let map (c : Col) : Nat := (q.bad.filter (fun l => l / 65536 == c.fa)).foldl (fun m l => m ||| 2 ^ bankOf l) 0
  movWrite s q.til q.rb (past.flatMap (fun c => toBytes 64 (map c)))

/-- The swap of R249: every destination granule reads its new data. -/
def commitWrites (s : State) (q : Seq) : State := q.dst.foldl (fun s e => memWrite s e.1 (toBytes 128 e.2)) s

/-- The last stroke has ended, or a line failed: results, swap and status (R240, R249, R250, R261, R262). -/
def seqFinish (s : State) (st : Nat) (q : Seq) (past : List Col) : State :=
  let bad := !q.bad.isEmpty
  let s := if q.op = 5 then checkResults s q past
    else if bad then s
    else if q.op = 1 then attnResults s q
    else commitWrites s q
  let s := stkUpd s st (fun x => { x with run := some { q with dst := [] } })
  seqEnd s st (if bad then bkBADLINE else bkDONE)

/-- At a stroke boundary the owed refreshes run when DEFER of them are owed or no stroke waits (R257). -/
def boundary (s : State) (st : Nat) : State :=
  let x := stk s st
  let waits := x.run.isSome || !x.queue.isEmpty
  let s := serveAll s st (fun _ => true)
  if owed s st ≠ 0 ∧ (fget s F.BNK_REF_CTL_DEFER 0 ≤ owed s st ∨ !waits) then refreshBegin s st else s

/-- A stroke ends on every bank (R246). -/
def strokeEnd (s : State) (st : Nat) : State :=
  if !stroking s st then s
  else
    let s := finishSteps s st
    let s := fadd1 (fput s F.BNK_STK_STAT_STROKING st 0) F.BNK_BUSY_COUNT st (s.now - (stk s st).t0)
    match (stk s st).run with
    | none => s
    | some q =>
      let s := if q.span then meter s (dg (cx s q.cid).d D.TENANT) 6 (512 * (s.now - (stk s st).t0)) else s
      let b := strokeBad s st q
      let c := if q.span then (q.cid, q.inc) else (0, 0)
      let s := b.1.foldl (fun s l => lineFailureOf (fadd1 s F.BNK_LINE_ERR_COUNT st 1) 2 1 l c.1 c.2) s
      let s := spanLost s q b.2
      let q := { q with bad := q.bad ++ b.1 }
      let q := if q.op = 1 then attnStroke s st q else if q.op = 5 then q else writeStroke s st q
      let q := { q with past := q.past ++ q.now, now := [] }
      let all := q.past ++ q.cols
      let s := stkUpd s st (fun x => { x with run := some q, steps := [], cap := [], side := [], scratchBad := [] })
      let s := if fget s F.BNK_STK_STAT_STATE st ≠ 0 then seqEnd s st bkDOWN
        else if !q.bad.isEmpty || q.cols.isEmpty then seqFinish s st q all
        else s
      boundary s st

def execStrokeEnd (st : Fin 8) (s : State) : Host.Outcome State Fault Refusal := .next (strokeEnd s st)

end Sys2Proof.Machine
end

