-- ==== Sys2Proof/Machine/Sync.lean ====
section
/-!
DEFINITION. Synchronisation, work-item and system instructions (R158-R160, R111), and the delivery of exceptions (R166-R169).
-/

namespace Sys2Proof.Machine

/-- An incomplete instruction accesses the sheaf store. -/
def Pend.inStore : Pend → Bool
  | .load _ n a => Machine.inStore a n
  | .vload _ _ a => Machine.inStore a 512
  | .vword _ _ a => Machine.inStore a 4
  | .copy _ d r n => Machine.inStore d n || Machine.inStore r n
  | .fill _ d _ n => Machine.inStore d n
  | .ask _ _ _ => true
  | _ => false

/-- An incomplete instruction accesses device memory; a bank, fabric or row instruction may (R239, R154, R157). -/
def Pend.inDevice : Pend → Bool
  | .copy _ d r _ => inDev d || inDev r
  | .fill _ d _ _ => inDev d
  | .ask _ _ _ => true
  | _ => false

/-- An incomplete instruction accesses local SRAM through the move pipe. -/
def Pend.movLocal : Pend → Bool
  | .copy _ d r n => inLocal d n || inLocal r n
  | .fill _ d _ n => inLocal d n
  | .ask _ _ _ => true
  | _ => false

/-- SYNC.FENCE: earlier accesses to the spaces in IMM are complete and visible. -/
def execSyncFence (t : Fin 512) (b : BitVec 54) (s : State) : Host.Outcome State Fault Refusal :=
  let x := til s t
  let m := fXIMM b
  let clear := x.pend.all (fun p => !((bits m 0 1 == 1 && p.op.inStore) || (bits m 1 1 == 1 && p.op.inDevice) ||
    (bits m 2 1 == 1 && p.op.movLocal)))
  .next (issue s t 0x201 b false (zeros [fXRD b, fXRA b, fXRB b, fXRC b, fXPD b, m / 8]) true (fun s => if clear then tupd s t advPc else s))

def execSyncReg (t : Fin 512) (b : BitVec 54) (s : State) : Host.Outcome State Fault Refusal :=
  .next (issue s t 0x202 b false (zeros [fXRD b, fXRB b, fXRC b, fXPD b, fXIMM b]) (freeS (til s t) [fXRA b])
    (fun s => tupd s t advPc))

def execSyncArr (t : Fin 512) (b : BitVec 54) (s : State) : Host.Outcome State Fault Refusal :=
  let n := ((til s t).pend.filter (fun p => p.op.isArray)).length
  .next (issue s t 0x203 b false (zeros [fXRD b, fXRA b, fXRB b, fXRC b, fXPD b, fXIMM b / 8]) true
    (fun s => if n ≤ fXIMM b then tupd s t advPc else s))

def execSyncMov (t : Fin 512) (b : BitVec 54) (s : State) : Host.Outcome State Fault Refusal :=
  let n := ((til s t).pend.filter (fun p => p.op.isMov)).length
  .next (issue s t 0x204 b false (zeros [fXRD b, fXRA b, fXRB b, fXRC b, fXPD b, fXIMM b / 32]) true
    (fun s => if n ≤ fXIMM b then tupd s t advPc else s))

/-- A tiller arrives at barrier `n`; the last arrival releases them all and the barrier resets (R159). -/
def arrive (s : State) (t n cnt : Nat) : State :=
  let h := sheafOf t
  let b := nget (fun _ => {}) (shf s h).bars n
  let need := if b.arrived.isEmpty then cnt else b.need
  let l := b.arrived ++ [t]
  let put (s : State) (b : Bar) := shupd s h (fun x => { x with bars := nput (fun _ => {}) x.bars n b })
  if need ≤ l.length then
    l.foldl (fun s u => tupd s u (fun x => if x.atBar = some n then { x with atBar := none } else x)) (put s {})
  else tupd (put s { need := need, arrived := l }) t (fun x => { x with atBar := some n })

/-- SYNC.BAR: a number above 15 or a count outside 2-16 raises a precise ILLEGAL. -/
def execSyncBar (t : Fin 512) (b : BitVec 54) (s : State) : Host.Outcome State Fault Refusal :=
  .next (issue s t 0x205 b false (zeros [fXRD b, fXRC b, fXPD b, fXIMM b]) (freeS (til s t) [fXRA b, fXRB b]) (fun s =>
    let n := (sreg (til s t) (fXRA b)).toNat
    let c := (sreg (til s t) (fXRB b)).toNat
    if 15 < n ∨ c < 2 ∨ 16 < c then raiseAt s t 0x205 b 1 0
    else arrive (tupd s t advPc) t n c))

/-- A pushed item takes the deque's head, else the overflow queue; none when both are full (R111). From a RETIRED tiller's deque it
moves on (R117). -/
def pushItem (s : State) (t : Nat) (w : Work) : Option State :=
  if (til s t).deque.length < 64 then some (spill (tupd s t (fun x => { x with deque := w :: x.deque })) t)
  else if (shf s (sheafOf t)).ovf.length < 1024 then some (shupd s (sheafOf t) (fun x => { x with ovf := x.ovf ++ [w] }))
  else none

/-- An item of an attention slot adds one to the slot's items (R272). -/
def slotAdd (s : State) (w : Work) : State :=
  match (if w.slot = 0 then none else nfind s.bnk.slots (w.slot - 1)) with
  | some q => { s with bnk := { s.bnk with slots := nset s.bnk.slots (w.slot - 1) { q with items := q.items + 1 } } }
  | none => s

/-- WI.PUSH (R111); the pushed item belongs to the pusher's step (R288, R290), with its kind (R114). -/
def execWiPush (t : Fin 512) (b : BitVec 54) (s : State) : Host.Outcome State Fault Refusal :=
  .next (issue s t 0x206 b false (zeros [fXRD b, fXRC b, fXPD b, fXIMM b]) (freeS (til s t) [fXRA b, fXRB b]) (fun s =>
    let x := til s t
    let bits : ItemBits := BitVec.ofNat 128 ((sreg x (fXRA b)).toNat + (sreg x (fXRB b)).toNat * 2 ^ 64)
    if itScope bits = 3 ∨ itRes bits ≠ 0 then raiseAt s t 0x206 b 1 0
    else
      let w : Work := { x.item.getD {} with bits := bits }
      let s := slotAdd (stepAdd (tupd s t advPc) w) w
      match pushItem s t w with
      | some s => s
      | none => tupd s t (fun x => { x with pushing := some w })))

/-- A stalled push completes once there is room, on the deque when both have room (R111). -/
def execPushStallDone (t : Fin 512) (s : State) : Host.Outcome State Fault Refusal :=
  match (til s t).pushing with
  | none => .next s
  | some w => match pushItem s t w with
    | some s => .next (tupd s t (fun x => { x with pushing := none }))
    | none => .next s

/-- WI.END issues when every earlier instruction is complete; the item ends with status s[RA][7:0] (R160). -/
def execWiEnd (t : Fin 512) (b : BitVec 54) (s : State) : Host.Outcome State Fault Refusal :=
  .next (issue s t 0x207 b false (zeros [fXRD b, fXRB b, fXRC b, fXPD b, fXIMM b])
    true
    (fun s => if (til s t).pend.isEmpty then itemEnd (tupd s t advPc) t ((sreg (til s t) (fXRA b)).toNat % 256) 0 else s))

/-- NOP: every field but the guard is 0 (log entry 14). -/
def execNop (t : Fin 512) (b : BitVec 54) (s : State) : Host.Outcome State Fault Refusal :=
  .next (issue s t 0x3E0 b false (zeros [bget b 0 51]) true (fun s => tupd s t advPc))

def execSysId (t : Fin 512) (b : BitVec 54) (s : State) : Host.Outcome State Fault Refusal :=
  .next (issue s t 0x3E1 b false (zeros [fXRA b, fXRB b, fXRC b, fXPD b, fXIMM b / 4]) (freeS (til s t) [fXRD b]) (fun s =>
    let v : Word := match fXIMM b with
      | 0 => rword s .TIL_ID t
      | 1 => w64 (tcyc s t / 1000)
      | 2 => w64 (timeNs s)
      | _ => rword s .TIL_FPSTAT t
    tupd s t (fun x => advPc (sset x (fXRD b) v))))

def execSysTrap (t : Fin 512) (b : BitVec 54) (s : State) : Host.Outcome State Fault Refusal :=
  .next (issue s t 0x3E2 b false (zeros [fXRD b, fXRA b, fXRB b, fXRC b, fXPD b, fXIMM b / 65536]) true
    (fun s => raiseAt s t 0x3E2 b 5 (w64 (fXIMM b))))

/-! ### Exceptions (R166-R169) -/

/-- First and last of each run of opcodes that the tables of 04_sirec_isa.md list. -/
def opcodeRuns : List (Nat × Nat) :=
  [(0x001, 0x013), (0x018, 0x01D), (0x021, 0x02C), (0x030, 0x03A), (0x041, 0x04A), (0x061, 0x066), (0x081, 0x092),
   (0x0A1, 0x0AE), (0x0C1, 0x0C3), (0x101, 0x104), (0x141, 0x142), (0x181, 0x186), (0x1A1, 0x1A1), (0x1C1, 0x1C4),
   (0x1E1, 0x1E2), (0x201, 0x207), (0x3E0, 0x3E2)]

/-- An opcode that a table lists. -/
def listedOp (op : Nat) : Bool := opcodeRuns.any (fun r => decide (r.1 ≤ op) && decide (op ≤ r.2))

/-- ILLEGAL_INSTRUCTION: a word whose opcode no table lists raises a precise ILLEGAL exception (R123). A word with a listed opcode
is another command's. -/
def execIllegalInstruction (t : Fin 512) (w : Word) (s : State) : Host.Outcome State Fault Refusal :=
  .next (if listedOp (bget w 54 10) || !canIssue (til s t) then s else raiseAt s t (bget w 54 10) (w.setWidth 54) 1 0)

/-- The 64 bytes of an exception record. -/
def excRecord (t : Nat) (x : Tiller) (e : Exc) (w : Work) : List Byte :=
  toBytes 1 e.code ++ toBytes 1 (b2n e.precise) ++ toBytes 2 t ++ toBytes 4 0 ++ toBytes 8 e.pc.toNat ++ toBytes 8 e.instr.toNat ++
    toBytes 8 e.addr.toNat ++ toBytes 16 w.bits.toNat ++ toBytes 8 e.time ++ toBytes 4 x.suppressed ++ toBytes 4 0

/-- The exception is delivered once every issued instruction has completed: the record, the item's end as faulted, and
the tiller is free for its next item (R167). Effects already made stand (R169). A barrier that the tiller waits at is an issued
instruction; only TIMEOUT ends that wait (R159). -/
def deliver (s : State) (t : Nat) : State :=
  let x := til s t
  match x.exc, x.item with
  | some e, some w =>
    if !x.pend.isEmpty ∨ x.pushing.isSome ∨ x.atBar.isSome then s
    else itemEnd (logRecord s none (excRecord t x e w)) t 0 e.code
  | _, _ => s

def execExceptionDelivery (t : Fin 512) (s : State) : Host.Outcome State Fault Refusal := .next (deliver s t)

/-- A running item that has used SCH_ITEM_LIMIT.LIMIT T-cycles raises TIMEOUT once: imprecise, PC the next PC, INSTR 0; a wait
at a barrier ends by it (R159, R166-R168). -/
def execItemTimeout (t : Fin 512) (s : State) : Host.Outcome State Fault Refusal :=
  let x := til s t
  let lim := fget s F.SCH_ITEM_LIMIT_LIMIT 0
  if x.item.isSome && !x.late && lim != 0 && decide (lim * 1000 ≤ tcyc s t - x.itemCyc) then
    .next (raise (tupd s t (fun x => { x with late := true, atBar := none })) t { code := 6, pc := x.pc, n := x.seq })
  else .next s

end Sys2Proof.Machine
end

