-- ==== Sys2Proof/Machine/Moves.lean ====
section
/-!
DEFINITION. Moves of one frame between tiers (R346-R349), and the swaps of contexts that use them (R199, R323, R324).
-/

namespace Sys2Proof.Machine

/-! ### One frame (R346) -/

/-- The copy of a frame starts (R346 step 2); from flash, it reads each unit where it lies now (R426). -/
def moveStart (s : State) (m : FrameMove) : State :=
  let m := if addrTier (keyAddr m.old) = 2 then { m with locs := (List.range 4).map (fun u => flsMap s (4 * (m.old % 2 ^ 32) + u)) } else m
  { s with tie := { s.tie with moves := nset s.tie.moves s.tie.nextMove m, nextMove := s.tie.nextMove + 1 } }

/-- A frame is taken for use `u`; a stack frame of a KV page has COUNT 1. -/
def takeFrame (s : State) (k u : Nat) : State :=
  let s := setUse s k u
  if u = 1 ∧ addrTier (keyAddr k) = 0 then setShare s k { share s k with count := 1 } else s

/-- An entry that names another frame (R346 step 3). -/
def entAt (e : Word) (k side : Nat) : Word := bset (bset (bset e 60 2 (k / 2 ^ 32)) 0 32 (k % 2 ^ 32)) 32 24 side

/-- The old frame of a page is released (R346 step 4). -/
def releaseOld (s : State) (k : Nat) : State := if addrTier (keyAddr k) = 0 then dropShare s k else giveFrame s k

/-! ### Swaps (R199, R323) -/

/-- Pages of a context that are backed. -/
def ctxPages (s : State) (c : Nat) : List Nat :=
  let d := (cx s c).d
  if dg d D.SPAN_PT = 0 then [] else
  let lo := pteAddr d 0
  ((s.mem.filter (fun e => decide (lo ≤ e.1) && decide (e.1 < lo + 8 * dPages d) && (e.1 - lo) % 8 == 7)).map
    (fun e => (e.1 - lo) / 8)).filter (fun v => pV (ptGet s d v))

/-- Pages in the stacks whose frame has COUNT 1 and whose content is valid. -/
def privatePages (s : State) (c : Nat) : List Nat :=
  (ctxPages s c).filter (fun v =>
    let e := ptGet s (cx s c).d v
    pTier e == 0 && !pLost e && (share s (pKey e)).count == 1)

/-- Frames with COUNT 1 that a context holds in the stacks, those of LOST pages too (R198, R321, R322). -/
def ownFrames (s : State) (c : Nat) : Nat :=
  ((ctxPages s c).filter (fun v =>
    let e := ptGet s (cx s c).d v
    pTier e == 0 && (share s (pKey e)).count == 1)).length

/-- Pages in a slow tier. -/
def slowPages (s : State) (c : Nat) : List Nat := (ctxPages s c).filter (fun v => pTier (ptGet s (cx s c).d v) != 0)

/-- Swaps of a half in flight. -/
def swapsInFlight (s : State) (h : Nat) : Nat := ((ctxsOf s h).filter (fun c => (cx s c).swap != 0)).length

/-- Frames a swap-in backs. -/
def swapInNeeds (s : State) (c : Nat) : Nat := (slowPages s c).length

/-- Another swap of the half may be in flight (R323). -/
def swapRoom (s : State) (h : Nat) : Bool := decide (swapsInFlight s h < fget s F.SCH_SWAP_PAR 0)

/-- A swap-out of the context may start (R323). -/
def mayOut (s : State) (c : Nat) : Bool := fbit s F.SCH_CTL_SWAP_EN 0 && swapRoom s (ctxHalf c)

/-- A swap-out that its tier cannot take ends: the context stays PREEMPTED until the next formation (R323). -/
def swapFail (s : State) (c : Nat) : State :=
  let x := cx s c
  fset (cxChange s c { x with swap := 0, swapFailed := true, d := ds x.d D.SWAP_BUSY 0 } []) F.SCH_ERR_SWAP_FAIL 0

/-- The swap of a context starts the move of its next page, when no move of it is under way. -/
def swapNext (s : State) (c : Nat) : State :=
  let x := cx s c
  if s.tie.moves.any (fun m => m.2.kind == 1 && m.2.owner == c) then s
  else if x.swap = 1 then
    match privatePages s c with
    | [] => s
    | v :: _ =>
      let e := ptGet s x.d v
      let far := pFmt e == 2 && sideHalf c e != ctxHalf c
      match pickSlow s x.swapTier, (if far then takeSide s (ctxHalf c) else some (pSide e, s)) with
      | some k, some (i, s) =>
        let s := if far then memWrite s (sideAddr s (ctxHalf c) i) (memBytes s (sideAddr s (sideHalf c e) (pSide e)) 1024) else s
        moveStart (takeFrame (bump s) k 1) { kind := 1, owner := c, idx := v, pte := i, old := pKey e, new := k, why := 3 }
      | _, _ => swapFail s c
  else if x.swap = 2 then
    match slowPages s c with
    | [] => s
    | v :: _ =>
      let e := ptGet s x.d v
      let pps := max (dg x.d D.PPS) 1
      let pick := match pickPage s c x.d (v / pps) (v % pps) with
        | some (k, _) => if k / 2 ^ 23 = ctxHalf c then some k else anyFrame s (ctxHalf c)
        | none => none
      match pick with
      | some k => moveStart (takeFrame s k 1) { kind := 1, owner := c, idx := v, pte := pSide e, old := pKey e, new := k, why := 4 }
      | none => s
  else s

/-- A swap-out starts: SWAP_BUSY, and its first page moves (R199, R323). -/
def swapOutStart (s : State) (c : Nat) : State :=
  let x := cx s c
  swapNext (cxChange s c { x with swap := 1, swapAsk := false, swapTier := fget s F.SCH_SWAP_TIER 0, d := ds x.d D.SWAP_BUSY 1 } []) c

/-- A swap-in starts (R324). -/
def swapInStart (s : State) (c : Nat) : State :=
  let x := cx s c
  swapNext (cxPut s c { x with swap := 2, swapAsk := false }) c

/-- Swap-outs of PREEMPTED contexts and commanded swap-ins that wait start, at most PAR swaps of a half in flight; a swap-out that
failed is tried again at the next formation (R323, R326). -/
def startSwaps (s : State) (h : Nat) : State :=
  (ctxsOf s h).foldl (fun s c =>
    let x := cx s c
    if x.swap ≠ 0 ∨ x.swapFailed then s
    else if cstate s c = stPREEMPTED ∧ mayOut s c then swapOutStart s c
    else if cstate s c = stSWAPPED ∧ x.swapAsk ∧ swapRoom s h ∧ swapInNeeds s c ≤ halfFree s h then swapInStart s c
    else s) s

/-- A swap-out completes: references to shared frames and LOST pages are released; transition 13 (R199). -/
def swapOutDone (s : State) (c : Nat) : State :=
  let x := cx s c
  if x.swap ≠ 1 ∨ dg x.d D.STATE ≠ stPREEMPTED ∨ !(privatePages s c).isEmpty ∨
      s.tie.moves.any (fun m => m.2.kind == 1 && m.2.owner == c) then s
  else
    let vs := (ctxPages s c).filter (fun v => pTier (ptGet s x.d v) == 0)
    let s := vs.foldl (fun s v =>
      let e := ptGet s x.d v
      ptPut (releaseEntry s c e) c v 0) s
    let cols := vs.map (fun v => v % max (dg x.d D.PPS) 1)
    let x := cx s c
    let s := cxChange s c { x with swap := 0, rel := x.rel ++ cols, d := ds (ds x.d D.SWAP_BUSY 0) D.STATE stSWAPPED } []
    startSwaps s (ctxHalf c)

def execSwapOutDone (c : Fin 262144) (s : State) : Host.Outcome State Fault Refusal := .next (swapOutDone s c)

/-- Columns released at swap-out whose pages are not all backed again join the hole (R199). -/
def rejoin (s : State) (d : Desc) (cols : List Nat) : Desc :=
  cols.foldl (fun d col =>
    if (List.range (dStreams d)).any (fun st => !pV (ptGet s d (pageOf d st col))) then
      widen d (col * dSlots d) (min ((col + 1) * dSlots d) (dg d D.KV_VALID))
    else d) d

/-- Transition 14; another swap may start (R323). -/
def swapInEnd (s : State) (c : Nat) (d : Desc) : State :=
  startSwaps (cxChange s c { cx s c with swap := 0, rel := [], d := ds d D.STATE (if dHole d then stREBUILD else dg d D.RESUME) } [])
    (ctxHalf c)

/-- A swap-in completes once its pages and, when NAMESPACE is not 0, its repeated attachment have ended: transition 14
(R199, R205). -/
def swapInDone (s : State) (c : Nat) : State :=
  let x := cx s c
  if dg x.d D.STATE ≠ stSWAPPED ∨ s.tie.moves.any (fun m => m.2.kind == 1 && m.2.owner == c) then s
  else if x.swap = 2 then
    if !(slowPages s c).isEmpty then swapNext s c
    else if dg x.d D.NAMESPACE ≠ 0 ∧ dg x.d D.SHARED_LEN ≠ 0 then cxPut s c { x with swap := 3, attach := 2 }
    else
      let d := rejoin s x.d x.rel
      swapInEnd s c d
  else if x.swap = 3 ∧ x.attach = 0 then swapInEnd s c (rejoin s x.d x.rel)
  else s

def execSwapInDone (c : Fin 262144) (s : State) : Host.Outcome State Fault Refusal := .next (swapInDone s c)

end Sys2Proof.Machine
end

