-- ==== Sys2Proof/Machine/CtxEvents.lean ====
section
/-!
DEFINITION. Events of a context that no instruction causes: the end of its prefill, of its prefix attachment and of its
publication, its close and its release (R183-R185, R205, R208, R565), and the snapshot of its descriptor (R216).
-/

namespace Sys2Proof.Machine

/-! ### What names a context (transitions 21 and 23) -/

/-- An item names the context. -/
def itemNames (s : State) (c : Nat) (w : Work) : Bool := (itemContexts s w).contains c

/-- A tiller runs, holds or waits to push an item that names the context. -/
def tillerNames (s : State) (c : Nat) (x : Tiller) : Bool :=
  (x.item.toList ++ x.taken.toList ++ x.pushing.toList ++ x.deque).any (itemNames s c)

/-- A sheaf holds an item that names the context. -/
def sheafNames (s : State) (c : Nat) (x : Sheaf) : Bool := (x.inbox ++ x.held ++ x.ovf).any (itemNames s c)

/-- A sequence of a stack reads the context's span. -/
def stackNames (c : Nat) (x : Stk) : Bool :=
  (x.run.toList ++ x.queue ++ x.wait).any (fun q => q.span && q.cid == c)

/-- A TRANSFER of the context runs. -/
def transferring (s : State) (c : Nat) : Bool := match s.tie.run with
  | some k => bget k.cmd1 60 4 == 5 && bget k.cmd0 0 18 == c
  | none => false

/-- A work item, stroke, fabric transfer, import or export names the context, or a copy on write, frame move, attachment
or revocation for it is under way (R183, R273, R474). -/
def ctxBusy (s : State) (c : Nat) : Bool :=
  let x := cx s c
  s.til.any (fun e => tillerNames s c e.2) || s.shf.any (fun e => sheafNames s c e.2) ||
  s.bnk.stk.any (fun e => stackNames c e.2) || s.bnk.slots.any (fun e => e.2.cid == c) ||
  s.cows.any (fun e => e.2.cid == c) || s.tie.moves.any (fun e => e.2.kind == 1 && e.2.owner == c) ||
  transferring s c || !x.exports.isEmpty || x.attach != 0 || revoking s c (dg x.d D.INCARNATION)

/-! ### CLOSED and FREE -/

/-- Transition 22: the descriptor is FREE and keeps its INCARNATION. -/
def ctxFree (s : State) (c : Nat) : State := cxChange s c { d := ds (cx s c).d D.STATE stFREE } []

/-- The context becomes CLOSED and gives back what it holds; a CLOSE entry goes to the twin, and without a paired twin
the descriptor is FREE at once (transitions 21-23, R554). -/
def ctxClosed (s : State) (c : Nat) : State :=
  let h := ctxHalf c
  let s := releaseAll s c
  let x := cx s c
  let jsn := (tw s h).jsn + 1
  let s := cxChange s c { x with d := ds x.d D.STATE stCLOSED, closeJsn := jsn, swap := 0, rel := [] }
    [{ typ := 5, obj := c, incarn := dg x.d D.INCARNATION }]
  if pairState s h = 2 then s else ctxFree s c

/-- CLOSED contexts of half `h` whose CLOSE entry the twin has acknowledged, or every one when no twin is paired. -/
def freeAcked (s : State) (h : Nat) : State :=
  (ctxsOf s h).foldl (fun s c =>
    if cstate s c = stCLOSED ∧ (pairState s h ≠ 2 ∨ (cx s c).closeJsn ≤ fget s F.TWN_HS_JACKED_JSN h) then ctxFree s c
    else s) s

/-- Transition 21. -/
def ctxClose (s : State) (c : Nat) : State :=
  let x := cx s c
  if dg x.d D.STATE = stDRAINING ∧ x.pub = 0 ∧ !ctxBusy s c then ctxClosed s c else s

def execContextClose (c : Fin 262144) (s : State) : Host.Outcome State Fault Refusal := .next (ctxClose s c)

/-- Transition 23 outside a decode batch: the context's SPAN regions are revoked first, and no record is written (R565). -/
def ctxRelease (s : State) (c : Nat) : State :=
  let st := cstate s c
  if !(cx s c).release ∨ st = stFREE ∨ (st = stDECODE ∧ (cx s c).dec.isSome) ∨ st = stDRAINING ∨ st = stCLOSED then s
  else
    let x := cx s c
    let s := revokeSpans (cxPut s c { x with attach := 0, swap := 0, pub := 0, chunk := none }) c (dg x.d D.INCARNATION)
    if ctxBusy s c then s else ctxClosed s c

def execContextRelease (c : Fin 262144) (s : State) : Host.Outcome State Fault Refusal := .next (ctxRelease s c)

/-! ### The end of prefill (R184, transitions 5 and 6) -/

/-- A pool PROMPT member (R36). -/
def promptMember (s : State) : Bool := !standalone s && role s == 0

/-- A publication starts when the context asks for one and has a namespace (R208, transition 5). -/
def pubAt (d : Desc) : Nat := if db d D.PUBLISH ∧ dg d D.NAMESPACE ≠ 0 then 1 else 0

/-- Transition 5. -/
def prefillToReady (s : State) (c : Nat) : State :=
  let x := cx s c
  if prefillDone s x.d && x.attach == 0 && !promptMember s then
    cxChange s c { x with d := ds x.d D.STATE stREADY, pub := pubAt x.d } []
  else s

def execPrefillToReady (c : Fin 262144) (s : State) : Host.Outcome State Fault Refusal := .next (prefillToReady s c)

/-- Transition 6: the completion of every export is raised as well. -/
def promptPartDone (s : State) (c : Nat) : State :=
  let x := cx s c
  if prefillDone s x.d && x.attach == 0 && promptMember s && x.exports.isEmpty then
    endNow s c { status := endLENGTH }
  else s

def execPromptPartDone (c : Fin 262144) (s : State) : Host.Outcome State Fault Refusal := .next (promptPartDone s c)

/-! ### Attachment and publication -/

/-- Positions from `a` on of the released column that holds `a` join the hole: the attachment at a swap-in did not
recover them (R199). -/
def shortColumn (d : Desc) (rel : List Nat) (a : Nat) : Desc :=
  let S := max (dSlots d) 1
  if rel.contains (a / S) ∧ a % S ≠ 0 then widen d a (min ((a / S + 1) * S) (dg d D.KV_VALID)) else d

/-- A failed log line that an attachment or a publication of the context meets is waited for, until the context drains (R181). -/
def logHolds (s : State) (c : Nat) (b : Option Nat) : Option Nat :=
  if cstate s c = stDRAINING ∨ cstate s c = stCLOSED then none else b

/-- The attachment in progress ends: after transition 3 its results are written in one change (R205, R206); at a swap-in
it recovers pages below SHARED_LEN (R199) and writes none of the three results (DESIGN CHOICE, log entry 123). -/
def attachmentEnd (s : State) (c : Nat) : State :=
  let x := cx s c
  let limit := if x.attach = 1 then (dg x.d D.PROMPT_LEN - 1) / 32 else dg x.d D.SHARED_LEN / 32
  if x.attach = 0 then s
  else match logHolds s c (attachBlocked s c limit) with
  | some b => blockFetch s c b
  | none =>
  if x.attach = 1 then
    let r := attach s c limit
    let s := r.2.2
    let x := cx s c
    cxChange s c { x with
      attach := 0
      d := ds (ds (ds x.d D.KV_VALID r.1) D.SHARED_LEN r.1) D.PFX_NODE r.2.1 } []
  else
    let r := attach s c limit
    let s := r.2.2
    let x := cx s c
    swapInDone (cxChange s c { x with attach := 0, d := shortColumn x.d x.rel r.1 } []) c

def execAttachmentEnd (c : Fin 262144) (s : State) : Host.Outcome State Fault Refusal := .next (attachmentEnd s c)

/-- The publication in progress ends: its nodes and page sets are in the tree (R208). -/
def publicationEnd (s : State) (c : Nat) : State :=
  if (cx s c).pub = 0 then s
  else match logHolds s c (publishBlocked s c) with
  | some b => blockFetch s c b
  | none =>
    let s := publish s c
    cxUpd s c (fun x => { x with pub := 0 })

def execPublicationEnd (c : Fin 262144) (s : State) : Host.Outcome State Fault Refusal := .next (publicationEnd s c)

/-! ### CTX_PEEK (R216) -/

/-- A write to CTX_PEEK_SEL takes a snapshot of the selected descriptor. -/
def ctxPeekSel (s : State) (h : Nat) (val : Word) : State :=
  let i := bget val 0 17
  let c := h * 131072 + i
  let s := descRead (fput s F.CTX_PEEK_SEL_INDEX h i) c
  let d := (cx s c).d
  (List.range 16).foldl (fun s n => rput s .CTX_PEEK_W (16 * h + n) (dword d n)) s

def execCtxPeekSel (h : Fin 2) (val : Word) (s : State) : Host.Outcome State Fault Refusal :=
  .next (regGate s .CTX_PEEK_SEL h (fun s => ctxPeekSel s h val))

end Sys2Proof.Machine
end

