-- ==== Sys2Proof/Machine/Send.lean ====
section
/-!
DEFINITION. The sending side of the transport: peers and paths (R441-R444), the limiters that release packets
(R482-R492), control packets, and the ends of fabric operations (R451, R457, R459).
-/

namespace Sys2Proof.Machine

/-! ### Statuses (R475) -/
def fsOK : Nat := 0
def fsBADKEY : Nat := 1
def fsREVOKED : Nat := 2
def fsRANGE : Nat := 3
def fsPERM : Nat := 4
def fsSTALE : Nat := 5
def fsREDIRECT : Nat := 6
def fsTIMEOUT : Nat := 7
def fsUNREACH : Nat := 8
def fsBADLINE : Nat := 9
def fsNORES : Nat := 10
def fsMALFORMED : Nat := 11
def fsROLE : Nat := 12
def fsABORTED : Nat := 13
def fsMSGBUSY : Nat := 14

/-! ### The peer table (R441) -/

def peerAddr (s : State) (p : Nat) : Nat := fget s F.FAB_PEER_BASE_BASE 0 * 65536 + 64 * p

/-- Bytes `o` to `o + n - 1` of a peer's entry as a number. -/
def pf (s : State) (p o n : Nat) : Nat := memNat s (peerAddr s p + o) n

def pfPut (s : State) (p o n v : Nat) : State := memPut s (peerAddr s p + o) n v

def pNode (s : State) (p : Nat) : Nat := pf s p 16 4
def pState (s : State) (p : Nat) : Nat := pf s p 23 1
def pRate (s : State) (p : Nat) : Nat := pf s p 24 4
def pFlow (s : State) (p : Nat) : Nat := pf s p 32 1

def peerCount (s : State) : Nat := fget s F.FAB_PEER_BASE_COUNT 0

/-- The peer whose NODE is `n`: the lowest entry in use. -/
def peerOf (s : State) (n : Nat) : Option Nat :=
  (List.range (peerCount s)).find? (fun p => pState s p != 0 && pNode s p == n)

def px (s : State) (p : Nat) : PeerX := nget (fun _ => {}) s.fab.peers p

def pxPut (s : State) (p : Nat) (x : PeerX) : State :=
  { s with fab := { s.fab with peers := nput (fun _ => {}) s.fab.peers p x } }

def pxUpd (s : State) (p : Nat) (f : PeerX → PeerX) : State := pxPut s p (f (px s p))

/-- Enabled paths of a peer (R441). -/
def peerPaths (s : State) (p : Nat) : List Nat :=
  let m := pf s p 20 2
  (List.range 16).filter (fun i => bits (if m = 0 then 1 else m) i 1 == 1)

/-- Paths in use: those not held off, or all of them when every one is (R444). -/
def livePaths (s : State) (p : Nat) : List Nat :=
  let l := (peerPaths s p).filter (fun i => bits (pf s p 34 2) i 1 == 0)
  if l.isEmpty then peerPaths s p else l

def portUp (s : State) (i : Nat) : Bool := fget s F.FAB_PORT_STAT_LINK i == 2

/-- Ports a peer's paths may use and that are up (R443). -/
def peerPorts (s : State) (p : Nat) : List Nat :=
  let m := pf s p 22 1 % 64
  (List.range 6).filter (fun i => bits (if m = 0 then 63 else m) i 1 == 1 && portUp s i)

/-- Port of a path (R443). -/
def portOf (s : State) (p path : Nat) : Option Nat :=
  let l := peerPorts s p
  if l.isEmpty then none else l[path % l.length]?

/-- The path that follows the one used last (R443). -/
def nextPath (s : State) (p : Nat) : Nat :=
  let l := livePaths s p
  (l.find? (fun i => decide ((px s p).path ≤ i))).getD (l.headD 0)

/-! ### Port queues -/

def pq (s : State) (i : Nat) : PortQ := nget (fun _ => {}) s.port i

def pqPut (s : State) (i : Nat) (x : PortQ) : State := { s with port := nput (fun _ => {}) s.port i x }

/-- Wire bytes queued on a port (R484). -/
def portBytes (x : PortQ) : Nat :=
  (x.priv ++ x.leaf).foldl (fun n e => e.2.foldl (fun n f => n + f.wire) n) 0

/-- Wire length of a transport or lattice packet with `n` payload bytes on a port: headers, trailer, FCS, and 20 for the
preamble, the start delimiter and the gap. -/
def wireLen (s : State) (i n : Nat) : Nat := n + 48 + 4 + 8 + 40 + 14 + 4 + 20 + (if fget s F.FAB_PORT_CTL_VLAN i = 0 then 0 else 4)

/-- A frame joins a leaf queue (R482). -/
def pushLeaf (s : State) (i k : Nat) (f : OutFrame) : State :=
  pqPut s i { pq s i with leaf := nupd (fun _ => []) (pq s i).leaf k (· ++ [f]) }

/-- The finish tag of a packet that becomes the head of a privileged queue (R495). -/
def headTag (s : State) (i q : Nat) : State :=
  let x := pq s i
  match nget (fun _ => []) x.priv q with
  | [] => s
  | f :: _ =>
    let w := max 1 (match q with
      | 0 => fget s F.SHP_PRIV_W_CLOCK i
      | 1 => fget s F.SHP_PRIV_W_CONTROL i
      | 2 => fget s F.SHP_PRIV_W_LATTICE i
      | _ => fget s F.SHP_PRIV_W_JOURNAL i)
    let t := max x.v (nget (fun _ => 0) x.fl q) + f.wire * 256 / w
    pqPut s i { x with tag := nset x.tag q t, fl := nset x.fl q t }

/-- A frame joins a privileged queue (R486). -/
def pushPriv (s : State) (i q : Nat) (f : OutFrame) : State :=
  let x := pq s i
  let l := nget (fun _ => []) x.priv q
  let s := pqPut s i { x with priv := nput (fun _ => []) x.priv q (l ++ [f]) }
  if l.isEmpty then headTag s i q else s

/-- Every half of the device that could send is suspended or fenced, so no frame enters a port of it (R568, R572). -/
def portQuiet (s : State) (i : Nat) : Bool := halfQuiet s (i / 3)

/-- A packet of a type that carries no PSN goes to the CONTROL queue of the port of the next path (R440, R486). -/
def sendControl (s : State) (p : Nat) (k : Pkt) : State :=
  let path := nextPath s p
  match portOf s p path with
  | none => s
  | some i =>
    let s := pxUpd s p (fun x => { x with path := path + 1 })
    let k := { k with src := fget s F.FAB_NODE_NODE 0 }
    pushPriv s i 1 { wire := wireLen s i k.data.length, peer := p, path := path, p := k }

/-- PROBE on every enabled path (R442, R468); PSN is the first one the sender will use. -/
def sendProbes (s : State) (p : Nat) : State :=
  (peerPaths s p).foldl (fun s path => match portOf s p path with
    | none => s
    | some i => pushPriv s i 1 { wire := wireLen s i 0, peer := p, path := path,
                                 p := { typ := 9, src := fget s F.FAB_NODE_NODE 0, psn := pf s p 44 4 } }) s

/-! ### Operations and messages -/

def opOf (s : State) (k : Nat) : Option FabOp := nfind s.fab.ops k

def opPut (s : State) (k : Nat) (o : FabOp) : State :=
  let old := nfind s.fab.ops k
  { s with
    fab := { s.fab with ops := nset s.fab.ops k { o with stamp := (old.map (·.stamp)).getD s.stamp } }
    stamp := s.stamp + b2n old.isNone }

def msgKey (peer msg : Nat) : Nat := peer * 2 ^ 32 + msg

def msgOf (s : State) (k : Nat) : Option MsgTx := nfind s.fab.msgs k

def msgPut (s : State) (k : Nat) (m : MsgTx) : State := { s with fab := { s.fab with msgs := nset s.fab.msgs k m } }

/-- An export of a context begins or ends (R183). -/
def exportSet (s : State) (c : Option Nat) (k : Nat) (on : Bool) : State :=
  match c with
  | none => s
  | some c => cxUpd s c (fun x =>
      let l := x.exports.filter (· != k)
      { x with exports := if on then l ++ [k] else l })

/-- The value of rd: status, and the NODE of a REDIRECT (R457). -/
def rdOf (status node : Nat) : Word := w64 (status + (if status = fsREDIRECT then node * 2 ^ 16 else 0))

/-- An operation ends: rd is written; a status other than OK aborts its message, and the end of a PUTF or SEND closes it
(R451, R457, R459). -/
def endOp (s : State) (k status : Nat) : State :=
  match opOf s k with
  | none => s
  | some o =>
    let s := reap { s with fab := { s.fab with ops := nerase s.fab.ops k, gets := s.fab.gets.filter (fun g => g.2.op != k) } }
    let s := if o.peer = 65535 then s else pxUpd s o.peer (fun x => { x with wait := x.wait.filter (fun r => r.op != k) })
    let s := match o.ask with
      | some (t, id) => askDone s t id (rdOf status o.node)
      | none => if o.owner = 2 ∨ o.owner = 6 ∨ (o.owner = 4 ∧ o.arg ≠ 0 ∧ status ≠ 0) then { s with fab := { s.fab with ended := s.fab.ended ++ [(o.owner, o.arg, status)] } } else s
    if o.kind = 3 then s
    else
      let m := msgKey o.peer o.msg
      match msgOf s m with
      | none => s
      | some x =>
        let last := o.kind == 2 || o.kind == 4
        let x' := { x with dead := x.dead || status != 0, closed := if last then some s.now else x.closed }
        let s := if status ≠ 0 ∧ !x.dead ∧ o.peer ≠ 65535 then
            sendControl s o.peer { typ := 8, msg := o.msg, key := x.key, comp := x.comp, epoch := x.epoch, tenant := x.tenant, cls := x.cls }
          else s
        let s := msgPut s m x'
        if last ∨ status ≠ 0 then exportSet s o.cid m false else s

/-- One packet of an operation has ended with a status; the operation may end with it (R457). -/
def packetEnd (s : State) (k status node : Nat) : State :=
  match opOf s k with
  | none => s
  | some o =>
    let o := { o with left := o.left - 1, status := if o.status = 0 then status else o.status, node := if status = fsREDIRECT then node else o.node }
    let s := opPut s k o
    if o.left ≠ 0 ∨ !o.more.isEmpty then s
    else if o.status ≠ 0 then endOp s k o.status
    else if o.kind = 1 then endOp s k 0
    else if o.kind = 3 ∧ o.len ≤ o.got then endOp s k 0
    else s

/-! ### Release by a limiter (R482-R492) -/

/-- The peer is paced by its credit limiter (R489). -/
def credited (s : State) (p : Nat) : Bool := pFlow s p == 0 || fbit s F.SHP_CTL_CREDIT_ALL 0

/-- The next packet of a peer: one to send again, or the first that waits (R483). -/
def headOf (x : PeerX) : Option (TxRef × Option Unacked) :=
  match x.un.find? (·.again) with
  | some u => some (u.ref, some u)
  | none => match x.wait with
    | r :: _ => if x.un.length < 4096 then some (r, none) else none
    | [] => none

/-- The packet as it leaves: its payload read now (R458). -/
def buildPkt (s : State) (r : TxRef) (psn : Nat) (again : Bool) : Pkt :=
  let d := match r.at' with
    | some (t, a) => movRead s t a r.len
    | none => r.p.data
  { r.p with psn := psn, retx := again, src := fget s F.FAB_NODE_NODE 0, data := d }

/-- Packets that R471 paces. -/
def paced (typ : Nat) : Bool := typ == 1 || typ == 3 || typ == 4

/-- Credit of a peer in 1/8,000 byte: it rises while a packet waits (R490). -/
def creditNow (s : State) (p : Nat) : Nat := (px s p).c + (s.now - (px s p).cT) * pRate s p

/-- The limiter of a peer releases its next packet to a path and a port's leaf queue; nothing moves while EN is 0, the
peer is not reached, its ports are down or their buffer is full (R442, R482-R484). -/
def releasePeer (s : State) (p : Nat) : State :=
  let x := px s p
  if !fbit s F.FAB_CTL_EN 0 || pState s p != 1 || x.probing then s
  else match headOf x with
    | none => s
    | some (r, u) =>
      let path := nextPath s p
      match portOf s p path with
      | none => s
      | some i =>
        let n := match r.at' with
          | some _ => r.len
          | none => r.p.data.length
        let wire := wireLen s i n
        if portQuiet s i || decide (2097152 < portBytes (pq s i) + wire) then s
        else
          let psn := match u with
            | some u => u.psn
            | none => pf s p 44 4
          let k := buildPkt s r psn u.isSome
          let c := if paced r.p.typ then creditNow s p - wire * 8000 else creditNow s p
          let srtt := pf s p 36 4
          let rtoUs := if srtt = 0 then fget s F.FAB_TIMER0_RTO_INIT_US 0
            else max (fget s F.FAB_TIMER0_RTO_MIN_US 0) (min (fget s F.FAB_TIMER0_RTO_MAX_US 0) ((srtt + 4 * pf s p 40 4) / 1000))
          let rec1 : Unacked := match u with
            | some u => { u with sent := s.now, order := x.order, path := path, rtx := true, again := false, later := false }
            | none => { ref := r, psn := psn, sent := s.now, order := x.order, path := path, rto := rtoUs }
          let x := { x with
            un := match u with
              | some u => x.un.map (fun v => if v.psn = u.psn then rec1 else v)
              | none => x.un ++ [rec1]
            wait := if u.isSome then x.wait else x.wait.drop 1
            order := x.order + 1, path := path + 1 }
          let more := (headOf x).isSome
          let T := max (s.now * x.td) x.tn
          let x := if credited s p then { x with c := if more then c else 0, cT := s.now }
            else if paced r.p.typ then
              let (tn, td) := (T * pRate s p + 8000 * wire * x.td, x.td * max 1 (pRate s p))
              { x with c := 0, cT := s.now, tn := tn / Nat.gcd tn td, td := td / Nat.gcd tn td }
            else x
          let s := pxPut s p x
          let s := if u.isSome then fadd1 s F.FAB_LOSS_RETX 0 1
            else meter (pfPut s p 44 4 (psn + 1)) k.tenant 0 (if paced k.typ then k.data.length else 0)
          pushLeaf s i (64 * k.cls + k.tenant) { wire := wire, peer := p, path := path, p := k }

/-- The limiter has a packet to release: one that is not paced, one whose wire length the credit has reached (R490), or one
whose slot has come (R491). -/
def limiterReady (s : State) (p : Nat) : Bool :=
  let x := px s p
  match headOf x with
  | none => false
  | some (r, _) =>
    !paced r.p.typ ||
    (if credited s p then (portOf s p (nextPath s p)).any (fun i =>
        decide (8000 * wireLen s i (if r.at'.isSome then r.len else r.p.data.length) ≤ creditNow s p))
      else decide (x.tn / max x.td 1 / 64 ≤ s.now / 64))

/-- LIMITER_RELEASE. -/
def execLimiterRelease (peer : Nat) (s : State) : Host.Outcome State Fault Refusal :=
  .next (if limiterReady s peer then releasePeer s peer else s)

/-- A calendar slot turns: every peer on the wheel whose packet lies in it or before has it released (R491). -/
def execWheelSlot (s : State) : Host.Outcome State Fault Refusal :=
  .next (s.fab.peers.foldl (fun s e => if !credited s e.1 && limiterReady s e.1 then releasePeer s e.1 else s) s)

end Sys2Proof.Machine
end

