-- ==== Sys2Proof/Machine/CompOps.lean ====
section
/-!
DEFINITION. Compositions: their maps (R532, R533), the epoch order and the check of COMP and EPOCH (R535-R538).
-/

namespace Sys2Proof.Machine

def cmpOf (s : State) (c : Nat) : Comp := nget (fun _ => {}) s.cmp.comps c

def cmpPut (s : State) (c : Nat) (x : Comp) : State :=
  { s with cmp := { s.cmp with comps := nput (fun _ => {}) s.cmp.comps c x } }

/-- Address of slot `i` of a map: 0 current, 1 previous, 2 staging (the order within the table is log entry 16). -/
def mapAddr (s : State) (c m i : Nat) : Nat := fget s F.CMP_CTL_BASE 0 * 65536 + c * 131072 + 32768 * m + 32 * i

/-- A member entry as a 256-bit number (R532). -/
def member (s : State) (c m i : Nat) : Nat := memNat s (mapAddr s c m i) 32

def mNode (v : Nat) : Nat := bits v 0 32
def mPeer (v : Nat) : Nat := bits v 32 16
def mKind (v : Nat) : Nat := bits v 48 8
def mRank (v : Nat) : Nat := bits v 64 8
def mFlags (v : Nat) : Nat := bits v 72 8
def mBase (v : Nat) : Nat := bits v 128 64
def mLen (v : Nat) : Nat := bits v 192 64

/-- Slots of a map that are not EMPTY, in ascending order. -/
def mapSlots (s : State) (c m : Nat) : List Nat :=
  let a := mapAddr s c m 0
  let l := (s.mem.filter (fun e => decide (a ≤ e.1) && decide (e.1 < a + 32768) && (e.1 - a) % 32 == 6)).map (fun e => (e.1 - a) / 32)
  l.filter (fun i => mKind (member s c m i) != 0)

/-- MEMBERS of the current map (R532). -/
def cmpMembers (s : State) (c : Nat) : Nat := match (mapSlots s c 0).getLast? with
  | some i => i + 1
  | none => 0

/-- Slots of a map that name this device. -/
def ownSlots (s : State) (c m : Nat) : List Nat :=
  (mapSlots s c m).filter (fun i => mNode (member s c m i) == fget s F.FAB_NODE_NODE 0)

/-- Epoch `e` is newer than `f` (R535). -/
def newer (e f : Nat) : Bool := decide (1 ≤ (e + 65536 - f % 65536) % 65536) && decide ((e + 65536 - f % 65536) % 65536 ≤ 32767)

/-- A line of a composition's table that fails its check. -/
def cmpBadLine (s : State) (c : Nat) : Option Nat :=
  let a := mapAddr s c 0 0 / 64
  (s.syn.find? (fun e => decide (a ≤ e.1) && decide (e.1 < a + 1536))).map (fun e => e.1 * 64)

/-- The composition is open on this device (R534, R536): a failed line of its table closes it until its next OPEN (R581). -/
def cmpOpen (s : State) (c : Nat) : Bool :=
  fbit s F.CMP_CTL_EN 0 && (cmpOf s c).open' && !(cmpOf s c).closing && (cmpBadLine s c).isNone

/-- The result of the check of R536: a fabric status, and for a REDIRECT the slot of the current map. -/
structure CmpCheck where
  status : Nat := 0
  slot : Nat := 0
  deriving DecidableEq, Repr

/-- The check of R536. `old` picks the slot that the member filled in the previous map (R538). -/
def compCheck (s : State) (c e : Nat) (old : Option Nat) : CmpCheck :=
  let x := cmpOf s c
  if !cmpOpen s c then { status := fsPERM }
  else if e = x.cur ∨ newer e x.cur then {}
  else if e = x.prev ∧ x.prevValid then
    if !(ownSlots s c 0).isEmpty then {}
    else match old with
      | none => { status := fsSTALE }
      | some i => if mKind (member s c 0 i) = 0 then { status := fsSTALE } else { status := fsREDIRECT, slot := i }
  else { status := fsSTALE }

/-- What a checked request leaves behind: the arrival of the previous epoch, and the error flags (R536-R538). -/
def compMark (s : State) (c e : Nat) (k : CmpCheck) : State :=
  let x := cmpOf s c
  let s := match cmpBadLine s c with
    | some l => if x.open' then cmpPut (lineFailure s 10 1 l) c { x with open' := false } else s
    | none => s
  let s := if cmpOpen s c && x.prevValid && e == x.prev then cmpPut s c { x with lastOld := s.now } else s
  let s := fsetIf s (k.status == fsSTALE) F.CMP_ERR_STALE_RX 0
  fsetIf s (k.status == fsREDIRECT) F.CMP_ERR_REDIRECT_TX 0

/-- The slot that this device filled in the previous map, the lowest one (R538). -/
def oldSlot (s : State) (c : Nat) : Option Nat := (ownSlots s c 1).head?

end Sys2Proof.Machine
end

