-- ==== Sys2Proof/Machine/HostRx.lean ====
section
/-!
DEFINITION. Receive rings of the host port (R649, R650): frames, control messages and region completions that reach host
software, and the signals of receive and transmit rings.
-/

namespace Sys2Proof.Machine

/-- Entries of a receive ring. -/
def rxSize (s : State) (r : Nat) : Nat := 2 ^ fget s F.HST_RX_CTL_SIZE r

/-- Receive entries posted and not filled. -/
def rxPosted (s : State) (r : Nat) : Nat :=
  if fbit s F.HST_RX_CTL_EN r then (fget s F.HST_RX_PTR_HOST r + rxSize s r - fget s F.HST_RX_PTR_DEV r) % rxSize s r else 0

/-- A receive ring's write-back is signalled on vector 4 (MSI-X vectors of each function). -/
def rxSignal (s : State) (r : Nat) : State := irq s r 4

/-- What goes into bytes 16-59 of a receive entry beside LEN and CONT (R649). -/
structure RxInfo where
  kind : Nat := 0
  port : Nat := 0
  time : Nat := 0
  node : Nat := 0
  msg : Nat := 0
  key : Nat := 0
  deriving DecidableEq, Repr

/-- One posted entry is filled with bytes and written back. -/
def rxWriteBack (s : State) (r : Nat) (i : RxInfo) (bs : List Byte) (cont : Bool) : State :=
  let dev := fget s F.HST_RX_PTR_DEV r
  let ph := fget s F.HST_RX_PTR_PHASE r
  let e := fget s F.HST_RX_BASE_BASE r * 4096 + 64 * dev
  let s := if bs.isEmpty then s else hostWrite s (hostNat s e 8) bs
  let s := hostWrite s (e + 16) (toBytes 4 bs.length ++ toBytes 1 i.kind ++ toBytes 1 i.port ++ toBytes 1 (b2n cont) ++
    toBytes 1 0 ++ toBytes 8 i.time ++ toBytes 4 i.node ++ toBytes 4 i.msg ++ toBytes 4 i.key ++ toBytes 16 0 ++
    toBytes 4 (4 + ph * 2 ^ 31))
  let s := fput s F.HST_RX_PTR_DEV r ((dev + 1) % rxSize s r)
  let s := if dev + 1 = rxSize s r then fput s F.HST_RX_PTR_PHASE r (1 - ph) else s
  rxSignal s r

/-- Bytes spread over posted buffers, as many as are posted; the lengths of the buffers come from the entries. -/
def rxSpread (s : State) (r : Nat) (i : RxInfo) : Nat → List Byte → State
  | 0, _ => s
  | n + 1, bs =>
    let e := fget s F.HST_RX_BASE_BASE r * 4096 + 64 * fget s F.HST_RX_PTR_DEV r
    let len := hostNat s (e + 8) 4
    if bs.length ≤ len then rxWriteBack s r i bs false
    else rxSpread (rxWriteBack s r i (bs.take len) true) r i n (bs.drop len)

/-- Room in the posted buffers of a ring, in the first `n` entries from `k`. -/
def rxRoom (s : State) (r : Nat) : Nat → Nat → Nat
  | 0, _ => 0
  | n + 1, k => hostNat s (fget s F.HST_RX_BASE_BASE r * 4096 + 64 * (k % rxSize s r) + 8) 4 + rxRoom s r n (k + 1)

/-- The posted buffers of a ring can hold `n` bytes. -/
def rxFits (s : State) (r n : Nat) : Bool :=
  decide (0 < rxPosted s r) && decide (n ≤ rxRoom s r (rxPosted s r) (fget s F.HST_RX_PTR_DEV r))

/-- A frame reaches receive ring 0, or is dropped for want of an entry (R434, R650). -/
def rxFrame (s : State) (i : RxInfo) (bs : List Byte) : State :=
  let e := fget s F.HST_RX_BASE_BASE 0 * 4096 + 64 * fget s F.HST_RX_PTR_DEV 0
  if 0 < rxPosted s 0 ∧ bs.length ≤ hostNat s (e + 8) 4 then rxWriteBack s 0 i bs false
  else hstErr (fadd1 s F.FAB_LOSS_DROPPED 0 1) F.HST_ERR_RX_LOST

/-- A SEND to consumer 0 reaches receive ring 0. -/
def rxMessage (s : State) (i : RxInfo) (bs : List Byte) : State := rxSpread s 0 i (rxPosted s 0) bs

def rxQueue (s : State) (r : Nat) : List RxNote := nget (fun _ => []) s.host.rxWait r

def setRxQueue (s : State) (r : Nat) (l : List RxNote) : State :=
  { s with host := { s.host with rxWait := nput (fun _ => []) s.host.rxWait r l } }

/-- A region completion is written to its ring. -/
def rxNoteOut (s : State) (r : Nat) (n : RxNote) : State :=
  rxWriteBack s r { kind := 3, port := n.port, node := n.node, msg := n.msg, key := n.key } [] false

/-- A region completion: written, or queued behind at most 4,096 others, or lost (R650). -/
def rxNotify (s : State) (r : Nat) (n : RxNote) : State :=
  if (rxQueue s r).isEmpty && decide (0 < rxPosted s r) then rxNoteOut s r n
  else if (rxQueue s r).length < 4096 then setRxQueue s r (rxQueue s r ++ [n])
  else hstErr s F.HST_ERR_RX_LOST

/-- Waiting region completions take newly posted entries. -/
def rxFlush (s : State) (r : Nat) : Nat → State
  | 0 => s
  | n + 1 => match rxQueue s r with
    | [] => s
    | x :: l => if 0 < rxPosted s r then rxFlush (rxNoteOut (setRxQueue s r l) r x) r n else s

end Sys2Proof.Machine
end

