-- ==== Sys2Proof/Machine/Wire.lean ====
section
/-!
DEFINITION. The bytes of a transport or lattice packet on the wire (R436-R438, R516): outer headers, transport header,
payload and trailer.
-/

namespace Sys2Proof.Machine

/-- `n` bytes of a number, highest first (R438, and R13 for the outer headers). -/
def beBytes (n v : Nat) : List Byte := (toBytes n v).reverse

/-- The transport header of R438. -/
def transportHeader (p : Pkt) : List Byte :=
  beBytes 1 (16 + p.typ % 16) ++ beBytes 1 (128 * b2n p.fin + 64 * b2n p.retx) ++ beBytes 1 (32 * (p.cls % 8)) ++
  beBytes 1 (p.tenant % 64) ++ beBytes 4 p.src ++ beBytes 4 p.psn ++ beBytes 4 p.msg ++ beBytes 4 p.key ++ beBytes 4 p.seg ++
  beBytes 4 p.total ++ beBytes 8 p.roff ++ beBytes 2 p.epoch ++ beBytes 2 (p.comp % 1024) ++ beBytes 2 p.data.length ++
  beBytes 2 0 ++ beBytes 4 p.arg

/-- The lattice header of R516. -/
def latticeHeader (p : LPkt) : List Byte :=
  beBytes 1 28 ++ beBytes 1 (64 * b2n p.retx) ++ beBytes 1 (32 * (p.cls % 8)) ++ beBytes 1 (p.tenant % 64) ++
  beBytes 4 p.src ++ beBytes 4 p.lsn ++ beBytes 1 p.lop ++ beBytes 1 (b2n p.combine + 2 * b2n p.merged) ++ beBytes 2 p.lines ++
  beBytes 4 p.tag ++ beBytes 4 p.ctag ++ beBytes 1 p.status ++ beBytes 3 0 ++ beBytes 8 p.laddr ++ beBytes 2 p.epoch ++
  beBytes 2 (p.comp % 1024) ++ beBytes 2 p.data.length ++ beBytes 2 0 ++ beBytes 4 p.arg

/-- Sum of the 16-bit words of bytes, highest byte first. -/
def sum16 : List Byte → Nat
  | [] => 0
  | [a] => a.toNat * 256
  | a :: b :: r => a.toNat * 256 + b.toNat + sum16 r

/-- The ones' complement checksum of UDP; 0 is sent as 65,535 (R433: no zero checksum). -/
def udpSum (bs : List Byte) : Nat :=
  let v := sum16 bs
  let c := 65535 - (if v = 0 then 0 else (v - 1) % 65535 + 1)
  if c = 0 then 65535 else c

/-- The device's own IPv6 address, as its bytes stand on the wire. -/
def ownIp (s : State) : List Byte := beBytes 8 (fget s F.FAB_ADDR_HI_ADDR 0) ++ beBytes 8 (fget s F.FAB_ADDR_LO_ADDR 0)

/-- IPv6 traffic class: the DSCP of the class, and ECT(1) on data packets while ECN_EN is 1 (R437). -/
def trafficClass (s : State) (typ cls : Nat) : Nat :=
  4 * bits (fget s F.FAB_DSCP_DSCP 0) (6 * cls) 6 + b2n (fbit s F.FAB_CTL_ECN_EN 0 && decide (1 ≤ typ) && decide (typ ≤ 4))

/-- UDP length, checksum and what follows, behind the two port numbers; `ip` is the pair of addresses. -/
def udpPacket (ip : List Byte) (src : Nat) (body : List Byte) : List Byte :=
  let len := 8 + body.length
  let head := beBytes 2 src ++ beBytes 2 0x4D43 ++ beBytes 2 len
  let c := udpSum (ip ++ beBytes 4 len ++ beBytes 4 17 ++ head ++ beBytes 2 0 ++ body)
  head ++ beBytes 2 c ++ body

/-- The bytes of a packet from the destination MAC on, without the FCS that the port adds (R436, R437). The port's own MAC
and the priority bits of a tag are free values, for the spec gives neither (log entry 110). -/
def wireBytes (s : State) (i : Nat) (f : OutFrame) : List Byte :=
  let (typ, cls, head, data) := if f.kind = 1 then (12, f.l.cls, latticeHeader f.l, f.l.data) else (f.p.typ, f.p.cls, transportHeader f.p, f.p.data)
  let body := head ++ data ++ beBytes 4 (crc32c (head ++ data)).toNat
  let ip := ownIp s ++ toBytes 16 (pf s f.peer 0 16)
  let vlan := fget s F.FAB_PORT_CTL_VLAN i
  let tag := if vlan = 0 then [] else beBytes 2 0x8100 ++ beBytes 2 (Config.choice 35 i % 16 * 4096 + vlan % 4096)
  let flow := f.path % 16 * 65536 + fget s F.FAB_NODE_NODE 0 % 65536
  beBytes 6 (fget s F.FAB_PORT_GW_MAC i) ++ beBytes 6 (Config.choice 34 i) ++ tag ++ beBytes 2 0x86DD ++
    beBytes 4 (6 * 2 ^ 28 + trafficClass s typ cls * 2 ^ 20 + flow) ++ beBytes 2 (8 + body.length) ++ beBytes 1 17 ++
    beBytes 1 (fget s F.FAB_CTL_HOP_LIMIT 0) ++ ip ++ udpPacket ip (fget s F.FAB_SPRAY_PORT_BASE 0 + f.path) body

/-- A frame goes out, with its bytes. -/
def frameOut (s : State) (i : Nat) (f : OutFrame) : State :=
  let f := if f.kind = 2 then f else { f with bytes := wireBytes s i f }
  { s with out := { s.out with frames := s.out.frames ++ [(i, f)] } }

end Sys2Proof.Machine
end

