-- ==== Sys2Proof/Machine/Fabric.lean ====
section
/-!
DEFINITION. Receiving into regions (R446-R449, R453-R456) and control messages (R461): the key check, the message table,
placement, completion, and the regions' reads. What arrives in a packet and what an instruction naming PEER 0xFFFF does
within the device (R441) go through the same operations.
-/

namespace Sys2Proof.Machine

/-! ### Region entries (R446) -/

def rgState (v : Nat) : Nat := bits v 0 2
def rgAny (v : Nat) : Bool := bits v 2 1 == 1
def rgRead (v : Nat) : Bool := bits v 3 1 == 1
def rgWrite (v : Nat) : Bool := bits v 4 1 == 1
def rgSpan (v : Nat) : Bool := bits v 5 1 == 1
def rgNotify (v : Nat) : Nat := bits v 8 8
def rgGen (v : Nat) : Nat := bits v 16 16
def rgComp (v : Nat) : Nat := bits v 32 10
def rgTenant (v : Nat) : Nat := bits v 48 6
def rgBase (v : Nat) : Nat := bits v 64 64
def rgLen (v : Nat) : Nat := bits v 128 64
def rgArg (v : Nat) : Nat := bits v 192 32
def rgCtx (v : Nat) : Nat := bits v 64 18
def rgInc (v : Nat) : Nat := bits v 82 16

/-- Half that a region lies in: that of its context, or of its stack; half A for the host and flash tiers. -/
def rgHalf (v : Nat) : Nat := if rgSpan v then ctxHalf (rgCtx v) else if addrTier (rgBase v) = 0 then addrHalf (rgBase v) % 2 else 0

/-- What comes of an access: the state after, the status of the answer, the member a REDIRECT names, the ranges of device
memory it reaches, and whether it has to wait, the packet staying unconsumed. -/
structure Verdict where
  s : State
  status : Nat := 0
  node : Nat := 0
  addr : Nat := 0
  runs : List (Nat × Nat) := []
  wait : Bool := false

/-- IPv6 address of the member that a REDIRECT names, as a number of its bytes, first lowest: that of its peer-table entry, or the device's own. -/
def memberIp (s : State) (c i : Nat) : Nat :=
  let p := mPeer (member s c 0 i)
  if p = 65535 then ofBytes (ownIp s) else pf s p 0 16

/-! ### Spans (R449) -/

/-- Offset `x` of a span region: the span page, the byte offset in the span that its walk uses, whether it lies in a side
record, and the bytes up to the end of that page or record. A side record is reached by the walk of its page's last byte
(log entry 17). -/
def spanPlace (d : Desc) (x : Nat) : Nat × Nat × Bool × Nat :=
  let n := 65536 * dPages d
  if x < n then (x / 65536, x, false, 65536 - x % 65536)
  else ((x - n) / 1024, (x - n) / 1024 * 65536 + 65535, true, 1024 - (x - n) % 1024)

/-- The ranges of device memory behind bytes of a span region, each page translated by the walk of R195 (R449). -/
def spanRuns (s : State) (c x : Nat) (write : Bool) : Nat → Nat → Verdict
  | 0, _ => { s := s }
  | _, 0 => { s := s }
  | n, k + 1 =>
    let d := (cx s c).d
    let (v, off, side, room) := spanPlace d x
    let len := min n room
    if 66560 * dPages d < x + len ∨ (side ∧ dg d D.FMT ≠ 2) then { s := s, status := fsRANGE }
    else if write ∧ cowBusy s c then { s := s, wait := true }
    else
      let r := walk s (256 * ctxHalf c) c off write
      match r.2 with
      | .inl (some (_, true)) =>
        let e := ptGet r.1 (cx r.1 c).d v
        let a := if side then sideAddr r.1 (sideHalf c e) (pSide e) + (x - 65536 * dPages d) % 1024 else pageAddr e x
        let q := spanRuns r.1 c (x + len) write (n - len) k
        { q with runs := (a, len) :: q.runs }
      | .inl _ => { s := r.1, status := fsRANGE }
      | .inr _ => { s := r.1, wait := true }

/-- Whether the walk would back the page of a span offset: the message then owns it (R459). -/
def unbacked (s : State) (c x : Nat) : Bool :=
  let e := ptGet s (cx s c).d (spanPlace (cx s c).d x).1
  !pV e || pLost e

/-! ### The key check (R447) -/

/-- Steps 1 to 5 of R447 for `n` bytes at ROFF; `far` says that half `h` cannot be reached (R574). -/
def keyCheck (s : State) (p : Pkt) (write : Bool) (n : Nat) (far : Nat → Bool) : Verdict :=
  let i := p.key / 65536 % 65536
  let v := region s i
  let known := lineOk s (regionAddr s i)
  let s := if known then s else lineFailure s 10 1 (regionAddr s i / 64 * 64)
  let k := compCheck s p.comp p.epoch (oldSlot s p.comp)
  if !rgAny v && p.comp != rgComp v then { s := s, status := fsPERM }
  else if !rgAny v && k.status != 0 then
    let c := member s p.comp 0 k.slot
    { s := compMark s p.comp p.epoch k, status := k.status,
      node := if k.status = fsREDIRECT then mNode c else 0
      addr := if k.status = fsREDIRECT then memberIp s p.comp k.slot else 0 }
  else
    let s := if rgAny v then s else compMark s p.comp p.epoch k
    let c := rgCtx v
    if !known || rgState v == 0 || rgState v == 3 || rgGen v != p.key % 65536 || (rgSpan v && !named s c (rgInc v)) then
      { s := s, status := fsBADKEY }
    else if rgState v = 2 then { s := s, status := fsREVOKED }
    else if (write && !rgWrite v) || (!write && !rgRead v) then { s := s, status := fsPERM }
    else if rgLen v < p.roff + n ∨ (far (rgHalf v) ∧ (rgSpan v ∨ addrTier (rgBase v) = 0)) then { s := s, status := fsRANGE }
    else if rgSpan v then
      let q := spanRuns s c p.roff write n (n / 1024 + 3)
      { q with wait := q.wait || (!write && q.runs.any (fun r => flashWaits s r.1 r.2)) }
    else if !write && flashWaits s (rgBase v + p.roff) n then { s := s, wait := true }
    else
      let a := rgBase v + p.roff
      if (List.range (cdiv (a % 65536 + n) 65536)).all (fun j => mapped s (a / 65536 * 65536 + j * 65536)) then
        { s := s, runs := if n = 0 then [] else [(a, n)] }
      else { s := s, status := fsRANGE }

/-! ### The message table (R453, R454) -/

/-- Key of a message-table entry: source, number, and whether it is a control message. -/
def rxKey (src msg : Nat) (send : Bool) : Nat := 2 * (src * 2 ^ 32 + msg) + b2n send

def rxOf (s : State) (k : Nat) : Option MsgRx := nfind s.fab.rx k

def rxPut (s : State) (k : Nat) (m : MsgRx) : State :=
  let put (st : Nat) : State := { s with fab := { s.fab with rx := nset s.fab.rx k { m with stamp := st } } }
  let s1 := match rxOf s k with
    | some x => put x.stamp
    | none => { put s.stamp with stamp := s.stamp + 1 }
  if m.done then reap s1 else s1

def rxErase (s : State) (k : Nat) : State := reap { s with fab := { s.fab with rx := nerase s.fab.rx k } }

/-- A message-table entry is free (R447 step 6). -/
def rxRoomFree (s : State) : Bool :=
  decide ((s.fab.rx.filter (fun e => !e.2.send)).length < fget s F.FAB_MSG_CFG_ENTRIES 0)

/-- Bytes written over ranges of device memory. -/
def writeRuns (s : State) : List (Nat × Nat) → List Byte → State
  | [], _ => s
  | (a, n) :: r, bs => writeRuns (memWrite s a (bs.take n)) r (bs.drop n)

/-- Completion of a message into a region: what NOTIFY asks for (R454, R455). Only a slot of the region that BNK_INBOX names holds a
request (R265). -/
def notify (s : State) (v : Nat) (port : Nat) (m : MsgRx) : State :=
  match rgNotify v with
  | 1 => rxNotify s (rgArg v) { port := port, node := m.src, msg := m.msg, key := m.key }
  | 2 =>
    let peer := if m.src = fget s F.FAB_NODE_NODE 0 then 65535 else (peerOf s m.src).getD 65535
    if m.key / 65536 % 65536 ≠ fget s F.BNK_INBOX_REGION 0 ∨ fget s F.BNK_INBOX_SLOTS 0 ≤ m.off / 32768 then s
    else
      let n : InboxNote := { slot := m.off / 32768, peer := peer, cls := m.cls, tenant := m.tenant, comp := m.comp, epoch := m.epoch }
      { s with bnk := { s.bnk with inbox := s.bnk.inbox ++ [n] } }
  | 3 => pushToSet s ((List.range 16).map (fun i => 16 * rgHalf v + i)) { bits := mkItem 0 false 0 0 1 (rgArg v) m.msg }
  | _ => s

/-- A message-table entry is given up: the pages that the message backed in a span are released (R459). -/
def rxDrop (s : State) (k : Nat) : State :=
  match rxOf s k with
  | none => s
  | some m =>
    let s := rxErase s k
    m.pages.foldl (fun s (c, inc, v) =>
      let e := ptGet s (cx s c).d v
      if named s c inc && pV e then ptPut (releaseEntry s c e) c v 0 else s) s

/-- A PUT segment (R447, R453, R454): placed once, counted, and the message completed when every segment is there. The
flag of the answer says that completion was raised. -/
def placePut (s : State) (p : Pkt) (port : Nat) (far : Nat → Bool) : Verdict × Bool :=
  let k := rxKey p.src p.msg false
  let n := p.data.length
  match (rxOf s k).filter (fun m => m.done) with
  | some _ => ({ s := s }, false)
  | none =>
    let i := p.key / 65536 % 65536
    let v := region s i
    let c := rgCtx v
    let fresh := if rgSpan v then (List.range (n / 1024 + 1)).filter (fun j => unbacked s c (p.roff + 1024 * j)) else []
    let q := keyCheck s p true n far
    if q.status ≠ 0 ∨ q.wait then (q, false)
    else if (rxOf s k).isNone && !rxRoomFree s then
      ({ s := fset s F.FAB_ERR_MSG_FULL 0, status := fsNORES }, false)
    else if q.runs.any (fun r => writeDown q.s r.1) then
      ({ s := fadd1 q.s F.INT_LINE_CNT_STACK 0 1, status := fsBADLINE }, false)
    else if q.runs.any (fun r => flashShut q.s r.1) then ({ s := q.s, status := fsNORES }, false)
    else if q.runs.any (fun r => writeWaits q.s r.1 r.2) then ({ s := q.s, wait := true }, false)
    else
      let m : MsgRx := (rxOf s k).getD { src := p.src, msg := p.msg, key := p.key, cls := p.cls, tenant := p.tenant, comp := p.comp, epoch := p.epoch }
      let new := !m.segs.contains p.seg
      let s := if new then meter (writeRuns q.s q.runs p.data) (rgTenant v) 1 n else q.s
      let pages := distinctPairs (fresh.map (fun j => (c, rgInc v, (spanPlace (cx s c).d (p.roff + 1024 * j)).1)))
      let m := { m with
        segs := if new then m.segs ++ [p.seg] else m.segs
        total := if p.fin then some p.total else m.total
        off := if p.fin ∧ m.total.isNone then p.roff else m.off
        pages := m.pages ++ pages }
      if m.total = some m.segs.length then
        (({ s := notify (rxPut s k { m with done := true }) v port m } : Verdict), true)
      else ({ s := rxPut s k m }, false)
where
  /-- Pages without repeats. -/
  distinctPairs (l : List (Nat × Nat × Nat)) : List (Nat × Nat × Nat) :=
    l.foldl (fun a x => if a.contains x then a else a ++ [x]) []

/-! ### Control messages (R461) -/

/-- The bytes of a control message, its parts in order. -/
def joinParts (m : MsgRx) : List Byte :=
  (List.range m.parts.length).flatMap (fun i => ((m.parts.find? (fun e => e.1 == 4096 * i)).map (·.2)).getD [])

/-- An OP of a context-service message (R462). -/
def ctxMsgOk (bs : List Byte) : Bool :=
  let op := (bs.headD 0).toNat
  decide (bs.length = 64) && decide (1 ≤ op) && decide (op ≤ 5)

/-- A control message reaches its consumer; none when the consumer has no room. -/
def consume (s : State) (m : MsgRx) (port peer : Nat) (bs : List Byte) : Option State :=
  match m.key with
  | 0 => if rxFits s 0 bs.length then some (rxMessage s { kind := 2, port := port, node := m.src, msg := m.msg } bs) else none
  | 1 => some { s with fab := { s.fab with rows := s.fab.rows ++ [(peer, port / 3, bs)] } }
  | 2 =>
    if ctxMsgOk bs then some { s with fab := { s.fab with svc := s.fab.svc ++ [(peer, bs)] } }
    else some (fset s F.FAB_ERR_CTX_MSG 0)
  | _ => some { s with fab := { s.fab with stew := s.fab.stew ++ [(peer, bs)] } }

/-- A SEND packet (R461): kept until its message is whole, which then reaches its consumer. -/
def placeSend (s : State) (p : Pkt) (port peer : Nat) : Verdict × Bool :=
  let k := rxKey p.src p.msg true
  let m : MsgRx := (rxOf s k).getD { src := p.src, msg := p.msg, send := true, key := p.arg, cls := p.cls, tenant := p.tenant, comp := p.comp, epoch := p.epoch }
  if 3 < p.arg ∨ 131072 < p.roff + p.data.length then ({ s := s, status := fsMALFORMED }, false)
  else if m.done ∨ m.segs.contains p.seg then ({ s := s }, false)
  else
    let m := { m with
      segs := m.segs ++ [p.seg], parts := m.parts ++ [(p.roff, p.data)]
      total := if p.fin then some p.total else m.total }
    if m.total = some m.segs.length then
      match consume s m port peer (joinParts m) with
      | some s => ({ s := rxPut s k { m with done := true, parts := [] } }, true)
      | none => ({ s := s, status := fsNORES }, false)
    else ({ s := rxPut s k m }, false)

/-! ### Reading a region (R460) -/

/-- Pieces of at most `n` bytes of ranges of memory: offset, address, length. -/
def cutRuns (n : Nat) : Nat → List (Nat × Nat) → List (Nat × Nat × Nat)
  | _, [] => []
  | off, (a, l) :: r =>
    (List.range (cdiv l n)).map (fun i => (off + n * i, a + n * i, min n (l - n * i))) ++ cutRuns n (off + l) r

/-- Whether every line of a piece passes its check. -/
def pieceOk (s : State) (x : Nat × Nat × Nat) : Bool := (badLineIn s x.2.1 x.2.2).isNone

/-- The first failing line of each piece is reported (R581, R582). -/
def reportPieces (s : State) (l : List (Nat × Nat × Nat)) : State :=
  l.foldl (fun s x => match badLineIn s x.2.1 x.2.2 with
    | some a => lineFailure s 5 1 a
    | none => s) s

end Sys2Proof.Machine
end

