-- ==== Sys2Proof/Machine/FabTx.lean ====
section
/-!
DEFINITION. Starting fabric operations: FAB.PUT, FAB.PUTF, FAB.GET and FAB.SEND (R154-R156, R441, R451, R452, R460), and
the operations that the device starts itself.
-/

namespace Sys2Proof.Machine

/-- A fabric descriptor (R154). -/
structure FabDesc where
  peer : Nat := 0
  cls : Nat := 0
  tenant : Nat := 0
  key : Nat := 0
  roff : Nat := 0
  laddr : Nat := 0
  len : Nat := 0
  msg : Nat := 0
  epoch : Nat := 0
  comp : Nat := 0
  deriving DecidableEq, Repr

def fabDesc (n : Nat) : FabDesc :=
  { peer := bits n 0 16, cls := bits n 16 8, tenant := bits n 24 8, key := bits n 32 32, roff := bits n 64 64,
    laddr := bits n 128 64, len := bits n 192 32, msg := bits n 224 32, epoch := bits n 256 16, comp := bits n 272 16 }

/-- A descriptor that R154 does not allow (R156). A GET may not place data in the image area. R156 does not name a TENANT above 63,
a COMP above 1,023 or a CLASS above 7: they count as fields outside their range (DESIGN CHOICE, log entry 120). -/
def fabBad (s : State) (t n kind : Nat) : Bool :=
  let d := fabDesc n
  bits n 288 224 != 0 || decide (7 < d.cls) || decide (63 < d.tenant) || decide (1023 < d.comp) || d.len % 64 != 0 ||
  decide (d.len < 64) || decide (2 ^ 30 < d.len) || d.laddr % 64 != 0 || !inMap s d.laddr d.len || farDev s t d.laddr ||
  (kind == 3 && decide (d.laddr < imageEnd (til s t)))

/-- A peer that every instruction finds unreachable at once (R468, R475). -/
def unreachable (s : State) (p : Nat) : Bool := decide (peerCount s ≤ p) || pState s p != 1

/-- A packet joins those its peer's limiter has not released; an idle peer's credit starts at 0 (R490). -/
def enqueueTx (s : State) (p : Nat) (r : TxRef) : State :=
  pxUpd s p (fun x => if x.wait.isEmpty then { x with wait := [r], c := 0, cT := s.now } else { x with wait := x.wait ++ [r] })

/-- The segments of an instruction, from segment number `base` on (R452): payload at a tiller address or given. -/
def segments (k kind base : Nat) (d : FabDesc) (at' : Option (Nat × Nat)) (bs : List Byte) : List TxRef :=
  let n := cdiv d.len 4096
  (List.range n).map (fun i =>
    let l := min 4096 (d.len - 4096 * i)
    { op := k, len := l, at' := at'.map (fun (t, a) => (t, a + 4096 * i))
      p := { typ := if kind = 4 then 4 else 1, fin := kind != 1, cls := d.cls, tenant := d.tenant, msg := d.msg, key := d.key,
             seg := base + i, total := if kind = 1 then 0 else base + n
             roff := if kind = 4 then 4096 * i else d.roff + 4096 * i
             epoch := d.epoch, comp := d.comp, arg := if kind = 4 then d.roff % 256 else 0
             data := if at'.isNone then (bs.drop (4096 * i)).take l else [] } })

/-- The message of an instruction as R451, R452 and R459 see it: a status that ends the instruction, or the entry before
it. -/
def msgCheck (s : State) (kind : Nat) (d : FabDesc) : Nat × MsgTx :=
  let n := cdiv d.len 4096
  let m0 : MsgTx := { key := d.key, cls := d.cls, tenant := d.tenant, comp := d.comp, epoch := d.epoch }
  let new (m : MsgTx) : Nat × MsgTx := (if 262144 < n then fsMALFORMED else 0, m)
  match msgOf s (msgKey d.peer d.msg) with
  | none => new m0
  | some m =>
    match m.closed with
    | some t => if s.now < t + fget s F.FAB_TIMER2_DONE_HOLD_MS 0 * 1000000 then (fsMSGBUSY, m) else new m0
    | none =>
      if kind = 4 ∨ m.key ≠ d.key ∨ m.cls ≠ d.cls ∨ m.tenant ≠ d.tenant ∨ m.comp ≠ d.comp ∨ m.epoch ≠ d.epoch then (fsMALFORMED, m)
      else if m.dead then (fsABORTED, m)
      else (if 262144 < m.segs + n then fsMALFORMED else 0, m)

/-- Requests of a GET go out while tags are free (R460). -/
def sendGets (s : State) (k : Nat) : Nat → State
  | 0 => s
  | f + 1 => match opOf s k with
    | none => s
    | some o => match o.more with
      | [] => s
      | (off, len) :: r =>
        if 4096 ≤ s.fab.gets.length then s
        else
          let tag := lowestOut (s.fab.gets.map (·.1)) s.fab.gets.length 0
          let s := opPut s k { o with more := r, left := o.left + 1 }
          let s := { s with fab := { s.fab with gets := nset s.fab.gets tag { op := k, off := off, len := len } } }
          sendGets (enqueueTx s o.peer { op := k, p := { o.head with roff := o.head.roff + off, total := len, arg := tag } }) k f

/-- Requests that waited for a tag, oldest operation first. -/
def sendWaiting (s : State) : State :=
  s.fab.ops.foldl (fun s e => if e.2.more.isEmpty then s else sendGets s e.1 4097) s

/-- An operation that has passed its checks starts: its message is open, its packets wait for the limiter. -/
def startOp (s : State) (k : Nat) (o : FabOp) (d : FabDesc) (bs : List Byte) : State :=
  if o.kind = 3 then
    let n := cdiv d.len 65536
    let o := { o with
      head := { typ := 2, cls := d.cls, tenant := d.tenant, key := d.key, roff := d.roff, epoch := d.epoch, comp := d.comp }
      more := (List.range n).map (fun i => (65536 * i, min 65536 (d.len - 65536 * i))) }
    sendGets (opPut s k o) k (n + 1)
  else
    let m := (msgCheck s o.kind d).2
    let l := segments k o.kind m.segs d (if bs.isEmpty then some (o.til, d.laddr) else none) bs
    let s := msgPut s (msgKey d.peer d.msg) { m with segs := m.segs + l.length }
    let s := exportSet (opPut s k { o with left := l.length }) o.cid (msgKey d.peer d.msg) true
    l.foldl (fun s r => enqueueTx s d.peer r) s

/-- The first status that ends an instruction before it sends anything; 0 when none does. -/
def startStatus (s : State) (kind : Nat) (d : FabDesc) : Nat :=
  if kind = 4 ∧ (d.key ≠ 0 ∨ 131072 < d.len ∨ 255 < d.roff) then fsMALFORMED
  else if d.peer ≠ 65535 ∧ unreachable s d.peer then fsUNREACH
  else if kind = 3 then 0
  else (msgCheck s kind d).1

/-- An instruction ends at its issue: rd gets the status. An open message is aborted, and a PUTF closes it (R451, R459). -/
def refuseOp (s : State) (k : Nat) (o : FabOp) (status : Nat) : State :=
  let m := msgKey o.peer o.msg
  let open' := o.kind != 3 && status != fsMSGBUSY && (msgOf s m).any (fun x => x.closed.isNone)
  if open' then endOp (opPut s k o) k status else endOp (opPut s k { o with kind := 3 }) k status

/-! ### PEER 0xFFFF (R441) -/

/-- A PUT or PUTF within the device: its segments are checked and placed one after another. -/
def localPut (s : State) (far : Nat → Bool) : List Pkt → Verdict
  | [] => { s := s }
  | p :: r =>
    let q := (placePut s p 0 far).1
    if q.wait ∨ q.status ≠ 0 then q else localPut q.s far r

def localSend (s : State) : List Pkt → Verdict
  | [] => { s := s }
  | p :: r =>
    let q := (placeSend s p 0 65535).1
    if q.status ≠ 0 then q else localSend q.s r

/-- A GET within the device: the first failing line ends it BAD_LINE. -/
def localGet (s : State) (t : Nat) (far : Nat → Bool) (d : FabDesc) : Verdict :=
  let q := keyCheck s { key := d.key, roff := d.roff, comp := d.comp, epoch := d.epoch } false d.len far
  if q.status ≠ 0 ∨ q.wait then q
  else
    let l := cutRuns 4096 0 q.runs
    let bad := l.filter (fun x => !pieceOk q.s x)
    if inDev d.laddr && writeWaits s (devAddr d.laddr) d.len then { s := s, wait := true }
    else
    let s := (l.filter (pieceOk q.s)).foldl (fun s x => movWrite s t (d.laddr + x.1) (memBytes s x.2.1 x.2.2)) q.s
    if bad.isEmpty then { s := s } else { s := reportPieces s bad, status := fsBADLINE }

/-- An instruction that names PEER 0xFFFF: what it comes to. -/
def localOp (s : State) (t k kind : Nat) (d : FabDesc) (bs : List Byte) : Verdict :=
  let far (h : Nat) : Bool := s.twin.lost && h != halfOf t
  let me := fget s F.FAB_NODE_NODE 0
  let m := (msgCheck s kind d).2
  let l := (segments k kind m.segs d (if bs.isEmpty then some (t, d.laddr) else none) bs).map (fun r =>
    { r.p with src := me, data := match r.at' with
                | some (t, a) => movRead s t a r.len
                | none => r.p.data })
  if kind = 3 then localGet s t far d else if kind = 4 then localSend s l else localPut s far l

/-- The end of a local operation. A refused one gives up what its message placed (R459). -/
def localEnd (s : State) (k : Nat) (o : FabOp) (d : FabDesc) (q : Verdict) : State :=
  let n := cdiv d.len 4096
  let s1 := if o.kind = 3 then q.s
    else msgPut q.s (msgKey d.peer d.msg) { (msgCheck s o.kind d).2 with segs := (msgCheck s o.kind d).2.segs + n }
  let s1 := if q.status ≠ 0 ∧ o.kind ≠ 3 then rxDrop s1 (rxKey (fget s F.FAB_NODE_NODE 0) d.msg (o.kind == 4)) else s1
  endOp (opPut s1 k { o with node := q.node }) k q.status

/-! ### The instructions -/

/-- The context of the work item that a tiller runs, when it belongs to one context. -/
def itemCtx (s : State) (t : Nat) : Option Nat := match (til s t).item with
  | some w => if itBatch w.bits then none else some (itId w.bits)
  | none => none

/-- The source of a transfer holds a line or a word that fails its check. -/
def sourceBad (s : State) (t : Nat) (d : FabDesc) : Option Nat :=
  let g := goodBytes s t d.laddr d.len
  if g < d.len then some (d.laddr + g) else none

/-- A fabric instruction after its checks: it takes its place in the move pipe and its operation starts or ends. -/
def fabGo (s : State) (t op kind : Nat) (b : BitVec 54) (d : FabDesc) : State :=
  let k := s.fresh + 1
  let i := (til s t).pend.length
  let o : FabOp := { kind := kind, ask := some (t, k), peer := d.peer, msg := d.msg, til := t, laddr := d.laddr, len := d.len, cid := itemCtx s t }
  let start (s : State) : State := pushPend (bump s) t op b (.ask (fXRD b) k [(d.laddr, d.len, kind == 3)])
  let st := startStatus s kind d
  if kind ≠ 3 ∧ inDev d.laddr ∧ flashWaits s (devAddr d.laddr) d.len then s
  else if st ≠ 0 then refuseOp (start s) k o st
  else match (if kind = 3 then none else sourceBad s t d) with
    | some a =>
      if inDev a then refuseOp (lineFailure (start s) 5 1 (devAddr a)) k o fsBADLINE
      else parityFail (start s) t i a 64
    | none =>
      if d.peer ≠ 65535 then startOp (start s) k o d []
      else
        let q := localOp s t k kind d []
        if q.wait then q.s else localEnd (start s) k o d { q with s := start q.s }

/-- FAB.PUT (kind 1), FAB.PUTF (2), FAB.GET (3) and FAB.SEND (4): the descriptor is read at issue (R155). -/
def fabIssue (s : State) (t op kind : Nat) (b : BitVec 54) : State :=
  let x := til s t
  let ra := (sreg x (fXRA b)).toNat
  issue s t op b false (zeros [fXRB b, fXRC b, fXPD b, fXIMM b])
    (freeS x [fXRD b, fXRA b] && movePipeFree x)
    (fun s =>
      let x := til s t
      if sramWait x.pend ra 64 false then s
      else if ra % 64 ≠ 0 ∨ !inLocal ra 64 then raiseAt s t op b 2 (w64 ra)
      else if parityBad x.bad ra 64 then parityFail (pushPend s t op b (.ask (fXRD b) 0 [])) t x.pend.length ra 64
      else
        let n := ofBytes (localBytes x ra 64)
        if fabBad s t n kind then raiseAt s t op b 2 (w64 ra)
        else if sramWait x.pend (fabDesc n).laddr (fabDesc n).len (kind == 3) then s
        else fabGo s t op kind b (fabDesc n))

def execFabPut (t : Fin 512) (b : BitVec 54) (s : State) : Host.Outcome State Fault Refusal := .next (fabIssue s t 0x1C1 1 b)
def execFabPutf (t : Fin 512) (b : BitVec 54) (s : State) : Host.Outcome State Fault Refusal := .next (fabIssue s t 0x1C2 2 b)
def execFabGet (t : Fin 512) (b : BitVec 54) (s : State) : Host.Outcome State Fault Refusal := .next (fabIssue s t 0x1C3 3 b)
def execFabSend (t : Fin 512) (b : BitVec 54) (s : State) : Host.Outcome State Fault Refusal := .next (fabIssue s t 0x1C4 4 b)

/-! ### Operations of the device's own -/

/-- A transfer that the device starts itself, with given bytes or reading device memory through a tiller-like address. -/
def deviceOp (s : State) (owner arg kind : Nat) (d : FabDesc) (bs : List Byte) : State :=
  let k := s.fresh + 1
  let s := bump s
  let o : FabOp := { kind := kind, owner := owner, arg := arg, peer := d.peer, msg := d.msg, laddr := d.laddr, len := d.len }
  let st := startStatus s kind d
  if st ≠ 0 then refuseOp s k o st
  else if d.peer ≠ 65535 then startOp s k o d bs
  else
    let q := localOp s 0 k kind d bs
    localEnd s k o d (if q.wait then { q with status := fsNORES } else q)

/-- A control message of the device's own, of class and tenant 0 (log entry 18), with a fresh message number. -/
def deviceSend (s : State) (owner arg peer consumer : Nat) (bs : List Byte) : State :=
  deviceOp s owner arg 4 { peer := peer, roff := consumer, len := bs.length, msg := s.fresh % 2 ^ 32 } bs

/-- A 64-byte message of the context service (R462). -/
def ctxMsg (op status inc id pos : Nat) : List Byte :=
  toBytes 1 op ++ toBytes 1 status ++ toBytes 2 inc ++ toBytes 4 id ++ toBytes 4 pos ++ List.replicate 52 0

/-- A request of a pool GENERATION member is cancelled: the contexts that served it on the other members are closed by CANCEL
messages (R44). Which IDs and INCARNATIONs they have there is nowhere in this device: free values (log entry 20). -/
def closeMembers (s : State) (c : Nat) : State :=
  (cx s c).members.foldl (fun s p =>
    deviceSend (bump s) 3 0 p 2 (ctxMsg 2 0 (choiceOf s 9 % 65536) (choiceOf s 34 % 2 ^ 18) 0)) (cxUpd s c (fun x => { x with members := [] }))

/-! ### The end of an export (R351) -/

/-- The export is complete: transition 17 with MOVED, and IMPORT_KEYED to the destination (R351). -/
def transferEnd (s : State) (c : TieCmd) : State :=
  let id := tcId c
  let pos := dg (cx s id).d D.KV_VALID
  let s := endNow s id { status := endCANCELLED, moved := true }
  tieDone (deviceSend s 3 0 (tcPeer c) 2 (ctxMsg 5 0 0 (tcArg c) pos)) 0 id

/-- The flagged final write of an export of context `id` has completed: the TRANSFER ends in that same C-cycle, unless its context has
left PREEMPTED or a page of it was refused (R351, R352). -/
def exportDone (s : State) (id : Nat) : State :=
  let mine (e : Nat × Nat × Nat) : Bool := e.1 == 2 && e.2.1 == id
  match s.tie.run with
  | some c =>
    if bget c.cmd1 60 4 = 5 ∧ tcId c = id ∧ s.tie.xfer = [] ∧ s.tie.left = false ∧ named s id (tcInc c) ∧ cstate s id = stPREEMPTED ∧
        !s.fab.ended.any (fun e => mine e && e.2.2 != 0) then
      transferEnd { s with fab := { s.fab with ended := s.fab.ended.filter (fun e => !mine e) } } c
    else s
  | none => s

end Sys2Proof.Machine
end

