-- ==== Sys2Proof/Machine/FabRx.lean ====
section
/-!
DEFINITION. Arriving transport packets: what a port does with every one (R434, R440, R503-R505), the receive window and
acknowledgements (R463, R464), and each packet type (R439, R447, R453-R461, R465-R468).
-/

namespace Sys2Proof.Machine

/-! ### The policer (R503-R506) -/

/-- Buckets of a class at time `now`, in 1/8,000 byte: committed, peak. -/
def polNow (s : State) (i c : Nat) : Nat × Nat :=
  let k := 8 * i + c
  let cbs := fget s F.SHP_PBURST_CBS k * 8000
  let pbs := fget s F.SHP_PBURST_PBS k * 8000
  match nfind (pq s i).pol c with
  | none => (cbs, pbs)
  | some (a, b, t) =>
    let d := s.now - t
    (min cbs (a + d * fget s F.SHP_POL_CIR k), min pbs (b + d * fget s F.SHP_POL_PIR k))

/-- The color of a packet of class `c` (R503, R504): 0 green, 1 yellow, 2 red; and its metering. -/
def police (s : State) (m : RxMeta) (c : Nat) : Nat × State :=
  let i := m.port.val
  let (cb, pb) := polNow s i c
  let n := m.bytes * 8000
  let came := if fbit s F.SHP_PORT_CTL_COLOR_AWARE i then (match bits m.dscp 1 2 with
    | 2 => 1
    | 3 => 2
    | _ => 0) else 0
  let color := if came = 2 ∨ pb < n then 2 else if came = 1 ∨ cb < n then 1 else 0
  let pb := if color = 2 then pb else pb - n
  let cb := if color = 0 then cb - n else cb
  let x := pq s i
  (color, pqPut s i { x with pol := nset x.pol c (cb, pb, s.now) })

/-- The policer's action on a metered packet (R505): whether it is accepted, whether it counts as marked. -/
def policed (s : State) (m : RxMeta) (c typ : Nat) : State × Bool × Bool :=
  if !fbit s F.SHP_PORT_CTL_POLICE_EN m.port || !(typ == 1 || typ == 3 || typ == 4 || typ == 12) then (s, true, m.ce)
  else
    let (color, s) := police s m c
    if color = 2 then (fadd1 s F.SHP_POL_CNT_RED m.port 1, false, m.ce)
    else if color = 1 then (fadd1 s F.SHP_POL_CNT_YELLOW m.port 1, true, m.ce || m.ect)
    else (s, true, m.ce)

/-! ### Arrival -/

/-- A dropped frame is counted (FAB_LOSS.DROPPED). -/
def dropped (s : State) : State := fadd1 s F.FAB_LOSS_DROPPED 0 1

/-- What a port does with any frame: a frame that fails a check of R440 is dropped and counted. -/
def frameIn (s : State) (m : RxMeta) : State × Bool :=
  let s := fsetCe s
  if m.fault = 0 then (s, true)
  else (dropped (if m.fault = 1 then fadd1 s F.FAB_PORT_CNT_FCS_ERR m.port 1 else s), false)
where
  /-- A packet that arrived with CE counts. -/
  fsetCe (s : State) : State := if m.ce then fadd1 s F.FAB_PORT_CNT_CE_RX m.port 1 else s

/-- A NACK (R440, R447): the PSN of the packet it answers, its status in ARG, and for a REDIRECT the member. -/
def sendNack (s : State) (peer : Nat) (p : Pkt) (status node addr : Nat) : State :=
  let data := if status = fsREDIRECT then toBytes 4 node ++ toBytes 16 addr ++ List.replicate 44 0 else List.replicate 64 0
  fadd1 (sendControl s peer { typ := 6, cls := p.cls, tenant := p.tenant, psn := p.psn, msg := p.msg, key := p.key,
                              epoch := p.epoch, comp := p.comp, arg := status, data := data }) F.FAB_REFUSED_NACK_TX 0 1

def rxPsn (s : State) (p : Nat) : Nat := pf s p 48 4

/-- How far a PSN lies above the next expected one. -/
def psnAbove (a b : Nat) : Nat := (a + 2 ^ 32 - b % 2 ^ 32) % 2 ^ 32

/-- The next expected PSN moves over what has been received. -/
def advanceRx (psn : Nat) (got : List Nat) : Nat → Nat × List Nat
  | 0 => (psn, got)
  | n + 1 => if got.contains psn then advanceRx ((psn + 1) % 2 ^ 32) (got.filter (· != psn)) n else (psn, got)

/-- A PSN is received (R463). -/
def markPsn (s : State) (p psn : Nat) : State :=
  let g := psn :: (px s p).got
  let (n, g) := advanceRx (rxPsn s p) g (g.length + 1)
  pxUpd (pfPut s p 48 4 n) p (fun x => { x with got := g })

/-- The SACK bitmap: bit i for PSN + 1 + i. -/
def sackOf (psn : Nat) (got : List Nat) : Nat :=
  ((got.map (fun g => psnAbove g psn)).filter (fun d => decide (1 ≤ d) && decide (d ≤ 256))).foldl (fun n d => n + 2 ^ (d - 1)) 0

/-- An ACK (R464). -/
def sendAck (s : State) (p : Nat) : State :=
  let x := px s p
  let psn := rxPsn s p
  let data := toBytes 32 (sackOf psn x.got) ++ toBytes 4 x.rxPkts ++ toBytes 4 x.rxCe ++ List.replicate 24 0
  sendControl (pxPut s p { x with rxPkts := 0, rxCe := 0 }) p { typ := 5, psn := psn, data := data }

/-- A data packet has been dealt with: it counts as received (but for NO_RESOURCE, which is sent again, R467, log entry
19), a refusal is answered, a completion tells its sender, and an ACK goes when R464 asks for one. -/
def rxDone (s : State) (peer : Nat) (p : Pkt) (ce : Bool) (q : Verdict) (done : Bool) : State :=
  let s := if q.status = fsNORES then s else markPsn s peer p.psn
  let s := pxUpd s peer (fun x => { x with rxPkts := x.rxPkts + 1, rxCe := x.rxCe + b2n ce })
  let s := if q.status = 0 then s else sendNack s peer p q.status q.node q.addr
  let s := if done then sendControl s peer { typ := 7, cls := p.cls, tenant := p.tenant, msg := p.msg, key := p.key, epoch := p.epoch, comp := p.comp } else s
  if p.fin || p.retx || done || decide (fget s F.FAB_TIMER1_ACK_COALESCE 0 ≤ (px s peer).rxPkts) then sendAck s peer else s

/-- What comes before the work of an accepted packet: a port that drops it, a transport that is off or knows no such
sender, a malformed header, a red color. Otherwise the peer, and whether the packet counts as marked. -/
def arriveAt (s : State) (r : Rx) (typ : Nat) : State × Option (Nat × Bool) :=
  let (s, ok) := frameIn s r.m
  if !ok then (s, none)
  else if !fbit s F.FAB_CTL_ACCEPT 0 then (dropped s, none)
  else match peerOf s r.p.src with
    | none => (dropped s, none)
    | some peer =>
      if !r.ok then
        let s := fset s F.FAB_ERR_MALFORMED_RX 0
        (sendNack (fadd1 s F.FAB_PKTS_RX 0 1) peer r.p fsMALFORMED 0 0, none)
      else
        let (s, go, ce) := policed s r.m r.p.cls typ
        if go then (fadd1 s F.FAB_PKTS_RX 0 1, some (peer, ce)) else (s, none)

/-- The device is still starting: every packet with a PSN but a SEND to consumer 3 is refused NO_RESOURCE (R625). -/
def starting (s : State) : Bool := fget s F.GLB_STAT_PHASE 0 != 12

/-- A packet that carries a PSN (R463): below the window it is acknowledged and not processed again, above it is dropped;
`k` does its work. A packet that has to wait leaves the device as it was, but for what its wait rests on. -/
def dataPkt (s0 : State) (r : Rx) (typ : Nat) (k : State → Nat → Pkt → Verdict × Bool) : State :=
  match arriveAt s0 r typ with
  | (s, none) => s
  | (s, some (peer, ce)) =>
    let p := { r.p with typ := typ }
    let d := psnAbove p.psn (rxPsn s peer)
    if 4096 ≤ d ∧ d < 2 ^ 31 then dropped s
    else if 2 ^ 31 ≤ d ∨ (px s peer).got.contains p.psn then
      let s := pxUpd s peer (fun x => { x with rxPkts := x.rxPkts + 1, rxCe := x.rxCe + b2n ce })
      if p.retx || decide (fget s F.FAB_TIMER1_ACK_COALESCE 0 ≤ (px s peer).rxPkts) then sendAck s peer else s
    else
      let (q, done) := if starting s && !(typ == 4 && p.arg == 3) then (({ s := s, status := fsNORES } : Verdict), false) else k s peer p
      if q.wait then { q.s with regs := s0.regs, port := s0.port } else rxDone q.s peer p ce q done

/-- A port reaches a half: its own, or the other over the die-to-die link (R574). -/
def portFar (s : State) (port h : Nat) : Bool := s.twin.lost && h != port / 3

def rxPUT (s : State) (r : Rx) : State :=
  dataPkt s r 1 (fun s _ p => placePut s p r.m.port (portFar s r.m.port))

def rxSEND (s : State) (r : Rx) : State := dataPkt s r 4 (fun s peer p => placeSend s p r.m.port peer)

/-- GET_REQ (R460): every range whose lines pass is sent as GET_RESP packets, the rest is answered BAD_LINE. -/
def getReq (s : State) (peer : Nat) (p : Pkt) (port : Nat) : Verdict × Bool :=
  let q := keyCheck s p false p.total (portFar s port)
  if q.status ≠ 0 ∨ q.wait then (q, false)
  else
    let l := cutRuns 4096 0 q.runs
    let bad := l.filter (fun x => !pieceOk q.s x)
    let resp (s : State) (x : Nat × Nat × Nat) : Pkt :=
      { typ := 3, cls := p.cls, tenant := p.tenant, msg := p.msg, key := p.key, roff := x.1,
        epoch := p.epoch, comp := p.comp, arg := p.arg, data := memBytes s x.2.1 x.2.2 }
    let s := (l.filter (pieceOk q.s)).foldl (fun s x => enqueueTx s peer { len := x.2.2, p := resp s x }) q.s
    if bad.isEmpty then ({ s := s }, false) else ({ s := reportPieces s bad, status := fsBADLINE }, false)

def rxGETREQ (s : State) (r : Rx) : State := dataPkt s r 2 (fun s peer p => getReq s peer p r.m.port)

/-- GET_RESP (R457, R460): placed at LADDR plus the request's offset plus ROFF. -/
def getResp (s : State) (p : Pkt) : Verdict × Bool :=
  match nfind s.fab.gets p.arg with
  | none => ({ s := s }, false)
  | some g => match opOf s g.op with
    | none => ({ s := s }, false)
    | some o =>
      let a := o.laddr + g.off + p.roff
      if g.got.contains p.roff ∨ g.len < p.roff + p.data.length then ({ s := s }, false)
      else if inDev a && writeWaits s (devAddr a) p.data.length then ({ s := s, wait := true }, false)
      else
        let s := meter (movWrite s o.til a p.data) p.tenant 1 p.data.length
        let g := { g with got := g.got ++ [p.roff], bytes := g.bytes + p.data.length }
        let o := { o with got := o.got + p.data.length }
        let s := opPut { s with fab := { s.fab with gets := if g.len ≤ g.bytes then nerase s.fab.gets p.arg else nset s.fab.gets p.arg g } } g.op o
        let s := if o.len ≤ o.got then endOp s g.op 0 else s
        ({ s := sendWaiting s }, false)

def rxGETRESP (s : State) (r : Rx) : State := dataPkt s r 3 (fun s _ p => getResp s p)

def execPut (r : Rx) (s : State) : Host.Outcome State Fault Refusal := .next (rxPUT s r)
def execSend (r : Rx) (s : State) : Host.Outcome State Fault Refusal := .next (rxSEND s r)
def execGetReq (r : Rx) (s : State) : Host.Outcome State Fault Refusal := .next (rxGETREQ s r)
def execGetResp (r : Rx) (s : State) : Host.Outcome State Fault Refusal := .next (rxGETRESP s r)

/-! ### Acknowledgement at the sender (R465-R471) -/

/-- An RTT sample (R466). -/
def rttSample (s : State) (p r : Nat) : State :=
  let a := pf s p 36 4
  let v := pf s p 40 4
  let a' : Int := a + (r - a : Int) / 8
  let v' : Int := v + (((r - a' : Int).natAbs : Int) - v) / 4
  pfPut (pfPut s p 36 4 a'.toNat) p 40 4 v'.toNat

/-- FLOW moves to NORMAL once START_MIB MiB are acknowledged (R471); the credit goes and T becomes now (R492). -/
def flowCheck (s : State) (p : Nat) : State :=
  if pFlow s p = 0 ∧ fget s F.FAB_RATE1_START_MIB 0 * 1048576 ≤ (px s p).acked then
    pxUpd (pfPut s p 32 1 1) p (fun x => { x with c := 0, cT := s.now, tn := s.now, td := 1 })
  else s

/-- A packet is acknowledged. -/
def ackOne (s : State) (p : Nat) (u : Unacked) : State :=
  let s := pxUpd s p (fun x => { x with
    un := x.un.filter (fun v => v.psn != u.psn)
    acked := x.acked + u.ref.len
    lost := nput (fun _ => 0) x.lost u.path 0 })
  let s := if u.rtx then s else rttSample s p (s.now - u.sent)
  packetEnd s u.ref.op 0 0

/-- What an ACK acknowledges. -/
def acks (psn sack : Nat) (u : Unacked) : Bool :=
  let d := psnAbove u.psn psn
  decide (2 ^ 31 ≤ d) || (decide (1 ≤ d) && decide (d ≤ 256) && bits sack (d - 1) 1 == 1)

def ackIn (s : State) (p : Nat) (k : Pkt) : State :=
  let sack := ofBytes (k.data.take 32)
  let l := (px s p).un.filter (acks k.psn sack)
  let top := l.foldl (fun n u => max n (u.order + 1)) 0
  let s := l.foldl (fun s u => ackOne s p u) s
  let s := pxUpd s p (fun x => { x with
    pkts := x.pkts + ofBytes ((k.data.drop 32).take 4), ce := x.ce + ofBytes ((k.data.drop 36).take 4)
    un := x.un.map (fun u => if u.order + 1 < top then { u with later := true } else u) })
  flowCheck s p

/-- NACK (R467). -/
def nackIn (s : State) (p : Nat) (k : Pkt) : State :=
  let s := fadd1 s F.FAB_REFUSED_NACK_RX 0 1
  match (px s p).un.find? (fun u => u.psn == k.psn) with
  | none => s
  | some u =>
    if k.arg = fsNORES ∧ u.rnr < fget s F.FAB_TIMER2_RNR_MAX 0 then
      pxUpd s p (fun x => { x with un := x.un.map (fun v => if v.psn = u.psn then { v with rnr := v.rnr + 1, rnrWait := true, again := false } else v) })
    else
      let s := pxUpd s p (fun x => { x with un := x.un.filter (fun v => v.psn != u.psn) })
      packetEnd s u.ref.op k.arg (ofBytes (k.data.take 4))

/-- DONE (R457): the PUTF or SEND of the message ends, and with it an export (R351). -/
def doneIn (s : State) (p : Nat) (k : Pkt) : State :=
  match s.fab.ops.find? (fun e => (e.2.kind == 2 || e.2.kind == 4) && e.2.peer == p && e.2.msg == k.msg) with
  | some (i, o) =>
    if o.status ≠ 0 then s
    else if o.owner = 2 then exportDone (endOp s i 0) o.arg else endOp s i 0
  | none => s

/-- ABORT (R459). -/
def abortIn (s : State) (src msg : Nat) : State :=
  let give (s : State) (k : Nat) : State := if (rxOf s k).any (fun m => !m.done) then rxDrop s k else s
  give (give s (rxKey src msg false)) (rxKey src msg true)

/-- The reset of R442 with a given rate. -/
def peerReset (s : State) (p rate : Nat) : State :=
  let s := pfPut (pfPut (pfPut s p 24 4 rate) p 28 4 65536) p 32 4 0
  pxUpd s p (fun x => { x with acked := 0, pkts := 0, ce := 0, c := 0, cT := s.now, lost := [], path := 0 })

/-- PROBE_REPLY (R442, R468): transfers may go; a peer that was DOWN is UP with half its former rate. The PSN that its
PROBEs carried is the TX_PSN the device chooses. -/
def probeReplyIn (s : State) (p : Nat) : State :=
  let s := pxUpd s p (fun x => { x with probing := false })
  if pState s p = 2 then
    peerReset (pfPut s p 23 1 1) p (max (fget s F.FAB_RATE0_MIN 0) (pRate s p / 2))
  else s

/-- A packet without a PSN: `k` does its work. -/
def plainPkt (s : State) (r : Rx) (typ : Nat) (k : State → Nat → State) : State :=
  match arriveAt s r typ with
  | (s, none) => s
  | (s, some (peer, _)) => k s peer

def execAck (r : Rx) (s : State) : Host.Outcome State Fault Refusal := .next (plainPkt s r 5 (fun s p => ackIn s p r.p))
def execNack (r : Rx) (s : State) : Host.Outcome State Fault Refusal := .next (plainPkt s r 6 (fun s p => nackIn s p r.p))
def execDoneMsg (r : Rx) (s : State) : Host.Outcome State Fault Refusal := .next (plainPkt s r 7 (fun s p => doneIn s p r.p))
def execAbortMsg (r : Rx) (s : State) : Host.Outcome State Fault Refusal := .next (plainPkt s r 8 (fun s _ => abortIn s r.p.src r.p.msg))

/-- PROBE sets the next PSN expected of its sender and is answered (R442). -/
def execProbe (r : Rx) (s : State) : Host.Outcome State Fault Refusal :=
  .next (plainPkt s r 9 (fun s p =>
    sendControl (pxUpd (pfPut s p 48 4 r.p.psn) p (fun x => { x with got := [] })) p { typ := 10, psn := r.p.psn }))

def execProbeReply (r : Rx) (s : State) : Host.Outcome State Fault Refusal := .next (plainPkt s r 10 (fun s p => probeReplyIn s p))

/-- FRAME_RECEIVE (R434, R440): a frame that is no packet of a known type for this device. A reserved TYPE is answered
MALFORMED; any other frame goes to the host receive ring, or is dropped. -/
def frameReceive (s : State) (f : RxFrame) : State :=
  let (s, ok) := frameIn s f.m
  if !ok then s
  else if f.forUs then
    if !fbit s F.FAB_CTL_ACCEPT 0 then dropped s
    else match peerOf s f.p.src with
      | none => dropped s
      | some peer => sendNack (fset (fadd1 s F.FAB_PKTS_RX 0 1) F.FAB_ERR_MALFORMED_RX 0) peer f.p fsMALFORMED 0 0
  else if fbit s F.FAB_CTL_HOST_RX 0 then
    rxFrame s { kind := 1, port := f.m.port, time := if f.ptp then s.gtime * 16 / 1000000000 else 0 } f.frame
  else dropped s

def execFrameReceive (f : RxFrame) (s : State) : Host.Outcome State Fault Refusal := .next (frameReceive s f)

end Sys2Proof.Machine
end

