-- ==== Sys2Proof/Machine/FabTimers.lean ====
section
/-!
DEFINITION. Timers of the transport (R442, R444, R454, R459, R460, R464-R471) and the region commands (R450, R472-R474,
R479).
-/

namespace Sys2Proof.Machine

/-- ACK_DELAY_NS have passed since the oldest unacknowledged packet arrived (R464). -/
def execAckTimer (peer : Nat) (s : State) : Host.Outcome State Fault Refusal :=
  .next (if 0 < (px s peer).rxPkts then sendAck s peer else s)

/-- A packet sent on a path is declared lost; LOSS_N in a row hold the path off (R444). -/
def pathLoss (s : State) (p path : Nat) : State :=
  let n := nget (fun _ => 0) (px s p).lost path + 1
  let s := pxUpd s p (fun x => { x with lost := nput (fun _ => 0) x.lost path n })
  let off := pf s p 34 2
  if fget s F.FAB_SPRAY_LOSS_N 0 ≤ n ∧ bits off path 1 = 0 then
    fset (pfPut s p 34 2 (off + 2 ^ path)) F.FAB_ERR_PATH_OFF 0
  else s

/-- A packet is queued to be sent again (R465). -/
def again (s : State) (p psn : Nat) (f : Unacked → Unacked) : State :=
  pxUpd s p (fun x => { x with un := x.un.map (fun u => if u.psn = psn then f { u with again := true } else u) })

def unOf (s : State) (p psn : Nat) : Option Unacked := (px s p).un.find? (fun u => u.psn == psn)

/-- REORDER_TIMER: REO_NS have passed since a packet sent later was acknowledged (R465). -/
def execReorderTimer (peer psn : Nat) (s : State) : Host.Outcome State Fault Refusal :=
  .next (match unOf s peer psn with
    | some u => if u.later ∧ !u.again ∧ !u.rnrWait then again (pathLoss s peer u.path) peer psn id else s
    | none => s)

/-- A peer goes DOWN: every transfer outstanding to it ends TIMEOUT (R468); its held packets are discarded (R492). -/
def peerDown (s : State) (p : Nat) : State :=
  let s := fset (pfPut s p 23 1 2) F.FAB_ERR_PEER_DOWN 0
  let s := (s.fab.ops.filter (fun e => e.2.peer == p)).foldl (fun s e => endOp s e.1 fsTIMEOUT) s
  pxUpd s p (fun x => { x with un := [], wait := [], c := 0, cT := s.now })

/-- A retransmission timer expires (R465, R466, R468, R470). -/
def rtoExpiry (s : State) (p psn : Nat) : State :=
  match unOf s p psn with
  | none => s
  | some u =>
    if u.again ∨ u.rnrWait then s
    else
      let s := pathLoss s p u.path
      let s := pfPut (pfPut (pfPut (pfPut s p 24 4 (max (fget s F.FAB_RATE0_MIN 0) (pRate s p / 2))) p 28 4 65536) p 33 1 0) p 32 1 0
      let s := pxUpd s p (fun x => { x with acked := 0, c := 0, cT := s.now })
      if fget s F.FAB_TIMER0_RETRY_MAX 0 ≤ u.expiries + 1 then peerDown s p
      else again s p psn (fun u => { u with expiries := u.expiries + 1, rto := min (2 * u.rto) (fget s F.FAB_TIMER0_RTO_MAX_US 0) })

def execRetransmitTimeout (peer psn : Nat) (s : State) : Host.Outcome State Fault Refusal := .next (rtoExpiry s peer psn)

/-- RNR_US have passed since a packet was refused NO_RESOURCE (R467). -/
def execRnrRetry (peer psn : Nat) (s : State) : Host.Outcome State Fault Refusal :=
  .next (match unOf s peer psn with
    | some u => if u.rnrWait then again s peer psn (fun u => { u with rnrWait := false }) else s
    | none => s)

/-- GET_MS have passed since the first request of a GET (R460). -/
def execGetTimeout (tag : Nat) (s : State) : Host.Outcome State Fault Refusal :=
  .next (match nfind s.fab.gets tag with
    | some g => sendWaiting (endOp s g.op fsTIMEOUT)
    | none => s)

/-- A completed message's entry has been held for DONE_HOLD_MS (R454). -/
def execDoneHoldEnd (k : Nat) (s : State) : Host.Outcome State Fault Refusal :=
  .next (match rxOf s k with
    | some m => if m.done then rxErase s k else s
    | none => s)

/-- A message has received nothing for MSG_IDLE_MS (R459). -/
def execMessageIdle (k : Nat) (s : State) : Host.Outcome State Fault Refusal :=
  .next (match rxOf s k with
    | some m => if m.done then s else fset (rxDrop s k) F.FAB_ERR_IDLE_DROP 0
    | none => s)

/-- PROBE every PROBE_MS while no PROBE_REPLY has come (R442, R468). -/
def execProbeTimer (peer : Nat) (s : State) : Host.Outcome State Fault Refusal :=
  .next (if peer < peerCount s ∧ (pState s peer = 2 ∨ (pState s peer = 1 ∧ (px s peer).probing)) then sendProbes s peer else s)

/-- HOLD_US have passed since a path was held off (R444). -/
def execPathHoldEnd (peer : Nat) (path : Fin 16) (s : State) : Host.Outcome State Fault Refusal :=
  let off := pf s peer 34 2
  .next (if bits off path 1 = 1 then
      pxUpd (pfPut s peer 34 2 (off - 2 ^ path.val)) peer (fun x => { x with lost := nput (fun _ => 0) x.lost path 0 })
    else s)

/-- The rate law (R469). -/
def rateUpdate (s : State) (p : Nat) : State :=
  let x := px s p
  if x.pkts = 0 then s
  else
    let f : Int := x.ce * 65536 / x.pkts
    let a : Int := pf s p 28 4
    let a' := (a + (f - a) / 16).toNat
    let rate := pRate s p
    let clean := pf s p 33 1
    let mx := fget s F.FAB_RATE1_MAX 0
    let s := pfPut s p 28 4 a'
    let s := pxPut s p { x with pkts := 0, ce := 0 }
    if 0 < x.ce then pfPut (pfPut s p 24 4 (max (fget s F.FAB_RATE0_MIN 0) (rate - rate * a' / 2 ^ 17))) p 33 1 0
    else
      let clean := min 255 (clean + 1)
      let r := if clean ≤ 4 then min mx (rate + fget s F.FAB_RATE1_AI 0) else min mx (rate + (mx - rate) / 8)
      pfPut (pfPut s p 24 4 r) p 33 1 clean

def execRateUpdate (peer : Nat) (s : State) : Host.Outcome State Fault Refusal := .next (rateUpdate s peer)

/-- Software writes STATE 1 to an entry that is INVALID or DOWN (R442). TX_PSN is the device's own choice. -/
def execPeerEnable (peer : Nat) (s : State) : Host.Outcome State Fault Refusal :=
  .next (if peer < peerCount s ∧ (pState s peer = 0 ∨ pState s peer = 2) then
      let psn := choiceOf s 8 % 2 ^ 32
      let s := peerReset (pfPut (bump s) peer 23 1 1) peer (fget s F.FAB_RATE0_INIT 0)
      let s := pfPut (pfPut (pfPut s peer 33 1 0) peer 34 2 0) peer 44 4 psn
      sendProbes (pxUpd s peer (fun x => { x with probing := true, un := [], wait := [] })) peer
    else s)

/-! ### Regions (R450, R472-R474, R479) -/

/-- A region command completes: result, key, count, and the FAB completion interrupt. -/
def fabCmdEnd (s : State) (res key : Nat) : State :=
  let s := { s with fab := { s.fab with cmds := s.fab.cmds.drop 1 } }
  irq (finc (fput (fput s F.FAB_CMD_STAT_RESULT 0 res) F.FAB_CMD_STAT_KEY 0 key) F.FAB_CMD_STAT_SEQ 0) 0 10

/-- Commands with a reserved OP that reach the head of the queue end FORMAT (R479). -/
def fabReserved (s : State) : Nat → State
  | 0 => s
  | n + 1 =>
    if s.fab.revoke.isSome then s
    else match s.fab.cmds with
      | [] => s
      | c :: _ =>
        let op := bget c.cmd2 60 4
        if op = 1 ∨ op = 2 then s else fabReserved (fabCmdEnd s 3 0) n

/-- A command completes, and the next one comes to the head of the queue. -/
def fabCmdDone (s : State) (res key : Nat) : State := fabReserved (fabCmdEnd s res key) 16

/-- A MEMORY range crosses from one stack or tier into another. -/
def crosses (a n : Nat) : Bool :=
  addrTier a != addrTier (a + n - 1) || (addrTier a == 0 && addrStack a != addrStack (a + n - 1))

/-- Result of a REGISTER: refused with a code, or the index and the entry. -/
def registerResult (s : State) (c : FabCmd) : Nat ⊕ (Nat × Nat) :=
  let w := c.cmd2
  let span := bbit w 59
  let note := bget w 54 3
  let len := 64 * bget c.cmd1 0 32
  let arg := bget c.cmd1 32 32
  let base := c.cmd0.toNat
  let used (i : Nat) : Bool := rgState (region s i) != 0 && lineOk s (regionAddr s i)
  let idx := if bbit w 16 then (List.range 65536).find? (fun i => !used i) else some (bget w 0 16)
  let role' := standalone s || role s == 2
  if 3 < note ∨ bget w 17 20 ≠ 0 ∨ len = 0 ∨ (if span then base / 2 ^ 34 ≠ 0 else base % 64 ≠ 0) ∨
      (note ≠ 1 ∧ note ≠ 3 ∧ arg ≠ 0) ∨ (note = 1 ∧ 63 < arg) then .inl 3
  else if (span ∨ note = 2) ∧ !role' then .inl 4
  else if !span ∧ (crosses base len ∨ !(List.range (cdiv (base % 65536 + len) 65536)).all (fun j => mapped s (base / 65536 * 65536 + j * 65536))) then .inl 2
  else match idx with
    | none => .inl 6
    | some i =>
      if used i then .inl 1
      else
        let g := rgGen (region s i)
        let g := if g = 65535 then 1 else g + 1
        .inr (i, 1 + b2n (bbit w 47) * 4 + b2n (bbit w 58) * 8 + b2n (bbit w 57) * 16 + b2n span * 32 + note * 2 ^ 8 + g * 2 ^ 16 +
          bget w 37 10 * 2 ^ 32 + bget w 48 6 * 2 ^ 48 + base * 2 ^ 64 + len * 2 ^ 128 + arg * 2 ^ 192)

/-- The first queued command, when its OP is `op`. -/
def fabHead (s : State) (op : Nat) : Option FabCmd :=
  if s.fab.revoke.isSome then none else (s.fab.cmds.head?).filter (fun c => bget c.cmd2 60 4 == op)

def execFabRegister (s : State) : Host.Outcome State Fault Refusal :=
  .next (match fabHead s 1 with
    | none => s
    | some c => match registerResult s c with
      | .inl r => fabCmdDone s r 0
      | .inr (i, v) => fabCmdDone (setRegion s i v) 0 (i * 65536 + rgGen v))

/-- REVOKE, first phase (R472, R473). -/
def execFabRevoke (s : State) : Host.Outcome State Fault Refusal :=
  .next (match fabHead s 2 with
    | none => s
    | some c =>
      let key := bget c.cmd0 0 32
      let i := key / 65536
      let v := region s i
      if c.cmd0.toNat / 2 ^ 32 ≠ 0 then fabCmdDone s 3 key
      else if rgState v = 2 ∧ rgGen v = key % 65536 then fabCmdDone s 1 key
      else if rgState v ≠ 1 ∨ rgGen v ≠ key % 65536 then fabCmdDone s 5 key
      else { setRegion s i (setBits v 0 2 2) with fab := { s.fab with revoke := some i } })

/-- REVOKE, second phase, once nothing is in flight (INFLIGHT is 0 between steps, since placing is part of the packet's
command): the region's messages that have not completed are freed and the entry becomes FREE (R472, R474). -/
def revokeEnd (s : State) (i : Nat) : State :=
  let v := region s i
  if rgState v ≠ 2 then s
  else
    let s := (s.fab.rx.filter (fun e => !e.2.send && !e.2.done && e.2.key / 65536 == i)).foldl (fun s e => rxErase s e.1) s
    let s := setRegion s i (setBits v 0 2 0)
    if s.fab.revoke = some i then
      fabCmdDone { s with fab := { s.fab with revoke := none } } 0 (i * 65536 + rgGen v)
    else s

def execRevokeEnd (idx : Fin 65536) (s : State) : Host.Outcome State Fault Refusal := .next (revokeEnd s idx)

/-- FAB_TIME_ADJ: STEP_NS is added once; RATE_PPB is kept (R433). -/
def timeAdj (s : State) (val : Word) : State :=
  let step := sext 32 (bget val 32 32)
  fput { s with gtime := ((s.gtime : Int) + step * 1000000000).toNat } F.FAB_TIME_ADJ_RATE_PPB 0 (bget val 0 32)

def execFabTimeAdj (val : Word) (s : State) : Host.Outcome State Fault Refusal :=
  .next (regGate s .FAB_TIME_ADJ 0 (fun s => timeAdj s val))

end Sys2Proof.Machine
end

