-- ==== Sys2Proof/Machine/CtxMsg.lean ====
section
/-!
DEFINITION. Cancels (R319, R320, R44) and the messages of the context service (R462).
-/

namespace Sys2Proof.Machine

/-! Answer codes of a cancel (R327); 0 ACCEPTED. -/
def anACCEPTED : Nat := 0
def anREDIRECTED : Nat := 7
def anALREADY : Nat := 8

/-- A context that the device holds only as the mirror of its partner (R320): its ID and INCARNATION. -/
def mirrored (s : State) (c inc : Nat) : Bool :=
  match nfind (tw s (ctxHalf c)).mir c with
  | some m => dg m.d D.STATE != stFREE && dg m.d D.INCARNATION == inc
  | none => false

/-- A cancel of a context that the request names (R319, R320): the answer and the state after. -/
def cancelCtx (s : State) (c : Nat) : Nat × State :=
  let st := cstate s c
  if st = stDRAINING ∨ st = stCLOSED then (anALREADY, s)
  else if st = stDECODE then (anACCEPTED, dmod s c (fun d => ds d D.CANCEL 1))
  else (anACCEPTED, closeMembers (endNow s c { status := endCANCELLED }) c)

/-- A member has served a context of this pool GENERATION member (R44). -/
def memberSeen (s : State) (c p : Nat) : State :=
  if standalone s ∨ dg (cx s c).d D.KIND ≠ 0 ∨ (cx s c).members.contains p then s
  else cxUpd s c (fun x => { x with members := x.members ++ [p] })

/-- A message about the owner's context. The owner's INCARNATION is nowhere in this device, so the field is a free value
(log entry 20). -/
def ownerMsg (s : State) (d : Desc) (op status pos : Nat) : State :=
  if dg d D.OWNER_PEER = 65535 ∨ dg d D.KIND = 0 then s
  else deviceSend (bump s) 3 0 (dg d D.OWNER_PEER) 2 (ctxMsg op status (choiceOf s 9 % 65536) (dg d D.OWNER_CTX) pos)

/-- The first context-service message, when its OP is `op`: sender, INCARNATION, ID or key, POSITION, STATUS; and the state
without it. -/
structure SvcMsg where
  peer : Nat
  status : Nat
  inc : Nat
  id : Nat
  pos : Nat

def svcHead (s : State) (op : Nat) : Option (SvcMsg × State) :=
  match s.fab.svc with
  | [] => none
  | (p, bs) :: r =>
    let n := ofBytes bs
    if bits n 0 8 = op then
      some ({ peer := p, status := bits n 8 8, inc := bits n 16 16, id := bits n 32 32, pos := bits n 64 32 },
        { s with fab := { s.fab with svc := r } })
    else none

/-- A message of the context service is discarded (R462). -/
def svcDrop (s : State) : State := fset s F.FAB_ERR_CTX_MSG 0

/-- The message names a context (R175). -/
def svcNames (s : State) (m : SvcMsg) : Bool := decide (m.id < 2 ^ 18) && named s m.id m.inc

/-- KV_VALID = POSITION, of a KIND 0 context on a standalone device at most PROMPT_LEN - 1 (R184), and PEND.IMPORT_DONE; the owner is
told (R462). -/
def importDone (s : State) (p c pos : Nat) : State :=
  let d := (cx s c).d
  if dg d D.STATE ≠ stPREFILL then svcDrop s
  else
    let s := memberSeen s c p
    let v := if dg d D.KIND = 0 ∧ standalone s then min pos (dg d D.PROMPT_LEN - 1) else pos
    ownerMsg (dmod s c (fun d => ds (ds d D.KV_VALID v) D.IMPORT_DONE 1)) d 1 0 pos

def execImportDone (s : State) : Host.Outcome State Fault Refusal :=
  .next (match svcHead s 1 with
    | none => s
    | some (m, s) => if svcNames s m then importDone s m.peer m.id m.pos else svcDrop s)

/-- CANCEL: applied, and answered with REPORT (R462). -/
def execCancelMessage (s : State) : Host.Outcome State Fault Refusal :=
  .next (match svcHead s 2 with
    | none => s
    | some (m, s) =>
      let report (s : State) (st : Nat) : State := deviceSend s 3 0 m.peer 2 (ctxMsg 3 st m.inc m.id 0)
      if svcNames s m then
        let r := cancelCtx s m.id
        report r.2 r.1
      else if m.id < 2 ^ 18 ∧ mirrored s m.id m.inc then report s anREDIRECTED
      else svcDrop s)

/-- REPORT: a record code cancels the owner context (R44). -/
def execReport (s : State) : Host.Outcome State Fault Refusal :=
  .next (match svcHead s 3 with
    | none => s
    | some (m, s) =>
      if !svcNames s m then svcDrop s
      else if 1 ≤ m.status ∧ m.status ≤ 6 then (cancelCtx s m.id).2
      else s)

def execHiddenDone (s : State) : Host.Outcome State Fault Refusal :=
  .next (match svcHead s 4 with
    | none => s
    | some (m, s) =>
      if svcNames s m && cstate s m.id == stPREFILL then dmod (memberSeen s m.id m.peer) m.id (fun d => ds d D.HIDDEN_DONE 1) else svcDrop s)

def execImportKeyed (s : State) : Host.Outcome State Fault Refusal :=
  .next (match svcHead s 5 with
    | none => s
    | some (m, s) =>
      let v := region s (m.id / 65536)
      if rgState v = 1 ∧ rgSpan v ∧ rgGen v = m.id % 65536 ∧ named s (rgCtx v) (rgInc v) then importDone s m.peer (rgCtx v) m.pos
      else svcDrop s)

end Sys2Proof.Machine
end

