-- ==== Sys2Proof/Machine/Egress.lean ====
section
/-!
DEFINITION. The port scheduler (R485-R502): privileged queues under self-clocked weighted fair queueing, strict classes,
deficit round robin over classes and subscribers, peak shapers and time gates; and the link (R485, R621).
-/

namespace Sys2Proof.Machine

/-! ### Time gates (R499, R500) -/

/-- A gate entry: its length in ns and the queues it opens. -/
def gateEnts (s : State) (i : Nat) : List (Nat × Nat) :=
  (List.range (fget s F.SHP_GATE_CTL_ENTRIES_M1 i + 1)).map
    (fun e => (fget s F.SHP_GATE_DURATION_NS (16 * i + e), fget s F.SHP_GATE_OPEN (16 * i + e)))

/-- The entry that contains offset `x`: its number and what is left of it. -/
def entryAt : List (Nat × Nat) → Nat → Nat → Nat × Nat
  | [], _, e => (e, 0)
  | (d, _) :: r, x, e => if x < d then (e, d - x) else entryAt r (x - d) (e + 1)

/-- The entry in force at global time `t` ns, and the ns left of it. -/
def gateNow (s : State) (i t : Nat) : Nat × Nat :=
  let l := gateEnts s i
  let len := l.foldl (fun n e => n + e.1) 0
  let base := fget s F.SHP_GATE_BASE_BASE i
  if t < base then (0, base - t + (l.headD (0, 0)).1) else entryAt l ((t - base) % max len 1) 0

/-- Queue bit `q` stays open for more than `need` hundredths of a ns, from entry `e` on of which `left` ns are left. -/
def gateOpen (l : List (Nat × Nat)) (q need : Nat) : Nat → Nat → Nat → Bool
  | 0, _, _ => true
  | n + 1, e, left =>
    if bits (l.getD (e % max l.length 1) (0, 0)).2 q 1 = 0 then false
    else if need < 100 * left then true
    else gateOpen l q (need - 100 * left) n (e + 1) (l.getD ((e + 1) % max l.length 1) (0, 0)).1

/-- The gate test of a frame (R500): queue bit 0-7 a class, 8-11 a privileged queue. -/
def gatePass (s : State) (i q wire : Nat) : Bool :=
  if !fbit s F.SHP_PORT_CTL_GATE_EN i then true
  else
    let l := gateEnts s i
    let (e, left) := gateNow s i (timeNs s)
    l.all (fun x => bits x.2 q 1 == 1) || gateOpen l q (wire + 100 * fget s F.SHP_GATE_CTL_GUARD_NS i) (l.length + 1) e left

/-- GATE_ENTRY: the port's cycle moves to the entry that contains the present time (R499). -/
def execGateEntry (port : Fin 6) (s : State) : Host.Outcome State Fault Refusal :=
  .next (if fbit s F.SHP_PORT_CTL_GATE_EN port then pqPut s port { pq s port with entry := (gateNow s port (timeNs s)).1 } else s)

/-! ### Eligible frames -/

/-- A frame may leave: transport packets only while EN is 1, and none past its gate. -/
def mayLeave (s : State) (i q : Nat) (f : OutFrame) : Bool :=
  (f.kind != 0 || fbit s F.FAB_CTL_EN 0) && gatePass s i q f.wire

/-- Privileged queues whose head may leave. -/
def privReady (s : State) (i : Nat) : List Nat :=
  (List.range 4).filter (fun q => match nget (fun _ => []) (pq s i).priv q with
    | [] => false
    | f :: _ => mayLeave s i (8 + q) f)

/-- The privileged queue with the least finish tag, the lower number on a tie (R495). -/
def leastTag (x : PortQ) (l : List Nat) : Option Nat :=
  l.foldl (fun b q => match b with
    | none => some q
    | some r => if nget (fun _ => 0) x.tag q < nget (fun _ => 0) x.tag r then some q else some r) none

/-- Subscribers of a class whose head may leave, with that head. -/
def subsReady (s : State) (i c : Nat) : List (Nat × OutFrame) :=
  (List.range 64).filterMap (fun t => match nget (fun _ => []) (pq s i).leaf (64 * c + t) with
    | [] => none
    | f :: _ => if mayLeave s i c f then some (t, f) else none)

/-- Privileged bucket now, in 1/8,000 byte (R494). -/
def privBucket (s : State) (i : Nat) : Int :=
  let x := pq s i
  min (16384 * 8000) (x.bucket + (s.now - x.bucketT : Nat) * fget s F.SHP_PORT_CTL_PRIV_RATE i)

def classQ (x : PortQ) (c : Nat) : ClassQ := nget (fun _ => {}) x.classes c

/-- Peak bucket of a class now (R497). -/
def peakBucket (s : State) (i c : Nat) : Int :=
  let k := classQ (pq s i) c
  min (9236 * 8000) (k.peak + (s.now - k.peakT : Nat) * fget s F.SHP_CLASS_PEAK (8 * i + c))

/-- The class has no shaper, or its bucket is at 0 or above (R497). -/
def peakOk (s : State) (i c : Nat) : Bool := fget s F.SHP_CLASS_PEAK (8 * i + c) == 0 || decide (0 ≤ peakBucket s i c)

/-! ### Deficit round robin (R496) -/

/-- The next element after `cur` in ascending order, around the list. -/
def after (l : List Nat) (cur : Option Nat) : Nat :=
  match cur with
  | none => l.headD 0
  | some c => (l.find? (fun x => decide (c < x))).getD (l.headD 0)

/-- One level of the round robin: who is visited, the deficits, and the one whose head fits. `quantum` and `size` are by
member; the visit goes on while the head fits. -/
def drr (l : List Nat) (quantum size : Nat → Nat) : Nat → Option Nat → NMap Nat → Nat × Option Nat × NMap Nat
  | 0, cur, d => (cur.getD 0, cur, d)
  | n + 1, cur, d =>
    match cur.filter (fun c => l.contains c && decide (size c ≤ nget (fun _ => 0) d c)) with
    | some c => (c, cur, d)
    | none =>
      let c := after l cur
      drr l quantum size n (some c) (nupd (fun _ => 0) d c (· + quantum c))

/-- Weight of a subscriber, in bytes a visit. -/
def subQuantum (s : State) (t : Nat) : Nat := 64 * max 1 (bits (fget s F.SHP_SUB_W_WEIGHTS (t / 8)) (8 * (t % 8)) 8)

/-- The frame that a class would send next, and the class after its round robin got there. -/
def classHead (s : State) (i c : Nat) : Option (Nat × OutFrame × ClassQ) :=
  let l := subsReady s i c
  let k := classQ (pq s i) c
  if l.isEmpty then none
  else
    let size (t : Nat) : Nat := ((l.find? (fun e => e.1 == t)).map (fun e => e.2.wire)).getD 0
    let (t, cur, d) := drr (l.map (·.1)) (subQuantum s) size 9600 k.cur k.sub
    ((l.find? (fun e => e.1 == t)).map (fun e => (t, e.2, { k with cur := cur, sub := d })))

/-! ### Sending -/

/-- The frame's place in it where the PTP message begins: after Ethernet, tag, IPv6 and UDP headers. -/
def ptpAt (bs : List Byte) : Nat := if bs.getD 12 0 = 0x81 ∧ bs.getD 13 0 = 0 then 66 else 62

/-- The egress timestamp of an event message is latched (R435, R480). -/
def latchPtp (s : State) (i : Nat) (bs : List Byte) : State :=
  let m := bs.drop (ptpAt bs)
  let s := fsetIf s (fbit s F.FAB_PORT_TXSEQ_VALID i) F.FAB_PORT_STAT_PTP_OVERRUN i
  let s := fput s F.FAB_PORT_TXTS_TIME i (s.gtime * 16 / 1000000000)
  let s := fput s F.FAB_PORT_TXSEQ_MSG_TYPE i ((m.getD 0 0).toNat % 16)
  let s := fput s F.FAB_PORT_TXSEQ_SEQ_ID i ((m.getD 30 0).toNat * 256 + (m.getD 31 0).toNat)
  fset s F.FAB_PORT_TXSEQ_VALID i

/-- A host frame's transmit entry gets its outcome. -/
def txMark (s : State) (f : OutFrame) (st : Nat) : State :=
  let l := nget (fun _ => []) s.host.tx f.ring
  let l := l.map (fun e => if e.idx = f.idx ∧ e.st = 0 then { e with st := st } else e)
  { s with host := { s.host with tx := nput (fun _ => []) s.host.tx f.ring l } }

/-- A frame leaves the port. -/
def sendFrame (s : State) (i : Nat) (f : OutFrame) : State :=
  let s := frameOut s i f
  match f.kind with
  | 0 => fadd1 s F.FAB_PKTS_TX 0 1
  | 2 => if f.ptp then latchPtp (txMark s f 1) i f.bytes else txMark s f 1
  | _ => s

/-- The head of a privileged queue is sent (R494, R495). -/
def sendPriv (s : State) (i q : Nat) : State :=
  let x := pq s i
  match nget (fun _ => []) x.priv q with
  | [] => s
  | f :: r =>
    let b := privBucket s i - f.wire * 8000
    let v := nget (fun _ => 0) x.tag q
    let s := pqPut s i { x with priv := nput (fun _ => []) x.priv q r, v := v, tag := nerase x.tag q, bucket := b, bucketT := s.now }
    let s := headTag s i q
    let s := if (pq s i).priv.isEmpty then pqPut s i { pq s i with v := 0, fl := [] } else s
    sendFrame s i f

/-- The head of a class is sent (R496, R497). -/
def sendClass (s : State) (i c : Nat) (h : Nat × OutFrame × ClassQ) (deficit : Nat) : State :=
  let (t, f, k) := h
  let x := pq s i
  let r := (nget (fun _ => []) x.leaf (64 * c + t)).drop 1
  let x := { x with leaf := nput (fun _ => []) x.leaf (64 * c + t) r }
  let empty := (List.range 64).all (fun u => (nget (fun _ => []) x.leaf (64 * c + u)).isEmpty)
  let sub := nput (fun _ => 0) k.sub t (if r.isEmpty then 0 else nget (fun _ => 0) k.sub t - f.wire)
  let peak : Int × Nat := if fget s F.SHP_CLASS_PEAK (8 * i + c) = 0 then (k.peak, k.peakT) else (peakBucket s i c - f.wire * 8000, s.now)
  let k := { k with sub := sub, deficit := if empty then 0 else deficit, peak := peak.1, peakT := peak.2 }
  sendFrame (pqPut s i { x with classes := nput (fun _ => {}) x.classes c k }) i f

/-- The choice of R494 at a frame start of a port that is up. -/
def frameStart (s : State) (i : Nat) : State :=
  if !portUp s i || portQuiet s i || s.pins.outputsStopped then s
  else match (if 0 ≤ privBucket s i then leastTag (pq s i) (privReady s i) else none) with
    | some q => sendPriv s i q
    | none =>
      let heads := (List.range 8).filterMap (fun c => if peakOk s i c then (classHead s i c).map (fun h => (c, h)) else none)
      let strict (c : Nat) : Bool := fbit s F.SHP_CLASS_STRICT (8 * i + c)
      match (heads.filter (fun e => strict e.1)).getLast? with
      | some (c, h) => sendClass s i c h (classQ (pq s i) c).deficit
      | none =>
        let l := heads.filter (fun e => !strict e.1)
        if l.isEmpty then s
        else
          let x := pq s i
          let headOf (c : Nat) : Option (Nat × OutFrame × ClassQ) := (l.find? (fun e => e.1 == c)).map (·.2)
          let size (c : Nat) : Nat := ((headOf c).map (fun h => h.2.1.wire)).getD 0
          let d0 := x.classes.foldl (fun d e => nput (fun _ => 0) d e.1 e.2.deficit) []
          let (c, cur, d) := drr (l.map (·.1)) (fun c => 64 * max 1 (fget s F.SHP_CLASS_QUANTUM (8 * i + c))) size 1200 x.cur d0
          let cls := (List.range 8).foldl (fun m c => nupd (fun _ => {}) m c (fun k => { k with deficit := nget (fun _ => 0) d c })) x.classes
          let s := pqPut s i { x with cur := cur, classes := cls }
          match headOf c with
          | some h => sendClass s i c h (nget (fun _ => 0) d c - h.2.1.wire)
          | none => s

def execFrameStart (port : Fin 6) (s : State) : Host.Outcome State Fault Refusal := .next (frameStart s port)

/-! ### The link (R485, R621) -/

/-- Everything queued on a port is discarded; host frames among it are refused LINK_DOWN. -/
def portClear (s : State) (i : Nat) : State :=
  let x := pq s i
  let host := (x.priv ++ x.leaf).flatMap (fun e => e.2.filter (fun f => f.kind == 2))
  let s := host.foldl (fun s f => txMark s f 2) s
  pqPut s i { x with priv := [], leaf := [], tag := [], fl := [], v := 0, cur := none,
                     classes := nmap (fun _ => {}) (fun _ (c : ClassQ) => { c with deficit := 0, sub := [], cur := none }) x.classes }

def linkDown (s : State) (i : Nat) : State :=
  if portUp s i then portClear (fput s F.FAB_PORT_STAT_LINK i (if fbit s F.FAB_PORT_CTL_EN i then 1 else 0)) i else s

/-- LINK leaves UP; an enabled port trains again. -/
def execLinkDown (port : Fin 6) (s : State) : Host.Outcome State Fault Refusal := .next (linkDown s port)

/-- Training of an enabled port ends. -/
def execLinkUp (port : Fin 6) (s : State) : Host.Outcome State Fault Refusal :=
  .next (if fget s F.FAB_PORT_STAT_LINK port = 1 then fput s F.FAB_PORT_STAT_LINK port 2 else s)

end Sys2Proof.Machine
end

