-- ==== Sys2Proof/Machine/Attention.lean ====
section
/-!
DEFINITION. The attention front end: inbox requests, their checks, their items and their replies (R265-R274).
-/

namespace Sys2Proof.Machine

/-! Reply statuses (R273) -/
def atOK : Nat := 0
def atNOCTX : Nat := 1
def atNOTSERV : Nat := 2
def atORDER : Nat := 3
def atKVBAD : Nat := 4
def atMALFORMED : Nat := 5
def atROLE : Nat := 6
def atNOFRAME : Nat := 7
def atLAYOUT : Nat := 8

/-- Device memory address of inbox slot `n` (R265). -/
def slotAddr (s : State) (n : Nat) : Nat := rgBase (region s (fget s F.BNK_INBOX_REGION 0)) + 32768 * n

/-- The progress word's fields (R268). -/
def progWord (s : State) (c : Nat) : Nat := memNat s (progAddr s c) 8

def setProg (s : State) (c req : Nat) (busy : Bool) (pos layer : Nat) : State :=
  memPut s (progAddr s c) 8 (req % 2 ^ 32 * 2 ^ 32 + b2n busy * 2 ^ 31 + pos % 2 ^ 21 * 256 + layer % 256)

/-- The message of a request's reply: its header alone, which is the flagged final write (R266, R272, R274). -/
def attReply (s : State) (q : AttReq) (status : Nat) : State :=
  let s := fsetIf (fsetIf s (status == atKVBAD) F.BNK_ERR_KV_BAD 0) (status == atNOFRAME) F.BNK_ERR_NO_FRAME 0
  let s := fsetIf (fsetIf s (status == atORDER) F.BNK_ERR_ORDER 0) (status == atMALFORMED) F.BNK_ERR_MALFORMED 0
  let s := if status = 0 then fadd1 s F.BNK_ATTN_CNT_SERVED 0 1 else fadd1 s F.BNK_ATTN_CNT_REFUSED 0 1
  deviceOp s 1 0 2
    { peer := q.peer, cls := q.cls, tenant := q.tenant, key := q.key, roff := q.off, len := 64, msg := q.reqId,
      epoch := q.epoch, comp := q.comp }
    (toBytes 4 q.reqId ++ toBytes 1 status ++ toBytes 3 0 ++ toBytes 4 q.pos ++ toBytes 1 q.layer ++ List.replicate 51 0)

/-- The reserved fields of a request are 0 (R266), of its 64-byte header as a number. -/
def attReserved (h : Nat) : Bool :=
  bits h 50 14 == 0 && bits h 89 7 == 0 && bits h 304 16 == 0 && bits h 352 160 == 0

/-- The request's sections fit its slot, LAYER exists and G x D is at most 2,048 (R270). -/
def attFits (d : Desc) (h : Nat) : Bool :=
  let kvh := dg d D.KVH_M1 + 1
  let D' := dimOf (dg d D.DIM)
  let g := bits h 288 8
  let kv := 64 + kvh * 2 * (if dg d D.FMT = 2 then 2 * D' else D')
  let q := roundUp kv 64 + kvh * g * D' * 2
  let sc := if bits h 88 1 = 1 then roundUp q 64 + kvh * 2 * D' * 2 else q
  decide (sc ≤ 32768) && decide (bits h 80 8 ≤ dg d D.LAYERS_M1) && decide (g * D' ≤ 2048)

/-- What becomes of a request (R270, R271): a refusal, no reply, or service, with K and V placed or not. -/
inductive AttVerdict where
  | refuse (status : Nat)
  | discard
  | serve (place : Bool)
  deriving DecidableEq, Repr

/-- A request with some REQ_ID is in progress for a context (R271). -/
def attBusy (s : State) (c inc req : Nat) : Bool := s.bnk.slots.any (fun e => e.2.cid == c && e.2.inc == inc && e.2.reqId == req)

/-- The checks of R270 and R271. Sizes that need a descriptor are checked when the request names a context. -/
def attCheck (s : State) (h : Nat) : AttVerdict :=
  let c := bits h 32 18
  let d := (cx s c).d
  let w := progWord s c
  let req := bits h 0 32
  let pos := bits h 96 32
  let layer := bits h 80 8
  let ok := named s c (bits h 64 16)
  let wpos := bits w 8 21
  let wlayer := bits w 0 8
  let last := if wlayer = 0 then (wpos - 1, dg d D.LAYERS_M1) else (wpos, wlayer - 1)
  if !(standalone s || role s == 2) then .refuse atROLE
  else if !attReserved h || (ok && !attFits d h) then .refuse atMALFORMED
  else if !ok then .refuse atNOCTX
  else if dg d D.STATE ≠ stREADY ∨ !lineOk s (progAddr s c) then .refuse atNOTSERV
  else if attBusy s c (bits h 64 16) req then .discard
  else if pos = wpos ∧ layer = wlayer then .serve true
  else if bits w 32 32 = req ∧ (pos, layer) = last ∧ 0 < wpos + wlayer then .serve false
  else .refuse atORDER

/-- A progress word whose line fails is reported and rewritten under R269 (R581). -/
def progRepair (s : State) (c : Nat) : State :=
  if lineOk s (progAddr s c) then s
  else
    let s := lineFailure s 10 1 (progAddr s c / 64 * 64)
    setProg s c 0 false (dg (cx s c).d D.KV_VALID) 0

/-- The sheaves that attention items of a context's half go to: in standalone configuration those doing generation work in a step in
progress, while there are any (R289, R695; the rest is a DESIGN CHOICE, log entry 21). -/
def attSheaves (s : State) (hf : Nat) : List Nat :=
  let all := (List.range 16).map (fun i => 16 * hf + i)
  let gen := all.filter (fun h => (List.range 8).any (fun p => match (part s p).step with
    | some k => (partSheaves s p).contains h && sheafKind s p k h == 2
    | none => false))
  if standalone s && !gen.isEmpty then gen else all

/-- The request in slot `n` is handled (R265, R270, R271): its items are pushed, or the reply is a refusal. -/
def attRequest (s : State) (n : Nat) : State :=
  match s.bnk.inbox.find? (fun x => x.slot == n) with
  | none => s
  | some x =>
    if !fbit s F.BNK_CTL_INBOX_EN 0 || (nfind s.bnk.slots n).isSome then s
    else
      let s := { s with bnk := { s.bnk with inbox := s.bnk.inbox.eraseIdx (s.bnk.inbox.findIdx (fun y => y.slot == n)) } }
      let h := memNat s (slotAddr s n) 64
      let c := bits h 32 18
      let q : AttReq :=
        { reqId := bits h 0 32, cid := c, inc := bits h 64 16, layer := bits h 80 8, pos := bits h 96 32,
          key := bits h 128 32, off := bits h 160 64, stepNo := bits h 224 32, peer := x.peer, comp := x.comp,
          epoch := x.epoch, cls := x.cls, tenant := x.tenant }
      match attCheck s h with
      | .refuse st => attReply (if st = atNOTSERV then progRepair s c else s) q st
      | .discard => s
      | .serve place =>
        let k := dg (cx s c).d D.KVH_M1 + 1
        let w := progWord s c
        let s := if place then setProg s c q.reqId true (bits w 8 21) (bits w 0 8) else s
        let s := { s with bnk := { s.bnk with slots := nset s.bnk.slots n { q with items := k, place := place, prev := bits w 32 32 } } }
        let set := attSheaves s (ctxHalf c)
        (List.range k).foldl (fun s j => pushToSet s set
          { bits := mkItem c false q.layer 0 2 (fget s F.BNK_ATTN_ENTRY_ENTRY 0) (j * 65536 + n), slot := n + 1 }) s

def execAttentionRequest (slot : Nat) (s : State) : Host.Outcome State Fault Refusal := .next (attRequest s slot)

/-- The status that the first failing item calls for (R272). -/
def attStatus (q : AttReq) : Nat :=
  if q.bad = 0 then atOK
  else if q.bad = bkBADLINE then atKVBAD
  else if q.noFrame then atNOFRAME
  else if q.bad = bkLAYOUT ∨ q.bad = bkNOTRES ∨ q.bad = bkTOOLONG then atLAYOUT
  else atNOTSERV

/-- Every item of the request in slot `n` has ended: the reply header is written; after a success of a request that placed
K and V the progress word moves on, and after the last layer KV_VALID grows; after a failure the progress word is again what it was
(R268, R272, R273; DEDUCED, log entry 59). -/
def attItemsEnd (s : State) (n : Nat) : State :=
  match nfind s.bnk.slots n with
  | none => s
  | some q =>
    if q.items ≠ 0 then s
    else
      let st := attStatus q
      let s := { s with bnk := { s.bnk with slots := nerase s.bnk.slots n } }
      let s := attReply s q st
      let d := (cx s q.cid).d
      let w := progWord s q.cid
      if !q.place || !named s q.cid q.inc || bits w 32 32 != q.reqId || bits w 8 21 != q.pos || bits w 0 8 != q.layer then s
      else if st ≠ 0 then setProg s q.cid q.prev false q.pos q.layer
      else if q.layer < dg d D.LAYERS_M1 then setProg s q.cid q.reqId false q.pos (q.layer + 1)
      else
        let s := setProg s q.cid q.reqId false (q.pos + 1) 0
        dmod s q.cid (fun d => ds d D.KV_VALID (q.pos + 1))

def execAttentionItemsEnd (slot : Nat) (s : State) : Host.Outcome State Fault Refusal := .next (attItemsEnd s slot)

end Sys2Proof.Machine
end

