-- ==== Sys2Proof/Machine/Tie.lean ====
section
/-!
DEFINITION. Tier commands (R350-R352), the end of a frame move (R346-R349), reclaim (R353-R357), and weight windows
(R358-R366).
-/

namespace Sys2Proof.Machine

/-! ### Objects -/

/-- Frame keys of an object, in order. -/
def objFrames (s : State) (o : Nat) : List Nat := (List.range (oFrames (obj s o))).map (fun i => pKey (objEnt s o i))

/-- Frames that a range of device memory touches. -/
def touches (a n : Nat) (ks : List Nat) : Bool := n != 0 && ks.any (fun k => decide (a / 65536 ≤ k) && decide (k ≤ (a + n - 1) / 65536))

/-- A registered region or an enabled lattice window covers one of some frames (R345, R530). -/
def covered (s : State) (ks : List Nat) : Bool :=
  (regionIdxs s).any (fun i =>
    let v := region s i
    (rgState v == 1 || rgState v == 2) && !rgSpan v && touches (rgBase v) (rgLen v) ks) ||
  (List.range 16).any (fun n =>
    (fbit s F.LAT_WIN_CTL_EN n || s.lat.unpin.contains n) &&
      touches (fget s F.LAT_WIN_BASE_BASE n) (65536 * fget s F.LAT_WIN_CTL_FRAMES n) ks)

/-- The object is pinned (R345). -/
def objPinned (s : State) (o : Nat) : Bool := oPinned (obj s o) || covered s (objFrames s o)

/-- Device memory address of byte `x` of an object. -/
def objAt (s : State) (o x : Nat) : Nat := pKey (objEnt s o (x / 65536)) * 65536 + x % 65536

/-- An object-table entry or its frame list fails its check: the object becomes LOST (R581). -/
def objCheck (s : State) (o : Nat) : State :=
  let a := objAddr s o
  let v := obj s o
  let bad := if lineOk s a then (if oState v = 0 then none else badLineIn s (oList v) (8 * oFrames v)) else some (a / 64 * 64)
  match bad with
  | none => s
  | some l =>
    if lineOk s a && oState v == 3 then s
    else objState (fset (lineFailureOf s 10 3 l o 0) F.TIE_ERR_BAD_LINE 0) o 3

/-- Stacks that PLACE allows (R350). -/
def placeStacks (place : Nat) : List Nat :=
  if place < 8 then [place] else if place = 8 then halfStacks 0 else if place = 9 then halfStacks 1 else List.range 8

/-- A frame for an object: in the stack of PLACE with the most free frames, or in a slow tier. -/
def objPick (s : State) (tier place : Nat) : Option Nat :=
  if tier = 0 then (mostFree s (placeStacks place)).bind (pickStack s) else pickSlow s tier

/-- PLACE is reserved; it is ignored for the slow tiers (R350). -/
def placeBad (c : TieCmd) : Bool := tcTier c == 0 && decide (10 < tcPlace c)

/-- A frame lies at the destination. -/
def atDest (k tier place : Nat) : Bool :=
  k / 2 ^ 32 == tier && (tier != 0 || (placeStacks place).contains (k / 2 ^ 21))

/-! ### The command queue (R350) -/

/-- The first queued command when its OP is `op` and none runs: the command, and the state without it. -/
def tieHead (s : State) (op : Nat) : Option (TieCmd × State) :=
  if s.tie.run.isSome then none
  else match s.tie.queue with
    | [] => none
    | c :: r => if bget c.cmd1 60 4 = op then some (c, { s with tie := { s.tie with queue := r } }) else none

/-- A command on an object names no entry of the table. -/
def noObject (s : State) (c : TieCmd) : Bool := decide (fget s F.TIE_OBJ_BASE_COUNT 0 ≤ tcId c)

/-- Frames of an ALLOC, each zero with valid checks, and their entries in the list. -/
def allocFrames (s : State) (tier place list : Nat) : Nat → Nat → Option State
  | 0, _ => some s
  | n + 1, i => match objPick s tier place with
    | none => none
    | some k =>
      let s := zeroFrame (setUse (bump s) k 2) k
      allocFrames (memPut s (list + 8 * i) 8 (pte true true (k / 2 ^ 32) false 0 0 k).toNat) tier place list n (i + 1)

def execAlloc (s : State) : Host.Outcome State Fault Refusal :=
  .next (match tieHead s 1 with
    | none => s
    | some (c, s) =>
      let a := tcArg c
      let id := tcId c
      let ev := bits a 1 1
      let dem := bits a 4 2
      if tcTier c = 3 ∨ placeBad c ∨ tcFrames c = 0 ∨ bits a 3 1 ≠ 0 ∨ bits a 6 2 ≠ 0 ∨ bits a 14 18 ≠ 0 ∨ (ev = 0) ≠ (dem = 0) then
        tieDone s 4 id
      else if noObject s c then tieDone s 1 id
      else
        let s := objCheck s id
        if oState (obj s id) ≠ 0 then tieDone s 7 id
        else match takePt s 0 (8 * tcFrames c) with
          | none => tieDone s 3 id
          | some (l, s1) => match allocFrames s1 (tcTier c) (tcPlace c) l (tcFrames c) 0 with
            | none => tieDone s 3 id
            | some s1 =>
              let v := 1 + bits a 0 3 * 2 ^ 8 + dem * 2 ^ 16 + bits a 8 6 * 2 ^ 24 + tcFrames c * 2 ^ 32 + l * 2 ^ 64 + timeMs s1 * 2 ^ 128
              tieDone (setObj s1 id v) 0 id)

/-- The frames of an object that it still holds are released (R346 step 4). -/
def objRelease (s : State) (o : Nat) : State :=
  (List.range (oFrames (obj s o))).foldl (fun s i =>
    let e := objEnt s o i
    if pV e then memPut (giveFrame s (pKey e)) (oList (obj s o) + 8 * i) 8 0 else s) s

/-- Moves of an object's frames in progress. -/
def movesOf (s : State) (o : Nat) : NMap FrameMove := s.tie.moves.filter (fun m => m.2.kind == 0 && m.2.owner == o)

/-- The moves of an object that is freed are given up, with the frames taken for them. -/
def dropMoves (s : State) (o : Nat) : State :=
  (movesOf s o).foldl (fun s m => giveFrame { s with tie := { s.tie with moves := nerase s.tie.moves m.1 } } m.2.new) s

def execFreeObj (s : State) : Host.Outcome State Fault Refusal :=
  .next (match tieHead s 2 with
    | none => s
    | some (c, s) =>
      let id := tcId c
      if tcArg c ≠ 0 then tieDone s 4 id
      else if noObject s c ∨ oState (obj s id) = 0 then tieDone s 1 id
      else if objPinned s id then tieDone s 5 id
      else
        let s := dropMoves s id
        tieDone (setObj (dropPt (objRelease s id) 0 (oList (obj s id))) id 0) 0 id)

/-! ### MOVE (R346-R350) -/

/-- The first entry of an object's list that is not at the destination and whose move is not under way. -/
def nextOut (s : State) (o tier place : Nat) : Option Nat :=
  (List.range (oFrames (obj s o))).find? (fun i => pV (objEnt s o i) && !atDest (pKey (objEnt s o i)) tier place &&
    !(movesOf s o).any (fun m => m.2.idx == i))

/-- Frames of reads outstanding at once: READ_AHEAD from a slow tier, one from the stacks (R341). -/
def readAhead (s : State) (k : Nat) : Nat := if addrTier (keyAddr k) = 0 then 1 else max 1 (fget s F.TIE_CTL_READ_AHEAD 0)

/-- Moves of the object's next frames start, in ascending order, as many as may be outstanding; the flag says that the destination
has no room. -/
def objStarts (s : State) (o tier place why : Nat) : Nat → State × Bool
  | 0 => (s, false)
  | n + 1 => match nextOut s o tier place with
    | none => (s, false)
    | some i =>
      if readAhead s (pKey (objEnt s o i)) ≤ (movesOf s o).length then (s, false)
      else match objPick s tier place with
        | none => (s, true)
        | some k => objStarts (moveStart (setUse (bump s) k 2)
            { kind := 0, owner := o, idx := i, pte := place, old := pKey (objEnt s o i), new := k, why := why }) o tier place why n

/-- The move of an object goes on with its next frames (`why` 0 MOVE, 2 demotion): `none` when none is left or under way, the
flag when the destination has no room. -/
def objNext (s : State) (o tier place why : Nat) : Option State × Bool :=
  let r := objStarts s o tier place why 256
  if (movesOf r.1 o).isEmpty then (none, r.2) else (some r.1, false)

/-- A MOVE goes on, or ends: DONE, NO_ROOM, or PINNED when a REGISTER has pinned the object meanwhile (R345). -/
def moveGo (s : State) (c : TieCmd) : State :=
  let id := tcId c
  if objPinned s id then tieDone (objState s id 1) 5 id
  else match objNext s id (tcTier c) (tcPlace c) 0 with
  | (some s, _) => s
  | (none, full) => tieDone (objUsed (objState s id 1) id) (if full then 3 else 0) id

def execMoveObj (s : State) : Host.Outcome State Fault Refusal :=
  .next (match tieHead s 3 with
    | none => s
    | some (c, s) =>
      let id := tcId c
      if tcArg c ≠ 0 ∨ tcTier c = 3 ∨ placeBad c then tieDone s 4 id
      else if noObject s c then tieDone s 1 id
      else
        let s := objCheck s id
        let st := oState (obj s id)
        if st = 0 then tieDone s 1 id
        else if objPinned s id then tieDone s 5 id
        else if st = 2 then tieDone s 2 id
        else if st = 3 then tieDone s 7 id
        else moveGo { objState s id 2 with tie := { s.tie with run := some c } } c)

/-! ### GATHER (R227, R350) -/

/-- The stack that gathers a stream pair: that of a shared page, which never moves, when it is of the context's half; else that of
the first page which lies there, or the stack there with the most free frames. -/
def gatherStack (s : State) (c : Nat) (d : Desc) (pair : Nat) : Option Nat :=
  let l := backedCols s d (2 * pair) ++ backedCols s d (2 * pair + 1)
  let shared := l.find? (fun e => decide (1 < (share s e.2).count))
  let here (e : Nat × Nat) : Bool := (halfStacks (ctxHalf c)).contains (e.2 / 2 ^ 21)
  if l.isEmpty then none
  else match (shared.filter here).orElse (fun _ => l.find? here) with
    | some (_, f) => some (f / 2 ^ 21)
    | none => mostFree s (halfStacks (ctxHalf c))

/-- The first page that GATHER has to move, and the stack it goes to. -/
def gatherNext (s : State) (c : Nat) : Option (Nat × Nat) :=
  let d := (cx s c).d
  (ctxPages s c).findSome? (fun v =>
    let e := ptGet s d v
    if pTier e ≠ 0 ∨ pLost e ∨ (share s (pKey e)).count ≠ 1 then none
    else match gatherStack s c d (v / max (dg d D.PPS) 1 / 2) with
      | some k => if pFrame e / 2 ^ 21 = k then none else some (v, k)
      | none => none)

/-- A GATHER goes on, or ends. -/
def gatherGo (s : State) (c : TieCmd) : State :=
  let id := tcId c
  if s.tie.left || !named s id (tcInc c) || cstate s id != stPREEMPTED then tieDone s 7 id
  else match gatherNext s id with
    | none => tieDone s 0 id
    | some (v, k) =>
      let d := (cx s id).d
      let e := ptGet s d v
      let pps := max (dg d D.PPS) 1
      let far := pFmt e == 2 && sideHalf id e != k / 4
      match placeIn s d (v / pps) (v % pps) k, (if far then takeSide s (k / 4) else some (pSide e, s)) with
      | some f, some (i, s) =>
        let s := if far then memWrite s (sideAddr s (k / 4) i) (memBytes s (sideAddr s (sideHalf id e) (pSide e)) 1024) else s
        moveStart (takeFrame s f 1) { kind := 1, owner := id, idx := v, pte := i, old := pKey e, new := f, why := 1 }
      | _, _ => tieDone s 3 id

def execGather (s : State) : Host.Outcome State Fault Refusal :=
  .next (match tieHead s 4 with
    | none => s
    | some (c, s) =>
      let id := tcId c
      if tcArg c ≠ 0 then tieDone s 4 id
      else if !named s id (tcInc c) then tieDone s 1 id
      else if cstate s id ≠ stPREEMPTED then tieDone s 7 id
      else gatherGo { s with tie := { s.tie with run := some c, left := false } } c)

/-! ### The end of a frame move (R346, R348) -/

/-- What goes on after a frame move: the command or the swap that asked for it. -/
def moveAfter (s : State) (m : FrameMove) (bad : Bool) : State :=
  match m.why with
  | 0 => match s.tie.run with
    | some c => if bget c.cmd1 60 4 ≠ 3 ∨ tcId c ≠ m.owner then s else if bad then tieDone s 6 (tcId c) else moveGo s c
    | none => s
  | 1 => match s.tie.run with
    | some c => if bget c.cmd1 60 4 ≠ 4 ∨ tcId c ≠ m.owner then s else if bad then tieDone s 6 (tcId c) else gatherGo s c
    | none => s
  | 2 =>
    if bad then s
    else if objPinned s m.owner then objState s m.owner 1
    else match objNext s m.owner (oDemote (obj s m.owner)) 10 2 with
      | (some s, _) => s
      | (none, full) =>
        let s := objState s m.owner 1
        if full then s else fadd1 s F.TIE_RECLAIM_DEMOTED 0 1
  | 3 => if bad then (if (cx s m.owner).swap = 1 then dmod (cxUpd s m.owner (fun x => { x with swap := 0 })) m.owner (fun d => ds d D.SWAP_BUSY 0) else s)
    else swapNext s m.owner
  | _ => swapNext s m.owner

/-- The side record that a moved KV4 page leaves behind is released (R199). -/
def dropOldSide (s : State) (m : FrameMove) (e : Word) : State :=
  let e' := entAt e m.new m.pte
  if pFmt e = 2 ∧ (sideHalf m.owner e, pSide e) ≠ (sideHalf m.owner e', m.pte) then dropSide s (sideHalf m.owner e) (pSide e) else s

/-- A frame taken for a move that fails goes back. -/
def dropNew (s : State) (m : FrameMove) (e : Word) : State :=
  let e' := entAt e m.new m.pte
  let s := if m.kind = 1 ∧ pFmt e = 2 ∧ (sideHalf m.owner e, pSide e) ≠ (sideHalf m.owner e', m.pte) then
      dropSide s (sideHalf m.owner e') m.pte else s
  if m.kind = 1 ∧ addrTier (keyAddr m.new) = 0 then dropShare s m.new else giveFrame s m.new

/-- The flash units of a moving frame are read, or programmed together with the journal page that names them (R406, R413). -/
def unitsDone (s : State) (m : FrameMove) : Bool :=
  let out := addrTier (keyAddr m.new) == 2
  let f := (if out then m.new else m.old) % 2 ^ 32
  (!out && addrTier (keyAddr m.old) != 2) ||
  (flashUp s && !(out && flsPending s f) && (List.range 4).all (fun u =>
    bits m.units u 1 == 1 || (!out && (flsMap s (4 * f + u) == flsUNMAPPED || unitLost s (4 * f + u)))))

/-- A move into a flash tier that takes no writes any more ends NO_ROOM (R427). -/
def moveNoRoom (s : State) (m : FrameMove) : State :=
  match m.why with
  | 0 => match s.tie.run with
    | some c => if bget c.cmd1 60 4 ≠ 3 ∨ tcId c ≠ m.owner then s else tieDone (objUsed (objState s m.owner 1) m.owner) 3 m.owner
    | none => s
  | 2 => objState s m.owner 1
  | 3 => swapFail s m.owner
  | _ => s

/-- A move that may not end at its destination any more: the object is pinned now (R345), the page is shared (R349), or the swap-out
was ended by a resumption (log entry 15). -/
def givenUp (s : State) (m : FrameMove) : Bool :=
  if m.kind = 0 then objPinned s m.owner
  else (addrTier (keyAddr m.old) == 0 && decide (1 < (share s m.old).count)) ||
    (m.why == 3 && (cx s m.owner).swap != 1 && cstate s m.owner != stDRAINING && cstate s m.owner != stCLOSED)

/-- The copy of a frame ends: a good copy becomes the home; a copy that met a bad line is given up, though no unit is programmed of
it (R346, R348, R405). A page
whose entry no longer names the old frame keeps what its entry says. -/
def frameMoveDone (s : State) (k : Nat) : State :=
  match nfind s.tie.moves k with
  | none => s
  | some m =>
    let shut := addrTier (keyAddr m.new) == 2 && !unitsDone s m && flashShut s (keyAddr m.new)
    if !unitsDone s m && !shut && (frameBad s m.old).isNone then s else
    let s := { s with tie := { s.tie with moves := nerase s.tie.moves k } }
    let d := (cx s m.owner).d
    let e := if m.kind = 1 then ptGet s d m.idx else objEnt s m.owner m.idx
    if m.kind = 0 ∧ oState (obj s m.owner) ≠ 2 then dropNew s m e
    else if !pV e || pKey e != m.old || givenUp s m then moveAfter (dropNew s m e) m false
    else if shut then moveNoRoom (dropNew s m e) m
    else match frameBad s m.old with
      | some a =>
        let s := dropNew (lineFailureOf s 8 (if m.kind = 0 then 3 else 1) a m.owner (if m.kind = 1 then dg d D.INCARNATION else 0)) m e
        if m.kind = 1 then moveAfter (pageLost s m.owner m.idx) m true
        else moveAfter (fset (objState s m.owner 3) F.TIE_ERR_BAD_LINE 0) m true
      | none =>
        let s := copyFrame s m.old m.new
        if m.kind = 1 then
          let s := dropOldSide s m e
          moveAfter (fwdSet (releaseOld (ptPut s m.owner m.idx (entAt e m.new m.pte)) m.old) m.old m.new) m false
        else
          let s := memPut s (oList (obj s m.owner) + 8 * m.idx) 8 (entAt e m.new 0).toNat
          moveAfter (fwdSet (giveFrame s m.old) m.old m.new) m false

def execFrameMoveDone (k : Nat) (s : State) : Host.Outcome State Fault Refusal := .next (frameMoveDone s k)

/-! ### TRANSFER (R351, R352) -/

/-- Pieces that the export of a page consists of: offset in the import region, device memory address, length. -/
def pagePieces (s : State) (c v : Nat) : List (Nat × Nat × Nat) :=
  let d := (cx s c).d
  let e := ptGet s d v
  (65536 * v, pKey e * 65536, 65536) ::
    (if pFmt e = 2 then [(65536 * dPages d + 1024 * v, sideAddr s (sideHalf c e) (pSide e), 1024)] else [])

/-- The next pieces of a TRANSFER are sent as PUTs of one message; the last one is its flagged final write. -/
def transferSend (s : State) (c : TieCmd) (l : List (Nat × Nat × Nat)) (last : Bool) : State :=
  let id := tcId c
  let d := (cx s id).d
  let n := l.length
  (List.range n).foldl (fun s i =>
    let (off, a, len) := l.getD i (0, 0, 0)
    let fin := last && i + 1 == n
    deviceOp s 2 id (if fin then 2 else 1)
      { peer := tcPeer c, tenant := dg d D.TENANT, key := tcArg c, roff := off, laddr := devBase + a, len := len,
        msg := s.tie.xmsg, comp := dg d D.COMP, epoch := (cmpOf s (dg d D.COMP)).cur } []) s

/-- What a message that ends with a status other than OK makes of the command: ROLE, BAD_LINE, or STATE. -/
def transferResult (st : Nat) : Nat := if st = fsROLE then 8 else if st = fsBADLINE then 6 else 7

/-- The pieces of a page are sent; the last page of an export within the device ends it at once. -/
def transferPieces (s : State) (c : TieCmd) (v : Nat) (r : List Nat) : State :=
  let s := transferSend { s with tie := { s.tie with xfer := r } } c (pagePieces s (tcId c) v) r.isEmpty
  if r.isEmpty ∧ tcPeer c = 65535 then exportDone s (tcId c) else s

/-- The page at the front of the list is sent; a frame that cannot be read ends the command. -/
def transferPage (s : State) (c : TieCmd) (v : Nat) (r : List Nat) : State :=
  let e := ptGet s (cx s (tcId c)).d v
  (frameBad s (pKey e)).elim (transferPieces s c v r)
    (fun a => tieDone (pageLost (lineFailureOf s 8 1 a (tcId c) (dg (cx s (tcId c)).d D.INCARNATION)) (tcId c) v) 6 (tcId c))

/-- The frame of a page lies in a part of the flash tier whose reads wait (R416). -/
def pageWaits (s : State) (c v : Nat) : Bool := flashWaits s (keyAddr (pKey (ptGet s (cx s c).d v))) 65536

/-- A TRANSFER goes on with its next page once the writes before it have ended. -/
def transferGo (s : State) (c : TieCmd) : State :=
  let id := tcId c
  let mine := s.fab.ended.filter (fun e => e.1 == 2 && e.2.1 == id)
  let busy := s.fab.ops.any (fun e => e.2.owner == 2 && e.2.arg == id)
  if busy then s
  else
    let s := { s with fab := { s.fab with ended := s.fab.ended.filter (fun e => !(e.1 == 2 && e.2.1 == id)) } }
    if s.tie.left || !named s id (tcInc c) || cstate s id != stPREEMPTED then tieDone s 7 id
    else match mine.find? (fun e => e.2.2 != 0) with
      | some e => tieDone s (transferResult e.2.2) id
      | none => match s.tie.xfer with
        | [] => transferEnd s c
        | v :: r => if pageWaits s id v then s else transferPage s c v r

/-- TRANSFER starts, or goes on. -/
def execTransfer (s : State) : Host.Outcome State Fault Refusal :=
  .next (match s.tie.run with
    | some c => if bget c.cmd1 60 4 = 5 then transferGo s c else s
    | none => match tieHead s 5 with
      | none => s
      | some (c, s) =>
        let id := tcId c
        let d := (cx s id).d
        if !named s id (tcInc c) then tieDone s 1 id
        else if dg d D.STATE ≠ stPREEMPTED ∨ !(dg d D.KIND == 2 || (dg d D.KIND == 0 && standalone s)) then tieDone s 7 id
        else if !(standalone s || role s == 2) then tieDone s 8 id
        else
          let vs := (ctxPages s id).filter (fun v => !pLost (ptGet s d v))
          let s := { bump s with
            tie := { s.tie with run := some c, left := false, xfer := vs, xmsg := s.fresh % 2 ^ 32 }
            fab := { s.fab with ended := s.fab.ended.filter (fun e => !(e.1 == 2 && e.2.1 == id)) } }
          transferGo s c)

/-! ### Reclaim (R354-R357) -/

/-- A candidate: age in ms, rank among equals (context, object, node), ID. -/
structure Candidate where
  age : Nat
  rank : Nat
  id : Nat
  deriving DecidableEq, Repr

/-- The oldest candidate; ties go to the lower context, then object, then the node. -/
def oldest (l : List Candidate) : Option Candidate :=
  l.foldl (fun b x => match b with
    | none => some x
    | some y => if y.age < x.age ∨ (y.age = x.age ∧ (x.rank < y.rank ∨ (x.rank = y.rank ∧ x.id < y.id))) then some x else some y) none

/-- LIVE evictable objects with a frame that satisfies a test (R354, R355). -/
def objCandidates (s : State) (f : Nat → Bool) : List Candidate :=
  ((objIdxs s).filter (fun o =>
    let v := obj s o
    oState v == 1 && oEvictable v && !objPinned s o && (objFrames s o).any f)).map
    (fun o => { age := timeMs s - oLastUse (obj s o), rank := 1, id := o })

/-- Contexts of half `h` in a state, by their entry into it. -/
def ctxCandidates (s : State) (h st : Nat) : List Candidate :=
  ((ctxsOf s h).filter (fun c => cstate s c == st)).map (fun c => { age := timeMs s - (cx s c).entered / 1000000, rank := 0, id := c })

/-- The low mark of a slow tier. -/
def slowMark (s : State) (tier : Nat) : Nat := if tier = 1 then fget s F.TIE_SLOW_MARK_HOST_LOW 0 else fget s F.TIE_SLOW_MARK_FLASH_LOW 0

/-- An object is demoted, or discarded (R356): `tier` is the tier it leaves. -/
def demote (s : State) (o tier : Nat) : State :=
  let d := oDemote (obj s o)
  if d = 3 ∨ d ≤ tier then
    fadd1 (fset (objState (objRelease s o) o 3) F.TIE_ERR_DISCARD 0) F.TIE_RECLAIM_DISCARDED 0 1
  else match objNext (objState s o 2) o d 10 2 with
    | (some s, _) => s
    | (none, _) => s

/-- A candidate is reclaimed (R356). -/
def reclaimOne (s : State) (x : Candidate) (tier : Nat) : State :=
  match x.rank with
  | 0 => fadd1 (endNow s x.id { status := endEVICTED }) F.TIE_RECLAIM_CONTEXTS 0 1
  | 1 => demote s x.id tier
  | _ => evictNode s x.id

def setReclaiming (s : State) (k : Nat) (b : Bool) : State :=
  { s with tie := { s.tie with reclaiming := nput (fun _ => false) s.tie.reclaiming k b } }

/-- The pool is reclaimed from below its low mark up to its upper one. -/
def reclaims (s : State) (k free low high : Nat) : Bool :=
  fbit s F.TIE_CTL_RECLAIM_EN 0 && (decide (free < low) || (nget (fun _ => false) s.tie.reclaiming k && decide (free < high)))

/-- RECLAIM: one candidate of a half (R354). -/
def reclaim (s : State) (h : Nat) : State :=
  let free := halfFree s h
  if !reclaims s h free (fget s F.TIE_POOL_MARK_LOW 0) (fget s F.TIE_POOL_MARK_HIGH 0) then setReclaiming s h false
  else
    let nodes := ((poolOf s h).nodes.filter (fun i => nChildren (node s i) == 0)).map
      (fun i => ({ age := (useNow s + 2 ^ 32 - nLastUse (node s i)) % 2 ^ 32, rank := 2, id := i } : Candidate))
    let room (o : Nat) : Bool := match oDemote (obj s o) with
      | 3 => true
      | t => decide (0 < slowFree s t) && (pickSlow s t).isSome
    let objs := (objCandidates s (fun k => k / 2 ^ 32 == 0 && k / 2 ^ 23 == h)).filter (fun x => room x.id)
    let tier := fget s F.SCH_SWAP_TIER 0
    let ctxs := if !fbit s F.SCH_CTL_SWAP_EN 0 || decide (slowFree s tier < slowMark s tier) then ctxCandidates s h stPREEMPTED else []
    match oldest (ctxs ++ objs ++ nodes) with
    | none => s
    | some x => setReclaiming (reclaimOne s x 0) h true

def execReclaim (h : Fin 2) (s : State) : Host.Outcome State Fault Refusal := .next (reclaim s h)

/-- SLOW_TIER_RECLAIM: one candidate of the host or flash tier (R355). -/
def slowReclaim (s : State) (tier : Nat) : State :=
  let free := slowFree s tier
  let mark := slowMark s tier
  if !reclaims s (tier + 1) free mark (mark + 1024) then setReclaiming s (tier + 1) false
  else
    let ctxs := (ctxCandidates s 0 stSWAPPED ++ ctxCandidates s 1 stSWAPPED).filter (fun x =>
      (slowPages s x.id).any (fun v => pTier (ptGet s (cx s x.id).d v) == tier))
    match oldest (ctxs ++ objCandidates s (fun k => k / 2 ^ 32 == tier)) with
    | none => s
    | some x => setReclaiming (reclaimOne s x tier) (tier + 1) true

def execSlowTierReclaim (flash : Bool) (s : State) : Host.Outcome State Fault Refusal := .next (slowReclaim s (if flash then 2 else 1))

/-! ### Weight windows (R358-R366) -/

/-- Number of the partition's last formed step. -/
def lastStep (s : State) (p : Nat) : Nat := fget s F.SCH_STEP_NUM_STEP p

/-- Slots of a pass whose step has committed are released (R363). -/
def dropPasses (s : State) (w : Nat) : State :=
  if winResident s w then s
  else
    let p := fget s F.TIE_WIN_CTL_PARTITION w
    let live (n : Nat) : Bool := decide (lastStep s p < n) || (stepOf s p n).isSome
    winPut s w { win s w with slots := (win s w).slots.filter (fun e => e.2.st != 2 || live e.2.pass) }

/-- Frames of a layer's source, as frame keys; none when the source refuses (R359, R366). -/
def sourceFrames (s : State) (w layer : Nat) : Option (List Nat) :=
  let o := fget s F.TIE_WIN_SRC_OBJECT w
  let v := obj s o
  let n := fget s F.TIE_WIN_CTL_LAYER_FRAMES w
  if decide (o < fget s F.TIE_OBJ_BASE_COUNT 0) && oState v == 1 && oWeight v && decide ((layer + 1) * n ≤ oFrames v) then
    some ((List.range n).map (fun j => pKey (objEnt s o (layer * n + j))))
  else none

/-- A read of the source over the fabric for `n` frames from frame `j` of a layer, into the image; `arg` names it at its end: the
window for a fill, and with it the frame for a re-fill. -/
def windowGet (s : State) (w arg i layer j n : Nat) : State :=
  deviceOp s 6 arg 3
    { peer := fget s F.TIE_WIN_SRC_PEER w, key := fget s F.TIE_WIN_SRC_KEY w
      roff := (layer * fget s F.TIE_WIN_CTL_LAYER_FRAMES w + j) * 65536, laddr := devBase + winFrame s w i j * 65536, len := 65536 * n } []

/-- A fill of the layer that slot `i` awaits starts at its source. -/
def fillStart (s : State) (w i layer : Nat) : State :=
  if fbit s F.TIE_WIN_CTL_SRC_KIND w then
    let n := fget s F.TIE_WIN_CTL_LAYER_FRAMES w
    let s := winPut s w { win s w with gets := winUnits s w }
    (List.range (winUnits s w)).foldl (fun s u => windowGet s w w i layer (16 * u) (min 16 (n - 16 * u))) s
  else s

/-- The window starts the next fill in (pass, layer) order when its slot is free and its pass is allowed (R361). -/
def windowNext (s : State) (w : Nat) : State :=
  let s := dropPasses s w
  let x := win s w
  let p := fget s F.TIE_WIN_CTL_PARTITION w
  let i := x.layer % winSlots s w
  if !winEn s w || !fbit s F.TIE_CTL_STREAM_EN 0 || fget s F.TIE_WIN_STAT_STATE w != 1 ||
      x.slots.any (fun e => e.2.st == 1) || (nfind x.slots i).isSome || decide (lastStep s p + 1 < x.pass) then s
  else fillStart (winPut s w { x with slots := nset x.slots i { st := 1, layer := x.layer, pass := x.pass }, retries := 0 }) w i x.layer

/-- A window that is given up returns its frames to the pool. -/
def windowOff (s : State) (w : Nat) : State :=
  let s := (winFrames s w).foldl (fun s k => setUse s k 0) s
  fput (fput (winPut s w {}) F.TIE_WIN_CTL_EN w 0) F.TIE_WIN_STAT_STATE w 0

/-- The window may be enabled with a value (R358, R360). -/
def windowFits (s : State) (w : Nat) (val : Word) : Bool :=
  let s1 := rput s .TIE_WIN_CTL w val
  let p := fget s1 F.TIE_WIN_CTL_PARTITION w
  let one := (List.range 8).all (fun v => v == w || !winEn s v || fget s F.TIE_WIN_CTL_PARTITION v != p)
  one && decide (0 < fget s1 F.TIE_WIN_CTL_STACKS w) && decide (0 < fget s1 F.TIE_WIN_CTL_LAYER_FRAMES w) &&
  (winFrames s1 w).all (fun k => inPool s k && frameFree s k)

/-- A window is enabled with a value that fits: its frames leave the pool, and every slot is EMPTY (R360, R361). -/
def windowOn (s : State) (w : Nat) (val : Word) : State :=
  let s := rput s .TIE_WIN_CTL w val
  let p := fget s F.TIE_WIN_CTL_PARTITION w
  let s := (winFrames s w).foldl (fun s k => setUse s k 3) s
  let pass := match (part s p).step with
    | some k => k.num
    | none => lastStep s p + 1
  let s := fput (fput s F.TIE_WIN_STAT_STATE w 1) F.TIE_WIN_STAT_NEXT w 0
  winPut s w { pass := pass }

/-- Windows that the boot image enables are checked and take their frames as by a write, one after another; their fills begin
once the device is READY (R360, log entry 127). -/
def imageWindows (s : State) : State :=
  (List.range 8).foldl (fun s w =>
    if !winEn s w then s
    else
      let val := rword s .TIE_WIN_CTL w
      let s := fput s F.TIE_WIN_CTL_EN w 0
      if windowFits s w val then windowOn s w val else fset s F.TIE_ERR_WIN_CFG 0) s

/-- The first fill of every enabled window starts. -/
def windowsGo (s : State) : State := (List.range 8).foldl windowNext s

/-- What enabled windows hold in the stacks of half `h` is gone: every slot of such a window is EMPTY, and it fills again from the step
in progress on (R361, R613). -/
def windowsGone (s : State) (h : Nat) : State :=
  (List.range 8).foldl (fun s w =>
    if !winEn s w || !(winFrames s w).any (fun k => k / 2 ^ 23 == h) then s
    else
      let p := fget s F.TIE_WIN_CTL_PARTITION w
      let pass := match (part s p).step with
        | some k => k.num
        | none => lastStep s p + 1
      let s := (winFrames s w).foldl (fun s k => setUse s k 3) s
      fput (fput (winPut s w { pass := pass, closing := (win s w).closing }) F.TIE_WIN_STAT_STATE w 1) F.TIE_WIN_STAT_NEXT w 0) s

/-- A write to TIE_WINw_CTL. While the window is enabled only a clear of EN is taken (log entry 22). -/
def tieWinCtl (s : State) (w : Nat) (val : Word) : State :=
  let p := fget s F.TIE_WIN_CTL_PARTITION w
  if winEn s w then
    if bbit val 63 then fset s F.TIE_ERR_WIN_CFG 0
    else if ((part s p).step).isSome then winPut s w { win s w with closing := true }
    else windowOff s w
  else if !bbit val 63 then rput s .TIE_WIN_CTL w val
  else if windowFits s w val then windowNext (windowOn s w val) w
  else fset s F.TIE_ERR_WIN_CFG 0

def execTieWinCtl (w : Fin 8) (val : Word) (s : State) : Host.Outcome State Fault Refusal :=
  .next (regGate s .TIE_WIN_CTL w (fun s => tieWinCtl s w val))

/-- Items of the window's partition that a layer of it holds back end without running, as by a MEMORY exception, wherever they wait
(R366). -/
def endHeld (s : State) (w layer : Nat) : State :=
  let p := fget s F.TIE_WIN_CTL_PARTITION w
  let hit (x : Work) : Bool := x.step != 0 && x.part == p && itLayer x.bits == layer
  let out (s : State) (h : Nat) (x : Work) : State := faultContexts (stepSub s x h 0) x 3
  let miss (x : Work) : Bool := !hit x
  let s := s.til.foldl (fun s e =>
    (e.2.deque.filter hit ++ e.2.taken.toList.filter hit).foldl (fun s x => out s (sheafOf e.1) x)
      (tupd s e.1 (fun t => { t with deque := t.deque.filter miss, taken := t.taken.filter miss }))) s
  s.shf.foldl (fun s e =>
    (e.2.inbox.filter hit ++ e.2.held.filter hit ++ e.2.ovf.filter hit).foldl (fun s x => out s e.1 x)
      (shupd s e.1 (fun t => { t with inbox := t.inbox.filter miss, held := t.held.filter miss, ovf := t.ovf.filter miss }))) s

/-- The window is FAULTED by the layer of a slot, and the items that the slot holds back end (R366). -/
def windowFault (s : State) (w i layer : Nat) : State :=
  let s := winPut s w { win s w with slots := nerase (win s w).slots i }
  endHeld (fset (fput s F.TIE_WIN_STAT_STATE w 3) F.TIE_ERR_WIN_FAULT 0) w layer

/-- A fill has failed: another try, at most 3, or the window is FAULTED (R366). -/
def fillFails (s : State) (w i : Nat) (x : WinSlot) : State :=
  if (win s w).retries < 3 then
    fillStart (winPut s w { win s w with slots := nset (win s w).slots i { x with got := 0 }, retries := (win s w).retries + 1 }) w i x.layer
  else windowFault s w i x.layer

/-- A fill has put the layer into its slot: READY, and the next fill starts. -/
def fillReady (s : State) (w i : Nat) (x : WinSlot) : State :=
  let last := x.layer + 1 == winLayers s w
  let y := win s w
  let s := winPut s w { y with
    slots := nset y.slots i { x with st := 2 }
    layer := if last then 0 else x.layer + 1
    pass := if last then x.pass + 1 else x.pass }
  let s := fadd1 (fput s F.TIE_WIN_STAT_NEXT w (if last then 0 else x.layer + 1)) F.TIE_WIN_STAT_FILLS w 1
  let s := if fbit s F.TIE_WIN_CTL_SRC_KIND w then s else objUsed s (fget s F.TIE_WIN_SRC_OBJECT w)
  if last && winResident s w then fput s F.TIE_WIN_STAT_STATE w 2 else windowNext s w

def refillSet (s : State) (w k : Nat) (n : Option Nat) : State :=
  winPut s w { win s w with refill := (match n with
    | some n => nset (win s w).refill k n
    | none => nerase (win s w).refill k), reading := (win s w).reading.filter (· != k) }

/-- A re-fill of frame `k` has failed: another try, at most 3, or the window is FAULTED (R366). -/
def refillFails (s : State) (w k : Nat) : State :=
  let n := nget (fun _ => 0) (win s w).refill k
  if n < 3 then refillSet s w k (some (n + 1))
  else
    let s := refillSet s w k none
    match windowOf s k with
    | some (v, i, _) => windowFault s v i (winSlot s v i).layer
    | none => s

/-- A frame with a failed line is filled again from the source: at once from an object, or by a read over the fabric (R366). -/
def refillOne (s : State) (w k : Nat) : State :=
  match windowOf s k with
  | some (v, i, j) =>
    let x := winSlot s v i
    if x.st ≠ 2 then refillSet s w k none
    else if (win s w).reading.contains k then s
    else if fbit s F.TIE_WIN_CTL_SRC_KIND v then
      windowGet (winPut s w { win s w with reading := (win s w).reading ++ [k] }) v (w + 8 * (k + 1)) i x.layer j 1
    else match sourceFrames s v x.layer with
      | some l => if flashWaits s (keyAddr (l.getD j 0)) 65536 then s else match frameBad s (l.getD j 0) with
        | some a => refillFails (lineFailure s 4 1 a) w k
        | none => copyFrame (refillSet s w k none) (l.getD j 0) k
      | none => refillFails s w k
  | none => refillSet s w k none

/-- Re-fills go on: reads that have ended are good or tried again, and frames that await one begin (R366). -/
def refillAll (s : State) (w : Nat) : State :=
  let mine (e : Nat × Nat × Nat) : Bool := e.1 == 6 && decide (8 ≤ e.2.1) && e.2.1 % 8 == w
  let l := s.fab.ended.filter mine
  let s := { s with fab := { s.fab with ended := s.fab.ended.filter (fun e => !mine e) } }
  let s := l.foldl (fun s e => if e.2.2 = 0 then refillSet s w (e.2.1 / 8 - 1) none else refillFails s w (e.2.1 / 8 - 1)) s
  ((win s w).refill.map (·.1)).foldl (fun s k => refillOne s w k) s

/-- How many of the frames that a fill still awaits are read at once: READ_AHEAD while a slow tier holds one of them (R341). -/
def fillCount (s : State) (l : List Nat) : Nat :=
  if l.any (fun k => addrTier (keyAddr k) != 0) then min l.length (max 1 (fget s F.TIE_CTL_READ_AHEAD 0)) else l.length

/-- WINDOW_FILL_DONE: the reads outstanding for the fill in progress end, good or bad, and the fill with the last of them; frames to
be refilled are; with no fill in progress the next one starts. -/
def windowFillDone (s : State) (w : Nat) : State :=
  let s := refillAll s w
  match (win s w).slots.find? (fun e => e.2.st == 1) with
  | none =>
    if fget s F.TIE_WIN_STAT_STATE w = 3 then endHeld s w (win s w).layer else windowNext s w
  | some (i, x) =>
    if fbit s F.TIE_WIN_CTL_SRC_KIND w then
      let mine := s.fab.ended.filter (fun e => e.1 == 6 && e.2.1 == w)
      if mine.length < (win s w).gets then s
      else
        let s := { s with fab := { s.fab with ended := s.fab.ended.filter (fun e => !(e.1 == 6 && e.2.1 == w)) } }
        if mine.any (fun e => e.2.2 != 0) then fillFails s w i x else fillReady s w i x
    else match sourceFrames s w x.layer with
      | none => fillFails s w i x
      | some l =>
        let n := fillCount s (l.drop x.got)
        if ((l.drop x.got).take n).any (fun k => flashWaits s (keyAddr k) 65536) then s else
        match ((l.drop x.got).take n).findSome? (frameBad s) with
        | some a => fillFails (lineFailure s 4 1 a) w i x
        | none =>
          let s := (List.range n).foldl (fun s j => copyFrame s (l.getD (x.got + j) 0) (winFrame s w i (x.got + j))) s
          if x.got + n < l.length then winPut s w { win s w with slots := nset (win s w).slots i { x with got := x.got + n } }
          else fillReady s w i x

def execWindowFillDone (w : Fin 8) (s : State) : Host.Outcome State Fault Refusal := .next (windowFillDone s w)

end Sys2Proof.Machine
end

