-- ==== Sys2Proof/Machine/Rows.lean ====
section
/-!
DEFINITION. Row tables: descriptors and map entries (R370-R372), requests and their answers (R376-R381), serving a lookup
with its cache and shadows (R382-R387), and staging (R388, R389).
-/

namespace Sys2Proof.Machine

def roOK : Nat := 0
def roNOTABLE : Nat := 1
def roRANGE : Nat := 2
def roMISMATCH : Nat := 3
def roSTAGEFULL : Nat := 4
def roMOVED : Nat := 5
def roBADLINE : Nat := 6
def roLOST : Nat := 7
def roUNREACH : Nat := 8
def roSTALE : Nat := 9
def roFORMAT : Nat := 10
def roFORWARD : Nat := 11

/-! ### Descriptors (R370) -/

def tblAddr (s : State) (t : Nat) : Nat := fget s F.ROW_TBL_BASE_BASE 0 * 65536 + 64 * t

/-- Bytes `o` to `o + n - 1` of a table's descriptor. -/
def tf (s : State) (t o n : Nat) : Nat := memNat s (tblAddr s t + o) n

def tfPut (s : State) (t o n v : Nat) : State := memPut s (tblAddr s t + o) n v

def tState (s : State) (t : Nat) : Nat := tf s t 0 1
def tAdd (s : State) (t : Nat) : Bool := tf s t 1 1 == 1
def tElem (s : State) (t : Nat) : Nat := tf s t 2 1
def tApply (s : State) (t : Nat) : Nat := tf s t 3 1
/-- Bytes of a row. -/
def tSize (s : State) (t : Nat) : Nat := 2 ^ tf s t 4 1
def tRows (s : State) (t : Nat) : Nat := tf s t 8 8
def tShard (s : State) (t : Nat) : Nat := tf s t 16 4
def tMembers (s : State) (t : Nat) : Nat := tf s t 20 2
def tComp (s : State) (t : Nat) : Nat := tf s t 22 2
def tMapObj (s : State) (t : Nat) : Nat := tf s t 24 2
def tInitObj (s : State) (t : Nat) : Nat := tf s t 26 2
def tStkObj (s : State) (t : Nat) : Nat := tf s t 28 2
def tCacheObj (s : State) (t : Nat) : Nat := tf s t 30 2
def tGuests (s : State) (t : Nat) : Nat := tf s t 32 4
def tSets (s : State) (t : Nat) : Nat := tf s t 36 4
def tObs (s : State) (t : Nat) : Nat := tf s t 48 8

/-- The table is LIVE. -/
def tLive (s : State) (t : Nat) : Bool := decide (t < 1024) && tState s t == 1

def tabOf (s : State) (t : Nat) : RowTab := nget (fun _ => {}) s.rows.tab t

def tabPut (s : State) (t : Nat) (x : RowTab) : State :=
  { s with rows := { s.rows with tab := nput (fun _ => {}) s.rows.tab t x } }

/-! ### Homes and entries (R371, R372) -/

/-- Slot of the composition map that is the shard home of a row. -/
def shardSlot (s : State) (t r : Nat) : Nat := r / max (tShard s t) 1 % max (tMembers s t) 1

/-- Member entry of the shard home. -/
def shardMember (s : State) (t r : Nat) : Nat := member s (tComp s t) 0 (shardSlot s t r)

/-- This device is the row's shard home. -/
def shardHere (s : State) (t r : Nat) : Bool :=
  tMembers s t == 1 || (mKind (shardMember s t r) != 0 && mNode (shardMember s t r) == fget s F.FAB_NODE_NODE 0)

/-- Peer-table entry of the shard home; 65535 for this device. -/
def shardPeer (s : State) (t r : Nat) : Nat := if shardHere s t r then 65535 else mPeer (shardMember s t r)

/-- Local index of a row on its shard home. -/
def localIdx (s : State) (t r : Nat) : Nat :=
  r / max (tShard s t) 1 / max (tMembers s t) 1 * tShard s t + r % max (tShard s t) 1

/-- Where a row's map entry lies: the address of its 32 bytes, and its guest index, none for a local entry. -/
structure RowAt where
  addr : Nat := 0
  guest : Option Nat := none
  deriving DecidableEq, Repr

/-- First guest index of the probe window of a row. -/
def guestStart (s : State) (t r : Nat) : Nat :=
  r * 0x9E3779B97F4A7C15 % 2 ^ 64 / 2 ^ (64 - Nat.log2 (tGuests s t))

/-- Guest indexes of the probe window, in order. -/
def guestProbe (s : State) (t r : Nat) : List Nat :=
  if tGuests s t = 0 then [] else (List.range 8).map (fun j => (guestStart s t r + j) % tGuests s t)

/-- Address of byte `x` of guest entry `g`. -/
def guestAddr (s : State) (t g x : Nat) : Nat := objAt s (tMapObj s t) (32 * (tabOf s t).local' + 64 * g + x)

/-- Bytes 32-39 of a guest entry: VALID and ROW. -/
def guestTag (s : State) (t g : Nat) : Nat := memNat s (guestAddr s t g 32) 8

def guestFor (s : State) (t r g : Nat) : Bool := bits (guestTag s t g) 63 1 == 1 && bits (guestTag s t g) 0 40 == r

/-- The local entry of a row, or its valid guest entry. -/
def rowAt (s : State) (t r : Nat) : Option RowAt :=
  if shardHere s t r ∧ localIdx s t r < (tabOf s t).local' then some { addr := objAt s (tMapObj s t) (32 * localIdx s t r) }
  else ((guestProbe s t r).find? (guestFor s t r)).map (fun g => { addr := guestAddr s t g 0, guest := some g })

/-- A map entry as a 256-bit number. -/
def rowEnt (s : State) (a : RowAt) : Nat := memNat s a.addr 32

def rowPut (s : State) (a : RowAt) (v : Nat) : State := memPut s a.addr 32 v

def reKind (v : Nat) : Nat := bits v 62 2
def reShadows (v : Nat) : Nat := bits v 59 3
def reOutbound (v : Nat) : Bool := bits v 58 1 == 1
def reInbound (v : Nat) : Bool := bits v 57 1 == 1
def reDepoch (v : Nat) : Nat := bits v 53 4
def reAddr (v : Nat) : Nat := bits v 0 50
def rePeer (v : Nat) : Nat := bits v 0 16
def reVersion (v : Nat) : Nat := bits v 64 64
def reKey (v : Nat) : RowKey := { step := bits v 128 64, rank := bits v 240 16, seq := bits v 192 32 }
def reFreq (v : Nat) : Nat := bits v 232 8
def reLog (v : Nat) : Nat := bits v 224 8

/-- A map entry from its parts. -/
def mkRow (kind shadows : Nat) (out inb : Bool) (depoch addr version : Nat) (k : RowKey) (freq log : Nat) : Nat :=
  kind * 2 ^ 62 + shadows % 8 * 2 ^ 59 + b2n out * 2 ^ 58 + b2n inb * 2 ^ 57 + depoch % 16 * 2 ^ 53 + addr % 2 ^ 50 +
  2 ^ 64 * (version % 2 ^ 64) + 2 ^ 128 * (k.step % 2 ^ 64) + 2 ^ 192 * (k.seq % 2 ^ 32) + 2 ^ 224 * (log % 256) +
  2 ^ 232 * (freq % 256) + 2 ^ 240 * (k.rank % 65536)

/-- Keys compare as (STEP, RANK, SEQ) (R381). -/
def keyLt (a b : RowKey) : Bool :=
  decide (a.step < b.step) || (a.step == b.step && (decide (a.rank < b.rank) || (a.rank == b.rank && decide (a.seq < b.seq))))

/-! ### Slots (R374, R386, R388) -/

/-- The first slot of STK_OBJ from slot `i` on that is free, searching `n` of them. -/
def freeSlot (s : State) (t i : Nat) : Nat → Option Nat
  | 0 => none
  | n + 1 =>
    let a := objAt s (tStkObj s t) (i * tSize s t)
    if oFrames (obj s (tStkObj s t)) * 65536 < (i + 1) * tSize s t then none
    else if (tabOf s t).stk.contains a then freeSlot s t (i + 1) n
    else some a

/-- A free slot of STK_OBJ; which one is the device's own choice (log entry 7). -/
def pickSlot (s : State) (t : Nat) : Option Nat :=
  let c := choiceOf s 20 % max (oFrames (obj s (tStkObj s t)) * 65536 / tSize s t) 1
  match freeSlot s t c 1 with
  | some a => some a
  | none => freeSlot s t 0 ((tabOf s t).stk.length + 1)

def takeSlot (s : State) (t a : Nat) : State :=
  let x := tabOf s t
  bump (tabPut s t { x with stk := x.stk ++ [a] })

/-- A slot returns to the free list of its own object. -/
def dropSlot (s : State) (t a : Nat) : State :=
  let x := tabOf s t
  if x.stk.contains a then tabPut s t { x with stk := x.stk.filter (· != a) } else tabPut s t { x with free := x.free ++ [a] }

/-! ### Shadows (R386, R387) -/

def shadowOf (s : State) (t r : Nat) : Option Shadow := s.rows.shadows.find? (fun x => x.table == t && x.row == r)

/-- The 64 bytes of a shadow record; a place that holds none names no slot (log entry 128). -/
def shadowBytes (x : Shadow) : List Byte :=
  toBytes 2 x.table ++ toBytes 6 x.row ++ toBytes 8 x.version ++
    (List.range 8).flatMap (fun k => toBytes 4 ((x.slots.find? (fun e => e.1 == k)).elim 0xFFFFFFFF (·.2))) ++ toBytes 16 0

/-- A record is written at its place in the directory. -/
def shadowWrite (s : State) (x : Shadow) : State :=
  memWrite s (objAt s (fget s F.ROW_SHD_DIR_OBJECT 0) (64 * x.idx)) (shadowBytes x)

/-- The records that a test keeps stay in the directory. -/
def shadowsKeep (s : State) (p : Shadow → Bool) : State :=
  let gone := s.rows.shadows.filter (fun x => !p x)
  let s := gone.foldl (fun s x => shadowWrite s { idx := x.idx }) s
  { s with rows := { s.rows with shadows := s.rows.shadows.filter p } }

/-- Every shadow record of a row leaves the directory. -/
def noShadows (s : State) (t r : Nat) : State := shadowsKeep s (fun x => !(x.table == t && x.row == r))

/-- The record of a row is replaced, or leaves when it names no slot. -/
def shadowPut (s : State) (x : Shadow) : State :=
  if x.slots.isEmpty then noShadows s x.table x.row
  else
    let l := s.rows.shadows.filter (fun y => !(y.table == x.table && y.row == x.row))
    shadowWrite { s with rows := { s.rows with shadows := l ++ [x] } } x

/-- Every shadow of a row is dropped, and SHADOWS is 0 in the entry. -/
def dropShadows (s : State) (t r : Nat) (a : RowAt) : State :=
  if reShadows (rowEnt s a) = 0 then s else rowPut (noShadows s t r) a (setBits (rowEnt s a) 59 3 0)

/-- Device memory address of a shadow slot of stack `k`. -/
def shadowAddr (s : State) (k i : Nat) : Nat := objAt s (fget s F.ROW_SHD_OBJECT k) (1024 * i)

/-- Shadow slots of stack `k` in use. -/
def shadowUsed (s : State) (k : Nat) : List Nat := s.rows.shadows.flatMap (fun x => (x.slots.filter (fun e => e.1 == k)).map (·.2))

/-- Free shadow slots of stack `k` (ROW_SHDn.FREE). -/
def shadowFree (s : State) (k : Nat) : Nat :=
  let o := fget s F.ROW_SHD_OBJECT k
  if oState (obj s o) = 1 then oFrames (obj s o) * 64 - (shadowUsed s k).length else 0

/-- One more shadow of a row: the first stack from the home's on that holds neither the home nor a shadow of it, when a
slot there and a place in the directory are free (R386). -/
def addShadow (s : State) (t r : Nat) (a : RowAt) (bs : List Byte) : State :=
  let v := rowEnt s a
  let h := addrStack (reAddr v)
  let x := (shadowOf s t r).getD { idx := lowestOut (s.rows.shadows.map (·.idx)) s.rows.shadows.length 0, table := t, row := r, version := reVersion v }
  let others := s.rows.shadows.filter (fun y => !(y.table == t && y.row == r))
  let k? := ((List.range 7).map (fun j => (h + 1 + j) % 8)).find? (fun k => !x.slots.any (fun e => e.1 == k))
  match k? with
  | none => s
  | some k =>
    if shadowFree s k = 0 ∨ 8 * fget s F.ROW_SHD_DIR_BUCKETS 0 ≤ others.length then s
    else
      let used := shadowUsed s k
      let i := lowestOut used used.length 0
      let s := memWrite s (shadowAddr s k i) bs
      let s := shadowPut s { x with slots := x.slots ++ [(k, i)] }
      rowPut s a (setBits v 59 3 (reShadows v + 1))

/-! ### Lost rows (R383, R581) -/

/-- A row becomes LOST; its shadows are dropped. -/
def rowLost (s : State) (t r : Nat) (a : RowAt) : State :=
  rowPut (noShadows s t r) a (setBits (setBits (rowEnt s a) 62 2 2) 59 3 0)

/-- A home slot fails its check: the row is LOST, the flag is set and the line recorded (R383). -/
def homeBad (s : State) (t r : Nat) (a : RowAt) (line : Nat) : State :=
  fset (rowLost (lineFailureOf s 7 3 line t 0) t r a) F.ROW_ERR_BAD_LINE 0

/-- The row of a local index, on its shard home (R371). -/
def rowOfLocal (s : State) (t i : Nat) : Nat :=
  let me := if tMembers s t = 1 then 0 else (ownSlots s (tComp s t) 0).headD 0
  (i / max (tShard s t) 1 * tMembers s t + me) * tShard s t + i % max (tShard s t) 1

/-- The row of entry `i` of a map: local entries first, then guest entries. -/
def rowOfEntry (s : State) (t i : Nat) : Nat :=
  if i < (tabOf s t).local' then rowOfLocal s t i else bits (guestTag s t (i - (tabOf s t).local')) 0 40

/-- A map entry whose line fails its check: the row becomes LOST, and so does the other row whose entry shares the line
(R581); both lose their shadows (R387). -/
def entryCheck (s : State) (t r : Nat) (a : RowAt) : State :=
  if lineOk s a.addr then s
  else
    let s := lineFailureOf s 10 3 (a.addr / 64 * 64) t 0
    let b := a.addr / 64 * 64 + (if a.addr % 64 = 0 then 32 else 0)
    let s := rowLost s t r a
    let i := if a.addr % 64 = 0 then localIdx s t r + 1 else localIdx s t r - 1
    if a.guest.isSome ∨ (tabOf s t).local' + tGuests s t ≤ i then s else rowLost s t (rowOfEntry s t i) { addr := b }

/-! ### Observations and the row cache (R384, R385) -/

/-- FREQ as it stands under R384, computed without writing. -/
def freqNow (s : State) (t v : Nat) : Nat := reFreq v / 2 ^ min 8 ((tf s t 7 1 + 16 - reDepoch v) % 16)

/-- One observation of the table and of the row (R384); a row that cools down loses its shadows (R387). -/
def observe (s : State) (t r : Nat) (a : RowAt) : State :=
  let obs := min (tObs s t + 1) (2 ^ 64 - 1)
  let s := tfPut s t 48 8 obs
  let s := if obs % max (tf s t 40 4) 1 = 0 then tfPut s t 7 1 ((tf s t 7 1 + 1) % 16) else s
  let v := rowEnt s a
  let f := min 255 (freqNow s t v + 1)
  let s := rowPut s a (setBits (setBits v 232 8 f) 53 4 (tf s t 7 1))
  if 2 * f < tf s t 6 1 then dropShadows s t r a else s

/-- The row cache is in use for a table. -/
def cacheOn (s : State) (t : Nat) : Bool := fbit s F.ROW_CTL_CACHE_EN 0 && tSets s t != 0

/-- Cache set of a row (R385). -/
def cacheSet (s : State) (t r : Nat) (a : RowAt) : Nat :=
  (if a.guest.isNone then localIdx s t r else r) % max (tSets s t) 1

/-- Address of the tag of a way, and of its line. -/
def tagAddr (s : State) (t set w : Nat) : Nat := objAt s (tCacheObj s t) (32 * (8 * set + w))
def lineAddr (s : State) (t set w : Nat) : Nat :=
  objAt s (tCacheObj s t) (roundUp (256 * tSets s t) (tSize s t) + (8 * set + w) * tSize s t)

/-- A tag as a number: ROW, VALID, VERSION, time of insertion; a tag whose line fails its check holds nothing. -/
def tag (s : State) (t set w : Nat) : Nat := if lineOk s (tagAddr s t set w) then memNat s (tagAddr s t set w) 32 else 0
def tagValid (v : Nat) : Bool := bits v 63 1 == 1
def tagRow (v : Nat) : Nat := bits v 0 40
def tagVersion (v : Nat) : Nat := bits v 64 64
def tagTime (v : Nat) : Nat := bits v 128 64

/-- The way that holds the row at a version. -/
def cacheWay (s : State) (t r set version : Nat) : Option Nat :=
  (List.range 8).find? (fun w => let v := tag s t set w; tagValid v && tagRow v == r && tagVersion v == version)

/-- FREQ of the row in a way; 0 for an invalid way and for a row that has no entry here any more. -/
def wayFreq (s : State) (t set w : Nat) : Nat :=
  let v := tag s t set w
  if !tagValid v then 0 else match rowAt s t (tagRow v) with
    | some a => freqNow s t (rowEnt s a)
    | none => 0

/-- The victim way of a set: an invalid way first, then by FREQ once the table has history, then the oldest insertion,
then the lower way (R385). -/
def victim (s : State) (t set : Nat) (hist : Bool) : Nat :=
  let rank (w : Nat) : Nat × Nat × Nat :=
    let v := tag s t set w
    if tagValid v then (1, if hist then wayFreq s t set w else 0, tagTime v) else (0, 0, 0)
  let lt (x y : Nat × Nat × Nat) : Bool :=
    decide (x.1 < y.1) || (x.1 == y.1 && (decide (x.2.1 < y.2.1) || (x.2.1 == y.2.1 && decide (x.2.2 < y.2.2))))
  ((List.range 8).foldl (fun b w => if lt (rank w) (rank b) then w else b) 0)

/-- A row read at its home in a slow tier may enter the cache (R385). -/
def cacheInsert (s : State) (t r : Nat) (a : RowAt) (bs : List Byte) : State :=
  let set := cacheSet s t r a
  let hist := decide (65536 ≤ tObs s t)
  let w := victim s t set hist
  if hist && decide (reFreq (rowEnt s a) ≤ wayFreq s t set w) then s
  else
    let s := memWrite s (lineAddr s t set w) bs
    memPut s (tagAddr s t set w) 32 (r + 2 ^ 63 + 2 ^ 64 * reVersion (rowEnt s a) + 2 ^ 128 * (timeMs s % 2 ^ 64))

/-- Conditions of a new shadow (R386). -/
def shadowDue (s : State) (t : Nat) (v : Nat) : Bool :=
  fbit s F.ROW_CTL_SHADOW_EN 0 && decide (65536 ≤ tObs s t) && decide (tf s t 4 1 ≤ 10) && decide (tf s t 6 1 ≤ reFreq v) &&
  decide (reShadows v < tf s t 5 1) && !reOutbound v && reKind v == 0 && addrTier (reAddr v) == 0

/-! ### Serving a lookup (R382, R383) -/

/-- The home slot is read; a good row may enter the cache and gain a shadow. -/
def readHome (s : State) (t r : Nat) (a : RowAt) : Option (List Byte) × State :=
  let v := rowEnt s a
  let n := tSize s t
  match badLineIn s (reAddr v) n with
  | some l => (none, homeBad s t r a l)
  | none =>
    let bs := memBytes s (reAddr v) n
    let s := if addrTier (reAddr v) ≠ 0 ∧ cacheOn s t then cacheInsert s t r a bs else s
    (some bs, if shadowDue s t v then addShadow s t r a bs else s)

/-- A shadow is read; one that fails its check is dropped and the home is read. -/
def readShadow (s : State) (t r : Nat) (a : RowAt) (k i : Nat) : Option (List Byte) × State :=
  let v := rowEnt s a
  let p := shadowAddr s k i
  (badLineIn s p (tSize s t)).elim (some (memBytes s p (tSize s t)), fadd1 s F.ROW_LOOKUPS_SHADOW_HIT 0 1) (fun l =>
    let s := lineFailureOf s 7 1 l t 0
    let s := match shadowOf s t r with
      | some x => shadowPut s { x with slots := x.slots.filter (· != (k, i)) }
      | none => s
    readHome (rowPut s a (setBits v 59 3 (reShadows v - 1))) t r a)

/-- A way of the cache whose line fails its check is dropped. -/
def dropWay (s : State) (t set w l : Nat) : State := memPut (lineFailureOf s 7 1 l t 0) (tagAddr s t set w) 32 0

/-- A way of the cache is read; one that fails its check is dropped and the home is read. -/
def readCache (s : State) (t r : Nat) (a : RowAt) (set w : Nat) : Option (List Byte) × State :=
  let p := lineAddr s t set w
  (badLineIn s p (tSize s t)).elim (some (memBytes s p (tSize s t)), fadd1 s F.ROW_LOOKUPS_CACHE_HIT 0 1)
    (fun l => readHome (dropWay s t set w l) t r a)

/-- The row of a lookup for a requester of half `h`, none when its home failed its check. -/
def lookup (s : State) (t r h : Nat) (a : RowAt) : Option (List Byte) × State :=
  let v := rowEnt s a
  let sh := (shadowOf s t r).bind (fun x => if x.version = reVersion v then x.slots.find? (fun e => e.1 / 4 == h) else none)
  match sh with
  | some (k, i) => readShadow s t r a k i
  | none =>
    if addrTier (reAddr v) = 0 ∨ !cacheOn s t then readHome s t r a
    else match cacheWay s t r (cacheSet s t r a) (reVersion v) with
      | none => readHome s t r a
      | some w => readCache s t r a (cacheSet s t r a) w

/-! ### Requests (R378, R380) -/

/-- A row request header. -/
structure RowHdr where
  op : Nat := 0
  fwd : Bool := false
  resv : Bool := false
  table : Nat := 0
  shift : Nat := 0
  merge : Nat := 0
  key : RowKey := {}
  row : Nat := 0
  replyKey : Nat := 0
  replyOff : Nat := 0
  reqId : Nat := 0
  epoch : Nat := 0
  comp : Nat := 0
  deriving DecidableEq, Repr

/-- The header that 64 bytes hold; `resv` says that a reserved field is not 0. -/
def rowHdr (n : Nat) : RowHdr :=
  { op := bits n 0 8, fwd := bits n 8 1 == 1, resv := bits n 9 7 != 0 || bits n 384 128 != 0, table := bits n 16 16,
    shift := bits n 32 8, merge := bits n 40 8, key := { step := bits n 128 64, rank := bits n 48 16, seq := bits n 192 32 },
    row := bits n 64 64, replyKey := bits n 224 32, replyOff := bits n 256 64, reqId := bits n 320 32, epoch := bits n 352 16,
    comp := bits n 368 16 }

/-- The 64 bytes of a header. -/
def rowHdrBytes (x : RowHdr) : List Byte :=
  toBytes 1 x.op ++ toBytes 1 (b2n x.fwd) ++ toBytes 2 x.table ++ toBytes 1 x.shift ++ toBytes 1 x.merge ++ toBytes 2 x.key.rank ++
  toBytes 8 x.row ++ toBytes 8 x.key.step ++ toBytes 4 x.key.seq ++ toBytes 4 x.replyKey ++ toBytes 8 x.replyOff ++
  toBytes 4 x.reqId ++ toBytes 2 x.epoch ++ toBytes 2 x.comp ++ toBytes 16 0

/-- Steps 1 to 5 of R380: the first failure, or OK; for a REDIRECT of the epoch rules FORWARD, with the member's peer. -/
def homeCheck (s : State) (x : RowHdr) : State × Nat × Nat :=
  let t := x.table
  if !fbit s F.ROW_CTL_SERVE_EN 0 || !tLive s t then (s, roNOTABLE, 0)
  else if x.resv then (s, roFORMAT, 0)
  else if tRows s t ≤ x.row then (s, roRANGE, 0)
  else if x.shift ≠ tf s t 4 1 ∨ x.merge ≠ tf s t 1 1 then (fset s F.ROW_ERR_MISMATCH 0, roMISMATCH, 0)
  else if tMembers s t = 1 then (s, roOK, 0)
  else
    let k := compCheck s x.comp x.epoch (oldSlot s x.comp)
    let s := compMark s x.comp x.epoch k
    if k.status = 0 then (s, roOK, 0)
    else if k.status = fsREDIRECT ∧ !x.fwd then (s, roFORWARD, mPeer (member s x.comp 0 k.slot))
    else (s, roSTALE, 0)

/-! ### Answers at the requester (R377, R379, R381) -/

def rowReq (s : State) (id : Nat) : Option RowReq := nfind s.rows.reqs id

/-- The request that a REQ_ID of 32 bits names. -/
def reqFull (s : State) (r : Nat) : Nat :=
  if (rowReq s r).isSome then r else ((s.rows.reqs.find? (fun e => e.1 % 2 ^ 32 == r)).map (·.1)).getD r

def reqPut (s : State) (id : Nat) (x : RowReq) : State := { s with rows := { s.rows with reqs := nset s.rows.reqs id x } }

/-- The hinted member of a row. -/
def hintOf (s : State) (t r : Nat) : Option Nat := (s.rows.hints.find? (fun h => h.1 == t && h.2.1 == r)).map (·.2.2)

def dropHint (s : State) (t r : Nat) : State :=
  { s with rows := { s.rows with hints := s.rows.hints.filter (fun h => !(h.1 == t && h.2.1 == r)) } }

/-- A hint is recorded; the cache of 4,096 entries replaces its oldest. -/
def addHint (s : State) (t r p : Nat) : State :=
  let l := (dropHint s t r).rows.hints ++ [(t, r, p)]
  { s with rows := { s.rows with hints := l.drop (l.length - 4096) } }

/-- The home of a row is this device, as its map says. -/
def homeHere (s : State) (t r : Nat) : Bool := match rowAt s t r with
  | some a => reKind (rowEnt s a) != 1
  | none => false

/-- A request goes to a member, or into this device's own queue. REPLY_KEY and REPLY_OFF are the device's own choice. -/
def rowSend (s : State) (id : Nat) (q : RowReq) : State :=
  let t := q.table
  let h : RowHdr :=
    { op := if q.upd then 2 else 1, fwd := q.fwd, table := t, shift := tf s t 4 1, merge := tf s t 1 1, key := q.key, row := q.row
      replyKey := choiceOf s 21 % 2 ^ 32, replyOff := choiceOf s 22 % 2 ^ 58 * 64, reqId := id
      epoch := if tMembers s t = 1 then 0 else (cmpOf s (tComp s t)).cur
      comp := if tMembers s t = 1 then 0 else tComp s t }
  let bs := rowHdrBytes h ++ q.data
  let s := reqPut { s with fab := { s.fab with ended := s.fab.ended.filter (fun e => !(e.1 == 4 && e.2.1 == id)) } } id
    { q with waiting := false }
  if q.peer = 65535 then { s with fab := { s.fab with rows := s.fab.rows ++ [(65535, halfOf q.til, bs)] } }
  else deviceSend (bump s) 4 id q.peer 1 bs

/-- The member of the first attempt (R379). -/
def firstPeer (s : State) (t r : Nat) : Nat :=
  if homeHere s t r then 65535 else (hintOf s t r).getD (shardPeer s t r)

/-- The request ends: rd is written. -/
def rowEnd (s : State) (id status version : Nat) : State :=
  match rowReq s id with
  | none => s
  | some q =>
    let s := { s with rows := { s.rows with reqs := nerase s.rows.reqs id } }
    askDone s q.til id (w64 (status + 256 * (if status = 0 ∧ !q.upd then version % 2 ^ 56 else 0)))

/-- An answer to request `id`: a FORWARD followed, a second attempt, a wait before a resend, or the end. -/
def rowAnswered (s : State) (id : Nat) (x : RowAns) : State :=
  match rowReq s id with
  | none => s
  | some q =>
    let second (s : State) : State :=
      if q.attempt = 1 then
        let s := dropHint s q.table q.row
        rowSend s id { q with attempt := 2, fwd := false, peer := shardPeer s q.table q.row }
      else rowEnd s id roMOVED 0
    if x.status = roFORWARD then
      if q.fwd then second s else rowSend (addHint s q.table q.row x.peer) id { q with fwd := true, peer := x.peer }
    else if x.status = roMOVED then second s
    else if x.status = roSTAGEFULL ∧ q.upd ∧ q.retries < fget s F.ROW_CFG_RETRY 0 then reqPut s id { q with waiting := true }
    else
      let s := if x.status = 0 ∧ !q.upd then movWrite s q.til q.addr (x.data.take (tSize s q.table)) else s
      rowEnd s id x.status x.version

/-! ### Answers of the home -/

/-- The home answers a request: to its own queue's requester at once, to a member by a write to REPLY_OFF (R378). -/
def rowReply (s : State) (peer : Nat) (x : RowHdr) (a : RowAns) : State :=
  let s := if a.status = roFORWARD then fadd1 s F.ROW_MOVES_FORWARD 0 1 else if a.status = roMOVED then fadd1 s F.ROW_MOVES_MOVED 0 1 else s
  if peer = 65535 then rowAnswered s (reqFull s x.reqId) a
  else
    let bs := toBytes 4 x.reqId ++ toBytes 1 a.status ++ toBytes 1 0 ++ toBytes 2 a.peer ++ toBytes 8 a.version ++ toBytes 48 0 ++ a.data
    let d : FabDesc := { peer := peer, key := x.replyKey, roff := x.replyOff, len := bs.length, msg := s.fresh % 2 ^ 32, epoch := x.epoch, comp := x.comp }
    deviceOp s 4 0 2 d bs

/-- What R382 answers for a row that is not served here: MOVED or FORWARD. -/
def elsewhere (s : State) (x : RowHdr) : Option RowAns :=
  match rowAt s x.table x.row with
  | none => some { status := roMOVED }
  | some a =>
    let v := rowEnt s a
    if reKind v = 1 then some (if x.fwd then { status := roMOVED } else { status := roFORWARD, peer := rePeer v }) else none

/-- Entry rules of a GET (R382): the answer, or none while the row is INBOUND or its flash tier mounts (R416). -/
def serveGet (s : State) (x : RowHdr) (h : Nat) : Option (RowAns × State) :=
  match rowAt s x.table x.row with
  | none => some ({ status := roMOVED }, s)
  | some a =>
    let s := entryCheck s x.table x.row a
    let v := rowEnt s a
    match elsewhere s x with
    | some r => some (r, s)
    | none =>
      if reKind v = 2 then some ({ status := roLOST }, s)
      else if reInbound v || flashWaits s (reAddr v) (tSize s x.table) then none
      else
        let s := fadd1 (observe s x.table x.row a) F.ROW_LOOKUPS_SERVED 0 1
        match lookup s x.table x.row h a with
        | (some bs, s) => some ({ status := roOK, version := reVersion v, data := bs }, s)
        | (none, s) => some ({ status := roBADLINE }, s)

/-! ### Staging (R388, R389, R393) -/

/-- Stage records of the half that holds a slot. -/
def stageCount (s : State) (h : Nat) : Nat := (s.rows.staged.filter (fun e => addrHalf e.slot == h)).length

/-- An update is staged: its slot and its stage record; none when either is exhausted. -/
def stage (s : State) (t r : Nat) (k : RowKey) (bs : List Byte) : Option State :=
  match pickSlot s t with
  | none => none
  | some a =>
    if 65536 ≤ stageCount s (addrHalf a) then none
    else
      let s := memWrite (takeSlot s t a) a bs
      let s := { s with rows := { s.rows with staged := s.rows.staged ++ [{ table := t, row := r, key := k, slot := a }] } }
      some (fadd1 s F.ROW_UPDATES_STAGED 0 1)

def migOf (s : State) (l : Nat) : Option Mig := nfind s.rows.migs l

def migPut (s : State) (l : Nat) (m : Mig) : State := { s with rows := { s.rows with migs := nset s.rows.migs l m } }

/-- Updates that a forwarding log holds (ROW_LOG_CFG). -/
def logRoom (s : State) (t : Nat) : Nat := fget s F.ROW_LOG_CFG_LOG_KIB 0 * 1024 / (64 + tSize s t)

/-- An update of an OUTBOUND row goes to its log (R393); one that finds it full is answered STAGE_FULL (R399). -/
def logUpdate (s : State) (t l : Nat) (k : RowKey) (bs : List Byte) : RowAns × State :=
  match migOf s l with
  | none => ({ status := roSTAGEFULL }, fset s F.ROW_ERR_STAGE_FULL 0)
  | some m =>
    if logRoom s t ≤ m.log.length then ({ status := roSTAGEFULL }, fset (fset s F.ROW_ERR_STAGE_FULL 0) F.ROW_ERR_LOG_FULL 0)
    else ({ status := roOK }, fadd1 (migPut s l { m with log := m.log ++ [(k, bs)] }) F.ROW_MOVES_LOGGED 0 1)

/-- Entry rules of an update (R388, R389): the answer, or none while the row is INBOUND. -/
def serveUpd (s : State) (x : RowHdr) (bs : List Byte) : Option (RowAns × State) :=
  match rowAt s x.table x.row with
  | none => some ({ status := roMOVED }, s)
  | some a =>
    let s := entryCheck s x.table x.row a
    let v := rowEnt s a
    match elsewhere s x with
    | some r => some (r, s)
    | none =>
      if reKind v = 2 ∧ tAdd s x.table then some ({ status := roLOST }, s)
      else if reInbound v then none
      else if reOutbound v then some (logUpdate s x.table (reLog v) x.key bs)
      else match stage s x.table x.row x.key bs with
        | some s => some ({ status := roOK }, s)
        | none => some ({ status := roSTAGEFULL }, fset s F.ROW_ERR_STAGE_FULL 0)

/-- The destination of a lookup of this device cannot be written now (R255, R347). -/
def destWaits (s : State) (id : Nat) : Bool := match rowReq s id with
  | some q => !q.upd && inDev q.addr && writeWaits s (devAddr q.addr) (tSize s q.table)
  | none => false

/-- Request `k` of the row queue is checked and served; it stays in the queue while its row is INBOUND. -/
def rowServe (s : State) (k : Nat) (upd : Bool) : State :=
  match s.fab.rows[k]? with
  | none => s
  | some (peer, h, bs) =>
    let x := rowHdr (ofBytes (bs.take 64))
    if (x.op == 2) != upd || (peer == 65535 && destWaits s (reqFull s x.reqId)) then s
    else
      let s1 := { s with fab := { s.fab with rows := s.fab.rows.eraseIdx k } }
      let x := { x with resv := x.resv || (x.op != 1 && x.op != 2) || (bs.length - 64 != if upd then 2 ^ x.shift else 0) }
      let (s2, st, p) := homeCheck s1 x
      if st ≠ roOK then rowReply s2 peer x { status := st, peer := p }
      else match (if upd then serveUpd s2 x (bs.drop 64) else serveGet s2 x h) with
        | none => s
        | some (a, s3) => rowReply s3 peer x a

def execRowRequestGet (k : Nat) (s : State) : Host.Outcome State Fault Refusal := .next (rowServe s k false)
def execRowRequestUpd (k : Nat) (s : State) : Host.Outcome State Fault Refusal := .next (rowServe s k true)

/-- ROW_ANSWER: the answer to request `id`; a request whose message ended without being delivered is UNREACHABLE (R377). -/
def rowAnswer (s : State) (id : Nat) (x : RowAns) : State :=
  let failed := s.fab.ended.any (fun e => e.1 == 4 && e.2.1 == id)
  let s1 := { s with fab := { s.fab with ended := s.fab.ended.filter (fun e => !(e.1 == 4 && e.2.1 == id)) } }
  match rowReq s id with
  | none => s
  | some q => if q.waiting || destWaits s id then s else rowAnswered s1 id (if failed then { status := roUNREACH } else x)

def execRowAnswer (id : Nat) (a : RowAns) (s : State) : Host.Outcome State Fault Refusal := .next (rowAnswer s id a)

/-- ROW_RESEND: the update goes out again with the same key (R381). -/
def execRowResend (id : Nat) (s : State) : Host.Outcome State Fault Refusal :=
  .next (match rowReq s id with
    | some q => if q.waiting then rowSend s id { q with retries := q.retries + 1 } else s
    | none => s)

/-! ### The instructions (R376, R377) -/

/-- Number of the step that an update of a tiller's item carries (R381). -/
def keyStep (s : State) (t : Nat) : Nat := match (til s t).item with
  | some w => if w.step = 0 then lastStep s w.part else w.step
  | none => 0

/-- ROW.GET and ROW.UPD. -/
def rowIssue (s : State) (t op : Nat) (upd : Bool) (b : BitVec 54) : State :=
  let x := til s t
  let tb := (sreg x (fXRA b)).toNat
  let r := (sreg x (fXRB b)).toNat
  let a := (sreg x (fXRC b)).toNat
  let n := if tLive s tb then tSize s tb else 0
  issue s t op b false (zeros [fXPD b, fXIMM b])
    (freeS x [fXRD b, fXRA b, fXRB b, fXRC b] && movePipeFree x)
    (fun s =>
      let k := s.fresh + 1
      let go (s : State) : State := pushPend (bump s) t op b (.ask (fXRD b) k [(a, n, !upd)])
      if sramWait x.pend a n (!upd) then s
      else if !tLive s tb then askDone (go s) t k (w64 roNOTABLE)
      else if a % 64 ≠ 0 ∨ !inMap s a n ∨ farDev s t a ∨ (!upd ∧ a < imageEnd x) then raiseAt s t op b 2 (w64 a)
      else
        let i := x.pend.length
        let g := if upd then goodBytes s t a n else n
        if g < n then moveFails (go s) t i (a + g)
        else
          let q0 := nget (fun _ => 0) s.rows.seq tb
          let key : RowKey := if upd then { step := keyStep s t, rank := fget s F.ROW_CFG_RANK 0, seq := q0 } else {}
          let data := if upd then movRead s t a n else []
          let s := go s
          let s := if upd then { s with rows := { s.rows with seq := nput (fun _ => 0) s.rows.seq tb ((q0 + 1) % 2 ^ 32) } } else s
          rowSend s k { til := t, upd := upd, table := tb, row := r, addr := a, key := key, data := data, peer := firstPeer s tb r })

def execRowGet (t : Fin 512) (b : BitVec 54) (s : State) : Host.Outcome State Fault Refusal := .next (rowIssue s t 0x1E1 false b)
def execRowUpd (t : Fin 512) (b : BitVec 54) (s : State) : Host.Outcome State Fault Refusal := .next (rowIssue s t 0x1E2 true b)

end Sys2Proof.Machine
end

