-- ==== Sys2Proof/Machine/RowMove.lean ====
section
/-!
DEFINITION. Row tables: the apply point (R390-R392), the commands (R373, R374, R399), and migrations (R393-R397).
-/

namespace Sys2Proof.Machine

/-! ### The apply point (R390, R391) -/

/-- FP32 code of element `j` of a row of element format `elem`, exact (R391). -/
def rowElem (elem : Nat) (bs : List Byte) (j : Nat) : Nat :=
  if elem = 1 then ofBytes ((bs.drop (2 * j)).take 2) * 65536 else ofBytes ((bs.drop (4 * j)).take 4)

/-- The bytes of an FP32 sum in the element format (R92 for BF16). -/
def elemBytes (elem v : Nat) : List Byte :=
  if elem = 1 then toBytes 2 (cvtTo 1 false (fval fmtF32 v)).1 else toBytes 4 v

/-- The row that an ADD leaves: the home row and the updates added one after another, each sum rounded (R391). -/
def addRows (elem : Nat) (home : List Byte) (us : List (List Byte)) : List Byte :=
  (List.range (home.length / (if elem = 1 then 2 else 4))).flatMap (fun j =>
    elemBytes elem (us.foldl (fun acc u => (fadd fmtF32 acc (rowElem elem u j)).1) (rowElem elem home j)))

/-- Staged updates in ascending key order, those staged first first among equals. -/
def keySorted : List Staged → List Staged
  | [] => []
  | x :: l => ins x (keySorted l)
where
  ins (x : Staged) : List Staged → List Staged
    | [] => [x]
    | y :: l => if keyLt y.key x.key then y :: ins x l else x :: y :: l

/-- Slots returned. -/
def dropSlots (s : State) (t : Nat) (l : List Nat) : State := l.foldl (fun s a => dropSlot s t a) s

/-- The staged updates of a row leave the stage. -/
def unstage (s : State) (t r : Nat) : State :=
  { s with rows := { s.rows with staged := s.rows.staged.filter (fun e => !(e.table == t && e.row == r)) } }

/-- One write of an entry that makes `slot` the home: version + 1, the highest key, no shadows (R391). -/
def applied (s : State) (t r : Nat) (a : RowAt) (slot : Nat) (k : RowKey) (others : List Nat) : State :=
  let v := rowEnt s a
  let key := if keyLt (reKey v) k then k else reKey v
  let s := rowPut (noShadows s t r) a (mkRow 0 0 (reOutbound v) (reInbound v) (reDepoch v) slot (reVersion v + 1) key (reFreq v) (reLog v))
  fadd1 (dropSlots s t (reAddr v :: others)) F.ROW_UPDATES_APPLIED 0 1

/-- A row with staged updates at an apply point. -/
def applyRow (s : State) (t r : Nat) : State :=
  let u := keySorted (s.rows.staged.filter (fun e => e.table == t && e.row == r))
  match rowAt s t r, u.getLast? with
  | some a, some w =>
    let s := entryCheck s t r a
    let v := rowEnt s a
    let slots := u.map (·.slot)
    let n := tSize s t
    if !tAdd s t then
      if keyLt (reKey v) w.key then applied (unstage s t r) t r a w.slot w.key (slots.filter (· != w.slot))
      else fadd1 (dropSlots (unstage s t r) t slots) F.ROW_UPDATES_STALE 0 u.length
    else if reKind v = 2 then dropSlots (unstage s t r) t slots
    else match (reAddr v :: slots).findSome? (fun x => badLineIn s x n) with
      | some l => dropSlots (unstage (homeBad s t r a l) t r) t slots
      | none =>
        let sum := addRows (tElem s t) (memBytes s (reAddr v) n) (u.map (fun e => memBytes s e.slot n))
        applied (memWrite (unstage s t r) w.slot sum) t r a w.slot w.key (slots.filter (· != w.slot))
  | _, _ => s

/-- Place of a row in the order of an apply: local entries first, by index, then guest entries, by index. -/
def rowOrder (s : State) (t r : Nat) : Nat := match rowAt s t r with
  | some { guest := some g, .. } => 2 ^ 64 + g
  | _ => localIdx s t r

/-- Rows of a table with staged updates, in the order of R391. -/
def stagedRows (s : State) (t : Nat) : List Nat :=
  let l := (s.rows.staged.filter (fun e => e.table == t)).map (·.row)
  (l.foldl (fun (m : NMap Nat) r => nset m (rowOrder s t r) r) []).map (·.2)

/-- Tables that are LIVE and apply at a partition, in ascending order. -/
def applyTables (s : State) (p : Nat) : List Nat := (s.rows.tab.map (·.1)).filter (fun t => tLive s t && tApply s t == p)

/-! ### Migrations at the old home (R393, R394) -/

/-- A command ends: result, table, number, and the ROW completion interrupt. -/
def rowCmdEnd (s : State) (res t : Nat) : State :=
  let s := { s with rows := { s.rows with cmds := s.rows.cmds.drop 1, run := none } }
  irq (finc (fput (fput s F.ROW_CMD_STAT_RESULT 0 res) F.ROW_CMD_STAT_TABLE 0 t) F.ROW_CMD_STAT_SEQ 0) 0 9

/-- Commands with a reserved OP that reach the head of the queue end FORMAT (R399). -/
def rowReserved (s : State) : Nat → State
  | 0 => s
  | n + 1 =>
    if s.rows.run.isSome then s
    else match s.rows.cmds with
      | [] => s
      | c :: _ =>
        let op := bget c.cmd1 60 4
        if 1 ≤ op ∧ op ≤ 4 then s else rowReserved (rowCmdEnd s 3 (bget c.cmd1 0 10)) n

/-- A command ends, and the next one comes to the head of the queue. -/
def rowDone (s : State) (res t : Nat) : State := rowReserved (rowCmdEnd s res t) 16

/-- The log is freed and the command ends. -/
def migEnd (s : State) (l res t : Nat) : State :=
  let s := { s with rows := { s.rows with migs := nerase s.rows.migs l } }
  if s.rows.run = some l then rowDone s res t else s

/-- A migration message to another member. -/
def migSend (s : State) (peer : Nat) (m : MigMsg) : State :=
  { s with rows := { s.rows with sent := s.rows.sent ++ [(peer, m)] } }

/-- Steps 1 and 2 of R394: the entry becomes OUTBOUND, staged updates move into the log, and the row is sent; a row
that is LOST by then is no longer here (STATE). -/
def migStart (s : State) (l : Nat) (m : Mig) : State :=
  let t := m.table
  let r := m.row
  match rowAt s t r with
  | none => s
  | some a =>
    let s := entryCheck s t r a
    let s := match badLineIn s (reAddr (rowEnt s a)) (tSize s t) with
      | some x => if reKind (rowEnt s a) = 0 then homeBad s t r a x else s
      | none => s
    if reKind (rowEnt s a) ≠ 0 then migEnd s l 2 t
    else
    let u := keySorted (s.rows.staged.filter (fun e => e.table == t && e.row == r))
    let log := u.map (fun e => (e.key, memBytes s e.slot (tSize s t)))
    let s := dropShadows s t r a
    let s := rowPut s a (setBits (setBits (rowEnt s a) 58 1 1) 224 8 l)
    let s := fadd1 (dropSlots (unstage s t r) t (u.map (·.slot))) F.ROW_MOVES_LOGGED 0 u.length
    let v := rowEnt s a
    let k := reKey v
    let s := migPut s l { m with phase := 1, log := log }
    migSend s m.peer { peer := m.peer, table := t, row := r, kind := 2, version := reVersion v, step := k.step, rank := k.rank, seq := k.seq,
                       data := memBytes s (reAddr v) (tSize s t) }

/-- The apply point of a partition: every row with staged updates, then the migrations that waited for it. The duration is
the device's own. -/
def applyPoint (s : State) (p : Nat) : State :=
  let ts := applyTables s p
  let some' := ts.any (fun t => s.rows.staged.any (fun e => e.table == t))
  let s := { s with rows := { s.rows with applied := nput (fun _ => 0) s.rows.applied p s.now } }
  let s := ts.foldl (fun s t => (stagedRows s t).foldl (fun s r => applyRow s t r) s) s
  let d := choiceOf s 23 % 2 ^ 32
  let s := if some' then fmaxTo (fput (bump s) F.ROW_APPLY_LAST 0 d) F.ROW_APPLY_MAX 0 d else s
  s.rows.migs.foldl (fun s e => if e.2.phase = 0 ∧ ts.contains e.2.table then migStart s e.1 e.2 else s) s

/-- APPLY_TIMER: an apply point of a partition that has no step in progress and has had none for 1 ms (R390). -/
def execApplyTimer (p : Fin 8) (s : State) : Host.Outcome State Fault Refusal :=
  .next (
    let x := nget (fun _ => ({} : Part)) s.sch.part p
    if x.step.isNone ∧ nget (fun _ => 0) s.rows.applied p + 1000000 ≤ s.now then applyPoint s p else s)

/-! ### The command queue (R399) -/

/-- The first queued command when its OP is `op` and no MIGRATE runs. -/
def rowHead (s : State) (op : Nat) : Option RowCmd :=
  if s.rows.run.isSome then none else s.rows.cmds.head?.filter (fun c => bget c.cmd1 60 4 == op)

/-- Local rows of this device under a descriptor (R371): the rows of the shards of its index. -/
def localRows (s : State) (d : Nat) : Nat :=
  let rows := bits d 64 64
  let sh := max (bits d 128 32) 1
  let m := bits d 160 16
  let me := if m = 1 then some 0 else (ownSlots s (bits d 176 16) 0).head?.filter (fun i => decide (i < m))
  match me with
  | none => 0
  | some i =>
    let n := cdiv rows sh
    let mine := (n + m - 1 - i) / m
    if mine = 0 then 0
    else
      let lastK := (mine - 1) * m + i
      (mine - 1) * sh + min sh (rows - lastK * sh)

/-- The fields of a descriptor lie in their ranges (R370, R373). -/
def descFits (d : Nat) : Bool :=
  let pow2 (x : Nat) : Bool := x != 0 && 2 ^ Nat.log2 x == x
  bits d 0 8 == 0 && decide (bits d 8 8 ≤ 1) && (bits d 16 8 == 0 || bits d 16 8 == 1 || bits d 16 8 == 15) && decide (bits d 24 8 ≤ 7) &&
  decide (6 ≤ bits d 32 8) && decide (bits d 32 8 ≤ 16) && decide (bits d 40 8 ≤ 7) && bits d 48 8 != 0 && bits d 56 8 == 0 &&
  decide (1 ≤ bits d 64 64) && decide (bits d 64 64 ≤ 2 ^ 40) && pow2 (bits d 128 32) && decide (bits d 128 32 ≤ 2 ^ 30) &&
  decide (1 ≤ bits d 160 16) && decide (bits d 160 16 ≤ 1024) && (bits d 160 16 == 1 || decide (bits d 176 16 ≤ 1023)) &&
  (bits d 256 32 == 0 || (pow2 (bits d 256 32) && decide (8 ≤ bits d 256 32) && decide (bits d 256 32 ≤ 2 ^ 20))) &&
  (bits d 288 32 == 0 || pow2 (bits d 288 32)) && decide (65536 ≤ bits d 320 32) && bits d 352 32 == 0 && bits d 384 64 == 0 &&
  bits d 448 64 == 0

/-- An object is LIVE and PINNED, large enough, and in the stack tier where that is asked. -/
def objFits (s : State) (o need : Nat) (stack : Bool) : Bool :=
  let v := obj s o
  decide (o < fget s F.TIE_OBJ_BASE_COUNT 0) && oState v == 1 && oPinned v && decide (need ≤ 65536 * oFrames v) &&
    (!stack || (objFrames s o).all (fun k => k / 2 ^ 32 == 0))

/-- Objects named by a descriptor (R373). -/
def objsFit (s : State) (d : Nat) : Bool :=
  let n := localRows s d
  let sz := 2 ^ bits d 32 8
  let sets := bits d 288 32
  objFits s (bits d 192 16) (32 * n + 64 * bits d 256 32) true && objFits s (bits d 208 16) (n * sz) false &&
    objFits s (bits d 224 16) 0 true && (sets == 0 || objFits s (bits d 240 16) (roundUp (256 * sets) sz + 8 * sets * sz) true)

/-- Zero bytes at byte `x` of an object, `n` of them within one frame. -/
def objZero (s : State) (o x n : Nat) : State := memWrite s (objAt s o x) ((List.range n).map (fun _ => 0))

/-- CREATE (R373, R374). -/
def rowCreate (s : State) (c : RowCmd) : State :=
  let t := bget c.cmd1 0 10
  let d := packWords c.stage
  if tState s t ≠ 0 then rowDone s 2 t
  else if !descFits d then rowDone s 7 t
  else if bits d 8 8 = 1 ∧ bits d 16 8 = 15 then rowDone s 3 t
  else if !objsFit s d then rowDone s 4 t
  else
    let n := localRows s d
    let s := tabPut (memPut s (tblAddr s t) 64 d) t { local' := n }
    let s := (List.range n).foldl (fun s i =>
      memPut s (objAt s (tMapObj s t) (32 * i)) 32 (mkRow 0 0 false false 0 (objAt s (tInitObj s t) (i * tSize s t)) 0 {} 0 0)) s
    let s := (List.range (tGuests s t)).foldl (fun s g => memPut s (guestAddr s t g 32) 8 0) s
    let s := (List.range (tSets s t)).foldl (fun s k => objZero s (tCacheObj s t) (256 * k) 256) s
    rowDone (tfPut s t 0 1 1) 0 t

def execRowCreate (s : State) : Host.Outcome State Fault Refusal :=
  .next (match rowHead s 1 with
    | some c => rowCreate s c
    | none => s)

/-- DESTROY closes the table, discards its staged updates, and frees it once no request of this device and no migration here
names it (R399). -/
def rowDestroy (s : State) (c : RowCmd) : State :=
  let t := bget c.cmd1 0 10
  let st := tState s t
  if st ≠ 1 ∧ st ≠ 2 then rowDone s 1 t
  else
    let s := if st = 1 then tfPut s t 0 1 2 else s
    let s := { s with rows := { s.rows with staged := s.rows.staged.filter (fun e => e.table != t) } }
    if s.rows.reqs.any (fun e => e.2.table == t) || s.rows.inbound.any (fun e => e.1 == t) ||
        s.fab.rows.any (fun e => (rowHdr (ofBytes (e.2.2.take 64))).table == t) then s
    else
      let s := shadowsKeep s (fun x => x.table != t)
      let s := { s with rows := { s.rows with hints := s.rows.hints.filter (fun h => h.1 != t) } }
      rowDone (tfPut (tabPut s t {}) t 0 1 0) 0 t

def execRowDestroy (s : State) : Host.Outcome State Fault Refusal :=
  .next (match rowHead s 2 with
    | some c => rowDestroy s c
    | none => s)

/-- Addresses of memory in use that hold the FREQ byte of a map entry of a table. -/
def freqBytes (s : State) (t : Nat) : List Nat :=
  let n := (tabOf s t).local'
  let o := tMapObj s t
  (List.range (oFrames (obj s o))).flatMap (fun i =>
    let k := pKey (objEnt s o i)
    ((s.mem.filter (fun e => e.1 / 65536 == k)).map (·.1)).filter (fun a =>
      let x := 65536 * i + a % 65536
      if x < 32 * n then x % 32 == 29 else decide (x < 32 * n + 64 * tGuests s t) && (x - 32 * n) % 64 == 29))

/-- RESET_HISTORY: OBS and every FREQ become 0 (R399). -/
def rowReset (s : State) (c : RowCmd) : State :=
  let t := bget c.cmd1 0 10
  if !tLive s t then rowDone s 1 t
  else rowDone ((freqBytes s t).foldl (fun s a => memPut s a 1 0) (tfPut s t 48 8 0)) 0 t

def execRowResetHistory (s : State) : Host.Outcome State Fault Refusal :=
  .next (match rowHead s 4 with
    | some c => rowReset s c
    | none => s)

/-! ### MIGRATE (R393, R396) -/

/-- A free slot at the destination within the device: in the stacks, or a slot of INIT_OBJ that a row has left. Which one is the
device's own choice (log entry 7). -/
def destSlot (s : State) (t tier : Nat) : Option Nat :=
  if tier = 0 then pickSlot s t
  else
    let l := (tabOf s t).free.filter (fun a => addrTier a == tier)
    l[choiceOf s 35 % max l.length 1]?

/-- A migration within the device: the row is copied, and one write switches to it (R396). -/
def migLocal (s : State) (t r tier : Nat) (a : RowAt) : State :=
  let v := rowEnt s a
  let n := tSize s t
  match destSlot s t tier with
  | none => rowDone s 6 t
  | some x =>
    match badLineIn s (reAddr v) n with
    | some l => rowDone (homeBad s t r a l) 2 t
    | none =>
      let s := dropShadows s t r a
      let y := tabOf s t
      let s := if tier = 0 then takeSlot s t x else bump (tabPut s t { y with free := y.free.filter (· != x) })
      let s := memWrite s x (memBytes s (reAddr v) n)
      let v := rowEnt s a
      let s := rowPut s a (setBits (setBits v 0 50 x) 64 64 (reVersion v + 1))
      rowDone (fadd1 (dropSlot s t (reAddr v)) F.ROW_MOVES_MIGRATED 0 1) 0 t

/-- MIGRATE starts: refused in the order of R393, or done within the device, or waiting for the next apply point. -/
def rowMigrate (s : State) (c : RowCmd) : State :=
  let t := bget c.cmd1 0 10
  let r := bget c.cmd0 0 40
  let tier := bget c.cmd0 46 2
  let peer := bget c.cmd0 48 16
  let remote := bbit c.cmd0 45
  if !tLive s t then rowDone s 1 t
  else if tRows s t ≤ r then rowDone s 7 t
  else match rowAt s t r with
    | none => rowDone s 2 t
    | some a =>
      let s := entryCheck s t r a
      let v := rowEnt s a
      let dests := 0 :: (List.range (oFrames (obj s (tInitObj s t)))).map (fun i => pKey (objEnt s (tInitObj s t) i) / 2 ^ 32)
      let member' := tMembers s t != 1 && (mapSlots s (tComp s t) 0).any (fun i =>
        let m := member s (tComp s t) 0 i
        mPeer m == peer && mNode m != fget s F.FAB_NODE_NODE 0)
      let free := lowestOut (s.rows.migs.map (·.1)) s.rows.migs.length 0
      if reKind v ≠ 0 then rowDone s 2 t
      else if (if remote then !member' else !dests.contains tier || addrTier (reAddr v) == tier) then rowDone s 3 t
      else if reOutbound v ∨ reInbound v then rowDone s 5 t
      else if 256 ≤ free then rowDone s 6 t
      else if !remote then migLocal s t r tier a
      else
        let s := { s with rows := { s.rows with run := some free } }
        migPut s free { table := t, row := r, peer := peer }

def execRowMigrate (s : State) : Host.Outcome State Fault Refusal :=
  .next (match rowHead s 3 with
    | some c => rowMigrate s c
    | none => s)

/-- Step 6 at the old home: the activation goes out, and the migration is complete. -/
def migActivate (s : State) (l : Nat) (m : Mig) : State :=
  let s := migSend s m.peer { peer := m.peer, table := m.table, row := m.row, kind := 6, version := m.version }
  migEnd (fadd1 s F.ROW_MOVES_MIGRATED 0 1) l 0 m.table

/-- MIGRATION_SWITCH: the destination has acknowledged what was sent. A log that is not empty is replayed (step 3); an empty
one lets the old home switch (step 4) and tell the shard home when that is a third member (step 5). -/
def migSwitch (s : State) (l : Nat) : State :=
  match migOf s l with
  | none => s
  | some m =>
    if m.phase ≠ 1 then s
    else if !m.log.isEmpty then
      let s := m.log.foldl (fun s e =>
        migSend s m.peer { peer := m.peer, table := m.table, row := m.row, kind := 3, step := e.1.step, rank := e.1.rank, seq := e.1.seq, data := e.2 }) s
      migPut s l { m with log := [], done := m.done ++ m.log }
    else match rowAt s m.table m.row with
      | none => s
      | some a =>
        let v := rowEnt s a
        let k := reKey v
        let s := rowPut s a (mkRow 1 0 false false (reDepoch v) m.peer (reVersion v + 1) k (reFreq v) 0)
        let s := dropSlot s m.table (reAddr v)
        let m := { m with phase := 2, version := reVersion v + 1 }
        let sh := shardPeer s m.table m.row
        if sh = 65535 ∨ sh = m.peer then migActivate s l m
        else migSend (migPut s l m) sh { peer := sh, table := m.table, row := m.row, kind := 5, version := m.version, home := m.peer }

def execMigrationSwitch (log : Fin 256) (s : State) : Host.Outcome State Fault Refusal := .next (migSwitch s log)

/-- Logged updates are staged locally; none when there is no room for them all. -/
def stageAll (s : State) (t r : Nat) : List (RowKey × List Byte) → Option State
  | [] => some s
  | (k, bs) :: l => (stage s t r k bs).bind (fun s => stageAll s t r l)

/-- MIGRATION_ABORT: before the switch the old home stays the home (R395). -/
def migAbort (s : State) (l : Nat) (refused : Bool) : State :=
  match migOf s l with
  | none => s
  | some m =>
    if m.phase ≠ 1 then s
    else match rowAt s m.table m.row with
      | none => s
      | some a =>
        let s1 := rowPut s a (setBits (setBits (rowEnt s a) 58 1 0) 224 8 0)
        match stageAll s1 m.table m.row (m.done ++ m.log) with
        | none => s
        | some s2 => migEnd s2 l (if refused then 6 else 8) m.table

def execMigrationAbort (log : Fin 256) (refused : Bool) (s : State) : Host.Outcome State Fault Refusal := .next (migAbort s log refused)

/-! ### Migrations at the destination and at the shard home (R394) -/

/-- Answer to a migration message. -/
def migReply (s : State) (m : MigMsg) (ok : Bool) : State := migSend s m.peer { m with data := [], ack := ok, refused := !ok }

/-- A guest entry for a row: a free one of its probe window, else one that is REMOTE (R397). -/
def guestFree (s : State) (t r : Nat) : Option Nat :=
  let l := guestProbe s t r
  match l.find? (fun g => bits (guestTag s t g) 63 1 == 0) with
  | some g => some g
  | none => l.find? (fun g => reKind (memNat s (guestAddr s t g 0) 32) == 1)

/-- MIGRATION_ROW_RECEIVE at the destination: a slot, and the local entry or a guest entry, INBOUND (step 2). -/
def migReceive (s : State) (m : MigMsg) : State :=
  let t := m.table
  if m.ack ∨ m.refused then s
  else if !fbit s F.ROW_CTL_SERVE_EN 0 || !tLive s t || decide (tRows s t ≤ m.row) || m.data.length != tSize s t then migReply s m false
  else
    let place : Option (RowAt × Option Nat) := match rowAt s t m.row with
      | some a => if reKind (rowEnt s a) = 0 then none else some (a, none)
      | none => (guestFree s t m.row).map (fun g => ({ addr := guestAddr s t g 0, guest := some g }, some g))
    match place, pickSlot s t with
    | some (a, g), some x =>
      let k : RowKey := { step := m.step, rank := m.rank, seq := m.seq }
      let lost := reKind (rowEnt s a) == 2
      let old := reAddr (rowEnt s a)
      let s := memWrite (takeSlot s t x) x m.data
      let s := if lost && g.isNone then dropSlot s t old else s
      let s := rowPut s a (mkRow 0 0 false true (tf s t 7 1) x m.version k 0 0)
      let s := match g with
        | some g => memPut s (guestAddr s t g 32) 8 (2 ^ 63 + m.row)
        | none => s
      migReply { s with rows := { s.rows with inbound := s.rows.inbound ++ [(t, m.row)] } } m true
    | _, _ => migReply s m false

def execMigrationRowReceive (m : MigMsg) (s : State) : Host.Outcome State Fault Refusal := .next (migReceive s m)

/-- MIGRATION_REPLAY at the destination: the update is staged under its original key (step 3). -/
def migReplay (s : State) (m : MigMsg) : State :=
  if m.ack ∨ m.refused then s
  else if !s.rows.inbound.contains (m.table, m.row) then migReply s m false
  else match stage s m.table m.row { step := m.step, rank := m.rank, seq := m.seq } m.data with
    | some s => migReply s m true
    | none => migReply (fset s F.ROW_ERR_STAGE_FULL 0) m false

def execMigrationReplay (m : MigMsg) (s : State) : Host.Outcome State Fault Refusal := .next (migReplay s m)

/-- MIGRATION_HOME_UPDATE: the shard home writes REMOTE in one write and acknowledges (step 5); at the old home the
acknowledgement lets it send the activation (step 6). -/
def migHome (s : State) (m : MigMsg) : State :=
  if m.ack then
    match s.rows.migs.find? (fun e => e.2.table == m.table && e.2.row == m.row && e.2.phase == 2) with
    | some (l, g) => migActivate s l g
    | none => s
  else match rowAt s m.table m.row with
    | some a =>
      let v := rowEnt s a
      migReply (rowPut s a (mkRow 1 0 false false (reDepoch v) m.home m.version (reKey v) (reFreq v) 0)) m true
    | none => s

def execMigrationHomeUpdate (m : MigMsg) (s : State) : Host.Outcome State Fault Refusal := .next (migHome s m)

/-- MIGRATION_ACTIVATION at the destination: LOCAL with the new version, no longer INBOUND (step 6); a row that is LOST by then stays
so (R383). -/
def migActive (s : State) (m : MigMsg) : State :=
  if !s.rows.inbound.contains (m.table, m.row) then s
  else match rowAt s m.table m.row with
    | none => s
    | some a =>
      let kind := if reKind (rowEnt s a) = 2 then 2 else 0
      let s := rowPut s a (setBits (setBits (setBits (rowEnt s a) 62 2 kind) 57 1 0) 64 64 m.version)
      { s with rows := { s.rows with inbound := s.rows.inbound.filter (fun e => e != (m.table, m.row)) } }

def execMigrationActivation (m : MigMsg) (s : State) : Host.Outcome State Fault Refusal := .next (migActive s m)

end Sys2Proof.Machine
end

