-- ==== Sys2Proof/Machine/Sched.lean ====
section
/-!
DEFINITION. Step formation (R278-R306, R321-R326): queued changes, deadline tests, preemption and swaps, admission, the
batch record and start items; context commands; partitions' control registers.
-/

namespace Sys2Proof.Machine

/-! ### Orders -/

/-- An element put before the first one it does not come after. -/
def insertBy {α : Type} (lt : α → α → Bool) (a : α) : List α → List α
  | [] => [a]
  | b :: r => if lt a b then a :: b :: r else b :: insertBy lt a r

/-- A list in an order, elements of equal rank in their first order. -/
def sortBy {α : Type} (lt : α → α → Bool) : List α → List α
  | [] => []
  | a :: r => insertBy (fun x y => !lt y x) a (sortBy lt r)

/-- Keys compared lexicographically. -/
def lexLt : List Int → List Int → Bool
  | [], _ => false
  | _ :: _, [] => false
  | a :: r, b :: q => decide (a < b) || (decide (a = b) && lexLt r q)

/-- Contexts in ascending order of a key. -/
def byKey (key : Nat → List Int) (l : List Nat) : List Nat := sortBy (fun a b => lexLt (key a) (key b)) l

/-- DEADLINE for an order, NONE last. -/
def dlKey (d : Desc) : Int := if dg d D.DL_MODE = 0 then 2 ^ 64 else dg d D.DEADLINE

/-- The order of R299. -/
def decodeKey (s : State) (c : Nat) : List Int :=
  let x := cx s c
  [-(dg x.d D.PRIORITY : Int), dlKey x.d, ((x.admitted.getD x.entered : Nat) : Int), (c : Int)]

/-- The order of R301 within a kind. -/
def chunkKey (s : State) (c : Nat) : List Int :=
  let x := cx s c
  [-(dg x.d D.PRIORITY : Int), dlKey x.d, (x.entered : Int), (c : Int)]

/-- The preemption order (R321). -/
def preemptKey (s : State) (c : Nat) : List Int :=
  let x := cx s c
  [(dg x.d D.PRIORITY : Int), (dg x.d D.DL_MODE : Int), -(dlKey x.d), -((ownFrames s c : Nat) : Int), -(c : Int)]

/-! ### Context commands (R326) -/

/-- Transition 11: the context is PREEMPTED, RESUME its previous state. -/
def preemptNow (s : State) (c : Nat) : State :=
  let x := cx s c
  cxChange s c { x with preempt := false, d := ds (ds x.d D.RESUME (dg x.d D.STATE)) D.STATE stPREEMPTED } []

/-- Transition 12: the context is in its RESUME state; a swap in flight ends (log entry 15). -/
def resumeNow (s : State) (c : Nat) : State :=
  let x := cx s c
  cxChange s c { x with swap := 0, swapAsk := false, d := ds (ds x.d D.SWAP_BUSY 0) D.STATE (dg x.d D.RESUME) } []

/-- The result of a context command is shown (SCH_CMD_STAT). -/
def cmdResult (s : State) (c res : Nat) : State := fput (fput s F.SCH_CMD_STAT_RESULT 0 res) F.SCH_CMD_STAT_CTX 0 c

/-- One context command is applied (R326): OP, context, incarnation. -/
def applyCmd (s : State) (w : Word) : State :=
  let op := bget w 60 4
  let c := bget w 0 18
  let inc := bget w 44 16
  let st := cstate s c
  let ended := st == stDRAINING || st == stCLOSED
  if op = 0 ∨ 6 ≤ op then cmdResult s c 4
  else if !named s c inc then cmdResult s c 1
  else
    let s := descRead s c
    let st := cstate s c
    let ended := ended || st == stDRAINING
    match op with
    | 1 =>
      if ended ∨ st = stOPEN then cmdResult s c 2
      else
        let s := dmod s c (fun d => ds (ds d D.HELD 1) D.HOLD_REASON 0x04)
        let s := if st = stREADY ∨ st = stPREFILL ∨ st = stREBUILD then preemptNow s c
          else if st = stDECODE then cxUpd s c (fun x => { x with preempt := true }) else s
        cmdResult s c 0
    | 2 =>
      if ended then cmdResult s c 2
      else
        let s := dmod s c (fun d => ds d D.HELD 0)
        cmdResult (if st = stPREEMPTED then resumeNow s c else s) c 0
    | 3 =>
      if st ≠ stPREEMPTED then cmdResult s c 2
      else if (cx s c).swap ≠ 0 then cmdResult s c 0
      else if mayOut s c then cmdResult (swapOutStart s c) c 0
      else cmdResult (cxUpd s c (fun x => { x with swapAsk := true })) c 0
    | 4 =>
      if st ≠ stSWAPPED then cmdResult s c 2
      else if (cx s c).swap ≠ 0 then cmdResult s c 0
      else if halfFree s (ctxHalf c) < swapInNeeds s c then cmdResult s c 3
      else if swapRoom s (ctxHalf c) then cmdResult (swapInStart s c) c 0
      else cmdResult (cxUpd s c (fun x => { x with swapAsk := true })) c 0
    | _ => if ended then cmdResult s c 2 else cmdResult (dmod s c (fun d => ds d D.HELD 0)) c 0

/-- A modify request is applied and answered (R174, R642): entry bytes as laid out for MODIFY. -/
def applyModify (s : State) (cring : Nat) (e : List Byte) : State :=
  let b := ofBytes e
  let c := bits b 64 18
  let inc := bits b 96 16
  let mask := bits b 128 8
  let ans (s : State) (r : Nat) := answer s cring (bits b 32 32) 4 r c inc 0
  if !named s c inc then ans s 1
  else
    let st := cstate s c
    if st = stDRAINING ∨ st = stCLOSED then ans s 2
    else
      let f (d : Desc) : Desc :=
        let d := if bits mask 0 1 = 1 then ds d D.DEADLINE (bits b 192 64) else d
        let d := if bits mask 1 1 = 1 then ds d D.DL_MODE (bits b 136 2) else d
        let d := if bits mask 2 1 = 1 then ds d D.PRIORITY (bits b 138 3) else d
        let d := if bits mask 3 1 = 1 then ds d D.PARTITION (bits b 141 3) else d
        let d := if dg d D.DL_MODE = 0 then ds d D.DEADLINE 0 else d
        if bits mask 4 1 = 1 then ds d D.HELD 0 else d
      ans (dmod s c f) 0

def schQueue (s : State) (h : Nat) : List StepReq := nget (fun _ => []) s.sch.queue h

def setQueue (s : State) (h : Nat) (l : List StepReq) : State :=
  { s with sch := { s.sch with queue := nput (fun _ => []) s.sch.queue h l } }

def applyReq (s : State) : StepReq → State
  | .modify _ r e => applyModify s r e
  | .cmd w => applyCmd s w

/-- Everything queued for a half is applied, oldest first (R296 step 1). -/
def applyQueue (s : State) (h : Nat) : State := (schQueue s h).foldl applyReq (setQueue s h [])

/-- A context command is queued; a full queue of 64 discards it (R326). -/
def queueCtxCmd (s : State) (w : Word) : State :=
  let n := ((schQueue s 0 ++ schQueue s 1).filter (fun r => match r with | .cmd _ => true | _ => false)).length
  if 64 ≤ n then fset s F.SCH_ERR_CMD_FULL 0
  else
    let h := ctxHalf (bget w 0 18)
    setQueue s h (schQueue s h ++ [.cmd w])

/-! ### Deadlines (R297, R298) -/

/-- STEP of a record that a formation of partition `p` writes, which forms step `step` or none, 0 (R328). -/
def endStep (s : State) (p step c : Nat) : Nat := if dg (cx s c).d D.PARTITION = p then step else 0

/-- The deadline test of one context at a formation; `p` and `step` name the step that this formation forms (R328). -/
def deadlineTest (s : State) (p step c : Nat) : State :=
  let x := cx s c
  let d := x.d
  let st := dg d D.STATE
  let tested := st == stPREFILL || st == stREADY || st == stPREEMPTED || st == stSWAPPED || st == stREBUILD
  if !tested ∨ dg d D.DL_MODE = 0 ∨ dg d D.DL_MODE = 3 ∨ timeNs s < dg d D.DEADLINE then s
  else
    let x := { x with d := ds d D.DL_PASSED 1 }
    if dg d D.DL_MODE = 2 ∨ st ≠ stREADY then
      drain s c x { status := endDEADLINE, step := endStep s p step c } []
    else cxChange s c x []

/-! ### REBUILD with no hole; preemption, resumption, swaps (R287, R321-R324) -/

/-- A context of KIND 2 whose hole has no log word left to rebuild from (R590). -/
def noLog (d : Desc) : Bool :=
  dg d D.STATE == stREBUILD && dg d D.KIND == 2 && dHole d && decide (dg d D.LENGTH ≤ dg d D.HOLE_START)

/-- Transition 16: REBUILD ends when the hole is closed. A hole that cannot be closed sets NO_LOG (R590). -/
def leaveRebuild (s : State) (c : Nat) : State :=
  let x := cx s c
  if dg x.d D.STATE = stREBUILD ∧ !dHole x.d ∧ x.chunk.isNone then
    cxChange s c { x with d := ds x.d D.STATE (dg x.d D.RESUME) } []
  else fsetIf s (noLog x.d) F.INT_ERR_NO_LOG 0

/-- A preemption candidate (R321). -/
def candidate (s : State) (c : Nat) : Bool :=
  let st := cstate s c
  (st == stREADY || st == stPREFILL || st == stREBUILD) && (cx s c).chunk.isNone

/-- Preemption in preemption order: until the shortfall or PREEMPT_MAX is reached (R322). -/
def preemptUntil (s : State) (short : Nat) : Nat → List Nat → State
  | 0, _ => s
  | _, [] => s
  | n + 1, c :: r =>
    if short = 0 then s
    else preemptUntil (preemptNow s c) (short - ownFrames s c) n r

/-- Swap-ins of SWAPPED contexts in reverse preemption order, while the half's frames last (R324). -/
def startSwapIns (s : State) (h low : Nat) : State :=
  let swp := (ctxsOf s h).filter (fun c => cstate s c == stSWAPPED && !db (cx s c).d D.HELD && (cx s c).swap == 0)
  ((byKey (preemptKey s) swp).reverse.foldl (fun (q : Nat × State) c =>
    let need := swapInNeeds q.2 c
    if fbit q.2 F.SCH_CTL_SWAP_EN 0 && decide (low + need ≤ q.1) && swapRoom q.2 h then (q.1 - need, swapInStart q.2 c) else q)
    (halfFree s h, s)).2

/-- Step 3 of R296: preemption and its swap-outs (R322); with frames enough, resumptions and swap-ins before any other swap-out
(R323, R324). -/
def preemption (s : State) (h : Nat) : State :=
  let s := (ctxsOf s h).foldl (fun s c => if (cx s c).preempt && candidate s c then preemptNow s c else s) s
  let low := fget s F.SCH_PREEMPT_FRAME_LOW 0
  let s := if fbit s F.SCH_CTL_PREEMPT_EN 0 && decide (halfFree s h < low) then
      preemptUntil s (low - halfFree s h) (fget s F.SCH_PREEMPT_PREEMPT_MAX 0) (byKey (preemptKey s) ((ctxsOf s h).filter (candidate s)))
    else s
  let s := (ctxsOf s h).foldl (fun s c => if (cx s c).swapFailed then cxUpd s c (fun x => { x with swapFailed := false }) else s) s
  if halfFree s h < fget s F.SCH_PREEMPT_FRAME_HIGH 0 then startSwaps s h
  else
    let pre := (ctxsOf s h).filter (fun c => cstate s c == stPREEMPTED && !db (cx s c).d D.HELD)
    let s := (byKey (preemptKey s) pre).reverse.foldl resumeNow s
    startSwaps (startSwapIns s h low) h

/-! ### Admission (R286, R299-R302) -/

def allowsDecode (s : State) : Bool := standalone s || role s == 1
def allowsPrefill (s : State) : Bool := standalone s || role s == 0
def allowsRebuild (s : State) : Bool := standalone s || role s == 0 || role s == 2

/-- Eligible for the decode batch (R299). -/
def decodeEligible (s : State) (p c : Nat) : Bool :=
  let d := (cx s c).d
  allowsDecode s && dg d D.STATE == stREADY && dg d D.KIND == 0 && !db d D.HELD && dg d D.PARTITION == p

/-- End of the positions a rebuild chunk may cover (R590). -/
def holeLimit (d : Desc) : Nat := if dg d D.KIND = 2 then min (dg d D.HOLE_END) (dg d D.LENGTH) else dg d D.HOLE_END

/-- Eligible for a rebuild chunk (R301). -/
def rebuildEligible (s : State) (p c : Nat) : Bool :=
  let x := cx s c
  allowsRebuild s && dg x.d D.STATE == stREBUILD && !db x.d D.HELD && dg x.d D.PARTITION == p && x.chunk.isNone && x.attach == 0 &&
    decide (dg x.d D.HOLE_START < holeLimit x.d)

/-- Eligible for a prefill chunk (R184, R301). -/
def prefillEligible (s : State) (p c : Nat) : Bool :=
  let x := cx s c
  allowsPrefill s && dg x.d D.STATE == stPREFILL && !db x.d D.HELD && dg x.d D.PARTITION == p && x.chunk.isNone && x.attach == 0 &&
    db x.d D.IMPORT_DONE && decide (dg x.d D.KV_VALID < dg x.d D.PROMPT_LEN)

/-- Sheaf count, and P_MAX, P_MIN, P_INIT clamped (R334). -/
def ratioN (s : State) (p : Nat) : Nat := (partSheaves s p).length
def pMax (s : State) (p : Nat) : Nat := min (fget s F.SCH_RATIO_P_MAX p) (ratioN s p)
def pMin (s : State) (p : Nat) : Nat := min (fget s F.SCH_RATIO_P_MIN p) (pMax s p)
def pInit (s : State) (p : Nat) : Nat := max (pMin s p) (min (fget s F.SCH_RATIO_P_INIT p) (pMax s p))

/-- The sheaves of a partition in a half that do a kind of work (R695): 1 prompt, 2 generation. -/
def startSet (s : State) (p h kind n : Nat) : List Nat :=
  ((partSheaves s p).filter (fun v => v / 16 == h)).filter (fun v =>
    !standalone s || ((promptSheaves s p n).contains v == (kind == 1)))

/-- A field of a register's word. -/
def ctlField (w : Word) (f : Fld) : Nat := bget w f.lo f.w

/-- Chunks admitted in order: context, start, length, rebuild (R302). -/
def takeChunks (s : State) (ctl : Word) (p : Nat) (rebuild : Bool) : List Nat → Nat → List (Nat × Nat × Nat × Bool) × Nat
  | [], t => ([], t)
  | c :: r, t =>
    let d := (cx s c).d
    let rest := if rebuild then holeLimit d - dg d D.HOLE_START else dg d D.PROMPT_LEN - dg d D.KV_VALID
    let start := if rebuild then dg d D.HOLE_START else dg d D.KV_VALID
    let len := min (min (ctlField ctl F.SCH_STEP_CTL_CHUNK_MAX) rest) t
    if len ≠ 0 ∧ min (ctlField ctl F.SCH_STEP_CTL_CHUNK_MIN) rest ≤ len then
      let q := takeChunks s ctl p rebuild r (t - len)
      ((c, start, len, rebuild) :: q.1, q.2)
    else takeChunks s ctl p rebuild r t

/-- What step admission works with: SCH_STEP_CTL and the prompt sheaves, those of the step in progress or of the next one
(R306, R307, R332). -/
def stepCtl (s : State) (p : Nat) : Word := match (part s p).step with
  | some k => k.ctl
  | none => rword s .SCH_STEP_CTL p

def stepP (s : State) (p : Nat) : Nat := match (part s p).step with
  | some k => k.p
  | none =>
    if standalone s then (if (part s p).restart || fget s F.SCH_STEP_NUM_STEP p == 0 then pInit s p else (part s p).pNext)
    else if role s = 1 then 0 else ratioN s p

/-- The decode batch and the chunks that a half admits to the partition's step (R299-R302). -/
def admits (s : State) (p h : Nat) : List Nat × List (Nat × Nat × Nat × Bool) :=
  let w := stepCtl s p
  let n := stepP s p
  let tmax := if (startSet s p h 1 n).isEmpty then 0 else ctlField w F.SCH_STEP_CTL_TOKEN_MAX
  let q := takeChunks s w p true (byKey (chunkKey s) ((ctxsOf s h).filter (rebuildEligible s p))) tmax
  let q2 := takeChunks s w p false (byKey (chunkKey s) ((ctxsOf s h).filter (prefillEligible s p))) q.2
  (if (startSet s p h 2 n).isEmpty then []
   else (byKey (decodeKey s) ((ctxsOf s h).filter (decodeEligible s p))).take (ctlField w F.SCH_STEP_CTL_BATCH_MAX),
   q.1 ++ q2.1)

/-- A partition has admissible work in a half (R280). -/
def hasWork (s : State) (p h : Nat) : Bool :=
  let a := admits s p h
  !a.1.isEmpty || !a.2.isEmpty

/-- Members of the slice group of a partition: enabled partitions with its sheaves (R280). -/
def groupOf (s : State) (p : Nat) : List Nat :=
  (List.range 8).filter (fun q => fbit s F.SCH_PART_CTL_EN q && fget s F.SCH_PART_CTL_SHEAVES q == fget s F.SCH_PART_CTL_SHEAVES p)

/-- A group gives its next step to one member (R280). A member chosen before that has lost its work, or is no longer a member,
gives the turn back (log entry 126). -/
def giveTurn (s : State) (p : Nat) : State :=
  let g := groupOf s p
  let key := fget s F.SCH_PART_CTL_SHEAVES p
  let able := g.filter (fun q => hasWork s q 0 || hasWork s q 1)
  let kept : Bool := match nfind s.sch.turn key with
    | some q => able.contains q || (part s q).step.isSome
    | none => false
  if kept then s
  else if able.isEmpty then { s with sch := { s.sch with turn := nerase s.sch.turn key } }
  else
    let s := able.foldl (fun s q => partPut s q { part s q with credit := (part s q).credit + fget s F.SCH_PART_CTL_WEIGHT q }) s
    let best := able.foldl (fun b q => if (part s b).credit < (part s q).credit then q else b) (able.headD p)
    let sum := able.foldl (fun n q => n + fget s F.SCH_PART_CTL_WEIGHT q) 0
    let s := partPut s best { part s best with credit := (part s best).credit - sum }
    { s with sch := { s.sch with turn := nset s.sch.turn key best } }

/-! ### The engine-ratio controller's start (R307, R334) -/

/-- P_INIT, its share as F, and a count of 0 (R307). -/
def ratioStart (s : State) (p : Nat) : State :=
  let s := fput (fput s F.SCH_RATIO_STAT_COUNT p 0) F.SCH_RATIO_STAT_F p (pInit s p * 65536 / max (ratioN s p) 1)
  partPut s p { part s p with pNext := pInit s p, sign := 0, restart := false }

/-- Prompt sheaves of the step that forms (R306, R307). -/
def ratioForm (s : State) (p : Nat) : State :=
  let n := stepP s p
  let s := if standalone s && ((part s p).restart || fget s F.SCH_STEP_NUM_STEP p == 0) then ratioStart s p else s
  fput s F.SCH_RATIO_P_NOW p n

/-! ### Formation (R296) -/

/-- A half may form now: RUN, not fenced or suspended, and its journal within the lag bound (R552, R568, R572). -/
def mayForm (s : State) (h p : Nat) : Bool :=
  fbit s F.SCH_CTL_RUN 0 && fbit s F.SCH_PART_CTL_EN p && !halfQuiet s h &&
  !((pairState s h == 1 || pairState s h == 2) && decide (fget s F.TWN_HS_JBUF_LAG_K h * 1024 < (tw s h).jour.length))

/-- The tillers of a half whose test pass has run too long are HELD for a segment, one per sheaf (R597). -/
def coverHold (s : State) (h : Nat) : State :=
  (List.range 16).foldl (fun s i =>
    let sh := 16 * h + i
    let ts := sheafTillers sh
    if !fbit s F.INT_CTL_TEST_EN 0 || ts.any (fun t => islState s t == 1) then s
    else match ts.find? (fun t => running s t && (til s t).item.isNone && (til s t).taken.isNone &&
        decide ((til s t).passStart + fget s F.INT_TEST_COVER_H 0 * 3600000000000 < s.now)) with
      | some t => fput s F.ISL_CLK_STAT_STATE t 1
      | none => s) s

/-- Bytes of a batch record (R304). -/
def batchRecord (s : State) (num p h : Nat) (l : List Nat) : List Byte :=
  toBytes 8 num ++ toBytes 2 l.length ++ toBytes 1 p ++ toBytes 1 h ++ toBytes 52 0 ++
    l.flatMap (fun c => toBytes 4 c ++ toBytes 2 (dg (cx s c).d D.INCARNATION) ++ toBytes 2 0)

/-- Contexts take transition 7 (R300). -/
def admitDecode (s : State) (p num : Nat) (l : List Nat) : State :=
  l.foldl (fun s c =>
    let x := cx s c
    cxChange s c { x with admitted := some (timeNs s), dec := some (p, num), offer := none, exc := 0, fault := false,
                          d := ds x.d D.STATE stDECODE } []) s

def admitChunks (s : State) (p num : Nat) (l : List (Nat × Nat × Nat × Bool)) : State :=
  l.foldl (fun s e =>
    let x := cx s e.1
    cxPut s e.1 { x with fault := false, exc := 0,
                         chunk := some { part := p, step := num, start := e.2.1, len := e.2.2.1, st := dg x.d D.STATE } }) s

/-- Steps 1 to 3 of R296 for half `h`; `dl` is the STEP of records that the formation writes. Descriptors that the half reads
are checked first (R581); a REBUILD without a hole ends after the decisions of step 3 (R287). -/
def formChanges (s : State) (h p dl : Nat) : State :=
  let s := (ctxsOf s h).foldl (fun s c => descReadAt s c (endStep s p dl c)) s
  let s := applyQueue s h
  let s := (ctxsOf s h).foldl (fun s c => deadlineTest s p dl c) s
  let s := preemption s h
  coverHold ((ctxsOf s h).foldl leaveRebuild s) h

/-- Steps 1 to 6 of R296 for half `h` and partition `p`; `dl` is the STEP of records that it writes. Gives the number of the
step that the half has formed, 0 for none. -/
def formWith (s : State) (h p dl : Nat) : Nat × State :=
  let s := giveTurn (formChanges s h p dl) p
  let turn := (nfind s.sch.turn (fget s F.SCH_PART_CTL_SHEAVES p)) == some p
  let old := (part s p).step
  let n := stepP s p
  let ctl := stepCtl s p
  let (dec, chunks) := admits s p h
  let s := if old.isNone && turn then ratioForm s p else s
  let gen := startSet s p h 2 n
  let pre := startSet s p h 1 n
  if !turn then (0, s)
  else
    if dec.isEmpty ∧ chunks.isEmpty then
      (0, match old with
        | some k => stepPut s p (setStepHalf k h { stepHalf k h with formed := true })
        | none => s)
    else
      let num := (match old with
        | some k => k.num
        | none => fget s F.SCH_STEP_NUM_STEP p + 1)
      let fresh : Step := {
        num := num, t0 := timeNs s, image := fget s F.SCH_IMAGE_BASE p, entDec := fget s F.SCH_ENTRY_DECODE p,
        entChunk := fget s F.SCH_ENTRY_CHUNK p, batch := fget s F.SCH_BATCH_BASE_BASE p, p := n, ctl := ctl }
      let base := old.getD fresh
      let s := fput (fput s F.SCH_STEP_NUM_STEP p num) F.SCH_STEP_STAT_PHASE p 2
      let s := if old.isSome then s
        else fput (fput (fput s F.SCH_STEP_STAT_DECODE p 0) F.SCH_STEP_STAT_CHUNKS p 0) F.SCH_STEP_STAT_CHUNK_TOKENS p 0
      let toks := chunks.foldl (fun n e => n + e.2.2.1) 0
      let s := fput s F.SCH_STEP_STAT_DECODE p (fget s F.SCH_STEP_STAT_DECODE p + dec.length)
      let s := fput s F.SCH_STEP_STAT_CHUNKS p (fget s F.SCH_STEP_STAT_CHUNKS p + chunks.length)
      let s := fput s F.SCH_STEP_STAT_CHUNK_TOKENS p (fget s F.SCH_STEP_STAT_CHUNK_TOKENS p + toks)
      let s := stepPut s p (setStepHalf base h { formed := true, dec := dec, chunks := chunks.map (·.1) })
      let s := admitChunks (admitDecode s p num dec) p num chunks
      let push (s : State) (set : List Nat) (kind : Nat) (b : ItemBits) : State :=
        let w : Work := { bits := b, part := p, step := num, kind := if standalone s then kind else 0 }
        pushToSet (stepAdd s w) set w
      let s := if dec.isEmpty then s else
        let s := memWrite s (base.batch * 65536 + (2 * h + num % 2) * 65536) (batchRecord s num p h dec)
        push s gen 2 (mkItem (p * 4 + h * 2 + num % 2) true 0 0 1 base.entDec dec.length)
      let s := chunks.foldl (fun s e => push s pre 1
        (mkItem e.1 false 0 0 1 base.entChunk (e.2.2.1 % 2 ^ 14 + b2n e.2.2.2 * 2 ^ 31))) s
      (num, s)

/-- The half's part of the step in progress is formed, or another member of the group runs a step. -/
def formBlocked (s : State) (h p : Nat) : Bool :=
  (match (part s p).step with
    | some k => (stepHalf k h).formed || k.items == 0
    | none => false) ||
  (groupOf s p).any (fun q => q != p && (part s q).step.isSome)

/-- Another member of the group has its next step (R280). -/
def othersTurn (s : State) (p : Nat) : Bool :=
  match nfind s.sch.turn (fget s F.SCH_PART_CTL_SHEAVES p) with
  | some q => q != p
  | none => false

/-- The number of the step that a formation forms, in whichever half: this one has formed `n`, 0 for none (R328). -/
def formNumber (s : State) (h p n : Nat) : Nat :=
  if n ≠ 0 then n
  else match (part s p).step with
    | some k => k.num
    | none => if hasWork s p (1 - h) then fget s F.SCH_STEP_NUM_STEP p + 1 else 0

/-- A half forms its part of a partition's next step (R295, R296), after the choice of R280; it waits while it may not form,
while its part of the step in progress is formed, or when another member of the group has the turn. -/
def formation (s : State) (h p : Nat) : State :=
  if !mayForm s h p || formBlocked s h p then s
  else
    let s := giveTurn s p
    if othersTurn s p then s
    else
      let r := formWith s h p 0
      let n := formNumber s h p r.1
      if n = 0 then r.2 else (formWith s h p n).2

/-- The half is at the start of a formation, so the changes queued for it may be applied (R296 step 1, R326). -/
def forming (s : State) (h : Nat) : Bool :=
  (List.range 8).any (fun p => mayForm s h p && !formBlocked s h p && !othersTurn (giveTurn s p) p)

/-- The oldest queued change of a half is applied at the start of its formation when it is a context command with this OP (R326). -/
def applyHead (s : State) (h op : Nat) : State :=
  match schQueue s h with
  | .cmd w :: r => if bget w 60 4 = op ∧ forming s h then applyReq (setQueue s h r) (.cmd w) else s
  | _ => s

def execPreempt (h : Fin 2) (s : State) : Host.Outcome State Fault Refusal := .next (applyHead s h 1)
def execResume (h : Fin 2) (s : State) : Host.Outcome State Fault Refusal := .next (applyHead s h 2)
def execSwapOut (h : Fin 2) (s : State) : Host.Outcome State Fault Refusal := .next (applyHead s h 3)
def execSwapIn (h : Fin 2) (s : State) : Host.Outcome State Fault Refusal := .next (applyHead s h 4)
def execRelease (h : Fin 2) (s : State) : Host.Outcome State Fault Refusal := .next (applyHead s h 5)

def execStepFormation (h : Fin 2) (p : Fin 8) (s : State) : Host.Outcome State Fault Refusal := .next (formation s h p)

/-! ### SCH_PART_CTL and SCH_RATIO (R279, R280, R283, R334) -/

/-- A write to SCH_PART_CTL is refused (R279). -/
def partOverlap (s : State) (p : Nat) (w : Word) : Bool :=
  let set := bget w 0 32
  bbit w 36 && (set == 0 || (List.range 8).any (fun q =>
    let o := fget s F.SCH_PART_CTL_SHEAVES q
    q != p && fbit s F.SCH_PART_CTL_EN q && o != set && (o &&& set) != 0))

/-- A write to SCH_PART_CTL takes effect: credits of groups whose membership changes return to 0 (R280). -/
def partWrite (s : State) (p : Nat) (w : Word) : State :=
  let before := groupOf s p
  let w := if bget w 32 4 = 0 then bset w 32 4 1 else w
  let w : Word := BitVec.ofNat 64 (w.toNat % 2 ^ 37)
  let was := fbit s F.SCH_PART_CTL_EN p
  let same := bbit w 36 == was && (!was || bget w 0 32 == fget s F.SCH_PART_CTL_SHEAVES p)
  let s := rput s .SCH_PART_CTL p w
  if same then s
  else (((if was then before else []) ++ (if bbit w 36 then groupOf s p else []) ++ [p]).eraseDups).foldl (fun s q => partPut s q { part s q with credit := 0 }) s

/-- A write to SCH_PART_CTL: discarded (R279), held back until the group's commit point (R283), or applied. -/
def partCtl (s : State) (p : Nat) (w : Word) : State :=
  if partOverlap s p w then fset s F.SCH_ERR_PART_CFG 0
  else if (p :: (if fbit s F.SCH_PART_CTL_EN p then groupOf s p else [])).any (fun q => (part s q).step.isSome) then partPut s p { part s p with ctlNext := some w }
  else partWrite s p w

def execSchPartCtl (p : Fin 8) (val : Word) (s : State) : Host.Outcome State Fault Refusal :=
  .next (regGate s .SCH_PART_CTL p (fun s => partCtl s p val))

/-- A write to SCH_RATIO: fields with their limits, and the controller restarts at the next formation (R334). -/
def ratioWrite (s : State) (p : Nat) (w : Word) : State :=
  let s := fput s F.SCH_RATIO_DWELL p (max 1 (bget w 32 4))
  let s := fput s F.SCH_RATIO_HYST p (max 1 (bget w 24 4))
  let s := fput (fput (fput s F.SCH_RATIO_P_MAX p (bget w 16 6)) F.SCH_RATIO_P_MIN p (bget w 8 6)) F.SCH_RATIO_P_INIT p (bget w 0 6)
  let s := fput s F.SCH_RATIO_P_MAX p (pMax s p)
  let s := fput s F.SCH_RATIO_P_MIN p (pMin s p)
  let s := fput s F.SCH_RATIO_P_INIT p (pInit s p)
  partPut s p { part s p with restart := true }

def execSchRatio (p : Fin 8) (val : Word) (s : State) : Host.Outcome State Fault Refusal :=
  .next (regGate s .SCH_RATIO p (fun s => ratioWrite s p val))

end Sys2Proof.Machine
end

