-- ==== Sys2Proof/Machine/Commit.lean ====
section
/-!
DEFINITION. The commit point of a step (R292, R293): decode contexts (R308-R311), chunks (R312, R313), the engine-ratio
controller (R307), and what takes effect at a commit point (R280, R283, R363, R365, R390).
-/

namespace Sys2Proof.Machine

/-! ### Decode contexts -/

/-- What a committed token shows the host: its word in the output buffer, and a token notice while STREAM is 1 (R643). -/
def tokenOut (s : State) (h c step pos word : Nat) : State :=
  let x := cx s c
  if halfQuiet s h then s
  else
    let gen := dg x.d D.GENERATED
    let s := if x.outIova = 0 then s else hostWrite s (x.outIova + 4 * ((gen - 1) % max x.outWords 1)) (toBytes 4 word)
    if x.outIova = 0 ∨ !x.stream then s
    else if cplFree s x.cring then
      let bs := toBytes 4 c ++ toBytes 2 (dg x.d D.INCARNATION) ++ toBytes 1 (b2n x.gap) ++ toBytes 1 0 ++ toBytes 8 step ++ toBytes 4 pos ++ toBytes 4 word
      cxUpd (cplWrite s x.cring 3 bs) c (fun x => { x with gap := false })
    else hstErr (cxUpd s c (fun x => { x with gap := true })) F.HST_ERR_TOKEN_GAP

/-- A token is committed (transition 8's effect, R309): the log word, the counts, and the state `st`; then what the host sees
of it. -/
def commitToken (s : State) (h c num token : Nat) (late : Bool) (st : Nat) : State :=
  let pos := dg (cx s c).d D.LENGTH
  let word := token + 2 ^ 20 + b2n late * 2 ^ 21
  let s := logWrite s c pos (BitVec.ofNat 32 word)
  let x := cx s c
  let d := ds (ds x.d D.KV_VALID pos) D.LENGTH (pos + 1)
  let d := ds (ds (ds d D.GENERATED (dg d D.GENERATED + 1)) D.LAST_STEP num) D.STATE st
  let d := if late then ds d D.DL_PASSED 1 else d
  let s := cxChange s c { x with d := d, rebuilds := 0, lastHole := none } (logEnts c (dg d D.INCARNATION) pos 1 [BitVec.ofNat 32 word])
  let s := if late then fadd1 s F.SCH_DONE1_LATE 0 1 else s
  let s := meter s (dg d D.TENANT) 4 1
  tokenOut s h c num pos word

/-- The hole of a context; (0, 0) when it has none. -/
def holeOf (d : Desc) : Nat × Nat :=
  if dg d D.HOLE_START < dg d D.HOLE_END then (dg d D.HOLE_START, dg d D.HOLE_END) else (0, 0)

/-- A decode context of step `num` commits by the first case of R308 that applies. -/
def commitDecode (s : State) (h p num c : Nat) : State :=
  let s := descRead s c
  let x := cx s c
  if dg x.d D.STATE ≠ stDECODE ∨ x.dec ≠ some (p, num) then s
  else
    let y := { x with dec := none, offer := none, exc := 0, fault := false }
    let mode := dg x.d D.DL_MODE
    let passed := (mode == 1 || mode == 2) && decide (dg x.d D.DEADLINE ≤ timeNs s)
    let bad := db x.d D.KV_BAD
    if x.release then ctxRelease (cxPut s c y) c
    else if db x.d D.CANCEL then closeMembers (drain s c y { status := endCANCELLED, step := num } []) c
    else if x.exc ≠ 0 ∨ x.badLog then drain s c y { status := endFAULTED, code := if x.badLog then 0x10 else x.exc, step := num } []
    else if mode = 2 ∧ passed then drain s c { y with d := ds y.d D.DL_PASSED 1 } { status := endDEADLINE, step := num } []
    else if bad || db x.d D.HELD then
      let hole := holeOf x.d
      let n := if !bad then x.rebuilds else if x.lastHole = some hole then x.rebuilds + 1 else 1
      let d := ds (ds (ds y.d D.KV_BAD 0) D.RESUME stREADY) D.STATE stREBUILD
      let s := cxChange s c { y with d := d, rebuilds := n, lastHole := if bad then some hole else x.lastHole } []
      if bad && decide (4 ≤ n) then endNow s c { status := endFAULTED, code := 0x11, step := num } else s
    else match x.offer with
      | none => drain (fset s F.SCH_ERR_NO_TOKEN 0) c y { status := endFAULTED, code := 0x12, step := num } []
      | some (token, reason, seq) =>
        let late := mode == 1 && passed
        let s := commitToken (cxPut s c y) h c num token late (if reason ≠ 0 ∨ late then stDECODE else stREADY)
        if reason ≠ 0 then endNow s c { status := if reason = 3 then endLENGTH else endSTOP, reason := reason, seq := if reason = 2 then seq else 0, step := num }
        else if late then endNow s c { status := endDEADLINE, step := num }
        else s

/-! ### Chunks -/

/-- The chunk of a context commits, or not (R312, R313). -/
def commitChunk (s : State) (p num c : Nat) : State :=
  let x := cx s c
  match x.chunk with
  | none => s
  | some k =>
    if k.part ≠ p ∨ k.step ≠ num then s
    else
      let y := { x with chunk := none, exc := 0, fault := false }
      if x.fault then
        let n := x.chunkFails + 1
        if fget s F.SCH_FAULT_CHUNK_RETRY 0 ≤ n then
          cxChange (fset s F.SCH_ERR_CHUNK_HELD 0) c { y with chunkFails := 0, d := ds (ds x.d D.HELD 1) D.HOLD_REASON 3 } []
        else cxPut s c { y with chunkFails := n }
      else if dg x.d D.STATE ≠ k.st then cxPut s c y
      else
        let stop := k.start + k.len
        let y := { y with chunkFails := 0 }
        let s := meter s (dg x.d D.TENANT) 5 k.len
        if k.st = stREBUILD then
          let d := ds x.d D.HOLE_START stop
          let d := if dg d D.HOLE_END ≤ dg d D.HOLE_START then ds (ds d D.HOLE_START (dg d D.HOLE_END)) D.STATE (dg d D.RESUME) else d
          fsetIf (cxChange s c { y with d := d } []) (noLog d) F.INT_ERR_NO_LOG 0
        else
          let d := ds x.d D.KV_VALID stop
          let d := if standalone s ∧ dg d D.KIND = 0 ∧ stop = dg d D.PROMPT_LEN then ds d D.HIDDEN_DONE 1 else d
          cxChange s c { y with d := d } []

/-! ### The engine-ratio controller (R307) -/

def intSign (i : Int) : Int := if i < 0 then -1 else if 0 < i then 1 else 0

/-- The controller after the commit of a standalone partition. -/
def ratioCommit (s : State) (p : Nat) (k : Step) : State :=
  if !standalone s then s
  else
    let n := ratioN s p
    let y := part s p
    let f0 := fget s F.SCH_RATIO_STAT_F p
    let x := if k.wp + k.wg = 0 then fget s F.SCH_RATIO_STAT_X p else k.wp * 65536 / (k.wp + k.wg)
    let f := if k.wp + k.wg = 0 then f0 else ((f0 : Int) + ((x : Int) - f0) / 8).toNat
    let d : Int := (n * f / 4096 : Nat) - (16 * y.pNext : Nat)
    let big := decide (fget s F.SCH_RATIO_HYST p ≤ d.natAbs)
    let same := intSign d == y.sign
    let count := if !big then 0 else if same then fget s F.SCH_RATIO_STAT_COUNT p + 1 else 1
    let turn := decide (fget s F.SCH_RATIO_DWELL p ≤ count)
    let pn := if turn then (max (pMin s p : Int) (min (y.pNext + intSign d) (pMax s p))).toNat else y.pNext
    let s := fput (fput (fput s F.SCH_RATIO_STAT_F p f) F.SCH_RATIO_STAT_X p x) F.SCH_RATIO_STAT_COUNT p (if turn then 0 else count)
    partPut s p { y with sign := if big && !same then intSign d else y.sign, pNext := pn }

/-! ### The step ends -/

/-- Writes to SCH_PART_CTL that waited for the group's commit point take effect (R283). -/
def heldWrites (s : State) (g : List Nat) : State :=
  g.foldl (fun s q => match (part s q).ctlNext with
    | none => s
    | some w =>
      let s := partPut s q { part s q with ctlNext := none }
      if partOverlap s q w then fset s F.SCH_ERR_PART_CFG 0 else partWrite s q w) s

/-- Windows of the partition: a clear of EN takes effect, slots of the step are released, and the next fill starts (R361,
R363, R365). -/
def windowsCommit (s : State) (p : Nat) : State :=
  (List.range 8).foldl (fun s w =>
    if !winEn s w || fget s F.TIE_WIN_CTL_PARTITION w != p then s
    else if (win s w).closing then windowOff s w
    else windowNext s w) s

/-- Both halves have committed: the step is over. -/
def stepOver (s : State) (p : Nat) (k : Step) : State :=
  let key := fget s F.SCH_PART_CTL_SHEAVES p
  let g := (p :: groupOf s p).eraseDups
  let dur := min (timeNs s - k.t0) (2 ^ 32 - 1)
  let s := partPut s p { part s p with step := none }
  let s := { s with sch := { s.sch with turn := nerase s.sch.turn key } }
  let s := fput (fmaxTo (fput s F.SCH_STEP_TIME_LAST p dur) F.SCH_STEP_TIME_MAX p dur) F.SCH_STEP_STAT_PHASE p 0
  let s := applyPoint (windowsCommit (ratioCommit s p k) p) p
  heldWrites s g

/-- An item of the step is unended; a half that has lost the other knows its own alone (R290, R573). -/
def stepOpen (s : State) (h p : Nat) (k : Step) : Bool :=
  if s.twin.lost then (worksIn s h).any (fun w => w.part == p && w.step == k.num) else k.items != 0

/-- The commit point of half `h`: no item of the step is unended (R290-R293). -/
def commitPoint (s : State) (h p : Nat) : State :=
  match (part s p).step with
  | none => s
  | some k =>
    if stepOpen s h p k ∨ (stepHalf k h).committed then s
    else
      let x := stepHalf k h
      let s := x.dec.foldl (fun s c => commitDecode s h p k.num c) s
      let s := x.chunks.foldl (fun s c => commitChunk s p k.num c) s
      let k := setStepHalf k h { x with committed := true }
      let s := fput (stepPut s p k) F.SCH_STEP_STAT_PHASE p 3
      if k.a.committed && k.b.committed then stepOver s p k else s

def execCommitPoint (h : Fin 2) (p : Fin 8) (s : State) : Host.Outcome State Fault Refusal := .next (commitPoint s h p)

end Sys2Proof.Machine
end

