-- ==== Sys2Proof/Machine/Lattice.lean ====
section
/-!
DEFINITION. The rack lattice: members and their ordered streams (R508-R511, R518, R519, R531), the checks and operations of
a member (R521-R529), request rings (R513-R515), answers (R514, R539), windows (R530), and the host's aperture (R654,
R655).
-/

namespace Sys2Proof.Machine

def laOK : Nat := 0
def laNOTMEMBER : Nat := 1
def laPERM : Nat := 2
def laRANGE : Nat := 3
def laSTALE : Nat := 4
def laREDIRECT : Nat := 5
def laBADLINE : Nat := 6
def laUNREACH : Nat := 7
def laINDOUBT : Nat := 8
def laMALFORMED : Nat := 9
def laBUSY : Nat := 10

/-! ### Members (R508-R511) -/

def rankOn (s : State) (r : Nat) : Bool := decide (r < 64) && fbit s F.LAT_MEMBER_EN r

def rankPeer (s : State) (r : Nat) : Nat := fget s F.LAT_MEMBER_PEER r

/-- The rank is the device's own. -/
def ownRank (s : State) (r : Nat) : Bool := rankPeer s r == 65535

/-- An enabled member is UP; the own rank needs no probe. -/
def rankUp (s : State) (r : Nat) : Bool := rankOn s r && (ownRank s r || fget s F.LAT_MEMBER_STATE r == 2)

/-- LAT_STAT follows the members (R511). -/
def latStat (s : State) : State :=
  let up := (List.range 64).filter (rankUp s)
  let on := (List.range 64).filter (rankOn s)
  fput (fput s F.LAT_STAT_UP 0 up.length) F.LAT_STAT_FORMED 0 (b2n (!on.isEmpty && up.length == on.length))

/-- The enabled rank whose member has a NODE. -/
def rankOf (s : State) (node : Nat) : Option Nat :=
  (List.range 64).find? (fun r => rankOn s r && (if ownRank s r then fget s F.FAB_NODE_NODE 0 else pNode s (rankPeer s r)) == node)

def rankDown (s : State) (r : Nat) : Bool := bits (fget s F.LAT_DOWN_RANKS 0) r 1 == 1

def lrank (s : State) (r : Nat) : LatRank := nget (fun _ => {}) s.lat.ranks r

def lrankPut (s : State) (r : Nat) (x : LatRank) : State :=
  { s with lat := { s.lat with ranks := nput (fun _ => {}) s.lat.ranks r x } }

def latReq (s : State) (tag : Nat) : Option LatReq := nfind s.lat.reqs tag

def latPut (s : State) (tag : Nat) (q : LatReq) : State := { s with lat := { s.lat with reqs := nset s.lat.reqs tag q } }

/-! ### Sending (R516, R517) -/

/-- Enabled paths of a peer that are not held off. -/
def latPaths (s : State) (p : Nat) : List Nat := (peerPaths s p).filter (fun i => bits (pf s p 34 2) i 1 == 0)

/-- A lattice packet joins privileged queue 2 of the port of a path. -/
def latOut (s : State) (peer path : Nat) (k : LPkt) : State :=
  match portOf s peer path with
  | none => s
  | some i => pushPriv s i 2 { wire := wireLen s i k.data.length, kind := 1, peer := peer, path := path,
                               l := { k with src := fget s F.FAB_NODE_NODE 0 } }

/-- The one path in use to a member: the lowest that may be used, kept until a retransmission timeout changes it. -/
def rankPath (s : State) (r : Nat) : Nat := match (lrank s r).path with
  | some p => p
  | none => (latPaths s (rankPeer s r)).headD 0

def latSend (s : State) (r : Nat) (k : LPkt) : State :=
  let path := rankPath s r
  latOut (lrankPut s r { lrank s r with path := some path }) (rankPeer s r) path k

/-- An answer to a node, by its peer-table entry. -/
def latAnswer (s : State) (node : Nat) (k : LPkt) : State :=
  match rankOf s node with
  | some r => latSend s r k
  | none => match peerOf s node with
    | some p => latOut s p ((latPaths s p).headD 0) k
    | none => s

/-- After a retransmission timeout the next path is used (R517). -/
def changePath (s : State) (r : Nat) : State :=
  let l := latPaths s (rankPeer s r)
  let p := rankPath s r
  lrankPut s r { lrank s r with path := some ((l.find? (fun x => decide (p < x))).getD (l.headD 0)) }

/-! ### The member: checks and operations (R521-R529) -/

/-- Where a lattice address lies on its target. -/
def laAddr (a : Nat) : Nat := a % 2 ^ 50
def laRank (a : Nat) : Nat := bits a 50 6

/-- Bytes that a request reaches. -/
def laLen (k : LPkt) : Nat := if k.lop ≤ 2 then 64 * k.lines else 8

/-- The header meets R516. -/
def laHeaderOk (k : LPkt) : Bool :=
  decide (1 ≤ k.lop) && decide (k.lop ≤ 5) && decide (k.tenant < 64) && decide (k.comp < 1024) && decide (k.laddr < 2 ^ 56) &&
  (!k.combine || k.lop == 1 || k.lop == 3) && (!k.merged || k.combine) && k.status == 0 &&
  (if k.lop ≤ 2 then decide (1 ≤ k.lines) && decide (k.lines ≤ 64) && k.laddr % 64 == 0 else k.lines == 1 && k.laddr % 8 == 0) &&
  k.data.length == (if k.lop = 1 then 0 else if k.lop = 2 then 64 * k.lines else 64)

/-- A member entry's range holds `n` bytes at `a`. -/
def rangeHolds (v a n : Nat) : Bool := mKind v == 2 && decide (mBase v ≤ a) && decide (a + n ≤ mBase v + mLen v)

/-- The right an operation needs, as a bit of FLAGS (R532). -/
def laRight (lop : Nat) : Nat := if lop = 1 then 0 else if lop = 2 then 1 else 2

/-- A window or an own range of the composition allows the operation (R528 step 6, R533). -/
def laAllowed (s : State) (k : LPkt) : Bool :=
  let a := laAddr k.laddr
  let n := laLen k
  (List.range 16).any (fun w =>
    let b := fget s F.LAT_WIN_BASE_BASE w
    fbit s F.LAT_WIN_CTL_EN w && decide (b ≤ a) && decide (a + n ≤ b + 65536 * fget s F.LAT_WIN_CTL_FRAMES w) &&
    (fbit s F.LAT_WIN_CTL_ANY_COMP w || fget s F.LAT_WIN_CTL_COMP w == k.comp) &&
    (if k.lop = 1 then fbit s F.LAT_WIN_CTL_READ w else if k.lop = 2 then fbit s F.LAT_WIN_CTL_WRITE w else fbit s F.LAT_WIN_CTL_ATOMIC w)) ||
  (ownSlots s k.comp 0).any (fun i =>
    let v := member s k.comp 0 i
    rangeHolds v a n && bits (mFlags v) (laRight k.lop) 1 == 1)

/-- The slot that this device filled in the previous map for an address: the slot whose range held it, else its DEVICE
slot (R538). -/
def laOldSlot (s : State) (k : LPkt) : Option Nat :=
  let l := ownSlots s k.comp 1
  match l.find? (fun i => rangeHolds (member s k.comp 1 i) (laAddr k.laddr) (laLen k)) with
  | some i => some i
  | none => l.find? (fun i => mKind (member s k.comp 1 i) == 1)

/-- The lattice address that a REDIRECT gives (R538). -/
def laNew (s : State) (k : LPkt) (i : Nat) : Nat :=
  let o := member s k.comp 1 i
  let v := member s k.comp 0 i
  mRank v * 2 ^ 50 + (if mKind v = 2 then mBase v + (laAddr k.laddr - mBase o) else laAddr k.laddr)

/-- The composition check of a lattice request: status, and for a REDIRECT the slot (R536, R538). -/
def laComp (s : State) (k : LPkt) : Nat × Nat × CmpCheck :=
  let c := compCheck s k.comp k.epoch (laOldSlot s k)
  if c.status = 0 then (laOK, 0, c)
  else if c.status = fsPERM then (laPERM, 0, c)
  else if c.status = fsREDIRECT ∧ mRank (member s k.comp 0 c.slot) ≠ 255 then (laREDIRECT, c.slot, c)
  else (laSTALE, 0, { status := fsSTALE })

/-- Lines of a LOAD up to the first that fails its check. -/
def goodLines (s : State) (a : Nat) : Nat → Nat
  | 0 => 0
  | n + 1 => if lineOk s a then goodLines s (a + 64) n + 1 else 0

/-- What an atomic leaves in its word: ADD64, SWAP64, CAS64 (R513). -/
def atomicNew (lop old a b : Nat) : Nat :=
  if lop = 3 then (old + a) % 2 ^ 64 else if lop = 4 then a else if old = a then b else old

/-- The answer to a request, and whether its work has to wait (R255, R347). -/
structure LatAns where
  s : State
  k : LPkt := {}
  wait : Bool := false

def laResp (k : LPkt) (status : Nat) (data : List Byte) : LPkt :=
  { lop := 8, tenant := k.tenant, lsn := k.lsn, combine := k.combine, merged := k.merged, lines := k.lines, tag := k.tag,
    ctag := k.ctag, status := status, laddr := k.laddr, epoch := k.epoch, comp := k.comp, data := data }

/-- A request that has passed every check is performed (R521, R522, R529). -/
def laPerform (s : State) (k : LPkt) : LatAns :=
  let a := laAddr k.laddr
  let s := meter (fadd1 s F.LAT_CNT_SERVED 0 1) k.tenant 3 (64 * k.lines)
  if k.lop = 1 then
    let g := goodLines s a k.lines
    let s := if g < k.lines then lineFailure s 6 1 (a + 64 * g) else s
    { s := s, k := laResp k (if g < k.lines then laBADLINE else laOK) (memBytes s a (64 * g)) }
  else if writeWaits s a (laLen k) then { s := s, wait := true }
  else if writeDown s a then { s := fadd1 s F.INT_LINE_CNT_STACK 0 1, k := laResp k laBADLINE [] }
  else if flashShut s a then { s := s, k := laResp k laBADLINE [] }
  else if k.lop = 2 then { s := memWrite s a k.data, k := laResp k laOK [] }
  else match badLineIn s a 8 with
    | some l => { s := lineFailure s 6 1 l, k := laResp k laBADLINE [] }
    | none =>
      let old := memNat s a 8
      let s := memPut s a 8 (atomicNew k.lop old (ofBytes (k.data.take 8)) (ofBytes ((k.data.drop 8).take 8)))
      { s := s, k := laResp k laOK (toBytes 8 old ++ List.replicate 56 0) }

/-- Steps 3 to 7 of R528 and the operation. -/
def laServe (s : State) (k : LPkt) (ok : Bool) : LatAns :=
  if !fbit s F.LAT_CTL_SERVE_EN 0 || starting s then { s := s, k := laResp k laBUSY [] }
  else if !ok || !laHeaderOk k then { s := fset s F.LAT_ERR_MALFORMED_RX 0, k := laResp k laMALFORMED [] }
  else
    let (st, slot, c) := laComp s k
    let s := compMark s k.comp k.epoch c
    if st = laREDIRECT then
      { s := s, k := { laResp k laREDIRECT [] with laddr := laNew s k slot, arg := mNode (member s k.comp 0 slot) } }
    else if st ≠ laOK then { s := s, k := laResp k st [] }
    else if !laAllowed s k then { s := s, k := laResp k laPERM [] }
    else
      let a := laAddr k.laddr
      let n := laLen k
      let ok := (List.range (cdiv (a % 65536 + n) 65536)).all (fun j => mapped s (a / 65536 * 65536 + j * 65536)) &&
        addrTier a == addrTier (a + n - 1) && (k.lop ≤ 2 || addrTier a == 0)
      if k.lop ≠ 2 ∧ flashWaits s a n then { s := s, wait := true }
      else if ok then laPerform s k else { s := s, k := laResp k laRANGE [] }

/-! ### Arrival (R519, R524, R527, R528) -/

/-- What a port does before the work of an arriving lattice packet (R434, R440, R505): the peer-table entry of its sender. -/
def latArrive (s : State) (r : LRx) : State × Option Nat :=
  let (s, ok) := frameIn s r.m
  if !ok then (s, none)
  else if !fbit s F.FAB_CTL_ACCEPT 0 then (dropped s, none)
  else match peerOf s r.p.src with
    | none => (dropped s, none)
    | some p =>
      let (s, go, _) := policed s r.m r.p.cls 12
      if go then (fadd1 s F.FAB_PKTS_RX 0 1, some p) else (s, none)

def keptKey (k : LPkt) : Nat := k.src * 2 ^ 32 + k.tag

def keepResp (s : State) (k resp : LPkt) : State :=
  { s with lat := { s.lat with kept := nset s.lat.kept (keptKey k) { src := k.src, tag := k.tag, p := resp } } }

def latExpect (s : State) (r : Nat) : Nat := nget (fun _ => 0) s.lat.expect r

def expectPut (s : State) (r n : Nat) : State :=
  { s with lat := { s.lat with expect := nput (fun _ => 0) s.lat.expect r (n % 2 ^ 32) } }

/-- A LACK that carries the next LSN expected of a rank. -/
def sendLack (s : State) (r : Nat) : State := latSend s r { lop := 9, lsn := latExpect s r }

/-- A combined request: answered again from a kept RESP, or served, an atomic's RESP being kept unless it is BUSY (R524, log
entry 112). -/
def latCombined (s0 s : State) (k : LPkt) (ok : Bool) : State :=
  match nfind s.lat.kept (keptKey k) with
  | some x => latAnswer s k.src x.p
  | none =>
    let q := laServe s k ok
    if q.wait then s0
    else latAnswer (if 3 ≤ k.lop ∧ q.k.status ≠ laBUSY then keepResp q.s k q.k else q.s) k.src q.k

/-- An ordered request from rank `r`: in LSN order only (R519). -/
def latOrdered (s0 s : State) (r : Nat) (k : LPkt) (ok : Bool) : State :=
  let e := latExpect s r
  if k.lsn ≠ e then sendLack s r
  else
    let q := laServe s k ok
    if q.wait then s0 else latAnswer (expectPut q.s r (e + 1)) k.src q.k

/-- A lattice request arrives. -/
def latRequest (s0 : State) (r : LRx) (lop : Nat) : State :=
  match latArrive s0 r with
  | (s, none) => s
  | (s, some _) =>
    let k := { r.p with lop := lop }
    if k.merged ∧ k.src = fget s F.LAT_SWITCH_NODE 0 then latCombined s0 s k r.ok
    else match rankOf s k.src with
      | none => latAnswer s k.src (laResp k laNOTMEMBER [])
      | some n => if k.combine then latCombined s0 s k r.ok else latOrdered s0 s n k r.ok

def execLatticeLoad (r : LRx) (s : State) : Host.Outcome State Fault Refusal := .next (latRequest s r 1)
def execLatticeStore (r : LRx) (s : State) : Host.Outcome State Fault Refusal := .next (latRequest s r 2)
def execAdd64 (r : LRx) (s : State) : Host.Outcome State Fault Refusal := .next (latRequest s r 3)
def execSwap64 (r : LRx) (s : State) : Host.Outcome State Fault Refusal := .next (latRequest s r 4)
def execCas64 (r : LRx) (s : State) : Host.Outcome State Fault Refusal := .next (latRequest s r 5)

/-- DEDUP_EXPIRY: a kept RESP is dropped. -/
def execDedupExpiry (k : Nat) (s : State) : Host.Outcome State Fault Refusal :=
  .next { s with lat := { s.lat with kept := nerase s.lat.kept k } }

/-! ### Requests of this device (R513, R514, R518) -/

/-- Address of entry `i` of a ring. -/
def ringAddr (s : State) (n i : Nat) : Nat := fget s F.LAT_RING_BASE n * 65536 + 64 * i

/-- The status of an aperture access that did not end OK is recorded (R655). -/
def aperFail (s : State) (status : Nat) : State := hstErr (fput s F.HST_APER_STAT_STATUS 0 status) F.HST_ERR_APER

/-- The aperture access of a tag completes: a read with its bytes, or with all ones (R654, R655). -/
def aperDone (s : State) (tag status : Nat) (data : List Byte) : State :=
  match nfind s.host.aper tag with
  | none => s
  | some a =>
    let s := { s with host := { s.host with aper := nerase s.host.aper tag } }
    let s := if status = laOK then s else aperFail s status
    if a.write then s
    else
      let bs := if status = laOK then (data.drop (a.off % 64)).take a.len else List.replicate a.len 0xFF
      { s with out := { s.out with aperData := bs } }

/-- An operation ends: data, RESULT, then STATUS, then its work item; or the aperture's answer (R514, R655). -/
def latFinish (s : State) (tag : Nat) (q : LatReq) (status : Nat) (data : List Byte) : State :=
  if q.ring = 8 then aperDone s tag status data
  else
    let a := ringAddr s q.ring q.idx
    let w1 : List Outside := if q.p.lop = 1 then (if data.isEmpty then [] else [{ addr := q.loc, data := some data }])
      else if 3 ≤ q.p.lop ∧ status = laOK then [{ addr := a + 48, data := some (data.take 8) }] else []
    let w2 : Outside :=
      { addr := a + 2, data := some (toBytes 1 status)
        work := q.item.map (fun e => { bits := mkItem 0 false 0 0 1 e (q.ring * 65536 + q.idx) }) }
    lateWrites s (w1 ++ [w2])

/-- An ordered request takes the next LSN and goes out (R518). -/
def latLaunch (s : State) (tag : Nat) (q : LatReq) : State :=
  let x := lrank s q.rank
  let q := { q with p := { q.p with lsn := x.lsn } }
  latSend (latPut (lrankPut s q.rank { x with lsn := (x.lsn + 1) % 2 ^ 32, un := x.un ++ [tag] }) tag q) q.rank q.p

/-- Ordered requests that waited for one of the 256 places go out. -/
def latFill (s : State) (r : Nat) : Nat → State
  | 0 => s
  | n + 1 =>
    let x := lrank s r
    match x.wait with
    | [] => s
    | tag :: w =>
      if 256 ≤ x.un.length then s
      else match latReq s tag with
        | some q => latFill (latLaunch (lrankPut s r { x with wait := w }) tag q) r n
        | none => latFill (lrankPut s r { x with wait := w }) r n

/-- A request leaves its member's stream. -/
def latLeave (s : State) (tag : Nat) (q : LatReq) : State :=
  let x := lrank s q.rank
  let s := { s with lat := { s.lat with reqs := nerase s.lat.reqs tag } }
  let s := lrankPut s q.rank { x with un := x.un.filter (· != tag), wait := x.wait.filter (· != tag) }
  latFill s q.rank x.wait.length

def latEnd (s : State) (tag : Nat) (q : LatReq) (status : Nat) (data : List Byte) : State :=
  latFinish (latLeave s tag q) tag q status data

/-- A request goes to its member: refused at once when the rank is not enabled or the member is DOWN, performed here for the
own rank, sent otherwise (R510, R531). None while the own rank's work has to wait. -/
def latIssue (s : State) (tag : Nat) (q : LatReq) : Option State :=
  if !rankOn s q.rank then some (latFinish s tag q laNOTMEMBER [])
  else if ownRank s q.rank then
    let a := laServe s { q.p with src := fget s F.FAB_NODE_NODE 0 } true
    if a.wait then none
    else if a.k.status = laREDIRECT ∧ !q.redirected then
      let r := laRank a.k.laddr
      let q := { q with rank := r, redirected := true, p := { q.p with laddr := a.k.laddr } }
      if !rankOn s r then some (latFinish a.s tag q laNOTMEMBER [])
      else if ownRank s r then some (latFinish a.s tag q laREDIRECT [])
      else some (go (sent a.s q) q)
    else some (latFinish a.s tag q a.k.status a.k.data)
  else if rankDown s q.rank then some (latFinish s tag q laUNREACH [])
  else some (go (if q.redirected then s else sent s q) q)
where
  /-- A request that is sent for the first time counts. -/
  sent (s : State) (q : LatReq) : State := meter (fadd1 s F.LAT_CNT_SENT 0 1) q.p.tenant 2 q.p.data.length
  /-- The request is sent, or waits for a place in its member's stream. -/
  go (s : State) (q : LatReq) : State :=
    if q.p.combine then latSend (latPut s tag q) q.rank q.p
    else if !(lrank s q.rank).wait.isEmpty || decide (256 ≤ (lrank s q.rank).un.length) then
      lrankPut (latPut s tag q) q.rank { lrank s q.rank with wait := (lrank s q.rank).wait ++ [tag] }
    else latLaunch s tag q

/-- The combine tag (R525). -/
def combineTag (laddr lop lines comp epoch : Nat) : Nat :=
  (mix (mix (w64 laddr) ^^^ w64 (lop * 2 ^ 56) ^^^ w64 (lines * 2 ^ 40) ^^^ w64 (comp * 2 ^ 16) ^^^ w64 epoch)).toNat % 2 ^ 32

/-- A ring entry breaks its layout (R513, R514). -/
def entryBad (s : State) (n : Nat) : Bool :=
  let lop := bits n 0 8
  let lines := bits n 192 16
  let loc := bits n 128 64
  decide (lop < 1) || decide (5 < lop) || decide (3 < bits n 8 8) || decide (63 < bits n 24 8) || decide (1023 < bits n 32 16) ||
  decide (2 ^ 56 ≤ bits n 64 64) || bits n 208 16 != 0 || bits n 448 64 != 0 ||
  (if lop ≤ 2 then decide (lines < 1) || decide (64 < lines) || bits n 64 64 % 64 != 0 || loc % 64 != 0 ||
      !(List.range (cdiv (loc % 65536 + 64 * lines) 65536)).all (fun j => mapped s (loc / 65536 * 65536 + j * 65536))
    else lines != 1 || bits n 64 64 % 8 != 0)

/-- The engine takes entry `i` of ring `n`: a malformed one ends at once, another becomes a request. -/
def latTake (s : State) (n i : Nat) : Option State :=
  let v := memNat s (ringAddr s n i) 64
  let lop := bits v 0 8
  let comp := bits v 32 16
  let lines := bits v 192 16
  let loc := bits v 128 64
  let epoch := if bits v 48 16 = 0 then (cmpOf s comp).cur else bits v 48 16
  let comb := bits v 8 1 == 1 && fbit s F.LAT_CTL_COMBINE_EN 0 && (lop == 1 || lop == 3)
  let tag := (s.fresh + 1) % 2 ^ 32
  let item := if bits v 9 1 = 1 then some (bits v 224 32) else none
  let k : LPkt :=
    { lop := lop, tenant := bits v 24 8, combine := comb, lines := lines, tag := tag, laddr := bits v 64 64, epoch := epoch, comp := comp
      ctag := if comb then combineTag (bits v 64 64) lop lines comp epoch else 0 }
  let q : LatReq := { ring := n, idx := i, rank := laRank (bits v 64 64), p := k, loc := loc, item := item }
  if entryBad s v then some (latFinish (fset s F.LAT_ERR_RING_FORMAT 0) tag { q with p := {} } laMALFORMED [])
  else
    let s1 := bump s
    if lop = 2 then
      match badLineIn s loc (64 * lines) with
      | some l => some (latFinish (lineFailure s1 6 1 l) tag q laBADLINE [])
      | none => latIssue s1 tag { q with p := { k with data := memBytes s loc (64 * lines) } }
    else if 3 ≤ lop then
      latIssue s1 tag { q with p := { k with data := toBytes 8 (bits v 256 64) ++ toBytes 8 (bits v 320 64) ++ List.replicate 48 0 } }
    else latIssue s1 tag q

/-- The head of a ring is read: an entry marked 0xFF is taken and HEAD moves on. -/
def ringHead (s : State) (n : Nat) : State :=
  let i := fget s F.LAT_RING_HEAD_HEAD n
  let a := ringAddr s n i
  if !fbit s F.LAT_CTL_EN 0 || !fbit s F.LAT_RING_HEAD_EN n || !lineOk s a || memNat s (a + 2) 1 != 255 then s
  else match latTake s n i with
    | none => s
    | some s => fput s F.LAT_RING_HEAD_HEAD n ((i + 1) % (fget s F.LAT_RING_ENTRIES_M1 n + 1))

/-- RING_POLL: one entry of each enabled ring, in ascending ring number. -/
def execRingPoll (s : State) : Host.Outcome State Fault Refusal := .next ((List.range 8).foldl ringHead s)

/-- LAT_DOORBELL: the heads of the named rings at once. -/
def latDoorbell (s : State) (val : Word) : State := (List.range 8).foldl (fun s n => if bbit val n then ringHead s n else s) s

def execLatDoorbell (val : Word) (s : State) : Host.Outcome State Fault Refusal :=
  .next (regGate s .LAT_DOORBELL 0 (fun s => latDoorbell s val))

/-! ### Answers and loss (R514, R519, R531, R539) -/

/-- A packet that answers or steers: what comes before its work, the answer to a malformed one (R440), and the rank of its
sender. -/
def latPlain (s : State) (r : LRx) (k : State → Nat → State) : State :=
  match latArrive s r with
  | (s, none) => s
  | (s, some peer) =>
    if !r.ok then
      sendNack (fset s F.FAB_ERR_MALFORMED_RX 0) peer { cls := r.p.cls, tenant := r.p.tenant, psn := r.p.lsn, epoch := r.p.epoch, comp := r.p.comp }
        fsMALFORMED 0 0
    else match rankOf s r.p.src with
      | some n => k s n
      | none => s

/-- A RESP ends its request, sends it again, or follows a REDIRECT once. -/
def latResp (s : State) (n : Nat) (p : LPkt) : State :=
  match latReq s p.tag with
  | none => s
  | some q =>
    if q.rank ≠ n then s
    else
      let s := meter s q.p.tenant 2 p.data.length
      if p.status = laREDIRECT ∧ !q.redirected then
        let s := latLeave s p.tag q
        let q := { q with rank := laRank p.laddr, redirected := true, tries := 0, p := { q.p with laddr := p.laddr } }
        match latIssue s p.tag q with
        | some s => s
        | none => latFinish s p.tag q laBUSY []
      else if p.status = laBUSY ∧ q.tries + 1 < fget s F.LAT_TIMER_RETRY_MAX 0 then
        latPut s p.tag { q with busy := true, tries := q.tries + 1 }
      else latEnd s p.tag q p.status p.data

def execLatticeResp (r : LRx) (s : State) : Host.Outcome State Fault Refusal := .next (latPlain s r (fun s n => latResp s n r.p))

/-- Unanswered ordered requests of a member go out again, from LSN `e` on when one is given. -/
def latAgain (s : State) (r : Nat) (e : Option Nat) : State :=
  let l := (lrank s r).un.filterMap (fun tag => (latReq s tag).map (fun q => (tag, q)))
  let l := l.filter (fun x => !x.2.busy && (match e with
    | some e => decide ((x.2.p.lsn + 2 ^ 32 - e) % 2 ^ 32 < 2 ^ 31)
    | none => true))
  l.foldl (fun s x => latSend s r { x.2.p with retx := true }) s

def execLack (r : LRx) (s : State) : Host.Outcome State Fault Refusal :=
  .next (latPlain s r (fun s n => latAgain s n (some r.p.lsn)))

/-- A member goes DOWN (R531): its LOADs end UNREACHABLE, its STOREs and atomics IN_DOUBT. -/
def memberDown (s : State) (r : Nat) : State :=
  let s := fset (fput s F.LAT_DOWN_RANKS 0 (setBits (fget s F.LAT_DOWN_RANKS 0) r 1 1)) F.LAT_ERR_MEMBER_DOWN 0
  let s := latStat (fput s F.LAT_MEMBER_STATE r 0)
  let l := s.lat.reqs.filter (fun e => e.2.rank == r)
  let s := fsetIf s (l.any (fun e => e.2.p.lop != 1)) F.LAT_ERR_IN_DOUBT 0
  let s := { s with lat := { s.lat with reqs := s.lat.reqs.filter (fun e => e.2.rank != r) } }
  let s := lrankPut s r { lrank s r with un := [], wait := [] }
  l.foldl (fun s e => latFinish s e.1 e.2 (if e.2.p.lop = 1 then laUNREACH else laINDOUBT) []) s

/-- LATTICE_TIMEOUT: RTO_US has expired for a request. A request refused BUSY goes out as a new one of its stream; any other
is sent again with its stream, until RETRY_MAX expiries take the member DOWN. -/
def latTimeout (s : State) (tag : Nat) : State :=
  match latReq s tag with
  | none => s
  | some q =>
    if q.busy then
      let q := { q with busy := false }
      if q.p.combine then latSend (latPut s tag q) q.rank q.p
      else
        let x := lrank s q.rank
        latLaunch (lrankPut s q.rank { x with un := x.un.filter (· != tag) }) tag q
    else if fget s F.LAT_TIMER_RETRY_MAX 0 ≤ q.tries + 1 then memberDown s q.rank
    else
      let s := changePath (latPut s tag { q with tries := q.tries + 1 }) q.rank
      if q.p.combine then latSend s q.rank { q.p with retx := true } else latAgain s q.rank none

def execLatticeTimeout (tag : Nat) (s : State) : Host.Outcome State Fault Refusal := .next (latTimeout s tag)

/-! ### Probing (R511, R531) -/

/-- LPROBE_TIMER: an enabled member that is not UP is probed, from announce on. -/
def lprobeTimer (s : State) (r : Nat) : State :=
  let ph := fget s F.GLB_STAT_PHASE 0
  if !rankOn s r || ownRank s r || rankUp s r || (ph != 11 && ph != 12) then s
  else latSend (fput s F.LAT_MEMBER_STATE r 1) r { lop := 10, lsn := (lrank s r).lsn }

def execLprobeTimer (rank : Fin 64) (s : State) : Host.Outcome State Fault Refusal := .next (lprobeTimer s rank)

/-- Both ordered streams with a member restart at an LSN: unanswered requests take their numbers from it, in order. -/
def restartStreams (s : State) (r l : Nat) : State :=
  let x := lrank s r
  let s := (List.range x.un.length).foldl (fun s i => match latReq s (x.un.getD i 0) with
    | some q => latPut s (x.un.getD i 0) { q with p := { q.p with lsn := (l + i) % 2 ^ 32 } }
    | none => s) s
  lrankPut (expectPut s r l) r { lrank s r with lsn := (l + x.un.length) % 2 ^ 32 }

def execLprobe (r : LRx) (s : State) : Host.Outcome State Fault Refusal :=
  .next (latPlain s r (fun s n => latSend (restartStreams s n r.p.lsn) n { lop := 11, lsn := r.p.lsn }))

/-- LPROBE_REPLY: the member is UP and both streams restart. -/
def lprobeReply (s : State) (n l : Nat) : State :=
  let s := fput s F.LAT_DOWN_RANKS 0 (setBits (fget s F.LAT_DOWN_RANKS 0) n 1 0)
  restartStreams (latStat (fput s F.LAT_MEMBER_STATE n 2)) n l

def execLprobeReply (r : LRx) (s : State) : Host.Outcome State Fault Refusal :=
  .next (latPlain s r (fun s n => lprobeReply s n r.p.lsn))

/-! ### Windows (R530, R543) -/

/-- A window may be enabled: mapped, and within one tier and one stack. -/
def latWinFits (s : State) (n : Nat) (val : Word) : Bool :=
  let a := fget s F.LAT_WIN_BASE_BASE n / 65536 * 65536
  let k := bget val 0 34
  k != 0 && decide (a + k * 65536 ≤ 2 ^ 50) && addrTier a == addrTier (a + k * 65536 - 1) &&
  (addrTier a != 0 || addrStack a == addrStack (a + k * 65536 - 1)) && mapped s a && mapped s (a + (k - 1) * 65536) &&
  (addrTier a == 0 || (List.range k).all (fun j => mapped s (a + j * 65536)))

/-- A write to LAT_WINn_CTL. -/
def latWinCtl (s : State) (n : Nat) (val : Word) : State :=
  let keep : Word := w64 (bget val 0 34 + bget val 49 15 * 2 ^ 49)
  if fbit s F.LAT_WIN_CTL_EN n then
    if bbit val 63 then fset s F.LAT_ERR_CFG_BUSY 0
    else
      let s := fput s F.LAT_WIN_CTL_EN n 0
      { s with lat := { s.lat with unpin := s.lat.unpin ++ [n] } }
  else if bbit val 63 && !latWinFits s n val then fset s F.LAT_ERR_CFG_BUSY 0
  else rput s .LAT_WIN_CTL n keep

def execLatWinCtl (n : Fin 16) (val : Word) (s : State) : Host.Outcome State Fault Refusal :=
  .next (regGate s .LAT_WIN_CTL n (fun s => latWinCtl s n val))

/-- WINDOW_UNPIN: every request that passed a disabled window has ended, so its pins are released. -/
def execWindowUnpin (n : Fin 16) (s : State) : Host.Outcome State Fault Refusal :=
  .next { s with lat := { s.lat with unpin := s.lat.unpin.filter (· != n.val) } }

/-! ### The aperture (R512, R654, R655) -/

/-- An aperture access that is taken: one ordered request of one line with COMP and TENANT of LAT_HOST. -/
def aperIssue (s : State) (off len lop : Nat) (data : List Byte) : State :=
  let tag := (s.fresh + 1) % 2 ^ 32
  let a := fget s F.HST_APER_BASE 0 * 2 ^ 36 + off
  let comp := fget s F.LAT_HOST_COMP 0
  let s := bump s
  let s := { s with host := { s.host with aper := nset s.host.aper tag { write := lop == 2, off := off, len := len } } }
  let k : LPkt := { lop := lop, tenant := fget s F.LAT_HOST_TENANT 0, lines := 1, tag := tag, laddr := a / 64 * 64,
                    epoch := (cmpOf s comp).cur, comp := comp, data := data }
  if !fbit s F.LAT_CTL_EN 0 then s
  else (latIssue s tag { ring := 8, rank := laRank a, p := k }).getD s

/-- APERTURE_READ: 1 to 64 bytes within a line; any other read returns all ones. -/
def aperRead (s : State) (off len : Nat) : State :=
  if len = 0 ∨ 64 < off % 64 + len ∨ 2 ^ 36 ≤ off then
    hstErr { s with out := { s.out with aperData := List.replicate len 0xFF } } F.HST_ERR_APER
  else aperIssue s off len 1 []

def execApertureRead (off len : Nat) (s : State) : Host.Outcome State Fault Refusal := .next (aperRead s off len)

/-- APERTURE_WRITE: exactly one aligned line; any other write is discarded. -/
def aperWrite (s : State) (off : Nat) (data : List Byte) : State :=
  if data.length ≠ 64 ∨ off % 64 ≠ 0 ∨ 2 ^ 36 ≤ off then hstErr s F.HST_ERR_APER else aperIssue s off 64 2 data

def execApertureWrite (off : Nat) (data : List Byte) (s : State) : Host.Outcome State Fault Refusal := .next (aperWrite s off data)

/-- APERTURE_TIMEOUT: an access without its RESP completes as UNREACHABLE; a RESP that comes later finds nothing. -/
def execApertureTimeout (tag : Nat) (s : State) : Host.Outcome State Fault Refusal := .next (aperDone s tag laUNREACH [])

end Sys2Proof.Machine
end

