-- ==== Sys2Proof/Machine/Composition.lean ====
section
/-!
DEFINITION. Composition commands and the life of an epoch (R532-R538, R629), and metering (R541, R542).
-/

namespace Sys2Proof.Machine

/-- A command ends: result, composition, number, and the CMP completion interrupt. -/
def cmpEnd (s : State) (res c : Nat) : State :=
  let s := { s with cmp := { s.cmp with cmds := s.cmp.cmds.drop 1 } }
  irq (finc (fput (fput s F.CMP_CMD_STAT_RESULT 0 res) F.CMP_CMD_STAT_COMP 0 c) F.CMP_CMD_STAT_SEQ 0) 0 13

/-- The queue is held: EN is 0, or in a pool the device is not DISCOVERED (R629). -/
def cmpHeld (s : State) : Bool := !fbit s F.CMP_CTL_EN 0 || (!standalone s && !fbit s F.GLB_STAT_DISCOVERED 0)

/-- Commands with a reserved OP that reach the head of the queue end FORMAT (R26, R534). -/
def cmpReserved (s : State) : Nat → State
  | 0 => s
  | n + 1 =>
    if cmpHeld s then s
    else match s.cmp.cmds with
      | [] => s
      | c :: _ =>
        let op := bget c.cmd1 60 4
        if 1 ≤ op ∧ op ≤ 5 then s else cmpReserved (cmpEnd s 3 (bget c.cmd0 0 10)) n

/-- A command ends, and the next one comes to the head of the queue. -/
def cmpDone (s : State) (res c : Nat) : State := cmpReserved (cmpEnd s res c) 16

/-- The first queued command when its OP is `op`. -/
def cmpHead (s : State) (op : Nat) : Option CmpCmd :=
  if cmpHeld s then none
  else s.cmp.cmds.head?.filter (fun c => bget c.cmd1 60 4 == op)

def ccComp (c : CmpCmd) : Nat := bget c.cmd0 0 10

/-- A composition that a command finds open. -/
def isOpen (s : State) (c : Nat) : Bool := (cmpOf s c).open' && (cmpBadLine s c).isNone

/-- A map takes the slots of another map of the composition. -/
def copyMap (s : State) (c src dst : Nat) : State :=
  let a := mapAddr s c src 0
  let b := mapAddr s c dst 0
  let cells := s.mem.filter (fun e => decide (a ≤ e.1) && decide (e.1 < a + 32768))
  let s := zeroRange s b 32768
  { s with mem := cells.foldl (fun m e => nput memDefault m (b + (e.1 - a)) e.2) s.mem }

/-- OPEN: the current epoch is EPOCH and every slot of the three maps EMPTY. -/
def cmpOpenCmd (s : State) (c : CmpCmd) : State :=
  let i := ccComp c
  if isOpen s i then cmpDone s 1 i
  else
    let s := zeroRange s (mapAddr s i 0 0) 98304
    cmpDone (cmpPut s i { open' := true, cur := bget c.cmd0 48 16, committed := s.now, lastOld := s.now }) 0 i

def execCmpOpen (s : State) : Host.Outcome State Fault Refusal :=
  .next (match cmpHead s 1 with
    | some c => cmpOpenCmd s c
    | none => s)

/-- A member entry with a reserved field that is not 0, or a reserved KIND (R532, R534). -/
def entryFormat (v : Nat) : Bool :=
  bits v 80 48 == 0 && bits v 75 5 == 0 && decide (mKind v ≤ 2) && decide (bits v 56 8 ≤ 3) &&
  (if mKind v = 2 then mBase v % 65536 == 0 && mLen v % 65536 == 0 else mBase v == 0 && mLen v == 0)

/-- STAGE writes one slot of the staging map. -/
def cmpStageCmd (s : State) (c : CmpCmd) : State :=
  let i := ccComp c
  if !isOpen s i then cmpDone s 1 i
  else if !entryFormat c.stage then cmpDone s 3 i
  else cmpDone (memPut s (mapAddr s i 2 (bget c.cmd0 32 10)) 32 c.stage) 0 i

def execCmpStage (s : State) : Host.Outcome State Fault Refusal :=
  .next (match cmpHead s 2 with
    | some c => cmpStageCmd s c
    | none => s)

/-- The MAP entries of a COMMIT, which half A's journal carries: every slot below MEMBERS (R548). -/
def mapEnts (s : State) (c epoch : Nat) : List JEntry :=
  (List.range (max 1 (cmpMembers s c))).map (fun i =>
    { typ := 7, count := 1, obj := c, arg := epoch + i * 2 ^ 16, data := member s c 0 i })

/-- COMMIT: current becomes previous, staging becomes current at the next epoch, and stays as a copy. -/
def cmpCommitCmd (s : State) (c : CmpCmd) : State :=
  let i := ccComp c
  let x := cmpOf s i
  if !isOpen s i then cmpDone s 1 i
  else if x.prevValid then cmpDone s 2 i
  else
    let s := copyMap (copyMap s i 0 1) i 2 0
    let e := (x.cur + 1) % 65536
    let s := cmpPut s i { x with prev := x.cur, prevValid := true, cur := e, committed := s.now, lastOld := s.now }
    cmpDone (journal s 0 (mapEnts s i e)) 0 i

def execCmpCommit (s : State) : Host.Outcome State Fault Refusal :=
  .next (match cmpHead s 3 with
    | some c => cmpCommitCmd s c
    | none => s)

/-- The previous epoch retires (R537). -/
def retireEpoch (s : State) (c : Nat) : State := cmpPut s c { cmpOf s c with prevValid := false }

/-- RETIRE: at once. -/
def cmpRetireCmd (s : State) (c : CmpCmd) : State :=
  let i := ccComp c
  if (cmpOf s i).prevValid then cmpDone (retireEpoch s i) 0 i else cmpDone s 1 i

def execCmpRetire (s : State) : Host.Outcome State Fault Refusal :=
  .next (match cmpHead s 4 with
    | some c => cmpRetireCmd s c
    | none => s)

/-- CLOSE: from now on requests are refused. -/
def cmpCloseCmd (s : State) (c : CmpCmd) : State :=
  let i := ccComp c
  if !isOpen s i then cmpDone s 1 i else cmpDone (cmpPut s i { cmpOf s i with closing := true }) 0 i

def execCmpClose (s : State) : Host.Outcome State Fault Refusal :=
  .next (match cmpHead s 5 with
    | some c => cmpCloseCmd s c
    | none => s)

/-! ### The old count (R537) -/

/-- Requests of the previous epoch sent and not seen answered, and message-table entries and requests held for it. -/
def oldCount (s : State) (c : Nat) : Nat :=
  let x := cmpOf s c
  let e := x.prev
  if !x.prevValid then 0
  else
    (s.fab.msgs.filter (fun m => m.2.comp == c && m.2.epoch == e && m.2.closed.isNone && !m.2.dead)).length +
    (s.fab.ops.filter (fun o => o.2.kind == 3 && o.2.head.comp == c && o.2.head.epoch == e)).length +
    (s.lat.reqs.filter (fun q => q.2.p.comp == c && q.2.p.epoch == e)).length +
    (s.fab.rx.filter (fun m => !m.2.done && m.2.comp == c && m.2.epoch == e)).length +
    (s.bnk.slots.filter (fun q => q.2.comp == c && q.2.epoch == e)).length +
    (s.fab.rows.filter (fun r => let h := rowHdr (ofBytes (r.2.2.take 64)); h.comp == c && h.epoch == e && tMembers s h.table != 1)).length

/-- COMPOSITION_CLOSED: a closing composition whose old count is 0 closes (R534). -/
def compositionClosed (s : State) (c : Nat) : State :=
  if (cmpOf s c).closing ∧ oldCount s c = 0 then cmpPut s c {} else s

def execCompositionClosed (c : Fin 1024) (s : State) : Host.Outcome State Fault Refusal := .next (compositionClosed s c)

/-- EPOCH_RETIRE: after QUIET_MS without old work, or RETIRE_MS after the commit (R537). -/
def epochRetire (s : State) (c : Nat) : State :=
  let x := cmpOf s c
  let quiet := oldCount s c == 0 && decide (x.lastOld + fget s F.CMP_TIMER_QUIET_MS 0 * 1000000 ≤ s.now)
  if x.prevValid ∧ (quiet ∨ x.committed + fget s F.CMP_TIMER_RETIRE_MS 0 * 1000000 ≤ s.now) then retireEpoch s c else s

def execEpochRetire (c : Fin 1024) (s : State) : Host.Outcome State Fault Refusal := .next (epochRetire s c)

/-! ### Metering (R541, R542) -/

/-- Stack frames that each tenant's contexts and LIVE objects hold: FRAME_MS grows by them. -/
def meterTick (s : State) : State :=
  let s := s.ctx.foldl (fun s e => meter s (dg e.2.d D.TENANT) 7 (privatePages s e.1).length) s
  (objIdxs s).foldl (fun s o =>
    let v := obj s o
    if oState v = 1 then meter s (bits v 24 8) 7 ((objFrames s o).filter (fun k => k / 2 ^ 32 == 0)).length else s) s

def execMeterTick (s : State) : Host.Outcome State Fault Refusal := .next (meterTick s)

/-- A write of GO starts a snapshot; while one is under way it is discarded. -/
def mtrSnap (s : State) (val : Word) : State :=
  if bbit val 0 && !fbit s F.CMP_MTR_SNAP_BUSY 0 then fset s F.CMP_MTR_SNAP_BUSY 0 else s

def execCmpMtrSnap (val : Word) (s : State) : Host.Outcome State Fault Refusal :=
  .next (regGate s .CMP_MTR_SNAP 0 (fun s => mtrSnap s val))

/-- The snapshot ends: every counter as it stands at one global time. -/
def meterSnapshot (s : State) : State :=
  if !fbit s F.CMP_MTR_SNAP_BUSY 0 then s
  else
    let s := (List.range 512).foldl (fun s i => fput s F.CMP_MTR_VALUE i (nget (fun _ => 0) s.meter i)) s
    fput (fput s F.CMP_MTR_TIME_TIME 0 (timeNs s)) F.CMP_MTR_SNAP_BUSY 0 0

def execMeterSnapshotDone (s : State) : Host.Outcome State Fault Refusal := .next (meterSnapshot s)

end Sys2Proof.Machine
end

