-- ==== Sys2Proof/Machine/Flash.lean ====
section
/-!
DEFINITION. The flash tier (10_flash_tier.md): mount and format (R404, R410, R415-R418), the journal and checkpoints
(R412-R414), reads and programs of units (R405-R407, R413), relocation by reclaim, refresh and retirement (R419-R427), the
patrol (R424), the commands (R431) and the health log (R429).
-/

namespace Sys2Proof.Machine

/-! ### Media (R401-R404) -/

def flsChan (s : State) (ch : Nat) : FlsChan := nget (fun _ => {}) s.flash.media.chan ch

def flsMed (s : State) (f : FlsMedia → FlsMedia) : State := { s with flash := { s.flash with media := f s.flash.media } }

def flsLog (s : State) (f : FlsLog → FlsLog) : State := flsMed s (fun m => { m with log := f m.log })

/-- A counter of the health log saturates (R429). -/
def sat (w n k : Nat) : Nat := min (n + k) (2 ^ w - 1)

/-- Blocks of one channel, the bad ones included. -/
def chBlocks (c : FlsChan) : Nat := c.targets * c.luns * c.blocks

/-- Key of the `i`-th block of a channel. -/
def blkAt (c : FlsChan) (ch i : Nat) : Nat :=
  let lun := i / max c.blocks 1
  ch * 2 ^ 32 + lun / max c.luns 1 * 2 ^ 16 + lun % max c.luns 1 * 2 ^ 14 + i % max c.blocks 1

/-- The block key names a block of the geometry. -/
def blkIn (c : FlsChan) (k : Nat) : Bool :=
  decide (bits k 16 4 < c.targets) && decide (bits k 14 2 < c.luns) && decide (bits k 0 14 < c.blocks)

/-- A factory bad block. -/
def blkBad (s : State) (k : Nat) : Bool := (flsChan s (k / 2 ^ 32)).bad.contains (k % 2 ^ 20)

/-- A system block: one of the first 8 good blocks of its LUN. -/
def blkSys (s : State) (k : Nat) : Bool :=
  let bad := (flsChan s (k / 2 ^ 32)).bad.filter (fun b => b / 2 ^ 14 == k % 2 ^ 20 / 2 ^ 14)
  !blkBad s k && decide (k % 2 ^ 14 - (bad.filter (fun b => decide (b < k % 2 ^ 20))).length < 8)

/-- Listed blocks of a channel. -/
def chList (s : State) (ch : Nat) : List (Nat × FlsBlk) := s.flash.media.blk.filter (fun e => e.1 / 2 ^ 32 == ch)

def chGood (s : State) (ch : Nat) : Nat := chBlocks (flsChan s ch) - (flsChan s ch).bad.length

def chSys (s : State) (ch : Nat) : Nat := 8 * (flsChan s ch).targets * (flsChan s ch).luns

def chRetired (s : State) (ch : Nat) : Nat := ((chList s ch).filter (fun e => e.2.st == 6)).length

/-- Free erased blocks of a channel. -/
def chFree (s : State) (ch : Nat) : Nat := chGood s ch - chSys s ch - ((chList s ch).filter (fun e => e.2.st != 0)).length

/-- Logical units of a channel (R410). -/
def chUnits (s : State) (ch : Nat) : Nat :=
  (chGood s ch - chSys s ch) * (flsChan s ch).pages * (1000 - fget s F.FLS_FORMAT_OP_PERMIL 0) / 1000

/-- Spare blocks of a channel (R427). -/
def chSpare (s : State) (ch : Nat) : Nat :=
  chGood s ch - cdiv (nget (fun _ => 0) s.flash.media.units ch) (max (flsChan s ch).pages 1) - chSys s ch -
    fget s F.FLS_RECLAIM_FREE_HIGH 0 - chRetired s ch

/-- The channel registers follow the blocks; a channel with no spare makes the tier READ_ONLY (R427). -/
def flsStat (s : State) (ch : Nat) : State :=
  let s := fput s F.FLS_CH_FREE ch (min (chFree s ch) (2 ^ 20 - 1))
  let s := fput s F.FLS_CH_SPARE ch (min (chSpare s ch) (2 ^ 20 - 1))
  let s := fput s F.FLS_CH_RETIRED ch (min (chRetired s ch) (2 ^ 20 - 1))
  if fget s F.FLS_STAT_STATE 0 = 2 ∧ chSpare s ch = 0 then fset (fput s F.FLS_STAT_STATE 0 3) F.FLS_ERR_READ_ONLY 0 else s

def flsStatAll (s : State) : State := (List.range 16).foldl flsStat s

/-- Every channel is present and the geometry meets the limits (R404). -/
def geometryOk (s : State) : Bool :=
  let c := flsChan s 0
  (List.range 16).all (fun ch =>
    let d := flsChan s ch
    d.speed != 0 && d.targets == c.targets && d.luns == c.luns && d.planes == c.planes && d.blocks == c.blocks &&
    d.pages == c.pages && d.main == c.main && d.spare == c.spare) &&
  c.main == 16384 && decide (1184 ≤ c.spare) && decide (c.planes ≤ 2) && decide (c.pages ≤ 4096) && decide (c.blocks ≤ 16383) &&
  decide (1 ≤ c.luns) && decide (c.luns ≤ 4) && decide (1 ≤ c.targets) && decide (c.targets ≤ 16) &&
  decide (16 * chBlocks c * c.pages * 16384 ≤ 128000000000000)

/-- FLS_GEOM and CH_OK as the mount finds them. -/
def showGeometry (s : State) : State :=
  let c := flsChan s 0
  let s := fput s F.FLS_STAT_CH_OK 0 ((List.range 16).foldl (fun n ch => n + (if (flsChan s ch).speed = 0 then 0 else 2 ^ ch)) 0)
  let s := fput (fput (fput s F.FLS_GEOM_TARGETS_M1 0 (c.targets - 1)) F.FLS_GEOM_LUNS_M1 0 (c.luns - 1)) F.FLS_GEOM_PLANES 0 c.planes
  fput (fput (fput s F.FLS_GEOM_BLOCKS 0 c.blocks) F.FLS_GEOM_PAGES 0 c.pages) F.FLS_GEOM_SPARE_BYTES 0 (min c.spare 8191)

/-- Seconds mounted over the media's life. -/
def powerOnS (s : State) : Nat := s.flash.media.log.powerOn + (if flashUp s then (timeMs s - s.flash.mountT) / 1000 else 0)

/-! ### Format and mount (R410, R415-R418) -/

/-- Logical units that exist on the media. -/
def allUnits (s : State) : List Nat := List.range (4 * s.flash.media.frames)

/-- The entries of some units as the map in device memory shows them (R408). -/
def showMap (s : State) (sel : Nat → Bool) : State :=
  ((allUnits s).filter sel).foldl (fun s L => flsEntPut s L (flsMap s L)) s

/-- Every unit is UNMAPPED and every good block is erased, but for RETIRED ones when the block table is kept; the frame count is
fixed anew, and a new MEDIA key is drawn (R417, R431, R667). -/
def flsFormat (s : State) (keep : Bool) : State :=
  let k := s.fresh + 1
  let s := { s with
    fresh := k
    keys := { s.keys with media := k }
    mem := s.mem.filter (fun e => addrTier e.1 != 2)
    syn := s.syn.filter (fun e => addrTier (64 * e.1) != 2)
    flash := { s.flash with map := [], half := [], wr := [], work := [], copied := [], reclaiming := [] } }
  let s := flsMed s (fun m => { m with
    roots := []
    key := k
    kek := s.keys.kek
    pages := []
    pbase := []
    page := []
    blk := if keep then m.blk.filterMap (fun e =>
      if e.2.st = 6 then some e else if e.2.erases ≠ 0 then some (e.1, { erases := e.2.erases }) else none) else [] })
  let units := (List.range 16).filterMap (fun ch => if chUnits s ch = 0 then none else some (ch, chUnits s ch))
  let least := (List.range 16).foldl (fun n ch => min n (chUnits s ch)) (chUnits s 0)
  let s := flsMed s (fun m => { m with units := units, frames := 4 * least })
  let spare := (List.range 16).filterMap (fun ch => if chSpare s ch = 0 then none else some (ch, chSpare s ch))
  showMap (flsMed s (fun m => { m with spare0 := spare })) (fun _ => true)

/-- The tier is MOUNTED: LOGICAL is the frame count. -/
def flsMounted (s : State) : State :=
  let s := fput (fput s F.FLS_STAT_STATE 0 2) F.FLS_FORMAT_LOGICAL 0 s.flash.media.frames
  let s := fput s F.FLS_STAT_FRESH 0 (b2n s.flash.media.fresh)
  let now := timeMs s
  flsStatAll { s with flash := { s.flash with
    mountT := now
    half := (List.range 2).map (fun h => (h, { flsHalf s h with ckptT := now })) } }

/-- The map after a root and the journal pages that can be read (R415). -/
def replay (m : NMap Nat) (ps : List (List (Nat × Nat))) : NMap Nat :=
  ps.flatten.foldl (fun (m : NMap Nat) (e : Nat × Nat) => if e.1 < 2 ^ 40 then nput (fun _ => flsUNMAPPED) m e.1 e.2 else m) m

/-- The value of a block in a journal entry: state, erase count, and close time. -/
def blkValue (b : FlsBlk) : Nat := b.st % 8 + 8 * (b.erases % 2 ^ 40) + 2 ^ 43 * b.closed

/-- The block table after a root and the journal pages that can be read (R415). -/
def replayBlks (m : NMap FlsBlk) (ps : List (List (Nat × Nat))) : NMap FlsBlk :=
  ps.flatten.foldl (fun (m : NMap FlsBlk) (e : Nat × Nat) =>
    if e.1 < 2 ^ 40 then m
    else nupd (fun _ => ({} : FlsBlk)) m (e.1 - 2 ^ 40) (fun b =>
      { b with st := e.2 % 8, erases := e.2 / 8 % 2 ^ 40, closed := e.2 / 2 ^ 43, reads := if e.2 % 8 = 0 then 0 else b.reads })) m

/-- The newest of the root records that a mount finds valid (R415). -/
def newest (l : NMap FlsRoot) : Option (Nat × FlsRoot) :=
  l.foldl (fun b e => match b with
    | none => some e
    | some d => if d.2.seq < e.2.seq then some e else some d) none

def rootFound (s : State) (o : MountObs) : Option FlsRoot :=
  (newest (s.flash.media.roots.filter (fun e => if e.1 = 0 then o.rootA else o.rootB))).map (·.2)

/-- The journal pages of a half that a root needs, up to the first that cannot be read. -/
def pagesFrom (m : FlsMedia) (r : FlsRoot) (h good : Nat) : List (List (Nat × Nat)) :=
  ((nget (fun _ => []) m.pages h).drop (nget (fun _ => 0) r.first h - nget (fun _ => 0) m.pbase h)).take good

/-- The map that a mount restores from a root: of both halves, or of the half that was reset alone, beside the other's (R415, R613). -/
def restored (s : State) (r : FlsRoot) (o : MountObs) : NMap Nat :=
  let m := s.flash.media
  let a := replay r.map (pagesFrom m r 0 o.pagesA)
  let b := replay a (pagesFrom m r 1 o.pagesB)
  match s.flash.part with
  | none => b
  | some h => (b.filter (fun e => flsHalfOf e.1 == h)).foldl (fun n e => nset n e.1 e.2) (s.flash.map.filter (fun e => flsHalfOf e.1 != h))

/-- The first page of a block that has not been programmed. -/
def nextOf (m : FlsMedia) (k : Nat) : Nat :=
  m.page.foldl (fun n e => if e.1 / 2 ^ 32 = k / 2 ^ 32 ∧ e.1 % 2 ^ 32 / 4096 = k % 2 ^ 32 then max n (e.1 % 4096 + 1) else n) 0

/-- The block table that a mount restores (R415): queues and read marks are gone, and the next page of an open block is found on the
media. -/
def restoredBlks (s : State) (r : FlsRoot) (o : MountObs) : NMap FlsBlk :=
  let m := s.flash.media
  let t := replayBlks (replayBlks r.blk (pagesFrom m r 0 o.pagesA)) (pagesFrom m r 1 o.pagesB)
  let ks := (t.map (fun (e : Nat × FlsBlk) => e.1) ++ m.page.map (fun (e : Nat × NMap Byte) => e.1 / 4096)).eraseDups
  let other (k : Nat) : Bool := s.flash.part.any (fun h => k / 2 ^ 32 / 8 != h)
  ks.foldl (fun (n : NMap FlsBlk) k =>
    if other k then n
    else
      let b := nget (fun _ => ({} : FlsBlk)) t k
      let p := nextOf m k
      let full := (b.st == 1 || b.st == 2) && decide ((flsChan s (k / 2 ^ 32)).pages ≤ p) || b.st == 0 && p != 0
      nput (fun _ => {}) n k { st := if full then 3 else b.st, erases := b.erases, reads := b.reads,
                               closed := if full then timeMs s else b.closed, next := p })
    (m.blk.filter (fun e => other e.1))

/-- First device memory address of a logical unit. -/
def unitAddr (L : Nat) : Nat := 2 * 2 ^ 48 + L * 16384

/-- Key of the media page that holds a unit at a location. -/
def pageKey (L loc : Nat) : Nat := L % 16 * 2 ^ 32 + loc

/-- The bytes that a unit's address range holds, by offset. -/
def bytesAt (s : State) (a : Nat) : NMap Byte :=
  (s.mem.filter (fun e => decide (a ≤ e.1) && decide (e.1 < a + 16384))).map (fun e => (e.1 - a, e.2))

/-- A unit delivers no data until every line of it has been written again (R407). -/
def spoilUnit (s : State) (L : Nat) : State :=
  let a := unitAddr L
  (List.range 256).foldl (fun s i => spoilLine s (a + 64 * i))
    { s with mem := s.mem.filter (fun e => !(decide (a ≤ e.1) && decide (e.1 < a + 16384))) }

/-- A unit is LOST. -/
def flsLose (s : State) (L : Nat) : State := spoilUnit (flsSet s L flsLOST) L

/-- The tier reads what the restored map names on the media: what was not journaled is not there, and a discard that was not is undone
(R409, R415). -/
def restoreData (s : State) (sel : Nat → Bool) : State :=
  let gone (a : Nat) : Bool := addrTier a == 2 && sel (unitOf a)
  let l := s.flash.map.filter (fun e => sel e.1)
  let s := { s with mem := s.mem.filter (fun e => !gone e.1), syn := s.syn.filter (fun e => !gone (64 * e.1)) }
  l.foldl (fun s e =>
    if e.2 = flsLOST then spoilUnit s e.1
    else { s with mem := (nget (fun _ => []) s.flash.media.page (pageKey e.1 e.2)).foldl
                           (fun m b => nput memDefault m (unitAddr e.1 + b.1) b.2) s.mem }) s

/-- The map, the blocks and the data of a root are restored (R415). -/
def restore (s : State) (r : FlsRoot) (o : MountObs) : State :=
  let f := s.flash
  let other (k : Nat) : Bool := f.part.any (fun h => k != h)
  let blk := restoredBlks s r o
  let f := { f with map := restored s r o, half := f.half.filter (fun e => other e.1), part := none }
  let f := { f with wr := f.wr.filter (fun L => other (flsHalfOf L)), work := f.work.filter (fun e => other (e.1 / 8)) }
  let f := { f with copied := f.copied.filter (fun e => other (flsHalfOf e.1)), reclaiming := f.reclaiming.filter (fun e => other (e.1 / 8)) }
  let whole := s.flash.part.isNone
  let s := flsMed { s with flash := f, keys := { s.keys with media := f.media.key } } (fun m =>
    { m with blk := blk, log := if whole then r.log else m.log, fresh := if whole then r.fresh else m.fresh, erases := if whole then r.erases else m.erases })
  showMap (restoreData s (fun L => !other (flsHalfOf L))) (fun L => !other (flsHalfOf L))

/-- A mount counts itself, and an unsafe shutdown when it found no clean mark (R418, R429). -/
def mountCount (s : State) (clean : Bool) : State :=
  flsMed (flsLog s (fun l => { l with mounts := sat 32 l.mounts 1, roughEnds := sat 32 l.roughEnds (b2n (!clean)) }))
    (fun m => { m with unclean := !clean })

/-- A mount ends (R404, R415-R418); a root record whose key does not unwrap ends it FAILED (R667). -/
def mountDone (s : State) (o : MountObs) : State :=
  if fget s F.FLS_STAT_STATE 0 ≠ 1 then s
  else
    let s := showGeometry s
    let m := s.flash.media
    if !geometryOk s then fset (fput s F.FLS_STAT_STATE 0 4) F.FLS_ERR_GEOMETRY 0
    else match rootFound s o with
      | some r =>
        if m.kek ≠ s.keys.kek then fset (fput s F.FLS_STAT_STATE 0 4) F.SEC_STAT_MEDIA_KEY 0
        else flsMounted (mountCount (restore s r o) r.clean)
      | none =>
        if fbit s F.FLS_CTL_FORMAT_OK 0 then
          flsMounted (mountCount (flsMed (flsFormat s false) (fun m => { m with fresh := true, erases := 0, log := {} })) false)
        else fset (fput s F.FLS_STAT_STATE 0 4) F.FLS_ERR_NO_ROOT 0

def execFlashMountDone (o : MountObs) (s : State) : Host.Outcome State Fault Refusal := .next (mountDone s o)

/-! ### Journal and checkpoints (R412-R414) -/

/-- A journal page is due: full, or FLUSH_US after its first entry (R412). -/
def journalDue (s : State) (h : Nat) : Bool :=
  let x := flsHalf s h
  decide (1020 ≤ x.jr.length) || x.jt.head?.any (fun t => decide (t + 1000 * fget s F.FLS_CKPT_FLUSH_US 0 ≤ s.now))

/-- A journal page of up to 1,020 entries is programmed. -/
def journalPage (s : State) (h : Nat) : State :=
  let x := flsHalf s h
  if !flashUp s || !journalDue s h || x.jr.isEmpty then s
  else
    let p := x.jr.take 1020
    let x := { x with jr := x.jr.drop 1020, jt := x.jt.drop 1020, jp := x.jp + p.length }
    let s := { s with flash := { s.flash with half := nput (fun _ => {}) s.flash.half h x } }
    flsMed s (fun m => { m with pages := nupd (fun _ => []) m.pages h (· ++ [p]) })

def execJournalPageProgram (h : Fin 2) (s : State) : Host.Outcome State Fault Refusal := .next (journalPage s h)

/-- Journal pages that no root needs any more are released. -/
def trimPages (m : FlsMedia) (h : Nat) : FlsMedia :=
  let b := nget (fun _ => 0) m.pbase h
  let need := (m.roots.map (fun e => nget (fun _ => 0) e.2.first h)).foldl min (b + (nget (fun _ => []) m.pages h).length)
  { m with pages := nupd (fun _ => []) m.pages h (·.drop (need - b)), pbase := nput (fun _ => 0) m.pbase h (max b need) }

/-- The root record that a checkpoint of a half writes, beside what the newest one names of the other half (R414, R417, R429). -/
def nextRoot (s : State) (h : Nat) (clean : Bool) : FlsRoot :=
  let m := s.flash.media
  let old := ((newest m.roots).map (·.2)).getD {}
  let mine (e : Nat × Nat) : Bool := flsHalfOf e.1 == h
  { seq := old.seq + 1
    clean := clean
    map := (s.flash.map.filter mine).foldl (fun k e => nset k e.1 e.2) (old.map.filter (fun e => !mine e))
    blk := m.blk
    log := { m.log with powerOn := powerOnS s }
    fresh := m.fresh && decide (m.erases < 1000)
    erases := m.erases
    first := nset old.first h (nget (fun _ => 0) m.pbase h + (nget (fun _ => []) m.pages h).length) }

/-- A checkpoint of a half: every segment that has changed, the block table, and a root record in the place of the older one (R414).
It carries the clean mark when it ends a SHUTDOWN (R418). -/
def checkpoint (s : State) (h : Nat) (clean : Bool) : State :=
  let r := nextRoot s h clean
  let slot := match newest s.flash.media.roots with
    | some (0, _) => 1
    | _ => 0
  let s := flsMed s (fun m => trimPages (trimPages { m with roots := nset m.roots slot r, fresh := r.fresh } 0) 1)
  let s := fput s F.FLS_STAT_FRESH 0 (b2n s.flash.media.fresh)
  let x := { flsHalf s h with ckptT := timeMs s }
  { s with flash := { s.flash with half := nput (fun _ => {}) s.flash.half h x } }

/-- A checkpoint of a half is due: INTERVAL_S after the latest, or at JOURNAL_MAX pages since (R414). -/
def checkpointDue (s : State) (h : Nat) : Bool :=
  let m := s.flash.media
  let since := nget (fun _ => 0) m.pbase h + (nget (fun _ => []) m.pages h).length -
    ((newest m.roots).map (fun e => nget (fun _ => 0) e.2.first h)).getD 0
  decide ((flsHalf s h).ckptT + 1000 * max 1 (fget s F.FLS_CKPT_INTERVAL_S 0) ≤ timeMs s) ||
    decide (fget s F.FLS_CKPT_JOURNAL_MAX 0 ≤ since)

def execCheckpointTimer (h : Fin 2) (s : State) : Host.Outcome State Fault Refusal :=
  .next (if flashUp s && checkpointDue s h then checkpoint s h false else s)

/-- The first write after the mark clears the clean mark (R418). -/
def markDirty (s : State) : State :=
  flsMed s (fun m => { m with roots := m.roots.map (fun e => (e.1, { e.2 with clean := false })) })

/-! ### Blocks -/

/-- Valid units of a block: the map entries that name a page of it. -/
def blkValid (s : State) (k : Nat) : List Nat :=
  (s.flash.map.filter (fun e => decide (e.2 < flsLOST) && locBlk e.1 e.2 == k)).map (·.1)

/-- A block is RETIRED (R427). -/
def retireBlk (s : State) (k : Nat) : State :=
  let ch := k / 2 ^ 32
  let s := flsJournal (flsBlkPut s k { flsBlk s k with st := 6, refresh := 0 }) (ch / 8) (2 ^ 40 + k) (blkValue (flsBlk (flsBlkPut s k { flsBlk s k with st := 6, refresh := 0 }) k))
  flsStat { s with flash := { s.flash with work := if (nfind s.flash.work ch).map (·.2) = some k then nerase s.flash.work ch else s.flash.work } } ch

/-- A block becomes RETIRING, and RETIRED at once when nothing in it is valid. -/
def retiring (s : State) (k : Nat) : State :=
  let s := flsJournal (flsBlkPut s k { flsBlk s k with st := 5, refresh := 0 }) (k / 2 ^ 32 / 8) (2 ^ 40 + k) (blkValue { flsBlk s k with st := 5 })
  if (blkValid s k).isEmpty then retireBlk s k else s

/-- A program status fail in a block: PROG_FAIL, RETIRING. -/
def programFail (s : State) (k : Nat) : State :=
  retiring (flsLog (fset s F.FLS_ERR_PROG_FAIL 0) (fun l => { l with progFails := sat 32 l.progFails 1 })) k

/-- A free block of a channel, the first in address order from the `i`-th on, among `n` of them. -/
def freeBlkFrom (s : State) (ch : Nat) : Nat → Nat → Option Nat
  | 0, _ => none
  | n + 1, i =>
    let k := blkAt (flsChan s ch) ch i
    if i < chBlocks (flsChan s ch) ∧ !blkBad s k ∧ !blkSys s k ∧ (flsBlk s k).st = 0 then some k else freeBlkFrom s ch n (i + 1)

/-- Any free block of a channel. -/
def freeBlk (s : State) (ch : Nat) : Option Nat :=
  freeBlkFrom s ch ((chList s ch).length + (flsChan s ch).bad.length + chSys s ch + 1) 0

/-- The next page for writes (1) or for relocation (2): block and page, in the open block of a LUN for writes, in the one relocation
block of the channel, or in a free block that opens (R411). Which LUN and which free block is the device's choice; when it is not free, an open block of
another LUN or the first free block serves (log entry 7). -/
def nextPage (s : State) (ch kind : Nat) : Option (Nat × Nat) :=
  let c := flsChan s ch
  let lun := choiceOf s 24 % max (c.targets * c.luns) 1
  let opened := (chList s ch).filter (fun e => e.2.st == kind)
  match opened.find? (fun e => kind == 2 || e.1 / 2 ^ 14 == blkAt c ch (lun * c.blocks) / 2 ^ 14) with
  | some (k, b) => some (k, b.next)
  | none => match freeBlkFrom s ch 1 (lun * c.blocks + choiceOf s 25 % max c.blocks 1), opened with
    | some k, _ => some (k, 0)
    | none, (k, b) :: _ => some (k, b.next)
    | none, [] => (freeBlk s ch).map (fun k => (k, 0))

/-- The page after it is used; a full block closes. -/
def usePage (s : State) (k page kind : Nat) : State :=
  let full := decide ((flsChan s (k / 2 ^ 32)).pages ≤ page + 1)
  let b := flsBlk s k
  let s := flsBlkPut (bump s) k { b with st := if full then 3 else kind, next := page + 1, closed := if full then timeMs s else b.closed }
  let s := flsMed s (fun m => { m with seq := nupd (fun _ => 0) m.seq (k / 2 ^ 32 / 8) (· + 1) })
  let s := if full ∨ page = 0 then flsJournal s (k / 2 ^ 32 / 8) (2 ^ 40 + k) (blkValue (flsBlk s k)) else s
  flsStat s (k / 2 ^ 32)

/-! ### Unit reads (R406, R407, R423) -/

/-- Key of a target. -/
def tgtKey (k : Nat) : Nat := k / 2 ^ 32 * 16 + bits k 16 4

/-- A target has completed an operation. -/
def tgtOk (s : State) (k : Nat) : State := { s with flash := { s.flash with late := nerase s.flash.late (tgtKey k) } }

/-- A block is queued for refresh; read-retry goes first (R423, R424). -/
def queueRefresh (s : State) (k kind : Nat) : State :=
  let b := flsBlk s k
  if b.st = 3 ∧ (b.refresh = 0 ∨ kind < b.refresh) then flsBlkPut s k { b with refresh := kind } else s

/-- What a read of a page of block `k` leaves: counts, and the queue of R423. -/
def readEffects (s : State) (k worst total : Nat) (good : Option Nat) : State :=
  let s := tgtOk s k
  let b := flsBlk s k
  let s := flsBlkPut s k { b with reads := b.reads + 1 }
  let retry := good != some 0
  let s := flsLog s (fun l => { l with corrected := sat 64 l.corrected total, retries := sat 64 l.retries (b2n retry), read := sat 64 l.read 1 })
  let s := if fget s F.FLS_REFRESH_READ_LIMIT 0 ≤ b.reads + 1 ∨ fget s F.FLS_REFRESH_CORR_LIMIT 0 ≤ worst then queueRefresh s k 2 else s
  if retry then queueRefresh s k 1 else s

/-- A unit that no level recovers: LOST, its block SUSPECT and queued, or RETIRING the second time (R407, R427). -/
def uncorrectable (s : State) (L k : Nat) : State :=
  let s := flsLose (fset s F.FLS_ERR_UNCORRECTABLE 0) L
  let s := flsLog s (fun l => { l with uncorr := sat 32 l.uncorr 1 })
  let b := flsBlk s k
  if b.suspect then (if b.st = 5 ∨ b.st = 6 then s else retiring s k)
  else queueRefresh (flsBlkPut s k { b with suspect := true }) k 2

/-- Moves that read unit `L` have it. -/
def markRead (s : State) (L : Nat) : State :=
  { s with tie := { s.tie with moves := s.tie.moves.map (fun e =>
      if e.2.old = 2 * 2 ^ 32 + L / 4 then (e.1, { e.2 with units := e.2.units ||| 2 ^ (L % 4) }) else e) } }

/-- A line of the map that fails its check makes its 16 units LOST (R581). -/
def mapLineCheck (s : State) (L : Nat) : State :=
  let a := flsEntAddr s L
  if synOk s a then s
  else
    let s := memWrite (lineFailure s 10 3 (a / 64 * 64)) (a / 64 * 64) (List.replicate 64 0xFF)
    let i := (L / 16 * 8 + L % 8) / 16 * 16
    (List.range 16).foldl (fun s j => flsLose s ((i + j) / 8 * 16 + flsHalfOf L * 8 + (i + j) % 8)) s

/-- The read-retry level at which a read is good: level 0 first, then the others in ascending order up to the last that the parameter
page advertises; level 0 is set again afterwards (R406). -/
def goodAt (s : State) (L : Nat) (good : Option Nat) : Option Nat := good.filter (fun n => decide (n ≤ (flsChan s (L % 16)).levels))

/-- Where a read of a unit finds it: a copy under way reads where the unit lay when it began, until the unit is discarded or LOST
(R426). -/
def readLoc (s : State) (L : Nat) : Nat :=
  let now := flsMap s L
  if flsLOST ≤ now then now
  else match s.tie.moves.find? (fun e => e.2.old == 2 * 2 ^ 32 + L / 4 && bits e.2.units (L % 4) 1 == 0) with
    | some (_, m) => m.locs.getD (L % 4) now
    | none => now

/-- A unit read ends: for an access (`k` is the unit), or for relocation (2^40 more). -/
def unitRead (s : State) (k worst total : Nat) (good : Option Nat) : State :=
  let L := k % 2 ^ 40
  let good := goodAt s L good
  if !flashUp s then s
  else
    let s := mapLineCheck s L
    let loc := readLoc s L
    let b := locBlk L loc
    if flsLOST ≤ loc ∨ 2 ^ 41 ≤ k then s
    else if 2 ^ 40 ≤ k then
      let b := locBlk L (flsMap s L)
      let loc := flsMap s L
      if (nfind s.flash.work (L % 16)).map (·.2) ≠ some b then s
      else
        let s := readEffects s b worst total good
        if good.isNone then uncorrectable s L b else { s with flash := { s.flash with copied := nset s.flash.copied L loc } }
    else
      let s := readEffects s b worst total good
      if good.isNone then uncorrectable s L b else markRead s L

def execUnitReadDone (k worst total : Nat) (goodLevel : Option Nat) (s : State) : Host.Outcome State Fault Refusal :=
  .next (unitRead s k worst total goodLevel)

/-! ### Unit programs (R413, R421, R425) -/

/-- A frame that is being moved into the tier holds the unit, or the unit was written line by line. -/
def writing (s : State) (L : Nat) : Bool :=
  s.flash.wr.contains L ||
    s.tie.moves.any (fun e => e.2.new == 2 * 2 ^ 32 + L / 4 && bits e.2.units (L % 4) 1 == 0)

/-- Where a unit's data come from: the frame that is being moved into the tier, or the lines written to it. -/
def sourceOf (s : State) (L : Nat) : Nat :=
  match s.tie.moves.find? (fun e => e.2.new == 2 * 2 ^ 32 + L / 4) with
  | some (_, m) => keyAddr m.old + L % 4 * 16384
  | none => unitAddr L

/-- A line of the source fails its check, so nothing is programmed (R405). -/
def sourceFails (s : State) (L : Nat) : Bool :=
  let a := sourceOf s L
  if a = unitAddr L then (List.range 256).any (fun i => nget (fun _ => 0) s.syn (a / 64 + i) != 0) else (badLineIn s a 16384).isSome

/-- A media page holds these bytes. -/
def pagePut (s : State) (L loc : Nat) (l : NMap Byte) : State := flsMed s (fun m => { m with page := nset m.page (pageKey L loc) l })

/-- The unit is programmed: its new location, and the writes that waited for it. -/
def written (s : State) (L loc : Nat) : State :=
  let s := flsSet (pagePut s L loc (bytesAt s (sourceOf s L))) L loc
  let s := flsLog (markDirty s) (fun l => { l with written := sat 64 l.written 1 })
  { s with
    flash := { s.flash with wr := s.flash.wr.filter (· != L) }
    tie := { s.tie with moves := s.tie.moves.map (fun e =>
      if e.2.new = 2 * 2 ^ 32 + L / 4 then (e.1, { e.2 with units := e.2.units ||| 2 ^ (L % 4) }) else e) } }

/-- A relocated copy is in place, unless the entry no longer names what was copied (R425); a RETIRING block that holds
nothing any more is RETIRED. -/
def relocated (s : State) (L loc : Nat) : State :=
  let src := nget (fun _ => flsUNMAPPED) s.flash.copied L
  let s := { s with flash := { s.flash with copied := nerase s.flash.copied L } }
  let s := flsLog (markDirty (pagePut s L loc (nget (fun _ => []) s.flash.media.page (pageKey L src)))) (fun l => { l with relocated := sat 64 l.relocated 1 })
  if flsMap s L ≠ src then s
  else
    let s := flsSet s L loc
    let old := locBlk L src
    if (flsBlk s old).st = 5 ∧ (blkValid s old).isEmpty then retireBlk s old else s

/-- A unit program ends: for a write (`k` is the unit), or for relocation (2^40 more). After a status fail the unit is
programmed again in another block, with another command. -/
def unitProgram (s : State) (k : Nat) (ok : Bool) : State :=
  let L := k % 2 ^ 40
  let reloc := decide (2 ^ 40 ≤ k)
  let ready := if reloc then (nfind s.flash.copied L).isSome else writing s L && fget s F.FLS_STAT_STATE 0 == 2 && !sourceFails s L
  if !flashUp s || !ready || decide (2 ^ 41 ≤ k) then s
  else match nextPage s (L % 16) (if reloc then 2 else 1) with
    | none => s
    | some (b, page) =>
      let s := tgtOk (usePage s b page (if reloc then 2 else 1)) b
      if !ok then programFail s b
      else
        let loc := b % 2 ^ 20 * 4096 + page
        if reloc then relocated s L loc else written s L loc

def execUnitProgramDone (k : Nat) (ok : Bool) (s : State) : Host.Outcome State Fault Refusal := .next (unitProgram s k ok)

/-! ### Reclaim, refresh, erase (R419-R427) -/

/-- Mean erase count of a channel's good blocks, rounded down. -/
def eraseMean (s : State) (ch : Nat) : Nat := (chList s ch).foldl (fun n e => n + e.2.erases) 0 / max (chGood s ch) 1

/-- Lowest and highest erase counts over the good blocks of a channel, the system blocks apart (log entry 79). -/
def eraseMin (s : State) (ch : Nat) : Nat :=
  let l := chList s ch
  if l.length < chGood s ch - chSys s ch then 0 else l.foldl (fun n e => min n e.2.erases) ((l.head?.map (·.2.erases)).getD 0)

def eraseMax (s : State) (ch : Nat) : Nat := (chList s ch).foldl (fun n e => max n e.2.erases) 0

/-- The score of a closed block (R419). -/
def flsScore (s : State) (ch : Nat) (k : Nat) (b : FlsBlk) : Int :=
  let p := max (flsChan s ch).pages 1
  let i := p - (blkValid s k).length
  let age := min 1023 ((timeMs s - b.closed) / 60000)
  ((i * (256 + age) / p : Nat) : Int) - ((fget s F.FLS_RECLAIM_WEAR 0 * (b.erases - eraseMean s ch) : Nat) : Int)

/-- The block that reclaim takes: the highest score, or the least worn one past WL_GAP (R419, R420). -/
def reclaimPick (s : State) (ch : Nat) : Option Nat :=
  let l := (chList s ch).filter (fun e => e.2.st == 3 && !blkSys s e.1 && decide ((blkValid s e.1).length < (flsChan s ch).pages))
  let worn := decide (fget s F.FLS_RECLAIM_WL_GAP 0 < eraseMax s ch - eraseMin s ch)
  let better (a b : Nat × FlsBlk) : Bool :=
    if worn then decide (a.2.erases < b.2.erases)
    else
      let x := flsScore s ch a.1 a.2
      let y := flsScore s ch b.1 b.2
      decide (y < x) || (x == y && decide (a.2.erases < b.2.erases))
  (l.foldl (fun c e => match c with
    | none => some e
    | some d => if better e d then some e else some d) none).map (·.1)

/-- Blocks that a channel relocates before any reclaim (R424). -/
def refreshPick (s : State) (ch : Nat) : Option (Nat × Nat) :=
  let l := (chList s ch).filter (fun e => !blkSys s e.1)
  match l.find? (fun e => e.2.st == 5) with
  | some (k, _) => some (3, k)
  | none =>
    if !fbit s F.FLS_CTL_REFRESH_EN 0 then none
    else match l.find? (fun e => e.2.st == 3 && e.2.refresh == 1) with
      | some (k, _) => some (2, k)
      | none => (l.find? (fun e => e.2.st == 3 && e.2.refresh == 2)).map (fun e => (2, e.1))

def workOn (s : State) (ch kind k : Nat) : State := { s with flash := { s.flash with work := nset s.flash.work ch (kind, k) } }

/-- Reclaim of a channel begins with a block, when it is called for and nothing goes before it. -/
def flashReclaim (s : State) (ch : Nat) : State :=
  let free := chFree s ch
  let on := nget (fun _ => false) s.flash.reclaiming ch
  let want := decide (free < fget s F.FLS_RECLAIM_FREE_LOW 0) || (on && decide (free < fget s F.FLS_RECLAIM_FREE_HIGH 0))
  let s := { s with flash := { s.flash with reclaiming := nput (fun _ => false) s.flash.reclaiming ch want } }
  if !flashUp s || !want || !(fbit s F.FLS_CTL_RECLAIM_EN 0 || decide (free ≤ 2)) || (nfind s.flash.work ch).isSome ||
      (refreshPick s ch).isSome then s
  else match reclaimPick s ch with
    | none => s
    | some k => workOn s ch 1 k

def execFlashReclaim (ch : Fin 16) (s : State) : Host.Outcome State Fault Refusal := .next (flashReclaim s ch)

/-- A block queued for refresh, or RETIRING, is taken. -/
def execBlockRefresh (ch : Fin 16) (s : State) : Host.Outcome State Fault Refusal :=
  .next (if !flashUp s || (nfind s.flash.work ch).isSome then s
    else match refreshPick s ch with
      | none => s
      | some (kind, k) => workOn s ch kind k)

/-- A copy that has not read its unit yet reads it from the block (R426). -/
def readsHold (s : State) (k : Nat) : Bool :=
  s.tie.moves.any (fun e => (List.range 4).any (fun u =>
    let L := 4 * (e.2.old % 2 ^ 32) + u
    let loc := e.2.locs.getD u flsUNMAPPED
    bits e.2.units u 1 == 0 && decide (loc < flsLOST) && decide (flsMap s L < flsLOST) && locBlk L loc == k))

/-- The block that a channel has emptied is erased, once the journal page of its last map change is programmed and every read that
began before it has ended (R426). -/
def blockErase (s : State) (k : Nat) (ok : Bool) : State :=
  let ch := k / 2 ^ 32
  match nfind s.flash.work ch with
  | none => s
  | some (kind, w) =>
    let b := flsBlk s k
    if w ≠ k ∨ kind = 3 ∨ !(blkValid s k).isEmpty ∨ (flsHalf s (ch / 8)).jp < b.chg ∨ readsHold s k ∨ !flashUp s then s
    else
      let s := tgtOk { s with flash := { s.flash with work := nerase s.flash.work ch } } k
      if !ok then
        retireBlk (flsLog (fset s F.FLS_ERR_ERASE_FAIL 0) (fun l => { l with eraseFails := sat 32 l.eraseFails 1 })) k
      else
        let s := flsLog s (fun l => { l with refreshes := sat 32 l.refreshes (b2n (kind == 2)) })
        let s := flsMed s (fun m => { m with erases := m.erases + 1, page := m.page.filter (fun e => e.1 / 4096 != ch * 2 ^ 20 + k % 2 ^ 32) })
        let s := flsJournal (flsBlkPut s k { erases := b.erases + 1 }) (ch / 8) (2 ^ 40 + k) (blkValue { erases := b.erases + 1 })
        flsStat s ch

def execBlockEraseDone (k : Nat) (ok : Bool) (s : State) : Host.Outcome State Fault Refusal := .next (blockErase s k ok)

/-- A target fails to complete an operation; the third time in a row it is FAILED (R427). -/
def targetTimeout (s : State) (ch tgt : Nat) : State :=
  let t := 16 * ch + tgt
  if !flashUp s || s.flash.media.failed.contains t || decide ((flsChan s ch).targets ≤ tgt) then s
  else
    let n := nget (fun _ => 0) s.flash.late t + 1
    let s := { s with flash := { s.flash with late := nput (fun _ => 0) s.flash.late t n } }
    if n < 3 then s
    else
      let s := flsMed (fset s F.FLS_ERR_TARGET_FAIL 0) (fun m => { m with failed := m.failed ++ [t] })
      let units := s.flash.map.filter (fun e => decide (e.2 < flsLOST) && e.1 % 16 == ch && bits e.2 28 4 == tgt)
      let s := units.foldl (fun s e => flsLose s e.1) s
      let c := flsChan s ch
      (List.range (c.luns * c.blocks)).foldl (fun s i =>
        let k := blkAt c ch (tgt * c.luns * c.blocks + i)
        if blkBad s k ∨ blkSys s k then s else retireBlk s k) s

def execTargetTimeout (ch tgt : Fin 16) (s : State) : Host.Outcome State Fault Refusal := .next (targetTimeout s ch tgt)

/-! ### Commands (R431) -/

/-- The command that runs, when its OP is `op`. -/
def flsCmd (s : State) (op : Nat) : Option Word := s.flash.cmd.filter (fun w => bget w 60 4 == op)

def flsDone (s : State) (res : Nat) : State :=
  let s := fput { s with flash := { s.flash with cmd := none } } F.FLS_STAT_CKPT_BUSY 0 0
  irq (finc (fput (fput s F.FLS_CMD_STAT_RESULT 0 res) F.FLS_CMD_STAT_BUSY 0 0) F.FLS_CMD_STAT_SEQ 0) 0 15

/-! ### Patrol (R424) -/

/-- The closed blocks of a channel in address order. -/
def closedOf (s : State) (ch : Nat) : List Nat := ((chList s ch).filter (fun e => e.2.st == 3)).map (·.1)

/-- A new pass of a channel's patrol may begin: PATROL_HOURS after the latest one began (R424). -/
def patrolOver (s : State) (ch : Nat) : Bool := match nfind s.flash.passT ch with
  | some t => decide (t + 3600000 * max 1 (fget s F.FLS_REFRESH_PATROL_HOURS 0) ≤ timeMs s)
  | none => true

/-- The channel has other work, which goes before its patrol (R424). -/
def chBusy (s : State) (ch : Nat) : Bool :=
  (nfind s.flash.work ch).isSome || (refreshPick s ch).isSome || nget (fun _ => false) s.flash.reclaiming ch

/-- The block that the patrol of a channel reads next: one that the PATROL command still has to read, or the one after
the block read last; after the last of a pass, the first of the next pass. -/
def patrolNext (s : State) (ch : Nat) : Option Nat :=
  match s.flash.due.find? (fun k => k / 2 ^ 32 == ch && (flsBlk s k).st == 3) with
  | some k => some k
  | none =>
    if !fbit s F.FLS_CTL_PATROL_EN 0 then none
    else
      let l := closedOf s ch
      match l.find? (fun k => decide (nget (fun _ => 0) s.flash.patrol ch < k)) with
      | some k => some k
      | none => if patrolOver s ch then l.head? else none

/-- The PATROL command ends when no block is left to read. -/
def patrolEnd (s : State) : State :=
  let due := s.flash.due.filter (fun k => (flsBlk s k).st == 3)
  let s := { s with flash := { s.flash with due := due } }
  if due.isEmpty && (flsCmd s 2).isSome then flsDone s 0 else s

def patrol (s : State) (ch worst total : Nat) (good : Option Nat) : State :=
  let good := goodAt s ch good
  if !flashUp s || chBusy s ch then s
  else match patrolNext s ch with
    | none => s
    | some k =>
      let had := !s.flash.due.isEmpty
      let first := !s.flash.due.contains k && decide (k ≤ nget (fun _ => 0) s.flash.patrol ch)
      let s := { s with flash := { s.flash with
        patrol := nset s.flash.patrol ch k
        passT := if first || (nfind s.flash.passT ch).isNone then nset s.flash.passT ch (timeMs s) else s.flash.passT
        due := s.flash.due.filter (· != k) } }
      let b := flsBlk s k
      let s := readEffects s k worst total good
      let s := match good, (blkValid s k).head? with
        | none, some L => uncorrectable s L k
        | _, _ => s
      let s := if b.closed + fget s F.FLS_REFRESH_RETAIN_DAYS 0 * 86400000 < timeMs s then queueRefresh s k 2 else s
      if had then patrolEnd s else s

def execPatrol (ch : Fin 16) (worst total : Nat) (goodLevel : Option Nat) (s : State) : Host.Outcome State Fault Refusal :=
  .next (patrol s ch worst total goodLevel)

/-- CHECKPOINT. -/
def execFlsCheckpoint (s : State) : Host.Outcome State Fault Refusal :=
  .next (match flsCmd s 1 with
    | none => s
    | some _ => if flashUp s then flsDone (checkpoint (checkpoint s 0 false) 1 false) 0 else flsDone s 1)

/-- PATROL: every closed block is to be read. -/
def execFlsPatrol (s : State) : Host.Outcome State Fault Refusal :=
  .next (match flsCmd s 2 with
    | none => s
    | some _ =>
      if !flashUp s then flsDone s 1
      else if s.flash.due.isEmpty then
        patrolEnd { s with flash := { s.flash with due := (List.range 16).flatMap (closedOf s) } }
      else s)

/-- RETIRE: the named block as a program fail. -/
def execFlsRetire (s : State) : Host.Outcome State Fault Refusal :=
  .next (match flsCmd s 3 with
    | none => s
    | some w =>
      let ch := bget w 32 4
      let k := ch * 2 ^ 32 + bget w 12 20
      if !flashUp s then flsDone s 1
      else if !blkIn (flsChan s ch) k || blkBad s k || blkSys s k || (flsBlk s k).st == 6 then flsDone s 3
      else flsDone (retiring (fset s F.FLS_ERR_PROG_FAIL 0) k) 0)

/-- FORMAT: it keeps the erase counts, and clears the health log but for the fields R429 names. -/
def execFlsFormat (s : State) : Host.Outcome State Fault Refusal :=
  .next (match flsCmd s 4 with
    | none => s
    | some _ =>
      let st := fget s F.FLS_STAT_STATE 0
      if !(st == 4 || (flashUp s && slowFree s 2 == flashFrames s)) || !geometryOk s then flsDone s 1
      else
        let s := flsLog (flsFormat s true) (fun l => { powerOn := l.powerOn, hist := l.hist })
        flsDone (flsMounted s) 0)

/-- SHUTDOWN: a checkpoint and the clean mark (R418). -/
def execFlsShutdown (s : State) : Host.Outcome State Fault Refusal :=
  .next (match flsCmd s 5 with
    | none => s
    | some _ =>
      if !flashUp s then flsDone s 1
      else flsDone (checkpoint (checkpoint s 0 false) 1 true) 0)

/-! ### Health log (R429) -/

/-- A signed value in 16 bits. -/
def signed16 (t : Int) : Nat := (t % 65536).toNat

/-- Hotter of the two flash PHY sensors. -/
def flashTemp (s : State) : Nat :=
  let a := nget (fun _ => 0) s.gov.tempFlash 0
  let b := nget (fun _ => 0) s.gov.tempFlash 1
  if sext 16 a < sext 16 b then b else a

/-- The health log page (512 bytes). -/
def healthPage (s : State) : List Byte :=
  let m := s.flash.media
  let l := m.log
  let st := fget s F.FLS_STAT_STATE 0
  let good := (List.range 16).foldl (fun n ch => n + chGood s ch) 0
  let mean := m.blk.foldl (fun n e => n + e.2.erases) 0 / max good 1
  let pct (ch : Nat) : Nat := chSpare s ch * 100 / max (nget (fun _ => 0) m.spare0 ch) 1
  let low := (List.range 16).foldl (fun n ch => min n (pct ch)) (pct 0)
  let lost := (s.flash.map.filter (fun e => e.2 == flsLOST)).length
  let age := (timeMs s - min (flsHalf s 0).ckptT (flsHalf s 1).ckptT) / 1000
  let least := (List.range 16).foldl (fun n ch => min n (eraseMin s ch)) (eraseMin s 0)
  let most := (List.range 16).foldl (fun n ch => max n (eraseMax s ch)) 0
  let retired := (List.range 16).foldl (fun n ch => n + chRetired s ch) 0
  let endur := fget s F.FLS_FORMAT_ENDURANCE 0
  toBytes 1 1 ++ toBytes 1 st ++ toBytes 1 (b2n m.fresh + 2 * b2n (st == 3) + 4 * b2n m.unclean) ++
  toBytes 1 (min low 255) ++ toBytes 1 (min 255 (mean * 100 / max endur 1)) ++ toBytes 3 0 ++ toBytes 8 (powerOnS s) ++
  toBytes 4 l.mounts ++ toBytes 4 l.roughEnds ++ toBytes 8 l.written ++ toBytes 8 l.relocated ++ toBytes 8 l.read ++
  toBytes 4 least ++ toBytes 4 most ++ toBytes 4 mean ++ toBytes 4 endur ++ toBytes 4 retired ++ toBytes 4 l.progFails ++
  toBytes 4 l.eraseFails ++ toBytes 4 l.uncorr ++ toBytes 8 l.retries ++ toBytes 8 l.corrected ++ toBytes 4 l.refreshes ++
  toBytes 4 lost ++ toBytes 4 age ++ toBytes 20 0 ++ toBytes 32 (m.failed.foldl (fun n t => n + 2 ^ t) 0) ++
  (List.range 16).flatMap (fun ch => toBytes 2 (chSpare s ch)) ++ toBytes 2 (flashTemp s) ++ toBytes 2 (signed16 l.tempMax) ++
  toBytes 2 (signed16 l.tempMin) ++ toBytes 58 0 ++ (List.range 16).flatMap (fun i => toBytes 8 (nget (fun _ => 0) l.hist i)) ++
  toBytes 128 0

/-- A write of GO copies the health log into FLS_HLOG0-63. -/
def hlogSnap (s : State) : State :=
  let p := healthPage s
  (List.range 64).foldl (fun s i => fput s F.FLS_HLOG_WORD i (ofBytes ((p.drop (8 * i)).take 8))) s

def execFlsHlogSnap (val : Word) (s : State) : Host.Outcome State Fault Refusal :=
  .next (regGate s .FLS_HLOG_SNAP 0 (fun s => if bbit val 0 then hlogSnap s else s))

/-- The temperature of the media is sampled each second (health log bytes 192-197 and 256-383). -/
def flashTempSample (s : State) : State :=
  if s.now / 1000000000 ≤ s.flash.tempS then s
  else
    let t : Int := sext 16 (flashTemp s)
    let band := if t < 0 then 0 else min 15 (t.toNat / 40 + 1)
    let s := { s with flash := { s.flash with tempS := s.now / 1000000000 } }
    flsLog s (fun l => { l with
      tempMax := if l.tempSeen then max l.tempMax t else t
      tempMin := if l.tempSeen then min l.tempMin t else t
      tempSeen := true
      hist := nupd (fun _ => 0) l.hist band (fun n => sat 64 n 1) })

end Sys2Proof.Machine
end

