-- ==== Sys2Proof/Machine/Islands.lean ====
section
/-!
DEFINITION. Clock islands (R50-R55, R69), crossings (R57-R63), and the power and temperature governor (R47-R49, R681-R687).
-/

namespace Sys2Proof.Machine

/-! ### Clocks (R50-R55) -/

def grade (s : State) : Nat := fget s F.GLB_ID_GRADE 0

/-- The frequency that software requests of an island; of a RETIRED one, what it requested before (R69). -/
def freqAsked (s : State) (i : Nat) : Nat :=
  if islState s i = 3 then (nfind s.isl.frozen i).getD (fget s F.ISL_CLK_CTL_FREQ_REQ i) else fget s F.ISL_CLK_CTL_FREQ_REQ i

/-- The effective clock of an adjustable island (R51). -/
def effClock (s : State) (i : Nat) : Nat :=
  let f := min (freqAsked s i) (min (fget s F.ISL_CLK_STAT_CEIL i) (fget s F.ISL_CLK_STAT_GOV i))
  max (f / 25 * 25) (islMin i)

/-- Some sender holds a transfer into island `i` under R61. -/
def stalledInto (s : State) (i : Nat) : Bool := s.isl.held.any (fun e => e.1 / 2 % 566 == i && e.2.any (fun h => !h.cut))

/-- ISL_XSTALL is brought up to the present: every cycle of the receiving island in which some sender held a transfer into it
counts once (R61). -/
def xstallFix (s : State) (i : Nat) : State :=
  let s1 := match nfind s.isl.stall i with
    | some m => fadd1 s F.ISL_XSTALL_COUNT i ((s.now + 1 - m) * islFreq s i / 1000)
    | none => s
  { s1 with isl := { s1.isl with
    stall := if stalledInto s i then nset s1.isl.stall i (s.now + 1) else nerase s1.isl.stall i } }

/-- The clock changes in progress. -/
def setChange (s : State) (m : NMap ClkChange) : State := { s with isl := { s.isl with changing := m } }

/-- An island moves towards its effective clock; during a change it runs at the lower of the two, and a change in
progress is completed first (R53, R54). -/
def clockMove (s : State) (i : Nat) : State :=
  let t := effClock s i
  if !islAdj i ∨ (nfind s.isl.changing i).isSome ∨ t = islFreq s i then s
  else
    let s := setChange (xstallFix (tcycFix s i) i) (nset s.isl.changing i { target := t })
    fput (fset s F.ISL_CLK_STAT_CHANGING i) F.ISL_CLK_STAT_FREQ_NOW i (min t (islFreq s i))

/-- A change completes, and the island moves on to any newly computed clock (R54). -/
def clockDone (s : State) (i : Nat) : State :=
  match nfind s.isl.changing i with
  | none => s
  | some c =>
    let s := setChange (xstallFix (tcycFix s i) i) (nerase s.isl.changing i)
    clockMove (fput (fput s F.ISL_CLK_STAT_CHANGING i 0) F.ISL_CLK_STAT_FREQ_NOW i c.target) i

def execClockChangeDone (i : Fin 566) (s : State) : Host.Outcome State Fault Refusal := .next (clockDone s i)

/-- A write of FREQ_REQ: clamped to the island's range (R52); ignored on fixed islands; stored without effect on a RETIRED
tiller (R69). -/
def clkCtl (s : State) (i : Nat) (val : Word) : State :=
  if !islAdj i then s
  else
    let f := bget val 0 12
    let g := max (islMin i) (min f (islMax (grade s) i))
    let s := fput s F.ISL_CLK_CTL_FREQ_REQ i g
    clockMove (fsetIf s (f != g) F.ISL_CLK_STAT_CLAMP i) i

def execIslClkCtl (i : Fin 566) (val : Word) (s : State) : Host.Outcome State Fault Refusal :=
  .next (regGate s .ISL_CLK_CTL i (fun s => clkCtl s i val))

/-- A ceiling is set in both registers that show it (R690). -/
def setCeil (s : State) (i f : Nat) : State :=
  clockMove (fput (fput s F.ISL_CLK_STAT_CEIL i f) F.AGE_ISL_PLAN_CEIL i f) i

/-! ### Crossings (R57-R63) -/

/-- Number of a channel. -/
def chanNo (c : Chan) : Nat := (c.src.val * 566 + c.dst.val) * 2 + b2n c.resp

def chanHeld (s : State) (c : Chan) : List HeldX := nget (fun _ => []) s.isl.held (chanNo c)

def setHeld (s : State) (c : Chan) (l : List HeldX) : State :=
  { s with isl := { s.isl with held := nput (fun _ => []) s.isl.held (chanNo c) l } }

/-- The channel runs over the die-to-die link, which is lost (R568). -/
def chanCut (s : State) (c : Chan) : Bool := s.twin.lost && islHalf c.src != islHalf c.dst

/-- A transfer arrives in the receiving island. -/
def chanArrive (s : State) (c : Chan) (x : Nat) : State :=
  { s with isl := { s.isl with delivered := nupd (fun _ => []) s.isl.delivered c.dst (· ++ [(chanNo c, x)]) } }

/-- A transfer crosses; while the receiving buffer is full, or others of the channel are held before it, its sender holds
it (R58, R61). The spec gives the buffer no depth: `full` says whether it has no room (DESIGN CHOICE, log entry 113). -/
def crossing (s : State) (c : Chan) (x : Nat) (full : Bool) : State :=
  if full || !(chanHeld s c).isEmpty || chanCut s c then
    xstallFix (setHeld s c (chanHeld s c ++ [{ x := x, since := s.now, cut := chanCut s c }])) c.dst
  else chanArrive s c x

def execCrossing (c : Chan) (x : Nat) (full : Bool) (s : State) : Host.Outcome State Fault Refusal :=
  .next (crossing s c x full)

/-- The oldest held transfer of a channel is delivered (R61). -/
def crossingDeliver (s : State) (c : Chan) : State :=
  match chanHeld s c with
  | [] => s
  | h :: r =>
    if chanCut s c then s
    else chanArrive (xstallFix (setHeld s c r) c.dst) c h.x

def execCrossingDeliver (c : Chan) (s : State) : Host.Outcome State Fault Refusal := .next (crossingDeliver s c)

/-! ### Governor (R47-R49, R682-R686) -/

/-- A cap of a half; without an entry it is the top of the range. -/
def capOf (m : NMap Nat) (h top : Nat) : Nat := nget (fun _ => top) m h

/-- Top of the range of the T-islands. -/
def topT (s : State) : Nat := islMax (grade s) 0

/-- A lower value than `v`, not below `lo`: how far one interval goes is the device's own choice. -/
def lower (c v lo : Nat) : Nat := if v ≤ lo then lo else lo + c % (v - lo)

/-- A value from `v` to `hi`. -/
def higher (c v hi : Nat) : Nat := v + c % (hi - v + 1)

/-- The first step of R47 in which a half has room: 0 the T-islands, 1 the S-islands, 2 the N-islands, 3 the strokes. -/
def stepLevel (s : State) (h : Nat) : Nat :=
  if 800 < capOf s.gov.capT h (topT s) then 0
  else if 800 < capOf s.gov.capS h 1600 then 1
  else if 450 < capOf s.gov.capN h 900 then 2
  else 3

/-- Every step of a half is at its floor. -/
def atFloor (s : State) (h : Nat) : Bool :=
  capOf s.gov.capT h (topT s) == 800 && capOf s.gov.capS h 1600 == 800 && capOf s.gov.capN h 900 == 450 &&
    nget (fun _ => 0) s.gov.gap h == 3200

/-- One half's caps go one step further down, in the order of R47. -/
def stepDown (s : State) (h : Nat) : State :=
  let c := choiceOf s 11
  let g := s.gov
  let s := bump s
  if 800 < capOf g.capT h (topT s) then
    { s with gov := { g with capT := nset g.capT h (lower c (capOf g.capT h (topT s)) 800) } }
  else if 800 < capOf g.capS h 1600 then { s with gov := { g with capS := nset g.capS h (lower c (capOf g.capS h 1600) 800) } }
  else if 450 < capOf g.capN h 900 then { s with gov := { g with capN := nset g.capN h (lower c (capOf g.capN h 900) 450) } }
  else
    let v := nget (fun _ => 0) g.gap h
    { s with gov := { g with gap := nset g.gap h (min 3200 (v + 1 + c % 3200)) } }

/-- One half's caps may rise, each by the device's own choice. -/
def stepUp (s : State) (h : Nat) : State :=
  let g := s.gov
  let t := capOf g.capT h (topT s)
  let s' := bump s
  { s' with gov := { g with
      capT := nset g.capT h (higher (choiceOf s 11) t (topT s))
      capS := nset g.capS h (higher (choiceOf s 12) (capOf g.capS h 1600) 1600)
      capN := nset g.capN h (higher (choiceOf s 13) (capOf g.capN h 900) 900)
      gap := nset g.gap h (choiceOf s 14 % (nget (fun _ => 0) g.gap h + 1)) } }

/-- The governor's cap of an island: what power, temperature and the brake call for, the lowest (R684, R685). -/
def govCap (s : State) (i : Nat) : Nat :=
  if s.pins.pwrBrake then islMin i
  else
    let h := islHalf i
    match islType i with
    | 0 => capOf s.gov.capT h (topT s)
    | 1 => capOf s.gov.capS h 1600
    | 6 => capOf s.gov.capN h 900
    | _ => islMax (grade s) i

/-- Adjustable islands. -/
def adjIslands : List Nat := (List.range 566).filter islAdj

/-- The caps reach the islands. -/
def showCaps (s : State) : State :=
  adjIslands.foldl (fun s i =>
    if fget s F.ISL_CLK_STAT_GOV i = govCap s i then s else clockMove (fput s F.ISL_CLK_STAT_GOV i (govCap s i)) i) s

/-- Temperatures of a half and of its stacks, in 0.125 degC, signed. -/
def halfTemp (s : State) (h : Nat) : Int := sext 16 (nget (fun _ => 0) s.gov.tempHalf h)
def stackTemp (s : State) (st : Nat) : Int := sext 16 (nget (fun _ => 0) s.gov.tempStack st)

/-- The sensors are at or above a throttle temperature: 100 degC for the compute die, 90 for its stacks. -/
def tooHot (s : State) (h : Nat) : Bool :=
  decide (800 ≤ halfTemp s h) || (halfStacks h).any (fun st => decide (720 ≤ stackTemp s st))

/-- All sensors are below the release temperatures: 97 and 87 degC. -/
def coolEnough (s : State) (h : Nat) : Bool :=
  decide (halfTemp s h < 776) && (halfStacks h).all (fun st => decide (stackTemp s st < 696))

/-- The sensors of an interval are read (R682): the values, and whether each half is hot. -/
def governorRead (s : State) (g : GovSample) : State :=
  let num (l : List Nat) : NMap Nat := (List.range l.length).foldl (fun m i => nput (fun _ => 0) m i (l.getD i 0 % 65536)) []
  let s := flashTempSample
    { s with gov := { s.gov with draw := g.draw, tempHalf := num g.half, tempStack := num g.stack, tempFlash := num g.flash } }
  let hot (h : Nat) : Bool := if nget (fun _ => false) s.gov.hot h then !coolEnough s h else tooHot s h
  { s with gov := { s.gov with hot := nput (fun _ => false) (nput (fun _ => false) s.gov.hot 0 (hot 0)) 1 (hot 1) } }

/-- Caps step down at once in a half that is hot; while the draw is past its limit they step down over the whole package, in the
halves that have room in the first step of R47 that has room anywhere. They rise only after 1 ms in which nothing has called for
lower ones (R47, R682, R683, R685). -/
def governorAct (s : State) (past calls h0 h1 : Bool) : State :=
  let d0 := h0 || (past && decide (stepLevel s 0 ≤ stepLevel s 1))
  let d1 := h1 || (past && decide (stepLevel s 1 ≤ stepLevel s 0))
  let s := if d0 then stepDown s 0 else s
  let s := if d1 then stepDown s 1 else s
  let s := { s with gov := { s.gov with quiet := if calls then 0 else s.gov.quiet + 1 } }
  let s := if 100 ≤ s.gov.quiet then stepUp (stepUp s 0) 1 else s
  if calls || decide (100 ≤ s.gov.quiet) then showCaps s else s

/-- The alert pin while the draw is past its limit at the floor (R683). -/
def governorAlert (s : State) (past : Bool) : State :=
  { s with pins := { s.pins with pwrAlert := s.pins.outputsStopped || (past && atFloor s 0 && atFloor s 1) } }

/-- One 10 us interval of the governor (R682). Caps fall at once and rise only after 1 ms in which nothing has called for
lower ones (R685). -/
def governor (s : State) (g : GovSample) : State :=
  let s := governorRead s g
  let past := decide (s.gov.limit < g.draw)
  let h0 := nget (fun _ => false) s.gov.hot 0
  let h1 := nget (fun _ => false) s.gov.hot 1
  governorAct (governorAlert s past) past (past || h0 || h1 || s.pins.pwrBrake) h0 h1

def execGovernorSample (g : GovSample) (s : State) : Host.Outcome State Fault Refusal := .next (governor s g)

/-- PWR_BRAKE_N is asserted: every step at its floor (R684). -/
def execPowerBrake (s : State) : Host.Outcome State Fault Refusal :=
  .next (showCaps { s with pins := { s.pins with pwrBrake := true }, gov := { s.gov with quiet := 0 } })

/-- PWR_BRAKE_N is deasserted: a limit written meanwhile takes effect, and caps may rise under R685. -/
def execPowerBrakeRelease (s : State) : Host.Outcome State Fault Refusal :=
  .next { s with
    pins := { s.pins with pwrBrake := false }
    gov := { s.gov with quiet := 0, limit := s.gov.limitNext.getD s.gov.limit, limitNext := none } }

/-- A package limit is programmed (R49, R681, R684). -/
def setLimit (s : State) (w : Nat) : State :=
  if s.pins.pwrBrake then { s with gov := { s.gov with limitNext := some w } } else { s with gov := { s.gov with limit := w } }

/-- A rail leaves its range: every output, host write and flash operation stops until the power-on reset (R679). -/
def execRailFault (_rail : Nat) (s : State) : Host.Outcome State Fault Refusal :=
  .next { s with pins := { s.pins with outputsStopped := true, pwrAlert := true } }

end Sys2Proof.Machine
end

