-- ==== Sys2Proof/Machine/Integrity.lean ====
section
/-!
DEFINITION. Poisoned frames and row repair (R585-R587), the INT commands (R580, R584, R607), scrubbing (R599), the test of
tillers in service (R594-R598), and ageing (R600-R605).
-/

namespace Sys2Proof.Machine

/-! ### INT commands (R607) -/

def intDone (s : State) (res : Nat) : State :=
  let s := { s with int0 := { s.int0 with op := 0, arg := 0 } }
  irq (finc (fput (fput s F.INT_CMD_STAT_RESULT 0 res) F.INT_CMD_STAT_BUSY 0 0) F.INT_CMD_STAT_SEQ 0) 0 11

/-- A write to INT_CMD: the device runs one command at a time; a reserved OP is refused at once. -/
def intCmd (s : State) (w : Word) : State :=
  let op := bget w 60 4
  let arg := bget w 0 18
  if fbit s F.INT_CMD_STAT_BUSY 0 then fset s F.INT_ERR_CMD_BUSY 0
  else
    let s := fset s F.INT_CMD_STAT_BUSY 0
    if op = 0 ∨ 4 < op ∨ ((op = 2 ∨ op = 4) ∧ arg ≠ 0) ∨ (op = 1 ∧ 65536 ≤ arg) then intDone s 2
    else { s with int0 := { s.int0 with op := op, arg := arg } }

/-- The command that waits to be run, when its OP is `op` and it has not begun. -/
def intHead (s : State) (op : Nat) : Bool := fbit s F.INT_CMD_STAT_BUSY 0 && s.int0.op == op && !s.int0.begun

/-! ### Rows (R586, R587) -/

/-- Spare rows of every bank. -/
def spareRows : Nat := 4602

def sparesLeft (s : State) (st bank : Nat) : Nat :=
  spareRows - (s.int0.repaired.filter (fun r => r.1 == st && r.2.1 == bank)).length

/-- A stack is retired (R587): STATE, its bit of STACKS, and the record. -/
def retireStack (s : State) (st : Nat) : State :=
  if stackRetired s st then s
  else
    let s := fput s F.BNK_STK_STAT_STATE st 2
    let m := fget s F.GLB_STAT_STACKS 0
    let s := fput s F.GLB_STAT_STACKS 0 (m - bits m st 1 * 2 ^ st)
    event s 0x26 2 (544 + st) 1 0 0 0 (st + 0x100)

/-- A row is mapped to a spare row: its lines are copied under their checks, so a line that fails goes on failing. A bank
without a spare row fails the repair; a stack all of whose banks have failed one is retired. Gives whether it was mapped. -/
def repairRow (s : State) (st bank row : Nat) : Bool × State :=
  if sparesLeft s st bank = 0 then
    let s := if s.int0.dead.contains (st, bank) then s else { s with int0 := { s.int0 with dead := s.int0.dead ++ [(st, bank)] } }
    (false, if (s.int0.dead.filter (fun d => d.1 == st)).length = 512 then retireStack s st else s)
  else
    let mine (a : Nat) : Bool := addrTier a == 0 && addrStack a == st && bankOf a == bank && rowOf a == row
    let s := { s with int0 := { s.int0 with
      repaired := s.int0.repaired ++ [(st, bank, row)], fails := s.int0.fails.filter (fun f => !mine f.1) } }
    let s := fadd1 s F.INT_REPAIR_REPAIRED 0 1
    let s := fput s F.INT_REPAIR_SPARE_MIN 0 (min (fget s F.INT_REPAIR_SPARE_MIN 0) (sparesLeft s st bank))
    (true, event s 0x22 1 (544 + st) 1 (st * 2 ^ 37 + row * 2 ^ 20 + bank * 128) 0 0 (row + sparesLeft s st bank * 2 ^ 32))

/-- Occasions within REPAIR_H hours on which a row has failed. -/
def rowFails (s : State) (st bank row : Nat) : Nat :=
  (s.int0.fails.filter (fun f => addrTier f.1 == 0 && addrStack f.1 == st && bankOf f.1 == bank && rowOf f.1 == row &&
    decide (timeMs s ≤ f.2 + fget s F.INT_CTL_REPAIR_H 0 * 3600000))).length

/-- ROW_REPAIR: two failures within the window and REPAIR_EN; the copy takes place between strokes. -/
def rowRepair (s : State) (st bank row : Nat) : State :=
  if !fbit s F.INT_CTL_REPAIR_EN 0 || stackRetired s st || stroking s st || decide (rowFails s st bank row < 2) then s
  else (repairRow s st bank row).2

def execRowRepair (st : Fin 8) (bank : Fin 512) (row : Nat) (s : State) : Host.Outcome State Fault Refusal :=
  .next (rowRepair s st bank row)

/-- A poisoned frame is freed: POISON is cleared and a record says so. -/
def clearPoison (s : State) (k : Nat) : State :=
  let s := setUse (setShare (zeroFrame s k) k {}) k 0
  let s := fput s F.INT_POISON_POISONED 0 (fget s F.INT_POISON_POISONED 0 - 1)
  event s 0x21 1 (544 + addrStack (keyAddr k)) 1 (keyAddr k) 0 0 0

/-- POISON_TEST (R585) of a frame that waits for it: filled with 0 and checked. `fails` names the failing rows found, each as
bank plus 512 times the row; they are repaired, and `again` says that the frame still fails. -/
def poisonTest (s : State) (k : Nat) (fails : List Nat) (again : Bool) : State :=
  if frameUse s k ≠ 4 then s
  else
    let st := addrStack (keyAddr k)
    if stackRetired s st ∨ stroking s st then s
    else if fails.isEmpty then clearPoison s k
    else
      let s := if fbit s F.INT_CTL_REPAIR_EN 0 then fails.foldl (fun s r => (repairRow s st (r % 512) (r / 512)).2) s else s
      if !again then clearPoison s k
      else
        let s := fadd1 (setUse s k 5) F.INT_POISON_WITHHELD 0 1
        event s 0x21 2 (544 + st) 1 (keyAddr k) 0 0 0

def execPoisonTest (frame : Nat) (fails : List Nat) (again : Bool) (s : State) : Host.Outcome State Fault Refusal :=
  .next (poisonTest s frame fails again)

/-! ### SEAL (R580) -/

/-- SEAL computes the check of every line of the object's host frames. -/
def intSeal (s : State) : State :=
  if !intHead s 1 then s
  else
    let o := s.int0.arg
    let ks := objFrames s o
    if fget s F.TIE_OBJ_BASE_COUNT 0 ≤ o ∨ oState (obj s o) ≠ 1 ∨ ks.any (fun k => addrTier (keyAddr k) != 1) ∨ covered s ks then
      intDone s 1
    else intDone { s with syn := s.syn.filter (fun e => !ks.contains (e.1 / 1024)) } 0

def execIntSeal (s : State) : Host.Outcome State Fault Refusal := .next (intSeal s)

/-! ### AUDIT (R584) -/

/-- Stack frames that page tables name, one entry for each PTE with V = 1. -/
def tableRefs (s : State) : List Nat :=
  s.ctx.flatMap (fun e =>
    if dg e.2.d D.STATE = stFREE ∨ dg e.2.d D.STATE = stCLOSED then []
    else (ctxPages s e.1).filterMap (fun v =>
      let p := ptGet s e.2.d v
      if pTier p = 0 then some (pKey p) else none))

/-- Stack frames that page-set records name. -/
def setRefs (s : State) : List Nat :=
  [0, 1].flatMap (fun h => (poolOf s h).nodes.flatMap (fun i =>
    let v := node s i
    if !nHasSet v then [] else (List.range (memNat s (nSetAddr v) 4)).map (fun st => pKey (setEntry s (nSetAddr v) st))))

/-- Frames a copy on write has taken and not named yet. -/
def cowRefs (s : State) : List Nat := s.cows.map (fun e => e.2.frame)

/-- Frames that a KV page could use and that nothing names. -/
def unnamed (s : State) : List Nat :=
  let refs := tableRefs s ++ setRefs s ++ cowRefs s ++ s.tie.moves.flatMap (fun m => [m.2.old, m.2.new])
  (s.tie.used.filter (fun e => e.2 == 1 && addrTier (keyAddr e.1) == 0 && !refs.contains e.1)).map (·.1)

/-- AUDIT begins: the frames unreferenced now are noted, and the filter is empty. -/
def execIntAudit (s : State) : Host.Outcome State Fault Refusal :=
  .next (if !intHead s 2 then s
    else { s with int0 := { s.int0 with begun := true, filter := [], orphans := unnamed s } })

/-- The 16 entries of a share-table line as they should be, from its address (R196). -/
def shareLine (s : State) (h l : Nat) : List Byte :=
  (List.range 16).flatMap (fun i =>
    toBytes 4 (shareEntry (share s (h * 2 ^ 23 + (l - fget s F.PFX_SHARE_POOL_BASE h * 65536) / 4 + i))))

/-- Every share-table line that fails its check is rewritten (R581). -/
def shareRewrite (s : State) (h : Nat) : State :=
  let b := fget s F.PFX_SHARE_POOL_BASE h * 1024
  if b = 0 then s
  else (s.syn.filter (fun e => decide (b ≤ e.1) && decide (e.1 < b + 2 ^ 19))).foldl
    (fun s e => memWrite s (64 * e.1) (shareLine s h (64 * e.1))) s

/-- AUDIT ends: every COUNT is what the tables hold, and the frames unreferenced throughout are freed. -/
def auditEnd (s : State) : State :=
  if s.int0.op ≠ 2 ∨ !s.int0.begun then s
  else
    let refs := tableRefs s ++ setRefs s
    let keys := s.tie.share.map (·.1) ++ refs
    let s' := keys.foldl (fun s k =>
      let e := share s k
      let n := (refs.filter (· == k)).length
      if e.count = n ∨ (cowRefs s).contains k then s
      else
        let s := if shareAddr s k ≠ 0 ∧ shareOk s k then memPut s (shareAddr s k) 4 (shareEntry { e with count := n }) else s
        { s with tie := { s.tie with share := nput (fun _ => {}) s.tie.share k { e with count := n } } }) s
    let s' := shareRewrite (shareRewrite s' 0) 1
    let free := (unnamed s').filter (fun k => s.int0.orphans.contains k && !s.int0.filter.contains k)
    let s' := free.foldl giveFrame s'
    let s' := { s' with int0 := { s'.int0 with begun := false, filter := [], orphans := [] } }
    intDone (event s' 0x29 1 561 free.length 0 0 0 free.length) 0

def execAuditEnd (s : State) : Host.Outcome State Fault Refusal := .next (auditEnd s)

/-! ### Scrubbing (R599) -/

/-- CHECK over every frame of every stack in service: every failing line is found (R582). -/
def scrub (s : State) : State :=
  (s.syn.filter (fun e => addrTier (64 * e.1) == 0 && decide (addrStack (64 * e.1) < 8) && !stackRetired s (addrStack (64 * e.1)))).foldl
    (fun s e => lineFailure s 2 1 (64 * e.1)) s

def execScrubTimer (s : State) : Host.Outcome State Fault Refusal := .next (if fbit s F.INT_CTL_SCRUB_EN 0 then scrub s else s)

def execIntScrub (s : State) : Host.Outcome State Fault Refusal := .next (if intHead s 4 then intDone (scrub s) 0 else s)

/-! ### The event log's registers (R606) -/

/-- A write to INT_LOG_BASE: only while LOG_EN is 0. -/
def intLogBase (s : State) (val : Word) : State :=
  if fbit s F.INT_CTL_LOG_EN 0 then fset s F.INT_ERR_CFG_BUSY 0
  else
    let size := max 10 (min 20 (bget val 0 5))
    let s := fput (fput s F.INT_LOG_BASE_BASE 0 (bget val 16 48)) F.INT_LOG_BASE_SIZE 0 size
    fput (fput s F.INT_LOG_HEAD_HEAD 0 0) F.INT_LOG_STAT_TAIL 0 0

def execIntLogBase (val : Word) (s : State) : Host.Outcome State Fault Refusal :=
  .next (regGate s .INT_LOG_BASE 0 (fun s => intLogBase s val))

/-! ### In-service test (R594-R598) -/

/-- The state of a T-island changes (R70). -/
def setIsl (s : State) (t st : Nat) : State := fput s F.ISL_CLK_STAT_STATE t st

/-- The registers of a tiller that becomes RETIRED keep their last values (R121), and its clock its request (R69). -/
def tilFreeze (s0 : State) (t : Nat) : State :=
  let s := busyFix s0 t
  let x := til s t
  let n := tilStat s t
  let s := fput (fput s F.TIL_STAT_PIPE_BUSY t (bits n 8 4)) F.TIL_STAT_SEARCHING t (bits n 5 1)
  let s := fput (fput s F.TIL_STAT_ITEM t (bits n 4 1)) F.TIL_STAT_STATE t 3
  let s := fput (rput s .TIL_PC t x.pc) F.TIL_DQ_DEPTH t x.deque.length
  { s with isl := { s.isl with frozen := nset s.isl.frozen t (fget s F.ISL_CLK_CTL_FREQ_REQ t) } }

/-- A tiller is RETIRED, with its record. An item that it took and did not start goes back to its deque, and the deque's items move
to the sheaf's overflow queue (R115, R117). -/
def retireTiller (s : State) (t : Nat) : State :=
  if islState s t = 3 then s
  else
    let s := event (setIsl (tilFreeze s t) t 3) 0x26 2 t 1 0 0 0 t
    spill (tupd s t (fun x => { x with deque := x.taken.toList ++ x.deque, taken := none, loading := none })) t

/-- Segments of one pass. -/
def testSegs : Nat := max 1 Config.testSegments

/-- A tiller enters TEST: idle for IDLE_T T-cycles, HELD for coverage, or named by the TEST command (R595, R597, R607). -/
def testIdle (s : State) (t : Nat) : State :=
  let x := til s t
  let free := x.item.isNone && x.taken.isNone && x.loading.isNone
  let idle := fbit s F.INT_CTL_TEST_EN 0 && x.deque.isEmpty &&
    decide (fget s F.INT_TEST_IDLE_T 0 * 1000 ≤ tcyc s t - x.idleCyc)
  if free ∧ (islState s t = 1 ∨ (islState s t = 0 ∧ (idle ∨ x.testAll))) then setIsl s t 2 else s

def execTestIdle (t : Fin 512) (s : State) : Host.Outcome State Fault Refusal := .next (testIdle s t)

/-- TEST: a full pass of the named tiller, from its first segment. -/
def execIntTest (s : State) : Host.Outcome State Fault Refusal :=
  .next (if !intHead s 3 then s
    else
      let t := s.int0.arg
      if 512 ≤ t ∨ islState s t = 3 then intDone s 3
      else
        let s := { s with int0 := { s.int0 with begun := true } }
        testIdle (tupd s t (fun x => { x with testAll := true, segDone := 0, sigBad := none, passStart := s.now })) t)

/-- What a segment leaves in local SRAM above the image area and in the accumulators is unknown (R596). -/
def segJunk (x : Tiller) (n : Nat) : Tiller :=
  let e := imageEnd x
  let keep := localBytes x 0 e
  let x := { x with junk := n, junkFrom := e, acc := [], bad := x.bad.filter (fun w => decide (4 * w < e)) }
  { x with sram := nputs (sramDefault x) [] 0 keep }

/-- The pass goes on, or ends; the tiller tests on or returns to RUN (R595, R597, R607). -/
def segNext (s : State) (t : Nat) : State :=
  let x := til s t
  let n := x.segDone + 1
  if testSegs ≤ n then
    let s := fadd1 s F.INT_TEST_STAT_PASSES 0 1
    let s := tupd s t (fun x => { x with segDone := 0, sigBad := none, testAll := false, passStart := s.now, search := 1 })
    let s := setIsl s t 0
    if x.testAll ∧ s.int0.op = 3 ∧ s.int0.arg = t then intDone { s with int0 := { s.int0 with begun := false } } 0 else s
  else
    let s := tupd s t (fun x => { x with segDone := n, sigBad := none })
    if x.testAll ∨ (x.deque.isEmpty ∧ (shf s (sheafOf t)).ovf.isEmpty ∧ fbit s F.INT_CTL_TEST_EN 0) then s
    else setIsl (tupd s t (fun x => { x with search := 1 })) t 0

/-- A segment ends with a signature (R598). The segment reads the image area and finds its parity errors (R596). -/
def segmentEnd (s : State) (t : Nat) (sig : Word) : State :=
  if islState s t ≠ 2 then s
  else
    let x := til s t
    let s := match x.bad.find? (fun w => decide (4 * w < imageEnd x)) with
      | some _ => event (tcount s F.TIL_PERR_COUNT t 1) 0x23 1 t 1 0 0 0 t
      | none => s
    let s := tupd { s with fresh := s.fresh + 1 } t (fun x => segJunk x (s.fresh + 1))
    let rec' (sev : Nat) (s : State) (g : Word) : State := event s 0x25 sev t 1 0 0 0 (x.segDone % 65536 + g.toNat % 2 ^ 32 * 2 ^ 32)
    if sig = Config.testSignature x.segDone then
      match x.sigBad with
      | some g => segNext (rec' 1 s g) t
      | none => segNext s t
    else if x.sigBad.isNone then
      tupd (fadd1 s F.INT_TEST_STAT_FAILS 0 1) t (fun x => { x with sigBad := some sig })
    else
      let s := retireTiller (rec' 2 s sig) t
      let s := tupd s t (fun x => { x with testAll := false, sigBad := none })
      if x.testAll ∧ s.int0.op = 3 ∧ s.int0.arg = t then intDone { s with int0 := { s.int0 with begun := false } } 0 else s

def execTestSegmentEnd (t : Fin 512) (sig : Word) (s : State) : Host.Outcome State Fault Refusal := .next (segmentEnd s t sig)

/-! ### Ageing (R600-R605) -/

def ageIsl (s : State) (i : Nat) : AgeIsl := nget (fun _ => {}) s.age.isl i

def ageUpd (s : State) (i : Nat) (f : AgeIsl → AgeIsl) : State :=
  { s with age := { s.age with isl := nupd (fun _ => {}) s.age.isl i f } }

/-- An AGE_LIMIT record with a slack in 0.125 ps (R601, R605). -/
def ageLimit (s : State) (i : Nat) (slack : Int) : State :=
  event (fadd1 s F.AGE_STAT_LIMITED 0 1) 0x28 2 i 1 0 0 0 ((slack / 8) % 2 ^ 32).toNat

/-- One island's probes are read (R600); a slack below half the guard lowers its ceiling at once (R601, R55). -/
def ageSample (s : State) (r : Probe) : State :=
  let i := r.isl.val
  let f := islFreq s i
  let s := fput (fput (fput s F.AGE_ISL_NOW_OSC i (r.osc % 65536)) F.AGE_ISL_NOW_FREQ i f) F.AGE_ISL_NOW_SLACK i (r.slack % 65536).toNat
  let s := ageUpd s i (fun x => { x with samples := x.samples ++ [{ t := timeMs s, f := f, slack := r.slack }] })
  if islAdj i && fbit s F.AGE_CTL_EMERG_EN 0 && decide (r.slack * 2 < fget s F.AGE_PLAN_GUARD_PS 0 * 8) then
    ageLimit (setCeil s i (max (islMin i) (fget s F.ISL_CLK_STAT_CEIL i - 25))) i r.slack
  else s

def execAgeSample (rs : List Probe) (s : State) : Host.Outcome State Fault Refusal :=
  .next (if fbit s F.AGE_CTL_EN 0 then rs.foldl ageSample s else s)

/-- Path delay in ps (R601). -/
def delayOf (f : Nat) (slack : Int) : Rat := 1000000 / (f : Rat) - (slack : Rat) / 8

/-- The least-squares slope of delays in ps per hour (R602). -/
def drift (l : List AgeSample) : Rat :=
  let n : Rat := l.length
  let ts := l.map (fun x => (x.t : Rat) / 3600000)
  let ds := l.map (fun x => delayOf x.f x.slack)
  let tm := ts.sum / n
  let dm := ds.sum / n
  let q := (ts.map (fun t => (t - tm) * (t - tm))).sum
  if q = 0 then 0 else ((ts.zip ds).map (fun e => (e.1 - tm) * (e.2 - dm))).sum / q

/-- An island's latest delay: of its last sample, or of the baseline fused at manufacture (R602). -/
def latestDelay (s : State) (i : Nat) : Option Rat :=
  if fget s F.AGE_ISL_NOW_FREQ i ≠ 0 then some (delayOf (fget s F.AGE_ISL_NOW_FREQ i) (sext 16 (fget s F.AGE_ISL_NOW_SLACK i)))
  else if fget s F.AGE_ISL_FUSE_FREQ i ≠ 0 then some (delayOf (fget s F.AGE_ISL_FUSE_FREQ i) (fget s F.AGE_ISL_FUSE_SLACK i))
  else none

/-- The ceiling that a predicted delay allows, as a multiple of 25 MHz; no bound where the sum is not positive (R602). -/
def ceilAt (x : Rat) (top : Nat) : Nat := if x ≤ 0 then top else (1000000 / x / 25).floor.toNat * 25

/-- The first voltage step whose ceiling reaches the top of the range, or the last one. -/
def planFrom (dp k guard : Rat) (top vmax : Nat) : Nat → Nat → Nat × Nat
  | 0, v => (v, ceilAt (dp - k * v + guard) top)
  | n + 1, v =>
    let c := ceilAt (dp - k * v + guard) top
    if top ≤ c ∨ vmax ≤ v then (v, c) else planFrom dp k guard top vmax n (v + 1)

/-- Islands retired for their margin (R604). -/
def marginRetire (s : State) (t : Nat) : State :=
  if islState s t = 3 then s else fadd1 (retireTiller s t) F.AGE_STAT_RETIRED 0 1

/-- The plan of one island (R602, R604, R605). -/
def planIsl (s : State) (i : Nat) : State :=
  match latestDelay s i with
  | none => s
  | some d =>
    let x := ageIsl s i
    let r : Rat := if s.age.plans < 2 then 0 else drift x.samples
    let k : Rat := (fget s F.AGE_ISL_FUSE_K i : Rat) / 8
    let guard : Rat := fget s F.AGE_PLAN_GUARD_PS 0
    let vmax := min 12 (fget s F.AGE_PLAN_VMAX_STEPS 0)
    let dp := d + r * fget s F.AGE_PLAN_PLAN_H 0 - k * fget s F.AGE_ISL_PLAN_VOFF i
    let top := islMax (grade s) i
    let s := fput s F.AGE_ISL_PLAN_DRIFT i (max (-32768) (min 32767 (r * 1024).floor) % 65536).toNat
    let s := ageUpd s i (fun x => { x with samples := [] })
    let (v, c) := planFrom dp k guard top vmax vmax 0
    let c := min c top
    let slackAt (f : Nat) : Int := ((1000000 / (f : Rat) - (dp - k * vmax)) * 8).floor
    if islAdj i then
      if c < islMin i ∧ islType i = 0 then marginRetire s i
      else if c < islMin i ∧ islType i = 1 then (sheafTillers (i - 512)).foldl marginRetire s
      else
        let s := if c < islMin i then ageLimit s i (slackAt (islMin i)) else s
        ageUpd s i (fun x => { x with next := some (v, max c (islMin i)), old := none })
    else if slackAt top < (fget s F.AGE_PLAN_GUARD_PS 0 * 8 : Nat) then ageLimit s i (slackAt top)
    else s

/-- Every island is planned, in the order of their indexes. -/
def planAll (s : State) : State := (List.range 566).foldl planIsl s

/-- A planning pass is counted in AGE_STAT. -/
def planCount (s : State) : State := fadd1 { s with age := { s.age with plans := s.age.plans + 1 } } F.AGE_STAT_PLANS 0 1

/-- One planning pass over every island, counted in AGE_STAT (R602). -/
def agePlan (s : State) : State := planCount (planAll s)

/-- The planning pass of one half after its own reset (R602, R613, R690). -/
def agePlanHalf (s : State) (h : Nat) : State :=
  planCount (((List.range 566).filter (fun i => islHalf i == h && islType i != 7)).foldl planIsl s)

def execAgePlan (s : State) : Host.Outcome State Fault Refusal := .next (agePlan s)

/-- A plan is applied to an island: the rise in voltage, or the fall in ceiling, first; what depends on it with the next
command (R603). -/
def planApply (s : State) (i : Nat) : State :=
  let x := ageIsl s i
  match x.next with
  | none => s
  | some (v, c) =>
    let v0 := fget s F.AGE_ISL_PLAN_VOFF i
    let c0 := fget s F.ISL_CLK_STAT_CEIL i
    let old := x.old.getD (v0, c0)
    let first := x.old.isNone && ((decide (v0 < v) && decide (c0 < c)) || (decide (v < v0) && decide (c < c0)))
    if first then
      let s := ageUpd s i (fun x => { x with old := some old })
      if v0 < v then fput s F.AGE_ISL_PLAN_VOFF i v else setCeil s i c
    else
      let s := setCeil (fput s F.AGE_ISL_PLAN_VOFF i v) i c
      let s := ageUpd s i (fun x => { x with next := none, old := none })
      if old = (v, c) then s
      else event s 0x27 0 i 1 0 0 0 (old.2 % 65536 + c % 65536 * 2 ^ 16 + old.1 % 256 * 2 ^ 32 + v % 256 * 2 ^ 40)

def execPlanApply (i : Fin 566) (s : State) : Host.Outcome State Fault Refusal := .next (planApply s i)

end Sys2Proof.Machine
end

