-- ==== Sys2Proof/Machine/Requests.lean ====
section
/-!
DEFINITION. Requests of host software (R636-R642): taking an entry of a request ring, opening a context (R171, R172, R177),
appending a prompt and closing it (transitions 2 and 3), MODIFY, CANCEL and READ_LOG.
-/

namespace Sys2Proof.Machine

/-! Answer results (R642) -/
def rqOK : Nat := 0
def rqNOCTX : Nat := 1
def rqSTATE : Nat := 2
def rqFORMAT : Nat := 3
def rqRANGE : Nat := 4
def rqROLE : Nat := 5
def rqDISABLED : Nat := 6
def rqREDIRECTED : Nat := 7
def rqALREADY : Nat := 8
def rqNODESC : Nat := 9
def rqNOLOG : Nat := 10
def rqNOPT : Nat := 11
def rqNOSIDE : Nat := 12
def rqNOFRAME : Nat := 13
def rqDENIED : Nat := 14

/-! ### Taking entries (R638, R639) -/

def reqSize (s : State) (n : Nat) : Nat := 2 ^ fget s F.HST_REQ_CTL_SIZE n

/-- Entry `i` of a request ring as a 512-bit number. -/
def reqEntry (s : State) (n i : Nat) : Nat := hostNat s (fget s F.HST_REQ_BASE_BASE n * 4096 + 64 * (i % reqSize s n)) 64

/-- The device serves: the start order has ended (R617), and the host port's half is neither fenced nor suspended
(R568, R572, R574). -/
def hostServes (s : State) : Bool := fget s F.GLB_STAT_PHASE 0 == 12 && !halfQuiet s 0

/-- The completion ring that an entry of ring `n` names. -/
def reqCring (n e : Nat) : Nat := n / 4 * 4 + bits e 16 2

/-- The next entry of a request ring, when the device may take it (R639). -/
def reqHead (s : State) (n : Nat) : Option Nat :=
  if !hostServes s || !fbit s F.HST_CTL_EN 0 || !fbit s F.HST_REQ_CTL_EN n ||
      fget s F.HST_REQ_PTR_DEV n == fget s F.HST_REQ_PTR_HOST n then none
  else
    let e := reqEntry s n (fget s F.HST_REQ_PTR_DEV n)
    if cplFree s (reqCring n e) && !(bits e 0 8 == 1 && !s.host.spill.isEmpty) then some e else none

/-- `k` entries are taken and a free entry of the completion ring is promised to the answer (R638, R639). -/
def reqTake (s : State) (n k e : Nat) : State :=
  let s := fput s F.HST_REQ_PTR_DEV n ((fget s F.HST_REQ_PTR_DEV n + k) % reqSize s n)
  let c := cplOf s (reqCring n e)
  setCpl s (reqCring n e) { c with promised := c.promised + 1 }

/-- The answer to the entry `e` of ring `n`: result, context, INCARNATION, VALUE. -/
def reqAnswer (s : State) (n e res cid inc value : Nat) : State :=
  answer s (reqCring n e) (bits e 32 32) (bits e 0 8) res cid inc value

/-- The answer that names what the entry names. -/
def reqRefuse (s : State) (n e res : Nat) : State := reqAnswer s n e res (bits e 64 32) (bits e 96 16) 0

/-- Bits that every entry keeps 0: CRING above bit 1, the context ID above bit 17, bytes 14 and 15. -/
def reqHeadBad (e : Nat) : Bool := bits e 18 14 != 0 || bits e 82 14 != 0 || bits e 112 16 != 0

/-- An entry whose OP is reserved is taken as soon as it may be, and answered FORMAT (R26). -/
def reqReserved (s : State) (n : Nat) : Nat → State
  | 0 => s
  | k + 1 => match reqHead s n with
    | none => s
    | some e =>
      if bits e 0 8 = 0 ∨ 7 ≤ bits e 0 8 then reqReserved (reqRefuse (reqTake s n 1 e) n e rqFORMAT) n k else s

/-- The next entry of the ring with this OP is taken and served; reserved entries behind it go too. -/
def reqServe (s : State) (n op : Nat) (f : State → Nat → State) : State :=
  match reqHead s n with
  | none => s
  | some e => if bits e 0 8 = op then reqReserved (f s e) n (reqSize s n) else s

/-! ### OPEN (R171, R172, R177, R641) -/

/-- A half that the host port can reach (R574). -/
def halfHere (s : State) (h : Nat) : Bool := h == 0 || !s.twin.lost

/-- Free descriptors of a half; none can be given by a half that cannot be reached. -/
def freeDescs (s : State) (h : Nat) : Nat := if halfHere s h then ctxCount s h 0 else 0

/-- The half of an open request (R171): HALF 1 is A, 2 is B. -/
def openHalf (s : State) (half : Nat) : Nat :=
  if half = 1 then 0 else if half = 2 then 1 else if freeDescs s 0 < freeDescs s 1 then 1 else 0

/-- What an OPEN and its OPEN_EXT ask for. -/
structure OpenReq where
  fn : Nat := 0
  cring : Nat := 0
  d : Desc := 0
  /-- HALF, STREAM, IMPORT, output buffer -/
  half : Nat := 0
  stream : Bool := false
  imp : Bool := false
  outIova : Nat := 0
  outWords : Nat := 0
  stopIova : Nat := 0
  deriving DecidableEq, Repr

/-- Reserved values of an OPEN and its OPEN_EXT, and addresses that are not aligned (R641 check 1). -/
def openFormat (e x : Nat) : Bool :=
  reqHeadBad e || bits e 64 48 != 0 || bits e 10 6 != 0 || bits e 8 1 == 0 ||
  bits e 149 11 != 0 || bits e 181 11 != 0 || bits e 208 2 == 3 || bits e 210 2 == 3 || decide (2 < bits e 212 4) ||
  bits e 216 2 == 3 || bits e 220 2 == 3 || bits e 223 1 != 0 || bits e 230 2 != 0 || bits e 238 2 != 0 || bits e 250 6 != 0 ||
  bits e 480 32 != 0 || (bits e 212 4 == 1 && bits e 9 1 == 1) ||
  bits x 8 120 != 0 || bits x 274 14 != 0 || bits x 304 16 != 0 || bits x 416 96 != 0 ||
  bits x 192 6 != 0 || bits x 320 2 != 0 || (bits x 320 64 != 0 && bits x 384 32 == 0)

/-- The descriptor an OPEN asks for, without what the device gives it (R173). -/
def openDesc (s : State) (fn e x : Nat) : Desc :=
  let tenant := if fbit s F.HST_FN_TENANT_FIX fn then fget s F.HST_FN_TENANT fn else bits e 232 6
  let dl := bits e 220 2
  let maxLen := bits e 128 21
  let S := max (slotsOf (bits e 210 2) (bits e 208 2)) 1
  let d : Desc := 0
  let d := ds (ds (ds d D.TENANT tenant) D.PARTITION (bits e 227 3)) D.PRIORITY (bits e 224 3)
  let d := ds (ds (ds d D.DL_MODE dl) D.PUBLISH (bits e 218 1)) D.PUBLISH_CLOSE (bits e 219 1)
  let d := ds (ds (ds d D.KIND (bits e 212 4)) D.MAX_LEN maxLen) D.MAX_TOKENS (bits e 160 21)
  let d := ds (ds (ds d D.SEED (bits e 320 64)) D.TEMP (bits e 384 32)) D.FILTER (bits e 416 32)
  let d := ds (ds d D.DEADLINE (if dl = 0 then 0 else bits e 256 64)) D.NAMESPACE (bits e 448 32)
  let d := ds (ds (ds d D.FMT (bits e 210 2)) D.DIM (bits e 208 2)) D.LAYERS_M1 (bits e 192 8)
  let d := ds (ds (ds d D.KVH_M1 (bits e 200 8)) D.PPS (cdiv maxLen S)) D.COMP (bits e 240 10)
  let d := ds (ds (ds d D.TAG (bits x 128 64)) D.OWNER_CTX (bits x 256 18)) D.OWNER_PEER (bits x 288 16)
  ds d D.PFX_NODE noNode

def openReq (s : State) (n e x : Nat) : OpenReq :=
  { fn := n / 4, cring := reqCring n e, d := openDesc s (n / 4) e x, half := bits e 216 2, stream := bits e 222 1 == 1,
    imp := bits e 9 1 == 1, outIova := bits x 320 64, outWords := bits x 384 32, stopIova := bits x 192 64 }

/-- KIND suits the role (R641 check 4). -/
def kindOk (s : State) (k : Nat) : Bool := standalone s || role s == (if k = 0 then 1 else if k = 1 then 0 else 2)

/-- Log segments that the open contexts of a half have reserved (R177). -/
def logReserved (s : State) (h : Nat) : Nat :=
  (ctxsOf s h).foldl (fun n c =>
    let st := cstate s c
    if st = stFREE ∨ st = stCLOSED then n else n + cdiv (dg (cx s c).d D.MAX_LEN) 16384) 0

/-- An auxiliary frame goes with the context (R177). -/
def needsAux (s : State) (d : Desc) : Bool := decodes s d

/-- Span pages a geometry gives (R172). -/
def openPages (d : Desc) : Nat := (dg d D.LAYERS_M1 + 1) * (dg d D.KVH_M1 + 1) * 2 * cdiv (dg d D.MAX_LEN) (max (dSlots d) 1)

/-- The refusals of R172 from the range case on, in order: the answer and the CTX_ERR bit it sets. -/
def openRefusal (s : State) (h : Nat) (d : Desc) : Option (Nat × Option Fld) :=
  let maxLen := dg d D.MAX_LEN
  if maxLen = 0 ∨ 1048576 < maxLen ∨ 4194304 < openPages d then some (rqRANGE, none)
  else if freeDescs s h = 0 then some (rqNODESC, some F.CTX_ERR_NO_DESC)
  else if fget s F.CTX_POOL_SIZE_LOG h < logReserved s h + cdiv maxLen 16384 then some (rqNOLOG, some F.CTX_ERR_LOG_FULL)
  else if (takePt s h (ptBytes (dStreams d) (dg d D.PPS))).isNone then some (rqNOPT, some F.CTX_ERR_PT_FULL)
  else if dg d D.FMT = 2 ∧ fget s F.CTX_POOL_SIZE_SIDE h ≤ (poolOf s h).side.length then some (rqNOSIDE, some F.CTX_ERR_SIDE_FULL)
  else if needsAux s d ∧ halfFree s h = 0 then some (rqNOFRAME, some F.CTX_ERR_FRAME_FULL)
  else none

/-- The lowest-numbered FREE descriptor of a half (R171). -/
def lowDesc (s : State) (h : Nat) : Nat :=
  let l := ((ctxsOf s h).filter (fun c => cstate s c != stFREE)).map (· % 131072)
  h * 131072 + lowestOut l l.length 0

/-- Address of the stop record of a context's slot (R641). -/
def stopAddr (s : State) (c : Nat) : Nat := fget s F.HST_STOP_POOL_BASE (ctxHalf c) * 65536 + 2368 * (c % 131072)

/-- Transition 1 with the allocations of R177: the page-table block, zero, and the auxiliary frame. `d` is the descriptor
without them, with its STATE; the context gets a new INCARNATION and no shared, generated or valid position but what `d`
says. -/
def openAs (s : State) (h : Nat) (x : Ctx) (extra : List JEntry) : Option (Nat × State) :=
  let c := lowDesc s h
  let d := x.d
  (takePt s h (ptBytes (dStreams d) (dg d D.PPS))).map (fun (a, s) =>
    let aux := if needsAux s d then anyFrame s h else none
    let s := match aux with
      | some k => setUse s k 6
      | none => s
    let d := ds (ds (ds d D.SPAN_PT a) D.LOG_DIR a) D.AUX ((aux.map keyAddr).getD 0)
    let d := ds d D.INCARNATION (dg (cx s c).d D.INCARNATION + 1)
    (c, cxChange s c { x with d := d } (extra.map (fun e => { e with obj := c, incarn := dg d D.INCARNATION }))))

/-- A context that the half takes, with its descriptor; without room for its page table nothing is opened. -/
def openCtxAs (s : State) (h : Nat) (x : Ctx) : Nat × Nat × State :=
  (openAs s h x []).elim (rqNOPT, 0, s) (fun y => (rqOK, y.1, y.2))

/-- The context of an OPEN, its stop record at `stop`. -/
def openCtxOf (r : OpenReq) (stop : Nat) : Ctx :=
  { d := ds (ds r.d D.STATE stOPEN) D.STOP_REC stop, fn := r.fn, cring := r.cring, stream := r.stream, outIova := r.outIova,
    outWords := r.outWords, imp := r.imp }

/-- The stop record of an OPEN is copied. -/
def openStop (s : State) (h : Nat) (r : OpenReq) : State :=
  if r.stopIova = 0 then s else memWrite s (stopAddr s (lowDesc s h)) (hostBytes s r.stopIova 2368)

/-- A context that the half takes: its stop record is copied, and its descriptor made. -/
def openCtxDo (s : State) (h : Nat) (r : OpenReq) : Nat × Nat × State :=
  if r.stopIova ≠ 0 ∧ hostFails s r.stopIova 2368 then (rqRANGE, 0, s)
  else openCtxAs (openStop s h r) h (openCtxOf r (if r.stopIova = 0 then 0 else stopAddr (openStop s h r) (lowDesc s h)))

/-- An OPEN that has passed checks 1 and 2 (R641 checks 3 to 5): the answer's result, the context, and the state. -/
def openCtxReq (s : State) (r : OpenReq) : Nat × Nat × State :=
  let h := openHalf s r.half
  if !fbit s F.CTX_CTL_OPEN_EN h then (rqDISABLED, 0, s)
  else if !kindOk s (dg r.d D.KIND) then (rqROLE, 0, s)
  else (openRefusal s h r.d).elim (openCtxDo s h r) (fun x => (x.1, 0, x.2.elim s (fun f => fset s f h)))

/-- An OPEN with its OPEN_EXT; an OPEN that is followed by anything else is answered FORMAT (R641). It waits until its next
entry is posted. -/
def openEntry (s : State) (n e : Nat) : State :=
  let dev := fget s F.HST_REQ_PTR_DEV n
  let x := reqEntry s n (dev + 1)
  let two := bits e 8 1 == 1
  if two ∧ (dev + 1) % reqSize s n = fget s F.HST_REQ_PTR_HOST n then s
  else if !two || bits x 0 8 != 2 then reqRefuse (reqTake s n 1 e) n e rqFORMAT
  else
    let s := reqTake s n 2 e
    if openFormat e x then reqRefuse s n e rqFORMAT
    else if !fbit s F.HST_FN_OPEN_EN (n / 4) || bits (fget s F.HST_FN_PARTS (n / 4)) (bits e 227 3) 1 == 0 then
      reqRefuse s n e rqDENIED
    else
      let r := openCtxReq s (openReq s n e x)
      if r.1 = rqOK then reqAnswer r.2.2 n e rqOK r.2.1 (dg (cx r.2.2 r.2.1).d D.INCARNATION) 0
      else reqRefuse r.2.2 n e r.1

def execOpenCtx (ring : Fin 256) (s : State) : Host.Outcome State Fault Refusal :=
  .next (reqServe s ring 1 (fun s e => openEntry s ring e))

/-- A lone OPEN_EXT (R641). -/
def execOpenExt (ring : Fin 256) (s : State) : Host.Outcome State Fault Refusal :=
  .next (reqServe s ring 2 (fun s e => reqRefuse (reqTake s ring 1 e) ring e rqFORMAT))

/-! ### Naming a context (R175, R637) -/

/-- The context that an entry names, when it names one of the ring's function. -/
def reqCtx (s : State) (n e : Nat) : Option Nat :=
  let c := bits e 64 18
  if named s c (bits e 96 16) && halfHere s (ctxHalf c) && (n / 4 == 0 || (cx s c).fn == n / 4) then some c else none

/-! ### APPEND (R180, R642) -/

/-- A reserved value of an APPEND. -/
def appendFormat (e : Nat) : Bool :=
  let inline := bits e 9 1 == 1
  let n := bits e 128 32
  reqHeadBad e || bits e 10 6 != 0 || decide (16384 < n) || bits e 160 32 != 0 ||
    (if inline then decide (8 < n) || bits e 192 64 != 0 else bits e 256 256 != 0)

/-- The token words of an APPEND; none when the host memory cannot be read. -/
def appendWords (s : State) (e : Nat) : Option (List Nat) :=
  let n := bits e 128 32
  if bits e 9 1 = 1 then some ((List.range n).map (fun i => bits e (256 + 32 * i) 32))
  else if n ≠ 0 ∧ hostFails s (bits e 192 64) (4 * n) then none
  else some ((List.range n).map (fun i => hostNat s (bits e 192 64 + 4 * i) 4))

/-- A context awaits no import, so transition 3 sets IMPORT_DONE (R184). -/
def noImport (s : State) (x : Ctx) : Bool :=
  !(dg x.d D.KIND == 2 || (dg x.d D.KIND == 0 && !standalone s && role s == 1) || x.imp)

/-- The role looks prompts up in the prefix tree (R36). -/
def attaches (s : State) : Bool := standalone s || role s == 0 || role s == 2

/-- The STOP entries of a stop record: 40 bytes each (R549). -/
def stopEnts (c inc : Nat) (bs : List Byte) : List JEntry :=
  (List.range (cdiv bs.length 40)).map (fun i =>
    let part := (bs.drop (40 * i)).take 40
    { typ := 4, count := part.length, obj := c, incarn := inc, arg := 40 * i, data := ofBytes part })

/-- Transition 3. The stop record is journaled (R549), and the attachment of R205 begins. -/
def closePrompt (s : State) (c : Nat) : State :=
  let x := cx s c
  let d := ds (ds (ds x.d D.STATE stPREFILL) D.PROMPT_LEN (dg x.d D.LENGTH)) D.PROMPT_DONE 1
  let d := if noImport s x then ds d D.IMPORT_DONE 1 else d
  let at' := if dg d D.NAMESPACE ≠ 0 ∧ attaches s then 1 else 0
  let stop := if dg d D.STOP_REC = 0 then [] else stopEnts c (dg d D.INCARNATION) (memBytes s (dg d D.STOP_REC) 2368)
  cxChange s c { x with d := d, attach := at' } stop

/-- Transition 2: words written with GEN 0 at LENGTH, and journaled with it. -/
def appendTo (s : State) (c : Nat) (ws : List Nat) : State :=
  let x := cx s c
  let len := dg x.d D.LENGTH
  let l := ws.map (BitVec.ofNat 32)
  let s := logWrites s c len l
  let x := cx s c
  cxChange s c { x with d := ds x.d D.LENGTH (len + ws.length) } (logEnts c (dg x.d D.INCARNATION) len ws.length l)

def appendEntry (s : State) (n e : Nat) : State :=
  let s := reqTake s n 1 e
  if appendFormat e then reqRefuse s n e rqFORMAT
  else match reqCtx s n e with
    | none => reqRefuse s n e rqNOCTX
    | some c =>
      let s := descRead s c
      let d := (cx s c).d
      if dg d D.STATE ≠ stOPEN then reqRefuse s n e rqSTATE
      else if dg d D.MAX_LEN < dg d D.LENGTH + bits e 128 32 then reqRefuse s n e rqRANGE
      else match appendWords s e with
        | none => reqRefuse s n e rqRANGE
        | some ws =>
          if ws.any (fun w => decide (2 ^ 20 ≤ w)) then reqRefuse s n e rqFORMAT
          else
            let s := if ws.isEmpty then s else appendTo s c ws
            let s := if bits e 8 1 = 1 then closePrompt s c else s
            reqAnswer s n e rqOK c (dg d D.INCARNATION) (dg d D.LENGTH + ws.length)

def execAppend (ring : Fin 256) (s : State) : Host.Outcome State Fault Refusal :=
  .next (reqServe s ring 3 (fun s e => appendEntry s ring e))

/-! ### MODIFY (R174) -/

def modifyFormat (e : Nat) : Bool :=
  reqHeadBad e || bits e 8 8 != 0 || bits e 133 3 != 0 || bits e 144 48 != 0 || bits e 256 256 != 0 ||
    (bits e 129 1 == 1 && bits e 136 2 == 3)

/-- The change waits for the next formation of the context's half, which answers it. -/
def modifyEntry (s : State) (n e : Nat) : State :=
  let s := reqTake s n 1 e
  if modifyFormat e then reqRefuse s n e rqFORMAT
  else match reqCtx s n e with
    | none => reqRefuse s n e rqNOCTX
    | some c =>
      let h := ctxHalf c
      setQueue s h (schQueue s h ++ [.modify (n / 4) (reqCring n e) (toBytes 64 e)])

def execModify (ring : Fin 256) (s : State) : Host.Outcome State Fault Refusal :=
  .next (reqServe s ring 4 (fun s e => modifyEntry s ring e))

/-! ### CANCEL (R319, R320, R44) -/

def cancelFormat (e : Nat) : Bool := reqHeadBad e || bits e 8 8 != 0 || bits e 128 384 != 0

def cancelEntry (s : State) (n e : Nat) : State :=
  let s := reqTake s n 1 e
  let c := bits e 64 18
  let inc := bits e 96 16
  if cancelFormat e then reqRefuse s n e rqFORMAT
  else match reqCtx s n e with
    | some c =>
      let d := (cx s c).d
      let r := cancelCtx s c
      if r.1 = anACCEPTED then reqAnswer (ownerMsg r.2 d 3 endCANCELLED 0) n e rqOK c inc 0
      else reqAnswer r.2 n e rqALREADY c inc 0
    | none =>
      if mirrored s c inc then reqAnswer s n e rqREDIRECTED c inc (fget s F.TWN_CTL_TWIN_NODE 0)
      else reqRefuse s n e rqNOCTX

def execCancel (ring : Fin 256) (s : State) : Host.Outcome State Fault Refusal :=
  .next (reqServe s ring 5 (fun s e => cancelEntry s ring e))

/-! ### READ_LOG (R642, R181) -/

def readFormat (e : Nat) : Bool :=
  reqHeadBad e || bits e 8 8 != 0 || bits e 160 32 == 0 || decide (1048576 < bits e 160 32) || bits e 192 2 != 0 ||
    bits e 256 256 != 0

/-- The first position of `n` from `p` on whose log line fails and whose word is not kept. -/
def badFrom (s : State) (c p : Nat) : Nat → Option (Nat × Nat)
  | 0 => none
  | n + 1 => match (if (nfind (cx s c).kept p).isSome then none else logBad s (cx s c).d p) with
    | some a => some (p, a)
    | none => badFrom s c (p + 1) n

/-- Every log word of the range is written to host memory, then the answer. -/
def readOut (s : State) (cring e c : Nat) : State :=
  let first := bits e 128 32
  let ws := (List.range (bits e 160 32)).map (fun i => logWord s c (first + i))
  let s := hostWrite s (bits e 192 64) (ws.flatMap (fun w => toBytes 4 w.toNat))
  answer s cring (bits e 32 32) 6 rqOK c (bits e 96 16) 0

/-- A READ_LOG that has been taken: done, refused, or waiting for a log line that is fetched. `again` says that a fetch of
this context has failed. -/
def readTry (s : State) (cring e : Nat) (again : Bool) : State :=
  let c := bits e 64 18
  let ans (s : State) (r : Nat) : State := answer s cring (bits e 32 32) 6 r c (bits e 96 16) 0
  let d := (cx s c).d
  if !named s c (bits e 96 16) then ans s rqNOCTX
  else if dg d D.STATE = stCLOSED then ans s rqSTATE
  else if dg d D.LENGTH < bits e 128 32 + bits e 160 32 then ans s rqRANGE
  else match badFrom s c (bits e 128 32) (bits e 160 32) with
    | none => readOut s cring e c
    | some (p, a) =>
      if again then ans s rqSTATE
      else
        let s := logFetch s c p a
        { s with host := { s.host with reads := s.host.reads ++ [(cring, toBytes 64 e)] } }

def readEntry (s : State) (n e : Nat) : State :=
  let s := reqTake s n 1 e
  if readFormat e then reqRefuse s n e rqFORMAT
  else match reqCtx s n e with
    | none => reqRefuse s n e rqNOCTX
    | some c => readTry (descRead s c) (reqCring n e) e false

def execReadLog (ring : Fin 256) (s : State) : Host.Outcome State Fault Refusal :=
  .next (reqServe s ring 6 (fun s e => readEntry s ring e))

/-- READ_LOG requests of a context go on once a fetch for it has ended. -/
def retryReads (s : State) (c : Nat) (failed : Bool) : State :=
  let l := s.host.reads
  let mine := l.filter (fun r => bits (ofBytes r.2) 64 18 == c)
  let s := { s with host := { s.host with reads := l.filter (fun r => bits (ofBytes r.2) 64 18 != c) } }
  mine.foldl (fun s r => readTry s r.1 (ofBytes r.2) failed) s

end Sys2Proof.Machine
end

