-- ==== Sys2Proof/Machine/Reset.lean ====
section
/-!
DEFINITION. The resets of the device, of a half and of the host port (R610-R616, R656, R657), and what goes out before one.
-/

namespace Sys2Proof.Machine

/-! ### Discovery messages (R626-R630) -/

/-- Links that are UP, bit by port. -/
def portsUp (s : State) : Nat := (List.range 6).foldl (fun n i => n + b2n (portUp s i) * 2 ^ i) 0

/-- A discovery message. -/
def discMsg (s : State) (op frame : Nat) : List Byte :=
  let rank := if fbit s F.LAT_CTL_EN 0 then fget s F.LAT_CTL_RANK 0 else 0xFF
  toBytes 1 op ++ toBytes 1 (b2n (standalone s) + 2 * role s) ++ toBytes 1 (grade s) ++ toBytes 1 rank ++
    toBytes 4 (fget s F.FAB_NODE_NODE 0) ++
    ownIp s ++
    toBytes 4 (tw s 0).boot ++ toBytes 4 (fget s F.TWN_CTL_TWIN_NODE 0) ++ toBytes 8 (fget s F.GLB_SERIAL_SERIAL 0) ++
    toBytes 4 (fget s F.GLB_CFG_IMAGE_VER 0) ++ toBytes 1 (fget s F.GLB_STAT_STACKS 0) ++ toBytes 1 (portsUp s) ++
    toBytes 1 (fget s F.FLS_STAT_STATE 0) ++ toBytes 1 0 ++ toBytes 4 frame ++ toBytes 12 0

/-- The registrars that GLB_DISC_CTL names (R626). -/
def registrars (s : State) : List Nat :=
  [fget s F.GLB_DISC_CTL_REG0 0, fget s F.GLB_DISC_CTL_REG1 0].filter (· != 65535)

/-- A message that leaves at once, before a reset that clears every queue (R630). -/
def sendLast (s : State) (p : Nat) (bs : List Byte) : State :=
  let path := nextPath s p
  match portOf s p path with
  | none => s
  | some i =>
    if pState s p ≠ 1 ∨ portQuiet s i ∨ s.pins.outputsStopped then s
    else
      let k : Pkt := { typ := 4, fin := true, src := fget s F.FAB_NODE_NODE 0, psn := pf s p 44 4, msg := s.fresh % 2 ^ 32,
                       total := 1, arg := 3, data := bs }
      let f : OutFrame := { wire := wireLen s i bs.length, peer := p, path := path, p := k }
      bump (frameOut s i f)

/-- WITHDRAW to each registrar (R630). -/
def withdraw (s : State) : State := (registrars s).foldl (fun s p => sendLast s p (discMsg s 5 0)) s

/-- The notice of a reset to the twin: GIVEUP on the link of a half that is SYNCING or PAIRED (R615). -/
def giveupOn (s : State) (h : Nat) : State :=
  if pairState s h = 1 ∨ pairState s h = 2 then twinSend s h { typ := 8 } else s

/-! ### Device reset (R611) -/

/-- A BOOT: a draw of 32 bits that is not 0 (R547). -/
def bootDraw (s : State) : Nat := max 1 (drawOf s 20 % 2 ^ 32)

/-- What the flash media keeps: the time it was mounted is counted (R429, R610). -/
def mediaKept (s : State) : FlsMedia :=
  { s.flash.media with log := { s.flash.media.log with powerOn := powerOnS s } }

/-- A device or power-on reset: every structure of the device at its state after reset, but for fuses, boot images, flash media,
what lies outside the device, and the commands that wait; a new BOOT for each twin link (R610, R611, R616). -/
def deviceReset (s : State) (cause : Nat) : State :=
  let a := bootDraw s
  let s1 := bump s
  let b := bootDraw s1
  let flash (e : Nat) : Bool := addrTier e == 2
  let z := { State.reset with
    pending := s.pending
    fresh := s.fresh + 2
    fuse := s.fuse
    image0 := s.image0
    image1 := s.image1
    pins := { s.pins with extest := none }
    mem := s.mem.filter (fun e => flash e.1)
    syn := s.syn.filter (fun e => flash (64 * e.1))
    hostMem := s.hostMem
    hostBad := s.hostBad
    flash := { media := mediaKept s }
    twin := { half := [(0, { boot := a }), (1, { boot := b })] }
    sec := { chains := if s.sec.chains = 1 then 2 else s.sec.chains }
    out := s.out }
  fput z F.GLB_RESET_CAUSE_CAUSE 0 cause

/-- The device is held until its reset is released (R617). -/
def holdReset (s : State) : State := { s with start := { s.start with held := true } }

/-- POWER_ON_RESET: rails rise. -/
def execPowerOnReset (s : State) : Host.Outcome State Fault Refusal :=
  let s := { s with pins := { s.pins with thermTrip := false, pwrAlert := false, outputsStopped := false } }
  .next (holdReset (deviceReset s 0))

/-- DEVICE_RESET: SYS_RST_N, or PERST# where it resets the device. A device that holds itself in reset after a thermal trip stays
so (R687). -/
def execDeviceReset (perst : Bool) (s : State) : Host.Outcome State Fault Refusal :=
  .next (if perst then
      (if fbit s F.GLB_CFG_PERST_SCOPE 0 then s
        else holdReset (deviceReset { s with pins := { s.pins with perst := true } } 2))
    else holdReset (deviceReset { s with pins := { s.pins with sysRst := true } } 1))

/-- RESET_RELEASE: the start order begins at step 1. -/
def execResetRelease (s : State) : Host.Outcome State Fault Refusal :=
  .next (if !s.start.held || s.pins.thermTrip then s
    else { s with
      start := { s.start with held := false }
      now := 0
      pins := { s.pins with sysRst := false, perst := false, extest := none } })

/-- THERMAL_TRIP: every output stops, THERMTRIP_N is asserted, and the device holds itself in reset (R687). -/
def execThermalTrip (_sensor : Nat) (s : State) : Host.Outcome State Fault Refusal :=
  .next (holdReset (deviceReset { s with pins := { s.pins with thermTrip := true, outputsStopped := true } } (fget s F.GLB_RESET_CAUSE_CAUSE 0)))

/-- A device reset or the start order after one is in progress (R614). -/
def deviceStarting (s : State) : Bool := s.start.held || decide (fget s F.GLB_STAT_PHASE 0 < 12)

/-- A device reset that registers or management ask for: it merges into one in progress (R614, R615, R630). -/
def askedReset (s : State) (cause : Nat) : State :=
  if deviceStarting s then s else deviceReset (giveupOn (giveupOn (withdraw s) 0) 1) cause

/-! ### Rings and functions (R656, R657) -/

/-- The rings of function `f` are disabled, with their untaken entries and unwritten answers, and its MSI-X state is clear. -/
def ringsOff (s : State) (f : Nat) : State :=
  let s := (List.range 4).foldl (fun s k =>
    let n := 4 * f + k
    let s := fput (fput s F.HST_REQ_CTL_EN n 0) F.HST_CPL_CTL_EN n 0
    setCpl s n {}) s
  let s := fput (fput s F.HST_RX_CTL_EN f 0) F.HST_TX_CTL_EN f 0
  let mine (n : Nat) : Bool := n / 4 == f
  let re (r : StepReq) : StepReq := match r with
    | .modify fn c e => if mine c then .modify fn 256 e else .modify fn c e
    | .cmd w => .cmd w
  { s with
    host := { s.host with
      msix := s.host.msix.filter (fun e => e.1 / 64 != f)
      pba := s.host.pba.filter (fun e => e.1 / 32 != f)
      reads := s.host.reads.filter (fun r => !mine r.1)
      rxWait := nerase s.host.rxWait f
      tx := nerase s.host.tx f }
    sch := { s.sch with queue := s.sch.queue.map (fun e => (e.1, e.2.map re)) } }

/-- Records of the function's contexts that wait or have spilled are discarded (R656). -/
def recordsGone (s : State) (f : Nat) : State :=
  let mine (n : Nat) : Bool := n / 4 == f
  let s := [0, 1].foldl (fun s h => twPut s h { tw s h with recs := (tw s h).recs.filter (fun r => !mine r.ring) }) s
  setSpill s (s.host.spill.filter (fun e => !mine e.ring))

/-- FLR: the function's rings go, and each of its contexts is cancelled without a record (R656); a cancel that ends a pool member's
part is reported to the owner (R44). -/
def flr (s : State) (f : Nat) : State :=
  let s := recordsGone (ringsOff s f) f
  (ctxsOf s 0 ++ ctxsOf s 1).foldl (fun s c =>
    if (cx s c).fn ≠ f ∨ cstate s c = stFREE then s
    else
      let r := cancelCtx (cxUpd s c (fun x => { x with norec := true })) c
      if r.1 = anACCEPTED then ownerMsg r.2 (cx s c).d 3 endCANCELLED 0 else r.2) s

def execFlr (fn : Fin 64) (s : State) : Host.Outcome State Fault Refusal := .next (flr s fn)

/-- The PCIe endpoint after a reset of the host port: no link, no answer to configuration requests, every ring disabled (R657). -/
def hostPortReset (s : State) : State :=
  let s := (List.range 64).foldl ringsOff s
  let s := rput s .HST_STAT 0 0
  { s with host := { s.host with cfg := 0, aper := [] }, start := { s.start with pcie := 1 } }

/-- HOST_PORT_RESET: PERST# while it resets the host port only. -/
def execHostPortReset (s : State) : Host.Outcome State Fault Refusal :=
  .next (if fbit s F.GLB_CFG_PERST_SCOPE 0 then hostPortReset s else s)

/-! ### The loss of the other half (R568, R573, R613) -/

/-- An item goes on as one of no step. -/
def stepless (h : Nat) (w : Work) : Work := if w.step ≠ 0 ∧ itemHalf w ≠ h then { w with step := 0 } else w

/-- Every item that lies in half `h` and belongs to the other half counts as ended there by a MEMORY exception, and goes on here
outside the step (R573). -/
def cutItems (s : State) (h : Nat) : State :=
  let l := (worksIn s h).filter (fun w => w.step != 0 && itemHalf w != h)
  let s := l.foldl (fun s w => stepSub (faultContexts s w 3) w (16 * h) 0) s
  let g := stepless h
  let tl (k : Nat) (x : Tiller) : Tiller := if k / 256 ≠ h then x else
    { x with item := x.item.map g, taken := x.taken.map g, pushing := x.pushing.map g, deque := x.deque.map g }
  let sf (k : Nat) (x : Sheaf) : Sheaf := if k / 16 ≠ h then x else
    { x with inbox := x.inbox.map g, held := x.held.map g, ovf := x.ovf.map g }
  { s with til := nmap (fun _ => {}) tl s.til, shf := nmap (fun _ => {}) sf s.shf }

/-- Transfers held between the halves wait for the link from now on. -/
def cutHeld (s : State) : State :=
  let far (k : Nat) : Bool := islHalf (k / 2 / 566) != islHalf (k / 2 % 566)
  let mark (k : Nat) (l : List HeldX) : List HeldX := if far k then l.map (fun h => { h with cut := true }) else l
  let s1 := { s with isl := { s.isl with held := nmap (fun _ => []) mark s.isl.held } }
  (s.isl.stall.map (·.1)).foldl xstallFix s1

/-- The halves lose each other. -/
def cutHalves (s : State) : State :=
  let s := cutItems (cutItems (cutHeld s) 0) 1
  fput { s with twin := { s.twin with lost := true } } F.TWN_LEAD_D2D_UP 0 0

/-! ### Half reset (R612, R613) -/

/-- Half that an instance of a register belongs to; 2 for none. The host port lies in half A. -/
def Reg.half (r : Reg) (i : Nat) : Nat :=
  match r with
  | .HST_CTL => 0
  | .HST_STAT => 0
  | .HST_ERR => 0
  | .HST_ERR_ADDR => 0
  | .HST_SPILL => 0
  | .HST_APER => 0
  | .HST_APER_STAT => 0
  | .HST_MCTP => 0
  | .HST_FN => 0
  | .HST_REQ_BASE => 0
  | .HST_REQ_CTL => 0
  | .HST_REQ_PTR => 0
  | .HST_CPL_BASE => 0
  | .HST_CPL_CTL => 0
  | .HST_CPL_PTR => 0
  | .HST_RX_BASE => 0
  | .HST_RX_CTL => 0
  | .HST_RX_PTR => 0
  | .HST_TX_BASE => 0
  | .HST_TX_CTL => 0
  | .HST_TX_PTR => 0
  | .HST_STOP_POOL => i
  | .CTX_CTL => i
  | .CTX_LOG_POOL => i
  | .CTX_PT_POOL => i
  | .CTX_SIDE_POOL => i
  | .CTX_POOL_SIZE => i
  | .CTX_ERR => i
  | .CTX_WALK => i
  | .CTX_COW => i
  | .CTX_PEEK_SEL => i
  | .PFX_CTL => i
  | .PFX_NODE_POOL => i
  | .PFX_IDX_POOL => i
  | .PFX_SHARE_POOL => i
  | .PFX_SIZE => i
  | .PFX_USED => i
  | .PFX_LOOKUPS => i
  | .PFX_COLLIDE => i
  | .PFX_EVICT => i
  | .PFX_INVAL => i
  | .BNK_PROG_BASE => i
  | .FLS_MAP => i
  | .TWN_HS_STAT => i
  | .TWN_HS_JSENT => i
  | .TWN_HS_JACKED => i
  | .TWN_HS_JAPPLIED => i
  | .TWN_HS_JBUF => i
  | .TWN_HS_MIRROR => i
  | .TWN_HS_CNT => i
  | .CTX_CNT => i / 4
  | .BNK_STK_STAT => i / 4
  | .BNK_STROKES => i / 4
  | .BNK_BUSY => i / 4
  | .BNK_YIELD => i / 4
  | .BNK_LINE_ERR => i / 4
  | .BNK_REFRESH => i / 4
  | .TIE_STK => i / 4
  | .ROW_SHD => i / 4
  | .CTX_PEEK_W => i / 16
  | .TIL_SHF_STAT => i / 16
  | .TIL_SHF_PERR => i / 16
  | .FLS_CH => i / 8
  | .FAB_PORT_CTL => i / 3
  | .FAB_PORT_STAT => i / 3
  | .FAB_PORT_GW => i / 3
  | .FAB_PORT_TXTS => i / 3
  | .FAB_PORT_TXSEQ => i / 3
  | .FAB_PORT_CNT => i / 3
  | .SHP_PORT_CTL => i / 3
  | .SHP_PRIV => i / 3
  | .SHP_GATE_CTL => i / 3
  | .SHP_GATE_BASE => i / 3
  | .SHP_POL_CNT => i / 3
  | .SHP_CLASS => i / 24
  | .SHP_POL => i / 24
  | .SHP_PBURST => i / 24
  | .SHP_GATE => i / 48
  | .AGE_ISL_FUSE => if islType i = 7 then 2 else islHalf i
  | .AGE_ISL_NOW => if islType i = 7 then 2 else islHalf i
  | .AGE_ISL_PLAN => if islType i = 7 then 2 else islHalf i
  | .ISL_ID => if islType i = 7 then 2 else islHalf i
  | .ISL_CLK_CTL => if islType i = 7 then 2 else islHalf i
  | .ISL_CLK_STAT => if islType i = 7 then 2 else islHalf i
  | .ISL_XSTALL => if islType i = 7 then 2 else islHalf i
  | .TIL_ID => i / 256
  | .TIL_CTL => i / 256
  | .TIL_STAT => i / 256
  | .TIL_PC => i / 256
  | .TIL_FPSTAT => i / 256
  | .TIL_DQ => i / 256
  | .TIL_STEALS => i / 256
  | .TIL_ITEMS => i / 256
  | .TIL_BUSY => i / 256
  | .TIL_PERR => i / 256
  | _ => 2

/-- Registers of a half at their Reset values. -/
def regsReset (s : State) (h : Nat) : State :=
  { s with regs := s.regs.filter (fun e => (Reg.all.getD (e.1 / 65536) .GLB_ID).half (e.1 % 65536) != h) }

/-- Rows of a table whose home slot lies in the stacks of half `h` become LOST. -/
def rowsLost (s : State) (h t : Nat) : State :=
  let n := (tabOf s t).local'
  let at' (i : Nat) : RowAt :=
    if i < n then { addr := objAt s (tMapObj s t) (32 * i) } else { addr := guestAddr s t (i - n) 0, guest := some (i - n) }
  (List.range (n + tGuests s t)).foldl (fun s i =>
    let a := at' i
    let v := rowEnt s a
    let here := reKind v == 0 && addrTier (reAddr v) == 0 && addrHalf (reAddr v) == h
    let valid := match a.guest with
      | none => true
      | some g => bits (guestTag s t g) 63 1 == 1
    if here && valid then rowLost s t (rowOfEntry s t i) a else s) s

/-- Shadows in the stacks of half `h` are gone; a row that had one keeps none (R613). -/
def shadowsGone (s : State) (h : Nat) : State :=
  (s.rows.shadows.filter (fun x => x.slots.any (fun e => e.1 / 4 == h))).foldl (fun s x => match rowAt s x.table x.row with
    | some a => dropShadows s x.table x.row a
    | none => noShadows s x.table x.row) s

/-- Objects with a frame in the stacks of half `h` become LOST; every object, where the half is A (R612, R613). -/
def objsLost (s : State) (h : Nat) : State :=
  (objIdxs s).foldl (fun s o =>
    if oState (obj s o) ≠ 1 ∧ oState (obj s o) ≠ 2 then s
    else if h = 0 ∨ (objFrames s o).any (fun k => addrTier (keyAddr k) == 0 && addrHalf (keyAddr k) == h) then objState s o 3
    else s) s

/-- What half `h` keeps on its dies and in its stacks is gone. Transfers that its islands hold back (R61) stay held: the spec does not
say what becomes of them (DESIGN CHOICE, log entry 114). -/
def halfGone (s : State) (h : Nat) : State :=
  let inStacks (a : Nat) : Bool := addrTier a == 0 && addrHalf a == h
  let boot := bootDraw s
  let keep (c : Nat) (x : Ctx) : Ctx := if ctxHalf c = h then { d := ds 0 D.INCARNATION (dg x.d D.INCARNATION) } else x
  let cut (_ : Nat) (x : Part) : Part := { x with step := x.step.map (fun k => setStepHalf k h { formed := true, committed := true }) }
  let t := s.tie
  let t := { t with used := t.used.filter (fun e => !inStacks (keyAddr e.1)), share := t.share.filter (fun e => !inStacks (keyAddr e.1)) }
  let t := { t with deferred := t.deferred.filter (fun e => !inStacks (keyAddr e.1)) }
  let t := { t with moves := t.moves.filter (fun e => !inStacks (keyAddr e.2.old) && !inStacks (keyAddr e.2.new)) }
  let b := s.bnk
  let b := { b with stk := b.stk.filter (fun e => e.1 / 4 != h), arr := b.arr.filter (fun e => halfOf e.2.til != h) }
  let b := { b with slots := b.slots.filter (fun e => ctxHalf e.2.cid != h) }
  let s := { s with
    fresh := s.fresh + 1
    mem := s.mem.filter (fun e => !inStacks e.1)
    syn := s.syn.filter (fun e => !inStacks (64 * e.1))
    til := s.til.filter (fun e => e.1 / 256 != h)
    shf := s.shf.filter (fun e => e.1 / 16 != h)
    ctx := nmap ctxDefault keep s.ctx
    descBad := s.descBad.filter (fun k => ctxHalf (k / 32) != h)
    cows := s.cows.filter (fun e => ctxHalf e.2.cid != h)
    pools := nerase s.pools h
    port := s.port.filter (fun e => e.1 / 3 != h)
    tie := t
    bnk := b
    sch := { s.sch with part := nmap (fun _ => {}) cut s.sch.part, queue := nerase s.sch.queue h } }
  let f := s.flash
  let f := { f with half := nerase f.half h, wr := f.wr.filter (fun L => flsHalfOf L != h), part := some h }
  let f := { f with map := f.map.filter (fun e => flsHalfOf e.1 != h), work := f.work.filter (fun e => e.1 / 8 != h) }
  let s := { s with
    flash := f
    keys := { s.keys with stack := s.keys.stack.filter (fun e => e.1 / 4 != h) }
    age := { s.age with isl := s.age.isl.filter (fun e => islHalf e.1 != h) }
    isl := { s.isl with
      changing := s.isl.changing.filter (fun e => islHalf e.1 != h)
      frozen := s.isl.frozen.filter (fun e => islHalf e.1 != h)
      stall := s.isl.stall.filter (fun e => islHalf e.1 != h) }
    twin := { s.twin with
      half := nset s.twin.half h { boot := boot, suspended := true }
      fetches := s.twin.fetches.filter (fun e => ctxHalf e.2.cid != h) } }
  s

/-- A T-island of a grade starts at the top of its range (R50, R690). -/
def gradeClock (g : Nat) (s : State) (i : Nat) : State :=
  let f := islMax g i
  let s := fput (fput (fput s F.ISL_CLK_CTL_FREQ_REQ i f) F.ISL_CLK_STAT_CEIL i f) F.ISL_CLK_STAT_GOV i f
  fput (fput s F.ISL_CLK_STAT_FREQ_NOW i f) F.AGE_ISL_PLAN_CEIL i f

/-- The half reset of `h`: the other half leads alone from now on, and the half begins its own start order (R613). -/
def halfReset (s : State) (h : Nat) : State :=
  let s := cutHalves s
  let s := fput (fput s F.TWN_LEAD_LEADER 0 (1 - h)) (if h = 0 then F.TWN_LEAD_FENCED_A else F.TWN_LEAD_FENCED_B) 0 0
  let s := (s.rows.tab.map (·.1)).foldl (fun s t => if tLive s t then rowsLost s h t else s) s
  let s := windowsGone (regsReset (halfGone (objsLost (shadowsGone s h) h) h) h) h
  let s := if s.fuse.grade = 1 then (List.range 256).foldl (fun s i => gradeClock 1 s (256 * h + i)) s else s
  let s := if h = 0 then
      let s := hostPortReset s
      fput (fput { s with start := { s.start with pcie := 0 } } F.INT_LOG_HEAD_HEAD 0 0) F.INT_LOG_STAT_TAIL 0 0
    else s
  let s := { s with start := { s.start with half := nset s.start.half h 1 } }
  fadd1 s F.GLB_RESET_CAUSE_HALF_COUNT 0 1

/-- Half `h` runs its own start order. -/
def halfStarting (s : State) (h : Nat) : Bool := (nfind s.start.half h).isSome

/-- A half reset is asked for: of half A it is carried out as a device reset, unless half A is fenced and half B leads alone
(R612); it merges into a reset in progress (R614). -/
def askedHalf (s : State) (h : Nat) : State :=
  if deviceStarting s || halfStarting s h then s
  else if h = 0 ∧ !(fenced s 0 && s.twin.lost && fget s F.TWN_LEAD_LEADER 0 == 1 && !fenced s 1) then
    deviceReset (giveupOn (giveupOn s 0) 1) 5
  else halfReset (giveupOn s h) h

def execHalfReset (h : Fin 2) (s : State) : Host.Outcome State Fault Refusal := .next (askedHalf s h)

/-- GLB_RESET: discarded without CONFIRM or with KIND 0 or 3 (R614). -/
def glbReset (s : State) (val : Word) : State :=
  if bget val 48 16 ≠ 0xC9C9 then s
  else match bget val 0 2 with
    | 1 => askedReset s 3
    | 2 => askedHalf s 1
    | _ => s

def execGlbReset (val : Word) (s : State) : Host.Outcome State Fault Refusal :=
  .next (regGate s .GLB_RESET 0 (fun s => glbReset s val))

end Sys2Proof.Machine
end

