-- ==== Sys2Proof/Machine/Twin.lean ====
section
/-!
DEFINITION. The twin (14_twin_halves.md): pair states and mirrors (R547-R560), log lines fetched from a mirror (R556), votes and
fencing (R566-R575), takeover (R561-R565), and the TWN commands.
-/

namespace Sys2Proof.Machine

/-! ### Links in use (R613, R617, R625) -/

/-- Step of the start order that the device has reached; a device that FAILED stays at the step that failed. -/
def startedTo (s : State) : Nat :=
  let p := fget s F.GLB_STAT_PHASE 0
  if s.start.held then 0 else if p = 15 then fget s F.GLB_STAT_FAIL_STEP 0 else p

/-- The device and half `h` have reached step `n` of their start order. -/
def reached (s : State) (h n : Nat) : Bool :=
  decide (n ≤ startedTo s) && ((nfind s.start.half h).all (fun k => decide (n ≤ k)))

/-! ### Pair states (R557) -/

def twUpd (s : State) (h : Nat) (f : TwinHalf → TwinHalf) : State := twPut s h (f (tw s h))

def heldHalf (s : State) (h : Nat) : Bool := fbit s F.TWN_HS_STAT_HELD h

/-- Configuration and role as a HELLO gives them: 3 for standalone. -/
def roleCode (s : State) : Nat := if standalone s then 3 else role s

/-- HELLO (R547): its ACK is 0 until the half has applied SNAP_END (R558). -/
def sendHello (s : State) (h : Nat) : State :=
  let x := tw s h
  let s := twPut s h { x with expect := if fbit s F.TWN_HS_STAT_MIRROR_OK h then x.expect else none }
  let s := twinSend s h {
    typ := 1, role := roleCode s, pair := pairState s h, held := heldHalf s h
    devReset := !(reached s h 8) && (nfind s.start.half h).isNone
    boot := x.boot, taken := x.taken }
  twUpd s h (fun y => { y with expect := x.expect })

/-- VOTE_REQ for an epoch (R567, R569). -/
def sendVoteReq (s : State) (h epoch : Nat) (start : Bool) : State :=
  twinSend s h { typ := 4, jsn := epoch, arg := h + 2 * b2n start }

/-- The pair state changes, and HELLO says so; a leader that becomes PAIRED registers with the twin (R547, R567). -/
def setPair (s : State) (h p : Nat) : State :=
  let s := sendHello (fput s F.TWN_HS_STAT_PAIR h p) h
  if p = 2 ∧ fget s F.TWN_LEAD_LEADER 0 = h then sendVoteReq s h (fget s F.TWN_LEAD_LEPOCH 0) true else s

/-! ### Snapshot (R559) -/

/-- PTE entries of a context: those with V = 1. -/
def pteEnts (s : State) (c : Nat) (d : Desc) : List JEntry :=
  (ctxPages s c).filterMap (fun v => let e := ptGet s d v
    if pV e then some (pteEnt c d v e) else none)

/-- The entries of one context in a snapshot. -/
def snapCtx (s : State) (c : Nat) : List JEntry :=
  let d := (cx s c).d
  let inc := dg d D.INCARNATION
  let stop := if dg d D.STOP_REC = 0 then [] else stopEnts c inc (memBytes s (dg d D.STOP_REC) 2368)
  let len := dg d D.LENGTH
  descEnts c d (List.range 16) ++ stop ++ logEnts c inc 0 len ((List.range len).map (logWord s c))

/-- MAP entries of an open composition's current map. -/
def snapMap (s : State) (c : Nat) : List JEntry :=
  (List.range 1024).filterMap (fun i =>
    let e := member s c 0 i
    if mKind e = 0 then none
    else some { typ := 7, count := 1, obj := c, arg := (cmpOf s c).cur + i * 2 ^ 16, data := e % 2 ^ 256 })

/-- The snapshot of half `h`, without SNAP_END: each group of entries goes under new JSNs. -/
def snapshot (s : State) (h : Nat) : List (List JEntry) :=
  let cs := (ctxsOf s h).filter (fun c => cstate s c != stFREE)
  let regs := (regionIdxs s).filterMap (fun i =>
    if bits (region s i) 0 2 = 0 then none else some { typ := 6, count := 1, obj := i, data := region s i % 2 ^ 256 })
  let maps := (s.cmp.comps.filter (fun e => e.2.open')).map (fun e => snapMap s e.1)
  (cs.map (snapCtx s)).flatMap (·.map ([·])) ++ (cs.flatMap (fun c => pteEnts s c (cx s c).d)).map ([·]) ++
    (if h = 0 then regs.map ([·]) ++ maps else [])

/-- The half enters SYNCING: its mirror of the partner's half is empty, and it journals a snapshot (R559). -/
def enterSync (s : State) (h : Nat) : State :=
  let s := [F.TWN_HS_STAT_MIRROR_OK, F.TWN_HS_STAT_HELD, F.TWN_HS_STAT_REBOOTED, F.TWN_HS_STAT_GAVE_UP].foldl (fun s f => fput s f h 0) s
  let s := twUpd s h (fun x => { x with
    mir := [], mirReg := [], mirMap := [], expect := none, group := [], jour := [], unacked := 0, snap := none })
  let s := setPair s h 1
  let s := (snapshot s h).foldl (fun s g => journal s h g) s
  let s := journal s h [{ typ := 8 }]
  twUpd s h (fun x => { x with snap := some x.jsn })

/-- The half becomes UNPAIRED (R557). Records that waited for the twin may be shown (R553). -/
def unpair (s : State) (h : Nat) : State :=
  let s := fput s F.TWN_HS_STAT_HELD h 0
  freeAcked (flushRecs (setPair (twUpd s h (fun x => { x with jour := [] })) h 0) h) h

/-! ### LOST and held (R557, R558) -/

/-- The device issues TAKEOVER of half `h` of the twin itself, without FORCE (R561). -/
def autoTake (s : State) (h : Nat) : State :=
  if !fbit s F.TWN_CTL_AUTO_TAKE 0 then s
  else fset { s with twin := { s.twin with cmds := s.twin.cmds ++ [w64 (2 ^ 60 + h * 2 ^ 59)] } } F.TWN_CMD_STAT_BUSY 0

/-- The half becomes LOST: what waited for acknowledgements goes on, and after a GIVEUP the takeover begins (R553, R554, R561). -/
def enterLost (s : State) (h : Nat) : State :=
  let s := fset (fput s F.TWN_HS_STAT_REBOOTED h 0) F.TWN_ERR_LINK_LOST 0
  let s := setPair (twUpd s h (fun x => { x with before := x.seen })) h 3
  let s := freeAcked (flushRecs s h) h
  if fbit s F.TWN_HS_STAT_GAVE_UP h then autoTake s h else s

/-- The mirror of the partner's half holds a context that is not FREE. -/
def mirrorBusy (s : State) (h : Nat) : Bool := (tw s h).mir.any (fun e => dg e.2.d D.STATE != stFREE)

/-- Held by a new BOOT (R558). -/
def holdBoot (s : State) (h : Nat) : State :=
  let s := fset (fset s F.TWN_HS_STAT_HELD h) F.TWN_HS_STAT_REBOOTED h
  autoTake (sendHello s h) h

/-- Held by a full mirror (R557, R558). -/
def holdFull (s : State) (h : Nat) : State :=
  let s := fset (fput (fset s F.TWN_HS_STAT_HELD h) F.TWN_HS_STAT_MIRROR_OK h 0) F.TWN_ERR_MIRROR_FULL 0
  enterLost (twUpd s h (fun x => { x with group := [] })) h

/-! ### Acknowledgements (R550, R553, R554) -/

/-- The ACK of any frame: entries below it are acknowledged, and what waited for them goes on; the end of a snapshot makes the
half PAIRED. -/
def twinAck (s : State) (h ack : Nat) : State :=
  let x := tw s h
  if ack = 0 ∨ x.jsn + 1 < ack then s
  else
    let n := max (fget s F.TWN_HS_JACKED_JSN h) (ack - 1)
    let s := fput (twPut s h { x with jour := x.jour.filter (fun e => decide (ack ≤ e.jsn)) }) F.TWN_HS_JACKED_JSN h n
    let s := freeAcked (flushRecs s h) h
    if pairState s h = 1 ∧ x.snap.any (fun k => decide (k < ack)) then
      setPair (twUpd s h (fun y => { y with snap := none })) h 2
    else s

/-- An ACK names an entry that the sender still holds, or the one after the last (R557). -/
def ackHeld (x : TwinHalf) (ack : Nat) : Bool :=
  ack != 0 && decide (ack ≤ x.jsn + 1) && (match x.jour with
    | [] => ack == x.jsn + 1
    | e :: _ => decide (e.jsn ≤ ack))

/-- What every twin frame meets first (R545, R557, R625): dropped and counted, or not handled, or its ACK is taken. -/
def frameHere (s : State) (h : Nat) (r : TwinRx) (typ step : Nat) (f : State → State) : State :=
  if !reached s h step || s.pins.outputsStopped then s
  else if !r.ok then fadd1 s F.TWN_HS_CNT_DROPPED h 1
  else
    let s := fadd1 s F.TWN_HS_CNT_FRAMES h 1
    if r.f.typ ≠ typ ∨ !fbit s F.TWN_CTL_EN 0 ∨ r.f.node ≠ fget s F.TWN_CTL_TWIN_NODE 0 then s
    else f (if typ = 1 then s else twinAck s h r.f.ack)

/-! ### HELLO -/

/-- Every context of the half is released by transition 23 (R565). -/
def releaseHalf (s : State) (h : Nat) : State :=
  (ctxsOf s h).foldl (fun s c =>
    if cstate s c = stFREE then s
    else ctxRelease (cxUpd s c (fun x => { x with release := true })) c) s

/-- A HELLO (R557, R558, R565, R616). -/
def helloIn (s : State) (h : Nat) (f : TwinFrame) : State :=
  let x := tw s h
  let p := pairState s h
  let new := x.seen != 0 && x.seen != f.boot
  let s := if f.boot ≠ x.seen ∧ f.devReset then { s with twin := { s.twin with vote := none } } else s
  let s := twUpd (fput s F.TWN_HS_STAT_TWIN_ROLE h f.role) h (fun x => { x with seen := f.boot, peerRole := f.role })
  let s := if p = 3 ∧ new then fset s F.TWN_HS_STAT_REBOOTED h else s
  if f.taken ≠ 0 ∧ f.taken = x.boot ∧ f.taken ≠ x.takenSeen then
    let s := fset (twUpd s h (fun x => { x with takenSeen := f.taken })) F.TWN_ERR_TAKEN 0
    enterSync (releaseHalf s h) h
  else if f.held then (if p = 1 ∨ p = 2 then enterLost s h else s)
  else if p = 0 then enterSync s h
  else if p = 3 ∧ !heldHalf s h then
    if x.before ≠ 0 ∧ f.boot ≠ x.before then (if mirrorBusy s h then holdBoot s h else enterSync s h)
    else if f.boot = x.before ∧ ackHeld x f.ack then
      let s := setPair (twinAck s h f.ack) h 2
      let l := (tw s h).jour
      sendEnts s h l.length l
    else enterSync s h
  else twinAck s h f.ack

def execHello (h : Fin 2) (f : TwinRx) (s : State) : Host.Outcome State Fault Refusal :=
  .next (frameHere s h f 1 8 (fun s => helloIn s h f.f))

/-- HELLO every HELLO_US (R547), from step 7 on. -/
def execHelloTimer (h : Fin 2) (s : State) : Host.Outcome State Fault Refusal := .next (if reached s h 7 then sendHello s h else s)

/-- No frame for LINK_US. -/
def execTwinLinkLoss (h : Fin 2) (s : State) : Host.Outcome State Fault Refusal :=
  .next (if pairState s h = 1 ∨ pairState s h = 2 then enterLost s h else s)

/-! ### The mirror (R548, R551, R560) -/

/-- Descriptor words of an entry put in place. -/
def putWords (d : Desc) (mask data : Nat) : Nat → Nat → Desc
  | 0, _ => d
  | n + 1, k =>
    if bits mask k 1 = 1 then putWords (bset d (64 * k) 64 (data % 2 ^ 64)) mask (data / 2 ^ 64) n (k + 1)
    else putWords d mask data n (k + 1)

/-- The bits of a page-table entry that a mirror holds: V, TIER and LOST (R560). -/
def mirPte (e : Word) : Word := pte (pV e) false (pTier e) (pLost e) 0 0 0

/-- One entry applied to the mirror. -/
def applyEnt (x : TwinHalf) (e : JEntry) : TwinHalf :=
  let m := nget (fun _ => {}) x.mir e.obj
  let put (m : Mir) : TwinHalf := { x with mir := nput (fun _ => {}) x.mir e.obj m }
  match e.typ with
  | 1 =>
    let d := putWords m.d e.arg e.data 16 0
    put (if dg d D.STATE = stFREE then {} else { m with d := d })
  | 2 => put { m with log := (List.range e.count).foldl (fun l i => nset l (e.arg + i) (BitVec.ofNat 32 (bits e.data (32 * i) 32))) m.log }
  | 3 => put { m with ptes := (List.range e.count).foldl (fun l i =>
      nput (fun _ => 0) l (e.arg + i) (mirPte (w64 (bits e.data (64 * i) 64)))) m.ptes }
  | 4 => put { m with stop := (List.range e.count).foldl (fun l i => nput (fun _ => 0) l (e.arg + i) (BitVec.ofNat 8 (bits e.data (8 * i) 8))) m.stop }
  | 5 => put { m with d := ds m.d D.STATE stCLOSED }
  | 6 => { x with mirReg := if bits e.data 0 2 = 0 then nerase x.mirReg e.obj else nset x.mirReg e.obj e.data }
  | 7 =>
    let old := (nget (fun _ => []) x.mirMap e.obj).filter (fun q => q.arg % 2 ^ 16 == e.arg % 2 ^ 16 && q.arg / 2 ^ 16 != e.arg / 2 ^ 16)
    { x with mirMap := nset x.mirMap e.obj (old ++ [e]) }
  | _ => x

/-- Bytes that a mirror takes: descriptor, stop record, log words, page-table entries, regions and map slots. -/
def mirBytes (x : TwinHalf) : Nat :=
  x.mir.foldl (fun n e => n + 128 + (if e.2.stop.isEmpty then 0 else 2368) + 4 * e.2.log.length + 8 * e.2.ptes.length) 0 +
    32 * x.mirReg.length + x.mirMap.foldl (fun n e => n + 32 * e.2.length) 0

/-- A whole group is applied as one change; a mirror it would overfill holds the half (R551, R557). -/
def applyGroup (s : State) (h : Nat) (g : List JEntry) (last : Nat) : State :=
  let x := tw s h
  let y := g.foldl applyEnt x
  if fget s F.TWN_HS_MIRROR_GIB h * 2 ^ 30 < mirBytes y then holdFull s h
  else
    let s := fput (twPut s h { y with expect := some (last + 1), group := [], unacked := x.unacked + g.length }) F.TWN_HS_JAPPLIED_JSN h last
    if g.any (fun e => e.typ == 8) then fset s F.TWN_HS_STAT_MIRROR_OK h else s

/-- The next JSN that the half accepts: after the entries applied and those of a group that is not complete. -/
def nextJsn (x : TwinHalf) (first : Nat) : Nat := x.expect.getD first + x.group.length

/-- One entry arrives (R551). In SYNCING the first entry of all sets where the journal begins. -/
def entryIn (s : State) (h : Nat) (e : JEntry) : State :=
  let x := tw s h
  let p := pairState s h
  if p = 0 ∨ heldHalf s h ∨ e.jsn ≠ nextJsn x e.jsn then s
  else
    let x := if x.expect.isNone then { x with expect := some e.jsn } else x
    let s := twPut s h { x with group := x.group ++ [e] }
    if e.cont then s else applyGroup s h (x.group ++ [e]) e.jsn

/-- JACK: an empty frame whose ACK says what is expected. -/
def sendJack (s : State) (h : Nat) : State := twinSend s h { typ := 3 }

/-- A JOURNAL frame; a held half answers it with its unchanged ACK (R558). A JACK goes when 32 entries are unacknowledged. -/
def journalIn (s : State) (h : Nat) (f : TwinFrame) : State :=
  if heldHalf s h then sendJack s h
  else
    let s := f.ents.foldl (fun s e => entryIn s h e) s
    if 32 ≤ (tw s h).unacked then sendJack s h else s

def execJournal (h : Fin 2) (f : TwinRx) (s : State) : Host.Outcome State Fault Refusal :=
  .next (frameHere s h f 2 8 (fun s => journalIn s h f.f))

def execJack (h : Fin 2) (f : TwinRx) (s : State) : Host.Outcome State Fault Refusal :=
  .next (frameHere s h f 3 8 id)

def execJackTimer (h : Fin 2) (s : State) : Host.Outcome State Fault Refusal :=
  .next (if (tw s h).unacked = 0 then s else sendJack s h)

/-- Every entry from the one last reported as expected goes out again (R550). -/
def execJournalResend (h : Fin 2) (s : State) : Host.Outcome State Fault Refusal :=
  let l := (tw s h).jour
  .next (if pairState s h ≠ 1 ∧ pairState s h ≠ 2 then s
    else sendEnts (fadd1 s F.TWN_HS_CNT_RESENT h l.length) h l.length l)

/-! ### Log lines (R181, R556, R696) -/

/-- The 16 words of a line of a mirrored context, when the mirror can give it. -/
def mirLine (s : State) (h : Nat) (f : TwinFrame) : Option (List Byte) :=
  match nfind (tw s h).mir (f.arg % 2 ^ 18) with
  | none => none
  | some m =>
    if pairState s h = 2 ∧ dg m.d D.STATE ≠ stFREE ∧ dg m.d D.INCARNATION = f.incarn ∧ 16 * f.jsn + 15 < dg m.d D.LENGTH then
      some ((List.range 16).flatMap (fun i => toBytes 4 (nget (fun _ => 0) m.log (16 * f.jsn + i)).toNat))
    else none

def fetchIn (s : State) (h : Nat) (f : TwinFrame) : State :=
  if fenced s h then s
  else match mirLine s h f with
    | some bs => twinSend s h { typ := 7, jsn := f.jsn, incarn := f.incarn, line := bs }
    | none => twinSend s h { typ := 7, jsn := f.jsn, incarn := f.incarn, arg := 1 }

def execFetch (h : Fin 2) (f : TwinRx) (s : State) : Host.Outcome State Fault Refusal :=
  .next (frameHere s h f 6 8 (fun s => fetchIn s h f.f))

/-- A LOG_FETCH record. -/
def fetchEvent (s : State) (x : Fetch) (sev : Nat) : State :=
  event s 0x2A sev (561 + ctxHalf x.cid) 1 0 x.cid x.inc x.line

/-- No good copy exists: the context ends FAULTED (R181), and reads of its log end; a later context of the descriptor is not concerned. -/
def fetchNone (s : State) (x : Fetch) : State :=
  if dg (cx s x.cid).d D.INCARNATION ≠ x.inc then fetchEvent s x 3
  else
  let s := cxUpd (fetchEvent s x 3) x.cid (fun c => { c with kept := c.kept.filter (fun e => e.1 / 16 != x.line) })
  retryReads (badLog s x.cid) x.cid true

/-- The good copy is written with a new check, with the words kept for the line since (R181, R696). -/
def fetchGood (s : State) (x : Fetch) (bs : List Byte) : State :=
  let d := (cx s x.cid).d
  if !lineOk s (logDirAddr d (16 * x.line / 16384)) ∨ logAddr s d (16 * x.line) = 0 then fetchNone s x
  else
    let kept := (cx s x.cid).kept
    let s := memWrite s (logAddr s d (16 * x.line)) (bs.take 64)
    let s := (kept.filter (fun e => e.1 / 16 == x.line)).foldl (fun s e => memPut s (logAddr s d e.1) 4 e.2.toNat) s
    let s := cxUpd (fetchEvent s x 1) x.cid (fun c => { c with kept := c.kept.filter (fun e => e.1 / 16 != x.line) })
    retryReads s x.cid false

def dropFetch (s : State) (k : Nat) : State := { s with twin := { s.twin with fetches := nerase s.twin.fetches k } }

/-- A FETCH_DATA is matched by half, line and INCARNATION. -/
def fetchDataIn (s : State) (h : Nat) (f : TwinFrame) : State :=
  match s.twin.fetches.find? (fun e => ctxHalf e.2.cid == h && e.2.line == f.jsn && e.2.inc == f.incarn && dg (cx s e.2.cid).d D.INCARNATION == f.incarn) with
  | none => s
  | some (k, x) =>
    let s := dropFetch s k
    if f.arg % 2 = 1 then fetchNone s x else fetchGood s x f.line

def execFetchData (h : Fin 2) (f : TwinRx) (s : State) : Host.Outcome State Fault Refusal :=
  .next (frameHere s h f 7 8 (fun s => fetchDataIn s h f.f))

def execFetchTimeout (k : Nat) (s : State) : Host.Outcome State Fault Refusal :=
  .next (match nfind s.twin.fetches k with
    | none => s
    | some x => fetchNone (fset (dropFetch s k) F.TWN_ERR_FETCH_MISS 0) x)

/-! ### Votes and fencing (R566-R575) -/

/-- A fenced half: its ports' links are down and their frames gone (R572); with FENCE_MODE RESET it resets at once (R575). -/
def fence (s : State) (h : Nat) : State :=
  let s := fset s (if h = 0 then F.TWN_LEAD_FENCED_A else F.TWN_LEAD_FENCED_B) 0
  let s := twUpd s h (fun x => { x with suspended := false, ask := 0 })
  let s := [3 * h, 3 * h + 1, 3 * h + 2].foldl (fun s i => portClear (fput s F.FAB_PORT_STAT_LINK i 0) i) s
  if fbit s F.TWN_CTL_FENCE_MODE 0 then askedHalf s h else s

/-- The half leads at an epoch and resumes (R571). -/
def lead (s : State) (h epoch : Nat) : State :=
  let s := twUpd s h (fun x => { x with suspended := false, ask := 0 })
  flushRecs (fput (fput s F.TWN_LEAD_LEPOCH 0 epoch) F.TWN_LEAD_LEADER 0 h) h

/-- The half loses the vote (R571). -/
def voteLost (s : State) (h : Nat) : State := fence (fset s F.TWN_ERR_VOTE_LOST 0) h

/-- Both halves suspend and ask for the next epoch; without a twin half A leads and half B fences (R568, R569, R571). -/
def lossVote (s : State) : State :=
  let e := (fget s F.TWN_LEAD_LEPOCH 0 + 1) % 2 ^ 32
  if !fbit s F.TWN_CTL_EN 0 then fence (lead s 0 e) 1
  else
    let s := [0, 1].foldl (fun s h => twUpd s h (fun x => { x with suspended := true, ask := e })) s
    sendVoteReq s (fget s F.TWN_LEAD_LEADER 0) e false

/-- D2D_LOSS. -/
def execD2dLoss (s : State) : Host.Outcome State Fault Refusal :=
  .next (if s.twin.lost || !fbit s F.TWN_LEAD_D2D_UP 0 then s else lossVote (cutHalves s))

/-- Epoch `e` is epochNewer than epoch `f` (R570). -/
def epochNewer (e f : Nat) : Bool :=
  let d := (e + 2 ^ 32 - f % 2 ^ 32) % 2 ^ 32
  decide (1 ≤ d) && decide (d ≤ 2147483647)

/-- A vote: 0 GRANTED, 1 REFUSED, 2 NO_VOTE (R570). A fenced half's link carries none (R572). -/
def voteReqIn (s : State) (h : Nat) (f : TwinFrame) : State :=
  let e := f.jsn % 2 ^ 32
  let q := f.arg % 2
  let reply (s : State) (v who : Nat) : State := twinSend s h { typ := 5, jsn := e, arg := v + 4 * who }
  if fenced s h then s
  else if fget s F.TWN_LEAD_LEADER 0 ≠ h ∧ s.twin.lost then reply s 2 0
  else match s.twin.vote with
    | some (g, w) =>
      if epochNewer e g then reply { s with twin := { s.twin with vote := some (e, q) } } 0 q
      else if e = g ∧ q = w then reply s 0 q
      else reply s 1 w
    | none => reply { s with twin := { s.twin with vote := some (e, q) } } 0 q

def execVoteReq (h : Fin 2) (f : TwinRx) (s : State) : Host.Outcome State Fault Refusal :=
  .next (frameHere s h f 4 8 (fun s => voteReqIn s h f.f))

/-- An answer to this half's request (R571). -/
def voteIn (s : State) (h : Nat) (f : TwinFrame) : State :=
  let x := tw s h
  if !x.suspended ∨ x.ask = 0 ∨ f.jsn ≠ x.ask then s
  else match f.arg % 4 with
    | 0 => lead s h x.ask
    | 1 => voteLost s h
    | _ => s

/-- A VOTE is handled in step 7 as well, whose leadership it decides (R620). -/
def execVote (h : Fin 2) (f : TwinRx) (s : State) : Host.Outcome State Fault Refusal :=
  .next (frameHere s h f 5 7 (fun s => voteIn s h f.f))

/-- A half that waits for a vote asks for it (R569). -/
def execVoteRetry (h : Fin 2) (s : State) : Host.Outcome State Fault Refusal :=
  let x := tw s h
  .next (if x.suspended && x.ask != 0 then sendVoteReq s h x.ask false else s)

def execVoteTimeout (h : Fin 2) (s : State) : Host.Outcome State Fault Refusal :=
  .next (if (tw s h).suspended && (tw s h).ask != 0 then voteLost s h else s)

/-- The die-to-die link is back for good: ports of the half train again (R575). -/
def halfRejoin (s : State) (h : Nat) : State :=
  let s := fput (fset { s with twin := { s.twin with lost := false } } F.TWN_LEAD_D2D_UP 0)
    (if h = 0 then F.TWN_LEAD_FENCED_A else F.TWN_LEAD_FENCED_B) 0 0
  let s := [3 * h, 3 * h + 1, 3 * h + 2].foldl (fun s i => if fbit s F.FAB_PORT_CTL_EN i then fput s F.FAB_PORT_STAT_LINK i 1 else s) s
  freeAcked (flushRecs (flushRecs s 0) 1) h

/-- D2D_RETURN: the fenced half resumes as follower of the half that leads (R575). -/
def execD2dReturn (s : State) : Host.Outcome State Fault Refusal :=
  let l := fget s F.TWN_LEAD_LEADER 0
  .next (if s.twin.lost && fenced s (1 - l) && !fenced s l && !(tw s l).suspended && !fbit s F.TWN_CTL_FENCE_MODE 0 then halfRejoin s (1 - l)
    else s)

/-- FENCE_HOLD_END: the fenced half gives up and resets (R575). -/
def execFenceHoldEnd (h : Fin 2) (s : State) : Host.Outcome State Fault Refusal :=
  .next (if s.twin.lost && fenced s h then askedHalf s h else s)

/-! ### GIVEUP -/

def execGiveup (h : Fin 2) (f : TwinRx) (s : State) : Host.Outcome State Fault Refusal :=
  .next (frameHere s h f 8 8 (fun s =>
    let s := fset s F.TWN_HS_STAT_GAVE_UP h
    if pairState s h = 3 then autoTake s h else s))

/-! ### TWN commands (R561-R564) -/

/-- A command ends with a result, and the next one runs. -/
def twnDone (s : State) (res : Nat) : State :=
  let l := s.twin.cmds.drop 1
  let s := fput { s with twin := { s.twin with cmds := l } } F.TWN_CMD_STAT_BUSY 0 (b2n (!l.isEmpty))
  irq (finc (fput s F.TWN_CMD_STAT_RESULT 0 res) F.TWN_CMD_STAT_SEQ 0) 0 14

/-- The command that runs, when its OP is `op`. -/
def twnHead (s : State) (op : Nat) : Option Word := s.twin.cmds.head?.filter (fun w => bget w 60 4 == op)

/-- A write to TWN_CMD: one command runs at a time; a reserved OP is refused at once. -/
def twnCmd (s : State) (w : Word) : State :=
  if fbit s F.TWN_CMD_STAT_BUSY 0 then s
  else
    let s := fset { s with twin := { s.twin with cmds := [w] } } F.TWN_CMD_STAT_BUSY 0
    if bget w 60 4 = 1 ∨ bget w 60 4 = 2 then s else twnDone s 3

/-- The roles that hold KV (R562). -/
def holdsKv (s : State) : Bool := standalone s || role s != 1

/-- A taken context before its allocations, as the mirror gives it (R562). `n` is the context's number here. -/
def takenDesc (s : State) (m : Mir) (n : Nat) : Desc :=
  let old := dg m.d D.STATE
  let d := ds (ds (ds m.d D.PEND 0) D.SHARED_LEN 0) D.LAST_STEP 0
  let d := ds (ds (ds d D.HOLE_START 0) D.HOLE_END 0) D.PFX_NODE noNode
  let d := ds (ds d D.STATUS 0) D.HOLD_REASON 0
  let d := ds d D.STOP_REC (if dg m.d D.STOP_REC = 0 then 0 else stopAddr s n)
  if old = stOPEN then ds d D.STATE stOPEN
  else if old = stPREFILL then
    let d := ds d D.STATE stPREFILL
    if holdsKv s then ds d D.KV_VALID 0 else ds d D.IMPORT_DONE (dg m.d D.IMPORT_DONE)
  else if holdsKv s then ds (ds d D.STATE stREBUILD) D.RESUME stREADY
  else ds d D.STATE stREADY

/-- The attachment of a taken context, and what follows from its length E (R205, R562). -/
def takenAttach (s : State) (c : Nat) : State :=
  let d := (cx s c).d
  let st := dg d D.STATE
  if st = stOPEN ∨ !holdsKv s then s
  else
    let r := if dg d D.NAMESPACE ≠ 0 ∧ attaches s then attach s c ((dg d D.PROMPT_LEN - 1) / 32) else (0, noNode, s)
    let s := r.2.2
    let x := cx s c
    let d := ds (ds x.d D.SHARED_LEN r.1) D.PFX_NODE r.2.1
    let d := if st = stPREFILL then ds d D.KV_VALID r.1
      else ds (ds d D.HOLE_START (min r.1 (dg d D.KV_VALID))) D.HOLE_END (dg d D.KV_VALID)
    cxChange s c { x with d := d } []

/-- A mirrored context is opened in local half `h`: the new context, or none without room. -/
def takeOne (s : State) (h : Nat) (m : Mir) : Option (Nat × State) :=
  let n := lowDesc s h
  let d := takenDesc s m n
  if (openRefusal s h d).isSome then none
  else
    let stop := (List.range 2368).map (fun i => nget (fun _ => 0) m.stop i)
    let s := if dg d D.STOP_REC = 0 then s else memWrite s (dg d D.STOP_REC) stop
    let len := dg d D.LENGTH
    let words := (List.range len).map (fun i => nget (fun _ => 0) m.log i)
    let ents := logEnts 0 0 0 len words ++ (if m.stop.isEmpty then [] else stopEnts 0 0 stop)
    (openAs s h { d := d, fn := 0, cring := fget s F.HST_CTL_TAKE_RING 0 } ents).map (fun (c, s) =>
      (c, takenAttach (logWrites s c 0 words) c))

/-- Mirrored PTEs with V = 1 and TIER 0. -/
def mirPages (m : Mir) : Nat := (m.ptes.filter (fun e => pV e.2 && pTier e.2 == 0)).length

/-- One takeover-list entry (R563). -/
def takeEntry (s : State) (n old result : Nat) (m : Mir) (new : Nat) : State :=
  let newInc := if result = 0 then dg (cx s new).d D.INCARNATION else 0
  memWrite s (fget s F.TWN_TAKE_BASE_BASE 0 * 65536 + 32 * n)
    (toBytes 4 old ++ toBytes 2 (dg m.d D.INCARNATION) ++ toBytes 1 result ++ toBytes 1 (dg m.d D.STATE) ++
      toBytes 4 (if result = 0 then new else 0) ++ toBytes 2 newInc ++ toBytes 1 (if result = 1 then dg m.d D.STATUS else 0) ++
      toBytes 1 0 ++ toBytes 8 (dg m.d D.TAG) ++ toBytes 4 (dg m.d D.LENGTH) ++ toBytes 4 (mirPages m))

/-- The mirrored contexts, in ascending context ID. -/
def takeAll (s : State) (h : Nat) : Nat → List (Nat × Mir) → Nat × State
  | n, [] => (n, s)
  | n, (old, m) :: r =>
    let st := dg m.d D.STATE
    if st = stFREE then takeAll s h n r
    else if st = stDRAINING ∨ st = stCLOSED then takeAll (takeEntry s n old 1 m 0) h (n + 1) r
    else match takeOne s h m with
      | some (c, s) => takeAll (takeEntry s n old 0 m c) h (n + 1) r
      | none => takeAll (takeEntry s n old 2 m 0) h (n + 1) r

/-- The command's refusal (R561). -/
def takeRefusal (s : State) (h : Nat) (force : Bool) : Nat :=
  if pairState s h ≠ 3 ∨ !fbit s F.TWN_HS_STAT_MIRROR_OK h ∨
      !(fbit s F.TWN_HS_STAT_GAVE_UP h || fbit s F.TWN_HS_STAT_REBOOTED h || force) then 1
  else if (tw s h).peerRole ≠ roleCode s then 2
  else if !s.host.spill.isEmpty then 4
  else 0

/-- TAKEOVER (R562, R564). -/
def takeover (s : State) (h : Nat) (force : Bool) : State :=
  let e := takeRefusal s h force
  if e ≠ 0 then twnDone s e
  else
    let r := takeAll s h 0 (tw s h).mir
    let s := fput (twnDone (fput r.2 F.TWN_CMD_STAT_ENTRIES 0 r.1) 0) F.TWN_HS_STAT_MIRROR_OK h 0
    let s := twUpd s h (fun x => { x with mir := [], mirReg := [], mirMap := [], taken := x.before })
    if heldHalf s h then enterSync s h else s

def execTwnTakeover (s : State) : Host.Outcome State Fault Refusal :=
  .next (match twnHead s 1 with
    | none => s
    | some w => takeover s (bget w 59 1) (bbit w 58))

/-- RESYNC (R557). -/
def execTwnResync (s : State) : Host.Outcome State Fault Refusal :=
  .next (match twnHead s 2 with
    | none => s
    | some w =>
      let h := bget w 59 1
      if pairState s h = 0 then twnDone s 1 else twnDone (enterSync s h) 0)

end Sys2Proof.Machine
end

