-- ==== Sys2Proof/Machine/Start.lean ====
section
/-!
DEFINITION. The start order of the device and of a half under its own reset (R613, R617-R625), and discovery (R626-R630).
-/

namespace Sys2Proof.Machine

/-! ### Where the start order stands (R617) -/

/-- ms since reset release. -/
def msNow (s : State) : Nat := s.now / 1000000

/-- Step `n` ends now: its time is recorded (GLB_STEP_MS0-2). -/
def stampStep (s : State) (n : Nat) : State :=
  let r := (n - 1) / 4
  rput s .GLB_STEP_MS r (bset (rword s .GLB_STEP_MS r) (16 * ((n - 1) % 4)) 16 (min (msNow s) 0xFFFE))

/-- The device goes on to a step; 12 is READY, which signals (MSI-X vectors). -/
def goTo (s : State) (n : Nat) : State :=
  let s := fput s F.GLB_STAT_PHASE 0 n
  if n = 12 then irq s 0 16 else s

/-- PHASE FAILED at a step. -/
def failAt (s : State) (n : Nat) : State := irq (fput (fput s F.GLB_STAT_FAIL_STEP 0 n) F.GLB_STAT_PHASE 0 15) 0 16

/-! ### Step 2: fuses -/

/-- The KEK that a root secret and the DEBUGGED bit give (R667), as a number that is not 0. -/
def kekOf (f : Fuses) : Nat := 1 + 2 * f.rootSecret + b2n f.debugged

/-- Fuses loaded: identity, grade, ranks, baselines, keys (R617, R661, R662). -/
def loadFuses (s : State) : State :=
  let f := s.fuse
  let s := fput (fput (fput s F.GLB_ID_STEPPING 0 f.stepping) F.GLB_ID_GRADE 0 f.grade) F.GLB_SERIAL_SERIAL 0 f.serial.toNat
  let s := fput (fput s F.TWN_LEAD_FRANK_A 0 f.frankA) F.TWN_LEAD_FRANK_B 0 f.frankB
  let s := fput (fput s F.SEC_STAT_FUSE_SVN 0 f.svn) F.SEC_STAT_DEBUGGED 0 (b2n f.debugged)
  let s := fput (fput s F.SEC_JTAG_ID_VERSION 0 (f.stepping % 16)) F.SEC_JTAG_ID_MANUF 0 f.manuf
  let s := f.islFuse.foldl (fun s e => rput s .AGE_ISL_FUSE e.1 (e.2 &&& Reg.mask .AGE_ISL_FUSE)) s
  let s := (List.range 12).foldl (fun s n => rput s .SEC_PUB n (Config.identityPub f.rootSecret n)) s
  let s := { s with keys := { s.keys with identity := 1 + f.rootSecret, kek := kekOf f } }
  if f.grade = 1 then (List.range 512).foldl (fun s i => gradeClock 1 (tcycFix s i) i) s else s

/-! ### Step 3: the boot image -/

/-- An image is accepted (R663). -/
def accepts (s : State) (b : BootImage) : Bool := b.signed && b.valid && decide (s.fuse.svn ≤ b.svn)

/-- The fields of a register word that the image gives. -/
def imageWord (r : Reg) (old w : Word) : Word :=
  r.fields.foldl (fun o f => if f.rst = .image then bset o f.lo f.w (bget w f.lo f.w) else o)
    old

/-- Every register whose Reset is "image", for those that `f` names. -/
def imageRegs (s : State) (b : BootImage) (f : Reg → Nat → Bool) : State :=
  b.regs.foldl (fun s e =>
    let r := Reg.all.getD (e.1 / 65536) .GLB_ID
    let i := e.1 % 65536
    if f r i then rput s r i (imageWord r (rword s r i) e.2) else s) s

/-- Ceilings of adjustable islands, clamped to their ranges (R690), and voltage offsets. -/
def imageIsl (s : State) (b : BootImage) (f : Nat → Bool) : State :=
  let s := (b.ceil.filter (fun e => f e.1 && islAdj e.1 && e.2 != 0)).foldl (fun s e =>
    setCeil s e.1 (max (islMin e.1) (min e.2 (islMax (grade s) e.1)))) s
  (b.voff.filter (fun e => f e.1)).foldl (fun s e => fput s F.AGE_ISL_PLAN_VOFF e.1 e.2) s

/-- The accepted image is loaded: configuration, role and registers, the package limit, and the measurement (R617, R663, R681). -/
def loadImage (s : State) (b : BootImage) (alt : Bool) : State :=
  let s := imageIsl (imageRegs s b (fun _ _ => true)) b (fun _ => true)
  let s := (List.range 6).foldl (fun s n => rput s .SEC_MEAS n (b.meas.getD n 0)) s
  let s := fset (fput s F.SEC_STAT_IMAGE_SVN 0 b.svn) F.SEC_STAT_MEASURED 0
  let s := fput (fput s F.GLB_CFG_IMAGE_SLOT 0 (b2n alt)) F.SEC_STAT_IMAGE_ALT 0 (b2n alt)
  let s := fput s F.GLB_STAT_BOOT_ALT 0 (b2n alt)
  imageWindows (latStat { s with gov := { s.gov with limit := b.limit } })

/-- The image in use. -/
def bootImage (s : State) : BootImage := if fbit s F.GLB_CFG_IMAGE_SLOT 0 then s.image1 else s.image0

/-- Configuration requests are answered with retry status from now on, and the link trains (step 4). -/
def beginPcie (s : State) : State := { s with start := { s.start with pcie := 1 }, host := { s.host with cfg := 1 } }

/-- Step 4 ends (R617, R634). -/
def endPcie (s : State) (o : StartObs) : State :=
  if s.start.pcie ≠ 1 then s
  else
    let s := if fget s F.GLB_STEP_MS_STEP_D 0 = 0xFFFF then stampStep s 4 else s
    if !o.ok then
      let s := fput (fput s F.HST_STAT_UP 0 0) F.HST_STAT_NO_FLIT 0 (b2n (!o.flit))
      { s with start := { s.start with pcie := 3 } }
    else
      let s := fset (fset s F.HST_STAT_UP 0) F.HST_STAT_FLIT 0
      let s := fput (fput s F.HST_STAT_WIDTH 0 o.width) F.HST_STAT_SPEED 0 o.speed
      { s with start := { s.start with pcie := 2 }, host := { s.host with cfg := 2 } }

/-- A configuration request from the host (R617). -/
def execConfigurationRequest (s : State) : Host.Outcome State Fault Refusal :=
  .next (if s.start.held then s else { s with out := { s.out with cfgStatus := s.host.cfg } })

/-! ### Step 5: stacks -/

/-- A stack trains and is IN_SERVICE, with a new key, or is retired (R277, R619, R665). -/
def trainStack (s : State) (failed : List Nat) (st : Nat) : State :=
  if failed.contains st then fset (retireStack s st) F.GLB_STAT_STACK_LOST 0
  else
    let s := bump { s with keys := { s.keys with stack := nset s.keys.stack st (s.fresh + 1) } }
    fput (fput s F.BNK_STK_STAT_STATE st 0) F.GLB_STAT_STACKS 0 (fget s F.GLB_STAT_STACKS 0 ||| 2 ^ st)

/-- What the image places in device memory, in stacks that `f` names. -/
def placeImage (s : State) (f : Nat → Bool) : State :=
  { s with mem := ((bootImage s).mem.filter (fun e => addrTier e.1 == 0 && f (addrStack e.1))).foldl (fun m e => nput memDefault m e.1 e.2) s.mem }

/-- The HOST key is drawn (R665). -/
def hostKey (s : State) : State := bump { s with keys := { s.keys with host := s.fresh + 1 } }

/-! ### Steps 6 and 7: the die-to-die link and leadership (R566, R620) -/

def linkFails (s : State) : State := lossVote (cutHalves (fset s F.GLB_STAT_D2D_DOWN 0))

/-- The pair (LEPOCH, rank) that is higher leads; both halves start from the same LEPOCH (R566). -/
def decideLeader (s : State) : State :=
  let l := if fget s F.TWN_LEAD_FRANK_A 0 < fget s F.TWN_LEAD_FRANK_B 0 then 1 else 0
  fput (fput s F.TWN_LEAD_LEADER 0 l) F.TWN_LEAD_LEPOCH 0 (fget s F.TWN_LEAD_LEPOCH 0 + 1)

/-- A link whose BOOT has not been drawn since reset draws it (R547). -/
def firstBoots (s : State) : State :=
  [0, 1].foldl (fun s h => if (tw s h).boot = 0 then bump (twUpd s h (fun x => { x with boot := bootDraw s })) else s) s

/-- Neither half waits for a vote. -/
def voteOver (s : State) : Bool := !(tw s 0).suspended && !(tw s 1).suspended

/-! ### Steps 8 to 11 -/

/-- Ports of half `h` with EN set begin to train. -/
def trainPorts (s : State) (h : Nat) : State :=
  [3 * h, 3 * h + 1, 3 * h + 2].foldl (fun s i =>
    if fbit s F.FAB_PORT_CTL_EN i ∧ !fenced s h then fput s F.FAB_PORT_STAT_LINK i (max 1 (fget s F.FAB_PORT_STAT_LINK i)) else s) s

/-- The mount starts (R415, R617). -/
def mountStart (s : State) (ok : Bool) : State :=
  if !fbit s F.FLS_CTL_EN 0 then s else fput s F.FLS_STAT_STATE 0 (if ok then 1 else 4)

def enabledPorts (s : State) : List Nat := (List.range 6).filter (fun i => fbit s F.FAB_PORT_CTL_EN i)

/-- Step 10 ends (R621, R622). -/
def portsDone (s : State) : State :=
  let l := enabledPorts s
  if l.any (portUp s) || standalone s then
    let s := stampStep (fsetIf s (l.any (fun i => !portUp s i)) F.GLB_STAT_PORT_MISSING 0) 10
    if !standalone s ∧ role s = 3 then failAt (fset s F.GLB_STAT_CONFIG_ERR 0) 11
    else goTo (fput s F.SHP_CTL_CREDIT_ALL 0 0) 11
  else failAt s 10

/-- READY: a device without a registrar is DISCOVERED (R629). -/
def ready (s : State) : State :=
  let s := windowsGo (goTo (stampStep s 11) 12)
  if (registrars s).isEmpty then
    cmpReserved (irq (fsetIf (fset s F.GLB_STAT_DISCOVERED 0) (!standalone s) F.GLB_STAT_NO_REG 0) 0 16) 16
  else s

/-- The step in progress of the device ends. -/
def deviceStep (s : State) (o : StartObs) : State :=
  match fget s F.GLB_STAT_PHASE 0 with
  | 1 => if o.ok then goTo (stampStep s 1) 2 else s
  | 2 => if o.ok then goTo (stampStep (loadFuses s) 2) 3 else failAt s 2
  | 3 =>
    if accepts s s.image0 then goTo (beginPcie (stampStep (loadImage s s.image0 false) 3)) 5
    else if accepts s s.image1 then goTo (beginPcie (stampStep (loadImage s s.image1 true) 3)) 5
    else beginPcie (failAt s 3)
  | 5 =>
    let s := placeImage (hostKey ((List.range 8).foldl (fun s st => trainStack s o.upStacks st) s)) (fun _ => true)
    goTo (stampStep s 5) 6
  | 6 =>
    let s := goTo (stampStep (firstBoots s) 6) 7
    if o.ok then fset s F.TWN_LEAD_D2D_UP 0 else linkFails s
  | 7 => if !voteOver s then s
    else goTo (stampStep (if s.twin.lost then s else decideLeader s) 7) 8
  | 8 => goTo (stampStep (agePlan (o.tests.foldl retireTiller s)) 8) 9
  | 9 => goTo (trainPorts (trainPorts (stampStep (mountStart s o.ok) 9) 0) 1) 10
  | 10 => portsDone s
  | 11 => ready s
  | _ => s

/-! ### The start of one half (R613) -/

def halfGo (s : State) (h n : Nat) : State := { s with start := { s.start with half := nset s.start.half h n } }

/-- The half's registers and islands as the image gives them. -/
def halfImage (s : State) (h : Nat) : State :=
  let b := bootImage s
  let s := (s.fuse.islFuse.filter (fun e => islHalf e.1 == h)).foldl (fun s e => rput s .AGE_ISL_FUSE e.1 (e.2 &&& Reg.mask .AGE_ISL_FUSE)) s
  imageIsl (imageRegs s b (fun r i => r.half i == h)) b (fun i => islHalf i == h && islType i != 7)

/-- A step of a half's own start order ends. Step 4 belongs to half A. -/
def halfStep (s : State) (h : Nat) (o : StartObs) : State :=
  match nfind s.start.half h with
  | none => s
  | some 1 => if o.ok then halfGo s h 2 else s
  | some 2 => halfGo s h 3
  | some 3 =>
    if !accepts s (bootImage s) then s
    else halfGo (if h = 0 then beginPcie (halfImage s h) else halfImage s h) h 5
  | some 5 =>
    let s := (halfStacks h).foldl (fun s st => trainStack s o.upStacks st) s
    halfGo (placeImage s (fun st => st / 4 == h)) h 6
  | some 6 =>
    let s := halfGo s h 7
    if o.ok then fset { s with twin := { s.twin with lost := false } } F.TWN_LEAD_D2D_UP 0
    else
      let s := fset s F.GLB_STAT_D2D_DOWN 0
      if fbit s F.TWN_CTL_EN 0 then twUpd s h (fun x => { x with ask := 1 }) else fence s h
  | some 7 =>
    if s.twin.lost then (if (tw s h).suspended then s else halfGo s h 8)
    else halfGo (twUpd s h (fun x => { x with suspended := false, ask := 0 })) h 8
  | some 8 => halfGo (agePlanHalf (o.tests.foldl (fun s t => if t / 256 = h then retireTiller s t else s) s) h) h 9
  | some 9 => halfGo (trainPorts (mountStart s o.ok) h) h 10
  | some _ => { s with start := { s.start with half := nerase s.start.half h } }

/-- START_STEP. -/
def execStartStep (o : StartObs) (s : State) : Host.Outcome State Fault Refusal :=
  .next (if s.start.held || s.pins.outputsStopped then s
    else if o.pcie then endPcie s o
    else match o.half with
      | some h => halfStep s h o
      | none => deviceStep s o)

/-! ### Discovery (R626-R630) -/

/-- The device announces: from step 11 on, until it is registered, with a registrar. -/
def announces (s : State) : Bool :=
  (fget s F.GLB_STAT_PHASE 0 == 11 || fget s F.GLB_STAT_PHASE 0 == 12) && !fbit s F.GLB_STAT_DISCOVERED 0

/-- A frame without registration ends (R628). -/
def frameOver (s : State) : State :=
  match s.start.disc with
  | none => s
  | some d =>
    let s := fadd1 s F.GLB_DISC_STAT_FRAMES 0 1
    fsetIf s (decide (d.tries ≤ d.frame + 1)) F.GLB_STAT_DISC_LATE 0

/-- DISCOVERY_FRAME: the settings of GLB_DISC_CTL apply from it, and a slot is drawn (R626, R633). -/
def discoveryFrame (s : State) : State :=
  if !announces s || (registrars s).isEmpty then s
  else
    let n := match s.start.disc with
      | some d => d.frame + 1
      | none => 0
    let s := frameOver s
    let slot := drawOf s 21 % max (fget s F.GLB_DISC_CTL_SLOTS 0) 1
    let d : Disc := { frame := n, slot := slot, reg0 := fget s F.GLB_DISC_CTL_REG0 0, reg1 := fget s F.GLB_DISC_CTL_REG1 0, tries := fget s F.GLB_DISC_CTL_TRIES 0 }
    bump (fput { s with start := { s.start with disc := some d } } F.GLB_DISC_STAT_SLOT 0 slot)

def execDiscoveryFrame (s : State) : Host.Outcome State Fault Refusal := .next (discoveryFrame s)

/-- ANNOUNCE: the slot of the frame has come. -/
def announce (s : State) : State :=
  match s.start.disc with
  | none => s
  | some d =>
    if !announces s || d.sent then s
    else
      let s := { s with start := { s.start with disc := some { d with sent := true } } }
      ([d.reg0, d.reg1].filter (· != 65535)).foldl (fun s p => deviceSend s 5 0 p 3 (discMsg s 1 d.frame)) s

def execAnnounce (s : State) : Host.Outcome State Fault Refusal := .next (announce s)

/-- The first message of a registrar with an OP leaves the stewards' queue. -/
def takeStew (s : State) (op : Nat) : State :=
  match s.fab.stew.findIdx? (fun m => (m.2.headD 0).toNat == op) with
  | some i => { s with fab := { s.fab with stew := s.fab.stew.eraseIdx i } }
  | none => s

/-- REGISTERED (R627). -/
def execRegistered (node boot : Nat) (s : State) : Host.Outcome State Fault Refusal :=
  let s := takeStew s 2
  .next (if !announces s || node != fget s F.FAB_NODE_NODE 0 || boot != (tw s 0).boot || s.start.disc.isNone then s
    else
      let s := fset { s with start := { s.start with disc := none } } F.GLB_STAT_DISCOVERED 0
      cmpReserved (irq (fput s F.GLB_DISC_STAT_REG_MS 0 (msNow s % 2 ^ 32)) 0 16) 16)

/-- BACKOFF: no answer for its frame (R627). -/
def execBackoff (s : State) : Host.Outcome State Fault Refusal := .next (takeStew s 3)

/-- HEARTBEAT every HB_S seconds once registered (R627). -/
def execHeartbeat (s : State) : Host.Outcome State Fault Refusal :=
  .next (if !fbit s F.GLB_STAT_DISCOVERED 0 || fget s F.GLB_DISC_STAT_REG_MS 0 == 0 then s
    else (registrars s).foldl (fun s p => deviceSend s 5 0 p 3 (discMsg s 4 0)) s)

end Sys2Proof.Machine
end

