-- ==== Sys2Proof/Machine/Security.lean ====
section
/-!
DEFINITION. Quotes, key commands and the test port (18_security.md; R665-R672), and the test-port instructions.
-/

namespace Sys2Proof.Machine

/-! ### Quotes (R664) -/

/-- The 128-byte quote message. -/
def quoteMsg (s : State) : List Byte :=
  let w (r : Reg) (i : Nat) : List Byte := toBytes 8 (rword s r i).toNat
  w .GLB_ID 0 ++ w .GLB_SERIAL 0 ++ w .GLB_CFG 0 ++ w .SEC_STAT 0 ++ (List.range 6).flatMap (w .SEC_MEAS) ++
    (List.range 4).flatMap (w .SEC_NONCE) ++ toBytes 16 0

/-- A write to SEC_QUOTE: GO begins a quote, unless one is being signed. -/
def secQuote (s : State) (val : Word) : State :=
  if !bbit val 0 || fbit s F.SEC_QUOTE_BUSY 0 then s
  else fset { s with sec := { s.sec with quote := some (quoteMsg s) } } F.SEC_QUOTE_BUSY 0

/-- The signature appears, r then s (R664). -/
def quoteDone (s : State) : State :=
  match s.sec.quote with
  | none => s
  | some m =>
    let s := (List.range 12).foldl (fun s n => rput s .SEC_SIG n (Config.signature s.keys.identity m s.fresh n)) s
    bump (fput { s with sec := { s.sec with quote := none } } F.SEC_QUOTE_BUSY 0 0)

def execSecQuote (val : Word) (s : State) : Host.Outcome State Fault Refusal :=
  .next (regGate s .SEC_QUOTE 0 (fun s => secQuote s val))

def execQuoteDone (s : State) : Host.Outcome State Fault Refusal := .next (quoteDone s)

/-! ### Commands (R669-R672) -/

/-- A command ends: 0 DONE, 1 STATE, 2 FORMAT. -/
def secDone (s : State) (res : Nat) : State :=
  fput (fput { s with sec := { s.sec with cmd := none } } F.SEC_CMD_STAT_RESULT 0 res) F.SEC_CMD_STAT_BUSY 0 0

/-- A write to SEC_CMD; discarded while a command runs. -/
def secCmd (s : State) (w : Word) : State :=
  if fbit s F.SEC_CMD_STAT_BUSY 0 then s
  else
    let op := bget w 0 4
    let s := fset { s with sec := { s.sec with cmd := some (op, bget w 48 16) } } F.SEC_CMD_STAT_BUSY 0
    if op = 0 ∨ 3 < op then secDone s 2 else s

/-- CONFIRM of the command that runs, when its OP is `op`. -/
def secHead (s : State) (op : Nat) : Option Nat := (s.sec.cmd.filter (fun c => c.1 == op)).map (·.2)

/-- Every key is cleared, and the device resets, with the notice of R615 (R669). -/
def zeroised (s : State) : State :=
  let s := giveupOn (giveupOn s 0) 1
  deviceReset { s with keys := {} } 3

/-- ZEROISE acts only when CONFIRM is 0xC9C9; without it the command has no effect and ends, with a RESULT that the spec does not
state (log entry 23). -/
def execZeroise (s : State) : Host.Outcome State Fault Refusal :=
  .next (match secHead s 1 with
    | none => s
    | some c => if c = 0xC9C9 then zeroised s else secDone (bump s) (choiceOf s 30 % 3))

/-- ERASE_MEDIA: refused as FORMAT of the flash tier is (R431, R670). -/
def execEraseMedia (s : State) : Host.Outcome State Fault Refusal :=
  .next (match secHead s 2 with
    | none => s
    | some _ =>
      let st := fget s F.FLS_STAT_STATE 0
      if !(st == 4 || (flashUp s && slowFree s 2 == flashFrames s)) || !geometryOk s then secDone s 1
      else
        let s := flsLog (flsFormat s true) (fun l => { powerOn := l.powerOn, hist := l.hist })
        secDone (flsMounted s) 0)

/-- The token at the host address of SEC_TOKEN: SERIAL, the nonces, and Maelkor's signature over them. -/
def token (s : State) : List Byte := hostBytes s (fget s F.SEC_TOKEN_ADDR 0 * 64) 128

/-- DEBUG_UNLOCK (R672). -/
def execDebugUnlock (s : State) : Host.Outcome State Fault Refusal :=
  .next (match secHead s 3 with
    | none => s
    | some _ =>
      if hostFails s (fget s F.SEC_TOKEN_ADDR 0 * 64) 128 ∨
          !Config.tokenVerifies (token s) s.fuse.serial ((List.range 4).map (rword s .SEC_NONCE)) then secDone s 1
      else zeroised { s with fuse := { s.fuse with debugged := true }, sec := { s.sec with chains := 1 } })

/-! ### The test port (R671) -/

/-- One bit, 0, shifts through the bypass register. -/
def jtagOut (s : State) (l : List Bool) : State := { s with out := { s.out with jtag := s.out.jtag ++ l } }

/-- BYPASS, and every instruction code that is not one of the four. -/
def execBypass (_code : Nat) (s : State) : Host.Outcome State Fault Refusal := .next (jtagOut s [false])

/-- IDCODE: bits [31:0] of SEC_JTAG_ID, lowest first. -/
def execIdcode (s : State) : Host.Outcome State Fault Refusal :=
  .next (jtagOut s ((List.range 32).map (fun i => bbit (rword s .SEC_JTAG_ID 0) i)))

/-- SAMPLE/PRELOAD: the pins that the spec names, as they are: SYS_RST_N, PERST#, THERMTRIP_N, PWR_ALERT_N and PWR_BRAKE_N, each
low while asserted. -/
def execSamplePreload (s : State) : Host.Outcome State Fault Refusal :=
  .next (jtagOut s [!s.pins.sysRst, !s.pins.perst, !s.pins.thermTrip, !s.pins.pwrAlert, !s.pins.pwrBrake])

/-- EXTEST drives the pins only while SYS_RST_N is asserted; otherwise it acts as BYPASS. -/
def execExtest (pins : List Bool) (s : State) : Host.Outcome State Fault Refusal :=
  .next (if s.pins.sysRst then { s with pins := { s.pins with extest := some pins } } else jtagOut s [false])

end Sys2Proof.Machine
end

