-- ==== Sys2Proof/Machine/RegWrite.lean ====
section
/-!
DEFINITION. Writes of host software to registers: the access codes (R18-R20), the limits that the field tables give, and what
each register adds (17_host_interface.md, R635; the register blocks of the chapters).
-/

namespace Sys2Proof.Machine

/-! ### Fields (R18-R20) -/

/-- What a field holds after a write. -/
def FieldSpec.written (f : FieldSpec) (old v : Nat) : Nat :=
  match f.acc with
  | .RW => v
  | .RO => old
  | .WO => old
  | .W1C => old - (old &&& v)
  | .W1S => old ||| v
  | .RC => old

/-- Every field of a register written by its access code; reserved fields keep reading 0. -/
def fieldsWritten (old v : Nat) : List FieldSpec → Nat
  | [] => old
  | f :: r => setBits (fieldsWritten old v r) f.lo f.w (f.written (bits old f.lo f.w) (bits v f.lo f.w))

/-- The nearer end of a range. -/
def nearer (lo hi v : Nat) : Nat := max lo (min hi v)

/-- A value that its field takes, or else the value it had. -/
def keepIf (bad : Nat → Bool) (old v : Nat) : Nat := if bad v then old else v

/-- Fields whose tables say what a value outside a range is stored as: lowest bit, width, and the value stored from the old and
the new one. -/
def Reg.limits : Reg → List (Nat × Nat × (Nat → Nat → Nat))
  | .GLB_DISC_CTL => [(48, 16, fun _ => nearer 64 4096), (44, 4, fun _ => max 1), (32, 8, fun _ => max 1)]
  | .HST_APER => [(0, 16, fun _ => max 1)]
  | .HST_REQ_CTL => [(48, 5, fun _ => nearer 6 16), (0, 16, fun _ => max 1)]
  | .HST_CPL_CTL => [(48, 5, fun _ => nearer 6 16), (0, 16, fun _ => max 1)]
  | .HST_RX_CTL => [(48, 5, fun _ => nearer 6 16), (0, 16, fun _ => max 1)]
  | .HST_TX_CTL => [(48, 5, fun _ => nearer 6 16), (0, 16, fun _ => max 1)]
  | .SCH_SWAP => [(4, 4, fun _ => max 1), (0, 2, keepIf (fun v => v == 0 || v == 3))]
  | .SCH_FAULT => [(0, 4, fun _ => max 1)]
  | .BNK_REF_CTL => [(0, 3, fun _ => nearer 1 4)]
  | .TIE_CTL => [(2, 8, fun _ => max 1)]
  | .TIE_HOST_CFG => [(0, 5, keepIf (fun v => decide (16 < v)))]
  | .FLS_FORMAT => [(0, 10, keepIf (fun v => decide (v < 20) || decide (500 < v)))]
  | .FLS_REFRESH => [(34, 6, fun _ v => if v = 0 ∨ 40 < v then 40 else v), (16, 8, fun _ => max 1)]
  | .FAB_TIMER0 => [(8, 8, fun _ => max 1)]
  | .FAB_TIMER1 => [(48, 16, fun _ => max 100), (40, 8, fun _ => max 1), (8, 16, fun _ => max 1)]
  | .FAB_TIMER2 => [(24, 8, fun _ => max 1), (8, 16, fun _ => max 1), (0, 8, fun _ => max 1)]
  | .FAB_RATE1 => [(8, 8, fun _ => max 1), (0, 8, fun _ => max 1)]
  | .FAB_SPRAY => [(24, 8, fun _ => max 1)]
  | .SHP_SUB_W => (List.range 8).map (fun k => (8 * k, 8, fun _ => max 1))
  | .SHP_PORT_CTL => [(32, 20, fun _ => nearer 1000 800000)]
  | .SHP_PRIV => (List.range 4).map (fun k => (8 * k, 8, fun _ => max 1))
  | .SHP_CLASS => [(0, 16, fun _ => max 1)]
  | .LAT_CTL => [(32, 16, fun _ => max 1)]
  | .LAT_TIMER => [(48, 16, fun _ => max 1), (40, 8, fun _ => max 1), (16, 8, fun _ => max 1)]
  | .CMP_TIMER => [(32, 16, fun _ => max 1)]
  | .TWN_TIMER => [(48, 16, fun _ => max 1)]
  | .TWN_FENCE => [(16, 16, fun _ => max 1), (0, 16, fun _ => max 1)]
  | .TWN_HS_JBUF => [(0, 16, fun _ => nearer 1 1024)]
  | .INT_CTL => [(8, 16, fun _ => max 1)]
  | .INT_TEST => [(32, 16, fun _ => max 1), (0, 32, fun _ => max 1)]
  | .INT_SCRUB => [(0, 16, fun _ => max 1)]
  | .AGE_CTL => [(2, 16, fun _ => max 1)]
  | .AGE_PLAN => [(16, 16, fun _ => max 1), (8, 8, fun _ => min 12), (0, 8, fun _ => max 1)]
  | _ => []

/-- The word a register holds after a write that is applied. -/
def Reg.written (r : Reg) (old v : Word) : Word :=
  let n := fieldsWritten old.toNat v.toNat r.fields
  w64 (r.limits.foldl (fun n l => setBits n l.1 l.2.1 (l.2.2 (bits old.toNat l.1 l.2.1) (bits n l.1 l.2.1))) n)

/-- A write that is applied (R20). -/
def plain (s : State) (r : Reg) (i : Nat) (v : Word) : State := rput s r i (r.written (rword s r i) v)

/-- A write applied only while `ok` holds; otherwise it is discarded and sets a flag. -/
def guarded (s : State) (ok : Bool) (f : Fld) (fi : Nat) (r : Reg) (i : Nat) (v : Word) : State :=
  if ok then plain s r i v else fset s f fi

/-- A write applied but for one field, which keeps its value and sets a flag when the write would change it while `ok` does not
hold. -/
def guardedField (s : State) (ok : Bool) (g f : Fld) (i : Nat) (v : Word) : State :=
  let old := fget s g i
  let s1 := plain s g.reg i v
  if ok || fget s1 g i == old then s1 else fset (fput s1 g i old) f 0

/-! ### When settings may change -/

/-- Every descriptor of a half is FREE. -/
def allFree (s : State) (h : Nat) : Bool := ctxCount s h 0 == 131072

/-- R214: OPEN_EN is 0 and every descriptor of the half is FREE. -/
def ctxPoolOk (s : State) (h : Nat) : Bool := !fbit s F.CTX_CTL_OPEN_EN h && allFree s h

/-- R217. -/
def pfxPoolOk (s : State) (h : Nat) : Bool :=
  !fbit s F.PFX_CTL_LOOKUP_EN h && !fbit s F.PFX_CTL_PUBLISH_EN h && fget s F.PFX_USED_NODES_USED h == 0

/-- R275. -/
def inboxOk (s : State) : Bool := !fbit s F.BNK_CTL_INBOX_EN 0 && s.bnk.slots.isEmpty

/-- R368: no object is LIVE or MOVING in the host tier, no PTE names a host frame and the command queue is empty. -/
def hostTierOk (s : State) : Bool :=
  s.tie.queue.isEmpty && s.tie.run.isNone && !s.tie.used.any (fun e => e.1 / 2 ^ 32 == 1 && (e.2 == 1 || e.2 == 2)) &&
  !(objIdxs s).any (fun o => (oState (obj s o) == 1 || oState (obj s o) == 2) && (objFrames s o).any (fun k => k / 2 ^ 32 == 1))

/-- R398. -/
def rowCfgOk (s : State) : Bool := !fbit s F.ROW_CTL_SERVE_EN 0 && !(List.range 1024).any (tLive s)

/-- R476. -/
def fabCfgOk (s : State) : Bool := !fbit s F.FAB_CTL_EN 0 && !fbit s F.FAB_CTL_ACCEPT 0

/-- R543, for RANK and members. -/
def latCfgOk (s : State) : Bool := !fbit s F.LAT_CTL_EN 0 && !fbit s F.LAT_CTL_SERVE_EN 0

/-- R660, for HST_SPILL and the stop pools. -/
def spillCfgOk (s : State) : Bool := allFree s 0 && allFree s 1 && s.host.spill.isEmpty

/-- R332: a word that SCH_STEP_CTL takes. -/
def stepCtlOk (v : Word) : Bool :=
  let tok := bget v 48 16
  let hi := bget v 34 14
  let lo := bget v 20 14
  let b := bget v 0 13
  decide (1 ≤ b) && decide (b ≤ 4096) && decide (512 ≤ lo) && decide (hi ≤ 8192) && decide (lo ≤ hi) && (tok == 0 || decide (hi ≤ tok))

/-- R330: a word that SCH_PREEMPT takes. -/
def preemptOk (v : Word) : Bool := decide (bget v 8 24 ≤ bget v 32 24) && bget v 0 8 != 0

/-- R477: a word that FAB_TIMER0 takes. -/
def timer0Ok (v : Word) : Bool :=
  bget v 32 16 != 0 && decide (bget v 32 16 ≤ bget v 48 16) && decide (bget v 48 16 ≤ bget v 16 16)

/-- R478: MIN, INIT and MAX are in order. -/
def ratesOk (s : State) : Bool :=
  decide (fget s F.FAB_RATE0_MIN 0 ≤ fget s F.FAB_RATE0_INIT 0) && decide (fget s F.FAB_RATE0_INIT 0 ≤ fget s F.FAB_RATE1_MAX 0)

/-- R506: rates and bursts of class `c` of port `p` after a write. -/
def policerOk (s : State) (k : Nat) : Bool :=
  decide (fget s F.SHP_POL_CIR k ≤ fget s F.SHP_POL_PIR k) && decide (9216 ≤ fget s F.SHP_PBURST_CBS k) &&
  decide (9216 ≤ fget s F.SHP_PBURST_PBS k)

/-- A rate write is applied unless it leaves the rates out of order. -/
def rateWrite (s : State) (r : Reg) (v : Word) : State :=
  let s1 := plain s r 0 v
  if ratesOk s1 then s1 else fset s F.FAB_ERR_CFG_BUSY 0

/-- A policer write that is applied fills the buckets of the class. -/
def policerWrite (s : State) (r : Reg) (k : Nat) (v : Word) : State :=
  let s1 := plain s r k v
  if policerOk s1 k then pqPut s1 (k / 8) { pq s1 (k / 8) with pol := nerase (pq s1 (k / 8)).pol (k % 8) }
  else fset s F.SHP_ERR_POL_CFG 0

/-! ### Command queues -/

/-- A TIE command is queued with TIE_CMD0 (R350). -/
def tieCmdWrite (s : State) (v : Word) : State :=
  if 16 ≤ s.tie.queue.length then fset s F.TIE_ERR_CMD_FULL 0
  else tieReserved { s with tie := { s.tie with queue := s.tie.queue ++ [{ cmd0 := rword s .TIE_CMD0 0, cmd1 := v }] } } 16

/-- A row command is queued with ROW_CMD0 and ROW_STAGE0-7 (R399). -/
def rowCmdWrite (s : State) (v : Word) : State :=
  let c : RowCmd := { cmd0 := rword s .ROW_CMD0 0, cmd1 := v, stage := (List.range 8).map (rword s .ROW_STAGE) }
  if 16 ≤ s.rows.cmds.length then fset s F.ROW_ERR_CMD_FULL 0
  else rowReserved { s with rows := { s.rows with cmds := s.rows.cmds ++ [c] } } 16

/-- A region command is queued with FAB_CMD0 and FAB_CMD1 (R479). -/
def fabCmdWrite (s : State) (v : Word) : State :=
  let c : FabCmd := { cmd0 := rword s .FAB_CMD0 0, cmd1 := rword s .FAB_CMD1 0, cmd2 := v }
  if 16 ≤ s.fab.cmds.length then fset s F.FAB_ERR_CMD_FULL 0
  else fabReserved { s with fab := { s.fab with cmds := s.fab.cmds ++ [c] } } 16

/-- A composition command is queued with CMP_CMD0 and CMP_STAGE0-3 (R534). -/
def cmpCmdWrite (s : State) (v : Word) : State :=
  let stage := (List.range 4).foldr (fun n k => (rword s .CMP_STAGE n).toNat + 2 ^ 64 * k) 0
  let c : CmpCmd := { cmd0 := rword s .CMP_CMD0 0, cmd1 := v, stage := stage }
  if 16 ≤ s.cmp.cmds.length then fset s F.CMP_ERR_CMD_FULL 0
  else cmpReserved { s with cmp := { s.cmp with cmds := s.cmp.cmds ++ [c] } } 16

/-- A flash command starts, CHECKPOINT and SHUTDOWN with a checkpoint in progress; while one runs the write is discarded; a reserved OP is refused FORMAT (R431). -/
def flsCmdWrite (s : State) (v : Word) : State :=
  if fbit s F.FLS_CMD_STAT_BUSY 0 then fset s F.FLS_ERR_CMD_BUSY 0
  else
    let s := fset { s with flash := { s.flash with cmd := some v } } F.FLS_CMD_STAT_BUSY 0
    let s := fsetIf s (bget v 60 4 == 1 || bget v 60 4 == 5) F.FLS_STAT_CKPT_BUSY 0
    if bget v 60 4 = 0 ∨ 5 < bget v 60 4 then flsDone s 2 else s

/-! ### Registers with effects of their own -/

/-- TIE_CTL: a set STREAM_EN lets window fills start. -/
def tieCtlWrite (s : State) (v : Word) : State :=
  let s1 := plain s .TIE_CTL 0 v
  if fbit s1 F.TIE_CTL_STREAM_EN 0 then (List.range 8).foldl (fun s w => windowNext s w) s1 else s1

/-- FAB_PORT_CTL: a set EN trains the port, a clear takes its link down. -/
def portCtlWrite (s : State) (i : Nat) (v : Word) : State :=
  let was := fbit s F.FAB_PORT_CTL_EN i
  let s := plain s .FAB_PORT_CTL i v
  if fbit s F.FAB_PORT_CTL_EN i then
    if !was && !fenced s (i / 3) then fput s F.FAB_PORT_STAT_LINK i 1 else s
  else fput (linkDown s i) F.FAB_PORT_STAT_LINK i 0

/-- A gate list that no port takes: an entry of no length, or more than a second in all. -/
def gateBad (s : State) (i : Nat) : Bool :=
  (gateEnts s i).any (fun e => e.1 == 0) || decide (1000000000 < (gateEnts s i).foldl (fun n e => n + e.1) 0)

/-- Gating that has been enabled begins, or is disabled again. -/
def gateEnter (s : State) (i : Nat) : State :=
  if fbit s F.SHP_PORT_CTL_GATE_EN i then
    if gateBad s i then fset (fput s F.SHP_PORT_CTL_GATE_EN i 0) F.SHP_ERR_CFG_BUSY 0
    else pqPut s i { pq s i with entry := (gateNow s i (timeNs s)).1 }
  else s

/-- SHP_PORT_CTL: GATE_EN is refused while a duration is 0 or the cycle is longer than 1 s (R502). The privileged bucket keeps
what it gained at the old rate. -/
def shpPortWrite (s : State) (i : Nat) (v : Word) : State :=
  gateEnter (plain (pqPut s i { pq s i with bucket := privBucket s i, bucketT := s.now }) .SHP_PORT_CTL i v) i

/-- SHP_CLASS: the peak bucket keeps what it gained at the old rate. -/
def shpClassWrite (s : State) (k : Nat) (v : Word) : State :=
  let x := pq s (k / 8)
  let q : ClassQ := { classQ x (k % 8) with peak := peakBucket s (k / 8) (k % 8), peakT := s.now }
  let s := if fget s F.SHP_CLASS_PEAK k = 0 then s else pqPut s (k / 8) { x with classes := nput (fun _ => {}) x.classes (k % 8) q }
  plain s .SHP_CLASS k v

/-- TWN_CTL: TWIN_NODE only while EN is 0 (R576); a clear of EN ends both pairings. -/
def twnCtlWrite (s : State) (v : Word) : State :=
  let was := fbit s F.TWN_CTL_EN 0
  let s := guardedField s (!was) F.TWN_CTL_TWIN_NODE F.TWN_ERR_CFG_BUSY 0 v
  if was && !fbit s F.TWN_CTL_EN 0 then unpair (unpair s 0) 1 else s

/-- INT_LOG_HEAD: a HEAD beyond TAIL in ring order is discarded (R606). -/
def logHeadWrite (s : State) (v : Word) : State :=
  let size := 2 ^ fget s F.INT_LOG_BASE_SIZE 0
  let head := fget s F.INT_LOG_HEAD_HEAD 0
  let tail := fget s F.INT_LOG_STAT_TAIL 0
  let new := bget v 0 20
  if new < size ∧ (new + size - head) % size ≤ (tail + size - head) % size then fput s F.INT_LOG_HEAD_HEAD 0 new
  else fset s F.INT_ERR_CFG_BUSY 0

/-! ### Rings (R660) -/

/-- The four registers of each kind of ring. -/
def ringBaseReg : RingKind → Reg
  | .req => .HST_REQ_BASE
  | .cpl => .HST_CPL_BASE
  | .rx => .HST_RX_BASE
  | .tx => .HST_TX_BASE

def ringCtlReg : RingKind → Reg
  | .req => .HST_REQ_CTL
  | .cpl => .HST_CPL_CTL
  | .rx => .HST_RX_CTL
  | .tx => .HST_TX_CTL

def ringPtrReg : RingKind → Reg
  | .req => .HST_REQ_PTR
  | .cpl => .HST_CPL_PTR
  | .rx => .HST_RX_PTR
  | .tx => .HST_TX_PTR

/-- How many rings there are of a kind (R636). -/
def ringCount : RingKind → Nat
  | .req => 256
  | .cpl => 256
  | .rx => 64
  | .tx => 64

/-- EN of a ring. -/
def ringEn (s : State) (k : RingKind) (n : Nat) : Bool := bbit (rword s (ringCtlReg k) n) 63

/-- Entries of a ring. -/
def ringSize (s : State) (k : RingKind) (n : Nat) : Nat := 2 ^ bget (rword s (ringCtlReg k) n) 48 5

/-- HOST index of a ring moves. -/
def setHost (s : State) (k : RingKind) (n i : Nat) : State := rput s (ringPtrReg k) n (bset (rword s (ringPtrReg k) n) 0 16 i)

/-- Frames still queued for an earlier life of transmit ring `n` belong to no entry any more. -/
def txForget (s : State) (n : Nat) : State :=
  let f (x : OutFrame) : OutFrame := if x.kind = 2 ∧ x.ring = n then { x with ring := 64 } else x
  let q (_ : Nat) (l : List OutFrame) : List OutFrame := l.map f
  let p (_ : Nat) (x : PortQ) : PortQ := { x with priv := nmap (fun _ => []) q x.priv, leaf := nmap (fun _ => []) q x.leaf }
  { s with port := nmap (fun _ => {}) p s.port, host := { s.host with tx := nerase s.host.tx n } }

/-- A ring begins: DEV and HOST 0, PHASE 1, nothing written that the host has not passed. Entries promised to answers under way
stay promised (R639). -/
def ringStart (s : State) (k : RingKind) (n : Nat) : State :=
  let s := rput s (ringPtrReg k) n (w64 (2 ^ 32))
  match k with
  | .req => s
  | .cpl => setCpl s n { cplOf s n with used := 0, coal := 0 }
  | .rx => s
  | .tx => txForget s n

/-- A write to a ring's _CTL. -/
def ringCtlWrite (s : State) (k : RingKind) (n : Nat) (v : Word) : State :=
  if ringEn s k n then
    if bbit v 63 then hstErr s F.HST_ERR_RING_CFG else rput s (ringCtlReg k) n (bset (rword s (ringCtlReg k) n) 63 1 0)
  else
    let s := plain s (ringCtlReg k) n v
    if bbit v 63 then ringStart s k n else s

/-- A write to a ring's _BASE. -/
def ringBaseWrite (s : State) (k : RingKind) (n : Nat) (v : Word) : State :=
  if ringEn s k n then hstErr s F.HST_ERR_RING_CFG else plain s (ringBaseReg k) n v

/-! ### Every register -/

/-- A write of `v` to instance `i` of a register. -/
def regWrite (s : State) (r : Reg) (i : Nat) (v : Word) : State :=
  match r with
  | .GLB_RESET => glbReset s v
  | .HST_SPILL => if spillCfgOk s then plain s r i v else s
  | .HST_STOP_POOL => if spillCfgOk s then plain s r i v else s
  | .HST_REQ_BASE => ringBaseWrite s .req i v
  | .HST_REQ_CTL => ringCtlWrite s .req i v
  | .HST_CPL_BASE => ringBaseWrite s .cpl i v
  | .HST_CPL_CTL => ringCtlWrite s .cpl i v
  | .HST_RX_BASE => ringBaseWrite s .rx i v
  | .HST_RX_CTL => ringCtlWrite s .rx i v
  | .HST_TX_BASE => ringBaseWrite s .tx i v
  | .HST_TX_CTL => ringCtlWrite s .tx i v
  | .SCH_PREEMPT => guarded s (preemptOk v) F.SCH_ERR_STEP_CFG 0 r i v
  | .SCH_CTX_CMD => queueCtxCmd s v
  | .SCH_PART_CTL => partCtl s i v
  | .SCH_STEP_CTL => guarded s (stepCtlOk v) F.SCH_ERR_STEP_CFG 0 r i v
  | .SCH_RATIO => ratioWrite s i v
  | .CTX_LOG_POOL => guarded s (ctxPoolOk s i) F.CTX_ERR_POOL_BUSY i r i v
  | .CTX_PT_POOL => guarded s (ctxPoolOk s i) F.CTX_ERR_POOL_BUSY i r i v
  | .CTX_SIDE_POOL => guarded s (ctxPoolOk s i) F.CTX_ERR_POOL_BUSY i r i v
  | .CTX_POOL_SIZE => guarded s (ctxPoolOk s i) F.CTX_ERR_POOL_BUSY i r i v
  | .CTX_PEEK_SEL => ctxPeekSel s i v
  | .PFX_NODE_POOL => if pfxPoolOk s i then plain s r i v else s
  | .PFX_IDX_POOL => if pfxPoolOk s i then plain s r i v else s
  | .PFX_SHARE_POOL => if pfxPoolOk s i then plain s r i v else s
  | .PFX_SIZE => if pfxPoolOk s i then plain s r i v else s
  | .PFX_INVAL => pfxInval s i v
  | .BNK_INBOX => guarded s (inboxOk s) F.BNK_ERR_CFG_BUSY 0 r i v
  | .BNK_ATTN_ENTRY => guarded s (inboxOk s) F.BNK_ERR_CFG_BUSY 0 r i v
  | .BNK_PROG_BASE => guarded s (inboxOk s) F.BNK_ERR_CFG_BUSY 0 r i v
  | .TIE_CTL => tieCtlWrite s v
  | .TIE_OBJ_BASE => guarded s (hostTierOk s) F.TIE_ERR_CFG_BUSY 0 r i v
  | .TIE_HOST_CFG => guarded s (hostTierOk s) F.TIE_ERR_CFG_BUSY 0 r i v
  | .TIE_HOST_AREA => guarded s (hostTierOk s) F.TIE_ERR_CFG_BUSY 0 r i v
  | .TIE_POOL_MARK => guarded s (decide (bget v 0 23 ≤ bget v 23 23)) F.TIE_ERR_CFG_BUSY 0 r i v
  | .TIE_CMD1 => tieCmdWrite s v
  | .TIE_WIN_CTL => tieWinCtl s i v
  | .TIE_WIN_SRC => guarded s (!winEn s i) F.TIE_ERR_WIN_CFG 0 r i v
  | .ROW_TBL_BASE => guarded s (rowCfgOk s) F.ROW_ERR_CFG_BUSY 0 r i v
  | .ROW_LOG_CFG => guarded s (rowCfgOk s) F.ROW_ERR_CFG_BUSY 0 r i v
  | .ROW_SHD_DIR => guarded s (rowCfgOk s) F.ROW_ERR_CFG_BUSY 0 r i v
  | .ROW_SHD => guarded s (rowCfgOk s) F.ROW_ERR_CFG_BUSY 0 r i v
  | .ROW_CMD1 => rowCmdWrite s v
  | .FLS_MAP => guarded s (fget s F.FLS_STAT_STATE 0 == 0 || fget s F.FLS_STAT_STATE 0 == 4) F.FLS_ERR_CFG_BUSY 0 r i v
  | .FLS_RECLAIM => guarded s (decide (bget v 0 16 < bget v 16 16) && decide (4 ≤ bget v 0 16)) F.FLS_ERR_CFG_BUSY 0 r i v
  | .FLS_CMD => flsCmdWrite s v
  | .FLS_HLOG_SNAP => if bbit v 0 then hlogSnap s else s
  | .FAB_NODE => guarded s (fabCfgOk s) F.FAB_ERR_CFG_BUSY 0 r i v
  | .FAB_ADDR_HI => guarded s (fabCfgOk s) F.FAB_ERR_CFG_BUSY 0 r i v
  | .FAB_ADDR_LO => guarded s (fabCfgOk s) F.FAB_ERR_CFG_BUSY 0 r i v
  | .FAB_PEER_BASE => guarded s (fabCfgOk s) F.FAB_ERR_CFG_BUSY 0 r i v
  | .FAB_REGION_BASE => guarded s (fabCfgOk s) F.FAB_ERR_CFG_BUSY 0 r i v
  | .FAB_MSG_CFG => guarded s (fabCfgOk s) F.FAB_ERR_CFG_BUSY 0 r i v
  | .FAB_TIMER0 => guarded s (timer0Ok v) F.FAB_ERR_CFG_BUSY 0 r i v
  | .FAB_RATE0 => rateWrite s r v
  | .FAB_RATE1 => rateWrite s r v
  | .FAB_CMD2 => fabCmdWrite s v
  | .FAB_TIME_ADJ => timeAdj s v
  | .FAB_PORT_CTL => portCtlWrite s i v
  | .SHP_PORT_CTL => shpPortWrite s i v
  | .SHP_GATE_CTL => guarded s (!fbit s F.SHP_PORT_CTL_GATE_EN i) F.SHP_ERR_CFG_BUSY 0 r i v
  | .SHP_GATE_BASE => guarded s (!fbit s F.SHP_PORT_CTL_GATE_EN i) F.SHP_ERR_CFG_BUSY 0 r i v
  | .SHP_GATE => guarded s (!fbit s F.SHP_PORT_CTL_GATE_EN (i / 16)) F.SHP_ERR_CFG_BUSY 0 r i v
  | .SHP_CLASS => shpClassWrite s i v
  | .SHP_POL => policerWrite s r i v
  | .SHP_PBURST => policerWrite s r i v
  | .LAT_CTL => latStat (guardedField s (latCfgOk s) F.LAT_CTL_RANK F.LAT_ERR_CFG_BUSY 0 v)
  | .LAT_DOORBELL => latDoorbell s v
  | .LAT_MEMBER => latStat (guarded s (latCfgOk s) F.LAT_ERR_CFG_BUSY 0 r i v)
  | .LAT_WIN_BASE => guarded s (!fbit s F.LAT_WIN_CTL_EN i) F.LAT_ERR_CFG_BUSY 0 r i v
  | .LAT_WIN_CTL => latWinCtl s i v
  | .LAT_RING => guarded s (!fbit s F.LAT_RING_HEAD_EN i) F.LAT_ERR_CFG_BUSY 0 r i v
  | .CMP_CTL => cmpReserved (plain s r i v) 16
  | .CMP_CMD1 => cmpCmdWrite s v
  | .CMP_MTR_SNAP => mtrSnap s v
  | .TWN_CTL => twnCtlWrite s v
  | .TWN_TIMER => guarded s (decide (bget v 16 16 < bget v 0 16)) F.TWN_ERR_CFG_BUSY 0 r i v
  | .TWN_CMD => twnCmd s v
  | .TWN_HS_JBUF => guarded s (!fbit s F.TWN_CTL_EN 0) F.TWN_ERR_CFG_BUSY 0 r i v
  | .TWN_HS_MIRROR => guarded s (!fbit s F.TWN_CTL_EN 0) F.TWN_ERR_CFG_BUSY 0 r i v
  | .INT_LOG_BASE => intLogBase s v
  | .INT_LOG_HEAD => logHeadWrite s v
  | .INT_CMD => intCmd s v
  | .SEC_CMD => secCmd s v
  | .SEC_QUOTE => secQuote s v
  | .SEC_NONCE => if fbit s F.SEC_QUOTE_BUSY 0 then s else plain s r i v
  | .ISL_CLK_CTL => clkCtl s i v
  | _ => plain s r i v

end Sys2Proof.Machine
end

