-- ==== Sys2Proof/Machine/RegAccess.lean ====
section
/-!
DEFINITION. Accesses of the host to the register space (R14-R25, R623, R635, R636): what registers read as, REGISTER_WRITE,
MISALIGNED_ACCESS and RC_FIELD_READ, and the MSI-X tables.
-/

namespace Sys2Proof.Machine

/-! ### What registers read as -/

/-- Items on the deques and the overflow queue of a sheaf that thieves outside it may take (TIL_SHF_STAT). -/
def stealable (s : State) (h : Nat) : Nat :=
  let out (w : Work) : Bool := decide (itScope w.bits < 2)
  ((shf s h).ovf.filter out).length +
    ((sheafTillers h).filter (fun t => fbit s F.TIL_CTL_VICTIM_EN t)).foldl (fun n t => n + ((til s t).deque.filter out).length) 0

/-- A field of a word replaced by a value that holds at the field's greatest. -/
def withField (w : Word) (f : Fld) (v : Nat) : Word := bset w f.lo f.w (min v (2 ^ f.w - 1))

/-- The word of a register with the fields that are views of other state. -/
def viewWord (s : State) (r : Reg) (i : Nat) : Word :=
  let w := rword s r i
  let cnt (a b c : Nat) : Word :=
    let n (st : Nat) : Nat := ctxCount s (i / 4) st
    w64 (n a + n b * 2 ^ 18 + n c * 2 ^ 36)
  match r with
  | .TIL_STAT => if islState s i = 3 then w else w64 (tilStat s i)
  | .TIL_PC => if islState s i = 3 then w else (til s i).pc
  | .TIL_DQ => if islState s i = 3 then w else w64 (til s i).deque.length
  | .TIL_SHF_STAT => w64 ((shf s i).ovf.length + 65536 * stealable s i)
  | .CTX_CNT =>
    match i % 4 with
    | 0 => cnt stFREE stOPEN stPREFILL
    | 1 => cnt stREADY stDECODE stPREEMPTED
    | 2 => cnt stSWAPPED stREBUILD stDRAINING
    | _ => w64 (ctxCount s (i / 4) stCLOSED)
  | .SCH_CMD_STAT =>
    withField w F.SCH_CMD_STAT_QUEUED ((schQueue s 0 ++ schQueue s 1).filter (fun r => match r with | .cmd _ => true | _ => false)).length
  | .SCH_RATIO =>
    if !standalone s then withField w F.SCH_RATIO_P_NOW (if role s = 1 then 0 else ratioN s i)
    else if fget s F.SCH_STEP_NUM_STEP i = 0 then withField w F.SCH_RATIO_P_NOW (pInit s i)
    else w
  | .SCH_RATIO_STAT =>
    if standalone s && fget s F.SCH_STEP_NUM_STEP i == 0 then
      withField w F.SCH_RATIO_STAT_F (pInit s i * 65536 / max (ratioN s i) 1)
    else w
  | .BNK_STK_STAT => withField w F.BNK_STK_STAT_QUEUE (stk s i).queue.length
  | .TIE_POOL_STAT => withField (withField w F.TIE_POOL_STAT_HOST_FREE (slowFree s 1)) F.TIE_POOL_STAT_FLASH_FREE (slowFree s 2)
  | .TIE_STK => withField w F.TIE_STK_FREE (stackFree s i)
  | .TIE_CMD_STAT => withField w F.TIE_CMD_STAT_QUEUED s.tie.queue.length
  | .ROW_SHD => withField w F.ROW_SHD_FREE (shadowFree s i)
  | .ROW_CMD_STAT => withField w F.ROW_CMD_STAT_QUEUED s.rows.cmds.length
  | .FAB_CMD_STAT => withField w F.FAB_CMD_STAT_QUEUED s.fab.cmds.length
  | .CMP_CMD_STAT => withField w F.CMP_CMD_STAT_QUEUED s.cmp.cmds.length
  | .CMP_SEL_STAT =>
    let c := fget s F.CMP_SEL_COMP 0
    let x := cmpOf s c
    if !fbit s F.CMP_CTL_EN 0 || !isOpen s c then 0
    else
      w64 (min (oldCount s c) (2 ^ 19 - 1) + cmpMembers s c * 2 ^ 19 + b2n x.prevValid * 2 ^ 30 + 2 ^ 31 + x.prev % 65536 * 2 ^ 32 +
        x.cur % 65536 * 2 ^ 48)
  | _ => w

/-- What instance `i` of a register reads as; reserved fields read 0 (R18). -/
def regView (s : State) (r : Reg) (i : Nat) : Word := viewWord s r i &&& r.mask

/-- The RC fields of a register after a read (R20). -/
def rcCleared (v : Nat) : List FieldSpec → Nat
  | [] => v
  | f :: r => if f.acc = .RC then setBits (rcCleared v r) f.lo f.w 0 else rcCleared v r

/-- A read of instance `i` of a register: its value, and the state with its RC fields cleared. -/
def regRead (s : State) (r : Reg) (i : Nat) : Word × State :=
  (regView s r i, rput s r i (w64 (rcCleared (rword s r i).toNat r.fields)))

/-- A counter that its register shows is brought up to the present before a read. -/
def counted (s : State) (r : Reg) (i : Nat) : State :=
  if r = .ISL_XSTALL then xstallFix s i else if r = .TIL_BUSY then busyFix s i else s

/-! ### MSI-X tables (R634, R653) -/

/-- Word `k` of the table of function `f`: two words a vector. -/
def msixWord (s : State) (f k : Nat) : Word := nget msixDefault s.host.msix (64 * f + k)

/-- The pending bits of a function. -/
def pbaWord (s : State) (f : Nat) : Word :=
  w64 (ofBools ((List.range 32).map (fun v => nget (fun _ => false) s.host.pba (32 * f + v))))

/-- A write to the table: bits above the mask bit of an odd word are reserved; a vector that is pending and not masked any more
sends its message (PCIe). -/
def msixWrite (s : State) (f k : Nat) (v : Word) : State :=
  let v := if k % 2 = 1 then w64 (v.toNat % 2 ^ 33) else v
  let s := { s with host := { s.host with msix := nput msixDefault s.host.msix (64 * f + k) v } }
  let p := 32 * f + k / 2
  if k % 2 = 1 ∧ !bbit v 32 ∧ nget (fun _ => false) s.host.pba p then
    irq { s with host := { s.host with pba := nput (fun _ => false) s.host.pba p false } } f (k / 2)
  else s

/-! ### Offsets (R635, R636) -/

/-- What lies at an offset of a function's register space. -/
inductive Place where
  | reg (r : Reg) (i : Nat)
  | msix (k : Nat)
  | pba
  /-- a doorbell of the page at the head of a VF's BAR0 -/
  | bell (k : Nat)
  | none
  deriving DecidableEq, Repr

/-- Ring registers: BASE, CTL and PTR of ring `n` at offset `d` of its 32 bytes. -/
def ringPlace (k : RingKind) (n d : Nat) : Place :=
  match d with
  | 0 => .reg (ringBaseReg k) n
  | 8 => .reg (ringCtlReg k) n
  | 16 => .reg (ringPtrReg k) n
  | _ => .none

/-- The PF's BAR0. -/
def placePf (off : Nat) : Place :=
  if 0x180000 ≤ off ∧ off < 0x180200 then .msix ((off - 0x180000) / 8)
  else if off = 0x181000 then .pba
  else match Reg.at off with
    | some (r, i) => .reg r i
    | none => .none

/-- BAR0 of VF `f`. -/
def placeVf (f off : Nat) : Place :=
  if off < 0x50 then .bell (off / 8)
  else if 0x1000 ≤ off ∧ off < 0x1080 then ringPlace .req (4 * f + (off - 0x1000) / 32) ((off - 0x1000) % 32)
  else if 0x1080 ≤ off ∧ off < 0x1100 then ringPlace .cpl (4 * f + (off - 0x1080) / 32) ((off - 0x1080) % 32)
  else if 0x1100 ≤ off ∧ off < 0x1120 then ringPlace .rx f (off - 0x1100)
  else if 0x1120 ≤ off ∧ off < 0x1140 then ringPlace .tx f (off - 0x1120)
  else if 0x2000 ≤ off ∧ off < 0x2200 then .msix ((off - 0x2000) / 8)
  else if off = 0x3000 then .pba
  else .none

/-! ### Reads -/

/-- Block of a BAR0 offset that reads return current values of before READY: GLB, HST and ISL (R623). -/
def earlyBlock (off : Nat) : Bool := decide (off < 0x200000) || (decide (0x2000000 ≤ off) && decide (off < 0x3000000))

/-- An aligned 8-byte read of function `fn` at an offset: its data, and the state after it. Before READY a register outside the
GLB, HST and ISL blocks returns the Reset value of each field (R623); after both boot images have failed only GLB and HST answer,
and what another block returns is not stated (R618, log entry 24). -/
def hostRead (s : State) (fn off : Nat) : Word × State :=
  let early := fn == 0 && fget s F.GLB_STAT_PHASE 0 != 12
  if early && fget s F.GLB_STAT_PHASE 0 == 15 && fget s F.GLB_STAT_FAIL_STEP 0 == 3 && decide (0x200000 ≤ off) && decide (off < 0x3000000) then
    (w64 (choiceOf s 31), bump s)
  else match if fn = 0 then placePf off else placeVf fn off with
    | .reg r i => if early && !earlyBlock off then (r.resetWord i, s) else regRead (counted s r i) r i
    | .msix k => (msixWord s fn k, s)
    | .pba => (pbaWord s fn, s)
    | .bell _ => (0, s)
    | .none => (0, s)

/-- RC_FIELD_READ: a read of a register by the host; the value leaves on the PCIe link. -/
def execRcFieldRead (fn : Fin 64) (off : Nat) (s : State) : Host.Outcome State Fault Refusal :=
  .next (if !hostReach s || off % 8 != 0 then s
    else
      let x := hostRead s fn off
      { x.2 with out := { x.2.out with readData := x.1 } })

/-! ### Accesses of another size (R15) -/

/-- Any access that is not of 8 bytes at a multiple of 8: a read returns all ones, a write is discarded; the error is recorded. -/
def misaligned (s : State) (write : Bool) (off : Nat) : State :=
  let s := fput (hstErr s F.HST_ERR_REG_ACCESS) F.HST_ERR_ADDR_ADDR 0 off
  if write then s else { s with out := { s.out with readData := w64 (2 ^ 64 - 1) } }

def execMisalignedAccess (write : Bool) (off size : Nat) (s : State) : Host.Outcome State Fault Refusal :=
  .next (if !hostReach s || (off % 8 == 0 && size == 8) then s else misaligned s write off)

end Sys2Proof.Machine
end

