-- ==== Sys2Proof/Machine/Mctp.lean ====
section
/-!
DEFINITION. Management over MCTP (R659): the control messages, and the vendor commands of message type 0x7E.
-/

namespace Sys2Proof.Machine

/-- The endpoint answers from the end of step 3 (R624), and after both boot images have failed (R618). -/
def mctpUp (s : State) : Bool :=
  decide (3 < startedTo s) || (fget s F.GLB_STAT_PHASE 0 == 15 && fget s F.GLB_STAT_FAIL_STEP 0 == 3 && !s.start.held)

/-- An answer leaves on SMBus: the message's number (control messages from 256 on), the completion code 0 and the data; nothing
leaves while every output is stopped. -/
def mctpAnswer (s : State) (cmd : Nat) (bs : List Byte) : State :=
  if s.pins.outputsStopped then s else { s with out := { s.out with mctp := s.out.mctp ++ [(cmd, 0 :: bs)] } }

/-- A refusal: an error completion code, which the spec does not number (log entry 25). -/
def mctpRefuse (s : State) (cmd : Nat) : State :=
  let code := 1 + choiceOf s 32 % 255
  let s := bump s
  if s.pins.outputsStopped then s else { s with out := { s.out with mctp := s.out.mctp ++ [(cmd, [BitVec.ofNat 8 code])] } }

/-- What an answering endpoint does. -/
def mctp (s : State) (f : State → State) : Host.Outcome State Fault Refusal := .next (if mctpUp s then f s else s)

/-- Set Endpoint ID: the null and the broadcast ID are refused (DSP0236). -/
def execSetEndpointId (eid : Byte) (s : State) : Host.Outcome State Fault Refusal :=
  mctp s (fun s => if eid = 0 ∨ eid = 0xFF then mctpRefuse s 257
    else mctpAnswer (fput s F.HST_MCTP_EID 0 eid.toNat) 257 [0, eid, 0])

/-- Get Endpoint ID: the ID, and the kind of a simple endpoint with a dynamic ID (DSP0236). -/
def execGetEndpointId (s : State) : Host.Outcome State Fault Refusal :=
  mctp s (fun s => mctpAnswer s 258 [BitVec.ofNat 8 (fget s F.HST_MCTP_EID 0), 0, 0])

/-- Get MCTP Version Support: one version, whose number the spec does not state (log entry 25). -/
def execGetMctpVersionSupport (s : State) : Host.Outcome State Fault Refusal :=
  mctp s (fun s => mctpAnswer (bump s) 260 (1 :: toBytes 4 (choiceOf s 33)))

/-- Get Message Type Support: beside control messages, type 0x7E alone. -/
def execGetMessageTypeSupport (s : State) : Host.Outcome State Fault Refusal := mctp s (fun s => mctpAnswer s 261 [1, 0x7E])

def execGetIdentity (s : State) : Host.Outcome State Fault Refusal :=
  mctp s (fun s => mctpAnswer s 1 ([Reg.GLB_ID, .GLB_SERIAL, .GLB_CFG, .GLB_STAT].flatMap (fun r => toBytes 8 (regView s r 0).toNat)))

/-- The flash health log page as a snapshot. -/
def execGetHealth (s : State) : Host.Outcome State Fault Refusal := mctp s (fun s => mctpAnswer s 2 (healthPage s))

/-- Hottest sensors of the halves and of the stacks, two bytes each. -/
def execGetThermal (s : State) : Host.Outcome State Fault Refusal :=
  mctp s (fun s => mctpAnswer s 3 ((List.range 2).flatMap (fun h => toBytes 2 (nget (fun _ => 0) s.gov.tempHalf h)) ++
    (List.range 8).flatMap (fun st => toBytes 2 (nget (fun _ => 0) s.gov.tempStack st))))

/-- Package draw and the limit in force (R681), two bytes each. -/
def execGetPower (s : State) : Host.Outcome State Fault Refusal :=
  mctp s (fun s => mctpAnswer s 4 (toBytes 2 s.gov.draw ++ toBytes 2 s.gov.limit))

/-- SET_POWER_LIMIT: 900-2,400 W (R49, R681). -/
def execSetPowerLimit (watts : Nat) (s : State) : Host.Outcome State Fault Refusal :=
  mctp s (fun s => if watts < 900 ∨ 2400 < watts then mctpRefuse s 5 else mctpAnswer (setLimit s watts) 5 [])

/-- RESET: a device reset when it is confirmed, after WITHDRAW (R630). -/
def execMctpReset (confirm : BitVec 16) (s : State) : Host.Outcome State Fault Refusal :=
  mctp s (fun s => if confirm = 0xC9C9 then askedReset (mctpAnswer s 6 []) 4 else mctpRefuse s 6)

/-- READ_REG: a BAR0 register with the effect of a host read; offsets of the SEC block are refused. -/
def execReadReg (off : Nat) (s : State) : Host.Outcome State Fault Refusal :=
  mctp s (fun s =>
    if (0xF00000 ≤ off ∧ off < 0x1000000) ∨ 0x4000000 ≤ off then mctpRefuse s 7
    else if off % 8 ≠ 0 then mctpAnswer (fput (hstErr s F.HST_ERR_REG_ACCESS) F.HST_ERR_ADDR_ADDR 0 off) 7 (toBytes 8 (2 ^ 64 - 1))
    else
      let x := hostRead s 0 off
      mctpAnswer x.2 7 (toBytes 8 x.1.toNat))

end Sys2Proof.Machine
end

