-- ==== Sys2Proof/Machine/Rings.lean ====
section
/-!
DEFINITION. Doorbells, transmit frames, spilled records and the coalescing timer (R644-R653), REGISTER_WRITE and RING_CTL (R20,
R660), and the ATS invalidation (R658).
-/

namespace Sys2Proof.Machine

/-! ### Doorbells (R652) -/

/-- A doorbell of ring `n`: with its INDEX at or above the ring's size, or of a ring that is disabled, it is discarded. -/
def doorbell (s : State) (k : RingKind) (n : Nat) (v : Word) (f : State → Nat → State) : State :=
  let i := bget v 0 16
  if !hostReach s then s
  else if !ringEn s k n || decide (ringSize s k n ≤ i) then hstErr s F.HST_ERR_DOORBELL
  else f s i

/-- Tail of a request ring: the device takes what it may (R638, R639). -/
def reqBell (s : State) (n : Nat) (v : Word) : State :=
  doorbell s .req n v (fun s i => reqReserved (setHost s .req n i) n (reqSize s n))

/-- Head of a completion ring: the entries passed are free (R644). Request entries that waited for one may be taken. -/
def cplBell (s : State) (n : Nat) (v : Word) : State :=
  doorbell s .cpl n v (fun s i =>
    let passed := (i + cplSize s n - fget s F.HST_CPL_PTR_HOST n) % cplSize s n
    let c := cplOf s n
    let s := setHost (setCpl s n { c with used := c.used - passed }) .cpl n i
    (List.range 4).foldl (fun s j => reqReserved s (n / 4 * 4 + j) (reqSize s (n / 4 * 4 + j))) s)

/-- Tail of a receive ring: buffers are posted, and region completions that wait take them (R650). -/
def rxBell (s : State) (n : Nat) (v : Word) : State :=
  doorbell s .rx n v (fun s i => rxFlush (setHost s .rx n i) n (rxQueue s n).length)

/-! ### Transmit entries (R651) -/

def txList (s : State) (n : Nat) : List TxEnt := nget (fun _ => []) s.host.tx n

def txPut (s : State) (n : Nat) (l : List TxEnt) : State :=
  { s with host := { s.host with tx := nput (fun _ => []) s.host.tx n l } }

/-- An IEEE 1588 message: UDP over IPv6 to port 319 or 320 (R486). -/
def isPtp (bs : List Byte) : Bool :=
  let p := ptpAt bs
  let two (k : Nat) : Nat := (bs.getD k 0).toNat * 256 + (bs.getD (k + 1) 0).toNat
  two (p - 50) == 0x86DD && (bs.getD (p - 42) 0).toNat == 17 && (two (p - 6) == 319 || two (p - 6) == 320)

/-- Reserved values of a transmit entry, or a frame that is no frame. -/
def txFormat (e : Nat) : Bool :=
  decide (bits e 64 32 < 60) || decide (9212 < bits e 64 32) || decide (5 < bits e 96 8) || decide (7 < bits e 104 8) ||
  decide (63 < bits e 112 8) || decide (1 < bits e 120 8)

/-- The entry at DEV is taken: its frame is queued on its port, or refused (R651, R486, R487). -/
def txTake (s : State) (n : Nat) : State :=
  let dev := fget s F.HST_TX_PTR_DEV n
  let ph := fget s F.HST_TX_PTR_PHASE n
  let size := ringSize s .tx n
  let e := hostNat s (fget s F.HST_TX_BASE_BASE n * 4096 + 64 * dev) 64
  let len := bits e 64 32
  let port := bits e 96 8
  let tenant := if fbit s F.HST_FN_TENANT_FIX n then fget s F.HST_FN_TENANT n else bits e 112 8
  let bad := txFormat e || hostFails s (bits e 0 64) len
  let up := portUp s port && (port < 3 || !s.twin.lost)
  let st := if bad then 3 else if up then 0 else 2
  let x : TxEnt := { idx := dev, port := port, cls := bits e 104 8, tenant := tenant, ptp := bits e 120 1 == 1, st := st, phase := ph }
  let s := fput s F.HST_TX_PTR_DEV n ((dev + 1) % size)
  let s := if dev + 1 = size then fput s F.HST_TX_PTR_PHASE n (1 - ph) else s
  let s := txPut s n (txList s n ++ [x])
  if st ≠ 0 then s
  else
    let bs := hostBytes s (bits e 0 64) len
    let f : OutFrame := { wire := len + 24, kind := 2, ring := n, idx := dev, ptp := x.ptp, bytes := bs }
    if isPtp bs then pushPriv s port 0 f else pushLeaf s port (64 * x.cls + tenant) f

/-- Entries up to HOST are taken. -/
def txTakes (s : State) (n : Nat) : Nat → State
  | 0 => s
  | k + 1 => if fget s F.HST_TX_PTR_DEV n = fget s F.HST_TX_PTR_HOST n then s else txTakes (txTake s n) n k

/-- Tail of a transmit ring. -/
def txBell (s : State) (n : Nat) (v : Word) : State :=
  doorbell s .tx n v (fun s i => txTakes (setHost s .tx n i) n (ringSize s .tx n))

def execRequestDoorbell (fn : Fin 64) (k : Fin 4) (val : Word) (s : State) : Host.Outcome State Fault Refusal :=
  .next (reqBell s (4 * fn + k) val)

def execCompletionHeadDoorbell (fn : Fin 64) (k : Fin 4) (val : Word) (s : State) : Host.Outcome State Fault Refusal :=
  .next (cplBell s (4 * fn + k) val)

def execRxTailDoorbell (fn : Fin 64) (val : Word) (s : State) : Host.Outcome State Fault Refusal := .next (rxBell s fn val)

def execTxTailDoorbell (fn : Fin 64) (val : Word) (s : State) : Host.Outcome State Fault Refusal := .next (txBell s fn val)

/-- The first entry of a transmit ring whose frame has left or been refused is written back: STATUS, and the trailer with
TYPE 5; vector 5 (R651). -/
def txDone (s : State) (n : Nat) : State :=
  if halfQuiet s 0 then s
  else match (txList s n).findIdx? (fun x => x.st != 0) with
    | none => s
    | some j =>
      let x := (txList s n).getD j {}
      let e := fget s F.HST_TX_BASE_BASE n * 4096 + 64 * x.idx
      let s := txPut s n ((txList s n).eraseIdx j)
      let s := hostWrite (hostWrite s (e + 16) (toBytes 1 (x.st - 1))) (e + 60) (toBytes 4 (5 + x.phase * 2 ^ 31))
      irq s n 5

def execTransmitFrameDone (ring : Fin 64) (s : State) : Host.Outcome State Fault Refusal := .next (txDone s ring)

/-! ### Completion rings (R647, R653) -/

/-- The oldest spilled record of a ring is written to it (R647). -/
def spillDrain (s : State) (n : Nat) : State :=
  if halfQuiet s 0 || !cplFree s n then s
  else match s.host.spill.findIdx? (fun e => e.ring == n) with
    | none => s
    | some j =>
      let e := s.host.spill.getD j {}
      let bs := memBytes s (fget s F.HST_SPILL_BASE 0 * 65536 + 64 * e.slot) 60
      cplWrite (setSpill s (s.host.spill.eraseIdx j)) n 1 bs

def execSpillDrain (ring : Fin 256) (s : State) : Host.Outcome State Fault Refusal := .next (spillDrain s ring)

/-- COAL_US after the first entry that no signal has told of (R653). -/
def execCoalesceTimer (ring : Fin 256) (s : State) : Host.Outcome State Fault Refusal :=
  .next (if fbit s F.HST_CPL_CTL_EN ring && (cplOf s ring).coal != 0 && fget s F.HST_CPL_CTL_COAL_US ring != 0 then cplSignal s ring
    else s)

/-! ### Writes (R20, R635, R636, R660) -/

/-- A doorbell at place `k` of the page of function `f` (R652). -/
def bellWrite (s : State) (f k : Nat) (v : Word) : State :=
  if k < 4 then reqBell s (4 * f + k) v
  else if k < 8 then cplBell s (4 * f + (k - 4)) v
  else if k = 8 then rxBell s f v
  else txBell s f v

/-- An aligned 8-byte write of function `fn`. The reserved range of R17 lies in no block. -/
def hostRegWrite (s : State) (fn off : Nat) (v : Word) : State :=
  let go (s : State) : State := match if fn = 0 then placePf off else placeVf fn off with
    | .reg r i => regWrite s r i v
    | .msix k => msixWrite s fn k v
    | .pba => s
    | .bell k => bellWrite s fn k v
    | .none => s
  if fn ≠ 0 then (if hostReach s then go s else s)
  else if 0x3000000 ≤ off then s
  else hostGate s off go

def execRegisterWrite (fn : Fin 64) (off : Nat) (val : Word) (s : State) : Host.Outcome State Fault Refusal :=
  .next (if off % 8 ≠ 0 then (if hostReach s then misaligned s true off else s) else hostRegWrite s fn off val)

/-- A write to a ring's _CTL (R660). -/
def execRingCtl (k : RingKind) (n : Fin 256) (val : Word) (s : State) : Host.Outcome State Fault Refusal :=
  .next (if hostReach s && decide (n.val < ringCount k) then ringCtlWrite s k n val else s)

/-! ### ATS (R658) -/

/-- An invalidation completes: no access that used the old translation is under way between commands. -/
def execAtsInvalidation (iova len : Nat) (s : State) : Host.Outcome State Fault Refusal :=
  .next (if hostReach s && !s.pins.outputsStopped then { s with out := { s.out with ats := s.out.ats ++ [(iova, len)] } } else s)

end Sys2Proof.Machine
end

