-- ==== Sys2Proof/Machine/Dispatch.lean ====
section
/-!
DEFINITION. The meaning of each command: one arm per constructor of `Instr`, each one call of its meaning.
-/

namespace Sys2Proof.Machine

def exec (i : Instr) (s : State) : Host.Outcome State Fault Refusal :=
  match i with
  | .registerWrite fn off val => Sys2Proof.Machine.execRegisterWrite fn off val s
  | .misalignedAccess write off size => Sys2Proof.Machine.execMisalignedAccess write off size s
  | .rcFieldRead fn off => Sys2Proof.Machine.execRcFieldRead fn off s
  | .islClkCtl ix val => Sys2Proof.Machine.execIslClkCtl ix val s
  | .clockChangeDone ix => Sys2Proof.Machine.execClockChangeDone ix s
  | .crossingDeliver c => Sys2Proof.Machine.execCrossingDeliver c s
  | .crossing c x full => Sys2Proof.Machine.execCrossing c x full s
  | .governorSample g => Sys2Proof.Machine.execGovernorSample g s
  | .powerBrake => Sys2Proof.Machine.execPowerBrake s
  | .thermalTrip sensor => Sys2Proof.Machine.execThermalTrip sensor s
  | .railFault rail => Sys2Proof.Machine.execRailFault rail s
  | .addI64 t b => Sys2Proof.Machine.execAddI64 t b s
  | .subI64 t b => Sys2Proof.Machine.execSubI64 t b s
  | .andI64 t b => Sys2Proof.Machine.execAndI64 t b s
  | .orI64 t b => Sys2Proof.Machine.execOrI64 t b s
  | .xorI64 t b => Sys2Proof.Machine.execXorI64 t b s
  | .shlI64 t b => Sys2Proof.Machine.execShlI64 t b s
  | .shrI64 t b => Sys2Proof.Machine.execShrI64 t b s
  | .sarI64 t b => Sys2Proof.Machine.execSarI64 t b s
  | .mulI64 t b => Sys2Proof.Machine.execMulI64 t b s
  | .mulhuI64 t b => Sys2Proof.Machine.execMulhuI64 t b s
  | .divuI64 t b => Sys2Proof.Machine.execDivuI64 t b s
  | .remuI64 t b => Sys2Proof.Machine.execRemuI64 t b s
  | .minI64 t b => Sys2Proof.Machine.execMinI64 t b s
  | .maxI64 t b => Sys2Proof.Machine.execMaxI64 t b s
  | .minuI64 t b => Sys2Proof.Machine.execMinuI64 t b s
  | .maxuI64 t b => Sys2Proof.Machine.execMaxuI64 t b s
  | .clzI64 t b => Sys2Proof.Machine.execClzI64 t b s
  | .popcI64 t b => Sys2Proof.Machine.execPopcI64 t b s
  | .selI64 t b => Sys2Proof.Machine.execSelI64 t b s
  | .cmpEq t b => Sys2Proof.Machine.execCmpEq t b s
  | .cmpNe t b => Sys2Proof.Machine.execCmpNe t b s
  | .cmpLt t b => Sys2Proof.Machine.execCmpLt t b s
  | .cmpLtu t b => Sys2Proof.Machine.execCmpLtu t b s
  | .cmpGe t b => Sys2Proof.Machine.execCmpGe t b s
  | .cmpGeu t b => Sys2Proof.Machine.execCmpGeu t b s
  | .addiI64 t b => Sys2Proof.Machine.execAddiI64 t b s
  | .andiI64 t b => Sys2Proof.Machine.execAndiI64 t b s
  | .oriI64 t b => Sys2Proof.Machine.execOriI64 t b s
  | .xoriI64 t b => Sys2Proof.Machine.execXoriI64 t b s
  | .shliI64 t b => Sys2Proof.Machine.execShliI64 t b s
  | .shriI64 t b => Sys2Proof.Machine.execShriI64 t b s
  | .sariI64 t b => Sys2Proof.Machine.execSariI64 t b s
  | .ldiI64 t b => Sys2Proof.Machine.execLdiI64 t b s
  | .ldihI64 t b => Sys2Proof.Machine.execLdihI64 t b s
  | .cmpiEq t b => Sys2Proof.Machine.execCmpiEq t b s
  | .cmpiLt t b => Sys2Proof.Machine.execCmpiLt t b s
  | .cmpiGe t b => Sys2Proof.Machine.execCmpiGe t b s
  | .ldU8 t b => Sys2Proof.Machine.execLdU8 t b s
  | .ldU16 t b => Sys2Proof.Machine.execLdU16 t b s
  | .ldU32 t b => Sys2Proof.Machine.execLdU32 t b s
  | .ld64 t b => Sys2Proof.Machine.execLd64 t b s
  | .st8 t b => Sys2Proof.Machine.execSt8 t b s
  | .st16 t b => Sys2Proof.Machine.execSt16 t b s
  | .st32 t b => Sys2Proof.Machine.execSt32 t b s
  | .st64 t b => Sys2Proof.Machine.execSt64 t b s
  | .amoAdd t b => Sys2Proof.Machine.execAmoAdd t b s
  | .amoSwap t b => Sys2Proof.Machine.execAmoSwap t b s
  | .amoCas t b => Sys2Proof.Machine.execAmoCas t b s
  | .loadDataReturn t ix => Sys2Proof.Machine.execLoadDataReturn t ix s
  | .brEq t b => Sys2Proof.Machine.execBrEq t b s
  | .brNe t b => Sys2Proof.Machine.execBrNe t b s
  | .brLt t b => Sys2Proof.Machine.execBrLt t b s
  | .brGe t b => Sys2Proof.Machine.execBrGe t b s
  | .brLtu t b => Sys2Proof.Machine.execBrLtu t b s
  | .brGeu t b => Sys2Proof.Machine.execBrGeu t b s
  | .brP t b => Sys2Proof.Machine.execBrP t b s
  | .jmp t b => Sys2Proof.Machine.execJmp t b s
  | .jal t b => Sys2Proof.Machine.execJal t b s
  | .jr t b => Sys2Proof.Machine.execJr t b s
  | .codeEndReached t => Sys2Proof.Machine.execCodeEndReached t s
  | .pAnd t b => Sys2Proof.Machine.execPAnd t b s
  | .pOr t b => Sys2Proof.Machine.execPOr t b s
  | .pXor t b => Sys2Proof.Machine.execPXor t b s
  | .pNot t b => Sys2Proof.Machine.execPNot t b s
  | .pMask t b => Sys2Proof.Machine.execPMask t b s
  | .pCnt t b => Sys2Proof.Machine.execPCnt t b s
  | .vadd t b => Sys2Proof.Machine.execVadd t b s
  | .vsub t b => Sys2Proof.Machine.execVsub t b s
  | .vmul t b => Sys2Proof.Machine.execVmul t b s
  | .vfma t b => Sys2Proof.Machine.execVfma t b s
  | .vmax t b => Sys2Proof.Machine.execVmax t b s
  | .vmin t b => Sys2Proof.Machine.execVmin t b s
  | .vabs t b => Sys2Proof.Machine.execVabs t b s
  | .vneg t b => Sys2Proof.Machine.execVneg t b s
  | .vand t b => Sys2Proof.Machine.execVand t b s
  | .vor t b => Sys2Proof.Machine.execVor t b s
  | .vxor t b => Sys2Proof.Machine.execVxor t b s
  | .vshl t b => Sys2Proof.Machine.execVshl t b s
  | .vshr t b => Sys2Proof.Machine.execVshr t b s
  | .vsel t b => Sys2Proof.Machine.execVsel t b s
  | .vbcast t b => Sys2Proof.Machine.execVbcast t b s
  | .vlane t b => Sys2Proof.Machine.execVlane t b s
  | .vperm t b => Sys2Proof.Machine.execVperm t b s
  | .viota t b => Sys2Proof.Machine.execViota t b s
  | .vcmpEq t b => Sys2Proof.Machine.execVcmpEq t b s
  | .vcmpLt t b => Sys2Proof.Machine.execVcmpLt t b s
  | .vcmpLe t b => Sys2Proof.Machine.execVcmpLe t b s
  | .vcvt t b => Sys2Proof.Machine.execVcvt t b s
  | .vexp t b => Sys2Proof.Machine.execVexp t b s
  | .vln t b => Sys2Proof.Machine.execVln t b s
  | .vrcp t b => Sys2Proof.Machine.execVrcp t b s
  | .vrsum t b => Sys2Proof.Machine.execVrsum t b s
  | .vrmax t b => Sys2Proof.Machine.execVrmax t b s
  | .vrng t b => Sys2Proof.Machine.execVrng t b s
  | .vqmx t b => Sys2Proof.Machine.execVqmx t b s
  | .vkv4e t b => Sys2Proof.Machine.execVkv4e t b s
  | .vkv4d t b => Sys2Proof.Machine.execVkv4d t b s
  | .vldacc t b => Sys2Proof.Machine.execVldacc t b s
  | .vld t b => Sys2Proof.Machine.execVld t b s
  | .vst t b => Sys2Proof.Machine.execVst t b s
  | .vldB32 t b => Sys2Proof.Machine.execVldB32 t b s
  | .mmaTile t b => Sys2Proof.Machine.execMmaTile t b s
  | .arrayComplete t ix => Sys2Proof.Machine.execArrayComplete t ix s
  | .accClr t b => Sys2Proof.Machine.execAccClr t b s
  | .accLd t b => Sys2Proof.Machine.execAccLd t b s
  | .accSt t b => Sys2Proof.Machine.execAccSt t b s
  | .movCpy t b => Sys2Proof.Machine.execMovCpy t b s
  | .movFill t b => Sys2Proof.Machine.execMovFill t b s
  | .moveComplete t => Sys2Proof.Machine.execMoveComplete t s
  | .ctxRd t b => Sys2Proof.Machine.execCtxRd t b s
  | .ctxStep t b => Sys2Proof.Machine.execCtxStep t b s
  | .ctxBind t b => Sys2Proof.Machine.execCtxBind t b s
  | .ctxEmit t b => Sys2Proof.Machine.execCtxEmit t b s
  | .ctxSpan t b => Sys2Proof.Machine.execCtxSpan t b s
  | .copyOnWriteDone k => Sys2Proof.Machine.execCopyOnWriteDone k s
  | .ctxHold t b => Sys2Proof.Machine.execCtxHold t b s
  | .contextAnswer t ix => Sys2Proof.Machine.execContextAnswer t ix s
  | .bnkStroke t b => Sys2Proof.Machine.execBnkStroke t b s
  | .fabPut t b => Sys2Proof.Machine.execFabPut t b s
  | .fabPutf t b => Sys2Proof.Machine.execFabPutf t b s
  | .fabGet t b => Sys2Proof.Machine.execFabGet t b s
  | .fabSend t b => Sys2Proof.Machine.execFabSend t b s
  | .rowGet t b => Sys2Proof.Machine.execRowGet t b s
  | .rowUpd t b => Sys2Proof.Machine.execRowUpd t b s
  | .syncFence t b => Sys2Proof.Machine.execSyncFence t b s
  | .syncReg t b => Sys2Proof.Machine.execSyncReg t b s
  | .syncArr t b => Sys2Proof.Machine.execSyncArr t b s
  | .syncMov t b => Sys2Proof.Machine.execSyncMov t b s
  | .syncBar t b => Sys2Proof.Machine.execSyncBar t b s
  | .wiPush t b => Sys2Proof.Machine.execWiPush t b s
  | .pushStallDone t => Sys2Proof.Machine.execPushStallDone t s
  | .wiEnd t b => Sys2Proof.Machine.execWiEnd t b s
  | .nop t b => Sys2Proof.Machine.execNop t b s
  | .sysId t b => Sys2Proof.Machine.execSysId t b s
  | .sysTrap t b => Sys2Proof.Machine.execSysTrap t b s
  | .exceptionDelivery t => Sys2Proof.Machine.execExceptionDelivery t s
  | .itemTimeout t => Sys2Proof.Machine.execItemTimeout t s
  | .itemDispatch sh => Sys2Proof.Machine.execItemDispatch sh s
  | .dispatchHeldPlace sh => Sys2Proof.Machine.execDispatchHeldPlace sh s
  | .itemTake t => Sys2Proof.Machine.execItemTake t s
  | .steal t => Sys2Proof.Machine.execSteal t s
  | .itemStart t => Sys2Proof.Machine.execItemStart t s
  | .imageLoad t => Sys2Proof.Machine.execImageLoad t s
  | .strokeCommandCheck k => Sys2Proof.Machine.execStrokeCommandCheck k s
  | .strokeQueueEntry st => Sys2Proof.Machine.execStrokeQueueEntry st s
  | .strokeStart st => Sys2Proof.Machine.execStrokeStart st s
  | .strokeEnd st => Sys2Proof.Machine.execStrokeEnd st s
  | .rowStepEnd st bank => Sys2Proof.Machine.execRowStepEnd st bank s
  | .outsideAccess a => Sys2Proof.Machine.execOutsideAccess a s
  | .refreshDue st => Sys2Proof.Machine.execRefreshDue st s
  | .refreshEnd st => Sys2Proof.Machine.execRefreshEnd st s
  | .attentionRequest slot => Sys2Proof.Machine.execAttentionRequest slot s
  | .attentionItemsEnd slot => Sys2Proof.Machine.execAttentionItemsEnd slot s
  | .stepFormation h p => Sys2Proof.Machine.execStepFormation h p s
  | .commitPoint h p => Sys2Proof.Machine.execCommitPoint h p s
  | .preempt h => Sys2Proof.Machine.execPreempt h s
  | .resume h => Sys2Proof.Machine.execResume h s
  | .swapOut h => Sys2Proof.Machine.execSwapOut h s
  | .swapIn h => Sys2Proof.Machine.execSwapIn h s
  | .release h => Sys2Proof.Machine.execRelease h s
  | .schPartCtl p val => Sys2Proof.Machine.execSchPartCtl p val s
  | .schRatio p val => Sys2Proof.Machine.execSchRatio p val s
  | .prefillToReady c => Sys2Proof.Machine.execPrefillToReady c s
  | .promptPartDone c => Sys2Proof.Machine.execPromptPartDone c s
  | .contextClose c => Sys2Proof.Machine.execContextClose c s
  | .contextRelease c => Sys2Proof.Machine.execContextRelease c s
  | .attachmentEnd c => Sys2Proof.Machine.execAttachmentEnd c s
  | .publicationEnd c => Sys2Proof.Machine.execPublicationEnd c s
  | .pfxInval h val => Sys2Proof.Machine.execPfxInval h val s
  | .invalidationEnd h => Sys2Proof.Machine.execInvalidationEnd h s
  | .ctxPeekSel h val => Sys2Proof.Machine.execCtxPeekSel h val s
  | .swapOutDone c => Sys2Proof.Machine.execSwapOutDone c s
  | .swapInDone c => Sys2Proof.Machine.execSwapInDone c s
  | .frameMoveDone k => Sys2Proof.Machine.execFrameMoveDone k s
  | .alloc => Sys2Proof.Machine.execAlloc s
  | .freeObj => Sys2Proof.Machine.execFreeObj s
  | .moveObj => Sys2Proof.Machine.execMoveObj s
  | .gather => Sys2Proof.Machine.execGather s
  | .transfer => Sys2Proof.Machine.execTransfer s
  | .reclaim h => Sys2Proof.Machine.execReclaim h s
  | .slowTierReclaim flash => Sys2Proof.Machine.execSlowTierReclaim flash s
  | .tieWinCtl w val => Sys2Proof.Machine.execTieWinCtl w val s
  | .windowFillDone w => Sys2Proof.Machine.execWindowFillDone w s
  | .rowRequestGet k => Sys2Proof.Machine.execRowRequestGet k s
  | .rowRequestUpd k => Sys2Proof.Machine.execRowRequestUpd k s
  | .rowAnswer id a => Sys2Proof.Machine.execRowAnswer id a s
  | .rowResend id => Sys2Proof.Machine.execRowResend id s
  | .applyTimer p => Sys2Proof.Machine.execApplyTimer p s
  | .rowCreate => Sys2Proof.Machine.execRowCreate s
  | .rowDestroy => Sys2Proof.Machine.execRowDestroy s
  | .rowMigrate => Sys2Proof.Machine.execRowMigrate s
  | .rowResetHistory => Sys2Proof.Machine.execRowResetHistory s
  | .migrationRowReceive m => Sys2Proof.Machine.execMigrationRowReceive m s
  | .migrationReplay m => Sys2Proof.Machine.execMigrationReplay m s
  | .migrationSwitch log => Sys2Proof.Machine.execMigrationSwitch log s
  | .migrationHomeUpdate m => Sys2Proof.Machine.execMigrationHomeUpdate m s
  | .migrationActivation m => Sys2Proof.Machine.execMigrationActivation m s
  | .migrationAbort log refused => Sys2Proof.Machine.execMigrationAbort log refused s
  | .flashMountDone o => Sys2Proof.Machine.execFlashMountDone o s
  | .journalPageProgram h => Sys2Proof.Machine.execJournalPageProgram h s
  | .checkpointTimer h => Sys2Proof.Machine.execCheckpointTimer h s
  | .unitReadDone k worst total goodLevel => Sys2Proof.Machine.execUnitReadDone k worst total goodLevel s
  | .unitProgramDone k ok => Sys2Proof.Machine.execUnitProgramDone k ok s
  | .blockEraseDone k ok => Sys2Proof.Machine.execBlockEraseDone k ok s
  | .targetTimeout ch tgt => Sys2Proof.Machine.execTargetTimeout ch tgt s
  | .flashReclaim ch => Sys2Proof.Machine.execFlashReclaim ch s
  | .blockRefresh ch => Sys2Proof.Machine.execBlockRefresh ch s
  | .patrol ch worst total goodLevel => Sys2Proof.Machine.execPatrol ch worst total goodLevel s
  | .flsCheckpoint => Sys2Proof.Machine.execFlsCheckpoint s
  | .flsPatrol => Sys2Proof.Machine.execFlsPatrol s
  | .flsRetire => Sys2Proof.Machine.execFlsRetire s
  | .flsFormat => Sys2Proof.Machine.execFlsFormat s
  | .flsShutdown => Sys2Proof.Machine.execFlsShutdown s
  | .flsHlogSnap val => Sys2Proof.Machine.execFlsHlogSnap val s
  | .put r => Sys2Proof.Machine.execPut r s
  | .getReq r => Sys2Proof.Machine.execGetReq r s
  | .getResp r => Sys2Proof.Machine.execGetResp r s
  | .send r => Sys2Proof.Machine.execSend r s
  | .ack r => Sys2Proof.Machine.execAck r s
  | .nack r => Sys2Proof.Machine.execNack r s
  | .doneMsg r => Sys2Proof.Machine.execDoneMsg r s
  | .abortMsg r => Sys2Proof.Machine.execAbortMsg r s
  | .probe r => Sys2Proof.Machine.execProbe r s
  | .probeReply r => Sys2Proof.Machine.execProbeReply r s
  | .frameReceive f => Sys2Proof.Machine.execFrameReceive f s
  | .importDone => Sys2Proof.Machine.execImportDone s
  | .cancelMessage => Sys2Proof.Machine.execCancelMessage s
  | .report => Sys2Proof.Machine.execReport s
  | .hiddenDone => Sys2Proof.Machine.execHiddenDone s
  | .importKeyed => Sys2Proof.Machine.execImportKeyed s
  | .ackTimer peer => Sys2Proof.Machine.execAckTimer peer s
  | .reorderTimer peer psn => Sys2Proof.Machine.execReorderTimer peer psn s
  | .retransmitTimeout peer psn => Sys2Proof.Machine.execRetransmitTimeout peer psn s
  | .rnrRetry peer psn => Sys2Proof.Machine.execRnrRetry peer psn s
  | .getTimeout tag => Sys2Proof.Machine.execGetTimeout tag s
  | .doneHoldEnd k => Sys2Proof.Machine.execDoneHoldEnd k s
  | .messageIdle k => Sys2Proof.Machine.execMessageIdle k s
  | .probeTimer peer => Sys2Proof.Machine.execProbeTimer peer s
  | .pathHoldEnd peer path => Sys2Proof.Machine.execPathHoldEnd peer path s
  | .rateUpdate peer => Sys2Proof.Machine.execRateUpdate peer s
  | .peerEnable peer => Sys2Proof.Machine.execPeerEnable peer s
  | .fabRegister => Sys2Proof.Machine.execFabRegister s
  | .fabRevoke => Sys2Proof.Machine.execFabRevoke s
  | .revokeEnd idx => Sys2Proof.Machine.execRevokeEnd idx s
  | .fabTimeAdj val => Sys2Proof.Machine.execFabTimeAdj val s
  | .limiterRelease peer => Sys2Proof.Machine.execLimiterRelease peer s
  | .wheelSlot => Sys2Proof.Machine.execWheelSlot s
  | .frameStart port => Sys2Proof.Machine.execFrameStart port s
  | .linkDown port => Sys2Proof.Machine.execLinkDown port s
  | .linkUp port => Sys2Proof.Machine.execLinkUp port s
  | .ringPoll => Sys2Proof.Machine.execRingPoll s
  | .latDoorbell val => Sys2Proof.Machine.execLatDoorbell val s
  | .latticeLoad r => Sys2Proof.Machine.execLatticeLoad r s
  | .latticeStore r => Sys2Proof.Machine.execLatticeStore r s
  | .add64 r => Sys2Proof.Machine.execAdd64 r s
  | .swap64 r => Sys2Proof.Machine.execSwap64 r s
  | .cas64 r => Sys2Proof.Machine.execCas64 r s
  | .latticeResp r => Sys2Proof.Machine.execLatticeResp r s
  | .lack r => Sys2Proof.Machine.execLack r s
  | .lprobe r => Sys2Proof.Machine.execLprobe r s
  | .lprobeReply r => Sys2Proof.Machine.execLprobeReply r s
  | .lprobeTimer rank => Sys2Proof.Machine.execLprobeTimer rank s
  | .latticeTimeout tag => Sys2Proof.Machine.execLatticeTimeout tag s
  | .dedupExpiry k => Sys2Proof.Machine.execDedupExpiry k s
  | .latWinCtl n val => Sys2Proof.Machine.execLatWinCtl n val s
  | .windowUnpin n => Sys2Proof.Machine.execWindowUnpin n s
  | .apertureRead off len => Sys2Proof.Machine.execApertureRead off len s
  | .apertureWrite off data => Sys2Proof.Machine.execApertureWrite off data s
  | .apertureTimeout tag => Sys2Proof.Machine.execApertureTimeout tag s
  | .cmpOpen => Sys2Proof.Machine.execCmpOpen s
  | .cmpStage => Sys2Proof.Machine.execCmpStage s
  | .cmpCommit => Sys2Proof.Machine.execCmpCommit s
  | .cmpRetire => Sys2Proof.Machine.execCmpRetire s
  | .cmpClose => Sys2Proof.Machine.execCmpClose s
  | .compositionClosed c => Sys2Proof.Machine.execCompositionClosed c s
  | .epochRetire c => Sys2Proof.Machine.execEpochRetire c s
  | .cmpMtrSnap val => Sys2Proof.Machine.execCmpMtrSnap val s
  | .meterTick => Sys2Proof.Machine.execMeterTick s
  | .hello h f => Sys2Proof.Machine.execHello h f s
  | .helloTimer h => Sys2Proof.Machine.execHelloTimer h s
  | .journal h f => Sys2Proof.Machine.execJournal h f s
  | .jack h f => Sys2Proof.Machine.execJack h f s
  | .jackTimer h => Sys2Proof.Machine.execJackTimer h s
  | .journalResend h => Sys2Proof.Machine.execJournalResend h s
  | .twinLinkLoss h => Sys2Proof.Machine.execTwinLinkLoss h s
  | .fetch h f => Sys2Proof.Machine.execFetch h f s
  | .fetchData h f => Sys2Proof.Machine.execFetchData h f s
  | .fetchTimeout k => Sys2Proof.Machine.execFetchTimeout k s
  | .voteReq h f => Sys2Proof.Machine.execVoteReq h f s
  | .vote h f => Sys2Proof.Machine.execVote h f s
  | .voteRetry h => Sys2Proof.Machine.execVoteRetry h s
  | .voteTimeout h => Sys2Proof.Machine.execVoteTimeout h s
  | .giveup h f => Sys2Proof.Machine.execGiveup h f s
  | .d2dLoss => Sys2Proof.Machine.execD2dLoss s
  | .d2dReturn => Sys2Proof.Machine.execD2dReturn s
  | .fenceHoldEnd h => Sys2Proof.Machine.execFenceHoldEnd h s
  | .twnTakeover => Sys2Proof.Machine.execTwnTakeover s
  | .twnResync => Sys2Proof.Machine.execTwnResync s
  | .poisonTest frame fails again => Sys2Proof.Machine.execPoisonTest frame fails again s
  | .rowRepair st bank row => Sys2Proof.Machine.execRowRepair st bank row s
  | .intSeal => Sys2Proof.Machine.execIntSeal s
  | .intAudit => Sys2Proof.Machine.execIntAudit s
  | .intTest => Sys2Proof.Machine.execIntTest s
  | .intScrub => Sys2Proof.Machine.execIntScrub s
  | .intLogBase val => Sys2Proof.Machine.execIntLogBase val s
  | .testIdle t => Sys2Proof.Machine.execTestIdle t s
  | .testSegmentEnd t sig => Sys2Proof.Machine.execTestSegmentEnd t sig s
  | .scrubTimer => Sys2Proof.Machine.execScrubTimer s
  | .ageSample rs => Sys2Proof.Machine.execAgeSample rs s
  | .agePlan => Sys2Proof.Machine.execAgePlan s
  | .planApply ix => Sys2Proof.Machine.execPlanApply ix s
  | .powerOnReset => Sys2Proof.Machine.execPowerOnReset s
  | .deviceReset perst => Sys2Proof.Machine.execDeviceReset perst s
  | .halfReset h => Sys2Proof.Machine.execHalfReset h s
  | .hostPortReset => Sys2Proof.Machine.execHostPortReset s
  | .glbReset val => Sys2Proof.Machine.execGlbReset val s
  | .resetRelease => Sys2Proof.Machine.execResetRelease s
  | .startStep o => Sys2Proof.Machine.execStartStep o s
  | .discoveryFrame => Sys2Proof.Machine.execDiscoveryFrame s
  | .announce => Sys2Proof.Machine.execAnnounce s
  | .registered node boot => Sys2Proof.Machine.execRegistered node boot s
  | .backoff => Sys2Proof.Machine.execBackoff s
  | .heartbeat => Sys2Proof.Machine.execHeartbeat s
  | .openCtx ring => Sys2Proof.Machine.execOpenCtx ring s
  | .openExt ring => Sys2Proof.Machine.execOpenExt ring s
  | .append ring => Sys2Proof.Machine.execAppend ring s
  | .modify ring => Sys2Proof.Machine.execModify ring s
  | .cancel ring => Sys2Proof.Machine.execCancel ring s
  | .readLog ring => Sys2Proof.Machine.execReadLog ring s
  | .requestDoorbell fn k val => Sys2Proof.Machine.execRequestDoorbell fn k val s
  | .completionHeadDoorbell fn k val => Sys2Proof.Machine.execCompletionHeadDoorbell fn k val s
  | .rxTailDoorbell fn val => Sys2Proof.Machine.execRxTailDoorbell fn val s
  | .txTailDoorbell fn val => Sys2Proof.Machine.execTxTailDoorbell fn val s
  | .transmitFrameDone ring => Sys2Proof.Machine.execTransmitFrameDone ring s
  | .spillDrain ring => Sys2Proof.Machine.execSpillDrain ring s
  | .coalesceTimer ring => Sys2Proof.Machine.execCoalesceTimer ring s
  | .ringCtl k n val => Sys2Proof.Machine.execRingCtl k n val s
  | .flr fn => Sys2Proof.Machine.execFlr fn s
  | .atsInvalidation iova len => Sys2Proof.Machine.execAtsInvalidation iova len s
  | .setEndpointId eid => Sys2Proof.Machine.execSetEndpointId eid s
  | .getEndpointId => Sys2Proof.Machine.execGetEndpointId s
  | .getMctpVersionSupport => Sys2Proof.Machine.execGetMctpVersionSupport s
  | .getMessageTypeSupport => Sys2Proof.Machine.execGetMessageTypeSupport s
  | .getIdentity => Sys2Proof.Machine.execGetIdentity s
  | .getHealth => Sys2Proof.Machine.execGetHealth s
  | .getThermal => Sys2Proof.Machine.execGetThermal s
  | .getPower => Sys2Proof.Machine.execGetPower s
  | .setPowerLimit watts => Sys2Proof.Machine.execSetPowerLimit watts s
  | .mctpReset confirm => Sys2Proof.Machine.execMctpReset confirm s
  | .readReg off => Sys2Proof.Machine.execReadReg off s
  | .secQuote val => Sys2Proof.Machine.execSecQuote val s
  | .zeroise => Sys2Proof.Machine.execZeroise s
  | .eraseMedia => Sys2Proof.Machine.execEraseMedia s
  | .debugUnlock => Sys2Proof.Machine.execDebugUnlock s
  | .bypass code => Sys2Proof.Machine.execBypass code s
  | .idcode => Sys2Proof.Machine.execIdcode s
  | .samplePreload => Sys2Proof.Machine.execSamplePreload s
  | .extest pins => Sys2Proof.Machine.execExtest pins s
  | .illegalInstruction t w => Sys2Proof.Machine.execIllegalInstruction t w s
  | .gateEntry port => Sys2Proof.Machine.execGateEntry port s
  | .powerBrakeRelease => Sys2Proof.Machine.execPowerBrakeRelease s
  | .quoteDone => Sys2Proof.Machine.execQuoteDone s
  | .meterSnapshotDone => Sys2Proof.Machine.execMeterSnapshotDone s
  | .auditEnd => Sys2Proof.Machine.execAuditEnd s
  | .configurationRequest => Sys2Proof.Machine.execConfigurationRequest s

end Sys2Proof.Machine
end

