-- ==== Sys2Proof/Safety.lean ====
section
/-!
DEFINITION. What counts as a good state of the device in the terms the claims use.
-/

namespace Sys2Proof.Machine

/-- A byte memory is in its one canonical form: addresses strictly rising, and no byte listed that an unlisted address reads
as, so that equal memories are equal data. -/
abbrev Memory.wf (m : List Host.Cell) : Prop := nwf memDefault m = true

/-- The sparse memories of the state keep their canonical form: equal contents are equal data. -/
structure State.Canon (s : State) : Prop where
  mem : Memory.wf s.mem
  syn : nwf (fun _ => 0) s.syn = true
  regs : nwf regDefault s.regs = true
  hostMem : nwf hostDefault s.hostMem = true

/-- The register a key of the register file belongs to. -/
def keyReg (k : Nat) : Reg := Reg.all.getD (k / 65536) .GLB_ID

/-- Every reserved bit of every register is 0 (R18, R19). -/
def State.ReservedZero (s : State) : Prop := ∀ k j, (nget regDefault s.regs k).getLsbD j = true → (keyReg k).mask.getLsbD j = true

/-- `t` has the fuses of `s`; only the mark that the device has been debugged may have been blown (R661, R672). -/
def State.SameFuses (s t : State) : Prop := t.fuse = s.fuse ∨ t.fuse = { s.fuse with debugged := true }

/-! ### Parts of the state -/

/-- The parts of the state, one for each field of `State`. -/
inductive SField where
  | pending
  | fresh
  | now
  | gtime
  | regs
  | fuse
  | image0
  | image1
  | pins
  | keys
  | isl
  | gov
  | age
  | mem
  | syn
  | hostMem
  | hostBad
  | tie
  | int0
  | til
  | shf
  | host
  | sch
  | ctx
  | descBad
  | cows
  | bnk
  | pools
  | fab
  | rows
  | flash
  | lat
  | cmp
  | meter
  | port
  | twin
  | start
  | sec
  | stamp
  | out
  deriving DecidableEq, Repr

/-- A part of the state is the same in two states. -/
def SField.same (f : SField) (s t : State) : Prop :=
  match f with
  | .pending => t.pending = s.pending
  | .fresh => t.fresh = s.fresh
  | .now => t.now = s.now
  | .gtime => t.gtime = s.gtime
  | .regs => t.regs = s.regs
  | .fuse => t.fuse = s.fuse
  | .image0 => t.image0 = s.image0
  | .image1 => t.image1 = s.image1
  | .pins => t.pins = s.pins
  | .keys => t.keys = s.keys
  | .isl => t.isl = s.isl
  | .gov => t.gov = s.gov
  | .age => t.age = s.age
  | .mem => t.mem = s.mem
  | .syn => t.syn = s.syn
  | .hostMem => t.hostMem = s.hostMem
  | .hostBad => t.hostBad = s.hostBad
  | .tie => t.tie = s.tie
  | .int0 => t.int0 = s.int0
  | .til => t.til = s.til
  | .shf => t.shf = s.shf
  | .host => t.host = s.host
  | .sch => t.sch = s.sch
  | .ctx => t.ctx = s.ctx
  | .descBad => t.descBad = s.descBad
  | .cows => t.cows = s.cows
  | .bnk => t.bnk = s.bnk
  | .pools => t.pools = s.pools
  | .fab => t.fab = s.fab
  | .rows => t.rows = s.rows
  | .flash => t.flash = s.flash
  | .lat => t.lat = s.lat
  | .cmp => t.cmp = s.cmp
  | .meter => t.meter = s.meter
  | .port => t.port = s.port
  | .twin => t.twin = s.twin
  | .start => t.start = s.start
  | .sec => t.sec = s.sec
  | .stamp => t.stamp = s.stamp
  | .out => t.out = s.out

/-- `t` differs from `s` in the named parts and registers alone (in registers wherever the register file itself is a named
part). -/
def State.changedIn (fs : List SField) (rs : List Reg) (s t : State) : Prop :=
  (∀ f, f ∉ fs → f ≠ .regs → f.same s t) ∧ (SField.regs ∉ fs → ∀ r i, r ∉ rs → rword t r i = rword s r i)

/-! ### Tillers -/

/-- The tiller runs an item and can issue, the guard predicate of the word awaits no write, and its bit 0 is 1: a legal
non-vector instruction whose registers are free has its effect (R72, R124, R125, R127). -/
def issues (x : Tiller) (b : BitVec 54) : Prop :=
  canIssue x = true ∧ awaitP x (guardOf b) = false ∧ bbit (preg x (guardOf b)) 0 = true

/-- As `issues`, for an instruction of the vector pipe, which the guard turns off lane by lane (R128). -/
def vissues (x : Tiller) (b : BitVec 54) : Prop := canIssue x = true ∧ awaitP x (guardOf b) = false

/-- Nothing of the tiller differs but s[r], the pc and the exception record. -/
def onlyS (x y : Tiller) (r : Nat) : Prop :=
  y = { x with s := y.s, pc := y.pc, exc := y.exc, suppressed := y.suppressed } ∧ ∀ q, q ≠ r → sreg y q = sreg x q

/-- Nothing of the tiller differs but p[r], the pc and the exception record. -/
def onlyP (x y : Tiller) (r : Nat) : Prop :=
  y = { x with p := y.p, pc := y.pc, exc := y.exc, suppressed := y.suppressed } ∧ ∀ q, q ≠ r → preg y q = preg x q

/-- Nothing of the tiller differs but the pc, the exception record and the list of incomplete instructions, which may gain
one at its end. -/
def onlyPend (x y : Tiller) : Prop :=
  y = { x with pend := y.pend, pc := y.pc, exc := y.exc, suppressed := y.suppressed } ∧
    (y.pend = x.pend ∨ ∃ p, y.pend = x.pend ++ [p])

/-- Nothing of the device differs but tiller `t`, and that as `only` says. -/
def onlyTiller (s u : State) (t : Nat) (only : Tiller → Tiller → Prop) : Prop :=
  u = s ∨ ∃ y, u = tput s t y ∧ only (til s t) y

/-- The state in which tiller `t` has recorded a precise exception of the word at its pc: the code, the pc, the word, the
address and the time; nothing else differs, so the instruction has had no effect (R166-R168). -/
def trapped (s : State) (t op : Nat) (b : BitVec 54) (code : Nat) (addr : Word) : State :=
  tput s t { til s t with
    exc := some { code := code, precise := true, pc := (til s t).pc, instr := wordOf op b, addr := addr, time := timeNs s,
                  n := (til s t).seq, cyc := tcyc s t / 1000 } }

/-- The tiller when its item has ended at `c` thousandths of a T-cycle: free and searching, with TIL_BUSY counted up to then. -/
def freed (x : Tiller) (c : Nat) : Tiller :=
  { x with
    item := none, exc := none, suppressed := 0, atBar := none, search := 1, idleCyc := c
    busyCyc := x.busyCyc + 1000 * ((c - x.busyCyc) / 1000) }

/-- The tiller with one more incomplete instruction, and the next instruction following. -/
def pended (x : Tiller) (op : Nat) (b : BitVec 54) (p : Pend) : Tiller :=
  { x with pc := x.pc + 8, pend := x.pend ++ [{ op := p, pc := x.pc, word := wordOf op b, n := x.seq }], seq := x.seq + 1 }

/-- Tiller `t` has stored the bytes `bs` at `a` in its local SRAM or its sheaf store: they read back, every other byte of
both reads as before, the tiller's other state is that of `y`, and nothing else of the device differs. -/
def stored (s u : State) (t a : Nat) (bs : List Byte) (y : Tiller) : Prop :=
  tread u t a bs.length = bs ∧
  (∀ c, (inLocal c 1 || inStore c 1) = true → (c < a ∨ a + bs.length ≤ c) → tread u t c 1 = tread s t c 1) ∧
  (∀ k, k ≠ t → til u k = til s k) ∧ (∀ h, h ≠ sheafOf t → shf u h = shf s h) ∧
  til u t = { y with sram := (til u t).sram, bad := (til u t).bad } ∧
  shf u (sheafOf t) = { shf s (sheafOf t) with store := (shf u (sheafOf t)).store, bad := (shf u (sheafOf t)).bad } ∧
  u = { s with til := u.til, shf := u.shf }

/-- The flags that the active lanes of a vector instruction raise together (R119). -/
def laneFlags (g : PReg) (f : Nat → LaneRes) : Nat :=
  (List.range 128).foldl (fun a k => if bbit g k then a ||| (f k).2 else a) 0

/-- A vector instruction has written VD: lane k holds the result `f k` where bit k of the guard is 1 and its old word
elsewhere, the flags of the active lanes are set, the pc has moved on, and nothing else differs. -/
def laneEffect (s u : State) (t : Nat) (b : BitVec 54) (f : Nat → LaneRes) : Prop :=
  let x := til s t
  let g := preg x (guardOf b)
  ∃ y : Tiller, u = fpFlags (tput s t y) t (laneFlags g f) ∧ y = { x with pc := x.pc + 8, v := y.v } ∧
    (∀ r, r ≠ fVD b → vreg y r = vreg x r) ∧
    ∀ k, k < 128 → laneN (vreg y (fVD b)) k = if bbit g k then (f k).1 % 2 ^ 32 else laneN (vreg x (fVD b)) k

/-- A request passes every check of a member from step 3 on (R528): the member serves, the header meets its layout, the
composition and epoch pass, a window or an own range allows the operation, every byte is mapped in one tier, which is
the stack tier for an atomic, and what is read does not wait for the flash tier's mount (R416). -/
def latChecked (s : State) (k : LPkt) (c : CmpCheck) : Prop :=
  fbit s F.LAT_CTL_SERVE_EN 0 = true ∧ starting s = false ∧ laHeaderOk k = true ∧ laComp s k = (laOK, 0, c) ∧
  laAllowed (compMark s k.comp k.epoch c) k = true ∧
  (∀ j, j < cdiv (laAddr k.laddr % 65536 + laLen k) 65536 →
    mapped (compMark s k.comp k.epoch c) (laAddr k.laddr / 65536 * 65536 + j * 65536) = true) ∧
  addrTier (laAddr k.laddr) = addrTier (laAddr k.laddr + laLen k - 1) ∧ (k.lop ≤ 2 ∨ addrTier (laAddr k.laddr) = 0) ∧
  (k.lop ≠ 2 → flashWaits (compMark s k.comp k.epoch c) (laAddr k.laddr) (laLen k) = false)

end Sys2Proof.Machine
end

