-- ==== Sys2Proof/Machine/Writes.lean ====
section
/-!
DEFINITION. The write set of every command: the parts of the state and the registers that its effect may change. Everything
else is unchanged by it.
-/

namespace Sys2Proof.Machine

/-- The parts of the state and the registers that a command may change. `.regs` among the parts stands for every register.
A command that starts work of another unit (a message delivered, an error raised, a fence) has that unit's parts too. -/
def writeSet (c : Instr) : List SField × List Reg :=
  match c with
  | .registerWrite .. | .vote .. | .d2dLoss | .startStep .. =>
    ([.fresh, .now, .gtime, .regs, .pins, .keys, .isl, .gov, .age, .mem, .syn, .hostMem, .tie, .int0, .til, .shf,
    .host, .sch, .ctx, .descBad, .cows, .bnk, .pools, .fab, .rows, .flash, .lat, .cmp, .meter, .port, .twin, .start,
    .sec, .stamp, .out], [])
  | .misalignedAccess .. =>
    ([.host, .out], [.HST_ERR, .HST_ERR_ADDR])
  | .rcFieldRead .. =>
    ([.fresh, .regs, .isl, .til, .out], [])
  | .islClkCtl .. =>
    ([.isl, .til], [.GLB_STAT, .ISL_CLK_CTL, .ISL_CLK_STAT, .ISL_XSTALL])
  | .clockChangeDone .. =>
    ([.isl, .til], [.ISL_CLK_STAT, .ISL_XSTALL])
  | .crossingDeliver .. | .crossing .. =>
    ([.isl], [.ISL_XSTALL])
  | .governorSample .. =>
    ([.fresh, .pins, .isl, .gov, .til, .flash], [.ISL_CLK_STAT, .ISL_XSTALL])
  | .powerBrake =>
    ([.pins, .isl, .gov, .til], [.ISL_CLK_STAT, .ISL_XSTALL])
  | .thermalTrip .. | .powerOnReset | .deviceReset .. =>
    ([.fresh, .now, .gtime, .regs, .pins, .keys, .isl, .gov, .age, .mem, .syn, .tie, .int0, .til, .shf, .host, .sch,
    .ctx, .descBad, .cows, .bnk, .pools, .fab, .rows, .flash, .lat, .cmp, .meter, .port, .twin, .start, .sec,
    .stamp], [])
  | .railFault .. =>
    ([.pins], [])
  | .addI64 .. | .subI64 .. | .andI64 .. | .orI64 .. | .xorI64 .. | .shlI64 .. | .shrI64 .. | .sarI64 .. | .mulI64 ..
  | .mulhuI64 .. | .divuI64 .. | .remuI64 .. | .minI64 .. | .maxI64 .. | .minuI64 .. | .maxuI64 .. | .clzI64 ..
  | .popcI64 .. | .selI64 .. | .cmpEq .. | .cmpNe .. | .cmpLt .. | .cmpLtu .. | .cmpGe .. | .cmpGeu .. | .addiI64 ..
  | .andiI64 .. | .oriI64 .. | .xoriI64 .. | .shliI64 .. | .shriI64 .. | .sariI64 .. | .ldiI64 .. | .ldihI64 ..
  | .cmpiEq .. | .cmpiLt .. | .cmpiGe .. | .ldU8 .. | .ldU16 .. | .ldU32 .. | .ld64 .. | .brEq .. | .brNe ..
  | .brLt .. | .brGe .. | .brLtu .. | .brGeu .. | .brP .. | .jmp .. | .jal .. | .jr .. | .codeEndReached .. | .pAnd ..
  | .pOr .. | .pXor .. | .pNot .. | .pMask .. | .pCnt .. | .vld .. | .vldB32 .. | .mmaTile .. | .accClr .. | .accLd ..
  | .accSt .. | .movCpy .. | .movFill .. | .ctxStep .. | .contextAnswer .. | .syncFence .. | .syncReg .. | .syncArr ..
  | .syncMov .. | .nop .. | .sysId .. | .sysTrap .. | .itemTimeout .. | .illegalInstruction .. =>
    ([.til], [])
  | .st8 .. | .st16 .. | .st32 .. | .st64 .. | .vst .. | .syncBar .. | .pushStallDone .. | .itemDispatch ..
  | .dispatchHeldPlace .. =>
    ([.til, .shf], [])
  | .amoAdd .. | .amoSwap .. | .amoCas .. =>
    ([.mem, .syn, .int0, .til, .shf, .host, .flash, .out], [.INT_LOG_STAT, .TIL_SHF_PERR])
  | .loadDataReturn .. =>
    ([.mem, .syn, .int0, .til, .host, .flash, .out], [.INT_LOG_STAT, .TIL_PERR, .TIL_SHF_PERR])
  | .vadd .. | .vsub .. | .vmul .. | .vfma .. | .vmax .. | .vmin .. | .vabs .. | .vneg .. | .vand .. | .vor ..
  | .vxor .. | .vshl .. | .vshr .. | .vsel .. | .vbcast .. | .vlane .. | .vperm .. | .viota .. | .vcmpEq ..
  | .vcmpLt .. | .vcmpLe .. | .vcvt .. | .vexp .. | .vln .. | .vrcp .. | .vrsum .. | .vrmax .. | .vrng .. | .vqmx ..
  | .vkv4e .. | .vkv4d .. | .vldacc .. =>
    ([.til], [.TIL_FPSTAT])
  | .arrayComplete .. =>
    ([.mem, .syn, .int0, .til, .host, .flash, .out], [.INT_LOG_STAT, .TIL_FPSTAT, .TIL_PERR, .TIL_SHF_PERR])
  | .moveComplete .. =>
    ([.mem, .syn, .tie, .int0, .til, .shf, .host, .ctx, .flash, .twin, .out], [.HST_ERR, .TWN_ERR, .TWN_HS_JSENT,
    .INT_LOG_STAT, .INT_LINE_CNT, .INT_POISON, .TIL_PERR, .TIL_SHF_PERR])
  | .ctxRd .. =>
    ([.mem, .syn, .hostMem, .tie, .til, .host, .ctx, .descBad, .flash, .twin, .out], [.HST_ERR, .HST_SPILL,
    .HST_CPL_PTR, .SCH_DONE0, .SCH_DONE1, .TWN_ERR, .TWN_HS_JSENT])
  | .ctxBind .. =>
    ([.fresh, .mem, .syn, .tie, .int0, .til, .host, .flash, .twin, .out], [.HST_ERR, .CTX_ERR, .INT_LOG_STAT,
    .INT_LINE_CNT, .INT_POISON])
  | .ctxEmit .. =>
    ([.til, .ctx], [])
  | .ctxSpan .. =>
    ([.fresh, .mem, .syn, .tie, .int0, .til, .host, .ctx, .cows, .bnk, .pools, .flash, .twin, .stamp, .out],
    [.HST_ERR, .CTX_ERR, .CTX_WALK, .BNK_ERR, .TWN_ERR, .TWN_HS_JSENT, .INT_LOG_STAT, .INT_LINE_CNT, .INT_POISON])
  | .copyOnWriteDone .. =>
    ([.mem, .syn, .tie, .int0, .til, .host, .ctx, .cows, .pools, .flash, .twin, .stamp, .out], [.HST_ERR, .CTX_COW,
    .TWN_ERR, .TWN_HS_JSENT, .INT_LOG_STAT, .INT_LINE_CNT, .INT_POISON])
  | .ctxHold .. =>
    ([.mem, .syn, .tie, .til, .ctx, .flash, .twin, .out], [.TWN_ERR, .TWN_HS_JSENT])
  | .bnkStroke .. =>
    ([.fresh, .til, .bnk], [])
  | .fabPut .. | .fabPutf .. | .fabGet .. | .fabSend .. =>
    ([.fresh, .mem, .syn, .hostMem, .tie, .int0, .til, .shf, .host, .ctx, .cows, .bnk, .pools, .fab, .flash, .cmp,
    .meter, .port, .twin, .stamp, .out], [.HST_ERR, .HST_RX_PTR, .CTX_ERR, .CTX_WALK, .BNK_ERR, .FAB_ERR, .CMP_ERR,
    .TWN_ERR, .TWN_HS_JSENT, .INT_LOG_STAT, .INT_LINE_CNT, .INT_POISON, .TIL_PERR, .TIL_SHF_PERR])
  | .rowGet .. | .rowUpd .. =>
    ([.fresh, .mem, .syn, .hostMem, .tie, .int0, .til, .shf, .host, .ctx, .cows, .bnk, .pools, .fab, .rows, .flash,
    .cmp, .meter, .port, .twin, .stamp, .out], [.HST_ERR, .HST_RX_PTR, .CTX_ERR, .CTX_WALK, .BNK_ERR, .FAB_ERR,
    .CMP_ERR, .TWN_ERR, .TWN_HS_JSENT, .INT_LOG_STAT, .INT_LINE_CNT, .INT_POISON, .TIL_PERR, .TIL_SHF_PERR])
  | .wiPush .. =>
    ([.til, .shf, .sch, .bnk], [])
  | .wiEnd .. =>
    ([.mem, .syn, .tie, .til, .sch, .ctx, .bnk, .flash, .twin, .out], [.TWN_ERR, .TWN_HS_JSENT, .TIL_ITEMS,
    .TIL_BUSY])
  | .exceptionDelivery .. =>
    ([.mem, .syn, .tie, .int0, .til, .host, .sch, .ctx, .bnk, .flash, .twin, .out], [.TWN_ERR, .TWN_HS_JSENT,
    .INT_LOG_STAT, .TIL_ITEMS, .TIL_BUSY])
  | .itemTake .. =>
    ([.til, .shf], [.TIE_WIN_STAT])
  | .steal .. =>
    ([.fresh, .til, .shf], [.TIL_STEALS])
  | .itemStart .. =>
    ([.til, .stamp], [])
  | .imageLoad .. =>
    ([.mem, .syn, .tie, .int0, .til, .host, .flash, .out], [.HST_ERR, .INT_LOG_STAT, .INT_LINE_CNT, .INT_POISON])
  | .strokeCommandCheck .. =>
    ([.mem, .syn, .tie, .int0, .til, .host, .ctx, .bnk, .flash, .twin, .out], [.HST_ERR, .BNK_STROKES, .TWN_ERR,
    .TWN_HS_JSENT, .INT_LOG_STAT, .INT_LINE_CNT, .INT_POISON, .TIL_PERR, .TIL_SHF_PERR])
  | .strokeQueueEntry .. =>
    ([.bnk], [])
  | .strokeStart .. =>
    ([.mem, .syn, .tie, .int0, .til, .shf, .ctx, .cows, .bnk, .flash, .twin, .stamp, .out], [.BNK_STK_STAT,
    .BNK_STROKES, .TWN_ERR, .TWN_HS_JSENT, .INT_POISON])
  | .strokeEnd .. =>
    ([.mem, .syn, .tie, .int0, .til, .shf, .host, .ctx, .cows, .bnk, .flash, .meter, .twin, .out], [.HST_ERR,
    .BNK_STK_STAT, .BNK_STROKES, .BNK_BUSY, .BNK_YIELD, .BNK_LINE_ERR, .TWN_ERR, .TWN_HS_JSENT, .INT_LOG_STAT,
    .INT_LINE_CNT, .INT_POISON])
  | .rowStepEnd .. =>
    ([.mem, .syn, .shf, .bnk, .flash], [.BNK_YIELD])
  | .outsideAccess .. =>
    ([.mem, .syn, .shf, .bnk, .flash], [])
  | .refreshDue .. =>
    ([.bnk], [.BNK_STK_STAT, .BNK_REFRESH])
  | .refreshEnd .. =>
    ([.mem, .syn, .shf, .bnk, .flash], [.BNK_STK_STAT, .BNK_REFRESH])
  | .attentionRequest .. | .attentionItemsEnd .. =>
    ([.fresh, .mem, .syn, .hostMem, .tie, .int0, .til, .shf, .host, .ctx, .cows, .bnk, .pools, .fab, .flash, .cmp,
    .meter, .port, .twin, .stamp, .out], [.HST_ERR, .HST_RX_PTR, .CTX_ERR, .CTX_WALK, .BNK_ATTN_CNT, .BNK_ERR,
    .FAB_ERR, .CMP_ERR, .TWN_ERR, .TWN_HS_JSENT, .INT_LOG_STAT, .INT_LINE_CNT, .INT_POISON])
  | .stepFormation .. =>
    ([.fresh, .mem, .syn, .hostMem, .tie, .int0, .shf, .host, .sch, .ctx, .descBad, .pools, .flash, .twin, .out],
    [.HST_ERR, .HST_SPILL, .HST_CPL_PTR, .SCH_CMD_STAT, .SCH_ERR, .SCH_DONE0, .SCH_DONE1, .SCH_RATIO,
    .SCH_RATIO_STAT, .SCH_STEP_NUM, .SCH_STEP_STAT, .TWN_ERR, .TWN_HS_JSENT, .INT_ERR, .ISL_CLK_STAT])
  | .commitPoint .. =>
    ([.fresh, .mem, .syn, .hostMem, .tie, .int0, .til, .shf, .host, .sch, .ctx, .descBad, .cows, .bnk, .pools, .fab,
    .rows, .flash, .cmp, .meter, .port, .twin, .stamp, .out], [.HST_ERR, .HST_SPILL, .HST_CPL_PTR, .HST_RX_PTR,
    .SCH_ERR, .SCH_DONE0, .SCH_DONE1, .SCH_PART_CTL, .SCH_RATIO_STAT, .SCH_STEP_STAT, .SCH_STEP_TIME, .CTX_ERR,
    .CTX_WALK, .BNK_ERR, .TIE_WIN_CTL, .TIE_WIN_STAT, .ROW_CMD_STAT, .ROW_UPDATES, .ROW_MOVES, .ROW_APPLY, .ROW_ERR,
    .FAB_ERR, .CMP_ERR, .TWN_ERR, .TWN_HS_JSENT, .INT_LOG_STAT, .INT_LINE_CNT, .INT_POISON, .INT_ERR])
  | .preempt .. | .resume .. | .swapOut .. | .swapIn .. | .release .. =>
    ([.fresh, .mem, .syn, .hostMem, .tie, .int0, .host, .sch, .ctx, .descBad, .pools, .flash, .twin, .out],
    [.HST_ERR, .HST_SPILL, .HST_CPL_PTR, .SCH_CMD_STAT, .SCH_ERR, .SCH_DONE0, .SCH_DONE1, .TWN_ERR, .TWN_HS_JSENT])
  | .schPartCtl .. =>
    ([.sch], [.GLB_STAT, .SCH_ERR, .SCH_PART_CTL])
  | .schRatio .. =>
    ([.sch], [.GLB_STAT, .SCH_RATIO])
  | .prefillToReady .. =>
    ([.mem, .syn, .tie, .ctx, .flash, .twin, .out], [.TWN_ERR, .TWN_HS_JSENT])
  | .promptPartDone .. =>
    ([.mem, .syn, .hostMem, .tie, .host, .ctx, .flash, .twin, .out], [.HST_ERR, .HST_SPILL, .HST_CPL_PTR,
    .SCH_DONE0, .SCH_DONE1, .TWN_ERR, .TWN_HS_JSENT])
  | .contextClose .. | .contextRelease .. =>
    ([.mem, .syn, .tie, .int0, .host, .ctx, .pools, .flash, .twin, .stamp, .out], [.HST_ERR, .TWN_ERR,
    .TWN_HS_JSENT, .INT_LOG_STAT, .INT_LINE_CNT, .INT_POISON])
  | .attachmentEnd .. =>
    ([.fresh, .mem, .syn, .tie, .int0, .host, .ctx, .pools, .flash, .twin, .stamp, .out], [.HST_ERR, .SCH_ERR,
    .CTX_ERR, .PFX_USED, .PFX_LOOKUPS, .PFX_COLLIDE, .TWN_ERR, .TWN_HS_JSENT, .INT_LOG_STAT, .INT_LINE_CNT,
    .INT_POISON])
  | .publicationEnd .. =>
    ([.fresh, .mem, .syn, .tie, .int0, .host, .ctx, .pools, .flash, .twin, .stamp, .out], [.HST_ERR, .CTX_ERR,
    .PFX_USED, .PFX_COLLIDE, .PFX_EVICT, .INT_LOG_STAT, .INT_LINE_CNT, .INT_POISON])
  | .pfxInval .. =>
    ([.pools], [.GLB_STAT, .PFX_USED, .PFX_INVAL])
  | .invalidationEnd .. =>
    ([.mem, .syn, .pools, .flash], [.PFX_USED])
  | .ctxPeekSel .. =>
    ([.mem, .syn, .hostMem, .tie, .host, .ctx, .descBad, .flash, .twin, .out], [.GLB_STAT, .HST_ERR, .HST_SPILL,
    .HST_CPL_PTR, .SCH_DONE0, .SCH_DONE1, .CTX_PEEK_SEL, .CTX_PEEK_W, .TWN_ERR, .TWN_HS_JSENT])
  | .swapOutDone .. =>
    ([.fresh, .mem, .syn, .tie, .int0, .host, .ctx, .pools, .flash, .twin, .stamp, .out], [.HST_ERR, .SCH_ERR,
    .TWN_ERR, .TWN_HS_JSENT, .INT_LOG_STAT, .INT_LINE_CNT, .INT_POISON])
  | .swapInDone .. =>
    ([.fresh, .mem, .syn, .tie, .int0, .ctx, .pools, .flash, .twin, .out], [.SCH_ERR, .TWN_ERR, .TWN_HS_JSENT])
  | .frameMoveDone .. =>
    ([.fresh, .mem, .syn, .tie, .int0, .host, .ctx, .pools, .flash, .twin, .stamp, .out], [.HST_ERR, .SCH_ERR,
    .TIE_CMD_STAT, .TIE_RECLAIM, .TIE_ERR, .TWN_ERR, .TWN_HS_JSENT, .INT_LOG_STAT, .INT_LINE_CNT, .INT_POISON])
  | .alloc =>
    ([.fresh, .mem, .syn, .tie, .int0, .host, .pools, .flash, .out], [.HST_ERR, .TIE_CMD_STAT, .TIE_ERR,
    .INT_LOG_STAT, .INT_LINE_CNT, .INT_POISON])
  | .freeObj =>
    ([.mem, .syn, .tie, .host, .pools, .flash, .stamp, .out], [.TIE_CMD_STAT, .TIE_ERR])
  | .moveObj =>
    ([.fresh, .mem, .syn, .tie, .int0, .host, .flash, .out], [.HST_ERR, .TIE_CMD_STAT, .TIE_ERR, .INT_LOG_STAT,
    .INT_LINE_CNT, .INT_POISON])
  | .gather =>
    ([.fresh, .mem, .syn, .tie, .int0, .host, .pools, .flash, .out], [.TIE_CMD_STAT, .TIE_ERR])
  | .transfer =>
    ([.fresh, .mem, .syn, .hostMem, .tie, .int0, .til, .shf, .host, .ctx, .cows, .bnk, .pools, .fab, .flash, .cmp,
    .meter, .port, .twin, .stamp, .out], [.HST_ERR, .HST_SPILL, .HST_CPL_PTR, .HST_RX_PTR, .SCH_DONE0, .SCH_DONE1,
    .CTX_ERR, .CTX_WALK, .BNK_ERR, .TIE_CMD_STAT, .TIE_ERR, .FAB_ERR, .CMP_ERR, .TWN_ERR, .TWN_HS_JSENT,
    .INT_LOG_STAT, .INT_LINE_CNT, .INT_POISON])
  | .reclaim .. | .slowTierReclaim .. =>
    ([.fresh, .mem, .syn, .hostMem, .tie, .int0, .host, .ctx, .pools, .flash, .twin, .stamp, .out], [.HST_ERR,
    .HST_SPILL, .HST_CPL_PTR, .SCH_DONE0, .SCH_DONE1, .PFX_USED, .PFX_EVICT, .TIE_RECLAIM, .TIE_ERR, .TWN_ERR,
    .TWN_HS_JSENT, .INT_LOG_STAT, .INT_LINE_CNT, .INT_POISON])
  | .tieWinCtl .. =>
    ([.fresh, .mem, .syn, .hostMem, .tie, .int0, .til, .shf, .host, .ctx, .cows, .bnk, .pools, .fab, .flash, .cmp,
    .meter, .port, .twin, .stamp, .out], [.GLB_STAT, .HST_ERR, .HST_RX_PTR, .CTX_ERR, .CTX_WALK, .BNK_ERR, .TIE_ERR,
    .TIE_WIN_CTL, .TIE_WIN_STAT, .FAB_ERR, .CMP_ERR, .TWN_ERR, .TWN_HS_JSENT, .INT_LOG_STAT, .INT_LINE_CNT,
    .INT_POISON])
  | .windowFillDone .. =>
    ([.fresh, .mem, .syn, .hostMem, .tie, .int0, .til, .shf, .host, .sch, .ctx, .cows, .bnk, .pools, .fab, .flash,
    .cmp, .meter, .port, .twin, .stamp, .out], [.HST_ERR, .HST_RX_PTR, .CTX_ERR, .CTX_WALK, .BNK_ERR, .TIE_ERR,
    .TIE_WIN_STAT, .FAB_ERR, .CMP_ERR, .TWN_ERR, .TWN_HS_JSENT, .INT_LOG_STAT, .INT_LINE_CNT, .INT_POISON])
  | .rowRequestGet .. | .rowRequestUpd .. =>
    ([.fresh, .mem, .syn, .hostMem, .tie, .int0, .til, .shf, .host, .ctx, .cows, .bnk, .pools, .fab, .rows, .flash,
    .cmp, .meter, .port, .twin, .stamp, .out], [.HST_ERR, .HST_RX_PTR, .CTX_ERR, .CTX_WALK, .BNK_ERR, .ROW_LOOKUPS,
    .ROW_UPDATES, .ROW_MOVES, .ROW_ERR, .FAB_ERR, .CMP_ERR, .TWN_ERR, .TWN_HS_JSENT, .INT_LOG_STAT, .INT_LINE_CNT,
    .INT_POISON])
  | .rowAnswer .. | .rowResend .. =>
    ([.fresh, .mem, .syn, .hostMem, .tie, .int0, .til, .shf, .host, .ctx, .cows, .bnk, .pools, .fab, .rows, .flash,
    .cmp, .meter, .port, .twin, .stamp, .out], [.HST_ERR, .HST_RX_PTR, .CTX_ERR, .CTX_WALK, .BNK_ERR, .FAB_ERR,
    .CMP_ERR, .TWN_ERR, .TWN_HS_JSENT, .INT_LOG_STAT, .INT_LINE_CNT, .INT_POISON])
  | .applyTimer .. =>
    ([.fresh, .mem, .syn, .tie, .int0, .host, .rows, .flash, .out], [.HST_ERR, .ROW_CMD_STAT, .ROW_UPDATES,
    .ROW_MOVES, .ROW_APPLY, .ROW_ERR, .INT_LOG_STAT, .INT_LINE_CNT, .INT_POISON])
  | .rowCreate | .rowDestroy | .rowResetHistory =>
    ([.mem, .syn, .host, .rows, .flash, .out], [.ROW_CMD_STAT])
  | .rowMigrate =>
    ([.fresh, .mem, .syn, .tie, .int0, .host, .rows, .flash, .out], [.HST_ERR, .ROW_CMD_STAT, .ROW_MOVES, .ROW_ERR,
    .INT_LOG_STAT, .INT_LINE_CNT, .INT_POISON])
  | .migrationRowReceive .. =>
    ([.fresh, .mem, .syn, .rows, .flash], [])
  | .migrationReplay .. =>
    ([.fresh, .mem, .syn, .rows, .flash], [.ROW_UPDATES, .ROW_ERR])
  | .migrationSwitch .. | .migrationHomeUpdate .. =>
    ([.mem, .syn, .host, .rows, .flash, .out], [.ROW_CMD_STAT, .ROW_MOVES])
  | .migrationActivation .. =>
    ([.mem, .syn, .rows, .flash], [])
  | .migrationAbort .. =>
    ([.fresh, .mem, .syn, .host, .rows, .flash, .out], [.ROW_CMD_STAT, .ROW_UPDATES])
  | .flashMountDone .. =>
    ([.fresh, .keys, .mem, .syn, .flash], [.FLS_STAT, .FLS_GEOM, .FLS_FORMAT, .FLS_ERR, .FLS_CH, .SEC_STAT])
  | .journalPageProgram .. | .flashReclaim .. | .blockRefresh .. =>
    ([.flash], [])
  | .checkpointTimer .. =>
    ([.flash], [.FLS_STAT])
  | .unitReadDone .. =>
    ([.mem, .syn, .tie, .int0, .host, .flash, .out], [.HST_ERR, .FLS_STAT, .FLS_ERR, .FLS_CH, .INT_LOG_STAT,
    .INT_LINE_CNT, .INT_POISON])
  | .unitProgramDone .. =>
    ([.fresh, .mem, .syn, .tie, .flash], [.FLS_STAT, .FLS_ERR, .FLS_CH])
  | .blockEraseDone .. =>
    ([.flash], [.FLS_STAT, .FLS_ERR, .FLS_CH])
  | .targetTimeout .. =>
    ([.mem, .syn, .flash], [.FLS_STAT, .FLS_ERR, .FLS_CH])
  | .patrol .. =>
    ([.mem, .syn, .host, .flash, .out], [.FLS_STAT, .FLS_CMD_STAT, .FLS_ERR, .FLS_CH])
  | .flsCheckpoint | .flsPatrol | .flsShutdown =>
    ([.host, .flash, .out], [.FLS_STAT, .FLS_CMD_STAT])
  | .flsRetire =>
    ([.host, .flash, .out], [.FLS_STAT, .FLS_CMD_STAT, .FLS_ERR, .FLS_CH])
  | .flsFormat =>
    ([.fresh, .keys, .mem, .syn, .host, .flash, .out], [.FLS_STAT, .FLS_FORMAT, .FLS_CMD_STAT, .FLS_ERR, .FLS_CH])
  | .flsHlogSnap .. =>
    ([], [.GLB_STAT, .FLS_HLOG_SNAP, .FLS_HLOG])
  | .put .. =>
    ([.fresh, .mem, .syn, .hostMem, .tie, .int0, .til, .shf, .host, .ctx, .cows, .bnk, .pools, .fab, .flash, .cmp,
    .meter, .port, .twin, .stamp, .out], [.HST_ERR, .HST_RX_PTR, .CTX_ERR, .CTX_WALK, .BNK_ERR, .FAB_ERR, .FAB_PKTS,
    .FAB_LOSS, .FAB_REFUSED, .FAB_PORT_CNT, .SHP_POL_CNT, .CMP_ERR, .TWN_ERR, .TWN_HS_JSENT, .INT_LOG_STAT,
    .INT_LINE_CNT, .INT_POISON])
  | .getReq .. =>
    ([.fresh, .mem, .syn, .tie, .int0, .til, .host, .ctx, .cows, .bnk, .pools, .fab, .flash, .cmp, .port, .twin,
    .stamp, .out], [.HST_ERR, .CTX_ERR, .CTX_WALK, .BNK_ERR, .FAB_ERR, .FAB_PKTS, .FAB_LOSS, .FAB_REFUSED,
    .FAB_PORT_CNT, .SHP_POL_CNT, .CMP_ERR, .TWN_ERR, .TWN_HS_JSENT, .INT_LOG_STAT, .INT_LINE_CNT, .INT_POISON])
  | .getResp .. =>
    ([.mem, .syn, .tie, .til, .shf, .ctx, .fab, .flash, .meter, .port, .stamp], [.FAB_ERR, .FAB_PKTS, .FAB_LOSS,
    .FAB_REFUSED, .FAB_PORT_CNT, .SHP_POL_CNT])
  | .send .. =>
    ([.mem, .syn, .hostMem, .tie, .host, .fab, .flash, .port, .stamp, .out], [.HST_RX_PTR, .FAB_ERR, .FAB_PKTS,
    .FAB_LOSS, .FAB_REFUSED, .FAB_PORT_CNT, .SHP_POL_CNT])
  | .ack .. | .nack .. =>
    ([.mem, .syn, .tie, .til, .ctx, .fab, .flash, .port, .stamp], [.FAB_ERR, .FAB_PKTS, .FAB_LOSS, .FAB_REFUSED,
    .FAB_PORT_CNT, .SHP_POL_CNT])
  | .doneMsg .. =>
    ([.fresh, .mem, .syn, .hostMem, .tie, .int0, .til, .shf, .host, .ctx, .cows, .bnk, .pools, .fab, .flash, .cmp,
    .meter, .port, .twin, .stamp, .out], [.HST_ERR, .HST_SPILL, .HST_CPL_PTR, .HST_RX_PTR, .SCH_DONE0, .SCH_DONE1,
    .CTX_ERR, .CTX_WALK, .BNK_ERR, .TIE_CMD_STAT, .TIE_ERR, .FAB_ERR, .FAB_PKTS, .FAB_LOSS, .FAB_REFUSED,
    .FAB_PORT_CNT, .SHP_POL_CNT, .CMP_ERR, .TWN_ERR, .TWN_HS_JSENT, .INT_LOG_STAT, .INT_LINE_CNT, .INT_POISON])
  | .abortMsg .. =>
    ([.mem, .syn, .tie, .int0, .host, .pools, .fab, .flash, .port, .twin, .stamp, .out], [.HST_ERR, .FAB_ERR,
    .FAB_PKTS, .FAB_LOSS, .FAB_REFUSED, .FAB_PORT_CNT, .SHP_POL_CNT, .TWN_ERR, .TWN_HS_JSENT, .INT_LOG_STAT,
    .INT_LINE_CNT, .INT_POISON])
  | .probe .. | .probeReply .. =>
    ([.mem, .syn, .fab, .flash, .port], [.FAB_ERR, .FAB_PKTS, .FAB_LOSS, .FAB_REFUSED, .FAB_PORT_CNT, .SHP_POL_CNT])
  | .frameReceive .. =>
    ([.hostMem, .host, .fab, .port, .out], [.HST_ERR, .HST_RX_PTR, .FAB_ERR, .FAB_PKTS, .FAB_LOSS, .FAB_REFUSED,
    .FAB_PORT_CNT])
  | .importDone | .importKeyed | .heartbeat =>
    ([.fresh, .mem, .syn, .hostMem, .tie, .int0, .til, .shf, .host, .ctx, .cows, .bnk, .pools, .fab, .flash, .cmp,
    .meter, .port, .twin, .stamp, .out], [.HST_ERR, .HST_RX_PTR, .CTX_ERR, .CTX_WALK, .BNK_ERR, .FAB_ERR, .CMP_ERR,
    .TWN_ERR, .TWN_HS_JSENT, .INT_LOG_STAT, .INT_LINE_CNT, .INT_POISON])
  | .cancelMessage | .report =>
    ([.fresh, .mem, .syn, .hostMem, .tie, .int0, .til, .shf, .host, .ctx, .cows, .bnk, .pools, .fab, .flash, .cmp,
    .meter, .port, .twin, .stamp, .out], [.HST_ERR, .HST_SPILL, .HST_CPL_PTR, .HST_RX_PTR, .SCH_DONE0, .SCH_DONE1,
    .CTX_ERR, .CTX_WALK, .BNK_ERR, .FAB_ERR, .CMP_ERR, .TWN_ERR, .TWN_HS_JSENT, .INT_LOG_STAT, .INT_LINE_CNT,
    .INT_POISON])
  | .hiddenDone =>
    ([.mem, .syn, .tie, .ctx, .fab, .flash, .twin, .out], [.FAB_ERR, .TWN_ERR, .TWN_HS_JSENT])
  | .ackTimer .. =>
    ([.fab, .port], [])
  | .reorderTimer .. =>
    ([.mem, .syn, .fab, .flash], [.FAB_ERR])
  | .retransmitTimeout .. =>
    ([.mem, .syn, .tie, .til, .ctx, .fab, .flash, .port], [.FAB_ERR])
  | .rnrRetry .. | .backoff =>
    ([.fab], [])
  | .getTimeout .. =>
    ([.mem, .syn, .tie, .til, .ctx, .fab, .flash, .port, .stamp], [])
  | .doneHoldEnd .. =>
    ([.mem, .syn, .tie, .fab, .flash], [])
  | .messageIdle .. =>
    ([.mem, .syn, .tie, .int0, .host, .pools, .fab, .flash, .twin, .stamp, .out], [.HST_ERR, .FAB_ERR, .TWN_ERR,
    .TWN_HS_JSENT, .INT_LOG_STAT, .INT_LINE_CNT, .INT_POISON])
  | .probeTimer .. | .gateEntry .. =>
    ([.port], [])
  | .pathHoldEnd .. | .rateUpdate .. =>
    ([.mem, .syn, .fab, .flash], [])
  | .peerEnable .. =>
    ([.fresh, .mem, .syn, .fab, .flash, .port], [])
  | .fabRegister | .fabRevoke =>
    ([.mem, .syn, .host, .fab, .flash, .twin, .out], [.FAB_CMD_STAT, .TWN_ERR, .TWN_HS_JSENT])
  | .revokeEnd .. =>
    ([.mem, .syn, .tie, .host, .fab, .flash, .twin, .out], [.FAB_CMD_STAT, .TWN_ERR, .TWN_HS_JSENT])
  | .fabTimeAdj .. =>
    ([.gtime], [.GLB_STAT, .FAB_TIME_ADJ])
  | .limiterRelease .. | .wheelSlot =>
    ([.mem, .syn, .fab, .flash, .meter, .port], [.FAB_LOSS])
  | .frameStart .. =>
    ([.host, .port, .out], [.FAB_PKTS, .FAB_PORT_STAT, .FAB_PORT_TXTS, .FAB_PORT_TXSEQ])
  | .linkDown .. =>
    ([.host, .port], [.FAB_PORT_STAT])
  | .linkUp .. =>
    ([], [.FAB_PORT_STAT])
  | .ringPoll =>
    ([.fresh, .mem, .syn, .tie, .int0, .shf, .host, .bnk, .flash, .lat, .cmp, .meter, .port, .out], [.HST_ERR,
    .HST_APER_STAT, .LAT_ERR, .LAT_CNT, .LAT_RING_HEAD, .CMP_ERR, .INT_LOG_STAT, .INT_LINE_CNT, .INT_POISON])
  | .latDoorbell .. =>
    ([.fresh, .mem, .syn, .tie, .int0, .shf, .host, .bnk, .flash, .lat, .cmp, .meter, .port, .out], [.GLB_STAT,
    .HST_ERR, .HST_APER_STAT, .LAT_DOORBELL, .LAT_ERR, .LAT_CNT, .LAT_RING_HEAD, .CMP_ERR, .INT_LOG_STAT,
    .INT_LINE_CNT, .INT_POISON])
  | .latticeLoad .. | .latticeStore .. | .add64 .. | .swap64 .. | .cas64 .. =>
    ([.mem, .syn, .tie, .int0, .host, .flash, .lat, .cmp, .meter, .port, .out], [.HST_ERR, .FAB_PKTS, .FAB_LOSS,
    .FAB_PORT_CNT, .SHP_POL_CNT, .LAT_ERR, .LAT_CNT, .CMP_ERR, .INT_LOG_STAT, .INT_LINE_CNT, .INT_POISON])
  | .latticeResp .. =>
    ([.mem, .syn, .tie, .int0, .shf, .host, .bnk, .fab, .flash, .lat, .cmp, .meter, .port, .out], [.HST_ERR,
    .HST_APER_STAT, .FAB_ERR, .FAB_PKTS, .FAB_LOSS, .FAB_REFUSED, .FAB_PORT_CNT, .SHP_POL_CNT, .LAT_ERR, .LAT_CNT,
    .CMP_ERR, .INT_LOG_STAT, .INT_LINE_CNT, .INT_POISON])
  | .lack .. | .lprobe .. =>
    ([.fab, .lat, .port], [.FAB_ERR, .FAB_PKTS, .FAB_LOSS, .FAB_REFUSED, .FAB_PORT_CNT, .SHP_POL_CNT])
  | .lprobeReply .. =>
    ([.fab, .lat, .port], [.FAB_ERR, .FAB_PKTS, .FAB_LOSS, .FAB_REFUSED, .FAB_PORT_CNT, .SHP_POL_CNT, .LAT_STAT,
    .LAT_DOWN, .LAT_MEMBER])
  | .lprobeTimer .. =>
    ([.lat, .port], [.LAT_MEMBER])
  | .latticeTimeout .. =>
    ([.mem, .syn, .shf, .host, .bnk, .flash, .lat, .port, .out], [.HST_ERR, .HST_APER_STAT, .LAT_STAT, .LAT_DOWN,
    .LAT_ERR, .LAT_MEMBER])
  | .dedupExpiry .. | .windowUnpin .. =>
    ([.lat], [])
  | .latWinCtl .. =>
    ([.lat], [.GLB_STAT, .LAT_ERR, .LAT_WIN_CTL])
  | .apertureRead .. | .apertureWrite .. =>
    ([.fresh, .mem, .syn, .tie, .int0, .shf, .host, .bnk, .flash, .lat, .cmp, .meter, .port, .out], [.HST_ERR,
    .HST_APER_STAT, .LAT_ERR, .LAT_CNT, .CMP_ERR, .INT_LOG_STAT, .INT_LINE_CNT, .INT_POISON])
  | .apertureTimeout .. =>
    ([.host, .out], [.HST_ERR, .HST_APER_STAT])
  | .cmpOpen =>
    ([.mem, .syn, .host, .cmp, .out], [.CMP_CMD_STAT])
  | .cmpStage =>
    ([.mem, .syn, .host, .flash, .cmp, .out], [.CMP_CMD_STAT])
  | .cmpCommit =>
    ([.mem, .syn, .host, .cmp, .twin, .out], [.CMP_CMD_STAT, .TWN_ERR, .TWN_HS_JSENT])
  | .cmpRetire | .cmpClose =>
    ([.host, .cmp, .out], [.CMP_CMD_STAT])
  | .compositionClosed .. | .epochRetire .. =>
    ([.cmp], [])
  | .cmpMtrSnap .. =>
    ([], [.GLB_STAT, .CMP_MTR_SNAP])
  | .meterTick =>
    ([.meter], [])
  | .hello .. =>
    ([.mem, .syn, .hostMem, .tie, .int0, .host, .ctx, .pools, .flash, .twin, .stamp, .out], [.HST_ERR, .HST_SPILL,
    .HST_CPL_PTR, .TWN_CMD_STAT, .TWN_ERR, .TWN_HS_STAT, .TWN_HS_JSENT, .TWN_HS_JACKED, .TWN_HS_CNT, .INT_LOG_STAT,
    .INT_LINE_CNT, .INT_POISON])
  | .helloTimer .. | .jackTimer .. | .voteRetry .. =>
    ([.twin, .out], [])
  | .journal .. =>
    ([.mem, .syn, .hostMem, .tie, .host, .ctx, .flash, .twin, .out], [.HST_ERR, .HST_SPILL, .HST_CPL_PTR,
    .TWN_CMD_STAT, .TWN_ERR, .TWN_HS_STAT, .TWN_HS_JSENT, .TWN_HS_JACKED, .TWN_HS_JAPPLIED, .TWN_HS_CNT])
  | .jack .. | .fetch .. | .voteReq .. =>
    ([.mem, .syn, .hostMem, .tie, .host, .ctx, .flash, .twin, .out], [.HST_ERR, .HST_SPILL, .HST_CPL_PTR, .TWN_ERR,
    .TWN_HS_STAT, .TWN_HS_JSENT, .TWN_HS_JACKED, .TWN_HS_CNT])
  | .journalResend .. =>
    ([.twin, .out], [.TWN_HS_CNT])
  | .twinLinkLoss .. =>
    ([.mem, .syn, .hostMem, .tie, .host, .ctx, .flash, .twin, .out], [.HST_ERR, .HST_SPILL, .HST_CPL_PTR,
    .TWN_CMD_STAT, .TWN_ERR, .TWN_HS_STAT, .TWN_HS_JSENT])
  | .fetchData .. =>
    ([.fresh, .mem, .syn, .hostMem, .tie, .int0, .host, .ctx, .flash, .twin, .out], [.HST_ERR, .HST_SPILL,
    .HST_CPL_PTR, .SCH_DONE0, .SCH_DONE1, .CTX_ERR, .TWN_ERR, .TWN_HS_STAT, .TWN_HS_JSENT, .TWN_HS_JACKED,
    .TWN_HS_CNT, .INT_LOG_STAT, .INT_LINE_CNT, .INT_POISON])
  | .fetchTimeout .. =>
    ([.fresh, .mem, .syn, .hostMem, .tie, .int0, .host, .ctx, .flash, .twin, .out], [.HST_ERR, .HST_SPILL,
    .HST_CPL_PTR, .SCH_DONE0, .SCH_DONE1, .CTX_ERR, .TWN_ERR, .TWN_HS_JSENT, .INT_LOG_STAT, .INT_LINE_CNT,
    .INT_POISON])
  | .voteTimeout .. | .fenceHoldEnd .. | .halfReset .. | .glbReset .. | .mctpReset .. | .zeroise =>
    ([.fresh, .now, .gtime, .regs, .pins, .keys, .isl, .gov, .age, .mem, .syn, .tie, .int0, .til, .shf, .host, .sch,
    .ctx, .descBad, .cows, .bnk, .pools, .fab, .rows, .flash, .lat, .cmp, .meter, .port, .twin, .start, .sec,
    .stamp, .out], [])
  | .giveup .. =>
    ([.mem, .syn, .hostMem, .tie, .host, .ctx, .flash, .twin, .out], [.HST_ERR, .HST_SPILL, .HST_CPL_PTR,
    .TWN_CMD_STAT, .TWN_ERR, .TWN_HS_STAT, .TWN_HS_JSENT, .TWN_HS_JACKED, .TWN_HS_CNT])
  | .d2dReturn =>
    ([.mem, .syn, .hostMem, .tie, .host, .ctx, .flash, .twin, .out], [.HST_ERR, .HST_SPILL, .HST_CPL_PTR,
    .FAB_PORT_STAT, .TWN_LEAD, .TWN_ERR, .TWN_HS_JSENT])
  | .twnTakeover =>
    ([.fresh, .mem, .syn, .tie, .int0, .host, .ctx, .pools, .flash, .twin, .stamp, .out], [.HST_ERR, .CTX_ERR,
    .PFX_USED, .PFX_LOOKUPS, .PFX_COLLIDE, .TWN_CMD_STAT, .TWN_ERR, .TWN_HS_STAT, .TWN_HS_JSENT, .INT_LOG_STAT,
    .INT_LINE_CNT, .INT_POISON])
  | .twnResync =>
    ([.host, .twin, .out], [.TWN_CMD_STAT, .TWN_ERR, .TWN_HS_STAT, .TWN_HS_JSENT])
  | .poisonTest .. =>
    ([.mem, .syn, .tie, .int0, .host, .flash, .out], [.GLB_STAT, .BNK_STK_STAT, .INT_LOG_STAT, .INT_POISON,
    .INT_REPAIR])
  | .rowRepair .. =>
    ([.mem, .syn, .int0, .host, .flash, .out], [.GLB_STAT, .BNK_STK_STAT, .INT_LOG_STAT, .INT_REPAIR])
  | .intSeal =>
    ([.syn, .int0, .host, .out], [.INT_CMD_STAT])
  | .intAudit =>
    ([.int0], [])
  | .intTest =>
    ([.int0, .til, .host, .out], [.INT_CMD_STAT, .ISL_CLK_STAT])
  | .intScrub =>
    ([.mem, .syn, .tie, .int0, .host, .flash, .out], [.HST_ERR, .INT_LOG_STAT, .INT_CMD_STAT, .INT_LINE_CNT,
    .INT_POISON])
  | .intLogBase .. =>
    ([], [.GLB_STAT, .INT_LOG_BASE, .INT_LOG_HEAD, .INT_LOG_STAT, .INT_ERR])
  | .testIdle .. =>
    ([], [.ISL_CLK_STAT])
  | .testSegmentEnd .. =>
    ([.fresh, .isl, .mem, .syn, .int0, .til, .shf, .host, .flash, .out], [.INT_LOG_STAT, .INT_TEST_STAT,
    .INT_CMD_STAT, .TIL_STAT, .TIL_PC, .TIL_DQ, .TIL_BUSY, .TIL_PERR, .ISL_CLK_STAT])
  | .scrubTimer =>
    ([.mem, .syn, .tie, .int0, .host, .flash, .out], [.HST_ERR, .INT_LOG_STAT, .INT_LINE_CNT, .INT_POISON])
  | .ageSample .. =>
    ([.isl, .age, .mem, .syn, .int0, .til, .host, .flash, .out], [.INT_LOG_STAT, .AGE_STAT, .AGE_ISL_NOW,
    .AGE_ISL_PLAN, .ISL_CLK_STAT, .ISL_XSTALL])
  | .agePlan =>
    ([.isl, .age, .mem, .syn, .int0, .til, .shf, .host, .flash, .out], [.INT_LOG_STAT, .AGE_STAT, .AGE_ISL_PLAN,
    .TIL_STAT, .TIL_PC, .TIL_DQ, .TIL_BUSY, .ISL_CLK_STAT])
  | .planApply .. =>
    ([.isl, .age, .mem, .syn, .int0, .til, .host, .flash, .out], [.INT_LOG_STAT, .AGE_ISL_PLAN, .ISL_CLK_STAT,
    .ISL_XSTALL])
  | .hostPortReset =>
    ([.host, .sch, .start], [.HST_STAT, .HST_REQ_CTL, .HST_CPL_CTL, .HST_RX_CTL, .HST_TX_CTL])
  | .resetRelease =>
    ([.now, .pins, .start], [])
  | .discoveryFrame =>
    ([.fresh, .start], [.GLB_STAT, .GLB_DISC_STAT])
  | .announce =>
    ([.fresh, .mem, .syn, .hostMem, .tie, .int0, .til, .shf, .host, .ctx, .cows, .bnk, .pools, .fab, .flash, .cmp,
    .meter, .port, .twin, .start, .stamp, .out], [.HST_ERR, .HST_RX_PTR, .CTX_ERR, .CTX_WALK, .BNK_ERR, .FAB_ERR,
    .CMP_ERR, .TWN_ERR, .TWN_HS_JSENT, .INT_LOG_STAT, .INT_LINE_CNT, .INT_POISON])
  | .registered .. =>
    ([.host, .fab, .cmp, .start, .out], [.GLB_STAT, .GLB_DISC_STAT, .CMP_CMD_STAT])
  | .openCtx .. =>
    ([.fresh, .mem, .syn, .hostMem, .tie, .host, .ctx, .pools, .flash, .twin, .out], [.HST_REQ_PTR, .HST_CPL_PTR,
    .CTX_ERR, .TWN_ERR, .TWN_HS_JSENT])
  | .openExt .. =>
    ([.hostMem, .host, .out], [.HST_REQ_PTR, .HST_CPL_PTR])
  | .append .. =>
    ([.fresh, .mem, .syn, .hostMem, .tie, .int0, .host, .ctx, .descBad, .pools, .flash, .twin, .out], [.HST_ERR,
    .HST_SPILL, .HST_REQ_PTR, .HST_CPL_PTR, .SCH_DONE0, .SCH_DONE1, .CTX_ERR, .TWN_ERR, .TWN_HS_JSENT,
    .INT_LOG_STAT, .INT_LINE_CNT, .INT_POISON])
  | .modify .. =>
    ([.hostMem, .host, .sch, .out], [.HST_REQ_PTR, .HST_CPL_PTR])
  | .cancel .. =>
    ([.fresh, .mem, .syn, .hostMem, .tie, .int0, .til, .shf, .host, .ctx, .cows, .bnk, .pools, .fab, .flash, .cmp,
    .meter, .port, .twin, .stamp, .out], [.HST_ERR, .HST_SPILL, .HST_REQ_PTR, .HST_CPL_PTR, .HST_RX_PTR, .SCH_DONE0,
    .SCH_DONE1, .CTX_ERR, .CTX_WALK, .BNK_ERR, .FAB_ERR, .CMP_ERR, .TWN_ERR, .TWN_HS_JSENT, .INT_LOG_STAT,
    .INT_LINE_CNT, .INT_POISON])
  | .readLog .. =>
    ([.fresh, .mem, .syn, .hostMem, .tie, .int0, .host, .ctx, .descBad, .flash, .twin, .out], [.HST_ERR, .HST_SPILL,
    .HST_REQ_PTR, .HST_CPL_PTR, .SCH_DONE0, .SCH_DONE1, .CTX_ERR, .TWN_ERR, .TWN_HS_JSENT, .INT_LOG_STAT,
    .INT_LINE_CNT, .INT_POISON])
  | .requestDoorbell .. | .completionHeadDoorbell .. | .rxTailDoorbell .. =>
    ([.hostMem, .host, .out], [.HST_ERR, .HST_REQ_PTR, .HST_CPL_PTR, .HST_RX_PTR, .HST_TX_PTR])
  | .txTailDoorbell .. =>
    ([.host, .port, .out], [.HST_ERR, .HST_REQ_PTR, .HST_CPL_PTR, .HST_RX_PTR, .HST_TX_PTR])
  | .transmitFrameDone .. =>
    ([.hostMem, .host, .out], [])
  | .spillDrain .. =>
    ([.hostMem, .host, .out], [.HST_SPILL, .HST_CPL_PTR])
  | .coalesceTimer .. =>
    ([.host, .out], [])
  | .ringCtl .. =>
    ([.host, .port, .out], [.HST_ERR, .HST_REQ_CTL, .HST_REQ_PTR, .HST_CPL_CTL, .HST_CPL_PTR, .HST_RX_CTL,
    .HST_RX_PTR, .HST_TX_CTL, .HST_TX_PTR])
  | .flr .. =>
    ([.fresh, .mem, .syn, .hostMem, .tie, .int0, .til, .shf, .host, .sch, .ctx, .cows, .bnk, .pools, .fab, .flash,
    .cmp, .meter, .port, .twin, .stamp, .out], [.HST_ERR, .HST_SPILL, .HST_REQ_CTL, .HST_CPL_CTL, .HST_CPL_PTR,
    .HST_RX_CTL, .HST_RX_PTR, .HST_TX_CTL, .SCH_DONE0, .SCH_DONE1, .CTX_ERR, .CTX_WALK, .BNK_ERR, .FAB_ERR,
    .CMP_ERR, .TWN_ERR, .TWN_HS_JSENT, .INT_LOG_STAT, .INT_LINE_CNT, .INT_POISON])
  | .atsInvalidation .. | .getEndpointId | .getMessageTypeSupport | .getIdentity | .getHealth | .getThermal
  | .getPower | .bypass .. | .idcode | .samplePreload | .configurationRequest =>
    ([.out], [])
  | .setEndpointId .. =>
    ([.fresh, .out], [.HST_MCTP])
  | .getMctpVersionSupport =>
    ([.fresh, .out], [])
  | .setPowerLimit .. =>
    ([.fresh, .gov, .out], [])
  | .readReg .. =>
    ([.fresh, .regs, .isl, .til, .host, .out], [])
  | .secQuote .. =>
    ([.sec], [.GLB_STAT, .SEC_QUOTE])
  | .eraseMedia =>
    ([.fresh, .keys, .mem, .syn, .flash, .sec], [.FLS_STAT, .FLS_FORMAT, .FLS_ERR, .FLS_CH, .SEC_CMD_STAT])
  | .debugUnlock =>
    ([.fresh, .now, .gtime, .regs, .fuse, .pins, .keys, .isl, .gov, .age, .mem, .syn, .tie, .int0, .til, .shf,
    .host, .sch, .ctx, .descBad, .cows, .bnk, .pools, .fab, .rows, .flash, .lat, .cmp, .meter, .port, .twin, .start,
    .sec, .stamp, .out], [])
  | .extest .. =>
    ([.pins, .out], [])
  | .powerBrakeRelease =>
    ([.pins, .gov], [])
  | .quoteDone =>
    ([.fresh, .sec], [.SEC_QUOTE, .SEC_SIG])
  | .meterSnapshotDone =>
    ([], [.CMP_MTR_SNAP, .CMP_MTR_TIME, .CMP_MTR])
  | .auditEnd =>
    ([.mem, .syn, .tie, .int0, .host, .flash, .stamp, .out], [.INT_LOG_STAT, .INT_CMD_STAT])

end Sys2Proof.Machine
end

