-- ==== Sys2Proof/Certificates/Slice0/Obligations.lean ====
section
/-!
DEFINITION. The statements about the model.
-/

open Sys2Proof Sys2Proof.Machine

/-- A step of a state with `c` at the front of its queue is `exec c` on that state with the queue's rest (the queue is the
model's own, log entry 2). -/
def Obligations.StepRunsTheFrontCommand : Prop :=
  ∀ (s : State) (c : Instr) (r : List Instr), step { s with pending := c :: r } = exec c { s with pending := r }

/-- With an empty queue a step is one nanosecond: the time since reset release and the global time base, at its adjusted
rate, advance, and nothing else changes (R56, R433; that a step is one nanosecond is the model's choice, log entry 1). -/
def Obligations.EmptyQueueLetsTimePass : Prop :=
  ∀ s : State, s.pending = [] →
    step s = .next { s with now := s.now + 1, gtime := s.gtime + (1000000000 + sext 32 (fget s F.FAB_TIME_ADJ_RATE_PPB 0)).toNat }

/-- Every command answers a next state, and leaves the commands that wait as they are (the queue is the model's own, log
entry 2). -/
def Obligations.EveryCommandLeavesTheQueue : Prop :=
  ∀ (c : Instr) (s : State), ∃ u, exec c s = .next u ∧ u.pending = s.pending

/-- The state after reset meets the invariants that every step keeps, and its queue is empty. -/
def Obligations.ResetIsCanonicalWithReservedZero : Prop :=
  State.reset.Canon ∧ State.reset.ReservedZero ∧ State.reset.pending = []

/-- Reserved bits read 0 (R19): every step keeps them 0 in the register file, and a read of a register shows 0 in every bit
that belongs to no field. -/
def Obligations.ReservedBitsStayZero : Prop :=
  (∀ s u : State, s.ReservedZero → step s = .next u → u.ReservedZero) ∧
  ∀ (s : State) (r : Reg) (i j : Nat), (regView s r i).getLsbD j = true → r.mask.getLsbD j = true

/-- Every step keeps the canonical form of device memory, host memory, line checks and registers. -/
def Obligations.MemoriesStayCanonical : Prop :=
  ∀ s u : State, s.Canon → step s = .next u → u.Canon

/-- No step changes a fuse or a boot image, but that the debugged mark may be blown (R618, R661, R672; what writes the
images is outside the device, log entry 4). -/
def Obligations.FusesAndBootImagesArePermanent : Prop :=
  ∀ s u : State, step s = .next u →
    u.image0 = s.image0 ∧ u.image1 = s.image1 ∧ (u.fuse = s.fuse ∨ u.fuse = { s.fuse with debugged := true })

/-- Every command leaves what its write set does not name as it was: parts of the state, and registers. -/
def Obligations.EveryCommandChangesOnlyItsWriteSet : Prop :=
  ∀ (c : Instr) (s u : State), exec c s = .next u → s.changedIn (writeSet c).1 (writeSet c).2 u

/-- Scalar register arithmetic: rd holds the result the table gives, the pc moves on, and nothing else differs (R133 for a
divisor of 0; a result for s0 is discarded by `sset`, R129). -/
def Obligations.ScalarArithmeticResults : Prop :=
  ∀ (s : State) (t : Fin 512) (b : BitVec 54), issues (til s t) b → fRlow b = 0 → freeS (til s t) [fRD b, fRA b, fRB b] = true →
    let x := til s t
    let p := sreg x (fRA b)
    let q := sreg x (fRB b)
    let gives (c : Instr) (w : Word) : Prop := exec c s = .next (tput s t (advPc (sset x (fRD b) w)))
    (fPD b = 0 →
      gives (.addI64 t b) (p + q) ∧ gives (.subI64 t b) (p - q) ∧
      gives (.andI64 t b) (p &&& q) ∧ gives (.orI64 t b) (p ||| q) ∧ gives (.xorI64 t b) (p ^^^ q) ∧
      gives (.shlI64 t b) (p <<< (q.toNat % 64)) ∧ gives (.shrI64 t b) (p >>> (q.toNat % 64)) ∧
      gives (.sarI64 t b) (p.sshiftRight (q.toNat % 64)) ∧
      gives (.mulI64 t b) (p * q) ∧ gives (.mulhuI64 t b) (BitVec.ofNat 64 (p.toNat * q.toNat / 2 ^ 64)) ∧
      gives (.divuI64 t b) (if q = 0 then 0xFFFFFFFFFFFFFFFF else BitVec.ofNat 64 (p.toNat / q.toNat)) ∧
      gives (.remuI64 t b) (if q = 0 then p else BitVec.ofNat 64 (p.toNat % q.toNat)) ∧
      gives (.minI64 t b) (if p.toInt ≤ q.toInt then p else q) ∧ gives (.maxI64 t b) (if p.toInt ≤ q.toInt then q else p) ∧
      gives (.minuI64 t b) (if p.toNat ≤ q.toNat then p else q) ∧ gives (.maxuI64 t b) (if p.toNat ≤ q.toNat then q else p)) ∧
    (fPD b = 0 → fRB b = 0 →
      (∃ n, n ≤ 64 ∧ gives (.clzI64 t b) (BitVec.ofNat 64 n) ∧ p.toNat < 2 ^ (64 - n) ∧ (n < 64 → 2 ^ (63 - n) ≤ p.toNat)) ∧
      gives (.popcI64 t b) (BitVec.ofNat 64 ((List.range 64).filter (fun k => p.getLsbD k)).length)) ∧
    (freeP x [fPD b] = true → gives (.selI64 t b) (if bbit (preg x (fPD b)) 0 then p else q))

/-- Scalar immediates: rd holds the result the table gives, with IMM sign-extended, the pc moves on, nothing else differs. -/
def Obligations.ScalarImmediateResults : Prop :=
  ∀ (s : State) (t : Fin 512) (b : BitVec 54), issues (til s t) b → fRB b = 0 → fPD b = 0 → fI32 b = 0 →
    freeS (til s t) [fRD b, fRA b] = true →
    let x := til s t
    let p := sreg x (fRA b)
    let imm : Word := (BitVec.ofNat 32 (fIMM b)).signExtend 64
    let gives (c : Instr) (w : Word) : Prop := exec c s = .next (tput s t (advPc (sset x (fRD b) w)))
    gives (.addiI64 t b) (p + imm) ∧ gives (.andiI64 t b) (p &&& imm) ∧ gives (.oriI64 t b) (p ||| imm) ∧
    gives (.xoriI64 t b) (p ^^^ imm) ∧
    (fIMM b < 64 → gives (.shliI64 t b) (p <<< fIMM b) ∧ gives (.shriI64 t b) (p >>> fIMM b) ∧
      gives (.sariI64 t b) (p.sshiftRight (fIMM b))) ∧
    (fRA b = 0 → gives (.ldiI64 t b) imm ∧
      gives (.ldihI64 t b) (BitVec.ofNat 32 (fIMM b) ++ (sreg x (fRD b)).setWidth 32))

/-- Compares and predicate logic: what is written to p[PD], or by P.CNT to rd; nothing else differs (a write to p0 is
discarded by `pset`, R130). -/
def Obligations.ComparesAndPredicateLogic : Prop :=
  ∀ (s : State) (t : Fin 512) (b : BitVec 54), issues (til s t) b →
    freeS (til s t) [fRD b, fRA b, fRB b] = true → freeP (til s t) [fPD b, fRA b, fRB b] = true →
    let x := til s t
    let p := sreg x (fRA b)
    let q := sreg x (fRB b)
    let imm : Word := (BitVec.ofNat 32 (fIMM b)).signExtend 64
    let gives (c : Instr) (v : PReg) : Prop := exec c s = .next (tput s t (advPc (pset x (fPD b) v)))
    let all (h : Prop) (v : PReg) : Prop := (h → v = BitVec.allOnes 128) ∧ (¬h → v = 0)
    (fRD b = 0 → fRlow b = 0 →
      (∃ v, all (p = q) v ∧ gives (.cmpEq t b) v) ∧ (∃ v, all (p ≠ q) v ∧ gives (.cmpNe t b) v) ∧
      (∃ v, all (p.toInt < q.toInt) v ∧ gives (.cmpLt t b) v) ∧ (∃ v, all (p.toNat < q.toNat) v ∧ gives (.cmpLtu t b) v) ∧
      (∃ v, all (q.toInt ≤ p.toInt) v ∧ gives (.cmpGe t b) v) ∧ (∃ v, all (q.toNat ≤ p.toNat) v ∧ gives (.cmpGeu t b) v)) ∧
    (fRD b = 0 → fRB b = 0 → fI32 b = 0 →
      (∃ v, all (p = imm) v ∧ gives (.cmpiEq t b) v) ∧ (∃ v, all (p.toInt < imm.toInt) v ∧ gives (.cmpiLt t b) v) ∧
      (∃ v, all (imm.toInt ≤ p.toInt) v ∧ gives (.cmpiGe t b) v)) ∧
    (fRD b = 0 → fRlow b = 0 → fRA b < 8 → fRB b < 8 →
      gives (.pAnd t b) (preg x (fRA b) &&& preg x (fRB b)) ∧ gives (.pOr t b) (preg x (fRA b) ||| preg x (fRB b)) ∧
      gives (.pXor t b) (preg x (fRA b) ^^^ preg x (fRB b)) ∧ (fRB b = 0 → gives (.pNot t b) (~~~ preg x (fRA b)))) ∧
    (fRD b = 0 → fRA b = 0 → fI32 b = 0 → fIMM b = 0 →
      ∃ v : PReg, gives (.pMask t b) v ∧ ∀ k, k < 128 → (v.getLsbD k = true ↔ k < q.toNat)) ∧
    (fPD b = 0 → fRlow b = 0 → fRA b < 8 → fRB b = 0 →
      exec (.pCnt t b) s = .next (tput s t (advPc (sset x (fRD b)
        (BitVec.ofNat 64 ((List.range 128).filter (fun k => (preg x (fRA b)).getLsbD k)).length)))))

/-- A scalar load issues; the return of its data writes rd with the zero-extended bytes. -/
def Obligations.LoadsIssueAndDeliver : Prop :=
  (∀ (s : State) (t : Fin 512) (b : BitVec 54), issues (til s t) b → fRB b = 0 → fPD b = 0 → fI32 b = 0 →
    freeS (til s t) [fRD b, fRA b] = true →
    let x := til s t
    let a := (sreg x (fRA b) + fIMMs b).toNat
    let gives (c : Instr) (op n : Nat) : Prop :=
      a % n = 0 → (inLocal a n || inStore a n) = true → sramWait x.pend a n false = false →
        exec c s = .next (tput s t (pended x op b (.load (fRD b) n a)))
    gives (.ldU8 t b) 0x030 1 ∧ gives (.ldU16 t b) 0x031 2 ∧ gives (.ldU32 t b) 0x032 4 ∧ gives (.ld64 t b) 0x033 8) ∧
  ∀ (s : State) (t : Fin 512) (i rd n a : Nat), pendOp (til s t) i = some (.load rd n a) → tparity s t a n = false →
    exec (.loadDataReturn t i) s = .next (tput s t (sset { til s t with pend := (til s t).pend.eraseIdx i } rd
      (BitVec.ofNat 64 (ofBytes (tread s t a n)))))

/-- A scalar store: exactly its bytes change, in local SRAM or the sheaf store, and the pc moves on. -/
def Obligations.StoresWriteTheirBytes : Prop :=
  ∀ (s : State) (t : Fin 512) (b : BitVec 54), issues (til s t) b → fRB b = 0 → fPD b = 0 → fI32 b = 0 →
    freeS (til s t) [fRD b, fRA b] = true →
    let x := til s t
    let a := (sreg x (fRA b) + fIMMs b).toNat
    let stores (c : Instr) (n : Nat) : Prop :=
      a % n = 0 → (inLocal a n || inStore a n) = true → (inLocal a n = true → imageEnd x ≤ a) →
        sramWait x.pend a n true = false →
        ∃ u, exec c s = .next u ∧ stored s u t a (toBytes n (sreg x (fRD b)).toNat) { x with pc := x.pc + 8 }
    stores (.st8 t b) 1 ∧ stores (.st16 t b) 2 ∧ stores (.st32 t b) 4 ∧ stores (.st64 t b) 8

/-- Sheaf-store atomics: the new word stands in the store, rd holds the old word, and nothing else differs. -/
def Obligations.AtomicsExchangeAWord : Prop :=
  ∀ (s : State) (t : Fin 512) (b : BitVec 54), issues (til s t) b → fPD b = 0 → fI32 b = 0 →
    freeS (til s t) [fRD b, fRA b, fRB b] = true →
    let x := til s t
    let a := (sreg x (fRA b) + fIMMs b).toNat
    let old := BitVec.ofNat 64 (ofBytes (tread s t a 8))
    let rb := sreg x (fRB b)
    let rd := sreg x (fRD b)
    let leaves (c : Instr) (new : Word) : Prop :=
      ∃ u, exec c s = .next u ∧ stored s u t a (toBytes 8 new.toNat) (advPc (sset x (fRD b) old))
    a % 8 = 0 → inStore a 8 = true → tparity s t a 8 = false →
      leaves (.amoAdd t b) (old + rb) ∧ leaves (.amoSwap t b) rb ∧ leaves (.amoCas t b) (if old = rb then rd else old)

/-- R134: misaligned scalar accesses, atomics outside the sheaf store and stores into the image area raise ADDRESS. -/
def Obligations.BadScalarAddressesRaiseAddress : Prop :=
  ∀ (s : State) (t : Fin 512) (b : BitVec 54), issues (til s t) b → fPD b = 0 → fI32 b = 0 →
    freeS (til s t) [fRD b, fRA b, fRB b] = true →
    let x := til s t
    let a := (sreg x (fRA b) + fIMMs b).toNat
    let raises (c : Instr) (op : Nat) : Prop := exec c s = .next (trapped s t op b 2 (BitVec.ofNat 64 a))
    let waits (n : Nat) (w : Bool) : Prop := sramWait x.pend a n w = true
    (fRB b = 0 →
      (a % 2 ≠ 0 → ¬waits 2 false → raises (.ldU16 t b) 0x031) ∧ (a % 4 ≠ 0 → ¬waits 4 false → raises (.ldU32 t b) 0x032) ∧
      (a % 8 ≠ 0 → ¬waits 8 false → raises (.ld64 t b) 0x033) ∧
      (a % 2 ≠ 0 → ¬waits 2 true → raises (.st16 t b) 0x035) ∧ (a % 4 ≠ 0 → ¬waits 4 true → raises (.st32 t b) 0x036) ∧
      (a % 8 ≠ 0 → ¬waits 8 true → raises (.st64 t b) 0x037) ∧
      (a < imageEnd x →
        (inLocal a 1 = true → ¬waits 1 true → raises (.st8 t b) 0x034) ∧
        (inLocal a 2 = true → ¬waits 2 true → raises (.st16 t b) 0x035) ∧
        (inLocal a 4 = true → ¬waits 4 true → raises (.st32 t b) 0x036) ∧
        (inLocal a 8 = true → ¬waits 8 true → raises (.st64 t b) 0x037))) ∧
    (a % 8 ≠ 0 ∨ inStore a 8 = false → raises (.amoAdd t b) 0x038 ∧ raises (.amoSwap t b) 0x039 ∧ raises (.amoCas t b) 0x03A)

/-- Branches: the pc is the target when taken, else the next instruction; JAL links; nothing else differs. -/
def Obligations.BranchesGoToTheirTarget : Prop :=
  ∀ (s : State) (t : Fin 512) (b : BitVec 54), issues (til s t) b → fBres b = 0 →
    freeS (til s t) [fBRA b, fBRB b] = true → freeP (til s t) [fBPS b] = true →
    let x := til s t
    let p := sreg x (fBRA b)
    let q := sreg x (fBRB b)
    let target : Word := x.pc + BitVec.ofInt 64 (8 * (BitVec.ofNat 32 (fOFF b)).toInt)
    let goes (c : Instr) (y : Tiller) : Prop := exec c s = .next (tput s t y)
    let branches (c : Instr) (taken : Prop) : Prop :=
      (¬taken → goes c { x with pc := x.pc + 8 }) ∧ (taken → inCode x target.toNat = true → goes c { x with pc := target })
    (fBPS b = 0 →
      branches (.brEq t b) (p = q) ∧ branches (.brNe t b) (p ≠ q) ∧ branches (.brLt t b) (p.toInt < q.toInt) ∧
      branches (.brGe t b) (q.toInt ≤ p.toInt) ∧ branches (.brLtu t b) (p.toNat < q.toNat) ∧
      branches (.brGeu t b) (q.toNat ≤ p.toNat)) ∧
    (fBRA b = 0 → fBRB b = 0 → branches (.brP t b) ((preg x (fBPS b)).getLsbD 0 = true)) ∧
    (fBPS b = 0 → fBRB b = 0 →
      (fBRA b = 0 → inCode x target.toNat = true → goes (.jmp t b) { x with pc := target }) ∧
      (inCode x target.toNat = true → goes (.jal t b) { sset x (fBRA b) (x.pc + 8) with pc := target }) ∧
      (fOFF b = 0 → inCode x p.toNat = true → goes (.jr t b) { x with pc := p }))

/-- R136: a taken branch to a target that is no multiple of 8 or lies outside the code area raises ADDRESS on itself. -/
def Obligations.BadBranchTargetsRaiseAddress : Prop :=
  ∀ (s : State) (t : Fin 512) (b : BitVec 54) (g : Img), issues (til s t) b → fBres b = 0 → (til s t).img = some g →
    freeS (til s t) [fBRA b, fBRB b] = true → freeP (til s t) [fBPS b] = true →
    let x := til s t
    let p := sreg x (fBRA b)
    let q := sreg x (fBRB b)
    let target : Word := x.pc + BitVec.ofInt 64 (8 * (BitVec.ofNat 32 (fOFF b)).toInt)
    let bad (w : Word) : Prop := w.toNat % 8 ≠ 0 ∨ w.toNat < 64 ∨ 64 + g.codeLen ≤ w.toNat
    let raises (c : Instr) (op : Nat) (w : Word) : Prop := exec c s = .next (trapped s t op b 2 w)
    (bad target →
      (fBPS b = 0 →
        (p = q → raises (.brEq t b) 0x041 target) ∧ (p ≠ q → raises (.brNe t b) 0x042 target) ∧
        (p.toInt < q.toInt → raises (.brLt t b) 0x043 target) ∧ (q.toInt ≤ p.toInt → raises (.brGe t b) 0x044 target) ∧
        (p.toNat < q.toNat → raises (.brLtu t b) 0x045 target) ∧ (q.toNat ≤ p.toNat → raises (.brGeu t b) 0x046 target)) ∧
      (fBRA b = 0 → fBRB b = 0 → (preg x (fBPS b)).getLsbD 0 = true → raises (.brP t b) 0x047 target) ∧
      (fBPS b = 0 → fBRB b = 0 → (fBRA b = 0 → raises (.jmp t b) 0x048 target) ∧ raises (.jal t b) 0x049 target)) ∧
    (bad p → fBPS b = 0 → fBRB b = 0 → fOFF b = 0 → raises (.jr t b) 0x04A p)

/-- NOP and the SYNC instructions that wait for nothing else only move the pc on; SYS.ID writes rd. -/
def Obligations.SystemInstructionsComplete : Prop :=
  ∀ (s : State) (t : Fin 512) (b : BitVec 54), issues (til s t) b →
    let x := til s t
    let passes (c : Instr) : Prop := exec c s = .next (tput s t { x with pc := x.pc + 8 })
    (bget b 0 51 = 0 → passes (.nop t b)) ∧
    (fXRD b = 0 → fXRB b = 0 → fXRC b = 0 → fXPD b = 0 →
      (fXIMM b = 0 → awaitS x (fXRA b) = false → passes (.syncReg t b)) ∧
      (fXRA b = 0 →
        (fXIMM b < 8 → (∀ p ∈ x.pend, ¬(fXIMM b % 2 = 1 ∧ p.op.inStore = true) ∧ ¬(fXIMM b / 2 % 2 = 1 ∧ p.op.inDevice = true) ∧
          ¬(fXIMM b / 4 % 2 = 1 ∧ p.op.movLocal = true)) → passes (.syncFence t b)) ∧
        (fXIMM b < 8 → (x.pend.filter (fun p => p.op.isArray)).length ≤ fXIMM b → passes (.syncArr t b)) ∧
        (fXIMM b < 32 → (x.pend.filter (fun p => p.op.isMov)).length ≤ fXIMM b → passes (.syncMov t b)))) ∧
    (fXRA b = 0 → fXRB b = 0 → fXRC b = 0 → fXPD b = 0 → awaitS x (fXRD b) = false →
      let gives (w : Word) : Prop := exec (.sysId t b) s = .next (tput s t (advPc (sset x (fXRD b) w)))
      (fXIMM b = 0 → gives (rword s .TIL_ID t)) ∧ (fXIMM b = 1 → gives (BitVec.ofNat 64 (tcyc s t / 1000))) ∧
      (fXIMM b = 2 → gives (BitVec.ofNat 64 (timeNs s))) ∧ (fXIMM b = 3 → gives (rword s .TIL_FPSTAT t)))

/-- Barriers (R159), pushes (R111) and the end of an item (R160): what each leaves of the tillers. -/
def Obligations.BarriersPushesAndItemEnd : Prop :=
  (∀ (s : State) (t : Fin 512) (b : BitVec 54), issues (til s t) b → fXRD b = 0 → fXRC b = 0 → fXPD b = 0 → fXIMM b = 0 →
    freeS (til s t) [fXRA b, fXRB b] = true →
    let x := til s t
    let n := (sreg x (fXRA b)).toNat
    let c := (sreg x (fXRB b)).toNat
    let bar := nget (fun _ => {}) (shf s (sheafOf t)).bars n
    let need := if bar.arrived = [] then c else bar.need
    let item : ItemBits := BitVec.ofNat 128 (n + c * 2 ^ 64)
    (n ≤ 15 → 2 ≤ c → c ≤ 16 →
      (bar.arrived.length + 1 < need → ∃ u, exec (.syncBar t b) s = .next u ∧
        til u t = { x with pc := x.pc + 8, atBar := some n } ∧ (∀ k : Nat, k ≠ t → til u k = til s k) ∧
        nget (fun _ => {}) (shf u (sheafOf t)).bars n = { need := need, arrived := bar.arrived ++ [t.val] }) ∧
      (need ≤ bar.arrived.length + 1 → ∃ u, exec (.syncBar t b) s = .next u ∧
        til u t = { x with pc := x.pc + 8 } ∧ nget (fun _ => {}) (shf u (sheafOf t)).bars n = {} ∧
        (∀ k ∈ bar.arrived, (til s k).atBar = some n → k ≠ t.val → til u k = { til s k with atBar := none }) ∧
        ∀ k : Nat, k ∉ bar.arrived → k ≠ t → til u k = til s k)) ∧
    (itScope item ≠ 3 → itRes item = 0 → ∀ w : Work, x.item = some w →
      (islState s t ≠ 3 → x.deque.length < 64 → ∃ u, exec (.wiPush t b) s = .next u ∧
        til u t = { x with pc := x.pc + 8, deque := { w with bits := item } :: x.deque } ∧ (∀ k : Nat, k ≠ t → til u k = til s k)) ∧
      (64 ≤ x.deque.length → 1024 ≤ (shf s (sheafOf t)).ovf.length → ∃ u, exec (.wiPush t b) s = .next u ∧
        til u t = { x with pc := x.pc + 8, pushing := some { w with bits := item } }))) ∧
  (∀ (s : State) (t : Fin 512) (w : Work), (til s t).pushing = some w → islState s t ≠ 3 → (til s t).deque.length < 64 →
    exec (.pushStallDone t) s = .next (tput s t { til s t with deque := w :: (til s t).deque, pushing := none })) ∧
  ∀ (s : State) (t : Fin 512) (b : BitVec 54), issues (til s t) b → fXRD b = 0 → fXRB b = 0 → fXRC b = 0 → fXPD b = 0 →
    fXIMM b = 0 → (til s t).pend = [] → ∃ u, exec (.wiEnd t b) s = .next u ∧
      til u t = freed { til s t with pc := (til s t).pc + 8 } (tcyc s t) ∧ ∀ k : Nat, k ≠ t → til u k = til s k

/-- Exceptions (R166, R167): what records one, and what its delivery leaves of the tiller. -/
def Obligations.ExceptionsAreRecordedAndDelivered : Prop :=
  (∀ (s : State) (t : Fin 512) (b : BitVec 54), issues (til s t) b → fXRD b = 0 → fXRA b = 0 → fXRB b = 0 → fXRC b = 0 →
    fXPD b = 0 → fXIMM b < 65536 →
    exec (.sysTrap t b) s = .next (trapped s t 0x3E2 b 5 (BitVec.ofNat 64 (fXIMM b)))) ∧
  (∀ (s : State) (t : Fin 512) (w : Word), canIssue (til s t) = true → listedOp (bget w 54 10) = false →
    exec (.illegalInstruction t w) s = .next (tput s t { til s t with
      exc := some { code := 1, precise := true, pc := (til s t).pc, instr := w, addr := 0, time := timeNs s,
                    n := (til s t).seq, cyc := tcyc s t / 1000 } })) ∧
  (∀ (s : State) (t : Fin 512) (g : Img), (til s t).img = some g → (til s t).item.isSome = true → (til s t).exc = none →
    (til s t).atBar = none → (til s t).pushing = none → 64 + g.codeLen ≤ (til s t).pc.toNat →
    exec (.codeEndReached t) s = .next (tput s t { til s t with
      exc := some { code := 2, precise := true, pc := (til s t).pc, instr := 0, addr := (til s t).pc, time := timeNs s,
                    cyc := tcyc s t / 1000 } })) ∧
  (∀ (s : State) (t : Fin 512), (til s t).item.isSome = true → (til s t).late = false → (til s t).exc = none →
    fget s F.SCH_ITEM_LIMIT_LIMIT 0 ≠ 0 →
    fget s F.SCH_ITEM_LIMIT_LIMIT 0 * 1000 ≤ tcyc s t - (til s t).itemCyc →
    exec (.itemTimeout t) s = .next (tput s t { til s t with
      late := true
      atBar := none
      exc := some { code := 6, precise := false, pc := (til s t).pc, instr := 0, addr := 0, time := timeNs s,
                    n := (til s t).seq, cyc := tcyc s t / 1000 } })) ∧
  ∀ (s : State) (t : Fin 512) (e : Exc) (w : Work), (til s t).exc = some e → (til s t).item = some w → (til s t).pend = [] →
    (til s t).pushing = none → (til s t).atBar = none →
    ∃ u, exec (.exceptionDelivery t) s = .next u ∧ u = itemEnd (logRecord s none (excRecord t (til s t) e w)) t 0 e.code ∧
      til u t = freed (til s t) (tcyc s t) ∧
      ∀ k : Nat, k ≠ t → til u k = til s k

/-- Placing, taking and stealing work items (R110, R112, R113). The victim is a free choice among the peers that have an item
the thief may take. -/
def Obligations.ItemsArePlacedTakenAndStolen : Prop :=
  (∀ (s : State) (h : Fin 32) (w : Work) (r : List Work) (j : Nat), j ∈ sheafTillers h → running s j = true →
    (til s j).deque.length < 64 →
    let best (k : Nat) : Prop := k ∈ sheafTillers h ∧ running s k = true ∧ (til s k).deque.length < 64 ∧
      ∀ u ∈ sheafTillers h, running s u = true → (til s u).deque.length < 64 →
        (til s k).deque.length < (til s u).deque.length ∨ ((til s k).deque.length = (til s u).deque.length ∧ k ≤ u)
    ((shf s h).inbox = w :: r → (shf s h).held = [] → ∃ k, best k ∧ exec (.itemDispatch h) s =
      .next (tput (shput s h { shf s h with inbox := r }) k { til s k with deque := w :: (til s k).deque })) ∧
    ((shf s h).held = w :: r → ∃ k, best k ∧ exec (.dispatchHeldPlace h) s =
      .next (shput (tput s k { til s k with deque := w :: (til s k).deque }) h { shf s h with held := r }))) ∧
  (∀ (s : State) (h : Fin 32) (w : Work) (r : List Work), (shf s h).inbox = w :: r → (shf s h).held ≠ [] →
    exec (.itemDispatch h) s = .next (shput s h { shf s h with inbox := r, held := (shf s h).held ++ [w] })) ∧
  (∀ (s : State) (t : Fin 512), looking s t = true → (til s t).deque.any (mayRun s t) = true →
    ∃ a w b, (til s t).deque = a ++ w :: b ∧ mayRun s t w = true ∧ (∀ y ∈ a, mayRun s t y = false) ∧
      (imageHeld s t w = true →
        exec (.itemTake t) s = .next (tput s t { til s t with deque := a ++ b, taken := some w, search := 0 }))) ∧
  ∀ (s : State) (t : Fin 512), looking s t = true → (til s t).search = 3 → victims s t (sheafOf t) ≠ [] →
    ∃ v ∈ victims s t (sheafOf t), ∃ a w b, (til s v).deque = a ++ w :: b ∧ thiefMay s t (sheafOf t) w = true ∧
      (∀ y ∈ b, thiefMay s t (sheafOf t) y = false) ∧
      (imageHeld s t w = true → ∃ u, exec (.steal t) s = .next u ∧ til u v = { til s v with deque := a ++ b } ∧
        til u t = { til s t with taken := some w, search := 0 } ∧ ∀ k : Nat, k ≠ v → k ≠ t → til u k = til s k)

/-- The start of an item (R109, R161, R165) and the end of an image load (R162, R163). -/
def Obligations.ItemsStartWithTheirBitsInS1AndS2 : Prop :=
  (∀ (s : State) (t : Fin 512) (w : Work), (til s t).taken = some w → running s t = true → mayRun s t w = true →
    imageHeld s t w = true → (til s t).item = none → (til s t).exc = none →
    let entry := bget w.bits 32 32
    ∃ u, exec (.itemStart t) s = .next u ∧ (til u t).item = some w ∧ (til u t).taken = none ∧
      sreg (til u t) 1 = BitVec.ofNat 64 (bget w.bits 0 64) ∧ sreg (til u t) 2 = BitVec.ofNat 64 (bget w.bits 64 64) ∧
      (∀ r, r ≠ 1 → r ≠ 2 → sreg (til u t) r = 0) ∧ (∀ r, vreg (til u t) r = 0) ∧ (∀ r, r ≠ 0 → preg (til u t) r = 0) ∧
      (∀ r, areg (til u t) r = areg (til s t) r) ∧ (∀ a n, localBytes (til u t) a n = localBytes (til s t) a n) ∧
      (til u t).pc = BitVec.ofNat 64 entry ∧ (til u t).pend = [] ∧
      (til u t).exc = (if inCode (til s t) entry then none else some
        { code := 2, precise := true, pc := BitVec.ofNat 64 entry, instr := 0, addr := BitVec.ofNat 64 entry, time := timeNs s,
          cyc := tcyc s t / 1000 }) ∧
      ∀ k : Nat, k ≠ t → til u k = til s k) ∧
  ∀ (s : State) (t : Fin 512) (a n : Nat), (til s t).loading = some (a, n) →
    let code := memNat s (a + 8) 4
    let data := memNat s (a + 12) 4
    let len := roundUp (64 + code + data) 64
    badLineIn s a (min len 262144) = none → headerOk s a = true →
    exec (.imageLoad t) s = .next (tput s t { localWrite (til s t) 0 (memBytes s a len) with
      img := some { home := a, codeLen := code, dataLen := data, id := BitVec.ofNat 64 (memNat s (a + 16) 8) }, loading := none
      noImg := nerase (til s t).noImg (til s t).loadFor.1 })

/-- Vector arithmetic, lane by lane (an I32 result outside its range is free, log entry 12). -/
def Obligations.VectorLanesHoldTheirResults : Prop :=
  ∀ (s : State) (t : Fin 512) (b : BitVec 54), vissues (til s t) b → fVres b = 0 →
    freeV (til s t) [fVD b, fVA b, fVB b, fVC b] = true → freeS (til s t) [fVRS b] = true → freeP (til s t) [fVPD b] = true →
    let x := til s t
    let p (k : Nat) : Nat := laneN (vreg x (fVA b)) k
    let q (k : Nat) : Nat := laneN (vreg x (fVB b)) k
    let gives (c : Instr) (f : Nat → LaneRes) : Prop := ∃ u, exec c s = .next u ∧ laneEffect s u t b f
    -- the exact I32 result `i k` where it lies in the range; elsewhere the word is free
    let givesI (c : Instr) (i : Nat → Int) : Prop := ∃ f : Nat → LaneRes, gives c f ∧
      ∀ k, (f k).2 = 0 ∧ (-(2 ^ 31) ≤ i k → i k < 2 ^ 31 → ((f k).1 : Int) = i k % 2 ^ 32)
    (fVC b = 0 → fVPD b = 0 → fVIMM b = 0 →
      (fVRS b = 0 → fTYPE b = 0 →
        gives (.vadd t b) (fun k => fadd fmtF32 (p k) (q k)) ∧ gives (.vsub t b) (fun k => fsub fmtF32 (p k) (q k)) ∧
        gives (.vmul t b) (fun k => fmul fmtF32 (p k) (q k)) ∧ gives (.vmax t b) (fun k => fmax fmtF32 (p k) (q k)) ∧
        gives (.vmin t b) (fun k => fmin fmtF32 (p k) (q k))) ∧
      (fVRS b = 0 → fTYPE b = 1 →
        gives (.vadd t b) (fun k => pair16 (fadd fmtBf16) (p k) (q k)) ∧ gives (.vsub t b) (fun k => pair16 (fsub fmtBf16) (p k) (q k)) ∧
        gives (.vmul t b) (fun k => pair16 (fmul fmtBf16) (p k) (q k)) ∧ gives (.vmax t b) (fun k => pair16 (fmax fmtBf16) (p k) (q k)) ∧
        gives (.vmin t b) (fun k => pair16 (fmin fmtBf16) (p k) (q k))) ∧
      (fVRS b = 0 → fTYPE b = 9 →
        givesI (.vadd t b) (fun k => sext 32 (p k) + sext 32 (q k)) ∧ givesI (.vsub t b) (fun k => sext 32 (p k) - sext 32 (q k)) ∧
        gives (.vmul t b) (fun k => (p k * q k % 2 ^ 32, 0)) ∧
        gives (.vmax t b) (fun k => (if sext 32 (p k) < sext 32 (q k) then q k else p k, 0)) ∧
        gives (.vmin t b) (fun k => (if sext 32 (q k) < sext 32 (p k) then q k else p k, 0)) ∧
        gives (.vand t b) (fun k => (Nat.land (p k) (q k), 0)) ∧ gives (.vor t b) (fun k => (Nat.lor (p k) (q k), 0)) ∧
        gives (.vxor t b) (fun k => (Nat.xor (p k) (q k), 0))) ∧
      (fVB b = 0 → fVRS b = 0 →
        (fTYPE b = 0 → gives (.vabs t b) (fun k => (p k % 2 ^ 31, 0)) ∧ gives (.vneg t b) (fun k => (Nat.xor (p k) 0x80000000, 0))) ∧
        (fTYPE b = 1 → gives (.vneg t b) (fun k => (Nat.xor (p k) 0x80008000, 0)) ∧
          gives (.vabs t b) (fun k => (p k / 65536 % 2 ^ 15 * 65536 + p k % 2 ^ 15, 0))) ∧
        (fTYPE b = 9 → givesI (.vabs t b) (fun k => (sext 32 (p k)).natAbs) ∧ givesI (.vneg t b) (fun k => -(sext 32 (p k))))) ∧
      (fVB b = 0 → fTYPE b = 9 →
        gives (.vshl t b) (fun k => (p k * 2 ^ ((sreg x (fVRS b)).toNat % 32) % 2 ^ 32, 0)) ∧
        gives (.vshr t b) (fun k => (p k / 2 ^ ((sreg x (fVRS b)).toNat % 32), 0))) ∧
      (fVA b = 0 → fVB b = 0 → fTYPE b = 0 ∨ fTYPE b = 9 → gives (.vbcast t b) (fun _ => ((sreg x (fVRS b)).toNat % 2 ^ 32, 0))) ∧
      (fVB b = 0 → fTYPE b = 0 ∨ fTYPE b = 9 →
        gives (.vlane t b) (fun _ => (laneN (vreg x (fVA b)) ((sreg x (fVRS b)).toNat % 128), 0))) ∧
      (fVRS b = 0 → fTYPE b = 0 ∨ fTYPE b = 9 → gives (.vperm t b) (fun k => (laneN (vreg x (fVA b)) (q k % 128), 0))) ∧
      (fVA b = 0 → fVB b = 0 → fTYPE b = 9 → givesI (.viota t b) (fun k => sext 32 ((sreg x (fVRS b)).toNat % 2 ^ 32) + k))) ∧
    (fVPD b = 0 → fVRS b = 0 → fVIMM b = 0 →
      (fTYPE b = 0 → gives (.vfma t b) (fun k => ffma fmtF32 (p k) (q k) (laneN (vreg x (fVC b)) k))) ∧
      (fTYPE b = 1 → gives (.vfma t b) (fun k => tri16 (ffma fmtBf16) (p k) (q k) (laneN (vreg x (fVC b)) k)))) ∧
    (fVC b = 0 → fVRS b = 0 → fVIMM b = 0 → fTYPE b ≤ 9 →
      gives (.vsel t b) (fun k => (if bbit (preg x (fVPD b)) k then p k else q k, 0)))

/-- Vector compares, conversions, functions, reductions, draws and quantisers (the choice that R95 leaves is free, log entry 7). -/
def Obligations.VectorFunctionsAndReductions : Prop :=
  ∀ (s : State) (t : Fin 512) (b : BitVec 54), vissues (til s t) b → fVres b = 0 → fVC b = 0 →
    freeV (til s t) [fVD b, fVA b, fVB b] = true → freeS (til s t) [fVRS b, fVRS b + 1] = true → freeP (til s t) [fVPD b] = true →
    let x := til s t
    let g := preg x (guardOf b)
    let p (k : Nat) : Nat := laneN (vreg x (fVA b)) k
    let q (k : Nat) : Nat := laneN (vreg x (fVB b)) k
    let ty := fTYPE b
    let imm := fVIMM b
    let gives (c : Instr) (f : Nat → LaneRes) : Prop := ∃ u, exec c s = .next u ∧ laneEffect s u t b f
    (fVB b = 0 → fVPD b = 0 → fVRS b = 0 → imm = 0 → ty = 0 →
      gives (.vexp t b) (fun k => expLane (p k)) ∧ gives (.vln t b) (fun k => lnLane (p k)) ∧ gives (.vrcp t b) (fun k => rcpLane (p k))) ∧
    (fVB b = 0 → fVPD b = 0 → imm < 16 → fVRS b % 2 = 0 → ty = 0 →
      gives (.vrng t b) (fun k => (rngDraw (sreg x (fVRS b)) (rngCounter (sreg x (fVRS b + 1)).toNat imm (p k)), 0))) ∧
    (fVPD b = 0 → fVRS b = 0 → kv4Legal imm = true → ty = 0 → gives (.vkv4d t b) (fun k => if kv4Count (imm / 8 % 4) ≤ k then (0, 0)
      else kv4Decode fmtF32 (bget (vreg x (fVA b)) (4 * (k / 2)) 4) k (fval fmtF32 (q k)))) ∧
    (fVA b = 0 → fVB b = 0 → fVPD b = 0 → fVRS b = 0 → imm < 32 → awaitAcc x (imm % 4) = false → ty = 0 →
      gives (.vldacc t b) (fun k => (bget (areg x (imm % 4)) (32 * (128 * (imm / 4) + k)) 32, 0))) ∧
    (fVD b = 0 → fVRS b = 0 → imm = 0 → ty = 0 ∨ ty = 9 →
      let nan (k : Nat) : Bool := ty == 0 && (fisNan fmtF32 (p k) || fisNan fmtF32 (q k))
      let a (k : Nat) : Int := if ty = 0 then fkey fmtF32 (p k) else sext 32 (p k)
      let c (k : Nat) : Int := if ty = 0 then fkey fmtF32 (q k) else sext 32 (q k)
      let compares (i : Instr) (r : Int → Int → Prop) : Prop := ∃ v : PReg, exec i s = .next (fpFlags (tput s t (advPc (pset x (fVPD b) v))) t
          (if (List.range 128).any (fun k => bbit g k && nan k) then flNANIN else 0)) ∧
        ∀ k, k < 128 → (v.getLsbD k = true ↔ bbit g k = true ∧ nan k = false ∧ r (a k) (c k))
      compares (.vcmpEq t b) (· = ·) ∧ compares (.vcmpLt t b) (· < ·) ∧ compares (.vcmpLe t b) (· ≤ ·)) ∧
    (fVD b = 0 → fVB b = 0 → fVPD b = 0 → imm = 0 → ty = 0 ∨ ty = 9 →
      let reduces (i : Instr) (ident : Nat) (f : Nat → Nat → LaneRes) : Prop :=
        let xs := (List.range 128).map (fun k => if bbit g k then p k else ident)
        let r := tree f 7 xs 0
        exec i s = .next (fpFlags (tput s t (advPc (sset x (fVRS b) (BitVec.ofNat 64 r.1)))) t
          (if ty == 0 && xs.any (fisNan fmtF32) then r.2 else r.2 % flNANIN))
      reduces (.vrsum t b) 0 (fun y z => if ty = 0 then fadd fmtF32 y z else i32Res 0x0A8 y z (sext 32 y + sext 32 z)) ∧
      reduces (.vrmax t b) (if ty = 0 then 0xFF800000 else 0x80000000)
        (fun y z => if ty = 0 then fmax fmtF32 y z else (if sext 32 y < sext 32 z then z else y, 0))) ∧
    (fVB b = 0 → fVPD b = 0 → fVRS b = 0 → imm < 64 → cvtWidth (imm % 16) ≠ 0 → cvtWidth ty ≠ 0 →
      ¬(cvtWidth (imm % 16) = 4 ∧ cvtWidth ty = 4 ∧ imm / 32 % 2 = 1) →
      let sw := cvtWidth (imm % 16)
      let dw := cvtWidth ty
      let half := imm / 32 % 2
      -- the element of VA that lane `k` reads, the one of VD that it writes, and what it converts to
      let reads (k : Nat) : Nat := if sw < dw ∨ (sw = 2 ∧ dw = 2) then 128 * half + k else k
      let writes (k : Nat) : Nat := if sw < dw ∨ dw = 4 then k else 128 * half + k
      let res (k : Nat) : LaneRes := cvtElem (imm % 16) ty (imm / 16 % 2 == 0) (bget (vreg x (fVA b)) (8 * sw * reads k) (8 * sw))
      ∃ v : VReg, exec (.vcvt t b) s = .next (fpFlags (tput s t (advPc (vset x (fVD b) v))) t (laneFlags g res)) ∧
        (∀ k, k < 128 → bget v (8 * (dw * writes k)) (8 * dw) =
          if bbit g k then (res k).1 % 2 ^ (8 * dw) else bget (vreg x (fVD b)) (8 * (dw * writes k)) (8 * dw)) ∧
        ∀ n, n < 512 → n < dw * writes 0 ∨ dw * (writes 0 + 128) ≤ n →
          bget v (8 * n) 8 = if half = 1 ∧ ¬sw < dw then bget (vreg x (fVD b)) (8 * n) 8 else 0) ∧
    (fVB b = 0 → fVPD b = 0 → imm = 0 → ty = 5 ∨ ty = 6 ∨ ty = 7 ∨ ty = 8 →
      let block (i : Nat) := quantBlock ty ((List.range 32).map (fun k => p (32 * i + k)))
      let codes : List LaneRes := (block 0).1 ++ (block 1).1 ++ (block 2).1 ++ (block 3).1
      let elems (i : Nat) : Nat := packElems (mxBits ty) ((block i).1.map (·.1)) * 2 ^ (8 * (4 * mxBits ty) * i)
      let packed : VReg := BitVec.ofNat 4096 (elems 0 + elems 1 + elems 2 + elems 3)
      ∃ v : VReg, exec (.vqmx t b) s = .next (fpFlags (tput s t (advPc (sset (vset x (fVD b) v) (fVRS b)
          (BitVec.ofNat 64 ((block 0).2 + (block 1).2 * 2 ^ 8 + (block 2).2 * 2 ^ 16 + (block 3).2 * 2 ^ 24))))) t
          (laneFlags g (fun k => codes.getD k (0, 0)))) ∧
        ∀ k, k < 128 → laneN v k = if bbit g k then laneN packed k else laneN (vreg x (fVD b)) k) ∧
    (kv4Legal imm = true → ty = 0 → g ≠ 0 →
      let n := kv4Count (imm / 8 % 4)
      let sv (k : Nat) : Nat := fdiv32 (p k) (q k)
      let outs := kv4Pick (fun k => bbit g k && kv4Far (sv k)) (List.range n) (min (4 - imm % 8) (112 - (sreg x (fVRS b)).toNat))
      exec (.vkv4e t b) s = .next (fpFlags (tput s t (advPc (pset (vset x (fVD b) (BitVec.ofNat 4096
          ((List.range (n / 2)).foldl (fun a j => a + kv4Code (sv (2 * j)) (sv (2 * j + 1)) * 16 ^ j) 0)))
        (fVPD b) (pmake (fun k => outs.contains k))))) t
        (if (List.range n).any (fun k => bbit g k && (fisNan fmtF32 (p k) || fisNan fmtF32 (q k))) then flNANIN else 0)))

/-- Vector memory: VLD and VLD.B32 issue and deliver, VST stores exactly the active lanes. -/
def Obligations.VectorMemory : Prop :=
  (∀ (s : State) (t : Fin 512) (b : BitVec 54), vissues (til s t) b → fTYPE b = 0 → fVres b = 0 → fVB b = 0 → fVC b = 0 → fVPD b = 0 →
    freeV (til s t) [fVD b, fVA b] = true → freeS (til s t) [fVRS b] = true →
    let x := til s t
    let g := preg x (guardOf b)
    let a (m : Int) : Nat := (sreg x (fVRS b) + BitVec.ofInt 64 (m * sext 16 (fVIMM b))).toNat
    g ≠ 0 →
      (fVA b = 0 → a 64 % 64 = 0 → (inLocal (a 64) 512 || inStore (a 64) 512) = true → sramWait x.pend (a 64) 512 false = false →
        exec (.vld t b) s = .next (tput s t (pended x 0x0C1 b (.vload (fVD b) g (a 64))))) ∧
      (fVA b = 0 → a 4 % 4 = 0 → (inLocal (a 4) 4 || inStore (a 4) 4) = true → sramWait x.pend (a 4) 4 false = false →
        exec (.vldB32 t b) s = .next (tput s t (pended x 0x0C3 b (.vword (fVD b) g (a 4))))) ∧
      (fVD b = 0 → a 64 % 64 = 0 → (inLocal (a 64) 512 || inStore (a 64) 512) = true → (inLocal (a 64) 512 = true → imageEnd x ≤ a 64) →
        sramWait x.pend (a 64) 512 true = false →
        ∃ u, exec (.vst t b) s = .next u ∧ stored s u t (a 64) ((List.range 128).flatMap (fun k =>
          if bbit g k then toBytes 4 (laneN (vreg x (fVA b)) k) else tread s t (a 64 + 4 * k) 4)) { x with pc := x.pc + 8 })) ∧
  (∀ (s : State) (t : Fin 512) (i vd a : Nat) (g : PReg), pendOp (til s t) i = some (.vload vd g a) →
    (∀ k, k < 128 → bbit g k = true → tparity s t (a + 4 * k) 4 = false) →
    ∃ v : VReg, exec (.loadDataReturn t i) s = .next (tput s t (vset { til s t with pend := (til s t).pend.eraseIdx i } vd v)) ∧
      ∀ k, k < 128 → laneN v k = if bbit g k then bits (ofBytes (tread s t a 512) % 2 ^ 4096) (32 * k) 32 else laneN (vreg (til s t) vd) k) ∧
  ∀ (s : State) (t : Fin 512) (i vd a : Nat) (g : PReg), pendOp (til s t) i = some (.vword vd g a) → tparity s t a 4 = false →
    ∃ v : VReg, exec (.loadDataReturn t i) s = .next (tput s t (vset { til s t with pend := (til s t).pend.eraseIdx i } vd v)) ∧
      ∀ k, k < 128 → laneN v k = if bbit g k then ofBytes (tread s t a 4) % 2 ^ 32 else laneN (vreg (til s t) vd) k

/-- Array instructions: their issue, and what their completion leaves in the tile, element by element. -/
def Obligations.ArrayInstructionsAccumulateBlocks : Prop :=
  (∀ (s : State) (t : Fin 512) (b : BitVec 54), issues (til s t) b →
    let x := til s t
    let at' (r : Nat) : Nat := (sreg x r).toNat
    (bget b 0 49 = 0 → accBusy x (fACC b) = false → exec (.accClr t b) s = .next (tput s t (advPc (aset x (fACC b) 0)))) ∧
    (bget b 0 44 = 0 → freeS x [fARA b] = true → at' (fARA b) % 64 = 0 → inLocal (at' (fARA b)) 4096 = true →
      (accBusy x (fACC b) = false → sramWait x.pend (at' (fARA b)) 4096 false = false →
        exec (.accLd t b) s = .next (tput s t (pended x 0x103 b (.accLoad (fACC b) (at' (fARA b)))))) ∧
      (awaitAcc x (fACC b) = false → sramWait x.pend (at' (fARA b)) 4096 true = false → imageEnd x ≤ at' (fARA b) →
        exec (.accSt t b) s = .next (tput s t (pended x 0x104 b (.accStore (fACC b) (at' (fARA b))))))) ∧
    (pairOk (fTA b) (fTB b) = true → fAres b = 0 → isMx (fTA b) = true ∨ fARS b = 0 → freeS x [fARA b, fARB b, fARS b] = true →
      accBusy x (fACC b) = false →
      let nb := fNBM1 b + 1
      let na := nb * 32 * runBytes (fTA b)
      let nc := nb * 32 * runBytes (fTB b)
      at' (fARA b) % 64 = 0 → inLocal (at' (fARA b)) na = true → sramWait x.pend (at' (fARA b)) na false = false →
      at' (fARB b) % 64 = 0 → inLocal (at' (fARB b)) nc = true → sramWait x.pend (at' (fARB b)) nc false = false →
      (isMx (fTA b) = true → at' (fARS b) % 64 = 0 ∧ inLocal (at' (fARS b)) (64 * nb) = true ∧ sramWait x.pend (at' (fARS b)) (64 * nb) false = false) →
      exec (.mmaTile t b) s = .next (tput s t (pended x 0x101 b
        (.mma (fACC b) (at' (fARA b)) (at' (fARB b)) (if isMx (fTA b) then at' (fARS b) else 0) (fTA b) (fTB b) (fZERO b == 1) nb))))) ∧
  (∀ (s : State) (t : Fin 512) (i acc a : Nat),
    (pendOp (til s t) i = some (.accStore acc a) → exec (.arrayComplete t i) s = .next (tput s t
      (localWrite { til s t with pend := (til s t).pend.eraseIdx i } a (toBytes 4096 (areg (til s t) acc).toNat)))) ∧
    (pendOp (til s t) i = some (.accLoad acc a) → tparity s t a 4096 = false → exec (.loadDataReturn t i) s = .next (tput s t
      (aset { til s t with pend := (til s t).pend.eraseIdx i } acc (BitVec.ofNat 32768 (ofBytes (tread s t a 4096))))))) ∧
  ∀ (s : State) (t : Fin 512) (n acc ra rb rs ta tb nb : Nat) (zero : Bool),
    pendOp (til s t) n = some (.mma acc ra rb rs ta tb zero nb) →
    let x := til s t
    parityBad x.bad ra (nb * 32 * runBytes ta) = false → parityBad x.bad rb (nb * 32 * runBytes tb) = false →
    (isMx ta = true → parityBad x.bad rs (64 * nb) = false) →
    let row (k i : Nat) := runVals x ta (ra + k * 32 * runBytes ta + i * runBytes ta)
    let col (k j : Nat) := runVals x tb (rb + k * 32 * runBytes tb + j * runBytes tb)
    let scale (k i j : Nat) := scaleSum (scaleAt x (isMx ta) (rs + 32 * k + i)) (scaleAt x (isMx ta) (rs + 32 * nb + 32 * k + j))
    let old (i j : Nat) : Nat := if zero then 0 else bget (areg x acc) (32 * (32 * i + j)) 32
    ∃ (y : Tiller) (fl : Nat), exec (.arrayComplete t n) s = .next (fpFlags (tput s t y) t fl) ∧
      y = { x with pend := x.pend.eraseIdx n, acc := y.acc } ∧ (∀ q, q ≠ acc → areg y q = areg x q) ∧
      ∀ i j, i < 32 → j < 32 → bget (areg y acc) (32 * (32 * i + j)) 32 =
        (List.range nb).foldl (fun z k => (accAdd z (blkSum (row k i) (col k j) {}) (scale k i j)).1) (old i j) % 2 ^ 32

/-- Moves: their issue, and the completion of the oldest one into local SRAM or the sheaf store. -/
def Obligations.MovesCompleteInIssueOrder : Prop :=
  (∀ (s : State) (t : Fin 512) (b : BitVec 54), issues (til s t) b → fXPD b = 0 → fXIMM b = 0 →
    freeS (til s t) [fXRD b, fXRA b, fXRB b, fXRC b] = true → movePipeFree (til s t) = true →
    let x := til s t
    let d := (sreg x (fXRA b)).toNat
    let r := (sreg x (fXRB b)).toNat
    let n := (sreg x (fXRC b)).toNat
    d % 64 = 0 → n % 64 = 0 → n ≠ 0 → n ≤ 16777216 → imageEnd x ≤ d → inMap s d n = true → farDev s t d = false → sramWait x.pend d n true = false →
      (r % 64 = 0 → ¬(devBase ≤ d ∧ devBase ≤ r) → d + n ≤ r ∨ r + n ≤ d → inMap s r n = true → farDev s t r = false →
        sramWait x.pend r n false = false → (devBase ≤ r → flashWaits s (r - devBase) n = false) →
        exec (.movCpy t b) s = .next (tput s t (pended x 0x141 b (.copy (fXRD b) d r n)))) ∧
      exec (.movFill t b) s = .next (tput s t (pended x 0x142 b (.fill (fXRD b) d (sreg x (fXRB b)) n)))) ∧
  ∀ (s : State) (t : Fin 512) (i : Nat) (rd d r n : Nat) (pat : Word), (inLocal d n || inStore d n) = true → n % 64 = 0 → n ≠ 0 →
    (∀ k, k < i → ∀ p, pendOp (til s t) k = some p → p.isMov = false) →
    let ends (bs : List Byte) : Prop := ∃ u, exec (.moveComplete t) s = .next u ∧
      stored s u t d bs (sset { til s t with pend := (til s t).pend.eraseIdx i } rd 0)
    (pendOp (til s t) i = some (.fill rd d pat n) → ends ((List.range (n / 8)).flatMap (fun _ => toBytes 8 pat.toNat))) ∧
    (pendOp (til s t) i = some (.copy rd d r n) →
      ((inLocal r n || inStore r n) = true → tparity s t r n = false → ends (tread s t r n)) ∧
      (devBase ≤ r → flashWaits s (r - devBase) n = false → badLineIn s (r - devBase) n = none → ends (memBytes s (r - devBase) n)))

/-- Context instructions that are allowed: the answer each takes with it. -/
def Obligations.ContextInstructionsReadAndBind : Prop :=
  ∀ (s : State) (t : Fin 512) (b : BitVec 54), issues (til s t) b → fXRC b = 0 →
    freeS (til s t) [fXRD b, fXRA b, fXRB b] = true → freeP (til s t) [fXPD b] = true → movePipeFree (til s t) = true →
    let x := til s t
    let c := (sreg x (fXRA b)).toNat % 2 ^ 18
    let off := (sreg x (fXRB b)).toNat
    let d := (cx s c).d
    let st := dg d D.STATE
    s.twin.lost = false ∨ halfOf t = ctxHalf c →
    (fXRB b = 0 → fXPD b = 0 →
      (fXIMM b < 16 → (∀ k ∈ s.descBad, k / 32 ≠ c) → st ≠ stFREE →
        exec (.ctxRd t b) s = .next (tput s t (pended x 0x181 b (.ctx (fXRD b) (dword d (fXIMM b)) none false c)))) ∧
      (fXIMM b = 0 → st = stPREFILL ∨ st = stDECODE ∨ st = stREBUILD →
        let first := if st = stDECODE then dg d D.LENGTH else if st = stREBUILD then dg d D.HOLE_START else
          ((cx s c).chunk.map (·.start)).getD (dg d D.KV_VALID)
        exec (.ctxStep t b) s = .next (tput s t (pended x 0x182 b (.ctx (fXRD b)
          (BitVec.ofNat 64 (first * 2 ^ 32 + fget s F.SCH_STEP_NUM_STEP (dg d D.PARTITION) % 2 ^ 32)) none false c)))) ∧
      (fXIMM b = 0 → st = stDECODE → dg d D.STOP_REC = 0 → (∀ p, dg d D.LENGTH - 31 ≤ p → p < dg d D.LENGTH → logBad s d p = none) →
        ∃ m : Matcher, exec (.ctxBind t b) s = .next (tput s t (pended { x with matcher := some m } 0x183 b (.ctx (fXRD b) 0 none false c))) ∧
          m.cid = c ∧ m.inc = dg d D.INCARNATION ∧ m.ends = [] ∧ m.seqs = [] ∧ m.maxTok = dg d D.MAX_TOKENS ∧ m.generated = dg d D.GENERATED ∧
          m.maxLen = dg d D.MAX_LEN ∧ m.length = dg d D.LENGTH ∧ m.last.length = min 31 (dg d D.LENGTH)) ∧
      (fXIMM b < 256 → st = stPREFILL ∨ st = stDECODE ∨ st = stREBUILD → ∃ u, exec (.ctxHold t b) s = .next u ∧
        (cx u c).d = ds (ds d D.HELD 1) D.HOLD_REASON (fXIMM b) ∧ (∀ k, k ≠ c → cx u k = cx s k) ∧
        til u t = pended x 0x186 b (.ctx (fXRD b) 0 none false c) ∧ ∀ k : Nat, k ≠ t → til u k = til s k)) ∧
    (fXIMM b = 0 → st = stPREFILL ∨ st = stDECODE ∨ st = stREBUILD → off < 65536 * dPages d →
      lineOk s (pteAddr d (off / 65536)) = true →
      let e := ptGet s d (off / 65536)
      let takes (a : Word) (q : Bool) : Prop := ∃ f, (f = F.CTX_WALK_HITS ∨ f = F.CTX_WALK_MISSES) ∧
        exec (.ctxSpan t b) s = .next (tput (fadd1 (bump s) f (ctxHalf c) 1) t (pended x 0x185 b (.ctx (fXRD b) a (some (fXPD b, q)) false c)))
      (pV e = false → takes 0 false) ∧
      (pV e = true → pLost e = false → pagePoison s e = false → takes (BitVec.ofNat 64 (pageAddr e off)) true))

/-- The offer of a token, the answers of context instructions, and the end of a copy on write. -/
def Obligations.ContextAnswersReachTheirRegisters : Prop :=
  (∀ (s : State) (t : Fin 512) (b : BitVec 54) (m : Matcher), issues (til s t) b → fXRC b = 0 → fXIMM b = 0 →
    freeS (til s t) [fXRD b, fXRA b, fXRB b] = true → freeP (til s t) [fXPD b] = true → movePipeFree (til s t) = true →
    let x := til s t
    let c := (sreg x (fXRA b)).toNat % 2 ^ 18
    let tok := (sreg x (fXRB b)).toNat
    let d := (cx s c).d
    let matches' (i : Nat) : Bool := decide ((m.seqs.getD i []).length ≤ m.generated + 1) &&
      tailMatches (m.seqs.getD i []).reverse ((tok, true) :: m.last.reverse)
    s.twin.lost = false ∨ halfOf t = ctxHalf c → dg d D.STATE = stDECODE → x.matcher = some m → m.cid = c → m.inc = dg d D.INCARNATION →
    tok < 2 ^ 20 → (cx s c).offer = none →
    ∃ r i, exec (.ctxEmit t b) s = .next (tput (cxPut s c { cx s c with offer := some (tok, r, i) }) t
        (pended x 0x184 b (.ctx (fXRD b) (BitVec.ofNat 64 (r + 256 * i)) (some (fXPD b, r != 0)) false c))) ∧
      (tok ∈ m.ends → r = 1 ∧ i = 0) ∧
      (tok ∉ m.ends →
        (∀ k, k < m.seqs.length → matches' k = true → (∀ j, j < k → matches' j = false) → r = 2 ∧ i = k) ∧
        ((∀ k, k < m.seqs.length → matches' k = false) → i = 0 ∧ r = if m.generated + 1 = m.maxTok ∨ m.length + 1 = m.maxLen then 3 else 0))) ∧
  (∀ (s : State) (t : Fin 512) (i rd c : Nat) (v : Word) (pd : Option (Nat × Bool)),
    let x := { til s t with pend := (til s t).pend.eraseIdx i }
    (pendOp (til s t) i = some (.ctx rd v pd false c) → exec (.contextAnswer t i) s = .next (tput s t
      (match pd with
        | some (p, q) => pset (sset x rd v) p (if q then BitVec.allOnes 128 else 0)
        | none => sset x rd v))) ∧
    (∀ p : Issued, (til s t).pend[i]? = some p → p.op = .ctx rd v pd true c → (til s t).exc = none →
      exec (.contextAnswer t i) s = .next (tput s t { x with
        exc := some { code := 4, precise := false, pc := p.pc, instr := p.word, addr := 0, time := timeNs s,
                      n := p.n, cyc := tcyc s t / 1000 } }))) ∧
  ∀ (s : State) (n : Nat) (w : Cow), nfind s.cows n = some w →
    let d := (cx s w.cid).d
    dg d D.FMT ≠ 2 → pTier w.old ≠ 0 ∨ pFrame w.old / 2 ^ 21 ≠ w.frame / 2 ^ 21 →
    w.u * dSlotBytes d = 0 ∨ badLineIn s (pKey w.old * 65536) (w.u * dSlotBytes d) = none →
    ∃ u, exec (.copyOnWriteDone n) s = .next u ∧ u.cows = nerase s.cows n ∧
      fget u F.CTX_COW_COUNT (ctxHalf w.cid) = min (fget s F.CTX_COW_COUNT (ctxHalf w.cid) + 1) (2 ^ F.CTX_COW_COUNT.w - 1)

/-- Instructions that ask another unit: what they start. -/
def Obligations.TransferInstructionsStartTheirRequests : Prop :=
  (∀ (s : State) (t : Fin 512) (b : BitVec 54), issues (til s t) b → fXRC b = 0 → fXPD b = 0 → fXIMM b = 0 →
    freeS (til s t) [fXRD b, fXRA b, fXRB b] = true → movePipeFree (til s t) = true →
    sramWait (til s t).pend (sreg (til s t) (fXRA b)).toNat 64 false = false →
    let a := readCommand s t s.fresh (sreg (til s t) (fXRA b)).toNat (sreg (til s t) (fXRB b)).toNat
    sramBusy (til s t).pend (strokeRanges a) = false →
    ∃ u, exec (.bnkStroke t b) s = .next u ∧ til u t = pended (til s t) 0x1A1 b (.ask (fXRD b) s.fresh (strokeRanges a)) ∧
      u.bnk.arr = nset s.bnk.arr s.fresh a ∧ a.til = t ∧ a.id = s.fresh ∧ a.ra = (sreg (til s t) (fXRA b)).toNat ∧
      a.rb = (sreg (til s t) (fXRB b)).toNat ∧ (inMap s a.ra 64 = true → farDev s t a.ra = false → a.head = movRead s t a.ra 64) ∧
      u.fresh = s.fresh + 1 ∧ ∀ k, stk u k = stk s k) ∧
  (∀ (s : State) (t : Fin 512) (b : BitVec 54) (ra n : Nat) (d : FabDesc), issues (til s t) b →
    fXRB b = 0 → fXRC b = 0 → fXPD b = 0 → fXIMM b = 0 → freeS (til s t) [fXRD b, fXRA b] = true → movePipeFree (til s t) = true →
    ra = (sreg (til s t) (fXRA b)).toNat → sramWait (til s t).pend ra 64 false = false → ra % 64 = 0 → inLocal ra 64 = true →
    parityBad (til s t).bad ra 64 = false → n = ofBytes (localBytes (til s t) ra 64) → d = fabDesc n →
    d.peer ≠ 65535 → unreachable s d.peer = false → (∀ w, sramWait (til s t).pend d.laddr d.len w = false) →
    inDev d.laddr = false ∨ flashWaits s (devAddr d.laddr) d.len = false →
    let k := s.fresh + 1
    let asks (u : State) (op : Nat) : Prop := til u t = pended (til s t) op b (.ask (fXRD b) k [(d.laddr, d.len, op == 0x1C3)])
    (fabBad s t n 1 = false → sourceBad s t d = none → msgOf s (msgKey d.peer d.msg) = none →
      let sends (c : Instr) (op kind : Nat) : Prop := ∃ u, exec c s = .next u ∧ asks u op ∧
        (px u d.peer).wait = (px s d.peer).wait ++ segments k kind 0 d (some (t.val, d.laddr)) [] ∧
        (∃ o, opOf u k = some o ∧ o.kind = kind ∧ o.ask = some (t.val, k) ∧ o.peer = d.peer ∧ o.msg = d.msg ∧ o.left = cdiv d.len 4096) ∧
        ∃ m, msgOf u (msgKey d.peer d.msg) = some m ∧ m.segs = cdiv d.len 4096 ∧ m.closed = none ∧ m.dead = false
      sends (.fabPut t b) 0x1C1 1 ∧ sends (.fabPutf t b) 0x1C2 2 ∧
      (d.key = 0 → d.len ≤ 131072 → d.roff ≤ 255 → sends (.fabSend t b) 0x1C4 4)) ∧
    (fabBad s t n 3 = false → d.len ≤ 65536 → s.fab.gets.length < 4096 →
      ∃ u tag, exec (.fabGet t b) s = .next u ∧ asks u 0x1C3 ∧ u.fab.gets = nset s.fab.gets tag { op := k, off := 0, len := d.len } ∧
        (px u d.peer).wait = (px s d.peer).wait ++ [
          { op := k, p := { typ := 2, cls := d.cls, tenant := d.tenant, key := d.key, roff := d.roff, epoch := d.epoch, comp := d.comp, total := d.len, arg := tag } }])) ∧
  ∀ (s : State) (t : Fin 512) (b : BitVec 54) (tb r a : Nat), issues (til s t) b → fXPD b = 0 → fXIMM b = 0 →
    freeS (til s t) [fXRD b, fXRA b, fXRB b, fXRC b] = true → movePipeFree (til s t) = true →
    tb = (sreg (til s t) (fXRA b)).toNat → r = (sreg (til s t) (fXRB b)).toNat → a = (sreg (til s t) (fXRC b)).toNat →
    tLive s tb = true → a % 64 = 0 → inMap s a (tSize s tb) = true → farDev s t a = false → homeHere s tb r = true →
    (∀ w, sramWait (til s t).pend a (tSize s tb) w = false) →
    let k := s.fresh + 1
    let puts (c : Instr) (op kind : Nat) (data : List Byte) : Prop := ∃ u h q, exec c s = .next u ∧
      til u t = pended (til s t) op b (.ask (fXRD b) k [(a, tSize s tb, kind == 1)]) ∧ u.fab.rows = s.fab.rows ++ [(65535, halfOf t, rowHdrBytes h ++ data)] ∧
      h.op = kind ∧ h.table = tb ∧ h.row = r ∧ h.reqId = k ∧ h.fwd = false ∧ rowReq u k = some q ∧ q.til = t ∧ q.table = tb ∧ q.row = r ∧ q.addr = a
    (imageEnd (til s t) ≤ a → puts (.rowGet t b) 0x1E1 1 []) ∧
    (goodBytes s t a (tSize s tb) = tSize s tb → puts (.rowUpd t b) 0x1E2 2 (movRead s t a (tSize s tb)))

/-- Registers that a write changes by their access codes alone: the error registers of the blocks, and settings. -/
def plainRegs : List Reg :=
  [.HST_ERR, .CTX_ERR, .SCH_ERR, .BNK_ERR, .TIE_ERR, .ROW_ERR, .FLS_ERR, .FAB_ERR, .SHP_ERR, .LAT_ERR, .CMP_ERR, .TWN_ERR, .INT_ERR,
    .TIL_CTL, .TIL_FPSTAT, .CTX_CTL, .PFX_CTL, .TIE_CMD0, .ROW_CMD0, .FAB_CMD0, .CMP_CMD0, .ROW_CFG, .GLB_STAT]

/-- Accesses of the host to registers: what is written, read and discarded. -/
def Obligations.RegisterAccessesFollowTheirCodes : Prop :=
  ∀ (s : State) (off : Nat) (v : Word), hostReach s = true →
    let returns (u : State) (w : Word) : Host.Outcome State Fault Refusal := .next { u with out := { u.out with readData := w } }
    (off % 8 = 0 → fget s F.GLB_STAT_PHASE 0 = 12 →
      (∀ r i, placePf off = .reg r i →
        (off < 0x3000000 → exec (.registerWrite 0 off v) s = .next (regWrite s r i v) ∧
          (r ∈ plainRegs → ∃ w, regWrite s r i v = rput s r i w ∧ ∀ f ∈ r.fields, bget w f.lo f.w = match f.acc with
            | .RW => bget v f.lo f.w
            | .W1C => bget (rword s r i) f.lo f.w - (bget (rword s r i) f.lo f.w &&& bget v f.lo f.w)
            | _ => bget (rword s r i) f.lo f.w)) ∧
        ∃ w, exec (.rcFieldRead 0 off) s = returns (rput (counted s r i) r i w) (regView (counted s r i) r i) ∧
          ∀ f ∈ r.fields, bget w f.lo f.w = if f.acc = .RC then 0 else bget (rword (counted s r i) r i) f.lo f.w) ∧
      (∀ k, placePf off = .msix k → off < 0x3000000 → exec (.registerWrite 0 off v) s = .next (msixWrite s 0 k v)) ∧
      (placePf off = .none ∨ 0x3000000 ≤ off → exec (.registerWrite 0 off v) s = .next s) ∧
      (placePf off = .none → exec (.rcFieldRead 0 off) s = returns s 0)) ∧
    (∀ f : Fin 64, f ≠ 0 → off % 8 = 0 →
      (∀ k, placeVf f off = .bell k → exec (.registerWrite f off v) s = .next (bellWrite s f k v)) ∧
      (∀ r i, placeVf f off = .reg r i → exec (.registerWrite f off v) s = .next (regWrite s r i v))) ∧
    (off % 8 = 0 → fget s F.GLB_STAT_PHASE 0 ≠ 12 → 0x200000 ≤ off →
      (off < 0x3000000 → exec (.registerWrite 0 off v) s = .next (fset s F.GLB_STAT_EARLY_WRITE 0)) ∧
      (∀ r i, placePf off = .reg r i → fget s F.GLB_STAT_PHASE 0 ≠ 15 → earlyBlock off = false →
        exec (.rcFieldRead 0 off) s = returns s (r.resetWord i))) ∧
    let marks (a : Nat) : State := fput (hstErr s F.HST_ERR_REG_ACCESS) F.HST_ERR_ADDR_ADDR 0 a
    (∀ (f : Fin 64) (a : Nat), a % 8 ≠ 0 → exec (.registerWrite f a v) s = .next (marks a)) ∧
    ∀ write size, off % 8 ≠ 0 ∨ size ≠ 8 →
      exec (.misalignedAccess write off size) s = if write then .next (marks off) else returns (marks off) (w64 (2 ^ 64 - 1))

/-- Island clocks and the channels between islands. -/
def Obligations.ClocksAndCrossingsOfIslands : Prop :=
  ∀ (s : State) (i : Fin 566) (val : Word) (c : Chan) (x : Nat) (full : Bool),
    (hostReach s = true → fget s F.GLB_STAT_PHASE 0 = 12 →
      (islAdj i = false → exec (.islClkCtl i val) s = .next s) ∧
      (islAdj i = true → let g := max (islMin i) (min (bget val 0 12) (islMax (grade s) i))
        ∃ u, exec (.islClkCtl i val) s = .next u ∧ fget u F.ISL_CLK_CTL_FREQ_REQ i = g ∧
          fget u F.ISL_CLK_STAT_CLAMP i = (if bget val 0 12 = g then fget s F.ISL_CLK_STAT_CLAMP i else 1) ∧
          (nfind s.isl.changing i = none → effClock u i ≠ islFreq s i →
            nfind u.isl.changing i = some { target := effClock u i } ∧ fget u F.ISL_CLK_STAT_CHANGING i = 1 ∧
            islFreq u i = min (effClock u i) (islFreq s i)))) ∧
    (∀ k, nfind s.isl.changing i = some k → k.target < 4096 → ∃ u, exec (.clockChangeDone i) s = .next u ∧
      (effClock s i = k.target → nfind u.isl.changing i = none ∧ fget u F.ISL_CLK_STAT_CHANGING i = 0 ∧ islFreq u i = k.target) ∧
      (islAdj i = true → effClock s i ≠ k.target → nfind u.isl.changing i = some { target := effClock s i } ∧
        fget u F.ISL_CLK_STAT_CHANGING i = 1 ∧ islFreq u i = min (effClock s i) k.target)) ∧
    (if full = true ∨ chanHeld s c ≠ [] ∨ chanCut s c = true then
        ∃ u, exec (.crossing c x full) s = .next u ∧ chanHeld u c = chanHeld s c ++ [{ x := x, since := s.now, cut := chanCut s c }] ∧ u.isl.delivered = s.isl.delivered
      else ∃ u, exec (.crossing c x full) s = .next u ∧ u.isl.held = s.isl.held ∧
        nget (fun _ => []) u.isl.delivered c.dst = nget (fun _ => []) s.isl.delivered c.dst ++ [(chanNo c, x)]) ∧
    (∀ h r, chanHeld s c = h :: r → chanCut s c = false → ∃ u, exec (.crossingDeliver c) s = .next u ∧ chanHeld u c = r ∧
      nget (fun _ => []) u.isl.delivered c.dst = nget (fun _ => []) s.isl.delivered c.dst ++ [(chanNo c, h.x)] ∧
      fget u F.ISL_XSTALL_COUNT c.dst = match nfind s.isl.stall c.dst with
        | some m => min (fget s F.ISL_XSTALL_COUNT c.dst + (s.now + 1 - m) * islFreq s c.dst / 1000) (2 ^ 64 - 1)
        | none => fget s F.ISL_XSTALL_COUNT c.dst)

/-- Power and temperature. -/
def Obligations.GovernorAndPowerPins : Prop :=
  ∀ (s : State) (g : GovSample) (n : Nat),
    (∃ u, exec (.governorSample g) s = .next u ∧ u.gov.draw = g.draw ∧ u.gov.limit = s.gov.limit ∧
      let r := governorRead s g
      let past : Bool := decide (s.gov.limit < g.draw)
      (u.gov.tempHalf = r.gov.tempHalf ∧ u.gov.tempStack = r.gov.tempStack ∧ u.gov.hot = r.gov.hot) ∧
      u.pins.pwrAlert = (s.pins.outputsStopped || (past && atFloor r 0 && atFloor r 1)) ∧
      u.gov.quiet = if past = true ∨ nget (fun _ => false) r.gov.hot 0 = true ∨ nget (fun _ => false) r.gov.hot 1 = true ∨ s.pins.pwrBrake = true
        then 0 else s.gov.quiet + 1) ∧
    (∃ u, exec .powerBrake s = .next u ∧ u.pins = { s.pins with pwrBrake := true } ∧ u.gov = { s.gov with quiet := 0 } ∧
      ∀ i, i < 566 → islAdj i = true → fget u F.ISL_CLK_STAT_GOV i = islMin i) ∧
    exec .powerBrakeRelease s = .next { s with
      pins := { s.pins with pwrBrake := false }
      gov := { s.gov with quiet := 0, limit := s.gov.limitNext.getD s.gov.limit, limitNext := none } } ∧
    exec (.railFault n) s = .next { s with pins := { s.pins with outputsStopped := true, pwrAlert := true } } ∧
    (∃ u, exec (.thermalTrip n) s = .next u ∧ u.pins = { s.pins with thermTrip := true, outputsStopped := true, extest := none } ∧
      u.start = { State.reset.start with held := true } ∧ fget u F.GLB_RESET_CAUSE_CAUSE 0 = fget s F.GLB_RESET_CAUSE_CAUSE 0 ∧
      u.pending = s.pending ∧ u.til = [] ∧ u.fuse = s.fuse)

/-- Stroke commands, sequences and strokes. -/
def Obligations.StacksRunStrokes : Prop :=
  ∀ (s : State) (st : Fin 8) (k : Nat) (a : Arrival) (q : Seq) (r : List Seq),
    (let w : State := { s with bnk := { s.bnk with arr := nerase s.bnk.arr k } }
      let h := ofBytes a.head
      nfind s.bnk.arr k = some a → a.fail = none → a.qfail = none → bits h 0 8 ≠ 2 →
      (a.addrBad = true → exec (.strokeCommandCheck k) s =
        .next (askDone (fadd1 w F.BNK_STROKES_REJECTED (bits h 32 3) 1) a.til a.id (w64 1))) ∧
      (a.addrBad = false → a.head ≠ [] → headOk w a h = true → plainSeq w a h = .inr q → ∃ u, exec (.strokeCommandCheck k) s = .next u ∧
        nfind u.bnk.arr k = none ∧ stk u q.stack = if (stk s q.stack).wait = [] ∧ (stk s q.stack).queue.length < 64
          then { stk s q.stack with queue := (stk s q.stack).queue ++ [q] } else { stk s q.stack with wait := (stk s q.stack).wait ++ [q] })) ∧
    ((stk s st).wait = q :: r → (stk s st).queue.length < 64 → ∃ u, exec (.strokeQueueEntry st) s = .next u ∧
      stk u st = { stk s st with queue := (stk s st).queue ++ [q], wait := r } ∧ ∀ j : Nat, j ≠ st → stk u j = stk s j) ∧
    (stroking s st = false → (stk s st).refreshing = false → fget s F.BNK_CTL_STROKE_EN 0 = 1 → strokeGap s st = 0 →
      (stk s st).run = some q → fget s F.BNK_STK_STAT_STATE st = 0 → q.op ≠ 1 → ∃ u, exec (.strokeStart st) s = .next u ∧ stroking u st = true ∧
        stk u st = { stk s st with run := some { q with cols := (cut q [] (unitsOf q q.cols)).2.flatten, now := (cut q [] (unitsOf q q.cols)).1.flatten }
                                   steps := [], cap := [], side := [], scratchBad := [], t0 := s.now }) ∧
    (stroking s st = true → ∃ u, exec (.strokeEnd st) s = .next u ∧ stroking u st = false ∧
      fget u F.BNK_BUSY_COUNT st = min (fget s F.BNK_BUSY_COUNT st + (s.now - (stk s st).t0)) (2 ^ 64 - 1))

/-- Yield points, refreshes and attention requests. -/
def Obligations.YieldPointsRefreshAndAttention : Prop :=
  ∀ (s : State) (st : Fin 8) (bank : Fin 512) (a n : Nat) (bs : List Byte),
    (∀ fs r, stepsLeft (stk s st) bank = fs :: r → (stk s st).out = [] →
      exec (.rowStepEnd st bank) s = .next (stkUpd s st (fun x => { x with
        cap := match fs with
          | .read fs => fs.foldl (fun m f => nset m (granAddr f bank) (granule s (granAddr f bank))) x.cap
          | .scratch _ _ => x.cap
        scratchBad := match fs with
          | .read _ => x.scratchBad
          | .scratch fs m => if m ≤ bank then x.scratchBad else x.scratchBad ++ fs.flatMap (fun f => granBad (granAddr f bank) (granule s (granAddr f bank)))
        steps := nupd (fun _ => 0) x.steps bank (· + 1) }))) ∧
    (addrTier a = 0 → mapped s a = true → a % 128 + bs.length ≤ 128 → stackRetired s (addrStack a) = false →
      let x := stk s (addrStack a)
      (x.refreshing = false → stepsLeft x (bankOf a) = [] → x.out = [] → destStack s a bs.length = none →
        exec (.outsideAccess { addr := a, len := n, data := some bs }) s = .next (fwdWrite s a bs) ∧
        (s.tie.fwd = [] → fwdWrite s a bs = memWrite s a bs)) ∧
      (x.refreshing = true ∨ stepsLeft x (bankOf a) ≠ [] → exec (.outsideAccess { addr := a, len := n, data := some bs }) s =
        .next (stkPut s (addrStack a) { x with out := x.out ++ [{ addr := a, len := bs.length, t := s.now, data := some bs }] }))) ∧
    (stroking s st = false → (stk s st).refreshing = false → ∃ u, exec (.refreshDue st) s = .next u ∧
      stk u st = { stk s st with refreshing := true } ∧ owed u st = owed s st) ∧
    (stroking s st = true ∨ (stk s st).refreshing = true → ∃ u, exec (.refreshDue st) s = .next u ∧
      stk u st = stk s st ∧ owed u st = min 4 (owed s st + 1)) ∧
    ((stk s st).refreshing = true → (stk s st).out = [] → ∃ u, exec (.refreshEnd st) s = .next u ∧
      (stk u st).refreshing = decide (owed s st ≠ 0) ∧ owed u st = owed s st - 1 ∧
      fget u F.BNK_REFRESH_COUNT st = min (fget s F.BNK_REFRESH_COUNT st + 1) (2 ^ 32 - 1)) ∧
    (∀ x, s.bnk.inbox.find? (fun y => y.slot == n) = some x → fget s F.BNK_CTL_INBOX_EN 0 = 1 → nfind s.bnk.slots n = none →
      let w : State := { s with bnk := { s.bnk with inbox := s.bnk.inbox.eraseIdx (s.bnk.inbox.findIdx (fun y => y.slot == n)) } }
      let h := memNat w (slotAddr w n) 64
      let q : AttReq := {
        reqId := bits h 0 32, cid := bits h 32 18, inc := bits h 64 16, layer := bits h 80 8, pos := bits h 96 32, key := bits h 128 32
        off := bits h 160 64, stepNo := bits h 224 32, peer := x.peer, comp := x.comp, epoch := x.epoch, cls := x.cls, tenant := x.tenant }
      (attCheck w h = .discard → exec (.attentionRequest n) s = .next w) ∧
      (∀ e, attCheck w h = .refuse e → e ≠ 2 → exec (.attentionRequest n) s = .next (attReply w q e)) ∧
      (∀ place, attCheck w h = .serve place → ∃ u, exec (.attentionRequest n) s = .next u ∧ u.bnk.inbox = w.bnk.inbox ∧
        nfind u.bnk.slots n = some { q with items := dg (cx w q.cid).d D.KVH_M1 + 1, place := place, prev := bits (progWord w q.cid) 32 32 })) ∧
    (∀ q, nfind s.bnk.slots n = some q → q.items = 0 →
      let v := attReply { s with bnk := { s.bnk with slots := nerase s.bnk.slots n } } q (attStatus q)
      (q.place = false → exec (.attentionItemsEnd n) s = .next v) ∧
      (q.place = true → named v q.cid q.inc = true →
        bits (progWord v q.cid) 32 32 = q.reqId → bits (progWord v q.cid) 8 21 = q.pos → bits (progWord v q.cid) 0 8 = q.layer →
        (attStatus q ≠ 0 → exec (.attentionItemsEnd n) s = .next (setProg v q.cid q.prev false q.pos q.layer)) ∧
        (attStatus q = 0 → q.layer < dg (cx v q.cid).d D.LAYERS_M1 →
          exec (.attentionItemsEnd n) s = .next (setProg v q.cid q.reqId false q.pos (q.layer + 1))) ∧
        (attStatus q = 0 → dg (cx v q.cid).d D.LAYERS_M1 ≤ q.layer → exec (.attentionItemsEnd n) s =
          .next (dmod (setProg v q.cid q.reqId false (q.pos + 1) 0) q.cid (fun d => ds d D.KV_VALID (q.pos + 1))))))

/-- Events of a context that no instruction causes. -/
def Obligations.ContextEventsMoveDescriptors : Prop :=
  ∀ (s : State) (c : Fin 262144) (h : Fin 2) (val : Word),
    let x := cx s c
    let st := dg x.d D.STATE
    (prefillDone s x.d = true → x.attach = 0 →
      (promptMember s = false → ∃ u, exec (.prefillToReady c) s = .next u ∧ (cx u c).d = ds x.d D.STATE stREADY ∧
        (cx u c).pub = pubAt x.d ∧ ∀ k, k ≠ c.val → cx u k = cx s k) ∧
      (promptMember s = true → x.exports = [] → ∃ u, exec (.promptPartDone c) s = .next u ∧
        (cx u c).d = ds (ds (ds x.d D.SWAP_BUSY 0) D.STATE stDRAINING) D.STATUS endLENGTH ∧ ∀ k, k ≠ c.val → cx u k = cx s k)) ∧
    (st = stDRAINING → x.pub = 0 → ctxBusy s c = false → ∃ u, exec (.contextClose c) s = .next u ∧
      dg (cx u c).d D.STATE = (if pairState s (ctxHalf c) = 2 then stCLOSED else stFREE) ∧ dg (cx u c).d D.INCARNATION = dg x.d D.INCARNATION ∧
      ∀ k, k ≠ c.val → cx u k = cx s k) ∧
    (x.release = true → st = stPREFILL ∨ st = stREADY →
      let v := revokeSpans (cxPut s c { x with attach := 0, swap := 0, pub := 0, chunk := none }) c (dg x.d D.INCARNATION)
      ctxBusy v c = false → ∃ u, exec (.contextRelease c) s = .next u ∧
        dg (cx u c).d D.STATE = (if pairState v (ctxHalf c) = 2 then stCLOSED else stFREE) ∧ ∀ k, k ≠ c.val → cx u k = cx s k) ∧
    (x.attach = 1 → attachBlocked s c ((dg x.d D.PROMPT_LEN - 1) / 32) = none → let r := attach s c ((dg x.d D.PROMPT_LEN - 1) / 32)
      ∃ u, exec (.attachmentEnd c) s = .next u ∧ (cx u c).attach = 0 ∧
        (cx u c).d = ds (ds (ds x.d D.KV_VALID r.1) D.SHARED_LEN r.1) D.PFX_NODE r.2.1 ∧ ∀ k, k ≠ c.val → cx u k = cx s k) ∧
    (x.pub ≠ 0 → publishBlocked s c = none → ∃ u, exec (.publicationEnd c) s = .next u ∧ cx u c = { x with pub := 0 } ∧ ∀ k, k ≠ c.val → cx u k = cx s k) ∧
    (x.swap = 1 → x.swapAsk = false → st = stPREEMPTED → privatePages s c = [] → s.tie.moves.any (fun m => m.2.kind == 1 && m.2.owner == c) = false →
      ∃ u, exec (.swapOutDone c) s = .next u ∧ (cx u c).d = ds (ds x.d D.SWAP_BUSY 0) D.STATE stSWAPPED) ∧
    (x.swap = 2 → st = stSWAPPED → slowPages s c = [] → s.tie.moves.any (fun m => m.2.kind == 1 && m.2.owner == c) = false →
      dg x.d D.NAMESPACE = 0 ∨ dg x.d D.SHARED_LEN = 0 → x.rel = [] → dHole x.d = false → dg x.d D.RESUME = stPREFILL ∨ dg x.d D.RESUME = stREADY →
      ∃ u, exec (.swapInDone c) s = .next u ∧ (cx u c).d = ds x.d D.STATE (dg x.d D.RESUME)) ∧
    (hostReach s = true → fget s F.GLB_STAT_PHASE 0 = 12 →
      (∀ k, k = h.val * 131072 + bget val 0 17 → (∀ j ∈ s.descBad, j / 32 ≠ k) → ∃ u, exec (.ctxPeekSel h val) s = .next u ∧ u.ctx = s.ctx ∧ fget u F.CTX_PEEK_SEL_INDEX h = bget val 0 17 ∧
          ∀ n, n < 16 → rword u .CTX_PEEK_W (16 * h + n) = dword (cx s k).d n) ∧
      (bbit val 32 = true → (poolOf s h).inval = none → ∃ u, exec (.pfxInval h val) s = .next u ∧ fget u F.PFX_USED_INVAL_BUSY h = 1 ∧
        poolOf u h = { poolOf s h with inval := some (bget val 0 32) }) ∧
      (bbit val 32 = true → (poolOf s h).inval ≠ none → exec (.pfxInval h val) s =
        .next (poolPut s h { poolOf s h with invalNext := some (bget val 0 32) }))) ∧
    (∀ ns, (poolOf s h).inval = some ns → ∃ u, exec (.invalidationEnd h) s = .next u ∧
      poolOf u h = { poolOf s h with inval := (poolOf s h).invalNext, invalNext := none } ∧
      u.mem = (staleAll s ns).mem ∧ fget u F.PFX_USED_INVAL_BUSY h = b2n (poolOf s h).invalNext.isSome)

/-- Context commands at the head of a half's queue. -/
def Obligations.ContextCommandsApply : Prop :=
  ∀ (s : State) (h : Fin 2) (w : Word) (r : List StepReq), schQueue s h = .cmd w :: r → forming s h = true →
    let c := bget w 0 18
    let x := cx s c
    let st := dg x.d D.STATE
    let v := setQueue s h r
    let done (t u : State) : Prop := cx u c = cx t c ∧ (∀ k, k ≠ c → cx u k = cx t k) ∧ schQueue u h = r ∧
      fget u F.SCH_CMD_STAT_RESULT 0 = 0 ∧ fget u F.SCH_CMD_STAT_CTX 0 = c
    (∀ k ∈ s.descBad, k / 32 ≠ c) → st ≠ stFREE → dg x.d D.INCARNATION = bget w 44 16 →
    (bget w 60 4 = 1 →
      (st = stREADY ∨ st = stPREFILL ∨ st = stREBUILD → ∃ u, exec (.preempt h) s = .next u ∧
        (cx u c).d = ds (ds (ds (ds x.d D.HELD 1) D.HOLD_REASON 4) D.RESUME st) D.STATE stPREEMPTED ∧ schQueue u h = r ∧
        fget u F.SCH_CMD_STAT_RESULT 0 = 0 ∧ ∀ k, k ≠ c → cx u k = cx s k) ∧
      (st = stDECODE → ∃ u, exec (.preempt h) s = .next u ∧ (cx u c).d = ds (ds x.d D.HELD 1) D.HOLD_REASON 4 ∧ (cx u c).preempt = true ∧
        ∀ k, k ≠ c → cx u k = cx s k)) ∧
    (bget w 60 4 = 2 → st = stPREEMPTED → ∃ u, exec (.resume h) s = .next u ∧
      (cx u c).d = ds (ds (ds x.d D.HELD 0) D.SWAP_BUSY 0) D.STATE (dg (ds x.d D.HELD 0) D.RESUME) ∧ (cx u c).swap = 0 ∧
      schQueue u h = r ∧ ∀ k, k ≠ c → cx u k = cx s k) ∧
    (bget w 60 4 = 3 → st = stPREEMPTED → x.swap = 0 → ∃ u, exec (.swapOut h) s = .next u ∧
      done (if mayOut v c = true then swapOutStart v c else cxUpd v c (fun x => { x with swapAsk := true })) u) ∧
    (bget w 60 4 = 4 → st = stSWAPPED → x.swap = 0 → swapInNeeds v c ≤ halfFree v (ctxHalf c) → ∃ u, exec (.swapIn h) s = .next u ∧
      done (if swapRoom v (ctxHalf c) = true then swapInStart v c else cxUpd v c (fun x => { x with swapAsk := true })) u) ∧
    (bget w 60 4 = 5 → st ≠ stDRAINING → st ≠ stCLOSED → ∃ u, exec (.release h) s = .next u ∧ (cx u c).d = ds x.d D.HELD 0 ∧
      schQueue u h = r ∧ ∀ k, k ≠ c → cx u k = cx s k)

/-- Steps, from formation to commit, and the partitions' settings. -/
def Obligations.StepsFormAndCommit : Prop :=
  ∀ (s : State) (h : Fin 2) (p : Fin 8) (val : Word) (k : Step),
    (mayForm s h p = true → (part s p).step = none → (∀ q ∈ groupOf s p, (part s q).step = none) →
      let v := giveTurn s p
      let n := formNumber v h p (formWith v h p 0).1
      let f := if n = 0 then formWith v h p 0 else formWith v h p n
      exec (.stepFormation h p) s = .next (if othersTurn v p = true then v else f.2) ∧
        (f.1 ≠ 0 → ∃ k, (part f.2 p).step = some k ∧ (stepHalf k h).formed = true)) ∧
    ((part s p).step = some k → stepOpen s h p k = false → (stepHalf k h).committed = false →
      let v := (stepHalf k h).chunks.foldl (fun s c => commitChunk s p k.num c) ((stepHalf k h).dec.foldl (fun s c => commitDecode s h p k.num c) s)
      let k' := setStepHalf k h { stepHalf k h with committed := true }
      let w := fput (stepPut v p k') F.SCH_STEP_STAT_PHASE p 3
      exec (.commitPoint h p) s = .next (if k'.a.committed = true ∧ k'.b.committed = true then stepOver w p k' else w) ∧
        (part w p).step = some k' ∧ fget w F.SCH_STEP_STAT_PHASE p = 3) ∧
    (∀ c token seq, (part s p).step = some k → stepOpen s h p k = false → (stepHalf k h).committed = false → (stepHalf k (1 - h)).committed = false →
      (stepHalf k h).dec = [c] → (stepHalf k h).chunks = [] →
      let x := cx s c
      let pos := dg x.d D.LENGTH
      dg x.d D.STATE = stDECODE → x.dec = some (p.val, k.num) → x.release = false → dg x.d D.CANCEL = 0 → x.exc = 0 → x.badLog = false →
      dg x.d D.KV_BAD = 0 → dg x.d D.HELD = 0 → dg x.d D.DL_MODE = 0 → x.offer = some (token, 0, seq) → x.outIova = 0 →
      (∀ j ∈ s.descBad, j / 32 ≠ c) → logBad s x.d pos = none → ∃ u, exec (.commitPoint h p) s = .next u ∧
        (cx u c).d = ds (ds (ds (ds (ds x.d D.KV_VALID pos) D.LENGTH (pos + 1)) D.GENERATED (dg x.d D.GENERATED + 1)) D.LAST_STEP k.num) D.STATE stREADY ∧
        (cx u c).dec = none ∧ (cx u c).offer = none ∧ ∀ j, j ≠ c → cx u j = cx s j) ∧
    (hostReach s = true → fget s F.GLB_STAT_PHASE 0 = 12 →
      exec (.schPartCtl p val) s = .next (if partOverlap s p val = true then fset s F.SCH_ERR_PART_CFG 0
        else if ∃ q ∈ p.val :: (if fbit s F.SCH_PART_CTL_EN p = true then groupOf s p else []), (part s q).step ≠ none then partPut s p { part s p with ctlNext := some val }
        else partWrite s p val) ∧
      ∃ u, exec (.schRatio p val) s = .next u ∧ part u p = { part s p with restart := true } ∧
        fget u F.SCH_RATIO_DWELL p = max 1 (bget val 32 4) ∧ fget u F.SCH_RATIO_HYST p = max 1 (bget val 24 4))

/-- Commands of the memory tiers, and the end of a frame move. -/
def Obligations.TierCommandsComplete : Prop :=
  ∀ (s : State) (c : TieCmd) (r : List TieCmd),
    let id := tcId c
    let w : State := { s with tie := { s.tie with queue := r } }
    let op := bget c.cmd1 60 4
    (∀ res, s.tie.queue = [] → let u := tieDone s res id
      fget u F.TIE_CMD_STAT_RESULT 0 = res % 16 ∧ fget u F.TIE_CMD_STAT_ID 0 = id ∧
        fget u F.TIE_CMD_STAT_SEQ 0 = (fget s F.TIE_CMD_STAT_SEQ 0 + 1) % 256 ∧ u.tie = { s.tie with run := none, left := false, xfer := [] } ∧ u.mem = s.mem) ∧
    (s.tie.run = none → s.tie.queue = c :: r →
      (op = 1 → id < fget s F.TIE_OBJ_BASE_COUNT 0 → tcTier c ≠ 3 → (tcTier c = 0 → tcPlace c ≤ 10) → tcFrames c ≠ 0 → bits (tcArg c) 3 1 = 0 → bits (tcArg c) 6 2 = 0 →
        bits (tcArg c) 14 18 = 0 → (bits (tcArg c) 1 1 = 0 ↔ bits (tcArg c) 4 2 = 0) → objCheck w id = w → oState (obj w id) = 0 →
        ∀ l s1 s2, takePt w 0 (8 * tcFrames c) = some (l, s1) → allocFrames s1 (tcTier c) (tcPlace c) l (tcFrames c) 0 = some s2 →
          exec .alloc s = .next (tieDone (setObj s2 id (1 + bits (tcArg c) 0 3 * 2 ^ 8 + bits (tcArg c) 4 2 * 2 ^ 16 + bits (tcArg c) 8 6 * 2 ^ 24 +
            tcFrames c * 2 ^ 32 + l * 2 ^ 64 + timeMs s2 * 2 ^ 128)) 0 id)) ∧
      (op = 2 → tcArg c = 0 → id < fget s F.TIE_OBJ_BASE_COUNT 0 → oState (obj w id) ≠ 0 → objPinned w id = false →
        let v := dropMoves w id
        exec .freeObj s = .next (tieDone (setObj (dropPt (objRelease v id) 0 (oList (obj v id))) id 0) 0 id)) ∧
      (op = 3 → tcArg c = 0 → tcTier c ≠ 3 → (tcTier c = 0 → tcPlace c ≤ 10) → id < fget s F.TIE_OBJ_BASE_COUNT 0 → objCheck w id = w → oState (obj w id) = 1 →
        objPinned w id = false →
        let v : State := { objState w id 2 with tie := { w.tie with run := some c } }
        let q := objStarts v id (tcTier c) (tcPlace c) 0 256
        objPinned v id = false →
        (movesOf q.1 id = [] → exec .moveObj s = .next (tieDone (objUsed (objState v id 1) id) (if q.2 = true then 3 else 0) id)) ∧
        (movesOf q.1 id ≠ [] → exec .moveObj s = .next q.1) ∧
        (nextOut v id (tcTier c) (tcPlace c) = none → q = (v, false)) ∧
        (∀ i k, nextOut v id (tcTier c) (tcPlace c) = some i → objPick v (tcTier c) (tcPlace c) = some k →
          (movesOf v id).length < readAhead v (pKey (objEnt v id i)) →
          q = objStarts (moveStart (setUse (bump v) k 2) { kind := 0, owner := id, idx := i, pte := tcPlace c, old := pKey (objEnt v id i), new := k, why := 0 })
            id (tcTier c) (tcPlace c) 0 255)) ∧
      (op = 4 → tcArg c = 0 → named w id (tcInc c) = true → cstate w id = stPREEMPTED →
        let v : State := { w with tie := { w.tie with run := some c, left := false } }
        gatherNext v id = none → exec .gather s = .next (tieDone v 0 id))) ∧
    (s.tie.run = some c → op = 5 → s.tie.left = false → s.tie.xfer = [] → s.fab.ops.any (fun e => e.2.owner == 2 && e.2.arg == id) = false →
      s.fab.ended.any (fun e => e.1 == 2 && e.2.1 == id && e.2.2 != 0) = false →
      let v : State := { s with fab := { s.fab with ended := s.fab.ended.filter (fun e => !(e.1 == 2 && e.2.1 == id)) } }
      named v id (tcInc c) = true → cstate v id = stPREEMPTED → exec .transfer s =
        .next (tieDone (deviceSend (endNow v id { status := endCANCELLED, moved := true }) 3 0 (tcPeer c) 2 (ctxMsg 5 0 0 (tcArg c) (dg (cx v id).d D.KV_VALID))) 0 id)) ∧
    (∀ k m, nfind s.tie.moves k = some m → unitsDone s m = true → frameBad s m.old = none →
      let v : State := { s with tie := { s.tie with moves := nerase s.tie.moves k } }
      let a := objEnt v m.owner m.idx
      let e := ptGet v (cx v m.owner).d m.idx
      givenUp v m = false →
      (m.kind = 0 → oState (obj v m.owner) = 2 → pV a = true → pKey a = m.old → exec (.frameMoveDone k) s =
        .next (moveAfter (fwdSet (giveFrame (memPut (copyFrame v m.old m.new) (oList (obj (copyFrame v m.old m.new) m.owner) + 8 * m.idx) 8
          (entAt a m.new 0).toNat) m.old) m.old m.new) m false)) ∧
      (m.kind = 1 → pV e = true → pKey e = m.old → exec (.frameMoveDone k) s =
        .next (moveAfter (fwdSet (releaseOld (ptPut (dropOldSide (copyFrame v m.old m.new) m e) m.owner m.idx (entAt e m.new m.pte)) m.old) m.old m.new) m false)))

/-- Reclaim, and weight windows. -/
def Obligations.ReclaimAndWindows : Prop :=
  ∀ (s : State) (h : Fin 2) (fl : Bool) (w : Fin 8) (val : Word),
    (reclaims s h (halfFree s h) (fget s F.TIE_POOL_MARK_LOW 0) (fget s F.TIE_POOL_MARK_HIGH 0) = false → exec (.reclaim h) s = .next (setReclaiming s h false)) ∧
    (reclaims s h (halfFree s h) (fget s F.TIE_POOL_MARK_LOW 0) (fget s F.TIE_POOL_MARK_HIGH 0) = true → ∀ i ∈ (poolOf s h).nodes, nChildren (node s i) = 0 →
      ∃ x : Candidate, exec (.reclaim h) s = .next (setReclaiming (reclaimOne s x 0) h true) ∧ (useNow s + 2 ^ 32 - nLastUse (node s i)) % 2 ^ 32 ≤ x.age ∧
        ((x.rank = 0 ∧ x.id ∈ ctxsOf s h ∧ cstate s x.id = stPREEMPTED) ∨
          (x.rank = 1 ∧ oState (obj s x.id) = 1 ∧ oEvictable (obj s x.id) = true ∧ objPinned s x.id = false) ∨
          (x.rank = 2 ∧ x.id ∈ (poolOf s h).nodes ∧ nChildren (node s x.id) = 0))) ∧
    (∀ t, t = (if fl then 2 else 1) →
      reclaims s (t + 1) (slowFree s t) (slowMark s t) (slowMark s t + 1024) = true → ∀ c ∈ ctxsOf s 0, cstate s c = stSWAPPED →
      (slowPages s c).any (fun v => pTier (ptGet s (cx s c).d v) == t) = true →
      ∃ x : Candidate, exec (.slowTierReclaim fl) s = .next (setReclaiming (reclaimOne s x t) (t + 1) true) ∧ timeMs s - (cx s c).entered / 1000000 ≤ x.age ∧
        ((x.rank = 0 ∧ cstate s x.id = stSWAPPED) ∨ (x.rank = 1 ∧ oState (obj s x.id) = 1 ∧ oEvictable (obj s x.id) = true ∧ objPinned s x.id = false))) ∧
    (hostReach s = true → fget s F.GLB_STAT_PHASE 0 = 12 → winEn s w = false → bbit val 63 = true →
      (windowFits s w val = false → exec (.tieWinCtl w val) s = .next (fset s F.TIE_ERR_WIN_CFG 0)) ∧
      (windowFits s w val = true → (part s (fget (rput s .TIE_WIN_CTL w val) F.TIE_WIN_CTL_PARTITION w)).step = none →
        let v := rput s .TIE_WIN_CTL w val
        let u := (winFrames v w).foldl (fun s k => setUse s k 3) v
        exec (.tieWinCtl w val) s = .next (windowNext (winPut (fput (fput u F.TIE_WIN_STAT_STATE w 1) F.TIE_WIN_STAT_NEXT w 0) w
          { pass := lastStep u (fget v F.TIE_WIN_CTL_PARTITION w) + 1 }) w))) ∧
    (∀ i x l, fbit s F.TIE_WIN_CTL_SRC_KIND w = false → (win s w).slots.find? (fun e => e.2.st == 1) = some (i, x) → (win s w).refill = [] →
      s.fab.ended = [] → sourceFrames s w x.layer = some l →
      let n := fillCount s (l.drop x.got)
      let now := (l.drop x.got).take n
      now.any (fun k => flashWaits s (keyAddr k) 65536) = false → now.findSome? (frameBad s) = none →
      let v := (List.range n).foldl (fun s j => copyFrame s (l.getD (x.got + j) 0) (winFrame s w i (x.got + j))) s
      exec (.windowFillDone w) s = .next (if x.got + n < l.length
        then winPut v w { win v w with slots := nset (win v w).slots i { x with got := x.got + n } } else fillReady v w i x))

/-- Requests and commands of the row tables. -/
def Obligations.RowRequestsAndCommands : Prop :=
  ∀ (s : State) (k id : Nat) (p : Fin 8) (peer h : Nat) (bs : List Byte) (ans : RowAns) (q : RowReq) (c : RowCmd),
    let x := rowHdr (ofBytes (bs.take 64))
    let w : State := { s with fab := { s.fab with rows := s.fab.rows.eraseIdx k } }
    (∀ res t, s.rows.cmds = [c] → let u := rowDone s res t
      fget u F.ROW_CMD_STAT_RESULT 0 = res % 16 ∧ fget u F.ROW_CMD_STAT_TABLE 0 = t % 1024 ∧
        fget u F.ROW_CMD_STAT_SEQ 0 = (fget s F.ROW_CMD_STAT_SEQ 0 + 1) % 256 ∧ u.rows = { s.rows with cmds := [], run := none }) ∧
    (∀ a, s.fab.rows[k]? = some (peer, h, bs) → (peer = 65535 → destWaits s (reqFull s x.reqId) = false) → fbit s F.ROW_CTL_SERVE_EN 0 = true → tLive w x.table = true →
      x.resv = false → x.row < tRows w x.table → x.shift = tf w x.table 4 1 → x.merge = tf w x.table 1 1 → tMembers w x.table = 1 →
      rowAt w x.table x.row = some a → lineOk w a.addr = true → reKind (rowEnt w a) = 0 → reInbound (rowEnt w a) = false →
      (∀ r u, x.op = 1 → bs.length = 64 → flashWaits w (reAddr (rowEnt w a)) (tSize w x.table) = false → lookup (fadd1 (observe w x.table x.row a) F.ROW_LOOKUPS_SERVED 0 1) x.table x.row h a = (some r, u) →
        exec (.rowRequestGet k) s = .next (rowReply u peer x { status := roOK, version := reVersion (rowEnt w a), data := r })) ∧
      (∀ u, x.op = 2 → bs.length = 64 + 2 ^ x.shift → reOutbound (rowEnt w a) = false → stage w x.table x.row x.key (bs.drop 64) = some u →
        exec (.rowRequestUpd k) s = .next (rowReply u peer x { status := roOK }))) ∧
    (rowReq s id = some q → q.waiting = false → q.upd = false → destWaits s id = false → s.fab.ended.any (fun e => e.1 == 4 && e.2.1 == id) = false →
      ans.status = roOK → let v : State := { s with fab := { s.fab with ended := s.fab.ended.filter (fun e => !(e.1 == 4 && e.2.1 == id)) } }
      exec (.rowAnswer id ans) s = .next (rowEnd (movWrite v q.til q.addr (ans.data.take (tSize v q.table))) id roOK ans.version)) ∧
    (rowReq s id = some q → q.waiting = true → exec (.rowResend id) s = .next (rowSend s id { q with retries := q.retries + 1 })) ∧
    ((part s p).step = none → nget (fun _ => 0) s.rows.applied p + 1000000 ≤ s.now → exec (.applyTimer p) s = .next (applyPoint s p)) ∧
    (let t := bget c.cmd1 0 10
      let d := packWords c.stage
      (rowHead s 1 = some c → tState s t = 0 → descFits d = true → ¬(bits d 8 8 = 1 ∧ bits d 16 8 = 15) → objsFit s d = true →
        ∃ v, exec .rowCreate s = .next (rowDone (tfPut v t 0 1 1) 0 t) ∧ tabOf v t = { local' := localRows s d }) ∧
      (rowHead s 2 = some c → tState s t = 2 → s.rows.reqs.any (fun e => e.2.table == t) = false → s.rows.inbound.any (fun e => e.1 == t) = false →
        s.fab.rows.any (fun e => (rowHdr (ofBytes (e.2.2.take 64))).table == t) = false →
        ∃ v, exec .rowDestroy s = .next (rowDone (tfPut v t 0 1 0) 0 t) ∧ tabOf v t = {} ∧
          v.rows.staged = s.rows.staged.filter (fun e => e.table != t) ∧ v.rows.shadows = s.rows.shadows.filter (fun x => x.table != t)) ∧
      (rowHead s 4 = some c → tLive s t = true →
        exec .rowResetHistory s = .next (rowDone ((freqBytes s t).foldl (fun s a => memPut s a 1 0) (tfPut s t 48 8 0)) 0 t)) ∧
      (∀ a i, rowHead s 3 = some c → tLive s t = true → bget c.cmd0 0 40 < tRows s t → rowAt s t (bget c.cmd0 0 40) = some a → lineOk s a.addr = true →
        reKind (rowEnt s a) = 0 → reOutbound (rowEnt s a) = false → reInbound (rowEnt s a) = false → bbit c.cmd0 45 = true → tMembers s t ≠ 1 →
        i ∈ mapSlots s (tComp s t) 0 → mPeer (member s (tComp s t) 0 i) = bget c.cmd0 48 16 → mNode (member s (tComp s t) 0 i) ≠ fget s F.FAB_NODE_NODE 0 →
        s.rows.migs = [] → exec .rowMigrate s =
          .next (migPut { s with rows := { s.rows with run := some 0 } } 0 { table := t, row := bget c.cmd0 0 40, peer := bget c.cmd0 48 16 })))

/-- Migrations of a row to another member. -/
def Obligations.MigrationsMoveRows : Prop :=
  ∀ (s : State) (l : Fin 256) (m : MigMsg) (g : Mig) (a : RowAt) (refused : Bool) (x : Nat),
    let t := m.table
    let key : RowKey := { step := m.step, rank := m.rank, seq := m.seq }
    let v := rowEnt s a
    (∀ i, m.ack = false → m.refused = false → fbit s F.ROW_CTL_SERVE_EN 0 = true → tLive s t = true → m.row < tRows s t → m.data.length = tSize s t →
      rowAt s t m.row = none → guestFree s t m.row = some i → reKind (rowEnt s { addr := guestAddr s t i 0, guest := some i }) ≠ 2 → pickSlot s t = some x →
      let u := memWrite (takeSlot s t x) x m.data
      let w := memPut (rowPut u { addr := guestAddr s t i 0, guest := some i } (mkRow 0 0 false true (tf u t 7 1) x m.version key 0 0))
        (guestAddr (rowPut u { addr := guestAddr s t i 0, guest := some i } (mkRow 0 0 false true (tf u t 7 1) x m.version key 0 0)) t i 32) 8 (2 ^ 63 + m.row)
      exec (.migrationRowReceive m) s = .next (migReply { w with rows := { w.rows with inbound := w.rows.inbound ++ [(t, m.row)] } } m true)) ∧
    (∀ u, m.ack = false → m.refused = false → (t, m.row) ∈ s.rows.inbound → stage s t m.row key m.data = some u →
      exec (.migrationReplay m) s = .next (migReply u m true)) ∧
    ((t, m.row) ∈ s.rows.inbound → rowAt s t m.row = some a → ∃ u, exec (.migrationActivation m) s = .next u ∧ (t, m.row) ∉ u.rows.inbound ∧
      u.mem = (rowPut s a (setBits (setBits (setBits v 62 2 (if reKind v = 2 then 2 else 0)) 57 1 0) 64 64 m.version)).mem) ∧
    (m.ack = false → rowAt s t m.row = some a → exec (.migrationHomeUpdate m) s =
      .next (migReply (rowPut s a (mkRow 1 0 false false (reDepoch v) m.home m.version (reKey v) (reFreq v) 0)) m true)) ∧
    (m.ack = true → s.rows.migs.find? (fun e => e.2.table == t && e.2.row == m.row && e.2.phase == 2) = some (x, g) →
      exec (.migrationHomeUpdate m) s = .next (migActivate s x g)) ∧
    (migOf s l = some g → g.phase = 1 →
      (g.log ≠ [] → ∃ u, exec (.migrationSwitch l) s = .next u ∧ migOf u l = some { g with log := [], done := g.done ++ g.log } ∧
        u.rows.sent = s.rows.sent ++ g.log.map (fun e => (g.peer, { peer := g.peer, table := g.table, row := g.row, kind := 3, step := e.1.step, rank := e.1.rank, seq := e.1.seq, data := e.2 }))) ∧
      (g.log = [] → rowAt s g.table g.row = some a →
        let w := dropSlot (rowPut s a (mkRow 1 0 false false (reDepoch v) g.peer (reVersion v + 1) (reKey v) (reFreq v) 0)) g.table (reAddr v)
        let n : Mig := { g with phase := 2, version := reVersion v + 1 }
        let h := shardPeer w g.table g.row
        (h = 65535 ∨ h = g.peer → exec (.migrationSwitch l) s = .next (migActivate w l n)) ∧
        (h ≠ 65535 → h ≠ g.peer → exec (.migrationSwitch l) s =
          .next (migSend (migPut w l n) h { peer := h, table := g.table, row := g.row, kind := 5, version := n.version, home := g.peer }))) ∧
      (∀ u, rowAt s g.table g.row = some a → stageAll (rowPut s a (setBits (setBits v 58 1 0) 224 8 0)) g.table g.row (g.done ++ g.log) = some u →
        exec (.migrationAbort l refused) s = .next (migEnd u l (if refused then 6 else 8) g.table)))

/-- Events of the flash tier. -/
def Obligations.FlashOperationsComplete : Prop :=
  ∀ (s : State) (h : Fin 2) (ch tgt : Fin 16) (o : MountObs) (k worst total lvl page : Nat) (good : Option Nat) (r : FlsRoot),
    (fget s F.FLS_STAT_STATE 0 = 1 → geometryOk (showGeometry s) = true → rootFound (showGeometry s) o = some r → s.flash.media.kek = s.keys.kek →
      ∃ u, exec (.flashMountDone o) s = .next u ∧ u.flash.map = restored (showGeometry s) r o ∧ u.keys.media = s.flash.media.key) ∧
    (fget s F.FLS_STAT_STATE 0 = 1 → geometryOk (showGeometry s) = false → exec (.flashMountDone o) s =
      .next (fset (fput (showGeometry s) F.FLS_STAT_STATE 0 4) F.FLS_ERR_GEOMETRY 0)) ∧
    (flashUp s = true →
      ((flsHalf s h).jr ≠ [] → journalDue s h = true → ∃ u, exec (.journalPageProgram h) s = .next u ∧
        flsHalf u h = { flsHalf s h with jr := (flsHalf s h).jr.drop 1020, jt := (flsHalf s h).jt.drop 1020, jp := (flsHalf s h).jp + ((flsHalf s h).jr.take 1020).length } ∧
        nget (fun _ => []) u.flash.media.pages h = nget (fun _ => []) s.flash.media.pages h ++ [(flsHalf s h).jr.take 1020]) ∧
      (checkpointDue s h = true → ∃ u n, exec (.checkpointTimer h) s = .next u ∧ nfind u.flash.media.roots n = some (nextRoot s h false) ∧
        (∀ e, newest s.flash.media.roots = some e → n ≠ e.1) ∧ flsHalf u h = { flsHalf s h with ckptT := timeMs s } ∧ u.flash.map = s.flash.map) ∧
      (k < 2 ^ 40 → synOk s (flsEntAddr s k) = true → readLoc s k < flsLOST →
        let b := locBlk k (readLoc s k)
        (goodAt s k good = some lvl → exec (.unitReadDone k worst total good) s = .next (markRead (readEffects s b worst total (some lvl)) k)) ∧
        (goodAt s k good = none → exec (.unitReadDone k worst total good) s = .next (uncorrectable (readEffects s b worst total none) k b))) ∧
      (∀ b, k < 2 ^ 40 → writing s k = true → fget s F.FLS_STAT_STATE 0 = 2 → sourceFails s k = false → nextPage s (k % 16) 1 = some (b, page) →
        exec (.unitProgramDone k true) s = .next (written (tgtOk (usePage s b page 1) b) k (b % 2 ^ 20 * 4096 + page))) ∧
      (∀ kind, nfind s.flash.work (k / 2 ^ 32) = some (kind, k) → kind ≠ 3 → blkValid s k = [] → (flsBlk s k).chg ≤ (flsHalf s (k / 2 ^ 32 / 8)).jp → readsHold s k = false →
        ∃ u, exec (.blockEraseDone k true) s = .next u ∧ flsBlk u k = { erases := (flsBlk s k).erases + 1 } ∧ nfind u.flash.work (k / 2 ^ 32) = none) ∧
      ((16 * ch.val + tgt.val) ∉ s.flash.media.failed → tgt < (flsChan s ch).targets → nget (fun _ => 0) s.flash.late (16 * ch + tgt) < 2 →
        ∃ u, exec (.targetTimeout ch tgt) s = .next u ∧ nget (fun _ => 0) u.flash.late (16 * ch + tgt) = nget (fun _ => 0) s.flash.late (16 * ch + tgt) + 1) ∧
      (nfind s.flash.work ch = none →
        (∀ v : State, v = { s with flash := { s.flash with reclaiming := nput (fun _ => false) s.flash.reclaiming ch true } } →
          chFree s ch < fget s F.FLS_RECLAIM_FREE_LOW 0 → fbit s F.FLS_CTL_RECLAIM_EN 0 = true → refreshPick v ch = none → reclaimPick v ch = some k →
          ∃ u, exec (.flashReclaim ch) s = .next u ∧ nfind u.flash.work ch = some (1, k)) ∧
        (∀ kind, refreshPick s ch = some (kind, k) → ∃ u, exec (.blockRefresh ch) s = .next u ∧ nfind u.flash.work ch = some (kind, k))) ∧
      (patrolNext s ch = some k → s.flash.due = [] → chBusy s ch = false → goodAt s ch good = some lvl →
        let t := if k ≤ nget (fun _ => 0) s.flash.patrol ch ∨ nfind s.flash.passT ch = none then nset s.flash.passT ch (timeMs s) else s.flash.passT
        let v := readEffects { s with flash := { s.flash with patrol := nset s.flash.patrol ch k, passT := t } } k worst total (some lvl)
        exec (.patrol ch worst total good) s = .next (if (flsBlk s k).closed + fget v F.FLS_REFRESH_RETAIN_DAYS 0 * 86400000 < timeMs v then queueRefresh v k 2 else v)))

/-- Commands of the flash tier. -/
def Obligations.FlashCommandsComplete : Prop :=
  ∀ (s : State) (w val : Word),
    (∀ res, let u := flsDone s res
      fget u F.FLS_CMD_STAT_RESULT 0 = res % 16 ∧ fget u F.FLS_CMD_STAT_BUSY 0 = 0 ∧ fget u F.FLS_CMD_STAT_SEQ 0 = (fget s F.FLS_CMD_STAT_SEQ 0 + 1) % 256 ∧
        u.flash = { s.flash with cmd := none }) ∧
    (flashUp s = true →
      (flsCmd s 1 = some w → exec .flsCheckpoint s = .next (flsDone (checkpoint (checkpoint s 0 false) 1 false) 0)) ∧
      (flsCmd s 2 = some w → s.flash.due = [] → exec .flsPatrol s =
        .next (patrolEnd { s with flash := { s.flash with due := (List.range 16).flatMap (closedOf s) } })) ∧
      (flsCmd s 5 = some w → exec .flsShutdown s = .next (flsDone (checkpoint (checkpoint s 0 false) 1 true) 0)) ∧
      (∀ k, k = bget w 32 4 * 2 ^ 32 + bget w 12 20 →
        flsCmd s 3 = some w → blkIn (flsChan s (bget w 32 4)) k = true → blkBad s k = false → blkSys s k = false → (flsBlk s k).st ≠ 6 →
        exec .flsRetire s = .next (flsDone (retiring (fset s F.FLS_ERR_PROG_FAIL 0) k) 0))) ∧
    (flsCmd s 4 = some w → fget s F.FLS_STAT_STATE 0 = 4 ∨ (flashUp s = true ∧ slowFree s 2 = flashFrames s) → geometryOk s = true → exec .flsFormat s =
      .next (flsDone (flsMounted (flsLog (flsFormat s true) (fun l => { powerOn := l.powerOn, hist := l.hist }))) 0)) ∧
    (hostReach s = true → fget s F.GLB_STAT_PHASE 0 = 12 → bbit val 0 = true → ∃ u, exec (.flsHlogSnap val) s = .next u ∧
      (∀ i, i < 64 → fget u F.FLS_HLOG_WORD i = ofBytes (((healthPage s).drop (8 * i)).take 8) % 2 ^ 64) ∧ u.flash = s.flash ∧ u.mem = s.mem ∧ u.ctx = s.ctx)

/-- Arriving packets and frames. -/
def Obligations.PacketsTakeTheirEffect : Prop :=
  ∀ (s : State) (r : Rx) (f : RxFrame) (peer : Nat),
    let w := fadd1 s F.FAB_PKTS_RX 0 1
    let as : Nat → Pkt := fun t => { r.p with typ := t }
    (r.m.fault = 0 → r.m.ce = false → fbit s F.FAB_CTL_ACCEPT 0 = true → peerOf s r.p.src = some peer → r.ok = true →
      fbit s F.SHP_PORT_CTL_POLICE_EN r.m.port = false →
      (fget w F.GLB_STAT_PHASE 0 = 12 → psnAbove r.p.psn (rxPsn w peer) < 4096 → r.p.psn ∉ (px w peer).got →
        (∀ q d, placePut w (as 1) r.m.port (portFar w r.m.port) = (q, d) → q.wait = false → exec (.put r) s = .next (rxDone q.s peer (as 1) false q d)) ∧
        (∀ q d, getReq w peer (as 2) r.m.port = (q, d) → q.wait = false → exec (.getReq r) s = .next (rxDone q.s peer (as 2) false q d)) ∧
        (∀ q d, getResp w (as 3) = (q, d) → q.wait = false → exec (.getResp r) s = .next (rxDone q.s peer (as 3) false q d)) ∧
        (∀ q d, placeSend w (as 4) r.m.port peer = (q, d) → q.wait = false → exec (.send r) s = .next (rxDone q.s peer (as 4) false q d))) ∧
      exec (.ack r) s = .next (ackIn w peer r.p) ∧ exec (.nack r) s = .next (nackIn w peer r.p) ∧ exec (.doneMsg r) s = .next (doneIn w peer r.p) ∧
      exec (.abortMsg r) s = .next (abortIn w r.p.src r.p.msg) ∧
      exec (.probe r) s = .next (sendControl (pxUpd (pfPut w peer 48 4 r.p.psn) peer (fun x => { x with got := [] })) peer { typ := 10, psn := r.p.psn }) ∧
      (∀ u, u = pxUpd w peer (fun x => { x with probing := false }) → pState u peer = 2 → exec (.probeReply r) s = .next (peerReset (pfPut u peer 23 1 1) peer (max (fget u F.FAB_RATE0_MIN 0) (pRate u peer / 2))))) ∧
    (f.m.ce = false →
      (f.m.fault = 0 → f.forUs = false → fbit s F.FAB_CTL_HOST_RX 0 = true → exec (.frameReceive f) s =
        .next (rxFrame s { kind := 1, port := f.m.port, time := if f.ptp then s.gtime * 16 / 1000000000 else 0 } f.frame)) ∧
      (f.m.fault = 0 → f.forUs = false → fbit s F.FAB_CTL_HOST_RX 0 = false → exec (.frameReceive f) s = .next (fadd1 s F.FAB_LOSS_DROPPED 0 1)) ∧
      (f.m.fault = 0 → f.forUs = true → fbit s F.FAB_CTL_ACCEPT 0 = true → peerOf s f.p.src = some peer → exec (.frameReceive f) s =
        .next (sendNack (fset w F.FAB_ERR_MALFORMED_RX 0) peer f.p fsMALFORMED 0 0)) ∧
      (f.m.fault = 1 → exec (.frameReceive f) s = .next (fadd1 (fadd1 s F.FAB_PORT_CNT_FCS_ERR f.m.port 1) F.FAB_LOSS_DROPPED 0 1)))

/-- Timers of the transport, and messages of the context service. -/
def Obligations.TransportTimersAndContextMessages : Prop :=
  ∀ (s : State) (peer psn k tag : Nat) (path : Fin 16) (u : Unacked) (g : GetReq) (m : MsgRx) (c : SvcMsg) (w : State),
    (0 < (px s peer).rxPkts → exec (.ackTimer peer) s = .next (sendAck s peer)) ∧
    (unOf s peer psn = some u → u.again = false →
      (u.later = true → u.rnrWait = false → exec (.reorderTimer peer psn) s = .next (again (pathLoss s peer u.path) peer psn id)) ∧
      (u.rnrWait = true → exec (.rnrRetry peer psn) s = .next (again s peer psn (fun u => { u with rnrWait := false }))) ∧
      (∀ l r v, l = pathLoss s peer u.path →
        r = pfPut (pfPut (pfPut (pfPut l peer 24 4 (max (fget l F.FAB_RATE0_MIN 0) (pRate l peer / 2))) peer 28 4 65536) peer 33 1 0) peer 32 1 0 →
        v = pxUpd r peer (fun x => { x with acked := 0, c := 0, cT := r.now }) → u.rnrWait = false → u.expiries + 1 < fget v F.FAB_TIMER0_RETRY_MAX 0 →
        exec (.retransmitTimeout peer psn) s =
          .next (again v peer psn (fun u => { u with expiries := u.expiries + 1, rto := min (2 * u.rto) (fget v F.FAB_TIMER0_RTO_MAX_US 0) })))) ∧
    (nfind s.fab.gets tag = some g → exec (.getTimeout tag) s = .next (sendWaiting (endOp s g.op fsTIMEOUT))) ∧
    (rxOf s k = some m →
      (m.done = true → ∃ v, exec (.doneHoldEnd k) s = .next v ∧ rxOf v k = none) ∧
      (m.done = false → exec (.messageIdle k) s = .next (fset (rxDrop s k) F.FAB_ERR_IDLE_DROP 0))) ∧
    (peer < peerCount s →
      (pState s peer = 2 → exec (.probeTimer peer) s = .next (sendProbes s peer)) ∧
      (∀ v, v = peerReset (pfPut (bump s) peer 23 1 1) peer (fget s F.FAB_RATE0_INIT 0) → pState s peer = 0 ∨ pState s peer = 2 → exec (.peerEnable peer) s =
        .next (sendProbes (pxUpd (pfPut (pfPut (pfPut v peer 33 1 0) peer 34 2 0) peer 44 4 (choiceOf s 8 % 2 ^ 32)) peer
          (fun x => { x with probing := true, un := [], wait := [] })) peer))) ∧
    (bits (pf s peer 34 2) path 1 = 1 → exec (.pathHoldEnd peer path) s =
      .next (pxUpd (pfPut s peer 34 2 (pf s peer 34 2 - 2 ^ path.val)) peer (fun x => { x with lost := nput (fun _ => 0) x.lost path 0 }))) ∧
    (∀ (a : Int) (n x : Nat) (v : State), a = pf s peer 28 4 → n = min 255 (pf s peer 33 1 + 1) → x = fget s F.FAB_RATE1_MAX 0 →
      v = pxPut (pfPut s peer 28 4 (a + (0 - a) / 16).toNat) peer { px s peer with pkts := 0, ce := 0 } → (px s peer).pkts ≠ 0 → (px s peer).ce = 0 →
      exec (.rateUpdate peer) s = .next (pfPut (pfPut v peer 24 4 (if n ≤ 4 then min x (pRate s peer + fget v F.FAB_RATE1_AI 0)
        else min x (pRate s peer + (x - pRate s peer) / 8))) peer 33 1 n)) ∧
    (svcHead s 1 = some (c, w) → svcNames w c = true → cstate w c.id = stPREFILL → exec .importDone s =
      .next (ownerMsg (dmod (memberSeen w c.id c.peer) c.id (fun d => ds (ds d D.KV_VALID
        (if dg (cx w c.id).d D.KIND = 0 ∧ standalone (memberSeen w c.id c.peer) = true then min c.pos (dg (cx w c.id).d D.PROMPT_LEN - 1) else c.pos)) D.IMPORT_DONE 1))
        (cx w c.id).d 1 0 c.pos)) ∧
    (svcHead s 2 = some (c, w) → svcNames w c = true → exec .cancelMessage s =
      .next (deviceSend (cancelCtx w c.id).2 3 0 c.peer 2 (ctxMsg 3 (cancelCtx w c.id).1 c.inc c.id 0))) ∧
    (svcHead s 3 = some (c, w) → svcNames w c = true → 1 ≤ c.status → c.status ≤ 6 → exec .report s = .next (cancelCtx w c.id).2) ∧
    (svcHead s 4 = some (c, w) → svcNames w c = true → cstate w c.id = stPREFILL → exec .hiddenDone s = .next (dmod (memberSeen w c.id c.peer) c.id (fun d => ds d D.HIDDEN_DONE 1))) ∧
    (∀ v, v = region w (c.id / 65536) → svcHead s 5 = some (c, w) → rgState v = 1 → rgSpan v = true → rgGen v = c.id % 65536 →
      named w (rgCtx v) (rgInc v) = true → exec .importKeyed s = .next (importDone w c.peer (rgCtx v) c.pos))

/-- Region commands, the time base, and the ports. -/
def Obligations.RegionsAndPortsComplete : Prop :=
  ∀ (s : State) (c : FabCmd) (idx : Fin 65536) (val : Word) (port : Fin 6) (peer q : Nat),
    (∀ res key, s.fab.cmds = [c] → s.fab.revoke = none → let u := fabCmdDone s res key
      fget u F.FAB_CMD_STAT_RESULT 0 = res % 16 ∧ fget u F.FAB_CMD_STAT_KEY 0 = key % 2 ^ 32 ∧
        fget u F.FAB_CMD_STAT_SEQ 0 = (fget s F.FAB_CMD_STAT_SEQ 0 + 1) % 256 ∧ u.fab = { s.fab with cmds := [] }) ∧
    (∀ i v, fabHead s 1 = some c → registerResult s c = .inr (i, v) → exec .fabRegister s = .next (fabCmdDone (setRegion s i v) 0 (i * 65536 + rgGen v))) ∧
    (∀ i, i = bget c.cmd0 0 32 / 65536 → fabHead s 2 = some c → c.cmd0.toNat / 2 ^ 32 = 0 → rgState (region s i) = 1 → rgGen (region s i) = bget c.cmd0 0 32 % 65536 →
      ∃ u, exec .fabRevoke s = .next u ∧ u.fab.revoke = some i ∧ u.mem = (setRegion s i (setBits (region s i) 0 2 2)).mem) ∧
    (∀ v w u, v = region s idx → w = (s.fab.rx.filter (fun e => !e.2.send && !e.2.done && e.2.key / 65536 == idx.val)).foldl (fun s e => rxErase s e.1) s →
      u = setRegion w idx (setBits v 0 2 0) → rgState v = 2 → u.fab.revoke = some idx.val → exec (.revokeEnd idx) s =
        .next (fabCmdDone { u with fab := { u.fab with revoke := none } } 0 (idx * 65536 + rgGen v))) ∧
    (hostReach s = true → fget s F.GLB_STAT_PHASE 0 = 12 → ∃ u, exec (.fabTimeAdj val) s = .next u ∧
      u.gtime = ((s.gtime : Int) + sext 32 (bget val 32 32) * 1000000000).toNat ∧ fget u F.FAB_TIME_ADJ_RATE_PPB 0 = bget val 0 32) ∧
    (limiterReady s peer = true → exec (.limiterRelease peer) s = .next (releasePeer s peer)) ∧
    (∀ x, s.fab.peers = [(peer, x)] → credited s peer = false → limiterReady s peer = true → exec .wheelSlot s = .next (releasePeer s peer)) ∧
    (portUp s port = true → portQuiet s port = false → s.pins.outputsStopped = false → 0 ≤ privBucket s port → leastTag (pq s port) (privReady s port) = some q →
      exec (.frameStart port) s = .next (sendPriv s port q)) ∧
    (portUp s port = true → fbit s F.FAB_PORT_CTL_EN port = true → exec (.linkDown port) s = .next (portClear (fput s F.FAB_PORT_STAT_LINK port 1) port)) ∧
    (fget s F.FAB_PORT_STAT_LINK port = 1 → ∃ u, exec (.linkUp port) s = .next u ∧ fget u F.FAB_PORT_STAT_LINK port = 2 ∧ portUp u port = true) ∧
    (fbit s F.SHP_PORT_CTL_GATE_EN port = true → ∃ u, exec (.gateEntry port) s = .next u ∧ pq u port = { pq s port with entry := (gateNow s port (timeNs s)).1 })

/-- Lattice requests at a member, answers and probes. -/
def Obligations.MemberServesLatticeRequests : Prop :=
  ∀ (s v w m : State) (r : LRx) (k : LPkt) (p n tag : Nat) (rank : Fin 64) (c : CmpCheck) (q : LatReq) (x : Kept),
    (latArrive s r = (v, some p) → ¬ (r.p.merged = true ∧ r.p.src = fget v F.LAT_SWITCH_NODE 0) → rankOf v r.p.src = some n →
      r.p.combine = false → r.p.lsn ≠ latExpect v n →
      exec (.latticeLoad r) s = .next (sendLack v n) ∧ exec (.latticeStore r) s = .next (sendLack v n) ∧ exec (.add64 r) s = .next (sendLack v n) ∧
        exec (.swap64 r) s = .next (sendLack v n) ∧ exec (.cas64 r) s = .next (sendLack v n)) ∧
    (latArrive s r = (v, some p) → ¬ (r.p.merged = true ∧ r.p.src = fget v F.LAT_SWITCH_NODE 0) → rankOf v r.p.src = some n →
      r.p.combine = false → r.p.lsn = latExpect v n → r.ok = true → latChecked v k c → w = compMark v k.comp k.epoch c →
      m = meter (fadd1 w F.LAT_CNT_SERVED 0 1) k.tenant 3 (64 * k.lines) →
      (k = { r.p with lop := 1 } → goodLines m (laAddr k.laddr) k.lines = k.lines → exec (.latticeLoad r) s =
        .next (latAnswer (expectPut m n (r.p.lsn + 1)) k.src (laResp k laOK (memBytes m (laAddr k.laddr) (64 * k.lines))))) ∧
      (writeWaits m (laAddr k.laddr) (laLen k) = false → writeDown m (laAddr k.laddr) = false → flashShut m (laAddr k.laddr) = false →
        (k = { r.p with lop := 2 } → exec (.latticeStore r) s =
          .next (latAnswer (expectPut (memWrite m (laAddr k.laddr) k.data) n (r.p.lsn + 1)) k.src (laResp k laOK []))) ∧
        (∀ t u, badLineIn m (laAddr k.laddr) 8 = none → t = memPut m (laAddr k.laddr) 8
            (atomicNew k.lop (memNat m (laAddr k.laddr) 8) (ofBytes (k.data.take 8)) (ofBytes ((k.data.drop 8).take 8))) →
          u = latAnswer (expectPut t n (r.p.lsn + 1)) k.src (laResp k laOK (toBytes 8 (memNat m (laAddr k.laddr) 8) ++ List.replicate 56 0)) →
          (k = { r.p with lop := 3 } → exec (.add64 r) s = .next u) ∧ (k = { r.p with lop := 4 } → exec (.swap64 r) s = .next u) ∧
          (k = { r.p with lop := 5 } → exec (.cas64 r) s = .next u)))) ∧
    (∀ lop a b old : Nat, (lop = 3 → atomicNew lop old a b = (old + a) % 2 ^ 64) ∧ (lop = 4 → atomicNew lop old a b = a) ∧
      (lop = 5 → atomicNew lop old a b = if old = a then b else old)) ∧
    (latArrive s r = (v, some p) → rankOf v r.p.src = some n → r.p.combine = true → k = { r.p with lop := 3 } → nfind v.lat.kept (keptKey k) = some x →
      exec (.add64 r) s = .next (latAnswer v k.src x.p)) ∧
    (∃ t, exec (.dedupExpiry tag) s = .next t ∧ nfind t.lat.kept tag = none ∧ t = { s with lat := { s.lat with kept := t.lat.kept } }) ∧
    (latArrive s r = (v, some p) → r.ok = true → rankOf v r.p.src = some n →
      (latReq v r.p.tag = some q → q.rank = n → r.p.status ≠ laREDIRECT → r.p.status ≠ laBUSY → exec (.latticeResp r) s =
        .next (latEnd (meter v q.p.tenant 2 r.p.data.length) r.p.tag q r.p.status r.p.data)) ∧
      exec (.lack r) s = .next (latAgain v n (some r.p.lsn)) ∧
      exec (.lprobe r) s = .next (latSend (restartStreams v n r.p.lsn) n { lop := 11, lsn := r.p.lsn }) ∧
      (∃ t, exec (.lprobeReply r) s = .next t ∧ fget t F.LAT_MEMBER_STATE n = 2)) ∧
    (rankOn s rank = true → ownRank s rank = false → rankUp s rank = false → fget s F.GLB_STAT_PHASE 0 = 12 → exec (.lprobeTimer rank) s =
      .next (latSend (fput s F.LAT_MEMBER_STATE rank 1) rank { lop := 10, lsn := (lrank s rank).lsn })) ∧
    (latReq s tag = some q → q.busy = false → q.tries + 1 < fget s F.LAT_TIMER_RETRY_MAX 0 → exec (.latticeTimeout tag) s =
      .next (let t := changePath (latPut s tag { q with tries := q.tries + 1 }) q.rank
      if q.p.combine then latSend t q.rank { q.p with retx := true } else latAgain t q.rank none))

/-- Request rings, windows and the aperture. -/
def Obligations.RingsWindowsAndTheApertureComplete : Prop :=
  ∀ (s t u : State) (val : Word) (w : Fin 16) (n i lop tag off len a c : Nat) (q : LatReq) (k : LPkt) (x : Aper) (data : List Byte),
    (n < 8 → i = fget s F.LAT_RING_HEAD_HEAD n → fbit s F.LAT_CTL_EN 0 = true → fbit s F.LAT_RING_HEAD_EN n = true → lineOk s (ringAddr s n i) = true →
      memNat s (ringAddr s n i + 2) 1 = 255 → latTake s n i = some t → u = fput t F.LAT_RING_HEAD_HEAD n ((i + 1) % (fget t F.LAT_RING_ENTRIES_M1 n + 1)) →
      ((∀ m, m < 8 → m ≠ n → fbit s F.LAT_RING_HEAD_EN m = false ∧ fbit u F.LAT_RING_HEAD_EN m = false) → exec .ringPoll s = .next u) ∧
      (hostReach s = true → fget s F.GLB_STAT_PHASE 0 = 12 → (∀ m, m < 8 → bbit val m = decide (m = n)) → exec (.latDoorbell val) s = .next u)) ∧
    (∀ v, v = memNat s (ringAddr s n i) 64 → entryBad s v = false → bits v 0 8 = 1 → bits v 8 8 = 0 → bits v 48 16 ≠ 0 → tag = (s.fresh + 1) % 2 ^ 32 →
      k = { lop := 1, tenant := bits v 24 8, lines := bits v 192 16, tag := tag, laddr := bits v 64 64, epoch := bits v 48 16, comp := bits v 32 16 } →
      latTake s n i = latIssue (bump s) tag { ring := n, idx := i, rank := laRank (bits v 64 64), p := k, loc := bits v 128 64 }) ∧
    (rankOn s q.rank = true → ownRank s q.rank = false → rankDown s q.rank = false → q.redirected = false → q.p.combine = false →
      t = meter (fadd1 s F.LAT_CNT_SENT 0 1) q.p.tenant 2 q.p.data.length → (lrank t q.rank).wait = [] → (lrank t q.rank).un.length < 256 →
      latIssue s tag q = some (latLaunch t tag q)) ∧
    (rankOn s q.rank = false → latIssue s tag q = some (latFinish s tag q laNOTMEMBER [])) ∧
    (hostReach s = true → fget s F.GLB_STAT_PHASE 0 = 12 →
      (fbit s F.LAT_WIN_CTL_EN w = false → bbit val 63 = true → latWinFits s w val = true →
        ∃ v, exec (.latWinCtl w val) s = .next v ∧ fbit v F.LAT_WIN_CTL_EN w = true ∧ fget v F.LAT_WIN_CTL_FRAMES w = bget val 0 34) ∧
      (fbit s F.LAT_WIN_CTL_EN w = true → bbit val 63 = false →
        ∃ v, exec (.latWinCtl w val) s = .next v ∧ fbit v F.LAT_WIN_CTL_EN w = false ∧ v.lat = { s.lat with unpin := s.lat.unpin ++ [w.val] })) ∧
    (∃ v, exec (.windowUnpin w) s = .next v ∧ w.val ∉ v.lat.unpin ∧ v = { s with lat := { s.lat with unpin := v.lat.unpin } }) ∧
    (a = fget s F.HST_APER_BASE 0 * 2 ^ 36 + off → c = fget s F.LAT_HOST_COMP 0 → fbit s F.LAT_CTL_EN 0 = true → off < 2 ^ 36 → tag = (s.fresh + 1) % 2 ^ 32 →
      k = { lop := lop, tenant := fget s F.LAT_HOST_TENANT 0, lines := 1, tag := tag, laddr := a / 64 * 64, epoch := (cmpOf s c).cur, comp := c, data := data } →
      latIssue { bump s with host := { s.host with aper := nset s.host.aper tag { write := lop == 2, off := off, len := len } } } tag { ring := 8, rank := laRank a, p := k } = some t →
      (lop = 1 → 0 < len → off % 64 + len ≤ 64 → data = [] → exec (.apertureRead off len) s = .next t) ∧
      (lop = 2 → len = 64 → off % 64 = 0 → data.length = 64 → exec (.apertureWrite off data) s = .next t)) ∧
    (nfind s.host.aper tag = some x → x.write = false → ∃ v, exec (.apertureTimeout tag) s = .next v ∧ nfind v.host.aper tag = none ∧
      v.out.aperData = List.replicate x.len 0xFF ∧ fget v F.HST_APER_STAT_STATUS 0 = laUNREACH)

/-- Composition commands, the end of an epoch, and metering. -/
def Obligations.CompositionCommandsAndMetering : Prop :=
  ∀ (s t : State) (c : CmpCmd) (i : Nat) (n : Fin 1024) (val : Word) (e : Nat × Ctx),
    (s.cmp.cmds = [c] → ∀ u, u = cmpDone s 0 (ccComp c) → fget u F.CMP_CMD_STAT_RESULT 0 = 0 ∧ fget u F.CMP_CMD_STAT_COMP 0 = ccComp c ∧
      fget u F.CMP_CMD_STAT_SEQ 0 = (fget s F.CMP_CMD_STAT_SEQ 0 + 1) % 256 ∧ u.cmp = { s.cmp with cmds := [] }) ∧
    (i = ccComp c → cmpHead s 1 = some c → isOpen s i = false → t = zeroRange s (mapAddr s i 0 0) 98304 → exec .cmpOpen s =
      .next (cmpDone (cmpPut t i { open' := true, cur := bget c.cmd0 48 16, committed := t.now, lastOld := t.now }) 0 i)) ∧
    (i = ccComp c → cmpHead s 2 = some c → isOpen s i = true → entryFormat c.stage = true → exec .cmpStage s =
      .next (cmpDone (memPut s (mapAddr s i 2 (bget c.cmd0 32 10)) 32 c.stage) 0 i)) ∧
    (∀ u v, i = ccComp c → cmpHead s 3 = some c → isOpen s i = true → (cmpOf s i).prevValid = false → t = copyMap (copyMap s i 0 1) i 2 0 →
      u = cmpPut t i { cmpOf s i with prev := (cmpOf s i).cur, prevValid := true, cur := ((cmpOf s i).cur + 1) % 65536, committed := t.now, lastOld := t.now } →
      v = journal u 0 (mapEnts u i (((cmpOf s i).cur + 1) % 65536)) → exec .cmpCommit s = .next (cmpDone v 0 i)) ∧
    (i = ccComp c → cmpHead s 4 = some c → (cmpOf s i).prevValid = true → exec .cmpRetire s =
      .next (cmpDone (cmpPut s i { cmpOf s i with prevValid := false }) 0 i)) ∧
    (i = ccComp c → cmpHead s 5 = some c → isOpen s i = true → exec .cmpClose s = .next (cmpDone (cmpPut s i { cmpOf s i with closing := true }) 0 i)) ∧
    ((cmpOf s n).closing = true → oldCount s n = 0 → exec (.compositionClosed n) s = .next (cmpPut s n {})) ∧
    ((cmpOf s n).prevValid = true → (oldCount s n = 0 ∧ (cmpOf s n).lastOld + fget s F.CMP_TIMER_QUIET_MS 0 * 1000000 ≤ s.now) ∨
        (cmpOf s n).committed + fget s F.CMP_TIMER_RETIRE_MS 0 * 1000000 ≤ s.now →
      exec (.epochRetire n) s = .next (cmpPut s n { cmpOf s n with prevValid := false })) ∧
    (s.ctx = [e] → t = meter s (dg e.2.d D.TENANT) 7 (privatePages s e.1).length → objIdxs t = [] → exec .meterTick s = .next t) ∧
    (hostReach s = true → fget s F.GLB_STAT_PHASE 0 = 12 → bbit val 0 = true → fbit s F.CMP_MTR_SNAP_BUSY 0 = false →
      exec (.cmpMtrSnap val) s = .next (fset s F.CMP_MTR_SNAP_BUSY 0)) ∧
    (fbit s F.CMP_MTR_SNAP_BUSY 0 = true → ∃ u, exec .meterSnapshotDone s = .next u ∧ fbit u F.CMP_MTR_SNAP_BUSY 0 = false ∧
      fget u F.CMP_MTR_TIME_TIME 0 = timeNs s % 2 ^ 64 ∧ ∀ j, j < 512 → fget u F.CMP_MTR_VALUE j = nget (fun _ => 0) s.meter j % 2 ^ 64)

/-- Frames of a twin link, the journal and the mirror. -/
def Obligations.TwinFramesAndTheMirrorComplete : Prop :=
  ∀ (s v w : State) (h : Fin 2) (r : TwinRx) (e : JEntry) (x y : TwinHalf) (k : Nat) (g : Fetch),
    (reached s h 8 = true → s.pins.outputsStopped = false → r.ok = true → fbit s F.TWN_CTL_EN 0 = true → r.f.node = fget s F.TWN_CTL_TWIN_NODE 0 →
      v = fadd1 s F.TWN_HS_CNT_FRAMES h 1 → w = twinAck v h r.f.ack →
      (∀ u, u = twUpd (fput v F.TWN_HS_STAT_TWIN_ROLE h r.f.role) h (fun x => { x with seen := r.f.boot, peerRole := r.f.role }) → r.f.typ = 1 → pairState v h = 0 →
        r.f.devReset = false → r.f.taken = 0 → r.f.held = false → exec (.hello h r) s = .next (enterSync u h)) ∧
      (r.f.typ = 2 → heldHalf w h = false → r.f.ents = [] → (tw w h).unacked < 32 → exec (.journal h r) s = .next w) ∧
      (∀ u, u = entryIn w h e → r.f.typ = 2 → heldHalf w h = false → r.f.ents = [e] → exec (.journal h r) s = .next (if 32 ≤ (tw u h).unacked then sendJack u h else u)) ∧
      (r.f.typ = 3 → exec (.jack h r) s = .next w) ∧
      (r.f.typ = 6 → fenced w h = false → (∀ bs, mirLine w h r.f = some bs →
          exec (.fetch h r) s = .next (twinSend w h { typ := 7, jsn := r.f.jsn, incarn := r.f.incarn, line := bs })) ∧
        (mirLine w h r.f = none → exec (.fetch h r) s = .next (twinSend w h { typ := 7, jsn := r.f.jsn, incarn := r.f.incarn, arg := 1 }))) ∧
      (r.f.typ = 7 → w.twin.fetches.find? (fun e => ctxHalf e.2.cid == h && e.2.line == r.f.jsn && e.2.inc == r.f.incarn && dg (cx w e.2.cid).d D.INCARNATION == r.f.incarn) = some (k, g) →
        (r.f.arg = 0 → exec (.fetchData h r) s = .next (fetchGood (dropFetch w k) g r.f.line)) ∧
        (r.f.arg = 1 → exec (.fetchData h r) s = .next (fetchNone (dropFetch w k) g))) ∧
      (∀ u, u = fset w F.TWN_HS_STAT_GAVE_UP h → r.f.typ = 8 → exec (.giveup h r) s = .next (if pairState u h = 3 then autoTake u h else u))) ∧
    (x = tw w h → x.expect = some k → x.group = [] → e.jsn = k → pairState w h ≠ 0 → heldHalf w h = false → e.cont = false →
      v = twPut w h { x with group := [e] } → y = applyEnt { x with group := [e] } e → mirBytes y ≤ fget v F.TWN_HS_MIRROR_GIB h * 2 ^ 30 → e.typ ≠ 8 →
      entryIn w h e = fput (twPut v h { y with expect := some (k + 1), group := [], unacked := x.unacked + 1 }) F.TWN_HS_JAPPLIED_JSN h k) ∧
    (e.jsn ≠ nextJsn (tw w h) e.jsn → entryIn w h e = w) ∧
    (reached s h 7 = true → exec (.helloTimer h) s = .next (sendHello s h)) ∧
    ((tw s h).unacked ≠ 0 → exec (.jackTimer h) s = .next (twinSend s h { typ := 3 })) ∧
    (pairState s h = 1 ∨ pairState s h = 2 → exec (.twinLinkLoss h) s = .next (enterLost s h) ∧
      exec (.journalResend h) s = .next (sendEnts (fadd1 s F.TWN_HS_CNT_RESENT h (tw s h).jour.length) h (tw s h).jour.length (tw s h).jour)) ∧
    (nfind s.twin.fetches k = some g → exec (.fetchTimeout k) s = .next (fetchNone (fset (dropFetch s k) F.TWN_ERR_FETCH_MISS 0) g))

/-- Votes, fencing, and the TWN commands. -/
def Obligations.VotesFencingAndTakeover : Prop :=
  ∀ (s v w : State) (h : Fin 2) (r : TwinRx) (g q e l : Nat) (c : Word),
    (reached s h 8 = true → s.pins.outputsStopped = false → r.ok = true → fbit s F.TWN_CTL_EN 0 = true → r.f.node = fget s F.TWN_CTL_TWIN_NODE 0 →
      v = fadd1 s F.TWN_HS_CNT_FRAMES h 1 → w = twinAck v h r.f.ack →
      (r.f.typ = 4 → fenced w h = false → fget w F.TWN_LEAD_LEADER 0 = h → e = r.f.jsn % 2 ^ 32 → q = r.f.arg % 2 →
        (w.twin.vote = none ∨ (w.twin.vote = some (g, l) ∧ epochNewer e g = true) → ∀ u, u = { w with twin := { w.twin with vote := some (e, q) } } →
          exec (.voteReq h r) s = .next (twinSend u h { typ := 5, jsn := e, arg := 4 * q })) ∧
        (w.twin.vote = some (e, q) → epochNewer e e = false → exec (.voteReq h r) s = .next (twinSend w h { typ := 5, jsn := e, arg := 4 * q })) ∧
        (w.twin.vote = some (g, l) → epochNewer e g = false → ¬ (e = g ∧ q = l) → exec (.voteReq h r) s = .next (twinSend w h { typ := 5, jsn := e, arg := 1 + 4 * l }))) ∧
      (r.f.typ = 5 → (tw w h).suspended = true → (tw w h).ask ≠ 0 → r.f.jsn = (tw w h).ask →
        (r.f.arg = 0 → exec (.vote h r) s = .next (lead w h r.f.jsn)) ∧
        (r.f.arg % 4 = 1 → exec (.vote h r) s = .next (fence (fset w F.TWN_ERR_VOTE_LOST 0) h)))) ∧
    ((tw s h).suspended = true → (tw s h).ask ≠ 0 → exec (.voteRetry h) s = .next (sendVoteReq s h (tw s h).ask false) ∧
      exec (.voteTimeout h) s = .next (fence (fset s F.TWN_ERR_VOTE_LOST 0) h)) ∧
    (s.twin.lost = false → fbit s F.TWN_LEAD_D2D_UP 0 = true → v = cutHalves s → e = (fget v F.TWN_LEAD_LEPOCH 0 + 1) % 2 ^ 32 →
      (fbit v F.TWN_CTL_EN 0 = false → exec .d2dLoss s = .next (fence (lead v 0 e) 1)) ∧
      (fbit v F.TWN_CTL_EN 0 = true → (∀ t u, t = twUpd v 0 (fun x => { x with suspended := true, ask := e }) → u = twUpd t 1 (fun x => { x with suspended := true, ask := e }) →
        exec .d2dLoss s = .next (sendVoteReq u (fget u F.TWN_LEAD_LEADER 0) e false)))) ∧
    (fbit s F.TWN_CTL_FENCE_MODE 0 = false → fenced (fence s h) h = true ∧ fget (fence s h) F.FAB_PORT_STAT_LINK (3 * h) = 0) ∧
    (l = fget s F.TWN_LEAD_LEADER 0 → s.twin.lost = true → fenced s (1 - l) = true → fenced s l = false → (tw s l).suspended = false → fbit s F.TWN_CTL_FENCE_MODE 0 = false →
      exec .d2dReturn s = .next (halfRejoin s (1 - l))) ∧
    (s.twin.lost = true → fenced s h = true → exec (.fenceHoldEnd h) s = .next (askedHalf s h)) ∧
    (∀ n t u, twnHead s 1 = some c → h.val = bget c 59 1 → takeRefusal s h (bbit c 58) = 0 → takeAll s h 0 (tw s h).mir = (n, t) →
      u = fput (twnDone (fput t F.TWN_CMD_STAT_ENTRIES 0 n) 0) F.TWN_HS_STAT_MIRROR_OK h 0 →
      exec .twnTakeover s = .next (let y := twUpd u h (fun x => { x with mir := [], mirReg := [], mirMap := [], taken := x.before })
      if heldHalf y h then enterSync y h else y)) ∧
    (twnHead s 2 = some c → h.val = bget c 59 1 → pairState s h ≠ 0 → exec .twnResync s = .next (twnDone (enterSync s h) 0))

/-- Poison, repair, the INT commands, tests in service, and ageing. -/
def Obligations.IntegrityTestAndAgeingComplete : Prop :=
  ∀ (s v w : State) (k row n : Nat) (st : Fin 8) (bank : Fin 512) (t : Fin 512) (i : Fin 566) (val : Word) (p : Probe) (c0 c1 : Nat),
    (frameUse s k = 4 → stackRetired s (addrStack (keyAddr k)) = false → stroking s (addrStack (keyAddr k)) = false →
      exec (.poisonTest k [] false) s = .next (clearPoison s k)) ∧
    (fbit s F.INT_CTL_REPAIR_EN 0 = true → stackRetired s st = false → stroking s st = false → 2 ≤ rowFails s st bank row →
      exec (.rowRepair st bank row) s = .next (repairRow s st bank row).2) ∧
    (∀ u, u = intDone s n → fget u F.INT_CMD_STAT_RESULT 0 = n % 2 ^ F.INT_CMD_STAT_RESULT.w ∧ fbit u F.INT_CMD_STAT_BUSY 0 = false ∧
      fget u F.INT_CMD_STAT_SEQ 0 = (fget s F.INT_CMD_STAT_SEQ 0 + 1) % 256 ∧ u.int0 = { s.int0 with op := 0, arg := 0 }) ∧
    (intHead s 1 = true → s.int0.arg < fget s F.TIE_OBJ_BASE_COUNT 0 → oState (obj s s.int0.arg) = 1 →
      (∀ f, f ∈ objFrames s s.int0.arg → addrTier (keyAddr f) = 1) → covered s (objFrames s s.int0.arg) = false →
      exec .intSeal s = .next (intDone { s with syn := s.syn.filter (fun e => !(objFrames s s.int0.arg).contains (e.1 / 1024)) } 0)) ∧
    (intHead s 2 = true → exec .intAudit s = .next { s with int0 := { s.int0 with begun := true, filter := [], orphans := unnamed s } }) ∧
    (s.int0.op = 2 → s.int0.begun = true → s.tie.share = [] → tableRefs s = [] → setRefs s = [] → (∀ f, f ∈ unnamed w → f ∉ s.int0.orphans) →
      w = shareRewrite (shareRewrite s 0) 1 → v = { w with int0 := { w.int0 with begun := false, filter := [], orphans := [] } } → exec .auditEnd s = .next (intDone (event v 0x29 1 561 0 0 0 0 0) 0)) ∧
    (intHead s 3 = true → s.int0.arg = t → islState s t ≠ 3 →
      v = tupd { s with int0 := { s.int0 with begun := true } } t (fun x => { x with testAll := true, segDone := 0, sigBad := none, passStart := s.now }) →
      exec .intTest s = .next (testIdle v t)) ∧
    (intHead s 4 = true → exec .intScrub s = .next (intDone (scrub s) 0)) ∧
    (fbit s F.INT_CTL_SCRUB_EN 0 = true → exec .scrubTimer s = .next (scrub s)) ∧
    (hostReach s = true → fget s F.GLB_STAT_PHASE 0 = 12 → fbit s F.INT_CTL_LOG_EN 0 = false → ∃ u, exec (.intLogBase val) s = .next u ∧
      fget u F.INT_LOG_BASE_BASE 0 = bget val 16 48 ∧ fget u F.INT_LOG_BASE_SIZE 0 = max 10 (min 20 (bget val 0 5)) ∧ fget u F.INT_LOG_HEAD_HEAD 0 = 0 ∧
      fget u F.INT_LOG_STAT_TAIL 0 = 0) ∧
    ((til s t).item = none → (til s t).taken = none → (til s t).loading = none → islState s t = 0 → fbit s F.INT_CTL_TEST_EN 0 = true → (til s t).deque = [] →
      fget s F.INT_TEST_IDLE_T 0 * 1000 ≤ tcyc s t - (til s t).idleCyc → exec (.testIdle t) s = .next (fput s F.ISL_CLK_STAT_STATE t 2)) ∧
    (islState s t = 2 → (til s t).bad = [] → v = tupd { s with fresh := s.fresh + 1 } t (fun x => segJunk x (s.fresh + 1)) → (til s t).sigBad = none →
      (val = Config.testSignature (til s t).segDone → exec (.testSegmentEnd t val) s = .next (segNext v t)) ∧
      (val ≠ Config.testSignature (til s t).segDone → exec (.testSegmentEnd t val) s =
        .next (tupd (fadd1 v F.INT_TEST_STAT_FAILS 0 1) t (fun x => { x with sigBad := some val })))) ∧
    (∀ g u, islState s t = 2 → (til s t).bad = [] → v = tupd { s with fresh := s.fresh + 1 } t (fun x => segJunk x (s.fresh + 1)) → (til s t).sigBad = some g →
      val ≠ Config.testSignature (til s t).segDone → (til s t).testAll = false → u = event v 0x25 2 t 1 0 0 0 ((til s t).segDone % 65536 + val.toNat % 2 ^ 32 * 2 ^ 32) →
      exec (.testSegmentEnd t val) s = .next (tupd (retireTiller u t) t (fun x => { x with testAll := false, sigBad := none }))) ∧
    (fbit s F.AGE_CTL_EN 0 = true → w = fput (fput (fput s F.AGE_ISL_NOW_OSC p.isl (p.osc % 65536)) F.AGE_ISL_NOW_FREQ p.isl (islFreq s p.isl)) F.AGE_ISL_NOW_SLACK p.isl (p.slack % 65536).toNat →
      v = ageUpd w p.isl (fun x => { x with samples := x.samples ++ [{ t := timeMs w, f := islFreq s p.isl, slack := p.slack }] }) →
      exec (.ageSample [p]) s = .next (if islAdj p.isl && fbit v F.AGE_CTL_EMERG_EN 0 && decide (p.slack * 2 < fget v F.AGE_PLAN_GUARD_PS 0 * 8) then
        ageLimit (setCeil v p.isl (max (islMin p.isl) (fget v F.ISL_CLK_STAT_CEIL p.isl - 25))) p.isl p.slack else v)) ∧
    (v = (List.range 566).foldl planIsl s → exec .agePlan s = .next (fadd1 { v with age := { v.age with plans := v.age.plans + 1 } } F.AGE_STAT_PLANS 0 1)) ∧
    ((ageIsl s i).next = some (n, k) → (ageIsl s i).old = none → c0 = fget s F.AGE_ISL_PLAN_VOFF i → c1 = fget s F.ISL_CLK_STAT_CEIL i → v = ageUpd s i (fun x => { x with old := some (c0, c1) }) →
      (c0 < n → c1 < k → exec (.planApply i) s = .next (fput v F.AGE_ISL_PLAN_VOFF i n)) ∧ (n < c0 → k < c1 → exec (.planApply i) s = .next (setCeil v i k)))

/-- Resets, the start order, and discovery. -/
def Obligations.ResetsAndTheStartOrderComplete : Prop :=
  ∀ (s u v : State) (cause : Nat) (h : Fin 2) (val : Word) (o : StartObs) (d : Disc) (node boot slot : Nat),
    (u = deviceReset s cause → u.fuse = s.fuse ∧ u.image0 = s.image0 ∧ u.image1 = s.image1 ∧ u.flash.media = mediaKept s ∧ u.hostMem = s.hostMem ∧ u.pending = s.pending ∧
      u.mem = s.mem.filter (fun e => addrTier e.1 == 2) ∧ fget u F.GLB_RESET_CAUSE_CAUSE 0 = cause % 2 ^ F.GLB_RESET_CAUSE_CAUSE.w ∧
      (∀ r i, r ≠ .GLB_RESET_CAUSE → rword u r i = rword State.reset r i) ∧ (∀ c, cx u c = cx State.reset c) ∧ (∀ t, til u t = til State.reset t) ∧ (tw u h).boot ≠ 0) ∧
    (v = { s with pins := { s.pins with thermTrip := false, pwrAlert := false, outputsStopped := false } } → exec .powerOnReset s = .next (holdReset (deviceReset v 0))) ∧
    (v = { s with pins := { s.pins with sysRst := true } } → exec (.deviceReset false) s = .next (holdReset (deviceReset v 1))) ∧
    (v = { s with pins := { s.pins with perst := true } } → fbit s F.GLB_CFG_PERST_SCOPE 0 = false → exec (.deviceReset true) s = .next (holdReset (deviceReset v 2))) ∧
    (fbit s F.GLB_CFG_PERST_SCOPE 0 = true → exec .hostPortReset s = .next (hostPortReset s) ∧ (hostPortReset s).host.cfg = 0) ∧
    (deviceStarting s = false → halfStarting s 1 = false → exec (.halfReset 1) s = .next (Machine.halfReset (giveupOn s 1) 1) ∧
      (hostReach s = true → bget val 48 16 = 0xC9C9 → bget val 0 2 = 1 → exec (.glbReset val) s = .next (deviceReset (giveupOn (giveupOn (withdraw s) 0) 1) 3))) ∧
    (s.start.held = true → s.pins.thermTrip = false → ∃ t, exec .resetRelease s = .next t ∧ t.start.held = false ∧ t.now = 0 ∧ t.pins.sysRst = false ∧ t.pins.perst = false) ∧
    (s.start.held = false → s.pins.outputsStopped = false → o.pcie = false → o.half = none →
      (fget s F.GLB_STAT_PHASE 0 = 1 → o.ok = true → exec (.startStep o) s = .next (fput (stampStep s 1) F.GLB_STAT_PHASE 0 2)) ∧
      (fget s F.GLB_STAT_PHASE 0 = 3 → accepts s s.image0 = true → exec (.startStep o) s = .next (fput (beginPcie (stampStep (loadImage s s.image0 false) 3)) F.GLB_STAT_PHASE 0 5)) ∧
      (fget s F.GLB_STAT_PHASE 0 = 11 → registrars s = [] → registrars (windowsGo (goTo (stampStep s 11) 12)) = [] → ∀ t, t = windowsGo (goTo (stampStep s 11) 12) → exec (.startStep o) s =
        .next (cmpReserved (irq (fsetIf (fset t F.GLB_STAT_DISCOVERED 0) (!standalone t) F.GLB_STAT_NO_REG 0) 0 16) 16))) ∧
    (announces s = true →
      (registrars s ≠ [] → s.start.disc = none → slot = drawOf s 21 % max (fget s F.GLB_DISC_CTL_SLOTS 0) 1 →
        d = { frame := 0, slot := slot, reg0 := fget s F.GLB_DISC_CTL_REG0 0, reg1 := fget s F.GLB_DISC_CTL_REG1 0, tries := fget s F.GLB_DISC_CTL_TRIES 0 } →
        v = { s with start := { s.start with disc := some d } } → exec .discoveryFrame s = .next (bump (fput v F.GLB_DISC_STAT_SLOT 0 slot))) ∧
      (s.start.disc = some d → d.sent = false → d.reg0 ≠ 65535 → d.reg1 = 65535 → v = { s with start := { s.start with disc := some { d with sent := true } } } →
        exec .announce s = .next (deviceSend v 5 0 d.reg0 3 (discMsg v 1 d.frame)))) ∧
    (v = takeStew s 2 → announces v = true → node = fget v F.FAB_NODE_NODE 0 → boot = (tw v 0).boot → v.start.disc = some d →
      u = fset { v with start := { v.start with disc := none } } F.GLB_STAT_DISCOVERED 0 →
      exec (.registered node boot) s = .next (cmpReserved (irq (fput u F.GLB_DISC_STAT_REG_MS 0 (msNow u % 2 ^ 32)) 0 16) 16)) ∧
    (∃ t, exec .backoff s = .next t ∧ t = { s with fab := { s.fab with stew := t.fab.stew } }) ∧
    (fbit s F.GLB_STAT_DISCOVERED 0 = true → fget s F.GLB_DISC_STAT_REG_MS 0 ≠ 0 → registrars s = [node] → exec .heartbeat s = .next (deviceSend s 5 0 node 3 (discMsg s 4 0)))

/-- Requests of host software. -/
def Obligations.HostRequestsAreTakenAndAnswered : Prop :=
  ∀ (s v w : State) (ring : Fin 256) (fn : Fin 64) (k : Fin 4) (val : Word) (e x c h a i : Nat) (d : Desc) (r : OpenReq) (ws : List Nat),
    (reqHead s ring = some e → (∀ i, w = reqTake s ring i e → v = reqRefuse w ring e rqFORMAT → i = 1 → bits e 0 8 = 2 →
        exec (.openExt ring) s = .next (reqReserved v ring (reqSize s ring))) ∧
      (bits e 0 8 = 1 → bits e 8 1 = 1 → (fget s F.HST_REQ_PTR_DEV ring + 1) % reqSize s ring ≠ fget s F.HST_REQ_PTR_HOST ring →
        x = reqEntry s ring (fget s F.HST_REQ_PTR_DEV ring + 1) → bits x 0 8 = 2 → w = reqTake s ring 2 e → openFormat e x = false →
        fbit w F.HST_FN_OPEN_EN (ring / 4) = true → bits (fget w F.HST_FN_PARTS (ring / 4)) (bits e 227 3) 1 = 1 → openCtxReq w (openReq w ring e x) = (rqOK, c, v) →
        exec (.openCtx ring) s = .next (reqReserved (reqAnswer v ring e rqOK c (dg (cx v c).d D.INCARNATION) 0) ring (reqSize s ring))) ∧
      (w = reqTake s ring 1 e →
        (bits e 0 8 = 3 → appendFormat e = false → reqCtx w ring e = some c → w.descBad = [] → d = (cx w c).d → dg d D.STATE = stOPEN → dg d D.LENGTH + bits e 128 32 ≤ dg d D.MAX_LEN →
          appendWords w e = some ws → ws.any (fun w => decide (2 ^ 20 ≤ w)) = false → v = (if ws.isEmpty then w else appendTo w c ws) →
          exec (.append ring) s = .next (reqReserved (reqAnswer (if bits e 8 1 = 1 then closePrompt v c else v) ring e rqOK c (dg d D.INCARNATION) (dg d D.LENGTH + ws.length))
            ring (reqSize s ring))) ∧
        (bits e 0 8 = 4 → modifyFormat e = false → reqCtx w ring e = some c → exec (.modify ring) s =
          .next (reqReserved (setQueue w (ctxHalf c) (schQueue w (ctxHalf c) ++ [.modify (ring / 4) (reqCring ring e) (toBytes 64 e)])) ring (reqSize s ring))) ∧
        (bits e 0 8 = 5 → cancelFormat e = false → reqCtx w ring e = some c → c = bits e 64 18 → v = (cancelCtx w c).2 →
          ((cancelCtx w c).1 = anACCEPTED → exec (.cancel ring) s =
            .next (reqReserved (reqAnswer (ownerMsg v (cx w c).d 3 endCANCELLED 0) ring e rqOK c (bits e 96 16) 0) ring (reqSize s ring))) ∧
          ((cancelCtx w c).1 ≠ anACCEPTED → exec (.cancel ring) s = .next (reqReserved (reqAnswer v ring e rqALREADY c (bits e 96 16) 0) ring (reqSize s ring)))) ∧
        (bits e 0 8 = 6 → readFormat e = false → reqCtx w ring e = some c → c = bits e 64 18 → w.descBad = [] → named w c (bits e 96 16) = true → d = (cx w c).d → dg d D.STATE ≠ stCLOSED →
          bits e 128 32 + bits e 160 32 ≤ dg d D.LENGTH → badFrom w c (bits e 128 32) (bits e 160 32) = none →
          v = hostWrite w (bits e 192 64) (((List.range (bits e 160 32)).map (fun i => logWord w c (bits e 128 32 + i))).flatMap (fun w => toBytes 4 w.toNat)) →
          exec (.readLog ring) s = .next (reqReserved (answer v (reqCring ring e) (bits e 32 32) 6 rqOK c (bits e 96 16) 0) ring (reqSize s ring))))) ∧
    (h = openHalf s r.half → fbit s F.CTX_CTL_OPEN_EN h = true → kindOk s (dg r.d D.KIND) = true → openRefusal s h r.d = none → r.stopIova = 0 →
      takePt s h (ptBytes (dStreams r.d) (dg r.d D.PPS)) = some (a, w) → c = lowDesc s h →
      (∀ (y : Ctx) (aux : Option Nat) (u : State), y = openCtxOf r 0 → dStreams y.d = dStreams r.d → dg y.d D.PPS = dg r.d D.PPS →
        aux = (if needsAux w y.d then anyFrame w h else none) → u = aux.elim w (fun k => setUse w k 6) → openCtxReq s r = (rqOK, c, cxChange u c { y with
          d := ds (ds (ds (ds y.d D.SPAN_PT a) D.LOG_DIR a) D.AUX ((aux.map keyAddr).getD 0)) D.INCARNATION (dg (cx u c).d D.INCARNATION + 1) } []))) ∧
    (i = bget val 0 16 → hostReach s = true → ringEn s .req (4 * fn + k) = true → i < ringSize s .req (4 * fn + k) → w = setHost s .req (4 * fn + k) i →
      exec (.requestDoorbell fn k val) s = .next (reqReserved w (4 * fn + k) (reqSize s (4 * fn + k))))

/-- Rings and requests of the host port. -/
def Obligations.RingsOfTheHostPortComplete : Prop :=
  ∀ (s v w : State) (n : Fin 256) (fn : Fin 64) (k : Fin 4) (kind : RingKind) (val : Word) (i j iova len c : Nat) (x : TxEnt) (e : SpillEnt),
    (i = bget val 0 16 → hostReach s = true →
      (∀ m, m = 4 * fn.val + k → ringEn s .cpl m = true → i < ringSize s .cpl m →
        v = setHost (setCpl s m { cplOf s m with used := (cplOf s m).used - (i + cplSize s m - fget s F.HST_CPL_PTR_HOST m) % cplSize s m }) .cpl m i →
        exec (.completionHeadDoorbell fn k val) s = .next ((List.range 4).foldl (fun s j => reqReserved s (m / 4 * 4 + j) (reqSize s (m / 4 * 4 + j))) v)) ∧
      (ringEn s .rx fn = true → i < ringSize s .rx fn → exec (.rxTailDoorbell fn val) s = .next (rxFlush (setHost s .rx fn i) fn (rxQueue s fn).length)) ∧
      (ringEn s .tx fn = true → i < ringSize s .tx fn → exec (.txTailDoorbell fn val) s = .next (txTakes (setHost s .tx fn i) fn (ringSize s .tx fn)))) ∧
    (halfQuiet s 0 = false → txList s fn = [x] → x.st ≠ 0 → i = fget s F.HST_TX_BASE_BASE fn * 4096 + 64 * x.idx → exec (.transmitFrameDone fn) s =
      .next (irq (hostWrite (hostWrite (txPut s fn []) (i + 16) (toBytes 1 (x.st - 1))) (i + 60) (toBytes 4 (5 + x.phase * 2 ^ 31))) fn 5)) ∧
    (halfQuiet s 0 = false → cplFree s n = true → s.host.spill = [e] → e.ring = n → exec (.spillDrain n) s =
      .next (cplWrite (setSpill s []) n 1 (memBytes s (fget s F.HST_SPILL_BASE 0 * 65536 + 64 * e.slot) 60))) ∧
    (fbit s F.HST_CPL_CTL_EN n = true → (cplOf s n).coal ≠ 0 → fget s F.HST_CPL_CTL_COAL_US n ≠ 0 → exec (.coalesceTimer n) s = .next (cplSignal s n)) ∧
    (hostReach s = true → n.val < ringCount kind →
      (ringEn s kind n = false → bbit val 63 = true → exec (.ringCtl kind n val) s = .next (ringStart (plain s (ringCtlReg kind) n val) kind n)) ∧
      (ringEn s kind n = true → bbit val 63 = false → ∃ u, exec (.ringCtl kind n val) s = .next u ∧ ringEn u kind n = false)) ∧
    (w = recordsGone (ringsOff s fn) fn → ctxsOf w 0 ++ ctxsOf w 1 = [c] → (cx w c).fn = fn → cstate w c ≠ stFREE → exec (.flr fn) s =
      .next (if cstate w c = stDRAINING ∨ cstate w c = stCLOSED then cxUpd w c (fun x => { x with norec := true })
        else ownerMsg (cancelCtx (cxUpd w c (fun x => { x with norec := true })) c).2 (cx w c).d 3 endCANCELLED 0)) ∧
    (hostReach s = true → s.pins.outputsStopped = false → exec (.atsInvalidation iova len) s = .next { s with out := { s.out with ats := s.out.ats ++ [(iova, len)] } }) ∧
    (s.start.held = false → exec .configurationRequest s = .next { s with out := { s.out with cfgStatus := s.host.cfg } })

/-- Management over MCTP. The version number and refusal codes are free values (log entry 25). -/
def Obligations.ManagementCommandsAreAnswered : Prop :=
  ∀ (s v : State) (cmd watts off : Nat) (bs : List Byte) (eid : Byte),
    (s.pins.outputsStopped = false → mctpAnswer s cmd bs = { s with out := { s.out with mctp := s.out.mctp ++ [(cmd, 0 :: bs)] } }) ∧
    (mctpUp s = true →
      (eid ≠ 0 → eid ≠ 0xFF → ∃ u, exec (.setEndpointId eid) s = .next u ∧ u = mctpAnswer (fput s F.HST_MCTP_EID 0 eid.toNat) 257 [0, eid, 0] ∧
        (s.pins.outputsStopped = false → fget u F.HST_MCTP_EID 0 = eid.toNat)) ∧
      exec .getEndpointId s = .next (mctpAnswer s 258 [BitVec.ofNat 8 (fget s F.HST_MCTP_EID 0), 0, 0]) ∧
      exec .getMctpVersionSupport s = .next (mctpAnswer (bump s) 260 (1 :: toBytes 4 (choiceOf s 33))) ∧
      exec .getMessageTypeSupport s = .next (mctpAnswer s 261 [1, 0x7E]) ∧
      exec .getIdentity s = .next (mctpAnswer s 1 (toBytes 8 (regView s .GLB_ID 0).toNat ++ toBytes 8 (regView s .GLB_SERIAL 0).toNat ++
        toBytes 8 (regView s .GLB_CFG 0).toNat ++ toBytes 8 (regView s .GLB_STAT 0).toNat)) ∧
      exec .getHealth s = .next (mctpAnswer s 2 (healthPage s)) ∧
      exec .getThermal s = .next (mctpAnswer s 3 ((List.range 2).flatMap (fun h => toBytes 2 (nget (fun _ => 0) s.gov.tempHalf h)) ++
        (List.range 8).flatMap (fun st => toBytes 2 (nget (fun _ => 0) s.gov.tempStack st)))) ∧
      exec .getPower s = .next (mctpAnswer s 4 (toBytes 2 s.gov.draw ++ toBytes 2 s.gov.limit)) ∧
      (900 ≤ watts → watts ≤ 2400 → s.pins.pwrBrake = false → exec (.setPowerLimit watts) s = .next (mctpAnswer { s with gov := { s.gov with limit := watts } } 5 [])) ∧
      (v = mctpAnswer s 6 [] → deviceStarting v = false → exec (.mctpReset 0xC9C9) s = .next (deviceReset (giveupOn (giveupOn (withdraw v) 0) 1) 4)) ∧
      (off < 0xF00000 ∨ (0x1000000 ≤ off ∧ off < 0x4000000) → off % 8 = 0 → exec (.readReg off) s =
        .next (mctpAnswer (hostRead s 0 off).2 7 (toBytes 8 (hostRead s 0 off).1.toNat))))

/-- Quotes, key commands, and the test port. -/
def Obligations.SecurityAndTestPortComplete : Prop :=
  ∀ (s v w : State) (val : Word) (c code : Nat) (m : List Byte) (pins : List Bool),
    (hostReach s = true → fget s F.GLB_STAT_PHASE 0 = 12 → bbit val 0 = true → fbit s F.SEC_QUOTE_BUSY 0 = false →
      ∃ u, exec (.secQuote val) s = .next u ∧ u.sec.quote = some (quoteMsg s) ∧ fbit u F.SEC_QUOTE_BUSY 0 = true) ∧
    (s.sec.quote = some m → ∃ u, exec .quoteDone s = .next u ∧ u.sec.quote = none ∧ fbit u F.SEC_QUOTE_BUSY 0 = false ∧
      ∀ n, n < 12 → rword u .SEC_SIG n = Config.signature s.keys.identity m s.fresh n) ∧
    (secHead s 1 = some 0xC9C9 → exec .zeroise s = .next (zeroised s)) ∧
    (v = giveupOn (giveupOn s 0) 1 → zeroised s = deviceReset { v with keys := {} } 3 ∧ (zeroised s).keys = {}) ∧
    (secHead s 2 = some c → fget s F.FLS_STAT_STATE 0 = 4 ∨ (flashUp s = true ∧ slowFree s 2 = flashFrames s) → geometryOk s = true →
      v = flsLog (flsFormat s true) (fun l => { powerOn := l.powerOn, hist := l.hist }) → w = flsMounted v → exec .eraseMedia s = .next (secDone w 0)) ∧
    (secHead s 3 = some c → hostFails s (fget s F.SEC_TOKEN_ADDR 0 * 64) 128 = false → v = { s with fuse := { s.fuse with debugged := true }, sec := { s.sec with chains := 1 } } →
      exec .debugUnlock s = .next (if Config.tokenVerifies (token s) s.fuse.serial ((List.range 4).map (rword s .SEC_NONCE)) = true then zeroised v else secDone s 1)) ∧
    (w = secDone s c → w.sec.cmd = none ∧ fbit w F.SEC_CMD_STAT_BUSY 0 = false ∧ fget w F.SEC_CMD_STAT_RESULT 0 = c % 2 ^ F.SEC_CMD_STAT_RESULT.w) ∧
    exec (.bypass code) s = .next { s with out := { s.out with jtag := s.out.jtag ++ [false] } } ∧
    exec .idcode s = .next { s with out := { s.out with jtag := s.out.jtag ++ (List.range 32).map (fun i => bbit (rword s .SEC_JTAG_ID 0) i) } } ∧
    exec .samplePreload s =
      .next { s with out := { s.out with jtag := s.out.jtag ++ [!s.pins.sysRst, !s.pins.perst, !s.pins.thermTrip, !s.pins.pwrAlert, !s.pins.pwrBrake] } } ∧
    (s.pins.sysRst = true → exec (.extest pins) s = .next { s with pins := { s.pins with extest := some pins } }) ∧
    (s.pins.sysRst = false → exec (.extest pins) s = exec (.bypass code) s)
end

