-- ==== Sys2Proof/Laws/Bits.lean ====
section
/-!
SUPPORT. Laws of bit fields: each bit of a number with one field replaced, and what its fields read as.
-/

namespace Sys2Proof.Machine

theorem testBit_bits (x lo w j : Nat) : (bits x lo w).testBit j = (decide (j < w) && x.testBit (lo + j)) := by
  rw [bits, Nat.testBit_mod_two_pow, Nat.testBit_div_two_pow, Nat.add_comm]

/-- A number split at a field: what lies above it, the field, what lies below it. -/
theorem bits_split (x lo w : Nat) : x = x / 2 ^ (lo + w) * 2 ^ (lo + w) + bits x lo w * 2 ^ lo + x % 2 ^ lo := by
  have h1 : x = x / 2 ^ lo * 2 ^ lo + x % 2 ^ lo := by rw [Nat.mul_comm]; exact (Nat.div_add_mod _ _).symm
  have h2 : x / 2 ^ lo = x / 2 ^ (lo + w) * 2 ^ w + bits x lo w := by
    rw [bits, Nat.pow_add, ← Nat.div_div_eq_div_mul, Nat.mul_comm]
    exact (Nat.div_add_mod _ _).symm
  have h3 : x / 2 ^ (lo + w) * 2 ^ (lo + w) = x / 2 ^ (lo + w) * 2 ^ w * 2 ^ lo := by
    rw [Nat.mul_assoc, ← Nat.pow_add, Nat.add_comm w lo]
  rw [h3, ← Nat.add_mul, ← h2]
  exact h1

theorem setBits_eq (x lo w v : Nat) :
    setBits x lo w v = x / 2 ^ (lo + w) * 2 ^ (lo + w) + v % 2 ^ w * 2 ^ lo + x % 2 ^ lo := by
  have h := bits_split x lo w
  unfold setBits
  generalize bits x lo w * 2 ^ lo = a at *
  generalize x / 2 ^ (lo + w) * 2 ^ (lo + w) = b at *
  omega

/-- Bit by bit, a number with a field replaced. -/
theorem testBit_setBits (x lo w v j : Nat) :
    (setBits x lo w v).testBit j = if lo ≤ j ∧ j < lo + w then v.testBit (j - lo) else x.testBit j := by
  have hv : v % 2 ^ w < 2 ^ w := Nat.mod_lt _ (Nat.two_pow_pos w)
  have hx : x % 2 ^ lo < 2 ^ lo := Nat.mod_lt _ (Nat.two_pow_pos lo)
  have hlow : v % 2 ^ w * 2 ^ lo + x % 2 ^ lo < 2 ^ (lo + w) := by
    rw [Nat.add_comm lo w, Nat.pow_add]
    calc v % 2 ^ w * 2 ^ lo + x % 2 ^ lo < v % 2 ^ w * 2 ^ lo + 2 ^ lo := by omega
      _ = (v % 2 ^ w + 1) * 2 ^ lo := by rw [Nat.add_mul, Nat.one_mul]
      _ ≤ 2 ^ w * 2 ^ lo := Nat.mul_le_mul_right _ hv
  rw [setBits_eq, Nat.add_assoc, Nat.mul_comm (x / _), Nat.testBit_two_pow_mul_add _ hlow, Nat.mul_comm (v % _),
    Nat.testBit_two_pow_mul_add _ hx]
  by_cases h1 : j < lo + w
  · by_cases h2 : j < lo
    · rw [if_pos h1, if_pos h2, if_neg (by omega), Nat.testBit_mod_two_pow]
      simp [h2]
    · rw [if_pos h1, if_neg h2, if_pos (by omega), Nat.testBit_mod_two_pow]
      simp [show j - lo < w by omega]
  · rw [if_neg h1, if_neg (by omega), Nat.testBit_div_two_pow]
    congr 1
    omega

/-- The field replaced reads as what was put there. -/
theorem bits_setBits_self (x lo w v : Nat) : bits (setBits x lo w v) lo w = v % 2 ^ w := by
  apply Nat.eq_of_testBit_eq
  intro j
  rw [testBit_bits, testBit_setBits, Nat.testBit_mod_two_pow]
  by_cases h : j < w
  · simp [h]
  · simp [h]

/-- A field that shares no bit with the one replaced reads as before. -/
theorem bits_setBits_ne (x lo w v lo' w' : Nat) (h : lo' + w' ≤ lo ∨ lo + w ≤ lo') :
    bits (setBits x lo w v) lo' w' = bits x lo' w' := by
  apply Nat.eq_of_testBit_eq
  intro j
  rw [testBit_bits, testBit_bits, testBit_setBits]
  by_cases hj : j < w'
  · rw [if_neg (by omega)]
  · simp [hj]

theorem setBits_lt (x lo w v n : Nat) (hx : x < 2 ^ n) (h : lo + w ≤ n) : setBits x lo w v < 2 ^ n := by
  apply Nat.lt_pow_two_of_testBit
  intro j hj
  rw [testBit_setBits, if_neg (by omega)]
  exact Nat.testBit_lt_two_pow (Nat.lt_of_lt_of_le hx (Nat.pow_le_pow_right (by decide) hj))

theorem bget_bset_self {n : Nat} (x : BitVec n) (lo w v : Nat) (h : lo + w ≤ n) : bget (bset x lo w v) lo w = v % 2 ^ w := by
  rw [bget, bset, BitVec.toNat_ofNat, Nat.mod_eq_of_lt (setBits_lt _ _ _ _ _ x.isLt h), bits_setBits_self]

theorem bget_bset_ne {n : Nat} (x : BitVec n) (lo w v lo' w' : Nat) (hn : lo + w ≤ n) (h : lo' + w' ≤ lo ∨ lo + w ≤ lo') :
    bget (bset x lo w v) lo' w' = bget x lo' w' := by
  rw [bget, bset, BitVec.toNat_ofNat, Nat.mod_eq_of_lt (setBits_lt _ _ _ _ _ x.isLt hn), bits_setBits_ne _ _ _ _ _ _ h, bget]

theorem getLsbD_bset {n : Nat} (x : BitVec n) (lo w v j : Nat) :
    (bset x lo w v).getLsbD j = (decide (j < n) && if lo ≤ j ∧ j < lo + w then v.testBit (j - lo) else x.getLsbD j) := by
  rw [bset, BitVec.getLsbD_ofNat, testBit_setBits]
  rfl

theorem bits_lt (x lo w : Nat) : bits x lo w < 2 ^ w := Nat.mod_lt _ (Nat.two_pow_pos w)

theorem bget_lt {n : Nat} (x : BitVec n) (lo w : Nat) : bget x lo w < 2 ^ w := bits_lt _ _ _

theorem toBytes_length (n v : Nat) : (toBytes n v).length = n := by
  induction n generalizing v with
  | zero => rfl
  | succ n ih => simp [toBytes, ih]

/-- The bytes of a number spell it again, modulo their number. -/
theorem ofBytes_toBytes (n v : Nat) : ofBytes (toBytes n v) = v % 2 ^ (8 * n) := by
  induction n generalizing v with
  | zero => simp [toBytes, ofBytes, Nat.mod_one]
  | succ n ih =>
    rw [toBytes, ofBytes, ih, BitVec.toNat_ofNat, show 8 * (n + 1) = 8 + 8 * n by omega, Nat.pow_add, Nat.mod_mul]

end Sys2Proof.Machine
end

