-- ==== Sys2Proof/Laws/Map.lean ====
section
/-!
SUPPORT. Laws of sparse data by key: what a key reads as after a write, and that every operation keeps the canonical form.
-/

namespace Sys2Proof.Machine

variable {α : Type}

/-! ### Reads -/

theorem nget_nerase_ne (d : Nat → α) (m : NMap α) {k j : Nat} (h : j ≠ k) : nget d (nerase m k) j = nget d m j := by
  induction m with
  | nil => rfl
  | cons e r ih =>
    obtain ⟨i, v⟩ := e
    by_cases hi : i = k
    · subst hi
      have hj : ¬ i = j := fun e => h e.symm
      simp only [nerase] at ih ⊢
      simp [nget, hj, ih]
    · simp only [nerase] at ih ⊢
      simp [nget, hi, ih]

theorem nget_nerase_self (d : Nat → α) (m : NMap α) (k : Nat) : nget d (nerase m k) k = d k := by
  induction m with
  | nil => rfl
  | cons e r ih =>
    obtain ⟨i, v⟩ := e
    simp only [nerase] at ih ⊢
    by_cases hi : i = k
    · simp [hi, ih]
    · simp [nget, hi, ih]

theorem nget_ninsert_ne (d : Nat → α) (m : NMap α) {k j : Nat} (v : α) (h : j ≠ k) :
    nget d (ninsert m k v) j = nget d m j := by
  have hk : ¬ k = j := fun e => h e.symm
  induction m with
  | nil => simp [ninsert, nget, hk]
  | cons e r ih =>
    obtain ⟨i, w⟩ := e
    unfold ninsert
    split
    · simp [nget, hk]
    · simp [nget, ih]

theorem nget_ninsert_nerase (d : Nat → α) (m : NMap α) (k : Nat) (v : α) : nget d (ninsert (nerase m k) k v) k = v := by
  induction m with
  | nil => simp [nerase, ninsert, nget]
  | cons e r ih =>
    obtain ⟨i, w⟩ := e
    simp only [nerase] at ih ⊢
    by_cases hi : i = k
    · simp [hi, ih]
    · simp only [List.filter_cons, bne_iff_ne, ne_eq, hi, not_false_eq_true, if_true]
      unfold ninsert
      split
      · simp [nget]
      · simp [nget, hi, ih]

/-- Entries kept by their keys: a key that is kept reads as before, another reads as the default. -/
theorem nget_filter_key (d : Nat → α) (p : Nat → Bool) (m : NMap α) (k : Nat) :
    nget d (m.filter (fun e => p e.1)) k = if p k then nget d m k else d k := by
  induction m with
  | nil => simp [nget]
  | cons e r ih =>
    obtain ⟨j, v⟩ := e
    by_cases hj : j = k
    · subst hj
      by_cases hp : p j = true
      · simp [hp, nget]
      · simp only [List.filter_cons, hp]
        simpa [hp] using ih
    · by_cases hp : p j = true
      · simp [hp, nget, hj, ih]
      · simp only [List.filter_cons, hp, nget, hj, if_false]
        simpa using ih

/-! ### Writes to one key -/

theorem nerase_nerase (m : NMap α) (k : Nat) : nerase (nerase m k) k = nerase m k := by
  simp [nerase, List.filter_filter]

theorem nerase_ninsert (m : NMap α) (k : Nat) (v : α) : nerase (ninsert m k v) k = nerase m k := by
  induction m with
  | nil => simp [nerase, ninsert]
  | cons e r ih =>
    obtain ⟨i, w⟩ := e
    unfold ninsert
    simp only [nerase] at ih ⊢
    split
    · simp
    · simp only [List.filter_cons, ih]

/-- A second write to a key replaces the first. -/
@[simp] theorem nput_nput [DecidableEq α] (d : Nat → α) (m : NMap α) (k : Nat) (v w : α) :
    nput d (nput d m k v) k w = nput d m k w := by
  have e : nerase (nput d m k v) k = nerase m k := by
    unfold nput; split
    · exact nerase_nerase m k
    · rw [nerase_ninsert, nerase_nerase]
  unfold nput at e ⊢
  split <;> simp_all

@[simp] theorem nset_nset (m : NMap α) (k : Nat) (v w : α) : nset (nset m k v) k w = nset m k w := by
  simp only [nset, nerase_ninsert, nerase_nerase]

theorem nfind_ninsert_ne (m : NMap α) {k j : Nat} (v : α) (h : j ≠ k) : nfind (ninsert m k v) j = nfind m j := by
  have hk : ¬ k = j := fun e => h e.symm
  induction m with
  | nil => simp [nfind, ninsert, hk]
  | cons e r ih =>
    obtain ⟨i, w⟩ := e
    unfold ninsert
    simp only [nfind] at ih ⊢
    split
    · simp [List.find?_cons, hk]
    · by_cases hi : i = j
      · simp [hi]
      · simp [hi, ih]

theorem nfind_nerase_ne (m : NMap α) {k j : Nat} (h : j ≠ k) : nfind (nerase m k) j = nfind m j := by
  induction m with
  | nil => rfl
  | cons e r ih =>
    obtain ⟨i, w⟩ := e
    simp only [nfind, nerase] at ih ⊢
    rw [List.filter_cons]
    by_cases hi : i = k
    · rw [if_neg (by simp [hi]), ih, List.find?_cons_of_neg (by simp; omega)]
    · rw [if_pos (by simpa using hi)]
      by_cases hj : i = j
      · rw [List.find?_cons_of_pos (by simpa using hj), List.find?_cons_of_pos (by simpa using hj)]
      · rw [List.find?_cons_of_neg (by simpa using hj), List.find?_cons_of_neg (by simpa using hj), ih]

theorem nfind_nerase_self (m : NMap α) (k : Nat) : nfind (nerase m k) k = none := by
  simp [nfind, nerase, List.find?_eq_none]

theorem nfind_ninsert_self (m : NMap α) (k : Nat) (v : α) (h : nfind m k = none) : nfind (ninsert m k v) k = some v := by
  induction m with
  | nil => simp [nfind, ninsert]
  | cons e r ih =>
    obtain ⟨i, w⟩ := e
    have hi : i ≠ k := by intro hi; simp [nfind, hi] at h
    have hr : nfind r k = none := by simpa [nfind, List.find?_cons, hi] using h
    unfold ninsert
    split
    · simp [nfind]
    · simpa [nfind, List.find?_cons, hi] using ih hr

@[simp] theorem nfind_nset_self (m : NMap α) (k : Nat) (v : α) : nfind (nset m k v) k = some v :=
  nfind_ninsert_self _ _ _ (nfind_nerase_self m k)

theorem nfind_nset_ne (m : NMap α) {k j : Nat} (v : α) (h : j ≠ k) : nfind (nset m k v) j = nfind m j := by
  rw [nset, nfind_ninsert_ne _ _ h, nfind_nerase_ne _ h]


variable [DecidableEq α]

/-- A key reads as what was last written to it. -/
@[simp] theorem nget_nput_self (d : Nat → α) (m : NMap α) (k : Nat) (v : α) : nget d (nput d m k v) k = v := by
  unfold nput
  split
  · rename_i h
    rw [nget_nerase_self, h]
  · exact nget_ninsert_nerase d m k v

/-- Every other key reads as before. -/
theorem nget_nput_ne (d : Nat → α) (m : NMap α) {k j : Nat} (v : α) (h : j ≠ k) : nget d (nput d m k v) j = nget d m j := by
  unfold nput
  split
  · exact nget_nerase_ne d m h
  · rw [nget_ninsert_ne d _ v h, nget_nerase_ne d m h]

@[simp] theorem nget_nupd_self (d : Nat → α) (m : NMap α) (k : Nat) (f : α → α) : nget d (nupd d m k f) k = f (nget d m k) := by
  simp [nupd]

theorem nget_nupd_ne (d : Nat → α) (m : NMap α) {k j : Nat} (f : α → α) (h : j ≠ k) : nget d (nupd d m k f) j = nget d m j :=
  nget_nput_ne d m _ h

theorem nget_nputs_out (d : Nat → α) (a j : Nat) (vs : List α) (m : NMap α) (h : j < a ∨ a + vs.length ≤ j) :
    nget d (nputs d m a vs) j = nget d m j := by
  induction vs generalizing m a with
  | nil => rfl
  | cons v vs ih =>
    simp only [List.length_cons] at h
    rw [nputs, ih (a + 1) (nput d m a v) (by omega), nget_nput_ne d m v (by omega)]

theorem nget_nputs_in (d : Nat → α) (a i : Nat) (vs : List α) (m : NMap α) (h : i < vs.length) :
    nget d (nputs d m a vs) (a + i) = vs[i] := by
  induction vs generalizing m a i with
  | nil => simp at h
  | cons v vs ih =>
    cases i with
    | zero =>
      show nget d (nputs d (nput d m a v) (a + 1) vs) a = v
      rw [nget_nputs_out d (a + 1) a vs _ (by omega), nget_nput_self]
    | succ i =>
      have : a + (i + 1) = a + 1 + i := by omega
      simp only [List.length_cons] at h
      rw [nputs, this, ih (a + 1) i (nput d m a v) (by omega)]
      rfl

omit [DecidableEq α] in
theorem ngets_length (d : Nat → α) (m : NMap α) (a n : Nat) : (ngets d m a n).length = n := by
  induction n generalizing a with
  | zero => rfl
  | succ n ih => simp [ngets, ih]

omit [DecidableEq α] in
theorem ngets_congr (d : Nat → α) (m m' : NMap α) (a n : Nat) (h : ∀ j, a ≤ j → j < a + n → nget d m j = nget d m' j) :
    ngets d m a n = ngets d m' a n := by
  induction n generalizing a with
  | zero => rfl
  | succ n ih =>
    rw [ngets, ngets, h a (by omega) (by omega), ih (a + 1) (fun j h1 h2 => h j (by omega) (by omega))]

/-- Bytes written are read back. -/
theorem ngets_nputs_self (d : Nat → α) (m : NMap α) (a : Nat) (vs : List α) : ngets d (nputs d m a vs) a vs.length = vs := by
  apply List.ext_getElem
  · rw [ngets_length]
  · intro i h1 h2
    have key : ∀ (n b : Nat) (m : NMap α) (j : Nat) (hj : j < (ngets d m b n).length),
        (ngets d m b n)[j] = nget d m (b + j) := by
      intro n
      induction n with
      | zero => intro b m j hj; simp [ngets] at hj
      | succ n ih =>
        intro b m j hj
        cases j with
        | zero => rfl
        | succ j =>
          have e : b + (j + 1) = b + 1 + j := by omega
          simp only [ngets, List.getElem_cons_succ, e]
          exact ih (b + 1) m j _
    rw [key, nget_nputs_in d a i vs m h2]

/-! ### The canonical form -/

omit [DecidableEq α] in
theorem nerase_mem {m : NMap α} {k : Nat} {e : Nat × α} (h : e ∈ nerase m k) : e ∈ m ∧ e.1 ≠ k := by
  simpa [nerase] using h

/-- The canonical form, said of all entries at once. -/
theorem nwf_iff (d : Nat → α) (m : NMap α) :
    nwf d m = true ↔ m.Pairwise (fun a b => a.1 < b.1) ∧ ∀ e ∈ m, e.2 ≠ d e.1 := by
  induction m with
  | nil => simp [nwf]
  | cons e r ih =>
    obtain ⟨j, v⟩ := e
    cases r with
    | nil => simp [nwf]
    | cons e' r' =>
      obtain ⟨k, w⟩ := e'
      simp only [nwf, Bool.and_eq_true, decide_eq_true_eq, ih, List.pairwise_cons, List.mem_cons, forall_eq_or_imp]
      constructor
      · rintro ⟨⟨h1, h2⟩, ⟨h3, h4⟩, h5, h6⟩
        exact ⟨⟨⟨h2, fun e he => Nat.lt_trans h2 (h3 e he)⟩, h3, h4⟩, h1, h5, h6⟩
      · rintro ⟨⟨⟨h2, _⟩, h3, h4⟩, h1, h5, h6⟩
        exact ⟨⟨h1, h2⟩, ⟨h3, h4⟩, h5, h6⟩

theorem nwf_filter (d : Nat → α) (p : Nat × α → Bool) {m : NMap α} (h : nwf d m = true) : nwf d (m.filter p) = true := by
  rw [nwf_iff] at h ⊢
  exact ⟨h.1.filter p, fun e he => h.2 e ((List.mem_filter.mp he).1)⟩

theorem nwf_nerase (d : Nat → α) (k : Nat) {m : NMap α} (h : nwf d m = true) : nwf d (nerase m k) = true :=
  nwf_filter d _ h

omit [DecidableEq α] in
theorem ninsert_mem {m : NMap α} {k : Nat} {v : α} {e : Nat × α} (h : e ∈ ninsert m k v) : e = (k, v) ∨ e ∈ m := by
  induction m with
  | nil => simpa [ninsert] using h
  | cons x r ih =>
    obtain ⟨j, w⟩ := x
    unfold ninsert at h
    split at h
    · simpa using h
    · rcases List.mem_cons.mp h with rfl | h
      · simp
      · rcases ih h with rfl | h
        · simp
        · simp [h]

omit [DecidableEq α] in
theorem ninsert_sorted {m : NMap α} {k : Nat} (v : α) (h : m.Pairwise (fun a b => a.1 < b.1)) (hk : ∀ e ∈ m, e.1 ≠ k) :
    (ninsert m k v).Pairwise (fun a b => a.1 < b.1) := by
  induction m with
  | nil => simp [ninsert]
  | cons x r ih =>
    obtain ⟨j, w⟩ := x
    rw [List.pairwise_cons] at h
    have hj : j ≠ k := hk (j, w) (by simp)
    unfold ninsert
    split
    · rename_i hlt
      rw [List.pairwise_cons, List.pairwise_cons]
      refine ⟨?_, h⟩
      intro e he
      rcases List.mem_cons.mp he with rfl | he
      · exact hlt
      · exact Nat.lt_trans hlt (h.1 e he)
    · rename_i hge
      rw [List.pairwise_cons]
      refine ⟨?_, ih h.2 (fun e he => hk e (by simp [he]))⟩
      intro e he
      rcases ninsert_mem he with rfl | he
      · show j < k
        omega
      · exact h.1 e he

theorem nwf_nput (d : Nat → α) (k : Nat) (v : α) {m : NMap α} (h : nwf d m = true) : nwf d (nput d m k v) = true := by
  unfold nput
  split
  · exact nwf_nerase d k h
  · rename_i hv
    have he := nwf_nerase d k h
    rw [nwf_iff] at he ⊢
    refine ⟨ninsert_sorted v he.1 (fun e h => (nerase_mem h).2), fun e h => ?_⟩
    rcases ninsert_mem h with rfl | h
    · exact hv
    · exact he.2 e h

theorem nwf_nupd (d : Nat → α) (k : Nat) (f : α → α) {m : NMap α} (h : nwf d m = true) : nwf d (nupd d m k f) = true :=
  nwf_nput d k _ h

theorem nwf_nputs (d : Nat → α) (vs : List α) (a : Nat) {m : NMap α} (h : nwf d m = true) : nwf d (nputs d m a vs) = true := by
  induction vs generalizing m a with
  | nil => exact h
  | cons v vs ih => exact ih (a + 1) (nwf_nput d a v h)

/-- Entries written one after another. -/
theorem nwf_foldl_nput {β : Type} (d : Nat → α) (key : β → Nat) (val : β → α) (l : List β) {m : NMap α} (h : nwf d m = true) :
    nwf d (l.foldl (fun m e => nput d m (key e) (val e)) m) = true := by
  induction l generalizing m with
  | nil => exact h
  | cons e l ih => exact ih (nwf_nput d _ _ h)

omit [DecidableEq α] in
/-- Two rising lists with the same entries are the same list. -/
theorem sorted_ext {m m' : NMap α} (h : m.Pairwise (fun a b => a.1 < b.1)) (h' : m'.Pairwise (fun a b => a.1 < b.1))
    (e : ∀ x, x ∈ m ↔ x ∈ m') : m = m' := by
  induction m generalizing m' with
  | nil =>
    cases m' with
    | nil => rfl
    | cons y r' => exact absurd ((e y).mpr (by simp)) (by simp)
  | cons x r ih =>
    cases m' with
    | nil => exact absurd ((e x).mp (by simp)) (by simp)
    | cons y r' =>
      rw [List.pairwise_cons] at h h'
      have hxy : x = y := by
        rcases List.mem_cons.mp ((e x).mp (by simp)) with hx | hx
        · exact hx
        · rcases List.mem_cons.mp ((e y).mpr (by simp)) with hy | hy
          · exact hy.symm
          · exact absurd (h.1 y hy) (Nat.lt_asymm (h'.1 x hx))
      subst hxy
      have : r = r' := by
        refine ih h.2 h'.2 (fun z => ?_)
        constructor
        · intro hz
          rcases List.mem_cons.mp ((e z).mp (by simp [hz])) with rfl | hz'
          · exact absurd (h.1 z hz) (Nat.lt_irrefl _)
          · exact hz'
        · intro hz
          rcases List.mem_cons.mp ((e z).mpr (by simp [hz])) with rfl | hz'
          · exact absurd (h'.1 z hz) (Nat.lt_irrefl _)
          · exact hz'
      rw [this]

/-- Two maps in canonical form that read alike are the same data. -/
theorem nwf_ext (d : Nat → α) {m m' : NMap α} (h : nwf d m = true) (h' : nwf d m' = true)
    (e : ∀ k, nget d m k = nget d m' k) : m = m' := by
  have lookup : ∀ {m : NMap α}, nwf d m = true → ∀ k v, (k, v) ∈ m ↔ (nget d m k = v ∧ v ≠ d k) := by
    intro m h k v
    rw [nwf_iff] at h
    induction m with
    | nil =>
      simp only [List.not_mem_nil, nget, false_iff, not_and, ne_eq, Decidable.not_not]
      intro h; exact h.symm
    | cons x r ih =>
      obtain ⟨j, w⟩ := x
      have hs := List.pairwise_cons.mp h.1
      have ihr := ih ⟨hs.2, fun e he => h.2 e (by simp [he])⟩
      by_cases hj : j = k
      · subst hj
        simp only [List.mem_cons, Prod.mk.injEq, true_and, nget, if_true]
        constructor
        · rintro (rfl | hr)
          · exact ⟨rfl, h.2 (j, v) (by simp)⟩
          · exact absurd (hs.1 (j, v) hr) (by simp)
        · rintro ⟨rfl, _⟩
          exact .inl rfl
      · have hj' : ¬ k = j := fun e => hj e.symm
        simp only [List.mem_cons, Prod.mk.injEq, hj', false_and, false_or, nget, hj, if_false]
        exact ihr
  have sub : ∀ x : Nat × α, x ∈ m ↔ x ∈ m' := by
    rintro ⟨k, v⟩
    rw [lookup h, lookup h', e]
  rw [nwf_iff] at h h'
  exact sorted_ext h.1 h'.1 sub

end Sys2Proof.Machine
end

