-- ==== Sys2Proof/Laws/Regs.lean ====
section
/-!
SUPPORT. Laws of the register file: what fields read as after a write, and the reserved bits of registers.
-/

namespace Sys2Proof.Machine

/-! ### Keys -/

theorem all_getD_num (r : Reg) : Reg.all.getD r.num .GLB_ID = r := by cases r <;> rfl

theorem keyReg_rkey (r : Reg) (i : Nat) : keyReg (rkey r i) = r := by
  have h : (r.num * 65536 + i % 65536) / 65536 = r.num := by omega
  rw [keyReg, rkey, h, all_getD_num]

theorem rkey_inj {r r' : Reg} {i i' : Nat} (h : rkey r i = rkey r' i') : r = r' ∧ i % 65536 = i' % 65536 := by
  constructor
  · rw [← keyReg_rkey r i, h, keyReg_rkey]
  · unfold rkey at h
    omega

theorem rkey_ne {r r' : Reg} {i i' : Nat} (h : r ≠ r' ∨ i % 65536 ≠ i' % 65536) : rkey r' i' ≠ rkey r i := fun e =>
  h.elim (fun h => h (rkey_inj e.symm).1) (fun h => h (rkey_inj e.symm).2)

/-! ### Words and fields -/

@[simp] theorem rword_rput_self (s : State) (r : Reg) (i : Nat) (w : Word) : rword (rput s r i w) r i = w :=
  nget_nput_self ..

theorem rword_rput_ne (s : State) {r r' : Reg} {i i' : Nat} (w : Word) (h : r ≠ r' ∨ i % 65536 ≠ i' % 65536) :
    rword (rput s r i w) r' i' = rword s r' i' :=
  nget_nput_ne _ _ _ (rkey_ne h)

/-- A field written reads as the low bits of what was written. -/
theorem fget_fput_self (s : State) (f : Fld) (i v : Nat) (h : f.lo + f.w ≤ 64) : fget (fput s f i v) f i = v % 2 ^ f.w := by
  rw [fget, fput, rword_rput_self, bget_bset_self _ _ _ _ h]

/-- A field of another register, or of another instance, reads as before. -/
theorem fget_fput_reg (s : State) {f g : Fld} {i j : Nat} (v : Nat) (h : f.reg ≠ g.reg ∨ i % 65536 ≠ j % 65536) :
    fget (fput s f i v) g j = fget s g j := by
  rw [fget, fput, rword_rput_ne _ _ h, fget]

/-- Another field of the same register reads as before. -/
theorem fget_fput_field (s : State) {f g : Fld} {i : Nat} (v : Nat) (hr : f.reg = g.reg) (hn : f.lo + f.w ≤ 64)
    (h : g.lo + g.w ≤ f.lo ∨ f.lo + f.w ≤ g.lo) : fget (fput s f i v) g i = fget s g i := by
  rw [fget, fput, ← hr, rword_rput_self, bget_bset_ne _ _ _ _ _ _ hn h, fget, hr]

theorem fget_lt (s : State) (f : Fld) (i : Nat) : fget s f i < 2 ^ f.w := bget_lt _ _ _

/-! ### Reserved bits -/

/-- Every bit of a word lies in a field of the register. -/
def Reg.holds (r : Reg) (w : Word) : Prop := ∀ j, w.getLsbD j = true → r.mask.getLsbD j = true

/-- A field is one of its register's fields, or lies within them. -/
def Fld.ok (f : Fld) : Bool := decide (f.lo + f.w ≤ 64) && (w64 ((2 ^ f.w - 1) * 2 ^ f.lo) &&& ~~~ f.reg.mask == 0)

theorem Fld.ok_fits {f : Fld} (h : f.ok = true) : f.lo + f.w ≤ 64 := by
  simp only [Fld.ok, Bool.and_eq_true, decide_eq_true_eq] at h
  exact h.1

theorem fieldMask_bit {lo w j : Nat} (hj : j < 64) :
    (w64 ((2 ^ w - 1) * 2 ^ lo)).getLsbD j = decide (lo ≤ j ∧ j < lo + w) := by
  rw [w64, BitVec.getLsbD_ofNat, Nat.testBit_mul_two_pow, Nat.testBit_two_pow_sub_one]
  simp only [hj, decide_true, Bool.true_and]
  by_cases h1 : lo ≤ j <;> by_cases h2 : j < lo + w <;> simp [h1, h2] <;> omega

theorem Fld.ok_mask {f : Fld} (h : f.ok = true) {j : Nat} (h1 : f.lo ≤ j) (h2 : j < f.lo + f.w) :
    f.reg.mask.getLsbD j = true := by
  have hw := f.ok_fits h
  simp only [Fld.ok, Bool.and_eq_true, beq_iff_eq] at h
  have := congrArg (fun x : Word => x.getLsbD j) h.2
  have hj : j < 64 := by omega
  simp only [BitVec.getLsbD_and, BitVec.getLsbD_not, fieldMask_bit hj, hj, decide_true, Bool.true_and] at this
  simp [h1, h2] at this
  exact this

theorem Reg.holds_bset {r : Reg} {w : Word} (h : r.holds w) {lo k v : Nat}
    (hf : ∀ j, lo ≤ j → j < lo + k → r.mask.getLsbD j = true) : r.holds (bset w lo k v) := by
  intro j hj
  rw [getLsbD_bset] at hj
  split at hj
  · rename_i hr
    exact hf j hr.1 hr.2
  · exact h j (by simp at hj; exact hj.2)

theorem Reg.holds_and (r : Reg) (w : Word) : r.holds (w &&& r.mask) := by
  intro j hj
  simp only [BitVec.getLsbD_and, Bool.and_eq_true] at hj
  exact hj.2

theorem Reg.holds_zero (r : Reg) : r.holds 0 := by
  intro j hj
  simp at hj

theorem Reg.holds_full {r : Reg} (h : r.mask = BitVec.allOnes 64) (w : Word) : r.holds w := by
  intro j hj
  rw [h, BitVec.getLsbD_allOnes]
  exact decide_eq_true (BitVec.lt_of_getLsbD hj)

/-- Every bit of a number below 64 lies in a field of the register. -/
def Reg.holdsNat (r : Reg) (n : Nat) : Prop := ∀ j, j < 64 → n.testBit j = true → r.mask.getLsbD j = true

theorem Reg.holds_w64 {r : Reg} {n : Nat} (h : r.holdsNat n) : r.holds (w64 n) := by
  intro j hj
  have h64 := BitVec.lt_of_getLsbD hj
  rw [w64, BitVec.getLsbD_ofNat] at hj
  exact h j h64 (by simpa [h64] using hj)

theorem Reg.holdsNat_toNat {r : Reg} {w : Word} (h : r.holds w) : r.holdsNat w.toNat := fun j _ hj => h j hj

theorem Reg.holdsNat_setBits {r : Reg} {n lo k v : Nat} (h : r.holdsNat n) (hf : Fld.ok ⟨r, lo, k⟩ = true) :
    r.holdsNat (setBits n lo k v) := by
  intro j h64 hj
  rw [testBit_setBits] at hj
  split at hj
  · rename_i hr
    exact Fld.ok_mask hf hr.1 hr.2
  · exact h j h64 hj

/-- Every field of a register lies in its mask. -/
theorem Reg.fields_ok (r : Reg) : r.fields.all (fun f => Fld.ok ⟨r, f.lo, f.w⟩) = true := by
  cases r <;> rfl

theorem State.ReservedZero.holds {s : State} (h : s.ReservedZero) (r : Reg) (i : Nat) : r.holds (rword s r i) := by
  intro j hj
  have := h (rkey r i) j hj
  rwa [keyReg_rkey] at this

theorem rput_reservedZero {s : State} (h : s.ReservedZero) {r : Reg} {w : Word} (i : Nat) (hw : r.holds w) :
    (rput s r i w).ReservedZero := by
  intro k j hj
  by_cases hk : k = rkey r i
  · subst hk
    rw [keyReg_rkey]
    rw [show nget regDefault (rput s r i w).regs (rkey r i) = w from nget_nput_self ..] at hj
    exact hw j hj
  · rw [show nget regDefault (rput s r i w).regs k = nget regDefault s.regs k from nget_nput_ne _ _ _ hk] at hj
    exact h k j hj

/-- Registers with nothing written have no reserved bit set. -/
theorem regDefault_holds (k j : Nat) (h : (regDefault k).getLsbD j = true) : (keyReg k).mask.getLsbD j = true :=
  Reg.holds_and (keyReg k) (w64 ((keyReg k).resetNat (k % 65536))) j h

theorem rcCleared_holds {r : Reg} {v : Nat} {l : List FieldSpec} (hv : r.holdsNat v)
    (hl : l.all (fun f => Fld.ok ⟨r, f.lo, f.w⟩) = true) : r.holdsNat (rcCleared v l) := by
  induction l with
  | nil => exact hv
  | cons f l ih =>
    simp only [List.all_cons, Bool.and_eq_true] at hl
    unfold rcCleared
    split
    · exact Reg.holdsNat_setBits (ih hl.2) hl.1
    · exact ih hl.2

theorem fieldsWritten_holds {r : Reg} {old v : Nat} {l : List FieldSpec} (ho : r.holdsNat old)
    (hl : l.all (fun f => Fld.ok ⟨r, f.lo, f.w⟩) = true) : r.holdsNat (fieldsWritten old v l) := by
  induction l with
  | nil => exact ho
  | cons f l ih =>
    simp only [List.all_cons, Bool.and_eq_true] at hl
    exact Reg.holdsNat_setBits (ih hl.2) hl.1

theorem Reg.limits_ok (r : Reg) : r.limits.all (fun l => Fld.ok ⟨r, l.1, l.2.1⟩) = true := by
  cases r <;> rfl

/-- A write that is applied leaves the reserved bits 0 (R19). -/
theorem Reg.written_holds {r : Reg} {old : Word} (v : Word) (ho : r.holds old) : r.holds (r.written old v) := by
  unfold Reg.written
  refine Reg.holds_w64 ?_
  have h := fieldsWritten_holds (v := v.toNat) (Reg.holdsNat_toNat ho) r.fields_ok
  have hl := r.limits_ok
  generalize fieldsWritten old.toNat v.toNat r.fields = n at *
  generalize r.limits = l at *
  induction l generalizing n with
  | nil => exact h
  | cons x l ih =>
    simp only [List.all_cons, Bool.and_eq_true] at hl
    exact ih _ (Reg.holdsNat_setBits h hl.1) hl.2

theorem imageWord_holds {r : Reg} {old : Word} (w : Word) (ho : r.holds old) : r.holds (imageWord r old w) := by
  unfold imageWord
  have hl := r.fields_ok
  generalize r.fields = l at *
  induction l generalizing old with
  | nil => exact ho
  | cons f l ih =>
    simp only [List.all_cons, Bool.and_eq_true] at hl
    refine ih ?_ hl.2
    show r.holds (if f.rst = .image then bset old f.lo f.w (bget w f.lo f.w) else old)
    split
    · exact Reg.holds_bset ho (fun j h1 h2 => Fld.ok_mask hl.1 h1 h2)
    · exact ho

end Sys2Proof.Machine
end

