-- ==== Sys2Proof/Laws/Keeps.lean ====
section
/-!
SUPPORT. What every operation of the device keeps (`Keeps`): the queue, the fuses and boot images, the canonical form of the
sparse memories, and the reserved bits of registers. One lemma for each way an operation changes the state.
-/

namespace Sys2Proof.Machine

/-! ### Masks: sets of parts and registers as bits of a number -/

/-- Every bit of `a` is a bit of `b`. -/
def sub (a b : Nat) : Bool := Nat.beq (Nat.land a b) a

/-- The bit of a part of the state. -/
def SField.num (f : SField) : Nat := f.ctorIdx

/-- The bit of a register. -/
def bitOf (r : Reg) : Nat := 2 ^ 64 * (2 ^ (r.num / 2) * 2 ^ (r.num - r.num / 2))

theorem bitOf_eq (r : Reg) : bitOf r = 2 ^ (64 + r.num) := by
  rw [bitOf, ← Nat.pow_add, ← Nat.pow_add]; congr 2; omega

theorem sub_iff {a b : Nat} : sub a b = true ↔ ∀ k, a.testBit k = true → b.testBit k = true := by
  have e : sub a b = true ↔ a &&& b = a := by
    rw [sub, Nat.beq_eq]; rfl
  rw [e]
  constructor
  · intro h k hk
    rw [← h, Nat.testBit_and] at hk
    simp only [Bool.and_eq_true] at hk
    exact hk.2
  · intro h
    apply Nat.eq_of_testBit_eq
    intro k
    rw [Nat.testBit_and]
    cases hk : a.testBit k with
    | false => rfl
    | true => rw [h k hk]; rfl

theorem sub_trans {a b c : Nat} (h : sub a b = true) (w : sub b c = true) : sub a c = true :=
  sub_iff.2 fun k hk => sub_iff.1 w k (sub_iff.1 h k hk)

theorem sub_reg {r : Reg} {W : Nat} : sub (bitOf r) W = true ↔ W.testBit (64 + r.num) = true := by
  rw [sub_iff, bitOf_eq]
  constructor
  · intro h; exact h _ (by rw [Nat.testBit_two_pow]; simp)
  · intro h k hk
    rw [Nat.testBit_two_pow] at hk
    simp only [decide_eq_true_eq] at hk
    rw [← hk]; exact h

/-- Every register. -/
def allRegs : Nat :=
  0x1ffffffffffffffffffffffffffffffffffffffffffffffffffffffffffffffff0000000000000000

theorem allRegs_bit (r : Reg) : allRegs.testBit (64 + r.num) = true := by cases r <;> rfl

theorem sub_any {r : Reg} {b c : Nat} (h : sub allRegs b = true) (w : sub b c = true) : sub (bitOf r) c = true :=
  sub_trans (sub_trans (sub_reg.2 (allRegs_bit r)) h) w

/-- A state with the parts of a mask, and the register file, blanked. -/
def State.view (W : Nat) (s : State) : State :=
  { s with
    pending := cond (W.testBit 0) ({} : State).pending s.pending
    fresh := cond (W.testBit 1) ({} : State).fresh s.fresh
    now := cond (W.testBit 2) ({} : State).now s.now
    gtime := cond (W.testBit 3) ({} : State).gtime s.gtime
    fuse := cond (W.testBit 5) ({} : State).fuse s.fuse
    image0 := cond (W.testBit 6) ({} : State).image0 s.image0
    image1 := cond (W.testBit 7) ({} : State).image1 s.image1
    pins := cond (W.testBit 8) ({} : State).pins s.pins
    keys := cond (W.testBit 9) ({} : State).keys s.keys
    isl := cond (W.testBit 10) ({} : State).isl s.isl
    gov := cond (W.testBit 11) ({} : State).gov s.gov
    age := cond (W.testBit 12) ({} : State).age s.age
    mem := cond (W.testBit 13) ({} : State).mem s.mem
    syn := cond (W.testBit 14) ({} : State).syn s.syn
    hostMem := cond (W.testBit 15) ({} : State).hostMem s.hostMem
    hostBad := cond (W.testBit 16) ({} : State).hostBad s.hostBad
    tie := cond (W.testBit 17) ({} : State).tie s.tie
    int0 := cond (W.testBit 18) ({} : State).int0 s.int0
    til := cond (W.testBit 19) ({} : State).til s.til
    shf := cond (W.testBit 20) ({} : State).shf s.shf
    host := cond (W.testBit 21) ({} : State).host s.host
    sch := cond (W.testBit 22) ({} : State).sch s.sch
    ctx := cond (W.testBit 23) ({} : State).ctx s.ctx
    descBad := cond (W.testBit 24) ({} : State).descBad s.descBad
    cows := cond (W.testBit 25) ({} : State).cows s.cows
    bnk := cond (W.testBit 26) ({} : State).bnk s.bnk
    pools := cond (W.testBit 27) ({} : State).pools s.pools
    fab := cond (W.testBit 28) ({} : State).fab s.fab
    rows := cond (W.testBit 29) ({} : State).rows s.rows
    flash := cond (W.testBit 30) ({} : State).flash s.flash
    lat := cond (W.testBit 31) ({} : State).lat s.lat
    cmp := cond (W.testBit 32) ({} : State).cmp s.cmp
    meter := cond (W.testBit 33) ({} : State).meter s.meter
    port := cond (W.testBit 34) ({} : State).port s.port
    twin := cond (W.testBit 35) ({} : State).twin s.twin
    start := cond (W.testBit 36) ({} : State).start s.start
    sec := cond (W.testBit 37) ({} : State).sec s.sec
    stamp := cond (W.testBit 38) ({} : State).stamp s.stamp
    out := cond (W.testBit 39) ({} : State).out s.out
    regs := [] }

/-- The same, written with `match`: a state is compared with another part by part without looking into the parts
that are blanked. -/
def State.view2 (W : Nat) (s : State) : State :=
  { s with
    pending := match W.testBit 0 with | true => ({} : State).pending | false => s.pending
    fresh := match W.testBit 1 with | true => ({} : State).fresh | false => s.fresh
    now := match W.testBit 2 with | true => ({} : State).now | false => s.now
    gtime := match W.testBit 3 with | true => ({} : State).gtime | false => s.gtime
    fuse := match W.testBit 5 with | true => ({} : State).fuse | false => s.fuse
    image0 := match W.testBit 6 with | true => ({} : State).image0 | false => s.image0
    image1 := match W.testBit 7 with | true => ({} : State).image1 | false => s.image1
    pins := match W.testBit 8 with | true => ({} : State).pins | false => s.pins
    keys := match W.testBit 9 with | true => ({} : State).keys | false => s.keys
    isl := match W.testBit 10 with | true => ({} : State).isl | false => s.isl
    gov := match W.testBit 11 with | true => ({} : State).gov | false => s.gov
    age := match W.testBit 12 with | true => ({} : State).age | false => s.age
    mem := match W.testBit 13 with | true => ({} : State).mem | false => s.mem
    syn := match W.testBit 14 with | true => ({} : State).syn | false => s.syn
    hostMem := match W.testBit 15 with | true => ({} : State).hostMem | false => s.hostMem
    hostBad := match W.testBit 16 with | true => ({} : State).hostBad | false => s.hostBad
    tie := match W.testBit 17 with | true => ({} : State).tie | false => s.tie
    int0 := match W.testBit 18 with | true => ({} : State).int0 | false => s.int0
    til := match W.testBit 19 with | true => ({} : State).til | false => s.til
    shf := match W.testBit 20 with | true => ({} : State).shf | false => s.shf
    host := match W.testBit 21 with | true => ({} : State).host | false => s.host
    sch := match W.testBit 22 with | true => ({} : State).sch | false => s.sch
    ctx := match W.testBit 23 with | true => ({} : State).ctx | false => s.ctx
    descBad := match W.testBit 24 with | true => ({} : State).descBad | false => s.descBad
    cows := match W.testBit 25 with | true => ({} : State).cows | false => s.cows
    bnk := match W.testBit 26 with | true => ({} : State).bnk | false => s.bnk
    pools := match W.testBit 27 with | true => ({} : State).pools | false => s.pools
    fab := match W.testBit 28 with | true => ({} : State).fab | false => s.fab
    rows := match W.testBit 29 with | true => ({} : State).rows | false => s.rows
    flash := match W.testBit 30 with | true => ({} : State).flash | false => s.flash
    lat := match W.testBit 31 with | true => ({} : State).lat | false => s.lat
    cmp := match W.testBit 32 with | true => ({} : State).cmp | false => s.cmp
    meter := match W.testBit 33 with | true => ({} : State).meter | false => s.meter
    port := match W.testBit 34 with | true => ({} : State).port | false => s.port
    twin := match W.testBit 35 with | true => ({} : State).twin | false => s.twin
    start := match W.testBit 36 with | true => ({} : State).start | false => s.start
    sec := match W.testBit 37 with | true => ({} : State).sec | false => s.sec
    stamp := match W.testBit 38 with | true => ({} : State).stamp | false => s.stamp
    out := match W.testBit 39 with | true => ({} : State).out | false => s.out
    regs := [] }

theorem view2_eq (W : Nat) (s : State) : s.view2 W = s.view W := rfl

theorem view_mono {a b : Nat} (h : sub a b = true) {s t : State} (e : t.view a = s.view a) : t.view b = s.view b := by
  have key : ∀ {α : Type} (k : Nat) (d x y : α), cond (a.testBit k) d x = cond (a.testBit k) d y → cond (b.testBit k) d x = cond (b.testBit k) d y := by
    intro α k d x y q
    cases hb : b.testBit k with
    | true => rfl
    | false =>
      have ha : a.testBit k = false := by
        cases ha : a.testBit k with
        | false => rfl
        | true => rw [sub_iff.1 h k ha] at hb; cases hb
      rw [ha] at q
      exact q
  simp only [State.view, State.mk.injEq, true_and] at e ⊢
  obtain ⟨e0, e1, e2, e3, e5, e6, e7, e8, e9, e10, e11, e12, e13, e14, e15, e16, e17, e18, e19, e20, e21, e22, e23, e24, e25, e26, e27, e28, e29, e30, e31, e32, e33, e34, e35, e36, e37, e38, e39⟩ := e
  exact ⟨key _ _ _ _ e0, key _ _ _ _ e1, key _ _ _ _ e2, key _ _ _ _ e3, key _ _ _ _ e5, key _ _ _ _ e6, key _ _ _ _ e7, key _ _ _ _ e8, key _ _ _ _ e9, key _ _ _ _ e10, key _ _ _ _ e11, key _ _ _ _ e12, key _ _ _ _ e13, key _ _ _ _ e14, key _ _ _ _ e15, key _ _ _ _ e16, key _ _ _ _ e17, key _ _ _ _ e18, key _ _ _ _ e19, key _ _ _ _ e20, key _ _ _ _ e21, key _ _ _ _ e22, key _ _ _ _ e23, key _ _ _ _ e24, key _ _ _ _ e25, key _ _ _ _ e26, key _ _ _ _ e27, key _ _ _ _ e28, key _ _ _ _ e29, key _ _ _ _ e30, key _ _ _ _ e31, key _ _ _ _ e32, key _ _ _ _ e33, key _ _ _ _ e34, key _ _ _ _ e35, key _ _ _ _ e36, key _ _ _ _ e37, key _ _ _ _ e38, key _ _ _ _ e39⟩

/-! ### What operations keep -/

/-- What an operation starts from, and the parts and registers it may change. -/
structure From where
  W : Nat
  s : State

/-- What every operation keeps, started from a state and allowed to change the parts and registers of a mask. -/
structure Keeps (s : From) (t : State) : Prop where
  pending : t.pending = s.s.pending
  fuse : s.s.SameFuses t
  image0 : t.image0 = s.s.image0
  image1 : t.image1 = s.s.image1
  canon : s.s.Canon → t.Canon
  reserved : s.s.ReservedZero → t.ReservedZero
  view : t.view s.W = s.s.view s.W
  regs : s.W.testBit 4 = false → ∀ r i, s.W.testBit (64 + r.num) = false → rword t r i = rword s.s r i

/-- The same of an operation that may answer no state. -/
def KeepsOpt (s : From) (o : Option State) : Prop := ∀ t, o = some t → Keeps s t

/-- The same of an operation that may answer a state among other things. -/
def KeepsOptP {α : Type} (s : From) (π : α → State) (o : Option α) : Prop := ∀ t, o = some t → Keeps s (π t)

/-- The same of the outcome of a command. -/
def KeepsOut (s : From) (o : Host.Outcome State Fault Refusal) : Prop := ∀ t, o = .next t → Keeps s t

theorem State.SameFuses.refl (s : State) : s.SameFuses s := .inl rfl

theorem State.SameFuses.of_eq {s t u : State} (h : s.SameFuses t) (e : u.fuse = t.fuse) : s.SameFuses u := by
  unfold State.SameFuses
  rw [e]
  exact h

theorem State.SameFuses.trans {s t u : State} (h : s.SameFuses t) (g : t.SameFuses u) : s.SameFuses u := by
  unfold State.SameFuses at *
  rcases h with h | h <;> rcases g with g | g <;> rw [g, h] <;> simp

theorem Keeps.refl (W : Nat) (s : State) : Keeps ⟨W, s⟩ s :=
  ⟨rfl, .refl s, rfl, rfl, id, id, rfl, fun _ _ _ _ => rfl⟩

/-- An operation that changes parts of a mask `m`, none of which `Keeps` speaks of, and no register. -/
theorem Keeps.upd {s : From} {t u : State} (m : Nat) (h : Keeps s t) (w : sub m s.W = true)
    (e : (u.view m, u.pending, u.fuse, u.image0, u.image1, u.mem, u.syn, u.regs, u.hostMem) =
      (t.view2 m, t.pending, t.fuse, t.image0, t.image1, t.mem, t.syn, t.regs, t.hostMem)) : Keeps s u := by
  simp only [Prod.mk.injEq] at e
  obtain ⟨e0, e1, e2, e3, e4, e5, e6, e7, e8⟩ := e
  rw [view2_eq] at e0
  exact ⟨e1.trans h.pending, h.fuse.of_eq e2, e3.trans h.image0, e4.trans h.image1,
    fun c => ⟨by rw [e5]; exact (h.canon c).mem, by rw [e6]; exact (h.canon c).syn, by rw [e7]; exact (h.canon c).regs,
      by rw [e8]; exact (h.canon c).hostMem⟩,
    fun c k j => by rw [e7]; exact h.reserved c k j,
    (view_mono w e0).trans h.view, fun r4 r i hr => by rw [rword, e7]; exact h.regs r4 r i hr⟩

/-! An operation that changes one part. -/

theorem upd_fresh {s : From} {t : State} {v} (w : sub 2 s.W = true) (h : Keeps s t) : Keeps s { t with fresh := v } :=
  h.upd 2 w rfl

theorem upd_now {s : From} {t : State} {v} (w : sub 4 s.W = true) (h : Keeps s t) : Keeps s { t with now := v } :=
  h.upd 4 w rfl

theorem upd_gtime {s : From} {t : State} {v} (w : sub 8 s.W = true) (h : Keeps s t) : Keeps s { t with gtime := v } :=
  h.upd 8 w rfl

theorem upd_pins {s : From} {t : State} {v} (w : sub 256 s.W = true) (h : Keeps s t) : Keeps s { t with pins := v } :=
  h.upd 256 w rfl

theorem upd_keys {s : From} {t : State} {v} (w : sub 512 s.W = true) (h : Keeps s t) : Keeps s { t with keys := v } :=
  h.upd 512 w rfl

theorem upd_isl {s : From} {t : State} {v} (w : sub 1024 s.W = true) (h : Keeps s t) : Keeps s { t with isl := v } :=
  h.upd 1024 w rfl

theorem upd_gov {s : From} {t : State} {v} (w : sub 2048 s.W = true) (h : Keeps s t) : Keeps s { t with gov := v } :=
  h.upd 2048 w rfl

theorem upd_age {s : From} {t : State} {v} (w : sub 4096 s.W = true) (h : Keeps s t) : Keeps s { t with age := v } :=
  h.upd 4096 w rfl

theorem upd_hostBad {s : From} {t : State} {v} (w : sub 65536 s.W = true) (h : Keeps s t) : Keeps s { t with hostBad := v } :=
  h.upd 65536 w rfl

theorem upd_tie {s : From} {t : State} {v} (w : sub 131072 s.W = true) (h : Keeps s t) : Keeps s { t with tie := v } :=
  h.upd 131072 w rfl

theorem upd_int0 {s : From} {t : State} {v} (w : sub 262144 s.W = true) (h : Keeps s t) : Keeps s { t with int0 := v } :=
  h.upd 262144 w rfl

theorem upd_til {s : From} {t : State} {v} (w : sub 524288 s.W = true) (h : Keeps s t) : Keeps s { t with til := v } :=
  h.upd 524288 w rfl

theorem upd_shf {s : From} {t : State} {v} (w : sub 1048576 s.W = true) (h : Keeps s t) : Keeps s { t with shf := v } :=
  h.upd 1048576 w rfl

theorem upd_host {s : From} {t : State} {v} (w : sub 2097152 s.W = true) (h : Keeps s t) : Keeps s { t with host := v } :=
  h.upd 2097152 w rfl

theorem upd_sch {s : From} {t : State} {v} (w : sub 4194304 s.W = true) (h : Keeps s t) : Keeps s { t with sch := v } :=
  h.upd 4194304 w rfl

theorem upd_ctx {s : From} {t : State} {v} (w : sub 8388608 s.W = true) (h : Keeps s t) : Keeps s { t with ctx := v } :=
  h.upd 8388608 w rfl

theorem upd_descBad {s : From} {t : State} {v} (w : sub 16777216 s.W = true) (h : Keeps s t) : Keeps s { t with descBad := v } :=
  h.upd 16777216 w rfl

theorem upd_cows {s : From} {t : State} {v} (w : sub 33554432 s.W = true) (h : Keeps s t) : Keeps s { t with cows := v } :=
  h.upd 33554432 w rfl

theorem upd_bnk {s : From} {t : State} {v} (w : sub 67108864 s.W = true) (h : Keeps s t) : Keeps s { t with bnk := v } :=
  h.upd 67108864 w rfl

theorem upd_pools {s : From} {t : State} {v} (w : sub 134217728 s.W = true) (h : Keeps s t) : Keeps s { t with pools := v } :=
  h.upd 134217728 w rfl

theorem upd_fab {s : From} {t : State} {v} (w : sub 268435456 s.W = true) (h : Keeps s t) : Keeps s { t with fab := v } :=
  h.upd 268435456 w rfl

theorem upd_rows {s : From} {t : State} {v} (w : sub 536870912 s.W = true) (h : Keeps s t) : Keeps s { t with rows := v } :=
  h.upd 536870912 w rfl

theorem upd_flash {s : From} {t : State} {v} (w : sub 1073741824 s.W = true) (h : Keeps s t) : Keeps s { t with flash := v } :=
  h.upd 1073741824 w rfl

theorem upd_lat {s : From} {t : State} {v} (w : sub 2147483648 s.W = true) (h : Keeps s t) : Keeps s { t with lat := v } :=
  h.upd 2147483648 w rfl

theorem upd_cmp {s : From} {t : State} {v} (w : sub 4294967296 s.W = true) (h : Keeps s t) : Keeps s { t with cmp := v } :=
  h.upd 4294967296 w rfl

theorem upd_meter {s : From} {t : State} {v} (w : sub 8589934592 s.W = true) (h : Keeps s t) : Keeps s { t with meter := v } :=
  h.upd 8589934592 w rfl

theorem upd_port {s : From} {t : State} {v} (w : sub 17179869184 s.W = true) (h : Keeps s t) : Keeps s { t with port := v } :=
  h.upd 17179869184 w rfl

theorem upd_twin {s : From} {t : State} {v} (w : sub 34359738368 s.W = true) (h : Keeps s t) : Keeps s { t with twin := v } :=
  h.upd 34359738368 w rfl

theorem upd_start {s : From} {t : State} {v} (w : sub 68719476736 s.W = true) (h : Keeps s t) : Keeps s { t with start := v } :=
  h.upd 68719476736 w rfl

theorem upd_sec {s : From} {t : State} {v} (w : sub 137438953472 s.W = true) (h : Keeps s t) : Keeps s { t with sec := v } :=
  h.upd 137438953472 w rfl

theorem upd_stamp {s : From} {t : State} {v} (w : sub 274877906944 s.W = true) (h : Keeps s t) : Keeps s { t with stamp := v } :=
  h.upd 274877906944 w rfl

theorem upd_out {s : From} {t : State} {v} (w : sub 549755813888 s.W = true) (h : Keeps s t) : Keeps s { t with out := v } :=
  h.upd 549755813888 w rfl

/-- A state that differs only in memories, each in canonical form, and in parts that `Keeps` does not speak of. -/
theorem Keeps.of_mem {s : From} {t u : State} (m : Nat) (h : Keeps s t) (w : sub m s.W = true)
    (e : (u.view m, u.pending, u.fuse, u.image0, u.image1, u.regs) = (t.view2 m, t.pending, t.fuse, t.image0, t.image1, t.regs))
    (e5 : t.Canon → nwf memDefault u.mem = true) (e6 : t.Canon → nwf (fun _ => 0) u.syn = true)
    (e8 : t.Canon → nwf hostDefault u.hostMem = true) : Keeps s u := by
  simp only [Prod.mk.injEq] at e
  obtain ⟨e0, e1, e2, e3, e4, e7⟩ := e
  rw [view2_eq] at e0
  exact ⟨e1.trans h.pending, h.fuse.of_eq e2, e3.trans h.image0, e4.trans h.image1,
    fun c => ⟨e5 (h.canon c), e6 (h.canon c), by rw [e7]; exact (h.canon c).regs, e8 (h.canon c)⟩,
    fun c k j => by rw [e7]; exact h.reserved c k j,
    (view_mono w e0).trans h.view, fun r4 r i hr => by rw [rword, e7]; exact h.regs r4 r i hr⟩

/-! ### Shapes of definitions -/

theorem Keeps.ite {s : From} {c : Prop} [Decidable c] {a b : State} (ha : Keeps s a) (hb : Keeps s b) :
    Keeps s (if c then a else b) := by
  split
  · exact ha
  · exact hb

theorem Keeps.dite {s : From} {c : Prop} [Decidable c] {a : c → State} {b : ¬c → State} (ha : ∀ h, Keeps s (a h))
    (hb : ∀ h, Keeps s (b h)) : Keeps s (dite c a b) := by
  split
  · exact ha _
  · exact hb _

theorem Keeps.foldl {s : From} {α : Type} {f : State → α → State} (hf : ∀ t x, Keeps s t → Keeps s (f t x)) (l : List α)
    {t : State} (h : Keeps s t) : Keeps s (l.foldl f t) := by
  induction l generalizing t with
  | nil => exact h
  | cons x l ih => exact ih (hf t x h)

theorem Keeps.foldl_pair {s : From} {α β : Type} {f : State × β → α → State × β}
    (hf : ∀ t x, Keeps s t.1 → Keeps s (f t x).1) (l : List α) {t : State × β} (h : Keeps s t.1) : Keeps s (l.foldl f t).1 := by
  induction l generalizing t with
  | nil => exact h
  | cons x l ih => exact ih (hf t x h)

theorem Keeps.foldl_snd {s : From} {α β : Type} {f : β × State → α → β × State}
    (hf : ∀ t x, Keeps s t.2 → Keeps s (f t x).2) (l : List α) {t : β × State} (h : Keeps s t.2) : Keeps s (l.foldl f t).2 := by
  induction l generalizing t with
  | nil => exact h
  | cons x l ih => exact ih (hf t x h)

theorem Keeps.fst {α : Type} {s : From} {t : State} {x : α} (h : Keeps s t) : Keeps s (t, x).1 := h

theorem Keeps.snd {α : Type} {s : From} {t : State} {x : α} (h : Keeps s t) : Keeps s (x, t).2 := h

theorem KeepsOpt.none {s : From} : KeepsOpt s none := fun _ h => by cases h

theorem KeepsOpt.some {s : From} {t : State} (h : Keeps s t) : KeepsOpt s (some t) := fun _ e => by cases e; exact h

theorem KeepsOpt.ite {s : From} {c : Prop} [Decidable c] {a b : Option State} (ha : KeepsOpt s a) (hb : KeepsOpt s b) :
    KeepsOpt s (if c then a else b) := by
  split
  · exact ha
  · exact hb

theorem KeepsOptP.none {α : Type} {s : From} {π : α → State} : KeepsOptP s π none := fun _ h => by cases h

theorem KeepsOptP.some {α : Type} {s : From} {π : α → State} {x : α} (h : Keeps s (π x)) : KeepsOptP s π (some x) :=
  fun _ e => by cases e; exact h

theorem KeepsOptP.ite {α : Type} {s : From} {π : α → State} {c : Prop} [Decidable c] {a b : Option α} (ha : KeepsOptP s π a)
    (hb : KeepsOptP s π b) : KeepsOptP s π (if c then a else b) := by
  split
  · exact ha
  · exact hb

theorem KeepsOpt.get {s : From} {t : State} {o : Option State} (e : o = .some t) (h : KeepsOpt s o) : Keeps s t := h t e

theorem KeepsOptP.get {α : Type} {s : From} {π : α → State} {x : α} {o : Option α} (e : o = .some x) (h : KeepsOptP s π o) :
    Keeps s (π x) := h x e

theorem Keeps.get {α : Type} {s : From} (π : α → State) {x y : α} (e : x = y) (h : Keeps s (π x)) : Keeps s (π y) := e ▸ h

theorem KeepsOpt.at {α : Type} {s : From} (π : α → Option State) {x y : α} (e : x = y) (h : KeepsOpt s (π x)) : KeepsOpt s (π y) :=
  e ▸ h

theorem Keeps.getD {s : From} {t : State} {o : Option State} (ho : KeepsOpt s o) (ht : Keeps s t) : Keeps s (o.getD t) := by
  cases o with
  | none => exact ht
  | some x => exact ho x rfl

theorem Keeps.elim {α : Type} {s : From} {t : State} {o : Option α} {f : α → State} (ht : Keeps s t) (hf : ∀ x, Keeps s (f x)) :
    Keeps s (o.elim t f) := by
  cases o with
  | none => exact ht
  | some x => exact hf x

theorem Keeps.elim_snd {α β : Type} {s : From} {o : Option α} {x : β × State} {f : α → β × State} (hx : Keeps s x.2)
    (hf : ∀ y, Keeps s (f y).2) : Keeps s (o.elim x f).2 := by
  cases o with
  | none => exact hx
  | some x => exact hf x

theorem KeepsOut.refused {s : From} {r : Refusal} : KeepsOut s (.refused r) := fun _ h => by cases h

theorem KeepsOut.next {s : From} {t : State} (h : Keeps s t) : KeepsOut s (.next t) := fun _ e => by cases e; exact h

theorem KeepsOut.ite {s : From} {c : Prop} [Decidable c] {a b : Host.Outcome State Fault Refusal} (ha : KeepsOut s a)
    (hb : KeepsOut s b) : KeepsOut s (if c then a else b) := by
  split
  · exact ha
  · exact hb

/-! ### Registers -/

theorem rput_keeps {s0 : From} {s : State} {r : Reg} {i : Nat} {w : Word} (h : Keeps s0 s) (m : sub (bitOf r) s0.W = true)
    (hw : s.ReservedZero → r.holds w) : Keeps s0 (rput s r i w) :=
  ⟨h.pending, h.fuse.of_eq rfl, h.image0, h.image1,
    fun c => ⟨(h.canon c).mem, (h.canon c).syn, nwf_nput _ _ _ (h.canon c).regs, (h.canon c).hostMem⟩,
    fun c => rput_reservedZero (h.reserved c) i (hw (h.reserved c)),
    h.view, fun r4 r' i' hr => by
      rw [rword_rput_ne]
      · exact h.regs r4 r' i' hr
      · left; intro e; rw [← e, sub_reg.1 m] at hr; cases hr⟩

theorem fput_keeps {s0 : From} {s : State} {f : Fld} {i v : Nat} (h : Keeps s0 s) (hf : f.ok = true)
    (m : sub (bitOf f.reg) s0.W = true) : Keeps s0 (fput s f i v) :=
  rput_keeps h m (fun c => Reg.holds_bset (c.holds _ _) (fun _ h1 h2 => Fld.ok_mask hf h1 h2))

theorem fset_keeps {s0 : From} {s : State} {f : Fld} {i : Nat} (h : Keeps s0 s) (hf : f.ok = true)
    (m : sub (bitOf f.reg) s0.W = true) : Keeps s0 (fset s f i) := fput_keeps h hf m

theorem fsetIf_keeps {s0 : From} {s : State} {b : Bool} {f : Fld} {i : Nat} (h : Keeps s0 s) (hf : f.ok = true)
    (m : sub (bitOf f.reg) s0.W = true) : Keeps s0 (fsetIf s b f i) := Keeps.ite (fset_keeps h hf m) h

theorem fadd1_keeps {s0 : From} {s : State} {f : Fld} {i n : Nat} (h : Keeps s0 s) (hf : f.ok = true)
    (m : sub (bitOf f.reg) s0.W = true) : Keeps s0 (fadd1 s f i n) := fput_keeps h hf m

theorem finc_keeps {s0 : From} {s : State} {f : Fld} {i : Nat} (h : Keeps s0 s) (hf : f.ok = true)
    (m : sub (bitOf f.reg) s0.W = true) : Keeps s0 (finc s f i) := fput_keeps h hf m

theorem fmaxTo_keeps {s0 : From} {s : State} {f : Fld} {i n : Nat} (h : Keeps s0 s) (hf : f.ok = true)
    (m : sub (bitOf f.reg) s0.W = true) : Keeps s0 (fmaxTo s f i n) := fput_keeps h hf m

/-! ### Memory -/

theorem clearSyn_keeps {s0 : From} {s : State} {line n : Nat} (w : sub 16384 s0.W = true) (h : Keeps s0 s) :
    Keeps s0 (clearSyn s line n) := by
  induction n generalizing s line with
  | zero => exact h
  | succ n ih => exact ih (h.of_mem 16384 w rfl (·.mem) (fun c => nwf_nput _ line 0 c.syn) (·.hostMem))

end Sys2Proof.Machine
end

