-- ==== Sys2Proof/Laws/KeepsOps.lean ====
section
/-!
SUPPORT. What the operations of `Sys2Proof.Machine.Ops` keep (`Sys2Proof.Machine.Keeps`): one lemma for each.
-/

namespace Sys2Proof.Machine

theorem flsWrites_keeps {s0 : From} {a0 a1 a2} (w : sub 1073741824 s0.W = true) (h0 : Keeps s0 a0) : Keeps s0 (flsWrites a0 a1 a2) := by
  unfold flsWrites
  refine Keeps.ite h0 ?_
  extract_lets +onlyGivenNames x5
  clear_value x5
  exact upd_flash (sub_trans rfl w) h0

theorem memWrite_keeps {s0 : From} {a0 a1 a2} (w : sub 1073766400 s0.W = true) (h0 : Keeps s0 a0) : Keeps s0 (memWrite a0 a1 a2) := by
  unfold memWrite
  refine Keeps.ite h0 ?_
  have h1 : Keeps s0 (flsWrites a0 a1 a2.length) := flsWrites_keeps (sub_trans rfl w) h0
  exact clearSyn_keeps (sub_trans rfl w) (h1.of_mem 8192 (sub_trans rfl w) rfl (fun c => nwf_nputs _ _ _ c.mem) (·.syn) (·.hostMem))

theorem irq_keeps {s0 : From} {a0 a1 a2} (w : sub 549757911040 s0.W = true) (h0 : Keeps s0 a0) : Keeps s0 (irq a0 a1 a2) := by
  unfold irq
  exact Keeps.ite (upd_host (sub_trans rfl w) h0) (upd_out (sub_trans rfl w) h0)

theorem logRecord_keeps {s0 : From} {a0 a1 a2} (w : sub 971334446112864535459730953411759453321203419526069760625906204869452143153436188672 s0.W = true) (h0 : Keeps s0 a0) : Keeps s0 (logRecord a0 a1 a2) := by
  unfold logRecord
  extract_lets +onlyGivenNames x5 x6 x7 x8
  clear_value x5 x6 x7 x8
  extract_lets +onlyGivenNames x9
  have h10 : Keeps s0 x9 := upd_int0 (sub_trans rfl w) h0
  clear_value x9
  refine Keeps.ite (fadd1_keeps h10 rfl (sub_trans rfl w)) ?_
  extract_lets +onlyGivenNames x11
  have h12 : Keeps s0 x11 := memWrite_keeps (sub_trans rfl w) h10
  clear_value x11
  extract_lets +onlyGivenNames x13
  have h14 : Keeps s0 x13 := fput_keeps h12 rfl (sub_trans rfl w)
  clear_value x13
  split
  · exact Keeps.ite (irq_keeps (sub_trans rfl w) h14) h14
  · exact h14

theorem event_keeps {s0 : From} {a0 a1 a2 a3 a4 a5 a6 a7 a8} (w : sub 971334446112864535459730953411759453321203419526069760625906204869452143153436188672 s0.W = true) (h0 : Keeps s0 a0) : Keeps s0 (event a0 a1 a2 a3 a4 a5 a6 a7 a8) := by
  unfold event
  exact logRecord_keeps w h0

theorem hostWrite_keeps {s0 : From} {a0 a1 a2} (w : sub 32768 s0.W = true) (h0 : Keeps s0 a0) : Keeps s0 (hostWrite a0 a1 a2) :=
  Keeps.ite h0 (h0.of_mem 32768 (sub_trans rfl w) rfl (·.mem) (·.syn) (fun c => nwf_nputs _ _ _ c.hostMem))

theorem hstErr_keeps {s0 : From} {a0 a1} (w : sub 549757911040 s0.W = true) (h0 : Keeps s0 a0) (h1 : a1.ok = true) (h2 : sub (bitOf a1.reg) s0.W = true) : Keeps s0 (hstErr a0 a1) := by
  unfold hstErr
  exact Keeps.ite h0 (irq_keeps w (fset_keeps h0 h1 h2))

theorem memPut_keeps {s0 : From} {a0 a1 a2 a3} (w : sub 1073766400 s0.W = true) (h0 : Keeps s0 a0) : Keeps s0 (memPut a0 a1 a2 a3) := by
  unfold memPut
  exact memWrite_keeps w h0

theorem setUse_keeps {s0 : From} {a0 a1 a2} (w : sub 131072 s0.W = true) (h0 : Keeps s0 a0) : Keeps s0 (setUse a0 a1 a2) := by
  unfold setUse
  exact upd_tie (sub_trans rfl w) h0

theorem zeroFrame_keeps {s0 : From} {a0 a1} (w : sub 24576 s0.W = true) (h0 : Keeps s0 a0) : Keeps s0 (zeroFrame a0 a1) :=
  h0.of_mem 24576 (sub_trans rfl w) rfl (fun c => nwf_filter _ _ c.mem) (fun c => nwf_filter _ _ c.syn) (·.hostMem)

theorem flsBlkPut_keeps {s0 : From} {a0 a1 a2} (w : sub 1073741824 s0.W = true) (h0 : Keeps s0 a0) : Keeps s0 (flsBlkPut a0 a1 a2) := by
  unfold flsBlkPut
  exact upd_flash (sub_trans rfl w) h0

theorem flsJournal_keeps {s0 : From} {a0 a1 a2 a3} (w : sub 1073741824 s0.W = true) (h0 : Keeps s0 a0) : Keeps s0 (flsJournal a0 a1 a2 a3) := by
  unfold flsJournal
  extract_lets +onlyGivenNames x5
  clear_value x5
  exact upd_flash (sub_trans rfl w) h0

theorem flsEntPut_keeps {s0 : From} {a0 a1 a2} (w : sub 1073766400 s0.W = true) (h0 : Keeps s0 a0) : Keeps s0 (flsEntPut a0 a1 a2) := by
  unfold flsEntPut
  exact Keeps.ite h0 (memPut_keeps w h0)

theorem flsSet_keeps {s0 : From} {a0 a1 a2} (w : sub 1073766400 s0.W = true) (h0 : Keeps s0 a0) : Keeps s0 (flsSet a0 a1 a2) := by
  unfold flsSet
  extract_lets +onlyGivenNames x5 x6
  clear_value x5 x6
  extract_lets +onlyGivenNames x7
  have h8 : Keeps s0 x7 := flsEntPut_keeps w (upd_flash (sub_trans rfl w) h0)
  clear_value x7
  extract_lets +onlyGivenNames x9
  have h10 : Keeps s0 x9 := flsJournal_keeps (sub_trans rfl w) h8
  clear_value x9
  exact Keeps.ite h10 (flsBlkPut_keeps (sub_trans rfl w) h10)

theorem flsDiscard_keeps {s0 : From} {a0 a1} (w : sub 1073766400 s0.W = true) (h0 : Keeps s0 a0) : Keeps s0 (flsDiscard a0 a1) := by
  unfold flsDiscard
  exact Keeps.foldl (fun x5 x6 h7 => (Keeps.ite h7 (flsSet_keeps w h7))) _ (upd_flash (sub_trans rfl w) h0)

theorem setShare_keeps {s0 : From} {a0 a1 a2} (w : sub 1074159616 s0.W = true) (h0 : Keeps s0 a0) : Keeps s0 (setShare a0 a1 a2) := by
  unfold setShare
  extract_lets +onlyGivenNames x5
  have h6 : Keeps s0 x5 := Keeps.ite (memPut_keeps (sub_trans rfl w) h0) h0
  clear_value x5
  extract_lets +onlyGivenNames x7
  clear_value x7
  extract_lets +onlyGivenNames x8
  have h9 : Keeps s0 x8 := Keeps.ite (upd_int0 (sub_trans rfl w) h6) h6
  clear_value x8
  exact upd_tie (sub_trans rfl w) h9

theorem lineFailureOf_keeps {s0 : From} {a0 a1 a2 a3 a4 a5} (w : sub 187467548099782855343728074008469574490992259968531463800799897577583195385810613854208 s0.W = true) (h0 : Keeps s0 a0) : Keeps s0 (lineFailureOf a0 a1 a2 a3 a4 a5) := by
  unfold lineFailureOf
  extract_lets +onlyGivenNames x5
  clear_value x5
  extract_lets +onlyGivenNames x6
  have h7 : Keeps s0 x6 := Keeps.ite (hstErr_keeps (sub_trans rfl w) h0 rfl (sub_trans rfl w)) h0
  clear_value x6
  extract_lets +onlyGivenNames x8
  clear_value x8
  extract_lets +onlyGivenNames x9
  have h10 : Keeps s0 x9 := Keeps.ite (fadd1_keeps (upd_int0 (sub_trans rfl w) h7) rfl (sub_trans rfl w)) (Keeps.ite (fadd1_keeps h7 rfl (sub_trans rfl w)) h7)
  clear_value x9
  refine Keeps.ite h10 ?_
  extract_lets +onlyGivenNames x11 x12
  clear_value x11 x12
  extract_lets +onlyGivenNames x13
  have h14 : Keeps s0 x13 := setShare_keeps (sub_trans rfl w) h10
  clear_value x13
  extract_lets +onlyGivenNames x15
  have h16 : Keeps s0 x15 := Keeps.ite (fput_keeps h14 rfl (sub_trans rfl w)) h10
  clear_value x15
  exact event_keeps (sub_trans rfl w) h16

theorem lineFailure_keeps {s0 : From} {a0 a1 a2 a3} (w : sub 187467548099782855343728074008469574490992259968531463800799897577583195385810613854208 s0.W = true) (h0 : Keeps s0 a0) : Keeps s0 (lineFailure a0 a1 a2 a3) := by
  unfold lineFailure
  exact lineFailureOf_keeps w h0

theorem spoilLine_keeps {s0 : From} {a0 a1} (w : sub 16384 s0.W = true) (h0 : Keeps s0 a0) : Keeps s0 (spoilLine a0 a1) :=
  h0.of_mem 16384 (sub_trans rfl w) rfl (·.mem) (fun c => nwf_nput _ (a1 / 64) 1 c.syn) (·.hostMem)

theorem bump_keeps {s0 : From} {a0} (w : sub 2 s0.W = true) (h0 : Keeps s0 a0) : Keeps s0 (bump a0) := by
  unfold bump
  exact upd_fresh (sub_trans rfl w) h0

theorem idle_keeps {s0 : From} {a0} (w : sub 12 s0.W = true) (h0 : Keeps s0 a0) : Keeps s0 (idle a0) := by
  unfold idle
  extract_lets +onlyGivenNames x5
  clear_value x5
  exact Keeps.upd 12 h0 (sub_trans rfl w) rfl

theorem meter_keeps {s0 : From} {a0 a1 a2 a3} (w : sub 8589934592 s0.W = true) (h0 : Keeps s0 a0) : Keeps s0 (meter a0 a1 a2 a3) := by
  unfold meter
  exact Keeps.ite h0 (upd_meter (sub_trans rfl w) h0)

theorem copyFrame_keeps {s0 : From} {a0 a1 a2} (w : sub 24576 s0.W = true) (h0 : Keeps s0 a0) : Keeps s0 (copyFrame a0 a1 a2) :=
  (zeroFrame_keeps (sub_trans rfl w) h0).of_mem 8192 (sub_trans rfl w) rfl
    (fun c => nwf_foldl_nput memDefault (fun e : Nat × Byte => a2 * 65536 + e.1 % 65536) (·.2) _ c.mem) (·.syn) (·.hostMem)

end Sys2Proof.Machine
end

