-- ==== Sys2Proof/Laws/KeepsTiller.lean ====
section
/-!
SUPPORT. What the operations of `Sys2Proof.Machine.Tiller` keep (`Sys2Proof.Machine.Keeps`): one lemma for each.
-/

namespace Sys2Proof.Machine

theorem shput_keeps {s0 : From} {a0 a1 a2} (w : sub 1048576 s0.W = true) (h0 : Keeps s0 a0) : Keeps s0 (shput a0 a1 a2) := by
  unfold shput
  exact upd_shf (sub_trans rfl w) h0

theorem shupd_keeps {s0 : From} {a0 a1 a2} (w : sub 1048576 s0.W = true) (h0 : Keeps s0 a0) : Keeps s0 (shupd a0 a1 a2) := by
  unfold shupd
  exact shput_keeps w h0

theorem tput_keeps {s0 : From} {a0 a1 a2} (w : sub 524288 s0.W = true) (h0 : Keeps s0 a0) : Keeps s0 (tput a0 a1 a2) := by
  unfold tput
  exact upd_til (sub_trans rfl w) h0

theorem tupd_keeps {s0 : From} {a0 a1 a2} (w : sub 524288 s0.W = true) (h0 : Keeps s0 a0) : Keeps s0 (tupd a0 a1 a2) := by
  unfold tupd
  exact tput_keeps w h0

theorem fpFlags_keeps {s0 : From} {a0 a1 a2} (w : sub 1042962419883256876169444192465601618458351817556959360325703910069443225478828393565899456512 s0.W = true) (h0 : Keeps s0 a0) : Keeps s0 (fpFlags a0 a1 a2) := by
  refine Keeps.ite h0 (rput_keeps h0 (sub_trans rfl w) (fun c => Reg.holds_w64 (fun j h64 hj => ?_)))
  rw [Nat.testBit_or, Bool.or_eq_true] at hj
  rcases hj with hj | hj
  · exact c.holds .TIL_FPSTAT a1 j hj
  · have h5 : j < 5 := by
      rw [show (32 : Nat) = 2 ^ 5 from rfl, Nat.testBit_mod_two_pow] at hj
      simp only [Bool.and_eq_true, decide_eq_true_eq] at hj
      exact hj.1
    exact Fld.ok_mask (f := ⟨.TIL_FPSTAT, 0, 5⟩) rfl (Nat.zero_le _) (by simpa using h5)

theorem raise_keeps {s0 : From} {a0 a1 a2} (w : sub 524288 s0.W = true) (h0 : Keeps s0 a0) : Keeps s0 (raise a0 a1 a2) := by
  unfold raise
  extract_lets +onlyGivenNames x5
  clear_value x5
  exact tupd_keeps w h0

theorem raiseAt_keeps {s0 : From} {a0 a1 a2 a3 a4 a5} (w : sub 524288 s0.W = true) (h0 : Keeps s0 a0) : Keeps s0 (raiseAt a0 a1 a2 a3 a4 a5) := by
  unfold raiseAt
  exact raise_keeps w h0

theorem issue_keeps {s0 : From} {a0 a1 a2 a3 a4 a5 a6 a7} (w : sub 524288 s0.W = true) (h0 : Keeps s0 a0) (h1 : ∀ x00, Keeps s0 x00 → Keeps s0 (a7 x00)) : Keeps s0 (issue a0 a1 a2 a3 a4 a5 a6 a7) := by
  unfold issue
  extract_lets +onlyGivenNames x5
  clear_value x5
  exact Keeps.ite h0 (Keeps.ite h0 (Keeps.ite (raiseAt_keeps w h0) (Keeps.ite h0 (Keeps.ite (tupd_keeps w h0) (h1 _ h0)))))

theorem tcount_keeps {s0 : From} {a0 a1 a2 a3} (w : sub 0 s0.W = true) (h0 : Keeps s0 a0) (h1 : a1.ok = true) (h2 : sub (bitOf a1.reg) s0.W = true) : Keeps s0 (tcount a0 a1 a2 a3) := by
  unfold tcount
  exact Keeps.ite h0 (fadd1_keeps h0 h1 h2)

theorem busyFix_keeps {s0 : From} {a0 a1} (w : sub 16687398718132110018711107079449625895333629080911349765211262561111091607661254297054391828480 s0.W = true) (h0 : Keeps s0 a0) : Keeps s0 (busyFix a0 a1) := by
  unfold busyFix
  extract_lets +onlyGivenNames x5
  clear_value x5
  exact Keeps.ite h0 (tcount_keeps (sub_trans rfl w) (tupd_keeps (sub_trans rfl w) h0) rfl (sub_trans rfl w))

theorem askDone_keeps {s0 : From} {a0 a1 a2 a3} (w : sub 524288 s0.W = true) (h0 : Keeps s0 a0) : Keeps s0 (askDone a0 a1 a2 a3) := by
  unfold askDone
  split
  · exact tupd_keeps w h0
  · exact h0

theorem twrite_keeps {s0 : From} {a0 a1 a2 a3} (w : sub 1572864 s0.W = true) (h0 : Keeps s0 a0) : Keeps s0 (twrite a0 a1 a2 a3) := by
  unfold twrite
  exact Keeps.ite (tupd_keeps (sub_trans rfl w) h0) (shupd_keeps (sub_trans rfl w) h0)

theorem pushPend_keeps {s0 : From} {a0 a1 a2 a3 a4} (w : sub 524288 s0.W = true) (h0 : Keeps s0 a0) : Keeps s0 (pushPend a0 a1 a2 a3 a4) := by
  unfold pushPend
  exact tupd_keeps w h0

theorem imprecise_keeps {s0 : From} {a0 a1 a2 a3 a4} (w : sub 524288 s0.W = true) (h0 : Keeps s0 a0) : Keeps s0 (imprecise a0 a1 a2 a3 a4) := by
  unfold imprecise
  split
  · exact h0
  · exact raise_keeps w (tupd_keeps w h0)

theorem tcycFix_keeps {s0 : From} {a0 a1} (w : sub 524288 s0.W = true) (h0 : Keeps s0 a0) : Keeps s0 (tcycFix a0 a1) := by
  unfold tcycFix
  refine Keeps.ite h0 ?_
  extract_lets +onlyGivenNames x5
  clear_value x5
  exact tupd_keeps w h0

end Sys2Proof.Machine
end

