-- ==== Sys2Proof/Laws/KeepsScalar.lean ====
section
/-!
SUPPORT. What the operations of `Sys2Proof.Machine.Scalar` keep (`Sys2Proof.Machine.Keeps`): one lemma for each.
-/

namespace Sys2Proof.Machine

theorem shiftI_keeps {s0 : From} {a0 a1 a2 a3 a4} (w : sub 524288 s0.W = true) (h0 : Keeps s0 a0) : Keeps s0 (shiftI a0 a1 a2 a3 a4) := by
  unfold shiftI
  extract_lets +onlyGivenNames x5
  clear_value x5
  exact issue_keeps w h0 (fun x6 h7 => (tupd_keeps w h7))

theorem execShriI64_keeps {s0 : From} {a0 a1 a2} (w : sub 524288 s0.W = true) (h0 : Keeps s0 a2) : KeepsOut s0 (execShriI64 a0 a1 a2) := by
  unfold execShriI64
  exact KeepsOut.next (shiftI_keeps w h0)

theorem parityFail_keeps {s0 : From} {a0 a1 a2 a3 a4} (w : sub 166873987182292434633223935329955989906748050262434701071638695371736822281481995113697349754880 s0.W = true) (h0 : Keeps s0 a0) : Keeps s0 (parityFail a0 a1 a2 a3 a4) := by
  unfold parityFail
  extract_lets +onlyGivenNames x5
  have h6 : Keeps s0 x5 := Keeps.ite (event_keeps (sub_trans rfl w) (tcount_keeps (sub_trans rfl w) h0 rfl (sub_trans rfl w))) (event_keeps (sub_trans rfl w) (fadd1_keeps h0 rfl (sub_trans rfl w)))
  clear_value x5
  exact imprecise_keeps (sub_trans rfl w) h6

theorem aluR1_keeps {s0 : From} {a0 a1 a2 a3 a4} (w : sub 524288 s0.W = true) (h0 : Keeps s0 a0) : Keeps s0 (aluR1 a0 a1 a2 a3 a4) := by
  unfold aluR1
  extract_lets +onlyGivenNames x5
  clear_value x5
  exact issue_keeps w h0 (fun x6 h7 => (tupd_keeps w h7))

theorem execPopcI64_keeps {s0 : From} {a0 a1 a2} (w : sub 524288 s0.W = true) (h0 : Keeps s0 a2) : KeepsOut s0 (execPopcI64 a0 a1 a2) := by
  unfold execPopcI64
  exact KeepsOut.next (aluR1_keeps w h0)

theorem loadI_keeps {s0 : From} {a0 a1 a2 a3 a4} (w : sub 524288 s0.W = true) (h0 : Keeps s0 a0) : Keeps s0 (loadI a0 a1 a2 a3 a4) := by
  unfold loadI
  extract_lets +onlyGivenNames x5 x6
  clear_value x5 x6
  exact issue_keeps w h0 (fun x7 h8 => (Keeps.ite h8 (Keeps.ite (raiseAt_keeps w h8) (pushPend_keeps w h8))))

theorem execLdU32_keeps {s0 : From} {a0 a1 a2} (w : sub 524288 s0.W = true) (h0 : Keeps s0 a2) : KeepsOut s0 (execLdU32 a0 a1 a2) := by
  unfold execLdU32
  exact KeepsOut.next (loadI_keeps w h0)

theorem aluR_keeps {s0 : From} {a0 a1 a2 a3 a4} (w : sub 524288 s0.W = true) (h0 : Keeps s0 a0) : Keeps s0 (aluR a0 a1 a2 a3 a4) := by
  unfold aluR
  extract_lets +onlyGivenNames x5
  clear_value x5
  exact issue_keeps w h0 (fun x6 h7 => (tupd_keeps w h7))

theorem execMulI64_keeps {s0 : From} {a0 a1 a2} (w : sub 524288 s0.W = true) (h0 : Keeps s0 a2) : KeepsOut s0 (execMulI64 a0 a1 a2) := by
  unfold execMulI64
  exact KeepsOut.next (aluR_keeps w h0)

theorem execRemuI64_keeps {s0 : From} {a0 a1 a2} (w : sub 524288 s0.W = true) (h0 : Keeps s0 a2) : KeepsOut s0 (execRemuI64 a0 a1 a2) := by
  unfold execRemuI64
  exact KeepsOut.next (aluR_keeps w h0)

theorem execShlI64_keeps {s0 : From} {a0 a1 a2} (w : sub 524288 s0.W = true) (h0 : Keeps s0 a2) : KeepsOut s0 (execShlI64 a0 a1 a2) := by
  unfold execShlI64
  exact KeepsOut.next (aluR_keeps w h0)

theorem execPCnt_keeps {s0 : From} {a0 a1 a2} (w : sub 524288 s0.W = true) (h0 : Keeps s0 a2) : KeepsOut s0 (execPCnt a0 a1 a2) := by
  unfold execPCnt
  exact KeepsOut.next (issue_keeps w h0 (fun x5 h6 => (tupd_keeps w h6)))

theorem loadReturn_keeps {s0 : From} {a0 a1 a2} (w : sub 166873987182292434633223935329955989906748050262434701071638695371736822281481995113697349754880 s0.W = true) (h0 : Keeps s0 a0) : Keeps s0 (loadReturn a0 a1 a2) := by
  unfold loadReturn
  split
  · refine Keeps.ite (parityFail_keeps w h0) ?_
    extract_lets +onlyGivenNames x5
    clear_value x5
    exact tupd_keeps (sub_trans rfl w) h0
  · extract_lets +onlyGivenNames x6
    clear_value x6
    refine Keeps.ite (parityFail_keeps w h0) ?_
    extract_lets +onlyGivenNames x7
    clear_value x7
    exact tupd_keeps (sub_trans rfl w) h0
  · refine Keeps.ite (parityFail_keeps w h0) ?_
    extract_lets +onlyGivenNames x8
    clear_value x8
    exact tupd_keeps (sub_trans rfl w) h0
  · refine Keeps.ite (parityFail_keeps w h0) ?_
    extract_lets +onlyGivenNames x9
    clear_value x9
    exact tupd_keeps (sub_trans rfl w) h0
  · exact h0

theorem execShliI64_keeps {s0 : From} {a0 a1 a2} (w : sub 524288 s0.W = true) (h0 : Keeps s0 a2) : KeepsOut s0 (execShliI64 a0 a1 a2) := by
  unfold execShliI64
  exact KeepsOut.next (shiftI_keeps w h0)

theorem branchTo_keeps {s0 : From} {a0 a1 a2 a3 a4 a5} (w : sub 524288 s0.W = true) (h0 : Keeps s0 a0) : Keeps s0 (branchTo a0 a1 a2 a3 a4 a5) := by
  unfold branchTo
  extract_lets +onlyGivenNames x5
  clear_value x5
  refine Keeps.ite ?_ (raiseAt_keeps w h0)
  extract_lets +onlyGivenNames x6
  clear_value x6
  exact tput_keeps w h0

theorem branchCmp_keeps {s0 : From} {a0 a1 a2 a3 a4} (w : sub 524288 s0.W = true) (h0 : Keeps s0 a0) : Keeps s0 (branchCmp a0 a1 a2 a3 a4) := by
  unfold branchCmp
  extract_lets +onlyGivenNames x5
  clear_value x5
  refine issue_keeps w h0 ?_
  refine fun x6 h7 => ?_
  extract_lets +onlyGivenNames x8
  clear_value x8
  exact Keeps.ite (branchTo_keeps w h7) (tupd_keeps w h7)

theorem execBrEq_keeps {s0 : From} {a0 a1 a2} (w : sub 524288 s0.W = true) (h0 : Keeps s0 a2) : KeepsOut s0 (execBrEq a0 a1 a2) := by
  unfold execBrEq
  exact KeepsOut.next (branchCmp_keeps w h0)

theorem aluI_keeps {s0 : From} {a0 a1 a2 a3 a4} (w : sub 524288 s0.W = true) (h0 : Keeps s0 a0) : Keeps s0 (aluI a0 a1 a2 a3 a4) := by
  unfold aluI
  extract_lets +onlyGivenNames x5
  clear_value x5
  exact issue_keeps w h0 (fun x6 h7 => (tupd_keeps w h7))

theorem execOriI64_keeps {s0 : From} {a0 a1 a2} (w : sub 524288 s0.W = true) (h0 : Keeps s0 a2) : KeepsOut s0 (execOriI64 a0 a1 a2) := by
  unfold execOriI64
  exact KeepsOut.next (aluI_keeps w h0)

theorem execXoriI64_keeps {s0 : From} {a0 a1 a2} (w : sub 524288 s0.W = true) (h0 : Keeps s0 a2) : KeepsOut s0 (execXoriI64 a0 a1 a2) := by
  unfold execXoriI64
  exact KeepsOut.next (aluI_keeps w h0)

theorem predR_keeps {s0 : From} {a0 a1 a2 a3 a4} (w : sub 524288 s0.W = true) (h0 : Keeps s0 a0) : Keeps s0 (predR a0 a1 a2 a3 a4) := by
  unfold predR
  extract_lets +onlyGivenNames x5
  clear_value x5
  exact issue_keeps w h0 (fun x6 h7 => (tupd_keeps w h7))

theorem storeI_keeps {s0 : From} {a0 a1 a2 a3 a4} (w : sub 1572864 s0.W = true) (h0 : Keeps s0 a0) : Keeps s0 (storeI a0 a1 a2 a3 a4) := by
  unfold storeI
  extract_lets +onlyGivenNames x5 x6
  clear_value x5 x6
  exact issue_keeps (sub_trans rfl w) h0 (fun x7 h8 => (Keeps.ite h8 (Keeps.ite (raiseAt_keeps (sub_trans rfl w) h8) (tupd_keeps (sub_trans rfl w) (twrite_keeps w h8)))))

theorem execSt16_keeps {s0 : From} {a0 a1 a2} (w : sub 1572864 s0.W = true) (h0 : Keeps s0 a2) : KeepsOut s0 (execSt16 a0 a1 a2) := by
  unfold execSt16
  exact KeepsOut.next (storeI_keeps w h0)

theorem execLd64_keeps {s0 : From} {a0 a1 a2} (w : sub 524288 s0.W = true) (h0 : Keeps s0 a2) : KeepsOut s0 (execLd64 a0 a1 a2) := by
  unfold execLd64
  exact KeepsOut.next (loadI_keeps w h0)

theorem cmpR_keeps {s0 : From} {a0 a1 a2 a3 a4} (w : sub 524288 s0.W = true) (h0 : Keeps s0 a0) : Keeps s0 (cmpR a0 a1 a2 a3 a4) := by
  unfold cmpR
  extract_lets +onlyGivenNames x5
  clear_value x5
  exact issue_keeps w h0 (fun x6 h7 => (tupd_keeps w h7))

theorem execCmpGe_keeps {s0 : From} {a0 a1 a2} (w : sub 524288 s0.W = true) (h0 : Keeps s0 a2) : KeepsOut s0 (execCmpGe a0 a1 a2) := by
  unfold execCmpGe
  exact KeepsOut.next (cmpR_keeps w h0)

theorem execBrLt_keeps {s0 : From} {a0 a1 a2} (w : sub 524288 s0.W = true) (h0 : Keeps s0 a2) : KeepsOut s0 (execBrLt a0 a1 a2) := by
  unfold execBrLt
  exact KeepsOut.next (branchCmp_keeps w h0)

theorem execCmpGeu_keeps {s0 : From} {a0 a1 a2} (w : sub 524288 s0.W = true) (h0 : Keeps s0 a2) : KeepsOut s0 (execCmpGeu a0 a1 a2) := by
  unfold execCmpGeu
  exact KeepsOut.next (cmpR_keeps w h0)

theorem cmpI_keeps {s0 : From} {a0 a1 a2 a3 a4} (w : sub 524288 s0.W = true) (h0 : Keeps s0 a0) : Keeps s0 (cmpI a0 a1 a2 a3 a4) := by
  unfold cmpI
  extract_lets +onlyGivenNames x5
  clear_value x5
  exact issue_keeps w h0 (fun x6 h7 => (tupd_keeps w h7))

theorem execSarI64_keeps {s0 : From} {a0 a1 a2} (w : sub 524288 s0.W = true) (h0 : Keeps s0 a2) : KeepsOut s0 (execSarI64 a0 a1 a2) := by
  unfold execSarI64
  exact KeepsOut.next (aluR_keeps w h0)

theorem execCmpLt_keeps {s0 : From} {a0 a1 a2} (w : sub 524288 s0.W = true) (h0 : Keeps s0 a2) : KeepsOut s0 (execCmpLt a0 a1 a2) := by
  unfold execCmpLt
  exact KeepsOut.next (cmpR_keeps w h0)

theorem execBrGeu_keeps {s0 : From} {a0 a1 a2} (w : sub 524288 s0.W = true) (h0 : Keeps s0 a2) : KeepsOut s0 (execBrGeu a0 a1 a2) := by
  unfold execBrGeu
  exact KeepsOut.next (branchCmp_keeps w h0)

theorem execSubI64_keeps {s0 : From} {a0 a1 a2} (w : sub 524288 s0.W = true) (h0 : Keeps s0 a2) : KeepsOut s0 (execSubI64 a0 a1 a2) := by
  unfold execSubI64
  exact KeepsOut.next (aluR_keeps w h0)

theorem execMaxI64_keeps {s0 : From} {a0 a1 a2} (w : sub 524288 s0.W = true) (h0 : Keeps s0 a2) : KeepsOut s0 (execMaxI64 a0 a1 a2) := by
  unfold execMaxI64
  exact KeepsOut.next (aluR_keeps w h0)

theorem execAddiI64_keeps {s0 : From} {a0 a1 a2} (w : sub 524288 s0.W = true) (h0 : Keeps s0 a2) : KeepsOut s0 (execAddiI64 a0 a1 a2) := by
  unfold execAddiI64
  exact KeepsOut.next (aluI_keeps w h0)

theorem execSariI64_keeps {s0 : From} {a0 a1 a2} (w : sub 524288 s0.W = true) (h0 : Keeps s0 a2) : KeepsOut s0 (execSariI64 a0 a1 a2) := by
  unfold execSariI64
  exact KeepsOut.next (shiftI_keeps w h0)

theorem execPOr_keeps {s0 : From} {a0 a1 a2} (w : sub 524288 s0.W = true) (h0 : Keeps s0 a2) : KeepsOut s0 (execPOr a0 a1 a2) := by
  unfold execPOr
  exact KeepsOut.next (predR_keeps w h0)

theorem execLoadDataReturn_keeps {s0 : From} {a0 a1 a2} (w : sub 166873987182292434633223935329955989906748050262434701071638695371736822281481995113697349754880 s0.W = true) (h0 : Keeps s0 a2) : KeepsOut s0 (execLoadDataReturn a0 a1 a2) := by
  unfold execLoadDataReturn
  exact KeepsOut.next (loadReturn_keeps w h0)

theorem execDivuI64_keeps {s0 : From} {a0 a1 a2} (w : sub 524288 s0.W = true) (h0 : Keeps s0 a2) : KeepsOut s0 (execDivuI64 a0 a1 a2) := by
  unfold execDivuI64
  exact KeepsOut.next (aluR_keeps w h0)

theorem codeEnd_keeps {s0 : From} {a0 a1} (w : sub 524288 s0.W = true) (h0 : Keeps s0 a0) : Keeps s0 (codeEnd a0 a1) := by
  unfold codeEnd
  extract_lets +onlyGivenNames x5
  clear_value x5
  split
  · exact h0
  · exact Keeps.ite (raise_keeps w h0) h0

theorem execCodeEndReached_keeps {s0 : From} {a0 a1} (w : sub 524288 s0.W = true) (h0 : Keeps s0 a1) : KeepsOut s0 (execCodeEndReached a0 a1) := by
  unfold execCodeEndReached
  exact KeepsOut.next (codeEnd_keeps w h0)

theorem execPMask_keeps {s0 : From} {a0 a1 a2} (w : sub 524288 s0.W = true) (h0 : Keeps s0 a2) : KeepsOut s0 (execPMask a0 a1 a2) := by
  unfold execPMask
  exact KeepsOut.next (issue_keeps w h0 (fun x5 h6 => (tupd_keeps w h6)))

theorem amoI_keeps {s0 : From} {a0 a1 a2 a3 a4} (w : sub 133499189746028214595801721171056738116080792100612001541216170249514639066159486519588568195072 s0.W = true) (h0 : Keeps s0 a0) : Keeps s0 (amoI a0 a1 a2 a3 a4) := by
  unfold amoI
  extract_lets +onlyGivenNames x5 x6
  clear_value x5 x6
  refine issue_keeps (sub_trans rfl w) h0 ?_
  refine fun x7 h8 => ?_
  refine Keeps.ite (raiseAt_keeps (sub_trans rfl w) h8) ?_
  refine Keeps.ite ?_ ?_
  · extract_lets +onlyGivenNames x9
    have h10 : Keeps s0 x9 := fadd1_keeps h8 rfl (sub_trans rfl w)
    clear_value x9
    extract_lets +onlyGivenNames x11
    have h12 : Keeps s0 x11 := event_keeps (sub_trans rfl w) h10
    clear_value x11
    extract_lets +onlyGivenNames x13
    clear_value x13
    exact tupd_keeps (sub_trans rfl w) (raise_keeps (sub_trans rfl w) h12)
  · extract_lets +onlyGivenNames x14 x15
    clear_value x14 x15
    exact tupd_keeps (sub_trans rfl w) (twrite_keeps (sub_trans rfl w) h8)

theorem execAmoCas_keeps {s0 : From} {a0 a1 a2} (w : sub 133499189746028214595801721171056738116080792100612001541216170249514639066159486519588568195072 s0.W = true) (h0 : Keeps s0 a2) : KeepsOut s0 (execAmoCas a0 a1 a2) := by
  unfold execAmoCas
  exact KeepsOut.next (amoI_keeps w h0)

theorem execMulhuI64_keeps {s0 : From} {a0 a1 a2} (w : sub 524288 s0.W = true) (h0 : Keeps s0 a2) : KeepsOut s0 (execMulhuI64 a0 a1 a2) := by
  unfold execMulhuI64
  exact KeepsOut.next (aluR_keeps w h0)

theorem execLdiI64_keeps {s0 : From} {a0 a1 a2} (w : sub 524288 s0.W = true) (h0 : Keeps s0 a2) : KeepsOut s0 (execLdiI64 a0 a1 a2) := by
  unfold execLdiI64
  extract_lets +onlyGivenNames x5
  clear_value x5
  exact KeepsOut.next (issue_keeps w h0 (fun x6 h7 => (tupd_keeps w h7)))

theorem execPNot_keeps {s0 : From} {a0 a1 a2} (w : sub 524288 s0.W = true) (h0 : Keeps s0 a2) : KeepsOut s0 (execPNot a0 a1 a2) := by
  unfold execPNot
  exact KeepsOut.next (issue_keeps w h0 (fun x5 h6 => (tupd_keeps w h6)))

theorem execLdU16_keeps {s0 : From} {a0 a1 a2} (w : sub 524288 s0.W = true) (h0 : Keeps s0 a2) : KeepsOut s0 (execLdU16 a0 a1 a2) := by
  unfold execLdU16
  exact KeepsOut.next (loadI_keeps w h0)

theorem execLdU8_keeps {s0 : From} {a0 a1 a2} (w : sub 524288 s0.W = true) (h0 : Keeps s0 a2) : KeepsOut s0 (execLdU8 a0 a1 a2) := by
  unfold execLdU8
  exact KeepsOut.next (loadI_keeps w h0)

theorem execAmoSwap_keeps {s0 : From} {a0 a1 a2} (w : sub 133499189746028214595801721171056738116080792100612001541216170249514639066159486519588568195072 s0.W = true) (h0 : Keeps s0 a2) : KeepsOut s0 (execAmoSwap a0 a1 a2) := by
  unfold execAmoSwap
  exact KeepsOut.next (amoI_keeps w h0)

theorem execClzI64_keeps {s0 : From} {a0 a1 a2} (w : sub 524288 s0.W = true) (h0 : Keeps s0 a2) : KeepsOut s0 (execClzI64 a0 a1 a2) := by
  unfold execClzI64
  exact KeepsOut.next (aluR1_keeps w h0)

theorem execJmp_keeps {s0 : From} {a0 a1 a2} (w : sub 524288 s0.W = true) (h0 : Keeps s0 a2) : KeepsOut s0 (execJmp a0 a1 a2) := by
  unfold execJmp
  exact KeepsOut.next (issue_keeps w h0 (fun x5 h6 => (branchTo_keeps w h6)))

theorem execCmpNe_keeps {s0 : From} {a0 a1 a2} (w : sub 524288 s0.W = true) (h0 : Keeps s0 a2) : KeepsOut s0 (execCmpNe a0 a1 a2) := by
  unfold execCmpNe
  exact KeepsOut.next (cmpR_keeps w h0)

theorem execCmpLtu_keeps {s0 : From} {a0 a1 a2} (w : sub 524288 s0.W = true) (h0 : Keeps s0 a2) : KeepsOut s0 (execCmpLtu a0 a1 a2) := by
  unfold execCmpLtu
  exact KeepsOut.next (cmpR_keeps w h0)

theorem execBrGe_keeps {s0 : From} {a0 a1 a2} (w : sub 524288 s0.W = true) (h0 : Keeps s0 a2) : KeepsOut s0 (execBrGe a0 a1 a2) := by
  unfold execBrGe
  exact KeepsOut.next (branchCmp_keeps w h0)

theorem execAndI64_keeps {s0 : From} {a0 a1 a2} (w : sub 524288 s0.W = true) (h0 : Keeps s0 a2) : KeepsOut s0 (execAndI64 a0 a1 a2) := by
  unfold execAndI64
  exact KeepsOut.next (aluR_keeps w h0)

theorem execJal_keeps {s0 : From} {a0 a1 a2} (w : sub 524288 s0.W = true) (h0 : Keeps s0 a2) : KeepsOut s0 (execJal a0 a1 a2) := by
  unfold execJal
  exact KeepsOut.next (issue_keeps w h0 (fun x5 h6 => (branchTo_keeps w h6)))

theorem execShrI64_keeps {s0 : From} {a0 a1 a2} (w : sub 524288 s0.W = true) (h0 : Keeps s0 a2) : KeepsOut s0 (execShrI64 a0 a1 a2) := by
  unfold execShrI64
  exact KeepsOut.next (aluR_keeps w h0)

theorem execBrNe_keeps {s0 : From} {a0 a1 a2} (w : sub 524288 s0.W = true) (h0 : Keeps s0 a2) : KeepsOut s0 (execBrNe a0 a1 a2) := by
  unfold execBrNe
  exact KeepsOut.next (branchCmp_keeps w h0)

theorem execCmpiLt_keeps {s0 : From} {a0 a1 a2} (w : sub 524288 s0.W = true) (h0 : Keeps s0 a2) : KeepsOut s0 (execCmpiLt a0 a1 a2) := by
  unfold execCmpiLt
  exact KeepsOut.next (cmpI_keeps w h0)

theorem execSt8_keeps {s0 : From} {a0 a1 a2} (w : sub 1572864 s0.W = true) (h0 : Keeps s0 a2) : KeepsOut s0 (execSt8 a0 a1 a2) := by
  unfold execSt8
  exact KeepsOut.next (storeI_keeps w h0)

theorem execSelI64_keeps {s0 : From} {a0 a1 a2} (w : sub 524288 s0.W = true) (h0 : Keeps s0 a2) : KeepsOut s0 (execSelI64 a0 a1 a2) := by
  unfold execSelI64
  extract_lets +onlyGivenNames x5
  clear_value x5
  exact KeepsOut.next (issue_keeps w h0 (fun x6 h7 => (tupd_keeps w h7)))

theorem execAddI64_keeps {s0 : From} {a0 a1 a2} (w : sub 524288 s0.W = true) (h0 : Keeps s0 a2) : KeepsOut s0 (execAddI64 a0 a1 a2) := by
  unfold execAddI64
  exact KeepsOut.next (aluR_keeps w h0)

theorem execCmpiGe_keeps {s0 : From} {a0 a1 a2} (w : sub 524288 s0.W = true) (h0 : Keeps s0 a2) : KeepsOut s0 (execCmpiGe a0 a1 a2) := by
  unfold execCmpiGe
  exact KeepsOut.next (cmpI_keeps w h0)

theorem execXorI64_keeps {s0 : From} {a0 a1 a2} (w : sub 524288 s0.W = true) (h0 : Keeps s0 a2) : KeepsOut s0 (execXorI64 a0 a1 a2) := by
  unfold execXorI64
  exact KeepsOut.next (aluR_keeps w h0)

theorem execAndiI64_keeps {s0 : From} {a0 a1 a2} (w : sub 524288 s0.W = true) (h0 : Keeps s0 a2) : KeepsOut s0 (execAndiI64 a0 a1 a2) := by
  unfold execAndiI64
  exact KeepsOut.next (aluI_keeps w h0)

theorem execPAnd_keeps {s0 : From} {a0 a1 a2} (w : sub 524288 s0.W = true) (h0 : Keeps s0 a2) : KeepsOut s0 (execPAnd a0 a1 a2) := by
  unfold execPAnd
  exact KeepsOut.next (predR_keeps w h0)

theorem execSt64_keeps {s0 : From} {a0 a1 a2} (w : sub 1572864 s0.W = true) (h0 : Keeps s0 a2) : KeepsOut s0 (execSt64 a0 a1 a2) := by
  unfold execSt64
  exact KeepsOut.next (storeI_keeps w h0)

theorem execAmoAdd_keeps {s0 : From} {a0 a1 a2} (w : sub 133499189746028214595801721171056738116080792100612001541216170249514639066159486519588568195072 s0.W = true) (h0 : Keeps s0 a2) : KeepsOut s0 (execAmoAdd a0 a1 a2) := by
  unfold execAmoAdd
  exact KeepsOut.next (amoI_keeps w h0)

theorem execSt32_keeps {s0 : From} {a0 a1 a2} (w : sub 1572864 s0.W = true) (h0 : Keeps s0 a2) : KeepsOut s0 (execSt32 a0 a1 a2) := by
  unfold execSt32
  exact KeepsOut.next (storeI_keeps w h0)

theorem execMaxuI64_keeps {s0 : From} {a0 a1 a2} (w : sub 524288 s0.W = true) (h0 : Keeps s0 a2) : KeepsOut s0 (execMaxuI64 a0 a1 a2) := by
  unfold execMaxuI64
  exact KeepsOut.next (aluR_keeps w h0)

theorem execOrI64_keeps {s0 : From} {a0 a1 a2} (w : sub 524288 s0.W = true) (h0 : Keeps s0 a2) : KeepsOut s0 (execOrI64 a0 a1 a2) := by
  unfold execOrI64
  exact KeepsOut.next (aluR_keeps w h0)

theorem execLdihI64_keeps {s0 : From} {a0 a1 a2} (w : sub 524288 s0.W = true) (h0 : Keeps s0 a2) : KeepsOut s0 (execLdihI64 a0 a1 a2) := by
  unfold execLdihI64
  extract_lets +onlyGivenNames x5
  clear_value x5
  exact KeepsOut.next (issue_keeps w h0 (fun x6 h7 => (tupd_keeps w h7)))

theorem execCmpiEq_keeps {s0 : From} {a0 a1 a2} (w : sub 524288 s0.W = true) (h0 : Keeps s0 a2) : KeepsOut s0 (execCmpiEq a0 a1 a2) := by
  unfold execCmpiEq
  exact KeepsOut.next (cmpI_keeps w h0)

theorem execJr_keeps {s0 : From} {a0 a1 a2} (w : sub 524288 s0.W = true) (h0 : Keeps s0 a2) : KeepsOut s0 (execJr a0 a1 a2) := by
  unfold execJr
  exact KeepsOut.next (issue_keeps w h0 (fun x5 h6 => (branchTo_keeps w h6)))

theorem execMinI64_keeps {s0 : From} {a0 a1 a2} (w : sub 524288 s0.W = true) (h0 : Keeps s0 a2) : KeepsOut s0 (execMinI64 a0 a1 a2) := by
  unfold execMinI64
  exact KeepsOut.next (aluR_keeps w h0)

theorem execBrLtu_keeps {s0 : From} {a0 a1 a2} (w : sub 524288 s0.W = true) (h0 : Keeps s0 a2) : KeepsOut s0 (execBrLtu a0 a1 a2) := by
  unfold execBrLtu
  exact KeepsOut.next (branchCmp_keeps w h0)

theorem execBrP_keeps {s0 : From} {a0 a1 a2} (w : sub 524288 s0.W = true) (h0 : Keeps s0 a2) : KeepsOut s0 (execBrP a0 a1 a2) := by
  unfold execBrP
  extract_lets +onlyGivenNames x5
  clear_value x5
  refine KeepsOut.next ?_
  refine issue_keeps w h0 ?_
  refine fun x6 h7 => ?_
  extract_lets +onlyGivenNames x8
  clear_value x8
  exact Keeps.ite (branchTo_keeps w h7) (tupd_keeps w h7)

theorem execPXor_keeps {s0 : From} {a0 a1 a2} (w : sub 524288 s0.W = true) (h0 : Keeps s0 a2) : KeepsOut s0 (execPXor a0 a1 a2) := by
  unfold execPXor
  exact KeepsOut.next (predR_keeps w h0)

theorem execCmpEq_keeps {s0 : From} {a0 a1 a2} (w : sub 524288 s0.W = true) (h0 : Keeps s0 a2) : KeepsOut s0 (execCmpEq a0 a1 a2) := by
  unfold execCmpEq
  exact KeepsOut.next (cmpR_keeps w h0)

theorem execMinuI64_keeps {s0 : From} {a0 a1 a2} (w : sub 524288 s0.W = true) (h0 : Keeps s0 a2) : KeepsOut s0 (execMinuI64 a0 a1 a2) := by
  unfold execMinuI64
  exact KeepsOut.next (aluR_keeps w h0)

end Sys2Proof.Machine
end

