-- ==== Sys2Proof/Laws/KeepsVector.lean ====
section
/-!
SUPPORT. What the operations of `Sys2Proof.Machine.Vector` keep (`Sys2Proof.Machine.Keeps`): one lemma for each.
-/

namespace Sys2Proof.Machine

theorem vwrite_keeps {s0 : From} {a0 a1 a2 a3} (w : sub 1042962419883256876169444192465601618458351817556959360325703910069443225478828393565899980800 s0.W = true) (h0 : Keeps s0 a0) : Keeps s0 (vwrite a0 a1 a2 a3) := by
  unfold vwrite
  exact fpFlags_keeps (sub_trans rfl w) (tupd_keeps (sub_trans rfl w) h0)

theorem vreduce_keeps {s0 : From} {a0 a1 a2 a3 a4 a5} (w : sub 1042962419883256876169444192465601618458351817556959360325703910069443225478828393565899980800 s0.W = true) (h0 : Keeps s0 a0) : Keeps s0 (vreduce a0 a1 a2 a3 a4 a5) := by
  unfold vreduce
  extract_lets +onlyGivenNames x5
  clear_value x5
  refine issue_keeps (sub_trans rfl w) h0 ?_
  refine fun x6 h7 => ?_
  extract_lets +onlyGivenNames x8 x9 x10 x11 x12
  clear_value x8 x9 x10 x11 x12
  exact fpFlags_keeps (sub_trans rfl w) (tupd_keeps (sub_trans rfl w) h7)

theorem execVrmax_keeps {s0 : From} {a0 a1 a2} (w : sub 1042962419883256876169444192465601618458351817556959360325703910069443225478828393565899980800 s0.W = true) (h0 : Keeps s0 a2) : KeepsOut s0 (execVrmax a0 a1 a2) := by
  unfold execVrmax
  exact KeepsOut.next (vreduce_keeps w h0)

theorem vcmp_keeps {s0 : From} {a0 a1 a2 a3 a4} (w : sub 1042962419883256876169444192465601618458351817556959360325703910069443225478828393565899980800 s0.W = true) (h0 : Keeps s0 a0) : Keeps s0 (vcmp a0 a1 a2 a3 a4) := by
  unfold vcmp
  extract_lets +onlyGivenNames x5
  clear_value x5
  refine issue_keeps (sub_trans rfl w) h0 ?_
  refine fun x6 h7 => ?_
  extract_lets +onlyGivenNames x8 x9 x10 x11 x12 x13
  clear_value x8 x9 x10 x11 x12 x13
  exact fpFlags_keeps (sub_trans rfl w) (tupd_keeps (sub_trans rfl w) h7)

theorem execVcmpLt_keeps {s0 : From} {a0 a1 a2} (w : sub 1042962419883256876169444192465601618458351817556959360325703910069443225478828393565899980800 s0.W = true) (h0 : Keeps s0 a2) : KeepsOut s0 (execVcmpLt a0 a1 a2) := by
  unfold execVcmpLt
  exact KeepsOut.next (vcmp_keeps w h0)

theorem storeLanes_keeps {s0 : From} {a0 a1 a2 a3 a4 a5} (w : sub 1572864 s0.W = true) (h0 : Keeps s0 a0) : Keeps s0 (storeLanes a0 a1 a2 a3 a4 a5) := by
  induction a5 generalizing a0 a1 a2 a3 a4 with
  | nil =>
    unfold storeLanes
    exact h0
  | cons y ys ih =>
    unfold storeLanes
    exact ih (Keeps.ite (twrite_keeps w h0) h0)

theorem execVst_keeps {s0 : From} {a0 a1 a2} (w : sub 1572864 s0.W = true) (h0 : Keeps s0 a2) : KeepsOut s0 (execVst a0 a1 a2) := by
  unfold execVst
  extract_lets +onlyGivenNames x5 x6
  clear_value x5 x6
  refine KeepsOut.next ?_
  refine issue_keeps (sub_trans rfl w) h0 ?_
  refine fun x7 h8 => ?_
  extract_lets +onlyGivenNames x9 x10
  clear_value x9 x10
  exact Keeps.ite (tupd_keeps (sub_trans rfl w) h8) (Keeps.ite h8 (Keeps.ite (raiseAt_keeps (sub_trans rfl w) h8) (tupd_keeps (sub_trans rfl w) (storeLanes_keeps w h8))))

theorem execVkv4d_keeps {s0 : From} {a0 a1 a2} (w : sub 1042962419883256876169444192465601618458351817556959360325703910069443225478828393565899980800 s0.W = true) (h0 : Keeps s0 a2) : KeepsOut s0 (execVkv4d a0 a1 a2) := by
  unfold execVkv4d
  extract_lets +onlyGivenNames x5 x6
  clear_value x5 x6
  refine KeepsOut.next ?_
  refine issue_keeps (sub_trans rfl w) h0 ?_
  refine fun x7 h8 => ?_
  extract_lets +onlyGivenNames x9 x10
  clear_value x9 x10
  exact vwrite_keeps w h8

theorem vlanes_keeps {s0 : From} {a0 a1 a2 a3 a4 a5 a6 a7 a8 a9} (w : sub 1042962419883256876169444192465601618458351817556959360325703910069443225478828393565899980800 s0.W = true) (h0 : Keeps s0 a0) : Keeps s0 (vlanes a0 a1 a2 a3 a4 a5 a6 a7 a8 a9) := by
  unfold vlanes
  extract_lets +onlyGivenNames x5
  clear_value x5
  refine issue_keeps (sub_trans rfl w) h0 ?_
  refine fun x6 h7 => ?_
  extract_lets +onlyGivenNames x8
  clear_value x8
  exact vwrite_keeps w h7

theorem execVkv4e_keeps {s0 : From} {a0 a1 a2} (w : sub 1042962419883256876169444192465601618458351817556959360325703910069443225478828393565899980800 s0.W = true) (h0 : Keeps s0 a2) : KeepsOut s0 (execVkv4e a0 a1 a2) := by
  unfold execVkv4e
  extract_lets +onlyGivenNames x5 x6
  clear_value x5 x6
  refine KeepsOut.next ?_
  refine issue_keeps (sub_trans rfl w) h0 ?_
  refine fun x7 h8 => ?_
  extract_lets +onlyGivenNames x9 x10 x11 x12 x13 x14 x15 x16 x17 x18
  clear_value x9 x10 x11 x12 x13 x14 x15 x16 x17 x18
  exact fpFlags_keeps (sub_trans rfl w) (tupd_keeps (sub_trans rfl w) h8)

theorem execVlane_keeps {s0 : From} {a0 a1 a2} (w : sub 1042962419883256876169444192465601618458351817556959360325703910069443225478828393565899980800 s0.W = true) (h0 : Keeps s0 a2) : KeepsOut s0 (execVlane a0 a1 a2) := by
  unfold execVlane
  exact KeepsOut.next (vlanes_keeps w h0)

theorem execViota_keeps {s0 : From} {a0 a1 a2} (w : sub 1042962419883256876169444192465601618458351817556959360325703910069443225478828393565899980800 s0.W = true) (h0 : Keeps s0 a2) : KeepsOut s0 (execViota a0 a1 a2) := by
  unfold execViota
  exact KeepsOut.next (vlanes_keeps w h0)

theorem vop1_keeps {s0 : From} {a0 a1 a2 a3 a4 a5} (w : sub 1042962419883256876169444192465601618458351817556959360325703910069443225478828393565899980800 s0.W = true) (h0 : Keeps s0 a0) : Keeps s0 (vop1 a0 a1 a2 a3 a4 a5) := by
  unfold vop1
  exact vlanes_keeps w h0

theorem execVexp_keeps {s0 : From} {a0 a1 a2} (w : sub 1042962419883256876169444192465601618458351817556959360325703910069443225478828393565899980800 s0.W = true) (h0 : Keeps s0 a2) : KeepsOut s0 (execVexp a0 a1 a2) := by
  unfold execVexp
  exact KeepsOut.next (vop1_keeps w h0)

theorem execVrng_keeps {s0 : From} {a0 a1 a2} (w : sub 1042962419883256876169444192465601618458351817556959360325703910069443225478828393565899980800 s0.W = true) (h0 : Keeps s0 a2) : KeepsOut s0 (execVrng a0 a1 a2) := by
  unfold execVrng
  exact KeepsOut.next (vlanes_keeps w h0)

theorem vop2_keeps {s0 : From} {a0 a1 a2 a3 a4 a5} (w : sub 1042962419883256876169444192465601618458351817556959360325703910069443225478828393565899980800 s0.W = true) (h0 : Keeps s0 a0) : Keeps s0 (vop2 a0 a1 a2 a3 a4 a5) := by
  unfold vop2
  exact vlanes_keeps w h0

theorem execVmax_keeps {s0 : From} {a0 a1 a2} (w : sub 1042962419883256876169444192465601618458351817556959360325703910069443225478828393565899980800 s0.W = true) (h0 : Keeps s0 a2) : KeepsOut s0 (execVmax a0 a1 a2) := by
  unfold execVmax
  exact KeepsOut.next (vop2_keeps w h0)

theorem vshift_keeps {s0 : From} {a0 a1 a2 a3 a4} (w : sub 1042962419883256876169444192465601618458351817556959360325703910069443225478828393565899980800 s0.W = true) (h0 : Keeps s0 a0) : Keeps s0 (vshift a0 a1 a2 a3 a4) := by
  unfold vshift
  exact vlanes_keeps w h0

theorem execVshr_keeps {s0 : From} {a0 a1 a2} (w : sub 1042962419883256876169444192465601618458351817556959360325703910069443225478828393565899980800 s0.W = true) (h0 : Keeps s0 a2) : KeepsOut s0 (execVshr a0 a1 a2) := by
  unfold execVshr
  exact KeepsOut.next (vshift_keeps w h0)

theorem execVxor_keeps {s0 : From} {a0 a1 a2} (w : sub 1042962419883256876169444192465601618458351817556959360325703910069443225478828393565899980800 s0.W = true) (h0 : Keeps s0 a2) : KeepsOut s0 (execVxor a0 a1 a2) := by
  unfold execVxor
  exact KeepsOut.next (vop2_keeps w h0)

theorem execVldacc_keeps {s0 : From} {a0 a1 a2} (w : sub 1042962419883256876169444192465601618458351817556959360325703910069443225478828393565899980800 s0.W = true) (h0 : Keeps s0 a2) : KeepsOut s0 (execVldacc a0 a1 a2) := by
  unfold execVldacc
  extract_lets +onlyGivenNames x5 x6
  clear_value x5 x6
  refine KeepsOut.next ?_
  refine issue_keeps (sub_trans rfl w) h0 ?_
  refine fun x7 h8 => ?_
  extract_lets +onlyGivenNames x9
  clear_value x9
  exact vwrite_keeps w h8

theorem execVcmpEq_keeps {s0 : From} {a0 a1 a2} (w : sub 1042962419883256876169444192465601618458351817556959360325703910069443225478828393565899980800 s0.W = true) (h0 : Keeps s0 a2) : KeepsOut s0 (execVcmpEq a0 a1 a2) := by
  unfold execVcmpEq
  exact KeepsOut.next (vcmp_keeps w h0)

theorem execVmul_keeps {s0 : From} {a0 a1 a2} (w : sub 1042962419883256876169444192465601618458351817556959360325703910069443225478828393565899980800 s0.W = true) (h0 : Keeps s0 a2) : KeepsOut s0 (execVmul a0 a1 a2) := by
  unfold execVmul
  exact KeepsOut.next (vop2_keeps w h0)

theorem execVldB32_keeps {s0 : From} {a0 a1 a2} (w : sub 524288 s0.W = true) (h0 : Keeps s0 a2) : KeepsOut s0 (execVldB32 a0 a1 a2) := by
  unfold execVldB32
  extract_lets +onlyGivenNames x5 x6
  clear_value x5 x6
  refine KeepsOut.next ?_
  refine issue_keeps w h0 ?_
  refine fun x7 h8 => ?_
  extract_lets +onlyGivenNames x9
  clear_value x9
  exact Keeps.ite (tupd_keeps w h8) (Keeps.ite h8 (Keeps.ite (raiseAt_keeps w h8) (pushPend_keeps w h8)))

theorem execVperm_keeps {s0 : From} {a0 a1 a2} (w : sub 1042962419883256876169444192465601618458351817556959360325703910069443225478828393565899980800 s0.W = true) (h0 : Keeps s0 a2) : KeepsOut s0 (execVperm a0 a1 a2) := by
  unfold execVperm
  exact KeepsOut.next (vlanes_keeps w h0)

theorem execVor_keeps {s0 : From} {a0 a1 a2} (w : sub 1042962419883256876169444192465601618458351817556959360325703910069443225478828393565899980800 s0.W = true) (h0 : Keeps s0 a2) : KeepsOut s0 (execVor a0 a1 a2) := by
  unfold execVor
  exact KeepsOut.next (vop2_keeps w h0)

theorem execVmin_keeps {s0 : From} {a0 a1 a2} (w : sub 1042962419883256876169444192465601618458351817556959360325703910069443225478828393565899980800 s0.W = true) (h0 : Keeps s0 a2) : KeepsOut s0 (execVmin a0 a1 a2) := by
  unfold execVmin
  exact KeepsOut.next (vop2_keeps w h0)

theorem execVcmpLe_keeps {s0 : From} {a0 a1 a2} (w : sub 1042962419883256876169444192465601618458351817556959360325703910069443225478828393565899980800 s0.W = true) (h0 : Keeps s0 a2) : KeepsOut s0 (execVcmpLe a0 a1 a2) := by
  unfold execVcmpLe
  exact KeepsOut.next (vcmp_keeps w h0)

theorem execVln_keeps {s0 : From} {a0 a1 a2} (w : sub 1042962419883256876169444192465601618458351817556959360325703910069443225478828393565899980800 s0.W = true) (h0 : Keeps s0 a2) : KeepsOut s0 (execVln a0 a1 a2) := by
  unfold execVln
  exact KeepsOut.next (vop1_keeps w h0)

theorem execVneg_keeps {s0 : From} {a0 a1 a2} (w : sub 1042962419883256876169444192465601618458351817556959360325703910069443225478828393565899980800 s0.W = true) (h0 : Keeps s0 a2) : KeepsOut s0 (execVneg a0 a1 a2) := by
  unfold execVneg
  exact KeepsOut.next (vop1_keeps w h0)

theorem execVfma_keeps {s0 : From} {a0 a1 a2} (w : sub 1042962419883256876169444192465601618458351817556959360325703910069443225478828393565899980800 s0.W = true) (h0 : Keeps s0 a2) : KeepsOut s0 (execVfma a0 a1 a2) := by
  unfold execVfma
  exact KeepsOut.next (vlanes_keeps w h0)

theorem execVshl_keeps {s0 : From} {a0 a1 a2} (w : sub 1042962419883256876169444192465601618458351817556959360325703910069443225478828393565899980800 s0.W = true) (h0 : Keeps s0 a2) : KeepsOut s0 (execVshl a0 a1 a2) := by
  unfold execVshl
  exact KeepsOut.next (vshift_keeps w h0)

theorem execVrsum_keeps {s0 : From} {a0 a1 a2} (w : sub 1042962419883256876169444192465601618458351817556959360325703910069443225478828393565899980800 s0.W = true) (h0 : Keeps s0 a2) : KeepsOut s0 (execVrsum a0 a1 a2) := by
  unfold execVrsum
  exact KeepsOut.next (vreduce_keeps w h0)

theorem execVsub_keeps {s0 : From} {a0 a1 a2} (w : sub 1042962419883256876169444192465601618458351817556959360325703910069443225478828393565899980800 s0.W = true) (h0 : Keeps s0 a2) : KeepsOut s0 (execVsub a0 a1 a2) := by
  unfold execVsub
  exact KeepsOut.next (vop2_keeps w h0)

theorem execVbcast_keeps {s0 : From} {a0 a1 a2} (w : sub 1042962419883256876169444192465601618458351817556959360325703910069443225478828393565899980800 s0.W = true) (h0 : Keeps s0 a2) : KeepsOut s0 (execVbcast a0 a1 a2) := by
  unfold execVbcast
  exact KeepsOut.next (vlanes_keeps w h0)

theorem execVcvt_keeps {s0 : From} {a0 a1 a2} (w : sub 1042962419883256876169444192465601618458351817556959360325703910069443225478828393565899980800 s0.W = true) (h0 : Keeps s0 a2) : KeepsOut s0 (execVcvt a0 a1 a2) := by
  unfold execVcvt
  extract_lets +onlyGivenNames x5 x6 x7 x8 x9
  clear_value x5 x6 x7 x8 x9
  refine KeepsOut.next ?_
  refine issue_keeps (sub_trans rfl w) h0 ?_
  refine fun x10 h11 => ?_
  extract_lets +onlyGivenNames x12 x13 x14
  clear_value x12 x13 x14
  exact fpFlags_keeps (sub_trans rfl w) (tupd_keeps (sub_trans rfl w) h11)

theorem execVand_keeps {s0 : From} {a0 a1 a2} (w : sub 1042962419883256876169444192465601618458351817556959360325703910069443225478828393565899980800 s0.W = true) (h0 : Keeps s0 a2) : KeepsOut s0 (execVand a0 a1 a2) := by
  unfold execVand
  exact KeepsOut.next (vop2_keeps w h0)

theorem execVrcp_keeps {s0 : From} {a0 a1 a2} (w : sub 1042962419883256876169444192465601618458351817556959360325703910069443225478828393565899980800 s0.W = true) (h0 : Keeps s0 a2) : KeepsOut s0 (execVrcp a0 a1 a2) := by
  unfold execVrcp
  exact KeepsOut.next (vop1_keeps w h0)

theorem execVadd_keeps {s0 : From} {a0 a1 a2} (w : sub 1042962419883256876169444192465601618458351817556959360325703910069443225478828393565899980800 s0.W = true) (h0 : Keeps s0 a2) : KeepsOut s0 (execVadd a0 a1 a2) := by
  unfold execVadd
  exact KeepsOut.next (vop2_keeps w h0)

theorem execVsel_keeps {s0 : From} {a0 a1 a2} (w : sub 1042962419883256876169444192465601618458351817556959360325703910069443225478828393565899980800 s0.W = true) (h0 : Keeps s0 a2) : KeepsOut s0 (execVsel a0 a1 a2) := by
  unfold execVsel
  exact KeepsOut.next (vlanes_keeps w h0)

theorem execVabs_keeps {s0 : From} {a0 a1 a2} (w : sub 1042962419883256876169444192465601618458351817556959360325703910069443225478828393565899980800 s0.W = true) (h0 : Keeps s0 a2) : KeepsOut s0 (execVabs a0 a1 a2) := by
  unfold execVabs
  exact KeepsOut.next (vop1_keeps w h0)

theorem execVqmx_keeps {s0 : From} {a0 a1 a2} (w : sub 1042962419883256876169444192465601618458351817556959360325703910069443225478828393565899980800 s0.W = true) (h0 : Keeps s0 a2) : KeepsOut s0 (execVqmx a0 a1 a2) := by
  unfold execVqmx
  extract_lets +onlyGivenNames x5 x6
  clear_value x5 x6
  refine KeepsOut.next ?_
  refine issue_keeps (sub_trans rfl w) h0 ?_
  refine fun x7 h8 => ?_
  extract_lets +onlyGivenNames x9 x10 x11 x12 x13 x14 x15 x16 x17 x18 x19
  clear_value x9 x10 x11 x12 x13 x14 x15 x16 x17 x18 x19
  exact fpFlags_keeps (sub_trans rfl w) (tupd_keeps (sub_trans rfl w) h8)

theorem execVld_keeps {s0 : From} {a0 a1 a2} (w : sub 524288 s0.W = true) (h0 : Keeps s0 a2) : KeepsOut s0 (execVld a0 a1 a2) := by
  unfold execVld
  extract_lets +onlyGivenNames x5 x6
  clear_value x5 x6
  refine KeepsOut.next ?_
  refine issue_keeps w h0 ?_
  refine fun x7 h8 => ?_
  extract_lets +onlyGivenNames x9
  clear_value x9
  exact Keeps.ite (tupd_keeps w h8) (Keeps.ite h8 (Keeps.ite (raiseAt_keeps w h8) (pushPend_keeps w h8)))

end Sys2Proof.Machine
end

