-- ==== Sys2Proof/Laws/KeepsArray.lean ====
section
/-!
SUPPORT. What the operations of `Sys2Proof.Machine.Array` keep (`Sys2Proof.Machine.Keeps`): one lemma for each.
-/

namespace Sys2Proof.Machine

theorem execAccLd_keeps {s0 : From} {a0 a1 a2} (w : sub 524288 s0.W = true) (h0 : Keeps s0 a2) : KeepsOut s0 (execAccLd a0 a1 a2) := by
  unfold execAccLd
  extract_lets +onlyGivenNames x5 x6
  clear_value x5 x6
  exact KeepsOut.next (issue_keeps w h0 (fun x7 h8 => (Keeps.ite h8 (Keeps.ite (raiseAt_keeps w h8) (pushPend_keeps w h8)))))

theorem arrayDone_keeps {s0 : From} {a0 a1 a2} (w : sub 167916949602175691509393379522421591525206402079991660431964399281806265506960823507263249211392 s0.W = true) (h0 : Keeps s0 a0) : Keeps s0 (arrayDone a0 a1 a2) := by
  unfold arrayDone
  extract_lets +onlyGivenNames x5
  clear_value x5
  split
  · exact tupd_keeps (sub_trans rfl w) h0
  · extract_lets +onlyGivenNames x6 x7
    clear_value x6 x7
    refine Keeps.ite (parityFail_keeps (sub_trans rfl w) h0) ?_
    refine Keeps.ite (parityFail_keeps (sub_trans rfl w) h0) ?_
    refine Keeps.ite (parityFail_keeps (sub_trans rfl w) h0) ?_
    extract_lets +onlyGivenNames x8 x9
    clear_value x8 x9
    exact fpFlags_keeps (sub_trans rfl w) (tupd_keeps (sub_trans rfl w) h0)
  · exact h0

theorem execMmaTile_keeps {s0 : From} {a0 a1 a2} (w : sub 524288 s0.W = true) (h0 : Keeps s0 a2) : KeepsOut s0 (execMmaTile a0 a1 a2) := by
  unfold execMmaTile
  extract_lets +onlyGivenNames x5 x6 x7 x8 x9 x10 x11 x12
  clear_value x5 x6 x7 x8 x9 x10 x11 x12
  exact KeepsOut.next (issue_keeps w h0 (fun x13 h14 => (Keeps.ite h14 (Keeps.ite (raiseAt_keeps w h14) (Keeps.ite (raiseAt_keeps w h14) (Keeps.ite (raiseAt_keeps w h14) (pushPend_keeps w h14)))))))

theorem execAccClr_keeps {s0 : From} {a0 a1 a2} (w : sub 524288 s0.W = true) (h0 : Keeps s0 a2) : KeepsOut s0 (execAccClr a0 a1 a2) := by
  unfold execAccClr
  exact KeepsOut.next (issue_keeps w h0 (fun x5 h6 => (tupd_keeps w h6)))

theorem execAccSt_keeps {s0 : From} {a0 a1 a2} (w : sub 524288 s0.W = true) (h0 : Keeps s0 a2) : KeepsOut s0 (execAccSt a0 a1 a2) := by
  unfold execAccSt
  extract_lets +onlyGivenNames x5 x6
  clear_value x5 x6
  exact KeepsOut.next (issue_keeps w h0 (fun x7 h8 => (Keeps.ite h8 (Keeps.ite (raiseAt_keeps w h8) (pushPend_keeps w h8)))))

theorem execArrayComplete_keeps {s0 : From} {a0 a1 a2} (w : sub 167916949602175691509393379522421591525206402079991660431964399281806265506960823507263249211392 s0.W = true) (h0 : Keeps s0 a2) : KeepsOut s0 (execArrayComplete a0 a1 a2) := by
  unfold execArrayComplete
  exact KeepsOut.next (arrayDone_keeps w h0)

end Sys2Proof.Machine
end

