-- ==== Sys2Proof/Laws/KeepsHostOut.lean ====
section
/-!
SUPPORT. What the operations of `Sys2Proof.Machine.HostOut` keep (`Sys2Proof.Machine.Keeps`): one lemma for each.
-/

namespace Sys2Proof.Machine

theorem setCpl_keeps {s0 : From} {a0 a1 a2} (w : sub 2097152 s0.W = true) (h0 : Keeps s0 a0) : Keeps s0 (setCpl a0 a1 a2) := by
  unfold setCpl
  exact upd_host (sub_trans rfl w) h0

theorem cplSignal_keeps {s0 : From} {a0 a1} (w : sub 549757911040 s0.W = true) (h0 : Keeps s0 a0) : Keeps s0 (cplSignal a0 a1) := by
  unfold cplSignal
  exact irq_keeps w (setCpl_keeps (sub_trans rfl w) h0)

theorem cplWrite_keeps {s0 : From} {a0 a1 a2 a3} (w : sub 309485009821345618482724864 s0.W = true) (h0 : Keeps s0 a0) : Keeps s0 (cplWrite a0 a1 a2 a3) := by
  unfold cplWrite
  extract_lets +onlyGivenNames x5 x6 x7 x8
  clear_value x5 x6 x7 x8
  extract_lets +onlyGivenNames x9
  have h10 : Keeps s0 x9 := hostWrite_keeps (sub_trans rfl w) h0
  clear_value x9
  extract_lets +onlyGivenNames x11
  have h12 : Keeps s0 x11 := fput_keeps h10 rfl (sub_trans rfl w)
  clear_value x11
  extract_lets +onlyGivenNames x13
  have h14 : Keeps s0 x13 := Keeps.ite (fput_keeps h12 rfl (sub_trans rfl w)) h12
  clear_value x13
  extract_lets +onlyGivenNames x15
  clear_value x15
  extract_lets +onlyGivenNames x16
  have h17 : Keeps s0 x16 := setCpl_keeps (sub_trans rfl w) h14
  clear_value x16
  exact Keeps.ite (cplSignal_keeps (sub_trans rfl w) h17) h17

theorem setSpill_keeps {s0 : From} {a0 a1} (w : sub 151115727451828648935424 s0.W = true) (h0 : Keeps s0 a0) : Keeps s0 (setSpill a0 a1) := by
  unfold setSpill
  exact fput_keeps (upd_host (sub_trans rfl w) h0) rfl (sub_trans rfl w)

theorem twPut_keeps {s0 : From} {a0 a1 a2} (w : sub 34359738368 s0.W = true) (h0 : Keeps s0 a0) : Keeps s0 (twPut a0 a1 a2) := by
  unfold twPut
  exact upd_twin (sub_trans rfl w) h0

theorem recordOut_keeps {s0 : From} {a0 a1 a2} (w : sub 309673904480660405365039104 s0.W = true) (h0 : Keeps s0 a0) : Keeps s0 (recordOut a0 a1 a2) := by
  unfold recordOut
  refine Keeps.ite (cplWrite_keeps (sub_trans rfl w) h0) ?_
  extract_lets +onlyGivenNames x5
  clear_value x5
  extract_lets +onlyGivenNames x6
  have h7 : Keeps s0 x6 := memWrite_keeps (sub_trans rfl w) h0
  clear_value x6
  exact hstErr_keeps (sub_trans rfl w) (setSpill_keeps (sub_trans rfl w) h7) rfl (sub_trans rfl w)

theorem flushRecs_keeps {s0 : From} {a0 a1} (w : sub 309673904480660439724777472 s0.W = true) (h0 : Keeps s0 a0) : Keeps s0 (flushRecs a0 a1) := by
  unfold flushRecs
  extract_lets +onlyGivenNames x5 x6 x7
  clear_value x5 x6 x7
  extract_lets +onlyGivenNames x8
  have h9 : Keeps s0 x8 := twPut_keeps (sub_trans rfl w) h0
  clear_value x8
  exact Keeps.foldl (fun x10 x11 h12 => (recordOut_keeps (sub_trans rfl w) h12)) _ h9

theorem answer_keeps {s0 : From} {a0 a1 a2 a3 a4 a5 a6 a7} (w : sub 309485009821345618482724864 s0.W = true) (h0 : Keeps s0 a0) : Keeps s0 (answer a0 a1 a2 a3 a4 a5 a6 a7) := by
  unfold answer
  extract_lets +onlyGivenNames x5
  clear_value x5
  extract_lets +onlyGivenNames x6
  have h7 : Keeps s0 x6 := setCpl_keeps (sub_trans rfl w) h0
  clear_value x6
  exact Keeps.ite (cplWrite_keeps w h7) h7

theorem record_keeps {s0 : From} {a0 a1 a2 a3 a4} (w : sub 309673904480660439724777472 s0.W = true) (h0 : Keeps s0 a0) : Keeps s0 (record a0 a1 a2 a3 a4) := by
  unfold record
  exact flushRecs_keeps w (twPut_keeps (sub_trans rfl w) h0)

end Sys2Proof.Machine
end

