-- ==== Sys2Proof/Laws/KeepsJournal.lean ====
section
/-!
SUPPORT. What the operations of `Sys2Proof.Machine.Journal` keep (`Sys2Proof.Machine.Keeps`): one lemma for each.
-/

namespace Sys2Proof.Machine

theorem twinSend_keeps {s0 : From} {a0 a1 a2} (w : sub 584115552256 s0.W = true) (h0 : Keeps s0 a0) : Keeps s0 (twinSend a0 a1 a2) := by
  unfold twinSend
  refine Keeps.ite h0 ?_
  extract_lets +onlyGivenNames x5 x6
  clear_value x5 x6
  extract_lets +onlyGivenNames x7
  have h8 : Keeps s0 x7 := twPut_keeps (sub_trans rfl w) h0
  clear_value x7
  exact upd_out (sub_trans rfl w) h8

theorem sendEnts_keeps {s0 : From} {a0 a1 a2 a3} (w : sub 584115552256 s0.W = true) (h0 : Keeps s0 a0) : Keeps s0 (sendEnts a0 a1 a2 a3) := by
  induction a2 generalizing a0 a1 a3 with
  | zero =>
    unfold sendEnts
    exact h0
  | succ n ih =>
    unfold sendEnts
    split
    · exact h0
    · exact ih (twinSend_keeps w h0)

theorem journal_keeps {s0 : From} {a0 a1 a2} (w : sub 2371421987580235682274733772977928352834969285952318751528091320482061479141441536 s0.W = true) (h0 : Keeps s0 a0) : Keeps s0 (journal a0 a1 a2) := by
  unfold journal
  refine Keeps.ite h0 ?_
  extract_lets +onlyGivenNames x5 x6 x7 x8
  clear_value x5 x6 x7 x8
  refine Keeps.ite (twPut_keeps (sub_trans rfl w) h0) ?_
  refine Keeps.ite (fset_keeps (twPut_keeps (sub_trans rfl w) h0) rfl (sub_trans rfl w)) ?_
  extract_lets +onlyGivenNames x9
  have h10 : Keeps s0 x9 := twPut_keeps (sub_trans rfl w) h0
  clear_value x9
  exact Keeps.ite h10 (fput_keeps (sendEnts_keeps (sub_trans rfl w) h10) rfl (sub_trans rfl w))

theorem setRegion_keeps {s0 : From} {a0 a1 a2} (w : sub 2371421987580235682274733772977928352834969285952318751528091320482061480215207936 s0.W = true) (h0 : Keeps s0 a0) : Keeps s0 (setRegion a0 a1 a2) := by
  unfold setRegion
  exact journal_keeps (sub_trans rfl w) (memPut_keeps (sub_trans rfl w) h0)

theorem revokeSpans_keeps {s0 : From} {a0 a1 a2} (w : sub 2371421987580235682274733772977928352834969285952318751528091320482061480215207936 s0.W = true) (h0 : Keeps s0 a0) : Keeps s0 (revokeSpans a0 a1 a2) := by
  unfold revokeSpans
  refine Keeps.foldl (fun x5 x6 h7 => ?_) _ h0
  extract_lets +onlyGivenNames x8
  clear_value x8
  exact Keeps.ite (setRegion_keeps w h7) h7

theorem hostGate_keeps {s0 : From} {a0 a1 a2} (w : sub 147573952589676412928 s0.W = true) (h0 : Keeps s0 a0) (h1 : ∀ x00, Keeps s0 x00 → Keeps s0 (a2 x00)) : Keeps s0 (hostGate a0 a1 a2) := by
  unfold hostGate
  exact Keeps.ite h0 (Keeps.ite (h1 _ h0) (fset_keeps h0 rfl (sub_trans rfl w)))

theorem regGate_keeps {s0 : From} {a0 a1 a2 a3} (w : sub 147573952589676412928 s0.W = true) (h0 : Keeps s0 a0) (h1 : sub (bitOf a1) s0.W = true) (h2 : ∀ x00, Keeps s0 x00 → Keeps s0 (a3 x00)) : Keeps s0 (regGate a0 a1 a2 a3) := by
  unfold regGate
  exact hostGate_keeps w h0 (fun x5 h6 => (h2 _ h6))

end Sys2Proof.Machine
end

