-- ==== Sys2Proof/Laws/KeepsCtx.lean ====
section
/-!
SUPPORT. What the operations of `Sys2Proof.Machine.Ctx` keep (`Sys2Proof.Machine.Keeps`): one lemma for each.
-/

namespace Sys2Proof.Machine

theorem cxPut_keeps {s0 : From} {a0 a1 a2} (w : sub 8388608 s0.W = true) (h0 : Keeps s0 a0) : Keeps s0 (cxPut a0 a1 a2) := by
  unfold cxPut
  exact upd_ctx (sub_trans rfl w) h0

theorem cxChange_keeps {s0 : From} {a0 a1 a2 a3} (w : sub 2371421987580235682274733772977928352834969285952318751528091320482061480223727616 s0.W = true) (h0 : Keeps s0 a0) : Keeps s0 (cxChange a0 a1 a2 a3) := by
  unfold cxChange
  extract_lets +onlyGivenNames x5 x6 x7 x8
  clear_value x5 x6 x7 x8
  extract_lets +onlyGivenNames x9
  have h10 : Keeps s0 x9 := upd_tie (sub_trans rfl w) h0
  clear_value x9
  extract_lets +onlyGivenNames x11
  have h12 : Keeps s0 x11 := Keeps.ite (memPut_keeps (sub_trans rfl w) h10) h10
  clear_value x11
  exact journal_keeps (sub_trans rfl w) (cxPut_keeps (sub_trans rfl w) h12)

theorem poolPut_keeps {s0 : From} {a0 a1 a2} (w : sub 134217728 s0.W = true) (h0 : Keeps s0 a0) : Keeps s0 (poolPut a0 a1 a2) := by
  unfold poolPut
  exact upd_pools (sub_trans rfl w) h0

theorem cxUpd_keeps {s0 : From} {a0 a1 a2} (w : sub 8388608 s0.W = true) (h0 : Keeps s0 a0) : Keeps s0 (cxUpd a0 a1 a2) := by
  unfold cxUpd
  exact cxPut_keeps w h0

theorem doneCount_keeps {s0 : From} {a0 a1} (w : sub 30423614405477505635920876929024 s0.W = true) (h0 : Keeps s0 a0) : Keeps s0 (doneCount a0 a1) := by
  unfold doneCount
  split
  · exact fadd1_keeps h0 rfl (sub_trans rfl w)
  · exact fadd1_keeps h0 rfl (sub_trans rfl w)
  · exact fadd1_keeps h0 rfl (sub_trans rfl w)
  · exact fadd1_keeps h0 rfl (sub_trans rfl w)
  · exact fadd1_keeps h0 rfl (sub_trans rfl w)
  · exact fadd1_keeps h0 rfl (sub_trans rfl w)

theorem drain_keeps {s0 : From} {a0 a1 a2 a3 a4} (w : sub 2371421987580235682274733772977928352834969285952349175452170702468357255636115456 s0.W = true) (h0 : Keeps s0 a0) : Keeps s0 (drain a0 a1 a2 a3 a4) := by
  unfold drain
  extract_lets +onlyGivenNames x5 x6 x7
  clear_value x5 x6 x7
  extract_lets +onlyGivenNames x8
  have h9 : Keeps s0 x8 := cxChange_keeps (sub_trans rfl w) h0
  clear_value x8
  extract_lets +onlyGivenNames x10
  have h11 : Keeps s0 x10 := Keeps.ite h9 (doneCount_keeps (sub_trans rfl w) (record_keeps (sub_trans rfl w) h9))
  clear_value x10
  exact revokeSpans_keeps (sub_trans rfl w) h11

theorem endNow_keeps {s0 : From} {a0 a1 a2} (w : sub 2371421987580235682274733772977928352834969285952349175452170702468357255636115456 s0.W = true) (h0 : Keeps s0 a0) : Keeps s0 (endNow a0 a1 a2) := by
  unfold endNow
  exact drain_keeps w h0

theorem kvInvalid_keeps {s0 : From} {a0 a1 a2 a3 a4} (w : sub 2371421987580235682274733772977928352834969285952318751528091320482061480223727616 s0.W = true) (h0 : Keeps s0 a0) : Keeps s0 (kvInvalid a0 a1 a2 a3 a4) := by
  unfold kvInvalid
  extract_lets +onlyGivenNames x5 x6 x7
  clear_value x5 x6 x7
  exact Keeps.ite (cxChange_keeps w h0) (Keeps.ite (cxChange_keeps w h0) (Keeps.ite (cxChange_keeps w h0) (Keeps.ite (cxChange_keeps w h0) (cxChange_keeps w h0))))

theorem dmod_keeps {s0 : From} {a0 a1 a2} (w : sub 2371421987580235682274733772977928352834969285952318751528091320482061480223727616 s0.W = true) (h0 : Keeps s0 a0) : Keeps s0 (dmod a0 a1 a2) := by
  unfold dmod
  exact cxChange_keeps w h0

theorem badLogAt_keeps {s0 : From} {a0 a1 a2} (w : sub 2371421987580235682274733772977928352834969285952349175452170702468357255636115456 s0.W = true) (h0 : Keeps s0 a0) : Keeps s0 (badLogAt a0 a1 a2) := by
  unfold badLogAt
  extract_lets +onlyGivenNames x5
  clear_value x5
  exact Keeps.ite (cxUpd_keeps (sub_trans rfl w) h0) (Keeps.ite h0 (endNow_keeps w h0))

theorem descReadAt_keeps {s0 : From} {a0 a1 a2} (w : sub 2371421987580235682274733772977928352834969285952349175452170702468357255652892672 s0.W = true) (h0 : Keeps s0 a0) : Keeps s0 (descReadAt a0 a1 a2) := by
  unfold descReadAt
  exact Keeps.ite (badLogAt_keeps (sub_trans rfl w) (upd_descBad (sub_trans rfl w) h0)) h0

theorem descRead_keeps {s0 : From} {a0 a1} (w : sub 2371421987580235682274733772977928352834969285952349175452170702468357255652892672 s0.W = true) (h0 : Keeps s0 a0) : Keeps s0 (descRead a0 a1) := by
  unfold descRead
  exact descReadAt_keeps w h0

theorem logFetch_keeps {s0 : From} {a0 a1 a2 a3} (w : sub 187467548099782855343728074008469574490992259968534122256791467409329002999965534281730 s0.W = true) (h0 : Keeps s0 a0) : Keeps s0 (logFetch a0 a1 a2 a3) := by
  unfold logFetch
  extract_lets +onlyGivenNames x5
  clear_value x5
  refine Keeps.ite h0 ?_
  extract_lets +onlyGivenNames x6
  clear_value x6
  extract_lets +onlyGivenNames x7
  have h8 : Keeps s0 x7 := lineFailureOf_keeps (sub_trans rfl w) (fset_keeps h0 rfl (sub_trans rfl w))
  clear_value x7
  extract_lets +onlyGivenNames x9
  have h10 : Keeps s0 x9 := Keeps.ite h8 (twinSend_keeps (sub_trans rfl w) h8)
  clear_value x9
  exact Keeps.upd 34359738370 h10 (sub_trans rfl w) rfl

theorem logSegment_keeps {s0 : From} {a0 a1 a2} (w : sub 1207984130 s0.W = true) (h0 : Keeps s0 a0) : Keeps s0 (logSegment a0 a1 a2) := by
  unfold logSegment
  extract_lets +onlyGivenNames x5 x6 x7
  clear_value x5 x6 x7
  refine Keeps.ite h0 ?_
  extract_lets +onlyGivenNames x8 x9
  clear_value x8 x9
  extract_lets +onlyGivenNames x10
  have h11 : Keeps s0 x10 := bump_keeps (sub_trans rfl w) (poolPut_keeps (sub_trans rfl w) h0)
  clear_value x10
  exact memPut_keeps (sub_trans rfl w) h11

theorem logWrite_keeps {s0 : From} {a0 a1 a2 a3} (w : sub 187467548099782855343728074008469574490992259968534122256791467409329002999965676888066 s0.W = true) (h0 : Keeps s0 a0) : Keeps s0 (logWrite a0 a1 a2 a3) := by
  unfold logWrite
  extract_lets +onlyGivenNames x5
  clear_value x5
  extract_lets +onlyGivenNames x6
  have h7 : ∀ x00, Keeps s0 x00 → Keeps s0 (x6 x00) := fun x8 h9 => (cxUpd_keeps (sub_trans rfl w) h9)
  clear_value x6
  split
  · exact logFetch_keeps (sub_trans rfl w) (h7 _ h0)
  · extract_lets +onlyGivenNames x10
    have h11 : Keeps s0 x10 := logSegment_keeps (sub_trans rfl w) h0
    clear_value x10
    extract_lets +onlyGivenNames x12
    clear_value x12
    exact memPut_keeps (sub_trans rfl w) h11

theorem logWrites_keeps {s0 : From} {a0 a1 a2 a3} (w : sub 187467548099782855343728074008469574490992259968534122256791467409329002999965676888066 s0.W = true) (h0 : Keeps s0 a0) : Keeps s0 (logWrites a0 a1 a2 a3) := by
  induction a3 generalizing a0 a1 a2 with
  | nil =>
    unfold logWrites
    exact h0
  | cons y ys ih =>
    unfold logWrites
    exact ih (logWrite_keeps w h0)

theorem badLog_keeps {s0 : From} {a0 a1} (w : sub 2371421987580235682274733772977928352834969285952349175452170702468357255636115456 s0.W = true) (h0 : Keeps s0 a0) : Keeps s0 (badLog a0 a1) := by
  unfold badLog
  exact badLogAt_keeps w h0

end Sys2Proof.Machine
end

