-- ==== Sys2Proof/Laws/KeepsSpan.lean ====
section
/-!
SUPPORT. What the operations of `Sys2Proof.Machine.Span` keep (`Sys2Proof.Machine.Keeps`): one lemma for each.
-/

namespace Sys2Proof.Machine

theorem frameLeft_keeps {s0 : From} {a0 a1} (w : sub 1073766400 s0.W = true) (h0 : Keeps s0 a0) : Keeps s0 (frameLeft a0 a1) := by
  unfold frameLeft
  exact Keeps.ite (flsDiscard_keeps w (zeroFrame_keeps (sub_trans rfl w) h0)) h0

theorem giveFrame_keeps {s0 : From} {a0 a1} (w : sub 275951804416 s0.W = true) (h0 : Keeps s0 a0) : Keeps s0 (giveFrame a0 a1) := by
  unfold giveFrame
  refine Keeps.ite (setUse_keeps (sub_trans rfl w) h0) ?_
  extract_lets +onlyGivenNames x5
  have h6 : Keeps s0 x5 := setUse_keeps (sub_trans rfl w) h0
  clear_value x5
  exact Keeps.ite (frameLeft_keeps (sub_trans rfl w) h6) (Keeps.upd 274878038016 h6 (sub_trans rfl w) rfl)

theorem shareCheck_keeps {s0 : From} {a0 a1} (w : sub 187467548099782855343728074008469574490992259968531463800799897577583195385810613854208 s0.W = true) (h0 : Keeps s0 a0) : Keeps s0 (shareCheck a0 a1) := by
  unfold shareCheck
  exact Keeps.ite h0 (lineFailure_keeps w h0)

theorem dropShare_keeps {s0 : From} {a0 a1} (w : sub 187467548099782855343728074008469574490992259968531463800799897577583195386085491761152 s0.W = true) (h0 : Keeps s0 a0) : Keeps s0 (dropShare a0 a1) := by
  unfold dropShare
  extract_lets +onlyGivenNames x5
  have h6 : Keeps s0 x5 := shareCheck_keeps (sub_trans rfl w) h0
  clear_value x5
  extract_lets +onlyGivenNames x7 x8
  clear_value x7 x8
  extract_lets +onlyGivenNames x9
  have h10 : Keeps s0 x9 := setShare_keeps (sub_trans rfl w) h6
  clear_value x9
  exact Keeps.ite (giveFrame_keeps (sub_trans rfl w) h10) h10

theorem dropSide_keeps {s0 : From} {a0 a1 a2} (w : sub 134217728 s0.W = true) (h0 : Keeps s0 a0) : Keeps s0 (dropSide a0 a1 a2) := by
  unfold dropSide
  extract_lets +onlyGivenNames x5
  clear_value x5
  exact poolPut_keeps w h0

theorem releaseEntry_keeps {s0 : From} {a0 a1 a2} (w : sub 187467548099782855343728074008469574490992259968531463800799897577583195386085625978880 s0.W = true) (h0 : Keeps s0 a0) : Keeps s0 (releaseEntry a0 a1 a2) := by
  unfold releaseEntry
  refine Keeps.ite h0 ?_
  extract_lets +onlyGivenNames x5
  clear_value x5
  extract_lets +onlyGivenNames x6
  have h7 : Keeps s0 x6 := Keeps.ite (dropSide_keeps (sub_trans rfl w) h0) h0
  clear_value x6
  exact Keeps.ite (dropShare_keeps (sub_trans rfl w) h7) (giveFrame_keeps (sub_trans rfl w) h7)

theorem dropPt_keeps {s0 : From} {a0 a1 a2} (w : sub 134217728 s0.W = true) (h0 : Keeps s0 a0) : Keeps s0 (dropPt a0 a1 a2) := by
  unfold dropPt
  extract_lets +onlyGivenNames x5
  clear_value x5
  exact poolPut_keeps w h0

theorem releaseAll_keeps {s0 : From} {a0 a1} (w : sub 187467548099782855343728074008469574490992259968531463800799897577583195386085625978880 s0.W = true) (h0 : Keeps s0 a0) : Keeps s0 (releaseAll a0 a1) := by
  unfold releaseAll
  extract_lets +onlyGivenNames x5 x6 x7 x8 x9 x10
  clear_value x5 x6 x7 x8 x9 x10
  extract_lets +onlyGivenNames x11
  have h12 : Keeps s0 x11 := by
    refine Keeps.foldl (fun x13 x14 h15 => ?_) _ h0
    extract_lets +onlyGivenNames x16
    clear_value x16
    exact Keeps.ite (memPut_keeps (sub_trans rfl w) (releaseEntry_keeps w h15)) h15
  clear_value x11
  extract_lets +onlyGivenNames x17
  clear_value x17
  extract_lets +onlyGivenNames x18
  have h19 : Keeps s0 x18 := dropPt_keeps (sub_trans rfl w) (poolPut_keeps (sub_trans rfl w) h12)
  clear_value x18
  exact Keeps.ite h19 (giveFrame_keeps (sub_trans rfl w) h19)

theorem takeSide_keeps {s0 : From} {a0 a1} (w : sub 1207984130 s0.W = true) (h0 : Keeps s0 a0) : KeepsOptP s0 (fun t => t.2) (takeSide a0 a1) := by
  unfold takeSide
  extract_lets +onlyGivenNames x5 x6
  clear_value x5 x6
  refine KeepsOptP.ite KeepsOptP.none ?_
  extract_lets +onlyGivenNames x7
  clear_value x7
  extract_lets +onlyGivenNames x8
  have h9 : Keeps s0 x8 := bump_keeps (sub_trans rfl w) (poolPut_keeps (sub_trans rfl w) h0)
  clear_value x8
  exact KeepsOptP.some (Keeps.snd (memWrite_keeps (sub_trans rfl w) h9))

theorem ptPut_keeps {s0 : From} {a0 a1 a2 a3} (w : sub 2371421987580235682274733772977928352834969285952318751528091320482061480215207936 s0.W = true) (h0 : Keeps s0 a0) : Keeps s0 (ptPut a0 a1 a2 a3) := by
  unfold ptPut
  extract_lets +onlyGivenNames x5
  clear_value x5
  exact journal_keeps (sub_trans rfl w) (memPut_keeps (sub_trans rfl w) h0)

theorem backPage_keeps {s0 : From} {a0 a1 a2} (w : sub 187469919521770435579410348742242552419345097725413224391870888192614269142180760543234 s0.W = true) (h0 : Keeps s0 a0) : KeepsOpt s0 (backPage a0 a1 a2).1 := by
  unfold backPage
  extract_lets +onlyGivenNames x5 x6 x7 x8
  clear_value x5 x6 x7 x8
  split
  · exact KeepsOpt.none
  · extract_lets +onlyGivenNames x9 x10
    clear_value x9 x10
    extract_lets +onlyGivenNames x11
    have h12 : KeepsOptP s0 (fun t => t.2) x11 := KeepsOptP.ite (takeSide_keeps (sub_trans rfl w) h0) (KeepsOptP.some h0)
    clear_value x11
    split
    · exact KeepsOpt.none
    · extract_lets +onlyGivenNames x13
      have h14 : Keeps s0 x13 := fsetIf_keeps (KeepsOptP.get rfl h12) rfl (sub_trans rfl w)
      clear_value x13
      extract_lets +onlyGivenNames x15
      have h16 : Keeps s0 x15 := releaseEntry_keeps (sub_trans rfl w) h14
      clear_value x15
      extract_lets +onlyGivenNames x17
      clear_value x17
      extract_lets +onlyGivenNames x18
      have h19 : Keeps s0 x18 := setUse_keeps (sub_trans rfl w) (setShare_keeps (sub_trans rfl w) h16)
      clear_value x18
      extract_lets +onlyGivenNames x20
      have h21 : Keeps s0 x20 := ptPut_keeps (sub_trans rfl w) h19
      clear_value x20
      exact KeepsOpt.some h21

theorem backPage_keeps2 {s0 : From} {a0 a1 a2} (w : sub 187469919521770435579410348742242552419345097725413224391870888192614269142180760543234 s0.W = true) (h0 : Keeps s0 a0) : Keeps s0 (backPage a0 a1 a2).2 := by
  unfold backPage
  extract_lets +onlyGivenNames x5 x6 x7 x8
  clear_value x5 x6 x7 x8
  split
  · exact Keeps.snd (fset_keeps h0 rfl (sub_trans rfl w))
  · extract_lets +onlyGivenNames x9 x10
    clear_value x9 x10
    extract_lets +onlyGivenNames x11
    have h12 : KeepsOptP s0 (fun t => t.2) x11 := KeepsOptP.ite (takeSide_keeps (sub_trans rfl w) h0) (KeepsOptP.some h0)
    clear_value x11
    split
    · exact Keeps.snd (fset_keeps h0 rfl (sub_trans rfl w))
    · extract_lets +onlyGivenNames x13
      have h14 : Keeps s0 x13 := fsetIf_keeps (KeepsOptP.get rfl h12) rfl (sub_trans rfl w)
      clear_value x13
      extract_lets +onlyGivenNames x15
      have h16 : Keeps s0 x15 := releaseEntry_keeps (sub_trans rfl w) h14
      clear_value x15
      extract_lets +onlyGivenNames x17
      clear_value x17
      extract_lets +onlyGivenNames x18
      have h19 : Keeps s0 x18 := setUse_keeps (sub_trans rfl w) (setShare_keeps (sub_trans rfl w) h16)
      clear_value x18
      extract_lets +onlyGivenNames x20
      have h21 : Keeps s0 x20 := ptPut_keeps (sub_trans rfl w) h19
      clear_value x20
      exact h21

theorem reap_keeps {s0 : From} {a0} (w : sub 1073897472 s0.W = true) (h0 : Keeps s0 a0) : Keeps s0 (reap a0) := by
  unfold reap
  extract_lets +onlyGivenNames x5 x6 x7 x8
  clear_value x5 x6 x7 x8
  extract_lets +onlyGivenNames x9
  have h10 : Keeps s0 x9 := upd_tie (sub_trans rfl w) h0
  clear_value x9
  exact Keeps.foldl (fun x11 x12 h13 => (frameLeft_keeps (sub_trans rfl w) h13)) _ h10

theorem ptCheck_keeps {s0 : From} {a0 a1 a2} (w : sub 187469919521770435579410348742242552419345094937817416119551425668903677446740007870464 s0.W = true) (h0 : Keeps s0 a0) : Keeps s0 (ptCheck a0 a1 a2) := by
  unfold ptCheck
  extract_lets +onlyGivenNames x5 x6
  clear_value x5 x6
  refine Keeps.ite h0 ?_
  extract_lets +onlyGivenNames x7
  have h8 : Keeps s0 x7 := lineFailure_keeps (sub_trans rfl w) h0
  clear_value x7
  extract_lets +onlyGivenNames x9 x10 x11
  clear_value x9 x10 x11
  extract_lets +onlyGivenNames x12
  have h13 : Keeps s0 x12 := memWrite_keeps (sub_trans rfl w) h8
  clear_value x12
  exact Keeps.foldl (fun x14 x15 h16 => (Keeps.ite (kvInvalid_keeps (sub_trans rfl w) h16) h16)) _ h13

theorem pageLost_keeps {s0 : From} {a0 a1 a2} (w : sub 124333180524434240774527836770478187953466872668622881678867522314610356314613567873024 s0.W = true) (h0 : Keeps s0 a0) : Keeps s0 (pageLost a0 a1 a2) := by
  unfold pageLost
  extract_lets +onlyGivenNames x5 x6 x7
  clear_value x5 x6 x7
  extract_lets +onlyGivenNames x8
  have h9 : Keeps s0 x8 := setShare_keeps (sub_trans rfl w) h0
  clear_value x8
  extract_lets +onlyGivenNames x10
  have h11 : Keeps s0 x10 := Keeps.ite (fadd1_keeps h9 rfl (sub_trans rfl w)) h0
  clear_value x10
  extract_lets +onlyGivenNames x12
  clear_value x12
  extract_lets +onlyGivenNames x13
  have h14 : Keeps s0 x13 := memPut_keeps (sub_trans rfl w) h11
  clear_value x13
  exact kvInvalid_keeps (sub_trans rfl w) h14

theorem zeroRange_keeps {s0 : From} {a0 a1 a2} (w : sub 24576 s0.W = true) (h0 : Keeps s0 a0) : Keeps s0 (zeroRange a0 a1 a2) :=
  h0.of_mem 24576 (sub_trans rfl w) rfl (fun c => nwf_filter _ _ c.mem) (fun c => nwf_filter _ _ c.syn) (·.hostMem)

theorem takePt_keeps {s0 : From} {a0 a1 a2} (w : sub 134242306 s0.W = true) (h0 : Keeps s0 a0) : KeepsOptP s0 (fun t => t.2) (takePt a0 a1 a2) := by
  intro t ht
  obtain ⟨u, _, rfl⟩ := Option.map_eq_some_iff.mp ht
  exact zeroRange_keeps (sub_trans rfl w) (poolPut_keeps (sub_trans rfl w) (bump_keeps (sub_trans rfl w) h0))

theorem addShare_keeps {s0 : From} {a0 a1} (w : sub 187467548099782855343728074008469574490992259968531463800799897577583195385810613854208 s0.W = true) (h0 : Keeps s0 a0) : Keeps s0 (addShare a0 a1) := by
  unfold addShare
  extract_lets +onlyGivenNames x5
  have h6 : Keeps s0 x5 := shareCheck_keeps w h0
  clear_value x5
  exact setShare_keeps (sub_trans rfl w) h6

end Sys2Proof.Machine
end

