-- ==== Sys2Proof/Laws/KeepsPrefix.lean ====
section
/-!
SUPPORT. What the operations of `Sys2Proof.Machine.Prefix` keep (`Sys2Proof.Machine.Keeps`): one lemma for each.
-/

namespace Sys2Proof.Machine

theorem blockFetch_keeps {s0 : From} {a0 a1 a2} (w : sub 187467548099782855343728074008469574490992259968534122256791467409329002999965534281730 s0.W = true) (h0 : Keeps s0 a0) : Keeps s0 (blockFetch a0 a1 a2) := by
  unfold blockFetch
  refine Keeps.foldl (fun x5 x6 h7 => ?_) _ h0
  split
  · exact logFetch_keeps w h7
  · exact h7

theorem setNode_keeps {s0 : From} {a0 a1 a2} (w : sub 1073766400 s0.W = true) (h0 : Keeps s0 a0) : Keeps s0 (setNode a0 a1 a2) := by
  unfold setNode
  exact memPut_keeps w h0

theorem nodeMod_keeps {s0 : From} {a0 a1 a2} (w : sub 1073766400 s0.W = true) (h0 : Keeps s0 a0) : Keeps s0 (nodeMod a0 a1 a2) := by
  unfold nodeMod
  exact setNode_keeps w h0

theorem attachSet_keeps {s0 : From} {a0 a1 a2 a3} (w : sub 187469919521770435579410348742242552419345094937817416119551425668903677447015011606528 s0.W = true) (h0 : Keeps s0 a0) : Keeps s0 (attachSet a0 a1 a2 a3) := by
  unfold attachSet
  extract_lets +onlyGivenNames x5
  clear_value x5
  refine Keeps.foldl (fun x6 x7 h8 => ?_) _ h0
  extract_lets +onlyGivenNames x9 x10
  clear_value x9 x10
  refine Keeps.ite h8 ?_
  extract_lets +onlyGivenNames x11
  clear_value x11
  exact ptPut_keeps (sub_trans rfl w) (addShare_keeps (sub_trans rfl w) (releaseEntry_keeps (sub_trans rfl w) h8))

theorem setNodes_keeps {s0 : From} {a0 a1 a2} (w : sub 2722258935367507707706996859454279909376 s0.W = true) (h0 : Keeps s0 a0) : Keeps s0 (setNodes a0 a1 a2) := by
  unfold setNodes
  exact fput_keeps (poolPut_keeps (sub_trans rfl w) h0) rfl (sub_trans rfl w)

theorem failColumn_keeps {s0 : From} {a0 a1 a2 a3} (w : sub 187467548099782855343728074008469574490992259971256381192158975117035999859385454452736 s0.W = true) (h0 : Keeps s0 a0) : Keeps s0 (failColumn a0 a1 a2 a3) := by
  unfold failColumn
  extract_lets +onlyGivenNames x5
  have h6 : Keeps s0 x5 := fsetIf_keeps h0 rfl (sub_trans rfl w)
  clear_value x5
  refine Keeps.ite ?_ (nodeMod_keeps (sub_trans rfl w) h6)
  extract_lets +onlyGivenNames x7
  clear_value x7
  extract_lets +onlyGivenNames x8
  have h9 : Keeps s0 x8 := nodeMod_keeps (sub_trans rfl w) (lineFailure_keeps (sub_trans rfl w) h6)
  clear_value x8
  exact setNodes_keeps (sub_trans rfl w) h9

theorem attachCols_keeps {s0 : From} {a0 a1 a2 a3 a4 a5} (w : sub 187469919521770435579410348742242552419345094940542333510910503208356481920589717987328 s0.W = true) (h0 : Keeps s0 a0) : Keeps s0 (attachCols a0 a1 a2 a3 a4 a5).2 := by
  induction a4 generalizing a0 a1 a2 a3 a5 with
  | zero =>
    unfold attachCols
    exact h0
  | succ n ih =>
    unfold attachCols
    extract_lets +onlyGivenNames x5 x6 x7 x8 x9 x10 x11
    clear_value x5 x6 x7 x8 x9 x10 x11
    split
    · exact Keeps.snd (failColumn_keeps (sub_trans rfl w) h0)
    · extract_lets +onlyGivenNames x12
      clear_value x12
      split
      · exact Keeps.snd (failColumn_keeps (sub_trans rfl w) h0)
      · extract_lets +onlyGivenNames x13
        have h14 : Keeps s0 x13 := attachSet_keeps (sub_trans rfl w) h0
        clear_value x13
        split
        · exact h14
        · exact ih h14

theorem matchBlock_keeps {s0 : From} {a0 a1 a2 a3 a4 a5} (w : sub 10889035741470030830827987437816582766592 s0.W = true) (h0 : Keeps s0 a0) : Keeps s0 (matchBlock a0 a1 a2 a3 a4 a5).2 := by
  unfold matchBlock
  extract_lets +onlyGivenNames x5
  clear_value x5
  exact Keeps.snd (fadd1_keeps h0 rfl (sub_trans rfl w))

theorem matchFrom_keeps {s0 : From} {a0 a1 a2 a3 a4 a5 a6 a7} (w : sub 10889035741470030830827987437816582766592 s0.W = true) (h0 : Keeps s0 a0) : Keeps s0 (matchFrom a0 a1 a2 a3 a4 a5 a6 a7).2 := by
  induction a4 generalizing a0 a1 a2 a3 a5 a6 a7 with
  | zero =>
    unfold matchFrom
    exact h0
  | succ n ih =>
    unfold matchFrom
    split
    · exact h0
    · extract_lets +onlyGivenNames x5
      clear_value x5
      extract_lets +onlyGivenNames x6
      have h7 : Keeps s0 x6.2 := matchBlock_keeps w h0
      clear_value x6
      split
      · exact h7
      · split
        · exact h7
        · exact ih h7

theorem attach_keeps {s0 : From} {a0 a1 a2} (w : sub 187469919521770435579410348742242552419345094956875887123115549454598463077314592137216 s0.W = true) (h0 : Keeps s0 a0) : Keeps s0 (attach a0 a1 a2).2.2 := by
  unfold attach
  extract_lets +onlyGivenNames x5 x6
  clear_value x5 x6
  extract_lets +onlyGivenNames x7
  have h8 : Keeps s0 x7 := fadd1_keeps h0 rfl (sub_trans rfl w)
  clear_value x7
  split
  · exact h8
  · extract_lets +onlyGivenNames x9
    clear_value x9
    extract_lets +onlyGivenNames x10
    have h11 : Keeps s0 x10.2 := matchFrom_keeps (sub_trans rfl w) h8
    clear_value x10
    extract_lets +onlyGivenNames x12
    clear_value x12
    extract_lets +onlyGivenNames x13
    have h14 : Keeps s0 x13 := fadd1_keeps h11 rfl (sub_trans rfl w)
    clear_value x13
    extract_lets +onlyGivenNames x15
    have h16 : Keeps s0 x15 := Keeps.foldl (fun x17 x18 h19 => (nodeMod_keeps (sub_trans rfl w) h19)) _ h14
    clear_value x15
    split
    · exact h16
    · extract_lets +onlyGivenNames x20
      clear_value x20
      extract_lets +onlyGivenNames x21
      have h22 : Keeps s0 x21.2 := attachCols_keeps (sub_trans rfl w) h16
      clear_value x21
      exact h22

theorem staleAll_keeps {s0 : From} {a0 a1} (w : sub 1073766400 s0.W = true) (h0 : Keeps s0 a0) : Keeps s0 (staleAll a0 a1) := by
  unfold staleAll
  exact Keeps.foldl (fun x5 x6 h7 => (Keeps.ite (nodeMod_keeps w h7) h7)) _ h0

theorem execInvalidationEnd_keeps {s0 : From} {a0 a1} (w : sub 2722258935367507707706996859455353675776 s0.W = true) (h0 : Keeps s0 a1) : KeepsOut s0 (execInvalidationEnd a0 a1) := by
  unfold execInvalidationEnd
  extract_lets +onlyGivenNames x5
  clear_value x5
  split
  · exact KeepsOut.next h0
  · extract_lets +onlyGivenNames x6
    have h7 : Keeps s0 x6 := staleAll_keeps (sub_trans rfl w) h0
    clear_value x6
    extract_lets +onlyGivenNames x8
    clear_value x8
    extract_lets +onlyGivenNames x9
    have h10 : Keeps s0 x9 := poolPut_keeps (sub_trans rfl w) h7
    clear_value x9
    exact KeepsOut.next (fput_keeps h10 rfl (sub_trans rfl w))

theorem nameSet_keeps {s0 : From} {a0 a1 a2} (w : sub 1073766400 s0.W = true) (h0 : Keeps s0 a0) : Keeps s0 (nameSet a0 a1 a2) := by
  unfold nameSet
  exact Keeps.foldl (fun x5 x6 h7 => (Keeps.ite (nodeMod_keeps w h7) h7)) _ h0

theorem forget_keeps {s0 : From} {a0 a1 a2 a3} (w : sub 1073766400 s0.W = true) (h0 : Keeps s0 a0) : Keeps s0 (forget a0 a1 a2 a3) := by
  induction a2 generalizing a0 a1 a3 with
  | zero =>
    unfold forget
    exact h0
  | succ n ih =>
    unfold forget
    refine Keeps.ite h0 ?_
    extract_lets +onlyGivenNames x5
    clear_value x5
    exact ih (Keeps.ite (setNode_keeps w h0) h0)

theorem releaseSet_keeps {s0 : From} {a0 a1} (w : sub 187467548099782855343728074008469574490992259968531463800799897577583195386085625978880 s0.W = true) (h0 : Keeps s0 a0) : Keeps s0 (releaseSet a0 a1) := by
  unfold releaseSet
  extract_lets +onlyGivenNames x5
  clear_value x5
  refine Keeps.ite h0 ?_
  extract_lets +onlyGivenNames x6 x7 x8
  clear_value x6 x7 x8
  extract_lets +onlyGivenNames x9
  have h10 : Keeps s0 x9 := Keeps.foldl (fun x11 x12 h13 => (releaseEntry_keeps w h13)) _ h0
  clear_value x9
  exact nodeMod_keeps (sub_trans rfl w) (dropPt_keeps (sub_trans rfl w) h10)

theorem unindex_keeps {s0 : From} {a0 a1} (w : sub 1073766400 s0.W = true) (h0 : Keeps s0 a0) : Keeps s0 (unindex a0 a1) := by
  unfold unindex
  extract_lets +onlyGivenNames x5 x6
  clear_value x5 x6
  refine Keeps.foldl (fun x7 x8 h9 => ?_) _ h0
  extract_lets +onlyGivenNames x10
  clear_value x10
  exact Keeps.ite (memPut_keeps w h9) h9

theorem evictNode_keeps {s0 : From} {a0 a1} (w : sub 187467548099782855343728074008469574490992259993031794219107466946946167121172937203712 s0.W = true) (h0 : Keeps s0 a0) : Keeps s0 (evictNode a0 a1) := by
  unfold evictNode
  extract_lets +onlyGivenNames x5
  clear_value x5
  extract_lets +onlyGivenNames x6
  have h7 : Keeps s0 x6 := releaseSet_keeps (sub_trans rfl w) h0
  clear_value x6
  extract_lets +onlyGivenNames x8
  clear_value x8
  extract_lets +onlyGivenNames x9
  have h10 : Keeps s0 x9 := Keeps.ite h7 (nodeMod_keeps (sub_trans rfl w) h7)
  clear_value x9
  extract_lets +onlyGivenNames x11
  have h12 : Keeps s0 x11 := forget_keeps (sub_trans rfl w) h10
  clear_value x11
  extract_lets +onlyGivenNames x13
  have h14 : Keeps s0 x13 := unindex_keeps (sub_trans rfl w) h12
  clear_value x13
  extract_lets +onlyGivenNames x15
  have h16 : Keeps s0 x15 := setNode_keeps (sub_trans rfl w) h14
  clear_value x15
  exact fadd1_keeps (setNodes_keeps (sub_trans rfl w) h16) rfl (sub_trans rfl w)

theorem roomForSet_keeps {s0 : From} {a0 a1 a2 a3 a4} (w : sub 187467548099782855343728074008469574490992259993031794219107466946946167121172937203714 s0.W = true) (h0 : Keeps s0 a0) : Keeps s0 (roomForSet a0 a1 a2 a3 a4).2 := by
  induction a4 generalizing a0 a1 a2 a3 with
  | zero =>
    unfold roomForSet
    split
    · rename_i h5
      have h6 := KeepsOptP.get (s := s0) (π := fun t => t.2) h5 (takePt_keeps (sub_trans rfl w) h0)
      exact h6
    · exact h0
  | succ n ih =>
    unfold roomForSet
    split
    · rename_i h7
      have h8 := KeepsOptP.get (s := s0) (π := fun t => t.2) h7 (takePt_keeps (sub_trans rfl w) h0)
      exact h8
    · exact ih (evictNode_keeps (sub_trans rfl w) h0)
    · exact h0

theorem giveSet_keeps {s0 : From} {a0 a1 a2 a3 a4 a5} (w : sub 187467548099782855343728074008469574490992259993031794219107466946946167121172937203714 s0.W = true) (h0 : Keeps s0 a0) : Keeps s0 (giveSet a0 a1 a2 a3 a4 a5).2 := by
  unfold giveSet
  extract_lets +onlyGivenNames x5 x6 x7
  clear_value x5 x6 x7
  split
  · rename_i h8
    have h9 := Keeps.get (s := s0) (fun p => p.2) h8 (roomForSet_keeps w h0)
    exact h9
  · rename_i h10
    have h11 := Keeps.get (s := s0) (fun p => p.2) h10 (roomForSet_keeps w h0)
    extract_lets +onlyGivenNames x12
    have h13 : Keeps s0 x12 := memWrite_keeps (sub_trans rfl w) h11
    clear_value x12
    extract_lets +onlyGivenNames x14
    have h15 : Keeps s0 x14 := by
      refine Keeps.foldl (fun x16 x17 h18 => ?_) _ h13
      extract_lets +onlyGivenNames x19
      clear_value x19
      exact memPut_keeps (sub_trans rfl w) (addShare_keeps (sub_trans rfl w) h18)
    clear_value x14
    exact Keeps.snd (nodeMod_keeps (sub_trans rfl w) h15)

theorem freeBucket_keeps {s0 : From} {a0 a1 a2 a3} (w : sub 187467548099782855343728074008469574490992259993031794219107466946946167121172937203712 s0.W = true) (h0 : Keeps s0 a0) : KeepsOptP s0 (fun t => t.2) (freeBucket a0 a1 a2 a3) := by
  unfold freeBucket
  refine KeepsOptP.ite KeepsOptP.none ?_
  split
  · exact KeepsOptP.some h0
  · intro t ht
    obtain ⟨u, _, ht⟩ := Option.bind_eq_some_iff.mp ht
    obtain ⟨j, _, rfl⟩ := Option.map_eq_some_iff.mp ht
    exact evictNode_keeps (sub_trans rfl w) h0

theorem freeNode_keeps {s0 : From} {a0 a1 a2} (w : sub 187467548099782855343728074008469574490992259993031794219107466946946167121172937203714 s0.W = true) (h0 : Keeps s0 a0) : KeepsOptP s0 (fun t => t.2) (freeNode a0 a1 a2) := by
  unfold freeNode
  refine KeepsOptP.ite (KeepsOptP.some (bump_keeps (sub_trans rfl w) h0)) ?_
  intro t ht
  obtain ⟨j, _, rfl⟩ := Option.map_eq_some_iff.mp ht
  exact bump_keeps (sub_trans rfl w) (evictNode_keeps (sub_trans rfl w) h0)

theorem insertNode_keeps {s0 : From} {a0 a1 a2 a3 a4 a5 a6 a7} (w : sub 187467548099782855343728074008469574490992259993031794219107466946946167121172937203714 s0.W = true) (h0 : Keeps s0 a0) : Keeps s0 (insertNode a0 a1 a2 a3 a4 a5 a6 a7).2 := by
  unfold insertNode
  split
  · exact h0
  · rename_i h5
    have h6 := KeepsOptP.get (s := s0) (π := fun t => t.2) h5 (freeBucket_keeps (sub_trans rfl w) h0)
    split
    · exact h6
    · rename_i h7
      have h8 := KeepsOptP.get (s := s0) (π := fun t => t.2) h7 (freeNode_keeps w h6)
      extract_lets +onlyGivenNames x9 x10
      clear_value x9 x10
      extract_lets +onlyGivenNames x11
      have h12 : Keeps s0 x11 := setNode_keeps (sub_trans rfl w) h8
      clear_value x11
      extract_lets +onlyGivenNames x13
      have h14 : Keeps s0 x13 := memPut_keeps (sub_trans rfl w) h12
      clear_value x13
      extract_lets +onlyGivenNames x15
      have h16 : Keeps s0 x15 := Keeps.ite h14 (nodeMod_keeps (sub_trans rfl w) h14)
      clear_value x15
      exact Keeps.snd (setNodes_keeps (sub_trans rfl w) h16)

theorem publishFrom_keeps {s0 : From} {a0 a1 a2 a3 a4 a5 a6 a7} (w : sub 187467548099782855343728074008469574490992260003923488416569067609519962173110080659458 s0.W = true) (h0 : Keeps s0 a0) : Keeps s0 (publishFrom a0 a1 a2 a3 a4 a5 a6 a7) := by
  induction a4 generalizing a0 a1 a2 a3 a5 a6 a7 with
  | zero =>
    unfold publishFrom
    exact h0
  | succ n ih =>
    unfold publishFrom
    extract_lets +onlyGivenNames x5 x6 x7 x8
    clear_value x5 x6 x7 x8
    extract_lets +onlyGivenNames x9
    have h10 : ∀ x00, Keeps s0 x00 → Keeps s0 (x9 x00) := fun x11 h12 => (fadd1_keeps h12 rfl (sub_trans rfl w))
    clear_value x9
    extract_lets +onlyGivenNames x13
    clear_value x13
    refine Keeps.ite (h10 _ (fsetIf_keeps h0 rfl (sub_trans rfl w))) ?_
    split
    · exact h10 _ h0
    · extract_lets +onlyGivenNames x14 x15 x16 x17
      clear_value x14 x15 x16 x17
      extract_lets +onlyGivenNames x18
      have h19 : Keeps s0 x18.2 := matchBlock_keeps (sub_trans rfl w) h0
      clear_value x18
      extract_lets +onlyGivenNames x20
      have h21 : Keeps s0 x20.2 := by
        unfold x20
        split
        · extract_lets +onlyGivenNames x22
          have h23 : Keeps s0 x22 := Keeps.ite (releaseSet_keeps (sub_trans rfl w) h19) h19
          clear_value x22
          exact Keeps.snd (nodeMod_keeps (sub_trans rfl w) h23)
        · exact insertNode_keeps (sub_trans rfl w) h19
      clear_value x20
      split
      · exact h10 _ h21
      · extract_lets +onlyGivenNames x24 x25 x26 x27 x28 x29
        clear_value x24 x25 x26 x27 x28 x29
        refine Keeps.ite ?_ (ih h21)
        split
        · rename_i h30
          have h31 := Keeps.get (s := s0) (fun p => p.2) h30 (giveSet_keeps (sub_trans rfl w) h21)
          exact h10 _ h31
        · rename_i h32
          have h33 := Keeps.get (s := s0) (fun p => p.2) h32 (giveSet_keeps (sub_trans rfl w) h21)
          exact ih (nameSet_keeps (sub_trans rfl w) h33)

theorem publish_keeps {s0 : From} {a0 a1} (w : sub 187467548099782855343728074008469574490992260003923488416569067609519962173110080659458 s0.W = true) (h0 : Keeps s0 a0) : Keeps s0 (publish a0 a1) := by
  unfold publish
  extract_lets +onlyGivenNames x5 x6 x7
  clear_value x5 x6 x7
  exact Keeps.ite h0 (publishFrom_keeps w h0)

theorem nodeCheck_keeps {s0 : From} {a0 a1} (w : sub 187467548099782855343728074008469574490992259971253722736167405285290192245264893763584 s0.W = true) (h0 : Keeps s0 a0) : Keeps s0 (nodeCheck a0 a1) := by
  unfold nodeCheck
  split
  · exact h0
  · extract_lets +onlyGivenNames x5
    clear_value x5
    extract_lets +onlyGivenNames x6
    have h7 : Keeps s0 x6 := nodeMod_keeps (sub_trans rfl w) (lineFailure_keeps (sub_trans rfl w) h0)
    clear_value x6
    extract_lets +onlyGivenNames x8
    clear_value x8
    exact fput_keeps (poolPut_keeps (sub_trans rfl w) h7) rfl (sub_trans rfl w)

theorem pfxInval_keeps {s0 : From} {a0 a1 a2} (w : sub 2722258935367507707706996859454279909376 s0.W = true) (h0 : Keeps s0 a0) : Keeps s0 (pfxInval a0 a1 a2) := by
  unfold pfxInval
  refine Keeps.ite h0 ?_
  extract_lets +onlyGivenNames x5
  clear_value x5
  split
  · exact fset_keeps (poolPut_keeps (sub_trans rfl w) h0) rfl (sub_trans rfl w)
  · exact poolPut_keeps (sub_trans rfl w) h0

theorem execPfxInval_keeps {s0 : From} {a0 a1 a2} (w : sub 46278401901247631031166520563310287388672 s0.W = true) (h0 : Keeps s0 a2) : KeepsOut s0 (execPfxInval a0 a1 a2) := by
  unfold execPfxInval
  exact KeepsOut.next (regGate_keeps (sub_trans rfl w) h0 (sub_trans rfl w) (fun x5 h6 => (pfxInval_keeps (sub_trans rfl w) h6)))

end Sys2Proof.Machine
end

