-- ==== Sys2Proof/Laws/KeepsBankOps.lean ====
section
/-!
SUPPORT. What the operations of `Sys2Proof.Machine.BankOps` keep (`Sys2Proof.Machine.Keeps`): one lemma for each.
-/

namespace Sys2Proof.Machine

theorem stkPut_keeps {s0 : From} {a0 a1 a2} (w : sub 67108864 s0.W = true) (h0 : Keeps s0 a0) : Keeps s0 (stkPut a0 a1 a2) := by
  unfold stkPut
  exact upd_bnk (sub_trans rfl w) h0

theorem stkUpd_keeps {s0 : From} {a0 a1 a2} (w : sub 67108864 s0.W = true) (h0 : Keeps s0 a0) : Keeps s0 (stkUpd a0 a1 a2) := by
  unfold stkUpd
  exact stkPut_keeps w h0

theorem enqueueSeq_keeps {s0 : From} {a0 a1} (w : sub 67108864 s0.W = true) (h0 : Keeps s0 a0) : Keeps s0 (enqueueSeq a0 a1) := by
  unfold enqueueSeq
  exact stkUpd_keeps w h0

end Sys2Proof.Machine
end

