-- ==== Sys2Proof/Laws/KeepsCtxInstr.lean ====
section
/-!
SUPPORT. What the operations of `Sys2Proof.Machine.CtxInstr` keep (`Sys2Proof.Machine.Keeps`): one lemma for each.
-/

namespace Sys2Proof.Machine

theorem countWalk_keeps {s0 : From} {a0 a1} (w : sub 5316911983139663491615228241121378306 s0.W = true) (h0 : Keeps s0 a0) : Keeps s0 (countWalk a0 a1) := by
  unfold countWalk
  extract_lets +onlyGivenNames x5
  have h6 : Keeps s0 x5 := bump_keeps (sub_trans rfl w) h0
  clear_value x5
  exact Keeps.ite (fadd1_keeps h6 rfl (sub_trans rfl w)) (fadd1_keeps h6 rfl (sub_trans rfl w))

theorem cowStart_keeps {s0 : From} {a0 a1 a2 a3} (w : sub 2787595808272319462523710591695167057715202 s0.W = true) (h0 : Keeps s0 a0) : Keeps s0 (cowStart a0 a1 a2 a3).2 := by
  unfold cowStart
  extract_lets +onlyGivenNames x5 x6
  clear_value x5 x6
  split
  · exact Keeps.snd (fset_keeps h0 rfl (sub_trans rfl w))
  · extract_lets +onlyGivenNames x7
    clear_value x7
    split
    · exact Keeps.snd (fset_keeps h0 rfl (sub_trans rfl w))
    · rename_i h8
      have h9 := KeepsOptP.get (s := s0) (π := fun t => t.2) h8 (KeepsOptP.ite (takeSide_keeps (sub_trans rfl w) h0) (KeepsOptP.some h0))
      extract_lets +onlyGivenNames x10 x11
      clear_value x10 x11
      extract_lets +onlyGivenNames x12
      have h13 : Keeps s0 x12 := setUse_keeps (sub_trans rfl w) (fsetIf_keeps (bump_keeps (sub_trans rfl w) h9) rfl (sub_trans rfl w))
      clear_value x12
      extract_lets +onlyGivenNames x14
      have h15 : Keeps s0 x14 := upd_cows (sub_trans rfl w) h13
      clear_value x14
      extract_lets +onlyGivenNames x16
      have h17 : Keeps s0 x16 := Keeps.ite (enqueueSeq_keeps (sub_trans rfl w) h15) h15
      clear_value x16
      exact h17

theorem walk_keeps {s0 : From} {a0 a1 a2 a3 a4} (w : sub 187469919521770435579410348742242552419345097725418541303854027856105884370421991497730 s0.W = true) (h0 : Keeps s0 a0) : Keeps s0 (walk a0 a1 a2 a3 a4).1 := by
  unfold walk
  extract_lets +onlyGivenNames x5
  clear_value x5
  split
  · exact h0
  · extract_lets +onlyGivenNames x6
    clear_value x6
    extract_lets +onlyGivenNames x7
    have h8 : Keeps s0 x7 := countWalk_keeps (sub_trans rfl w) (ptCheck_keeps (sub_trans rfl w) h0)
    clear_value x7
    extract_lets +onlyGivenNames x9
    clear_value x9
    extract_lets +onlyGivenNames x10
    have h11 : Keeps s0 x10 := Keeps.ite (pageLost_keeps (sub_trans rfl w) h8) h8
    clear_value x10
    extract_lets +onlyGivenNames x12 x13
    clear_value x12 x13
    split
    · exact h11
    · split
      · split
        · exact h11
        · split
          · rename_i h14
            have h15 := KeepsOpt.at (s := s0) (fun p => p.1) h14 (backPage_keeps (sub_trans rfl w) h11)
            have h16 := Keeps.get (s := s0) (fun p => p.2) h14 (backPage_keeps2 (sub_trans rfl w) h11)
            extract_lets +onlyGivenNames x17
            clear_value x17
            exact Keeps.fst (tupd_keeps (sub_trans rfl w) (KeepsOpt.get rfl h15))
          · rename_i h18
            have h19 := KeepsOpt.at (s := s0) (fun p => p.1) h18 (backPage_keeps (sub_trans rfl w) h11)
            have h20 := Keeps.get (s := s0) (fun p => p.2) h18 (backPage_keeps2 (sub_trans rfl w) h11)
            exact h20
      · split
        · split
          · rename_i h21
            have h22 := Keeps.get (s := s0) (fun p => p.2) h21 (cowStart_keeps (sub_trans rfl w) h11)
            exact h22
          · rename_i h23
            have h24 := Keeps.get (s := s0) (fun p => p.2) h23 (cowStart_keeps (sub_trans rfl w) h11)
            exact h24
        · extract_lets +onlyGivenNames x25
          clear_value x25
          exact Keeps.ite (tupd_keeps (sub_trans rfl w) h11) h11

theorem ctxIssue_keeps {s0 : From} {a0 a1 a2 a3 a4 a5 a6 a7} (w : sub 524288 s0.W = true) (h0 : Keeps s0 a0) (h1 : ∀ x00 x01 x02, Keeps s0 x00 → Keeps s0 (a7 x00 x01 x02).1) : Keeps s0 (ctxIssue a0 a1 a2 a3 a4 a5 a6 a7) := by
  unfold ctxIssue
  extract_lets +onlyGivenNames x5
  clear_value x5
  refine issue_keeps w h0 ?_
  refine fun x6 h7 => ?_
  extract_lets +onlyGivenNames x8
  clear_value x8
  extract_lets +onlyGivenNames x9
  have h10 : Keeps s0 x9.1 := h1 _ _ _ h7
  clear_value x9
  exact pushPend_keeps w h10

theorem execCtxRd_keeps {s0 : From} {a0 a1 a2} (w : sub 2371421987580235682274733772977928352834969285952349175452170702468357255653416960 s0.W = true) (h0 : Keeps s0 a2) : KeepsOut s0 (execCtxRd a0 a1 a2) := by
  unfold execCtxRd
  refine KeepsOut.next ?_
  refine ctxIssue_keeps (sub_trans rfl w) h0 ?_
  refine fun x5 x6 x7 h8 => ?_
  extract_lets +onlyGivenNames x9
  clear_value x9
  extract_lets +onlyGivenNames x10
  have h11 : Keeps s0 x10 := descRead_keeps (sub_trans rfl w) h8
  clear_value x10
  split
  · exact h11
  · exact h11

theorem noFrame_keeps {s0 : From} {a0 a1} (w : sub 67108864 s0.W = true) (h0 : Keeps s0 a0) : Keeps s0 (noFrame a0 a1) := by
  unfold noFrame
  extract_lets +onlyGivenNames x5
  clear_value x5
  split
  · exact upd_bnk (sub_trans rfl w) h0
  · exact h0

theorem execCtxHold_keeps {s0 : From} {a0 a1 a2} (w : sub 2371421987580235682274733772977928352834969285952318751528091320482061480224251904 s0.W = true) (h0 : Keeps s0 a2) : KeepsOut s0 (execCtxHold a0 a1 a2) := by
  unfold execCtxHold
  refine KeepsOut.next ?_
  refine ctxIssue_keeps (sub_trans rfl w) h0 ?_
  refine fun x5 x6 x7 h8 => ?_
  extract_lets +onlyGivenNames x9
  clear_value x9
  split
  · exact Keeps.fst (dmod_keeps (sub_trans rfl w) h8)
  · exact h8

theorem execCtxStep_keeps {s0 : From} {a0 a1 a2} (w : sub 524288 s0.W = true) (h0 : Keeps s0 a2) : KeepsOut s0 (execCtxStep a0 a1 a2) := by
  unfold execCtxStep
  refine KeepsOut.next ?_
  refine ctxIssue_keeps w h0 ?_
  refine fun x5 x6 x7 h8 => ?_
  extract_lets +onlyGivenNames x9 x10
  clear_value x9 x10
  split
  · exact h8
  · exact h8

theorem contextAnswer_keeps {s0 : From} {a0 a1 a2} (w : sub 524288 s0.W = true) (h0 : Keeps s0 a0) : Keeps s0 (contextAnswer a0 a1 a2) := by
  unfold contextAnswer
  split
  · exact Keeps.ite (imprecise_keeps w h0) (tupd_keeps w h0)
  · exact h0

theorem execCtxSpan_keeps {s0 : From} {a0 a1 a2} (w : sub 187469919521770435579410348742242552419345097725418541303854027856105884370421991497730 s0.W = true) (h0 : Keeps s0 a2) : KeepsOut s0 (execCtxSpan a0 a1 a2) := by
  unfold execCtxSpan
  extract_lets +onlyGivenNames x5 x6 x7
  clear_value x5 x6 x7
  refine KeepsOut.next ?_
  refine issue_keeps (sub_trans rfl w) h0 ?_
  refine fun x8 h9 => ?_
  extract_lets +onlyGivenNames x10
  clear_value x10
  extract_lets +onlyGivenNames x11
  have h12 : Keeps s0 x11.1 := walk_keeps w h9
  clear_value x11
  extract_lets +onlyGivenNames x13
  have h14 : Keeps s0 x13.1 := by
    unfold x13
    split
    · exact Keeps.fst (noFrame_keeps (sub_trans rfl w) h12)
    · exact h12
  clear_value x13
  extract_lets +onlyGivenNames x15
  clear_value x15
  exact pushPend_keeps (sub_trans rfl w) h14

theorem cowSide_keeps {s0 : From} {a0 a1 a2 a3} (w : sub 1073766400 s0.W = true) (h0 : Keeps s0 a0) : Keeps s0 (cowSide a0 a1 a2 a3) := by
  unfold cowSide
  extract_lets +onlyGivenNames x5 x6 x7
  clear_value x5 x6 x7
  exact memWrite_keeps w h0

theorem cowDone_keeps {s0 : From} {a0 a1} (w : sub 187469919521770435579410348742242552419345094937828049943517704995886907903497296830464 s0.W = true) (h0 : Keeps s0 a0) : Keeps s0 (cowDone a0 a1) := by
  unfold cowDone
  split
  · exact h0
  · extract_lets +onlyGivenNames x5 x6
    clear_value x5 x6
    refine Keeps.ite h0 ?_
    extract_lets +onlyGivenNames x7 x8 x9
    clear_value x7 x8 x9
    extract_lets +onlyGivenNames x10
    have h11 : Keeps s0 x10 := upd_cows (sub_trans rfl w) h0
    clear_value x10
    extract_lets +onlyGivenNames x12
    have h13 : ∀ x00 x01 x02, Keeps s0 x00 → Keeps s0 (x12 x00 x01 x02) := fun x14 x15 x16 h17 => (upd_til (sub_trans rfl w) h17)
    clear_value x12
    refine Keeps.ite ?_ ?_
    · extract_lets +onlyGivenNames x18
      have h19 : Keeps s0 x18 := by
        refine Keeps.ite h11 ?_
        split
        · exact lineFailureOf_keeps (sub_trans rfl w) h11
        · exact h11
      clear_value x18
      extract_lets +onlyGivenNames x20
      have h21 : Keeps s0 x20 := giveFrame_keeps (sub_trans rfl w) (Keeps.ite (dropSide_keeps (sub_trans rfl w) h19) h19)
      clear_value x20
      exact h13 _ _ _ (pageLost_keeps (sub_trans rfl w) h21)
    · extract_lets +onlyGivenNames x22
      have h23 : Keeps s0 x22 := Keeps.ite h11 (memWrite_keeps (sub_trans rfl w) h11)
      clear_value x22
      extract_lets +onlyGivenNames x24
      have h25 : Keeps s0 x24 := Keeps.ite (cowSide_keeps (sub_trans rfl w) h23) h23
      clear_value x24
      extract_lets +onlyGivenNames x26
      clear_value x26
      extract_lets +onlyGivenNames x27
      have h28 : Keeps s0 x27 := setShare_keeps (sub_trans rfl w) h25
      clear_value x27
      extract_lets +onlyGivenNames x29
      clear_value x29
      extract_lets +onlyGivenNames x30
      have h31 : Keeps s0 x30 := releaseEntry_keeps (sub_trans rfl w) (ptPut_keeps (sub_trans rfl w) h28)
      clear_value x30
      extract_lets +onlyGivenNames x32
      have h33 : Keeps s0 x32 := fadd1_keeps h31 rfl (sub_trans rfl w)
      clear_value x32
      extract_lets +onlyGivenNames x34
      clear_value x34
      exact h13 _ _ _ h33

theorem execCopyOnWriteDone_keeps {s0 : From} {a0 a1} (w : sub 187469919521770435579410348742242552419345094937828049943517704995886907903497296830464 s0.W = true) (h0 : Keeps s0 a1) : KeepsOut s0 (execCopyOnWriteDone a0 a1) := by
  unfold execCopyOnWriteDone
  exact KeepsOut.next (cowDone_keeps w h0)

theorem bindLogCheck_keeps {s0 : From} {a0 a1} (w : sub 187467548099782855343728074008469574490992259968534122256791467409329002999965534281730 s0.W = true) (h0 : Keeps s0 a0) : Keeps s0 (bindLogCheck a0 a1) := by
  unfold bindLogCheck
  extract_lets +onlyGivenNames x5 x6
  clear_value x5 x6
  refine Keeps.foldl (fun x7 x8 h9 => ?_) _ h0
  split
  · exact logFetch_keeps w h9
  · exact h9

theorem execCtxBind_keeps {s0 : From} {a0 a1 a2} (w : sub 187467548099782855343728074008469574490992259968534122256791467409329002999965534806018 s0.W = true) (h0 : Keeps s0 a2) : KeepsOut s0 (execCtxBind a0 a1 a2) := by
  unfold execCtxBind
  refine KeepsOut.next ?_
  refine ctxIssue_keeps (sub_trans rfl w) h0 ?_
  refine fun x5 x6 x7 h8 => ?_
  split
  · extract_lets +onlyGivenNames x9
    have h10 : Keeps s0 x9 := bindLogCheck_keeps (sub_trans rfl w) h8
    clear_value x9
    split
    · exact Keeps.fst (tupd_keeps (sub_trans rfl w) h10)
    · extract_lets +onlyGivenNames x11
      clear_value x11
      extract_lets +onlyGivenNames x12
      have h13 : Keeps s0 x12 := by
        unfold x12
        split
        · exact Keeps.ite h10 (lineFailure_keeps (sub_trans rfl w) h10)
        · exact h10
      clear_value x12
      exact h13
  · exact h8

theorem execCtxEmit_keeps {s0 : From} {a0 a1 a2} (w : sub 8912896 s0.W = true) (h0 : Keeps s0 a2) : KeepsOut s0 (execCtxEmit a0 a1 a2) := by
  unfold execCtxEmit
  refine KeepsOut.next ?_
  refine ctxIssue_keeps (sub_trans rfl w) h0 ?_
  refine fun x5 x6 x7 h8 => ?_
  extract_lets +onlyGivenNames x9
  clear_value x9
  split
  · exact h8
  · split
    · exact h8
    · extract_lets +onlyGivenNames x10
      clear_value x10
      exact Keeps.fst (cxPut_keeps (sub_trans rfl w) h8)

theorem execContextAnswer_keeps {s0 : From} {a0 a1 a2} (w : sub 524288 s0.W = true) (h0 : Keeps s0 a2) : KeepsOut s0 (execContextAnswer a0 a1 a2) := by
  unfold execContextAnswer
  exact KeepsOut.next (contextAnswer_keeps w h0)

end Sys2Proof.Machine
end

