-- ==== Sys2Proof/Laws/KeepsTieOps.lean ====
section
/-!
SUPPORT. What the operations of `Sys2Proof.Machine.TieOps` keep (`Sys2Proof.Machine.Keeps`): one lemma for each.
-/

namespace Sys2Proof.Machine

theorem fwdWrite_keeps {s0 : From} {a0 a1 a2} (w : sub 1073766400 s0.W = true) (h0 : Keeps s0 a0) : Keeps s0 (fwdWrite a0 a1 a2) := by
  unfold fwdWrite
  exact Keeps.ite h0 (Keeps.ite (memWrite_keeps w h0) (Keeps.foldl_pair (fun x5 x6 h7 => (Keeps.fst (memWrite_keeps w h7))) _ h0))

theorem tieEnd_keeps {s0 : From} {a0 a1 a2} (w : sub 913438523331814323877303020447676887834715881472 s0.W = true) (h0 : Keeps s0 a0) : Keeps s0 (tieEnd a0 a1 a2) := by
  unfold tieEnd
  extract_lets +onlyGivenNames x5
  clear_value x5
  extract_lets +onlyGivenNames x6
  have h7 : Keeps s0 x6 := upd_tie (sub_trans rfl w) h0
  clear_value x6
  extract_lets +onlyGivenNames x8
  have h9 : Keeps s0 x8 := fsetIf_keeps h7 rfl (sub_trans rfl w)
  clear_value x8
  exact irq_keeps (sub_trans rfl w) (finc_keeps (fput_keeps (fput_keeps h9 rfl (sub_trans rfl w)) rfl (sub_trans rfl w)) rfl (sub_trans rfl w))

theorem tieReserved_keeps {s0 : From} {a0 a1} (w : sub 913438523331814323877303020447676887834715881472 s0.W = true) (h0 : Keeps s0 a0) : Keeps s0 (tieReserved a0 a1) := by
  induction a1 generalizing a0 with
  | zero =>
    unfold tieReserved
    exact h0
  | succ n ih =>
    unfold tieReserved
    refine Keeps.ite h0 ?_
    split
    · exact h0
    · extract_lets +onlyGivenNames x5
      clear_value x5
      exact Keeps.ite h0 (ih (tieEnd_keeps w (upd_tie (sub_trans rfl w) h0)))

theorem tieDone_keeps {s0 : From} {a0 a1 a2} (w : sub 913438523331814323877303020447676887834715881472 s0.W = true) (h0 : Keeps s0 a0) : Keeps s0 (tieDone a0 a1 a2) := by
  unfold tieDone
  exact tieReserved_keeps w (tieEnd_keeps w h0)

theorem setObj_keeps {s0 : From} {a0 a1 a2} (w : sub 1073766400 s0.W = true) (h0 : Keeps s0 a0) : Keeps s0 (setObj a0 a1 a2) := by
  unfold setObj
  exact memPut_keeps w h0

theorem objState_keeps {s0 : From} {a0 a1 a2} (w : sub 1073766400 s0.W = true) (h0 : Keeps s0 a0) : Keeps s0 (objState a0 a1 a2) := by
  unfold objState
  exact setObj_keeps w h0

theorem winPut_keeps {s0 : From} {a0 a1 a2} (w : sub 131072 s0.W = true) (h0 : Keeps s0 a0) : Keeps s0 (winPut a0 a1 a2) := by
  unfold winPut
  exact upd_tie (sub_trans rfl w) h0

theorem tillerLine_keeps {s0 : From} {a0 a1 a2} (w : sub 187469919521770435579410348742242552419345094937817416119551425668903677446740007870464 s0.W = true) (h0 : Keeps s0 a0) : Keeps s0 (tillerLine a0 a1 a2) := by
  unfold tillerLine
  extract_lets +onlyGivenNames x5
  have h6 : Keeps s0 x5 := lineFailure_keeps (sub_trans rfl w) h0
  clear_value x5
  extract_lets +onlyGivenNames x7
  clear_value x7
  extract_lets +onlyGivenNames x8
  have h9 : Keeps s0 x8 := by
    unfold x8
    split
    · exact Keeps.ite (winPut_keeps (sub_trans rfl w) h6) h6
    · exact h6
  clear_value x8
  split
  · extract_lets +onlyGivenNames x10
    clear_value x10
    refine Keeps.ite h9 ?_
    split
    · exact Keeps.ite h9 (pageLost_keeps (sub_trans rfl w) h9)
    · exact h9
  · exact h9

theorem objUsed_keeps {s0 : From} {a0 a1} (w : sub 1073766400 s0.W = true) (h0 : Keeps s0 a0) : Keeps s0 (objUsed a0 a1) := by
  unfold objUsed
  exact setObj_keeps w h0

theorem fwdSet_keeps {s0 : From} {a0 a1 a2} (w : sub 131072 s0.W = true) (h0 : Keeps s0 a0) : Keeps s0 (fwdSet a0 a1 a2) := by
  unfold fwdSet
  exact Keeps.ite (upd_tie (sub_trans rfl w) h0) h0

end Sys2Proof.Machine
end

