-- ==== Sys2Proof/Laws/KeepsMovePipe.lean ====
section
/-!
SUPPORT. What the operations of `Sys2Proof.Machine.MovePipe` keep (`Sys2Proof.Machine.Keeps`): one lemma for each.
-/

namespace Sys2Proof.Machine

theorem devWrite_keeps {s0 : From} {a0 a1 a2 a3} (w : sub 1073766400 s0.W = true) (h0 : Keeps s0 a0) : Keeps s0 (devWrite a0 a1 a2 a3) := by
  unfold devWrite
  extract_lets +onlyGivenNames x5
  clear_value x5
  exact Keeps.foldl (fun x6 x7 h8 => (fwdWrite_keeps w h8)) _ h0

theorem movWrite_keeps {s0 : From} {a0 a1 a2 a3} (w : sub 1075339264 s0.W = true) (h0 : Keeps s0 a0) : Keeps s0 (movWrite a0 a1 a2 a3) := by
  unfold movWrite
  exact Keeps.ite h0 (Keeps.ite (devWrite_keeps (sub_trans rfl w) h0) (twrite_keeps (sub_trans rfl w) h0))

theorem moveFails_keeps {s0 : From} {a0 a1 a2 a3} (w : sub 166873987368791019708881506373906607695578843228458592589930041730662341745516220417283921436672 s0.W = true) (h0 : Keeps s0 a0) : Keeps s0 (moveFails a0 a1 a2 a3) := by
  unfold moveFails
  extract_lets +onlyGivenNames x5
  have h6 : Keeps s0 x5 := Keeps.ite (tillerLine_keeps (sub_trans rfl w) h0) (parityFail_keeps (sub_trans rfl w) h0)
  clear_value x5
  exact Keeps.ite (imprecise_keeps (sub_trans rfl w) h6) h6

theorem execMovCpy_keeps {s0 : From} {a0 a1 a2} (w : sub 524288 s0.W = true) (h0 : Keeps s0 a2) : KeepsOut s0 (execMovCpy a0 a1 a2) := by
  unfold execMovCpy
  extract_lets +onlyGivenNames x5 x6 x7 x8
  clear_value x5 x6 x7 x8
  exact KeepsOut.next (issue_keeps w h0 (fun x9 h10 => (Keeps.ite h10 (Keeps.ite (raiseAt_keeps w h10) (pushPend_keeps w h10)))))

theorem moveComplete_keeps {s0 : From} {a0 a1} (w : sub 166873987368791019708881506373906607695578843228458592589930041730662341745516220417283922485248 s0.W = true) (h0 : Keeps s0 a0) : Keeps s0 (moveComplete a0 a1) := by
  unfold moveComplete
  extract_lets +onlyGivenNames x5
  clear_value x5
  split
  · refine Keeps.ite h0 ?_
    extract_lets +onlyGivenNames x6
    clear_value x6
    refine Keeps.ite (imprecise_keeps (sub_trans rfl w) (fadd1_keeps h0 rfl (sub_trans rfl w))) ?_
    refine Keeps.ite (imprecise_keeps (sub_trans rfl w) h0) ?_
    extract_lets +onlyGivenNames x7
    have h8 : Keeps s0 x7 := movWrite_keeps (sub_trans rfl w) h0
    clear_value x7
    exact Keeps.ite (moveFails_keeps (sub_trans rfl w) h8) (tupd_keeps (sub_trans rfl w) h8)
  · refine Keeps.ite h0 ?_
    refine Keeps.ite (imprecise_keeps (sub_trans rfl w) (fadd1_keeps h0 rfl (sub_trans rfl w))) ?_
    refine Keeps.ite (imprecise_keeps (sub_trans rfl w) h0) ?_
    extract_lets +onlyGivenNames x9
    have h10 : Keeps s0 x9 := movWrite_keeps (sub_trans rfl w) h0
    clear_value x9
    exact tupd_keeps (sub_trans rfl w) h10
  · exact h0

theorem execMoveComplete_keeps {s0 : From} {a0 a1} (w : sub 166873987368791019708881506373906607695578843228458592589930041730662341745516220417283922485248 s0.W = true) (h0 : Keeps s0 a1) : KeepsOut s0 (execMoveComplete a0 a1) := by
  unfold execMoveComplete
  exact KeepsOut.next (moveComplete_keeps w h0)

theorem execMovFill_keeps {s0 : From} {a0 a1 a2} (w : sub 524288 s0.W = true) (h0 : Keeps s0 a2) : KeepsOut s0 (execMovFill a0 a1 a2) := by
  unfold execMovFill
  extract_lets +onlyGivenNames x5 x6 x7
  clear_value x5 x6 x7
  exact KeepsOut.next (issue_keeps w h0 (fun x8 h9 => (Keeps.ite h9 (Keeps.ite (raiseAt_keeps w h9) (pushPend_keeps w h9)))))

end Sys2Proof.Machine
end

