-- ==== Sys2Proof/Laws/KeepsItems.lean ====
section
/-!
SUPPORT. What the operations of `Sys2Proof.Machine.Items` keep (`Sys2Proof.Machine.Keeps`): one lemma for each.
-/

namespace Sys2Proof.Machine

theorem sendItem_keeps {s0 : From} {a0 a1 a2} (w : sub 1048576 s0.W = true) (h0 : Keeps s0 a0) : Keeps s0 (sendItem a0 a1 a2) := by
  unfold sendItem
  exact shupd_keeps w h0

theorem pushToSet_keeps {s0 : From} {a0 a1 a2} (w : sub 1048576 s0.W = true) (h0 : Keeps s0 a0) : Keeps s0 (pushToSet a0 a1 a2) := by
  unfold pushToSet
  split
  · exact sendItem_keeps w h0
  · exact h0

theorem spill_keeps {s0 : From} {a0 a1} (w : sub 1572864 s0.W = true) (h0 : Keeps s0 a0) : Keeps s0 (spill a0 a1) := by
  unfold spill
  extract_lets +onlyGivenNames x5 x6
  clear_value x5 x6
  exact Keeps.ite h0 (tupd_keeps (sub_trans rfl w) (shupd_keeps (sub_trans rfl w) h0))

theorem partPut_keeps {s0 : From} {a0 a1 a2} (w : sub 4194304 s0.W = true) (h0 : Keeps s0 a0) : Keeps s0 (partPut a0 a1 a2) := by
  unfold partPut
  exact upd_sch (sub_trans rfl w) h0

theorem stepPut_keeps {s0 : From} {a0 a1 a2} (w : sub 4194304 s0.W = true) (h0 : Keeps s0 a0) : Keeps s0 (stepPut a0 a1 a2) := by
  unfold stepPut
  exact partPut_keeps w h0

theorem stepSub_keeps {s0 : From} {a0 a1 a2 a3} (w : sub 4194304 s0.W = true) (h0 : Keeps s0 a0) : Keeps s0 (stepSub a0 a1 a2 a3) := by
  unfold stepSub
  refine Keeps.ite h0 ?_
  split
  · exact h0
  · extract_lets +onlyGivenNames x5 x6
    clear_value x5 x6
    exact stepPut_keeps w h0

theorem faultContexts_keeps {s0 : From} {a0 a1 a2} (w : sub 2371421987580235682274733772977928352834969285952318751528091320482061480223727616 s0.W = true) (h0 : Keeps s0 a0) : Keeps s0 (faultContexts a0 a1 a2) := by
  unfold faultContexts
  refine Keeps.foldl (fun x5 x6 h7 => ?_) _ h0
  extract_lets +onlyGivenNames x8
  clear_value x8
  extract_lets +onlyGivenNames x9
  have h10 : Keeps s0 x9 := cxPut_keeps (sub_trans rfl w) h7
  clear_value x9
  exact Keeps.ite (dmod_keeps w h10) h10

theorem stolen_keeps {s0 : From} {a0 a1 a2} (w : sub 524288 s0.W = true) (h0 : Keeps s0 a0) : Keeps s0 (stolen a0 a1 a2) := by
  unfold stolen
  exact Keeps.ite (tupd_keeps w h0) (tupd_keeps w h0)

theorem releaseSlots_keeps {s0 : From} {a0 a1 a2} (w : sub 131072 s0.W = true) (h0 : Keeps s0 a0) : Keeps s0 (releaseSlots a0 a1 a2) := by
  unfold releaseSlots
  split
  · refine Keeps.ite h0 ?_
    extract_lets +onlyGivenNames x5
    clear_value x5
    exact winPut_keeps w h0
  · exact h0

theorem attEnd_keeps {s0 : From} {a0 a1 a2 a3} (w : sub 67108864 s0.W = true) (h0 : Keeps s0 a0) : Keeps s0 (attEnd a0 a1 a2 a3) := by
  unfold attEnd
  refine Keeps.ite h0 ?_
  split
  · exact h0
  · extract_lets +onlyGivenNames x5 x6
    clear_value x5 x6
    exact upd_bnk (sub_trans rfl w) h0

theorem itemEnd_keeps {s0 : From} {a0 a1 a2 a3} (w : sub 25031098077200536450054240854856713576773421549719859617102846160418165502812363507061882511360 s0.W = true) (h0 : Keeps s0 a0) : Keeps s0 (itemEnd a0 a1 a2 a3) := by
  unfold itemEnd
  split
  · exact h0
  · extract_lets +onlyGivenNames x5 x6
    clear_value x5 x6
    extract_lets +onlyGivenNames x7
    have h8 : Keeps s0 x7 := tcount_keeps (sub_trans rfl w) (busyFix_keeps (sub_trans rfl w) h0) rfl (sub_trans rfl w)
    clear_value x7
    extract_lets +onlyGivenNames x9
    have h10 : Keeps s0 x9 := tupd_keeps (sub_trans rfl w) h8
    clear_value x9
    extract_lets +onlyGivenNames x11
    have h12 : Keeps s0 x11 := Keeps.ite h10 (faultContexts_keeps (sub_trans rfl w) h10)
    clear_value x11
    extract_lets +onlyGivenNames x13
    have h14 : Keeps s0 x13 := releaseSlots_keeps (sub_trans rfl w) (stepSub_keeps (sub_trans rfl w) h12)
    clear_value x13
    extract_lets +onlyGivenNames x15
    have h16 : Keeps s0 x15 := attEnd_keeps (sub_trans rfl w) h14
    clear_value x15
    exact reap_keeps (sub_trans rfl w) h16

theorem stepAdd_keeps {s0 : From} {a0 a1} (w : sub 4194304 s0.W = true) (h0 : Keeps s0 a0) : Keeps s0 (stepAdd a0 a1) := by
  unfold stepAdd
  refine Keeps.ite h0 ?_
  split
  · exact h0
  · exact stepPut_keeps w h0

theorem imageFault_keeps {s0 : From} {a0 a1 a2} (w : sub 971334446112864535459730953411759453321203419526069760625906204869452143153436712960 s0.W = true) (h0 : Keeps s0 a0) : Keeps s0 (imageFault a0 a1 a2) := by
  unfold imageFault
  extract_lets +onlyGivenNames x5
  have h6 : Keeps s0 x5 := event_keeps (sub_trans rfl w) h0
  clear_value x5
  exact tupd_keeps (sub_trans rfl w) h6

theorem imageLoad_keeps {s0 : From} {a0 a1} (w : sub 187467548099782855343728074008469574490992259968531463800799897577583195385810614378496 s0.W = true) (h0 : Keeps s0 a0) : Keeps s0 (imageLoad a0 a1) := by
  unfold imageLoad
  split
  · exact h0
  · extract_lets +onlyGivenNames x5
    clear_value x5
    split
    · extract_lets +onlyGivenNames x6
      have h7 : Keeps s0 x6 := lineFailure_keeps (sub_trans rfl w) h0
      clear_value x6
      exact Keeps.ite (tupd_keeps (sub_trans rfl w) h7) (imageFault_keeps (sub_trans rfl w) h7)
    · refine Keeps.ite (imageFault_keeps (sub_trans rfl w) h0) ?_
      extract_lets +onlyGivenNames x8 x9
      clear_value x8 x9
      exact tupd_keeps (sub_trans rfl w) h0

theorem itemStart_keeps {s0 : From} {a0 a1} (w : sub 274878431232 s0.W = true) (h0 : Keeps s0 a0) : Keeps s0 (itemStart a0 a1) := by
  unfold itemStart
  split
  · exact h0
  · refine Keeps.ite h0 ?_
    extract_lets +onlyGivenNames x5 x6 x7
    clear_value x5 x6 x7
    extract_lets +onlyGivenNames x8
    have h9 : Keeps s0 x8 := upd_stamp (sub_trans rfl w) h0
    clear_value x8
    extract_lets +onlyGivenNames x10
    have h11 : Keeps s0 x10 := tupd_keeps (sub_trans rfl w) h9
    clear_value x10
    extract_lets +onlyGivenNames x12
    have h13 : Keeps s0 x12 := tupd_keeps (sub_trans rfl w) h11
    clear_value x12
    exact Keeps.ite h13 (raise_keeps (sub_trans rfl w) h13)

theorem placeItem_keeps {s0 : From} {a0 a1 a2} (w : sub 1572864 s0.W = true) (h0 : Keeps s0 a0) : KeepsOpt s0 (placeItem a0 a1 a2) := by
  unfold placeItem
  split
  · exact KeepsOpt.some (tupd_keeps (sub_trans rfl w) h0)
  · exact KeepsOpt.ite (KeepsOpt.some (shupd_keeps (sub_trans rfl w) h0)) KeepsOpt.none

theorem loadStart_keeps {s0 : From} {a0 a1 a2 a3} (w : sub 524288 s0.W = true) (h0 : Keeps s0 a0) : Keeps s0 (loadStart a0 a1 a2 a3) := by
  unfold loadStart
  exact tupd_keeps w h0

theorem gated_keeps {s0 : From} {a0 a1} (w : sub 23384026197294446691258957323460528314494920687616 s0.W = true) (h0 : Keeps s0 a0) : Keeps s0 (gated a0 a1) := by
  unfold gated
  refine Keeps.ite h0 ?_
  split
  · exact fadd1_keeps h0 rfl (sub_trans rfl w)
  · exact h0

theorem spillSheaf_keeps {s0 : From} {a0 a1} (w : sub 1572864 s0.W = true) (h0 : Keeps s0 a0) : Keeps s0 (spillSheaf a0 a1) := by
  unfold spillSheaf
  exact Keeps.foldl (fun x5 x6 h7 => (spill_keeps w h7)) _ h0

theorem itemTake_keeps {s0 : From} {a0 a1} (w : sub 23384026197294446691258957323460528314494922260480 s0.W = true) (h0 : Keeps s0 a0) : Keeps s0 (itemTake a0 a1) := by
  unfold itemTake
  refine Keeps.ite h0 ?_
  extract_lets +onlyGivenNames x5 x6 x7
  clear_value x5 x6 x7
  split
  · split
    · exact loadStart_keeps (sub_trans rfl w) h0
    · exact tupd_keeps (sub_trans rfl w) h0
  · split
    · split
      · exact loadStart_keeps (sub_trans rfl w) h0
      · exact spillSheaf_keeps (sub_trans rfl w) (tupd_keeps (sub_trans rfl w) (shupd_keeps (sub_trans rfl w) h0))
    · exact tupd_keeps (sub_trans rfl w) (Keeps.foldl (fun x8 x9 h10 => (gated_keeps (sub_trans rfl w) h10)) _ h0)

theorem execItemTake_keeps {s0 : From} {a0 a1} (w : sub 23384026197294446691258957323460528314494922260480 s0.W = true) (h0 : Keeps s0 a1) : KeepsOut s0 (execItemTake a0 a1) := by
  unfold execItemTake
  exact KeepsOut.next (itemTake_keeps w h0)

theorem execDispatchHeldPlace_keeps {s0 : From} {a0 a1} (w : sub 1572864 s0.W = true) (h0 : Keeps s0 a1) : KeepsOut s0 (execDispatchHeldPlace a0 a1) := by
  unfold execDispatchHeldPlace
  split
  · exact KeepsOut.next h0
  · split
    · rename_i h5
      have h6 := KeepsOpt.get (s := s0) h5 (placeItem_keeps w h0)
      exact KeepsOut.next (shupd_keeps (sub_trans rfl w) h6)
    · exact KeepsOut.next h0

theorem execImageLoad_keeps {s0 : From} {a0 a1} (w : sub 187467548099782855343728074008469574490992259968531463800799897577583195385810614378496 s0.W = true) (h0 : Keeps s0 a1) : KeepsOut s0 (execImageLoad a0 a1) := by
  unfold execImageLoad
  exact KeepsOut.next (imageLoad_keeps w h0)

theorem stealDeque_keeps {s0 : From} {a0 a1 a2 a3} (w : sub 4171849679533027504677776769862406473833407270227837441302815640277772901915313574263598350338 s0.W = true) (h0 : Keeps s0 a0) (h1 : a3.ok = true) (h2 : sub (bitOf a3.reg) s0.W = true) : Keeps s0 (stealDeque a0 a1 a2 a3) := by
  unfold stealDeque
  extract_lets +onlyGivenNames x5 x6
  clear_value x5 x6
  split
  · extract_lets +onlyGivenNames x7
    have h8 : Keeps s0 x7 := tcount_keeps (sub_trans rfl w) (tupd_keeps (sub_trans rfl w) (bump_keeps (sub_trans rfl w) h0)) rfl (sub_trans rfl w)
    clear_value x7
    exact stolen_keeps (sub_trans rfl w) (fadd1_keeps h8 h1 h2)
  · exact h0

theorem stealSheaf_keeps {s0 : From} {a0 a1 a2 a3} (w : sub 4171849679533027504677776769862406473833407270227837441302815640277772901915313574263599398914 s0.W = true) (h0 : Keeps s0 a0) (h1 : a3.ok = true) (h2 : sub (bitOf a3.reg) s0.W = true) : Keeps s0 (stealSheaf a0 a1 a2 a3) := by
  unfold stealSheaf
  extract_lets +onlyGivenNames x5
  clear_value x5
  split
  · exact spillSheaf_keeps (sub_trans rfl w) (stolen_keeps (sub_trans rfl w) (fadd1_keeps (shupd_keeps (sub_trans rfl w) (bump_keeps (sub_trans rfl w) h0)) h1 h2))
  · exact stealDeque_keeps (sub_trans rfl w) (bump_keeps (sub_trans rfl w) h0) h1 h2

theorem steal_keeps {s0 : From} {a0 a1} (w : sub 4171849679533027504677776769862406473833407270227837441302815640277772901915313574263599398914 s0.W = true) (h0 : Keeps s0 a0) : Keeps s0 (steal a0 a1) := by
  unfold steal
  extract_lets +onlyGivenNames x5 x6
  clear_value x5 x6
  refine Keeps.ite h0 ?_
  refine Keeps.ite (Keeps.ite (tupd_keeps (sub_trans rfl w) h0) (stealDeque_keeps (sub_trans rfl w) h0 rfl (sub_trans rfl w))) ?_
  refine Keeps.ite ?_ ?_
  · extract_lets +onlyGivenNames x7
    clear_value x7
    exact Keeps.ite (tupd_keeps (sub_trans rfl w) h0) (stealSheaf_keeps w h0 rfl (sub_trans rfl w))
  · extract_lets +onlyGivenNames x8
    clear_value x8
    exact Keeps.ite (tupd_keeps (sub_trans rfl w) h0) (stealSheaf_keeps w h0 rfl (sub_trans rfl w))

theorem execSteal_keeps {s0 : From} {a0 a1} (w : sub 4171849679533027504677776769862406473833407270227837441302815640277772901915313574263599398914 s0.W = true) (h0 : Keeps s0 a1) : KeepsOut s0 (execSteal a0 a1) := by
  unfold execSteal
  exact KeepsOut.next (steal_keeps w h0)

theorem execItemStart_keeps {s0 : From} {a0 a1} (w : sub 274878431232 s0.W = true) (h0 : Keeps s0 a1) : KeepsOut s0 (execItemStart a0 a1) := by
  unfold execItemStart
  exact KeepsOut.next (itemStart_keeps w h0)

theorem execItemDispatch_keeps {s0 : From} {a0 a1} (w : sub 1572864 s0.W = true) (h0 : Keeps s0 a1) : KeepsOut s0 (execItemDispatch a0 a1) := by
  unfold execItemDispatch
  split
  · exact KeepsOut.next h0
  · extract_lets +onlyGivenNames x5
    have h6 : Keeps s0 x5 := shupd_keeps (sub_trans rfl w) h0
    clear_value x5
    refine KeepsOut.ite ?_ (KeepsOut.next (shupd_keeps (sub_trans rfl w) h6))
    split
    · rename_i h7
      have h8 := KeepsOpt.get (s := s0) h7 (placeItem_keeps w h6)
      exact KeepsOut.next h8
    · exact KeepsOut.next (shupd_keeps (sub_trans rfl w) h6)

end Sys2Proof.Machine
end

