-- ==== Sys2Proof/Laws/KeepsBanks.lean ====
section
/-!
SUPPORT. What the operations of `Sys2Proof.Machine.Banks` keep (`Sys2Proof.Machine.Keeps`): one lemma for each.
-/

namespace Sys2Proof.Machine

theorem serve_keeps {s0 : From} {a0 a1} (w : sub 1141923840 s0.W = true) (h0 : Keeps s0 a0) : Keeps s0 (serve a0 a1) := by
  unfold serve
  split
  · exact h0
  · split
    · exact stkUpd_keeps (sub_trans rfl w) h0
    · extract_lets +onlyGivenNames x5
      have h6 : Keeps s0 x5 := fwdWrite_keeps (sub_trans rfl w) h0
      clear_value x5
      split
      · exact pushToSet_keeps (sub_trans rfl w) h6
      · exact h6

theorem lateWrites_keeps {s0 : From} {a0 a1} (w : sub 1141923840 s0.W = true) (h0 : Keeps s0 a0) : Keeps s0 (lateWrites a0 a1) := by
  induction a1 generalizing a0 with
  | nil =>
    unfold lateWrites
    exact h0
  | cons y ys ih =>
    unfold lateWrites
    split
    · exact stkUpd_keeps (sub_trans rfl w) h0
    · exact ih (serve_keeps w h0)

theorem execBnkStroke_keeps {s0 : From} {a0 a1 a2} (w : sub 67633154 s0.W = true) (h0 : Keeps s0 a2) : KeepsOut s0 (execBnkStroke a0 a1 a2) := by
  unfold execBnkStroke
  extract_lets +onlyGivenNames x5
  clear_value x5
  refine KeepsOut.next ?_
  refine issue_keeps (sub_trans rfl w) h0 ?_
  refine fun x6 h7 => ?_
  extract_lets +onlyGivenNames x8 x9 x10
  clear_value x8 x9 x10
  refine Keeps.ite h7 ?_
  extract_lets +onlyGivenNames x11
  have h12 : Keeps s0 x11 := bump_keeps (sub_trans rfl w) h7
  clear_value x11
  extract_lets +onlyGivenNames x13
  clear_value x13
  extract_lets +onlyGivenNames x14
  have h15 : Keeps s0 x14 := upd_bnk (sub_trans rfl w) h12
  clear_value x14
  exact pushPend_keeps (sub_trans rfl w) h15

theorem seqEnd_keeps {s0 : From} {a0 a1 a2} (w : sub 22300745198530623141535718272648362682114048 s0.W = true) (h0 : Keeps s0 a0) : Keeps s0 (seqEnd a0 a1 a2) := by
  unfold seqEnd
  split
  · exact h0
  · extract_lets +onlyGivenNames x5
    clear_value x5
    extract_lets +onlyGivenNames x6
    have h7 : Keeps s0 x6 := stkUpd_keeps (sub_trans rfl w) h0
    clear_value x6
    extract_lets +onlyGivenNames x8
    have h9 : Keeps s0 x8 := reap_keeps (sub_trans rfl w) (lateWrites_keeps (sub_trans rfl w) h7)
    clear_value x8
    extract_lets +onlyGivenNames x10
    have h11 : Keeps s0 x10 := Keeps.ite (fadd1_keeps h9 rfl (sub_trans rfl w)) (fadd1_keeps h9 rfl (sub_trans rfl w))
    clear_value x10
    refine Keeps.ite (askDone_keeps (sub_trans rfl w) h11) ?_
    split
    · exact upd_cows (sub_trans rfl w) h11
    · exact h11

theorem spanLost_keeps {s0 : From} {a0 a1 a2} (w : sub 124333180524434240774527836770478187953466872668622881678867522314610356314613567873024 s0.W = true) (h0 : Keeps s0 a0) : Keeps s0 (spanLost a0 a1 a2) := by
  unfold spanLost
  exact Keeps.ite h0 (Keeps.foldl (fun x5 x6 h7 => (Keeps.ite (pageLost_keeps w h7) h7)) _ h0)

theorem seqBegin_keeps {s0 : From} {a0 a1} (w : sub 124333180524434240774527836770478187953466894969368080209490663850328628963250053996544 s0.W = true) (h0 : Keeps s0 a0) : Keeps s0 (seqBegin a0 a1) := by
  unfold seqBegin
  split
  · exact h0
  · extract_lets +onlyGivenNames x5
    clear_value x5
    extract_lets +onlyGivenNames x6
    have h7 : Keeps s0 x6 := upd_stamp (sub_trans rfl w) h0
    clear_value x6
    extract_lets +onlyGivenNames x8
    have h9 : Keeps s0 x8 := stkUpd_keeps (sub_trans rfl w) h7
    clear_value x8
    refine Keeps.ite (seqEnd_keeps (sub_trans rfl w) h9) ?_
    extract_lets +onlyGivenNames x10
    clear_value x10
    exact Keeps.ite h9 (seqEnd_keeps (sub_trans rfl w) (spanLost_keeps (sub_trans rfl w) h9))

theorem strokeStart_keeps {s0 : From} {a0 a1} (w : sub 124333180524434240774527836770478187953466906119740679474802234618187765287430806986752 s0.W = true) (h0 : Keeps s0 a0) : Keeps s0 (strokeStart a0 a1) := by
  unfold strokeStart
  refine Keeps.ite h0 ?_
  extract_lets +onlyGivenNames x5
  have h6 : Keeps s0 x5 := Keeps.ite (seqBegin_keeps (sub_trans rfl w) h0) h0
  clear_value x5
  split
  · exact h6
  · refine Keeps.ite (seqEnd_keeps (sub_trans rfl w) h6) ?_
    extract_lets +onlyGivenNames x7 x8 x9 x10 x11
    clear_value x7 x8 x9 x10 x11
    extract_lets +onlyGivenNames x12
    have h13 : Keeps s0 x12 := stkUpd_keeps (sub_trans rfl w) h6
    clear_value x12
    exact fset_keeps h13 rfl (sub_trans rfl w)

theorem serveAll_keeps {s0 : From} {a0 a1 a2} (w : sub 1141923840 s0.W = true) (h0 : Keeps s0 a0) : Keeps s0 (serveAll a0 a1 a2) := by
  unfold serveAll
  extract_lets +onlyGivenNames x5
  clear_value x5
  extract_lets +onlyGivenNames x6
  have h7 : Keeps s0 x6 := stkUpd_keeps (sub_trans rfl w) h0
  clear_value x6
  exact Keeps.foldl (fun x8 x9 h10 => (serve_keeps w h10)) _ h7

theorem outsideStep_keeps {s0 : From} {a0 a1 a2} (w : sub 1141923840 s0.W = true) (h0 : Keeps s0 a0) : Keeps s0 (outsideStep a0 a1 a2) := by
  unfold outsideStep
  split
  · exact h0
  · exact serveAll_keeps w h0

theorem yieldPoint_keeps {s0 : From} {a0 a1 a2} (w : sub 89202980794122492566142873090593447165845504 s0.W = true) (h0 : Keeps s0 a0) : Keeps s0 (yieldPoint a0 a1 a2) := by
  unfold yieldPoint
  split
  · exact h0
  · exact outsideStep_keeps (sub_trans rfl w) (fmaxTo_keeps (fadd1_keeps h0 rfl (sub_trans rfl w)) rfl (sub_trans rfl w))

theorem capture_keeps {s0 : From} {a0 a1 a2 a3} (w : sub 67108864 s0.W = true) (h0 : Keeps s0 a0) : Keeps s0 (capture a0 a1 a2 a3) := by
  unfold capture
  split
  · extract_lets +onlyGivenNames x5
    clear_value x5
    exact stkUpd_keeps w h0
  · exact Keeps.ite h0 (stkUpd_keeps w h0)

theorem rowStepEnd_keeps {s0 : From} {a0 a1 a2} (w : sub 89202980794122492566142873090593447165845504 s0.W = true) (h0 : Keeps s0 a0) : Keeps s0 (rowStepEnd a0 a1 a2) := by
  unfold rowStepEnd
  split
  · exact h0
  · extract_lets +onlyGivenNames x5
    have h6 : Keeps s0 x5 := capture_keeps (sub_trans rfl w) h0
    clear_value x5
    extract_lets +onlyGivenNames x7
    have h8 : Keeps s0 x7 := yieldPoint_keeps w (stkUpd_keeps (sub_trans rfl w) h6)
    clear_value x7
    exact Keeps.ite (Keeps.foldl (fun x9 x10 h11 => (outsideStep_keeps (sub_trans rfl w) h11)) _ h8) h8

theorem finishSteps_keeps {s0 : From} {a0 a1} (w : sub 89202980794122492566142873090593447165845504 s0.W = true) (h0 : Keeps s0 a0) : Keeps s0 (finishSteps a0 a1) := by
  unfold finishSteps
  exact Keeps.foldl (fun x5 x6 h7 => (Keeps.foldl (fun x8 x9 h10 => (rowStepEnd_keeps w h10)) _ h7)) _ h0

theorem refreshBegin_keeps {s0 : From} {a0 a1} (w : sub 11150372599265311570767859136324180820099072 s0.W = true) (h0 : Keeps s0 a0) : Keeps s0 (refreshBegin a0 a1) := by
  unfold refreshBegin
  exact stkUpd_keeps (sub_trans rfl w) (fput_keeps h0 rfl (sub_trans rfl w))

theorem refreshEnd_keeps {s0 : From} {a0 a1} (w : sub 367962295775755281835339351498697965990600704 s0.W = true) (h0 : Keeps s0 a0) : Keeps s0 (refreshEnd a0 a1) := by
  unfold refreshEnd
  refine Keeps.ite h0 ?_
  extract_lets +onlyGivenNames x5
  have h6 : Keeps s0 x5 := fadd1_keeps (stkUpd_keeps (sub_trans rfl w) h0) rfl (sub_trans rfl w)
  clear_value x5
  exact Keeps.ite (serveAll_keeps (sub_trans rfl w) h6) (refreshBegin_keeps (sub_trans rfl w) (Keeps.foldl (fun x7 x8 h9 => (outsideStep_keeps (sub_trans rfl w) h9)) _ h6))

theorem execRefreshEnd_keeps {s0 : From} {a0 a1} (w : sub 367962295775755281835339351498697965990600704 s0.W = true) (h0 : Keeps s0 a1) : KeepsOut s0 (execRefreshEnd a0 a1) := by
  unfold execRefreshEnd
  exact KeepsOut.next (refreshEnd_keeps w h0)

theorem commitWrites_keeps {s0 : From} {a0 a1} (w : sub 1073766400 s0.W = true) (h0 : Keeps s0 a0) : Keeps s0 (commitWrites a0 a1) := by
  unfold commitWrites
  exact Keeps.foldl (fun x5 x6 h7 => (memWrite_keeps w h7)) _ h0

theorem commandCheck_keeps {s0 : From} {a0 a1} (w : sub 166873987368791019708881506373906607695578843228458614890675240261285483281234493065645494525952 s0.W = true) (h0 : Keeps s0 a0) : Keeps s0 (commandCheck a0 a1) := by
  unfold commandCheck
  split
  · exact h0
  · extract_lets +onlyGivenNames x5
    clear_value x5
    extract_lets +onlyGivenNames x6
    have h7 : Keeps s0 x6 := upd_bnk (sub_trans rfl w) h0
    clear_value x6
    extract_lets +onlyGivenNames x8 x9
    clear_value x8 x9
    split
    · exact moveFails_keeps (sub_trans rfl w) h7
    · extract_lets +onlyGivenNames x10
      clear_value x10
      extract_lets +onlyGivenNames x11
      have h12 : ∀ x00, Keeps s0 (x11 x00) := fun x13 => (askDone_keeps (sub_trans rfl w) (fadd1_keeps h7 rfl (sub_trans rfl w)))
      clear_value x11
      refine Keeps.ite (h12 _) ?_
      split
      · exact h12 _
      · exact enqueueSeq_keeps (sub_trans rfl w) h7

theorem execStrokeCommandCheck_keeps {s0 : From} {a0 a1} (w : sub 166873987368791019708881506373906607695578843228458614890675240261285483281234493065645494525952 s0.W = true) (h0 : Keeps s0 a1) : KeepsOut s0 (execStrokeCommandCheck a0 a1) := by
  unfold execStrokeCommandCheck
  exact KeepsOut.next (commandCheck_keeps w h0)

theorem boundary_keeps {s0 : From} {a0 a1} (w : sub 11150372599265311570767859136324181894914048 s0.W = true) (h0 : Keeps s0 a0) : Keeps s0 (boundary a0 a1) := by
  unfold boundary
  extract_lets +onlyGivenNames x5 x6
  clear_value x5 x6
  extract_lets +onlyGivenNames x7
  have h8 : Keeps s0 x7 := serveAll_keeps (sub_trans rfl w) h0
  clear_value x7
  exact Keeps.ite (refreshBegin_keeps (sub_trans rfl w) h8) h8

theorem attnResults_keeps {s0 : From} {a0 a1} (w : sub 1075339264 s0.W = true) (h0 : Keeps s0 a0) : Keeps s0 (attnResults a0 a1) := by
  unfold attnResults
  extract_lets +onlyGivenNames x5 x6
  clear_value x5 x6
  refine Keeps.foldl (fun x7 x8 h9 => ?_) _ h0
  extract_lets +onlyGivenNames x10
  clear_value x10
  exact movWrite_keeps w h9

theorem queueEntry_keeps {s0 : From} {a0 a1} (w : sub 67108864 s0.W = true) (h0 : Keeps s0 a0) : Keeps s0 (queueEntry a0 a1) := by
  unfold queueEntry
  exact stkUpd_keeps w h0

theorem execStrokeQueueEntry_keeps {s0 : From} {a0 a1} (w : sub 67108864 s0.W = true) (h0 : Keeps s0 a1) : KeepsOut s0 (execStrokeQueueEntry a0 a1) := by
  unfold execStrokeQueueEntry
  exact KeepsOut.next (queueEntry_keeps w h0)

theorem outsideAccess_keeps {s0 : From} {a0 a1} (w : sub 1141923840 s0.W = true) (h0 : Keeps s0 a0) : Keeps s0 (outsideAccess a0 a1) := by
  unfold outsideAccess
  extract_lets +onlyGivenNames x5 x6
  clear_value x5 x6
  refine Keeps.ite h0 ?_
  extract_lets +onlyGivenNames x7 x8
  clear_value x7 x8
  exact Keeps.ite (stkUpd_keeps (sub_trans rfl w) h0) (serve_keeps w h0)

theorem execStrokeStart_keeps {s0 : From} {a0 a1} (w : sub 124333180524434240774527836770478187953466906119740679474802234618187765287430806986752 s0.W = true) (h0 : Keeps s0 a1) : KeepsOut s0 (execStrokeStart a0 a1) := by
  unfold execStrokeStart
  exact KeepsOut.next (strokeStart_keeps w h0)

theorem refreshDue_keeps {s0 : From} {a0 a1} (w : sub 367962295775755281835339351498697964915785728 s0.W = true) (h0 : Keeps s0 a0) : Keeps s0 (refreshDue a0 a1) := by
  unfold refreshDue
  extract_lets +onlyGivenNames x5
  have h6 : Keeps s0 x5 := fput_keeps h0 rfl (sub_trans rfl w)
  clear_value x5
  refine Keeps.ite ?_ (stkUpd_keeps (sub_trans rfl w) h6)
  extract_lets +onlyGivenNames x7
  clear_value x7
  exact fmaxTo_keeps (fput_keeps h6 rfl (sub_trans rfl w)) rfl (sub_trans rfl w)

theorem execRefreshDue_keeps {s0 : From} {a0 a1} (w : sub 367962295775755281835339351498697964915785728 s0.W = true) (h0 : Keeps s0 a1) : KeepsOut s0 (execRefreshDue a0 a1) := by
  unfold execRefreshDue
  exact KeepsOut.next (refreshDue_keeps w h0)

theorem execOutsideAccess_keeps {s0 : From} {a0 a1} (w : sub 1141923840 s0.W = true) (h0 : Keeps s0 a1) : KeepsOut s0 (execOutsideAccess a0 a1) := by
  unfold execOutsideAccess
  exact KeepsOut.next (outsideAccess_keeps w h0)

theorem checkResults_keeps {s0 : From} {a0 a1 a2} (w : sub 1075339264 s0.W = true) (h0 : Keeps s0 a0) : Keeps s0 (checkResults a0 a1 a2) := by
  unfold checkResults
  extract_lets +onlyGivenNames x5
  clear_value x5
  exact movWrite_keeps w h0

theorem seqFinish_keeps {s0 : From} {a0 a1 a2 a3} (w : sub 22300745198530623141535718272648362682114048 s0.W = true) (h0 : Keeps s0 a0) : Keeps s0 (seqFinish a0 a1 a2 a3) := by
  unfold seqFinish
  extract_lets +onlyGivenNames x5
  clear_value x5
  extract_lets +onlyGivenNames x6
  have h7 : Keeps s0 x6 := Keeps.ite (checkResults_keeps (sub_trans rfl w) h0) (Keeps.ite h0 (Keeps.ite (attnResults_keeps (sub_trans rfl w) h0) (commitWrites_keeps (sub_trans rfl w) h0)))
  clear_value x6
  extract_lets +onlyGivenNames x8
  have h9 : Keeps s0 x8 := stkUpd_keeps (sub_trans rfl w) h7
  clear_value x8
  exact seqEnd_keeps w h9

theorem strokeEnd_keeps {s0 : From} {a0 a1} (w : sub 187469919521770435579410348742242552419345440599367993344210119472536903496352042737664 s0.W = true) (h0 : Keeps s0 a0) : Keeps s0 (strokeEnd a0 a1) := by
  unfold strokeEnd
  refine Keeps.ite h0 ?_
  extract_lets +onlyGivenNames x5
  have h6 : Keeps s0 x5 := finishSteps_keeps (sub_trans rfl w) h0
  clear_value x5
  extract_lets +onlyGivenNames x7
  have h8 : Keeps s0 x7 := fadd1_keeps (fput_keeps h6 rfl (sub_trans rfl w)) rfl (sub_trans rfl w)
  clear_value x7
  split
  · exact h8
  · extract_lets +onlyGivenNames x9
    have h10 : Keeps s0 x9 := Keeps.ite (meter_keeps (sub_trans rfl w) h8) h8
    clear_value x9
    extract_lets +onlyGivenNames x11 x12
    clear_value x11 x12
    extract_lets +onlyGivenNames x13
    have h14 : Keeps s0 x13 := Keeps.foldl (fun x15 x16 h17 => (lineFailureOf_keeps (sub_trans rfl w) (fadd1_keeps h17 rfl (sub_trans rfl w)))) _ h10
    clear_value x13
    extract_lets +onlyGivenNames x18
    have h19 : Keeps s0 x18 := spanLost_keeps (sub_trans rfl w) h14
    clear_value x18
    extract_lets +onlyGivenNames x20 x21 x22 x23
    clear_value x20 x21 x22 x23
    extract_lets +onlyGivenNames x24
    have h25 : Keeps s0 x24 := stkUpd_keeps (sub_trans rfl w) h19
    clear_value x24
    extract_lets +onlyGivenNames x26
    have h27 : Keeps s0 x26 := Keeps.ite (seqEnd_keeps (sub_trans rfl w) h25) (Keeps.ite (seqFinish_keeps (sub_trans rfl w) h25) h25)
    clear_value x26
    exact boundary_keeps (sub_trans rfl w) h27

theorem execStrokeEnd_keeps {s0 : From} {a0 a1} (w : sub 187469919521770435579410348742242552419345440599367993344210119472536903496352042737664 s0.W = true) (h0 : Keeps s0 a1) : KeepsOut s0 (execStrokeEnd a0 a1) := by
  unfold execStrokeEnd
  exact KeepsOut.next (strokeEnd_keeps w h0)

theorem execRowStepEnd_keeps {s0 : From} {a0 a1 a2} (w : sub 89202980794122492566142873090593447165845504 s0.W = true) (h0 : Keeps s0 a2) : KeepsOut s0 (execRowStepEnd a0 a1 a2) := by
  unfold execRowStepEnd
  exact KeepsOut.next (rowStepEnd_keeps w h0)

end Sys2Proof.Machine
end

