-- ==== Sys2Proof/Laws/KeepsSync.lean ====
section
/-!
SUPPORT. What the operations of `Sys2Proof.Machine.Sync` keep (`Sys2Proof.Machine.Keeps`): one lemma for each.
-/

namespace Sys2Proof.Machine

theorem execIllegalInstruction_keeps {s0 : From} {a0 a1 a2} (w : sub 524288 s0.W = true) (h0 : Keeps s0 a2) : KeepsOut s0 (execIllegalInstruction a0 a1 a2) := by
  unfold execIllegalInstruction
  exact KeepsOut.next (Keeps.ite h0 (raiseAt_keeps w h0))

theorem arrive_keeps {s0 : From} {a0 a1 a2 a3} (w : sub 1572864 s0.W = true) (h0 : Keeps s0 a0) : Keeps s0 (arrive a0 a1 a2 a3) := by
  unfold arrive
  extract_lets +onlyGivenNames x5 x6 x7 x8
  clear_value x5 x6 x7 x8
  extract_lets +onlyGivenNames x9
  have h10 : ∀ x00 x01, Keeps s0 x00 → Keeps s0 (x9 x00 x01) := fun x11 x12 h13 => (shupd_keeps (sub_trans rfl w) h13)
  clear_value x9
  exact Keeps.ite (Keeps.foldl (fun x14 x15 h16 => (tupd_keeps (sub_trans rfl w) h16)) _ (h10 _ _ h0)) (tupd_keeps (sub_trans rfl w) (h10 _ _ h0))

theorem execSyncArr_keeps {s0 : From} {a0 a1 a2} (w : sub 524288 s0.W = true) (h0 : Keeps s0 a2) : KeepsOut s0 (execSyncArr a0 a1 a2) := by
  unfold execSyncArr
  extract_lets +onlyGivenNames x5
  clear_value x5
  exact KeepsOut.next (issue_keeps w h0 (fun x6 h7 => (Keeps.ite (tupd_keeps w h7) h7)))

theorem deliver_keeps {s0 : From} {a0 a1} (w : sub 25031098078171870896167105390316444530185181003041063036628915921044071707681815649664489119744 s0.W = true) (h0 : Keeps s0 a0) : Keeps s0 (deliver a0 a1) := by
  unfold deliver
  extract_lets +onlyGivenNames x5
  clear_value x5
  split
  · exact Keeps.ite h0 (itemEnd_keeps (sub_trans rfl w) (logRecord_keeps (sub_trans rfl w) h0))
  · exact h0

theorem execExceptionDelivery_keeps {s0 : From} {a0 a1} (w : sub 25031098078171870896167105390316444530185181003041063036628915921044071707681815649664489119744 s0.W = true) (h0 : Keeps s0 a1) : KeepsOut s0 (execExceptionDelivery a0 a1) := by
  unfold execExceptionDelivery
  exact KeepsOut.next (deliver_keeps w h0)

theorem slotAdd_keeps {s0 : From} {a0 a1} (w : sub 67108864 s0.W = true) (h0 : Keeps s0 a0) : Keeps s0 (slotAdd a0 a1) := by
  unfold slotAdd
  split
  · exact upd_bnk (sub_trans rfl w) h0
  · exact h0

theorem pushItem_keeps {s0 : From} {a0 a1 a2} (w : sub 1572864 s0.W = true) (h0 : Keeps s0 a0) : KeepsOpt s0 (pushItem a0 a1 a2) := by
  unfold pushItem
  exact KeepsOpt.ite (KeepsOpt.some (spill_keeps w (tupd_keeps (sub_trans rfl w) h0))) (KeepsOpt.ite (KeepsOpt.some (shupd_keeps (sub_trans rfl w) h0)) KeepsOpt.none)

theorem execWiPush_keeps {s0 : From} {a0 a1 a2} (w : sub 72876032 s0.W = true) (h0 : Keeps s0 a2) : KeepsOut s0 (execWiPush a0 a1 a2) := by
  unfold execWiPush
  refine KeepsOut.next ?_
  refine issue_keeps (sub_trans rfl w) h0 ?_
  refine fun x5 h6 => ?_
  extract_lets +onlyGivenNames x7 x8
  clear_value x7 x8
  refine Keeps.ite (raiseAt_keeps (sub_trans rfl w) h6) ?_
  extract_lets +onlyGivenNames x9 x10
  clear_value x9 x10
  extract_lets +onlyGivenNames x11
  have h12 : Keeps s0 x11 := slotAdd_keeps (sub_trans rfl w) (stepAdd_keeps (sub_trans rfl w) (tupd_keeps (sub_trans rfl w) h6))
  clear_value x11
  split
  · rename_i h13
    have h14 := KeepsOpt.get (s := s0) h13 (pushItem_keeps (sub_trans rfl w) h12)
    exact h14
  · exact tupd_keeps (sub_trans rfl w) h12

theorem execWiEnd_keeps {s0 : From} {a0 a1 a2} (w : sub 25031098077200536450054240854856713576773421549719859617102846160418165502812363507061882511360 s0.W = true) (h0 : Keeps s0 a2) : KeepsOut s0 (execWiEnd a0 a1 a2) := by
  unfold execWiEnd
  exact KeepsOut.next (issue_keeps (sub_trans rfl w) h0 (fun x5 h6 => (Keeps.ite (itemEnd_keeps w (tupd_keeps (sub_trans rfl w) h6)) h6)))

theorem execSyncMov_keeps {s0 : From} {a0 a1 a2} (w : sub 524288 s0.W = true) (h0 : Keeps s0 a2) : KeepsOut s0 (execSyncMov a0 a1 a2) := by
  unfold execSyncMov
  extract_lets +onlyGivenNames x5
  clear_value x5
  exact KeepsOut.next (issue_keeps w h0 (fun x6 h7 => (Keeps.ite (tupd_keeps w h7) h7)))

theorem execSysId_keeps {s0 : From} {a0 a1 a2} (w : sub 524288 s0.W = true) (h0 : Keeps s0 a2) : KeepsOut s0 (execSysId a0 a1 a2) := by
  unfold execSysId
  refine KeepsOut.next ?_
  refine issue_keeps w h0 ?_
  refine fun x5 h6 => ?_
  extract_lets +onlyGivenNames x7
  clear_value x7
  exact tupd_keeps w h6

theorem execPushStallDone_keeps {s0 : From} {a0 a1} (w : sub 1572864 s0.W = true) (h0 : Keeps s0 a1) : KeepsOut s0 (execPushStallDone a0 a1) := by
  unfold execPushStallDone
  split
  · exact KeepsOut.next h0
  · split
    · rename_i h5
      have h6 := KeepsOpt.get (s := s0) h5 (pushItem_keeps w h0)
      exact KeepsOut.next (tupd_keeps (sub_trans rfl w) h6)
    · exact KeepsOut.next h0

theorem execSyncFence_keeps {s0 : From} {a0 a1 a2} (w : sub 524288 s0.W = true) (h0 : Keeps s0 a2) : KeepsOut s0 (execSyncFence a0 a1 a2) := by
  unfold execSyncFence
  extract_lets +onlyGivenNames x5 x6 x7
  clear_value x5 x6 x7
  exact KeepsOut.next (issue_keeps w h0 (fun x8 h9 => (Keeps.ite (tupd_keeps w h9) h9)))

theorem execSysTrap_keeps {s0 : From} {a0 a1 a2} (w : sub 524288 s0.W = true) (h0 : Keeps s0 a2) : KeepsOut s0 (execSysTrap a0 a1 a2) := by
  unfold execSysTrap
  exact KeepsOut.next (issue_keeps w h0 (fun x5 h6 => (raiseAt_keeps w h6)))

theorem execSyncBar_keeps {s0 : From} {a0 a1 a2} (w : sub 1572864 s0.W = true) (h0 : Keeps s0 a2) : KeepsOut s0 (execSyncBar a0 a1 a2) := by
  unfold execSyncBar
  refine KeepsOut.next ?_
  refine issue_keeps (sub_trans rfl w) h0 ?_
  refine fun x5 h6 => ?_
  extract_lets +onlyGivenNames x7 x8
  clear_value x7 x8
  exact Keeps.ite (raiseAt_keeps (sub_trans rfl w) h6) (arrive_keeps w (tupd_keeps (sub_trans rfl w) h6))

theorem execNop_keeps {s0 : From} {a0 a1 a2} (w : sub 524288 s0.W = true) (h0 : Keeps s0 a2) : KeepsOut s0 (execNop a0 a1 a2) := by
  unfold execNop
  exact KeepsOut.next (issue_keeps w h0 (fun x5 h6 => (tupd_keeps w h6)))

theorem execItemTimeout_keeps {s0 : From} {a0 a1} (w : sub 524288 s0.W = true) (h0 : Keeps s0 a1) : KeepsOut s0 (execItemTimeout a0 a1) := by
  unfold execItemTimeout
  extract_lets +onlyGivenNames x5 x6
  clear_value x5 x6
  exact KeepsOut.ite (KeepsOut.next (raise_keeps w (tupd_keeps w h0))) (KeepsOut.next h0)

theorem execSyncReg_keeps {s0 : From} {a0 a1 a2} (w : sub 524288 s0.W = true) (h0 : Keeps s0 a2) : KeepsOut s0 (execSyncReg a0 a1 a2) := by
  unfold execSyncReg
  exact KeepsOut.next (issue_keeps w h0 (fun x5 h6 => (tupd_keeps w h6)))

end Sys2Proof.Machine
end

