-- ==== Sys2Proof/Laws/KeepsMoves.lean ====
section
/-!
SUPPORT. What the operations of `Sys2Proof.Machine.Moves` keep (`Sys2Proof.Machine.Keeps`): one lemma for each.
-/

namespace Sys2Proof.Machine

theorem swapFail_keeps {s0 : From} {a0 a1} (w : sub 2371421987580235682274733772977928352834969285952323822130492233399667467036549120 s0.W = true) (h0 : Keeps s0 a0) : Keeps s0 (swapFail a0 a1) := by
  unfold swapFail
  extract_lets +onlyGivenNames x5
  clear_value x5
  exact fset_keeps (cxChange_keeps (sub_trans rfl w) h0) rfl (sub_trans rfl w)

theorem moveStart_keeps {s0 : From} {a0 a1} (w : sub 131072 s0.W = true) (h0 : Keeps s0 a0) : Keeps s0 (moveStart a0 a1) := by
  unfold moveStart
  extract_lets +onlyGivenNames x5
  clear_value x5
  exact upd_tie (sub_trans rfl w) h0

theorem takeFrame_keeps {s0 : From} {a0 a1 a2} (w : sub 1074159616 s0.W = true) (h0 : Keeps s0 a0) : Keeps s0 (takeFrame a0 a1 a2) := by
  unfold takeFrame
  extract_lets +onlyGivenNames x5
  have h6 : Keeps s0 x5 := setUse_keeps (sub_trans rfl w) h0
  clear_value x5
  exact Keeps.ite (setShare_keeps w h6) h6

theorem swapNext_keeps {s0 : From} {a0 a1} (w : sub 2371421987580235682274733772977928352834969285952323822130492233399667467171028994 s0.W = true) (h0 : Keeps s0 a0) : Keeps s0 (swapNext a0 a1) := by
  unfold swapNext
  extract_lets +onlyGivenNames x5
  clear_value x5
  refine Keeps.ite h0 ?_
  refine Keeps.ite ?_ ?_
  · split
    · exact h0
    · extract_lets +onlyGivenNames x6 x7
      clear_value x6 x7
      split
      · rename_i h8
        have h9 := KeepsOptP.get (s := s0) (π := fun t => t.2) h8 (KeepsOptP.ite (takeSide_keeps (sub_trans rfl w) h0) (KeepsOptP.some h0))
        extract_lets +onlyGivenNames x10
        have h11 : Keeps s0 x10 := Keeps.ite (memWrite_keeps (sub_trans rfl w) h9) h9
        clear_value x10
        exact moveStart_keeps (sub_trans rfl w) (takeFrame_keeps (sub_trans rfl w) (bump_keeps (sub_trans rfl w) h11))
      · exact swapFail_keeps (sub_trans rfl w) h0
  · refine Keeps.ite ?_ h0
    split
    · exact h0
    · extract_lets +onlyGivenNames x12 x13 x14
      clear_value x12 x13 x14
      split
      · exact moveStart_keeps (sub_trans rfl w) (takeFrame_keeps (sub_trans rfl w) h0)
      · exact h0

theorem swapOutStart_keeps {s0 : From} {a0 a1} (w : sub 2371421987580235682274733772977928352834969285952323822130492233399667467171028994 s0.W = true) (h0 : Keeps s0 a0) : Keeps s0 (swapOutStart a0 a1) := by
  unfold swapOutStart
  extract_lets +onlyGivenNames x5
  clear_value x5
  exact swapNext_keeps w (cxChange_keeps (sub_trans rfl w) h0)

theorem swapInStart_keeps {s0 : From} {a0 a1} (w : sub 2371421987580235682274733772977928352834969285952323822130492233399667467171028994 s0.W = true) (h0 : Keeps s0 a0) : Keeps s0 (swapInStart a0 a1) := by
  unfold swapInStart
  extract_lets +onlyGivenNames x5
  clear_value x5
  exact swapNext_keeps w (cxPut_keeps (sub_trans rfl w) h0)

theorem startSwaps_keeps {s0 : From} {a0 a1} (w : sub 2371421987580235682274733772977928352834969285952323822130492233399667467171028994 s0.W = true) (h0 : Keeps s0 a0) : Keeps s0 (startSwaps a0 a1) := by
  unfold startSwaps
  refine Keeps.foldl (fun x5 x6 h7 => ?_) _ h0
  extract_lets +onlyGivenNames x8
  clear_value x8
  exact Keeps.ite h7 (Keeps.ite (swapOutStart_keeps w h7) (Keeps.ite (swapInStart_keeps w h7) h7))

theorem swapInEnd_keeps {s0 : From} {a0 a1 a2} (w : sub 2371421987580235682274733772977928352834969285952323822130492233399667467171028994 s0.W = true) (h0 : Keeps s0 a0) : Keeps s0 (swapInEnd a0 a1 a2) := by
  unfold swapInEnd
  exact startSwaps_keeps w (cxChange_keeps (sub_trans rfl w) h0)

theorem swapInDone_keeps {s0 : From} {a0 a1} (w : sub 2371421987580235682274733772977928352834969285952323822130492233399667467171028994 s0.W = true) (h0 : Keeps s0 a0) : Keeps s0 (swapInDone a0 a1) := by
  unfold swapInDone
  extract_lets +onlyGivenNames x5
  clear_value x5
  refine Keeps.ite h0 ?_
  refine Keeps.ite ?_ (Keeps.ite (swapInEnd_keeps w h0) h0)
  refine Keeps.ite (swapNext_keeps w h0) ?_
  refine Keeps.ite (cxPut_keeps (sub_trans rfl w) h0) ?_
  extract_lets +onlyGivenNames x6
  clear_value x6
  exact swapInEnd_keeps w h0

theorem releaseOld_keeps {s0 : From} {a0 a1} (w : sub 187467548099782855343728074008469574490992259968531463800799897577583195386085491761152 s0.W = true) (h0 : Keeps s0 a0) : Keeps s0 (releaseOld a0 a1) := by
  unfold releaseOld
  exact Keeps.ite (dropShare_keeps w h0) (giveFrame_keeps (sub_trans rfl w) h0)

theorem swapOutDone_keeps {s0 : From} {a0 a1} (w : sub 187469919521770435579410348742242552419345094937817416124622028069816595053001832816642 s0.W = true) (h0 : Keeps s0 a0) : Keeps s0 (swapOutDone a0 a1) := by
  unfold swapOutDone
  extract_lets +onlyGivenNames x5
  clear_value x5
  refine Keeps.ite h0 ?_
  extract_lets +onlyGivenNames x6
  clear_value x6
  extract_lets +onlyGivenNames x7
  have h8 : Keeps s0 x7 := by
    refine Keeps.foldl (fun x9 x10 h11 => ?_) _ h0
    extract_lets +onlyGivenNames x12
    clear_value x12
    exact ptPut_keeps (sub_trans rfl w) (releaseEntry_keeps (sub_trans rfl w) h11)
  clear_value x7
  extract_lets +onlyGivenNames x13 x14
  clear_value x13 x14
  extract_lets +onlyGivenNames x15
  have h16 : Keeps s0 x15 := cxChange_keeps (sub_trans rfl w) h8
  clear_value x15
  exact startSwaps_keeps (sub_trans rfl w) h16

theorem execSwapOutDone_keeps {s0 : From} {a0 a1} (w : sub 187469919521770435579410348742242552419345094937817416124622028069816595053001832816642 s0.W = true) (h0 : Keeps s0 a1) : KeepsOut s0 (execSwapOutDone a0 a1) := by
  unfold execSwapOutDone
  exact KeepsOut.next (swapOutDone_keeps w h0)

theorem execSwapInDone_keeps {s0 : From} {a0 a1} (w : sub 2371421987580235682274733772977928352834969285952323822130492233399667467171028994 s0.W = true) (h0 : Keeps s0 a1) : KeepsOut s0 (execSwapInDone a0 a1) := by
  unfold execSwapInDone
  exact KeepsOut.next (swapInDone_keeps w h0)

end Sys2Proof.Machine
end

