-- ==== Sys2Proof/Laws/KeepsCtxEvents.lean ====
section
/-!
SUPPORT. What the operations of `Sys2Proof.Machine.CtxEvents` keep (`Sys2Proof.Machine.Keeps`): one lemma for each.
-/

namespace Sys2Proof.Machine

theorem ctxFree_keeps {s0 : From} {a0 a1} (w : sub 2371421987580235682274733772977928352834969285952318751528091320482061480223727616 s0.W = true) (h0 : Keeps s0 a0) : Keeps s0 (ctxFree a0 a1) := by
  unfold ctxFree
  exact cxChange_keeps w h0

theorem freeAcked_keeps {s0 : From} {a0 a1} (w : sub 2371421987580235682274733772977928352834969285952318751528091320482061480223727616 s0.W = true) (h0 : Keeps s0 a0) : Keeps s0 (freeAcked a0 a1) := by
  unfold freeAcked
  exact Keeps.foldl (fun x5 x6 h7 => (Keeps.ite (ctxFree_keeps w h7) h7)) _ h0

theorem ctxClosed_keeps {s0 : From} {a0 a1} (w : sub 187469919521770435579410348742242552419345094937817416119551425668903677447015019995136 s0.W = true) (h0 : Keeps s0 a0) : Keeps s0 (ctxClosed a0 a1) := by
  unfold ctxClosed
  extract_lets +onlyGivenNames x5
  clear_value x5
  extract_lets +onlyGivenNames x6
  have h7 : Keeps s0 x6 := releaseAll_keeps (sub_trans rfl w) h0
  clear_value x6
  extract_lets +onlyGivenNames x8 x9
  clear_value x8 x9
  extract_lets +onlyGivenNames x10
  have h11 : Keeps s0 x10 := cxChange_keeps (sub_trans rfl w) h7
  clear_value x10
  exact Keeps.ite h11 (ctxFree_keeps (sub_trans rfl w) h11)

theorem ctxRelease_keeps {s0 : From} {a0 a1} (w : sub 187469919521770435579410348742242552419345094937817416119551425668903677447015019995136 s0.W = true) (h0 : Keeps s0 a0) : Keeps s0 (ctxRelease a0 a1) := by
  unfold ctxRelease
  extract_lets +onlyGivenNames x5
  clear_value x5
  refine Keeps.ite h0 ?_
  extract_lets +onlyGivenNames x6
  clear_value x6
  extract_lets +onlyGivenNames x7
  have h8 : Keeps s0 x7 := revokeSpans_keeps (sub_trans rfl w) (cxPut_keeps (sub_trans rfl w) h0)
  clear_value x7
  exact Keeps.ite h8 (ctxClosed_keeps w h8)

theorem attachmentEnd_keeps {s0 : From} {a0 a1} (w : sub 187469919521770435579410348742242552419345094956875887128186151855511380683301413347330 s0.W = true) (h0 : Keeps s0 a0) : Keeps s0 (attachmentEnd a0 a1) := by
  unfold attachmentEnd
  extract_lets +onlyGivenNames x5 x6
  clear_value x5 x6
  refine Keeps.ite h0 ?_
  split
  · exact blockFetch_keeps (sub_trans rfl w) h0
  · refine Keeps.ite ?_ ?_
    · extract_lets +onlyGivenNames x7
      have h8 : Keeps s0 x7.2.2 := attach_keeps (sub_trans rfl w) h0
      clear_value x7
      extract_lets +onlyGivenNames x9
      have h10 : Keeps s0 x9 := h8
      clear_value x9
      extract_lets +onlyGivenNames x11
      clear_value x11
      exact cxChange_keeps (sub_trans rfl w) h10
    · extract_lets +onlyGivenNames x12
      have h13 : Keeps s0 x12.2.2 := attach_keeps (sub_trans rfl w) h0
      clear_value x12
      extract_lets +onlyGivenNames x14
      have h15 : Keeps s0 x14 := h13
      clear_value x14
      extract_lets +onlyGivenNames x16
      clear_value x16
      exact swapInDone_keeps (sub_trans rfl w) (cxChange_keeps (sub_trans rfl w) h15)

theorem execAttachmentEnd_keeps {s0 : From} {a0 a1} (w : sub 187469919521770435579410348742242552419345094956875887128186151855511380683301413347330 s0.W = true) (h0 : Keeps s0 a1) : KeepsOut s0 (execAttachmentEnd a0 a1) := by
  unfold execAttachmentEnd
  exact KeepsOut.next (attachmentEnd_keeps w h0)

theorem promptPartDone_keeps {s0 : From} {a0 a1} (w : sub 2371421987580235682274733772977928352834969285952349175452170702468357255636115456 s0.W = true) (h0 : Keeps s0 a0) : Keeps s0 (promptPartDone a0 a1) := by
  unfold promptPartDone
  extract_lets +onlyGivenNames x5
  clear_value x5
  exact Keeps.ite (endNow_keeps w h0) h0

theorem ctxClose_keeps {s0 : From} {a0 a1} (w : sub 187469919521770435579410348742242552419345094937817416119551425668903677447015019995136 s0.W = true) (h0 : Keeps s0 a0) : Keeps s0 (ctxClose a0 a1) := by
  unfold ctxClose
  extract_lets +onlyGivenNames x5
  clear_value x5
  exact Keeps.ite (ctxClosed_keeps w h0) h0

theorem publicationEnd_keeps {s0 : From} {a0 a1} (w : sub 187467548099782855343728074008469574490992260003923488416569067609519962173144448786434 s0.W = true) (h0 : Keeps s0 a0) : Keeps s0 (publicationEnd a0 a1) := by
  unfold publicationEnd
  refine Keeps.ite h0 ?_
  split
  · exact blockFetch_keeps (sub_trans rfl w) h0
  · extract_lets +onlyGivenNames x5
    have h6 : Keeps s0 x5 := publish_keeps (sub_trans rfl w) h0
    clear_value x5
    exact cxUpd_keeps (sub_trans rfl w) h6

theorem execPublicationEnd_keeps {s0 : From} {a0 a1} (w : sub 187467548099782855343728074008469574490992260003923488416569067609519962173144448786434 s0.W = true) (h0 : Keeps s0 a1) : KeepsOut s0 (execPublicationEnd a0 a1) := by
  unfold execPublicationEnd
  exact KeepsOut.next (publicationEnd_keeps w h0)

theorem ctxPeekSel_keeps {s0 : From} {a0 a1 a2} (w : sub 2371421987580235682274733772977928352834969349755292973128132601851096149109432320 s0.W = true) (h0 : Keeps s0 a0) : Keeps s0 (ctxPeekSel a0 a1 a2) := by
  unfold ctxPeekSel
  extract_lets +onlyGivenNames x5 x6
  clear_value x5 x6
  extract_lets +onlyGivenNames x7
  have h8 : Keeps s0 x7 := descRead_keeps (sub_trans rfl w) (fput_keeps h0 rfl (sub_trans rfl w))
  clear_value x7
  extract_lets +onlyGivenNames x9
  clear_value x9
  exact Keeps.foldl (fun x10 x11 h12 => (rput_keeps h12 (sub_trans rfl w) (fun h13 => (Reg.holds_full rfl _)))) _ h8

theorem prefillToReady_keeps {s0 : From} {a0 a1} (w : sub 2371421987580235682274733772977928352834969285952318751528091320482061480223727616 s0.W = true) (h0 : Keeps s0 a0) : Keeps s0 (prefillToReady a0 a1) := by
  unfold prefillToReady
  extract_lets +onlyGivenNames x5
  clear_value x5
  exact Keeps.ite (cxChange_keeps w h0) h0

theorem execPrefillToReady_keeps {s0 : From} {a0 a1} (w : sub 2371421987580235682274733772977928352834969285952318751528091320482061480223727616 s0.W = true) (h0 : Keeps s0 a1) : KeepsOut s0 (execPrefillToReady a0 a1) := by
  unfold execPrefillToReady
  exact KeepsOut.next (prefillToReady_keeps w h0)

theorem execCtxPeekSel_keeps {s0 : From} {a0 a1 a2} (w : sub 2371421987580235682274733772977928352834969349755292973128132749425048738785845248 s0.W = true) (h0 : Keeps s0 a2) : KeepsOut s0 (execCtxPeekSel a0 a1 a2) := by
  unfold execCtxPeekSel
  exact KeepsOut.next (regGate_keeps (sub_trans rfl w) h0 (sub_trans rfl w) (fun x5 h6 => (ctxPeekSel_keeps (sub_trans rfl w) h6)))

theorem execContextRelease_keeps {s0 : From} {a0 a1} (w : sub 187469919521770435579410348742242552419345094937817416119551425668903677447015019995136 s0.W = true) (h0 : Keeps s0 a1) : KeepsOut s0 (execContextRelease a0 a1) := by
  unfold execContextRelease
  exact KeepsOut.next (ctxRelease_keeps w h0)

theorem execPromptPartDone_keeps {s0 : From} {a0 a1} (w : sub 2371421987580235682274733772977928352834969285952349175452170702468357255636115456 s0.W = true) (h0 : Keeps s0 a1) : KeepsOut s0 (execPromptPartDone a0 a1) := by
  unfold execPromptPartDone
  exact KeepsOut.next (promptPartDone_keeps w h0)

theorem execContextClose_keeps {s0 : From} {a0 a1} (w : sub 187469919521770435579410348742242552419345094937817416119551425668903677447015019995136 s0.W = true) (h0 : Keeps s0 a1) : KeepsOut s0 (execContextClose a0 a1) := by
  unfold execContextClose
  exact KeepsOut.next (ctxClose_keeps w h0)

end Sys2Proof.Machine
end

