-- ==== Sys2Proof/Laws/KeepsSend.lean ====
section
/-!
SUPPORT. What the operations of `Sys2Proof.Machine.Send` keep (`Sys2Proof.Machine.Keeps`): one lemma for each.
-/

namespace Sys2Proof.Machine

theorem pfPut_keeps {s0 : From} {a0 a1 a2 a3 a4} (w : sub 1073766400 s0.W = true) (h0 : Keeps s0 a0) : Keeps s0 (pfPut a0 a1 a2 a3 a4) := by
  unfold pfPut
  exact memPut_keeps w h0

theorem pqPut_keeps {s0 : From} {a0 a1 a2} (w : sub 17179869184 s0.W = true) (h0 : Keeps s0 a0) : Keeps s0 (pqPut a0 a1 a2) := by
  unfold pqPut
  exact upd_port (sub_trans rfl w) h0

theorem headTag_keeps {s0 : From} {a0 a1 a2} (w : sub 17179869184 s0.W = true) (h0 : Keeps s0 a0) : Keeps s0 (headTag a0 a1 a2) := by
  unfold headTag
  extract_lets +onlyGivenNames x5
  clear_value x5
  split
  · exact h0
  · extract_lets +onlyGivenNames x6 x7
    clear_value x6 x7
    exact pqPut_keeps w h0

theorem pushPriv_keeps {s0 : From} {a0 a1 a2 a3} (w : sub 17179869184 s0.W = true) (h0 : Keeps s0 a0) : Keeps s0 (pushPriv a0 a1 a2 a3) := by
  unfold pushPriv
  extract_lets +onlyGivenNames x5 x6
  clear_value x5 x6
  extract_lets +onlyGivenNames x7
  have h8 : Keeps s0 x7 := pqPut_keeps w h0
  clear_value x7
  exact Keeps.ite (headTag_keeps w h8) h8

theorem pxPut_keeps {s0 : From} {a0 a1 a2} (w : sub 268435456 s0.W = true) (h0 : Keeps s0 a0) : Keeps s0 (pxPut a0 a1 a2) := by
  unfold pxPut
  exact upd_fab (sub_trans rfl w) h0

theorem pxUpd_keeps {s0 : From} {a0 a1 a2} (w : sub 268435456 s0.W = true) (h0 : Keeps s0 a0) : Keeps s0 (pxUpd a0 a1 a2) := by
  unfold pxUpd
  exact pxPut_keeps w h0

theorem sendControl_keeps {s0 : From} {a0 a1 a2} (w : sub 17448304640 s0.W = true) (h0 : Keeps s0 a0) : Keeps s0 (sendControl a0 a1 a2) := by
  unfold sendControl
  extract_lets +onlyGivenNames x5
  clear_value x5
  split
  · exact h0
  · extract_lets +onlyGivenNames x6
    have h7 : Keeps s0 x6 := pxUpd_keeps (sub_trans rfl w) h0
    clear_value x6
    extract_lets +onlyGivenNames x8
    clear_value x8
    exact pushPriv_keeps (sub_trans rfl w) h7

theorem msgPut_keeps {s0 : From} {a0 a1 a2} (w : sub 268435456 s0.W = true) (h0 : Keeps s0 a0) : Keeps s0 (msgPut a0 a1 a2) := by
  unfold msgPut
  exact upd_fab (sub_trans rfl w) h0

theorem exportSet_keeps {s0 : From} {a0 a1 a2 a3} (w : sub 8388608 s0.W = true) (h0 : Keeps s0 a0) : Keeps s0 (exportSet a0 a1 a2 a3) := by
  unfold exportSet
  split
  · exact h0
  · exact cxUpd_keeps w h0

theorem endOp_keeps {s0 : From} {a0 a1 a2} (w : sub 18531115008 s0.W = true) (h0 : Keeps s0 a0) : Keeps s0 (endOp a0 a1 a2) := by
  unfold endOp
  split
  · exact h0
  · extract_lets +onlyGivenNames x5
    clear_value x5
    extract_lets +onlyGivenNames x6
    have h7 : Keeps s0 x6 := reap_keeps (sub_trans rfl w) (upd_fab (sub_trans rfl w) h0)
    clear_value x6
    extract_lets +onlyGivenNames x8
    have h9 : Keeps s0 x8 := Keeps.ite h7 (pxUpd_keeps (sub_trans rfl w) h7)
    clear_value x8
    extract_lets +onlyGivenNames x10
    clear_value x10
    extract_lets +onlyGivenNames x11
    have h12 : Keeps s0 x11 := by
      unfold x11
      split
      · exact askDone_keeps (sub_trans rfl w) h9
      · exact Keeps.ite (upd_fab (sub_trans rfl w) h9) h9
    clear_value x11
    refine Keeps.ite h12 ?_
    extract_lets +onlyGivenNames x13
    clear_value x13
    split
    · exact h12
    · extract_lets +onlyGivenNames x14 x15
      clear_value x14 x15
      extract_lets +onlyGivenNames x16
      have h17 : Keeps s0 x16 := Keeps.ite (sendControl_keeps (sub_trans rfl w) h12) h12
      clear_value x16
      extract_lets +onlyGivenNames x18
      have h19 : Keeps s0 x18 := msgPut_keeps (sub_trans rfl w) h17
      clear_value x18
      exact Keeps.ite (exportSet_keeps (sub_trans rfl w) h19) h19

theorem opPut_keeps {s0 : From} {a0 a1 a2} (w : sub 275146342400 s0.W = true) (h0 : Keeps s0 a0) : Keeps s0 (opPut a0 a1 a2) := by
  unfold opPut
  extract_lets +onlyGivenNames x5
  clear_value x5
  exact Keeps.upd 275146342400 h0 (sub_trans rfl w) rfl

theorem pushLeaf_keeps {s0 : From} {a0 a1 a2 a3} (w : sub 17179869184 s0.W = true) (h0 : Keeps s0 a0) : Keeps s0 (pushLeaf a0 a1 a2 a3) := by
  unfold pushLeaf
  exact pqPut_keeps w h0

theorem releasePeer_keeps {s0 : From} {a0 a1} (w : sub 26328072917139296674479506920917608079723773850137277840689750016 s0.W = true) (h0 : Keeps s0 a0) : Keeps s0 (releasePeer a0 a1) := by
  unfold releasePeer
  extract_lets +onlyGivenNames x5
  clear_value x5
  refine Keeps.ite h0 ?_
  split
  · exact h0
  · extract_lets +onlyGivenNames x6
    clear_value x6
    split
    · exact h0
    · extract_lets +onlyGivenNames x7 x8
      clear_value x7 x8
      refine Keeps.ite h0 ?_
      extract_lets +onlyGivenNames x9 x10 x11 x12 x13 x14 x15 x16 x17 x18
      clear_value x9 x10 x11 x12 x13 x14 x15 x16 x17 x18
      extract_lets +onlyGivenNames x19
      have h20 : Keeps s0 x19 := pxPut_keeps (sub_trans rfl w) h0
      clear_value x19
      extract_lets +onlyGivenNames x21
      have h22 : Keeps s0 x21 := Keeps.ite (fadd1_keeps h20 rfl (sub_trans rfl w)) (meter_keeps (sub_trans rfl w) (pfPut_keeps (sub_trans rfl w) h20))
      clear_value x21
      exact pushLeaf_keeps (sub_trans rfl w) h22

theorem execWheelSlot_keeps {s0 : From} {a0} (w : sub 26328072917139296674479506920917608079723773850137277840689750016 s0.W = true) (h0 : Keeps s0 a0) : KeepsOut s0 (execWheelSlot a0) := by
  unfold execWheelSlot
  exact KeepsOut.next (Keeps.foldl (fun x5 x6 h7 => (Keeps.ite (releasePeer_keeps w h7) h7)) _ h0)

theorem packetEnd_keeps {s0 : From} {a0 a1 a2 a3} (w : sub 293409021952 s0.W = true) (h0 : Keeps s0 a0) : Keeps s0 (packetEnd a0 a1 a2 a3) := by
  unfold packetEnd
  split
  · exact h0
  · extract_lets +onlyGivenNames x5
    clear_value x5
    extract_lets +onlyGivenNames x6
    have h7 : Keeps s0 x6 := opPut_keeps (sub_trans rfl w) h0
    clear_value x6
    exact Keeps.ite h7 (Keeps.ite (endOp_keeps (sub_trans rfl w) h7) (Keeps.ite (endOp_keeps (sub_trans rfl w) h7) (Keeps.ite (endOp_keeps (sub_trans rfl w) h7) h7)))

theorem sendProbes_keeps {s0 : From} {a0 a1} (w : sub 17179869184 s0.W = true) (h0 : Keeps s0 a0) : Keeps s0 (sendProbes a0 a1) := by
  unfold sendProbes
  refine Keeps.foldl (fun x5 x6 h7 => ?_) _ h0
  split
  · exact h7
  · exact pushPriv_keeps w h7

theorem execLimiterRelease_keeps {s0 : From} {a0 a1} (w : sub 26328072917139296674479506920917608079723773850137277840689750016 s0.W = true) (h0 : Keeps s0 a1) : KeepsOut s0 (execLimiterRelease a0 a1) := by
  unfold execLimiterRelease
  exact KeepsOut.next (Keeps.ite (releasePeer_keeps w h0) h0)

end Sys2Proof.Machine
end

