-- ==== Sys2Proof/Laws/KeepsCompOps.lean ====
section
/-!
SUPPORT. What the operations of `Sys2Proof.Machine.CompOps` keep (`Sys2Proof.Machine.Keeps`): one lemma for each.
-/

namespace Sys2Proof.Machine

theorem cmpPut_keeps {s0 : From} {a0 a1 a2} (w : sub 4294967296 s0.W = true) (h0 : Keeps s0 a0) : Keeps s0 (cmpPut a0 a1 a2) := by
  unfold cmpPut
  exact upd_cmp (sub_trans rfl w) h0

theorem compMark_keeps {s0 : From} {a0 a1 a2 a3} (w : sub 187467548157678899962386171720255066995336213895166456133620179597311987389771473641472 s0.W = true) (h0 : Keeps s0 a0) : Keeps s0 (compMark a0 a1 a2 a3) := by
  unfold compMark
  extract_lets +onlyGivenNames x5
  clear_value x5
  extract_lets +onlyGivenNames x6
  have h7 : Keeps s0 x6 := by
    unfold x6
    split
    · exact Keeps.ite (cmpPut_keeps (sub_trans rfl w) (lineFailure_keeps (sub_trans rfl w) h0)) h0
    · exact h0
  clear_value x6
  extract_lets +onlyGivenNames x8
  have h9 : Keeps s0 x8 := Keeps.ite (cmpPut_keeps (sub_trans rfl w) h7) h7
  clear_value x8
  extract_lets +onlyGivenNames x10
  have h11 : Keeps s0 x10 := fsetIf_keeps h9 rfl (sub_trans rfl w)
  clear_value x10
  exact fsetIf_keeps h11 rfl (sub_trans rfl w)

end Sys2Proof.Machine
end

