-- ==== Sys2Proof/Laws/KeepsHostRx.lean ====
section
/-!
SUPPORT. What the operations of `Sys2Proof.Machine.HostRx` keep (`Sys2Proof.Machine.Keeps`): one lemma for each.
-/

namespace Sys2Proof.Machine

theorem rxSignal_keeps {s0 : From} {a0 a1} (w : sub 549757911040 s0.W = true) (h0 : Keeps s0 a0) : Keeps s0 (rxSignal a0 a1) := by
  unfold rxSignal
  exact irq_keeps w h0

theorem rxWriteBack_keeps {s0 : From} {a0 a1 a2 a3 a4} (w : sub 2475880078570761099556192256 s0.W = true) (h0 : Keeps s0 a0) : Keeps s0 (rxWriteBack a0 a1 a2 a3 a4) := by
  unfold rxWriteBack
  extract_lets +onlyGivenNames x5 x6 x7
  clear_value x5 x6 x7
  extract_lets +onlyGivenNames x8
  have h9 : Keeps s0 x8 := Keeps.ite h0 (hostWrite_keeps (sub_trans rfl w) h0)
  clear_value x8
  extract_lets +onlyGivenNames x10
  have h11 : Keeps s0 x10 := hostWrite_keeps (sub_trans rfl w) h9
  clear_value x10
  extract_lets +onlyGivenNames x12
  have h13 : Keeps s0 x12 := fput_keeps h11 rfl (sub_trans rfl w)
  clear_value x12
  extract_lets +onlyGivenNames x14
  have h15 : Keeps s0 x14 := Keeps.ite (fput_keeps h13 rfl (sub_trans rfl w)) h13
  clear_value x14
  exact rxSignal_keeps (sub_trans rfl w) h15

theorem rxNoteOut_keeps {s0 : From} {a0 a1 a2} (w : sub 2475880078570761099556192256 s0.W = true) (h0 : Keeps s0 a0) : Keeps s0 (rxNoteOut a0 a1 a2) := by
  unfold rxNoteOut
  exact rxWriteBack_keeps w h0

theorem setRxQueue_keeps {s0 : From} {a0 a1 a2} (w : sub 2097152 s0.W = true) (h0 : Keeps s0 a0) : Keeps s0 (setRxQueue a0 a1 a2) := by
  unfold setRxQueue
  exact upd_host (sub_trans rfl w) h0

theorem rxNotify_keeps {s0 : From} {a0 a1 a2} (w : sub 2475917857502624056717901824 s0.W = true) (h0 : Keeps s0 a0) : Keeps s0 (rxNotify a0 a1 a2) := by
  unfold rxNotify
  exact Keeps.ite (rxNoteOut_keeps (sub_trans rfl w) h0) (Keeps.ite (setRxQueue_keeps (sub_trans rfl w) h0) (hstErr_keeps (sub_trans rfl w) h0 rfl (sub_trans rfl w)))

theorem rxSpread_keeps {s0 : From} {a0 a1 a2 a3 a4} (w : sub 2475880078570761099556192256 s0.W = true) (h0 : Keeps s0 a0) : Keeps s0 (rxSpread a0 a1 a2 a3 a4) := by
  induction a3 generalizing a0 a1 a2 a4 with
  | zero =>
    unfold rxSpread
    exact h0
  | succ n ih =>
    unfold rxSpread
    extract_lets +onlyGivenNames x5 x6
    clear_value x5 x6
    exact Keeps.ite (rxWriteBack_keeps w h0) (ih (rxWriteBack_keeps w h0))

theorem rxMessage_keeps {s0 : From} {a0 a1 a2} (w : sub 2475880078570761099556192256 s0.W = true) (h0 : Keeps s0 a0) : Keeps s0 (rxMessage a0 a1 a2) := by
  unfold rxMessage
  exact rxSpread_keeps w h0

theorem rxFrame_keeps {s0 : From} {a0 a1 a2} (w : sub 26328072917139296674479506920917608082199691707639901870295646208 s0.W = true) (h0 : Keeps s0 a0) : Keeps s0 (rxFrame a0 a1 a2) := by
  unfold rxFrame
  extract_lets +onlyGivenNames x5
  clear_value x5
  exact Keeps.ite (rxWriteBack_keeps (sub_trans rfl w) h0) (hstErr_keeps (sub_trans rfl w) (fadd1_keeps h0 rfl (sub_trans rfl w)) rfl (sub_trans rfl w))

theorem rxFlush_keeps {s0 : From} {a0 a1 a2} (w : sub 2475880078570761099556192256 s0.W = true) (h0 : Keeps s0 a0) : Keeps s0 (rxFlush a0 a1 a2) := by
  induction a2 generalizing a0 a1 with
  | zero =>
    unfold rxFlush
    exact h0
  | succ n ih =>
    unfold rxFlush
    split
    · exact h0
    · exact Keeps.ite (ih (rxNoteOut_keeps w (setRxQueue_keeps (sub_trans rfl w) h0))) h0

end Sys2Proof.Machine
end

