-- ==== Sys2Proof/Laws/KeepsWire.lean ====
section
/-!
SUPPORT. What the operations of `Sys2Proof.Machine.Wire` keep (`Sys2Proof.Machine.Keeps`): one lemma for each.
-/

namespace Sys2Proof.Machine

theorem frameOut_keeps {s0 : From} {a0 a1 a2} (w : sub 549755813888 s0.W = true) (h0 : Keeps s0 a0) : Keeps s0 (frameOut a0 a1 a2) := by
  unfold frameOut
  extract_lets +onlyGivenNames x5
  clear_value x5
  exact upd_out (sub_trans rfl w) h0

end Sys2Proof.Machine
end

