-- ==== Sys2Proof/Laws/KeepsFabric.lean ====
section
/-!
SUPPORT. What the operations of `Sys2Proof.Machine.Fabric` keep (`Sys2Proof.Machine.Keeps`): one lemma for each.
-/

namespace Sys2Proof.Machine

theorem Verdict.s_keeps {s0 : From} {a0} (w : sub 0 s0.W = true) (h0 : Keeps s0 a0.s) : Keeps s0 (Verdict.s a0) := by
  unfold Verdict.s
  exact h0

theorem spanRuns_keeps {s0 : From} {a0 a1 a2 a3 a4 a5} (w : sub 187469919521770435579410348742242552419345097725418541303854027856105884370421991497730 s0.W = true) (h0 : Keeps s0 a0) : Keeps s0 (spanRuns a0 a1 a2 a3 a4 a5).s := by
  induction a5 generalizing a0 a2 a4 with
  | zero => cases a4 <;> (unfold spanRuns; exact h0)
  | succ k ih =>
    cases a4 with
    | zero => unfold spanRuns; exact h0
    | succ n =>
      unfold spanRuns
      dsimp only
      split
      · exact h0
      · exact h0
      · rename_i heq _
        cases heq
        split
        · exact h0
        · split
          · exact h0
          · split
            · exact ih (walk_keeps (sub_trans rfl w) h0)
            · exact walk_keeps (sub_trans rfl w) h0
            · exact walk_keeps (sub_trans rfl w) h0

theorem keyCheck_keeps {s0 : From} {a0 a1 a2 a3 a4} (w : sub 187469919579666480198068446454028044923689051652053533636674309875834676374382851284994 s0.W = true) (h0 : Keeps s0 a0) : Keeps s0 (keyCheck a0 a1 a2 a3 a4).s := by
  unfold keyCheck
  extract_lets +onlyGivenNames x5 x6 x7
  clear_value x5 x6 x7
  extract_lets +onlyGivenNames x8
  have h9 : Keeps s0 x8 := Keeps.ite h0 (lineFailure_keeps (sub_trans rfl w) h0)
  clear_value x8
  extract_lets +onlyGivenNames x10
  clear_value x10
  split
  · exact h9
  · split
    · extract_lets +onlyGivenNames x11
      clear_value x11
      exact compMark_keeps (sub_trans rfl w) h9
    · extract_lets +onlyGivenNames x12
      have h13 : Keeps s0 x12 := Keeps.ite h9 (compMark_keeps (sub_trans rfl w) h9)
      clear_value x12
      extract_lets +onlyGivenNames x14
      clear_value x14
      split
      · exact h13
      · split
        · exact h13
        · split
          · exact h13
          · split
            · exact h13
            · split
              · extract_lets +onlyGivenNames x15
                have h16 : Keeps s0 x15.s := spanRuns_keeps (sub_trans rfl w) h13
                clear_value x15
                exact h16
              · split
                · exact h13
                · extract_lets +onlyGivenNames x17
                  clear_value x17
                  split
                  · exact h13
                  · exact h13

theorem writeRuns_keeps {s0 : From} {a0 a1 a2} (w : sub 1073766400 s0.W = true) (h0 : Keeps s0 a0) : Keeps s0 (writeRuns a0 a1 a2) := by
  induction a1 generalizing a0 a2 with
  | nil =>
    unfold writeRuns
    exact h0
  | cons y ys ih =>
    unfold writeRuns
    exact ih (memWrite_keeps w h0)

theorem notify_keeps {s0 : From} {a0 a1 a2 a3} (w : sub 2475917857502624056786059264 s0.W = true) (h0 : Keeps s0 a0) : Keeps s0 (notify a0 a1 a2 a3) := by
  unfold notify
  split
  · exact rxNotify_keeps (sub_trans rfl w) h0
  · extract_lets +onlyGivenNames x5
    clear_value x5
    refine Keeps.ite h0 ?_
    extract_lets +onlyGivenNames x6
    clear_value x6
    exact upd_bnk (sub_trans rfl w) h0
  · exact pushToSet_keeps (sub_trans rfl w) h0
  · exact h0

theorem rxPut_keeps {s0 : From} {a0 a1 a2} (w : sub 276220239872 s0.W = true) (h0 : Keeps s0 a0) : Keeps s0 (rxPut a0 a1 a2) := by
  unfold rxPut
  extract_lets +onlyGivenNames x5
  clear_value x5
  extract_lets +onlyGivenNames x6
  have h7 : ∀ x00, Keeps s0 (x6 x00) := fun x8 => (upd_fab (sub_trans rfl w) h0)
  clear_value x6
  extract_lets +onlyGivenNames x9
  have h10 : Keeps s0 x9 := h7 _
  clear_value x9
  extract_lets +onlyGivenNames x11
  have h12 : Keeps s0 x11 := by
    unfold x11
    split
    · exact h7 _
    · exact upd_stamp (sub_trans rfl w) h10
  clear_value x11
  exact Keeps.ite (reap_keeps (sub_trans rfl w) h12) h12

theorem placePut_keeps {s0 : From} {a0 a1 a2 a3} (w : sub 187469919579666480198075028472257329747857671528783763038696716699375781454394903420930 s0.W = true) (h0 : Keeps s0 a0) : Keeps s0 (placePut a0 a1 a2 a3).1.s := by
  unfold placePut
  extract_lets +onlyGivenNames x5 x6
  clear_value x5 x6
  split
  · exact h0
  · extract_lets +onlyGivenNames x7 x8 x9 x10
    clear_value x7 x8 x9 x10
    extract_lets +onlyGivenNames x11
    have h12 : Keeps s0 x11.s := keyCheck_keeps (sub_trans rfl w) h0
    clear_value x11
    split
    · exact h12
    · split
      · exact fset_keeps h0 rfl (sub_trans rfl w)
      · split
        · exact fadd1_keeps h12 rfl (sub_trans rfl w)
        · split
          · exact h12
          · split
            · exact h12
            · extract_lets +onlyGivenNames x13
              extract_lets +onlyGivenNames x14
              extract_lets +onlyGivenNames x15
              have h16 : Keeps s0 x15 := Keeps.ite (meter_keeps (sub_trans rfl w) (writeRuns_keeps (sub_trans rfl w) h12)) h12
              clear_value x15
              extract_lets +onlyGivenNames x17
              clear_value x17
              extract_lets +onlyGivenNames x18
              split
              · exact notify_keeps (sub_trans rfl w) (rxPut_keeps (sub_trans rfl w) h16)
              · exact rxPut_keeps (sub_trans rfl w) h16

theorem consume_keeps {s0 : From} {a0 a1 a2 a3 a4} (w : sub 6582018229284824168619876730229402022406823541105080553219063808 s0.W = true) (h0 : Keeps s0 a0) : KeepsOpt s0 (consume a0 a1 a2 a3 a4) := by
  unfold consume
  split
  · exact KeepsOpt.ite (KeepsOpt.some (rxMessage_keeps (sub_trans rfl w) h0)) KeepsOpt.none
  · exact KeepsOpt.some (upd_fab (sub_trans rfl w) h0)
  · exact KeepsOpt.ite (KeepsOpt.some (upd_fab (sub_trans rfl w) h0)) (KeepsOpt.some (fset_keeps h0 rfl (sub_trans rfl w)))
  · exact KeepsOpt.some (upd_fab (sub_trans rfl w) h0)

theorem placeSend_keeps {s0 : From} {a0 a1 a2 a3} (w : sub 6582018229284824168619876730229402022406823541105080829170868224 s0.W = true) (h0 : Keeps s0 a0) : Keeps s0 (placeSend a0 a1 a2 a3).1.s := by
  unfold placeSend
  extract_lets +onlyGivenNames x5 x6
  clear_value x5 x6
  split
  · exact h0
  · split
    · exact h0
    · extract_lets +onlyGivenNames x7
      clear_value x7
      split
      · split
        · rename_i t h8
          have h9 : Keeps s0 t := KeepsOpt.get (s := s0) h8 (consume_keeps (sub_trans rfl w) h0)
          exact rxPut_keeps (a0 := t) (a1 := x5) (a2 := { x7 with done := true, parts := [] }) (sub_trans rfl w) h9
        · exact h0
      · exact rxPut_keeps (a0 := a0) (sub_trans rfl w) h0

theorem reportPieces_keeps {s0 : From} {a0 a1} (w : sub 187467548099782855343728074008469574490992259968531463800799897577583195385810613854208 s0.W = true) (h0 : Keeps s0 a0) : Keeps s0 (reportPieces a0 a1) := by
  unfold reportPieces
  refine Keeps.foldl (fun x5 x6 h7 => ?_) _ h0
  split
  · exact lineFailure_keeps w h7
  · exact h7

theorem rxErase_keeps {s0 : From} {a0 a1} (w : sub 1342332928 s0.W = true) (h0 : Keeps s0 a0) : Keeps s0 (rxErase a0 a1) := by
  unfold rxErase
  exact reap_keeps (sub_trans rfl w) (upd_fab (sub_trans rfl w) h0)

theorem rxDrop_keeps {s0 : From} {a0 a1} (w : sub 187469919521770435579410348742242552419345094937817416119551425668903677447015280041984 s0.W = true) (h0 : Keeps s0 a0) : Keeps s0 (rxDrop a0 a1) := by
  unfold rxDrop
  split
  · exact h0
  · extract_lets +onlyGivenNames x5
    have h6 : Keeps s0 x5 := rxErase_keeps (sub_trans rfl w) h0
    clear_value x5
    refine Keeps.foldl (fun x7 x8 h9 => ?_) _ h6
    split
    extract_lets +onlyGivenNames x10
    clear_value x10
    exact Keeps.ite (ptPut_keeps (sub_trans rfl w) (releaseEntry_keeps (sub_trans rfl w) h9)) h9

end Sys2Proof.Machine
end

