-- ==== Sys2Proof/Laws/KeepsFabTx.lean ====
section
/-!
SUPPORT. What the operations of `Sys2Proof.Machine.FabTx` keep (`Sys2Proof.Machine.Keeps`): one lemma for each.
-/

namespace Sys2Proof.Machine

theorem localPut_keeps {s0 : From} {a0 a1 a2} (w : sub 187469919579666480198075028472257329747857671528783763038696716699375781454394903420930 s0.W = true) (h0 : Keeps s0 a0) : Keeps s0 (localPut a0 a1 a2).s := by
  induction a2 generalizing a0 a1 with
  | nil =>
    unfold localPut
    exact h0
  | cons y ys ih =>
    unfold localPut
    extract_lets +onlyGivenNames x5
    have h6 : Keeps s0 x5.s := placePut_keeps w h0
    clear_value x5
    split
    · exact h6
    · exact ih h6

theorem localSend_keeps {s0 : From} {a0 a1} (w : sub 6582018229284824168619876730229402022406823541105080829170868224 s0.W = true) (h0 : Keeps s0 a0) : Keeps s0 (localSend a0 a1).s := by
  induction a1 generalizing a0 with
  | nil =>
    unfold localSend
    exact h0
  | cons y ys ih =>
    unfold localSend
    extract_lets +onlyGivenNames x5
    have h6 : Keeps s0 x5.s := placeSend_keeps w h0
    clear_value x5
    split
    · exact h6
    · exact ih h6

theorem localGet_keeps {s0 : From} {a0 a1 a2 a3} (w : sub 187469919579666480198068446454028044923689051652053533636674309875834676374382852333570 s0.W = true) (h0 : Keeps s0 a0) : Keeps s0 (localGet a0 a1 a2 a3).s := by
  unfold localGet
  extract_lets +onlyGivenNames x5
  have h6 : Keeps s0 x5.s := keyCheck_keeps (sub_trans rfl w) h0
  clear_value x5
  split
  · exact h6
  · extract_lets +onlyGivenNames x7 x8
    clear_value x7 x8
    split
    · exact h0
    · extract_lets +onlyGivenNames x9
      have h10 : Keeps s0 x9 := Keeps.foldl (fun x11 x12 h13 => (movWrite_keeps (sub_trans rfl w) h13)) _ h6
      clear_value x9
      split
      · exact h10
      · exact reportPieces_keeps (sub_trans rfl w) h10

theorem localOp_keeps {s0 : From} {a0 a1 a2 a3 a4 a5} (w : sub 187469919579666480198075028472257329747857671528783763038696716699375781454394903420930 s0.W = true) (h0 : Keeps s0 a0) : Keeps s0 (localOp a0 a1 a2 a3 a4 a5).s := by
  unfold localOp
  extract_lets +onlyGivenNames x5 x6 x7 x8
  clear_value x5 x6 x7 x8
  split
  · exact localGet_keeps (sub_trans rfl w) h0
  · split
    · exact localSend_keeps (sub_trans rfl w) h0
    · exact localPut_keeps w h0

theorem enqueueTx_keeps {s0 : From} {a0 a1 a2} (w : sub 268435456 s0.W = true) (h0 : Keeps s0 a0) : Keeps s0 (enqueueTx a0 a1 a2) := by
  unfold enqueueTx
  exact pxUpd_keeps w h0

theorem sendGets_keeps {s0 : From} {a0 a1 a2} (w : sub 275146342400 s0.W = true) (h0 : Keeps s0 a0) : Keeps s0 (sendGets a0 a1 a2) := by
  induction a2 generalizing a0 a1 with
  | zero =>
    unfold sendGets
    exact h0
  | succ n ih =>
    unfold sendGets
    split
    · exact h0
    · split
      · exact h0
      · refine Keeps.ite h0 ?_
        extract_lets +onlyGivenNames x5
        clear_value x5
        extract_lets +onlyGivenNames x6
        have h7 : Keeps s0 x6 := opPut_keeps w h0
        clear_value x6
        extract_lets +onlyGivenNames x8
        clear_value x8
        extract_lets +onlyGivenNames x9
        have h10 : Keeps s0 x9 := upd_fab (sub_trans rfl w) h7
        clear_value x9
        exact ih (enqueueTx_keeps (sub_trans rfl w) h10)

theorem startOp_keeps {s0 : From} {a0 a1 a2 a3 a4} (w : sub 275154731008 s0.W = true) (h0 : Keeps s0 a0) : Keeps s0 (startOp a0 a1 a2 a3 a4) := by
  unfold startOp
  refine Keeps.ite ?_ ?_
  · extract_lets +onlyGivenNames x5 x6
    clear_value x5 x6
    exact sendGets_keeps (sub_trans rfl w) (opPut_keeps (sub_trans rfl w) h0)
  · extract_lets +onlyGivenNames x7 x8
    clear_value x7 x8
    extract_lets +onlyGivenNames x9
    have h10 : Keeps s0 x9 := msgPut_keeps (sub_trans rfl w) h0
    clear_value x9
    extract_lets +onlyGivenNames x11
    have h12 : Keeps s0 x11 := exportSet_keeps (sub_trans rfl w) (opPut_keeps (sub_trans rfl w) h10)
    clear_value x11
    exact Keeps.foldl (fun x13 x14 h15 => (enqueueTx_keeps (sub_trans rfl w) h15)) _ h12

theorem refuseOp_keeps {s0 : From} {a0 a1 a2 a3} (w : sub 293409021952 s0.W = true) (h0 : Keeps s0 a0) : Keeps s0 (refuseOp a0 a1 a2 a3) := by
  unfold refuseOp
  extract_lets +onlyGivenNames x5 x6
  clear_value x5 x6
  exact Keeps.ite (endOp_keeps (sub_trans rfl w) (opPut_keeps (sub_trans rfl w) h0)) (endOp_keeps (sub_trans rfl w) (opPut_keeps (sub_trans rfl w) h0))

theorem localEnd_keeps {s0 : From} {a0 a1 a2 a3 a4} (w : sub 187469919521770435579410348742242552419345094937817416119551425668903677447032468824064 s0.W = true) (h0 : Keeps s0 a0) (h1 : Keeps s0 a4.s) : Keeps s0 (localEnd a0 a1 a2 a3 a4) := by
  unfold localEnd
  extract_lets +onlyGivenNames x5 x6
  clear_value x5 x6
  extract_lets +onlyGivenNames x7
  have h8 : Keeps s0 x7 := Keeps.ite h1 (msgPut_keeps (sub_trans rfl w) h1)
  clear_value x7
  extract_lets +onlyGivenNames x9
  have h10 : Keeps s0 x9 := Keeps.ite (rxDrop_keeps (sub_trans rfl w) h8) h8
  clear_value x9
  exact endOp_keeps (sub_trans rfl w) (opPut_keeps (sub_trans rfl w) h10)

theorem deviceOp_keeps {s0 : From} {a0 a1 a2 a3 a4 a5} (w : sub 187469919579666480198075028472257329747857671528783763038696716699375781454412083290114 s0.W = true) (h0 : Keeps s0 a0) : Keeps s0 (deviceOp a0 a1 a2 a3 a4 a5) := by
  unfold deviceOp
  extract_lets +onlyGivenNames x5
  clear_value x5
  extract_lets +onlyGivenNames x6
  have h7 : Keeps s0 x6 := bump_keeps (sub_trans rfl w) h0
  clear_value x6
  extract_lets +onlyGivenNames x8 x9
  clear_value x8 x9
  refine Keeps.ite (refuseOp_keeps (sub_trans rfl w) h7) ?_
  refine Keeps.ite (startOp_keeps (sub_trans rfl w) h7) ?_
  extract_lets +onlyGivenNames x10
  have h11 : Keeps s0 x10.s := localOp_keeps (sub_trans rfl w) h7
  clear_value x10
  refine localEnd_keeps (sub_trans rfl w) h7 ?_
  split
  · exact h11
  · exact h11

theorem deviceSend_keeps {s0 : From} {a0 a1 a2 a3 a4 a5} (w : sub 187469919579666480198075028472257329747857671528783763038696716699375781454412083290114 s0.W = true) (h0 : Keeps s0 a0) : Keeps s0 (deviceSend a0 a1 a2 a3 a4 a5) := by
  unfold deviceSend
  exact deviceOp_keeps w h0

theorem transferEnd_keeps {s0 : From} {a0 a1} (w : sub 187469919579666480198075028472257329748771110052115577392997943761426512774515289677826 s0.W = true) (h0 : Keeps s0 a0) : Keeps s0 (transferEnd a0 a1) := by
  unfold transferEnd
  extract_lets +onlyGivenNames x5 x6
  clear_value x5 x6
  extract_lets +onlyGivenNames x7
  have h8 : Keeps s0 x7 := endNow_keeps (sub_trans rfl w) h0
  clear_value x7
  exact tieDone_keeps (sub_trans rfl w) (deviceSend_keeps (sub_trans rfl w) h8)

theorem exportDone_keeps {s0 : From} {a0 a1} (w : sub 187469919579666480198075028472257329748771110052115577392997943761426512774515289677826 s0.W = true) (h0 : Keeps s0 a0) : Keeps s0 (exportDone a0 a1) := by
  unfold exportDone
  extract_lets +onlyGivenNames x5
  clear_value x5
  split
  · exact Keeps.ite (transferEnd_keeps w (upd_fab (sub_trans rfl w) h0)) h0
  · exact h0

theorem fabGo_keeps {s0 : From} {a0 a1 a2 a3 a4 a5} (w : sub 166873987368791019766777550992571287425593620556971169180896388649807632775988324424955996332034 s0.W = true) (h0 : Keeps s0 a0) : Keeps s0 (fabGo a0 a1 a2 a3 a4 a5) := by
  unfold fabGo
  extract_lets +onlyGivenNames x5 x6 x7
  clear_value x5 x6 x7
  extract_lets +onlyGivenNames x8
  have h9 : ∀ x00, Keeps s0 x00 → Keeps s0 (x8 x00) := fun x10 h11 => (pushPend_keeps (sub_trans rfl w) (bump_keeps (sub_trans rfl w) h11))
  clear_value x8
  extract_lets +onlyGivenNames x12
  clear_value x12
  refine Keeps.ite h0 ?_
  refine Keeps.ite (refuseOp_keeps (sub_trans rfl w) (h9 _ h0)) ?_
  split
  · exact Keeps.ite (refuseOp_keeps (sub_trans rfl w) (lineFailure_keeps (sub_trans rfl w) (h9 _ h0))) (parityFail_keeps (sub_trans rfl w) (h9 _ h0))
  · refine Keeps.ite (startOp_keeps (sub_trans rfl w) (h9 _ h0)) ?_
    extract_lets +onlyGivenNames x13
    have h14 : Keeps s0 x13.s := localOp_keeps (sub_trans rfl w) h0
    clear_value x13
    exact Keeps.ite h14 (localEnd_keeps (sub_trans rfl w) (h9 _ h0) (h9 _ h14))

theorem fabIssue_keeps {s0 : From} {a0 a1 a2 a3 a4} (w : sub 166873987368791019766777550992571287425593620556971169180896388649807632775988324424955996332034 s0.W = true) (h0 : Keeps s0 a0) : Keeps s0 (fabIssue a0 a1 a2 a3 a4) := by
  unfold fabIssue
  extract_lets +onlyGivenNames x5 x6
  clear_value x5 x6
  refine issue_keeps (sub_trans rfl w) h0 ?_
  refine fun x7 h8 => ?_
  extract_lets +onlyGivenNames x9
  clear_value x9
  refine Keeps.ite h8 ?_
  refine Keeps.ite (raiseAt_keeps (sub_trans rfl w) h8) ?_
  refine Keeps.ite (parityFail_keeps (sub_trans rfl w) (pushPend_keeps (sub_trans rfl w) h8)) ?_
  extract_lets +onlyGivenNames x10
  clear_value x10
  exact Keeps.ite (raiseAt_keeps (sub_trans rfl w) h8) (Keeps.ite h8 (fabGo_keeps w h8))

theorem execFabPut_keeps {s0 : From} {a0 a1 a2} (w : sub 166873987368791019766777550992571287425593620556971169180896388649807632775988324424955996332034 s0.W = true) (h0 : Keeps s0 a2) : KeepsOut s0 (execFabPut a0 a1 a2) := by
  unfold execFabPut
  exact KeepsOut.next (fabIssue_keeps w h0)

theorem closeMembers_keeps {s0 : From} {a0 a1} (w : sub 187469919579666480198075028472257329747857671528783763038696716699375781454412083290114 s0.W = true) (h0 : Keeps s0 a0) : Keeps s0 (closeMembers a0 a1) := by
  unfold closeMembers
  exact Keeps.foldl (fun x5 x6 h7 => (deviceSend_keeps w (bump_keeps (sub_trans rfl w) h7))) _ (cxUpd_keeps (sub_trans rfl w) h0)

theorem execFabGet_keeps {s0 : From} {a0 a1 a2} (w : sub 166873987368791019766777550992571287425593620556971169180896388649807632775988324424955996332034 s0.W = true) (h0 : Keeps s0 a2) : KeepsOut s0 (execFabGet a0 a1 a2) := by
  unfold execFabGet
  exact KeepsOut.next (fabIssue_keeps w h0)

theorem sendWaiting_keeps {s0 : From} {a0} (w : sub 275146342400 s0.W = true) (h0 : Keeps s0 a0) : Keeps s0 (sendWaiting a0) := by
  unfold sendWaiting
  exact Keeps.foldl (fun x5 x6 h7 => (Keeps.ite h7 (sendGets_keeps w h7))) _ h0

theorem execFabSend_keeps {s0 : From} {a0 a1 a2} (w : sub 166873987368791019766777550992571287425593620556971169180896388649807632775988324424955996332034 s0.W = true) (h0 : Keeps s0 a2) : KeepsOut s0 (execFabSend a0 a1 a2) := by
  unfold execFabSend
  exact KeepsOut.next (fabIssue_keeps w h0)

theorem execFabPutf_keeps {s0 : From} {a0 a1 a2} (w : sub 166873987368791019766777550992571287425593620556971169180896388649807632775988324424955996332034 s0.W = true) (h0 : Keeps s0 a2) : KeepsOut s0 (execFabPutf a0 a1 a2) := by
  unfold execFabPutf
  exact KeepsOut.next (fabIssue_keeps w h0)

end Sys2Proof.Machine
end

