-- ==== Sys2Proof/Laws/KeepsFabRx.lean ====
section
/-!
SUPPORT. What the operations of `Sys2Proof.Machine.FabRx` keep (`Sys2Proof.Machine.Keeps`): one lemma for each.
-/

namespace Sys2Proof.Machine

theorem rttSample_keeps {s0 : From} {a0 a1 a2} (w : sub 1073766400 s0.W = true) (h0 : Keeps s0 a0) : Keeps s0 (rttSample a0 a1 a2) := by
  unfold rttSample
  extract_lets +onlyGivenNames x5 x6 x7 x8
  clear_value x5 x6 x7 x8
  exact pfPut_keeps w (pfPut_keeps w h0)

theorem frameIn.fsetCe_keeps {s0 : From} {a0 a1} (w : sub 6739986666787659948666753771754907668409286105635143120275902562304 s0.W = true) (h0 : Keeps s0 a1) : Keeps s0 (frameIn.fsetCe a0 a1) := by
  unfold frameIn.fsetCe
  exact Keeps.ite (fadd1_keeps h0 rfl (sub_trans rfl w)) h0

theorem dropped_keeps {s0 : From} {a0} (w : sub 26328072917139296674479506920917608079723773850137277813577744384 s0.W = true) (h0 : Keeps s0 a0) : Keeps s0 (dropped a0) := by
  unfold dropped
  exact fadd1_keeps h0 rfl (sub_trans rfl w)

theorem frameIn_keeps {s0 : From} {a0 a1} (w : sub 6766314739704799245341233278675825276489009879485280398089480306688 s0.W = true) (h0 : Keeps s0 a0) : Keeps s0 (frameIn a0 a1).1 := by
  unfold frameIn
  extract_lets +onlyGivenNames x5
  have h6 : Keeps s0 x5 := frameIn.fsetCe_keeps (sub_trans rfl w) h0
  clear_value x5
  split
  · exact h6
  · exact Keeps.fst (dropped_keeps (sub_trans rfl w) (Keeps.ite (fadd1_keeps h6 rfl (sub_trans rfl w)) h6))

theorem sendNack_keeps {s0 : From} {a0 a1 a2 a3 a4 a5} (w : sub 52656145834278593348959013841835216159447547700274555644603793408 s0.W = true) (h0 : Keeps s0 a0) : Keeps s0 (sendNack a0 a1 a2 a3 a4 a5) := by
  unfold sendNack
  extract_lets +onlyGivenNames x5
  clear_value x5
  exact fadd1_keeps (sendControl_keeps (sub_trans rfl w) h0) rfl (sub_trans rfl w)

theorem police_keeps {s0 : From} {a0 a1 a2} (w : sub 17179869184 s0.W = true) (h0 : Keeps s0 a0) : Keeps s0 (police a0 a1 a2).2 := by
  unfold police
  extract_lets +onlyGivenNames x5
  clear_value x5
  split
  extract_lets +onlyGivenNames x6
  extract_lets +onlyGivenNames x7
  extract_lets +onlyGivenNames x8
  extract_lets +onlyGivenNames x9 x10 x11
  clear_value x9 x10 x11
  exact Keeps.snd (pqPut_keeps w h0)

theorem policed_keeps {s0 : From} {a0 a1 a2 a3} (w : sub 1725436586697640946858688965569256363112777243042596638790648235819008 s0.W = true) (h0 : Keeps s0 a0) : Keeps s0 (policed a0 a1 a2 a3).1 := by
  unfold policed
  split
  · exact h0
  · split
    rename_i h5
    have h6 := Keeps.get (s := s0) (fun p => p.2) h5 (police_keeps (sub_trans rfl w) h0)
    split
    · exact Keeps.fst (fadd1_keeps h6 rfl (sub_trans rfl w))
    · split
      · exact Keeps.fst (fadd1_keeps h6 rfl (sub_trans rfl w))
      · exact h6

theorem arriveAt_keeps {s0 : From} {a0 a1 a2} (w : sub 1732275303637867879169885017491964711811485493300169796702725323358208 s0.W = true) (h0 : Keeps s0 a0) : Keeps s0 (arriveAt a0 a1 a2).1 := by
  unfold arriveAt
  split
  rename_i h5
  have h6 := Keeps.get (s := s0) (fun p => p.1) h5 (frameIn_keeps (sub_trans rfl w) h0)
  split
  · exact h6
  · split
    · exact Keeps.fst (dropped_keeps (sub_trans rfl w) h6)
    · split
      · exact Keeps.fst (dropped_keeps (sub_trans rfl w) h6)
      · split
        · extract_lets +onlyGivenNames x7
          have h8 : Keeps s0 x7 := fset_keeps h6 rfl (sub_trans rfl w)
          clear_value x7
          exact Keeps.fst (sendNack_keeps (sub_trans rfl w) (fadd1_keeps h8 rfl (sub_trans rfl w)))
        · split
          rename_i h9
          have h10 := Keeps.get (s := s0) (fun p => p.1) h9 (policed_keeps (sub_trans rfl w) h6)
          split
          · exact Keeps.fst (fadd1_keeps h10 rfl (sub_trans rfl w))
          · exact h10

theorem plainPkt_keeps {s0 : From} {a0 a1 a2 a3} (w : sub 1732275303637867879169885017491964711811485493300169796702725323358208 s0.W = true) (h0 : Keeps s0 a0) (h1 : ∀ x00 x01, Keeps s0 x00 → Keeps s0 (a3 x00 x01)) : Keeps s0 (plainPkt a0 a1 a2 a3) := by
  unfold plainPkt
  split
  · rename_i h5
    have h6 := Keeps.get (s := s0) (fun p => p.1) h5 (arriveAt_keeps w h0)
    exact h6
  · rename_i h7
    have h8 := Keeps.get (s := s0) (fun p => p.1) h7 (arriveAt_keeps w h0)
    exact h1 _ _ h8

theorem doneIn_keeps {s0 : From} {a0 a1 a2} (w : sub 187469919579666480198075028472257329748771110052115577392997943761426512774515289677826 s0.W = true) (h0 : Keeps s0 a0) : Keeps s0 (doneIn a0 a1 a2) := by
  unfold doneIn
  split
  · exact Keeps.ite h0 (Keeps.ite (exportDone_keeps w (endOp_keeps (sub_trans rfl w) h0)) (endOp_keeps (sub_trans rfl w) h0))
  · exact h0

theorem execDoneMsg_keeps {s0 : From} {a0 a1} (w : sub 187469919579666481930343750091895924094487507667350059802463506118133775157769770295298 s0.W = true) (h0 : Keeps s0 a1) : KeepsOut s0 (execDoneMsg a0 a1) := by
  unfold execDoneMsg
  exact KeepsOut.next (plainPkt_keeps (sub_trans rfl w) h0 (fun x5 x6 h7 => (doneIn_keeps (sub_trans rfl w) h7)))

theorem frameReceive_keeps {s0 : From} {a0 a1} (w : sub 6838716940226932311196051922708348698710726175430660536150985310208 s0.W = true) (h0 : Keeps s0 a0) : Keeps s0 (frameReceive a0 a1) := by
  unfold frameReceive
  split
  rename_i h5
  have h6 := Keeps.get (s := s0) (fun p => p.1) h5 (frameIn_keeps (sub_trans rfl w) h0)
  refine Keeps.ite h6 ?_
  refine Keeps.ite ?_ (Keeps.ite (rxFrame_keeps (sub_trans rfl w) h6) (dropped_keeps (sub_trans rfl w) h6))
  refine Keeps.ite (dropped_keeps (sub_trans rfl w) h6) ?_
  split
  · exact dropped_keeps (sub_trans rfl w) h6
  · exact sendNack_keeps (sub_trans rfl w) (fset_keeps (fadd1_keeps h6 rfl (sub_trans rfl w)) rfl (sub_trans rfl w))

theorem getReq_keeps {s0 : From} {a0 a1 a2 a3} (w : sub 187469919579666480198068446454028044923689051652053533636674309875834676374383119720450 s0.W = true) (h0 : Keeps s0 a0) : Keeps s0 (getReq a0 a1 a2 a3).1.s := by
  unfold getReq
  extract_lets +onlyGivenNames x5
  have h6 : Keeps s0 x5.s := keyCheck_keeps (sub_trans rfl w) h0
  clear_value x5
  split
  · exact h6
  · extract_lets +onlyGivenNames x7 x8 x9
    clear_value x7 x8 x9
    extract_lets +onlyGivenNames x10
    have h11 : Keeps s0 x10 := Keeps.foldl (fun x12 x13 h14 => (enqueueTx_keeps (sub_trans rfl w) h14)) _ h6
    clear_value x10
    split
    · exact h11
    · exact reportPieces_keeps (sub_trans rfl w) h11

theorem sendAck_keeps {s0 : From} {a0 a1} (w : sub 17448304640 s0.W = true) (h0 : Keeps s0 a0) : Keeps s0 (sendAck a0 a1) := by
  unfold sendAck
  extract_lets +onlyGivenNames x5 x6 x7
  clear_value x5 x6 x7
  exact sendControl_keeps w (pxPut_keeps (sub_trans rfl w) h0)

theorem markPsn_keeps {s0 : From} {a0 a1 a2} (w : sub 1342201856 s0.W = true) (h0 : Keeps s0 a0) : Keeps s0 (markPsn a0 a1 a2) := by
  unfold markPsn
  extract_lets +onlyGivenNames x5
  clear_value x5
  split
  exact pxUpd_keeps (sub_trans rfl w) (pfPut_keeps (sub_trans rfl w) h0)

theorem rxDone_keeps {s0 : From} {a0 a1 a2 a3 a4 a5} (w : sub 52656145834278593348959013841835216159447547700274555645677559808 s0.W = true) (h0 : Keeps s0 a0) (h1 : Keeps s0 a4.s) : Keeps s0 (rxDone a0 a1 a2 a3 a4 a5) := by
  unfold rxDone
  extract_lets +onlyGivenNames x5
  have h6 : Keeps s0 x5 := Keeps.ite h0 (markPsn_keeps (sub_trans rfl w) h0)
  clear_value x5
  extract_lets +onlyGivenNames x7
  have h8 : Keeps s0 x7 := pxUpd_keeps (sub_trans rfl w) h6
  clear_value x7
  extract_lets +onlyGivenNames x9
  have h10 : Keeps s0 x9 := Keeps.ite h8 (sendNack_keeps (sub_trans rfl w) h8)
  clear_value x9
  extract_lets +onlyGivenNames x11
  have h12 : Keeps s0 x11 := Keeps.ite (sendControl_keeps (sub_trans rfl w) h10) h10
  clear_value x11
  exact Keeps.ite (sendAck_keeps (sub_trans rfl w) h12) h12

theorem dataPkt_keeps {s0 : From} {a0 a1 a2 a3} (w : sub 1732275303637867879169885017491964711811485493300169796702726397124608 s0.W = true) (h0 : Keeps s0 a0) (h1 : ∀ x00 x01 x02, Keeps s0 x00 → Keeps s0 (a3 x00 x01 x02).1.s) : Keeps s0 (dataPkt a0 a1 a2 a3) := by
  unfold dataPkt
  split
  · rename_i s heq
    exact Keeps.get (s := s0) (fun p => p.1) heq (arriveAt_keeps (sub_trans rfl w) h0)
  · rename_i s peer ce heq
    have hs := Keeps.get (s := s0) (fun p => p.1) heq (arriveAt_keeps (sub_trans rfl w) h0)
    refine Keeps.ite (dropped_keeps (sub_trans rfl w) hs) (Keeps.ite (Keeps.ite (sendAck_keeps (sub_trans rfl w) (pxUpd_keeps (sub_trans rfl w) hs)) (pxUpd_keeps (sub_trans rfl w) hs)) ?_)
    split
    rename_i q done hq
    have h2 : Keeps s0 q.s := by
      have h3 : Keeps s0 (q, done).1.s := by
        rw [← hq]
        split
        · exact hs
        · exact h1 _ _ _ hs
      exact h3
    refine Keeps.ite ?_ (rxDone_keeps (sub_trans rfl w) h2 h2)
    exact ⟨h2.pending, h2.fuse.of_eq rfl, h2.image0, h2.image1,
      fun c => ⟨(h2.canon c).mem, (h2.canon c).syn, (h0.canon c).regs, (h2.canon c).hostMem⟩, fun c => h0.reserved c,
      (view_mono (s := q.s) (t := { q.s with regs := a0.regs, port := a0.port }) (sub_trans (a := 18522071040) rfl w) rfl).trans h2.view, h0.regs⟩

theorem rxGETREQ_keeps {s0 : From} {a0 a1} (w : sub 187469919579666481930343750091895924093574069144018245448159803176004473077108174643202 s0.W = true) (h0 : Keeps s0 a0) : Keeps s0 (rxGETREQ a0 a1) := by
  unfold rxGETREQ
  exact dataPkt_keeps (sub_trans rfl w) h0 (fun x5 x6 x7 h8 => (getReq_keeps (sub_trans rfl w) h8))

theorem execGetReq_keeps {s0 : From} {a0 a1} (w : sub 187469919579666481930343750091895924093574069144018245448159803176004473077108174643202 s0.W = true) (h0 : Keeps s0 a1) : KeepsOut s0 (execGetReq a0 a1) := by
  unfold execGetReq
  exact KeepsOut.next (rxGETREQ_keeps w h0)

theorem rxSEND_keeps {s0 : From} {a0 a1} (w : sub 1732275303637867879169885017491964711811487969180248367464100831354880 s0.W = true) (h0 : Keeps s0 a0) : Keeps s0 (rxSEND a0 a1) := by
  unfold rxSEND
  exact dataPkt_keeps (sub_trans rfl w) h0 (fun x5 x6 x7 h8 => (placeSend_keeps (sub_trans rfl w) h8))

theorem peerReset_keeps {s0 : From} {a0 a1 a2} (w : sub 1342201856 s0.W = true) (h0 : Keeps s0 a0) : Keeps s0 (peerReset a0 a1 a2) := by
  unfold peerReset
  extract_lets +onlyGivenNames x5
  have h6 : Keeps s0 x5 := pfPut_keeps (sub_trans rfl w) (pfPut_keeps (sub_trans rfl w) (pfPut_keeps (sub_trans rfl w) h0))
  clear_value x5
  exact pxUpd_keeps (sub_trans rfl w) h6

theorem probeReplyIn_keeps {s0 : From} {a0 a1} (w : sub 1342201856 s0.W = true) (h0 : Keeps s0 a0) : Keeps s0 (probeReplyIn a0 a1) := by
  unfold probeReplyIn
  extract_lets +onlyGivenNames x5
  have h6 : Keeps s0 x5 := pxUpd_keeps (sub_trans rfl w) h0
  clear_value x5
  exact Keeps.ite (peerReset_keeps w (pfPut_keeps (sub_trans rfl w) h6)) h6

theorem execProbeReply_keeps {s0 : From} {a0 a1} (w : sub 1732275303637867879169885017491964711811485493300169796702726397124608 s0.W = true) (h0 : Keeps s0 a1) : KeepsOut s0 (execProbeReply a0 a1) := by
  unfold execProbeReply
  exact KeepsOut.next (plainPkt_keeps (sub_trans rfl w) h0 (fun x5 x6 h7 => (probeReplyIn_keeps (sub_trans rfl w) h7)))

theorem nackIn_keeps {s0 : From} {a0 a1 a2} (w : sub 52656145834278593348959013841835216159447547700274555920564510720 s0.W = true) (h0 : Keeps s0 a0) : Keeps s0 (nackIn a0 a1 a2) := by
  unfold nackIn
  extract_lets +onlyGivenNames x5
  have h6 : Keeps s0 x5 := fadd1_keeps h0 rfl (sub_trans rfl w)
  clear_value x5
  split
  · exact h6
  · refine Keeps.ite (pxUpd_keeps (sub_trans rfl w) h6) ?_
    extract_lets +onlyGivenNames x7
    have h8 : Keeps s0 x7 := pxUpd_keeps (sub_trans rfl w) h6
    clear_value x7
    exact packetEnd_keeps (sub_trans rfl w) h8

theorem flowCheck_keeps {s0 : From} {a0 a1} (w : sub 1342201856 s0.W = true) (h0 : Keeps s0 a0) : Keeps s0 (flowCheck a0 a1) := by
  unfold flowCheck
  exact Keeps.ite (pxUpd_keeps (sub_trans rfl w) (pfPut_keeps (sub_trans rfl w) h0)) h0

theorem getResp_keeps {s0 : From} {a0 a1} (w : sub 302000005120 s0.W = true) (h0 : Keeps s0 a0) : Keeps s0 (getResp a0 a1).1.s := by
  unfold getResp
  split
  · exact h0
  · split
    · exact h0
    · extract_lets +onlyGivenNames x5
      clear_value x5
      split
      · exact h0
      · split
        · exact h0
        · extract_lets +onlyGivenNames x6
          have h7 : Keeps s0 x6 := meter_keeps (sub_trans rfl w) (movWrite_keeps (sub_trans rfl w) h0)
          clear_value x6
          extract_lets +onlyGivenNames x8 x9 x10
          clear_value x8 x9 x10
          extract_lets +onlyGivenNames x11
          have h12 : Keeps s0 x11 := opPut_keeps (sub_trans rfl w) (upd_fab (sub_trans rfl w) h7)
          clear_value x11
          extract_lets +onlyGivenNames x13
          have h14 : Keeps s0 x13 := Keeps.ite (endOp_keeps (sub_trans rfl w) h12) h12
          clear_value x13
          exact sendWaiting_keeps (sub_trans rfl w) h14

theorem rxGETRESP_keeps {s0 : From} {a0 a1} (w : sub 1732275303637867879169885017491964711811485493300169796703009875058688 s0.W = true) (h0 : Keeps s0 a0) : Keeps s0 (rxGETRESP a0 a1) := by
  unfold rxGETRESP
  exact dataPkt_keeps (sub_trans rfl w) h0 (fun x5 x6 x7 h8 => (getResp_keeps (sub_trans rfl w) h8))

theorem rxPUT_keeps {s0 : From} {a0 a1} (w : sub 187469919579666481930343750091895924093574069144018245448162279056083043837666563907586 s0.W = true) (h0 : Keeps s0 a0) : Keeps s0 (rxPUT a0 a1) := by
  unfold rxPUT
  exact dataPkt_keeps (sub_trans rfl w) h0 (fun x5 x6 x7 h8 => (placePut_keeps (sub_trans rfl w) h8))

theorem ackOne_keeps {s0 : From} {a0 a1 a2} (w : sub 293409021952 s0.W = true) (h0 : Keeps s0 a0) : Keeps s0 (ackOne a0 a1 a2) := by
  unfold ackOne
  extract_lets +onlyGivenNames x5
  have h6 : Keeps s0 x5 := pxUpd_keeps (sub_trans rfl w) h0
  clear_value x5
  extract_lets +onlyGivenNames x7
  have h8 : Keeps s0 x7 := Keeps.ite h6 (rttSample_keeps (sub_trans rfl w) h6)
  clear_value x7
  exact packetEnd_keeps w h8

theorem ackIn_keeps {s0 : From} {a0 a1 a2} (w : sub 293409021952 s0.W = true) (h0 : Keeps s0 a0) : Keeps s0 (ackIn a0 a1 a2) := by
  unfold ackIn
  extract_lets +onlyGivenNames x5 x6 x7
  clear_value x5 x6 x7
  extract_lets +onlyGivenNames x8
  have h9 : Keeps s0 x8 := Keeps.foldl (fun x10 x11 h12 => (ackOne_keeps w h12)) _ h0
  clear_value x8
  extract_lets +onlyGivenNames x13
  have h14 : Keeps s0 x13 := pxUpd_keeps (sub_trans rfl w) h9
  clear_value x13
  exact flowCheck_keeps (sub_trans rfl w) h14

theorem execAck_keeps {s0 : From} {a0 a1} (w : sub 1732275303637867879169885017491964711811485493300169796703001284075520 s0.W = true) (h0 : Keeps s0 a1) : KeepsOut s0 (execAck a0 a1) := by
  unfold execAck
  exact KeepsOut.next (plainPkt_keeps (sub_trans rfl w) h0 (fun x5 x6 h7 => (ackIn_keeps (sub_trans rfl w) h7)))

theorem execPut_keeps {s0 : From} {a0 a1} (w : sub 187469919579666481930343750091895924093574069144018245448162279056083043837666563907586 s0.W = true) (h0 : Keeps s0 a1) : KeepsOut s0 (execPut a0 a1) := by
  unfold execPut
  exact KeepsOut.next (rxPUT_keeps w h0)

theorem execFrameReceive_keeps {s0 : From} {a0 a1} (w : sub 6838716940226932311196051922708348698710726175430660536150985310208 s0.W = true) (h0 : Keeps s0 a1) : KeepsOut s0 (execFrameReceive a0 a1) := by
  unfold execFrameReceive
  exact KeepsOut.next (frameReceive_keeps w h0)

theorem execProbe_keeps {s0 : From} {a0 a1} (w : sub 1732275303637867879169885017491964711811485493300169796702726397124608 s0.W = true) (h0 : Keeps s0 a1) : KeepsOut s0 (execProbe a0 a1) := by
  unfold execProbe
  exact KeepsOut.next (plainPkt_keeps (sub_trans rfl w) h0 (fun x5 x6 h7 => (sendControl_keeps (sub_trans rfl w) (pxUpd_keeps (sub_trans rfl w) (pfPut_keeps (sub_trans rfl w) h7)))))

theorem abortIn_keeps {s0 : From} {a0 a1 a2} (w : sub 187469919521770435579410348742242552419345094937817416119551425668903677447015280041984 s0.W = true) (h0 : Keeps s0 a0) : Keeps s0 (abortIn a0 a1 a2) := by
  unfold abortIn
  extract_lets +onlyGivenNames x5
  have h6 : ∀ x00 x01, Keeps s0 x00 → Keeps s0 (x5 x00 x01) := fun x7 x8 h9 => (Keeps.ite (rxDrop_keeps w h9) h9)
  clear_value x5
  exact h6 _ _ (h6 _ _ h0)

theorem execAbortMsg_keeps {s0 : From} {a0 a1} (w : sub 187469919521770437311685652380110431589230112429782127931036918969073474149740334964736 s0.W = true) (h0 : Keeps s0 a1) : KeepsOut s0 (execAbortMsg a0 a1) := by
  unfold execAbortMsg
  exact KeepsOut.next (plainPkt_keeps (sub_trans rfl w) h0 (fun x5 x6 h7 => (abortIn_keeps (sub_trans rfl w) h7)))

theorem execSend_keeps {s0 : From} {a0 a1} (w : sub 1732275303637867879169885017491964711811487969180248367464100831354880 s0.W = true) (h0 : Keeps s0 a1) : KeepsOut s0 (execSend a0 a1) := by
  unfold execSend
  exact KeepsOut.next (rxSEND_keeps w h0)

theorem execGetResp_keeps {s0 : From} {a0 a1} (w : sub 1732275303637867879169885017491964711811485493300169796703009875058688 s0.W = true) (h0 : Keeps s0 a1) : KeepsOut s0 (execGetResp a0 a1) := by
  unfold execGetResp
  exact KeepsOut.next (rxGETRESP_keeps w h0)

theorem execNack_keeps {s0 : From} {a0 a1} (w : sub 1732275303637867879169885017491964711811485493300169796703001284075520 s0.W = true) (h0 : Keeps s0 a1) : KeepsOut s0 (execNack a0 a1) := by
  unfold execNack
  exact KeepsOut.next (plainPkt_keeps (sub_trans rfl w) h0 (fun x5 x6 h7 => (nackIn_keeps (sub_trans rfl w) h7)))

end Sys2Proof.Machine
end

