-- ==== Sys2Proof/Laws/KeepsFabTimers.lean ====
section
/-!
SUPPORT. What the operations of `Sys2Proof.Machine.FabTimers` keep (`Sys2Proof.Machine.Keeps`): one lemma for each.
-/

namespace Sys2Proof.Machine

theorem rateUpdate_keeps {s0 : From} {a0 a1} (w : sub 1342201856 s0.W = true) (h0 : Keeps s0 a0) : Keeps s0 (rateUpdate a0 a1) := by
  unfold rateUpdate
  extract_lets +onlyGivenNames x5
  clear_value x5
  refine Keeps.ite h0 ?_
  extract_lets +onlyGivenNames x6 x7 x8 x9 x10 x11
  clear_value x6 x7 x8 x9 x10 x11
  extract_lets +onlyGivenNames x12
  have h13 : Keeps s0 x12 := pfPut_keeps (sub_trans rfl w) h0
  clear_value x12
  extract_lets +onlyGivenNames x14
  have h15 : Keeps s0 x14 := pxPut_keeps (sub_trans rfl w) h13
  clear_value x14
  refine Keeps.ite (pfPut_keeps (sub_trans rfl w) (pfPut_keeps (sub_trans rfl w) h15)) ?_
  extract_lets +onlyGivenNames x16 x17
  clear_value x16 x17
  exact pfPut_keeps (sub_trans rfl w) (pfPut_keeps (sub_trans rfl w) h15)

theorem execPathHoldEnd_keeps {s0 : From} {a0 a1 a2} (w : sub 1342201856 s0.W = true) (h0 : Keeps s0 a2) : KeepsOut s0 (execPathHoldEnd a0 a1 a2) := by
  unfold execPathHoldEnd
  extract_lets +onlyGivenNames x5
  clear_value x5
  exact KeepsOut.next (Keeps.ite (pxUpd_keeps (sub_trans rfl w) (pfPut_keeps (sub_trans rfl w) h0)) h0)

theorem execAckTimer_keeps {s0 : From} {a0 a1} (w : sub 17448304640 s0.W = true) (h0 : Keeps s0 a1) : KeepsOut s0 (execAckTimer a0 a1) := by
  unfold execAckTimer
  exact KeepsOut.next (Keeps.ite (sendAck_keeps w h0) h0)

theorem again_keeps {s0 : From} {a0 a1 a2 a3} (w : sub 268435456 s0.W = true) (h0 : Keeps s0 a0) : Keeps s0 (again a0 a1 a2 a3) := by
  unfold again
  exact pxUpd_keeps w h0

theorem pathLoss_keeps {s0 : From} {a0 a1 a2} (w : sub 6582018229284824168619876730229402019930943462534319454736637952 s0.W = true) (h0 : Keeps s0 a0) : Keeps s0 (pathLoss a0 a1 a2) := by
  unfold pathLoss
  extract_lets +onlyGivenNames x5
  clear_value x5
  extract_lets +onlyGivenNames x6
  have h7 : Keeps s0 x6 := pxUpd_keeps (sub_trans rfl w) h0
  clear_value x6
  extract_lets +onlyGivenNames x8
  clear_value x8
  exact Keeps.ite (fset_keeps (pfPut_keeps (sub_trans rfl w) h7) rfl (sub_trans rfl w)) h7

theorem execReorderTimer_keeps {s0 : From} {a0 a1 a2} (w : sub 6582018229284824168619876730229402019930943462534319454736637952 s0.W = true) (h0 : Keeps s0 a2) : KeepsOut s0 (execReorderTimer a0 a1 a2) := by
  unfold execReorderTimer
  refine KeepsOut.next ?_
  split
  · exact Keeps.ite (again_keeps (sub_trans rfl w) (pathLoss_keeps w h0)) h0
  · exact h0

theorem timeAdj_keeps {s0 : From} {a0 a1} (w : sub 105312291668557186697918027683670432318895095400549111254310977544 s0.W = true) (h0 : Keeps s0 a0) : Keeps s0 (timeAdj a0 a1) := by
  unfold timeAdj
  extract_lets +onlyGivenNames x5
  clear_value x5
  exact fput_keeps (upd_gtime (sub_trans rfl w) h0) rfl (sub_trans rfl w)

theorem execFabTimeAdj_keeps {s0 : From} {a0 a1} (w : sub 105312291668557186697918027683670432318895095548123063843987390472 s0.W = true) (h0 : Keeps s0 a1) : KeepsOut s0 (execFabTimeAdj a0 a1) := by
  unfold execFabTimeAdj
  exact KeepsOut.next (regGate_keeps (sub_trans rfl w) h0 (sub_trans rfl w) (fun x5 h6 => (timeAdj_keeps (sub_trans rfl w) h6)))

theorem fabCmdEnd_keeps {s0 : From} {a0 a1 a2} (w : sub 3291009114642412084309938365114701009965471731267160276723564544 s0.W = true) (h0 : Keeps s0 a0) : Keeps s0 (fabCmdEnd a0 a1 a2) := by
  unfold fabCmdEnd
  extract_lets +onlyGivenNames x5
  clear_value x5
  extract_lets +onlyGivenNames x6
  have h7 : Keeps s0 x6 := upd_fab (sub_trans rfl w) h0
  clear_value x6
  exact irq_keeps (sub_trans rfl w) (finc_keeps (fput_keeps (fput_keeps h7 rfl (sub_trans rfl w)) rfl (sub_trans rfl w)) rfl (sub_trans rfl w))

theorem fabReserved_keeps {s0 : From} {a0 a1} (w : sub 3291009114642412084309938365114701009965471731267160276723564544 s0.W = true) (h0 : Keeps s0 a0) : Keeps s0 (fabReserved a0 a1) := by
  induction a1 generalizing a0 with
  | zero =>
    unfold fabReserved
    exact h0
  | succ n ih =>
    unfold fabReserved
    refine Keeps.ite h0 ?_
    split
    · exact h0
    · extract_lets +onlyGivenNames x5
      clear_value x5
      exact Keeps.ite h0 (ih (fabCmdEnd_keeps w h0))

theorem fabCmdDone_keeps {s0 : From} {a0 a1 a2} (w : sub 3291009114642412084309938365114701009965471731267160276723564544 s0.W = true) (h0 : Keeps s0 a0) : Keeps s0 (fabCmdDone a0 a1 a2) := by
  unfold fabCmdDone
  exact fabReserved_keeps w (fabCmdEnd_keeps w h0)

theorem revokeEnd_keeps {s0 : From} {a0 a1} (w : sub 2371421987580235685565742887620340437144907651067019761493563051749221207183089664 s0.W = true) (h0 : Keeps s0 a0) : Keeps s0 (revokeEnd a0 a1) := by
  unfold revokeEnd
  extract_lets +onlyGivenNames x5
  clear_value x5
  refine Keeps.ite h0 ?_
  extract_lets +onlyGivenNames x6
  have h7 : Keeps s0 x6 := Keeps.foldl (fun x8 x9 h10 => (rxErase_keeps (sub_trans rfl w) h10)) _ h0
  clear_value x6
  extract_lets +onlyGivenNames x11
  have h12 : Keeps s0 x11 := setRegion_keeps (sub_trans rfl w) h7
  clear_value x11
  exact Keeps.ite (fabCmdDone_keeps (sub_trans rfl w) (upd_fab (sub_trans rfl w) h12)) h12

theorem execRevokeEnd_keeps {s0 : From} {a0 a1} (w : sub 2371421987580235685565742887620340437144907651067019761493563051749221207183089664 s0.W = true) (h0 : Keeps s0 a1) : KeepsOut s0 (execRevokeEnd a0 a1) := by
  unfold execRevokeEnd
  exact KeepsOut.next (revokeEnd_keeps w h0)

theorem peerDown_keeps {s0 : From} {a0 a1} (w : sub 6582018229284824168619876730229402019930943462534319471925551104 s0.W = true) (h0 : Keeps s0 a0) : Keeps s0 (peerDown a0 a1) := by
  unfold peerDown
  extract_lets +onlyGivenNames x5
  have h6 : Keeps s0 x5 := fset_keeps (pfPut_keeps (sub_trans rfl w) h0) rfl (sub_trans rfl w)
  clear_value x5
  extract_lets +onlyGivenNames x7
  have h8 : Keeps s0 x7 := Keeps.foldl (fun x9 x10 h11 => (endOp_keeps (sub_trans rfl w) h11)) _ h6
  clear_value x7
  exact pxUpd_keeps (sub_trans rfl w) h8

theorem execPeerEnable_keeps {s0 : From} {a0 a1} (w : sub 18522071042 s0.W = true) (h0 : Keeps s0 a1) : KeepsOut s0 (execPeerEnable a0 a1) := by
  unfold execPeerEnable
  refine KeepsOut.next ?_
  refine Keeps.ite ?_ h0
  extract_lets +onlyGivenNames x5
  clear_value x5
  extract_lets +onlyGivenNames x6
  have h7 : Keeps s0 x6 := peerReset_keeps (sub_trans rfl w) (pfPut_keeps (sub_trans rfl w) (bump_keeps (sub_trans rfl w) h0))
  clear_value x6
  extract_lets +onlyGivenNames x8
  have h9 : Keeps s0 x8 := pfPut_keeps (sub_trans rfl w) (pfPut_keeps (sub_trans rfl w) (pfPut_keeps (sub_trans rfl w) h7))
  clear_value x8
  exact sendProbes_keeps (sub_trans rfl w) (pxUpd_keeps (sub_trans rfl w) h9)

theorem execRateUpdate_keeps {s0 : From} {a0 a1} (w : sub 1342201856 s0.W = true) (h0 : Keeps s0 a1) : KeepsOut s0 (execRateUpdate a0 a1) := by
  unfold execRateUpdate
  exact KeepsOut.next (rateUpdate_keeps w h0)

theorem execGetTimeout_keeps {s0 : From} {a0 a1} (w : sub 293409021952 s0.W = true) (h0 : Keeps s0 a1) : KeepsOut s0 (execGetTimeout a0 a1) := by
  unfold execGetTimeout
  refine KeepsOut.next ?_
  split
  · exact sendWaiting_keeps (sub_trans rfl w) (endOp_keeps (sub_trans rfl w) h0)
  · exact h0

theorem execProbeTimer_keeps {s0 : From} {a0 a1} (w : sub 17179869184 s0.W = true) (h0 : Keeps s0 a1) : KeepsOut s0 (execProbeTimer a0 a1) := by
  unfold execProbeTimer
  exact KeepsOut.next (Keeps.ite (sendProbes_keeps w h0) h0)

theorem execFabRegister_keeps {s0 : From} {a0} (w : sub 2371421987580235685565742887620340437144907651067019761493563051749221207182958592 s0.W = true) (h0 : Keeps s0 a0) : KeepsOut s0 (execFabRegister a0) := by
  unfold execFabRegister
  refine KeepsOut.next ?_
  split
  · exact h0
  · split
    · exact fabCmdDone_keeps (sub_trans rfl w) h0
    · exact fabCmdDone_keeps (sub_trans rfl w) (setRegion_keeps (sub_trans rfl w) h0)

theorem execMessageIdle_keeps {s0 : From} {a0 a1} (w : sub 187469919521770435579416930760471837243513714814547645521571356612366211766468674478080 s0.W = true) (h0 : Keeps s0 a1) : KeepsOut s0 (execMessageIdle a0 a1) := by
  unfold execMessageIdle
  refine KeepsOut.next ?_
  split
  · exact Keeps.ite h0 (fset_keeps (rxDrop_keeps (sub_trans rfl w) h0) rfl (sub_trans rfl w))
  · exact h0

theorem execFabRevoke_keeps {s0 : From} {a0} (w : sub 2371421987580235685565742887620340437144907651067019761493563051749221207182958592 s0.W = true) (h0 : Keeps s0 a0) : KeepsOut s0 (execFabRevoke a0) := by
  unfold execFabRevoke
  refine KeepsOut.next ?_
  split
  · exact h0
  · extract_lets +onlyGivenNames x5 x6 x7
    clear_value x5 x6 x7
    refine Keeps.ite (fabCmdDone_keeps (sub_trans rfl w) h0) ?_
    refine Keeps.ite (fabCmdDone_keeps (sub_trans rfl w) h0) ?_
    refine Keeps.ite (fabCmdDone_keeps (sub_trans rfl w) h0) ?_
    extract_lets +onlyGivenNames x8
    have h9 : Keeps s0 x8 := setRegion_keeps (sub_trans rfl w) h0
    clear_value x8
    exact upd_fab (sub_trans rfl w) h9

theorem rtoExpiry_keeps {s0 : From} {a0 a1 a2} (w : sub 6582018229284824168619876730229402019930943462534319471925551104 s0.W = true) (h0 : Keeps s0 a0) : Keeps s0 (rtoExpiry a0 a1 a2) := by
  unfold rtoExpiry
  split
  · exact h0
  · refine Keeps.ite h0 ?_
    extract_lets +onlyGivenNames x5
    have h6 : Keeps s0 x5 := pathLoss_keeps (sub_trans rfl w) h0
    clear_value x5
    extract_lets +onlyGivenNames x7
    have h8 : Keeps s0 x7 := pfPut_keeps (sub_trans rfl w) (pfPut_keeps (sub_trans rfl w) (pfPut_keeps (sub_trans rfl w) (pfPut_keeps (sub_trans rfl w) h6)))
    clear_value x7
    extract_lets +onlyGivenNames x9
    have h10 : Keeps s0 x9 := pxUpd_keeps (sub_trans rfl w) h8
    clear_value x9
    exact Keeps.ite (peerDown_keeps w h10) (again_keeps (sub_trans rfl w) h10)

theorem execRetransmitTimeout_keeps {s0 : From} {a0 a1 a2} (w : sub 6582018229284824168619876730229402019930943462534319471925551104 s0.W = true) (h0 : Keeps s0 a2) : KeepsOut s0 (execRetransmitTimeout a0 a1 a2) := by
  unfold execRetransmitTimeout
  exact KeepsOut.next (rtoExpiry_keeps w h0)

theorem execRnrRetry_keeps {s0 : From} {a0 a1 a2} (w : sub 268435456 s0.W = true) (h0 : Keeps s0 a2) : KeepsOut s0 (execRnrRetry a0 a1 a2) := by
  unfold execRnrRetry
  refine KeepsOut.next ?_
  split
  · exact Keeps.ite (again_keeps w h0) h0
  · exact h0

theorem execDoneHoldEnd_keeps {s0 : From} {a0 a1} (w : sub 1342332928 s0.W = true) (h0 : Keeps s0 a1) : KeepsOut s0 (execDoneHoldEnd a0 a1) := by
  unfold execDoneHoldEnd
  refine KeepsOut.next ?_
  split
  · exact Keeps.ite (rxErase_keeps w h0) h0
  · exact h0

end Sys2Proof.Machine
end

