-- ==== Sys2Proof/Laws/KeepsCtxMsg.lean ====
section
/-!
SUPPORT. What the operations of `Sys2Proof.Machine.CtxMsg` keep (`Sys2Proof.Machine.Keeps`): one lemma for each.
-/

namespace Sys2Proof.Machine

theorem ownerMsg_keeps {s0 : From} {a0 a1 a2 a3 a4} (w : sub 187469919579666480198075028472257329747857671528783763038696716699375781454412083290114 s0.W = true) (h0 : Keeps s0 a0) : Keeps s0 (ownerMsg a0 a1 a2 a3 a4) := by
  unfold ownerMsg
  exact Keeps.ite h0 (deviceSend_keeps w (bump_keeps (sub_trans rfl w) h0))

theorem cancelCtx_keeps {s0 : From} {a0 a1} (w : sub 187469919579666480198075028472257329747857671528783763069120640740978835887230331838466 s0.W = true) (h0 : Keeps s0 a0) : Keeps s0 (cancelCtx a0 a1).2 := by
  unfold cancelCtx
  extract_lets +onlyGivenNames x5
  clear_value x5
  split
  · exact h0
  · split
    · exact Keeps.snd (dmod_keeps (sub_trans rfl w) h0)
    · exact Keeps.snd (closeMembers_keeps (sub_trans rfl w) (endNow_keeps (sub_trans rfl w) h0))

theorem svcHead_keeps {s0 : From} {a0 a1} (w : sub 268435456 s0.W = true) (h0 : Keeps s0 a0) : KeepsOptP s0 (fun t => t.2) (svcHead a0 a1) := by
  unfold svcHead
  split
  · exact KeepsOptP.none
  · extract_lets +onlyGivenNames x5
    clear_value x5
    exact KeepsOptP.ite (KeepsOptP.some (upd_fab (sub_trans rfl w) h0)) KeepsOptP.none

theorem memberSeen_keeps {s0 : From} {a0 a1 a2} (w : sub 8388608 s0.W = true) (h0 : Keeps s0 a0) : Keeps s0 (memberSeen a0 a1 a2) := by
  unfold memberSeen
  exact Keeps.ite h0 (cxUpd_keeps w h0)

theorem svcDrop_keeps {s0 : From} {a0} (w : sub 6582018229284824168619876730229402019930943462534319453394436096 s0.W = true) (h0 : Keeps s0 a0) : Keeps s0 (svcDrop a0) := by
  unfold svcDrop
  exact fset_keeps h0 rfl (sub_trans rfl w)

theorem execHiddenDone_keeps {s0 : From} {a0} (w : sub 2371421987580235688856752002262752521454846016181720771459034783016380933886599168 s0.W = true) (h0 : Keeps s0 a0) : KeepsOut s0 (execHiddenDone a0) := by
  unfold execHiddenDone
  refine KeepsOut.next ?_
  split
  · exact h0
  · rename_i h5
    have h6 := KeepsOptP.get (s := s0) (π := fun t => t.2) h5 (svcHead_keeps (sub_trans rfl w) h0)
    exact Keeps.ite (dmod_keeps (sub_trans rfl w) (memberSeen_keeps (sub_trans rfl w) h6)) (svcDrop_keeps (sub_trans rfl w) h6)

theorem importDone_keeps {s0 : From} {a0 a1 a2 a3} (w : sub 187469919579666480198075028472257329747857671528783763038696716699375781454412083290114 s0.W = true) (h0 : Keeps s0 a0) : Keeps s0 (importDone a0 a1 a2 a3) := by
  unfold importDone
  extract_lets +onlyGivenNames x5
  clear_value x5
  refine Keeps.ite (svcDrop_keeps (sub_trans rfl w) h0) ?_
  extract_lets +onlyGivenNames x6
  have h7 : Keeps s0 x6 := memberSeen_keeps (sub_trans rfl w) h0
  clear_value x6
  extract_lets +onlyGivenNames x8
  clear_value x8
  exact ownerMsg_keeps w (dmod_keeps (sub_trans rfl w) h7)

theorem execCancelMessage_keeps {s0 : From} {a0} (w : sub 187469919579666480198075028472257329747857671528783763069120640740978835887230331838466 s0.W = true) (h0 : Keeps s0 a0) : KeepsOut s0 (execCancelMessage a0) := by
  unfold execCancelMessage
  refine KeepsOut.next ?_
  split
  · exact h0
  · rename_i h5
    have h6 := KeepsOptP.get (s := s0) (π := fun t => t.2) h5 (svcHead_keeps (sub_trans rfl w) h0)
    extract_lets +onlyGivenNames x7
    have h8 : ∀ x00 x01, Keeps s0 x00 → Keeps s0 (x7 x00 x01) := fun x9 x10 h11 => (deviceSend_keeps (sub_trans rfl w) h11)
    clear_value x7
    refine Keeps.ite ?_ (Keeps.ite (h8 _ _ h6) (svcDrop_keeps (sub_trans rfl w) h6))
    extract_lets +onlyGivenNames x12
    have h13 : Keeps s0 x12.2 := cancelCtx_keeps w h6
    clear_value x12
    exact h8 _ _ h13

theorem execReport_keeps {s0 : From} {a0} (w : sub 187469919579666480198075028472257329747857671528783763069120640740978835887230331838466 s0.W = true) (h0 : Keeps s0 a0) : KeepsOut s0 (execReport a0) := by
  unfold execReport
  refine KeepsOut.next ?_
  split
  · exact h0
  · rename_i h5
    have h6 := KeepsOptP.get (s := s0) (π := fun t => t.2) h5 (svcHead_keeps (sub_trans rfl w) h0)
    exact Keeps.ite (svcDrop_keeps (sub_trans rfl w) h6) (Keeps.ite (cancelCtx_keeps w h6) h6)

theorem execImportDone_keeps {s0 : From} {a0} (w : sub 187469919579666480198075028472257329747857671528783763038696716699375781454412083290114 s0.W = true) (h0 : Keeps s0 a0) : KeepsOut s0 (execImportDone a0) := by
  unfold execImportDone
  refine KeepsOut.next ?_
  split
  · exact h0
  · rename_i h5
    have h6 := KeepsOptP.get (s := s0) (π := fun t => t.2) h5 (svcHead_keeps (sub_trans rfl w) h0)
    exact Keeps.ite (importDone_keeps w h6) (svcDrop_keeps (sub_trans rfl w) h6)

theorem execImportKeyed_keeps {s0 : From} {a0} (w : sub 187469919579666480198075028472257329747857671528783763038696716699375781454412083290114 s0.W = true) (h0 : Keeps s0 a0) : KeepsOut s0 (execImportKeyed a0) := by
  unfold execImportKeyed
  refine KeepsOut.next ?_
  split
  · exact h0
  · rename_i h5
    have h6 := KeepsOptP.get (s := s0) (π := fun t => t.2) h5 (svcHead_keeps (sub_trans rfl w) h0)
    extract_lets +onlyGivenNames x7
    clear_value x7
    exact Keeps.ite (importDone_keeps w h6) (svcDrop_keeps (sub_trans rfl w) h6)

end Sys2Proof.Machine
end

