-- ==== Sys2Proof/Laws/KeepsEgress.lean ====
section
/-!
SUPPORT. What the operations of `Sys2Proof.Machine.Egress` keep (`Sys2Proof.Machine.Keeps`): one lemma for each.
-/

namespace Sys2Proof.Machine

theorem txMark_keeps {s0 : From} {a0 a1 a2} (w : sub 2097152 s0.W = true) (h0 : Keeps s0 a0) : Keeps s0 (txMark a0 a1 a2) := by
  unfold txMark
  extract_lets +onlyGivenNames x5 x6
  clear_value x5 x6
  exact upd_host (sub_trans rfl w) h0

theorem latchPtp_keeps {s0 : From} {a0 a1 a2} (w : sub 5476239166764973708291737439550862480582544960828553785224170831872 s0.W = true) (h0 : Keeps s0 a0) : Keeps s0 (latchPtp a0 a1 a2) := by
  unfold latchPtp
  extract_lets +onlyGivenNames x5
  clear_value x5
  extract_lets +onlyGivenNames x6
  have h7 : Keeps s0 x6 := fsetIf_keeps h0 rfl (sub_trans rfl w)
  clear_value x6
  extract_lets +onlyGivenNames x8
  have h9 : Keeps s0 x8 := fput_keeps h7 rfl (sub_trans rfl w)
  clear_value x8
  extract_lets +onlyGivenNames x10
  have h11 : Keeps s0 x10 := fput_keeps h9 rfl (sub_trans rfl w)
  clear_value x10
  extract_lets +onlyGivenNames x12
  have h13 : Keeps s0 x12 := fput_keeps h11 rfl (sub_trans rfl w)
  clear_value x12
  exact fset_keeps h13 rfl (sub_trans rfl w)

theorem sendFrame_keeps {s0 : From} {a0 a1 a2} (w : sub 5489403203223543356628977193011321284622406847753622424680717615104 s0.W = true) (h0 : Keeps s0 a0) : Keeps s0 (sendFrame a0 a1 a2) := by
  unfold sendFrame
  extract_lets +onlyGivenNames x5
  have h6 : Keeps s0 x5 := frameOut_keeps (sub_trans rfl w) h0
  clear_value x5
  split
  · exact fadd1_keeps h6 rfl (sub_trans rfl w)
  · exact Keeps.ite (latchPtp_keeps (sub_trans rfl w) (txMark_keeps (sub_trans rfl w) h6)) (txMark_keeps (sub_trans rfl w) h6)
  · exact h6

theorem sendClass_keeps {s0 : From} {a0 a1 a2 a3 a4} (w : sub 5489403203223543356628977193011321284622406847753622424697897484288 s0.W = true) (h0 : Keeps s0 a0) : Keeps s0 (sendClass a0 a1 a2 a3 a4) := by
  unfold sendClass
  split
  extract_lets +onlyGivenNames x5 x6 x7 x8 x9 x10 x11
  clear_value x5 x6 x7 x8 x9 x10 x11
  exact sendFrame_keeps (sub_trans rfl w) (pqPut_keeps (sub_trans rfl w) h0)

theorem portClear_keeps {s0 : From} {a0 a1} (w : sub 17181966336 s0.W = true) (h0 : Keeps s0 a0) : Keeps s0 (portClear a0 a1) := by
  unfold portClear
  extract_lets +onlyGivenNames x5 x6
  clear_value x5 x6
  extract_lets +onlyGivenNames x7
  have h8 : Keeps s0 x7 := Keeps.foldl (fun x9 x10 h11 => (txMark_keeps (sub_trans rfl w) h11)) _ h0
  clear_value x7
  exact pqPut_keeps (sub_trans rfl w) h8

theorem linkDown_keeps {s0 : From} {a0 a1} (w : sub 421249166674228746791672110734681729275580381602196445034425876480 s0.W = true) (h0 : Keeps s0 a0) : Keeps s0 (linkDown a0 a1) := by
  unfold linkDown
  exact Keeps.ite (portClear_keeps (sub_trans rfl w) (fput_keeps h0 rfl (sub_trans rfl w))) h0

theorem execLinkDown_keeps {s0 : From} {a0 a1} (w : sub 421249166674228746791672110734681729275580381602196445034425876480 s0.W = true) (h0 : Keeps s0 a1) : KeepsOut s0 (execLinkDown a0 a1) := by
  unfold execLinkDown
  exact KeepsOut.next (linkDown_keeps w h0)

theorem sendPriv_keeps {s0 : From} {a0 a1 a2} (w : sub 5489403203223543356628977193011321284622406847753622424697897484288 s0.W = true) (h0 : Keeps s0 a0) : Keeps s0 (sendPriv a0 a1 a2) := by
  unfold sendPriv
  extract_lets +onlyGivenNames x5
  clear_value x5
  split
  · exact h0
  · extract_lets +onlyGivenNames x6 x7
    clear_value x6 x7
    extract_lets +onlyGivenNames x8
    have h9 : Keeps s0 x8 := pqPut_keeps (sub_trans rfl w) h0
    clear_value x8
    extract_lets +onlyGivenNames x10
    have h11 : Keeps s0 x10 := headTag_keeps (sub_trans rfl w) h9
    clear_value x10
    extract_lets +onlyGivenNames x12
    clear_value x12
    extract_lets +onlyGivenNames x13
    have h14 : Keeps s0 x13 := Keeps.ite (pqPut_keeps (sub_trans rfl w) h11) h11
    clear_value x13
    exact sendFrame_keeps (sub_trans rfl w) h14

theorem frameStart_keeps {s0 : From} {a0 a1} (w : sub 5489403203223543356628977193011321284622406847753622424697897484288 s0.W = true) (h0 : Keeps s0 a0) : Keeps s0 (frameStart a0 a1) := by
  unfold frameStart
  refine Keeps.ite h0 ?_
  split
  · exact sendPriv_keeps w h0
  · extract_lets +onlyGivenNames x5 x6
    clear_value x5 x6
    split
    · exact sendClass_keeps w h0
    · extract_lets +onlyGivenNames x7
      clear_value x7
      refine Keeps.ite h0 ?_
      extract_lets +onlyGivenNames x8 x9 x10 x11
      clear_value x8 x9 x10 x11
      split
      extract_lets +onlyGivenNames x12
      clear_value x12
      extract_lets +onlyGivenNames x13
      have h14 : Keeps s0 x13 := pqPut_keeps (sub_trans rfl w) h0
      clear_value x13
      split
      · exact sendClass_keeps w h14
      · exact h14

theorem execFrameStart_keeps {s0 : From} {a0 a1} (w : sub 5489403203223543356628977193011321284622406847753622424697897484288 s0.W = true) (h0 : Keeps s0 a1) : KeepsOut s0 (execFrameStart a0 a1) := by
  unfold execFrameStart
  exact KeepsOut.next (frameStart_keeps w h0)

theorem execGateEntry_keeps {s0 : From} {a0 a1} (w : sub 17179869184 s0.W = true) (h0 : Keeps s0 a1) : KeepsOut s0 (execGateEntry a0 a1) := by
  unfold execGateEntry
  exact KeepsOut.next (Keeps.ite (pqPut_keeps w h0) h0)

theorem execLinkUp_keeps {s0 : From} {a0 a1} (w : sub 421249166674228746791672110734681729275580381602196445017243910144 s0.W = true) (h0 : Keeps s0 a1) : KeepsOut s0 (execLinkUp a0 a1) := by
  unfold execLinkUp
  exact KeepsOut.next (Keeps.ite (fput_keeps h0 rfl (sub_trans rfl w)) h0)

end Sys2Proof.Machine
end

