-- ==== Sys2Proof/Laws/KeepsAttention.lean ====
section
/-!
SUPPORT. What the operations of `Sys2Proof.Machine.Attention` keep (`Sys2Proof.Machine.Keeps`): one lemma for each.
-/

namespace Sys2Proof.Machine

theorem setProg_keeps {s0 : From} {a0 a1 a2 a3 a4 a5} (w : sub 1073766400 s0.W = true) (h0 : Keeps s0 a0) : Keeps s0 (setProg a0 a1 a2 a3 a4 a5) := by
  unfold setProg
  exact memPut_keeps w h0

theorem attReply_keeps {s0 : From} {a0 a1 a2} (w : sub 187469919579666480198075028472257329747857672922580337946860663045358173494934677413890 s0.W = true) (h0 : Keeps s0 a0) : Keeps s0 (attReply a0 a1 a2) := by
  unfold attReply
  extract_lets +onlyGivenNames x5
  have h6 : Keeps s0 x5 := fsetIf_keeps (fsetIf_keeps h0 rfl (sub_trans rfl w)) rfl (sub_trans rfl w)
  clear_value x5
  extract_lets +onlyGivenNames x7
  have h8 : Keeps s0 x7 := fsetIf_keeps (fsetIf_keeps h6 rfl (sub_trans rfl w)) rfl (sub_trans rfl w)
  clear_value x7
  extract_lets +onlyGivenNames x9
  have h10 : Keeps s0 x9 := Keeps.ite (fadd1_keeps h8 rfl (sub_trans rfl w)) (fadd1_keeps h8 rfl (sub_trans rfl w))
  clear_value x9
  exact deviceOp_keeps (sub_trans rfl w) h10

theorem progRepair_keeps {s0 : From} {a0 a1} (w : sub 187467548099782855343728074008469574490992259968531463800799897577583195385810613854208 s0.W = true) (h0 : Keeps s0 a0) : Keeps s0 (progRepair a0 a1) := by
  unfold progRepair
  refine Keeps.ite h0 ?_
  extract_lets +onlyGivenNames x5
  have h6 : Keeps s0 x5 := lineFailure_keeps w h0
  clear_value x5
  exact setProg_keeps (sub_trans rfl w) h6

theorem attRequest_keeps {s0 : From} {a0 a1} (w : sub 187469919579666480198075028472257329747857672922580337946860663045358173494934677413890 s0.W = true) (h0 : Keeps s0 a0) : Keeps s0 (attRequest a0 a1) := by
  unfold attRequest
  split
  · exact h0
  · refine Keeps.ite h0 ?_
    extract_lets +onlyGivenNames x5
    clear_value x5
    extract_lets +onlyGivenNames x6
    have h7 : Keeps s0 x6 := upd_bnk (sub_trans rfl w) h0
    clear_value x6
    extract_lets +onlyGivenNames x8 x9 x10
    clear_value x8 x9 x10
    split
    · exact attReply_keeps w (Keeps.ite (progRepair_keeps (sub_trans rfl w) h7) h7)
    · exact h7
    · extract_lets +onlyGivenNames x11 x12
      clear_value x11 x12
      extract_lets +onlyGivenNames x13
      have h14 : Keeps s0 x13 := Keeps.ite (setProg_keeps (sub_trans rfl w) h7) h7
      clear_value x13
      extract_lets +onlyGivenNames x15
      clear_value x15
      extract_lets +onlyGivenNames x16
      have h17 : Keeps s0 x16 := upd_bnk (sub_trans rfl w) h14
      clear_value x16
      extract_lets +onlyGivenNames x18
      clear_value x18
      exact Keeps.foldl (fun x19 x20 h21 => (pushToSet_keeps (sub_trans rfl w) h21)) _ h17

theorem execAttentionRequest_keeps {s0 : From} {a0 a1} (w : sub 187469919579666480198075028472257329747857672922580337946860663045358173494934677413890 s0.W = true) (h0 : Keeps s0 a1) : KeepsOut s0 (execAttentionRequest a0 a1) := by
  unfold execAttentionRequest
  exact KeepsOut.next (attRequest_keeps w h0)

theorem attItemsEnd_keeps {s0 : From} {a0 a1} (w : sub 187469919579666480198075028472257329747857672922580337946860663045358173494934677413890 s0.W = true) (h0 : Keeps s0 a0) : Keeps s0 (attItemsEnd a0 a1) := by
  unfold attItemsEnd
  split
  · exact h0
  · refine Keeps.ite h0 ?_
    extract_lets +onlyGivenNames x5 x6
    clear_value x5 x6
    extract_lets +onlyGivenNames x7
    have h8 : Keeps s0 x7 := upd_bnk (sub_trans rfl w) h0
    clear_value x7
    extract_lets +onlyGivenNames x9
    have h10 : Keeps s0 x9 := attReply_keeps w h8
    clear_value x9
    extract_lets +onlyGivenNames x11 x12
    clear_value x11 x12
    refine Keeps.ite h10 ?_
    refine Keeps.ite (setProg_keeps (sub_trans rfl w) h10) ?_
    refine Keeps.ite (setProg_keeps (sub_trans rfl w) h10) ?_
    extract_lets +onlyGivenNames x13
    have h14 : Keeps s0 x13 := setProg_keeps (sub_trans rfl w) h10
    clear_value x13
    exact dmod_keeps (sub_trans rfl w) h14

theorem execAttentionItemsEnd_keeps {s0 : From} {a0 a1} (w : sub 187469919579666480198075028472257329747857672922580337946860663045358173494934677413890 s0.W = true) (h0 : Keeps s0 a1) : KeepsOut s0 (execAttentionItemsEnd a0 a1) := by
  unfold execAttentionItemsEnd
  exact KeepsOut.next (attItemsEnd_keeps w h0)

end Sys2Proof.Machine
end

