-- ==== Sys2Proof/Laws/KeepsTie.lean ====
section
/-!
SUPPORT. What the operations of `Sys2Proof.Machine.Tie` keep (`Sys2Proof.Machine.Keeps`): one lemma for each.
-/

namespace Sys2Proof.Machine

theorem windowsGone_keeps {s0 : From} {a0 a1} (w : sub 23384026197294446691258957323460528314494920818688 s0.W = true) (h0 : Keeps s0 a0) : Keeps s0 (windowsGone a0 a1) := by
  unfold windowsGone
  refine Keeps.foldl (fun x5 x6 h7 => ?_) _ h0
  refine Keeps.ite h7 ?_
  extract_lets +onlyGivenNames x8 x9
  clear_value x8 x9
  extract_lets +onlyGivenNames x10
  have h11 : Keeps s0 x10 := Keeps.foldl (fun x12 x13 h14 => (setUse_keeps (sub_trans rfl w) h14)) _ h7
  clear_value x10
  exact fput_keeps (fput_keeps (winPut_keeps (sub_trans rfl w) h11) rfl (sub_trans rfl w)) rfl (sub_trans rfl w)

theorem gatherGo_keeps {s0 : From} {a0 a1} (w : sub 913438523331814323877303020447676887835924127746 s0.W = true) (h0 : Keeps s0 a0) : Keeps s0 (gatherGo a0 a1) := by
  unfold gatherGo
  extract_lets +onlyGivenNames x5
  clear_value x5
  refine Keeps.ite (tieDone_keeps (sub_trans rfl w) h0) ?_
  split
  · exact tieDone_keeps (sub_trans rfl w) h0
  · extract_lets +onlyGivenNames x6 x7 x8 x9
    clear_value x6 x7 x8 x9
    split
    · rename_i h10
      have h11 := KeepsOptP.get (s := s0) (π := fun t => t.2) h10 (KeepsOptP.ite (takeSide_keeps (sub_trans rfl w) h0) (KeepsOptP.some h0))
      extract_lets +onlyGivenNames x12
      have h13 : Keeps s0 x12 := Keeps.ite (memWrite_keeps (sub_trans rfl w) h11) h11
      clear_value x12
      exact moveStart_keeps (sub_trans rfl w) (takeFrame_keeps (sub_trans rfl w) h13)
    · exact tieDone_keeps (sub_trans rfl w) h0

theorem objRelease_keeps {s0 : From} {a0 a1} (w : sub 275951804416 s0.W = true) (h0 : Keeps s0 a0) : Keeps s0 (objRelease a0 a1) := by
  unfold objRelease
  refine Keeps.foldl (fun x5 x6 h7 => ?_) _ h0
  extract_lets +onlyGivenNames x8
  clear_value x8
  exact Keeps.ite (memPut_keeps (sub_trans rfl w) (giveFrame_keeps w h7)) h7

theorem windowGet_keeps {s0 : From} {a0 a1 a2 a3 a4 a5 a6} (w : sub 187469919579666480198075028472257329747857671528783763038696716699375781454412083290114 s0.W = true) (h0 : Keeps s0 a0) : Keeps s0 (windowGet a0 a1 a2 a3 a4 a5 a6) := by
  unfold windowGet
  exact deviceOp_keeps w h0

theorem fillStart_keeps {s0 : From} {a0 a1 a2 a3} (w : sub 187469919579666480198075028472257329747857671528783763038696716699375781454412083290114 s0.W = true) (h0 : Keeps s0 a0) : Keeps s0 (fillStart a0 a1 a2 a3) := by
  unfold fillStart
  refine Keeps.ite ?_ h0
  extract_lets +onlyGivenNames x5 x6
  clear_value x5 x6
  extract_lets +onlyGivenNames x7
  have h8 : Keeps s0 x7 := winPut_keeps (sub_trans rfl w) h0
  clear_value x7
  exact Keeps.foldl (fun x9 x10 h11 => (windowGet_keeps w h11)) _ h8

theorem dropPasses_keeps {s0 : From} {a0 a1} (w : sub 131072 s0.W = true) (h0 : Keeps s0 a0) : Keeps s0 (dropPasses a0 a1) := by
  unfold dropPasses
  refine Keeps.ite h0 ?_
  extract_lets +onlyGivenNames x5 x6
  clear_value x5 x6
  exact winPut_keeps w h0

theorem windowNext_keeps {s0 : From} {a0 a1} (w : sub 187469919579666480198075028472257329747857671528783763038696716699375781454412083290114 s0.W = true) (h0 : Keeps s0 a0) : Keeps s0 (windowNext a0 a1) := by
  unfold windowNext
  extract_lets +onlyGivenNames x5
  have h6 : Keeps s0 x5 := dropPasses_keeps (sub_trans rfl w) h0
  clear_value x5
  extract_lets +onlyGivenNames x7 x8 x9
  clear_value x7 x8 x9
  exact Keeps.ite h6 (fillStart_keeps w (winPut_keeps (sub_trans rfl w) h6))

theorem dropNew_keeps {s0 : From} {a0 a1 a2} (w : sub 187467548099782855343728074008469574490992259968531463800799897577583195386085625978880 s0.W = true) (h0 : Keeps s0 a0) : Keeps s0 (dropNew a0 a1 a2) := by
  unfold dropNew
  extract_lets +onlyGivenNames x5
  clear_value x5
  extract_lets +onlyGivenNames x6
  have h7 : Keeps s0 x6 := Keeps.ite (dropSide_keeps (sub_trans rfl w) h0) h0
  clear_value x6
  exact Keeps.ite (dropShare_keeps (sub_trans rfl w) h7) (giveFrame_keeps (sub_trans rfl w) h7)

theorem refillSet_keeps {s0 : From} {a0 a1 a2 a3} (w : sub 131072 s0.W = true) (h0 : Keeps s0 a0) : Keeps s0 (refillSet a0 a1 a2 a3) := by
  unfold refillSet
  exact winPut_keeps w h0

theorem endHeld_keeps {s0 : From} {a0 a1 a2} (w : sub 2371421987580235682274733772977928352834969285952318751528091320482061480229494784 s0.W = true) (h0 : Keeps s0 a0) : Keeps s0 (endHeld a0 a1 a2) := by
  unfold endHeld
  extract_lets +onlyGivenNames x5 x6
  clear_value x5 x6
  extract_lets +onlyGivenNames x7
  have h8 : ∀ x00 x01 x02, Keeps s0 x00 → Keeps s0 (x7 x00 x01 x02) := fun x9 x10 x11 h12 => (faultContexts_keeps (sub_trans rfl w) (stepSub_keeps (sub_trans rfl w) h12))
  clear_value x7
  extract_lets +onlyGivenNames x13
  clear_value x13
  extract_lets +onlyGivenNames x14
  have h15 : Keeps s0 x14 := Keeps.foldl (fun x16 x17 h18 => (Keeps.foldl (fun x19 x20 h21 => (h8 _ _ _ h21)) _ (tupd_keeps (sub_trans rfl w) h18))) _ h0
  clear_value x14
  exact Keeps.foldl (fun x22 x23 h24 => (Keeps.foldl (fun x25 x26 h27 => (h8 _ _ _ h27)) _ (shupd_keeps (sub_trans rfl w) h24))) _ h15

theorem windowFault_keeps {s0 : From} {a0 a1 a2 a3} (w : sub 2371421987580235682274733772977952467611985245850469112327831139151885803116453888 s0.W = true) (h0 : Keeps s0 a0) : Keeps s0 (windowFault a0 a1 a2 a3) := by
  unfold windowFault
  extract_lets +onlyGivenNames x5
  clear_value x5
  extract_lets +onlyGivenNames x6
  have h7 : Keeps s0 x6 := winPut_keeps (sub_trans rfl w) h0
  clear_value x6
  exact endHeld_keeps (sub_trans rfl w) (fset_keeps (fput_keeps h7 rfl (sub_trans rfl w)) rfl (sub_trans rfl w))

theorem refillFails_keeps {s0 : From} {a0 a1 a2} (w : sub 2371421987580235682274733772977952467611985245850469112327831139151885803116453888 s0.W = true) (h0 : Keeps s0 a0) : Keeps s0 (refillFails a0 a1 a2) := by
  unfold refillFails
  extract_lets +onlyGivenNames x5
  clear_value x5
  refine Keeps.ite (refillSet_keeps (sub_trans rfl w) h0) ?_
  extract_lets +onlyGivenNames x6
  have h7 : Keeps s0 x6 := refillSet_keeps (sub_trans rfl w) h0
  clear_value x6
  split
  · exact windowFault_keeps w h7
  · exact h7

theorem objStarts_keeps {s0 : From} {a0 a1 a2 a3 a4 a5} (w : sub 131074 s0.W = true) (h0 : Keeps s0 a0) : Keeps s0 (objStarts a0 a1 a2 a3 a4 a5).1 := by
  induction a5 generalizing a0 a1 a2 a3 a4 with
  | zero =>
    unfold objStarts
    exact h0
  | succ n ih =>
    unfold objStarts
    split
    · exact h0
    · split
      · exact h0
      · split
        · exact h0
        · exact ih (moveStart_keeps (sub_trans rfl w) (setUse_keeps (sub_trans rfl w) (bump_keeps (sub_trans rfl w) h0)))

theorem objNext_keeps {s0 : From} {a0 a1 a2 a3 a4} (w : sub 131074 s0.W = true) (h0 : Keeps s0 a0) : KeepsOpt s0 (objNext a0 a1 a2 a3 a4).1 := by
  unfold objNext
  extract_lets +onlyGivenNames x5
  have h6 : Keeps s0 x5.1 := objStarts_keeps w h0
  clear_value x5
  split
  · exact KeepsOpt.none
  · exact KeepsOpt.some h6

theorem demote_keeps {s0 : From} {a0 a1 a2} (w : sub 1096126227998177188652763624537212265017901211650 s0.W = true) (h0 : Keeps s0 a0) : Keeps s0 (demote a0 a1 a2) := by
  unfold demote
  extract_lets +onlyGivenNames x5
  clear_value x5
  refine Keeps.ite (fadd1_keeps (fset_keeps (objState_keeps (sub_trans rfl w) (objRelease_keeps (sub_trans rfl w) h0)) rfl (sub_trans rfl w)) rfl (sub_trans rfl w)) ?_
  split
  · rename_i h6
    have h7 := KeepsOpt.at (s := s0) (fun p => p.1) h6 (objNext_keeps (sub_trans rfl w) (objState_keeps (sub_trans rfl w) h0))
    exact KeepsOpt.get rfl h7
  · rename_i h8
    have h9 := KeepsOpt.at (s := s0) (fun p => p.1) h8 (objNext_keeps (sub_trans rfl w) (objState_keeps (sub_trans rfl w) h0))
    exact h0

theorem fillReady_keeps {s0 : From} {a0 a1 a2 a3} (w : sub 187469919579666480198075028472257329771241697726078209729955674022836309768907003977730 s0.W = true) (h0 : Keeps s0 a0) : Keeps s0 (fillReady a0 a1 a2 a3) := by
  unfold fillReady
  extract_lets +onlyGivenNames x5 x6
  clear_value x5 x6
  extract_lets +onlyGivenNames x7
  have h8 : Keeps s0 x7 := winPut_keeps (sub_trans rfl w) h0
  clear_value x7
  extract_lets +onlyGivenNames x9
  have h10 : Keeps s0 x9 := fadd1_keeps (fput_keeps h8 rfl (sub_trans rfl w)) rfl (sub_trans rfl w)
  clear_value x9
  extract_lets +onlyGivenNames x11
  have h12 : Keeps s0 x11 := Keeps.ite h10 (objUsed_keeps (sub_trans rfl w) h10)
  clear_value x11
  exact Keeps.ite (fput_keeps h12 rfl (sub_trans rfl w)) (windowNext_keeps (sub_trans rfl w) h12)

theorem transferSend_keeps {s0 : From} {a0 a1 a2 a3} (w : sub 187469919579666480198075028472257329747857671528783763038696716699375781454412083290114 s0.W = true) (h0 : Keeps s0 a0) : Keeps s0 (transferSend a0 a1 a2 a3) := by
  unfold transferSend
  extract_lets +onlyGivenNames x5 x6 x7
  clear_value x5 x6 x7
  refine Keeps.foldl (fun x8 x9 h10 => ?_) _ h0
  split
  extract_lets +onlyGivenNames x11
  clear_value x11
  exact deviceOp_keeps w h10

theorem transferPieces_keeps {s0 : From} {a0 a1 a2 a3} (w : sub 187469919579666480198075028472257329748771110052115577392997943761426512774515289677826 s0.W = true) (h0 : Keeps s0 a0) : Keeps s0 (transferPieces a0 a1 a2 a3) := by
  unfold transferPieces
  extract_lets +onlyGivenNames x5
  clear_value x5
  extract_lets +onlyGivenNames x6
  have h7 : Keeps s0 x6 := transferSend_keeps (sub_trans rfl w) (upd_tie (sub_trans rfl w) h0)
  clear_value x6
  exact Keeps.ite (exportDone_keeps w h7) h7

theorem transferPage_keeps {s0 : From} {a0 a1 a2 a3} (w : sub 187469919579666480198075028472257329748771110052115577392997943761426512774515289677826 s0.W = true) (h0 : Keeps s0 a0) : Keeps s0 (transferPage a0 a1 a2 a3) := by
  unfold transferPage
  extract_lets +onlyGivenNames x5
  clear_value x5
  exact Keeps.elim (transferPieces_keeps w h0) (fun x6 => (tieDone_keeps (sub_trans rfl w) (pageLost_keeps (sub_trans rfl w) (lineFailureOf_keeps (sub_trans rfl w) h0))))

theorem transferGo_keeps {s0 : From} {a0 a1} (w : sub 187469919579666480198075028472257329748771110052115577392997943761426512774515289677826 s0.W = true) (h0 : Keeps s0 a0) : Keeps s0 (transferGo a0 a1) := by
  unfold transferGo
  extract_lets +onlyGivenNames x5 x6 x7
  clear_value x5 x6 x7
  refine Keeps.ite h0 ?_
  extract_lets +onlyGivenNames x8
  clear_value x8
  extract_lets +onlyGivenNames x9
  have h10 : Keeps s0 x9 := upd_fab (sub_trans rfl w) h0
  clear_value x9
  refine Keeps.ite (tieDone_keeps (sub_trans rfl w) h10) ?_
  split
  · exact tieDone_keeps (sub_trans rfl w) h10
  · split
    · exact transferEnd_keeps w h10
    · exact Keeps.ite h10 (transferPage_keeps w h10)

theorem windowOff_keeps {s0 : From} {a0 a1} (w : sub 29230032746618058364073696654325660393118650990592 s0.W = true) (h0 : Keeps s0 a0) : Keeps s0 (windowOff a0 a1) := by
  unfold windowOff
  extract_lets +onlyGivenNames x5
  have h6 : Keeps s0 x5 := Keeps.foldl (fun x7 x8 h9 => (setUse_keeps (sub_trans rfl w) h9)) _ h0
  clear_value x5
  exact fput_keeps (fput_keeps (winPut_keeps (sub_trans rfl w) h6) rfl (sub_trans rfl w)) rfl (sub_trans rfl w)

theorem windowOn_keeps {s0 : From} {a0 a1 a2} (w : sub 29230032746618058364073696654325660393118650990592 s0.W = true) (h0 : Keeps s0 a0) : Keeps s0 (windowOn a0 a1 a2) := by
  unfold windowOn
  extract_lets +onlyGivenNames x5
  have h6 : Keeps s0 x5 := rput_keeps h0 (sub_trans rfl w) (fun h7 => (Reg.holds_full rfl _))
  clear_value x5
  extract_lets +onlyGivenNames x8
  clear_value x8
  extract_lets +onlyGivenNames x9
  have h10 : Keeps s0 x9 := Keeps.foldl (fun x11 x12 h13 => (setUse_keeps (sub_trans rfl w) h13)) _ h6
  clear_value x9
  extract_lets +onlyGivenNames x14
  clear_value x14
  extract_lets +onlyGivenNames x15
  have h16 : Keeps s0 x15 := fput_keeps (fput_keeps h10 rfl (sub_trans rfl w)) rfl (sub_trans rfl w)
  clear_value x15
  exact winPut_keeps (sub_trans rfl w) h16

theorem imageWindows_keeps {s0 : From} {a0} (w : sub 29960783565283509823175539070683801902946617262080 s0.W = true) (h0 : Keeps s0 a0) : Keeps s0 (imageWindows a0) := by
  unfold imageWindows
  refine Keeps.foldl (fun x5 x6 h7 => ?_) _ h0
  refine Keeps.ite h7 ?_
  extract_lets +onlyGivenNames x8
  clear_value x8
  extract_lets +onlyGivenNames x9
  have h10 : Keeps s0 x9 := fput_keeps h7 rfl (sub_trans rfl w)
  clear_value x9
  exact Keeps.ite (windowOn_keeps (sub_trans rfl w) h10) (fset_keeps h10 rfl (sub_trans rfl w))

theorem setReclaiming_keeps {s0 : From} {a0 a1 a2} (w : sub 131072 s0.W = true) (h0 : Keeps s0 a0) : Keeps s0 (setReclaiming a0 a1 a2) := by
  unfold setReclaiming
  exact upd_tie (sub_trans rfl w) h0

theorem tieWinCtl_keeps {s0 : From} {a0 a1 a2} (w : sub 187469919579666480198075028472257329777818455094067272861872255770059583357358700421122 s0.W = true) (h0 : Keeps s0 a0) : Keeps s0 (tieWinCtl a0 a1 a2) := by
  unfold tieWinCtl
  extract_lets +onlyGivenNames x5
  clear_value x5
  exact Keeps.ite (Keeps.ite (fset_keeps h0 rfl (sub_trans rfl w)) (Keeps.ite (winPut_keeps (sub_trans rfl w) h0) (windowOff_keeps (sub_trans rfl w) h0))) (Keeps.ite (rput_keeps h0 (sub_trans rfl w) (fun h6 => (Reg.holds_full rfl _))) (Keeps.ite (windowNext_keeps (sub_trans rfl w) (windowOn_keeps (sub_trans rfl w) h0)) (fset_keeps h0 rfl (sub_trans rfl w))))

theorem dropOldSide_keeps {s0 : From} {a0 a1 a2} (w : sub 134217728 s0.W = true) (h0 : Keeps s0 a0) : Keeps s0 (dropOldSide a0 a1 a2) := by
  unfold dropOldSide
  extract_lets +onlyGivenNames x5
  clear_value x5
  exact Keeps.ite (dropSide_keeps w h0) h0

theorem reclaimOne_keeps {s0 : From} {a0 a1 a2} (w : sub 187469919521770435579410348742242552420441221190315923756935682704406915879662529208322 s0.W = true) (h0 : Keeps s0 a0) : Keeps s0 (reclaimOne a0 a1 a2) := by
  unfold reclaimOne
  split
  · exact fadd1_keeps (endNow_keeps (sub_trans rfl w) h0) rfl (sub_trans rfl w)
  · exact demote_keeps (sub_trans rfl w) h0
  · exact evictNode_keeps (sub_trans rfl w) h0

theorem moveNoRoom_keeps {s0 : From} {a0 a1} (w : sub 2371421987580235682274733772977929266273492617766647699433512681076554751996485632 s0.W = true) (h0 : Keeps s0 a0) : Keeps s0 (moveNoRoom a0 a1) := by
  unfold moveNoRoom
  split
  · split
    · exact Keeps.ite h0 (tieDone_keeps (sub_trans rfl w) (objUsed_keeps (sub_trans rfl w) (objState_keeps (sub_trans rfl w) h0)))
    · exact h0
  · exact objState_keeps (sub_trans rfl w) h0
  · exact swapFail_keeps (sub_trans rfl w) h0
  · exact h0

theorem moveGo_keeps {s0 : From} {a0 a1} (w : sub 913438523331814323877303020447676887835789647874 s0.W = true) (h0 : Keeps s0 a0) : Keeps s0 (moveGo a0 a1) := by
  unfold moveGo
  extract_lets +onlyGivenNames x5
  clear_value x5
  refine Keeps.ite (tieDone_keeps (sub_trans rfl w) (objState_keeps (sub_trans rfl w) h0)) ?_
  split
  · rename_i h6
    have h7 := KeepsOpt.at (s := s0) (fun p => p.1) h6 (objNext_keeps (sub_trans rfl w) h0)
    exact KeepsOpt.get rfl h7
  · rename_i h8
    have h9 := KeepsOpt.at (s := s0) (fun p => p.1) h8 (objNext_keeps (sub_trans rfl w) h0)
    exact tieDone_keeps (sub_trans rfl w) (objUsed_keeps (sub_trans rfl w) (objState_keeps (sub_trans rfl w) h0))

theorem moveAfter_keeps {s0 : From} {a0 a1 a2} (w : sub 2371421987580235682274733772977929631648901950492377250354720860147309666114101250 s0.W = true) (h0 : Keeps s0 a0) : Keeps s0 (moveAfter a0 a1 a2) := by
  unfold moveAfter
  split
  · split
    · exact Keeps.ite h0 (Keeps.ite (tieDone_keeps (sub_trans rfl w) h0) (moveGo_keeps (sub_trans rfl w) h0))
    · exact h0
  · split
    · exact Keeps.ite h0 (Keeps.ite (tieDone_keeps (sub_trans rfl w) h0) (gatherGo_keeps (sub_trans rfl w) h0))
    · exact h0
  · refine Keeps.ite h0 ?_
    refine Keeps.ite (objState_keeps (sub_trans rfl w) h0) ?_
    split
    · rename_i h5
      have h6 := KeepsOpt.at (s := s0) (fun p => p.1) h5 (objNext_keeps (sub_trans rfl w) h0)
      exact KeepsOpt.get rfl h6
    · rename_i h7
      have h8 := KeepsOpt.at (s := s0) (fun p => p.1) h7 (objNext_keeps (sub_trans rfl w) h0)
      extract_lets +onlyGivenNames x9
      have h10 : Keeps s0 x9 := objState_keeps (sub_trans rfl w) h0
      clear_value x9
      exact Keeps.ite h10 (fadd1_keeps h10 rfl (sub_trans rfl w))
  · exact Keeps.ite (Keeps.ite (dmod_keeps (sub_trans rfl w) (cxUpd_keeps (sub_trans rfl w) h0)) h0) (swapNext_keeps (sub_trans rfl w) h0)
  · exact swapNext_keeps (sub_trans rfl w) h0

theorem frameMoveDone_keeps {s0 : From} {a0 a1} (w : sub 187469919521770435579410348742242552420623908870481956178050252298443342695200773791746 s0.W = true) (h0 : Keeps s0 a0) : Keeps s0 (frameMoveDone a0 a1) := by
  unfold frameMoveDone
  split
  · exact h0
  · extract_lets +onlyGivenNames x5
    clear_value x5
    refine Keeps.ite h0 ?_
    extract_lets +onlyGivenNames x6
    clear_value x6
    extract_lets +onlyGivenNames x7
    have h8 : Keeps s0 x7 := upd_tie (sub_trans rfl w) h0
    clear_value x7
    extract_lets +onlyGivenNames x9 x10
    clear_value x9 x10
    refine Keeps.ite (dropNew_keeps (sub_trans rfl w) h8) ?_
    refine Keeps.ite (moveAfter_keeps (sub_trans rfl w) (dropNew_keeps (sub_trans rfl w) h8)) ?_
    refine Keeps.ite (moveNoRoom_keeps (sub_trans rfl w) (dropNew_keeps (sub_trans rfl w) h8)) ?_
    split
    · extract_lets +onlyGivenNames x11
      have h12 : Keeps s0 x11 := dropNew_keeps (sub_trans rfl w) (lineFailureOf_keeps (sub_trans rfl w) h8)
      clear_value x11
      exact Keeps.ite (moveAfter_keeps (sub_trans rfl w) (pageLost_keeps (sub_trans rfl w) h12)) (moveAfter_keeps (sub_trans rfl w) (fset_keeps (objState_keeps (sub_trans rfl w) h12) rfl (sub_trans rfl w)))
    · extract_lets +onlyGivenNames x13
      have h14 : Keeps s0 x13 := copyFrame_keeps (sub_trans rfl w) h8
      clear_value x13
      refine Keeps.ite ?_ ?_
      · extract_lets +onlyGivenNames x15
        have h16 : Keeps s0 x15 := dropOldSide_keeps (sub_trans rfl w) h14
        clear_value x15
        exact moveAfter_keeps (sub_trans rfl w) (fwdSet_keeps (sub_trans rfl w) (releaseOld_keeps (sub_trans rfl w) (ptPut_keeps (sub_trans rfl w) h16)))
      · extract_lets +onlyGivenNames x17
        have h18 : Keeps s0 x17 := memPut_keeps (sub_trans rfl w) h14
        clear_value x17
        exact moveAfter_keeps (sub_trans rfl w) (fwdSet_keeps (sub_trans rfl w) (giveFrame_keeps (sub_trans rfl w) h18))

theorem fillFails_keeps {s0 : From} {a0 a1 a2 a3} (w : sub 187469919579666480198075028472257329771972448544743661189057516439194451278734974443522 s0.W = true) (h0 : Keeps s0 a0) : Keeps s0 (fillFails a0 a1 a2 a3) := by
  unfold fillFails
  exact Keeps.ite (fillStart_keeps (sub_trans rfl w) (winPut_keeps (sub_trans rfl w) h0)) (windowFault_keeps (sub_trans rfl w) h0)

theorem tieHead_keeps {s0 : From} {a0 a1} (w : sub 131072 s0.W = true) (h0 : Keeps s0 a0) : KeepsOptP s0 (fun t => t.2) (tieHead a0 a1) := by
  unfold tieHead
  refine KeepsOptP.ite KeepsOptP.none ?_
  split
  · exact KeepsOptP.none
  · exact KeepsOptP.ite (KeepsOptP.some (upd_tie (sub_trans rfl w) h0)) KeepsOptP.none

theorem execTransfer_keeps {s0 : From} {a0} (w : sub 187469919579666480198075028472257329748771110052115577392997943761426512774515289677826 s0.W = true) (h0 : Keeps s0 a0) : KeepsOut s0 (execTransfer a0) := by
  unfold execTransfer
  refine KeepsOut.next ?_
  split
  · exact Keeps.ite (transferGo_keeps w h0) h0
  · split
    · exact h0
    · rename_i h5
      have h6 := KeepsOptP.get (s := s0) (π := fun t => t.2) h5 (tieHead_keeps (sub_trans rfl w) h0)
      extract_lets +onlyGivenNames x7 x8
      clear_value x7 x8
      refine Keeps.ite (tieDone_keeps (sub_trans rfl w) h6) ?_
      refine Keeps.ite (tieDone_keeps (sub_trans rfl w) h6) ?_
      refine Keeps.ite (tieDone_keeps (sub_trans rfl w) h6) ?_
      extract_lets +onlyGivenNames x9
      clear_value x9
      extract_lets +onlyGivenNames x10
      have h11 : Keeps s0 x10 := bump_keeps (sub_trans rfl w) h6
      clear_value x10
      extract_lets +onlyGivenNames x12 x13
      clear_value x12 x13
      extract_lets +onlyGivenNames x14
      have h15 : Keeps s0 x14 := Keeps.upd 268566528 h11 (sub_trans rfl w) rfl
      clear_value x14
      exact transferGo_keeps w h15

theorem allocFrames_keeps {s0 : From} {a0 a1 a2 a3 a4 a5} (w : sub 1073897474 s0.W = true) (h0 : Keeps s0 a0) : KeepsOpt s0 (allocFrames a0 a1 a2 a3 a4 a5) := by
  induction a4 generalizing a0 a1 a2 a3 a5 with
  | zero =>
    unfold allocFrames
    exact KeepsOpt.some h0
  | succ n ih =>
    unfold allocFrames
    split
    · exact KeepsOpt.none
    · extract_lets +onlyGivenNames x5
      have h6 : Keeps s0 x5 := zeroFrame_keeps (sub_trans rfl w) (setUse_keeps (sub_trans rfl w) (bump_keeps (sub_trans rfl w) h0))
      clear_value x5
      exact ih (memPut_keeps (sub_trans rfl w) h6)

theorem execFrameMoveDone_keeps {s0 : From} {a0 a1} (w : sub 187469919521770435579410348742242552420623908870481956178050252298443342695200773791746 s0.W = true) (h0 : Keeps s0 a1) : KeepsOut s0 (execFrameMoveDone a0 a1) := by
  unfold execFrameMoveDone
  exact KeepsOut.next (frameMoveDone_keeps w h0)

theorem execTieWinCtl_keeps {s0 : From} {a0 a1 a2} (w : sub 187469919579666480198075028472257329777818455094067272861872255770207157309948376834050 s0.W = true) (h0 : Keeps s0 a2) : KeepsOut s0 (execTieWinCtl a0 a1 a2) := by
  unfold execTieWinCtl
  exact KeepsOut.next (regGate_keeps (sub_trans rfl w) h0 (sub_trans rfl w) (fun x5 h6 => (tieWinCtl_keeps (sub_trans rfl w) h6)))

theorem objCheck_keeps {s0 : From} {a0 a1} (w : sub 187467548099782855343728074008469574491723010787196915259901739993941336895638580125696 s0.W = true) (h0 : Keeps s0 a0) : Keeps s0 (objCheck a0 a1) := by
  unfold objCheck
  extract_lets +onlyGivenNames x5 x6 x7
  clear_value x5 x6 x7
  split
  · exact h0
  · exact Keeps.ite h0 (objState_keeps (sub_trans rfl w) (fset_keeps (lineFailureOf_keeps (sub_trans rfl w) h0) rfl (sub_trans rfl w)))

theorem execAlloc_keeps {s0 : From} {a0} (w : sub 187467548099782855343728074008469574491905698491863278124677200598030872273095705911298 s0.W = true) (h0 : Keeps s0 a0) : KeepsOut s0 (execAlloc a0) := by
  unfold execAlloc
  refine KeepsOut.next ?_
  split
  · exact h0
  · rename_i h5
    have h6 := KeepsOptP.get (s := s0) (π := fun t => t.2) h5 (tieHead_keeps (sub_trans rfl w) h0)
    extract_lets +onlyGivenNames x7 x8 x9 x10
    clear_value x7 x8 x9 x10
    refine Keeps.ite (tieDone_keeps (sub_trans rfl w) h6) ?_
    refine Keeps.ite (tieDone_keeps (sub_trans rfl w) h6) ?_
    extract_lets +onlyGivenNames x11
    have h12 : Keeps s0 x11 := objCheck_keeps (sub_trans rfl w) h6
    clear_value x11
    refine Keeps.ite (tieDone_keeps (sub_trans rfl w) h12) ?_
    split
    · exact tieDone_keeps (sub_trans rfl w) h12
    · rename_i h13
      have h14 := KeepsOptP.get (s := s0) (π := fun t => t.2) h13 (takePt_keeps (sub_trans rfl w) h12)
      split
      · exact tieDone_keeps (sub_trans rfl w) h12
      · rename_i h15
        have h16 := KeepsOpt.get (s := s0) h15 (allocFrames_keeps (sub_trans rfl w) h14)
        extract_lets +onlyGivenNames x17
        clear_value x17
        exact tieDone_keeps (sub_trans rfl w) (setObj_keeps (sub_trans rfl w) h16)

theorem windowsGo_keeps {s0 : From} {a0} (w : sub 187469919579666480198075028472257329747857671528783763038696716699375781454412083290114 s0.W = true) (h0 : Keeps s0 a0) : Keeps s0 (windowsGo a0) := by
  unfold windowsGo
  exact Keeps.foldl (fun x5 x6 h7 => (windowNext_keeps w h7)) _ h0

theorem refillOne_keeps {s0 : From} {a0 a1 a2} (w : sub 187469919579666480198075028472257329771972448544743661189057516439194451278734974443522 s0.W = true) (h0 : Keeps s0 a0) : Keeps s0 (refillOne a0 a1 a2) := by
  unfold refillOne
  split
  · extract_lets +onlyGivenNames x5
    clear_value x5
    refine Keeps.ite (refillSet_keeps (sub_trans rfl w) h0) ?_
    refine Keeps.ite h0 ?_
    refine Keeps.ite (windowGet_keeps (sub_trans rfl w) (winPut_keeps (sub_trans rfl w) h0)) ?_
    split
    · refine Keeps.ite h0 ?_
      split
      · exact refillFails_keeps (sub_trans rfl w) (lineFailure_keeps (sub_trans rfl w) h0)
      · exact copyFrame_keeps (sub_trans rfl w) (refillSet_keeps (sub_trans rfl w) h0)
    · exact refillFails_keeps (sub_trans rfl w) h0
  · exact refillSet_keeps (sub_trans rfl w) h0

theorem refillAll_keeps {s0 : From} {a0 a1} (w : sub 187469919579666480198075028472257329771972448544743661189057516439194451278734974443522 s0.W = true) (h0 : Keeps s0 a0) : Keeps s0 (refillAll a0 a1) := by
  unfold refillAll
  extract_lets +onlyGivenNames x5 x6 x7
  clear_value x5 x6 x7
  extract_lets +onlyGivenNames x8
  have h9 : Keeps s0 x8 := upd_fab (sub_trans rfl w) h0
  clear_value x8
  extract_lets +onlyGivenNames x10
  have h11 : Keeps s0 x10 := Keeps.foldl (fun x12 x13 h14 => (Keeps.ite (refillSet_keeps (sub_trans rfl w) h14) (refillFails_keeps (sub_trans rfl w) h14))) _ h9
  clear_value x10
  exact Keeps.foldl (fun x15 x16 h17 => (refillOne_keeps w h17)) _ h11

theorem windowFillDone_keeps {s0 : From} {a0 a1} (w : sub 187469919579666480198075028472257329771972448544743661189057516439194451278734974443522 s0.W = true) (h0 : Keeps s0 a0) : Keeps s0 (windowFillDone a0 a1) := by
  unfold windowFillDone
  extract_lets +onlyGivenNames x5
  have h6 : Keeps s0 x5 := refillAll_keeps w h0
  clear_value x5
  split
  · exact Keeps.ite (endHeld_keeps (sub_trans rfl w) h6) (windowNext_keeps (sub_trans rfl w) h6)
  · refine Keeps.ite ?_ ?_
    · extract_lets +onlyGivenNames x7
      clear_value x7
      refine Keeps.ite h6 ?_
      extract_lets +onlyGivenNames x8
      clear_value x8
      extract_lets +onlyGivenNames x9
      have h10 : Keeps s0 x9 := upd_fab (sub_trans rfl w) h6
      clear_value x9
      exact Keeps.ite (fillFails_keeps w h10) (fillReady_keeps (sub_trans rfl w) h10)
    · split
      · exact fillFails_keeps w h6
      · extract_lets +onlyGivenNames x11
        clear_value x11
        refine Keeps.ite h6 ?_
        split
        · exact fillFails_keeps w (lineFailure_keeps (sub_trans rfl w) h6)
        · extract_lets +onlyGivenNames x12
          have h13 : Keeps s0 x12 := Keeps.foldl (fun x14 x15 h16 => (copyFrame_keeps (sub_trans rfl w) h16)) _ h6
          clear_value x12
          exact Keeps.ite (winPut_keeps (sub_trans rfl w) h13) (fillReady_keeps (sub_trans rfl w) h13)

theorem execWindowFillDone_keeps {s0 : From} {a0 a1} (w : sub 187469919579666480198075028472257329771972448544743661189057516439194451278734974443522 s0.W = true) (h0 : Keeps s0 a1) : KeepsOut s0 (execWindowFillDone a0 a1) := by
  unfold execWindowFillDone
  exact KeepsOut.next (windowFillDone_keeps w h0)

theorem slowReclaim_keeps {s0 : From} {a0 a1} (w : sub 187469919521770435579410348742242552420441221190315923756935682704406915879662529208322 s0.W = true) (h0 : Keeps s0 a0) : Keeps s0 (slowReclaim a0 a1) := by
  unfold slowReclaim
  extract_lets +onlyGivenNames x5 x6
  clear_value x5 x6
  refine Keeps.ite (setReclaiming_keeps (sub_trans rfl w) h0) ?_
  extract_lets +onlyGivenNames x7
  clear_value x7
  split
  · exact h0
  · exact setReclaiming_keeps (sub_trans rfl w) (reclaimOne_keeps w h0)

theorem execMoveObj_keeps {s0 : From} {a0} (w : sub 187467548099782855343728074008469574491905698491863278124677200598030872273095571693570 s0.W = true) (h0 : Keeps s0 a0) : KeepsOut s0 (execMoveObj a0) := by
  unfold execMoveObj
  refine KeepsOut.next ?_
  split
  · exact h0
  · rename_i h5
    have h6 := KeepsOptP.get (s := s0) (π := fun t => t.2) h5 (tieHead_keeps (sub_trans rfl w) h0)
    extract_lets +onlyGivenNames x7
    clear_value x7
    refine Keeps.ite (tieDone_keeps (sub_trans rfl w) h6) ?_
    refine Keeps.ite (tieDone_keeps (sub_trans rfl w) h6) ?_
    extract_lets +onlyGivenNames x8
    have h9 : Keeps s0 x8 := objCheck_keeps (sub_trans rfl w) h6
    clear_value x8
    extract_lets +onlyGivenNames x10
    clear_value x10
    refine Keeps.ite (tieDone_keeps (sub_trans rfl w) h9) ?_
    refine Keeps.ite (tieDone_keeps (sub_trans rfl w) h9) ?_
    refine Keeps.ite (tieDone_keeps (sub_trans rfl w) h9) ?_
    refine Keeps.ite (tieDone_keeps (sub_trans rfl w) h9) ?_
    refine moveGo_keeps (sub_trans rfl w) ?_
    extract_lets +onlyGivenNames x11
    have h12 : Keeps s0 x11 := objState_keeps (sub_trans rfl w) h9
    clear_value x11
    exact upd_tie (sub_trans rfl w) h12

theorem execSlowTierReclaim_keeps {s0 : From} {a0 a1} (w : sub 187469919521770435579410348742242552420441221190315923756935682704406915879662529208322 s0.W = true) (h0 : Keeps s0 a1) : KeepsOut s0 (execSlowTierReclaim a0 a1) := by
  unfold execSlowTierReclaim
  exact KeepsOut.next (slowReclaim_keeps w h0)

theorem reclaim_keeps {s0 : From} {a0 a1} (w : sub 187469919521770435579410348742242552420441221190315923756935682704406915879662529208322 s0.W = true) (h0 : Keeps s0 a0) : Keeps s0 (reclaim a0 a1) := by
  unfold reclaim
  extract_lets +onlyGivenNames x5
  clear_value x5
  refine Keeps.ite (setReclaiming_keeps (sub_trans rfl w) h0) ?_
  extract_lets +onlyGivenNames x6 x7 x8 x9 x10
  clear_value x6 x7 x8 x9 x10
  split
  · exact h0
  · exact setReclaiming_keeps (sub_trans rfl w) (reclaimOne_keeps w h0)

theorem execReclaim_keeps {s0 : From} {a0 a1} (w : sub 187469919521770435579410348742242552420441221190315923756935682704406915879662529208322 s0.W = true) (h0 : Keeps s0 a1) : KeepsOut s0 (execReclaim a0 a1) := by
  unfold execReclaim
  exact KeepsOut.next (reclaim_keeps w h0)

theorem dropMoves_keeps {s0 : From} {a0 a1} (w : sub 275951804416 s0.W = true) (h0 : Keeps s0 a0) : Keeps s0 (dropMoves a0 a1) := by
  unfold dropMoves
  exact Keeps.foldl (fun x5 x6 h7 => (giveFrame_keeps w (upd_tie (sub_trans rfl w) h7))) _ h0

theorem execFreeObj_keeps {s0 : From} {a0} (w : sub 913438523331814323877303020447676888110801772544 s0.W = true) (h0 : Keeps s0 a0) : KeepsOut s0 (execFreeObj a0) := by
  unfold execFreeObj
  refine KeepsOut.next ?_
  split
  · exact h0
  · rename_i h5
    have h6 := KeepsOptP.get (s := s0) (π := fun t => t.2) h5 (tieHead_keeps (sub_trans rfl w) h0)
    extract_lets +onlyGivenNames x7
    clear_value x7
    refine Keeps.ite (tieDone_keeps (sub_trans rfl w) h6) ?_
    refine Keeps.ite (tieDone_keeps (sub_trans rfl w) h6) ?_
    refine Keeps.ite (tieDone_keeps (sub_trans rfl w) h6) ?_
    extract_lets +onlyGivenNames x8
    have h9 : Keeps s0 x8 := dropMoves_keeps (sub_trans rfl w) h6
    clear_value x8
    exact tieDone_keeps (sub_trans rfl w) (setObj_keeps (sub_trans rfl w) (dropPt_keeps (sub_trans rfl w) (objRelease_keeps (sub_trans rfl w) h9)))

theorem execGather_keeps {s0 : From} {a0} (w : sub 913438523331814323877303020447676887835924127746 s0.W = true) (h0 : Keeps s0 a0) : KeepsOut s0 (execGather a0) := by
  unfold execGather
  refine KeepsOut.next ?_
  split
  · exact h0
  · rename_i h5
    have h6 := KeepsOptP.get (s := s0) (π := fun t => t.2) h5 (tieHead_keeps (sub_trans rfl w) h0)
    extract_lets +onlyGivenNames x7
    clear_value x7
    exact Keeps.ite (tieDone_keeps (sub_trans rfl w) h6) (Keeps.ite (tieDone_keeps (sub_trans rfl w) h6) (Keeps.ite (tieDone_keeps (sub_trans rfl w) h6) (gatherGo_keeps w (upd_tie (sub_trans rfl w) h6))))

end Sys2Proof.Machine
end

