-- ==== Sys2Proof/Laws/KeepsRows.lean ====
section
/-!
SUPPORT. What the operations of `Sys2Proof.Machine.Rows` keep (`Sys2Proof.Machine.Keeps`): one lemma for each.
-/

namespace Sys2Proof.Machine

theorem shadowWrite_keeps {s0 : From} {a0 a1} (w : sub 1073766400 s0.W = true) (h0 : Keeps s0 a0) : Keeps s0 (shadowWrite a0 a1) := by
  unfold shadowWrite
  exact memWrite_keeps w h0

theorem shadowsKeep_keeps {s0 : From} {a0 a1} (w : sub 1610637312 s0.W = true) (h0 : Keeps s0 a0) : Keeps s0 (shadowsKeep a0 a1) := by
  unfold shadowsKeep
  extract_lets +onlyGivenNames x5
  clear_value x5
  extract_lets +onlyGivenNames x6
  have h7 : Keeps s0 x6 := Keeps.foldl (fun x8 x9 h10 => (shadowWrite_keeps (sub_trans rfl w) h10)) _ h0
  clear_value x6
  exact upd_rows (sub_trans rfl w) h7

theorem noShadows_keeps {s0 : From} {a0 a1 a2} (w : sub 1610637312 s0.W = true) (h0 : Keeps s0 a0) : Keeps s0 (noShadows a0 a1 a2) := by
  unfold noShadows
  exact shadowsKeep_keeps w h0

theorem tabPut_keeps {s0 : From} {a0 a1 a2} (w : sub 536870912 s0.W = true) (h0 : Keeps s0 a0) : Keeps s0 (tabPut a0 a1 a2) := by
  unfold tabPut
  exact upd_rows (sub_trans rfl w) h0

theorem dropSlot_keeps {s0 : From} {a0 a1 a2} (w : sub 536870912 s0.W = true) (h0 : Keeps s0 a0) : Keeps s0 (dropSlot a0 a1 a2) := by
  unfold dropSlot
  extract_lets +onlyGivenNames x5
  clear_value x5
  exact Keeps.ite (tabPut_keeps w h0) (tabPut_keeps w h0)

theorem rowPut_keeps {s0 : From} {a0 a1 a2} (w : sub 1073766400 s0.W = true) (h0 : Keeps s0 a0) : Keeps s0 (rowPut a0 a1 a2) := by
  unfold rowPut
  exact memPut_keeps w h0

theorem dropShadows_keeps {s0 : From} {a0 a1 a2 a3} (w : sub 1610637312 s0.W = true) (h0 : Keeps s0 a0) : Keeps s0 (dropShadows a0 a1 a2 a3) := by
  unfold dropShadows
  exact Keeps.ite h0 (rowPut_keeps (sub_trans rfl w) (noShadows_keeps w h0))

theorem rowLost_keeps {s0 : From} {a0 a1 a2 a3} (w : sub 1610637312 s0.W = true) (h0 : Keeps s0 a0) : Keeps s0 (rowLost a0 a1 a2 a3) := by
  unfold rowLost
  exact rowPut_keeps (sub_trans rfl w) (noShadows_keeps w h0)

theorem tfPut_keeps {s0 : From} {a0 a1 a2 a3 a4} (w : sub 1073766400 s0.W = true) (h0 : Keeps s0 a0) : Keeps s0 (tfPut a0 a1 a2 a3 a4) := by
  unfold tfPut
  exact memPut_keeps w h0

theorem observe_keeps {s0 : From} {a0 a1 a2 a3} (w : sub 1610637312 s0.W = true) (h0 : Keeps s0 a0) : Keeps s0 (observe a0 a1 a2 a3) := by
  unfold observe
  extract_lets +onlyGivenNames x5
  clear_value x5
  extract_lets +onlyGivenNames x6
  have h7 : Keeps s0 x6 := tfPut_keeps (sub_trans rfl w) h0
  clear_value x6
  extract_lets +onlyGivenNames x8
  have h9 : Keeps s0 x8 := Keeps.ite (tfPut_keeps (sub_trans rfl w) h7) h7
  clear_value x8
  extract_lets +onlyGivenNames x10 x11
  clear_value x10 x11
  extract_lets +onlyGivenNames x12
  have h13 : Keeps s0 x12 := rowPut_keeps (sub_trans rfl w) h9
  clear_value x12
  exact Keeps.ite (dropShadows_keeps w h13) h13

theorem dropWay_keeps {s0 : From} {a0 a1 a2 a3 a4} (w : sub 187467548099782855343728074008469574490992259968531463800799897577583195385810613854208 s0.W = true) (h0 : Keeps s0 a0) : Keeps s0 (dropWay a0 a1 a2 a3 a4) := by
  unfold dropWay
  exact memPut_keeps (sub_trans rfl w) (lineFailureOf_keeps w h0)

theorem cacheInsert_keeps {s0 : From} {a0 a1 a2 a3 a4} (w : sub 1073766400 s0.W = true) (h0 : Keeps s0 a0) : Keeps s0 (cacheInsert a0 a1 a2 a3 a4) := by
  unfold cacheInsert
  extract_lets +onlyGivenNames x5 x6 x7
  clear_value x5 x6 x7
  refine Keeps.ite h0 ?_
  extract_lets +onlyGivenNames x8
  have h9 : Keeps s0 x8 := memWrite_keeps w h0
  clear_value x8
  exact memPut_keeps w h9

theorem shadowPut_keeps {s0 : From} {a0 a1} (w : sub 1610637312 s0.W = true) (h0 : Keeps s0 a0) : Keeps s0 (shadowPut a0 a1) := by
  unfold shadowPut
  refine Keeps.ite (noShadows_keeps w h0) ?_
  extract_lets +onlyGivenNames x5
  clear_value x5
  exact shadowWrite_keeps (sub_trans rfl w) (upd_rows (sub_trans rfl w) h0)

theorem addShadow_keeps {s0 : From} {a0 a1 a2 a3 a4} (w : sub 1610637312 s0.W = true) (h0 : Keeps s0 a0) : Keeps s0 (addShadow a0 a1 a2 a3 a4) := by
  unfold addShadow
  extract_lets +onlyGivenNames x5 x6 x7 x8 x9
  clear_value x5 x6 x7 x8 x9
  split
  · exact h0
  · refine Keeps.ite h0 ?_
    extract_lets +onlyGivenNames x10 x11
    clear_value x10 x11
    extract_lets +onlyGivenNames x12
    have h13 : Keeps s0 x12 := memWrite_keeps (sub_trans rfl w) h0
    clear_value x12
    extract_lets +onlyGivenNames x14
    have h15 : Keeps s0 x14 := shadowPut_keeps w h13
    clear_value x14
    exact rowPut_keeps (sub_trans rfl w) h15

theorem homeBad_keeps {s0 : From} {a0 a1 a2 a3 a4} (w : sub 187467548099782855343728074008469957614877476440746053387556685154879100070591696625664 s0.W = true) (h0 : Keeps s0 a0) : Keeps s0 (homeBad a0 a1 a2 a3 a4) := by
  unfold homeBad
  exact fset_keeps (rowLost_keeps (sub_trans rfl w) (lineFailureOf_keeps (sub_trans rfl w) h0)) rfl (sub_trans rfl w)

theorem readHome_keeps {s0 : From} {a0 a1 a2 a3} (w : sub 187467548099782855343728074008469957614877476440746053387556685154879100070591696625664 s0.W = true) (h0 : Keeps s0 a0) : Keeps s0 (readHome a0 a1 a2 a3).2 := by
  unfold readHome
  extract_lets +onlyGivenNames x5 x6
  clear_value x5 x6
  split
  · exact Keeps.snd (homeBad_keeps w h0)
  · extract_lets +onlyGivenNames x7
    clear_value x7
    extract_lets +onlyGivenNames x8
    have h9 : Keeps s0 x8 := Keeps.ite (cacheInsert_keeps (sub_trans rfl w) h0) h0
    clear_value x8
    exact Keeps.ite (addShadow_keeps (sub_trans rfl w) h9) h9

theorem readCache_keeps {s0 : From} {a0 a1 a2 a3 a4 a5} (w : sub 187467548099782855343728074008469981560120302470259465236728984378460094113390480744448 s0.W = true) (h0 : Keeps s0 a0) : Keeps s0 (readCache a0 a1 a2 a3 a4 a5).2 := by
  unfold readCache
  extract_lets +onlyGivenNames x1
  clear_value x1
  generalize badLineIn a0 x1 (tSize a0 a1) = o
  cases o with
  | none => exact Keeps.snd (fadd1_keeps h0 rfl (sub_trans rfl w))
  | some l =>
    rw [Option.elim_some]
    exact readHome_keeps (sub_trans rfl w) (dropWay_keeps (sub_trans rfl w) h0)

theorem readShadow_keeps {s0 : From} {a0 a1 a2 a3 a4 a5} (w : sub 187467548099782855343728074008469981560120302470259465236728984378460094113390480744448 s0.W = true) (h0 : Keeps s0 a0) : Keeps s0 (readShadow a0 a1 a2 a3 a4 a5).2 := by
  unfold readShadow
  extract_lets +onlyGivenNames x5 x6
  clear_value x5 x6
  refine Keeps.elim_snd (Keeps.snd (fadd1_keeps h0 rfl (sub_trans rfl w))) ?_
  refine fun x7 => ?_
  extract_lets +onlyGivenNames x8
  have h9 : Keeps s0 x8 := lineFailureOf_keeps (sub_trans rfl w) h0
  clear_value x8
  extract_lets +onlyGivenNames x10
  have h11 : Keeps s0 x10 := by
    unfold x10
    split
    · exact shadowPut_keeps (sub_trans rfl w) h9
    · exact h9
  clear_value x10
  exact readHome_keeps (sub_trans rfl w) (rowPut_keeps (sub_trans rfl w) h11)

theorem lookup_keeps {s0 : From} {a0 a1 a2 a3 a4} (w : sub 187467548099782855343728074008469981560120302470259465236728984378460094113390480744448 s0.W = true) (h0 : Keeps s0 a0) : Keeps s0 (lookup a0 a1 a2 a3 a4).2 := by
  unfold lookup
  extract_lets +onlyGivenNames x5 x6
  clear_value x5 x6
  split
  · exact readShadow_keeps w h0
  · split
    · exact readHome_keeps (sub_trans rfl w) h0
    · split
      · exact readHome_keeps (sub_trans rfl w) h0
      · exact readCache_keeps w h0

theorem entryCheck_keeps {s0 : From} {a0 a1 a2 a3} (w : sub 187467548099782855343728074008469574490992259968531463800799897577583195385811150725120 s0.W = true) (h0 : Keeps s0 a0) : Keeps s0 (entryCheck a0 a1 a2 a3) := by
  unfold entryCheck
  refine Keeps.ite h0 ?_
  extract_lets +onlyGivenNames x5
  have h6 : Keeps s0 x5 := lineFailureOf_keeps (sub_trans rfl w) h0
  clear_value x5
  extract_lets +onlyGivenNames x7
  clear_value x7
  extract_lets +onlyGivenNames x8
  have h9 : Keeps s0 x8 := rowLost_keeps (sub_trans rfl w) h6
  clear_value x8
  extract_lets +onlyGivenNames x10
  clear_value x10
  exact Keeps.ite h9 (rowLost_keeps (sub_trans rfl w) h9)

theorem serveGet_keeps {s0 : From} {a0 a1 a2} (w : sub 187467548099782855343728074008469981560120302470259465236728984378460094113390480744448 s0.W = true) (h0 : Keeps s0 a0) : KeepsOptP s0 (fun t => t.2) (serveGet a0 a1 a2) := by
  unfold serveGet
  split
  · exact KeepsOptP.some h0
  · extract_lets +onlyGivenNames x5
    have h6 : Keeps s0 x5 := entryCheck_keeps (sub_trans rfl w) h0
    clear_value x5
    extract_lets +onlyGivenNames x7
    clear_value x7
    split
    · exact KeepsOptP.some h6
    · refine KeepsOptP.ite (KeepsOptP.some h6) ?_
      refine KeepsOptP.ite KeepsOptP.none ?_
      extract_lets +onlyGivenNames x8
      have h9 : Keeps s0 x8 := fadd1_keeps (observe_keeps (sub_trans rfl w) h6) rfl (sub_trans rfl w)
      clear_value x8
      split
      · rename_i h10
        have h11 := Keeps.get (s := s0) (fun p => p.2) h10 (lookup_keeps w h9)
        exact KeepsOptP.some h11
      · rename_i h12
        have h13 := Keeps.get (s := s0) (fun p => p.2) h12 (lookup_keeps w h9)
        exact KeepsOptP.some h13

theorem reqPut_keeps {s0 : From} {a0 a1 a2} (w : sub 536870912 s0.W = true) (h0 : Keeps s0 a0) : Keeps s0 (reqPut a0 a1 a2) := by
  unfold reqPut
  exact upd_rows (sub_trans rfl w) h0

theorem rowSend_keeps {s0 : From} {a0 a1 a2} (w : sub 187469919579666480198075028472257329747857671528783763038696716699375781454412620161026 s0.W = true) (h0 : Keeps s0 a0) : Keeps s0 (rowSend a0 a1 a2) := by
  unfold rowSend
  extract_lets +onlyGivenNames x5 x6 x7 x8
  clear_value x5 x6 x7 x8
  extract_lets +onlyGivenNames x9
  have h10 : Keeps s0 x9 := reqPut_keeps (sub_trans rfl w) (upd_fab (sub_trans rfl w) h0)
  clear_value x9
  exact Keeps.ite (upd_fab (sub_trans rfl w) h10) (deviceSend_keeps (sub_trans rfl w) (bump_keeps (sub_trans rfl w) h10))

theorem rowIssue_keeps {s0 : From} {a0 a1 a2 a3 a4} (w : sub 166873987368791019766777550992571287425593620556971169180896388649807632775988324424956533202946 s0.W = true) (h0 : Keeps s0 a0) : Keeps s0 (rowIssue a0 a1 a2 a3 a4) := by
  unfold rowIssue
  extract_lets +onlyGivenNames x5 x6 x7 x8 x9
  clear_value x5 x6 x7 x8 x9
  refine issue_keeps (sub_trans rfl w) h0 ?_
  refine fun x10 h11 => ?_
  extract_lets +onlyGivenNames x12
  clear_value x12
  extract_lets +onlyGivenNames x13
  have h14 : ∀ x00, Keeps s0 x00 → Keeps s0 (x13 x00) := fun x15 h16 => (pushPend_keeps (sub_trans rfl w) (bump_keeps (sub_trans rfl w) h16))
  clear_value x13
  refine Keeps.ite h11 ?_
  refine Keeps.ite (askDone_keeps (sub_trans rfl w) (h14 _ h11)) ?_
  refine Keeps.ite (raiseAt_keeps (sub_trans rfl w) h11) ?_
  extract_lets +onlyGivenNames x17 x18
  clear_value x17 x18
  refine Keeps.ite (moveFails_keeps (sub_trans rfl w) (h14 _ h11)) ?_
  extract_lets +onlyGivenNames x19 x20 x21
  clear_value x19 x20 x21
  extract_lets +onlyGivenNames x22
  have h23 : Keeps s0 x22 := h14 _ h11
  clear_value x22
  extract_lets +onlyGivenNames x24
  clear_value x24
  extract_lets +onlyGivenNames x25
  have h26 : Keeps s0 x25 := Keeps.ite (upd_rows (sub_trans rfl w) h23) h23
  clear_value x25
  exact rowSend_keeps (sub_trans rfl w) h26

theorem rowEnd_keeps {s0 : From} {a0 a1 a2 a3} (w : sub 537395200 s0.W = true) (h0 : Keeps s0 a0) : Keeps s0 (rowEnd a0 a1 a2 a3) := by
  unfold rowEnd
  split
  · exact h0
  · extract_lets +onlyGivenNames x5
    clear_value x5
    extract_lets +onlyGivenNames x6
    have h7 : Keeps s0 x6 := upd_rows (sub_trans rfl w) h0
    clear_value x6
    exact askDone_keeps (sub_trans rfl w) h7

theorem takeSlot_keeps {s0 : From} {a0 a1 a2} (w : sub 536870914 s0.W = true) (h0 : Keeps s0 a0) : Keeps s0 (takeSlot a0 a1 a2) := by
  unfold takeSlot
  extract_lets +onlyGivenNames x5
  clear_value x5
  exact bump_keeps (sub_trans rfl w) (tabPut_keeps (sub_trans rfl w) h0)

theorem stage_keeps {s0 : From} {a0 a1 a2 a3 a4} (w : sub 47890485652059026823698344598447161988085599178874882 s0.W = true) (h0 : Keeps s0 a0) : KeepsOpt s0 (stage a0 a1 a2 a3 a4) := by
  unfold stage
  split
  · exact KeepsOpt.none
  · refine KeepsOpt.ite KeepsOpt.none ?_
    extract_lets +onlyGivenNames x5
    have h6 : Keeps s0 x5 := memWrite_keeps (sub_trans rfl w) (takeSlot_keeps (sub_trans rfl w) h0)
    clear_value x5
    extract_lets +onlyGivenNames x7
    clear_value x7
    extract_lets +onlyGivenNames x8
    have h9 : Keeps s0 x8 := upd_rows (sub_trans rfl w) h6
    clear_value x8
    exact KeepsOpt.some (fadd1_keeps h9 rfl (sub_trans rfl w))

theorem migPut_keeps {s0 : From} {a0 a1 a2} (w : sub 536870912 s0.W = true) (h0 : Keeps s0 a0) : Keeps s0 (migPut a0 a1 a2) := by
  unfold migPut
  exact upd_rows (sub_trans rfl w) h0

theorem dropHint_keeps {s0 : From} {a0 a1 a2} (w : sub 536870912 s0.W = true) (h0 : Keeps s0 a0) : Keeps s0 (dropHint a0 a1 a2) := by
  unfold dropHint
  exact upd_rows (sub_trans rfl w) h0

theorem addHint_keeps {s0 : From} {a0 a1 a2 a3} (w : sub 536870912 s0.W = true) (h0 : Keeps s0 a0) : Keeps s0 (addHint a0 a1 a2 a3) := by
  unfold addHint
  extract_lets +onlyGivenNames x5
  clear_value x5
  exact upd_rows (sub_trans rfl w) h0

theorem rowAnswered_keeps {s0 : From} {a0 a1 a2} (w : sub 187469919579666480198075028472257329747857671528783763038696716699375781454412620161026 s0.W = true) (h0 : Keeps s0 a0) : Keeps s0 (rowAnswered a0 a1 a2) := by
  unfold rowAnswered
  split
  · exact h0
  · extract_lets +onlyGivenNames x5
    have h6 : ∀ x00, Keeps s0 x00 → Keeps s0 (x5 x00) := by
      refine fun x7 h8 => ?_
      refine Keeps.ite ?_ (rowEnd_keeps (sub_trans rfl w) h8)
      extract_lets +onlyGivenNames x9
      have h10 : Keeps s0 x9 := dropHint_keeps (sub_trans rfl w) h8
      clear_value x9
      exact rowSend_keeps w h10
    clear_value x5
    refine Keeps.ite (Keeps.ite (h6 _ h0) (rowSend_keeps w (addHint_keeps (sub_trans rfl w) h0))) ?_
    refine Keeps.ite (h6 _ h0) ?_
    refine Keeps.ite (reqPut_keeps (sub_trans rfl w) h0) ?_
    extract_lets +onlyGivenNames x11
    have h12 : Keeps s0 x11 := Keeps.ite (movWrite_keeps (sub_trans rfl w) h0) h0
    clear_value x11
    exact rowEnd_keeps (sub_trans rfl w) h12

theorem rowAnswer_keeps {s0 : From} {a0 a1 a2} (w : sub 187469919579666480198075028472257329747857671528783763038696716699375781454412620161026 s0.W = true) (h0 : Keeps s0 a0) : Keeps s0 (rowAnswer a0 a1 a2) := by
  unfold rowAnswer
  extract_lets +onlyGivenNames x5 x6
  clear_value x5 x6
  extract_lets +onlyGivenNames x7
  have h8 : Keeps s0 x7 := upd_fab (sub_trans rfl w) h0
  clear_value x7
  split
  · exact h0
  · exact Keeps.ite h0 (rowAnswered_keeps w h8)

theorem execRowAnswer_keeps {s0 : From} {a0 a1 a2} (w : sub 187469919579666480198075028472257329747857671528783763038696716699375781454412620161026 s0.W = true) (h0 : Keeps s0 a2) : KeepsOut s0 (execRowAnswer a0 a1 a2) := by
  unfold execRowAnswer
  exact KeepsOut.next (rowAnswer_keeps w h0)

theorem logUpdate_keeps {s0 : From} {a0 a1 a2 a3 a4} (w : sub 478904856520590268236983445984471619880855976219246592 s0.W = true) (h0 : Keeps s0 a0) : Keeps s0 (logUpdate a0 a1 a2 a3 a4).2 := by
  unfold logUpdate
  split
  · exact Keeps.snd (fset_keeps h0 rfl (sub_trans rfl w))
  · split
    · exact Keeps.snd (fset_keeps (fset_keeps h0 rfl (sub_trans rfl w)) rfl (sub_trans rfl w))
    · exact Keeps.snd (fadd1_keeps (migPut_keeps (sub_trans rfl w) h0) rfl (sub_trans rfl w))

theorem serveUpd_keeps {s0 : From} {a0 a1 a2} (w : sub 187467548099782855343728074008470101286334432617826524482590480496365064327384401338370 s0.W = true) (h0 : Keeps s0 a0) : KeepsOptP s0 (fun t => t.2) (serveUpd a0 a1 a2) := by
  unfold serveUpd
  split
  · exact KeepsOptP.some h0
  · extract_lets +onlyGivenNames x5
    have h6 : Keeps s0 x5 := entryCheck_keeps (sub_trans rfl w) h0
    clear_value x5
    extract_lets +onlyGivenNames x7
    clear_value x7
    split
    · exact KeepsOptP.some h6
    · refine KeepsOptP.ite (KeepsOptP.some h6) ?_
      refine KeepsOptP.ite KeepsOptP.none ?_
      refine KeepsOptP.ite (KeepsOptP.some (logUpdate_keeps (sub_trans rfl w) h6)) ?_
      split
      · rename_i h8
        have h9 := KeepsOpt.get (s := s0) h8 (stage_keeps (sub_trans rfl w) h6)
        exact KeepsOptP.some h9
      · exact KeepsOptP.some (Keeps.snd (fset_keeps h6 rfl (sub_trans rfl w)))

theorem execRowResend_keeps {s0 : From} {a0 a1} (w : sub 187469919579666480198075028472257329747857671528783763038696716699375781454412620161026 s0.W = true) (h0 : Keeps s0 a1) : KeepsOut s0 (execRowResend a0 a1) := by
  unfold execRowResend
  refine KeepsOut.next ?_
  split
  · exact Keeps.ite (rowSend_keeps w h0) h0
  · exact h0

theorem homeCheck_keeps {s0 : From} {a0 a1} (w : sub 187467548157678899962386171720255450119221430367381045720376967174607892074552019542016 s0.W = true) (h0 : Keeps s0 a0) : Keeps s0 (homeCheck a0 a1).1 := by
  unfold homeCheck
  extract_lets +onlyGivenNames x5
  clear_value x5
  split
  · exact h0
  · split
    · exact h0
    · split
      · exact h0
      · split
        · exact Keeps.fst (fset_keeps h0 rfl (sub_trans rfl w))
        · split
          · exact h0
          · extract_lets +onlyGivenNames x6
            clear_value x6
            extract_lets +onlyGivenNames x7
            have h8 : Keeps s0 x7 := compMark_keeps (sub_trans rfl w) h0
            clear_value x7
            split
            · exact h8
            · split
              · exact h8
              · exact h8

theorem rowReply_keeps {s0 : From} {a0 a1 a2 a3} (w : sub 187469919579666480198075028472257425528828975646837410435385913593699757625607756636162 s0.W = true) (h0 : Keeps s0 a0) : Keeps s0 (rowReply a0 a1 a2 a3) := by
  unfold rowReply
  extract_lets +onlyGivenNames x5
  have h6 : Keeps s0 x5 := Keeps.ite (fadd1_keeps h0 rfl (sub_trans rfl w)) (Keeps.ite (fadd1_keeps h0 rfl (sub_trans rfl w)) h0)
  clear_value x5
  refine Keeps.ite (rowAnswered_keeps (sub_trans rfl w) h6) ?_
  extract_lets +onlyGivenNames x7 x8
  clear_value x7 x8
  exact deviceOp_keeps (sub_trans rfl w) h6

theorem rowServe_keeps {s0 : From} {a0 a1 a2} (w : sub 187469919579666480198075028472257880488442670207592235569659598841738644438784654893058 s0.W = true) (h0 : Keeps s0 a0) : Keeps s0 (rowServe a0 a1 a2) := by
  unfold rowServe
  split
  · exact h0
  · extract_lets +onlyGivenNames x5
    clear_value x5
    refine Keeps.ite h0 ?_
    extract_lets +onlyGivenNames x6
    clear_value x6
    extract_lets +onlyGivenNames x7
    have h8 : Keeps s0 x7 := upd_fab (sub_trans rfl w) h0
    clear_value x7
    extract_lets +onlyGivenNames x9
    clear_value x9
    split
    rename_i h10
    have h11 := Keeps.get (s := s0) (fun p => p.1) h10 (homeCheck_keeps (sub_trans rfl w) h8)
    refine Keeps.ite (rowReply_keeps (sub_trans rfl w) h11) ?_
    split
    · exact h0
    · rename_i h12
      have h13 := KeepsOptP.get (s := s0) (π := fun t => t.2) h12 (KeepsOptP.ite (serveUpd_keeps (sub_trans rfl w) h11) (serveGet_keeps (sub_trans rfl w) h11))
      exact rowReply_keeps (sub_trans rfl w) h13

theorem execRowRequestGet_keeps {s0 : From} {a0 a1} (w : sub 187469919579666480198075028472257880488442670207592235569659598841738644438784654893058 s0.W = true) (h0 : Keeps s0 a1) : KeepsOut s0 (execRowRequestGet a0 a1) := by
  unfold execRowRequestGet
  exact KeepsOut.next (rowServe_keeps w h0)

theorem execRowRequestUpd_keeps {s0 : From} {a0 a1} (w : sub 187469919579666480198075028472257880488442670207592235569659598841738644438784654893058 s0.W = true) (h0 : Keeps s0 a1) : KeepsOut s0 (execRowRequestUpd a0 a1) := by
  unfold execRowRequestUpd
  exact KeepsOut.next (rowServe_keeps w h0)

theorem execRowUpd_keeps {s0 : From} {a0 a1 a2} (w : sub 166873987368791019766777550992571287425593620556971169180896388649807632775988324424956533202946 s0.W = true) (h0 : Keeps s0 a2) : KeepsOut s0 (execRowUpd a0 a1 a2) := by
  unfold execRowUpd
  exact KeepsOut.next (rowIssue_keeps w h0)

theorem execRowGet_keeps {s0 : From} {a0 a1 a2} (w : sub 166873987368791019766777550992571287425593620556971169180896388649807632775988324424956533202946 s0.W = true) (h0 : Keeps s0 a2) : KeepsOut s0 (execRowGet a0 a1 a2) := by
  unfold execRowGet
  exact KeepsOut.next (rowIssue_keeps w h0)

end Sys2Proof.Machine
end

