-- ==== Sys2Proof/Laws/KeepsRowMove.lean ====
section
/-!
SUPPORT. What the operations of `Sys2Proof.Machine.RowMove` keep (`Sys2Proof.Machine.Keeps`): one lemma for each.
-/

namespace Sys2Proof.Machine

theorem dropSlots_keeps {s0 : From} {a0 a1 a2} (w : sub 536870912 s0.W = true) (h0 : Keeps s0 a0) : Keeps s0 (dropSlots a0 a1 a2) := by
  unfold dropSlots
  exact Keeps.foldl (fun x5 x6 h7 => (dropSlot_keeps w h7)) _ h0

theorem applied_keeps {s0 : From} {a0 a1 a2 a3 a4 a5 a6} (w : sub 47890485652059026823698344598447161988085599178874880 s0.W = true) (h0 : Keeps s0 a0) : Keeps s0 (applied a0 a1 a2 a3 a4 a5 a6) := by
  unfold applied
  extract_lets +onlyGivenNames x5 x6
  clear_value x5 x6
  extract_lets +onlyGivenNames x7
  have h8 : Keeps s0 x7 := rowPut_keeps (sub_trans rfl w) (noShadows_keeps (sub_trans rfl w) h0)
  clear_value x7
  exact fadd1_keeps (dropSlots_keeps (sub_trans rfl w) h8) rfl (sub_trans rfl w)

theorem migSend_keeps {s0 : From} {a0 a1 a2} (w : sub 536870912 s0.W = true) (h0 : Keeps s0 a0) : Keeps s0 (migSend a0 a1 a2) := by
  unfold migSend
  exact upd_rows (sub_trans rfl w) h0

theorem rowCmdEnd_keeps {s0 : From} {a0 a1 a2} (w : sub 11972621413014756705924586149611790497021949686841344 s0.W = true) (h0 : Keeps s0 a0) : Keeps s0 (rowCmdEnd a0 a1 a2) := by
  unfold rowCmdEnd
  extract_lets +onlyGivenNames x5
  clear_value x5
  extract_lets +onlyGivenNames x6
  have h7 : Keeps s0 x6 := upd_rows (sub_trans rfl w) h0
  clear_value x6
  exact irq_keeps (sub_trans rfl w) (finc_keeps (fput_keeps (fput_keeps h7 rfl (sub_trans rfl w)) rfl (sub_trans rfl w)) rfl (sub_trans rfl w))

theorem rowReserved_keeps {s0 : From} {a0 a1} (w : sub 11972621413014756705924586149611790497021949686841344 s0.W = true) (h0 : Keeps s0 a0) : Keeps s0 (rowReserved a0 a1) := by
  induction a1 generalizing a0 with
  | zero =>
    unfold rowReserved
    exact h0
  | succ n ih =>
    unfold rowReserved
    refine Keeps.ite h0 ?_
    split
    · exact h0
    · extract_lets +onlyGivenNames x5
      clear_value x5
      exact Keeps.ite h0 (ih (rowCmdEnd_keeps w h0))

theorem rowDone_keeps {s0 : From} {a0 a1 a2} (w : sub 11972621413014756705924586149611790497021949686841344 s0.W = true) (h0 : Keeps s0 a0) : Keeps s0 (rowDone a0 a1 a2) := by
  unfold rowDone
  exact rowReserved_keeps w (rowCmdEnd_keeps w h0)

theorem migEnd_keeps {s0 : From} {a0 a1 a2 a3} (w : sub 11972621413014756705924586149611790497021949686841344 s0.W = true) (h0 : Keeps s0 a0) : Keeps s0 (migEnd a0 a1 a2 a3) := by
  unfold migEnd
  extract_lets +onlyGivenNames x5
  extract_lets +onlyGivenNames x6
  have h7 : Keeps s0 x6 := upd_rows (sub_trans rfl w) h0
  exact Keeps.ite (rowDone_keeps w h7) h7

theorem migActivate_keeps {s0 : From} {a0 a1 a2} (w : sub 107753592717132810353321275346506114473193144823316480 s0.W = true) (h0 : Keeps s0 a0) : Keeps s0 (migActivate a0 a1 a2) := by
  unfold migActivate
  extract_lets +onlyGivenNames x5
  have h6 : Keeps s0 x5 := migSend_keeps (sub_trans rfl w) h0
  clear_value x5
  exact migEnd_keeps (sub_trans rfl w) (fadd1_keeps h6 rfl (sub_trans rfl w))

theorem rowDestroy_keeps {s0 : From} {a0 a1} (w : sub 11972621413014756705924586149611790497021950760607744 s0.W = true) (h0 : Keeps s0 a0) : Keeps s0 (rowDestroy a0 a1) := by
  unfold rowDestroy
  extract_lets +onlyGivenNames x5 x6
  clear_value x5 x6
  refine Keeps.ite (rowDone_keeps (sub_trans rfl w) h0) ?_
  extract_lets +onlyGivenNames x7
  have h8 : Keeps s0 x7 := Keeps.ite (tfPut_keeps (sub_trans rfl w) h0) h0
  clear_value x7
  extract_lets +onlyGivenNames x9
  clear_value x9
  extract_lets +onlyGivenNames x10
  have h11 : Keeps s0 x10 := upd_rows (sub_trans rfl w) h8
  clear_value x10
  refine Keeps.ite h11 ?_
  extract_lets +onlyGivenNames x12
  have h13 : Keeps s0 x12 := shadowsKeep_keeps (sub_trans rfl w) h11
  clear_value x12
  extract_lets +onlyGivenNames x14
  clear_value x14
  extract_lets +onlyGivenNames x15
  have h16 : Keeps s0 x15 := upd_rows (sub_trans rfl w) h13
  clear_value x15
  exact rowDone_keeps (sub_trans rfl w) (tfPut_keeps (sub_trans rfl w) (tabPut_keeps (sub_trans rfl w) h16))

theorem stageAll_keeps {s0 : From} {a0 a1 a2 a3} (w : sub 47890485652059026823698344598447161988085599178874882 s0.W = true) (h0 : Keeps s0 a0) : KeepsOpt s0 (stageAll a0 a1 a2 a3) := by
  induction a3 generalizing a0 with
  | nil => exact KeepsOpt.some h0
  | cons y ys ih =>
    intro t ht
    obtain ⟨u, hu, ht⟩ := Option.bind_eq_some_iff.mp ht
    exact ih (stage_keeps (sub_trans rfl w) h0 u hu) t ht

theorem migAbort_keeps {s0 : From} {a0 a1 a2} (w : sub 59863107065073783529622930748058952485107548328845314 s0.W = true) (h0 : Keeps s0 a0) : Keeps s0 (migAbort a0 a1 a2) := by
  unfold migAbort
  split
  · exact h0
  · refine Keeps.ite h0 ?_
    split
    · exact h0
    · extract_lets +onlyGivenNames x5
      have h6 : Keeps s0 x5 := rowPut_keeps (sub_trans rfl w) h0
      clear_value x5
      split
      · exact h0
      · rename_i h7
        have h8 := KeepsOpt.get (s := s0) h7 (stageAll_keeps (sub_trans rfl w) h6)
        exact migEnd_keeps (sub_trans rfl w) h8

theorem execMigrationAbort_keeps {s0 : From} {a0 a1 a2} (w : sub 59863107065073783529622930748058952485107548328845314 s0.W = true) (h0 : Keeps s0 a2) : KeepsOut s0 (execMigrationAbort a0 a1 a2) := by
  unfold execMigrationAbort
  exact KeepsOut.next (migAbort_keeps w h0)

theorem unstage_keeps {s0 : From} {a0 a1 a2} (w : sub 536870912 s0.W = true) (h0 : Keeps s0 a0) : Keeps s0 (unstage a0 a1 a2) := by
  unfold unstage
  exact upd_rows (sub_trans rfl w) h0

theorem migStart_keeps {s0 : From} {a0 a1 a2} (w : sub 187467548099782855343728074008470065368470193573556406708832031660993573263186225160192 s0.W = true) (h0 : Keeps s0 a0) : Keeps s0 (migStart a0 a1 a2) := by
  unfold migStart
  extract_lets +onlyGivenNames x5 x6
  clear_value x5 x6
  split
  · exact h0
  · extract_lets +onlyGivenNames x7
    have h8 : Keeps s0 x7 := entryCheck_keeps (sub_trans rfl w) h0
    clear_value x7
    extract_lets +onlyGivenNames x9
    have h10 : Keeps s0 x9 := by
      unfold x9
      split
      · exact Keeps.ite (homeBad_keeps (sub_trans rfl w) h8) h8
      · exact h8
    clear_value x9
    refine Keeps.ite (migEnd_keeps (sub_trans rfl w) h10) ?_
    extract_lets +onlyGivenNames x11 x12
    clear_value x11 x12
    extract_lets +onlyGivenNames x13
    have h14 : Keeps s0 x13 := dropShadows_keeps (sub_trans rfl w) h10
    clear_value x13
    extract_lets +onlyGivenNames x15
    have h16 : Keeps s0 x15 := rowPut_keeps (sub_trans rfl w) h14
    clear_value x15
    extract_lets +onlyGivenNames x17
    have h18 : Keeps s0 x17 := fadd1_keeps (dropSlots_keeps (sub_trans rfl w) (unstage_keeps (sub_trans rfl w) h16)) rfl (sub_trans rfl w)
    clear_value x17
    extract_lets +onlyGivenNames x19 x20
    clear_value x19 x20
    extract_lets +onlyGivenNames x21
    have h22 : Keeps s0 x21 := migPut_keeps (sub_trans rfl w) h18
    clear_value x21
    exact migSend_keeps (sub_trans rfl w) h22

theorem applyRow_keeps {s0 : From} {a0 a1 a2} (w : sub 187467548099782855343728074008470005505363128499772877085901283602041088156189264863232 s0.W = true) (h0 : Keeps s0 a0) : Keeps s0 (applyRow a0 a1 a2) := by
  unfold applyRow
  extract_lets +onlyGivenNames x5
  clear_value x5
  split
  · extract_lets +onlyGivenNames x6
    have h7 : Keeps s0 x6 := entryCheck_keeps (sub_trans rfl w) h0
    clear_value x6
    extract_lets +onlyGivenNames x8 x9 x10
    clear_value x8 x9 x10
    refine Keeps.ite (Keeps.ite (applied_keeps (sub_trans rfl w) (unstage_keeps (sub_trans rfl w) h7)) (fadd1_keeps (dropSlots_keeps (sub_trans rfl w) (unstage_keeps (sub_trans rfl w) h7)) rfl (sub_trans rfl w))) ?_
    refine Keeps.ite (dropSlots_keeps (sub_trans rfl w) (unstage_keeps (sub_trans rfl w) h7)) ?_
    split
    · exact dropSlots_keeps (sub_trans rfl w) (unstage_keeps (sub_trans rfl w) (homeBad_keeps (sub_trans rfl w) h7))
    · extract_lets +onlyGivenNames x11
      clear_value x11
      exact applied_keeps (sub_trans rfl w) (memWrite_keeps (sub_trans rfl w) (unstage_keeps (sub_trans rfl w) h7))
  · exact h0

theorem applyPoint_keeps {s0 : From} {a0 a1} (w : sub 187467548099782855343728074008470304820898453868690525200555023896803513691174066348034 s0.W = true) (h0 : Keeps s0 a0) : Keeps s0 (applyPoint a0 a1) := by
  unfold applyPoint
  extract_lets +onlyGivenNames x5
  extract_lets +onlyGivenNames x6 x7
  clear_value x6 x7
  extract_lets +onlyGivenNames x8
  have h9 : Keeps s0 x8 := upd_rows (sub_trans rfl w) h0
  clear_value x8
  extract_lets +onlyGivenNames x10
  have h11 : Keeps s0 x10 := Keeps.foldl (fun x12 x13 h14 => (Keeps.foldl (fun x15 x16 h17 => (applyRow_keeps (sub_trans rfl w) h17)) _ h14)) _ h9
  clear_value x10
  extract_lets +onlyGivenNames x18
  clear_value x18
  extract_lets +onlyGivenNames x19
  have h20 : Keeps s0 x19 := Keeps.ite (fmaxTo_keeps (fput_keeps (bump_keeps (sub_trans rfl w) h11) rfl (sub_trans rfl w)) rfl (sub_trans rfl w)) h11
  clear_value x19
  exact Keeps.foldl (fun x21 x22 h23 => (Keeps.ite (migStart_keeps (sub_trans rfl w) h23) h23)) _ h20

theorem objZero_keeps {s0 : From} {a0 a1 a2 a3} (w : sub 1073766400 s0.W = true) (h0 : Keeps s0 a0) : Keeps s0 (objZero a0 a1 a2 a3) := by
  unfold objZero
  exact memWrite_keeps w h0

theorem rowCreate_keeps {s0 : From} {a0 a1} (w : sub 11972621413014756705924586149611790497021950760607744 s0.W = true) (h0 : Keeps s0 a0) : Keeps s0 (rowCreate a0 a1) := by
  unfold rowCreate
  extract_lets +onlyGivenNames x5 x6
  clear_value x5 x6
  refine Keeps.ite (rowDone_keeps (sub_trans rfl w) h0) ?_
  refine Keeps.ite (rowDone_keeps (sub_trans rfl w) h0) ?_
  refine Keeps.ite (rowDone_keeps (sub_trans rfl w) h0) ?_
  refine Keeps.ite (rowDone_keeps (sub_trans rfl w) h0) ?_
  extract_lets +onlyGivenNames x7
  clear_value x7
  extract_lets +onlyGivenNames x8
  have h9 : Keeps s0 x8 := tabPut_keeps (sub_trans rfl w) (memPut_keeps (sub_trans rfl w) h0)
  clear_value x8
  extract_lets +onlyGivenNames x10
  have h11 : Keeps s0 x10 := Keeps.foldl (fun x12 x13 h14 => (memPut_keeps (sub_trans rfl w) h14)) _ h9
  clear_value x10
  extract_lets +onlyGivenNames x15
  have h16 : Keeps s0 x15 := Keeps.foldl (fun x17 x18 h19 => (memPut_keeps (sub_trans rfl w) h19)) _ h11
  clear_value x15
  extract_lets +onlyGivenNames x20
  have h21 : Keeps s0 x20 := Keeps.foldl (fun x22 x23 h24 => (objZero_keeps (sub_trans rfl w) h24)) _ h16
  clear_value x20
  exact rowDone_keeps (sub_trans rfl w) (tfPut_keeps (sub_trans rfl w) h21)

theorem execRowCreate_keeps {s0 : From} {a0} (w : sub 11972621413014756705924586149611790497021950760607744 s0.W = true) (h0 : Keeps s0 a0) : KeepsOut s0 (execRowCreate a0) := by
  unfold execRowCreate
  refine KeepsOut.next ?_
  split
  · exact rowCreate_keeps w h0
  · exact h0

theorem migReply_keeps {s0 : From} {a0 a1 a2} (w : sub 536870912 s0.W = true) (h0 : Keeps s0 a0) : Keeps s0 (migReply a0 a1 a2) := by
  unfold migReply
  exact migSend_keeps w h0

theorem migReplay_keeps {s0 : From} {a0 a1} (w : sub 431014370868531241413285101386024457892770379724775426 s0.W = true) (h0 : Keeps s0 a0) : Keeps s0 (migReplay a0 a1) := by
  unfold migReplay
  refine Keeps.ite h0 ?_
  refine Keeps.ite (migReply_keeps (sub_trans rfl w) h0) ?_
  split
  · rename_i h5
    have h6 := KeepsOpt.get (s := s0) h5 (stage_keeps (sub_trans rfl w) h0)
    exact migReply_keeps (sub_trans rfl w) h6
  · exact migReply_keeps (sub_trans rfl w) (fset_keeps h0 rfl (sub_trans rfl w))

theorem execRowDestroy_keeps {s0 : From} {a0} (w : sub 11972621413014756705924586149611790497021950760607744 s0.W = true) (h0 : Keeps s0 a0) : KeepsOut s0 (execRowDestroy a0) := by
  unfold execRowDestroy
  refine KeepsOut.next ?_
  split
  · exact rowDestroy_keeps w h0
  · exact h0

theorem migSwitch_keeps {s0 : From} {a0 a1} (w : sub 107753592717132810353321275346506114473193145897082880 s0.W = true) (h0 : Keeps s0 a0) : Keeps s0 (migSwitch a0 a1) := by
  unfold migSwitch
  split
  · exact h0
  · refine Keeps.ite h0 ?_
    refine Keeps.ite ?_ ?_
    · extract_lets +onlyGivenNames x5
      have h6 : Keeps s0 x5 := Keeps.foldl (fun x7 x8 h9 => (migSend_keeps (sub_trans rfl w) h9)) _ h0
      clear_value x5
      exact migPut_keeps (sub_trans rfl w) h6
    · split
      · exact h0
      · extract_lets +onlyGivenNames x10 x11
        clear_value x10 x11
        extract_lets +onlyGivenNames x12
        have h13 : Keeps s0 x12 := rowPut_keeps (sub_trans rfl w) h0
        clear_value x12
        extract_lets +onlyGivenNames x14
        have h15 : Keeps s0 x14 := dropSlot_keeps (sub_trans rfl w) h13
        clear_value x14
        extract_lets +onlyGivenNames x16 x17
        clear_value x16 x17
        exact Keeps.ite (migActivate_keeps (sub_trans rfl w) h15) (migSend_keeps (sub_trans rfl w) (migPut_keeps (sub_trans rfl w) h15))

theorem execMigrationSwitch_keeps {s0 : From} {a0 a1} (w : sub 107753592717132810353321275346506114473193145897082880 s0.W = true) (h0 : Keeps s0 a1) : KeepsOut s0 (execMigrationSwitch a0 a1) := by
  unfold execMigrationSwitch
  exact KeepsOut.next (migSwitch_keeps w h0)

theorem execMigrationReplay_keeps {s0 : From} {a0 a1} (w : sub 431014370868531241413285101386024457892770379724775426 s0.W = true) (h0 : Keeps s0 a1) : KeepsOut s0 (execMigrationReplay a0 a1) := by
  unfold execMigrationReplay
  exact KeepsOut.next (migReplay_keeps w h0)

theorem migReceive_keeps {s0 : From} {a0 a1} (w : sub 1610637314 s0.W = true) (h0 : Keeps s0 a0) : Keeps s0 (migReceive a0 a1) := by
  unfold migReceive
  extract_lets +onlyGivenNames x5
  clear_value x5
  refine Keeps.ite h0 ?_
  refine Keeps.ite (migReply_keeps (sub_trans rfl w) h0) ?_
  extract_lets +onlyGivenNames x6
  clear_value x6
  split
  · extract_lets +onlyGivenNames x7 x8 x9
    clear_value x7 x8 x9
    extract_lets +onlyGivenNames x10
    have h11 : Keeps s0 x10 := memWrite_keeps (sub_trans rfl w) (takeSlot_keeps (sub_trans rfl w) h0)
    clear_value x10
    extract_lets +onlyGivenNames x12
    have h13 : Keeps s0 x12 := Keeps.ite (dropSlot_keeps (sub_trans rfl w) h11) h11
    clear_value x12
    extract_lets +onlyGivenNames x14
    have h15 : Keeps s0 x14 := rowPut_keeps (sub_trans rfl w) h13
    clear_value x14
    extract_lets +onlyGivenNames x16
    have h17 : Keeps s0 x16 := by
      unfold x16
      split
      · exact memPut_keeps (sub_trans rfl w) h15
      · exact h15
    clear_value x16
    exact migReply_keeps (sub_trans rfl w) (upd_rows (sub_trans rfl w) h17)
  · exact migReply_keeps (sub_trans rfl w) h0

theorem execMigrationRowReceive_keeps {s0 : From} {a0 a1} (w : sub 1610637314 s0.W = true) (h0 : Keeps s0 a1) : KeepsOut s0 (execMigrationRowReceive a0 a1) := by
  unfold execMigrationRowReceive
  exact KeepsOut.next (migReceive_keeps w h0)

theorem rowReset_keeps {s0 : From} {a0 a1} (w : sub 11972621413014756705924586149611790497021950760607744 s0.W = true) (h0 : Keeps s0 a0) : Keeps s0 (rowReset a0 a1) := by
  unfold rowReset
  extract_lets +onlyGivenNames x5
  clear_value x5
  exact Keeps.ite (rowDone_keeps (sub_trans rfl w) h0) (rowDone_keeps (sub_trans rfl w) (Keeps.foldl (fun x6 x7 h8 => (memPut_keeps (sub_trans rfl w) h8)) _ (tfPut_keeps (sub_trans rfl w) h0)))

theorem migActive_keeps {s0 : From} {a0 a1} (w : sub 1610637312 s0.W = true) (h0 : Keeps s0 a0) : Keeps s0 (migActive a0 a1) := by
  unfold migActive
  refine Keeps.ite h0 ?_
  split
  · exact h0
  · extract_lets +onlyGivenNames x5
    clear_value x5
    extract_lets +onlyGivenNames x6
    have h7 : Keeps s0 x6 := rowPut_keeps (sub_trans rfl w) h0
    clear_value x6
    exact upd_rows (sub_trans rfl w) h7

theorem execMigrationActivation_keeps {s0 : From} {a0 a1} (w : sub 1610637312 s0.W = true) (h0 : Keeps s0 a1) : KeepsOut s0 (execMigrationActivation a0 a1) := by
  unfold execMigrationActivation
  exact KeepsOut.next (migActive_keeps w h0)

theorem migHome_keeps {s0 : From} {a0 a1} (w : sub 107753592717132810353321275346506114473193145897082880 s0.W = true) (h0 : Keeps s0 a0) : Keeps s0 (migHome a0 a1) := by
  unfold migHome
  refine Keeps.ite ?_ ?_
  · split
    · exact migActivate_keeps (sub_trans rfl w) h0
    · exact h0
  · split
    · extract_lets +onlyGivenNames x5
      clear_value x5
      exact migReply_keeps (sub_trans rfl w) (rowPut_keeps (sub_trans rfl w) h0)
    · exact h0

theorem execMigrationHomeUpdate_keeps {s0 : From} {a0 a1} (w : sub 107753592717132810353321275346506114473193145897082880 s0.W = true) (h0 : Keeps s0 a1) : KeepsOut s0 (execMigrationHomeUpdate a0 a1) := by
  unfold execMigrationHomeUpdate
  exact KeepsOut.next (migHome_keeps w h0)

theorem execRowResetHistory_keeps {s0 : From} {a0} (w : sub 11972621413014756705924586149611790497021950760607744 s0.W = true) (h0 : Keeps s0 a0) : KeepsOut s0 (execRowResetHistory a0) := by
  unfold execRowResetHistory
  refine KeepsOut.next ?_
  split
  · exact rowReset_keeps w h0
  · exact h0

theorem execApplyTimer_keeps {s0 : From} {a0 a1} (w : sub 187467548099782855343728074008470304820898453868690525200555023896803513691174066348034 s0.W = true) (h0 : Keeps s0 a1) : KeepsOut s0 (execApplyTimer a0 a1) := by
  unfold execApplyTimer
  refine KeepsOut.next ?_
  extract_lets +onlyGivenNames x5
  clear_value x5
  exact Keeps.ite (applyPoint_keeps w h0) h0

theorem migLocal_keeps {s0 : From} {a0 a1 a2 a3 a4} (w : sub 187467548099782855343728074008470065368470193573556406708832031660993573263186225160194 s0.W = true) (h0 : Keeps s0 a0) : Keeps s0 (migLocal a0 a1 a2 a3 a4) := by
  unfold migLocal
  extract_lets +onlyGivenNames x5 x6
  clear_value x5 x6
  split
  · exact rowDone_keeps (sub_trans rfl w) h0
  · split
    · exact rowDone_keeps (sub_trans rfl w) (homeBad_keeps (sub_trans rfl w) h0)
    · extract_lets +onlyGivenNames x7
      have h8 : Keeps s0 x7 := dropShadows_keeps (sub_trans rfl w) h0
      clear_value x7
      extract_lets +onlyGivenNames x9
      clear_value x9
      extract_lets +onlyGivenNames x10
      have h11 : Keeps s0 x10 := Keeps.ite (takeSlot_keeps (sub_trans rfl w) h8) (bump_keeps (sub_trans rfl w) (tabPut_keeps (sub_trans rfl w) h8))
      clear_value x10
      extract_lets +onlyGivenNames x12
      have h13 : Keeps s0 x12 := memWrite_keeps (sub_trans rfl w) h11
      clear_value x12
      extract_lets +onlyGivenNames x14
      clear_value x14
      extract_lets +onlyGivenNames x15
      have h16 : Keeps s0 x15 := rowPut_keeps (sub_trans rfl w) h13
      clear_value x15
      exact rowDone_keeps (sub_trans rfl w) (fadd1_keeps (dropSlot_keeps (sub_trans rfl w) h16) rfl (sub_trans rfl w))

theorem rowMigrate_keeps {s0 : From} {a0 a1} (w : sub 187467548099782855343728074008470065368470193573556406708832031660993573263186225160194 s0.W = true) (h0 : Keeps s0 a0) : Keeps s0 (rowMigrate a0 a1) := by
  unfold rowMigrate
  extract_lets +onlyGivenNames x5 x6 x7 x8 x9
  clear_value x5 x6 x7 x8 x9
  refine Keeps.ite (rowDone_keeps (sub_trans rfl w) h0) ?_
  refine Keeps.ite (rowDone_keeps (sub_trans rfl w) h0) ?_
  split
  · exact rowDone_keeps (sub_trans rfl w) h0
  · extract_lets +onlyGivenNames x10
    have h11 : Keeps s0 x10 := entryCheck_keeps (sub_trans rfl w) h0
    clear_value x10
    extract_lets +onlyGivenNames x12 x13 x14 x15
    clear_value x12 x13 x14 x15
    refine Keeps.ite (rowDone_keeps (sub_trans rfl w) h11) ?_
    refine Keeps.ite (rowDone_keeps (sub_trans rfl w) h11) ?_
    refine Keeps.ite (rowDone_keeps (sub_trans rfl w) h11) ?_
    refine Keeps.ite (rowDone_keeps (sub_trans rfl w) h11) ?_
    refine Keeps.ite (migLocal_keeps w h11) ?_
    extract_lets +onlyGivenNames x16
    clear_value x16
    extract_lets +onlyGivenNames x17
    have h18 : Keeps s0 x17 := upd_rows (sub_trans rfl w) h11
    clear_value x17
    exact migPut_keeps (sub_trans rfl w) h18

theorem execRowMigrate_keeps {s0 : From} {a0} (w : sub 187467548099782855343728074008470065368470193573556406708832031660993573263186225160194 s0.W = true) (h0 : Keeps s0 a0) : KeepsOut s0 (execRowMigrate a0) := by
  unfold execRowMigrate
  refine KeepsOut.next ?_
  split
  · exact rowMigrate_keeps w h0
  · exact h0

end Sys2Proof.Machine
end

