-- ==== Sys2Proof/Laws/KeepsSched.lean ====
section
/-!
SUPPORT. What the operations of `Sys2Proof.Machine.Sched` keep (`Sys2Proof.Machine.Keeps`): one lemma for each.
-/

namespace Sys2Proof.Machine

theorem setQueue_keeps {s0 : From} {a0 a1 a2} (w : sub 4194304 s0.W = true) (h0 : Keeps s0 a0) : Keeps s0 (setQueue a0 a1 a2) := by
  unfold setQueue
  exact upd_sch (sub_trans rfl w) h0

theorem resumeNow_keeps {s0 : From} {a0 a1} (w : sub 2371421987580235682274733772977928352834969285952318751528091320482061480223727616 s0.W = true) (h0 : Keeps s0 a0) : Keeps s0 (resumeNow a0 a1) := by
  unfold resumeNow
  extract_lets +onlyGivenNames x5
  clear_value x5
  exact cxChange_keeps w h0

theorem preemptNow_keeps {s0 : From} {a0 a1} (w : sub 2371421987580235682274733772977928352834969285952318751528091320482061480223727616 s0.W = true) (h0 : Keeps s0 a0) : Keeps s0 (preemptNow a0 a1) := by
  unfold preemptNow
  extract_lets +onlyGivenNames x5
  clear_value x5
  exact cxChange_keeps w h0

theorem preemptUntil_keeps {s0 : From} {a0 a1 a2 a3} (w : sub 2371421987580235682274733772977928352834969285952318751528091320482061480223727616 s0.W = true) (h0 : Keeps s0 a0) : Keeps s0 (preemptUntil a0 a1 a2 a3) := by
  induction a2 generalizing a0 a1 a3 with
  | zero => unfold preemptUntil; exact h0
  | succ n ih =>
    cases a3 with
    | nil => unfold preemptUntil; exact h0
    | cons c r =>
      unfold preemptUntil
      exact Keeps.ite h0 (ih (preemptNow_keeps (sub_trans rfl w) h0))

theorem startSwapIns_keeps {s0 : From} {a0 a1 a2} (w : sub 2371421987580235682274733772977928352834969285952323822130492233399667467171028994 s0.W = true) (h0 : Keeps s0 a0) : Keeps s0 (startSwapIns a0 a1 a2) := by
  unfold startSwapIns
  extract_lets +onlyGivenNames x5
  clear_value x5
  refine Keeps.foldl_snd (fun x6 x7 h8 => ?_) _ h0
  extract_lets +onlyGivenNames x9
  clear_value x9
  split
  · exact Keeps.snd (swapInStart_keeps w h8)
  · exact h8

theorem preemption_keeps {s0 : From} {a0 a1} (w : sub 2371421987580235682274733772977928352834969285952323822130492233399667467171028994 s0.W = true) (h0 : Keeps s0 a0) : Keeps s0 (preemption a0 a1) := by
  unfold preemption
  extract_lets +onlyGivenNames x5
  have h6 : Keeps s0 x5 := Keeps.foldl (fun x7 x8 h9 => (Keeps.ite (preemptNow_keeps (sub_trans rfl w) h9) h9)) _ h0
  clear_value x5
  extract_lets +onlyGivenNames x10
  clear_value x10
  extract_lets +onlyGivenNames x11
  have h12 : Keeps s0 x11 := Keeps.ite (preemptUntil_keeps (sub_trans rfl w) h6) h6
  clear_value x11
  extract_lets +onlyGivenNames x13
  have h14 : Keeps s0 x13 := Keeps.foldl (fun x15 x16 h17 => (Keeps.ite (cxUpd_keeps (sub_trans rfl w) h17) h17)) _ h12
  clear_value x13
  refine Keeps.ite (startSwaps_keeps w h14) ?_
  extract_lets +onlyGivenNames x18
  clear_value x18
  extract_lets +onlyGivenNames x19
  have h20 : Keeps s0 x19 := Keeps.foldl (fun x21 x22 h23 => (resumeNow_keeps (sub_trans rfl w) h23)) _ h14
  clear_value x19
  exact startSwaps_keeps w (startSwapIns_keeps w h20)

theorem coverHold_keeps {s0 : From} {a0 a1} (w : sub 1067993517960455041197510853084776057301352261178326384973520803911109862890320275011481043468288 s0.W = true) (h0 : Keeps s0 a0) : Keeps s0 (coverHold a0 a1) := by
  unfold coverHold
  refine Keeps.foldl (fun x5 x6 h7 => ?_) _ h0
  extract_lets +onlyGivenNames x8 x9
  clear_value x8 x9
  refine Keeps.ite h7 ?_
  split
  · exact fput_keeps h7 rfl (sub_trans rfl w)
  · exact h7

theorem ratioStart_keeps {s0 : From} {a0 a1} (w : sub 2596148429267413814265248168804352 s0.W = true) (h0 : Keeps s0 a0) : Keeps s0 (ratioStart a0 a1) := by
  unfold ratioStart
  extract_lets +onlyGivenNames x5
  have h6 : Keeps s0 x5 := fput_keeps (fput_keeps h0 rfl (sub_trans rfl w)) rfl (sub_trans rfl w)
  clear_value x5
  exact partPut_keeps (sub_trans rfl w) h6

theorem ratioForm_keeps {s0 : From} {a0 a1} (w : sub 3894222643901120721397872251109376 s0.W = true) (h0 : Keeps s0 a0) : Keeps s0 (ratioForm a0 a1) := by
  unfold ratioForm
  extract_lets +onlyGivenNames x5
  clear_value x5
  extract_lets +onlyGivenNames x6
  have h7 : Keeps s0 x6 := Keeps.ite (ratioStart_keeps (sub_trans rfl w) h0) h0
  clear_value x6
  exact fput_keeps h7 rfl (sub_trans rfl w)

theorem giveTurn_keeps {s0 : From} {a0 a1} (w : sub 4194304 s0.W = true) (h0 : Keeps s0 a0) : Keeps s0 (giveTurn a0 a1) := by
  unfold giveTurn
  extract_lets +onlyGivenNames x5 x6 x7 x8
  clear_value x5 x6 x7 x8
  refine Keeps.ite h0 ?_
  refine Keeps.ite (upd_sch (sub_trans rfl w) h0) ?_
  extract_lets +onlyGivenNames x9
  have h10 : Keeps s0 x9 := Keeps.foldl (fun x11 x12 h13 => (partPut_keeps w h13)) _ h0
  clear_value x9
  extract_lets +onlyGivenNames x14 x15 x16
  clear_value x14 x15 x16
  extract_lets +onlyGivenNames x17
  have h18 : Keeps s0 x17 := partPut_keeps w h10
  clear_value x17
  exact upd_sch (sub_trans rfl w) h18

theorem applyModify_keeps {s0 : From} {a0 a1 a2} (w : sub 2371421987580235682274733772977928352834969285952318751837576330303406548950638592 s0.W = true) (h0 : Keeps s0 a0) : Keeps s0 (applyModify a0 a1 a2) := by
  unfold applyModify
  extract_lets +onlyGivenNames x5 x6 x7 x8
  clear_value x5 x6 x7 x8
  extract_lets +onlyGivenNames x9
  have h10 : ∀ x00 x01, Keeps s0 x00 → Keeps s0 (x9 x00 x01) := fun x11 x12 h13 => (answer_keeps (sub_trans rfl w) h13)
  clear_value x9
  refine Keeps.ite (h10 _ _ h0) ?_
  extract_lets +onlyGivenNames x14
  clear_value x14
  refine Keeps.ite (h10 _ _ h0) ?_
  extract_lets +onlyGivenNames x15
  clear_value x15
  exact h10 _ _ (dmod_keeps (sub_trans rfl w) h0)

theorem cmdResult_keeps {s0 : From} {a0 a1 a2} (w : sub 2535301200456458802993406410752 s0.W = true) (h0 : Keeps s0 a0) : Keeps s0 (cmdResult a0 a1 a2) := by
  unfold cmdResult
  exact fput_keeps (fput_keeps h0 rfl (sub_trans rfl w)) rfl (sub_trans rfl w)

theorem applyCmd_keeps {s0 : From} {a0 a1} (w : sub 2371421987580235682274733772977928352834969285952356781355772071844766236006604802 s0.W = true) (h0 : Keeps s0 a0) : Keeps s0 (applyCmd a0 a1) := by
  unfold applyCmd
  extract_lets +onlyGivenNames x5 x6 x7 x8 x9
  clear_value x5 x6 x7 x8 x9
  refine Keeps.ite (cmdResult_keeps (sub_trans rfl w) h0) ?_
  refine Keeps.ite (cmdResult_keeps (sub_trans rfl w) h0) ?_
  extract_lets +onlyGivenNames x10
  have h11 : Keeps s0 x10 := descRead_keeps (sub_trans rfl w) h0
  clear_value x10
  extract_lets +onlyGivenNames x12 x13
  clear_value x12 x13
  split
  · refine Keeps.ite (cmdResult_keeps (sub_trans rfl w) h11) ?_
    extract_lets +onlyGivenNames x14
    have h15 : Keeps s0 x14 := dmod_keeps (sub_trans rfl w) h11
    clear_value x14
    extract_lets +onlyGivenNames x16
    have h17 : Keeps s0 x16 := Keeps.ite (preemptNow_keeps (sub_trans rfl w) h15) (Keeps.ite (cxUpd_keeps (sub_trans rfl w) h15) h15)
    clear_value x16
    exact cmdResult_keeps (sub_trans rfl w) h17
  · refine Keeps.ite (cmdResult_keeps (sub_trans rfl w) h11) ?_
    extract_lets +onlyGivenNames x18
    have h19 : Keeps s0 x18 := dmod_keeps (sub_trans rfl w) h11
    clear_value x18
    exact cmdResult_keeps (sub_trans rfl w) (Keeps.ite (resumeNow_keeps (sub_trans rfl w) h19) h19)
  · exact Keeps.ite (cmdResult_keeps (sub_trans rfl w) h11) (Keeps.ite (cmdResult_keeps (sub_trans rfl w) h11) (Keeps.ite (cmdResult_keeps (sub_trans rfl w) (swapOutStart_keeps (sub_trans rfl w) h11)) (cmdResult_keeps (sub_trans rfl w) (cxUpd_keeps (sub_trans rfl w) h11))))
  · exact Keeps.ite (cmdResult_keeps (sub_trans rfl w) h11) (Keeps.ite (cmdResult_keeps (sub_trans rfl w) h11) (Keeps.ite (cmdResult_keeps (sub_trans rfl w) h11) (Keeps.ite (cmdResult_keeps (sub_trans rfl w) (swapInStart_keeps (sub_trans rfl w) h11)) (cmdResult_keeps (sub_trans rfl w) (cxUpd_keeps (sub_trans rfl w) h11)))))
  · exact Keeps.ite (cmdResult_keeps (sub_trans rfl w) h11) (cmdResult_keeps (sub_trans rfl w) (dmod_keeps (sub_trans rfl w) h11))

theorem applyReq_keeps {s0 : From} {a0 a1} (w : sub 2371421987580235682274733772977928352834969285952356781355772071844766236006604802 s0.W = true) (h0 : Keeps s0 a0) : Keeps s0 (applyReq a0 a1) := by
  unfold applyReq
  split
  · exact applyModify_keeps (sub_trans rfl w) h0
  · exact applyCmd_keeps w h0

theorem applyHead_keeps {s0 : From} {a0 a1 a2} (w : sub 2371421987580235682274733772977928352834969285952356781355772071844766236010799106 s0.W = true) (h0 : Keeps s0 a0) : Keeps s0 (applyHead a0 a1 a2) := by
  unfold applyHead
  split
  · exact Keeps.ite (applyReq_keeps (sub_trans rfl w) (setQueue_keeps (sub_trans rfl w) h0)) h0
  · exact h0

theorem partWrite_keeps {s0 : From} {a0 a1 a2} (w : sub 40564819207303340847894506766336 s0.W = true) (h0 : Keeps s0 a0) : Keeps s0 (partWrite a0 a1 a2) := by
  unfold partWrite
  extract_lets x1 x2 x3 x4 x5 x6
  have h6 : Keeps s0 x6 := by
    refine rput_keeps h0 (sub_trans rfl w) (fun _ => Reg.holds_w64 (fun j _ hj => ?_))
    rw [Nat.testBit_mod_two_pow] at hj
    simp only [Bool.and_eq_true, decide_eq_true_eq] at hj
    exact Fld.ok_mask (f := ⟨.SCH_PART_CTL, 0, 37⟩) rfl (Nat.zero_le _) (by simpa using hj.1)
  exact Keeps.ite h6 (Keeps.foldl (fun _ _ h => partPut_keeps (sub_trans rfl w) h) _ h6)

theorem deadlineTest_keeps {s0 : From} {a0 a1 a2 a3} (w : sub 2371421987580235682274733772977928352834969285952349175452170702468357255636115456 s0.W = true) (h0 : Keeps s0 a0) : Keeps s0 (deadlineTest a0 a1 a2 a3) := by
  unfold deadlineTest
  extract_lets +onlyGivenNames x5 x6 x7 x8
  clear_value x5 x6 x7 x8
  refine Keeps.ite h0 ?_
  extract_lets +onlyGivenNames x9
  clear_value x9
  exact Keeps.ite (drain_keeps w h0) (cxChange_keeps (sub_trans rfl w) h0)

theorem applyQueue_keeps {s0 : From} {a0 a1} (w : sub 2371421987580235682274733772977928352834969285952356781355772071844766236010799106 s0.W = true) (h0 : Keeps s0 a0) : Keeps s0 (applyQueue a0 a1) := by
  unfold applyQueue
  exact Keeps.foldl (fun x5 x6 h7 => (applyReq_keeps (sub_trans rfl w) h7)) _ (setQueue_keeps (sub_trans rfl w) h0)

theorem leaveRebuild_keeps {s0 : From} {a0 a1} (w : sub 497325607831774222391064522880593818028808985766633669759215504984479979074013599260672 s0.W = true) (h0 : Keeps s0 a0) : Keeps s0 (leaveRebuild a0 a1) := by
  unfold leaveRebuild
  extract_lets +onlyGivenNames x5
  clear_value x5
  exact Keeps.ite (cxChange_keeps (sub_trans rfl w) h0) (fsetIf_keeps h0 rfl (sub_trans rfl w))

theorem formChanges_keeps {s0 : From} {a0 a1 a2 a3} (w : sub 1067993518457780649029285075475840580181946079207135370740154473708355195555551616790250429800450 s0.W = true) (h0 : Keeps s0 a0) : Keeps s0 (formChanges a0 a1 a2 a3) := by
  unfold formChanges
  extract_lets +onlyGivenNames x5
  have h6 : Keeps s0 x5 := Keeps.foldl (fun x7 x8 h9 => (descReadAt_keeps (sub_trans rfl w) h9)) _ h0
  clear_value x5
  extract_lets +onlyGivenNames x10
  have h11 : Keeps s0 x10 := applyQueue_keeps (sub_trans rfl w) h6
  clear_value x10
  extract_lets +onlyGivenNames x12
  have h13 : Keeps s0 x12 := Keeps.foldl (fun x14 x15 h16 => (deadlineTest_keeps (sub_trans rfl w) h16)) _ h11
  clear_value x12
  extract_lets +onlyGivenNames x17
  have h18 : Keeps s0 x17 := preemption_keeps (sub_trans rfl w) h13
  clear_value x17
  exact coverHold_keeps (sub_trans rfl w) (Keeps.foldl (fun x19 x20 h21 => (leaveRebuild_keeps (sub_trans rfl w) h21)) _ h18)

theorem partCtl_keeps {s0 : From} {a0 a1 a2} (w : sub 45635421608216258453881319587840 s0.W = true) (h0 : Keeps s0 a0) : Keeps s0 (partCtl a0 a1 a2) := by
  unfold partCtl
  exact Keeps.ite (fset_keeps h0 rfl (sub_trans rfl w)) (Keeps.ite (partPut_keeps (sub_trans rfl w) h0) (partWrite_keeps (sub_trans rfl w) h0))

theorem execSchPartCtl_keeps {s0 : From} {a0 a1 a2} (w : sub 45635421608363832406470996000768 s0.W = true) (h0 : Keeps s0 a2) : KeepsOut s0 (execSchPartCtl a0 a1 a2) := by
  unfold execSchPartCtl
  exact KeepsOut.next (regGate_keeps (sub_trans rfl w) h0 (sub_trans rfl w) (fun x5 h6 => (partCtl_keeps (sub_trans rfl w) h6)))

theorem ratioWrite_keeps {s0 : From} {a0 a1 a2} (w : sub 1298074214633706907132624086499328 s0.W = true) (h0 : Keeps s0 a0) : Keeps s0 (ratioWrite a0 a1 a2) := by
  unfold ratioWrite
  extract_lets +onlyGivenNames x5
  have h6 : Keeps s0 x5 := fput_keeps h0 rfl (sub_trans rfl w)
  clear_value x5
  extract_lets +onlyGivenNames x7
  have h8 : Keeps s0 x7 := fput_keeps h6 rfl (sub_trans rfl w)
  clear_value x7
  extract_lets +onlyGivenNames x9
  have h10 : Keeps s0 x9 := fput_keeps (fput_keeps (fput_keeps h8 rfl (sub_trans rfl w)) rfl (sub_trans rfl w)) rfl (sub_trans rfl w)
  clear_value x9
  extract_lets +onlyGivenNames x11
  have h12 : Keeps s0 x11 := fput_keeps h10 rfl (sub_trans rfl w)
  clear_value x11
  extract_lets +onlyGivenNames x13
  have h14 : Keeps s0 x13 := fput_keeps h12 rfl (sub_trans rfl w)
  clear_value x13
  extract_lets +onlyGivenNames x15
  have h16 : Keeps s0 x15 := fput_keeps h14 rfl (sub_trans rfl w)
  clear_value x15
  exact partPut_keeps (sub_trans rfl w) h16

theorem execSwapIn_keeps {s0 : From} {a0 a1} (w : sub 2371421987580235682274733772977928352834969285952356781355772071844766236010799106 s0.W = true) (h0 : Keeps s0 a1) : KeepsOut s0 (execSwapIn a0 a1) := by
  unfold execSwapIn
  exact KeepsOut.next (applyHead_keeps w h0)

theorem execPreempt_keeps {s0 : From} {a0 a1} (w : sub 2371421987580235682274733772977928352834969285952356781355772071844766236010799106 s0.W = true) (h0 : Keeps s0 a1) : KeepsOut s0 (execPreempt a0 a1) := by
  unfold execPreempt
  exact KeepsOut.next (applyHead_keeps w h0)

theorem admitChunks_keeps {s0 : From} {a0 a1 a2 a3} (w : sub 8388608 s0.W = true) (h0 : Keeps s0 a0) : Keeps s0 (admitChunks a0 a1 a2 a3) := by
  unfold admitChunks
  refine Keeps.foldl (fun x5 x6 h7 => ?_) _ h0
  extract_lets +onlyGivenNames x8
  clear_value x8
  exact cxPut_keeps w h7

theorem admitDecode_keeps {s0 : From} {a0 a1 a2 a3} (w : sub 2371421987580235682274733772977928352834969285952318751528091320482061480223727616 s0.W = true) (h0 : Keeps s0 a0) : Keeps s0 (admitDecode a0 a1 a2 a3) := by
  unfold admitDecode
  refine Keeps.foldl (fun x5 x6 h7 => ?_) _ h0
  extract_lets +onlyGivenNames x8
  clear_value x8
  exact cxChange_keeps w h7

theorem formWith_keeps {s0 : From} {a0 a1 a2 a3} (w : sub 1067993518457780649029285075475840580181946079207135370740154493179468415061155223779611665424386 s0.W = true) (h0 : Keeps s0 a0) : Keeps s0 (formWith a0 a1 a2 a3).2 := by
  unfold formWith
  extract_lets +onlyGivenNames x5
  have h6 : Keeps s0 x5 := giveTurn_keeps (sub_trans rfl w) (formChanges_keeps (sub_trans rfl w) h0)
  clear_value x5
  extract_lets +onlyGivenNames x7 x8 x9 x10
  clear_value x7 x8 x9 x10
  split
  extract_lets +onlyGivenNames x11
  have h12 : Keeps s0 x11 := Keeps.ite (ratioForm_keeps (sub_trans rfl w) h6) h6
  clear_value x11
  extract_lets +onlyGivenNames x13 x14
  clear_value x13 x14
  split
  · exact h12
  · split
    · split
      · exact Keeps.snd (stepPut_keeps (sub_trans rfl w) h12)
      · exact h12
    · extract_lets +onlyGivenNames x15 x16 x17
      clear_value x15 x16 x17
      extract_lets +onlyGivenNames x18
      have h19 : Keeps s0 x18 := fput_keeps (fput_keeps h12 rfl (sub_trans rfl w)) rfl (sub_trans rfl w)
      clear_value x18
      extract_lets +onlyGivenNames x20
      have h21 : Keeps s0 x20 := Keeps.ite h19 (fput_keeps (fput_keeps (fput_keeps h19 rfl (sub_trans rfl w)) rfl (sub_trans rfl w)) rfl (sub_trans rfl w))
      clear_value x20
      extract_lets +onlyGivenNames x22
      clear_value x22
      extract_lets +onlyGivenNames x23
      have h24 : Keeps s0 x23 := fput_keeps h21 rfl (sub_trans rfl w)
      clear_value x23
      extract_lets +onlyGivenNames x25
      have h26 : Keeps s0 x25 := fput_keeps h24 rfl (sub_trans rfl w)
      clear_value x25
      extract_lets +onlyGivenNames x27
      have h28 : Keeps s0 x27 := fput_keeps h26 rfl (sub_trans rfl w)
      clear_value x27
      extract_lets +onlyGivenNames x29
      have h30 : Keeps s0 x29 := stepPut_keeps (sub_trans rfl w) h28
      clear_value x29
      extract_lets +onlyGivenNames x31
      have h32 : Keeps s0 x31 := admitChunks_keeps (sub_trans rfl w) (admitDecode_keeps (sub_trans rfl w) h30)
      clear_value x31
      extract_lets +onlyGivenNames x33
      have h34 : ∀ x00 x01 x02 x03, Keeps s0 x00 → Keeps s0 (x33 x00 x01 x02 x03) := by
        refine fun x35 x36 x37 x38 h39 => ?_
        unfold x33
        extract_lets +onlyGivenNames x40
        clear_value x40
        exact pushToSet_keeps (sub_trans rfl w) (stepAdd_keeps (sub_trans rfl w) h39)
      clear_value x33
      extract_lets +onlyGivenNames x41
      have h42 : Keeps s0 x41 := memWrite_keeps (sub_trans rfl w) h32
      clear_value x41
      extract_lets +onlyGivenNames x43
      have h44 : Keeps s0 x43 := Keeps.ite h32 (h34 _ _ _ _ h42)
      clear_value x43
      extract_lets +onlyGivenNames x45
      have h46 : Keeps s0 x45 := Keeps.foldl (fun x47 x48 h49 => (h34 _ _ _ _ h49)) _ h44
      clear_value x45
      exact h46

theorem formation_keeps {s0 : From} {a0 a1 a2} (w : sub 1067993518457780649029285075475840580181946079207135370740154493179468415061155223779611665424386 s0.W = true) (h0 : Keeps s0 a0) : Keeps s0 (formation a0 a1 a2) := by
  unfold formation
  refine Keeps.ite h0 ?_
  extract_lets +onlyGivenNames x5
  have h6 : Keeps s0 x5 := giveTurn_keeps (sub_trans rfl w) h0
  clear_value x5
  refine Keeps.ite h6 ?_
  extract_lets +onlyGivenNames x7
  have h8 : Keeps s0 x7.2 := formWith_keeps w h6
  clear_value x7
  extract_lets +onlyGivenNames x9
  clear_value x9
  exact Keeps.ite h8 (formWith_keeps w h6)

theorem execResume_keeps {s0 : From} {a0 a1} (w : sub 2371421987580235682274733772977928352834969285952356781355772071844766236010799106 s0.W = true) (h0 : Keeps s0 a1) : KeepsOut s0 (execResume a0 a1) := by
  unfold execResume
  exact KeepsOut.next (applyHead_keeps w h0)

theorem queueCtxCmd_keeps {s0 : From} {a0 a1} (w : sub 5070602400912917605986817015808 s0.W = true) (h0 : Keeps s0 a0) : Keeps s0 (queueCtxCmd a0 a1) := by
  unfold queueCtxCmd
  extract_lets +onlyGivenNames x5
  clear_value x5
  refine Keeps.ite (fset_keeps h0 rfl (sub_trans rfl w)) ?_
  extract_lets +onlyGivenNames x6
  clear_value x6
  exact setQueue_keeps (sub_trans rfl w) h0

theorem execRelease_keeps {s0 : From} {a0 a1} (w : sub 2371421987580235682274733772977928352834969285952356781355772071844766236010799106 s0.W = true) (h0 : Keeps s0 a1) : KeepsOut s0 (execRelease a0 a1) := by
  unfold execRelease
  exact KeepsOut.next (applyHead_keeps w h0)

theorem execSchRatio_keeps {s0 : From} {a0 a1 a2} (w : sub 1298074214633854481085213762912256 s0.W = true) (h0 : Keeps s0 a2) : KeepsOut s0 (execSchRatio a0 a1 a2) := by
  unfold execSchRatio
  exact KeepsOut.next (regGate_keeps (sub_trans rfl w) h0 (sub_trans rfl w) (fun x5 h6 => (ratioWrite_keeps (sub_trans rfl w) h6)))

theorem execSwapOut_keeps {s0 : From} {a0 a1} (w : sub 2371421987580235682274733772977928352834969285952356781355772071844766236010799106 s0.W = true) (h0 : Keeps s0 a1) : KeepsOut s0 (execSwapOut a0 a1) := by
  unfold execSwapOut
  exact KeepsOut.next (applyHead_keeps w h0)

theorem execStepFormation_keeps {s0 : From} {a0 a1 a2} (w : sub 1067993518457780649029285075475840580181946079207135370740154493179468415061155223779611665424386 s0.W = true) (h0 : Keeps s0 a2) : KeepsOut s0 (execStepFormation a0 a1 a2) := by
  unfold execStepFormation
  exact KeepsOut.next (formation_keeps w h0)

end Sys2Proof.Machine
end

