-- ==== Sys2Proof/Laws/KeepsCommit.lean ====
section
/-!
SUPPORT. What the operations of `Sys2Proof.Machine.Commit` keep (`Sys2Proof.Machine.Keeps`): one lemma for each.
-/

namespace Sys2Proof.Machine

theorem commitChunk_keeps {s0 : From} {a0 a1 a2 a3} (w : sub 497325607831774222391064522880593818028808985766633669764286107385392896680009002016768 s0.W = true) (h0 : Keeps s0 a0) : Keeps s0 (commitChunk a0 a1 a2 a3) := by
  unfold commitChunk
  extract_lets +onlyGivenNames x5
  clear_value x5
  split
  · exact h0
  · refine Keeps.ite h0 ?_
    extract_lets +onlyGivenNames x6
    clear_value x6
    refine Keeps.ite ?_ ?_
    · extract_lets +onlyGivenNames x7
      clear_value x7
      exact Keeps.ite (cxChange_keeps (sub_trans rfl w) (fset_keeps h0 rfl (sub_trans rfl w))) (cxPut_keeps (sub_trans rfl w) h0)
    · refine Keeps.ite (cxPut_keeps (sub_trans rfl w) h0) ?_
      extract_lets +onlyGivenNames x8 x9
      clear_value x8 x9
      extract_lets +onlyGivenNames x10
      have h11 : Keeps s0 x10 := meter_keeps (sub_trans rfl w) h0
      clear_value x10
      refine Keeps.ite ?_ ?_
      · extract_lets +onlyGivenNames x12 x13
        clear_value x12 x13
        exact fsetIf_keeps (cxChange_keeps (sub_trans rfl w) h11) rfl (sub_trans rfl w)
      · extract_lets +onlyGivenNames x14 x15
        clear_value x14 x15
        exact cxChange_keeps (sub_trans rfl w) h11

theorem tokenOut_keeps {s0 : From} {a0 a1 a2 a3 a4 a5} (w : sub 309522788753208575652823040 s0.W = true) (h0 : Keeps s0 a0) : Keeps s0 (tokenOut a0 a1 a2 a3 a4 a5) := by
  unfold tokenOut
  extract_lets +onlyGivenNames x5
  clear_value x5
  refine Keeps.ite h0 ?_
  extract_lets +onlyGivenNames x6
  clear_value x6
  extract_lets +onlyGivenNames x7
  have h8 : Keeps s0 x7 := Keeps.ite h0 (hostWrite_keeps (sub_trans rfl w) h0)
  clear_value x7
  refine Keeps.ite h8 ?_
  refine Keeps.ite ?_ (hstErr_keeps (sub_trans rfl w) (cxUpd_keeps (sub_trans rfl w) h8) rfl (sub_trans rfl w))
  extract_lets +onlyGivenNames x9
  clear_value x9
  exact cxUpd_keeps (sub_trans rfl w) (cplWrite_keeps (sub_trans rfl w) h8)

theorem commitToken_keeps {s0 : From} {a0 a1 a2 a3 a4 a5 a6} (w : sub 187469919521770435579410348742242552419345094937820074595825714589310976829885268811778 s0.W = true) (h0 : Keeps s0 a0) : Keeps s0 (commitToken a0 a1 a2 a3 a4 a5 a6) := by
  unfold commitToken
  extract_lets +onlyGivenNames x5 x6
  clear_value x5 x6
  extract_lets +onlyGivenNames x7
  have h8 : Keeps s0 x7 := logWrite_keeps (sub_trans rfl w) h0
  clear_value x7
  extract_lets +onlyGivenNames x9 x10 x11 x12
  clear_value x9 x10 x11 x12
  extract_lets +onlyGivenNames x13
  have h14 : Keeps s0 x13 := cxChange_keeps (sub_trans rfl w) h8
  clear_value x13
  extract_lets +onlyGivenNames x15
  have h16 : Keeps s0 x15 := Keeps.ite (fadd1_keeps h14 rfl (sub_trans rfl w)) h14
  clear_value x15
  extract_lets +onlyGivenNames x17
  have h18 : Keeps s0 x17 := meter_keeps (sub_trans rfl w) h16
  clear_value x17
  exact tokenOut_keeps (sub_trans rfl w) h18

theorem commitDecode_keeps {s0 : From} {a0 a1 a2 a3 a4} (w : sub 187469919579666480198075028472257329747857671528783763074191243141891753493217161437186 s0.W = true) (h0 : Keeps s0 a0) : Keeps s0 (commitDecode a0 a1 a2 a3 a4) := by
  unfold commitDecode
  extract_lets +onlyGivenNames x5
  have h6 : Keeps s0 x5 := descRead_keeps (sub_trans rfl w) h0
  clear_value x5
  extract_lets +onlyGivenNames x7
  clear_value x7
  refine Keeps.ite h6 ?_
  extract_lets +onlyGivenNames x8 x9 x10 x11
  clear_value x8 x9 x10 x11
  refine Keeps.ite (ctxRelease_keeps (sub_trans rfl w) (cxPut_keeps (sub_trans rfl w) h6)) ?_
  refine Keeps.ite (closeMembers_keeps (sub_trans rfl w) (drain_keeps (sub_trans rfl w) h6)) ?_
  refine Keeps.ite (drain_keeps (sub_trans rfl w) h6) ?_
  refine Keeps.ite (drain_keeps (sub_trans rfl w) h6) ?_
  refine Keeps.ite ?_ ?_
  · extract_lets +onlyGivenNames x12 x13 x14
    clear_value x12 x13 x14
    extract_lets +onlyGivenNames x15
    have h16 : Keeps s0 x15 := cxChange_keeps (sub_trans rfl w) h6
    clear_value x15
    exact Keeps.ite (endNow_keeps (sub_trans rfl w) h16) h16
  · split
    · exact drain_keeps (sub_trans rfl w) (fset_keeps h6 rfl (sub_trans rfl w))
    · extract_lets +onlyGivenNames x17
      clear_value x17
      extract_lets +onlyGivenNames x18
      have h19 : Keeps s0 x18 := commitToken_keeps (sub_trans rfl w) (cxPut_keeps (sub_trans rfl w) h6)
      clear_value x18
      exact Keeps.ite (endNow_keeps (sub_trans rfl w) h19) (Keeps.ite (endNow_keeps (sub_trans rfl w) h19) h19)

theorem windowsCommit_keeps {s0 : From} {a0 a1} (w : sub 187469919579666480198075028472257329777087704275401821402770413353701441847530734149634 s0.W = true) (h0 : Keeps s0 a0) : Keeps s0 (windowsCommit a0 a1) := by
  unfold windowsCommit
  exact Keeps.foldl (fun x5 x6 h7 => (Keeps.ite h7 (Keeps.ite (windowOff_keeps (sub_trans rfl w) h7) (windowNext_keeps (sub_trans rfl w) h7)))) _ h0

theorem ratioCommit_keeps {s0 : From} {a0 a1 a2} (w : sub 2596148429267413814265248168804352 s0.W = true) (h0 : Keeps s0 a0) : Keeps s0 (ratioCommit a0 a1 a2) := by
  unfold ratioCommit
  refine Keeps.ite h0 ?_
  extract_lets +onlyGivenNames x5 x6 x7 x8 x9 x10 x11 x12 x13 x14 x15
  clear_value x5 x6 x7 x8 x9 x10 x11 x12 x13 x14 x15
  extract_lets +onlyGivenNames x16
  have h17 : Keeps s0 x16 := fput_keeps (fput_keeps (fput_keeps h0 rfl (sub_trans rfl w)) rfl (sub_trans rfl w)) rfl (sub_trans rfl w)
  clear_value x16
  exact partPut_keeps (sub_trans rfl w) h17

theorem heldWrites_keeps {s0 : From} {a0 a1} (w : sub 45635421608216258453881319587840 s0.W = true) (h0 : Keeps s0 a0) : Keeps s0 (heldWrites a0 a1) := by
  unfold heldWrites
  refine Keeps.foldl (fun x5 x6 h7 => ?_) _ h0
  split
  · exact h7
  · extract_lets +onlyGivenNames x8
    clear_value x8
    extract_lets +onlyGivenNames x9
    have h10 : Keeps s0 x9 := partPut_keeps (sub_trans rfl w) h7
    clear_value x9
    exact Keeps.ite (fset_keeps h10 rfl (sub_trans rfl w)) (partWrite_keeps (sub_trans rfl w) h10)

theorem stepOver_keeps {s0 : From} {a0 a1 a2} (w : sub 187469919579666480198075028472258060106993898175560916598090541757517604055001646161922 s0.W = true) (h0 : Keeps s0 a0) : Keeps s0 (stepOver a0 a1 a2) := by
  unfold stepOver
  extract_lets +onlyGivenNames x5 x6 x7 x8
  clear_value x5 x6 x7 x8
  extract_lets +onlyGivenNames x9
  have h10 : Keeps s0 x9 := partPut_keeps (sub_trans rfl w) h0
  clear_value x9
  extract_lets +onlyGivenNames x11
  clear_value x11
  extract_lets +onlyGivenNames x12
  have h13 : Keeps s0 x12 := upd_sch (sub_trans rfl w) h10
  clear_value x12
  extract_lets +onlyGivenNames x14
  have h15 : Keeps s0 x14 := fput_keeps (fmaxTo_keeps (fput_keeps h13 rfl (sub_trans rfl w)) rfl (sub_trans rfl w)) rfl (sub_trans rfl w)
  clear_value x14
  extract_lets +onlyGivenNames x16
  have h17 : Keeps s0 x16 := applyPoint_keeps (sub_trans rfl w) (windowsCommit_keeps (sub_trans rfl w) (ratioCommit_keeps (sub_trans rfl w) h15))
  clear_value x16
  exact heldWrites_keeps (sub_trans rfl w) h17

theorem commitPoint_keeps {s0 : From} {a0 a1 a2} (w : sub 684793155989453122353457276619078900207450048972908634068978442692280155500353287020546 s0.W = true) (h0 : Keeps s0 a0) : Keeps s0 (commitPoint a0 a1 a2) := by
  unfold commitPoint
  split
  · exact h0
  · refine Keeps.ite h0 ?_
    extract_lets +onlyGivenNames x5
    clear_value x5
    extract_lets +onlyGivenNames x6
    have h7 : Keeps s0 x6 := Keeps.foldl (fun x8 x9 h10 => (commitDecode_keeps (sub_trans rfl w) h10)) _ h0
    clear_value x6
    extract_lets +onlyGivenNames x11
    have h12 : Keeps s0 x11 := Keeps.foldl (fun x13 x14 h15 => (commitChunk_keeps (sub_trans rfl w) h15)) _ h7
    clear_value x11
    extract_lets +onlyGivenNames x16
    clear_value x16
    extract_lets +onlyGivenNames x17
    have h18 : Keeps s0 x17 := fput_keeps (stepPut_keeps (sub_trans rfl w) h12) rfl (sub_trans rfl w)
    clear_value x17
    exact Keeps.ite (stepOver_keeps (sub_trans rfl w) h18) h18

theorem execCommitPoint_keeps {s0 : From} {a0 a1 a2} (w : sub 684793155989453122353457276619078900207450048972908634068978442692280155500353287020546 s0.W = true) (h0 : Keeps s0 a2) : KeepsOut s0 (execCommitPoint a0 a1 a2) := by
  unfold execCommitPoint
  exact KeepsOut.next (commitPoint_keeps w h0)

end Sys2Proof.Machine
end

