-- ==== Sys2Proof/Laws/KeepsLattice.lean ====
section
/-!
SUPPORT. What the operations of `Sys2Proof.Machine.Lattice` keep (`Sys2Proof.Machine.Keeps`): one lemma for each.
-/

namespace Sys2Proof.Machine

theorem latOut_keeps {s0 : From} {a0 a1 a2 a3} (w : sub 17179869184 s0.W = true) (h0 : Keeps s0 a0) : Keeps s0 (latOut a0 a1 a2 a3) := by
  unfold latOut
  split
  · exact h0
  · exact pushPriv_keeps w h0

theorem lrankPut_keeps {s0 : From} {a0 a1 a2} (w : sub 2147483648 s0.W = true) (h0 : Keeps s0 a0) : Keeps s0 (lrankPut a0 a1 a2) := by
  unfold lrankPut
  exact upd_lat (sub_trans rfl w) h0

theorem latSend_keeps {s0 : From} {a0 a1 a2} (w : sub 19327352832 s0.W = true) (h0 : Keeps s0 a0) : Keeps s0 (latSend a0 a1 a2) := by
  unfold latSend
  extract_lets +onlyGivenNames x5
  clear_value x5
  exact latOut_keeps (sub_trans rfl w) (lrankPut_keeps (sub_trans rfl w) h0)

theorem changePath_keeps {s0 : From} {a0 a1} (w : sub 2147483648 s0.W = true) (h0 : Keeps s0 a0) : Keeps s0 (changePath a0 a1) := by
  unfold changePath
  extract_lets +onlyGivenNames x5 x6
  clear_value x5 x6
  exact lrankPut_keeps w h0

theorem latPut_keeps {s0 : From} {a0 a1 a2} (w : sub 2147483648 s0.W = true) (h0 : Keeps s0 a0) : Keeps s0 (latPut a0 a1 a2) := by
  unfold latPut
  exact upd_lat (sub_trans rfl w) h0

theorem latLaunch_keeps {s0 : From} {a0 a1 a2} (w : sub 19327352832 s0.W = true) (h0 : Keeps s0 a0) : Keeps s0 (latLaunch a0 a1 a2) := by
  unfold latLaunch
  extract_lets +onlyGivenNames x5 x6 x7
  clear_value x5 x6 x7
  exact latSend_keeps w (latPut_keeps (sub_trans rfl w) (lrankPut_keeps (sub_trans rfl w) h0))

theorem latAgain_keeps {s0 : From} {a0 a1 a2} (w : sub 19327352832 s0.W = true) (h0 : Keeps s0 a0) : Keeps s0 (latAgain a0 a1 a2) := by
  unfold latAgain
  extract_lets +onlyGivenNames x5 x6
  clear_value x5 x6
  exact Keeps.foldl (fun x7 x8 h9 => (latSend_keeps w h9)) _ h0

theorem latStat_keeps {s0 : From} {a0} (w : sub 110427941548649020598956093796432407239217743554726184882600387580788736 s0.W = true) (h0 : Keeps s0 a0) : Keeps s0 (latStat a0) := by
  unfold latStat
  extract_lets +onlyGivenNames x5 x6
  clear_value x5 x6
  exact fput_keeps (fput_keeps h0 rfl (sub_trans rfl w)) rfl (sub_trans rfl w)

theorem aperFail_keeps {s0 : From} {a0 a1} (w : sub 1246704751478136094326784 s0.W = true) (h0 : Keeps s0 a0) : Keeps s0 (aperFail a0 a1) := by
  unfold aperFail
  exact hstErr_keeps (sub_trans rfl w) (fput_keeps h0 rfl (sub_trans rfl w)) rfl (sub_trans rfl w)

theorem aperDone_keeps {s0 : From} {a0 a1 a2 a3} (w : sub 1246704751478136094326784 s0.W = true) (h0 : Keeps s0 a0) : Keeps s0 (aperDone a0 a1 a2 a3) := by
  unfold aperDone
  split
  · exact h0
  · extract_lets +onlyGivenNames x5
    clear_value x5
    extract_lets +onlyGivenNames x6
    have h7 : Keeps s0 x6 := upd_host (sub_trans rfl w) h0
    clear_value x6
    extract_lets +onlyGivenNames x8
    have h9 : Keeps s0 x8 := Keeps.ite h7 (aperFail_keeps w h7)
    clear_value x8
    refine Keeps.ite h9 ?_
    extract_lets +onlyGivenNames x10
    clear_value x10
    exact upd_out (sub_trans rfl w) h9

theorem latFinish_keeps {s0 : From} {a0 a1 a2 a3 a4} (w : sub 1246704751478137236250624 s0.W = true) (h0 : Keeps s0 a0) : Keeps s0 (latFinish a0 a1 a2 a3 a4) := by
  unfold latFinish
  refine Keeps.ite (aperDone_keeps (sub_trans rfl w) h0) ?_
  extract_lets +onlyGivenNames x5 x6 x7
  clear_value x5 x6 x7
  exact lateWrites_keeps (sub_trans rfl w) h0

theorem memberDown_keeps {s0 : From} {a0 a1} (w : sub 38981063366673104271431501110140639755443863474819589968309414955402158080 s0.W = true) (h0 : Keeps s0 a0) : Keeps s0 (memberDown a0 a1) := by
  unfold memberDown
  extract_lets +onlyGivenNames x5
  have h6 : Keeps s0 x5 := fset_keeps (fput_keeps h0 rfl (sub_trans rfl w)) rfl (sub_trans rfl w)
  clear_value x5
  extract_lets +onlyGivenNames x7
  have h8 : Keeps s0 x7 := latStat_keeps (sub_trans rfl w) (fput_keeps h6 rfl (sub_trans rfl w))
  clear_value x7
  extract_lets +onlyGivenNames x9
  clear_value x9
  extract_lets +onlyGivenNames x10
  have h11 : Keeps s0 x10 := fsetIf_keeps h8 rfl (sub_trans rfl w)
  clear_value x10
  extract_lets +onlyGivenNames x12
  clear_value x12
  extract_lets +onlyGivenNames x13
  have h14 : Keeps s0 x13 := upd_lat (sub_trans rfl w) h11
  clear_value x13
  extract_lets +onlyGivenNames x15
  clear_value x15
  extract_lets +onlyGivenNames x16
  have h17 : Keeps s0 x16 := lrankPut_keeps (sub_trans rfl w) h14
  clear_value x16
  exact Keeps.foldl (fun x18 x19 h20 => (latFinish_keeps (sub_trans rfl w) h20)) _ h17

theorem latTimeout_keeps {s0 : From} {a0 a1} (w : sub 38981063366673104271431501110140639755443863474819589968309414972582027264 s0.W = true) (h0 : Keeps s0 a0) : Keeps s0 (latTimeout a0 a1) := by
  unfold latTimeout
  split
  · exact h0
  · refine Keeps.ite ?_ ?_
    · extract_lets +onlyGivenNames x5
      clear_value x5
      refine Keeps.ite (latSend_keeps (sub_trans rfl w) (latPut_keeps (sub_trans rfl w) h0)) ?_
      extract_lets +onlyGivenNames x6
      clear_value x6
      exact latLaunch_keeps (sub_trans rfl w) (lrankPut_keeps (sub_trans rfl w) h0)
    · refine Keeps.ite (memberDown_keeps (sub_trans rfl w) h0) ?_
      extract_lets +onlyGivenNames x7
      have h8 : Keeps s0 x7 := changePath_keeps (sub_trans rfl w) (latPut_keeps (sub_trans rfl w) h0)
      clear_value x7
      exact Keeps.ite (latSend_keeps (sub_trans rfl w) h8) (latAgain_keeps (sub_trans rfl w) h8)

theorem execLatticeTimeout_keeps {s0 : From} {a0 a1} (w : sub 38981063366673104271431501110140639755443863474819589968309414972582027264 s0.W = true) (h0 : Keeps s0 a1) : KeepsOut s0 (execLatticeTimeout a0 a1) := by
  unfold execLatticeTimeout
  exact KeepsOut.next (latTimeout_keeps w h0)

theorem execDedupExpiry_keeps {s0 : From} {a0 a1} (w : sub 2147483648 s0.W = true) (h0 : Keeps s0 a1) : KeepsOut s0 (execDedupExpiry a0 a1) := by
  unfold execDedupExpiry
  exact KeepsOut.next (upd_lat (sub_trans rfl w) h0)

theorem LatAns.s_keeps {s0 : From} {a0} (w : sub 0 s0.W = true) (h0 : Keeps s0 a0.s) : Keeps s0 (LatAns.s a0) := by
  unfold LatAns.s
  exact h0

theorem latIssue.go_keeps {s0 : From} {a0 a1 a2} (w : sub 19327352832 s0.W = true) (h0 : Keeps s0 a1) : Keeps s0 (latIssue.go a0 a1 a2) := by
  unfold latIssue.go
  exact Keeps.ite (latSend_keeps w (latPut_keeps (sub_trans rfl w) h0)) (Keeps.ite (lrankPut_keeps (sub_trans rfl w) (latPut_keeps (sub_trans rfl w) h0)) (latLaunch_keeps w h0))

theorem laPerform_keeps {s0 : From} {a0 a1} (w : sub 187467548099796990120246301083106240870998203316658083671974902529248168235429544747008 s0.W = true) (h0 : Keeps s0 a0) : Keeps s0 (laPerform a0 a1).s := by
  unfold laPerform
  extract_lets +onlyGivenNames x5
  clear_value x5
  extract_lets +onlyGivenNames x6
  have h7 : Keeps s0 x6 := meter_keeps (sub_trans rfl w) (fadd1_keeps h0 rfl (sub_trans rfl w))
  clear_value x6
  split
  · extract_lets +onlyGivenNames x8
    clear_value x8
    extract_lets +onlyGivenNames x9
    have h10 : Keeps s0 x9 := Keeps.ite (lineFailure_keeps (sub_trans rfl w) h7) h7
    clear_value x9
    exact h10
  · split
    · exact h7
    · split
      · exact fadd1_keeps h7 rfl (sub_trans rfl w)
      · split
        · exact h7
        · split
          · exact memWrite_keeps (sub_trans rfl w) h7
          · split
            · exact lineFailure_keeps (sub_trans rfl w) h7
            · extract_lets +onlyGivenNames x11
              clear_value x11
              extract_lets +onlyGivenNames x12
              have h13 : Keeps s0 x12 := memPut_keeps (sub_trans rfl w) h7
              clear_value x12
              exact h13

theorem laServe_keeps {s0 : From} {a0 a1 a2} (w : sub 187467548157700102127163512332210066565345128917356385940382687024809446664195575013376 s0.W = true) (h0 : Keeps s0 a0) : Keeps s0 (laServe a0 a1 a2).s := by
  unfold laServe
  split
  · exact h0
  · split
    · exact fset_keeps h0 rfl (sub_trans rfl w)
    · split
      extract_lets +onlyGivenNames x5
      have h6 : Keeps s0 x5 := compMark_keeps (sub_trans rfl w) h0
      clear_value x5
      split
      · exact h6
      · split
        · exact h6
        · split
          · exact h6
          · extract_lets +onlyGivenNames x7 x8 x9
            clear_value x7 x8 x9
            split
            · exact h6
            · split
              · exact laPerform_keeps (sub_trans rfl w) h6
              · exact h6

theorem latIssue.sent_keeps {s0 : From} {a0 a1} (w : sub 14134776518227074636666380005943348126619871175004951664972849618930892800 s0.W = true) (h0 : Keeps s0 a0) : Keeps s0 (latIssue.sent a0 a1) := by
  unfold latIssue.sent
  exact meter_keeps (sub_trans rfl w) (fadd1_keeps h0 rfl (sub_trans rfl w))

theorem latIssue_keeps {s0 : From} {a0 a1 a2} (w : sub 187467548157700102127163512332210066565345128917356385940382688233735266278844145229824 s0.W = true) (h0 : Keeps s0 a0) : KeepsOpt s0 (latIssue a0 a1 a2) := by
  unfold latIssue
  refine KeepsOpt.ite (KeepsOpt.some (latFinish_keeps (sub_trans rfl w) h0)) ?_
  refine KeepsOpt.ite ?_ (KeepsOpt.ite (KeepsOpt.some (latFinish_keeps (sub_trans rfl w) h0)) (KeepsOpt.some (latIssue.go_keeps (sub_trans rfl w) (Keeps.ite h0 (latIssue.sent_keeps (sub_trans rfl w) h0)))))
  extract_lets +onlyGivenNames x5
  clear_value x5
  extract_lets +onlyGivenNames x6
  have h7 : Keeps s0 x6.s := laServe_keeps (sub_trans rfl w) h0
  clear_value x6
  refine KeepsOpt.ite KeepsOpt.none ?_
  refine KeepsOpt.ite ?_ (KeepsOpt.some (latFinish_keeps (sub_trans rfl w) h7))
  extract_lets +onlyGivenNames x8 x9
  clear_value x8 x9
  exact KeepsOpt.ite (KeepsOpt.some (latFinish_keeps (sub_trans rfl w) h7)) (KeepsOpt.ite (KeepsOpt.some (latFinish_keeps (sub_trans rfl w) h7)) (KeepsOpt.some (latIssue.go_keeps (sub_trans rfl w) (latIssue.sent_keeps (sub_trans rfl w) h7))))

theorem latTake_keeps {s0 : From} {a0 a1 a2} (w : sub 187467548157700102127163512332210066565345128917356385940382688233735266278844145229826 s0.W = true) (h0 : Keeps s0 a0) : KeepsOpt s0 (latTake a0 a1 a2) := by
  unfold latTake
  extract_lets +onlyGivenNames x5 x6 x7 x8 x9 x10 x11 x12 x13 x14 x15
  clear_value x5 x6 x7 x8 x9 x10 x11 x12 x13 x14 x15
  refine KeepsOpt.ite (KeepsOpt.some (latFinish_keeps (sub_trans rfl w) (fset_keeps h0 rfl (sub_trans rfl w)))) ?_
  extract_lets +onlyGivenNames x16
  have h17 : Keeps s0 x16 := bump_keeps (sub_trans rfl w) h0
  clear_value x16
  refine KeepsOpt.ite ?_ (KeepsOpt.ite (latIssue_keeps (sub_trans rfl w) h17) (latIssue_keeps (sub_trans rfl w) h17))
  split
  · exact KeepsOpt.some (latFinish_keeps (sub_trans rfl w) (lineFailure_keeps (sub_trans rfl w) h17))
  · exact latIssue_keeps (sub_trans rfl w) h17

theorem ringHead_keeps {s0 : From} {a0 a1} (w : sub 187467548158152414975746778720583390725535316057408221817982846687014397466375055892482 s0.W = true) (h0 : Keeps s0 a0) : Keeps s0 (ringHead a0 a1) := by
  unfold ringHead
  extract_lets +onlyGivenNames x5 x6
  clear_value x5 x6
  refine Keeps.ite h0 ?_
  split
  · exact h0
  · rename_i h7
    have h8 := KeepsOpt.get (s := s0) h7 (latTake_keeps (sub_trans rfl w) h0)
    exact fput_keeps h8 rfl (sub_trans rfl w)

theorem execRingPoll_keeps {s0 : From} {a0} (w : sub 187467548158152414975746778720583390725535316057408221817982846687014397466375055892482 s0.W = true) (h0 : Keeps s0 a0) : KeepsOut s0 (execRingPoll a0) := by
  unfold execRingPoll
  exact KeepsOut.next (Keeps.foldl (fun x5 x6 h7 => (ringHead_keeps w h7)) _ h0)

theorem latAnswer_keeps {s0 : From} {a0 a1 a2} (w : sub 19327352832 s0.W = true) (h0 : Keeps s0 a0) : Keeps s0 (latAnswer a0 a1 a2) := by
  unfold latAnswer
  split
  · exact latSend_keeps w h0
  · split
    · exact latOut_keeps (sub_trans rfl w) h0
    · exact h0

theorem sendLack_keeps {s0 : From} {a0 a1} (w : sub 19327352832 s0.W = true) (h0 : Keeps s0 a0) : Keeps s0 (sendLack a0 a1) := by
  unfold sendLack
  exact latSend_keeps w h0

theorem expectPut_keeps {s0 : From} {a0 a1 a2} (w : sub 2147483648 s0.W = true) (h0 : Keeps s0 a0) : Keeps s0 (expectPut a0 a1 a2) := by
  unfold expectPut
  exact upd_lat (sub_trans rfl w) h0

theorem latOrdered_keeps {s0 : From} {a0 a1 a2 a3 a4} (w : sub 187467548157700102127163512332210066565345128917356385940382687024809446664214902366208 s0.W = true) (h0 : Keeps s0 a0) (h1 : Keeps s0 a1) : Keeps s0 (latOrdered a0 a1 a2 a3 a4) := by
  unfold latOrdered
  extract_lets +onlyGivenNames x5
  clear_value x5
  refine Keeps.ite (sendLack_keeps (sub_trans rfl w) h1) ?_
  extract_lets +onlyGivenNames x6
  have h7 : Keeps s0 x6.s := laServe_keeps (sub_trans rfl w) h1
  clear_value x6
  exact Keeps.ite h0 (latAnswer_keeps (sub_trans rfl w) (expectPut_keeps (sub_trans rfl w) h7))

theorem keepResp_keeps {s0 : From} {a0 a1 a2} (w : sub 2147483648 s0.W = true) (h0 : Keeps s0 a0) : Keeps s0 (keepResp a0 a1 a2) := by
  unfold keepResp
  exact upd_lat (sub_trans rfl w) h0

theorem latCombined_keeps {s0 : From} {a0 a1 a2 a3} (w : sub 187467548157700102127163512332210066565345128917356385940382687024809446664214902366208 s0.W = true) (h0 : Keeps s0 a0) (h1 : Keeps s0 a1) : Keeps s0 (latCombined a0 a1 a2 a3) := by
  unfold latCombined
  split
  · exact latAnswer_keeps (sub_trans rfl w) h1
  · extract_lets +onlyGivenNames x5
    have h6 : Keeps s0 x5.s := laServe_keeps (sub_trans rfl w) h1
    clear_value x5
    exact Keeps.ite h0 (latAnswer_keeps (sub_trans rfl w) (Keeps.ite (keepResp_keeps (sub_trans rfl w) h6) h6))

theorem latArrive_keeps {s0 : From} {a0 a1} (w : sub 1732216065473804315752367438601392647193306114809006987827644504997888 s0.W = true) (h0 : Keeps s0 a0) : Keeps s0 (latArrive a0 a1).1 := by
  unfold latArrive
  split
  rename_i h5
  have h6 := Keeps.get (s := s0) (fun p => p.1) h5 (frameIn_keeps (sub_trans rfl w) h0)
  split
  · exact h6
  · split
    · exact Keeps.fst (dropped_keeps (sub_trans rfl w) h6)
    · split
      · exact Keeps.fst (dropped_keeps (sub_trans rfl w) h6)
      · split
        rename_i h7
        have h8 := Keeps.get (s := s0) (fun p => p.1) h7 (policed_keeps (sub_trans rfl w) h6)
        split
        · exact Keeps.fst (fadd1_keeps h8 rfl (sub_trans rfl w))
        · exact h8

theorem latRequest_keeps {s0 : From} {a0 a1 a2} (w : sub 187467548157700103859379577806014382317712567518749033133688801833816434491842227494912 s0.W = true) (h0 : Keeps s0 a0) : Keeps s0 (latRequest a0 a1 a2) := by
  unfold latRequest
  split
  · rename_i h5
    have h6 := Keeps.get (s := s0) (fun p => p.1) h5 (latArrive_keeps (sub_trans rfl w) h0)
    exact h6
  · rename_i h7
    have h8 := Keeps.get (s := s0) (fun p => p.1) h7 (latArrive_keeps (sub_trans rfl w) h0)
    extract_lets +onlyGivenNames x9 x10
    clear_value x9 x10
    refine Keeps.ite (latCombined_keeps (sub_trans rfl w) h0 h8) ?_
    split
    · exact latAnswer_keeps (sub_trans rfl w) h8
    · exact Keeps.ite (latCombined_keeps (sub_trans rfl w) h0 h8) (latOrdered_keeps (sub_trans rfl w) h0 h8)

theorem execSwap64_keeps {s0 : From} {a0 a1} (w : sub 187467548157700103859379577806014382317712567518749033133688801833816434491842227494912 s0.W = true) (h0 : Keeps s0 a1) : KeepsOut s0 (execSwap64 a0 a1) := by
  unfold execSwap64
  exact KeepsOut.next (latRequest_keeps w h0)

theorem aperIssue_keeps {s0 : From} {a0 a1 a2 a3 a4} (w : sub 187467548157700102127163512332210066565345128917356385940382688233735266278844145229826 s0.W = true) (h0 : Keeps s0 a0) : Keeps s0 (aperIssue a0 a1 a2 a3 a4) := by
  unfold aperIssue
  extract_lets +onlyGivenNames x5 x6 x7
  clear_value x5 x6 x7
  extract_lets +onlyGivenNames x8
  have h9 : Keeps s0 x8 := bump_keeps (sub_trans rfl w) h0
  clear_value x8
  extract_lets +onlyGivenNames x10
  clear_value x10
  extract_lets +onlyGivenNames x11
  have h12 : Keeps s0 x11 := upd_host (sub_trans rfl w) h9
  clear_value x11
  extract_lets +onlyGivenNames x13
  clear_value x13
  exact Keeps.ite h12 (Keeps.getD (latIssue_keeps (sub_trans rfl w) h12) h12)

theorem aperRead_keeps {s0 : From} {a0 a1 a2} (w : sub 187467548157700102127163512332210066565345128917356385940382688233735266278844145229826 s0.W = true) (h0 : Keeps s0 a0) : Keeps s0 (aperRead a0 a1 a2) := by
  unfold aperRead
  exact Keeps.ite (hstErr_keeps (sub_trans rfl w) (upd_out (sub_trans rfl w) h0) rfl (sub_trans rfl w)) (aperIssue_keeps w h0)

theorem execApertureRead_keeps {s0 : From} {a0 a1 a2} (w : sub 187467548157700102127163512332210066565345128917356385940382688233735266278844145229826 s0.W = true) (h0 : Keeps s0 a2) : KeepsOut s0 (execApertureRead a0 a1 a2) := by
  unfold execApertureRead
  exact KeepsOut.next (aperRead_keeps w h0)

theorem execAdd64_keeps {s0 : From} {a0 a1} (w : sub 187467548157700103859379577806014382317712567518749033133688801833816434491842227494912 s0.W = true) (h0 : Keeps s0 a1) : KeepsOut s0 (execAdd64 a0 a1) := by
  unfold execAdd64
  exact KeepsOut.next (latRequest_keeps w h0)

theorem latWinCtl_keeps {s0 : From} {a0 a1 a2} (w : sub 120145600404930134411664230050518459076268904987542089152269221690045628416 s0.W = true) (h0 : Keeps s0 a0) : Keeps s0 (latWinCtl a0 a1 a2) := by
  unfold latWinCtl
  refine Keeps.ite (Keeps.ite (fset_keeps h0 rfl (sub_trans rfl w)) (Keeps.upd 2147483648 (fput_keeps h0 rfl (sub_trans rfl w)) (sub_trans rfl w) rfl)) (Keeps.ite (fset_keeps h0 rfl (sub_trans rfl w)) ?_)
  refine rput_keeps h0 (sub_trans rfl w) (fun _ => Reg.holds_w64 (fun j h64 hj => ?_))
  rw [Nat.add_comm, Nat.mul_comm, Nat.testBit_two_pow_mul_add _ (Nat.lt_trans (bget_lt a2 0 34) (by decide))] at hj
  split at hj
  · have h34 : j < 34 := by
      rcases Nat.lt_or_ge j 34 with h | h
      · exact h
      · rw [Nat.testBit_lt_two_pow (Nat.lt_of_lt_of_le (bget_lt a2 0 34) (Nat.pow_le_pow_right (by decide) h))] at hj
        cases hj
    exact Fld.ok_mask (f := ⟨.LAT_WIN_CTL, 0, 34⟩) rfl (Nat.zero_le _) (by simpa using h34)
  · exact Fld.ok_mask (f := ⟨.LAT_WIN_CTL, 49, 15⟩) rfl (by simp; omega) (by simp; omega)

theorem execLatWinCtl_keeps {s0 : From} {a0 a1 a2} (w : sub 120145600404930134411664230050518459076268904987542089299843174279722041344 s0.W = true) (h0 : Keeps s0 a2) : KeepsOut s0 (execLatWinCtl a0 a1 a2) := by
  unfold execLatWinCtl
  exact KeepsOut.next (regGate_keeps (sub_trans rfl w) h0 (sub_trans rfl w) (fun x5 h6 => (latWinCtl_keeps (sub_trans rfl w) h6)))

theorem latDoorbell_keeps {s0 : From} {a0 a1} (w : sub 187467548158152414975746778720583390725535316057408221817982846687014397466375055892482 s0.W = true) (h0 : Keeps s0 a0) : Keeps s0 (latDoorbell a0 a1) := by
  unfold latDoorbell
  exact Keeps.foldl (fun x5 x6 h7 => (Keeps.ite (ringHead_keeps w h7) h7)) _ h0

theorem aperWrite_keeps {s0 : From} {a0 a1 a2} (w : sub 187467548157700102127163512332210066565345128917356385940382688233735266278844145229826 s0.W = true) (h0 : Keeps s0 a0) : Keeps s0 (aperWrite a0 a1 a2) := by
  unfold aperWrite
  exact Keeps.ite (hstErr_keeps (sub_trans rfl w) h0 rfl (sub_trans rfl w)) (aperIssue_keeps w h0)

theorem execApertureWrite_keeps {s0 : From} {a0 a1 a2} (w : sub 187467548157700102127163512332210066565345128917356385940382688233735266278844145229826 s0.W = true) (h0 : Keeps s0 a2) : KeepsOut s0 (execApertureWrite a0 a1 a2) := by
  unfold execApertureWrite
  exact KeepsOut.next (aperWrite_keeps w h0)

theorem latFill_keeps {s0 : From} {a0 a1 a2} (w : sub 19327352832 s0.W = true) (h0 : Keeps s0 a0) : Keeps s0 (latFill a0 a1 a2) := by
  induction a2 generalizing a0 a1 with
  | zero =>
    unfold latFill
    exact h0
  | succ n ih =>
    unfold latFill
    extract_lets +onlyGivenNames x5
    clear_value x5
    split
    · exact h0
    · refine Keeps.ite h0 ?_
      split
      · exact ih (latLaunch_keeps w (lrankPut_keeps (sub_trans rfl w) h0))
      · exact ih (lrankPut_keeps (sub_trans rfl w) h0)

theorem execLatDoorbell_keeps {s0 : From} {a0 a1} (w : sub 187467548158154181822811557104912974023036058975924049301879722306120093025166024925186 s0.W = true) (h0 : Keeps s0 a1) : KeepsOut s0 (execLatDoorbell a0 a1) := by
  unfold execLatDoorbell
  exact KeepsOut.next (regGate_keeps (sub_trans rfl w) h0 (sub_trans rfl w) (fun x5 h6 => (latDoorbell_keeps (sub_trans rfl w) h6)))

theorem latPlain_keeps {s0 : From} {a0 a1 a2} (w : sub 1732275303637867879169885017491964711811485493300169796702725323358208 s0.W = true) (h0 : Keeps s0 a0) (h1 : ∀ x00 x01, Keeps s0 x00 → Keeps s0 (a2 x00 x01)) : Keeps s0 (latPlain a0 a1 a2) := by
  unfold latPlain
  split
  · rename_i h5
    have h6 := Keeps.get (s := s0) (fun p => p.1) h5 (latArrive_keeps (sub_trans rfl w) h0)
    exact h6
  · rename_i h7
    have h8 := Keeps.get (s := s0) (fun p => p.1) h7 (latArrive_keeps (sub_trans rfl w) h0)
    refine Keeps.ite (sendNack_keeps (sub_trans rfl w) (fset_keeps h8 rfl (sub_trans rfl w))) ?_
    split
    · exact h1 _ _ h8
    · exact h8

theorem latLeave_keeps {s0 : From} {a0 a1 a2} (w : sub 19327352832 s0.W = true) (h0 : Keeps s0 a0) : Keeps s0 (latLeave a0 a1 a2) := by
  unfold latLeave
  extract_lets +onlyGivenNames x5 x6
  clear_value x5 x6
  extract_lets +onlyGivenNames x7
  have h8 : Keeps s0 x7 := upd_lat (sub_trans rfl w) h0
  clear_value x7
  extract_lets +onlyGivenNames x9
  have h10 : Keeps s0 x9 := lrankPut_keeps (sub_trans rfl w) h8
  clear_value x9
  exact latFill_keeps w h10

theorem latEnd_keeps {s0 : From} {a0 a1 a2 a3 a4} (w : sub 1246704751478156563603456 s0.W = true) (h0 : Keeps s0 a0) : Keeps s0 (latEnd a0 a1 a2 a3 a4) := by
  unfold latEnd
  exact latFinish_keeps (sub_trans rfl w) (latLeave_keeps (sub_trans rfl w) h0)

theorem latResp_keeps {s0 : From} {a0 a1 a2} (w : sub 187467548157700102127163512332210066565345128917356385940382688233735266278844145229824 s0.W = true) (h0 : Keeps s0 a0) : Keeps s0 (latResp a0 a1 a2) := by
  unfold latResp
  split
  · exact h0
  · refine Keeps.ite h0 ?_
    extract_lets +onlyGivenNames x5
    have h6 : Keeps s0 x5 := meter_keeps (sub_trans rfl w) h0
    clear_value x5
    refine Keeps.ite ?_ (Keeps.ite (latPut_keeps (sub_trans rfl w) h6) (latEnd_keeps (sub_trans rfl w) h6))
    extract_lets +onlyGivenNames x7
    have h8 : Keeps s0 x7 := latLeave_keeps (sub_trans rfl w) h6
    clear_value x7
    extract_lets +onlyGivenNames x9 x10
    clear_value x9 x10
    split
    · rename_i h11
      have h12 := KeepsOpt.get (s := s0) h11 (latIssue_keeps w h8)
      exact h12
    · exact latFinish_keeps (sub_trans rfl w) h8

theorem execWindowUnpin_keeps {s0 : From} {a0 a1} (w : sub 2147483648 s0.W = true) (h0 : Keeps s0 a1) : KeepsOut s0 (execWindowUnpin a0 a1) := by
  unfold execWindowUnpin
  exact KeepsOut.next (upd_lat (sub_trans rfl w) h0)

theorem lprobeTimer_keeps {s0 : From} {a0 a1} (w : sub 28269553036454149273332760011886696253239742350009903329945699240009269248 s0.W = true) (h0 : Keeps s0 a0) : Keeps s0 (lprobeTimer a0 a1) := by
  unfold lprobeTimer
  extract_lets +onlyGivenNames x5
  clear_value x5
  exact Keeps.ite h0 (latSend_keeps (sub_trans rfl w) (fput_keeps h0 rfl (sub_trans rfl w)))

theorem execLatticeStore_keeps {s0 : From} {a0 a1} (w : sub 187467548157700103859379577806014382317712567518749033133688801833816434491842227494912 s0.W = true) (h0 : Keeps s0 a1) : KeepsOut s0 (execLatticeStore a0 a1) := by
  unfold execLatticeStore
  exact KeepsOut.next (latRequest_keeps w h0)

theorem restartStreams_keeps {s0 : From} {a0 a1 a2} (w : sub 2147483648 s0.W = true) (h0 : Keeps s0 a0) : Keeps s0 (restartStreams a0 a1 a2) := by
  unfold restartStreams
  extract_lets +onlyGivenNames x5
  clear_value x5
  extract_lets +onlyGivenNames x6
  have h7 : Keeps s0 x6 := by
    refine Keeps.foldl (fun x8 x9 h10 => ?_) _ h0
    split
    · exact latPut_keeps w h10
    · exact h10
  clear_value x6
  exact lrankPut_keeps w (expectPut_keeps w h7)

theorem lprobeReply_keeps {s0 : From} {a0 a1 a2} (w : sub 31913675107559566953098311107168965692133927887315867431071512012995428352 s0.W = true) (h0 : Keeps s0 a0) : Keeps s0 (lprobeReply a0 a1 a2) := by
  unfold lprobeReply
  extract_lets +onlyGivenNames x5
  have h6 : Keeps s0 x5 := fput_keeps h0 rfl (sub_trans rfl w)
  clear_value x5
  exact restartStreams_keeps (sub_trans rfl w) (latStat_keeps (sub_trans rfl w) (fput_keeps h6 rfl (sub_trans rfl w)))

theorem execLatticeLoad_keeps {s0 : From} {a0 a1} (w : sub 187467548157700103859379577806014382317712567518749033133688801833816434491842227494912 s0.W = true) (h0 : Keeps s0 a1) : KeepsOut s0 (execLatticeLoad a0 a1) := by
  unfold execLatticeLoad
  exact KeepsOut.next (latRequest_keeps w h0)

theorem execLatticeResp_keeps {s0 : From} {a0 a1} (w : sub 187467548157700103859438815970077945735230146409321097751868181533905062981552288718848 s0.W = true) (h0 : Keeps s0 a1) : KeepsOut s0 (execLatticeResp a0 a1) := by
  unfold execLatticeResp
  exact KeepsOut.next (latPlain_keeps (sub_trans rfl w) h0 (fun x5 x6 h7 => (latResp_keeps (sub_trans rfl w) h7)))

theorem execLprobeTimer_keeps {s0 : From} {a0 a1} (w : sub 28269553036454149273332760011886696253239742350009903329945699240009269248 s0.W = true) (h0 : Keeps s0 a1) : KeepsOut s0 (execLprobeTimer a0 a1) := by
  unfold execLprobeTimer
  exact KeepsOut.next (lprobeTimer_keeps w h0)

theorem execLack_keeps {s0 : From} {a0 a1} (w : sub 1732275303637867879169885017491964711811485493300169796702727470841856 s0.W = true) (h0 : Keeps s0 a1) : KeepsOut s0 (execLack a0 a1) := by
  unfold execLack
  exact KeepsOut.next (latPlain_keeps (sub_trans rfl w) h0 (fun x5 x6 h7 => (latAgain_keeps (sub_trans rfl w) h7)))

theorem execLprobeReply_keeps {s0 : From} {a0 a1} (w : sub 31915407382863204820977480992186457656845739372809167600868214738318786560 s0.W = true) (h0 : Keeps s0 a1) : KeepsOut s0 (execLprobeReply a0 a1) := by
  unfold execLprobeReply
  exact KeepsOut.next (latPlain_keeps (sub_trans rfl w) h0 (fun x5 x6 h7 => (lprobeReply_keeps (sub_trans rfl w) h7)))

theorem execApertureTimeout_keeps {s0 : From} {a0 a1} (w : sub 1246704751478136094326784 s0.W = true) (h0 : Keeps s0 a1) : KeepsOut s0 (execApertureTimeout a0 a1) := by
  unfold execApertureTimeout
  exact KeepsOut.next (aperDone_keeps w h0)

theorem execLprobe_keeps {s0 : From} {a0 a1} (w : sub 1732275303637867879169885017491964711811485493300169796702727470841856 s0.W = true) (h0 : Keeps s0 a1) : KeepsOut s0 (execLprobe a0 a1) := by
  unfold execLprobe
  exact KeepsOut.next (latPlain_keeps (sub_trans rfl w) h0 (fun x5 x6 h7 => (latSend_keeps (sub_trans rfl w) (restartStreams_keeps (sub_trans rfl w) h7))))

theorem execCas64_keeps {s0 : From} {a0 a1} (w : sub 187467548157700103859379577806014382317712567518749033133688801833816434491842227494912 s0.W = true) (h0 : Keeps s0 a1) : KeepsOut s0 (execCas64 a0 a1) := by
  unfold execCas64
  exact KeepsOut.next (latRequest_keeps w h0)

end Sys2Proof.Machine
end

