-- ==== Sys2Proof/Laws/KeepsComposition.lean ====
section
/-!
SUPPORT. What the operations of `Sys2Proof.Machine.Composition` keep (`Sys2Proof.Machine.Keeps`): one lemma for each.
-/

namespace Sys2Proof.Machine

theorem copyMap_keeps {s0 : From} {a0 a1 a2 a3} (w : sub 24576 s0.W = true) (h0 : Keeps s0 a0) : Keeps s0 (copyMap a0 a1 a2 a3) :=
  (zeroRange_keeps (sub_trans rfl w) (a1 := mapAddr a0 a1 a3 0) (a2 := 32768) h0).of_mem 8192 (sub_trans rfl w) rfl
    (fun c => nwf_foldl_nput memDefault (fun e : Nat × Byte => mapAddr a0 a1 a3 0 + (e.1 - mapAddr a0 a1 a2 0)) (·.2) _ c.mem)
    (·.syn) (·.hostMem)

theorem cmpEnd_keeps {s0 : From} {a0 a1 a2} (w : sub 28948022309329048855892746252171976963317496166410141009864396002532335288320 s0.W = true) (h0 : Keeps s0 a0) : Keeps s0 (cmpEnd a0 a1 a2) := by
  unfold cmpEnd
  extract_lets +onlyGivenNames x5
  clear_value x5
  extract_lets +onlyGivenNames x6
  have h7 : Keeps s0 x6 := upd_cmp (sub_trans rfl w) h0
  clear_value x6
  exact irq_keeps (sub_trans rfl w) (finc_keeps (fput_keeps (fput_keeps h7 rfl (sub_trans rfl w)) rfl (sub_trans rfl w)) rfl (sub_trans rfl w))

theorem cmpReserved_keeps {s0 : From} {a0 a1} (w : sub 28948022309329048855892746252171976963317496166410141009864396002532335288320 s0.W = true) (h0 : Keeps s0 a0) : Keeps s0 (cmpReserved a0 a1) := by
  induction a1 generalizing a0 with
  | zero =>
    unfold cmpReserved
    exact h0
  | succ n ih =>
    unfold cmpReserved
    refine Keeps.ite h0 ?_
    split
    · exact h0
    · extract_lets +onlyGivenNames x5
      clear_value x5
      exact Keeps.ite h0 (ih (cmpEnd_keeps w h0))

theorem cmpDone_keeps {s0 : From} {a0 a1 a2} (w : sub 28948022309329048855892746252171976963317496166410141009864396002532335288320 s0.W = true) (h0 : Keeps s0 a0) : Keeps s0 (cmpDone a0 a1 a2) := by
  unfold cmpDone
  exact cmpReserved_keeps w (cmpEnd_keeps w h0)

theorem cmpCommitCmd_keeps {s0 : From} {a0 a1} (w : sub 2371450935602545011323589665724180524811932603448485161669101184878063461720940544 s0.W = true) (h0 : Keeps s0 a0) : Keeps s0 (cmpCommitCmd a0 a1) := by
  unfold cmpCommitCmd
  extract_lets +onlyGivenNames x5 x6
  clear_value x5 x6
  refine Keeps.ite (cmpDone_keeps (sub_trans rfl w) h0) ?_
  refine Keeps.ite (cmpDone_keeps (sub_trans rfl w) h0) ?_
  extract_lets +onlyGivenNames x7
  have h8 : Keeps s0 x7 := copyMap_keeps (sub_trans rfl w) (copyMap_keeps (sub_trans rfl w) h0)
  clear_value x7
  extract_lets +onlyGivenNames x9
  clear_value x9
  extract_lets +onlyGivenNames x10
  have h11 : Keeps s0 x10 := cmpPut_keeps (sub_trans rfl w) h8
  clear_value x10
  exact cmpDone_keeps (sub_trans rfl w) (journal_keeps (sub_trans rfl w) h11)

theorem retireEpoch_keeps {s0 : From} {a0 a1} (w : sub 4294967296 s0.W = true) (h0 : Keeps s0 a0) : Keeps s0 (retireEpoch a0 a1) := by
  unfold retireEpoch
  exact cmpPut_keeps w h0

theorem cmpRetireCmd_keeps {s0 : From} {a0 a1} (w : sub 28948022309329048855892746252171976963317496166410141009864396002532335288320 s0.W = true) (h0 : Keeps s0 a0) : Keeps s0 (cmpRetireCmd a0 a1) := by
  unfold cmpRetireCmd
  extract_lets +onlyGivenNames x5
  clear_value x5
  exact Keeps.ite (cmpDone_keeps w (retireEpoch_keeps (sub_trans rfl w) h0)) (cmpDone_keeps w h0)

theorem cmpCloseCmd_keeps {s0 : From} {a0 a1} (w : sub 28948022309329048855892746252171976963317496166410141009864396002532335288320 s0.W = true) (h0 : Keeps s0 a0) : Keeps s0 (cmpCloseCmd a0 a1) := by
  unfold cmpCloseCmd
  extract_lets +onlyGivenNames x5
  clear_value x5
  exact Keeps.ite (cmpDone_keeps w h0) (cmpDone_keeps w (cmpPut_keeps (sub_trans rfl w) h0))

theorem cmpStageCmd_keeps {s0 : From} {a0 a1} (w : sub 28948022309329048855892746252171976963317496166410141009864396002533409054720 s0.W = true) (h0 : Keeps s0 a0) : Keeps s0 (cmpStageCmd a0 a1) := by
  unfold cmpStageCmd
  extract_lets +onlyGivenNames x5
  clear_value x5
  exact Keeps.ite (cmpDone_keeps (sub_trans rfl w) h0) (Keeps.ite (cmpDone_keeps (sub_trans rfl w) h0) (cmpDone_keeps (sub_trans rfl w) (memPut_keeps (sub_trans rfl w) h0)))

theorem execCmpStage_keeps {s0 : From} {a0} (w : sub 28948022309329048855892746252171976963317496166410141009864396002533409054720 s0.W = true) (h0 : Keeps s0 a0) : KeepsOut s0 (execCmpStage a0) := by
  unfold execCmpStage
  refine KeepsOut.next ?_
  split
  · exact cmpStageCmd_keeps w h0
  · exact h0

theorem epochRetire_keeps {s0 : From} {a0 a1} (w : sub 4294967296 s0.W = true) (h0 : Keeps s0 a0) : Keeps s0 (epochRetire a0 a1) := by
  unfold epochRetire
  extract_lets +onlyGivenNames x5 x6
  clear_value x5 x6
  exact Keeps.ite (retireEpoch_keeps w h0) h0

theorem execEpochRetire_keeps {s0 : From} {a0 a1} (w : sub 4294967296 s0.W = true) (h0 : Keeps s0 a1) : KeepsOut s0 (execEpochRetire a0 a1) := by
  unfold execEpochRetire
  exact KeepsOut.next (epochRetire_keeps w h0)

theorem execCmpClose_keeps {s0 : From} {a0} (w : sub 28948022309329048855892746252171976963317496166410141009864396002532335288320 s0.W = true) (h0 : Keeps s0 a0) : KeepsOut s0 (execCmpClose a0) := by
  unfold execCmpClose
  refine KeepsOut.next ?_
  split
  · exact cmpCloseCmd_keeps w h0
  · exact h0

theorem execCmpRetire_keeps {s0 : From} {a0} (w : sub 28948022309329048855892746252171976963317496166410141009864396002532335288320 s0.W = true) (h0 : Keeps s0 a0) : KeepsOut s0 (execCmpRetire a0) := by
  unfold execCmpRetire
  refine KeepsOut.next ?_
  split
  · exact cmpRetireCmd_keeps w h0
  · exact h0

theorem mtrSnap_keeps {s0 : From} {a0 a1} (w : sub 463168356949264781694283940034751631413079938662562256157830336031652518559744 s0.W = true) (h0 : Keeps s0 a0) : Keeps s0 (mtrSnap a0 a1) := by
  unfold mtrSnap
  exact Keeps.ite (fset_keeps h0 rfl (sub_trans rfl w)) h0

theorem compositionClosed_keeps {s0 : From} {a0 a1} (w : sub 4294967296 s0.W = true) (h0 : Keeps s0 a0) : Keeps s0 (compositionClosed a0 a1) := by
  unfold compositionClosed
  exact Keeps.ite (cmpPut_keeps w h0) h0

theorem execCompositionClosed_keeps {s0 : From} {a0 a1} (w : sub 4294967296 s0.W = true) (h0 : Keeps s0 a1) : KeepsOut s0 (execCompositionClosed a0 a1) := by
  unfold execCompositionClosed
  exact KeepsOut.next (compositionClosed_keeps w h0)

theorem execCmpCommit_keeps {s0 : From} {a0} (w : sub 2371450935602545011323589665724180524811932603448485161669101184878063461720940544 s0.W = true) (h0 : Keeps s0 a0) : KeepsOut s0 (execCmpCommit a0) := by
  unfold execCmpCommit
  refine KeepsOut.next ?_
  split
  · exact cmpCommitCmd_keeps w h0
  · exact h0

theorem meterSnapshot_keeps {s0 : From} {a0} (w : sub 3242178498644853471859987580243261419891559570637935793104812352221567629918208 s0.W = true) (h0 : Keeps s0 a0) : Keeps s0 (meterSnapshot a0) := by
  unfold meterSnapshot
  refine Keeps.ite h0 ?_
  extract_lets +onlyGivenNames x5
  have h6 : Keeps s0 x5 := Keeps.foldl (fun x7 x8 h9 => (fput_keeps h9 rfl (sub_trans rfl w))) _ h0
  clear_value x5
  exact fput_keeps (fput_keeps h6 rfl (sub_trans rfl w)) rfl (sub_trans rfl w)

theorem execMeterSnapshotDone_keeps {s0 : From} {a0} (w : sub 3242178498644853471859987580243261419891559570637935793104812352221567629918208 s0.W = true) (h0 : Keeps s0 a0) : KeepsOut s0 (execMeterSnapshotDone a0) := by
  unfold execMeterSnapshotDone
  exact KeepsOut.next (meterSnapshot_keeps w h0)

theorem meterTick_keeps {s0 : From} {a0} (w : sub 8589934592 s0.W = true) (h0 : Keeps s0 a0) : Keeps s0 (meterTick a0) := by
  unfold meterTick
  extract_lets +onlyGivenNames x5
  have h6 : Keeps s0 x5 := Keeps.foldl (fun x7 x8 h9 => (meter_keeps w h9)) _ h0
  clear_value x5
  refine Keeps.foldl (fun x10 x11 h12 => ?_) _ h6
  extract_lets +onlyGivenNames x13
  clear_value x13
  exact Keeps.ite (meter_keeps w h12) h12

theorem execMeterTick_keeps {s0 : From} {a0} (w : sub 8589934592 s0.W = true) (h0 : Keeps s0 a0) : KeepsOut s0 (execMeterTick a0) := by
  unfold execMeterTick
  exact KeepsOut.next (meterTick_keeps w h0)

theorem cmpOpenCmd_keeps {s0 : From} {a0 a1} (w : sub 28948022309329048855892746252171976963317496166410141009864396002532335312896 s0.W = true) (h0 : Keeps s0 a0) : Keeps s0 (cmpOpenCmd a0 a1) := by
  unfold cmpOpenCmd
  extract_lets +onlyGivenNames x5
  clear_value x5
  refine Keeps.ite (cmpDone_keeps (sub_trans rfl w) h0) ?_
  extract_lets +onlyGivenNames x6
  have h7 : Keeps s0 x6 := zeroRange_keeps (sub_trans rfl w) h0
  clear_value x6
  exact cmpDone_keeps (sub_trans rfl w) (cmpPut_keeps (sub_trans rfl w) h7)

theorem execCmpOpen_keeps {s0 : From} {a0} (w : sub 28948022309329048855892746252171976963317496166410141009864396002532335312896 s0.W = true) (h0 : Keeps s0 a0) : KeepsOut s0 (execCmpOpen a0) := by
  unfold execCmpOpen
  refine KeepsOut.next ?_
  split
  · exact cmpOpenCmd_keeps w h0
  · exact h0

theorem execCmpMtrSnap_keeps {s0 : From} {a0 a1} (w : sub 463168356949264781694283940034751631413079938662562256157977909984242194972672 s0.W = true) (h0 : Keeps s0 a1) : KeepsOut s0 (execCmpMtrSnap a0 a1) := by
  unfold execCmpMtrSnap
  exact KeepsOut.next (regGate_keeps (sub_trans rfl w) h0 (sub_trans rfl w) (fun x5 h6 => (mtrSnap_keeps (sub_trans rfl w) h6)))

end Sys2Proof.Machine
end

