-- ==== Sys2Proof/Laws/KeepsFlash.lean ====
section
/-!
SUPPORT. What the operations of `Sys2Proof.Machine.Flash` keep (`Sys2Proof.Machine.Keeps`): one lemma for each.
-/

namespace Sys2Proof.Machine

theorem spoilUnit_keeps {s0 : From} {a0 a1} (w : sub 24576 s0.W = true) (h0 : Keeps s0 a0) : Keeps s0 (spoilUnit a0 a1) :=
  Keeps.foldl (fun _ _ h => spoilLine_keeps (sub_trans rfl w) h) _
    (h0.of_mem 8192 (sub_trans rfl w) rfl (fun c => nwf_filter _ _ c.mem) (·.syn) (·.hostMem))

theorem flsLose_keeps {s0 : From} {a0 a1} (w : sub 1073766400 s0.W = true) (h0 : Keeps s0 a0) : Keeps s0 (flsLose a0 a1) := by
  unfold flsLose
  exact spoilUnit_keeps (sub_trans rfl w) (flsSet_keeps w h0)

theorem flsMed_keeps {s0 : From} {a0 a1} (w : sub 1073741824 s0.W = true) (h0 : Keeps s0 a0) : Keeps s0 (flsMed a0 a1) := by
  unfold flsMed
  exact upd_flash (sub_trans rfl w) h0

theorem flsLog_keeps {s0 : From} {a0 a1} (w : sub 1073741824 s0.W = true) (h0 : Keeps s0 a0) : Keeps s0 (flsLog a0 a1) := by
  unfold flsLog
  exact flsMed_keeps w h0

theorem mountCount_keeps {s0 : From} {a0 a1} (w : sub 1073741824 s0.W = true) (h0 : Keeps s0 a0) : Keeps s0 (mountCount a0 a1) := by
  unfold mountCount
  exact flsMed_keeps w (flsLog_keeps w h0)

theorem flsStat_keeps {s0 : From} {a0 a1} (w : sub 7849442160315082732511453473063883638495181783824410345472 s0.W = true) (h0 : Keeps s0 a0) : Keeps s0 (flsStat a0 a1) := by
  unfold flsStat
  extract_lets +onlyGivenNames x5
  have h6 : Keeps s0 x5 := fput_keeps h0 rfl (sub_trans rfl w)
  clear_value x5
  extract_lets +onlyGivenNames x7
  have h8 : Keeps s0 x7 := fput_keeps h6 rfl (sub_trans rfl w)
  clear_value x7
  extract_lets +onlyGivenNames x9
  have h10 : Keeps s0 x9 := fput_keeps h8 rfl (sub_trans rfl w)
  clear_value x9
  exact Keeps.ite (fset_keeps (fput_keeps h10 rfl (sub_trans rfl w)) rfl (sub_trans rfl w)) h10

theorem flsStatAll_keeps {s0 : From} {a0} (w : sub 7849442160315082732511453473063883638495181783824410345472 s0.W = true) (h0 : Keeps s0 a0) : Keeps s0 (flsStatAll a0) := by
  unfold flsStatAll
  exact Keeps.foldl (fun x5 x6 h7 => (flsStat_keeps w h7)) _ h0

theorem flsMounted_keeps {s0 : From} {a0} (w : sub 7861702124642009843378320249281086111964131696802952904704 s0.W = true) (h0 : Keeps s0 a0) : Keeps s0 (flsMounted a0) := by
  unfold flsMounted
  extract_lets +onlyGivenNames x5
  have h6 : Keeps s0 x5 := fput_keeps (fput_keeps h0 rfl (sub_trans rfl w)) rfl (sub_trans rfl w)
  clear_value x5
  extract_lets +onlyGivenNames x7
  have h8 : Keeps s0 x7 := fput_keeps h6 rfl (sub_trans rfl w)
  clear_value x7
  extract_lets +onlyGivenNames x9
  clear_value x9
  exact flsStatAll_keeps (sub_trans rfl w) (upd_flash (sub_trans rfl w) h8)

theorem showMap_keeps {s0 : From} {a0 a1} (w : sub 1073766400 s0.W = true) (h0 : Keeps s0 a0) : Keeps s0 (showMap a0 a1) := by
  unfold showMap
  exact Keeps.foldl (fun x5 x6 h7 => (flsEntPut_keeps w h7)) _ h0

theorem flsFormat_keeps {s0 : From} {a0 a1} (w : sub 1073766914 s0.W = true) (h0 : Keeps s0 a0) : Keeps s0 (flsFormat a0 a1) := by
  unfold flsFormat
  exact showMap_keeps (sub_trans rfl w) (flsMed_keeps (sub_trans rfl w) (flsMed_keeps (sub_trans rfl w) (flsMed_keeps (sub_trans rfl w)
    (h0.of_mem 1073766914 (sub_trans rfl w) rfl (fun c => nwf_filter _ _ c.mem) (fun c => nwf_filter _ _ c.syn) (·.hostMem)))))

theorem hlogSnap_keeps {s0 : From} {a0} (w : sub 12554203470773361527671578846415332832204710888928069025792 s0.W = true) (h0 : Keeps s0 a0) : Keeps s0 (hlogSnap a0) := by
  unfold hlogSnap
  extract_lets +onlyGivenNames x5
  clear_value x5
  exact Keeps.foldl (fun x6 x7 h8 => (fput_keeps h8 rfl (sub_trans rfl w))) _ h0

theorem flashTempSample_keeps {s0 : From} {a0} (w : sub 1073741824 s0.W = true) (h0 : Keeps s0 a0) : Keeps s0 (flashTempSample a0) := by
  unfold flashTempSample
  refine Keeps.ite h0 ?_
  extract_lets +onlyGivenNames x5 x6 x7
  clear_value x5 x6 x7
  extract_lets +onlyGivenNames x8
  have h9 : Keeps s0 x8 := upd_flash (sub_trans rfl w) h0
  clear_value x8
  exact flsLog_keeps w h9

theorem flsDone_keeps {s0 : From} {a0 a1} (w : sub 787702708005066873196190371955258920380031909353203171328 s0.W = true) (h0 : Keeps s0 a0) : Keeps s0 (flsDone a0 a1) := by
  unfold flsDone
  extract_lets +onlyGivenNames x5
  clear_value x5
  extract_lets +onlyGivenNames x6
  have h7 : Keeps s0 x6 := fput_keeps (upd_flash (sub_trans rfl w) h0) rfl (sub_trans rfl w)
  clear_value x6
  exact irq_keeps (sub_trans rfl w) (finc_keeps (fput_keeps (fput_keeps h7 rfl (sub_trans rfl w)) rfl (sub_trans rfl w)) rfl (sub_trans rfl w))

theorem patrolEnd_keeps {s0 : From} {a0} (w : sub 787702708005066873196190371955258920380031909353203171328 s0.W = true) (h0 : Keeps s0 a0) : Keeps s0 (patrolEnd a0) := by
  unfold patrolEnd
  extract_lets +onlyGivenNames x5 x6
  clear_value x5 x6
  extract_lets +onlyGivenNames x7
  have h8 : Keeps s0 x7 := upd_flash (sub_trans rfl w) h0
  clear_value x7
  exact Keeps.ite (flsDone_keeps w h8) h8

theorem execFlsPatrol_keeps {s0 : From} {a0} (w : sub 787702708005066873196190371955258920380031909353203171328 s0.W = true) (h0 : Keeps s0 a0) : KeepsOut s0 (execFlsPatrol a0) := by
  unfold execFlsPatrol
  refine KeepsOut.next ?_
  split
  · exact h0
  · exact Keeps.ite (flsDone_keeps w h0) (Keeps.ite (patrolEnd_keeps w (upd_flash (sub_trans rfl w) h0)) h0)

theorem tgtOk_keeps {s0 : From} {a0 a1} (w : sub 1073741824 s0.W = true) (h0 : Keeps s0 a0) : Keeps s0 (tgtOk a0 a1) := by
  unfold tgtOk
  exact upd_flash (sub_trans rfl w) h0

theorem queueRefresh_keeps {s0 : From} {a0 a1 a2} (w : sub 1073741824 s0.W = true) (h0 : Keeps s0 a0) : Keeps s0 (queueRefresh a0 a1 a2) := by
  unfold queueRefresh
  extract_lets +onlyGivenNames x5
  clear_value x5
  exact Keeps.ite (flsBlkPut_keeps w h0) h0

theorem readEffects_keeps {s0 : From} {a0 a1 a2 a3 a4} (w : sub 1073741824 s0.W = true) (h0 : Keeps s0 a0) : Keeps s0 (readEffects a0 a1 a2 a3 a4) := by
  unfold readEffects
  extract_lets +onlyGivenNames x5
  have h6 : Keeps s0 x5 := tgtOk_keeps w h0
  clear_value x5
  extract_lets +onlyGivenNames x7
  clear_value x7
  extract_lets +onlyGivenNames x8
  have h9 : Keeps s0 x8 := flsBlkPut_keeps w h6
  clear_value x8
  extract_lets +onlyGivenNames x10
  clear_value x10
  extract_lets +onlyGivenNames x11
  have h12 : Keeps s0 x11 := flsLog_keeps w h9
  clear_value x11
  extract_lets +onlyGivenNames x13
  have h14 : Keeps s0 x13 := Keeps.ite (queueRefresh_keeps w h12) h12
  clear_value x13
  exact Keeps.ite (queueRefresh_keeps w h14) h14

theorem retireBlk_keeps {s0 : From} {a0 a1} (w : sub 7849442160315082732511453473063883638495181783825484087296 s0.W = true) (h0 : Keeps s0 a0) : Keeps s0 (retireBlk a0 a1) := by
  unfold retireBlk
  extract_lets +onlyGivenNames x5 x6
  clear_value x5 x6
  extract_lets +onlyGivenNames x7
  have h8 : Keeps s0 x7 := flsJournal_keeps (sub_trans rfl w) (flsBlkPut_keeps (sub_trans rfl w) h0)
  clear_value x7
  exact flsStat_keeps (sub_trans rfl w) (upd_flash (sub_trans rfl w) h8)

theorem retiring_keeps {s0 : From} {a0 a1} (w : sub 7849442160315082732511453473063883638495181783825484087296 s0.W = true) (h0 : Keeps s0 a0) : Keeps s0 (retiring a0 a1) := by
  unfold retiring
  extract_lets +onlyGivenNames x5
  clear_value x5
  extract_lets +onlyGivenNames x6
  have h7 : Keeps s0 x6 := flsJournal_keeps (sub_trans rfl w) (flsBlkPut_keeps (sub_trans rfl w) h0)
  clear_value x6
  exact Keeps.ite (retireBlk_keeps w h7) h7

theorem uncorrectable_keeps {s0 : From} {a0 a1 a2} (w : sub 7849442160315082732511453473063883638495181783825484111872 s0.W = true) (h0 : Keeps s0 a0) : Keeps s0 (uncorrectable a0 a1 a2) := by
  unfold uncorrectable
  extract_lets +onlyGivenNames x5
  have h6 : Keeps s0 x5 := flsLose_keeps (sub_trans rfl w) (fset_keeps h0 rfl (sub_trans rfl w))
  clear_value x5
  extract_lets +onlyGivenNames x7
  have h8 : Keeps s0 x7 := flsLog_keeps (sub_trans rfl w) h6
  clear_value x7
  extract_lets +onlyGivenNames x9
  clear_value x9
  exact Keeps.ite (Keeps.ite h8 (retiring_keeps (sub_trans rfl w) h8)) (queueRefresh_keeps (sub_trans rfl w) (flsBlkPut_keeps (sub_trans rfl w) h8))

theorem patrol_keeps {s0 : From} {a0 a1 a2 a3 a4} (w : sub 8634079877238417827990927150964841940507976214933246337024 s0.W = true) (h0 : Keeps s0 a0) : Keeps s0 (patrol a0 a1 a2 a3 a4) := by
  unfold patrol
  extract_lets +onlyGivenNames x5
  clear_value x5
  refine Keeps.ite h0 ?_
  split
  · exact h0
  · extract_lets +onlyGivenNames x6 x7 x8
    clear_value x6 x7 x8
    extract_lets +onlyGivenNames x9
    have h10 : Keeps s0 x9 := upd_flash (sub_trans rfl w) h0
    clear_value x9
    extract_lets +onlyGivenNames x11
    clear_value x11
    extract_lets +onlyGivenNames x12
    have h13 : Keeps s0 x12 := readEffects_keeps (sub_trans rfl w) h10
    clear_value x12
    extract_lets +onlyGivenNames x14
    have h15 : Keeps s0 x14 := by
      unfold x14
      split
      · exact uncorrectable_keeps (sub_trans rfl w) h13
      · exact h13
    clear_value x14
    extract_lets +onlyGivenNames x16
    have h17 : Keeps s0 x16 := Keeps.ite (queueRefresh_keeps (sub_trans rfl w) h15) h15
    clear_value x16
    exact Keeps.ite (patrolEnd_keeps (sub_trans rfl w) h17) h17

theorem usePage_keeps {s0 : From} {a0 a1 a2 a3} (w : sub 7849442160315082732511453473063883638495181783825484087298 s0.W = true) (h0 : Keeps s0 a0) : Keeps s0 (usePage a0 a1 a2 a3) := by
  unfold usePage
  extract_lets +onlyGivenNames x5 x6
  clear_value x5 x6
  extract_lets +onlyGivenNames x7
  have h8 : Keeps s0 x7 := flsBlkPut_keeps (sub_trans rfl w) (bump_keeps (sub_trans rfl w) h0)
  clear_value x7
  extract_lets +onlyGivenNames x9
  have h10 : Keeps s0 x9 := flsMed_keeps (sub_trans rfl w) h8
  clear_value x9
  extract_lets +onlyGivenNames x11
  have h12 : Keeps s0 x11 := Keeps.ite (flsJournal_keeps (sub_trans rfl w) h10) h10
  clear_value x11
  exact flsStat_keeps (sub_trans rfl w) h12

theorem pagePut_keeps {s0 : From} {a0 a1 a2 a3} (w : sub 1073741824 s0.W = true) (h0 : Keeps s0 a0) : Keeps s0 (pagePut a0 a1 a2 a3) := by
  unfold pagePut
  exact flsMed_keeps w h0

theorem showGeometry_keeps {s0 : From} {a0} (w : sub 9194973245195333150150082162901855101712434733101613056 s0.W = true) (h0 : Keeps s0 a0) : Keeps s0 (showGeometry a0) := by
  unfold showGeometry
  extract_lets +onlyGivenNames x5
  clear_value x5
  extract_lets +onlyGivenNames x6
  have h7 : Keeps s0 x6 := fput_keeps h0 rfl (sub_trans rfl w)
  clear_value x6
  extract_lets +onlyGivenNames x8
  have h9 : Keeps s0 x8 := fput_keeps (fput_keeps (fput_keeps h7 rfl (sub_trans rfl w)) rfl (sub_trans rfl w)) rfl (sub_trans rfl w)
  clear_value x8
  exact fput_keeps (fput_keeps (fput_keeps h9 rfl (sub_trans rfl w)) rfl (sub_trans rfl w)) rfl (sub_trans rfl w)

theorem mapLineCheck_keeps {s0 : From} {a0 a1} (w : sub 187467548099782855343728074008469574490992259968531463800799897577583195385810613854208 s0.W = true) (h0 : Keeps s0 a0) : Keeps s0 (mapLineCheck a0 a1) := by
  unfold mapLineCheck
  extract_lets +onlyGivenNames x5
  clear_value x5
  refine Keeps.ite h0 ?_
  extract_lets +onlyGivenNames x6
  have h7 : Keeps s0 x6 := memWrite_keeps (sub_trans rfl w) (lineFailure_keeps w h0)
  clear_value x6
  extract_lets +onlyGivenNames x8
  clear_value x8
  exact Keeps.foldl (fun x9 x10 h11 => (flsLose_keeps (sub_trans rfl w) h11)) _ h7

theorem restoreData_keeps {s0 : From} {a0 a1} (w : sub 24576 s0.W = true) (h0 : Keeps s0 a0) : Keeps s0 (restoreData a0 a1) := by
  unfold restoreData
  refine Keeps.foldl (fun t e h => ?_) _ ?_
  · split
    · exact spoilUnit_keeps (sub_trans rfl w) h
    · exact h.of_mem 8192 (sub_trans rfl w) rfl
        (fun c => nwf_foldl_nput memDefault (fun b : Nat × Byte => unitAddr e.1 + b.1) (·.2) _ c.mem) (·.syn) (·.hostMem)
  · exact h0.of_mem 24576 (sub_trans rfl w) rfl (fun c => nwf_filter _ _ c.mem) (fun c => nwf_filter _ _ c.syn) (·.hostMem)

theorem markDirty_keeps {s0 : From} {a0} (w : sub 1073741824 s0.W = true) (h0 : Keeps s0 a0) : Keeps s0 (markDirty a0) := by
  unfold markDirty
  exact flsMed_keeps w h0

theorem written_keeps {s0 : From} {a0 a1 a2} (w : sub 1073897472 s0.W = true) (h0 : Keeps s0 a0) : Keeps s0 (written a0 a1 a2) := by
  unfold written
  extract_lets +onlyGivenNames x5
  have h6 : Keeps s0 x5 := flsSet_keeps (sub_trans rfl w) (pagePut_keeps (sub_trans rfl w) h0)
  clear_value x5
  extract_lets +onlyGivenNames x7
  have h8 : Keeps s0 x7 := flsLog_keeps (sub_trans rfl w) (markDirty_keeps (sub_trans rfl w) h6)
  clear_value x7
  exact Keeps.upd 1073872896 h8 (sub_trans rfl w) rfl

theorem markRead_keeps {s0 : From} {a0 a1} (w : sub 131072 s0.W = true) (h0 : Keeps s0 a0) : Keeps s0 (markRead a0 a1) := by
  unfold markRead
  exact upd_tie (sub_trans rfl w) h0

theorem unitRead_keeps {s0 : From} {a0 a1 a2 a3 a4} (w : sub 187467548099782855343728074016319016651307342701042917273863781216078377169635024199680 s0.W = true) (h0 : Keeps s0 a0) : Keeps s0 (unitRead a0 a1 a2 a3 a4) := by
  unfold unitRead
  extract_lets +onlyGivenNames x5 x6
  clear_value x5 x6
  refine Keeps.ite h0 ?_
  extract_lets +onlyGivenNames x7
  have h8 : Keeps s0 x7 := mapLineCheck_keeps (sub_trans rfl w) h0
  clear_value x7
  extract_lets +onlyGivenNames x9 x10
  clear_value x9 x10
  refine Keeps.ite h8 ?_
  refine Keeps.ite ?_ ?_
  · extract_lets +onlyGivenNames x11 x12
    clear_value x11 x12
    refine Keeps.ite h8 ?_
    extract_lets +onlyGivenNames x13
    have h14 : Keeps s0 x13 := readEffects_keeps (sub_trans rfl w) h8
    clear_value x13
    exact Keeps.ite (uncorrectable_keeps (sub_trans rfl w) h14) (upd_flash (sub_trans rfl w) h14)
  · extract_lets +onlyGivenNames x15
    have h16 : Keeps s0 x15 := readEffects_keeps (sub_trans rfl w) h8
    clear_value x15
    exact Keeps.ite (uncorrectable_keeps (sub_trans rfl w) h16) (markRead_keeps (sub_trans rfl w) h16)

theorem workOn_keeps {s0 : From} {a0 a1 a2 a3} (w : sub 1073741824 s0.W = true) (h0 : Keeps s0 a0) : Keeps s0 (workOn a0 a1 a2 a3) := by
  unfold workOn
  exact upd_flash (sub_trans rfl w) h0

theorem execBlockRefresh_keeps {s0 : From} {a0 a1} (w : sub 1073741824 s0.W = true) (h0 : Keeps s0 a1) : KeepsOut s0 (execBlockRefresh a0 a1) := by
  unfold execBlockRefresh
  refine KeepsOut.next ?_
  refine Keeps.ite h0 ?_
  split
  · exact h0
  · exact workOn_keeps w h0

theorem flashReclaim_keeps {s0 : From} {a0 a1} (w : sub 1073741824 s0.W = true) (h0 : Keeps s0 a0) : Keeps s0 (flashReclaim a0 a1) := by
  unfold flashReclaim
  extract_lets +onlyGivenNames x5 x6 x7 x8
  clear_value x5 x6 x7 x8
  extract_lets +onlyGivenNames x9
  have h10 : Keeps s0 x9 := upd_flash (sub_trans rfl w) h0
  clear_value x9
  refine Keeps.ite h10 ?_
  split
  · exact h10
  · exact workOn_keeps w h10

theorem execFlashReclaim_keeps {s0 : From} {a0 a1} (w : sub 1073741824 s0.W = true) (h0 : Keeps s0 a1) : KeepsOut s0 (execFlashReclaim a0 a1) := by
  unfold execFlashReclaim
  exact KeepsOut.next (flashReclaim_keeps w h0)

theorem relocated_keeps {s0 : From} {a0 a1 a2} (w : sub 7849442160315082732511453473063883638495181783825484111872 s0.W = true) (h0 : Keeps s0 a0) : Keeps s0 (relocated a0 a1 a2) := by
  unfold relocated
  extract_lets +onlyGivenNames x5 x6
  clear_value x5 x6
  extract_lets +onlyGivenNames x7
  have h8 : Keeps s0 x7 := upd_flash (sub_trans rfl w) h0
  clear_value x7
  extract_lets +onlyGivenNames x9
  have h10 : Keeps s0 x9 := flsLog_keeps (sub_trans rfl w) (markDirty_keeps (sub_trans rfl w) (pagePut_keeps (sub_trans rfl w) h8))
  clear_value x9
  refine Keeps.ite h10 ?_
  extract_lets +onlyGivenNames x11
  have h12 : Keeps s0 x11 := flsSet_keeps (sub_trans rfl w) h10
  clear_value x11
  extract_lets +onlyGivenNames x13
  clear_value x13
  exact Keeps.ite (retireBlk_keeps (sub_trans rfl w) h12) h12

theorem execPatrol_keeps {s0 : From} {a0 a1 a2 a3 a4} (w : sub 8634079877238417827990927150964841940507976214933246337024 s0.W = true) (h0 : Keeps s0 a4) : KeepsOut s0 (execPatrol a0 a1 a2 a3 a4) := by
  unfold execPatrol
  exact KeepsOut.next (patrol_keeps w h0)

theorem programFail_keeps {s0 : From} {a0 a1} (w : sub 7849442160315082732511453473063883638495181783825484087296 s0.W = true) (h0 : Keeps s0 a0) : Keeps s0 (programFail a0 a1) := by
  unfold programFail
  exact retiring_keeps w (flsLog_keeps (sub_trans rfl w) (fset_keeps h0 rfl (sub_trans rfl w)))

theorem unitProgram_keeps {s0 : From} {a0 a1 a2} (w : sub 7849442160315082732511453473063883638495181783825484242946 s0.W = true) (h0 : Keeps s0 a0) : Keeps s0 (unitProgram a0 a1 a2) := by
  unfold unitProgram
  extract_lets +onlyGivenNames x5 x6 x7
  clear_value x5 x6 x7
  refine Keeps.ite h0 ?_
  split
  · exact h0
  · extract_lets +onlyGivenNames x8
    have h9 : Keeps s0 x8 := tgtOk_keeps (sub_trans rfl w) (usePage_keeps (sub_trans rfl w) h0)
    clear_value x8
    refine Keeps.ite (programFail_keeps (sub_trans rfl w) h9) ?_
    extract_lets +onlyGivenNames x10
    clear_value x10
    exact Keeps.ite (relocated_keeps (sub_trans rfl w) h9) (written_keeps (sub_trans rfl w) h9)

theorem execUnitReadDone_keeps {s0 : From} {a0 a1 a2 a3 a4} (w : sub 187467548099782855343728074016319016651307342701042917273863781216078377169635024199680 s0.W = true) (h0 : Keeps s0 a4) : KeepsOut s0 (execUnitReadDone a0 a1 a2 a3 a4) := by
  unfold execUnitReadDone
  exact KeepsOut.next (unitRead_keeps w h0)

theorem journalPage_keeps {s0 : From} {a0 a1} (w : sub 1073741824 s0.W = true) (h0 : Keeps s0 a0) : Keeps s0 (journalPage a0 a1) := by
  unfold journalPage
  extract_lets +onlyGivenNames x5
  clear_value x5
  refine Keeps.ite h0 ?_
  extract_lets +onlyGivenNames x6 x7 x8
  clear_value x6 x7 x8
  extract_lets +onlyGivenNames x9
  have h10 : Keeps s0 x9 := upd_flash (sub_trans rfl w) h0
  clear_value x9
  exact flsMed_keeps w h10

theorem checkpoint_keeps {s0 : From} {a0 a1 a2} (w : sub 3064991081731777716716694054300618367237478245440946176 s0.W = true) (h0 : Keeps s0 a0) : Keeps s0 (checkpoint a0 a1 a2) := by
  unfold checkpoint
  extract_lets +onlyGivenNames x5 x6
  clear_value x5 x6
  extract_lets +onlyGivenNames x7
  have h8 : Keeps s0 x7 := flsMed_keeps (sub_trans rfl w) h0
  clear_value x7
  extract_lets +onlyGivenNames x9
  have h10 : Keeps s0 x9 := fput_keeps h8 rfl (sub_trans rfl w)
  clear_value x9
  extract_lets +onlyGivenNames x11 x12
  clear_value x11 x12
  exact upd_flash (sub_trans rfl w) h10

theorem execFlsCheckpoint_keeps {s0 : From} {a0} (w : sub 787702708005066873196190371955258920380031909353203171328 s0.W = true) (h0 : Keeps s0 a0) : KeepsOut s0 (execFlsCheckpoint a0) := by
  unfold execFlsCheckpoint
  refine KeepsOut.next ?_
  split
  · exact h0
  · exact Keeps.ite (flsDone_keeps w (checkpoint_keeps (sub_trans rfl w) (checkpoint_keeps (sub_trans rfl w) h0))) (flsDone_keeps w h0)

theorem execFlsHlogSnap_keeps {s0 : From} {a0 a1} (w : sub 15692754338466701909589473558019166040403462563749762695168 s0.W = true) (h0 : Keeps s0 a1) : KeepsOut s0 (execFlsHlogSnap a0 a1) := by
  unfold execFlsHlogSnap
  exact KeepsOut.next (regGate_keeps (sub_trans rfl w) h0 (sub_trans rfl w) (fun x5 h6 => (Keeps.ite (hlogSnap_keeps (sub_trans rfl w) h6) h6)))

theorem execFlsRetire_keeps {s0 : From} {a0} (w : sub 8634079877238417827990927150964841940507976214933246312448 s0.W = true) (h0 : Keeps s0 a0) : KeepsOut s0 (execFlsRetire a0) := by
  unfold execFlsRetire
  refine KeepsOut.next ?_
  split
  · exact h0
  · extract_lets +onlyGivenNames x5 x6
    clear_value x5 x6
    exact Keeps.ite (flsDone_keeps (sub_trans rfl w) h0) (Keeps.ite (flsDone_keeps (sub_trans rfl w) h0) (flsDone_keeps (sub_trans rfl w) (retiring_keeps (sub_trans rfl w) (fset_keeps h0 rfl (sub_trans rfl w)))))

theorem execFlsShutdown_keeps {s0 : From} {a0} (w : sub 787702708005066873196190371955258920380031909353203171328 s0.W = true) (h0 : Keeps s0 a0) : KeepsOut s0 (execFlsShutdown a0) := by
  unfold execFlsShutdown
  refine KeepsOut.next ?_
  split
  · exact h0
  · exact Keeps.ite (flsDone_keeps w h0) (flsDone_keeps w (checkpoint_keeps (sub_trans rfl w) (checkpoint_keeps (sub_trans rfl w) h0)))

theorem execJournalPageProgram_keeps {s0 : From} {a0 a1} (w : sub 1073741824 s0.W = true) (h0 : Keeps s0 a1) : KeepsOut s0 (execJournalPageProgram a0 a1) := by
  unfold execJournalPageProgram
  exact KeepsOut.next (journalPage_keeps w h0)

theorem targetTimeout_keeps {s0 : From} {a0 a1 a2} (w : sub 7849442160315082732511453473063883638495181783825484111872 s0.W = true) (h0 : Keeps s0 a0) : Keeps s0 (targetTimeout a0 a1 a2) := by
  unfold targetTimeout
  extract_lets +onlyGivenNames x5
  clear_value x5
  refine Keeps.ite h0 ?_
  extract_lets +onlyGivenNames x6 x7
  clear_value x6 x7
  extract_lets +onlyGivenNames x8
  have h9 : Keeps s0 x8 := upd_flash (sub_trans rfl w) h0
  clear_value x8
  refine Keeps.ite h9 ?_
  extract_lets +onlyGivenNames x10
  have h11 : Keeps s0 x10 := flsMed_keeps (sub_trans rfl w) (fset_keeps h9 rfl (sub_trans rfl w))
  clear_value x10
  extract_lets +onlyGivenNames x12
  clear_value x12
  extract_lets +onlyGivenNames x13
  have h14 : Keeps s0 x13 := Keeps.foldl (fun x15 x16 h17 => (flsLose_keeps (sub_trans rfl w) h17)) _ h11
  clear_value x13
  extract_lets +onlyGivenNames x18
  clear_value x18
  refine Keeps.foldl (fun x19 x20 h21 => ?_) _ h14
  extract_lets +onlyGivenNames x22
  clear_value x22
  exact Keeps.ite h21 (retireBlk_keeps (sub_trans rfl w) h21)

theorem execTargetTimeout_keeps {s0 : From} {a0 a1 a2} (w : sub 7849442160315082732511453473063883638495181783825484111872 s0.W = true) (h0 : Keeps s0 a2) : KeepsOut s0 (execTargetTimeout a0 a1 a2) := by
  unfold execTargetTimeout
  exact KeepsOut.next (targetTimeout_keeps w h0)

theorem restore_keeps {s0 : From} {a0 a1 a2} (w : sub 1073766912 s0.W = true) (h0 : Keeps s0 a0) : Keeps s0 (restore a0 a1 a2) := by
  unfold restore
  extract_lets +onlyGivenNames x5 x6 x7 x8 x9 x10 x11 x12
  clear_value x5 x6 x7 x8 x9 x10 x11 x12
  extract_lets +onlyGivenNames x13
  have h14 : Keeps s0 x13 := flsMed_keeps (sub_trans rfl w) (Keeps.upd 1073742336 h0 (sub_trans rfl w) rfl)
  clear_value x13
  exact showMap_keeps (sub_trans rfl w) (restoreData_keeps (sub_trans rfl w) h14)

theorem mountDone_keeps {s0 : From} {a0 a1} (w : sub 63657374260452690195888927762800935364965192775459319586016778729673114224257563755569666 s0.W = true) (h0 : Keeps s0 a0) : Keeps s0 (mountDone a0 a1) := by
  unfold mountDone
  refine Keeps.ite h0 ?_
  extract_lets +onlyGivenNames x5
  have h6 : Keeps s0 x5 := showGeometry_keeps (sub_trans rfl w) h0
  clear_value x5
  extract_lets +onlyGivenNames x7
  clear_value x7
  refine Keeps.ite (fset_keeps (fput_keeps h6 rfl (sub_trans rfl w)) rfl (sub_trans rfl w)) ?_
  split
  · exact Keeps.ite (fset_keeps (fput_keeps h6 rfl (sub_trans rfl w)) rfl (sub_trans rfl w)) (flsMounted_keeps (sub_trans rfl w) (mountCount_keeps (sub_trans rfl w) (restore_keeps (sub_trans rfl w) h6)))
  · exact Keeps.ite (flsMounted_keeps (sub_trans rfl w) (mountCount_keeps (sub_trans rfl w) (flsMed_keeps (sub_trans rfl w) (flsFormat_keeps (sub_trans rfl w) h6)))) (fset_keeps (fput_keeps h6 rfl (sub_trans rfl w)) rfl (sub_trans rfl w))

theorem execFlashMountDone_keeps {s0 : From} {a0 a1} (w : sub 63657374260452690195888927762800935364965192775459319586016778729673114224257563755569666 s0.W = true) (h0 : Keeps s0 a1) : KeepsOut s0 (execFlashMountDone a0 a1) := by
  unfold execFlashMountDone
  exact KeepsOut.next (mountDone_keeps w h0)

theorem execUnitProgramDone_keeps {s0 : From} {a0 a1 a2} (w : sub 7849442160315082732511453473063883638495181783825484242946 s0.W = true) (h0 : Keeps s0 a2) : KeepsOut s0 (execUnitProgramDone a0 a1 a2) := by
  unfold execUnitProgramDone
  exact KeepsOut.next (unitProgram_keeps w h0)

theorem blockErase_keeps {s0 : From} {a0 a1 a2} (w : sub 7849442160315082732511453473063883638495181783825484087296 s0.W = true) (h0 : Keeps s0 a0) : Keeps s0 (blockErase a0 a1 a2) := by
  unfold blockErase
  extract_lets +onlyGivenNames x5
  clear_value x5
  split
  · exact h0
  · extract_lets +onlyGivenNames x6
    clear_value x6
    refine Keeps.ite h0 ?_
    extract_lets +onlyGivenNames x7
    clear_value x7
    extract_lets +onlyGivenNames x8
    have h9 : Keeps s0 x8 := tgtOk_keeps (sub_trans rfl w) (upd_flash (sub_trans rfl w) h0)
    clear_value x8
    refine Keeps.ite (retireBlk_keeps w (flsLog_keeps (sub_trans rfl w) (fset_keeps h9 rfl (sub_trans rfl w)))) ?_
    extract_lets +onlyGivenNames x10
    have h11 : Keeps s0 x10 := flsLog_keeps (sub_trans rfl w) h9
    clear_value x10
    extract_lets +onlyGivenNames x12
    have h13 : Keeps s0 x12 := flsMed_keeps (sub_trans rfl w) h11
    clear_value x12
    extract_lets +onlyGivenNames x14
    have h15 : Keeps s0 x14 := flsJournal_keeps (sub_trans rfl w) (flsBlkPut_keeps (sub_trans rfl w) h13)
    clear_value x14
    exact flsStat_keeps (sub_trans rfl w) h15

theorem execBlockEraseDone_keeps {s0 : From} {a0 a1 a2} (w : sub 7849442160315082732511453473063883638495181783825484087296 s0.W = true) (h0 : Keeps s0 a2) : KeepsOut s0 (execBlockEraseDone a0 a1 a2) := by
  unfold execBlockEraseDone
  exact KeepsOut.next (blockErase_keeps w h0)

theorem execFlsFormat_keeps {s0 : From} {a0} (w : sub 8646339841565344938857793927182044413976926127910715154946 s0.W = true) (h0 : Keeps s0 a0) : KeepsOut s0 (execFlsFormat a0) := by
  unfold execFlsFormat
  refine KeepsOut.next ?_
  split
  · exact h0
  · extract_lets +onlyGivenNames x5
    clear_value x5
    refine Keeps.ite (flsDone_keeps (sub_trans rfl w) h0) ?_
    extract_lets +onlyGivenNames x6
    have h7 : Keeps s0 x6 := flsLog_keeps (sub_trans rfl w) (flsFormat_keeps (sub_trans rfl w) h0)
    clear_value x6
    exact flsDone_keeps (sub_trans rfl w) (flsMounted_keeps (sub_trans rfl w) h7)

theorem execCheckpointTimer_keeps {s0 : From} {a0 a1} (w : sub 3064991081731777716716694054300618367237478245440946176 s0.W = true) (h0 : Keeps s0 a1) : KeepsOut s0 (execCheckpointTimer a0 a1) := by
  unfold execCheckpointTimer
  exact KeepsOut.next (Keeps.ite (checkpoint_keeps w h0) h0)

end Sys2Proof.Machine
end

