-- ==== Sys2Proof/Laws/KeepsIslands.lean ====
section
/-!
SUPPORT. What the operations of `Sys2Proof.Machine.Islands` keep (`Sys2Proof.Machine.Keeps`): one lemma for each.
-/

namespace Sys2Proof.Machine

theorem xstallFix_keeps {s0 : From} {a0 a1} (w : sub 2135987035920910082395021706169552114602704522356652769947041607822219725780640550022962086937600 s0.W = true) (h0 : Keeps s0 a0) : Keeps s0 (xstallFix a0 a1) := by
  unfold xstallFix
  extract_lets +onlyGivenNames x5
  have h6 : Keeps s0 x5 := by
    unfold x5
    split
    · exact fadd1_keeps h0 rfl (sub_trans rfl w)
    · exact h0
  clear_value x5
  exact upd_isl (sub_trans rfl w) h6

theorem governorRead_keeps {s0 : From} {a0 a1} (w : sub 1073743872 s0.W = true) (h0 : Keeps s0 a0) : Keeps s0 (governorRead a0 a1) := by
  unfold governorRead
  extract_lets +onlyGivenNames x5 x6
  clear_value x5 x6
  extract_lets +onlyGivenNames x7
  have h8 : Keeps s0 x7 := flashTempSample_keeps (sub_trans rfl w) (upd_gov (sub_trans rfl w) h0)
  clear_value x7
  extract_lets +onlyGivenNames x9
  clear_value x9
  exact upd_gov (sub_trans rfl w) h8

theorem governorAlert_keeps {s0 : From} {a0 a1} (w : sub 256 s0.W = true) (h0 : Keeps s0 a0) : Keeps s0 (governorAlert a0 a1) := by
  unfold governorAlert
  exact upd_pins (sub_trans rfl w) h0

theorem stepUp_keeps {s0 : From} {a0 a1} (w : sub 2050 s0.W = true) (h0 : Keeps s0 a0) : Keeps s0 (stepUp a0 a1) := by
  unfold stepUp
  extract_lets +onlyGivenNames x5 x6
  clear_value x5 x6
  extract_lets +onlyGivenNames x7
  have h8 : Keeps s0 x7 := bump_keeps (sub_trans rfl w) h0
  clear_value x7
  exact upd_gov (sub_trans rfl w) h8

theorem stepDown_keeps {s0 : From} {a0 a1} (w : sub 2050 s0.W = true) (h0 : Keeps s0 a0) : Keeps s0 (stepDown a0 a1) := by
  unfold stepDown
  extract_lets +onlyGivenNames x5 x6
  clear_value x5 x6
  extract_lets +onlyGivenNames x7
  have h8 : Keeps s0 x7 := bump_keeps (sub_trans rfl w) h0
  clear_value x7
  refine Keeps.ite (upd_gov (sub_trans rfl w) h8) ?_
  refine Keeps.ite (upd_gov (sub_trans rfl w) h8) ?_
  refine Keeps.ite (upd_gov (sub_trans rfl w) h8) ?_
  extract_lets +onlyGivenNames x9
  clear_value x9
  exact upd_gov (sub_trans rfl w) h8

theorem setChange_keeps {s0 : From} {a0 a1} (w : sub 1024 s0.W = true) (h0 : Keeps s0 a0) : Keeps s0 (setChange a0 a1) := by
  unfold setChange
  exact upd_isl (sub_trans rfl w) h0

theorem clockMove_keeps {s0 : From} {a0 a1} (w : sub 3203980553881365123592532559254328171904056783534979154920562411733329588670960825034443130930176 s0.W = true) (h0 : Keeps s0 a0) : Keeps s0 (clockMove a0 a1) := by
  unfold clockMove
  extract_lets +onlyGivenNames x5
  clear_value x5
  refine Keeps.ite h0 ?_
  extract_lets +onlyGivenNames x6
  have h7 : Keeps s0 x6 := setChange_keeps (sub_trans rfl w) (xstallFix_keeps (sub_trans rfl w) (tcycFix_keeps (sub_trans rfl w) h0))
  clear_value x6
  exact fput_keeps (fset_keeps h7 rfl (sub_trans rfl w)) rfl (sub_trans rfl w)

theorem showCaps_keeps {s0 : From} {a0} (w : sub 3203980553881365123592532559254328171904056783534979154920562411733329588670960825034443130930176 s0.W = true) (h0 : Keeps s0 a0) : Keeps s0 (showCaps a0) := by
  unfold showCaps
  exact Keeps.foldl (fun x5 x6 h7 => (Keeps.ite h7 (clockMove_keeps w (fput_keeps h7 rfl (sub_trans rfl w))))) _ h0

theorem governorAct_keeps {s0 : From} {a0 a1 a2 a3 a4} (w : sub 3203980553881365123592532559254328171904056783534979154920562411733329588670960825034443130932226 s0.W = true) (h0 : Keeps s0 a0) : Keeps s0 (governorAct a0 a1 a2 a3 a4) := by
  unfold governorAct
  extract_lets +onlyGivenNames x5
  extract_lets +onlyGivenNames x6
  extract_lets +onlyGivenNames x7
  have h8 : Keeps s0 x7 := Keeps.ite (stepDown_keeps (sub_trans rfl w) h0) h0
  extract_lets +onlyGivenNames x9
  have h10 : Keeps s0 x9 := Keeps.ite (stepDown_keeps (sub_trans rfl w) h8) h8
  extract_lets +onlyGivenNames x11
  clear_value x11
  extract_lets +onlyGivenNames x12
  have h13 : Keeps s0 x12 := upd_gov (sub_trans rfl w) h10
  extract_lets +onlyGivenNames x14
  have h15 : Keeps s0 x14 := Keeps.ite (stepUp_keeps (sub_trans rfl w) (stepUp_keeps (sub_trans rfl w) h13)) h13
  clear_value x14
  exact Keeps.ite (showCaps_keeps (sub_trans rfl w) h15) h15

theorem governor_keeps {s0 : From} {a0 a1} (w : sub 3203980553881365123592532559254328171904056783534979154920562411733329588670960825034444204674306 s0.W = true) (h0 : Keeps s0 a0) : Keeps s0 (governor a0 a1) := by
  unfold governor
  extract_lets +onlyGivenNames x5
  have h6 : Keeps s0 x5 := governorRead_keeps (sub_trans rfl w) h0
  clear_value x5
  extract_lets +onlyGivenNames x7 x8 x9
  clear_value x7 x8 x9
  exact governorAct_keeps (sub_trans rfl w) (governorAlert_keeps (sub_trans rfl w) h6)

theorem execGovernorSample_keeps {s0 : From} {a0 a1} (w : sub 3203980553881365123592532559254328171904056783534979154920562411733329588670960825034444204674306 s0.W = true) (h0 : Keeps s0 a1) : KeepsOut s0 (execGovernorSample a0 a1) := by
  unfold execGovernorSample
  exact KeepsOut.next (governor_keeps w h0)

theorem clockDone_keeps {s0 : From} {a0 a1} (w : sub 3203980553881365123592532559254328171904056783534979154920562411733329588670960825034443130930176 s0.W = true) (h0 : Keeps s0 a0) : Keeps s0 (clockDone a0 a1) := by
  unfold clockDone
  split
  · exact h0
  · extract_lets +onlyGivenNames x5
    have h6 : Keeps s0 x5 := setChange_keeps (sub_trans rfl w) (xstallFix_keeps (sub_trans rfl w) (tcycFix_keeps (sub_trans rfl w) h0))
    clear_value x5
    exact clockMove_keeps w (fput_keeps (fput_keeps h6 rfl (sub_trans rfl w)) rfl (sub_trans rfl w))

theorem execPowerBrakeRelease_keeps {s0 : From} {a0} (w : sub 2304 s0.W = true) (h0 : Keeps s0 a0) : KeepsOut s0 (execPowerBrakeRelease a0) := by
  unfold execPowerBrakeRelease
  exact KeepsOut.next (Keeps.upd 2304 h0 (sub_trans rfl w) rfl)

theorem execPowerBrake_keeps {s0 : From} {a0} (w : sub 3203980553881365123592532559254328171904056783534979154920562411733329588670960825034443130932480 s0.W = true) (h0 : Keeps s0 a0) : KeepsOut s0 (execPowerBrake a0) := by
  unfold execPowerBrake
  exact KeepsOut.next (showCaps_keeps (sub_trans rfl w) (Keeps.upd 2304 h0 (sub_trans rfl w) rfl))

theorem setCeil_keeps {s0 : From} {a0 a1 a2} (w : sub 3203980585710052253818877657198792053300590549964172805950816327923024109833168633836579165045760 s0.W = true) (h0 : Keeps s0 a0) : Keeps s0 (setCeil a0 a1 a2) := by
  unfold setCeil
  exact clockMove_keeps (sub_trans rfl w) (fput_keeps (fput_keeps h0 rfl (sub_trans rfl w)) rfl (sub_trans rfl w))

theorem chanArrive_keeps {s0 : From} {a0 a1 a2} (w : sub 1024 s0.W = true) (h0 : Keeps s0 a0) : Keeps s0 (chanArrive a0 a1 a2) := by
  unfold chanArrive
  exact upd_isl (sub_trans rfl w) h0

theorem setLimit_keeps {s0 : From} {a0 a1} (w : sub 2048 s0.W = true) (h0 : Keeps s0 a0) : Keeps s0 (setLimit a0 a1) := by
  unfold setLimit
  exact Keeps.ite (upd_gov (sub_trans rfl w) h0) (upd_gov (sub_trans rfl w) h0)

theorem clkCtl_keeps {s0 : From} {a0 a1 a2} (w : sub 3737977312861592644191287985796716200554732914124142347407322813688884520116120962540183652664320 s0.W = true) (h0 : Keeps s0 a0) : Keeps s0 (clkCtl a0 a1 a2) := by
  unfold clkCtl
  refine Keeps.ite h0 ?_
  extract_lets +onlyGivenNames x5 x6
  clear_value x5 x6
  extract_lets +onlyGivenNames x7
  have h8 : Keeps s0 x7 := fput_keeps h0 rfl (sub_trans rfl w)
  clear_value x7
  exact clockMove_keeps (sub_trans rfl w) (fsetIf_keeps h8 rfl (sub_trans rfl w))

theorem execRailFault_keeps {s0 : From} {a0 a1} (w : sub 256 s0.W = true) (h0 : Keeps s0 a1) : KeepsOut s0 (execRailFault a0 a1) := by
  unfold execRailFault
  exact KeepsOut.next (upd_pins (sub_trans rfl w) h0)

theorem setHeld_keeps {s0 : From} {a0 a1 a2} (w : sub 1024 s0.W = true) (h0 : Keeps s0 a0) : Keeps s0 (setHeld a0 a1 a2) := by
  unfold setHeld
  exact upd_isl (sub_trans rfl w) h0

theorem crossing_keeps {s0 : From} {a0 a1 a2 a3} (w : sub 2135987035920910082395021706169552114602704522356652769947041607822219725780640550022962086937600 s0.W = true) (h0 : Keeps s0 a0) : Keeps s0 (crossing a0 a1 a2 a3) := by
  unfold crossing
  exact Keeps.ite (xstallFix_keeps w (setHeld_keeps (sub_trans rfl w) h0)) (chanArrive_keeps (sub_trans rfl w) h0)

theorem execCrossing_keeps {s0 : From} {a0 a1 a2 a3} (w : sub 2135987035920910082395021706169552114602704522356652769947041607822219725780640550022962086937600 s0.W = true) (h0 : Keeps s0 a3) : KeepsOut s0 (execCrossing a0 a1 a2 a3) := by
  unfold execCrossing
  exact KeepsOut.next (crossing_keeps w h0)

theorem crossingDeliver_keeps {s0 : From} {a0 a1} (w : sub 2135987035920910082395021706169552114602704522356652769947041607822219725780640550022962086937600 s0.W = true) (h0 : Keeps s0 a0) : Keeps s0 (crossingDeliver a0 a1) := by
  unfold crossingDeliver
  split
  · exact h0
  · exact Keeps.ite h0 (chanArrive_keeps (sub_trans rfl w) (xstallFix_keeps w (setHeld_keeps (sub_trans rfl w) h0)))

theorem execCrossingDeliver_keeps {s0 : From} {a0 a1} (w : sub 2135987035920910082395021706169552114602704522356652769947041607822219725780640550022962086937600 s0.W = true) (h0 : Keeps s0 a1) : KeepsOut s0 (execCrossingDeliver a0 a1) := by
  unfold execCrossingDeliver
  exact KeepsOut.next (crossingDeliver_keeps w h0)

theorem execClockChangeDone_keeps {s0 : From} {a0 a1} (w : sub 3203980553881365123592532559254328171904056783534979154920562411733329588670960825034443130930176 s0.W = true) (h0 : Keeps s0 a1) : KeepsOut s0 (execClockChangeDone a0 a1) := by
  unfold execClockChangeDone
  exact KeepsOut.next (clockDone_keeps w h0)

theorem execIslClkCtl_keeps {s0 : From} {a0 a1 a2} (w : sub 3737977312861592644191287985796716200554732914124142347407322813688884520116268536492773329077248 s0.W = true) (h0 : Keeps s0 a2) : KeepsOut s0 (execIslClkCtl a0 a1 a2) := by
  unfold execIslClkCtl
  exact KeepsOut.next (regGate_keeps (sub_trans rfl w) h0 (sub_trans rfl w) (fun x5 h6 => (clkCtl_keeps (sub_trans rfl w) h6)))

end Sys2Proof.Machine
end

