-- ==== Sys2Proof/Laws/KeepsIntegrity.lean ====
section
/-!
SUPPORT. What the operations of `Sys2Proof.Machine.Integrity` keep (`Sys2Proof.Machine.Keeps`): one lemma for each.
-/

namespace Sys2Proof.Machine

theorem retireStack_keeps {s0 : From} {a0 a1} (w : sub 971334446112864535459730953411759453321214569898669025937476972876162419923865591808 s0.W = true) (h0 : Keeps s0 a0) : Keeps s0 (retireStack a0 a1) := by
  unfold retireStack
  refine Keeps.ite h0 ?_
  extract_lets +onlyGivenNames x5
  have h6 : Keeps s0 x5 := fput_keeps h0 rfl (sub_trans rfl w)
  clear_value x5
  extract_lets +onlyGivenNames x7
  clear_value x7
  extract_lets +onlyGivenNames x8
  have h9 : Keeps s0 x8 := fput_keeps h6 rfl (sub_trans rfl w)
  clear_value x8
  exact event_keeps (sub_trans rfl w) h9

theorem repairRow_keeps {s0 : From} {a0 a1 a2 a3} (w : sub 249632952651006185613150855026822179503549289968572527746169465419455910926190553358336 s0.W = true) (h0 : Keeps s0 a0) : Keeps s0 (repairRow a0 a1 a2 a3).2 := by
  unfold repairRow
  split
  · extract_lets +onlyGivenNames x5
    clear_value x5
    extract_lets +onlyGivenNames x6
    have h7 : Keeps s0 x6 := Keeps.ite h0 (upd_int0 (sub_trans rfl w) h0)
    clear_value x6
    exact Keeps.ite (retireStack_keeps (sub_trans rfl w) h7) h7
  · extract_lets +onlyGivenNames x8 x9
    clear_value x8 x9
    extract_lets +onlyGivenNames x10
    have h11 : Keeps s0 x10 := upd_int0 (sub_trans rfl w) h0
    clear_value x10
    extract_lets +onlyGivenNames x12
    have h13 : Keeps s0 x12 := fadd1_keeps h11 rfl (sub_trans rfl w)
    clear_value x12
    extract_lets +onlyGivenNames x14
    have h15 : Keeps s0 x14 := fput_keeps h13 rfl (sub_trans rfl w)
    clear_value x14
    exact Keeps.snd (event_keeps (sub_trans rfl w) h15)

theorem rowRepair_keeps {s0 : From} {a0 a1 a2 a3} (w : sub 249632952651006185613150855026822179503549289968572527746169465419455910926190553358336 s0.W = true) (h0 : Keeps s0 a0) : Keeps s0 (rowRepair a0 a1 a2 a3) := by
  unfold rowRepair
  exact Keeps.ite h0 (repairRow_keeps w h0)

theorem execRowRepair_keeps {s0 : From} {a0 a1 a2 a3} (w : sub 249632952651006185613150855026822179503549289968572527746169465419455910926190553358336 s0.W = true) (h0 : Keeps s0 a3) : KeepsOut s0 (execRowRepair a0 a1 a2 a3) := by
  unfold execRowRepair
  exact KeepsOut.next (rowRepair_keeps w h0)

theorem tilFreeze_keeps {s0 : From} {a0 a1} (w : sub 19555545372811066428177078608730030346094096579192988006106948313802060477728032379360615334912 s0.W = true) (h0 : Keeps s0 a0) : Keeps s0 (tilFreeze a0 a1) := by
  unfold tilFreeze
  extract_lets +onlyGivenNames x5
  have h6 : Keeps s0 x5 := busyFix_keeps (sub_trans rfl w) h0
  clear_value x5
  extract_lets +onlyGivenNames x7 x8
  clear_value x7 x8
  extract_lets +onlyGivenNames x9
  have h10 : Keeps s0 x9 := fput_keeps (fput_keeps h6 rfl (sub_trans rfl w)) rfl (sub_trans rfl w)
  clear_value x9
  extract_lets +onlyGivenNames x11
  have h12 : Keeps s0 x11 := fput_keeps (fput_keeps h10 rfl (sub_trans rfl w)) rfl (sub_trans rfl w)
  clear_value x11
  extract_lets +onlyGivenNames x13
  have h14 : Keeps s0 x13 := fput_keeps (rput_keeps h12 (sub_trans rfl w) (fun h15 => (Reg.holds_full rfl _))) rfl (sub_trans rfl w)
  clear_value x13
  exact upd_isl (sub_trans rfl w) h14

theorem setIsl_keeps {s0 : From} {a0 a1 a2} (w : sub 1067993517960455041197510853084776057301352261178326384973520803911109862890320275011481043468288 s0.W = true) (h0 : Keeps s0 a0) : Keeps s0 (setIsl a0 a1 a2) := by
  unfold setIsl
  exact fput_keeps h0 rfl (sub_trans rfl w)

theorem retireTiller_keeps {s0 : From} {a0 a1} (w : sub 1087549063334237442071800796228965818600858117210840576399153821985537829572917759533995096040448 s0.W = true) (h0 : Keeps s0 a0) : Keeps s0 (retireTiller a0 a1) := by
  unfold retireTiller
  refine Keeps.ite h0 ?_
  extract_lets +onlyGivenNames x5
  have h6 : Keeps s0 x5 := event_keeps (sub_trans rfl w) (setIsl_keeps (sub_trans rfl w) (tilFreeze_keeps (sub_trans rfl w) h0))
  clear_value x5
  exact spill_keeps (sub_trans rfl w) (tupd_keeps (sub_trans rfl w) h6)

theorem marginRetire_keeps {s0 : From} {a0 a1} (w : sub 1087549067312823333350093933472023803775424838014489782777935561509249644718193735634262100304896 s0.W = true) (h0 : Keeps s0 a0) : Keeps s0 (marginRetire a0 a1) := by
  unfold marginRetire
  exact Keeps.ite h0 (fadd1_keeps (retireTiller_keeps (sub_trans rfl w) h0) rfl (sub_trans rfl w))

theorem ageLimit_keeps {s0 : From} {a0 a1 a2} (w : sub 3979557225724406001778517716127978480256970409798307809284337721350145428243420440453120 s0.W = true) (h0 : Keeps s0 a0) : Keeps s0 (ageLimit a0 a1 a2) := by
  unfold ageLimit
  exact event_keeps (sub_trans rfl w) (fadd1_keeps h0 rfl (sub_trans rfl w))

theorem ageUpd_keeps {s0 : From} {a0 a1 a2} (w : sub 4096 s0.W = true) (h0 : Keeps s0 a0) : Keeps s0 (ageUpd a0 a1 a2) := by
  unfold ageUpd
  exact upd_age (sub_trans rfl w) h0

theorem planIsl_keeps {s0 : From} {a0 a1} (w : sub 1087549099141510463576439031416487685171958604443683433808189477698944165880401544436398134424576 s0.W = true) (h0 : Keeps s0 a0) : Keeps s0 (planIsl a0 a1) := by
  unfold planIsl
  split
  · exact h0
  · extract_lets +onlyGivenNames x5 x6 x7 x8 x9 x10 x11
    clear_value x5 x6 x7 x8 x9 x10 x11
    extract_lets +onlyGivenNames x12
    have h13 : Keeps s0 x12 := fput_keeps h0 rfl (sub_trans rfl w)
    clear_value x12
    extract_lets +onlyGivenNames x14
    have h15 : Keeps s0 x14 := ageUpd_keeps (sub_trans rfl w) h13
    clear_value x14
    split
    extract_lets +onlyGivenNames x16 x17
    clear_value x16 x17
    refine Keeps.ite ?_ (Keeps.ite (ageLimit_keeps (sub_trans rfl w) h15) h15)
    refine Keeps.ite (marginRetire_keeps (sub_trans rfl w) h15) ?_
    refine Keeps.ite (Keeps.foldl (fun x18 x19 h20 => (marginRetire_keeps (sub_trans rfl w) h20)) _ h15) ?_
    extract_lets +onlyGivenNames x21
    have h22 : Keeps s0 x21 := Keeps.ite (ageLimit_keeps (sub_trans rfl w) h15) h15
    clear_value x21
    exact ageUpd_keeps (sub_trans rfl w) h22

theorem planCount_keeps {s0 : From} {a0} (w : sub 3978585891278293137243057985174566720803649206378781739523711815145275976100267004268544 s0.W = true) (h0 : Keeps s0 a0) : Keeps s0 (planCount a0) := by
  unfold planCount
  exact fadd1_keeps (upd_age (sub_trans rfl w) h0) rfl (sub_trans rfl w)

theorem agePlanHalf_keeps {s0 : From} {a0 a1} (w : sub 1087549099141510463576439031416487685171958604443683433808189477698944165880401544436398134424576 s0.W = true) (h0 : Keeps s0 a0) : Keeps s0 (agePlanHalf a0 a1) := by
  unfold agePlanHalf
  exact planCount_keeps (sub_trans rfl w) (Keeps.foldl (fun x5 x6 h7 => (planIsl_keeps w h7)) _ h0)

theorem intLogBase_keeps {s0 : From} {a0 a1} (w : sub 499023071690484155092436777315291419143768256781518339521559312751681038262087932968960 s0.W = true) (h0 : Keeps s0 a0) : Keeps s0 (intLogBase a0 a1) := by
  unfold intLogBase
  refine Keeps.ite (fset_keeps h0 rfl (sub_trans rfl w)) ?_
  extract_lets +onlyGivenNames x5
  clear_value x5
  extract_lets +onlyGivenNames x6
  have h7 : Keeps s0 x6 := fput_keeps (fput_keeps h0 rfl (sub_trans rfl w)) rfl (sub_trans rfl w)
  clear_value x6
  exact fput_keeps (fput_keeps h7 rfl (sub_trans rfl w)) rfl (sub_trans rfl w)

theorem execIntLogBase_keeps {s0 : From} {a0 a1} (w : sub 499023071690484155092436777315291419143768256781518339521559312751828612214677609381888 s0.W = true) (h0 : Keeps s0 a1) : KeepsOut s0 (execIntLogBase a0 a1) := by
  unfold execIntLogBase
  exact KeepsOut.next (regGate_keeps (sub_trans rfl w) h0 (sub_trans rfl w) (fun x5 h6 => (intLogBase_keeps (sub_trans rfl w) h6)))

theorem clearPoison_keeps {s0 : From} {a0 a1} (w : sub 125302143548559525074305292990116969478435241118862999120741900428159326396286780203008 s0.W = true) (h0 : Keeps s0 a0) : Keeps s0 (clearPoison a0 a1) := by
  unfold clearPoison
  extract_lets +onlyGivenNames x5
  have h6 : Keeps s0 x5 := setUse_keeps (sub_trans rfl w) (setShare_keeps (sub_trans rfl w) (zeroFrame_keeps (sub_trans rfl w) h0))
  clear_value x5
  extract_lets +onlyGivenNames x7
  have h8 : Keeps s0 x7 := fput_keeps h6 rfl (sub_trans rfl w)
  clear_value x7
  exact event_keeps (sub_trans rfl w) h8

theorem poisonTest_keeps {s0 : From} {a0 a1 a2 a3} (w : sub 373963761753452846151996417063527389528663327667909457106285459642745785179323897372672 s0.W = true) (h0 : Keeps s0 a0) : Keeps s0 (poisonTest a0 a1 a2 a3) := by
  unfold poisonTest
  refine Keeps.ite h0 ?_
  extract_lets +onlyGivenNames x5
  clear_value x5
  refine Keeps.ite h0 ?_
  refine Keeps.ite (clearPoison_keeps (sub_trans rfl w) h0) ?_
  extract_lets +onlyGivenNames x6
  have h7 : Keeps s0 x6 := Keeps.ite (Keeps.foldl (fun x8 x9 h10 => (repairRow_keeps (sub_trans rfl w) h10)) _ h0) h0
  clear_value x6
  refine Keeps.ite (clearPoison_keeps (sub_trans rfl w) h7) ?_
  extract_lets +onlyGivenNames x11
  have h12 : Keeps s0 x11 := fadd1_keeps (setUse_keeps (sub_trans rfl w) h7) rfl (sub_trans rfl w)
  clear_value x11
  exact event_keeps (sub_trans rfl w) h12

theorem testIdle_keeps {s0 : From} {a0 a1} (w : sub 1067993517960455041197510853084776057301352261178326384973520803911109862890320275011481043468288 s0.W = true) (h0 : Keeps s0 a0) : Keeps s0 (testIdle a0 a1) := by
  unfold testIdle
  extract_lets +onlyGivenNames x5 x6 x7
  clear_value x5 x6 x7
  exact Keeps.ite (setIsl_keeps w h0) h0

theorem intDone_keeps {s0 : From} {a0 a1} (w : sub 31082702275611665134711390509176302506278509424834232340028998555822468563833094144000 s0.W = true) (h0 : Keeps s0 a0) : Keeps s0 (intDone a0 a1) := by
  unfold intDone
  extract_lets +onlyGivenNames x5
  clear_value x5
  extract_lets +onlyGivenNames x6
  have h7 : Keeps s0 x6 := upd_int0 (sub_trans rfl w) h0
  clear_value x6
  exact irq_keeps (sub_trans rfl w) (finc_keeps (fput_keeps (fput_keeps h7 rfl (sub_trans rfl w)) rfl (sub_trans rfl w)) rfl (sub_trans rfl w))

theorem execIntTest_keeps {s0 : From} {a0} (w : sub 1067993517991537743473122518219487447810528563684604894398355036251138861446142743575314138136576 s0.W = true) (h0 : Keeps s0 a0) : KeepsOut s0 (execIntTest a0) := by
  unfold execIntTest
  refine KeepsOut.next ?_
  refine Keeps.ite h0 ?_
  extract_lets +onlyGivenNames x5
  clear_value x5
  refine Keeps.ite (intDone_keeps (sub_trans rfl w) h0) ?_
  extract_lets +onlyGivenNames x6
  clear_value x6
  extract_lets +onlyGivenNames x7
  have h8 : Keeps s0 x7 := upd_int0 (sub_trans rfl w) h0
  clear_value x7
  exact testIdle_keeps (sub_trans rfl w) (tupd_keeps (sub_trans rfl w) h8)

theorem scrub_keeps {s0 : From} {a0} (w : sub 187467548099782855343728074008469574490992259968531463800799897577583195385810613854208 s0.W = true) (h0 : Keeps s0 a0) : Keeps s0 (scrub a0) := by
  unfold scrub
  exact Keeps.foldl (fun x5 x6 h7 => (lineFailure_keeps w h7)) _ h0

theorem execIntScrub_keeps {s0 : From} {a0} (w : sub 218550250375394520478439464517645876997270769393365696140828896133405663949093949825024 s0.W = true) (h0 : Keeps s0 a0) : KeepsOut s0 (execIntScrub a0) := by
  unfold execIntScrub
  exact KeepsOut.next (Keeps.ite (intDone_keeps (sub_trans rfl w) (scrub_keeps (sub_trans rfl w) h0)) h0)

theorem intCmd_keeps {s0 : From} {a0 a1} (w : sub 528405938685398307290093638655997142606734660222181949780492975448981965576366469677056 s0.W = true) (h0 : Keeps s0 a0) : Keeps s0 (intCmd a0 a1) := by
  unfold intCmd
  extract_lets +onlyGivenNames x5 x6
  clear_value x5 x6
  refine Keeps.ite (fset_keeps h0 rfl (sub_trans rfl w)) ?_
  extract_lets +onlyGivenNames x7
  have h8 : Keeps s0 x7 := fset_keeps h0 rfl (sub_trans rfl w)
  clear_value x7
  exact Keeps.ite (intDone_keeps (sub_trans rfl w) h8) (upd_int0 (sub_trans rfl w) h8)

theorem planApply_keeps {s0 : From} {a0 a1} (w : sub 3203980585711023588264990521734251784254002309417494009370342397683650016038038085979732601238528 s0.W = true) (h0 : Keeps s0 a0) : Keeps s0 (planApply a0 a1) := by
  unfold planApply
  extract_lets +onlyGivenNames x5
  clear_value x5
  split
  · exact h0
  · extract_lets +onlyGivenNames x6 x7 x8 x9
    clear_value x6 x7 x8 x9
    refine Keeps.ite ?_ ?_
    · extract_lets +onlyGivenNames x10
      have h11 : Keeps s0 x10 := ageUpd_keeps (sub_trans rfl w) h0
      clear_value x10
      exact Keeps.ite (fput_keeps h11 rfl (sub_trans rfl w)) (setCeil_keeps (sub_trans rfl w) h11)
    · extract_lets +onlyGivenNames x12
      have h13 : Keeps s0 x12 := setCeil_keeps (sub_trans rfl w) (fput_keeps h0 rfl (sub_trans rfl w))
      clear_value x12
      extract_lets +onlyGivenNames x14
      have h15 : Keeps s0 x14 := ageUpd_keeps (sub_trans rfl w) h13
      clear_value x14
      exact Keeps.ite h15 (event_keeps (sub_trans rfl w) h15)

theorem execPlanApply_keeps {s0 : From} {a0 a1} (w : sub 3203980585711023588264990521734251784254002309417494009370342397683650016038038085979732601238528 s0.W = true) (h0 : Keeps s0 a1) : KeepsOut s0 (execPlanApply a0 a1) := by
  unfold execPlanApply
  exact KeepsOut.next (planApply_keeps w h0)

theorem execScrubTimer_keeps {s0 : From} {a0} (w : sub 187467548099782855343728074008469574490992259968531463800799897577583195385810613854208 s0.W = true) (h0 : Keeps s0 a0) : KeepsOut s0 (execScrubTimer a0) := by
  unfold execScrubTimer
  exact KeepsOut.next (Keeps.ite (scrub_keeps w h0) h0)

theorem planAll_keeps {s0 : From} {a0} (w : sub 1087549099141510463576439031416487685171958604443683433808189477698944165880401544436398134424576 s0.W = true) (h0 : Keeps s0 a0) : Keeps s0 (planAll a0) := by
  unfold planAll
  exact Keeps.foldl (fun x5 x6 h7 => (planIsl_keeps w h7)) _ h0

theorem agePlan_keeps {s0 : From} {a0} (w : sub 1087549099141510463576439031416487685171958604443683433808189477698944165880401544436398134424576 s0.W = true) (h0 : Keeps s0 a0) : Keeps s0 (agePlan a0) := by
  have h1 : ∀ x : State, Keeps s0 x →
      Keeps s0 (fadd1 { x with age := { x.age with plans := x.age.plans + 1 } } F.AGE_STAT_PLANS 0 1) :=
    fun x hx => fadd1_keeps (Keeps.upd 4096 hx (sub_trans rfl w) rfl) rfl (sub_trans rfl w)
  exact h1 _ (planAll_keeps (sub_trans rfl w) h0)

theorem segNext_keeps {s0 : From} {a0 a1} (w : sub 1067993517995423081257573976361326371624175601497889708076459315293642486265620552145724555132928 s0.W = true) (h0 : Keeps s0 a0) : Keeps s0 (segNext a0 a1) := by
  unfold segNext
  extract_lets +onlyGivenNames x5 x6
  clear_value x5 x6
  refine Keeps.ite ?_ ?_
  · extract_lets +onlyGivenNames x7
    have h8 : Keeps s0 x7 := fadd1_keeps h0 rfl (sub_trans rfl w)
    clear_value x7
    extract_lets +onlyGivenNames x9
    have h10 : Keeps s0 x9 := tupd_keeps (sub_trans rfl w) h8
    clear_value x9
    extract_lets +onlyGivenNames x11
    have h12 : Keeps s0 x11 := setIsl_keeps (sub_trans rfl w) h10
    clear_value x11
    exact Keeps.ite (intDone_keeps (sub_trans rfl w) (upd_int0 (sub_trans rfl w) h12)) h12
  · extract_lets +onlyGivenNames x13
    have h14 : Keeps s0 x13 := tupd_keeps (sub_trans rfl w) h0
    clear_value x13
    exact Keeps.ite h14 (setIsl_keeps (sub_trans rfl w) (tupd_keeps (sub_trans rfl w) h14))

theorem segmentEnd_keeps {s0 : From} {a0 a1 a2} (w : sub 1120923860805469702169286133664415384714348715692226599032514858490292636163540545261797631616002 s0.W = true) (h0 : Keeps s0 a0) : Keeps s0 (segmentEnd a0 a1 a2) := by
  unfold segmentEnd
  refine Keeps.ite h0 ?_
  extract_lets +onlyGivenNames x5
  clear_value x5
  extract_lets +onlyGivenNames x6
  have h7 : Keeps s0 x6 := by
    unfold x6
    split
    · exact event_keeps (sub_trans rfl w) (tcount_keeps (sub_trans rfl w) h0 rfl (sub_trans rfl w))
    · exact h0
  clear_value x6
  extract_lets +onlyGivenNames x8
  have h9 : Keeps s0 x8 := tupd_keeps (sub_trans rfl w) (upd_fresh (sub_trans rfl w) h7)
  clear_value x8
  extract_lets +onlyGivenNames x10
  have h11 : ∀ x00 x01 x02, Keeps s0 x01 → Keeps s0 (x10 x00 x01 x02) := fun x12 x13 x14 h15 => (event_keeps (sub_trans rfl w) h15)
  clear_value x10
  refine Keeps.ite ?_ ?_
  · split
    · exact segNext_keeps (sub_trans rfl w) (h11 _ _ _ h9)
    · exact segNext_keeps (sub_trans rfl w) h9
  · refine Keeps.ite (tupd_keeps (sub_trans rfl w) (fadd1_keeps h9 rfl (sub_trans rfl w))) ?_
    extract_lets +onlyGivenNames x16
    have h17 : Keeps s0 x16 := retireTiller_keeps (sub_trans rfl w) (h11 _ _ _ h9)
    clear_value x16
    extract_lets +onlyGivenNames x18
    have h19 : Keeps s0 x18 := tupd_keeps (sub_trans rfl w) h17
    clear_value x18
    exact Keeps.ite (intDone_keeps (sub_trans rfl w) (upd_int0 (sub_trans rfl w) h19)) h19

theorem execTestSegmentEnd_keeps {s0 : From} {a0 a1 a2} (w : sub 1120923860805469702169286133664415384714348715692226599032514858490292636163540545261797631616002 s0.W = true) (h0 : Keeps s0 a2) : KeepsOut s0 (execTestSegmentEnd a0 a1 a2) := by
  unfold execTestSegmentEnd
  exact KeepsOut.next (segmentEnd_keeps w h0)

theorem shareRewrite_keeps {s0 : From} {a0 a1} (w : sub 1073766400 s0.W = true) (h0 : Keeps s0 a0) : Keeps s0 (shareRewrite a0 a1) := by
  unfold shareRewrite
  extract_lets +onlyGivenNames x5
  clear_value x5
  exact Keeps.ite h0 (Keeps.foldl (fun x6 x7 h8 => (memWrite_keeps w h8)) _ h0)

theorem auditEnd_keeps {s0 : From} {a0} (w : sub 32054036721724529670171121462588061959599712844360302100654904760691920706711650197504 s0.W = true) (h0 : Keeps s0 a0) : Keeps s0 (auditEnd a0) := by
  unfold auditEnd
  refine Keeps.ite h0 ?_
  extract_lets +onlyGivenNames x5 x6
  clear_value x5 x6
  extract_lets +onlyGivenNames x7
  have h8 : Keeps s0 x7 := by
    refine Keeps.foldl (fun x9 x10 h11 => ?_) _ h0
    extract_lets +onlyGivenNames x12 x13
    clear_value x12 x13
    refine Keeps.ite h11 ?_
    extract_lets +onlyGivenNames x14
    have h15 : Keeps s0 x14 := Keeps.ite (memPut_keeps (sub_trans rfl w) h11) h11
    clear_value x14
    exact upd_tie (sub_trans rfl w) h15
  clear_value x7
  extract_lets +onlyGivenNames x16
  have h17 : Keeps s0 x16 := shareRewrite_keeps (sub_trans rfl w) (shareRewrite_keeps (sub_trans rfl w) h8)
  clear_value x16
  extract_lets +onlyGivenNames x18
  clear_value x18
  extract_lets +onlyGivenNames x19
  have h20 : Keeps s0 x19 := Keeps.foldl (fun x21 x22 h23 => (giveFrame_keeps (sub_trans rfl w) h23)) _ h17
  clear_value x19
  extract_lets +onlyGivenNames x24
  clear_value x24
  extract_lets +onlyGivenNames x25
  have h26 : Keeps s0 x25 := upd_int0 (sub_trans rfl w) h20
  clear_value x25
  exact intDone_keeps (sub_trans rfl w) (event_keeps (sub_trans rfl w) h26)

theorem execAuditEnd_keeps {s0 : From} {a0} (w : sub 32054036721724529670171121462588061959599712844360302100654904760691920706711650197504 s0.W = true) (h0 : Keeps s0 a0) : KeepsOut s0 (execAuditEnd a0) := by
  unfold execAuditEnd
  exact KeepsOut.next (auditEnd_keeps w h0)

theorem intSeal_keeps {s0 : From} {a0} (w : sub 31082702275611665134711390509176302506278509424834232340028998555822468563833094160384 s0.W = true) (h0 : Keeps s0 a0) : Keeps s0 (intSeal a0) := by
  unfold intSeal
  refine Keeps.ite h0 ?_
  refine Keeps.ite (intDone_keeps (sub_trans rfl w) h0) ?_
  exact intDone_keeps (sub_trans rfl w) (h0.of_mem 16384 (sub_trans rfl w) rfl (·.mem) (fun c => nwf_filter _ _ c.syn) (·.hostMem))

theorem execIntSeal_keeps {s0 : From} {a0} (w : sub 31082702275611665134711390509176302506278509424834232340028998555822468563833094160384 s0.W = true) (h0 : Keeps s0 a0) : KeepsOut s0 (execIntSeal a0) := by
  unfold execIntSeal
  exact KeepsOut.next (intSeal_keeps w h0)

theorem execPoisonTest_keeps {s0 : From} {a0 a1 a2 a3} (w : sub 373963761753452846151996417063527389528663327667909457106285459642745785179323897372672 s0.W = true) (h0 : Keeps s0 a3) : KeepsOut s0 (execPoisonTest a0 a1 a2 a3) := by
  unfold execPoisonTest
  exact KeepsOut.next (poisonTest_keeps w h0)

theorem execIntAudit_keeps {s0 : From} {a0} (w : sub 262144 s0.W = true) (h0 : Keeps s0 a0) : KeepsOut s0 (execIntAudit a0) := by
  unfold execIntAudit
  exact KeepsOut.next (Keeps.ite h0 (upd_int0 (sub_trans rfl w) h0))

theorem ageSample_keeps {s0 : From} {a0 a1} (w : sub 3203980605603953044656456207949541710126835913435740041264251095302209091764417966481067622560768 s0.W = true) (h0 : Keeps s0 a0) : Keeps s0 (ageSample a0 a1) := by
  unfold ageSample
  extract_lets +onlyGivenNames x5 x6
  clear_value x5 x6
  extract_lets +onlyGivenNames x7
  have h8 : Keeps s0 x7 := fput_keeps (fput_keeps (fput_keeps h0 rfl (sub_trans rfl w)) rfl (sub_trans rfl w)) rfl (sub_trans rfl w)
  clear_value x7
  extract_lets +onlyGivenNames x9
  have h10 : Keeps s0 x9 := ageUpd_keeps (sub_trans rfl w) h8
  clear_value x9
  exact Keeps.ite (ageLimit_keeps (sub_trans rfl w) (setCeil_keeps (sub_trans rfl w) h10)) h10

theorem execAgeSample_keeps {s0 : From} {a0 a1} (w : sub 3203980605603953044656456207949541710126835913435740041264251095302209091764417966481067622560768 s0.W = true) (h0 : Keeps s0 a1) : KeepsOut s0 (execAgeSample a0 a1) := by
  unfold execAgeSample
  exact KeepsOut.next (Keeps.ite (Keeps.foldl (fun x5 x6 h7 => (ageSample_keeps w h7)) _ h0) h0)

theorem execAgePlan_keeps {s0 : From} {a0} (w : sub 1087549099141510463576439031416487685171958604443683433808189477698944165880401544436398134424576 s0.W = true) (h0 : Keeps s0 a0) : KeepsOut s0 (execAgePlan a0) := by
  unfold execAgePlan
  exact KeepsOut.next (agePlan_keeps w h0)

theorem execTestIdle_keeps {s0 : From} {a0 a1} (w : sub 1067993517960455041197510853084776057301352261178326384973520803911109862890320275011481043468288 s0.W = true) (h0 : Keeps s0 a1) : KeepsOut s0 (execTestIdle a0 a1) := by
  unfold execTestIdle
  exact KeepsOut.next (testIdle_keeps w h0)

end Sys2Proof.Machine
end

