-- ==== Sys2Proof/Laws/KeepsRequests.lean ====
section
/-!
SUPPORT. What the operations of `Sys2Proof.Machine.Requests` keep (`Sys2Proof.Machine.Keeps`): one lemma for each.
-/

namespace Sys2Proof.Machine

theorem reqAnswer_keeps {s0 : From} {a0 a1 a2 a3 a4 a5 a6} (w : sub 309485009821345618482724864 s0.W = true) (h0 : Keeps s0 a0) : Keeps s0 (reqAnswer a0 a1 a2 a3 a4 a5 a6) := by
  unfold reqAnswer
  exact answer_keeps w h0

theorem reqRefuse_keeps {s0 : From} {a0 a1 a2 a3} (w : sub 309485009821345618482724864 s0.W = true) (h0 : Keeps s0 a0) : Keeps s0 (reqRefuse a0 a1 a2 a3) := by
  unfold reqRefuse
  exact reqAnswer_keeps w h0

theorem reqTake_keeps {s0 : From} {a0 a1 a2 a3} (w : sub 38685626227668133592694784 s0.W = true) (h0 : Keeps s0 a0) : Keeps s0 (reqTake a0 a1 a2 a3) := by
  unfold reqTake
  extract_lets +onlyGivenNames x5
  have h6 : Keeps s0 x5 := fput_keeps h0 rfl (sub_trans rfl w)
  clear_value x5
  extract_lets +onlyGivenNames x7
  clear_value x7
  exact setCpl_keeps (sub_trans rfl w) h6

theorem modifyEntry_keeps {s0 : From} {a0 a1 a2} (w : sub 348170636049013752077516800 s0.W = true) (h0 : Keeps s0 a0) : Keeps s0 (modifyEntry a0 a1 a2) := by
  unfold modifyEntry
  extract_lets +onlyGivenNames x5
  have h6 : Keeps s0 x5 := reqTake_keeps (sub_trans rfl w) h0
  clear_value x5
  refine Keeps.ite (reqRefuse_keeps (sub_trans rfl w) h6) ?_
  split
  · exact reqRefuse_keeps (sub_trans rfl w) h6
  · extract_lets +onlyGivenNames x7
    clear_value x7
    exact setQueue_keeps (sub_trans rfl w) h6

theorem openAs_keeps {s0 : From} {a0 a1 a2 a3} (w : sub 2371421987580235682274733772977928352834969285952318751528091320482061480357945346 s0.W = true) (h0 : Keeps s0 a0) : KeepsOptP s0 (fun t => t.2) (openAs a0 a1 a2 a3) := by
  intro t ht
  obtain ⟨⟨a, s⟩, hs, rfl⟩ := Option.map_eq_some_iff.mp ht
  have h1 : Keeps s0 s := takePt_keeps (sub_trans rfl w) h0 _ hs
  refine cxChange_keeps (sub_trans rfl w) ?_
  split
  · exact setUse_keeps (sub_trans rfl w) h1
  · exact h1

theorem openCtxAs_keeps {s0 : From} {a0 a1 a2} (w : sub 2371421987580235682274733772977928352834969285952318751528091320482061480357945346 s0.W = true) (h0 : Keeps s0 a0) : Keeps s0 (openCtxAs a0 a1 a2).2.2 := by
  unfold openCtxAs
  generalize heq : openAs a0 a1 a2 [] = o
  cases o with
  | none => exact h0
  | some y =>
    rw [Option.elim_some]
    exact openAs_keeps (sub_trans rfl w) h0 y heq

theorem reqReserved_keeps {s0 : From} {a0 a1 a2} (w : sub 348170636049013752073322496 s0.W = true) (h0 : Keeps s0 a0) : Keeps s0 (reqReserved a0 a1 a2) := by
  induction a2 generalizing a0 a1 with
  | zero =>
    unfold reqReserved
    exact h0
  | succ n ih =>
    unfold reqReserved
    split
    · exact h0
    · exact Keeps.ite (ih (reqRefuse_keeps (sub_trans rfl w) (reqTake_keeps (sub_trans rfl w) h0))) h0

theorem reqServe_keeps {s0 : From} {a0 a1 a2 a3} (w : sub 348170636049013752073322496 s0.W = true) (h0 : Keeps s0 a0) (h1 : ∀ x00 x01, Keeps s0 x00 → Keeps s0 (a3 x00 x01)) : Keeps s0 (reqServe a0 a1 a2 a3) := by
  unfold reqServe
  split
  · exact h0
  · exact Keeps.ite (reqReserved_keeps w (h1 _ _ h0)) h0

theorem execModify_keeps {s0 : From} {a0 a1} (w : sub 348170636049013752077516800 s0.W = true) (h0 : Keeps s0 a1) : KeepsOut s0 (execModify a0 a1) := by
  unfold execModify
  exact KeepsOut.next (reqServe_keeps (sub_trans rfl w) h0 (fun x5 x6 h7 => (modifyEntry_keeps w h7)))

theorem readOut_keeps {s0 : From} {a0 a1 a2 a3} (w : sub 309485009821345618482724864 s0.W = true) (h0 : Keeps s0 a0) : Keeps s0 (readOut a0 a1 a2 a3) := by
  unfold readOut
  extract_lets +onlyGivenNames x5 x6
  clear_value x5 x6
  extract_lets +onlyGivenNames x7
  have h8 : Keeps s0 x7 := hostWrite_keeps (sub_trans rfl w) h0
  clear_value x7
  exact answer_keeps w h8

theorem appendTo_keeps {s0 : From} {a0 a1 a2} (w : sub 187469919521770435579410348742242552419345094937820074575542995500649485060860702777346 s0.W = true) (h0 : Keeps s0 a0) : Keeps s0 (appendTo a0 a1 a2) := by
  unfold appendTo
  extract_lets +onlyGivenNames x5 x6 x7
  clear_value x5 x6 x7
  extract_lets +onlyGivenNames x8
  have h9 : Keeps s0 x8 := logWrites_keeps (sub_trans rfl w) h0
  clear_value x8
  extract_lets +onlyGivenNames x10
  clear_value x10
  exact cxChange_keeps (sub_trans rfl w) h9

theorem closePrompt_keeps {s0 : From} {a0 a1} (w : sub 2371421987580235682274733772977928352834969285952318751528091320482061480223727616 s0.W = true) (h0 : Keeps s0 a0) : Keeps s0 (closePrompt a0 a1) := by
  unfold closePrompt
  extract_lets +onlyGivenNames x5 x6 x7 x8 x9
  clear_value x5 x6 x7 x8 x9
  exact cxChange_keeps w h0

theorem appendEntry_keeps {s0 : From} {a0 a1 a2} (w : sub 187469919521770435579410348742242552419345094937820074605966958227878767161812558733314 s0.W = true) (h0 : Keeps s0 a0) : Keeps s0 (appendEntry a0 a1 a2) := by
  unfold appendEntry
  extract_lets +onlyGivenNames x5
  have h6 : Keeps s0 x5 := reqTake_keeps (sub_trans rfl w) h0
  clear_value x5
  refine Keeps.ite (reqRefuse_keeps (sub_trans rfl w) h6) ?_
  split
  · exact reqRefuse_keeps (sub_trans rfl w) h6
  · extract_lets +onlyGivenNames x7
    have h8 : Keeps s0 x7 := descRead_keeps (sub_trans rfl w) h6
    clear_value x7
    extract_lets +onlyGivenNames x9
    clear_value x9
    refine Keeps.ite (reqRefuse_keeps (sub_trans rfl w) h8) ?_
    refine Keeps.ite (reqRefuse_keeps (sub_trans rfl w) h8) ?_
    split
    · exact reqRefuse_keeps (sub_trans rfl w) h8
    · refine Keeps.ite (reqRefuse_keeps (sub_trans rfl w) h8) ?_
      extract_lets +onlyGivenNames x10
      have h11 : Keeps s0 x10 := Keeps.ite h8 (appendTo_keeps (sub_trans rfl w) h8)
      clear_value x10
      extract_lets +onlyGivenNames x12
      have h13 : Keeps s0 x12 := Keeps.ite (closePrompt_keeps (sub_trans rfl w) h11) h11
      clear_value x12
      exact reqAnswer_keeps (sub_trans rfl w) h13

theorem readTry_keeps {s0 : From} {a0 a1 a2 a3} (w : sub 187467548099782855343728074008469574490992259968534122256791776894338824345034259095554 s0.W = true) (h0 : Keeps s0 a0) : Keeps s0 (readTry a0 a1 a2 a3) := by
  unfold readTry
  extract_lets +onlyGivenNames x5
  clear_value x5
  extract_lets +onlyGivenNames x6
  have h7 : ∀ x00 x01, Keeps s0 x00 → Keeps s0 (x6 x00 x01) := fun x8 x9 h10 => (answer_keeps (sub_trans rfl w) h10)
  clear_value x6
  extract_lets +onlyGivenNames x11
  clear_value x11
  refine Keeps.ite (h7 _ _ h0) ?_
  refine Keeps.ite (h7 _ _ h0) ?_
  refine Keeps.ite (h7 _ _ h0) ?_
  split
  · exact readOut_keeps (sub_trans rfl w) h0
  · refine Keeps.ite (h7 _ _ h0) ?_
    extract_lets +onlyGivenNames x12
    have h13 : Keeps s0 x12 := logFetch_keeps (sub_trans rfl w) h0
    clear_value x12
    exact upd_host (sub_trans rfl w) h13

theorem retryReads_keeps {s0 : From} {a0 a1 a2} (w : sub 187467548099782855343728074008469574490992259968534122256791776894338824345034259095554 s0.W = true) (h0 : Keeps s0 a0) : Keeps s0 (retryReads a0 a1 a2) := by
  unfold retryReads
  extract_lets +onlyGivenNames x5 x6 x7
  clear_value x5 x6 x7
  extract_lets +onlyGivenNames x8
  have h9 : Keeps s0 x8 := upd_host (sub_trans rfl w) h0
  clear_value x8
  exact Keeps.foldl (fun x10 x11 h12 => (readTry_keeps w h12)) _ h9

theorem openStop_keeps {s0 : From} {a0 a1 a2} (w : sub 1073766400 s0.W = true) (h0 : Keeps s0 a0) : Keeps s0 (openStop a0 a1 a2) := by
  unfold openStop
  exact Keeps.ite h0 (memWrite_keeps w h0)

theorem openCtxDo_keeps {s0 : From} {a0 a1 a2} (w : sub 2371421987580235682274733772977928352834969285952318751528091320482061480357945346 s0.W = true) (h0 : Keeps s0 a0) : Keeps s0 (openCtxDo a0 a1 a2).2.2 := by
  unfold openCtxDo
  split
  · exact h0
  · exact openCtxAs_keeps w (openStop_keeps (sub_trans rfl w) h0)

theorem openRefusal_ok {s : State} {h : Nat} {d : Desc} {r : Nat} {f : Fld} (e : openRefusal s h d = some (r, some f)) : f.ok = true ∧ sub (bitOf f.reg) 2371421987580235682274733772977928352834969288610774743097923066289675600918634498 = true := by
  have key : ∀ (c : Prop) [Decidable c] (n : Nat) (g : Option Fld) (o : Option (Nat × Option Fld)), (∀ x, g = some x → x.ok = true ∧ sub (bitOf x.reg) 2371421987580235682274733772977928352834969288610774743097923066289675600918634498 = true) →
      (o = some (r, some f) → f.ok = true ∧ sub (bitOf f.reg) 2371421987580235682274733772977928352834969288610774743097923066289675600918634498 = true) → (if c then some (n, g) else o) = some (r, some f) → f.ok = true ∧ sub (bitOf f.reg) 2371421987580235682274733772977928352834969288610774743097923066289675600918634498 = true := by
    intro c _ n g o hg ho h
    split at h
    · simp only [Option.some.injEq, Prod.mk.injEq] at h
      exact hg f h.2
    · exact ho h
  revert e
  unfold openRefusal
  refine key _ _ _ _ (fun x h => by cases h) ?_
  refine key _ _ _ _ (fun x h => by cases h; exact ⟨rfl, rfl⟩) ?_
  refine key _ _ _ _ (fun x h => by cases h; exact ⟨rfl, rfl⟩) ?_
  refine key _ _ _ _ (fun x h => by cases h; exact ⟨rfl, rfl⟩) ?_
  refine key _ _ _ _ (fun x h => by cases h; exact ⟨rfl, rfl⟩) ?_
  refine key _ _ _ _ (fun x h => by cases h; exact ⟨rfl, rfl⟩) ?_
  intro h
  cases h

theorem openCtxReq_keeps {s0 : From} {a0 a1} (w : sub 2371421987580235682274733772977928352834969288610774743097923066289675600918634498 s0.W = true) (h0 : Keeps s0 a0) : Keeps s0 (openCtxReq a0 a1).2.2 := by
  unfold openCtxReq
  extract_lets +onlyGivenNames x1
  clear_value x1
  split
  · exact h0
  · split
    · exact h0
    · generalize heq : openRefusal a0 x1 a1.d = o
      cases o with
      | none =>
        rw [Option.elim_none]
        exact openCtxDo_keeps (sub_trans rfl w) h0
      | some x =>
        obtain ⟨r, f⟩ := x
        rw [Option.elim_some]
        cases f with
        | none => exact h0
        | some f => exact fset_keeps h0 (openRefusal_ok heq).1 (sub_trans (openRefusal_ok heq).2 w)

theorem execOpenExt_keeps {s0 : From} {a0 a1} (w : sub 348170636049013752073322496 s0.W = true) (h0 : Keeps s0 a1) : KeepsOut s0 (execOpenExt a0 a1) := by
  unfold execOpenExt
  exact KeepsOut.next (reqServe_keeps w h0 (fun x5 x6 h7 => (reqRefuse_keeps (sub_trans rfl w) (reqTake_keeps (sub_trans rfl w) h7))))

theorem readEntry_keeps {s0 : From} {a0 a1 a2} (w : sub 187469919521770435579410348742242552419345094937820074605966958227878767161812424515586 s0.W = true) (h0 : Keeps s0 a0) : Keeps s0 (readEntry a0 a1 a2) := by
  unfold readEntry
  extract_lets +onlyGivenNames x5
  have h6 : Keeps s0 x5 := reqTake_keeps (sub_trans rfl w) h0
  clear_value x5
  refine Keeps.ite (reqRefuse_keeps (sub_trans rfl w) h6) ?_
  split
  · exact reqRefuse_keeps (sub_trans rfl w) h6
  · exact readTry_keeps (sub_trans rfl w) (descRead_keeps (sub_trans rfl w) h6)

theorem execReadLog_keeps {s0 : From} {a0 a1} (w : sub 187469919521770435579410348742242552419345094937820074605966958227878767161812424515586 s0.W = true) (h0 : Keeps s0 a1) : KeepsOut s0 (execReadLog a0 a1) := by
  unfold execReadLog
  exact KeepsOut.next (reqServe_keeps (sub_trans rfl w) h0 (fun x5 x6 h7 => (readEntry_keeps w h7)))

theorem openEntry_keeps {s0 : From} {a0 a1 a2} (w : sub 2371421987580235682274733772977928352834969288610774743446093702338688803236143106 s0.W = true) (h0 : Keeps s0 a0) : Keeps s0 (openEntry a0 a1 a2) := by
  unfold openEntry
  extract_lets +onlyGivenNames x5 x6 x7
  clear_value x5 x6 x7
  refine Keeps.ite h0 ?_
  refine Keeps.ite (reqRefuse_keeps (sub_trans rfl w) (reqTake_keeps (sub_trans rfl w) h0)) ?_
  extract_lets +onlyGivenNames x8
  have h9 : Keeps s0 x8 := reqTake_keeps (sub_trans rfl w) h0
  clear_value x8
  refine Keeps.ite (reqRefuse_keeps (sub_trans rfl w) h9) ?_
  refine Keeps.ite (reqRefuse_keeps (sub_trans rfl w) h9) ?_
  extract_lets +onlyGivenNames x10
  have h11 : Keeps s0 x10.2.2 := openCtxReq_keeps (sub_trans rfl w) h9
  clear_value x10
  exact Keeps.ite (reqAnswer_keeps (sub_trans rfl w) h11) (reqRefuse_keeps (sub_trans rfl w) h11)

theorem execOpenCtx_keeps {s0 : From} {a0 a1} (w : sub 2371421987580235682274733772977928352834969288610774743446093702338688803236143106 s0.W = true) (h0 : Keeps s0 a1) : KeepsOut s0 (execOpenCtx a0 a1) := by
  unfold execOpenCtx
  exact KeepsOut.next (reqServe_keeps (sub_trans rfl w) h0 (fun x5 x6 h7 => (openEntry_keeps w h7)))

theorem cancelEntry_keeps {s0 : From} {a0 a1 a2} (w : sub 187469919579666480198075028472257329747857671528783763069120679426605063555363922436098 s0.W = true) (h0 : Keeps s0 a0) : Keeps s0 (cancelEntry a0 a1 a2) := by
  unfold cancelEntry
  extract_lets +onlyGivenNames x5
  have h6 : Keeps s0 x5 := reqTake_keeps (sub_trans rfl w) h0
  clear_value x5
  extract_lets +onlyGivenNames x7 x8
  clear_value x7 x8
  refine Keeps.ite (reqRefuse_keeps (sub_trans rfl w) h6) ?_
  split
  · extract_lets +onlyGivenNames x9
    clear_value x9
    extract_lets +onlyGivenNames x10
    have h11 : Keeps s0 x10.2 := cancelCtx_keeps (sub_trans rfl w) h6
    clear_value x10
    exact Keeps.ite (reqAnswer_keeps (sub_trans rfl w) (ownerMsg_keeps (sub_trans rfl w) h11)) (reqAnswer_keeps (sub_trans rfl w) h11)
  · exact Keeps.ite (reqAnswer_keeps (sub_trans rfl w) h6) (reqRefuse_keeps (sub_trans rfl w) h6)

theorem execCancel_keeps {s0 : From} {a0 a1} (w : sub 187469919579666480198075028472257329747857671528783763069120679426605063555363922436098 s0.W = true) (h0 : Keeps s0 a1) : KeepsOut s0 (execCancel a0 a1) := by
  unfold execCancel
  exact KeepsOut.next (reqServe_keeps (sub_trans rfl w) h0 (fun x5 x6 h7 => (cancelEntry_keeps w h7)))

theorem execAppend_keeps {s0 : From} {a0 a1} (w : sub 187469919521770435579410348742242552419345094937820074605966958227878767161812558733314 s0.W = true) (h0 : Keeps s0 a1) : KeepsOut s0 (execAppend a0 a1) := by
  unfold execAppend
  exact KeepsOut.next (reqServe_keeps (sub_trans rfl w) h0 (fun x5 x6 h7 => (appendEntry_keeps w h7)))

end Sys2Proof.Machine
end

