-- ==== Sys2Proof/Laws/KeepsReset.lean ====
section
/-!
SUPPORT. What the operations of `Sys2Proof.Machine.Reset` keep (`Sys2Proof.Machine.Keeps`): one lemma for each.
-/

namespace Sys2Proof.Machine

theorem holdReset_keeps {s0 : From} {a0} (w : sub 68719476736 s0.W = true) (h0 : Keeps s0 a0) : Keeps s0 (holdReset a0) := by
  unfold holdReset
  exact upd_start (sub_trans rfl w) h0

theorem deviceReset_keeps {s0 : From} {a0 a1} (w : sub 4271974071841820164790043412339104229205409044713305539894083215644439451561262653302400220036894 s0.W = true) (h0 : Keeps s0 a0) : Keeps s0 (deviceReset a0 a1) := by
  unfold deviceReset
  refine fput_keeps ⟨h0.pending, h0.fuse.of_eq rfl, h0.image0, h0.image1, fun c => ?_, fun _ => regDefault_holds,
    Eq.trans (view_mono (s := a0) (sub_trans (a := 549755715342) rfl w) rfl) h0.view, fun r4 => by have := sub_iff.1 w 4 rfl; rw [this] at r4; cases r4⟩ rfl (sub_trans rfl w)
  exact ⟨nwf_filter _ _ (h0.canon c).mem, nwf_filter _ _ (h0.canon c).syn, rfl, (h0.canon c).hostMem⟩

theorem execThermalTrip_keeps {s0 : From} {a0 a1} (w : sub 4271974071841820164790043412339104229205409044713305539894083215644439451561262653302400220036894 s0.W = true) (h0 : Keeps s0 a1) : KeepsOut s0 (execThermalTrip a0 a1) := by
  unfold execThermalTrip
  exact KeepsOut.next (holdReset_keeps (sub_trans rfl w) (deviceReset_keeps w (upd_pins (sub_trans rfl w) h0)))

theorem giveupOn_keeps {s0 : From} {a0 a1} (w : sub 584115552256 s0.W = true) (h0 : Keeps s0 a0) : Keeps s0 (giveupOn a0 a1) := by
  unfold giveupOn
  exact Keeps.ite (twinSend_keeps w h0) h0

theorem gradeClock_keeps {s0 : From} {a0 a1 a2} (w : sub 1601990308769369692022611377571627967348562158196683228490535122056359315497688221319357599318016 s0.W = true) (h0 : Keeps s0 a1) : Keeps s0 (gradeClock a0 a1 a2) := by
  unfold gradeClock
  extract_lets +onlyGivenNames x5
  clear_value x5
  extract_lets +onlyGivenNames x6
  have h7 : Keeps s0 x6 := fput_keeps (fput_keeps (fput_keeps h0 rfl (sub_trans rfl w)) rfl (sub_trans rfl w)) rfl (sub_trans rfl w)
  clear_value x6
  exact fput_keeps (fput_keeps h7 rfl (sub_trans rfl w)) rfl (sub_trans rfl w)

theorem cutItems_keeps {s0 : From} {a0 a1} (w : sub 2371421987580235682274733772977928352834969285952318751528091320482061480229494784 s0.W = true) (h0 : Keeps s0 a0) : Keeps s0 (cutItems a0 a1) := by
  unfold cutItems
  extract_lets +onlyGivenNames x5
  clear_value x5
  extract_lets +onlyGivenNames x6
  have h7 : Keeps s0 x6 := Keeps.foldl (fun x8 x9 h10 => (stepSub_keeps (sub_trans rfl w) (faultContexts_keeps (sub_trans rfl w) h10))) _ h0
  clear_value x6
  extract_lets +onlyGivenNames x11 x12 x13
  clear_value x11 x12 x13
  exact Keeps.upd 1572864 h7 (sub_trans rfl w) rfl

theorem cutHeld_keeps {s0 : From} {a0} (w : sub 2135987035920910082395021706169552114602704522356652769947041607822219725780640550022962086937600 s0.W = true) (h0 : Keeps s0 a0) : Keeps s0 (cutHeld a0) := by
  unfold cutHeld
  extract_lets +onlyGivenNames x5 x6 x7
  clear_value x5 x6 x7
  extract_lets +onlyGivenNames x8
  have h9 : Keeps s0 x8 := upd_isl (sub_trans rfl w) h0
  clear_value x8
  exact Keeps.foldl (fun x10 x11 h12 => (xstallFix_keeps w h12)) _ h9

theorem cutHalves_keeps {s0 : From} {a0} (w : sub 2135987035920912461227702997593470896445020540841031707525606578741967352397246408590882613388288 s0.W = true) (h0 : Keeps s0 a0) : Keeps s0 (cutHalves a0) := by
  unfold cutHalves
  extract_lets +onlyGivenNames x5
  have h6 : Keeps s0 x5 := cutItems_keeps (sub_trans rfl w) (cutItems_keeps (sub_trans rfl w) (cutHeld_keeps (sub_trans rfl w) h0))
  clear_value x5
  exact fput_keeps (upd_twin (sub_trans rfl w) h6) rfl (sub_trans rfl w)

theorem objsLost_keeps {s0 : From} {a0 a1} (w : sub 1073766400 s0.W = true) (h0 : Keeps s0 a0) : Keeps s0 (objsLost a0 a1) := by
  unfold objsLost
  exact Keeps.foldl (fun x5 x6 h7 => (Keeps.ite h7 (Keeps.ite (objState_keeps w h7) h7))) _ h0

theorem shadowsGone_keeps {s0 : From} {a0 a1} (w : sub 1610637312 s0.W = true) (h0 : Keeps s0 a0) : Keeps s0 (shadowsGone a0 a1) := by
  unfold shadowsGone
  refine Keeps.foldl (fun x5 x6 h7 => ?_) _ h0
  split
  · exact dropShadows_keeps w h7
  · exact noShadows_keeps w h7

theorem ringsOff_keeps {s0 : From} {a0 a1} (w : sub 11315545671592929075256098816 s0.W = true) (h0 : Keeps s0 a0) : Keeps s0 (ringsOff a0 a1) := by
  unfold ringsOff
  extract_lets +onlyGivenNames x5
  have h6 : Keeps s0 x5 := by
    refine Keeps.foldl (fun x7 x8 h9 => ?_) _ h0
    extract_lets +onlyGivenNames x10
    clear_value x10
    extract_lets +onlyGivenNames x11
    have h12 : Keeps s0 x11 := fput_keeps (fput_keeps h9 rfl (sub_trans rfl w)) rfl (sub_trans rfl w)
    clear_value x11
    exact setCpl_keeps (sub_trans rfl w) h12
  clear_value x5
  extract_lets +onlyGivenNames x13
  have h14 : Keeps s0 x13 := fput_keeps (fput_keeps h6 rfl (sub_trans rfl w)) rfl (sub_trans rfl w)
  clear_value x13
  extract_lets +onlyGivenNames x15 x16
  clear_value x15 x16
  exact Keeps.upd 6291456 h14 (sub_trans rfl w) rfl

theorem hostPortReset_keeps {s0 : From} {a0} (w : sub 11315564561058860622556430336 s0.W = true) (h0 : Keeps s0 a0) : Keeps s0 (hostPortReset a0) := by
  unfold hostPortReset
  extract_lets +onlyGivenNames x5
  have h6 : Keeps s0 x5 := Keeps.foldl (fun x7 x8 h9 => (ringsOff_keeps (sub_trans rfl w) h9)) _ h0
  clear_value x5
  extract_lets +onlyGivenNames x10
  have h11 : Keeps s0 x10 := rput_keeps h6 (sub_trans rfl w) (fun h12 => (Reg.holds_zero _))
  clear_value x10
  exact Keeps.upd 68721573888 h11 (sub_trans rfl w) rfl

theorem rowsLost_keeps {s0 : From} {a0 a1 a2} (w : sub 1610637312 s0.W = true) (h0 : Keeps s0 a0) : Keeps s0 (rowsLost a0 a1 a2) := by
  unfold rowsLost
  extract_lets +onlyGivenNames x5 x6
  clear_value x5 x6
  refine Keeps.foldl (fun x7 x8 h9 => ?_) _ h0
  extract_lets +onlyGivenNames x10 x11 x12 x13
  clear_value x10 x11 x12 x13
  exact Keeps.ite (rowLost_keeps w h9) h9

theorem halfGone_keeps {s0 : From} {a0 a1} (w : sub 52879324674 s0.W = true) (h0 : Keeps s0 a0) : Keeps s0 (halfGone a0 a1) :=
  h0.of_mem 52879324674 (sub_trans rfl w) rfl (fun c => nwf_filter _ _ c.mem) (fun c => nwf_filter _ _ c.syn) (·.hostMem)

theorem regsReset_keeps {s0 : From} {a0 a1} (w : sub 16 s0.W = true) (h0 : Keeps s0 a0) : Keeps s0 (regsReset a0 a1) :=
  ⟨h0.pending, h0.fuse.of_eq rfl, h0.image0, h0.image1,
    fun c => ⟨(h0.canon c).mem, (h0.canon c).syn, nwf_filter _ _ (h0.canon c).regs, (h0.canon c).hostMem⟩,
    fun c k j hj => by
      have h := nget_filter_key regDefault (fun k => (Reg.all.getD (k / 65536) .GLB_ID).half (k % 65536) != a1) a0.regs k
      rw [show nget regDefault (regsReset a0 a1).regs k = _ from h] at hj
      split at hj
      · exact h0.reserved c k j hj
      · exact regDefault_holds k j hj,
    h0.view, fun r4 => by have := sub_iff.1 w 4 rfl; rw [this] at r4; cases r4⟩

theorem halfReset_keeps {s0 : From} {a0 a1} (w : sub 3737977344691739154919483671968288460223700338241080767342725252130535800090850691109638266058258 s0.W = true) (h0 : Keeps s0 a0) : Keeps s0 (halfReset a0 a1) := by
  unfold halfReset
  extract_lets +onlyGivenNames x5
  have h6 : Keeps s0 x5 := cutHalves_keeps (sub_trans rfl w) h0
  clear_value x5
  extract_lets +onlyGivenNames x7
  have h8 : Keeps s0 x7 := fput_keeps (fput_keeps h6 rfl (sub_trans rfl w)) (by split <;> rfl) (by split <;> exact sub_trans rfl w)
  clear_value x7
  extract_lets +onlyGivenNames x9
  have h10 : Keeps s0 x9 := Keeps.foldl (fun x11 x12 h13 => (Keeps.ite (rowsLost_keeps (sub_trans rfl w) h13) h13)) _ h8
  clear_value x9
  extract_lets +onlyGivenNames x14
  have h15 : Keeps s0 x14 := windowsGone_keeps (sub_trans rfl w) (regsReset_keeps (sub_trans rfl w) (halfGone_keeps (sub_trans rfl w) (objsLost_keeps (sub_trans rfl w) (shadowsGone_keeps (sub_trans rfl w) h10))))
  clear_value x14
  extract_lets +onlyGivenNames x16
  have h17 : Keeps s0 x16 := Keeps.ite (Keeps.foldl (fun x18 x19 h20 => (gradeClock_keeps (sub_trans rfl w) h20)) _ h15) h15
  clear_value x16
  extract_lets +onlyGivenNames x21
  have h22 : Keeps s0 x21 := hostPortReset_keeps (sub_trans rfl w) h17
  clear_value x21
  extract_lets +onlyGivenNames x23
  clear_value x23
  extract_lets +onlyGivenNames x24
  have h25 : Keeps s0 x24 := Keeps.ite (fput_keeps (fput_keeps (upd_start (sub_trans rfl w) h22) rfl (sub_trans rfl w)) rfl (sub_trans rfl w)) h17
  clear_value x24
  extract_lets +onlyGivenNames x26
  clear_value x26
  extract_lets +onlyGivenNames x27
  have h28 : Keeps s0 x27 := upd_start (sub_trans rfl w) h25
  clear_value x27
  exact fadd1_keeps h28 rfl (sub_trans rfl w)

theorem askedHalf_keeps {s0 : From} {a0 a1} (w : sub 4271974071841820164790043412339104229205409044713305539894083215644439451561262653302949975850782 s0.W = true) (h0 : Keeps s0 a0) : Keeps s0 (askedHalf a0 a1) := by
  unfold askedHalf
  exact Keeps.ite h0 (Keeps.ite (deviceReset_keeps (sub_trans rfl w) (giveupOn_keeps (sub_trans rfl w) (giveupOn_keeps (sub_trans rfl w) h0))) (halfReset_keeps (sub_trans rfl w) (giveupOn_keeps (sub_trans rfl w) h0)))

theorem sendLast_keeps {s0 : From} {a0 a1 a2} (w : sub 549755813890 s0.W = true) (h0 : Keeps s0 a0) : Keeps s0 (sendLast a0 a1 a2) := by
  unfold sendLast
  extract_lets +onlyGivenNames x5
  clear_value x5
  split
  · exact h0
  · refine Keeps.ite h0 ?_
    extract_lets +onlyGivenNames x6 x7
    clear_value x6 x7
    exact bump_keeps (sub_trans rfl w) (frameOut_keeps (sub_trans rfl w) h0)

theorem withdraw_keeps {s0 : From} {a0} (w : sub 549755813890 s0.W = true) (h0 : Keeps s0 a0) : Keeps s0 (withdraw a0) := by
  unfold withdraw
  exact Keeps.foldl (fun x5 x6 h7 => (sendLast_keeps w h7)) _ h0

theorem askedReset_keeps {s0 : From} {a0 a1} (w : sub 4271974071841820164790043412339104229205409044713305539894083215644439451561262653302949975850782 s0.W = true) (h0 : Keeps s0 a0) : Keeps s0 (askedReset a0 a1) := by
  unfold askedReset
  exact Keeps.ite h0 (deviceReset_keeps (sub_trans rfl w) (giveupOn_keeps (sub_trans rfl w) (giveupOn_keeps (sub_trans rfl w) (withdraw_keeps (sub_trans rfl w) h0))))

theorem glbReset_keeps {s0 : From} {a0 a1} (w : sub 4271974071841820164790043412339104229205409044713305539894083215644439451561262653302949975850782 s0.W = true) (h0 : Keeps s0 a0) : Keeps s0 (glbReset a0 a1) := by
  unfold glbReset
  refine Keeps.ite h0 ?_
  split
  · exact askedReset_keeps w h0
  · exact askedHalf_keeps w h0
  · exact h0

theorem execGlbReset_keeps {s0 : From} {a0 a1} (w : sub 4271974071841820164790043412339104229205409044713305539894083215644439451561262653302949975850782 s0.W = true) (h0 : Keeps s0 a1) : KeepsOut s0 (execGlbReset a0 a1) := by
  unfold execGlbReset
  exact KeepsOut.next (regGate_keeps (sub_trans rfl w) h0 (sub_trans rfl w) (fun x5 h6 => (glbReset_keeps w h6)))

theorem execHostPortReset_keeps {s0 : From} {a0} (w : sub 11315564561058860622556430336 s0.W = true) (h0 : Keeps s0 a0) : KeepsOut s0 (execHostPortReset a0) := by
  unfold execHostPortReset
  exact KeepsOut.next (Keeps.ite (hostPortReset_keeps w h0) h0)

theorem recordsGone_keeps {s0 : From} {a0 a1} (w : sub 151115727451863008673792 s0.W = true) (h0 : Keeps s0 a0) : Keeps s0 (recordsGone a0 a1) := by
  unfold recordsGone
  extract_lets +onlyGivenNames x5
  clear_value x5
  extract_lets +onlyGivenNames x6
  have h7 : Keeps s0 x6 := Keeps.foldl (fun x8 x9 h10 => (twPut_keeps (sub_trans rfl w) h10)) _ h0
  clear_value x6
  exact setSpill_keeps (sub_trans rfl w) h7

theorem flr_keeps {s0 : From} {a0 a1} (w : sub 187469919579666480198075028472257329747857671528783763069131956286650428816305585840130 s0.W = true) (h0 : Keeps s0 a0) : Keeps s0 (flr a0 a1) := by
  unfold flr
  extract_lets +onlyGivenNames x5
  have h6 : Keeps s0 x5 := recordsGone_keeps (sub_trans rfl w) (ringsOff_keeps (sub_trans rfl w) h0)
  clear_value x5
  refine Keeps.foldl (fun x7 x8 h9 => ?_) _ h6
  refine Keeps.ite h9 ?_
  extract_lets +onlyGivenNames x10
  have h11 : Keeps s0 x10.2 := cancelCtx_keeps (sub_trans rfl w) (cxUpd_keeps (sub_trans rfl w) h9)
  clear_value x10
  exact Keeps.ite (ownerMsg_keeps (sub_trans rfl w) h11) h11

theorem execResetRelease_keeps {s0 : From} {a0} (w : sub 68719476996 s0.W = true) (h0 : Keeps s0 a0) : KeepsOut s0 (execResetRelease a0) := by
  unfold execResetRelease
  exact KeepsOut.next (Keeps.ite h0 (Keeps.upd 68719476996 h0 (sub_trans rfl w) rfl))

theorem execDeviceReset_keeps {s0 : From} {a0 a1} (w : sub 4271974071841820164790043412339104229205409044713305539894083215644439451561262653302400220036894 s0.W = true) (h0 : Keeps s0 a1) : KeepsOut s0 (execDeviceReset a0 a1) := by
  unfold execDeviceReset
  exact KeepsOut.next (Keeps.ite (Keeps.ite h0 (holdReset_keeps (sub_trans rfl w) (deviceReset_keeps w (upd_pins (sub_trans rfl w) h0)))) (holdReset_keeps (sub_trans rfl w) (deviceReset_keeps w (upd_pins (sub_trans rfl w) h0))))

theorem execFlr_keeps {s0 : From} {a0 a1} (w : sub 187469919579666480198075028472257329747857671528783763069131956286650428816305585840130 s0.W = true) (h0 : Keeps s0 a1) : KeepsOut s0 (execFlr a0 a1) := by
  unfold execFlr
  exact KeepsOut.next (flr_keeps w h0)

theorem execPowerOnReset_keeps {s0 : From} {a0} (w : sub 4271974071841820164790043412339104229205409044713305539894083215644439451561262653302400220036894 s0.W = true) (h0 : Keeps s0 a0) : KeepsOut s0 (execPowerOnReset a0) := by
  unfold execPowerOnReset
  extract_lets +onlyGivenNames x5
  clear_value x5
  extract_lets +onlyGivenNames x6
  have h7 : Keeps s0 x6 := upd_pins (sub_trans rfl w) h0
  clear_value x6
  exact KeepsOut.next (holdReset_keeps (sub_trans rfl w) (deviceReset_keeps w h7))

theorem execHalfReset_keeps {s0 : From} {a0 a1} (w : sub 4271974071841820164790043412339104229205409044713305539894083215644439451561262653302949975850782 s0.W = true) (h0 : Keeps s0 a1) : KeepsOut s0 (execHalfReset a0 a1) := by
  unfold execHalfReset
  exact KeepsOut.next (askedHalf_keeps w h0)

end Sys2Proof.Machine
end

