-- ==== Sys2Proof/Laws/KeepsTwin.lean ====
section
/-!
SUPPORT. What the operations of `Sys2Proof.Machine.Twin` keep (`Sys2Proof.Machine.Keeps`): one lemma for each.
-/

namespace Sys2Proof.Machine

theorem twUpd_keeps {s0 : From} {a0 a1 a2} (w : sub 34359738368 s0.W = true) (h0 : Keeps s0 a0) : Keeps s0 (twUpd a0 a1 a2) := by
  unfold twUpd
  exact twPut_keeps w h0

theorem sendVoteReq_keeps {s0 : From} {a0 a1 a2 a3} (w : sub 584115552256 s0.W = true) (h0 : Keeps s0 a0) : Keeps s0 (sendVoteReq a0 a1 a2 a3) := by
  unfold sendVoteReq
  exact twinSend_keeps w h0

theorem sendHello_keeps {s0 : From} {a0 a1} (w : sub 584115552256 s0.W = true) (h0 : Keeps s0 a0) : Keeps s0 (sendHello a0 a1) := by
  unfold sendHello
  extract_lets +onlyGivenNames x5
  clear_value x5
  extract_lets +onlyGivenNames x6
  have h7 : Keeps s0 x6 := twPut_keeps (sub_trans rfl w) h0
  clear_value x6
  extract_lets +onlyGivenNames x8
  have h9 : Keeps s0 x8 := twinSend_keeps w h7
  clear_value x8
  exact twUpd_keeps (sub_trans rfl w) h9

theorem setPair_keeps {s0 : From} {a0 a1 a2} (w : sub 948568795032094272909893509191171341133987714380927500611236528192824942125907968 s0.W = true) (h0 : Keeps s0 a0) : Keeps s0 (setPair a0 a1 a2) := by
  unfold setPair
  extract_lets +onlyGivenNames x5
  have h6 : Keeps s0 x5 := sendHello_keeps (sub_trans rfl w) (fput_keeps h0 rfl (sub_trans rfl w))
  clear_value x5
  exact Keeps.ite (sendVoteReq_keeps (sub_trans rfl w) h6) h6

theorem enterSync_keeps {s0 : From} {a0 a1} (w : sub 3319990782612329955184627282169099693968957000333246252139327848674885837151797248 s0.W = true) (h0 : Keeps s0 a0) : Keeps s0 (enterSync a0 a1) := by
  unfold enterSync
  refine twUpd_keeps (sub_trans rfl w) (journal_keeps (sub_trans rfl w) (Keeps.foldl (fun _ _ h => journal_keeps (sub_trans rfl w) h) _ (setPair_keeps (sub_trans rfl w) (twUpd_keeps (sub_trans rfl w) ?_))))
  simp only [List.foldl]
  exact fput_keeps (fput_keeps (fput_keeps (fput_keeps h0 rfl (sub_trans rfl w)) rfl (sub_trans rfl w)) rfl (sub_trans rfl w)) rfl (sub_trans rfl w)

theorem autoTake_keeps {s0 : From} {a0 a1} (w : sub 118571099379011784113736688648896417641748464297615937576404566024103079111032832 s0.W = true) (h0 : Keeps s0 a0) : Keeps s0 (autoTake a0 a1) := by
  unfold autoTake
  exact Keeps.ite h0 (fset_keeps (upd_twin (sub_trans rfl w) h0) rfl (sub_trans rfl w))

theorem enterLost_keeps {s0 : From} {a0 a1} (w : sub 3438561881991341739298363970817996111610705464630862190025406319179648737520836608 s0.W = true) (h0 : Keeps s0 a0) : Keeps s0 (enterLost a0 a1) := by
  unfold enterLost
  extract_lets +onlyGivenNames x5
  have h6 : Keeps s0 x5 := fset_keeps (fput_keeps h0 rfl (sub_trans rfl w)) rfl (sub_trans rfl w)
  clear_value x5
  extract_lets +onlyGivenNames x7
  have h8 : Keeps s0 x7 := setPair_keeps (sub_trans rfl w) (twUpd_keeps (sub_trans rfl w) h6)
  clear_value x7
  extract_lets +onlyGivenNames x9
  have h10 : Keeps s0 x9 := freeAcked_keeps (sub_trans rfl w) (flushRecs_keeps (sub_trans rfl w) h8)
  clear_value x9
  exact Keeps.ite (autoTake_keeps (sub_trans rfl w) h10) h10

theorem releaseHalf_keeps {s0 : From} {a0 a1} (w : sub 187469919521770435579410348742242552419345094937817416119551425668903677447015019995136 s0.W = true) (h0 : Keeps s0 a0) : Keeps s0 (releaseHalf a0 a1) := by
  unfold releaseHalf
  exact Keeps.foldl (fun x5 x6 h7 => (Keeps.ite h7 (ctxRelease_keeps w (cxUpd_keeps (sub_trans rfl w) h7)))) _ h0

theorem holdBoot_keeps {s0 : From} {a0 a1} (w : sub 1067139894411106057023630197840067758775736178678543438187641094216927986877202432 s0.W = true) (h0 : Keeps s0 a0) : Keeps s0 (holdBoot a0 a1) := by
  unfold holdBoot
  extract_lets +onlyGivenNames x5
  have h6 : Keeps s0 x5 := fset_keeps (fset_keeps h0 rfl (sub_trans rfl w)) rfl (sub_trans rfl w)
  clear_value x5
  exact autoTake_keeps (sub_trans rfl w) (sendHello_keeps (sub_trans rfl w) h6)

theorem twinAck_keeps {s0 : From} {a0 a1 a2} (w : sub 7114265962740707046824201318933785058504907857856956254893947865926843124810964992 s0.W = true) (h0 : Keeps s0 a0) : Keeps s0 (twinAck a0 a1 a2) := by
  unfold twinAck
  extract_lets +onlyGivenNames x5
  clear_value x5
  refine Keeps.ite h0 ?_
  extract_lets +onlyGivenNames x6
  clear_value x6
  extract_lets +onlyGivenNames x7
  have h8 : Keeps s0 x7 := fput_keeps (twPut_keeps (sub_trans rfl w) h0) rfl (sub_trans rfl w)
  clear_value x7
  extract_lets +onlyGivenNames x9
  have h10 : Keeps s0 x9 := freeAcked_keeps (sub_trans rfl w) (flushRecs_keeps (sub_trans rfl w) h8)
  clear_value x9
  exact Keeps.ite (setPair_keeps (sub_trans rfl w) (twUpd_keeps (sub_trans rfl w) h10)) h10

theorem helloIn_keeps {s0 : From} {a0 a1 a2} (w : sub 187474780936844975062559011946477157172468406624853618372992367892236214468747194720256 s0.W = true) (h0 : Keeps s0 a0) : Keeps s0 (helloIn a0 a1 a2) := by
  unfold helloIn
  extract_lets +onlyGivenNames x5 x6 x7 x8
  clear_value x5 x6 x7 x8
  extract_lets +onlyGivenNames x9
  have h10 : Keeps s0 x9 := Keeps.ite (upd_twin (sub_trans rfl w) h0) h0
  clear_value x9
  extract_lets +onlyGivenNames x11
  have h12 : Keeps s0 x11 := twUpd_keeps (sub_trans rfl w) (fput_keeps h10 rfl (sub_trans rfl w))
  clear_value x11
  extract_lets +onlyGivenNames x13
  have h14 : Keeps s0 x13 := Keeps.ite (fset_keeps h12 rfl (sub_trans rfl w)) h12
  clear_value x13
  refine Keeps.ite ?_ ?_
  · extract_lets +onlyGivenNames x15
    have h16 : Keeps s0 x15 := fset_keeps (twUpd_keeps (sub_trans rfl w) h14) rfl (sub_trans rfl w)
    clear_value x15
    exact enterSync_keeps (sub_trans rfl w) (releaseHalf_keeps (sub_trans rfl w) h16)
  · refine Keeps.ite (Keeps.ite (enterLost_keeps (sub_trans rfl w) h14) h14) ?_
    refine Keeps.ite (enterSync_keeps (sub_trans rfl w) h14) ?_
    refine Keeps.ite ?_ (twinAck_keeps (sub_trans rfl w) h14)
    refine Keeps.ite (Keeps.ite (holdBoot_keeps (sub_trans rfl w) h14) (enterSync_keeps (sub_trans rfl w) h14)) ?_
    refine Keeps.ite ?_ (enterSync_keeps (sub_trans rfl w) h14)
    extract_lets +onlyGivenNames x17
    have h18 : Keeps s0 x17 := setPair_keeps (sub_trans rfl w) (twinAck_keeps (sub_trans rfl w) h14)
    clear_value x17
    extract_lets +onlyGivenNames x19
    clear_value x19
    exact sendEnts_keeps (sub_trans rfl w) h18

theorem frameHere_keeps {s0 : From} {a0 a1 a2 a3 a4 a5} (w : sub 67822668844794740513057385907168750891080121578236316294013085670267602037473730560 s0.W = true) (h0 : Keeps s0 a0) (h1 : ∀ x00, Keeps s0 x00 → Keeps s0 (a5 x00)) : Keeps s0 (frameHere a0 a1 a2 a3 a4 a5) := by
  unfold frameHere
  refine Keeps.ite h0 ?_
  refine Keeps.ite (fadd1_keeps h0 rfl (sub_trans rfl w)) ?_
  extract_lets +onlyGivenNames x5
  have h6 : Keeps s0 x5 := fadd1_keeps h0 rfl (sub_trans rfl w)
  clear_value x5
  exact Keeps.ite h6 (h1 _ (Keeps.ite h6 (twinAck_keeps (sub_trans rfl w) h6)))

theorem fetchIn_keeps {s0 : From} {a0 a1 a2} (w : sub 584115552256 s0.W = true) (h0 : Keeps s0 a0) : Keeps s0 (fetchIn a0 a1 a2) := by
  unfold fetchIn
  refine Keeps.ite h0 ?_
  split
  · exact twinSend_keeps w h0
  · exact twinSend_keeps w h0

theorem execFetch_keeps {s0 : From} {a0 a1 a2} (w : sub 67822668844794740513057385907168750891080121578236316294013085670267602037473730560 s0.W = true) (h0 : Keeps s0 a2) : KeepsOut s0 (execFetch a0 a1 a2) := by
  unfold execFetch
  exact KeepsOut.next (frameHere_keeps w h0 (fun x5 h6 => (fetchIn_keeps (sub_trans rfl w) h6)))

theorem holdFull_keeps {s0 : From} {a0 a1} (w : sub 3438561881991341739298363970817996111610705464630862190025406319179648737520836608 s0.W = true) (h0 : Keeps s0 a0) : Keeps s0 (holdFull a0 a1) := by
  unfold holdFull
  extract_lets +onlyGivenNames x5
  have h6 : Keeps s0 x5 := fset_keeps (fput_keeps (fset_keeps h0 rfl (sub_trans rfl w)) rfl (sub_trans rfl w)) rfl (sub_trans rfl w)
  clear_value x5
  exact enterLost_keeps w (twUpd_keeps (sub_trans rfl w) h6)

theorem applyGroup_keeps {s0 : From} {a0 a1 a2 a3} (w : sub 11027112242248095922577512044347366840682607179678282194915298544722243601603682304 s0.W = true) (h0 : Keeps s0 a0) : Keeps s0 (applyGroup a0 a1 a2 a3) := by
  unfold applyGroup
  extract_lets +onlyGivenNames x5 x6
  clear_value x5 x6
  refine Keeps.ite (holdFull_keeps (sub_trans rfl w) h0) ?_
  extract_lets +onlyGivenNames x7
  have h8 : Keeps s0 x7 := fput_keeps (twPut_keeps (sub_trans rfl w) h0) rfl (sub_trans rfl w)
  clear_value x7
  exact Keeps.ite (fset_keeps h8 rfl (sub_trans rfl w)) h8

theorem entryIn_keeps {s0 : From} {a0 a1 a2} (w : sub 11027112242248095922577512044347366840682607179678282194915298544722243601603682304 s0.W = true) (h0 : Keeps s0 a0) : Keeps s0 (entryIn a0 a1 a2) := by
  unfold entryIn
  extract_lets +onlyGivenNames x5 x6
  clear_value x5 x6
  refine Keeps.ite h0 ?_
  extract_lets +onlyGivenNames x7
  clear_value x7
  extract_lets +onlyGivenNames x8
  have h9 : Keeps s0 x8 := twPut_keeps (sub_trans rfl w) h0
  clear_value x8
  exact Keeps.ite h9 (applyGroup_keeps w h9)

theorem execGiveup_keeps {s0 : From} {a0 a1 a2} (w : sub 67941239944173752297171122595817647308721870042533932231589490236291705082225025024 s0.W = true) (h0 : Keeps s0 a2) : KeepsOut s0 (execGiveup a0 a1 a2) := by
  unfold execGiveup
  refine KeepsOut.next ?_
  refine frameHere_keeps (sub_trans rfl w) h0 ?_
  refine fun x5 h6 => ?_
  extract_lets +onlyGivenNames x7
  have h8 : Keeps s0 x7 := fset_keeps h6 rfl (sub_trans rfl w)
  clear_value x7
  exact Keeps.ite (autoTake_keeps (sub_trans rfl w) h8) h8

theorem twnDone_keeps {s0 : From} {a0 a1} (w : sub 118571099379011784113736688648896417641748464297615937576404566024103628868943872 s0.W = true) (h0 : Keeps s0 a0) : Keeps s0 (twnDone a0 a1) := by
  unfold twnDone
  extract_lets +onlyGivenNames x5 x6
  clear_value x5 x6
  extract_lets +onlyGivenNames x7
  have h8 : Keeps s0 x7 := fput_keeps (upd_twin (sub_trans rfl w) h0) rfl (sub_trans rfl w)
  clear_value x7
  exact irq_keeps (sub_trans rfl w) (finc_keeps (fput_keeps h8 rfl (sub_trans rfl w)) rfl (sub_trans rfl w))

theorem execTwnResync_keeps {s0 : From} {a0} (w : sub 3438561881991341739298363970817996111610705464630862189715732414698988881905188864 s0.W = true) (h0 : Keeps s0 a0) : KeepsOut s0 (execTwnResync a0) := by
  unfold execTwnResync
  refine KeepsOut.next ?_
  split
  · exact h0
  · extract_lets +onlyGivenNames x5
    clear_value x5
    exact Keeps.ite (twnDone_keeps (sub_trans rfl w) h0) (twnDone_keeps (sub_trans rfl w) (enterSync_keeps (sub_trans rfl w) h0))

theorem fetchEvent_keeps {s0 : From} {a0 a1 a2} (w : sub 971334446112864535459730953411759453321203419526069760625906204869452143153436188672 s0.W = true) (h0 : Keeps s0 a0) : Keeps s0 (fetchEvent a0 a1 a2) := by
  unfold fetchEvent
  exact event_keeps w h0

theorem execJournalResend_keeps {s0 : From} {a0 a1} (w : sub 60708402882054033466233184588234965832575213720379360039119137804340759496778317824 s0.W = true) (h0 : Keeps s0 a1) : KeepsOut s0 (execJournalResend a0 a1) := by
  unfold execJournalResend
  extract_lets +onlyGivenNames x5
  clear_value x5
  exact KeepsOut.next (Keeps.ite h0 (sendEnts_keeps (sub_trans rfl w) (fadd1_keeps h0 rfl (sub_trans rfl w))))

theorem lead_keeps {s0 : From} {a0 a1 a2} (w : sub 7410693711188236507108543040556026102609279018600996408199189857166880021733376 s0.W = true) (h0 : Keeps s0 a0) : Keeps s0 (lead a0 a1 a2) := by
  unfold lead
  extract_lets +onlyGivenNames x5
  have h6 : Keeps s0 x5 := twUpd_keeps (sub_trans rfl w) h0
  clear_value x5
  exact flushRecs_keeps (sub_trans rfl w) (fput_keeps (fput_keeps h6 rfl (sub_trans rfl w)) rfl (sub_trans rfl w))

theorem fence_keeps {s0 : From} {a0 a1} (w : sub 4271974071841820164790043412339104229205409044713305539894083215644439451561262653302949975850782 s0.W = true) (h0 : Keeps s0 a0) : Keeps s0 (fence a0 a1) := by
  unfold fence
  extract_lets +onlyGivenNames x5
  have h6 : Keeps s0 x5 := fset_keeps h0 (by split <;> rfl) (sub_any rfl w)
  clear_value x5
  extract_lets +onlyGivenNames x7
  have h8 : Keeps s0 x7 := twUpd_keeps (sub_trans rfl w) h6
  clear_value x7
  extract_lets +onlyGivenNames x9
  have h10 : Keeps s0 x9 := Keeps.foldl (fun x11 x12 h13 => (portClear_keeps (sub_trans rfl w) (fput_keeps h13 rfl (sub_trans rfl w)))) _ h8
  clear_value x9
  exact Keeps.ite (askedHalf_keeps w h10) h10

theorem lossVote_keeps {s0 : From} {a0} (w : sub 4271974071841820164790043412339104229205409044713305539894083215644439451561262653302949975883550 s0.W = true) (h0 : Keeps s0 a0) : Keeps s0 (lossVote a0) := by
  unfold lossVote
  extract_lets +onlyGivenNames x5
  clear_value x5
  refine Keeps.ite (fence_keeps (sub_trans rfl w) (lead_keeps (sub_trans rfl w) h0)) ?_
  extract_lets +onlyGivenNames x6
  have h7 : Keeps s0 x6 := Keeps.foldl (fun x8 x9 h10 => (twUpd_keeps (sub_trans rfl w) h10)) _ h0
  clear_value x6
  exact sendVoteReq_keeps (sub_trans rfl w) h7

theorem voteReqIn_keeps {s0 : From} {a0 a1 a2} (w : sub 584115552256 s0.W = true) (h0 : Keeps s0 a0) : Keeps s0 (voteReqIn a0 a1 a2) := by
  unfold voteReqIn
  extract_lets +onlyGivenNames x5 x6
  clear_value x5 x6
  extract_lets +onlyGivenNames x7
  have h8 : ∀ x00 x01 x02, Keeps s0 x00 → Keeps s0 (x7 x00 x01 x02) := fun x9 x10 x11 h12 => (twinSend_keeps w h12)
  clear_value x7
  refine Keeps.ite h0 ?_
  refine Keeps.ite (h8 _ _ _ h0) ?_
  split
  · exact Keeps.ite (h8 _ _ _ (upd_twin (sub_trans rfl w) h0)) (Keeps.ite (h8 _ _ _ h0) (h8 _ _ _ h0))
  · exact h8 _ _ _ (upd_twin (sub_trans rfl w) h0)

theorem execVoteReq_keeps {s0 : From} {a0 a1 a2} (w : sub 67822668844794740513057385907168750891080121578236316294013085670267602037473730560 s0.W = true) (h0 : Keeps s0 a2) : KeepsOut s0 (execVoteReq a0 a1 a2) := by
  unfold execVoteReq
  exact KeepsOut.next (frameHere_keeps w h0 (fun x5 h6 => (voteReqIn_keeps (sub_trans rfl w) h6)))

theorem execD2dLoss_keeps {s0 : From} {a0} (w : sub 4271974071841820164790043412339104229205409044713305539894083215644439451561262653302949975883550 s0.W = true) (h0 : Keeps s0 a0) : KeepsOut s0 (execD2dLoss a0) := by
  unfold execD2dLoss
  exact KeepsOut.next (Keeps.ite h0 (lossVote_keeps w (cutHalves_keeps (sub_trans rfl w) h0)))

theorem dropFetch_keeps {s0 : From} {a0 a1} (w : sub 34359738368 s0.W = true) (h0 : Keeps s0 a0) : Keeps s0 (dropFetch a0 a1) := by
  unfold dropFetch
  exact upd_twin (sub_trans rfl w) h0

theorem takeEntry_keeps {s0 : From} {a0 a1 a2 a3 a4 a5} (w : sub 1073766400 s0.W = true) (h0 : Keeps s0 a0) : Keeps s0 (takeEntry a0 a1 a2 a3 a4 a5) := by
  unfold takeEntry
  extract_lets +onlyGivenNames x5
  clear_value x5
  exact memWrite_keeps w h0

theorem takenAttach_keeps {s0 : From} {a0 a1} (w : sub 187469919521770435579410348742242552419345094956875887123115549454598463077314600525824 s0.W = true) (h0 : Keeps s0 a0) : Keeps s0 (takenAttach a0 a1) := by
  unfold takenAttach
  extract_lets +onlyGivenNames x5 x6
  clear_value x5 x6
  refine Keeps.ite h0 ?_
  extract_lets +onlyGivenNames x7
  have h8 : Keeps s0 x7.2.2 := by
    unfold x7
    split
    · exact attach_keeps (sub_trans rfl w) h0
    · exact h0
  clear_value x7
  extract_lets +onlyGivenNames x9
  have h10 : Keeps s0 x9 := h8
  clear_value x9
  extract_lets +onlyGivenNames x11 x12 x13
  clear_value x11 x12 x13
  exact cxChange_keeps (sub_trans rfl w) h10

theorem takeOne_keeps {s0 : From} {a0 a1 a2} (w : sub 187469919521770435579410348742242552419345094956875887123115549454598463077314600525826 s0.W = true) (h0 : Keeps s0 a0) : KeepsOptP s0 (fun t => t.2) (takeOne a0 a1 a2) := by
  unfold takeOne
  refine KeepsOptP.ite KeepsOptP.none ?_
  intro t ht
  obtain ⟨⟨c, s⟩, hs, rfl⟩ := Option.map_eq_some_iff.mp ht
  refine takenAttach_keeps (sub_trans rfl w) (logWrites_keeps (sub_trans rfl w) (openAs_keeps (sub_trans rfl w) ?_ _ hs))
  split
  · exact h0
  · exact memWrite_keeps (sub_trans rfl w) h0

theorem takeAll_keeps {s0 : From} {a0 a1 a2 a3} (w : sub 187469919521770435579410348742242552419345094956875887123115549454598463077314600525826 s0.W = true) (h0 : Keeps s0 a0) : Keeps s0 (takeAll a0 a1 a2 a3).2 := by
  induction a3 generalizing a0 a1 a2 with
  | nil =>
    unfold takeAll
    exact h0
  | cons y ys ih =>
    unfold takeAll
    extract_lets +onlyGivenNames x5
    clear_value x5
    split
    · exact ih h0
    · split
      · exact ih (takeEntry_keeps (sub_trans rfl w) h0)
      · split
        · rename_i h6
          have h7 := KeepsOptP.get (s := s0) (π := fun t => t.2) h6 (takeOne_keeps w h0)
          exact ih (takeEntry_keeps (sub_trans rfl w) h7)
        · exact ih (takeEntry_keeps (sub_trans rfl w) h0)

theorem voteLost_keeps {s0 : From} {a0 a1} (w : sub 4271974071841820164790043412339104229205409044713305539894083215644439451561262653302949975850782 s0.W = true) (h0 : Keeps s0 a0) : Keeps s0 (voteLost a0 a1) := by
  unfold voteLost
  exact fence_keeps w (fset_keeps h0 rfl (sub_trans rfl w))

theorem sendJack_keeps {s0 : From} {a0 a1} (w : sub 584115552256 s0.W = true) (h0 : Keeps s0 a0) : Keeps s0 (sendJack a0 a1) := by
  unfold sendJack
  exact twinSend_keeps w h0

theorem execJackTimer_keeps {s0 : From} {a0 a1} (w : sub 584115552256 s0.W = true) (h0 : Keeps s0 a1) : KeepsOut s0 (execJackTimer a0 a1) := by
  unfold execJackTimer
  exact KeepsOut.next (Keeps.ite h0 (sendJack_keeps w h0))

theorem fetchNone_keeps {s0 : From} {a0 a1} (w : sub 187469919521770435579410348742242552419345094937820074605966919542252539493678817140738 s0.W = true) (h0 : Keeps s0 a0) : Keeps s0 (fetchNone a0 a1) := by
  unfold fetchNone
  refine Keeps.ite (fetchEvent_keeps (sub_trans rfl w) h0) ?_
  extract_lets +onlyGivenNames x5
  have h6 : Keeps s0 x5 := cxUpd_keeps (sub_trans rfl w) (fetchEvent_keeps (sub_trans rfl w) h0)
  clear_value x5
  exact retryReads_keeps (sub_trans rfl w) (badLog_keeps (sub_trans rfl w) h6)

theorem fetchGood_keeps {s0 : From} {a0 a1 a2} (w : sub 187469919521770435579410348742242552419345094937820074605966919542252539493678817140738 s0.W = true) (h0 : Keeps s0 a0) : Keeps s0 (fetchGood a0 a1 a2) := by
  unfold fetchGood
  extract_lets +onlyGivenNames x5
  clear_value x5
  refine Keeps.ite (fetchNone_keeps w h0) ?_
  extract_lets +onlyGivenNames x6
  clear_value x6
  extract_lets +onlyGivenNames x7
  have h8 : Keeps s0 x7 := memWrite_keeps (sub_trans rfl w) h0
  clear_value x7
  extract_lets +onlyGivenNames x9
  have h10 : Keeps s0 x9 := Keeps.foldl (fun x11 x12 h13 => (memPut_keeps (sub_trans rfl w) h13)) _ h8
  clear_value x9
  extract_lets +onlyGivenNames x14
  have h15 : Keeps s0 x14 := cxUpd_keeps (sub_trans rfl w) (fetchEvent_keeps (sub_trans rfl w) h10)
  clear_value x14
  exact retryReads_keeps (sub_trans rfl w) h15

theorem execHelloTimer_keeps {s0 : From} {a0 a1} (w : sub 584115552256 s0.W = true) (h0 : Keeps s0 a1) : KeepsOut s0 (execHelloTimer a0 a1) := by
  unfold execHelloTimer
  exact KeepsOut.next (Keeps.ite (sendHello_keeps w h0) h0)

theorem unpair_keeps {s0 : From} {a0 a1} (w : sub 3319990782612329955184627282169099693968957000333246252449001753155545692769542144 s0.W = true) (h0 : Keeps s0 a0) : Keeps s0 (unpair a0 a1) := by
  unfold unpair
  extract_lets +onlyGivenNames x5
  have h6 : Keeps s0 x5 := fput_keeps h0 rfl (sub_trans rfl w)
  clear_value x5
  exact freeAcked_keeps (sub_trans rfl w) (flushRecs_keeps (sub_trans rfl w) (setPair_keeps (sub_trans rfl w) (twUpd_keeps (sub_trans rfl w) h6)))

theorem twnCmd_keeps {s0 : From} {a0 a1} (w : sub 118571099379011784113736688648896417641748464297615937576404566024103628868943872 s0.W = true) (h0 : Keeps s0 a0) : Keeps s0 (twnCmd a0 a1) := by
  unfold twnCmd
  refine Keeps.ite h0 ?_
  extract_lets +onlyGivenNames x5
  clear_value x5
  extract_lets +onlyGivenNames x6
  have h7 : Keeps s0 x6 := fset_keeps (upd_twin (sub_trans rfl w) h0) rfl (sub_trans rfl w)
  clear_value x6
  exact Keeps.ite h7 (twnDone_keeps w h7)

theorem halfRejoin_keeps {s0 : From} {a0 a1} (w : sub 2378832681291424340031008990247231170609689299652649023516672112535672792300052480 s0.W = true) (h0 : Keeps s0 a0) : Keeps s0 (halfRejoin a0 a1) := by
  unfold halfRejoin
  extract_lets +onlyGivenNames x5
  clear_value x5
  extract_lets +onlyGivenNames x6
  have h7 : Keeps s0 x6 := fput_keeps (fset_keeps (upd_twin (sub_trans rfl w) h0) rfl (sub_trans rfl w)) (by split <;> rfl) (by split <;> exact sub_trans rfl w)
  clear_value x6
  extract_lets +onlyGivenNames x8
  have h9 : Keeps s0 x8 := Keeps.foldl (fun x10 x11 h12 => (Keeps.ite (fput_keeps h12 rfl (sub_trans rfl w)) h12)) _ h7
  clear_value x8
  exact freeAcked_keeps (sub_trans rfl w) (flushRecs_keeps (sub_trans rfl w) (flushRecs_keeps (sub_trans rfl w) h9))

theorem execD2dReturn_keeps {s0 : From} {a0} (w : sub 2378832681291424340031008990247231170609689299652649023516672112535672792300052480 s0.W = true) (h0 : Keeps s0 a0) : KeepsOut s0 (execD2dReturn a0) := by
  unfold execD2dReturn
  extract_lets +onlyGivenNames x5
  clear_value x5
  exact KeepsOut.next (Keeps.ite (halfRejoin_keeps w h0) h0)

theorem voteIn_keeps {s0 : From} {a0 a1 a2} (w : sub 4271974071841820164790043412339104229205409044713305539894083215644439451561262653302949975883550 s0.W = true) (h0 : Keeps s0 a0) : Keeps s0 (voteIn a0 a1 a2) := by
  unfold voteIn
  extract_lets +onlyGivenNames x5
  clear_value x5
  refine Keeps.ite h0 ?_
  split
  · exact lead_keeps (sub_trans rfl w) h0
  · exact voteLost_keeps (sub_trans rfl w) h0
  · exact h0

theorem execVote_keeps {s0 : From} {a0 a1 a2} (w : sub 4271974071841820164790043412339104229205409044713305539894083215644439451561262653302949975883550 s0.W = true) (h0 : Keeps s0 a2) : KeepsOut s0 (execVote a0 a1 a2) := by
  unfold execVote
  exact KeepsOut.next (frameHere_keeps (sub_trans rfl w) h0 (fun x5 h6 => (voteIn_keeps w h6)))

theorem execHello_keeps {s0 : From} {a0 a1 a2} (w : sub 187535489339727029096025245131065392138300981838573997733031487030040555227659857485824 s0.W = true) (h0 : Keeps s0 a2) : KeepsOut s0 (execHello a0 a1 a2) := by
  unfold execHello
  exact KeepsOut.next (frameHere_keeps (sub_trans rfl w) h0 (fun x5 h6 => (helloIn_keeps (sub_trans rfl w) h6)))

theorem execVoteRetry_keeps {s0 : From} {a0 a1} (w : sub 584115552256 s0.W = true) (h0 : Keeps s0 a1) : KeepsOut s0 (execVoteRetry a0 a1) := by
  unfold execVoteRetry
  extract_lets +onlyGivenNames x5
  clear_value x5
  exact KeepsOut.next (Keeps.ite (sendVoteReq_keeps w h0) h0)

theorem fetchDataIn_keeps {s0 : From} {a0 a1 a2} (w : sub 187469919521770435579410348742242552419345094937820074605966919542252539493678817140738 s0.W = true) (h0 : Keeps s0 a0) : Keeps s0 (fetchDataIn a0 a1 a2) := by
  unfold fetchDataIn
  split
  · exact h0
  · extract_lets +onlyGivenNames x5
    have h6 : Keeps s0 x5 := dropFetch_keeps (sub_trans rfl w) h0
    clear_value x5
    exact Keeps.ite (fetchNone_keeps w h6) (fetchGood_keeps w h6)

theorem execFetchData_keeps {s0 : From} {a0 a1 a2} (w : sub 187535370768627650084241131394376743241883340090112358603509094862697844374381531684866 s0.W = true) (h0 : Keeps s0 a2) : KeepsOut s0 (execFetchData a0 a1 a2) := by
  unfold execFetchData
  exact KeepsOut.next (frameHere_keeps (sub_trans rfl w) h0 (fun x5 h6 => (fetchDataIn_keeps (sub_trans rfl w) h6)))

theorem execVoteTimeout_keeps {s0 : From} {a0 a1} (w : sub 4271974071841820164790043412339104229205409044713305539894083215644439451561262653302949975850782 s0.W = true) (h0 : Keeps s0 a1) : KeepsOut s0 (execVoteTimeout a0 a1) := by
  unfold execVoteTimeout
  exact KeepsOut.next (Keeps.ite (voteLost_keeps w h0) h0)

theorem takeover_keeps {s0 : From} {a0 a1 a2} (w : sub 187470986661664846685467372372440392487103870693054565666553737095692680004717362176002 s0.W = true) (h0 : Keeps s0 a0) : Keeps s0 (takeover a0 a1 a2) := by
  unfold takeover
  extract_lets +onlyGivenNames x5
  clear_value x5
  refine Keeps.ite (twnDone_keeps (sub_trans rfl w) h0) ?_
  extract_lets +onlyGivenNames x6
  have h7 : Keeps s0 x6.2 := takeAll_keeps (sub_trans rfl w) h0
  clear_value x6
  extract_lets +onlyGivenNames x8
  have h9 : Keeps s0 x8 := fput_keeps (twnDone_keeps (sub_trans rfl w) (fput_keeps h7 rfl (sub_trans rfl w))) rfl (sub_trans rfl w)
  clear_value x8
  extract_lets +onlyGivenNames x10
  have h11 : Keeps s0 x10 := twUpd_keeps (sub_trans rfl w) h9
  clear_value x10
  exact Keeps.ite (enterSync_keeps (sub_trans rfl w) h11) h11

theorem execTwnTakeover_keeps {s0 : From} {a0} (w : sub 187470986661664846685467372372440392487103870693054565666553737095692680004717362176002 s0.W = true) (h0 : Keeps s0 a0) : KeepsOut s0 (execTwnTakeover a0) := by
  unfold execTwnTakeover
  refine KeepsOut.next ?_
  split
  · exact h0
  · exact takeover_keeps w h0

theorem execFenceHoldEnd_keeps {s0 : From} {a0 a1} (w : sub 4271974071841820164790043412339104229205409044713305539894083215644439451561262653302949975850782 s0.W = true) (h0 : Keeps s0 a1) : KeepsOut s0 (execFenceHoldEnd a0 a1) := by
  unfold execFenceHoldEnd
  exact KeepsOut.next (Keeps.ite (askedHalf_keeps w h0) h0)

theorem journalIn_keeps {s0 : From} {a0 a1 a2} (w : sub 11027112242248095922577512044347366840682607179678282194915298544722243601603682304 s0.W = true) (h0 : Keeps s0 a0) : Keeps s0 (journalIn a0 a1 a2) := by
  unfold journalIn
  refine Keeps.ite (sendJack_keeps (sub_trans rfl w) h0) ?_
  extract_lets +onlyGivenNames x5
  have h6 : Keeps s0 x5 := Keeps.foldl (fun x7 x8 h9 => (entryIn_keeps w h9)) _ h0
  clear_value x5
  exact Keeps.ite (sendJack_keeps (sub_trans rfl w) h6) h6

theorem execJournal_keeps {s0 : From} {a0 a1 a2} (w : sub 75529790304430506480450270669347018037793771757581352236479382461834299946307870720 s0.W = true) (h0 : Keeps s0 a2) : KeepsOut s0 (execJournal a0 a1 a2) := by
  unfold execJournal
  exact KeepsOut.next (frameHere_keeps (sub_trans rfl w) h0 (fun x5 h6 => (journalIn_keeps (sub_trans rfl w) h6)))

theorem execTwinLinkLoss_keeps {s0 : From} {a0 a1} (w : sub 3438561881991341739298363970817996111610705464630862190025406319179648737520836608 s0.W = true) (h0 : Keeps s0 a1) : KeepsOut s0 (execTwinLinkLoss a0 a1) := by
  unfold execTwinLinkLoss
  exact KeepsOut.next (Keeps.ite (enterLost_keeps w h0) h0)

theorem execJack_keeps {s0 : From} {a0 a1 a2} (w : sub 67822668844794740513057385907168750891080121578236316294013085670267602037473730560 s0.W = true) (h0 : Keeps s0 a2) : KeepsOut s0 (execJack a0 a1 a2) :=
  KeepsOut.next (frameHere_keeps (sub_trans rfl w) h0 (fun _ h => h))

theorem execFetchTimeout_keeps {s0 : From} {a0 a1} (w : sub 187469919521770435579410348742242552419345094937820074605966919542252539493678817140738 s0.W = true) (h0 : Keeps s0 a1) : KeepsOut s0 (execFetchTimeout a0 a1) := by
  unfold execFetchTimeout
  refine KeepsOut.next ?_
  split
  · exact h0
  · exact fetchNone_keeps w (fset_keeps (dropFetch_keeps (sub_trans rfl w) h0) rfl (sub_trans rfl w))

end Sys2Proof.Machine
end

