-- ==== Sys2Proof/Laws/KeepsStart.lean ====
section
/-!
SUPPORT. What the operations of `Sys2Proof.Machine.Start` keep (`Sys2Proof.Machine.Keeps`): one lemma for each.
-/

namespace Sys2Proof.Machine

theorem goTo_keeps {s0 : From} {a0 a1} (w : sub 147573953139434323968 s0.W = true) (h0 : Keeps s0 a0) : Keeps s0 (goTo a0 a1) := by
  unfold goTo
  extract_lets +onlyGivenNames x5
  have h6 : Keeps s0 x5 := fput_keeps h0 rfl (sub_trans rfl w)
  clear_value x5
  exact Keeps.ite (irq_keeps (sub_trans rfl w) h6) h6

theorem frameOver_keeps {s0 : From} {a0} (w : sub 4869940435459321626624 s0.W = true) (h0 : Keeps s0 a0) : Keeps s0 (frameOver a0) := by
  unfold frameOver
  split
  · exact h0
  · extract_lets +onlyGivenNames x5
    have h6 : Keeps s0 x5 := fadd1_keeps h0 rfl (sub_trans rfl w)
    clear_value x5
    exact fsetIf_keeps h6 rfl (sub_trans rfl w)

theorem failAt_keeps {s0 : From} {a0 a1} (w : sub 147573953139434323968 s0.W = true) (h0 : Keeps s0 a0) : Keeps s0 (failAt a0 a1) := by
  unfold failAt
  exact irq_keeps (sub_trans rfl w) (fput_keeps (fput_keeps h0 rfl (sub_trans rfl w)) rfl (sub_trans rfl w))

theorem loadFuses_keeps {s0 : From} {a0} (w : sub 1602007695189714585574314840923259687313675110699741206376015859277987598879044496224827661091328 s0.W = true) (h0 : Keeps s0 a0) : Keeps s0 (loadFuses a0) := by
  unfold loadFuses
  extract_lets +onlyGivenNames x5
  clear_value x5
  extract_lets +onlyGivenNames x6
  have h7 : Keeps s0 x6 := fput_keeps (fput_keeps (fput_keeps h0 rfl (sub_trans rfl w)) rfl (sub_trans rfl w)) rfl (sub_trans rfl w)
  clear_value x6
  extract_lets +onlyGivenNames x8
  have h9 : Keeps s0 x8 := fput_keeps (fput_keeps h7 rfl (sub_trans rfl w)) rfl (sub_trans rfl w)
  clear_value x8
  extract_lets +onlyGivenNames x10
  have h11 : Keeps s0 x10 := fput_keeps (fput_keeps h9 rfl (sub_trans rfl w)) rfl (sub_trans rfl w)
  clear_value x10
  extract_lets +onlyGivenNames x12
  have h13 : Keeps s0 x12 := fput_keeps (fput_keeps h11 rfl (sub_trans rfl w)) rfl (sub_trans rfl w)
  clear_value x12
  extract_lets +onlyGivenNames x14
  have h15 : Keeps s0 x14 := Keeps.foldl (fun x16 x17 h18 => (rput_keeps h18 (sub_trans rfl w) (fun h19 => (Reg.holds_and _ _)))) _ h13
  clear_value x14
  extract_lets +onlyGivenNames x20
  have h21 : Keeps s0 x20 := Keeps.foldl (fun x22 x23 h24 => (rput_keeps h24 (sub_trans rfl w) (fun h25 => (Reg.holds_full rfl _)))) _ h15
  clear_value x20
  extract_lets +onlyGivenNames x26
  clear_value x26
  extract_lets +onlyGivenNames x27
  have h28 : Keeps s0 x27 := upd_keys (sub_trans rfl w) h21
  clear_value x27
  exact Keeps.ite (Keeps.foldl (fun x29 x30 h31 => (gradeClock_keeps (sub_trans rfl w) (tcycFix_keeps (sub_trans rfl w) h31))) _ h28) h28

theorem announce_keeps {s0 : From} {a0} (w : sub 187469919579666480198075028472257329747857671528783763038696716699375781454480802766850 s0.W = true) (h0 : Keeps s0 a0) : Keeps s0 (announce a0) := by
  unfold announce
  split
  · exact h0
  · refine Keeps.ite h0 ?_
    extract_lets +onlyGivenNames x5
    clear_value x5
    extract_lets +onlyGivenNames x6
    have h7 : Keeps s0 x6 := upd_start (sub_trans rfl w) h0
    clear_value x6
    exact Keeps.foldl (fun x8 x9 h10 => (deviceSend_keeps (sub_trans rfl w) h10)) _ h7

theorem halfGo_keeps {s0 : From} {a0 a1 a2} (w : sub 68719476736 s0.W = true) (h0 : Keeps s0 a0) : Keeps s0 (halfGo a0 a1 a2) := by
  unfold halfGo
  exact upd_start (sub_trans rfl w) h0

theorem imageRegs_keeps {s0 : From} {a0 a1 a2} (w : sub 4271974071841820164790043412339104229205409044713305539894083215644439451561262653301850464321536 s0.W = true) (h0 : Keeps s0 a0) : Keeps s0 (imageRegs a0 a1 a2) :=
  Keeps.foldl (fun _ _ h => Keeps.ite (rput_keeps h (sub_any rfl w) (fun c => imageWord_holds _ (c.holds _ _))) h) _ h0

theorem imageIsl_keeps {s0 : From} {a0 a1 a2} (w : sub 3203980585710052253818877657198792053300590549964172805950816327923024109833168633836579165045760 s0.W = true) (h0 : Keeps s0 a0) : Keeps s0 (imageIsl a0 a1 a2) := by
  unfold imageIsl
  extract_lets +onlyGivenNames x5
  have h6 : Keeps s0 x5 := Keeps.foldl (fun x7 x8 h9 => (setCeil_keeps w h9)) _ h0
  clear_value x5
  exact Keeps.foldl (fun x10 x11 h12 => (fput_keeps h12 rfl (sub_trans rfl w))) _ h6

theorem loadImage_keeps {s0 : From} {a0 a1 a2} (w : sub 4271974071841820164790043412339104229205409044713305539894083215644439451561262653301850464979968 s0.W = true) (h0 : Keeps s0 a0) : Keeps s0 (loadImage a0 a1 a2) := by
  unfold loadImage
  extract_lets +onlyGivenNames x5
  have h6 : Keeps s0 x5 := imageIsl_keeps (sub_trans rfl w) (imageRegs_keeps (sub_trans rfl w) h0)
  clear_value x5
  extract_lets +onlyGivenNames x7
  have h8 : Keeps s0 x7 := Keeps.foldl (fun x9 x10 h11 => (rput_keeps h11 (sub_trans rfl w) (fun h12 => (Reg.holds_full rfl _)))) _ h6
  clear_value x7
  extract_lets +onlyGivenNames x13
  have h14 : Keeps s0 x13 := fset_keeps (fput_keeps h8 rfl (sub_trans rfl w)) rfl (sub_trans rfl w)
  clear_value x13
  extract_lets +onlyGivenNames x15
  have h16 : Keeps s0 x15 := fput_keeps (fput_keeps h14 rfl (sub_trans rfl w)) rfl (sub_trans rfl w)
  clear_value x15
  extract_lets +onlyGivenNames x17
  have h18 : Keeps s0 x17 := fput_keeps h16 rfl (sub_trans rfl w)
  clear_value x17
  exact imageWindows_keeps (sub_trans rfl w) (latStat_keeps (sub_trans rfl w) (upd_gov (sub_trans rfl w) h18))

theorem takeStew_keeps {s0 : From} {a0 a1} (w : sub 268435456 s0.W = true) (h0 : Keeps s0 a0) : Keeps s0 (takeStew a0 a1) := by
  unfold takeStew
  split
  · exact upd_fab (sub_trans rfl w) h0
  · exact h0

theorem execRegistered_keeps {s0 : From} {a0 a1 a2} (w : sub 28948022309329048855892746252171976963317496166410141014734336438060644827136 s0.W = true) (h0 : Keeps s0 a2) : KeepsOut s0 (execRegistered a0 a1 a2) := by
  unfold execRegistered
  extract_lets +onlyGivenNames x5
  have h6 : Keeps s0 x5 := takeStew_keeps (sub_trans rfl w) h0
  clear_value x5
  refine KeepsOut.next ?_
  refine Keeps.ite h6 ?_
  extract_lets +onlyGivenNames x7
  clear_value x7
  extract_lets +onlyGivenNames x8
  have h9 : Keeps s0 x8 := fset_keeps (upd_start (sub_trans rfl w) h6) rfl (sub_trans rfl w)
  clear_value x8
  exact cmpReserved_keeps (sub_trans rfl w) (irq_keeps (sub_trans rfl w) (fput_keeps h9 rfl (sub_trans rfl w)))

theorem beginPcie_keeps {s0 : From} {a0} (w : sub 68721573888 s0.W = true) (h0 : Keeps s0 a0) : Keeps s0 (beginPcie a0) := by
  unfold beginPcie
  exact Keeps.upd 68721573888 h0 (sub_trans rfl w) rfl

theorem execAnnounce_keeps {s0 : From} {a0} (w : sub 187469919579666480198075028472257329747857671528783763038696716699375781454480802766850 s0.W = true) (h0 : Keeps s0 a0) : KeepsOut s0 (execAnnounce a0) := by
  unfold execAnnounce
  exact KeepsOut.next (announce_keeps w h0)

theorem discoveryFrame_keeps {s0 : From} {a0} (w : sub 4869940435528041103362 s0.W = true) (h0 : Keeps s0 a0) : Keeps s0 (discoveryFrame a0) := by
  unfold discoveryFrame
  refine Keeps.ite h0 ?_
  extract_lets +onlyGivenNames x5
  clear_value x5
  extract_lets +onlyGivenNames x6
  have h7 : Keeps s0 x6 := frameOver_keeps (sub_trans rfl w) h0
  clear_value x6
  extract_lets +onlyGivenNames x8 x9
  clear_value x8 x9
  exact bump_keeps (sub_trans rfl w) (fput_keeps (upd_start (sub_trans rfl w) h7) rfl (sub_trans rfl w))

theorem trainPorts_keeps {s0 : From} {a0 a1} (w : sub 421249166674228746791672110734681729275580381602196445017243910144 s0.W = true) (h0 : Keeps s0 a0) : Keeps s0 (trainPorts a0 a1) := by
  unfold trainPorts
  exact Keeps.foldl (fun x5 x6 h7 => (Keeps.ite (fput_keeps h7 rfl (sub_trans rfl w)) h7)) _ h0

theorem firstBoots_keeps {s0 : From} {a0} (w : sub 34359738370 s0.W = true) (h0 : Keeps s0 a0) : Keeps s0 (firstBoots a0) := by
  unfold firstBoots
  exact Keeps.foldl (fun x5 x6 h7 => (Keeps.ite (bump_keeps (sub_trans rfl w) (twUpd_keeps (sub_trans rfl w) h7)) h7)) _ h0

theorem trainStack_keeps {s0 : From} {a0 a1 a2} (w : sub 971334446112864535459730953411759453321214569898669025937476972876162419923865592322 s0.W = true) (h0 : Keeps s0 a0) : Keeps s0 (trainStack a0 a1 a2) := by
  unfold trainStack
  refine Keeps.ite (fset_keeps (retireStack_keeps (sub_trans rfl w) h0) rfl (sub_trans rfl w)) ?_
  extract_lets +onlyGivenNames x5
  clear_value x5
  extract_lets +onlyGivenNames x6
  have h7 : Keeps s0 x6 := bump_keeps (sub_trans rfl w) (upd_keys (sub_trans rfl w) h0)
  clear_value x6
  exact fput_keeps (fput_keeps h7 rfl (sub_trans rfl w)) rfl (sub_trans rfl w)

theorem execDiscoveryFrame_keeps {s0 : From} {a0} (w : sub 4869940435528041103362 s0.W = true) (h0 : Keeps s0 a0) : KeepsOut s0 (execDiscoveryFrame a0) := by
  unfold execDiscoveryFrame
  exact KeepsOut.next (discoveryFrame_keeps w h0)

theorem mountStart_keeps {s0 : From} {a0 a1} (w : sub 3064991081731777716716694054300618367237478244367204352 s0.W = true) (h0 : Keeps s0 a0) : Keeps s0 (mountStart a0 a1) := by
  unfold mountStart
  exact Keeps.ite h0 (fput_keeps h0 rfl (sub_trans rfl w))

theorem stampStep_keeps {s0 : From} {a0 a1} (w : sub 1180591620717411303424 s0.W = true) (h0 : Keeps s0 a0) : Keeps s0 (stampStep a0 a1) :=
  rput_keeps h0 (sub_trans rfl w) (fun _ => Reg.holds_full rfl _)

theorem ready_keeps {s0 : From} {a0} (w : sub 187469919608614502507404077328150076000029648492101259205106857710568343029697453416450 s0.W = true) (h0 : Keeps s0 a0) : Keeps s0 (ready a0) := by
  unfold ready
  extract_lets +onlyGivenNames x5
  have h6 : Keeps s0 x5 := windowsGo_keeps (sub_trans rfl w) (goTo_keeps (sub_trans rfl w) (stampStep_keeps (sub_trans rfl w) h0))
  clear_value x5
  exact Keeps.ite (cmpReserved_keeps (sub_trans rfl w) (irq_keeps (sub_trans rfl w) (fsetIf_keeps (fset_keeps h6 rfl (sub_trans rfl w)) rfl (sub_trans rfl w)))) h6

theorem halfImage_keeps {s0 : From} {a0 a1} (w : sub 4271974071841820164790043412339104229205409044713305539894083215644439451561262653301850464846848 s0.W = true) (h0 : Keeps s0 a0) : Keeps s0 (halfImage a0 a1) := by
  unfold halfImage
  extract_lets +onlyGivenNames x5
  clear_value x5
  extract_lets +onlyGivenNames x6
  have h7 : Keeps s0 x6 := Keeps.foldl (fun x8 x9 h10 => (rput_keeps h10 (sub_trans rfl w) (fun h11 => (Reg.holds_and _ _)))) _ h0
  clear_value x6
  exact imageIsl_keeps (sub_trans rfl w) (imageRegs_keeps (sub_trans rfl w) h7)

theorem placeImage_keeps {s0 : From} {a0 a1} (w : sub 8192 s0.W = true) (h0 : Keeps s0 a0) : Keeps s0 (placeImage a0 a1) :=
  h0.of_mem 8192 (sub_trans rfl w) rfl (fun c => nwf_foldl_nput memDefault (fun e : Nat × Byte => e.1) (·.2) _ c.mem) (·.syn) (·.hostMem)

theorem halfStep_keeps {s0 : From} {a0 a1 a2} (w : sub 4271974071841820164790043412339104229205409044713305539894083215644439451561262653302949975850782 s0.W = true) (h0 : Keeps s0 a0) : Keeps s0 (halfStep a0 a1 a2) := by
  unfold halfStep
  split
  · exact h0
  · exact Keeps.ite (halfGo_keeps (sub_trans rfl w) h0) h0
  · exact halfGo_keeps (sub_trans rfl w) h0
  · exact Keeps.ite h0 (halfGo_keeps (sub_trans rfl w) (Keeps.ite (beginPcie_keeps (sub_trans rfl w) (halfImage_keeps (sub_trans rfl w) h0)) (halfImage_keeps (sub_trans rfl w) h0)))
  · extract_lets +onlyGivenNames x5
    have h6 : Keeps s0 x5 := Keeps.foldl (fun x7 x8 h9 => (trainStack_keeps (sub_trans rfl w) h9)) _ h0
    clear_value x5
    exact halfGo_keeps (sub_trans rfl w) (placeImage_keeps (sub_trans rfl w) h6)
  · extract_lets +onlyGivenNames x10
    have h11 : Keeps s0 x10 := halfGo_keeps (sub_trans rfl w) h0
    clear_value x10
    refine Keeps.ite (fset_keeps (upd_twin (sub_trans rfl w) h11) rfl (sub_trans rfl w)) ?_
    extract_lets +onlyGivenNames x12
    have h13 : Keeps s0 x12 := fset_keeps h11 rfl (sub_trans rfl w)
    clear_value x12
    exact Keeps.ite (twUpd_keeps (sub_trans rfl w) h13) (fence_keeps w h13)
  · exact Keeps.ite (Keeps.ite h0 (halfGo_keeps (sub_trans rfl w) h0)) (halfGo_keeps (sub_trans rfl w) (twUpd_keeps (sub_trans rfl w) h0))
  · exact halfGo_keeps (sub_trans rfl w) (agePlanHalf_keeps (sub_trans rfl w) (Keeps.foldl (fun x14 x15 h16 => (Keeps.ite (retireTiller_keeps (sub_trans rfl w) h16) h16)) _ h0))
  · exact halfGo_keeps (sub_trans rfl w) (trainPorts_keeps (sub_trans rfl w) (mountStart_keeps (sub_trans rfl w) h0))
  · exact upd_start (sub_trans rfl w) h0

theorem endPcie_keeps {s0 : From} {a0 a1} (w : sub 20070057552264713732096 s0.W = true) (h0 : Keeps s0 a0) : Keeps s0 (endPcie a0 a1) := by
  unfold endPcie
  refine Keeps.ite h0 ?_
  extract_lets +onlyGivenNames x5
  have h6 : Keeps s0 x5 := Keeps.ite (stampStep_keeps (sub_trans rfl w) h0) h0
  clear_value x5
  refine Keeps.ite ?_ ?_
  · extract_lets +onlyGivenNames x7
    have h8 : Keeps s0 x7 := fput_keeps (fput_keeps h6 rfl (sub_trans rfl w)) rfl (sub_trans rfl w)
    clear_value x7
    exact upd_start (sub_trans rfl w) h8
  · extract_lets +onlyGivenNames x9
    have h10 : Keeps s0 x9 := fset_keeps (fset_keeps h6 rfl (sub_trans rfl w)) rfl (sub_trans rfl w)
    clear_value x9
    extract_lets +onlyGivenNames x11
    have h12 : Keeps s0 x11 := fput_keeps (fput_keeps h10 rfl (sub_trans rfl w)) rfl (sub_trans rfl w)
    clear_value x11
    exact Keeps.upd 68721573888 h12 (sub_trans rfl w) rfl

theorem linkFails_keeps {s0 : From} {a0} (w : sub 4271974071841820164790043412339104229205409044713305539894083215644439451561262653302949975883550 s0.W = true) (h0 : Keeps s0 a0) : Keeps s0 (linkFails a0) := by
  unfold linkFails
  exact lossVote_keeps w (cutHalves_keeps (sub_trans rfl w) (fset_keeps h0 rfl (sub_trans rfl w)))

theorem portsDone_keeps {s0 : From} {a0} (w : sub 13479973333575319897333507543509815336818572212598451814408650752000 s0.W = true) (h0 : Keeps s0 a0) : Keeps s0 (portsDone a0) := by
  unfold portsDone
  extract_lets +onlyGivenNames x5
  clear_value x5
  refine Keeps.ite ?_ (failAt_keeps (sub_trans rfl w) h0)
  extract_lets +onlyGivenNames x6
  have h7 : Keeps s0 x6 := stampStep_keeps (sub_trans rfl w) (fsetIf_keeps h0 rfl (sub_trans rfl w))
  clear_value x6
  exact Keeps.ite (failAt_keeps (sub_trans rfl w) (fset_keeps h7 rfl (sub_trans rfl w))) (goTo_keeps (sub_trans rfl w) (fput_keeps h7 rfl (sub_trans rfl w)))

theorem hostKey_keeps {s0 : From} {a0} (w : sub 514 s0.W = true) (h0 : Keeps s0 a0) : Keeps s0 (hostKey a0) := by
  unfold hostKey
  exact bump_keeps (sub_trans rfl w) (upd_keys (sub_trans rfl w) h0)

theorem decideLeader_keeps {s0 : From} {a0} (w : sub 7410693711188236507108543040556026102609279018600996098525285376506440296955904 s0.W = true) (h0 : Keeps s0 a0) : Keeps s0 (decideLeader a0) := by
  unfold decideLeader
  extract_lets +onlyGivenNames x5
  clear_value x5
  exact fput_keeps (fput_keeps h0 rfl (sub_trans rfl w)) rfl (sub_trans rfl w)

theorem deviceStep_keeps {s0 : From} {a0 a1} (w : sub 4271974071841820164790043412339104229205409044713305539894083215644439451561262653302949975883550 s0.W = true) (h0 : Keeps s0 a0) : Keeps s0 (deviceStep a0 a1) := by
  unfold deviceStep
  split
  · exact Keeps.ite (goTo_keeps (sub_trans rfl w) (stampStep_keeps (sub_trans rfl w) h0)) h0
  · exact Keeps.ite (goTo_keeps (sub_trans rfl w) (stampStep_keeps (sub_trans rfl w) (loadFuses_keeps (sub_trans rfl w) h0))) (failAt_keeps (sub_trans rfl w) h0)
  · exact Keeps.ite (goTo_keeps (sub_trans rfl w) (beginPcie_keeps (sub_trans rfl w) (stampStep_keeps (sub_trans rfl w) (loadImage_keeps (sub_trans rfl w) h0)))) (Keeps.ite (goTo_keeps (sub_trans rfl w) (beginPcie_keeps (sub_trans rfl w) (stampStep_keeps (sub_trans rfl w) (loadImage_keeps (sub_trans rfl w) h0)))) (beginPcie_keeps (sub_trans rfl w) (failAt_keeps (sub_trans rfl w) h0)))
  · extract_lets +onlyGivenNames x5
    have h6 : Keeps s0 x5 := placeImage_keeps (sub_trans rfl w) (hostKey_keeps (sub_trans rfl w) (Keeps.foldl (fun x7 x8 h9 => (trainStack_keeps (sub_trans rfl w) h9)) _ h0))
    clear_value x5
    exact goTo_keeps (sub_trans rfl w) (stampStep_keeps (sub_trans rfl w) h6)
  · extract_lets +onlyGivenNames x10
    have h11 : Keeps s0 x10 := goTo_keeps (sub_trans rfl w) (stampStep_keeps (sub_trans rfl w) (firstBoots_keeps (sub_trans rfl w) h0))
    clear_value x10
    exact Keeps.ite (fset_keeps h11 rfl (sub_trans rfl w)) (linkFails_keeps w h11)
  · exact Keeps.ite h0 (goTo_keeps (sub_trans rfl w) (stampStep_keeps (sub_trans rfl w) (Keeps.ite h0 (decideLeader_keeps (sub_trans rfl w) h0))))
  · exact goTo_keeps (sub_trans rfl w) (stampStep_keeps (sub_trans rfl w) (agePlan_keeps (sub_trans rfl w) (Keeps.foldl (fun x12 x13 h14 => (retireTiller_keeps (sub_trans rfl w) h14)) _ h0)))
  · exact goTo_keeps (sub_trans rfl w) (trainPorts_keeps (sub_trans rfl w) (trainPorts_keeps (sub_trans rfl w) (stampStep_keeps (sub_trans rfl w) (mountStart_keeps (sub_trans rfl w) h0))))
  · exact portsDone_keeps (sub_trans rfl w) h0
  · exact ready_keeps (sub_trans rfl w) h0
  · exact h0

theorem execStartStep_keeps {s0 : From} {a0 a1} (w : sub 4271974071841820164790043412339104229205409044713305539894083215644439451561262653302949975883550 s0.W = true) (h0 : Keeps s0 a1) : KeepsOut s0 (execStartStep a0 a1) := by
  unfold execStartStep
  refine KeepsOut.next ?_
  refine Keeps.ite h0 ?_
  refine Keeps.ite (endPcie_keeps (sub_trans rfl w) h0) ?_
  split
  · exact halfStep_keeps (sub_trans rfl w) h0
  · exact deviceStep_keeps w h0

theorem execBackoff_keeps {s0 : From} {a0} (w : sub 268435456 s0.W = true) (h0 : Keeps s0 a0) : KeepsOut s0 (execBackoff a0) := by
  unfold execBackoff
  exact KeepsOut.next (takeStew_keeps w h0)

theorem execConfigurationRequest_keeps {s0 : From} {a0} (w : sub 549755813888 s0.W = true) (h0 : Keeps s0 a0) : KeepsOut s0 (execConfigurationRequest a0) := by
  unfold execConfigurationRequest
  exact KeepsOut.next (Keeps.ite h0 (upd_out (sub_trans rfl w) h0))

theorem execHeartbeat_keeps {s0 : From} {a0} (w : sub 187469919579666480198075028472257329747857671528783763038696716699375781454412083290114 s0.W = true) (h0 : Keeps s0 a0) : KeepsOut s0 (execHeartbeat a0) := by
  unfold execHeartbeat
  exact KeepsOut.next (Keeps.ite h0 (Keeps.foldl (fun x5 x6 h7 => (deviceSend_keeps w h7)) _ h0))

end Sys2Proof.Machine
end

