-- ==== Sys2Proof/Laws/KeepsSecurity.lean ====
section
/-!
SUPPORT. What the operations of `Sys2Proof.Machine.Security` keep (`Sys2Proof.Machine.Keeps`): one lemma for each.
-/

namespace Sys2Proof.Machine

theorem secDone_keeps {s0 : From} {a0 a1} (w : sub 254629497041810760783555711051172270131433549208242031329517556169297662470417225711878144 s0.W = true) (h0 : Keeps s0 a0) : Keeps s0 (secDone a0 a1) := by
  unfold secDone
  exact fput_keeps (fput_keeps (upd_sec (sub_trans rfl w) h0) rfl (sub_trans rfl w)) rfl (sub_trans rfl w)

theorem execEraseMedia_keeps {s0 : From} {a0} (w : sub 254629497041810760783555711051180131833558191218085409649766837255409626602114028664807938 s0.W = true) (h0 : Keeps s0 a0) : KeepsOut s0 (execEraseMedia a0) := by
  unfold execEraseMedia
  refine KeepsOut.next ?_
  split
  · exact h0
  · extract_lets +onlyGivenNames x5
    clear_value x5
    refine Keeps.ite (secDone_keeps (sub_trans rfl w) h0) ?_
    extract_lets +onlyGivenNames x6
    have h7 : Keeps s0 x6 := flsLog_keeps (sub_trans rfl w) (flsFormat_keeps (sub_trans rfl w) h0)
    clear_value x6
    exact secDone_keeps (sub_trans rfl w) (flsMounted_keeps (sub_trans rfl w) h7)

theorem secQuote_keeps {s0 : From} {a0 a1} (w : sub 509258994083621521567111422102344540262867098416484062659035112338595324940834313984802816 s0.W = true) (h0 : Keeps s0 a0) : Keeps s0 (secQuote a0 a1) := by
  unfold secQuote
  exact Keeps.ite h0 (fset_keeps (upd_sec (sub_trans rfl w) h0) rfl (sub_trans rfl w))

theorem jtagOut_keeps {s0 : From} {a0 a1} (w : sub 549755813888 s0.W = true) (h0 : Keeps s0 a0) : Keeps s0 (jtagOut a0 a1) := by
  unfold jtagOut
  exact upd_out (sub_trans rfl w) h0

theorem execSamplePreload_keeps {s0 : From} {a0} (w : sub 549755813888 s0.W = true) (h0 : Keeps s0 a0) : KeepsOut s0 (execSamplePreload a0) := by
  unfold execSamplePreload
  exact KeepsOut.next (jtagOut_keeps w h0)

theorem execExtest_keeps {s0 : From} {a0 a1} (w : sub 549755814144 s0.W = true) (h0 : Keeps s0 a1) : KeepsOut s0 (execExtest a0 a1) := by
  unfold execExtest
  exact KeepsOut.next (Keeps.ite (upd_pins (sub_trans rfl w) h0) (jtagOut_keeps (sub_trans rfl w) h0))

theorem quoteDone_keeps {s0 : From} {a0} (w : sub 33101834615435398901862242436652395117086361397071464072837282302008696121154221612919160834 s0.W = true) (h0 : Keeps s0 a0) : Keeps s0 (quoteDone a0) := by
  unfold quoteDone
  split
  · exact h0
  · extract_lets +onlyGivenNames x5
    have h6 : Keeps s0 x5 := Keeps.foldl (fun x7 x8 h9 => (rput_keeps h9 (sub_trans rfl w) (fun h10 => (Reg.holds_full rfl _)))) _ h0
    clear_value x5
    exact bump_keeps (sub_trans rfl w) (fput_keeps (upd_sec (sub_trans rfl w) h6) rfl (sub_trans rfl w))

theorem execQuoteDone_keeps {s0 : From} {a0} (w : sub 33101834615435398901862242436652395117086361397071464072837282302008696121154221612919160834 s0.W = true) (h0 : Keeps s0 a0) : KeepsOut s0 (execQuoteDone a0) := by
  unfold execQuoteDone
  exact KeepsOut.next (quoteDone_keeps w h0)

theorem zeroised_keeps {s0 : From} {a0} (w : sub 4271974071841820164790043412339104229205409044713305539894083215644439451561262653302949975850782 s0.W = true) (h0 : Keeps s0 a0) : Keeps s0 (zeroised a0) := by
  unfold zeroised
  extract_lets +onlyGivenNames x5
  have h6 : Keeps s0 x5 := giveupOn_keeps (sub_trans rfl w) (giveupOn_keeps (sub_trans rfl w) h0)
  clear_value x5
  exact deviceReset_keeps (sub_trans rfl w) (upd_keys (sub_trans rfl w) h6)

theorem execZeroise_keeps {s0 : From} {a0} (w : sub 4271974071841820164790043412339104229205409044713305539894083215644439451561262653302949975850782 s0.W = true) (h0 : Keeps s0 a0) : KeepsOut s0 (execZeroise a0) := by
  unfold execZeroise
  refine KeepsOut.next ?_
  split
  · exact h0
  · exact Keeps.ite (zeroised_keeps w h0) (secDone_keeps (sub_trans rfl w) (bump_keeps (sub_trans rfl w) h0))

theorem secCmd_keeps {s0 : From} {a0 a1} (w : sub 254629497041810760783555711051172270131433549208242031329517556169297662470417225711878144 s0.W = true) (h0 : Keeps s0 a0) : Keeps s0 (secCmd a0 a1) := by
  unfold secCmd
  refine Keeps.ite h0 ?_
  extract_lets +onlyGivenNames x5 x6
  clear_value x5 x6
  extract_lets +onlyGivenNames x7
  have h8 : Keeps s0 x7 := fset_keeps (upd_sec (sub_trans rfl w) h0) rfl (sub_trans rfl w)
  clear_value x7
  exact Keeps.ite (secDone_keeps w h8) h8

theorem execIdcode_keeps {s0 : From} {a0} (w : sub 549755813888 s0.W = true) (h0 : Keeps s0 a0) : KeepsOut s0 (execIdcode a0) := by
  unfold execIdcode
  exact KeepsOut.next (jtagOut_keeps w h0)

theorem execSecQuote_keeps {s0 : From} {a0 a1} (w : sub 509258994083621521567111422102344540262867098416484062659035112338595472514786903661215744 s0.W = true) (h0 : Keeps s0 a1) : KeepsOut s0 (execSecQuote a0 a1) := by
  unfold execSecQuote
  exact KeepsOut.next (regGate_keeps (sub_trans rfl w) h0 (sub_trans rfl w) (fun x5 h6 => (secQuote_keeps (sub_trans rfl w) h6)))

theorem execBypass_keeps {s0 : From} {a0 a1} (w : sub 549755813888 s0.W = true) (h0 : Keeps s0 a1) : KeepsOut s0 (execBypass a0 a1) := by
  unfold execBypass
  exact KeepsOut.next (jtagOut_keeps w h0)

theorem execDebugUnlock_keeps {s0 : From} {a0} (w : sub 4271974071841820164790043412339104229205409044713305539894083215644439451561262653302949975850814 s0.W = true) (h0 : Keeps s0 a0) : KeepsOut s0 (execDebugUnlock a0) := by
  unfold execDebugUnlock
  refine KeepsOut.next ?_
  split
  · exact h0
  · refine Keeps.ite (secDone_keeps (sub_trans rfl w) h0) (zeroised_keeps (sub_trans rfl w) ?_)
    exact ⟨h0.pending, h0.fuse.trans (.inr rfl), h0.image0, h0.image1,
      fun c => ⟨(h0.canon c).mem, (h0.canon c).syn, (h0.canon c).regs, (h0.canon c).hostMem⟩, h0.reserved,
      Eq.trans (view_mono (s := a0) (sub_trans (a := 1099511529262) rfl w) rfl) h0.view, h0.regs⟩

end Sys2Proof.Machine
end

