-- ==== Sys2Proof/Laws/KeepsRegWrite.lean ====
section
/-!
SUPPORT. What the operations of `Sys2Proof.Machine.RegWrite` keep (`Sys2Proof.Machine.Keeps`): one lemma for each.
-/

namespace Sys2Proof.Machine

theorem plain_keeps {s0 : From} {a0 a1 a2 a3} (w : sub 0 s0.W = true) (h0 : Keeps s0 a0) (h1 : sub (bitOf a1) s0.W = true) : Keeps s0 (plain a0 a1 a2 a3) :=
  rput_keeps h0 h1 (fun c => Reg.written_holds _ (c.holds _ _))

theorem guarded_keeps {s0 : From} {a0 a1 a2 a3 a4 a5 a6} (w : sub 0 s0.W = true) (h0 : Keeps s0 a0) (h1 : a2.ok = true) (h2 : sub (bitOf a2.reg) s0.W = true) (h3 : sub (bitOf a4) s0.W = true) : Keeps s0 (guarded a0 a1 a2 a3 a4 a5 a6) := by
  unfold guarded
  exact Keeps.ite (plain_keeps w h0 h3) (fset_keeps h0 h1 h2)

theorem tieCtlWrite_keeps {s0 : From} {a0 a1} (w : sub 187469919579666480198075028472257329747858385152630116018637245842360506201980274663426 s0.W = true) (h0 : Keeps s0 a0) : Keeps s0 (tieCtlWrite a0 a1) := by
  unfold tieCtlWrite
  extract_lets +onlyGivenNames x5
  have h6 : Keeps s0 x5 := plain_keeps (sub_trans rfl w) h0 (sub_trans rfl w)
  clear_value x5
  exact Keeps.ite (Keeps.foldl (fun x7 x8 h9 => (windowNext_keeps (sub_trans rfl w) h9)) _ h6) h6

theorem txForget_keeps {s0 : From} {a0 a1} (w : sub 17181966336 s0.W = true) (h0 : Keeps s0 a0) : Keeps s0 (txForget a0 a1) := by
  unfold txForget
  extract_lets +onlyGivenNames x5 x6 x7
  clear_value x5 x6 x7
  exact Keeps.upd 17181966336 h0 (sub_trans rfl w) rfl

theorem ringStart_keeps {s0 : From} {a0 a1 a2} (w : sub 22631091343185858167681581056 s0.W = true) (h0 : Keeps s0 a0) : Keeps s0 (ringStart a0 a1 a2) := by
  have h1 : Keeps s0 (rput a0 (ringPtrReg a1) a2 (w64 (2 ^ 32))) := by
    refine rput_keeps h0 (by cases a1 <;> exact (sub_trans rfl w)) (fun _ => ?_)
    rw [show w64 (2 ^ 32) = bset (0 : Word) 32 1 1 by decide]
    refine Reg.holds_bset (Reg.holds_zero _) ?_
    cases a1 <;> exact fun j h1 h2 => Fld.ok_mask (f := ⟨_, 32, 1⟩) rfl h1 h2
  cases a1
  · exact h1
  · exact setCpl_keeps (sub_trans rfl w) h1
  · exact h1
  · exact txForget_keeps (sub_trans rfl w) h1

theorem flsCmdWrite_keeps {s0 : From} {a0 a1} (w : sub 2356978141851737064155137727757175524405620770469211799552 s0.W = true) (h0 : Keeps s0 a0) : Keeps s0 (flsCmdWrite a0 a1) := by
  unfold flsCmdWrite
  refine Keeps.ite (fset_keeps h0 rfl (sub_trans rfl w)) ?_
  extract_lets +onlyGivenNames x5
  clear_value x5
  extract_lets +onlyGivenNames x6
  have h7 : Keeps s0 x6 := fset_keeps (upd_flash (sub_trans rfl w) h0) rfl (sub_trans rfl w)
  clear_value x6
  extract_lets +onlyGivenNames x8
  have h9 : Keeps s0 x8 := fsetIf_keeps h7 rfl (sub_trans rfl w)
  clear_value x8
  exact Keeps.ite (flsDone_keeps (sub_trans rfl w) h9) h9

theorem cmpCmdWrite_keeps {s0 : From} {a0 a1} (w : sub 86844066927987146567678238756515930889952488499230423029593188006488900108288 s0.W = true) (h0 : Keeps s0 a0) : Keeps s0 (cmpCmdWrite a0 a1) := by
  unfold cmpCmdWrite
  extract_lets +onlyGivenNames x5 x6
  clear_value x5 x6
  exact Keeps.ite (fset_keeps h0 rfl (sub_trans rfl w)) (cmpReserved_keeps (sub_trans rfl w) (upd_cmp (sub_trans rfl w) h0))

theorem tieCmdWrite_keeps {s0 : From} {a0 a1} (w : sub 913438523331814323877303020447676887834715881472 s0.W = true) (h0 : Keeps s0 a0) : Keeps s0 (tieCmdWrite a0 a1) := by
  unfold tieCmdWrite
  exact Keeps.ite (fset_keeps h0 rfl (sub_trans rfl w)) (tieReserved_keeps w (upd_tie (sub_trans rfl w) h0))

theorem setHost_keeps {s0 : From} {a0 a1 a2 a3} (w : sub 22631091343185858150499614720 s0.W = true) (h0 : Keeps s0 a0) : Keeps s0 (setHost a0 a1 a2 a3) := by
  refine rput_keeps h0 (by cases a1 <;> exact (sub_trans rfl w)) (fun c => Reg.holds_bset (c.holds _ _) ?_)
  cases a1 <;> exact fun j h1 h2 => Fld.ok_mask (f := ⟨_, 0, 16⟩) rfl h1 h2

theorem ringCtlWrite_keeps {s0 : From} {a0 a1 a2 a3} (w : sub 33946674793710650749848911872 s0.W = true) (h0 : Keeps s0 a0) : Keeps s0 (ringCtlWrite a0 a1 a2 a3) := by
  unfold ringCtlWrite
  refine Keeps.ite (Keeps.ite (hstErr_keeps (sub_trans rfl w) h0 rfl (sub_trans rfl w)) ?_) (Keeps.ite (ringStart_keeps (sub_trans rfl w) (plain_keeps (sub_trans rfl w) h0 (by cases a1 <;> exact (sub_trans rfl w)))) (plain_keeps (sub_trans rfl w) h0 (by cases a1 <;> exact (sub_trans rfl w))))
  refine rput_keeps h0 (by cases a1 <;> exact (sub_trans rfl w)) (fun c => Reg.holds_bset (c.holds _ _) ?_)
  cases a1 <;> exact fun j h1 h2 => Fld.ok_mask (f := ⟨_, 63, 1⟩) rfl h1 h2

theorem ringBaseWrite_keeps {s0 : From} {a0 a1 a2 a3} (w : sub 5657810614728328044544524288 s0.W = true) (h0 : Keeps s0 a0) : Keeps s0 (ringBaseWrite a0 a1 a2 a3) :=
  Keeps.ite (hstErr_keeps (sub_trans rfl w) h0 rfl (sub_trans rfl w)) (plain_keeps (sub_trans rfl w) h0 (by cases a1 <;> exact (sub_trans rfl w)))

theorem shpClassWrite_keeps {s0 : From} {a0 a1 a2} (w : sub 3450873173395281893717377931138512726225554486085193277581279291768832 s0.W = true) (h0 : Keeps s0 a0) : Keeps s0 (shpClassWrite a0 a1 a2) := by
  unfold shpClassWrite
  extract_lets +onlyGivenNames x5 x6 x7
  clear_value x5 x6 x7
  extract_lets +onlyGivenNames x8
  have h9 : Keeps s0 x8 := Keeps.ite h0 (pqPut_keeps (sub_trans rfl w) h0)
  clear_value x8
  exact plain_keeps (sub_trans rfl w) h9 (sub_trans rfl w)

theorem fabCmdWrite_keeps {s0 : From} {a0 a1} (w : sub 9873027343927236252929815095344103029896415193801479730118000640 s0.W = true) (h0 : Keeps s0 a0) : Keeps s0 (fabCmdWrite a0 a1) := by
  unfold fabCmdWrite
  extract_lets +onlyGivenNames x5
  clear_value x5
  exact Keeps.ite (fset_keeps h0 rfl (sub_trans rfl w)) (fabReserved_keeps (sub_trans rfl w) (upd_fab (sub_trans rfl w) h0))

theorem guardedField_keeps {s0 : From} {a0 a1 a2 a3 a4 a5} (w : sub 0 s0.W = true) (h0 : Keeps s0 a0) (h1 : a2.ok = true) (h2 : sub (bitOf a2.reg) s0.W = true) (h3 : a3.ok = true) (h4 : sub (bitOf a3.reg) s0.W = true) : Keeps s0 (guardedField a0 a1 a2 a3 a4 a5) := by
  unfold guardedField
  have h5 : Keeps s0 (plain a0 a2.reg a4 a5) := plain_keeps w h0 h2
  exact Keeps.ite h5 (fset_keeps (fput_keeps h5 h1 h2) h3 h4)

theorem portCtlWrite_keeps {s0 : From} {a0 a1 a2} (w : sub 631873750011343120187508166102022593913370572403294667543047831552 s0.W = true) (h0 : Keeps s0 a0) : Keeps s0 (portCtlWrite a0 a1 a2) := by
  unfold portCtlWrite
  extract_lets +onlyGivenNames x5
  clear_value x5
  extract_lets +onlyGivenNames x6
  have h7 : Keeps s0 x6 := plain_keeps (sub_trans rfl w) h0 (sub_trans rfl w)
  clear_value x6
  exact Keeps.ite (Keeps.ite (fput_keeps h7 rfl (sub_trans rfl w)) h7) (fput_keeps (linkDown_keeps (sub_trans rfl w) h7) rfl (sub_trans rfl w))

theorem logHeadWrite_keeps {s0 : From} {a0 a1} (w : sub 497808903632843074423112113623526719827116752507110752320776929995594223083834677657600 s0.W = true) (h0 : Keeps s0 a0) : Keeps s0 (logHeadWrite a0 a1) := by
  unfold logHeadWrite
  extract_lets +onlyGivenNames x5 x6 x7 x8
  clear_value x5 x6 x7 x8
  exact Keeps.ite (fput_keeps h0 rfl (sub_trans rfl w)) (fset_keeps h0 rfl (sub_trans rfl w))

theorem gateEnter_keeps {s0 : From} {a0 a1} (w : sub 134799733335753198973335075435098153368185722112702862405535231115264 s0.W = true) (h0 : Keeps s0 a0) : Keeps s0 (gateEnter a0 a1) := by
  unfold gateEnter
  split
  · split
    · exact fset_keeps (fput_keeps h0 rfl (sub_trans rfl w)) rfl (sub_trans rfl w)
    · exact pqPut_keeps (sub_trans rfl w) h0
  · exact h0

theorem shpPortWrite_keeps {s0 : From} {a0 a1 a2} (w : sub 134799733335753198973335075435098153368185722112702862405535231115264 s0.W = true) (h0 : Keeps s0 a0) : Keeps s0 (shpPortWrite a0 a1 a2) := by
  unfold shpPortWrite
  exact gateEnter_keeps w (plain_keeps (sub_trans rfl w) (pqPut_keeps (sub_trans rfl w) h0) (sub_trans rfl w))

theorem twnCtlWrite_keeps {s0 : From} {a0 a1} (w : sub 3323696129467924073438181553689377707020261639842546750498264395843798912918020096 s0.W = true) (h0 : Keeps s0 a0) : Keeps s0 (twnCtlWrite a0 a1) := by
  unfold twnCtlWrite
  extract_lets +onlyGivenNames x5
  clear_value x5
  extract_lets +onlyGivenNames x6
  have h7 : Keeps s0 x6 := guardedField_keeps (sub_trans rfl w) h0 rfl (sub_trans rfl w) rfl (sub_trans rfl w)
  clear_value x6
  exact Keeps.ite (unpair_keeps (sub_trans rfl w) (unpair_keeps (sub_trans rfl w) h7)) h7

theorem rateWrite_keeps {s0 : From} {a0 a1 a2} (w : sub 6582018229284824168619876730229402019930943462534319453394436096 s0.W = true) (h0 : Keeps s0 a0) (h1 : sub (bitOf a1) s0.W = true) : Keeps s0 (rateWrite a0 a1 a2) := by
  unfold rateWrite
  extract_lets +onlyGivenNames x5
  have h6 : Keeps s0 x5 := plain_keeps (sub_trans rfl w) h0 h1
  clear_value x5
  exact Keeps.ite h6 (fset_keeps h0 rfl (sub_trans rfl w))

theorem policerWrite_keeps {s0 : From} {a0 a1 a2 a3} (w : sub 26959946667150639794667015087019630673637144422540572481120790118400 s0.W = true) (h0 : Keeps s0 a0) (h1 : sub (bitOf a1) s0.W = true) : Keeps s0 (policerWrite a0 a1 a2 a3) := by
  unfold policerWrite
  extract_lets +onlyGivenNames x5
  have h6 : Keeps s0 x5 := plain_keeps (sub_trans rfl w) h0 h1
  clear_value x5
  exact Keeps.ite (pqPut_keeps (sub_trans rfl w) h6) (fset_keeps h0 rfl (sub_trans rfl w))

theorem rowCmdWrite_keeps {s0 : From} {a0 a1} (w : sub 395096506629486971295511342937189086401706730232741888 s0.W = true) (h0 : Keeps s0 a0) : Keeps s0 (rowCmdWrite a0 a1) := by
  unfold rowCmdWrite
  extract_lets +onlyGivenNames x5
  clear_value x5
  exact Keeps.ite (fset_keeps h0 rfl (sub_trans rfl w)) (rowReserved_keeps (sub_trans rfl w) (upd_rows (sub_trans rfl w) h0))

theorem regWrite_keeps {s0 : From} {a0 a1 a2 a3} (w : sub 4271974071841820164790043412339104229205409044713305539894083215644439451561262653302949975883550 s0.W = true) (h0 : Keeps s0 a0) (h1 : sub (bitOf a1) s0.W = true) : Keeps s0 (regWrite a0 a1 a2 a3) := by
  unfold regWrite
  split
  · exact glbReset_keeps (sub_trans rfl w) h0
  · exact Keeps.ite (plain_keeps (sub_trans rfl w) h0 h1) h0
  · exact Keeps.ite (plain_keeps (sub_trans rfl w) h0 h1) h0
  · exact ringBaseWrite_keeps (sub_trans rfl w) h0
  · exact ringCtlWrite_keeps (sub_trans rfl w) h0
  · exact ringBaseWrite_keeps (sub_trans rfl w) h0
  · exact ringCtlWrite_keeps (sub_trans rfl w) h0
  · exact ringBaseWrite_keeps (sub_trans rfl w) h0
  · exact ringCtlWrite_keeps (sub_trans rfl w) h0
  · exact ringBaseWrite_keeps (sub_trans rfl w) h0
  · exact ringCtlWrite_keeps (sub_trans rfl w) h0
  · exact guarded_keeps (sub_trans rfl w) h0 rfl (sub_trans rfl w) h1
  · exact queueCtxCmd_keeps (sub_trans rfl w) h0
  · exact partCtl_keeps (sub_trans rfl w) h0
  · exact guarded_keeps (sub_trans rfl w) h0 rfl (sub_trans rfl w) h1
  · exact ratioWrite_keeps (sub_trans rfl w) h0
  · exact guarded_keeps (sub_trans rfl w) h0 rfl (sub_trans rfl w) h1
  · exact guarded_keeps (sub_trans rfl w) h0 rfl (sub_trans rfl w) h1
  · exact guarded_keeps (sub_trans rfl w) h0 rfl (sub_trans rfl w) h1
  · exact guarded_keeps (sub_trans rfl w) h0 rfl (sub_trans rfl w) h1
  · exact ctxPeekSel_keeps (sub_trans rfl w) h0
  · exact Keeps.ite (plain_keeps (sub_trans rfl w) h0 h1) h0
  · exact Keeps.ite (plain_keeps (sub_trans rfl w) h0 h1) h0
  · exact Keeps.ite (plain_keeps (sub_trans rfl w) h0 h1) h0
  · exact Keeps.ite (plain_keeps (sub_trans rfl w) h0 h1) h0
  · exact pfxInval_keeps (sub_trans rfl w) h0
  · exact guarded_keeps (sub_trans rfl w) h0 rfl (sub_trans rfl w) h1
  · exact guarded_keeps (sub_trans rfl w) h0 rfl (sub_trans rfl w) h1
  · exact guarded_keeps (sub_trans rfl w) h0 rfl (sub_trans rfl w) h1
  · exact tieCtlWrite_keeps (sub_trans rfl w) h0
  · exact guarded_keeps (sub_trans rfl w) h0 rfl (sub_trans rfl w) h1
  · exact guarded_keeps (sub_trans rfl w) h0 rfl (sub_trans rfl w) h1
  · exact guarded_keeps (sub_trans rfl w) h0 rfl (sub_trans rfl w) h1
  · exact guarded_keeps (sub_trans rfl w) h0 rfl (sub_trans rfl w) h1
  · exact tieCmdWrite_keeps (sub_trans rfl w) h0
  · exact tieWinCtl_keeps (sub_trans rfl w) h0
  · exact guarded_keeps (sub_trans rfl w) h0 rfl (sub_trans rfl w) h1
  · exact guarded_keeps (sub_trans rfl w) h0 rfl (sub_trans rfl w) h1
  · exact guarded_keeps (sub_trans rfl w) h0 rfl (sub_trans rfl w) h1
  · exact guarded_keeps (sub_trans rfl w) h0 rfl (sub_trans rfl w) h1
  · exact guarded_keeps (sub_trans rfl w) h0 rfl (sub_trans rfl w) h1
  · exact rowCmdWrite_keeps (sub_trans rfl w) h0
  · exact guarded_keeps (sub_trans rfl w) h0 rfl (sub_trans rfl w) h1
  · exact guarded_keeps (sub_trans rfl w) h0 rfl (sub_trans rfl w) h1
  · exact flsCmdWrite_keeps (sub_trans rfl w) h0
  · exact Keeps.ite (hlogSnap_keeps (sub_trans rfl w) h0) h0
  · exact guarded_keeps (sub_trans rfl w) h0 rfl (sub_trans rfl w) h1
  · exact guarded_keeps (sub_trans rfl w) h0 rfl (sub_trans rfl w) h1
  · exact guarded_keeps (sub_trans rfl w) h0 rfl (sub_trans rfl w) h1
  · exact guarded_keeps (sub_trans rfl w) h0 rfl (sub_trans rfl w) h1
  · exact guarded_keeps (sub_trans rfl w) h0 rfl (sub_trans rfl w) h1
  · exact guarded_keeps (sub_trans rfl w) h0 rfl (sub_trans rfl w) h1
  · exact guarded_keeps (sub_trans rfl w) h0 rfl (sub_trans rfl w) h1
  · exact rateWrite_keeps (sub_trans rfl w) h0 h1
  · exact rateWrite_keeps (sub_trans rfl w) h0 h1
  · exact fabCmdWrite_keeps (sub_trans rfl w) h0
  · exact timeAdj_keeps (sub_trans rfl w) h0
  · exact portCtlWrite_keeps (sub_trans rfl w) h0
  · exact shpPortWrite_keeps (sub_trans rfl w) h0
  · exact guarded_keeps (sub_trans rfl w) h0 rfl (sub_trans rfl w) h1
  · exact guarded_keeps (sub_trans rfl w) h0 rfl (sub_trans rfl w) h1
  · exact guarded_keeps (sub_trans rfl w) h0 rfl (sub_trans rfl w) h1
  · exact shpClassWrite_keeps (sub_trans rfl w) h0
  · exact policerWrite_keeps (sub_trans rfl w) h0 h1
  · exact policerWrite_keeps (sub_trans rfl w) h0 h1
  · exact latStat_keeps (sub_trans rfl w) (guardedField_keeps (sub_trans rfl w) h0 rfl (sub_trans rfl w) rfl (sub_trans rfl w))
  · exact latDoorbell_keeps (sub_trans rfl w) h0
  · exact latStat_keeps (sub_trans rfl w) (guarded_keeps (sub_trans rfl w) h0 rfl (sub_trans rfl w) h1)
  · exact guarded_keeps (sub_trans rfl w) h0 rfl (sub_trans rfl w) h1
  · exact latWinCtl_keeps (sub_trans rfl w) h0
  · exact guarded_keeps (sub_trans rfl w) h0 rfl (sub_trans rfl w) h1
  · exact cmpReserved_keeps (sub_trans rfl w) (plain_keeps (sub_trans rfl w) h0 h1)
  · exact cmpCmdWrite_keeps (sub_trans rfl w) h0
  · exact mtrSnap_keeps (sub_trans rfl w) h0
  · exact twnCtlWrite_keeps (sub_trans rfl w) h0
  · exact guarded_keeps (sub_trans rfl w) h0 rfl (sub_trans rfl w) h1
  · exact twnCmd_keeps (sub_trans rfl w) h0
  · exact guarded_keeps (sub_trans rfl w) h0 rfl (sub_trans rfl w) h1
  · exact guarded_keeps (sub_trans rfl w) h0 rfl (sub_trans rfl w) h1
  · exact intLogBase_keeps (sub_trans rfl w) h0
  · exact logHeadWrite_keeps (sub_trans rfl w) h0
  · exact intCmd_keeps (sub_trans rfl w) h0
  · exact secCmd_keeps (sub_trans rfl w) h0
  · exact secQuote_keeps (sub_trans rfl w) h0
  · exact Keeps.ite h0 (plain_keeps (sub_trans rfl w) h0 h1)
  · exact clkCtl_keeps (sub_trans rfl w) h0
  · exact plain_keeps (sub_trans rfl w) h0 h1

end Sys2Proof.Machine
end

