-- ==== Sys2Proof/Laws/KeepsRegAccess.lean ====
section
/-!
SUPPORT. What the operations of `Sys2Proof.Machine.RegAccess` keep (`Sys2Proof.Machine.Keeps`): one lemma for each.
-/

namespace Sys2Proof.Machine

theorem regRead_keeps {s0 : From} {a0 a1 a2} (w : sub 0 s0.W = true) (h0 : Keeps s0 a0) (h1 : sub (bitOf a1) s0.W = true) : Keeps s0 (regRead a0 a1 a2).2 :=
  rput_keeps h0 h1 (fun c => Reg.holds_w64 (rcCleared_holds (Reg.holdsNat_toNat (c.holds _ _)) a1.fields_ok))

theorem counted_keeps {s0 : From} {a0 a1 a2} (w : sub 2152674434639042192413732813249001740498038151437564119712252870383330817388301804320016478766080 s0.W = true) (h0 : Keeps s0 a0) (h1 : sub (bitOf a1) s0.W = true) : Keeps s0 (counted a0 a1 a2) := by
  unfold counted
  exact Keeps.ite (xstallFix_keeps (sub_trans rfl w) h0) (Keeps.ite (busyFix_keeps (sub_trans rfl w) h0) h0)

theorem hostRead_keeps {s0 : From} {a0 a1 a2} (w : sub 4271974071841820164790043412339104229205409044713305539894083215644439451561262653301850464846850 s0.W = true) (h0 : Keeps s0 a0) : Keeps s0 (hostRead a0 a1 a2).2 := by
  unfold hostRead
  extract_lets +onlyGivenNames x5
  clear_value x5
  split
  · exact Keeps.snd (bump_keeps (sub_trans rfl w) h0)
  · split
    · split
      · exact h0
      · exact regRead_keeps (sub_trans rfl w) (counted_keeps (sub_trans rfl w) h0 (sub_any rfl w)) (sub_any rfl w)
    · exact h0
    · exact h0
    · exact h0
    · exact h0

theorem msixWrite_keeps {s0 : From} {a0 a1 a2 a3} (w : sub 549757911040 s0.W = true) (h0 : Keeps s0 a0) : Keeps s0 (msixWrite a0 a1 a2 a3) := by
  unfold msixWrite
  extract_lets +onlyGivenNames x5 x6
  clear_value x5 x6
  extract_lets +onlyGivenNames x7
  have h8 : Keeps s0 x7 := upd_host (sub_trans rfl w) h0
  clear_value x7
  extract_lets +onlyGivenNames x9
  clear_value x9
  exact Keeps.ite (irq_keeps w (upd_host (sub_trans rfl w) h8)) h8

theorem misaligned_keeps {s0 : From} {a0 a1 a2} (w : sub 113336795589421243039744 s0.W = true) (h0 : Keeps s0 a0) : Keeps s0 (misaligned a0 a1 a2) := by
  unfold misaligned
  extract_lets +onlyGivenNames x5
  have h6 : Keeps s0 x5 := fput_keeps (hstErr_keeps (sub_trans rfl w) h0 rfl (sub_trans rfl w)) rfl (sub_trans rfl w)
  clear_value x5
  exact Keeps.ite h6 (upd_out (sub_trans rfl w) h6)

theorem execMisalignedAccess_keeps {s0 : From} {a0 a1 a2 a3} (w : sub 113336795589421243039744 s0.W = true) (h0 : Keeps s0 a3) : KeepsOut s0 (execMisalignedAccess a0 a1 a2 a3) := by
  unfold execMisalignedAccess
  exact KeepsOut.next (Keeps.ite h0 (misaligned_keeps w h0))

theorem execRcFieldRead_keeps {s0 : From} {a0 a1 a2} (w : sub 4271974071841820164790043412339104229205409044713305539894083215644439451561262653302400220660738 s0.W = true) (h0 : Keeps s0 a2) : KeepsOut s0 (execRcFieldRead a0 a1 a2) := by
  unfold execRcFieldRead
  refine KeepsOut.next ?_
  refine Keeps.ite h0 ?_
  extract_lets +onlyGivenNames x5
  have h6 : Keeps s0 x5.2 := hostRead_keeps (sub_trans rfl w) h0
  clear_value x5
  extract_lets +onlyGivenNames x7
  have h8 : Keeps s0 x7 := h6
  clear_value x7
  exact upd_out (sub_trans rfl w) h8

end Sys2Proof.Machine
end

