-- ==== Sys2Proof/Laws/KeepsMctp.lean ====
section
/-!
SUPPORT. What the operations of `Sys2Proof.Machine.Mctp` keep (`Sys2Proof.Machine.Keeps`): one lemma for each.
-/

namespace Sys2Proof.Machine

theorem mctpRefuse_keeps {s0 : From} {a0 a1} (w : sub 549755813890 s0.W = true) (h0 : Keeps s0 a0) : Keeps s0 (mctpRefuse a0 a1) := by
  unfold mctpRefuse
  extract_lets +onlyGivenNames x5
  clear_value x5
  extract_lets +onlyGivenNames x6
  have h7 : Keeps s0 x6 := bump_keeps (sub_trans rfl w) h0
  clear_value x6
  exact Keeps.ite h7 (upd_out (sub_trans rfl w) h7)

theorem mctp_keeps {s0 : From} {a0 a1} (w : sub 0 s0.W = true) (h0 : Keeps s0 a0) (h1 : ∀ x00, Keeps s0 x00 → Keeps s0 (a1 x00)) : KeepsOut s0 (mctp a0 a1) := by
  unfold mctp
  exact KeepsOut.next (Keeps.ite (h1 _ h0) h0)

theorem mctpAnswer_keeps {s0 : From} {a0 a1 a2} (w : sub 549755813888 s0.W = true) (h0 : Keeps s0 a0) : Keeps s0 (mctpAnswer a0 a1 a2) := by
  unfold mctpAnswer
  exact Keeps.ite h0 (upd_out (sub_trans rfl w) h0)

theorem execReadReg_keeps {s0 : From} {a0 a1} (w : sub 4271974071841820164790043412339104229205409044713305539894083215644439451561262653302400222757890 s0.W = true) (h0 : Keeps s0 a1) : KeepsOut s0 (execReadReg a0 a1) := by
  unfold execReadReg
  refine mctp_keeps (sub_trans rfl w) h0 ?_
  refine fun x5 h6 => ?_
  refine Keeps.ite (mctpRefuse_keeps (sub_trans rfl w) h6) ?_
  refine Keeps.ite (mctpAnswer_keeps (sub_trans rfl w) (fput_keeps (hstErr_keeps (sub_trans rfl w) h6 rfl (sub_trans rfl w)) rfl (sub_trans rfl w))) ?_
  extract_lets +onlyGivenNames x7
  have h8 : Keeps s0 x7.2 := hostRead_keeps (sub_trans rfl w) h6
  clear_value x7
  exact mctpAnswer_keeps (sub_trans rfl w) h8

theorem execSetEndpointId_keeps {s0 : From} {a0 a1} (w : sub 2417851639229808105226242 s0.W = true) (h0 : Keeps s0 a1) : KeepsOut s0 (execSetEndpointId a0 a1) := by
  unfold execSetEndpointId
  exact mctp_keeps (sub_trans rfl w) h0 (fun x5 h6 => (Keeps.ite (mctpRefuse_keeps (sub_trans rfl w) h6) (mctpAnswer_keeps (sub_trans rfl w) (fput_keeps h6 rfl (sub_trans rfl w)))))

theorem execGetThermal_keeps {s0 : From} {a0} (w : sub 549755813888 s0.W = true) (h0 : Keeps s0 a0) : KeepsOut s0 (execGetThermal a0) := by
  unfold execGetThermal
  exact mctp_keeps (sub_trans rfl w) h0 (fun x5 h6 => (mctpAnswer_keeps w h6))

theorem execSetPowerLimit_keeps {s0 : From} {a0 a1} (w : sub 549755815938 s0.W = true) (h0 : Keeps s0 a1) : KeepsOut s0 (execSetPowerLimit a0 a1) := by
  unfold execSetPowerLimit
  exact mctp_keeps (sub_trans rfl w) h0 (fun x5 h6 => (Keeps.ite (mctpRefuse_keeps (sub_trans rfl w) h6) (mctpAnswer_keeps (sub_trans rfl w) (setLimit_keeps (sub_trans rfl w) h6))))

theorem execGetIdentity_keeps {s0 : From} {a0} (w : sub 549755813888 s0.W = true) (h0 : Keeps s0 a0) : KeepsOut s0 (execGetIdentity a0) := by
  unfold execGetIdentity
  exact mctp_keeps (sub_trans rfl w) h0 (fun x5 h6 => (mctpAnswer_keeps w h6))

theorem execGetEndpointId_keeps {s0 : From} {a0} (w : sub 549755813888 s0.W = true) (h0 : Keeps s0 a0) : KeepsOut s0 (execGetEndpointId a0) := by
  unfold execGetEndpointId
  exact mctp_keeps (sub_trans rfl w) h0 (fun x5 h6 => (mctpAnswer_keeps w h6))

theorem execMctpReset_keeps {s0 : From} {a0 a1} (w : sub 4271974071841820164790043412339104229205409044713305539894083215644439451561262653302949975850782 s0.W = true) (h0 : Keeps s0 a1) : KeepsOut s0 (execMctpReset a0 a1) := by
  unfold execMctpReset
  exact mctp_keeps (sub_trans rfl w) h0 (fun x5 h6 => (Keeps.ite (askedReset_keeps w (mctpAnswer_keeps (sub_trans rfl w) h6)) (mctpRefuse_keeps (sub_trans rfl w) h6)))

theorem execGetMessageTypeSupport_keeps {s0 : From} {a0} (w : sub 549755813888 s0.W = true) (h0 : Keeps s0 a0) : KeepsOut s0 (execGetMessageTypeSupport a0) := by
  unfold execGetMessageTypeSupport
  exact mctp_keeps (sub_trans rfl w) h0 (fun x5 h6 => (mctpAnswer_keeps w h6))

theorem execGetMctpVersionSupport_keeps {s0 : From} {a0} (w : sub 549755813890 s0.W = true) (h0 : Keeps s0 a0) : KeepsOut s0 (execGetMctpVersionSupport a0) := by
  unfold execGetMctpVersionSupport
  exact mctp_keeps (sub_trans rfl w) h0 (fun x5 h6 => (mctpAnswer_keeps (sub_trans rfl w) (bump_keeps (sub_trans rfl w) h6)))

theorem execGetPower_keeps {s0 : From} {a0} (w : sub 549755813888 s0.W = true) (h0 : Keeps s0 a0) : KeepsOut s0 (execGetPower a0) := by
  unfold execGetPower
  exact mctp_keeps (sub_trans rfl w) h0 (fun x5 h6 => (mctpAnswer_keeps w h6))

theorem execGetHealth_keeps {s0 : From} {a0} (w : sub 549755813888 s0.W = true) (h0 : Keeps s0 a0) : KeepsOut s0 (execGetHealth a0) := by
  unfold execGetHealth
  exact mctp_keeps (sub_trans rfl w) h0 (fun x5 h6 => (mctpAnswer_keeps w h6))

end Sys2Proof.Machine
end

