-- ==== Sys2Proof/Laws/KeepsRings.lean ====
section
/-!
SUPPORT. What the operations of `Sys2Proof.Machine.Rings` keep (`Sys2Proof.Machine.Keeps`): one lemma for each.
-/

namespace Sys2Proof.Machine

theorem spillDrain_keeps {s0 : From} {a0 a1} (w : sub 309636125548797447129563136 s0.W = true) (h0 : Keeps s0 a0) : Keeps s0 (spillDrain a0 a1) := by
  unfold spillDrain
  refine Keeps.ite h0 ?_
  split
  · exact h0
  · extract_lets +onlyGivenNames x5 x6
    clear_value x5 x6
    exact cplWrite_keeps (sub_trans rfl w) (setSpill_keeps (sub_trans rfl w) h0)

theorem execCoalesceTimer_keeps {s0 : From} {a0 a1} (w : sub 549757911040 s0.W = true) (h0 : Keeps s0 a1) : KeepsOut s0 (execCoalesceTimer a0 a1) := by
  unfold execCoalesceTimer
  exact KeepsOut.next (Keeps.ite (cplSignal_keeps w h0) h0)

theorem doorbell_keeps {s0 : From} {a0 a1 a2 a3 a4} (w : sub 37778931863506919620608 s0.W = true) (h0 : Keeps s0 a0) (h1 : ∀ x00 x01, Keeps s0 x00 → Keeps s0 (a4 x00 x01)) : Keeps s0 (doorbell a0 a1 a2 a3 a4) := by
  unfold doorbell
  extract_lets +onlyGivenNames x5
  clear_value x5
  exact Keeps.ite h0 (Keeps.ite (hstErr_keeps (sub_trans rfl w) h0 rfl (sub_trans rfl w)) (h1 _ _ h0))

theorem txPut_keeps {s0 : From} {a0 a1 a2} (w : sub 2097152 s0.W = true) (h0 : Keeps s0 a0) : Keeps s0 (txPut a0 a1 a2) := by
  unfold txPut
  exact upd_host (sub_trans rfl w) h0

theorem txTake_keeps {s0 : From} {a0 a1} (w : sub 19807040628566084415567953920 s0.W = true) (h0 : Keeps s0 a0) : Keeps s0 (txTake a0 a1) := by
  unfold txTake
  extract_lets +onlyGivenNames x5 x6 x7 x8 x9 x10 x11 x12 x13 x14 x15
  clear_value x5 x6 x7 x8 x9 x10 x11 x12 x13 x14 x15
  extract_lets +onlyGivenNames x16
  have h17 : Keeps s0 x16 := fput_keeps h0 rfl (sub_trans rfl w)
  clear_value x16
  extract_lets +onlyGivenNames x18
  have h19 : Keeps s0 x18 := Keeps.ite (fput_keeps h17 rfl (sub_trans rfl w)) h17
  clear_value x18
  extract_lets +onlyGivenNames x20
  have h21 : Keeps s0 x20 := txPut_keeps (sub_trans rfl w) h19
  clear_value x20
  refine Keeps.ite h21 ?_
  extract_lets +onlyGivenNames x22 x23
  clear_value x22 x23
  exact Keeps.ite (pushPriv_keeps (sub_trans rfl w) h21) (pushLeaf_keeps (sub_trans rfl w) h21)

theorem txTakes_keeps {s0 : From} {a0 a1 a2} (w : sub 19807040628566084415567953920 s0.W = true) (h0 : Keeps s0 a0) : Keeps s0 (txTakes a0 a1 a2) := by
  induction a2 generalizing a0 a1 with
  | zero =>
    unfold txTakes
    exact h0
  | succ n ih =>
    unfold txTakes
    exact Keeps.ite h0 (ih (txTake_keeps w h0))

theorem txBell_keeps {s0 : From} {a0 a1 a2} (w : sub 22631129122117721674599104512 s0.W = true) (h0 : Keeps s0 a0) : Keeps s0 (txBell a0 a1 a2) := by
  unfold txBell
  exact doorbell_keeps (sub_trans rfl w) h0 (fun x5 x6 h7 => (txTakes_keeps (sub_trans rfl w) (setHost_keeps (sub_trans rfl w) h7)))

theorem execTxTailDoorbell_keeps {s0 : From} {a0 a1 a2} (w : sub 22631129122117721674599104512 s0.W = true) (h0 : Keeps s0 a2) : KeepsOut s0 (execTxTailDoorbell a0 a1 a2) := by
  unfold execTxTailDoorbell
  exact KeepsOut.next (txBell_keeps w h0)

theorem reqBell_keeps {s0 : From} {a0 a1 a2} (w : sub 22631129122117721657419268096 s0.W = true) (h0 : Keeps s0 a0) : Keeps s0 (reqBell a0 a1 a2) := by
  unfold reqBell
  exact doorbell_keeps (sub_trans rfl w) h0 (fun x5 x6 h7 => (reqReserved_keeps (sub_trans rfl w) (setHost_keeps (sub_trans rfl w) h7)))

theorem rxBell_keeps {s0 : From} {a0 a1 a2} (w : sub 22631129122117721657419268096 s0.W = true) (h0 : Keeps s0 a0) : Keeps s0 (rxBell a0 a1 a2) := by
  unfold rxBell
  exact doorbell_keeps (sub_trans rfl w) h0 (fun x5 x6 h7 => (rxFlush_keeps (sub_trans rfl w) (setHost_keeps (sub_trans rfl w) h7)))

theorem execRxTailDoorbell_keeps {s0 : From} {a0 a1 a2} (w : sub 22631129122117721657419268096 s0.W = true) (h0 : Keeps s0 a2) : KeepsOut s0 (execRxTailDoorbell a0 a1 a2) := by
  unfold execRxTailDoorbell
  exact KeepsOut.next (rxBell_keeps w h0)

theorem execRequestDoorbell_keeps {s0 : From} {a0 a1 a2 a3} (w : sub 22631129122117721657419268096 s0.W = true) (h0 : Keeps s0 a3) : KeepsOut s0 (execRequestDoorbell a0 a1 a2 a3) := by
  unfold execRequestDoorbell
  exact KeepsOut.next (reqBell_keeps w h0)

theorem cplBell_keeps {s0 : From} {a0 a1 a2} (w : sub 22631129122117721657419268096 s0.W = true) (h0 : Keeps s0 a0) : Keeps s0 (cplBell a0 a1 a2) := by
  unfold cplBell
  refine doorbell_keeps (sub_trans rfl w) h0 ?_
  refine fun x5 x6 h7 => ?_
  extract_lets +onlyGivenNames x8 x9
  clear_value x8 x9
  extract_lets +onlyGivenNames x10
  have h11 : Keeps s0 x10 := setHost_keeps (sub_trans rfl w) (setCpl_keeps (sub_trans rfl w) h7)
  clear_value x10
  exact Keeps.foldl (fun x12 x13 h14 => (reqReserved_keeps (sub_trans rfl w) h14)) _ h11

theorem txDone_keeps {s0 : From} {a0 a1} (w : sub 549757943808 s0.W = true) (h0 : Keeps s0 a0) : Keeps s0 (txDone a0 a1) := by
  unfold txDone
  refine Keeps.ite h0 ?_
  split
  · exact h0
  · extract_lets +onlyGivenNames x5 x6
    clear_value x5 x6
    extract_lets +onlyGivenNames x7
    have h8 : Keeps s0 x7 := txPut_keeps (sub_trans rfl w) h0
    clear_value x7
    extract_lets +onlyGivenNames x9
    have h10 : Keeps s0 x9 := hostWrite_keeps (sub_trans rfl w) (hostWrite_keeps (sub_trans rfl w) h8)
    clear_value x9
    exact irq_keeps (sub_trans rfl w) h10

theorem bellWrite_keeps {s0 : From} {a0 a1 a2 a3} (w : sub 22631129122117721674599137280 s0.W = true) (h0 : Keeps s0 a0) : Keeps s0 (bellWrite a0 a1 a2 a3) := by
  unfold bellWrite
  exact Keeps.ite (reqBell_keeps (sub_trans rfl w) h0) (Keeps.ite (cplBell_keeps (sub_trans rfl w) h0) (Keeps.ite (rxBell_keeps (sub_trans rfl w) h0) (txBell_keeps (sub_trans rfl w) h0)))

theorem hostRegWrite_keeps {s0 : From} {a0 a1 a2 a3} (w : sub 4271974071841820164790043412339104229205409044713305539894083215644439451561262653302949975883550 s0.W = true) (h0 : Keeps s0 a0) : Keeps s0 (hostRegWrite a0 a1 a2 a3) := by
  unfold hostRegWrite
  extract_lets +onlyGivenNames x5
  have h6 : ∀ x00, Keeps s0 x00 → Keeps s0 (x5 x00) := by
    refine fun x7 h8 => ?_
    unfold x5
    split
    · exact regWrite_keeps w h8 (sub_any rfl w)
    · exact msixWrite_keeps (sub_trans rfl w) h8
    · exact h8
    · exact bellWrite_keeps (sub_trans rfl w) h8
    · exact h8
  clear_value x5
  exact Keeps.ite (Keeps.ite (h6 _ h0) h0) (Keeps.ite h0 (hostGate_keeps (sub_trans rfl w) h0 (fun x9 h10 => (h6 _ h10))))

theorem execRingCtl_keeps {s0 : From} {a0 a1 a2 a3} (w : sub 33946674793710650749848911872 s0.W = true) (h0 : Keeps s0 a3) : KeepsOut s0 (execRingCtl a0 a1 a2 a3) := by
  unfold execRingCtl
  exact KeepsOut.next (Keeps.ite (ringCtlWrite_keeps w h0) h0)

theorem execAtsInvalidation_keeps {s0 : From} {a0 a1 a2} (w : sub 549755813888 s0.W = true) (h0 : Keeps s0 a2) : KeepsOut s0 (execAtsInvalidation a0 a1 a2) := by
  unfold execAtsInvalidation
  exact KeepsOut.next (Keeps.ite (upd_out (sub_trans rfl w) h0) h0)

theorem execSpillDrain_keeps {s0 : From} {a0 a1} (w : sub 309636125548797447129563136 s0.W = true) (h0 : Keeps s0 a1) : KeepsOut s0 (execSpillDrain a0 a1) := by
  unfold execSpillDrain
  exact KeepsOut.next (spillDrain_keeps w h0)

theorem execRegisterWrite_keeps {s0 : From} {a0 a1 a2 a3} (w : sub 4271974071841820164790043412339104229205409044713305539894083215644439451561262653302949975883550 s0.W = true) (h0 : Keeps s0 a3) : KeepsOut s0 (execRegisterWrite a0 a1 a2 a3) := by
  unfold execRegisterWrite
  exact KeepsOut.next (Keeps.ite (Keeps.ite (misaligned_keeps (sub_trans rfl w) h0) h0) (hostRegWrite_keeps w h0))

theorem execTransmitFrameDone_keeps {s0 : From} {a0 a1} (w : sub 549757943808 s0.W = true) (h0 : Keeps s0 a1) : KeepsOut s0 (execTransmitFrameDone a0 a1) := by
  unfold execTransmitFrameDone
  exact KeepsOut.next (txDone_keeps w h0)

theorem execCompletionHeadDoorbell_keeps {s0 : From} {a0 a1 a2 a3} (w : sub 22631129122117721657419268096 s0.W = true) (h0 : Keeps s0 a3) : KeepsOut s0 (execCompletionHeadDoorbell a0 a1 a2 a3) := by
  unfold execCompletionHeadDoorbell
  exact KeepsOut.next (cplBell_keeps w h0)

end Sys2Proof.Machine
end

