-- ==== Sys2Proof/Laws/Frame.lean ====
section
/-!
SUPPORT. The frame of every command: what its write set does not name, it leaves as it was.
-/

namespace Sys2Proof.Machine

/-- A write set as a mask. -/
def maskOf (w : List SField × List Reg) : Nat :=
  w.1.foldr (fun f a => Nat.lor (2 ^ f.num) a) (w.2.foldr (fun r a => Nat.lor (bitOf r) a) (cond (w.1.any (fun f => Nat.beq f.num 4)) allRegs 0))

theorem SField.num_lt (f : SField) : f.num < 40 := by cases f <;> decide

theorem fields_bit (a : Nat) (l : List SField) (f : SField) (h : f ∉ l) (ha : a.testBit f.num = false) :
    (l.foldr (fun f a => Nat.lor (2 ^ f.num) a) a).testBit f.num = false := by
  induction l with
  | nil => exact ha
  | cons g l ih =>
    simp only [List.mem_cons, not_or] at h
    have : g.num ≠ f.num := fun e => h.1 (by revert e; cases f <;> cases g <;> decide)
    simpa [List.foldr, Nat.testBit_or, Nat.testBit_two_pow, this] using ih h.2

theorem fields_high (a k : Nat) (hk : 40 ≤ k) (l : List SField) (ha : a.testBit k = false) :
    (l.foldr (fun f a => Nat.lor (2 ^ f.num) a) a).testBit k = false := by
  induction l with
  | nil => exact ha
  | cons g l ih =>
    have : g.num ≠ k := fun e => by have := g.num_lt; omega
    simpa [List.foldr, Nat.testBit_or, Nat.testBit_two_pow, this] using ih

theorem regs_bit (a k : Nat) (l : List Reg) (h : ∀ r ∈ l, 64 + r.num ≠ k) (ha : a.testBit k = false) :
    (l.foldr (fun r a => Nat.lor (bitOf r) a) a).testBit k = false := by
  induction l with
  | nil => exact ha
  | cons g l ih =>
    have := h g (List.mem_cons_self)
    simpa [List.foldr, Nat.testBit_or, bitOf_eq, Nat.testBit_two_pow, this] using ih (fun r hr => h r (List.mem_cons_of_mem _ hr))

/-- A field outside a mask is the same in states that agree outside the mask. -/
theorem view_same {W : Nat} {s t : State} (h : t.view W = s.view W) (f : SField) (hf : W.testBit f.num = false) (hr : f ≠ .regs) :
    f.same s t := by
  cases f
  · have e := congrArg State.pending h; simp only [State.view] at e; change W.testBit 0 = false at hf; rw [hf] at e; exact e
  · have e := congrArg State.fresh h; simp only [State.view] at e; change W.testBit 1 = false at hf; rw [hf] at e; exact e
  · have e := congrArg State.now h; simp only [State.view] at e; change W.testBit 2 = false at hf; rw [hf] at e; exact e
  · have e := congrArg State.gtime h; simp only [State.view] at e; change W.testBit 3 = false at hf; rw [hf] at e; exact e
  · exact absurd rfl hr
  · have e := congrArg State.fuse h; simp only [State.view] at e; change W.testBit 5 = false at hf; rw [hf] at e; exact e
  · have e := congrArg State.image0 h; simp only [State.view] at e; change W.testBit 6 = false at hf; rw [hf] at e; exact e
  · have e := congrArg State.image1 h; simp only [State.view] at e; change W.testBit 7 = false at hf; rw [hf] at e; exact e
  · have e := congrArg State.pins h; simp only [State.view] at e; change W.testBit 8 = false at hf; rw [hf] at e; exact e
  · have e := congrArg State.keys h; simp only [State.view] at e; change W.testBit 9 = false at hf; rw [hf] at e; exact e
  · have e := congrArg State.isl h; simp only [State.view] at e; change W.testBit 10 = false at hf; rw [hf] at e; exact e
  · have e := congrArg State.gov h; simp only [State.view] at e; change W.testBit 11 = false at hf; rw [hf] at e; exact e
  · have e := congrArg State.age h; simp only [State.view] at e; change W.testBit 12 = false at hf; rw [hf] at e; exact e
  · have e := congrArg State.mem h; simp only [State.view] at e; change W.testBit 13 = false at hf; rw [hf] at e; exact e
  · have e := congrArg State.syn h; simp only [State.view] at e; change W.testBit 14 = false at hf; rw [hf] at e; exact e
  · have e := congrArg State.hostMem h; simp only [State.view] at e; change W.testBit 15 = false at hf; rw [hf] at e; exact e
  · have e := congrArg State.hostBad h; simp only [State.view] at e; change W.testBit 16 = false at hf; rw [hf] at e; exact e
  · have e := congrArg State.tie h; simp only [State.view] at e; change W.testBit 17 = false at hf; rw [hf] at e; exact e
  · have e := congrArg State.int0 h; simp only [State.view] at e; change W.testBit 18 = false at hf; rw [hf] at e; exact e
  · have e := congrArg State.til h; simp only [State.view] at e; change W.testBit 19 = false at hf; rw [hf] at e; exact e
  · have e := congrArg State.shf h; simp only [State.view] at e; change W.testBit 20 = false at hf; rw [hf] at e; exact e
  · have e := congrArg State.host h; simp only [State.view] at e; change W.testBit 21 = false at hf; rw [hf] at e; exact e
  · have e := congrArg State.sch h; simp only [State.view] at e; change W.testBit 22 = false at hf; rw [hf] at e; exact e
  · have e := congrArg State.ctx h; simp only [State.view] at e; change W.testBit 23 = false at hf; rw [hf] at e; exact e
  · have e := congrArg State.descBad h; simp only [State.view] at e; change W.testBit 24 = false at hf; rw [hf] at e; exact e
  · have e := congrArg State.cows h; simp only [State.view] at e; change W.testBit 25 = false at hf; rw [hf] at e; exact e
  · have e := congrArg State.bnk h; simp only [State.view] at e; change W.testBit 26 = false at hf; rw [hf] at e; exact e
  · have e := congrArg State.pools h; simp only [State.view] at e; change W.testBit 27 = false at hf; rw [hf] at e; exact e
  · have e := congrArg State.fab h; simp only [State.view] at e; change W.testBit 28 = false at hf; rw [hf] at e; exact e
  · have e := congrArg State.rows h; simp only [State.view] at e; change W.testBit 29 = false at hf; rw [hf] at e; exact e
  · have e := congrArg State.flash h; simp only [State.view] at e; change W.testBit 30 = false at hf; rw [hf] at e; exact e
  · have e := congrArg State.lat h; simp only [State.view] at e; change W.testBit 31 = false at hf; rw [hf] at e; exact e
  · have e := congrArg State.cmp h; simp only [State.view] at e; change W.testBit 32 = false at hf; rw [hf] at e; exact e
  · have e := congrArg State.meter h; simp only [State.view] at e; change W.testBit 33 = false at hf; rw [hf] at e; exact e
  · have e := congrArg State.port h; simp only [State.view] at e; change W.testBit 34 = false at hf; rw [hf] at e; exact e
  · have e := congrArg State.twin h; simp only [State.view] at e; change W.testBit 35 = false at hf; rw [hf] at e; exact e
  · have e := congrArg State.start h; simp only [State.view] at e; change W.testBit 36 = false at hf; rw [hf] at e; exact e
  · have e := congrArg State.sec h; simp only [State.view] at e; change W.testBit 37 = false at hf; rw [hf] at e; exact e
  · have e := congrArg State.stamp h; simp only [State.view] at e; change W.testBit 38 = false at hf; rw [hf] at e; exact e
  · have e := congrArg State.out h; simp only [State.view] at e; change W.testBit 39 = false at hf; rw [hf] at e; exact e

theorem Reg.num_inj {q r : Reg} (h : q.num = r.num) : q = r := by
  rw [← all_getD_num q, ← all_getD_num r, h]

/-- A part outside the mask is unchanged. -/
theorem Keeps.same {W : Nat} {s t : State} (h : Keeps ⟨W, s⟩ t) (f : SField) (hf : W.testBit f.num = false) (hr : f ≠ .regs) :
    f.same s t := view_same h.view f hf hr

/-- A register outside the mask is unchanged. -/
theorem Keeps.reg {W : Nat} {s t : State} (h : Keeps ⟨W, s⟩ t) (r : Reg) (i : Nat) (h4 : W.testBit 4 = false)
    (hr : W.testBit (64 + r.num) = false) : rword t r i = rword s r i := h.regs h4 r i hr

/-- What a write set does not name is unchanged. -/
theorem Keeps.changedIn {w : List SField × List Reg} {s t : State} (h : Keeps ⟨maskOf w, s⟩ t) : s.changedIn w.1 w.2 t := by
  have low (f : SField) : (cond (w.1.any (fun f => Nat.beq f.num 4)) allRegs 0).testBit f.num = false := by
    cases w.1.any (fun f => Nat.beq f.num 4) <;> cases f <;> rfl
  have hne (f : SField) : ∀ r ∈ w.2, 64 + r.num ≠ f.num := fun r _ => by have := f.num_lt; omega
  refine ⟨fun f hf hr => view_same h.view f ?_ hr, fun hf r i hr => h.regs ?_ r i ?_⟩
  · exact fields_bit _ _ f hf (regs_bit _ _ _ (hne f) (low f))
  · exact fields_bit _ _ .regs hf (regs_bit _ _ _ (hne .regs) (low .regs))
  · have e : w.1.any (fun f => Nat.beq f.num 4) = false := by
      rw [List.any_eq_false]
      intro x hx he
      exact hf (by have : x = .regs := by revert he; cases x <;> decide
                   exact this ▸ hx)
    refine fields_high _ _ (by omega) _ (regs_bit _ _ _ (fun q hq hn => hr ?_) (by rw [e]; simp))
    have : q = r := by
      have hn : q.num = r.num := by omega
      exact Reg.num_inj hn
    exact this ▸ hq

theorem frame_of {w : List SField × List Reg} {a b} {s : State} {o} {N : Nat} (e : w = (a, b))
    (h : ∀ W, sub N W = true → KeepsOut ⟨W, s⟩ o) (n : sub N (maskOf (a, b)) = true) :
    KeepsOut ⟨maskOf w, s⟩ o := e ▸ h _ n

/-- A command keeps all that its write set does not name, the queue, the fuses, the canonical forms and the reserved bits. -/
theorem exec_frame (c : Instr) (s : State) : KeepsOut ⟨maskOf (writeSet c), s⟩ (exec c s) := by
  cases c
  · exact frame_of (N := 4271974071841820164790043412339104229205409044713305539894083215644439451561262653302949975883550) rfl (fun W w => execRegisterWrite_keeps w (Keeps.refl W s)) rfl
  · exact frame_of (N := 113336795589421243039744) rfl (fun W w => execMisalignedAccess_keeps w (Keeps.refl W s)) rfl
  · exact frame_of (N := 4271974071841820164790043412339104229205409044713305539894083215644439451561262653302400220660738) rfl (fun W w => execRcFieldRead_keeps w (Keeps.refl W s)) rfl
  · exact frame_of (N := 3737977312861592644191287985796716200554732914124142347407322813688884520116268536492773329077248) rfl (fun W w => execIslClkCtl_keeps w (Keeps.refl W s)) rfl
  · exact frame_of (N := 3203980553881365123592532559254328171904056783534979154920562411733329588670960825034443130930176) rfl (fun W w => execClockChangeDone_keeps w (Keeps.refl W s)) rfl
  · exact frame_of (N := 2135987035920910082395021706169552114602704522356652769947041607822219725780640550022962086937600) rfl (fun W w => execCrossingDeliver_keeps w (Keeps.refl W s)) rfl
  · exact frame_of (N := 2135987035920910082395021706169552114602704522356652769947041607822219725780640550022962086937600) rfl (fun W w => execCrossing_keeps w (Keeps.refl W s)) rfl
  · exact frame_of (N := 3203980553881365123592532559254328171904056783534979154920562411733329588670960825034444204674306) rfl (fun W w => execGovernorSample_keeps w (Keeps.refl W s)) rfl
  · exact frame_of (N := 3203980553881365123592532559254328171904056783534979154920562411733329588670960825034443130932480) rfl (fun W w => execPowerBrake_keeps w (Keeps.refl W s)) rfl
  · rename_i n; exact frame_of (N := 4271974071841820164790043412339104229205409044713305539894083215644439451561262653302400220036894) rfl (fun W w => execThermalTrip_keeps (a0 := n) w (Keeps.refl W s)) rfl
  · rename_i n; exact frame_of (N := 256) rfl (fun W w => execRailFault_keeps (a0 := n) w (Keeps.refl W s)) rfl
  · exact frame_of (N := 524288) rfl (fun W w => execAddI64_keeps w (Keeps.refl W s)) rfl
  · exact frame_of (N := 524288) rfl (fun W w => execSubI64_keeps w (Keeps.refl W s)) rfl
  · exact frame_of (N := 524288) rfl (fun W w => execAndI64_keeps w (Keeps.refl W s)) rfl
  · exact frame_of (N := 524288) rfl (fun W w => execOrI64_keeps w (Keeps.refl W s)) rfl
  · exact frame_of (N := 524288) rfl (fun W w => execXorI64_keeps w (Keeps.refl W s)) rfl
  · exact frame_of (N := 524288) rfl (fun W w => execShlI64_keeps w (Keeps.refl W s)) rfl
  · exact frame_of (N := 524288) rfl (fun W w => execShrI64_keeps w (Keeps.refl W s)) rfl
  · exact frame_of (N := 524288) rfl (fun W w => execSarI64_keeps w (Keeps.refl W s)) rfl
  · exact frame_of (N := 524288) rfl (fun W w => execMulI64_keeps w (Keeps.refl W s)) rfl
  · exact frame_of (N := 524288) rfl (fun W w => execMulhuI64_keeps w (Keeps.refl W s)) rfl
  · exact frame_of (N := 524288) rfl (fun W w => execDivuI64_keeps w (Keeps.refl W s)) rfl
  · exact frame_of (N := 524288) rfl (fun W w => execRemuI64_keeps w (Keeps.refl W s)) rfl
  · exact frame_of (N := 524288) rfl (fun W w => execMinI64_keeps w (Keeps.refl W s)) rfl
  · exact frame_of (N := 524288) rfl (fun W w => execMaxI64_keeps w (Keeps.refl W s)) rfl
  · exact frame_of (N := 524288) rfl (fun W w => execMinuI64_keeps w (Keeps.refl W s)) rfl
  · exact frame_of (N := 524288) rfl (fun W w => execMaxuI64_keeps w (Keeps.refl W s)) rfl
  · exact frame_of (N := 524288) rfl (fun W w => execClzI64_keeps w (Keeps.refl W s)) rfl
  · exact frame_of (N := 524288) rfl (fun W w => execPopcI64_keeps w (Keeps.refl W s)) rfl
  · exact frame_of (N := 524288) rfl (fun W w => execSelI64_keeps w (Keeps.refl W s)) rfl
  · exact frame_of (N := 524288) rfl (fun W w => execCmpEq_keeps w (Keeps.refl W s)) rfl
  · exact frame_of (N := 524288) rfl (fun W w => execCmpNe_keeps w (Keeps.refl W s)) rfl
  · exact frame_of (N := 524288) rfl (fun W w => execCmpLt_keeps w (Keeps.refl W s)) rfl
  · exact frame_of (N := 524288) rfl (fun W w => execCmpLtu_keeps w (Keeps.refl W s)) rfl
  · exact frame_of (N := 524288) rfl (fun W w => execCmpGe_keeps w (Keeps.refl W s)) rfl
  · exact frame_of (N := 524288) rfl (fun W w => execCmpGeu_keeps w (Keeps.refl W s)) rfl
  · exact frame_of (N := 524288) rfl (fun W w => execAddiI64_keeps w (Keeps.refl W s)) rfl
  · exact frame_of (N := 524288) rfl (fun W w => execAndiI64_keeps w (Keeps.refl W s)) rfl
  · exact frame_of (N := 524288) rfl (fun W w => execOriI64_keeps w (Keeps.refl W s)) rfl
  · exact frame_of (N := 524288) rfl (fun W w => execXoriI64_keeps w (Keeps.refl W s)) rfl
  · exact frame_of (N := 524288) rfl (fun W w => execShliI64_keeps w (Keeps.refl W s)) rfl
  · exact frame_of (N := 524288) rfl (fun W w => execShriI64_keeps w (Keeps.refl W s)) rfl
  · exact frame_of (N := 524288) rfl (fun W w => execSariI64_keeps w (Keeps.refl W s)) rfl
  · exact frame_of (N := 524288) rfl (fun W w => execLdiI64_keeps w (Keeps.refl W s)) rfl
  · exact frame_of (N := 524288) rfl (fun W w => execLdihI64_keeps w (Keeps.refl W s)) rfl
  · exact frame_of (N := 524288) rfl (fun W w => execCmpiEq_keeps w (Keeps.refl W s)) rfl
  · exact frame_of (N := 524288) rfl (fun W w => execCmpiLt_keeps w (Keeps.refl W s)) rfl
  · exact frame_of (N := 524288) rfl (fun W w => execCmpiGe_keeps w (Keeps.refl W s)) rfl
  · exact frame_of (N := 524288) rfl (fun W w => execLdU8_keeps w (Keeps.refl W s)) rfl
  · exact frame_of (N := 524288) rfl (fun W w => execLdU16_keeps w (Keeps.refl W s)) rfl
  · exact frame_of (N := 524288) rfl (fun W w => execLdU32_keeps w (Keeps.refl W s)) rfl
  · exact frame_of (N := 524288) rfl (fun W w => execLd64_keeps w (Keeps.refl W s)) rfl
  · exact frame_of (N := 1572864) rfl (fun W w => execSt8_keeps w (Keeps.refl W s)) rfl
  · exact frame_of (N := 1572864) rfl (fun W w => execSt16_keeps w (Keeps.refl W s)) rfl
  · exact frame_of (N := 1572864) rfl (fun W w => execSt32_keeps w (Keeps.refl W s)) rfl
  · exact frame_of (N := 1572864) rfl (fun W w => execSt64_keeps w (Keeps.refl W s)) rfl
  · exact frame_of (N := 133499189746028214595801721171056738116080792100612001541216170249514639066159486519588568195072) rfl (fun W w => execAmoAdd_keeps w (Keeps.refl W s)) rfl
  · exact frame_of (N := 133499189746028214595801721171056738116080792100612001541216170249514639066159486519588568195072) rfl (fun W w => execAmoSwap_keeps w (Keeps.refl W s)) rfl
  · exact frame_of (N := 133499189746028214595801721171056738116080792100612001541216170249514639066159486519588568195072) rfl (fun W w => execAmoCas_keeps w (Keeps.refl W s)) rfl
  · exact frame_of (N := 166873987182292434633223935329955989906748050262434701071638695371736822281481995113697349754880) rfl (fun W w => execLoadDataReturn_keeps w (Keeps.refl W s)) rfl
  · exact frame_of (N := 524288) rfl (fun W w => execBrEq_keeps w (Keeps.refl W s)) rfl
  · exact frame_of (N := 524288) rfl (fun W w => execBrNe_keeps w (Keeps.refl W s)) rfl
  · exact frame_of (N := 524288) rfl (fun W w => execBrLt_keeps w (Keeps.refl W s)) rfl
  · exact frame_of (N := 524288) rfl (fun W w => execBrGe_keeps w (Keeps.refl W s)) rfl
  · exact frame_of (N := 524288) rfl (fun W w => execBrLtu_keeps w (Keeps.refl W s)) rfl
  · exact frame_of (N := 524288) rfl (fun W w => execBrGeu_keeps w (Keeps.refl W s)) rfl
  · exact frame_of (N := 524288) rfl (fun W w => execBrP_keeps w (Keeps.refl W s)) rfl
  · exact frame_of (N := 524288) rfl (fun W w => execJmp_keeps w (Keeps.refl W s)) rfl
  · exact frame_of (N := 524288) rfl (fun W w => execJal_keeps w (Keeps.refl W s)) rfl
  · exact frame_of (N := 524288) rfl (fun W w => execJr_keeps w (Keeps.refl W s)) rfl
  · exact frame_of (N := 524288) rfl (fun W w => execCodeEndReached_keeps w (Keeps.refl W s)) rfl
  · exact frame_of (N := 524288) rfl (fun W w => execPAnd_keeps w (Keeps.refl W s)) rfl
  · exact frame_of (N := 524288) rfl (fun W w => execPOr_keeps w (Keeps.refl W s)) rfl
  · exact frame_of (N := 524288) rfl (fun W w => execPXor_keeps w (Keeps.refl W s)) rfl
  · exact frame_of (N := 524288) rfl (fun W w => execPNot_keeps w (Keeps.refl W s)) rfl
  · exact frame_of (N := 524288) rfl (fun W w => execPMask_keeps w (Keeps.refl W s)) rfl
  · exact frame_of (N := 524288) rfl (fun W w => execPCnt_keeps w (Keeps.refl W s)) rfl
  · exact frame_of (N := 1042962419883256876169444192465601618458351817556959360325703910069443225478828393565899980800) rfl (fun W w => execVadd_keeps w (Keeps.refl W s)) rfl
  · exact frame_of (N := 1042962419883256876169444192465601618458351817556959360325703910069443225478828393565899980800) rfl (fun W w => execVsub_keeps w (Keeps.refl W s)) rfl
  · exact frame_of (N := 1042962419883256876169444192465601618458351817556959360325703910069443225478828393565899980800) rfl (fun W w => execVmul_keeps w (Keeps.refl W s)) rfl
  · exact frame_of (N := 1042962419883256876169444192465601618458351817556959360325703910069443225478828393565899980800) rfl (fun W w => execVfma_keeps w (Keeps.refl W s)) rfl
  · exact frame_of (N := 1042962419883256876169444192465601618458351817556959360325703910069443225478828393565899980800) rfl (fun W w => execVmax_keeps w (Keeps.refl W s)) rfl
  · exact frame_of (N := 1042962419883256876169444192465601618458351817556959360325703910069443225478828393565899980800) rfl (fun W w => execVmin_keeps w (Keeps.refl W s)) rfl
  · exact frame_of (N := 1042962419883256876169444192465601618458351817556959360325703910069443225478828393565899980800) rfl (fun W w => execVabs_keeps w (Keeps.refl W s)) rfl
  · exact frame_of (N := 1042962419883256876169444192465601618458351817556959360325703910069443225478828393565899980800) rfl (fun W w => execVneg_keeps w (Keeps.refl W s)) rfl
  · exact frame_of (N := 1042962419883256876169444192465601618458351817556959360325703910069443225478828393565899980800) rfl (fun W w => execVand_keeps w (Keeps.refl W s)) rfl
  · exact frame_of (N := 1042962419883256876169444192465601618458351817556959360325703910069443225478828393565899980800) rfl (fun W w => execVor_keeps w (Keeps.refl W s)) rfl
  · exact frame_of (N := 1042962419883256876169444192465601618458351817556959360325703910069443225478828393565899980800) rfl (fun W w => execVxor_keeps w (Keeps.refl W s)) rfl
  · exact frame_of (N := 1042962419883256876169444192465601618458351817556959360325703910069443225478828393565899980800) rfl (fun W w => execVshl_keeps w (Keeps.refl W s)) rfl
  · exact frame_of (N := 1042962419883256876169444192465601618458351817556959360325703910069443225478828393565899980800) rfl (fun W w => execVshr_keeps w (Keeps.refl W s)) rfl
  · exact frame_of (N := 1042962419883256876169444192465601618458351817556959360325703910069443225478828393565899980800) rfl (fun W w => execVsel_keeps w (Keeps.refl W s)) rfl
  · exact frame_of (N := 1042962419883256876169444192465601618458351817556959360325703910069443225478828393565899980800) rfl (fun W w => execVbcast_keeps w (Keeps.refl W s)) rfl
  · exact frame_of (N := 1042962419883256876169444192465601618458351817556959360325703910069443225478828393565899980800) rfl (fun W w => execVlane_keeps w (Keeps.refl W s)) rfl
  · exact frame_of (N := 1042962419883256876169444192465601618458351817556959360325703910069443225478828393565899980800) rfl (fun W w => execVperm_keeps w (Keeps.refl W s)) rfl
  · exact frame_of (N := 1042962419883256876169444192465601618458351817556959360325703910069443225478828393565899980800) rfl (fun W w => execViota_keeps w (Keeps.refl W s)) rfl
  · exact frame_of (N := 1042962419883256876169444192465601618458351817556959360325703910069443225478828393565899980800) rfl (fun W w => execVcmpEq_keeps w (Keeps.refl W s)) rfl
  · exact frame_of (N := 1042962419883256876169444192465601618458351817556959360325703910069443225478828393565899980800) rfl (fun W w => execVcmpLt_keeps w (Keeps.refl W s)) rfl
  · exact frame_of (N := 1042962419883256876169444192465601618458351817556959360325703910069443225478828393565899980800) rfl (fun W w => execVcmpLe_keeps w (Keeps.refl W s)) rfl
  · exact frame_of (N := 1042962419883256876169444192465601618458351817556959360325703910069443225478828393565899980800) rfl (fun W w => execVcvt_keeps w (Keeps.refl W s)) rfl
  · exact frame_of (N := 1042962419883256876169444192465601618458351817556959360325703910069443225478828393565899980800) rfl (fun W w => execVexp_keeps w (Keeps.refl W s)) rfl
  · exact frame_of (N := 1042962419883256876169444192465601618458351817556959360325703910069443225478828393565899980800) rfl (fun W w => execVln_keeps w (Keeps.refl W s)) rfl
  · exact frame_of (N := 1042962419883256876169444192465601618458351817556959360325703910069443225478828393565899980800) rfl (fun W w => execVrcp_keeps w (Keeps.refl W s)) rfl
  · exact frame_of (N := 1042962419883256876169444192465601618458351817556959360325703910069443225478828393565899980800) rfl (fun W w => execVrsum_keeps w (Keeps.refl W s)) rfl
  · exact frame_of (N := 1042962419883256876169444192465601618458351817556959360325703910069443225478828393565899980800) rfl (fun W w => execVrmax_keeps w (Keeps.refl W s)) rfl
  · exact frame_of (N := 1042962419883256876169444192465601618458351817556959360325703910069443225478828393565899980800) rfl (fun W w => execVrng_keeps w (Keeps.refl W s)) rfl
  · exact frame_of (N := 1042962419883256876169444192465601618458351817556959360325703910069443225478828393565899980800) rfl (fun W w => execVqmx_keeps w (Keeps.refl W s)) rfl
  · exact frame_of (N := 1042962419883256876169444192465601618458351817556959360325703910069443225478828393565899980800) rfl (fun W w => execVkv4e_keeps w (Keeps.refl W s)) rfl
  · exact frame_of (N := 1042962419883256876169444192465601618458351817556959360325703910069443225478828393565899980800) rfl (fun W w => execVkv4d_keeps w (Keeps.refl W s)) rfl
  · exact frame_of (N := 1042962419883256876169444192465601618458351817556959360325703910069443225478828393565899980800) rfl (fun W w => execVldacc_keeps w (Keeps.refl W s)) rfl
  · exact frame_of (N := 524288) rfl (fun W w => execVld_keeps w (Keeps.refl W s)) rfl
  · exact frame_of (N := 1572864) rfl (fun W w => execVst_keeps w (Keeps.refl W s)) rfl
  · exact frame_of (N := 524288) rfl (fun W w => execVldB32_keeps w (Keeps.refl W s)) rfl
  · exact frame_of (N := 524288) rfl (fun W w => execMmaTile_keeps w (Keeps.refl W s)) rfl
  · exact frame_of (N := 167916949602175691509393379522421591525206402079991660431964399281806265506960823507263249211392) rfl (fun W w => execArrayComplete_keeps w (Keeps.refl W s)) rfl
  · exact frame_of (N := 524288) rfl (fun W w => execAccClr_keeps w (Keeps.refl W s)) rfl
  · exact frame_of (N := 524288) rfl (fun W w => execAccLd_keeps w (Keeps.refl W s)) rfl
  · exact frame_of (N := 524288) rfl (fun W w => execAccSt_keeps w (Keeps.refl W s)) rfl
  · exact frame_of (N := 524288) rfl (fun W w => execMovCpy_keeps w (Keeps.refl W s)) rfl
  · exact frame_of (N := 524288) rfl (fun W w => execMovFill_keeps w (Keeps.refl W s)) rfl
  · exact frame_of (N := 166873987368791019708881506373906607695578843228458592589930041730662341745516220417283922485248) rfl (fun W w => execMoveComplete_keeps w (Keeps.refl W s)) rfl
  · exact frame_of (N := 2371421987580235682274733772977928352834969285952349175452170702468357255653416960) rfl (fun W w => execCtxRd_keeps w (Keeps.refl W s)) rfl
  · exact frame_of (N := 524288) rfl (fun W w => execCtxStep_keeps w (Keeps.refl W s)) rfl
  · exact frame_of (N := 187467548099782855343728074008469574490992259968534122256791467409329002999965534806018) rfl (fun W w => execCtxBind_keeps w (Keeps.refl W s)) rfl
  · exact frame_of (N := 8912896) rfl (fun W w => execCtxEmit_keeps w (Keeps.refl W s)) rfl
  · exact frame_of (N := 187469919521770435579410348742242552419345097725418541303854027856105884370421991497730) rfl (fun W w => execCtxSpan_keeps w (Keeps.refl W s)) rfl
  · exact frame_of (N := 187469919521770435579410348742242552419345094937828049943517704995886907903497296830464) rfl (fun W w => execCopyOnWriteDone_keeps w (Keeps.refl W s)) rfl
  · exact frame_of (N := 2371421987580235682274733772977928352834969285952318751528091320482061480224251904) rfl (fun W w => execCtxHold_keeps w (Keeps.refl W s)) rfl
  · exact frame_of (N := 524288) rfl (fun W w => execContextAnswer_keeps w (Keeps.refl W s)) rfl
  · exact frame_of (N := 67633154) rfl (fun W w => execBnkStroke_keeps w (Keeps.refl W s)) rfl
  · exact frame_of (N := 166873987368791019766777550992571287425593620556971169180896388649807632775988324424955996332034) rfl (fun W w => execFabPut_keeps w (Keeps.refl W s)) rfl
  · exact frame_of (N := 166873987368791019766777550992571287425593620556971169180896388649807632775988324424955996332034) rfl (fun W w => execFabPutf_keeps w (Keeps.refl W s)) rfl
  · exact frame_of (N := 166873987368791019766777550992571287425593620556971169180896388649807632775988324424955996332034) rfl (fun W w => execFabGet_keeps w (Keeps.refl W s)) rfl
  · exact frame_of (N := 166873987368791019766777550992571287425593620556971169180896388649807632775988324424955996332034) rfl (fun W w => execFabSend_keeps w (Keeps.refl W s)) rfl
  · exact frame_of (N := 166873987368791019766777550992571287425593620556971169180896388649807632775988324424956533202946) rfl (fun W w => execRowGet_keeps w (Keeps.refl W s)) rfl
  · exact frame_of (N := 166873987368791019766777550992571287425593620556971169180896388649807632775988324424956533202946) rfl (fun W w => execRowUpd_keeps w (Keeps.refl W s)) rfl
  · exact frame_of (N := 524288) rfl (fun W w => execSyncFence_keeps w (Keeps.refl W s)) rfl
  · exact frame_of (N := 524288) rfl (fun W w => execSyncReg_keeps w (Keeps.refl W s)) rfl
  · exact frame_of (N := 524288) rfl (fun W w => execSyncArr_keeps w (Keeps.refl W s)) rfl
  · exact frame_of (N := 524288) rfl (fun W w => execSyncMov_keeps w (Keeps.refl W s)) rfl
  · exact frame_of (N := 1572864) rfl (fun W w => execSyncBar_keeps w (Keeps.refl W s)) rfl
  · exact frame_of (N := 72876032) rfl (fun W w => execWiPush_keeps w (Keeps.refl W s)) rfl
  · exact frame_of (N := 1572864) rfl (fun W w => execPushStallDone_keeps w (Keeps.refl W s)) rfl
  · exact frame_of (N := 25031098077200536450054240854856713576773421549719859617102846160418165502812363507061882511360) rfl (fun W w => execWiEnd_keeps w (Keeps.refl W s)) rfl
  · exact frame_of (N := 524288) rfl (fun W w => execNop_keeps w (Keeps.refl W s)) rfl
  · exact frame_of (N := 524288) rfl (fun W w => execSysId_keeps w (Keeps.refl W s)) rfl
  · exact frame_of (N := 524288) rfl (fun W w => execSysTrap_keeps w (Keeps.refl W s)) rfl
  · exact frame_of (N := 25031098078171870896167105390316444530185181003041063036628915921044071707681815649664489119744) rfl (fun W w => execExceptionDelivery_keeps w (Keeps.refl W s)) rfl
  · exact frame_of (N := 524288) rfl (fun W w => execItemTimeout_keeps w (Keeps.refl W s)) rfl
  · exact frame_of (N := 1572864) rfl (fun W w => execItemDispatch_keeps w (Keeps.refl W s)) rfl
  · exact frame_of (N := 1572864) rfl (fun W w => execDispatchHeldPlace_keeps w (Keeps.refl W s)) rfl
  · exact frame_of (N := 23384026197294446691258957323460528314494922260480) rfl (fun W w => execItemTake_keeps w (Keeps.refl W s)) rfl
  · exact frame_of (N := 4171849679533027504677776769862406473833407270227837441302815640277772901915313574263599398914) rfl (fun W w => execSteal_keeps w (Keeps.refl W s)) rfl
  · exact frame_of (N := 274878431232) rfl (fun W w => execItemStart_keeps w (Keeps.refl W s)) rfl
  · exact frame_of (N := 187467548099782855343728074008469574490992259968531463800799897577583195385810614378496) rfl (fun W w => execImageLoad_keeps w (Keeps.refl W s)) rfl
  · exact frame_of (N := 166873987368791019708881506373906607695578843228458614890675240261285483281234493065645494525952) rfl (fun W w => execStrokeCommandCheck_keeps w (Keeps.refl W s)) rfl
  · exact frame_of (N := 67108864) rfl (fun W w => execStrokeQueueEntry_keeps w (Keeps.refl W s)) rfl
  · exact frame_of (N := 124333180524434240774527836770478187953466906119740679474802234618187765287430806986752) rfl (fun W w => execStrokeStart_keeps w (Keeps.refl W s)) rfl
  · exact frame_of (N := 187469919521770435579410348742242552419345440599367993344210119472536903496352042737664) rfl (fun W w => execStrokeEnd_keeps w (Keeps.refl W s)) rfl
  · exact frame_of (N := 89202980794122492566142873090593447165845504) rfl (fun W w => execRowStepEnd_keeps w (Keeps.refl W s)) rfl
  · exact frame_of (N := 1141923840) rfl (fun W w => execOutsideAccess_keeps w (Keeps.refl W s)) rfl
  · exact frame_of (N := 367962295775755281835339351498697964915785728) rfl (fun W w => execRefreshDue_keeps w (Keeps.refl W s)) rfl
  · exact frame_of (N := 367962295775755281835339351498697965990600704) rfl (fun W w => execRefreshEnd_keeps w (Keeps.refl W s)) rfl
  · exact frame_of (N := 187469919579666480198075028472257329747857672922580337946860663045358173494934677413890) rfl (fun W w => execAttentionRequest_keeps w (Keeps.refl W s)) rfl
  · exact frame_of (N := 187469919579666480198075028472257329747857672922580337946860663045358173494934677413890) rfl (fun W w => execAttentionItemsEnd_keeps w (Keeps.refl W s)) rfl
  · exact frame_of (N := 1067993518457780649029285075475840580181946079207135370740154493179468415061155223779611665424386) rfl (fun W w => execStepFormation_keeps w (Keeps.refl W s)) rfl
  · exact frame_of (N := 684793155989453122353457276619078900207450048972908634068978442692280155500353287020546) rfl (fun W w => execCommitPoint_keeps w (Keeps.refl W s)) rfl
  · exact frame_of (N := 2371421987580235682274733772977928352834969285952356781355772071844766236010799106) rfl (fun W w => execPreempt_keeps w (Keeps.refl W s)) rfl
  · exact frame_of (N := 2371421987580235682274733772977928352834969285952356781355772071844766236010799106) rfl (fun W w => execResume_keeps w (Keeps.refl W s)) rfl
  · exact frame_of (N := 2371421987580235682274733772977928352834969285952356781355772071844766236010799106) rfl (fun W w => execSwapOut_keeps w (Keeps.refl W s)) rfl
  · exact frame_of (N := 2371421987580235682274733772977928352834969285952356781355772071844766236010799106) rfl (fun W w => execSwapIn_keeps w (Keeps.refl W s)) rfl
  · exact frame_of (N := 2371421987580235682274733772977928352834969285952356781355772071844766236010799106) rfl (fun W w => execRelease_keeps w (Keeps.refl W s)) rfl
  · exact frame_of (N := 45635421608363832406470996000768) rfl (fun W w => execSchPartCtl_keeps w (Keeps.refl W s)) rfl
  · exact frame_of (N := 1298074214633854481085213762912256) rfl (fun W w => execSchRatio_keeps w (Keeps.refl W s)) rfl
  · exact frame_of (N := 2371421987580235682274733772977928352834969285952318751528091320482061480223727616) rfl (fun W w => execPrefillToReady_keeps w (Keeps.refl W s)) rfl
  · exact frame_of (N := 2371421987580235682274733772977928352834969285952349175452170702468357255636115456) rfl (fun W w => execPromptPartDone_keeps w (Keeps.refl W s)) rfl
  · exact frame_of (N := 187469919521770435579410348742242552419345094937817416119551425668903677447015019995136) rfl (fun W w => execContextClose_keeps w (Keeps.refl W s)) rfl
  · exact frame_of (N := 187469919521770435579410348742242552419345094937817416119551425668903677447015019995136) rfl (fun W w => execContextRelease_keeps w (Keeps.refl W s)) rfl
  · exact frame_of (N := 187469919521770435579410348742242552419345094956875887128186151855511380683301413347330) rfl (fun W w => execAttachmentEnd_keeps w (Keeps.refl W s)) rfl
  · exact frame_of (N := 187467548099782855343728074008469574490992260003923488416569067609519962173144448786434) rfl (fun W w => execPublicationEnd_keeps w (Keeps.refl W s)) rfl
  · exact frame_of (N := 46278401901247631031166520563310287388672) rfl (fun W w => execPfxInval_keeps w (Keeps.refl W s)) rfl
  · exact frame_of (N := 2722258935367507707706996859455353675776) rfl (fun W w => execInvalidationEnd_keeps w (Keeps.refl W s)) rfl
  · exact frame_of (N := 2371421987580235682274733772977928352834969349755292973128132749425048738785845248) rfl (fun W w => execCtxPeekSel_keeps w (Keeps.refl W s)) rfl
  · exact frame_of (N := 187469919521770435579410348742242552419345094937817416124622028069816595053001832816642) rfl (fun W w => execSwapOutDone_keeps w (Keeps.refl W s)) rfl
  · exact frame_of (N := 2371421987580235682274733772977928352834969285952323822130492233399667467171028994) rfl (fun W w => execSwapInDone_keeps w (Keeps.refl W s)) rfl
  · exact frame_of (N := 187469919521770435579410348742242552420623908870481956178050252298443342695200773791746) rfl (fun W w => execFrameMoveDone_keeps w (Keeps.refl W s)) rfl
  · exact frame_of (N := 187467548099782855343728074008469574491905698491863278124677200598030872273095705911298) rfl (fun W w => execAlloc_keeps w (Keeps.refl W s)) rfl
  · exact frame_of (N := 913438523331814323877303020447676888110801772544) rfl (fun W w => execFreeObj_keeps w (Keeps.refl W s)) rfl
  · exact frame_of (N := 187467548099782855343728074008469574491905698491863278124677200598030872273095571693570) rfl (fun W w => execMoveObj_keeps w (Keeps.refl W s)) rfl
  · exact frame_of (N := 913438523331814323877303020447676887835924127746) rfl (fun W w => execGather_keeps w (Keeps.refl W s)) rfl
  · exact frame_of (N := 187469919579666480198075028472257329748771110052115577392997943761426512774515289677826) rfl (fun W w => execTransfer_keeps w (Keeps.refl W s)) rfl
  · exact frame_of (N := 187469919521770435579410348742242552420441221190315923756935682704406915879662529208322) rfl (fun W w => execReclaim_keeps w (Keeps.refl W s)) rfl
  · exact frame_of (N := 187469919521770435579410348742242552420441221190315923756935682704406915879662529208322) rfl (fun W w => execSlowTierReclaim_keeps w (Keeps.refl W s)) rfl
  · exact frame_of (N := 187469919579666480198075028472257329777818455094067272861872255770207157309948376834050) rfl (fun W w => execTieWinCtl_keeps w (Keeps.refl W s)) rfl
  · exact frame_of (N := 187469919579666480198075028472257329771972448544743661189057516439194451278734974443522) rfl (fun W w => execWindowFillDone_keeps w (Keeps.refl W s)) rfl
  · exact frame_of (N := 187469919579666480198075028472257880488442670207592235569659598841738644438784654893058) rfl (fun W w => execRowRequestGet_keeps w (Keeps.refl W s)) rfl
  · exact frame_of (N := 187469919579666480198075028472257880488442670207592235569659598841738644438784654893058) rfl (fun W w => execRowRequestUpd_keeps w (Keeps.refl W s)) rfl
  · exact frame_of (N := 187469919579666480198075028472257329747857671528783763038696716699375781454412620161026) rfl (fun W w => execRowAnswer_keeps w (Keeps.refl W s)) rfl
  · exact frame_of (N := 187469919579666480198075028472257329747857671528783763038696716699375781454412620161026) rfl (fun W w => execRowResend_keeps w (Keeps.refl W s)) rfl
  · exact frame_of (N := 187467548099782855343728074008470304820898453868690525200555023896803513691174066348034) rfl (fun W w => execApplyTimer_keeps w (Keeps.refl W s)) rfl
  · exact frame_of (N := 11972621413014756705924586149611790497021950760607744) rfl (fun W w => execRowCreate_keeps w (Keeps.refl W s)) rfl
  · exact frame_of (N := 11972621413014756705924586149611790497021950760607744) rfl (fun W w => execRowDestroy_keeps w (Keeps.refl W s)) rfl
  · exact frame_of (N := 187467548099782855343728074008470065368470193573556406708832031660993573263186225160194) rfl (fun W w => execRowMigrate_keeps w (Keeps.refl W s)) rfl
  · exact frame_of (N := 11972621413014756705924586149611790497021950760607744) rfl (fun W w => execRowResetHistory_keeps w (Keeps.refl W s)) rfl
  · exact frame_of (N := 1610637314) rfl (fun W w => execMigrationRowReceive_keeps w (Keeps.refl W s)) rfl
  · exact frame_of (N := 431014370868531241413285101386024457892770379724775426) rfl (fun W w => execMigrationReplay_keeps w (Keeps.refl W s)) rfl
  · exact frame_of (N := 107753592717132810353321275346506114473193145897082880) rfl (fun W w => execMigrationSwitch_keeps w (Keeps.refl W s)) rfl
  · exact frame_of (N := 107753592717132810353321275346506114473193145897082880) rfl (fun W w => execMigrationHomeUpdate_keeps w (Keeps.refl W s)) rfl
  · exact frame_of (N := 1610637312) rfl (fun W w => execMigrationActivation_keeps w (Keeps.refl W s)) rfl
  · exact frame_of (N := 59863107065073783529622930748058952485107548328845314) rfl (fun W w => execMigrationAbort_keeps w (Keeps.refl W s)) rfl
  · exact frame_of (N := 63657374260452690195888927762800935364965192775459319586016778729673114224257563755569666) rfl (fun W w => execFlashMountDone_keeps w (Keeps.refl W s)) rfl
  · exact frame_of (N := 1073741824) rfl (fun W w => execJournalPageProgram_keeps w (Keeps.refl W s)) rfl
  · exact frame_of (N := 3064991081731777716716694054300618367237478245440946176) rfl (fun W w => execCheckpointTimer_keeps w (Keeps.refl W s)) rfl
  · exact frame_of (N := 187467548099782855343728074016319016651307342701042917273863781216078377169635024199680) rfl (fun W w => execUnitReadDone_keeps w (Keeps.refl W s)) rfl
  · exact frame_of (N := 7849442160315082732511453473063883638495181783825484242946) rfl (fun W w => execUnitProgramDone_keeps w (Keeps.refl W s)) rfl
  · exact frame_of (N := 7849442160315082732511453473063883638495181783825484087296) rfl (fun W w => execBlockEraseDone_keeps w (Keeps.refl W s)) rfl
  · exact frame_of (N := 7849442160315082732511453473063883638495181783825484111872) rfl (fun W w => execTargetTimeout_keeps w (Keeps.refl W s)) rfl
  · exact frame_of (N := 1073741824) rfl (fun W w => execFlashReclaim_keeps w (Keeps.refl W s)) rfl
  · exact frame_of (N := 1073741824) rfl (fun W w => execBlockRefresh_keeps w (Keeps.refl W s)) rfl
  · exact frame_of (N := 8634079877238417827990927150964841940507976214933246337024) rfl (fun W w => execPatrol_keeps w (Keeps.refl W s)) rfl
  · exact frame_of (N := 787702708005066873196190371955258920380031909353203171328) rfl (fun W w => execFlsCheckpoint_keeps w (Keeps.refl W s)) rfl
  · exact frame_of (N := 787702708005066873196190371955258920380031909353203171328) rfl (fun W w => execFlsPatrol_keeps w (Keeps.refl W s)) rfl
  · exact frame_of (N := 8634079877238417827990927150964841940507976214933246312448) rfl (fun W w => execFlsRetire_keeps w (Keeps.refl W s)) rfl
  · exact frame_of (N := 8646339841565344938857793927182044413976926127910715154946) rfl (fun W w => execFlsFormat_keeps w (Keeps.refl W s)) rfl
  · exact frame_of (N := 787702708005066873196190371955258920380031909353203171328) rfl (fun W w => execFlsShutdown_keeps w (Keeps.refl W s)) rfl
  · exact frame_of (N := 15692754338466701909589473558019166040403462563749762695168) rfl (fun W w => execFlsHlogSnap_keeps w (Keeps.refl W s)) rfl
  · exact frame_of (N := 187469919579666481930343750091895924093574069144018245448162279056083043837666563907586) rfl (fun W w => execPut_keeps w (Keeps.refl W s)) rfl
  · exact frame_of (N := 187469919579666481930343750091895924093574069144018245448159803176004473077108174643202) rfl (fun W w => execGetReq_keeps w (Keeps.refl W s)) rfl
  · exact frame_of (N := 1732275303637867879169885017491964711811485493300169796703009875058688) rfl (fun W w => execGetResp_keeps w (Keeps.refl W s)) rfl
  · exact frame_of (N := 1732275303637867879169885017491964711811487969180248367464100831354880) rfl (fun W w => execSend_keeps w (Keeps.refl W s)) rfl
  · exact frame_of (N := 1732275303637867879169885017491964711811485493300169796703001284075520) rfl (fun W w => execAck_keeps w (Keeps.refl W s)) rfl
  · exact frame_of (N := 1732275303637867879169885017491964711811485493300169796703001284075520) rfl (fun W w => execNack_keeps w (Keeps.refl W s)) rfl
  · exact frame_of (N := 187469919579666481930343750091895924094487507667350059802463506118133775157769770295298) rfl (fun W w => execDoneMsg_keeps w (Keeps.refl W s)) rfl
  · exact frame_of (N := 187469919521770437311685652380110431589230112429782127931036918969073474149740334964736) rfl (fun W w => execAbortMsg_keeps w (Keeps.refl W s)) rfl
  · exact frame_of (N := 1732275303637867879169885017491964711811485493300169796702726397124608) rfl (fun W w => execProbe_keeps w (Keeps.refl W s)) rfl
  · exact frame_of (N := 1732275303637867879169885017491964711811485493300169796702726397124608) rfl (fun W w => execProbeReply_keeps w (Keeps.refl W s)) rfl
  · exact frame_of (N := 6838716940226932311196051922708348698710726175430660536150985310208) rfl (fun W w => execFrameReceive_keeps w (Keeps.refl W s)) rfl
  · exact frame_of (N := 187469919579666480198075028472257329747857671528783763038696716699375781454412083290114) rfl (fun W w => execImportDone_keeps w (Keeps.refl W s)) rfl
  · exact frame_of (N := 187469919579666480198075028472257329747857671528783763069120640740978835887230331838466) rfl (fun W w => execCancelMessage_keeps w (Keeps.refl W s)) rfl
  · exact frame_of (N := 187469919579666480198075028472257329747857671528783763069120640740978835887230331838466) rfl (fun W w => execReport_keeps w (Keeps.refl W s)) rfl
  · exact frame_of (N := 2371421987580235688856752002262752521454846016181720771459034783016380933886599168) rfl (fun W w => execHiddenDone_keeps w (Keeps.refl W s)) rfl
  · exact frame_of (N := 187469919579666480198075028472257329747857671528783763038696716699375781454412083290114) rfl (fun W w => execImportKeyed_keeps w (Keeps.refl W s)) rfl
  · exact frame_of (N := 17448304640) rfl (fun W w => execAckTimer_keeps w (Keeps.refl W s)) rfl
  · exact frame_of (N := 6582018229284824168619876730229402019930943462534319454736637952) rfl (fun W w => execReorderTimer_keeps w (Keeps.refl W s)) rfl
  · exact frame_of (N := 6582018229284824168619876730229402019930943462534319471925551104) rfl (fun W w => execRetransmitTimeout_keeps w (Keeps.refl W s)) rfl
  · exact frame_of (N := 268435456) rfl (fun W w => execRnrRetry_keeps w (Keeps.refl W s)) rfl
  · exact frame_of (N := 293409021952) rfl (fun W w => execGetTimeout_keeps w (Keeps.refl W s)) rfl
  · exact frame_of (N := 1342332928) rfl (fun W w => execDoneHoldEnd_keeps w (Keeps.refl W s)) rfl
  · exact frame_of (N := 187469919521770435579416930760471837243513714814547645521571356612366211766468674478080) rfl (fun W w => execMessageIdle_keeps w (Keeps.refl W s)) rfl
  · exact frame_of (N := 17179869184) rfl (fun W w => execProbeTimer_keeps w (Keeps.refl W s)) rfl
  · exact frame_of (N := 1342201856) rfl (fun W w => execPathHoldEnd_keeps w (Keeps.refl W s)) rfl
  · exact frame_of (N := 1342201856) rfl (fun W w => execRateUpdate_keeps w (Keeps.refl W s)) rfl
  · exact frame_of (N := 18522071042) rfl (fun W w => execPeerEnable_keeps w (Keeps.refl W s)) rfl
  · exact frame_of (N := 2371421987580235685565742887620340437144907651067019761493563051749221207182958592) rfl (fun W w => execFabRegister_keeps w (Keeps.refl W s)) rfl
  · exact frame_of (N := 2371421987580235685565742887620340437144907651067019761493563051749221207182958592) rfl (fun W w => execFabRevoke_keeps w (Keeps.refl W s)) rfl
  · exact frame_of (N := 2371421987580235685565742887620340437144907651067019761493563051749221207183089664) rfl (fun W w => execRevokeEnd_keeps w (Keeps.refl W s)) rfl
  · exact frame_of (N := 105312291668557186697918027683670432318895095548123063843987390472) rfl (fun W w => execFabTimeAdj_keeps w (Keeps.refl W s)) rfl
  · exact frame_of (N := 26328072917139296674479506920917608079723773850137277840689750016) rfl (fun W w => execLimiterRelease_keeps w (Keeps.refl W s)) rfl
  · exact frame_of (N := 26328072917139296674479506920917608079723773850137277840689750016) rfl (fun W w => execWheelSlot_keeps w (Keeps.refl W s)) rfl
  · exact frame_of (N := 5489403203223543356628977193011321284622406847753622424697897484288) rfl (fun W w => execFrameStart_keeps w (Keeps.refl W s)) rfl
  · exact frame_of (N := 421249166674228746791672110734681729275580381602196445034425876480) rfl (fun W w => execLinkDown_keeps w (Keeps.refl W s)) rfl
  · exact frame_of (N := 421249166674228746791672110734681729275580381602196445017243910144) rfl (fun W w => execLinkUp_keeps w (Keeps.refl W s)) rfl
  · exact frame_of (N := 187467548158152414975746778720583390725535316057408221817982846687014397466375055892482) rfl (fun W w => execRingPoll_keeps w (Keeps.refl W s)) rfl
  · exact frame_of (N := 187467548158154181822811557104912974023036058975924049301879722306120093025166024925186) rfl (fun W w => execLatDoorbell_keeps w (Keeps.refl W s)) rfl
  · exact frame_of (N := 187467548157700103859379577806014382317712567518749033133688801833816434491842227494912) rfl (fun W w => execLatticeLoad_keeps w (Keeps.refl W s)) rfl
  · exact frame_of (N := 187467548157700103859379577806014382317712567518749033133688801833816434491842227494912) rfl (fun W w => execLatticeStore_keeps w (Keeps.refl W s)) rfl
  · exact frame_of (N := 187467548157700103859379577806014382317712567518749033133688801833816434491842227494912) rfl (fun W w => execAdd64_keeps w (Keeps.refl W s)) rfl
  · exact frame_of (N := 187467548157700103859379577806014382317712567518749033133688801833816434491842227494912) rfl (fun W w => execSwap64_keeps w (Keeps.refl W s)) rfl
  · exact frame_of (N := 187467548157700103859379577806014382317712567518749033133688801833816434491842227494912) rfl (fun W w => execCas64_keeps w (Keeps.refl W s)) rfl
  · exact frame_of (N := 187467548157700103859438815970077945735230146409321097751868181533905062981552288718848) rfl (fun W w => execLatticeResp_keeps w (Keeps.refl W s)) rfl
  · exact frame_of (N := 1732275303637867879169885017491964711811485493300169796702727470841856) rfl (fun W w => execLack_keeps w (Keeps.refl W s)) rfl
  · exact frame_of (N := 1732275303637867879169885017491964711811485493300169796702727470841856) rfl (fun W w => execLprobe_keeps w (Keeps.refl W s)) rfl
  · exact frame_of (N := 31915407382863204820977480992186457656845739372809167600868214738318786560) rfl (fun W w => execLprobeReply_keeps w (Keeps.refl W s)) rfl
  · exact frame_of (N := 28269553036454149273332760011886696253239742350009903329945699240009269248) rfl (fun W w => execLprobeTimer_keeps w (Keeps.refl W s)) rfl
  · exact frame_of (N := 38981063366673104271431501110140639755443863474819589968309414972582027264) rfl (fun W w => execLatticeTimeout_keeps w (Keeps.refl W s)) rfl
  · exact frame_of (N := 2147483648) rfl (fun W w => execDedupExpiry_keeps w (Keeps.refl W s)) rfl
  · exact frame_of (N := 120145600404930134411664230050518459076268904987542089299843174279722041344) rfl (fun W w => execLatWinCtl_keeps w (Keeps.refl W s)) rfl
  · exact frame_of (N := 2147483648) rfl (fun W w => execWindowUnpin_keeps w (Keeps.refl W s)) rfl
  · exact frame_of (N := 187467548157700102127163512332210066565345128917356385940382688233735266278844145229826) rfl (fun W w => execApertureRead_keeps w (Keeps.refl W s)) rfl
  · exact frame_of (N := 187467548157700102127163512332210066565345128917356385940382688233735266278844145229826) rfl (fun W w => execApertureWrite_keeps w (Keeps.refl W s)) rfl
  · exact frame_of (N := 1246704751478136094326784) rfl (fun W w => execApertureTimeout_keeps w (Keeps.refl W s)) rfl
  · exact frame_of (N := 28948022309329048855892746252171976963317496166410141009864396002532335312896) rfl (fun W w => execCmpOpen_keeps w (Keeps.refl W s)) rfl
  · exact frame_of (N := 28948022309329048855892746252171976963317496166410141009864396002533409054720) rfl (fun W w => execCmpStage_keeps w (Keeps.refl W s)) rfl
  · exact frame_of (N := 2371450935602545011323589665724180524811932603448485161669101184878063461720940544) rfl (fun W w => execCmpCommit_keeps w (Keeps.refl W s)) rfl
  · exact frame_of (N := 28948022309329048855892746252171976963317496166410141009864396002532335288320) rfl (fun W w => execCmpRetire_keeps w (Keeps.refl W s)) rfl
  · exact frame_of (N := 28948022309329048855892746252171976963317496166410141009864396002532335288320) rfl (fun W w => execCmpClose_keeps w (Keeps.refl W s)) rfl
  · exact frame_of (N := 4294967296) rfl (fun W w => execCompositionClosed_keeps w (Keeps.refl W s)) rfl
  · exact frame_of (N := 4294967296) rfl (fun W w => execEpochRetire_keeps w (Keeps.refl W s)) rfl
  · exact frame_of (N := 463168356949264781694283940034751631413079938662562256157977909984242194972672) rfl (fun W w => execCmpMtrSnap_keeps w (Keeps.refl W s)) rfl
  · exact frame_of (N := 8589934592) rfl (fun W w => execMeterTick_keeps w (Keeps.refl W s)) rfl
  · exact frame_of (N := 187535489339727029096025245131065392138300981838573997733031487030040555227659857485824) rfl (fun W w => execHello_keeps w (Keeps.refl W s)) rfl
  · exact frame_of (N := 584115552256) rfl (fun W w => execHelloTimer_keeps w (Keeps.refl W s)) rfl
  · exact frame_of (N := 75529790304430506480450270669347018037793771757581352236479382461834299946307870720) rfl (fun W w => execJournal_keeps w (Keeps.refl W s)) rfl
  · exact frame_of (N := 67822668844794740513057385907168750891080121578236316294013085670267602037473730560) rfl (fun W w => execJack_keeps w (Keeps.refl W s)) rfl
  · exact frame_of (N := 584115552256) rfl (fun W w => execJackTimer_keeps w (Keeps.refl W s)) rfl
  · exact frame_of (N := 60708402882054033466233184588234965832575213720379360039119137804340759496778317824) rfl (fun W w => execJournalResend_keeps w (Keeps.refl W s)) rfl
  · exact frame_of (N := 3438561881991341739298363970817996111610705464630862190025406319179648737520836608) rfl (fun W w => execTwinLinkLoss_keeps w (Keeps.refl W s)) rfl
  · exact frame_of (N := 67822668844794740513057385907168750891080121578236316294013085670267602037473730560) rfl (fun W w => execFetch_keeps w (Keeps.refl W s)) rfl
  · exact frame_of (N := 187535370768627650084241131394376743241883340090112358603509094862697844374381531684866) rfl (fun W w => execFetchData_keeps w (Keeps.refl W s)) rfl
  · exact frame_of (N := 187469919521770435579410348742242552419345094937820074605966919542252539493678817140738) rfl (fun W w => execFetchTimeout_keeps w (Keeps.refl W s)) rfl
  · exact frame_of (N := 67822668844794740513057385907168750891080121578236316294013085670267602037473730560) rfl (fun W w => execVoteReq_keeps w (Keeps.refl W s)) rfl
  · exact frame_of (N := 4271974071841820164790043412339104229205409044713305539894083215644439451561262653302949975883550) rfl (fun W w => execVote_keeps w (Keeps.refl W s)) rfl
  · exact frame_of (N := 584115552256) rfl (fun W w => execVoteRetry_keeps w (Keeps.refl W s)) rfl
  · exact frame_of (N := 4271974071841820164790043412339104229205409044713305539894083215644439451561262653302949975850782) rfl (fun W w => execVoteTimeout_keeps w (Keeps.refl W s)) rfl
  · exact frame_of (N := 67941239944173752297171122595817647308721870042533932231589490236291705082225025024) rfl (fun W w => execGiveup_keeps w (Keeps.refl W s)) rfl
  · exact frame_of (N := 4271974071841820164790043412339104229205409044713305539894083215644439451561262653302949975883550) rfl (fun W w => execD2dLoss_keeps w (Keeps.refl W s)) rfl
  · exact frame_of (N := 2378832681291424340031008990247231170609689299652649023516672112535672792300052480) rfl (fun W w => execD2dReturn_keeps w (Keeps.refl W s)) rfl
  · exact frame_of (N := 4271974071841820164790043412339104229205409044713305539894083215644439451561262653302949975850782) rfl (fun W w => execFenceHoldEnd_keeps w (Keeps.refl W s)) rfl
  · exact frame_of (N := 187470986661664846685467372372440392487103870693054565666553737095692680004717362176002) rfl (fun W w => execTwnTakeover_keeps w (Keeps.refl W s)) rfl
  · exact frame_of (N := 3438561881991341739298363970817996111610705464630862189715732414698988881905188864) rfl (fun W w => execTwnResync_keeps w (Keeps.refl W s)) rfl
  · exact frame_of (N := 373963761753452846151996417063527389528663327667909457106285459642745785179323897372672) rfl (fun W w => execPoisonTest_keeps w (Keeps.refl W s)) rfl
  · exact frame_of (N := 249632952651006185613150855026822179503549289968572527746169465419455910926190553358336) rfl (fun W w => execRowRepair_keeps w (Keeps.refl W s)) rfl
  · exact frame_of (N := 31082702275611665134711390509176302506278509424834232340028998555822468563833094160384) rfl (fun W w => execIntSeal_keeps w (Keeps.refl W s)) rfl
  · exact frame_of (N := 262144) rfl (fun W w => execIntAudit_keeps w (Keeps.refl W s)) rfl
  · exact frame_of (N := 1067993517991537743473122518219487447810528563684604894398355036251138861446142743575314138136576) rfl (fun W w => execIntTest_keeps w (Keeps.refl W s)) rfl
  · exact frame_of (N := 218550250375394520478439464517645876997270769393365696140828896133405663949093949825024) rfl (fun W w => execIntScrub_keeps w (Keeps.refl W s)) rfl
  · exact frame_of (N := 499023071690484155092436777315291419143768256781518339521559312751828612214677609381888) rfl (fun W w => execIntLogBase_keeps w (Keeps.refl W s)) rfl
  · exact frame_of (N := 1067993517960455041197510853084776057301352261178326384973520803911109862890320275011481043468288) rfl (fun W w => execTestIdle_keeps w (Keeps.refl W s)) rfl
  · exact frame_of (N := 1120923860805469702169286133664415384714348715692226599032514858490292636163540545261797631616002) rfl (fun W w => execTestSegmentEnd_keeps w (Keeps.refl W s)) rfl
  · exact frame_of (N := 187467548099782855343728074008469574490992259968531463800799897577583195385810613854208) rfl (fun W w => execScrubTimer_keeps w (Keeps.refl W s)) rfl
  · exact frame_of (N := 3203980605603953044656456207949541710126835913435740041264251095302209091764417966481067622560768) rfl (fun W w => execAgeSample_keeps w (Keeps.refl W s)) rfl
  · exact frame_of (N := 1087549099141510463576439031416487685171958604443683433808189477698944165880401544436398134424576) rfl (fun W w => execAgePlan_keeps w (Keeps.refl W s)) rfl
  · exact frame_of (N := 3203980585711023588264990521734251784254002309417494009370342397683650016038038085979732601238528) rfl (fun W w => execPlanApply_keeps w (Keeps.refl W s)) rfl
  · exact frame_of (N := 4271974071841820164790043412339104229205409044713305539894083215644439451561262653302400220036894) rfl (fun W w => execPowerOnReset_keeps w (Keeps.refl W s)) rfl
  · exact frame_of (N := 4271974071841820164790043412339104229205409044713305539894083215644439451561262653302400220036894) rfl (fun W w => execDeviceReset_keeps w (Keeps.refl W s)) rfl
  · exact frame_of (N := 4271974071841820164790043412339104229205409044713305539894083215644439451561262653302949975850782) rfl (fun W w => execHalfReset_keeps w (Keeps.refl W s)) rfl
  · exact frame_of (N := 11315564561058860622556430336) rfl (fun W w => execHostPortReset_keeps w (Keeps.refl W s)) rfl
  · exact frame_of (N := 4271974071841820164790043412339104229205409044713305539894083215644439451561262653302949975850782) rfl (fun W w => execGlbReset_keeps w (Keeps.refl W s)) rfl
  · exact frame_of (N := 68719476996) rfl (fun W w => execResetRelease_keeps w (Keeps.refl W s)) rfl
  · exact frame_of (N := 4271974071841820164790043412339104229205409044713305539894083215644439451561262653302949975883550) rfl (fun W w => execStartStep_keeps w (Keeps.refl W s)) rfl
  · exact frame_of (N := 4869940435528041103362) rfl (fun W w => execDiscoveryFrame_keeps w (Keeps.refl W s)) rfl
  · exact frame_of (N := 187469919579666480198075028472257329747857671528783763038696716699375781454480802766850) rfl (fun W w => execAnnounce_keeps w (Keeps.refl W s)) rfl
  · exact frame_of (N := 28948022309329048855892746252171976963317496166410141014734336438060644827136) rfl (fun W w => execRegistered_keeps w (Keeps.refl W s)) rfl
  · exact frame_of (N := 268435456) rfl (fun W w => execBackoff_keeps w (Keeps.refl W s)) rfl
  · exact frame_of (N := 187469919579666480198075028472257329747857671528783763038696716699375781454412083290114) rfl (fun W w => execHeartbeat_keeps w (Keeps.refl W s)) rfl
  · exact frame_of (N := 2371421987580235682274733772977928352834969288610774743446093702338688803236143106) rfl (fun W w => execOpenCtx_keeps w (Keeps.refl W s)) rfl
  · exact frame_of (N := 348170636049013752073322496) rfl (fun W w => execOpenExt_keeps w (Keeps.refl W s)) rfl
  · exact frame_of (N := 187469919521770435579410348742242552419345094937820074605966958227878767161812558733314) rfl (fun W w => execAppend_keeps w (Keeps.refl W s)) rfl
  · exact frame_of (N := 348170636049013752077516800) rfl (fun W w => execModify_keeps w (Keeps.refl W s)) rfl
  · exact frame_of (N := 187469919579666480198075028472257329747857671528783763069120679426605063555363922436098) rfl (fun W w => execCancel_keeps w (Keeps.refl W s)) rfl
  · exact frame_of (N := 187469919521770435579410348742242552419345094937820074605966958227878767161812424515586) rfl (fun W w => execReadLog_keeps w (Keeps.refl W s)) rfl
  · exact frame_of (N := 22631129122117721657419268096) rfl (fun W w => execRequestDoorbell_keeps w (Keeps.refl W s)) rfl
  · exact frame_of (N := 22631129122117721657419268096) rfl (fun W w => execCompletionHeadDoorbell_keeps w (Keeps.refl W s)) rfl
  · exact frame_of (N := 22631129122117721657419268096) rfl (fun W w => execRxTailDoorbell_keeps w (Keeps.refl W s)) rfl
  · exact frame_of (N := 22631129122117721674599104512) rfl (fun W w => execTxTailDoorbell_keeps w (Keeps.refl W s)) rfl
  · exact frame_of (N := 549757943808) rfl (fun W w => execTransmitFrameDone_keeps w (Keeps.refl W s)) rfl
  · exact frame_of (N := 309636125548797447129563136) rfl (fun W w => execSpillDrain_keeps w (Keeps.refl W s)) rfl
  · exact frame_of (N := 549757911040) rfl (fun W w => execCoalesceTimer_keeps w (Keeps.refl W s)) rfl
  · exact frame_of (N := 33946674793710650749848911872) rfl (fun W w => execRingCtl_keeps w (Keeps.refl W s)) rfl
  · exact frame_of (N := 187469919579666480198075028472257329747857671528783763069131956286650428816305585840130) rfl (fun W w => execFlr_keeps w (Keeps.refl W s)) rfl
  · exact frame_of (N := 549755813888) rfl (fun W w => execAtsInvalidation_keeps w (Keeps.refl W s)) rfl
  · exact frame_of (N := 2417851639229808105226242) rfl (fun W w => execSetEndpointId_keeps w (Keeps.refl W s)) rfl
  · exact frame_of (N := 549755813888) rfl (fun W w => execGetEndpointId_keeps w (Keeps.refl W s)) rfl
  · exact frame_of (N := 549755813890) rfl (fun W w => execGetMctpVersionSupport_keeps w (Keeps.refl W s)) rfl
  · exact frame_of (N := 549755813888) rfl (fun W w => execGetMessageTypeSupport_keeps w (Keeps.refl W s)) rfl
  · exact frame_of (N := 549755813888) rfl (fun W w => execGetIdentity_keeps w (Keeps.refl W s)) rfl
  · exact frame_of (N := 549755813888) rfl (fun W w => execGetHealth_keeps w (Keeps.refl W s)) rfl
  · exact frame_of (N := 549755813888) rfl (fun W w => execGetThermal_keeps w (Keeps.refl W s)) rfl
  · exact frame_of (N := 549755813888) rfl (fun W w => execGetPower_keeps w (Keeps.refl W s)) rfl
  · exact frame_of (N := 549755815938) rfl (fun W w => execSetPowerLimit_keeps w (Keeps.refl W s)) rfl
  · exact frame_of (N := 4271974071841820164790043412339104229205409044713305539894083215644439451561262653302949975850782) rfl (fun W w => execMctpReset_keeps w (Keeps.refl W s)) rfl
  · exact frame_of (N := 4271974071841820164790043412339104229205409044713305539894083215644439451561262653302400222757890) rfl (fun W w => execReadReg_keeps w (Keeps.refl W s)) rfl
  · exact frame_of (N := 509258994083621521567111422102344540262867098416484062659035112338595472514786903661215744) rfl (fun W w => execSecQuote_keeps w (Keeps.refl W s)) rfl
  · exact frame_of (N := 4271974071841820164790043412339104229205409044713305539894083215644439451561262653302949975850782) rfl (fun W w => execZeroise_keeps w (Keeps.refl W s)) rfl
  · exact frame_of (N := 254629497041810760783555711051180131833558191218085409649766837255409626602114028664807938) rfl (fun W w => execEraseMedia_keeps w (Keeps.refl W s)) rfl
  · exact frame_of (N := 4271974071841820164790043412339104229205409044713305539894083215644439451561262653302949975850814) rfl (fun W w => execDebugUnlock_keeps w (Keeps.refl W s)) rfl
  · rename_i n; exact frame_of (N := 549755813888) rfl (fun W w => execBypass_keeps (a0 := n) w (Keeps.refl W s)) rfl
  · exact frame_of (N := 549755813888) rfl (fun W w => execIdcode_keeps w (Keeps.refl W s)) rfl
  · exact frame_of (N := 549755813888) rfl (fun W w => execSamplePreload_keeps w (Keeps.refl W s)) rfl
  · exact frame_of (N := 549755814144) rfl (fun W w => execExtest_keeps w (Keeps.refl W s)) rfl
  · exact frame_of (N := 524288) rfl (fun W w => execIllegalInstruction_keeps w (Keeps.refl W s)) rfl
  · exact frame_of (N := 17179869184) rfl (fun W w => execGateEntry_keeps w (Keeps.refl W s)) rfl
  · exact frame_of (N := 2304) rfl (fun W w => execPowerBrakeRelease_keeps w (Keeps.refl W s)) rfl
  · exact frame_of (N := 33101834615435398901862242436652395117086361397071464072837282302008696121154221612919160834) rfl (fun W w => execQuoteDone_keeps w (Keeps.refl W s)) rfl
  · exact frame_of (N := 3242178498644853471859987580243261419891559570637935793104812352221567629918208) rfl (fun W w => execMeterSnapshotDone_keeps w (Keeps.refl W s)) rfl
  · exact frame_of (N := 32054036721724529670171121462588061959599712844360302100654904760691920706711650197504) rfl (fun W w => execAuditEnd_keeps w (Keeps.refl W s)) rfl
  · exact frame_of (N := 549755813888) rfl (fun W w => execConfigurationRequest_keeps w (Keeps.refl W s)) rfl

end Sys2Proof.Machine
end

