-- ==== Sys2Proof/Laws/Same.lean ====
section
/-!
SUPPORT. Parts of the state and registers that an operation leaves alone, read off from its mask.
-/

namespace Sys2Proof.Machine

theorem sub_self (N : Nat) : sub N N = true := by
  simp [sub]

theorem keeps_of {N : Nat} {s t : State} (h : ∀ W, sub N W = true → Keeps ⟨W, s⟩ t) : Keeps ⟨N, s⟩ t := h N (sub_self N)

@[simp] theorem stepAdd_til {a0 a1} : (stepAdd a0 a1).til = a0.til :=
  (keeps_of (N := 4194304) (fun W h => stepAdd_keeps h (Keeps.refl W a0))).same .til rfl nofun

@[simp] theorem stepAdd_shf {a0 a1} : (stepAdd a0 a1).shf = a0.shf :=
  (keeps_of (N := 4194304) (fun W h => stepAdd_keeps h (Keeps.refl W a0))).same .shf rfl nofun

@[simp] theorem itemEnd_shf {a0 a1 a2 a3} : (itemEnd a0 a1 a2 a3).shf = a0.shf :=
  (keeps_of (N := 25031098077200536450054240854856713576773421549719859617102846160418165502812363507061882511360) (fun W h => itemEnd_keeps h (Keeps.refl W a0))).same .shf rfl nofun

@[simp] theorem reap_til {a0} : (reap a0).til = a0.til :=
  (keeps_of (N := 1073897472) (fun W h => reap_keeps h (Keeps.refl W a0))).same .til rfl nofun

@[simp] theorem attEnd_til {a0 a1 a2 a3} : (attEnd a0 a1 a2 a3).til = a0.til :=
  (keeps_of (N := 67108864) (fun W h => attEnd_keeps h (Keeps.refl W a0))).same .til rfl nofun

@[simp] theorem releaseSlots_til {a0 a1 a2} : (releaseSlots a0 a1 a2).til = a0.til :=
  (keeps_of (N := 131072) (fun W h => releaseSlots_keeps h (Keeps.refl W a0))).same .til rfl nofun

@[simp] theorem stepSub_til {a0 a1 a2 a3} : (stepSub a0 a1 a2 a3).til = a0.til :=
  (keeps_of (N := 4194304) (fun W h => stepSub_keeps h (Keeps.refl W a0))).same .til rfl nofun

@[simp] theorem faultContexts_til {a0 a1 a2} : (faultContexts a0 a1 a2).til = a0.til :=
  (keeps_of (N := 2371421987580235682274733772977928352834969285952318751528091320482061480223727616) (fun W h => faultContexts_keeps h (Keeps.refl W a0))).same .til rfl nofun

@[simp] theorem logRecord_til {a0 a1 a2} : (logRecord a0 a1 a2).til = a0.til :=
  (keeps_of (N := 971334446112864535459730953411759453321203419526069760625906204869452143153436188672) (fun W h => logRecord_keeps h (Keeps.refl W a0))).same .til rfl nofun

@[simp] theorem slotAdd_til {a0 a1} : (slotAdd a0 a1).til = a0.til :=
  (keeps_of (N := 67108864) (fun W h => slotAdd_keeps h (Keeps.refl W a0))).same .til rfl nofun

@[simp] theorem slotAdd_shf {a0 a1} : (slotAdd a0 a1).shf = a0.shf :=
  (keeps_of (N := 67108864) (fun W h => slotAdd_keeps h (Keeps.refl W a0))).same .shf rfl nofun

@[simp] theorem logRecord_now {a0 a1 a2} : (logRecord a0 a1 a2).now = a0.now :=
  (keeps_of (N := 971334446112864535459730953411759453321203419526069760625906204869452143153436188672) (fun W h => logRecord_keeps h (Keeps.refl W a0))).same .now rfl nofun

@[simp] theorem logRecord_isl {a0 a1 a2} : (logRecord a0 a1 a2).isl = a0.isl :=
  (keeps_of (N := 971334446112864535459730953411759453321203419526069760625906204869452143153436188672) (fun W h => logRecord_keeps h (Keeps.refl W a0))).same .isl rfl nofun

@[simp] theorem logRecord_ISL_CLK_CTL {a0 a1 a2} (i : Nat) : rword (logRecord a0 a1 a2) .ISL_CLK_CTL i = rword a0 .ISL_CLK_CTL i :=
  (keeps_of (N := 971334446112864535459730953411759453321203419526069760625906204869452143153436188672) (fun W h => logRecord_keeps h (Keeps.refl W a0))).reg _ _ rfl rfl

@[simp] theorem logRecord_ISL_CLK_STAT {a0 a1 a2} (i : Nat) : rword (logRecord a0 a1 a2) .ISL_CLK_STAT i = rword a0 .ISL_CLK_STAT i :=
  (keeps_of (N := 971334446112864535459730953411759453321203419526069760625906204869452143153436188672) (fun W h => logRecord_keeps h (Keeps.refl W a0))).reg _ _ rfl rfl

@[simp] theorem journal_til {a0 a1 a2} : (journal a0 a1 a2).til = a0.til :=
  (keeps_of (N := 2371421987580235682274733772977928352834969285952318751528091320482061479141441536) (fun W h => journal_keeps h (Keeps.refl W a0))).same .til rfl nofun

@[simp] theorem journal_ctx {a0 a1 a2} : (journal a0 a1 a2).ctx = a0.ctx :=
  (keeps_of (N := 2371421987580235682274733772977928352834969285952318751528091320482061479141441536) (fun W h => journal_keeps h (Keeps.refl W a0))).same .ctx rfl nofun

@[simp] theorem journal_shf {a0 a1 a2} : (journal a0 a1 a2).shf = a0.shf :=
  (keeps_of (N := 2371421987580235682274733772977928352834969285952318751528091320482061479141441536) (fun W h => journal_keeps h (Keeps.refl W a0))).same .shf rfl nofun

@[simp] theorem journal_mem {a0 a1 a2} : (journal a0 a1 a2).mem = a0.mem :=
  (keeps_of (N := 2371421987580235682274733772977928352834969285952318751528091320482061479141441536) (fun W h => journal_keeps h (Keeps.refl W a0))).same .mem rfl nofun

@[simp] theorem journal_tie {a0 a1 a2} : (journal a0 a1 a2).tie = a0.tie :=
  (keeps_of (N := 2371421987580235682274733772977928352834969285952318751528091320482061479141441536) (fun W h => journal_keeps h (Keeps.refl W a0))).same .tie rfl nofun

@[simp] theorem journal_sch {a0 a1 a2} : (journal a0 a1 a2).sch = a0.sch :=
  (keeps_of (N := 2371421987580235682274733772977928352834969285952318751528091320482061479141441536) (fun W h => journal_keeps h (Keeps.refl W a0))).same .sch rfl nofun

@[simp] theorem journal_cows {a0 a1 a2} : (journal a0 a1 a2).cows = a0.cows :=
  (keeps_of (N := 2371421987580235682274733772977928352834969285952318751528091320482061479141441536) (fun W h => journal_keeps h (Keeps.refl W a0))).same .cows rfl nofun

@[simp] theorem journal_bnk {a0 a1 a2} : (journal a0 a1 a2).bnk = a0.bnk :=
  (keeps_of (N := 2371421987580235682274733772977928352834969285952318751528091320482061479141441536) (fun W h => journal_keeps h (Keeps.refl W a0))).same .bnk rfl nofun

@[simp] theorem journal_now {a0 a1 a2} : (journal a0 a1 a2).now = a0.now :=
  (keeps_of (N := 2371421987580235682274733772977928352834969285952318751528091320482061479141441536) (fun W h => journal_keeps h (Keeps.refl W a0))).same .now rfl nofun

@[simp] theorem journal_gtime {a0 a1 a2} : (journal a0 a1 a2).gtime = a0.gtime :=
  (keeps_of (N := 2371421987580235682274733772977928352834969285952318751528091320482061479141441536) (fun W h => journal_keeps h (Keeps.refl W a0))).same .gtime rfl nofun

@[simp] theorem memPut_ctx {a0 a1 a2 a3} : (memPut a0 a1 a2 a3).ctx = a0.ctx :=
  (keeps_of (N := 1073766400) (fun W h => memPut_keeps h (Keeps.refl W a0))).same .ctx rfl nofun

@[simp] theorem memWrite_ctx {a0 a1 a2} : (memWrite a0 a1 a2).ctx = a0.ctx :=
  (keeps_of (N := 1073766400) (fun W h => memWrite_keeps h (Keeps.refl W a0))).same .ctx rfl nofun

@[simp] theorem memWrite_til {a0 a1 a2} : (memWrite a0 a1 a2).til = a0.til :=
  (keeps_of (N := 1073766400) (fun W h => memWrite_keeps h (Keeps.refl W a0))).same .til rfl nofun

@[simp] theorem memWrite_tie {a0 a1 a2} : (memWrite a0 a1 a2).tie = a0.tie :=
  (keeps_of (N := 1073766400) (fun W h => memWrite_keeps h (Keeps.refl W a0))).same .tie rfl nofun

@[simp] theorem memWrite_twin {a0 a1 a2} : (memWrite a0 a1 a2).twin = a0.twin :=
  (keeps_of (N := 1073766400) (fun W h => memWrite_keeps h (Keeps.refl W a0))).same .twin rfl nofun

@[simp] theorem cxChange_til {a0 a1 a2 a3} : (cxChange a0 a1 a2 a3).til = a0.til :=
  (keeps_of (N := 2371421987580235682274733772977928352834969285952318751528091320482061480223727616) (fun W h => cxChange_keeps h (Keeps.refl W a0))).same .til rfl nofun

@[simp] theorem cxChange_shf {a0 a1 a2 a3} : (cxChange a0 a1 a2 a3).shf = a0.shf :=
  (keeps_of (N := 2371421987580235682274733772977928352834969285952318751528091320482061480223727616) (fun W h => cxChange_keeps h (Keeps.refl W a0))).same .shf rfl nofun

@[simp] theorem cxChange_sch {a0 a1 a2 a3} : (cxChange a0 a1 a2 a3).sch = a0.sch :=
  (keeps_of (N := 2371421987580235682274733772977928352834969285952318751528091320482061480223727616) (fun W h => cxChange_keeps h (Keeps.refl W a0))).same .sch rfl nofun

@[simp] theorem cxChange_cows {a0 a1 a2 a3} : (cxChange a0 a1 a2 a3).cows = a0.cows :=
  (keeps_of (N := 2371421987580235682274733772977928352834969285952318751528091320482061480223727616) (fun W h => cxChange_keeps h (Keeps.refl W a0))).same .cows rfl nofun

@[simp] theorem cxChange_bnk {a0 a1 a2 a3} : (cxChange a0 a1 a2 a3).bnk = a0.bnk :=
  (keeps_of (N := 2371421987580235682274733772977928352834969285952318751528091320482061480223727616) (fun W h => cxChange_keeps h (Keeps.refl W a0))).same .bnk rfl nofun

@[simp] theorem cxChange_gtime {a0 a1 a2 a3} : (cxChange a0 a1 a2 a3).gtime = a0.gtime :=
  (keeps_of (N := 2371421987580235682274733772977928352834969285952318751528091320482061480223727616) (fun W h => cxChange_keeps h (Keeps.refl W a0))).same .gtime rfl nofun

@[simp] theorem cxChange_now {a0 a1 a2 a3} : (cxChange a0 a1 a2 a3).now = a0.now :=
  (keeps_of (N := 2371421987580235682274733772977928352834969285952318751528091320482061480223727616) (fun W h => cxChange_keeps h (Keeps.refl W a0))).same .now rfl nofun

@[simp] theorem releaseEntry_cows {a0 a1 a2} : (releaseEntry a0 a1 a2).cows = a0.cows :=
  (keeps_of (N := 187467548099782855343728074008469574490992259968531463800799897577583195386085625978880) (fun W h => releaseEntry_keeps h (Keeps.refl W a0))).same .cows rfl nofun

@[simp] theorem releaseEntry_til {a0 a1 a2} : (releaseEntry a0 a1 a2).til = a0.til :=
  (keeps_of (N := 187467548099782855343728074008469574490992259968531463800799897577583195386085625978880) (fun W h => releaseEntry_keeps h (Keeps.refl W a0))).same .til rfl nofun

@[simp] theorem releaseEntry_CTX_COW {a0 a1 a2} (i : Nat) : rword (releaseEntry a0 a1 a2) .CTX_COW i = rword a0 .CTX_COW i :=
  (keeps_of (N := 187467548099782855343728074008469574490992259968531463800799897577583195386085625978880) (fun W h => releaseEntry_keeps h (Keeps.refl W a0))).reg _ _ rfl rfl

@[simp] theorem ptPut_cows {a0 a1 a2 a3} : (ptPut a0 a1 a2 a3).cows = a0.cows :=
  (keeps_of (N := 2371421987580235682274733772977928352834969285952318751528091320482061480215207936) (fun W h => ptPut_keeps h (Keeps.refl W a0))).same .cows rfl nofun

@[simp] theorem ptPut_til {a0 a1 a2 a3} : (ptPut a0 a1 a2 a3).til = a0.til :=
  (keeps_of (N := 2371421987580235682274733772977928352834969285952318751528091320482061480215207936) (fun W h => ptPut_keeps h (Keeps.refl W a0))).same .til rfl nofun

@[simp] theorem ptPut_ctx {a0 a1 a2 a3} : (ptPut a0 a1 a2 a3).ctx = a0.ctx :=
  (keeps_of (N := 2371421987580235682274733772977928352834969285952318751528091320482061480215207936) (fun W h => ptPut_keeps h (Keeps.refl W a0))).same .ctx rfl nofun

@[simp] theorem ptPut_CTX_COW {a0 a1 a2 a3} (i : Nat) : rword (ptPut a0 a1 a2 a3) .CTX_COW i = rword a0 .CTX_COW i :=
  (keeps_of (N := 2371421987580235682274733772977928352834969285952318751528091320482061480215207936) (fun W h => ptPut_keeps h (Keeps.refl W a0))).reg _ _ rfl rfl

@[simp] theorem setShare_cows {a0 a1 a2} : (setShare a0 a1 a2).cows = a0.cows :=
  (keeps_of (N := 1074159616) (fun W h => setShare_keeps h (Keeps.refl W a0))).same .cows rfl nofun

@[simp] theorem setShare_til {a0 a1 a2} : (setShare a0 a1 a2).til = a0.til :=
  (keeps_of (N := 1074159616) (fun W h => setShare_keeps h (Keeps.refl W a0))).same .til rfl nofun

@[simp] theorem setShare_CTX_COW {a0 a1 a2} (i : Nat) : rword (setShare a0 a1 a2) .CTX_COW i = rword a0 .CTX_COW i :=
  (keeps_of (N := 1074159616) (fun W h => setShare_keeps h (Keeps.refl W a0))).reg _ _ rfl rfl

@[simp] theorem memWrite_cows {a0 a1 a2} : (memWrite a0 a1 a2).cows = a0.cows :=
  (keeps_of (N := 1073766400) (fun W h => memWrite_keeps h (Keeps.refl W a0))).same .cows rfl nofun

@[simp] theorem memWrite_CTX_COW {a0 a1 a2} (i : Nat) : rword (memWrite a0 a1 a2) .CTX_COW i = rword a0 .CTX_COW i :=
  (keeps_of (N := 1073766400) (fun W h => memWrite_keeps h (Keeps.refl W a0))).reg _ _ rfl rfl

@[simp] theorem exportSet_til {a0 a1 a2 a3} : (exportSet a0 a1 a2 a3).til = a0.til :=
  (keeps_of (N := 8388608) (fun W h => exportSet_keeps h (Keeps.refl W a0))).same .til rfl nofun

@[simp] theorem exportSet_fab {a0 a1 a2 a3} : (exportSet a0 a1 a2 a3).fab = a0.fab :=
  (keeps_of (N := 8388608) (fun W h => exportSet_keeps h (Keeps.refl W a0))).same .fab rfl nofun

@[simp] theorem showCaps_gov {a0} : (showCaps a0).gov = a0.gov :=
  (keeps_of (N := 3203980553881365123592532559254328171904056783534979154920562411733329588670960825034443130930176) (fun W h => showCaps_keeps h (Keeps.refl W a0))).same .gov rfl nofun

@[simp] theorem showCaps_pins {a0} : (showCaps a0).pins = a0.pins :=
  (keeps_of (N := 3203980553881365123592532559254328171904056783534979154920562411733329588670960825034443130930176) (fun W h => showCaps_keeps h (Keeps.refl W a0))).same .pins rfl nofun

@[simp] theorem flashTempSample_gov {a0} : (flashTempSample a0).gov = a0.gov :=
  (keeps_of (N := 1073741824) (fun W h => flashTempSample_keeps h (Keeps.refl W a0))).same .gov rfl nofun

@[simp] theorem flashTempSample_pins {a0} : (flashTempSample a0).pins = a0.pins :=
  (keeps_of (N := 1073741824) (fun W h => flashTempSample_keeps h (Keeps.refl W a0))).same .pins rfl nofun

@[simp] theorem clockMove_pins {a0 a1} : (clockMove a0 a1).pins = a0.pins :=
  (keeps_of (N := 3203980553881365123592532559254328171904056783534979154920562411733329588670960825034443130930176) (fun W h => clockMove_keeps h (Keeps.refl W a0))).same .pins rfl nofun

@[simp] theorem meter_BNK_STK_STAT {a0 a1 a2 a3} (i : Nat) : rword (meter a0 a1 a2 a3) .BNK_STK_STAT i = rword a0 .BNK_STK_STAT i :=
  (keeps_of (N := 8589934592) (fun W h => meter_keeps h (Keeps.refl W a0))).reg _ _ rfl rfl

@[simp] theorem meter_BNK_BUSY {a0 a1 a2 a3} (i : Nat) : rword (meter a0 a1 a2 a3) .BNK_BUSY i = rword a0 .BNK_BUSY i :=
  (keeps_of (N := 8589934592) (fun W h => meter_keeps h (Keeps.refl W a0))).reg _ _ rfl rfl

@[simp] theorem lineFailure_BNK_STK_STAT {a0 a1 a2 a3} (i : Nat) : rword (lineFailure a0 a1 a2 a3) .BNK_STK_STAT i = rword a0 .BNK_STK_STAT i :=
  (keeps_of (N := 187467548099782855343728074008469574490992259968531463800799897577583195385810613854208) (fun W h => lineFailure_keeps h (Keeps.refl W a0))).reg _ _ rfl rfl

@[simp] theorem lineFailure_BNK_BUSY {a0 a1 a2 a3} (i : Nat) : rword (lineFailure a0 a1 a2 a3) .BNK_BUSY i = rword a0 .BNK_BUSY i :=
  (keeps_of (N := 187467548099782855343728074008469574490992259968531463800799897577583195385810613854208) (fun W h => lineFailure_keeps h (Keeps.refl W a0))).reg _ _ rfl rfl

@[simp] theorem spanLost_BNK_STK_STAT {a0 a1 a2} (i : Nat) : rword (spanLost a0 a1 a2) .BNK_STK_STAT i = rword a0 .BNK_STK_STAT i :=
  (keeps_of (N := 124333180524434240774527836770478187953466872668622881678867522314610356314613567873024) (fun W h => spanLost_keeps h (Keeps.refl W a0))).reg _ _ rfl rfl

@[simp] theorem spanLost_BNK_BUSY {a0 a1 a2} (i : Nat) : rword (spanLost a0 a1 a2) .BNK_BUSY i = rword a0 .BNK_BUSY i :=
  (keeps_of (N := 124333180524434240774527836770478187953466872668622881678867522314610356314613567873024) (fun W h => spanLost_keeps h (Keeps.refl W a0))).reg _ _ rfl rfl

@[simp] theorem seqEnd_BNK_STK_STAT {a0 a1 a2} (i : Nat) : rword (seqEnd a0 a1 a2) .BNK_STK_STAT i = rword a0 .BNK_STK_STAT i :=
  (keeps_of (N := 22300745198530623141535718272648362682114048) (fun W h => seqEnd_keeps h (Keeps.refl W a0))).reg _ _ rfl rfl

@[simp] theorem seqEnd_BNK_BUSY {a0 a1 a2} (i : Nat) : rword (seqEnd a0 a1 a2) .BNK_BUSY i = rword a0 .BNK_BUSY i :=
  (keeps_of (N := 22300745198530623141535718272648362682114048) (fun W h => seqEnd_keeps h (Keeps.refl W a0))).reg _ _ rfl rfl

@[simp] theorem seqFinish_BNK_STK_STAT {a0 a1 a2 a3} (i : Nat) : rword (seqFinish a0 a1 a2 a3) .BNK_STK_STAT i = rword a0 .BNK_STK_STAT i :=
  (keeps_of (N := 22300745198530623141535718272648362682114048) (fun W h => seqFinish_keeps h (Keeps.refl W a0))).reg _ _ rfl rfl

@[simp] theorem seqFinish_BNK_BUSY {a0 a1 a2 a3} (i : Nat) : rword (seqFinish a0 a1 a2 a3) .BNK_BUSY i = rword a0 .BNK_BUSY i :=
  (keeps_of (N := 22300745198530623141535718272648362682114048) (fun W h => seqFinish_keeps h (Keeps.refl W a0))).reg _ _ rfl rfl

@[simp] theorem serveAll_BNK_STK_STAT {a0 a1 a2} (i : Nat) : rword (serveAll a0 a1 a2) .BNK_STK_STAT i = rword a0 .BNK_STK_STAT i :=
  (keeps_of (N := 1141923840) (fun W h => serveAll_keeps h (Keeps.refl W a0))).reg _ _ rfl rfl

@[simp] theorem serveAll_BNK_BUSY {a0 a1 a2} (i : Nat) : rword (serveAll a0 a1 a2) .BNK_BUSY i = rword a0 .BNK_BUSY i :=
  (keeps_of (N := 1141923840) (fun W h => serveAll_keeps h (Keeps.refl W a0))).reg _ _ rfl rfl

@[simp] theorem boundary_BNK_BUSY {a0 a1} (i : Nat) : rword (boundary a0 a1) .BNK_BUSY i = rword a0 .BNK_BUSY i :=
  (keeps_of (N := 11150372599265311570767859136324181894914048) (fun W h => boundary_keeps h (Keeps.refl W a0))).reg _ _ rfl rfl

@[simp] theorem finishSteps_BNK_STK_STAT {a0 a1} (i : Nat) : rword (finishSteps a0 a1) .BNK_STK_STAT i = rword a0 .BNK_STK_STAT i :=
  (keeps_of (N := 89202980794122492566142873090593447165845504) (fun W h => finishSteps_keeps h (Keeps.refl W a0))).reg _ _ rfl rfl

@[simp] theorem finishSteps_BNK_BUSY {a0 a1} (i : Nat) : rword (finishSteps a0 a1) .BNK_BUSY i = rword a0 .BNK_BUSY i :=
  (keeps_of (N := 89202980794122492566142873090593447165845504) (fun W h => finishSteps_keeps h (Keeps.refl W a0))).reg _ _ rfl rfl

@[simp] theorem finishSteps_now {a0 a1} : (finishSteps a0 a1).now = a0.now :=
  (keeps_of (N := 89202980794122492566142873090593447165845504) (fun W h => finishSteps_keeps h (Keeps.refl W a0))).same .now rfl nofun

@[simp] theorem fwdWrite_bnk {a0 a1 a2} : (fwdWrite a0 a1 a2).bnk = a0.bnk :=
  (keeps_of (N := 1073766400) (fun W h => fwdWrite_keeps h (Keeps.refl W a0))).same .bnk rfl nofun

@[simp] theorem lineFailureOf_BNK_STK_STAT {a0 a1 a2 a3 a4 a5} (i : Nat) : rword (lineFailureOf a0 a1 a2 a3 a4 a5) .BNK_STK_STAT i = rword a0 .BNK_STK_STAT i :=
  (keeps_of (N := 187467548099782855343728074008469574490992259968531463800799897577583195385810613854208) (fun W h => lineFailureOf_keeps h (Keeps.refl W a0))).reg _ _ rfl rfl

@[simp] theorem lineFailureOf_BNK_BUSY {a0 a1 a2 a3 a4 a5} (i : Nat) : rword (lineFailureOf a0 a1 a2 a3 a4 a5) .BNK_BUSY i = rword a0 .BNK_BUSY i :=
  (keeps_of (N := 187467548099782855343728074008469574490992259968531463800799897577583195385810613854208) (fun W h => lineFailureOf_keeps h (Keeps.refl W a0))).reg _ _ rfl rfl

@[simp] theorem pushToSet_bnk {a0 a1 a2} : (pushToSet a0 a1 a2).bnk = a0.bnk :=
  (keeps_of (N := 1048576) (fun W h => pushToSet_keeps h (Keeps.refl W a0))).same .bnk rfl nofun

@[simp] theorem setProg_bnk {a0 a1 a2 a3 a4 a5} : (setProg a0 a1 a2 a3 a4 a5).bnk = a0.bnk :=
  (keeps_of (N := 1073766400) (fun W h => setProg_keeps h (Keeps.refl W a0))).same .bnk rfl nofun

@[simp] theorem cxChange_TWN_HS_STAT {a0 a1 a2 a3} (i : Nat) : rword (cxChange a0 a1 a2 a3) .TWN_HS_STAT i = rword a0 .TWN_HS_STAT i :=
  (keeps_of (N := 2371421987580235682274733772977928352834969285952318751528091320482061480223727616) (fun W h => cxChange_keeps h (Keeps.refl W a0))).reg _ _ rfl rfl

@[simp] theorem releaseAll_ctx {a0 a1} : (releaseAll a0 a1).ctx = a0.ctx :=
  (keeps_of (N := 187467548099782855343728074008469574490992259968531463800799897577583195386085625978880) (fun W h => releaseAll_keeps h (Keeps.refl W a0))).same .ctx rfl nofun

@[simp] theorem releaseAll_TWN_HS_STAT {a0 a1} (i : Nat) : rword (releaseAll a0 a1) .TWN_HS_STAT i = rword a0 .TWN_HS_STAT i :=
  (keeps_of (N := 187467548099782855343728074008469574490992259968531463800799897577583195386085625978880) (fun W h => releaseAll_keeps h (Keeps.refl W a0))).reg _ _ rfl rfl

@[simp] theorem revokeSpans_ctx {a0 a1 a2} : (revokeSpans a0 a1 a2).ctx = a0.ctx :=
  (keeps_of (N := 2371421987580235682274733772977928352834969285952318751528091320482061480215207936) (fun W h => revokeSpans_keeps h (Keeps.refl W a0))).same .ctx rfl nofun

@[simp] theorem record_ctx {a0 a1 a2 a3 a4} : (record a0 a1 a2 a3 a4).ctx = a0.ctx :=
  (keeps_of (N := 309673904480660439724777472) (fun W h => record_keeps h (Keeps.refl W a0))).same .ctx rfl nofun

@[simp] theorem doneCount_ctx {a0 a1} : (doneCount a0 a1).ctx = a0.ctx :=
  (keeps_of (N := 30423614405477505635920876929024) (fun W h => doneCount_keeps h (Keeps.refl W a0))).same .ctx rfl nofun

@[simp] theorem attach_ctx {a0 a1 a2} : (attach a0 a1 a2).2.2.ctx = a0.ctx :=
  (keeps_of (N := 187469919521770435579410348742242552419345094956875887123115549454598463077314592137216) (fun W h => attach_keeps h (Keeps.refl W a0))).same .ctx rfl nofun

@[simp] theorem publish_ctx {a0 a1} : (publish a0 a1).ctx = a0.ctx :=
  (keeps_of (N := 187467548099782855343728074008469574490992260003923488416569067609519962173110080659458) (fun W h => publish_keeps h (Keeps.refl W a0))).same .ctx rfl nofun

@[simp] theorem descRead_CTX_PEEK_SEL {a0 a1} (i : Nat) : rword (descRead a0 a1) .CTX_PEEK_SEL i = rword a0 .CTX_PEEK_SEL i :=
  (keeps_of (N := 2371421987580235682274733772977928352834969285952349175452170702468357255652892672) (fun W h => descRead_keeps h (Keeps.refl W a0))).reg _ _ rfl rfl

@[simp] theorem staleAll_pools {a0 a1} : (staleAll a0 a1).pools = a0.pools :=
  (keeps_of (N := 1073766400) (fun W h => staleAll_keeps h (Keeps.refl W a0))).same .pools rfl nofun

@[simp] theorem swapFail_isl {a0 a1} : (swapFail a0 a1).isl = a0.isl :=
  (keeps_of (N := 2371421987580235682274733772977928352834969285952323822130492233399667467036549120) (fun W h => swapFail_keeps h (Keeps.refl W a0))).same .isl rfl nofun

@[simp] theorem moveStart_ctx {a0 a1} : (moveStart a0 a1).ctx = a0.ctx :=
  (keeps_of (N := 131072) (fun W h => moveStart_keeps h (Keeps.refl W a0))).same .ctx rfl nofun

@[simp] theorem takeFrame_ctx {a0 a1 a2} : (takeFrame a0 a1 a2).ctx = a0.ctx :=
  (keeps_of (N := 1074159616) (fun W h => takeFrame_keeps h (Keeps.refl W a0))).same .ctx rfl nofun

@[simp] theorem releaseEntry_ctx {a0 a1 a2} : (releaseEntry a0 a1 a2).ctx = a0.ctx :=
  (keeps_of (N := 187467548099782855343728074008469574490992259968531463800799897577583195386085625978880) (fun W h => releaseEntry_keeps h (Keeps.refl W a0))).same .ctx rfl nofun

@[simp] theorem ptPut_isl {a0 a1 a2 a3} : (ptPut a0 a1 a2 a3).isl = a0.isl :=
  (keeps_of (N := 2371421987580235682274733772977928352834969285952318751528091320482061480215207936) (fun W h => ptPut_keeps h (Keeps.refl W a0))).same .isl rfl nofun

@[simp] theorem drain_isl {a0 a1 a2 a3 a4} : (drain a0 a1 a2 a3 a4).isl = a0.isl :=
  (keeps_of (N := 2371421987580235682274733772977928352834969285952349175452170702468357255636115456) (fun W h => drain_keeps h (Keeps.refl W a0))).same .isl rfl nofun

@[simp] theorem memWrite_sch {a0 a1 a2} : (memWrite a0 a1 a2).sch = a0.sch :=
  (keeps_of (N := 1073766400) (fun W h => memWrite_keeps h (Keeps.refl W a0))).same .sch rfl nofun

@[simp] theorem pushToSet_sch {a0 a1 a2} : (pushToSet a0 a1 a2).sch = a0.sch :=
  (keeps_of (N := 1048576) (fun W h => pushToSet_keeps h (Keeps.refl W a0))).same .sch rfl nofun

@[simp] theorem logWrite_isl {a0 a1 a2 a3} : (logWrite a0 a1 a2 a3).isl = a0.isl :=
  (keeps_of (N := 187467548099782855343728074008469574490992259968534122256791467409329002999965676888066) (fun W h => logWrite_keeps h (Keeps.refl W a0))).same .isl rfl nofun

@[simp] theorem logSegment_ctx {a0 a1 a2} : (logSegment a0 a1 a2).ctx = a0.ctx :=
  (keeps_of (N := 1207984130) (fun W h => logSegment_keeps h (Keeps.refl W a0))).same .ctx rfl nofun

@[simp] theorem lineFailure_ctx {a0 a1 a2 a3} : (lineFailure a0 a1 a2 a3).ctx = a0.ctx :=
  (keeps_of (N := 187467548099782855343728074008469574490992259968531463800799897577583195385810613854208) (fun W h => lineFailure_keeps h (Keeps.refl W a0))).same .ctx rfl nofun

@[simp] theorem swapOutStart_sch {a0 a1} : (swapOutStart a0 a1).sch = a0.sch :=
  (keeps_of (N := 2371421987580235682274733772977928352834969285952323822130492233399667467171028994) (fun W h => swapOutStart_keeps h (Keeps.refl W a0))).same .sch rfl nofun

@[simp] theorem swapInStart_sch {a0 a1} : (swapInStart a0 a1).sch = a0.sch :=
  (keeps_of (N := 2371421987580235682274733772977928352834969285952323822130492233399667467171028994) (fun W h => swapInStart_keeps h (Keeps.refl W a0))).same .sch rfl nofun

@[simp] theorem commitDecode_sch {a0 a1 a2 a3 a4} : (commitDecode a0 a1 a2 a3 a4).sch = a0.sch :=
  (keeps_of (N := 187469919579666480198075028472257329747857671528783763074191243141891753493217161437186) (fun W h => commitDecode_keeps h (Keeps.refl W a0))).same .sch rfl nofun

@[simp] theorem commitChunk_sch {a0 a1 a2 a3} : (commitChunk a0 a1 a2 a3).sch = a0.sch :=
  (keeps_of (N := 497325607831774222391064522880593818028808985766633669764286107385392896680009002016768) (fun W h => commitChunk_keeps h (Keeps.refl W a0))).same .sch rfl nofun

@[simp] theorem meter_ctx {a0 a1 a2 a3} : (meter a0 a1 a2 a3).ctx = a0.ctx :=
  (keeps_of (N := 8589934592) (fun W h => meter_keeps h (Keeps.refl W a0))).same .ctx rfl nofun

@[simp] theorem memWrite_rows {a0 a1 a2} : (memWrite a0 a1 a2).rows = a0.rows :=
  (keeps_of (N := 1073766400) (fun W h => memWrite_keeps h (Keeps.refl W a0))).same .rows rfl nofun

@[simp] theorem stepAdd_ISL_CLK_STAT {a0 a1} (i : Nat) : rword (stepAdd a0 a1) .ISL_CLK_STAT i = rword a0 .ISL_CLK_STAT i :=
  (keeps_of (N := 4194304) (fun W h => stepAdd_keeps h (Keeps.refl W a0))).reg _ _ rfl rfl

@[simp] theorem slotAdd_ISL_CLK_STAT {a0 a1} (i : Nat) : rword (slotAdd a0 a1) .ISL_CLK_STAT i = rword a0 .ISL_CLK_STAT i :=
  (keeps_of (N := 67108864) (fun W h => slotAdd_keeps h (Keeps.refl W a0))).reg _ _ rfl rfl

@[simp] theorem reap_fab {a0} : (reap a0).fab = a0.fab :=
  (keeps_of (N := 1073897472) (fun W h => reap_keeps h (Keeps.refl W a0))).same .fab rfl nofun

@[simp] theorem showMap_keys {a0 a1} : (showMap a0 a1).keys = a0.keys :=
  (keeps_of (N := 1073766400) (fun W h => showMap_keeps h (Keeps.refl W a0))).same .keys rfl nofun

@[simp] theorem restoreData_keys {a0 a1} : (restoreData a0 a1).keys = a0.keys :=
  (keeps_of (N := 24576) (fun W h => restoreData_keeps h (Keeps.refl W a0))).same .keys rfl nofun

end Sys2Proof.Machine
end

