-- ==== Sys2Proof/Laws/Tiller.lean ====
section
/-!
SUPPORT. Laws of the tiller: read after write of its registers and memories, and everything an issuing instruction can do.
-/

namespace Sys2Proof.Machine

/-! ### Tillers and sheaves -/

@[simp] theorem til_tput_self (s : State) (t : Nat) (x : Tiller) : til (tput s t x) t = x := nget_nput_self _ _ _ _
theorem til_tput_ne (s : State) {t u : Nat} (x : Tiller) (h : u ≠ t) : til (tput s t x) u = til s u := nget_nput_ne _ _ _ h
@[simp] theorem tput_tput (s : State) (t : Nat) (x y : Tiller) : tput (tput s t x) t y = tput s t y := by
  simp only [tput, nput_nput]
@[simp] theorem shput_shput (s : State) (h : Nat) (x y : Sheaf) : shput (shput s h x) h y = shput s h y := by
  simp only [shput, nput_nput]
@[simp] theorem shf_tput (s : State) (t h : Nat) (x : Tiller) : shf (tput s t x) h = shf s h := rfl
@[simp] theorem shf_shput_self (s : State) (h : Nat) (x : Sheaf) : shf (shput s h x) h = x := nget_nput_self _ _ _ _
theorem shf_shput_ne (s : State) {h g : Nat} (x : Sheaf) (n : g ≠ h) : shf (shput s h x) g = shf s g := nget_nput_ne _ _ _ n
@[simp] theorem til_shput (s : State) (t h : Nat) (x : Sheaf) : til (shput s h x) t = til s t := rfl
@[simp] theorem til_rput (s : State) (r : Reg) (i t : Nat) (w : Word) : til (rput s r i w) t = til s t := rfl
@[simp] theorem shf_rput (s : State) (r : Reg) (i h : Nat) (w : Word) : shf (rput s r i w) h = shf s h := rfl
@[simp] theorem rword_tput (s : State) (t : Nat) (x : Tiller) (r : Reg) (i : Nat) : rword (tput s t x) r i = rword s r i := rfl
@[simp] theorem rword_shput (s : State) (h : Nat) (x : Sheaf) (r : Reg) (i : Nat) : rword (shput s h x) r i = rword s r i := rfl
@[simp] theorem til_fpFlags (s : State) (t u f : Nat) : til (fpFlags s t f) u = til s u := by
  simp only [fpFlags]; split <;> rfl

/-! ### Registers -/

@[simp] theorem sreg_zero (x : Tiller) : sreg x 0 = 0 := rfl
@[simp] theorem preg_zero (x : Tiller) : preg x 0 = BitVec.allOnes 128 := rfl
@[simp] theorem sset_zero (x : Tiller) (w : Word) : sset x 0 w = x := rfl
@[simp] theorem pset_zero (x : Tiller) (w : PReg) : pset x 0 w = x := rfl

theorem sreg_sset_self (x : Tiller) {r : Nat} (w : Word) (h : r ≠ 0) : sreg (sset x r w) r = w := by
  simp [sreg, sset, h]

theorem sreg_sset_ne (x : Tiller) {r q : Nat} (w : Word) (h : q ≠ r) : sreg (sset x r w) q = sreg x q := by
  simp only [sreg, sset]
  split
  · rfl
  · split
    · rfl
    · exact nget_nput_ne _ _ _ h

theorem preg_pset_self (x : Tiller) {r : Nat} (w : PReg) (h : r ≠ 0) : preg (pset x r w) r = w := by
  simp [preg, pset, h]

theorem preg_pset_ne (x : Tiller) {r q : Nat} (w : PReg) (h : q ≠ r) : preg (pset x r w) q = preg x q := by
  simp only [preg, pset]
  split
  · rfl
  · split
    · rfl
    · exact nget_nput_ne _ _ _ h

@[simp] theorem vreg_vset_self (x : Tiller) (r : Nat) (w : VReg) : vreg (vset x r w) r = w := nget_nput_self _ _ _ _
theorem vreg_vset_ne (x : Tiller) {r q : Nat} (w : VReg) (h : q ≠ r) : vreg (vset x r w) q = vreg x q := nget_nput_ne _ _ _ h
@[simp] theorem areg_aset_self (x : Tiller) (r : Nat) (w : Tile) : areg (aset x r w) r = w := nget_nput_self _ _ _ _
theorem areg_aset_ne (x : Tiller) {r q : Nat} (w : Tile) (h : q ≠ r) : areg (aset x r w) q = areg x q := nget_nput_ne _ _ _ h

/-- A write to an s register is one field of the tiller. -/
theorem sset_eq (x : Tiller) (r : Nat) (w : Word) : sset x r w = { x with s := (sset x r w).s } := by
  unfold sset; split <;> rfl

theorem pset_eq (x : Tiller) (r : Nat) (w : PReg) : pset x r w = { x with p := (pset x r w).p } := by
  unfold pset; split <;> rfl

@[simp] theorem sreg_advPc (x : Tiller) (r : Nat) : sreg (advPc x) r = sreg x r := rfl
@[simp] theorem preg_advPc (x : Tiller) (r : Nat) : preg (advPc x) r = preg x r := rfl
@[simp] theorem vreg_advPc (x : Tiller) (r : Nat) : vreg (advPc x) r = vreg x r := rfl
@[simp] theorem areg_advPc (x : Tiller) (r : Nat) : areg (advPc x) r = areg x r := rfl

/-! ### Issue -/

/-- Everything an instruction can do at its issue: nothing; ILLEGAL; passing by its guard; its effect. -/
theorem issue_cases (s : State) (t op : Nat) (b : BitVec 54) (vec legal ready : Bool) (k : State → State) :
    issue s t op b vec legal ready k = s ∨ issue s t op b vec legal ready k = raiseAt s t op b 1 0 ∨
    issue s t op b vec legal ready k = tupd s t advPc ∨ issue s t op b vec legal ready k = k s := by
  unfold issue
  dsimp only
  by_cases h1 : (!canIssue (til s t)) = true
  · exact .inl (by rw [if_pos h1])
  by_cases h2 : awaitP (til s t) (guardOf b) = true
  · exact .inl (by rw [if_neg h1, if_pos h2])
  by_cases h3 : (!legal && !guardOff (til s t) b vec) = true
  · exact .inr (.inl (by rw [if_neg h1, if_neg h2, if_pos h3]))
  by_cases h4 : (!ready) = true
  · exact .inl (by rw [if_neg h1, if_neg h2, if_neg h3, if_pos h4])
  by_cases h5 : (guardOff (til s t) b vec && !(vec && legal)) = true
  · exact .inr (.inr (.inl (by rw [if_neg h1, if_neg h2, if_neg h3, if_neg h4, if_pos h5])))
  · exact .inr (.inr (.inr (by rw [if_neg h1, if_neg h2, if_neg h3, if_neg h4, if_neg h5])))

/-- An instruction that is legal, ready, and not turned away by its guard has its effect. -/
theorem issue_runs {s : State} {t op : Nat} {b : BitVec 54} {vec legal ready : Bool} {k : State → State}
    (h1 : canIssue (til s t) = true) (h2 : awaitP (til s t) (guardOf b) = false)
    (h3 : vec = true ∨ bbit (preg (til s t) (guardOf b)) 0 = true) (h4 : legal = true) (h5 : ready = true) :
    issue s t op b vec legal ready k = k s := by
  unfold issue
  subst h4
  cases vec
  · rcases h3 with h3 | h3
    · cases h3
    · simp [h1, h2, h3, h5, guardOff]
  · simp [h1, h2, h5]

/-- Raising an exception touches nothing but the tiller's exception record. -/
theorem raise_eq (s : State) (t : Nat) (e : Exc) :
    ∃ y : Tiller, raise s t e = tput s t y ∧ y = { til s t with exc := y.exc, suppressed := y.suppressed } := by
  refine ⟨_, rfl, ?_⟩
  dsimp only
  split <;> rfl

theorem raiseAt_eq (s : State) (t op : Nat) (b : BitVec 54) (code : Nat) (addr : Word) :
    ∃ y : Tiller, raiseAt s t op b code addr = tput s t y ∧ y = { til s t with exc := y.exc, suppressed := y.suppressed } :=
  raise_eq _ _ _

/-- A tiller with no exception pending records the one raised. -/
theorem raise_records {s : State} {t : Nat} {e : Exc} (h : (til s t).exc = none) :
    raise s t e = tput s t { til s t with exc := some { e with time := timeNs s, cyc := tcyc s t / 1000 } } := by
  simp only [raise, tupd, h]

/-- T-cycles do not depend on what else a tiller holds. -/
theorem tcyc_tput (s : State) (t : Nat) (x : Tiller) (h1 : x.cyc = (til s t).cyc) (h2 : x.cycT = (til s t).cycT) :
    tcyc (tput s t x) t = tcyc s t := by
  simp only [tcyc, til_tput_self, h1, h2]; rfl

/-- A tiller with no exception pending records the one raised at issue: precise, with the word, the pc and the time. -/
theorem raiseAt_records {s : State} {t op : Nat} {b : BitVec 54} {code : Nat} {addr : Word} (h : (til s t).exc = none) :
    raiseAt s t op b code addr = tupd s t (fun x => { x with
      exc := some { code := code, precise := true, pc := x.pc, instr := wordOf op b, addr := addr, time := timeNs s,
                    n := x.seq, cyc := tcyc s t / 1000 } }) := by
  simp [raiseAt, raise, tupd, h]

/-- While a tiller can issue, an exception at issue is the first of its item. -/
theorem raiseAt_trapped {s : State} {t op : Nat} {b : BitVec 54} {code : Nat} {addr : Word} (h : canIssue (til s t) = true) :
    raiseAt s t op b code addr = trapped s t op b code addr := by
  have : (til s t).exc = none := by
    simp [canIssue] at h; exact h.1.1.1.2
  rw [raiseAt_records this]; rfl

/-! ### Memory of a tiller -/

theorem localBytes_localWrite (x : Tiller) (a : Nat) (bs : List Byte) : localBytes (localWrite x a bs) a bs.length = bs :=
  ngets_nputs_self _ _ _ _

theorem localBytes_localWrite_ne (x : Tiller) (a : Nat) (bs : List Byte) {c n : Nat} (h : c + n ≤ a ∨ a + bs.length ≤ c) :
    localBytes (localWrite x a bs) c n = localBytes x c n :=
  ngets_congr _ _ _ _ _ (fun j h1 h2 => nget_nputs_out _ _ _ _ _ (by omega))

theorem storeBytes_storeWrite (h : Sheaf) (a : Nat) (bs : List Byte) : storeBytes (storeWrite h a bs) a bs.length = bs :=
  ngets_nputs_self _ _ _ _

theorem storeBytes_storeWrite_ne (h : Sheaf) (a : Nat) (bs : List Byte) {c n : Nat} (ha : storeBase ≤ a) (hc : storeBase ≤ c)
    (d : c + n ≤ a ∨ a + bs.length ≤ c) : storeBytes (storeWrite h a bs) c n = storeBytes h c n :=
  ngets_congr _ _ _ _ _ (fun j h1 h2 => nget_nputs_out _ _ _ _ _ (by omega))

/-- Everything a store into local SRAM or the sheaf store does, with what the instruction does to the tiller's other state
(`f`, which leaves local SRAM alone). -/
theorem twrite_stored {s : State} {t a : Nat} {bs : List Byte} (f : Tiller → Tiller)
    (hf : ∀ x, ∃ y : Tiller, f x = { y with sram := x.sram, bad := x.bad } ∧ y.junk = x.junk ∧ y.junkFrom = x.junkFrom ∧
      ∀ m l, f { x with sram := m, bad := l } = { y with sram := m, bad := l })
    (ha : (inLocal a bs.length || inStore a bs.length) = true) :
    stored s (tupd (twrite s t a bs) t f) t a bs (f (til s t)) := by
  obtain ⟨y, e1, e2, e3, e4⟩ := hf (til s t)
  have hy : f (localWrite (til s t) a bs) = { y with
      sram := (localWrite (til s t) a bs).sram, bad := (localWrite (til s t) a bs).bad } := e4 _ _
  have hb : ∀ m n, ngets (sramDefault { y with sram := m, bad := n }) = ngets (sramDefault (til s t)) := by
    intro m n
    have : sramDefault { y with sram := m, bad := n } = sramDefault (til s t) := by
      funext c; simp only [sramDefault, e2, e3]
    rw [this]
  unfold stored
  by_cases hl : inLocal a bs.length = true
  · have et : twrite s t a bs = tput s t (localWrite (til s t) a bs) := by simp [twrite, hl, tupd]
    have eu : til (tupd (twrite s t a bs) t f) t = f (localWrite (til s t) a bs) := by simp [tupd, et]
    have es : ∀ h, shf (tupd (twrite s t a bs) t f) h = shf s h := by intro h; simp [tupd, et]
    refine ⟨?_, ?_, ?_, ?_, ?_, ?_, ?_⟩
    · simp only [tread, hl, if_true, eu, hy, localBytes, hb]
      exact ngets_nputs_self _ _ _ _
    · intro c _ hc
      simp only [tread, eu, es, hy, localBytes, hb]
      split
      · exact ngets_congr _ _ _ _ _ (fun j h1 h2 => nget_nputs_out _ _ _ _ _ (by omega))
      · rfl
    · intro k hk
      simp only [tupd, et]
      rw [til_tput_ne _ _ hk, til_tput_ne _ _ hk]
    · intro h _; exact es h
    · rw [eu, hy, e1]
    · rw [es]
    · simp only [tupd, et]; rfl
  · have hs : inStore a bs.length = true := by simpa [hl] using ha
    have et : twrite s t a bs = shput s (sheafOf t) (storeWrite (shf s (sheafOf t)) a bs) := by simp [twrite, hl, shupd]
    have eu : til (tupd (twrite s t a bs) t f) t = f (til s t) := by simp [tupd, et]
    have es : shf (tupd (twrite s t a bs) t f) (sheafOf t) = storeWrite (shf s (sheafOf t)) a bs := by simp [tupd, et]
    have hge : storeBase ≤ a := by simp [inStore] at hs; exact hs.1
    refine ⟨?_, ?_, ?_, ?_, ?_, ?_, ?_⟩
    · simp only [tread, hl, es]
      exact storeBytes_storeWrite _ _ _
    · intro c hm hc
      simp only [tread, eu, es]
      split
      · simp only [localBytes, e1, hb]
      · rename_i hn
        have : storeBase ≤ c := by
          rcases Bool.or_eq_true _ _ ▸ hm with h | h
          · exact absurd h hn
          · simp [inStore] at h; exact h.1
        exact storeBytes_storeWrite_ne _ _ _ hge this (by omega)
    · intro k hk
      simp only [tupd, et]
      rw [til_tput_ne _ _ hk]; rfl
    · intro h hh
      simp only [tupd, et, shf_tput]
      exact shf_shput_ne _ _ hh
    · rw [eu]
    · rw [es]; rfl
    · simp only [tupd, et]; rfl

end Sys2Proof.Machine
end

