-- ==== Sys2Proof/Laws/Ctx.lean ====
section
/-!
SUPPORT. Laws of contexts: descriptor fields, and a context read back after a change.
-/

namespace Sys2Proof.Machine

/-! ### Descriptors -/

theorem dg_ds_self (d : Desc) (f : DFld) (v : Nat) (h : f.lo + f.w ≤ 1024) : dg (ds d f v) f = v % 2 ^ f.w :=
  bget_bset_self _ _ _ _ h

theorem dg_ds_ne (d : Desc) (f g : DFld) (v : Nat) (hf : f.lo + f.w ≤ 1024) (h : g.lo + g.w ≤ f.lo ∨ f.lo + f.w ≤ g.lo) :
    dg (ds d f v) g = dg d g :=
  bget_bset_ne _ _ _ _ _ _ hf h

/-! ### Contexts -/

@[simp] theorem cx_cxPut_self (s : State) (c : Nat) (x : Ctx) : cx (cxPut s c x) c = x := nget_nput_self _ _ _ _
theorem cx_cxPut_ne (s : State) {c k : Nat} (x : Ctx) (h : k ≠ c) : cx (cxPut s c x) k = cx s k := nget_nput_ne _ _ _ h
@[simp] theorem cx_tput (s : State) (t : Nat) (x : Tiller) (c : Nat) : cx (tput s t x) c = cx s c := rfl
@[simp] theorem til_cxPut (s : State) (c : Nat) (x : Ctx) (t : Nat) : til (cxPut s c x) t = til s t := rfl
theorem cx_of {s t : State} (h : t.ctx = s.ctx) (c : Nat) : cx t c = cx s c := by rw [cx, h, cx]
theorem til_of {s t : State} (h : t.til = s.til) (k : Nat) : til t k = til s k := by rw [til, h, til]
theorem shf_of {s t : State} (h : t.shf = s.shf) (k : Nat) : shf t k = shf s k := by rw [shf, h, shf]

theorem ite_memPut_ctx (b : Bool) (s : State) (a n v : Nat) : (if b = true then memPut s a n v else s).ctx = s.ctx := by
  cases b
  · rfl
  · exact memPut_ctx

/-- The context a change leaves: what was put, with the time of its entry when its state moved. -/
theorem cx_cxChange_self (s : State) (c : Nat) (x : Ctx) (l : List JEntry) : cx (cxChange s c x l) c =
    if dg (cx s c).d D.STATE ≠ dg x.d D.STATE then { x with entered := timeNs s } else x := by
  unfold cxChange
  dsimp only
  rw [cx_of journal_ctx, cx_cxPut_self]
  simp only [bne_iff_ne]

theorem cx_cxChange_ne (s : State) {c k : Nat} (x : Ctx) (l : List JEntry) (h : k ≠ c) : cx (cxChange s c x l) k = cx s k := by
  unfold cxChange
  dsimp only
  rw [cx_of journal_ctx, cx_cxPut_ne _ _ h]
  exact cx_of (ite_memPut_ctx _ _ _ _ _) k

theorem cx_cxChange_d (s : State) (c : Nat) (x : Ctx) (l : List JEntry) : (cx (cxChange s c x l) c).d = x.d := by
  rw [cx_cxChange_self]; split <;> rfl

theorem cx_dmod_self (s : State) (c : Nat) (f : Desc → Desc) : (cx (dmod s c f) c).d = f (cx s c).d := cx_cxChange_d _ _ _ _
theorem cx_dmod_ne (s : State) {c k : Nat} (f : Desc → Desc) (h : k ≠ c) : cx (dmod s c f) k = cx s k := cx_cxChange_ne _ _ _ h

end Sys2Proof.Machine
end

