-- ==== Sys2Proof/Laws/Exec.lean ====
section
/-!
SUPPORT. Laws of whole commands: every command answers a next state.
-/

namespace Sys2Proof.Machine

/-- Every command answers a next state: none faults and none is refused. -/
theorem exec_next (c : Instr) (s : State) : ∃ u, exec c s = .next u := by
  cases c
  case pushStallDone t =>
    cases h1 : (til s t).pushing with
    | none => exact ⟨s, by simp [exec, execPushStallDone, h1]⟩
    | some w =>
      cases h2 : pushItem s t w with
      | none => exact ⟨s, by simp [exec, execPushStallDone, h1, h2]⟩
      | some v => (refine ⟨?_, ?_⟩; rotate_left; (simp only [exec, execPushStallDone, h1, h2]; rfl))
  case itemDispatch sh =>
    cases h1 : (shf s sh).inbox with
    | nil => exact ⟨s, by simp [exec, execItemDispatch, h1]⟩
    | cons w r =>
      simp only [exec, execItemDispatch, h1]
      generalize shupd s sh _ = z
      by_cases h2 : (shf z sh).held.isEmpty = true
      · cases h3 : placeItem z sh w with
        | none => (refine ⟨?_, ?_⟩; rotate_left; (simp only [h2, if_true]; rfl))
        | some v => (refine ⟨?_, ?_⟩; rotate_left; (simp only [h2, if_true]; rfl))
      · exact ⟨_, by simp only [h2]; rfl⟩
  case dispatchHeldPlace sh =>
    cases h1 : (shf s sh).held with
    | nil => exact ⟨s, by simp [exec, execDispatchHeldPlace, h1]⟩
    | cons w r =>
      cases h2 : placeItem s sh w with
      | none => exact ⟨s, by simp [exec, execDispatchHeldPlace, h1, h2]⟩
      | some v => (refine ⟨?_, ?_⟩; rotate_left; (simp only [exec, execDispatchHeldPlace, h1, h2]; rfl))
  case itemTimeout t => simp only [exec, execItemTimeout]; split <;> exact ⟨_, rfl⟩
  case invalidationEnd h => simp only [exec, execInvalidationEnd]; split <;> exact ⟨_, rfl⟩
  all_goals exact ⟨_, rfl⟩

end Sys2Proof.Machine
end

