-- ==== Sys2Proof/Laws/Items.lean ====
section
/-!
SUPPORT. Laws of work items: which item of a list is taken, and which deque an item is placed on.
-/

namespace Sys2Proof.Machine

/-- `takeFirst` finds the first item that satisfies the test. -/
theorem takeFirst_some {f : Work → Bool} {l r : List Work} {w : Work} (h : takeFirst f l = some (w, r)) :
    ∃ a b, l = a ++ w :: b ∧ r = a ++ b ∧ f w = true ∧ ∀ x ∈ a, f x = false := by
  induction l generalizing r with
  | nil => cases h
  | cons x l ih =>
    unfold takeFirst at h
    by_cases hx : f x = true
    · rw [if_pos hx] at h
      cases h
      exact ⟨[], l, rfl, rfl, hx, by simp⟩
    · rw [if_neg hx] at h
      cases hq : takeFirst f l with
      | none => rw [hq] at h; cases h
      | some q =>
        rw [hq] at h
        obtain ⟨w', r'⟩ := q
        cases h
        obtain ⟨a, b, e1, e2, e3, e4⟩ := ih hq
        refine ⟨x :: a, b, by rw [e1]; rfl, by rw [e2]; rfl, e3, ?_⟩
        intro y hy
        rcases List.mem_cons.1 hy with rfl | hy
        · simpa using hx
        · exact e4 y hy

/-- `takeLast` finds the last item that satisfies the test. -/
theorem takeLast_some {f : Work → Bool} {l r : List Work} {w : Work} (h : takeLast f l = some (w, r)) :
    ∃ a b, l = a ++ w :: b ∧ r = a ++ b ∧ f w = true ∧ ∀ x ∈ b, f x = false := by
  unfold takeLast at h
  cases hq : takeFirst f l.reverse with
  | none => rw [hq] at h; cases h
  | some q =>
    rw [hq] at h
    obtain ⟨w', r'⟩ := q
    cases h
    obtain ⟨a, b, e1, e2, e3, e4⟩ := takeFirst_some hq
    refine ⟨b.reverse, a.reverse, ?_, ?_, e3, fun x hx => e4 x (List.mem_reverse.1 hx)⟩
    · rw [← List.reverse_reverse l, e1]; simp
    · rw [e2]; simp

/-- `takeFirst` finds an item where one satisfies the test. -/
theorem takeFirst_isSome {f : Work → Bool} {l : List Work} (h : l.any f = true) : ∃ q, takeFirst f l = some q := by
  induction l with
  | nil => cases h
  | cons x l ih =>
    unfold takeFirst
    by_cases hx : f x = true
    · exact ⟨_, if_pos hx⟩
    · obtain ⟨q, hq⟩ := ih (by simpa [hx] using h)
      exact ⟨_, by rw [if_neg hx, hq]; rfl⟩

theorem takeLast_isSome {f : Work → Bool} {l : List Work} (h : l.any f = true) : ∃ q, takeLast f l = some q := by
  obtain ⟨q, hq⟩ := takeFirst_isSome (f := f) (l := l.reverse) (by simpa using h)
  exact ⟨_, by rw [takeLast, hq]; rfl⟩

/-- The dispatcher's choice (R110): a tiller of the sheaf in RUN with room, none of which has fewer items; the lowest number
of those with as few. -/
theorem fewest_some {s : State} {h t : Nat} (e : fewest s h = some t) :
    t ∈ sheafTillers h ∧ running s t = true ∧ (til s t).deque.length < 64 ∧
    ∀ u ∈ sheafTillers h, running s u = true → (til s u).deque.length < 64 →
      (til s t).deque.length < (til s u).deque.length ∨ ((til s t).deque.length = (til s u).deque.length ∧ t ≤ u) := by
  have key : ∀ (l : List Nat) (o : Option Nat) (t : Nat),
      l.foldl (fun b t => match b with
        | none => some t
        | some u => if (til s t).deque.length < (til s u).deque.length then some t else some u) o = some t →
      l.Pairwise (· < ·) → (∀ a, o = some a → ∀ u ∈ l, a < u) →
      (t ∈ l ∨ o = some t) ∧ ∀ u, (u ∈ l ∨ o = some u) →
        (til s t).deque.length < (til s u).deque.length ∨ ((til s t).deque.length = (til s u).deque.length ∧ t ≤ u) := by
    intro l
    induction l with
    | nil => intro o t e _ _; exact ⟨.inr e, fun u hu => by rcases hu with hu | hu; cases hu; rw [show o = some t from e] at hu; cases hu; exact .inr ⟨rfl, Nat.le_refl _⟩⟩
    | cons x l ih =>
      intro o t e hp ho
      rw [List.foldl_cons] at e
      rw [List.pairwise_cons] at hp
      cases o with
      | none =>
        obtain ⟨a, b⟩ := ih (some x) t e hp.2 (fun a ha u hu => by cases ha; exact hp.1 u hu)
        refine ⟨.inl ?_, fun u hu => b u ?_⟩
        · rcases a with a | a
          · exact List.mem_cons_of_mem _ a
          · cases a; exact List.mem_cons_self
        · rcases hu with hu | hu
          · rcases List.mem_cons.1 hu with rfl | hu
            · exact .inr rfl
            · exact .inl hu
          · cases hu
      | some y =>
        dsimp only at e
        have hy := ho y rfl
        by_cases c : (til s x).deque.length < (til s y).deque.length
        · rw [if_pos c] at e
          obtain ⟨a, b⟩ := ih (some x) t e hp.2 (fun a ha u hu => by cases ha; exact hp.1 u hu)
          refine ⟨.inl ?_, fun u hu => ?_⟩
          · rcases a with a | a
            · exact List.mem_cons_of_mem _ a
            · cases a; exact List.mem_cons_self
          · rcases hu with hu | hu
            · rcases List.mem_cons.1 hu with rfl | hu
              · exact b _ (.inr rfl)
              · exact b _ (.inl hu)
            · cases hu
              have := b x (.inr rfl)
              left; omega
        · rw [if_neg c] at e
          obtain ⟨a, b⟩ := ih (some y) t e hp.2 (fun a ha u hu => by cases ha; exact hy u (List.mem_cons_of_mem _ hu))
          refine ⟨?_, fun u hu => ?_⟩
          · rcases a with a | a
            · exact .inl (List.mem_cons_of_mem _ a)
            · exact .inr a
          · rcases hu with hu | hu
            · rcases List.mem_cons.1 hu with rfl | hu
              · have h1 := b y (.inr rfl)
                have h2 := hy u List.mem_cons_self
                omega
              · exact b _ (.inl hu)
            · exact b _ (.inr hu)
  have hs : (sheafTillers h).Pairwise (· < ·) := by
    rw [sheafTillers, List.pairwise_map]
    exact List.pairwise_lt_range.imp (fun h => by omega)
  unfold fewest at e
  obtain ⟨a, b⟩ := key _ none t e (hs.filter _) (fun a ha => by cases ha)
  rcases a with a | a
  · rw [List.mem_filter, Bool.and_eq_true, decide_eq_true_eq] at a
    refine ⟨a.1, a.2.1, a.2.2, fun u hu h1 h2 => b u (.inl ?_)⟩
    rw [List.mem_filter, Bool.and_eq_true, decide_eq_true_eq]
    exact ⟨hu, h1, h2⟩
  · cases a

/-- There is a choice where a tiller of the sheaf in RUN has room. -/
theorem fewest_isSome {s : State} {h k : Nat} (a : k ∈ sheafTillers h) (b : running s k = true)
    (c : (til s k).deque.length < 64) : ∃ t, fewest s h = some t := by
  have key : ∀ (l : List Nat) (o : Option Nat), (l ≠ [] ∨ o.isSome = true) → ∃ t,
      l.foldl (fun b t => match b with
        | none => some t
        | some u => if (til s t).deque.length < (til s u).deque.length then some t else some u) o = some t := by
    intro l
    induction l with
    | nil => intro o ho; exact Option.isSome_iff_exists.1 (ho.resolve_left (by simp))
    | cons x l ih =>
      intro o _
      rw [List.foldl_cons]
      refine ih _ (.inr ?_)
      cases o with
      | none => rfl
      | some y => dsimp only; split <;> rfl
  refine key _ none (.inl (List.ne_nil_of_mem (a := k) ?_))
  rw [List.mem_filter, Bool.and_eq_true, decide_eq_true_eq]
  exact ⟨a, b, c⟩

end Sys2Proof.Machine
end

