-- ==== Sys2Proof/Laws/Memory.lean ====
section
/-!
SUPPORT. Device and host memory: every operation keeps the canonical form, and a byte reads as what was last written to it.
-/

namespace Sys2Proof.Machine

theorem Memory.wf_reset : Memory.wf State.reset.mem ∧ Memory.wf State.reset.hostMem := ⟨rfl, rfl⟩

@[simp] theorem clearSyn_mem (s : State) (l n : Nat) : (clearSyn s l n).mem = s.mem := by
  induction n generalizing s l with
  | zero => rfl
  | succ n ih => rw [clearSyn, ih]

@[simp] theorem flsWrites_mem (s : State) (a n : Nat) : (flsWrites s a n).mem = s.mem := by
  unfold flsWrites
  split <;> rfl

/-- All that a write can do to memory: nothing on a retired stack (R691), and elsewhere the bytes stored one after another. -/
theorem memWrite_mem (s : State) (a : Nat) (bs : List Byte) :
    (memWrite s a bs).mem = if addrTier a == 0 && stackRetired s (addrStack a) then s.mem else nputs memDefault s.mem a bs := by
  unfold memWrite
  split
  · rfl
  · simp

theorem Memory.wf_memWrite (s : State) (a : Nat) (bs : List Byte) (h : Memory.wf s.mem) : Memory.wf (memWrite s a bs).mem := by
  rw [memWrite_mem]
  split
  · exact h
  · exact nwf_nputs _ _ _ h

theorem Memory.wf_memPut (s : State) (a n v : Nat) (h : Memory.wf s.mem) : Memory.wf (memPut s a n v).mem := Memory.wf_memWrite _ _ _ h
theorem Memory.wf_zeroFrame (s : State) (k : Nat) (h : Memory.wf s.mem) : Memory.wf (zeroFrame s k).mem := nwf_filter _ _ h
theorem Memory.wf_zeroRange (s : State) (a n : Nat) (h : Memory.wf s.mem) : Memory.wf (zeroRange s a n).mem := nwf_filter _ _ h

theorem Memory.wf_copyFrame (s : State) (src dst : Nat) (h : Memory.wf s.mem) : Memory.wf (copyFrame s src dst).mem :=
  nwf_foldl_nput _ _ _ _ (Memory.wf_zeroFrame s dst h)

theorem Memory.wf_copyMap (s : State) (c src dst : Nat) (h : Memory.wf s.mem) : Memory.wf (copyMap s c src dst).mem :=
  nwf_foldl_nput _ _ _ _ (Memory.wf_zeroRange s _ _ h)

theorem Memory.wf_hostWrite (s : State) (a : Nat) (bs : List Byte) (h : Memory.wf s.hostMem) : Memory.wf (hostWrite s a bs).hostMem := by
  unfold hostWrite
  split
  · exact h
  · exact nwf_nputs hostDefault _ _ h

/-- What was written to a stack in service reads back. -/
theorem memBytes_memWrite_self (s : State) (a : Nat) (bs : List Byte) (h : (addrTier a == 0 && stackRetired s (addrStack a)) = false) :
    memBytes (memWrite s a bs) a bs.length = bs := by
  unfold memBytes
  rw [memWrite_mem, h]
  exact ngets_nputs_self _ _ _ _

end Sys2Proof.Machine
end

