-- ==== Sys2Proof/Laws/State.lean ====
section
/-!
SUPPORT. What each of the plain updates of the state leaves alone, field by field, and what it writes.
-/

namespace Sys2Proof.Machine

@[simp] theorem bump_pending {s} : (bump s).pending = s.pending := rfl
@[simp] theorem bump_now {s} : (bump s).now = s.now := rfl
@[simp] theorem bump_gtime {s} : (bump s).gtime = s.gtime := rfl
@[simp] theorem bump_regs {s} : (bump s).regs = s.regs := rfl
@[simp] theorem bump_fuse {s} : (bump s).fuse = s.fuse := rfl
@[simp] theorem bump_image0 {s} : (bump s).image0 = s.image0 := rfl
@[simp] theorem bump_image1 {s} : (bump s).image1 = s.image1 := rfl
@[simp] theorem bump_pins {s} : (bump s).pins = s.pins := rfl
@[simp] theorem bump_keys {s} : (bump s).keys = s.keys := rfl
@[simp] theorem bump_isl {s} : (bump s).isl = s.isl := rfl
@[simp] theorem bump_gov {s} : (bump s).gov = s.gov := rfl
@[simp] theorem bump_age {s} : (bump s).age = s.age := rfl
@[simp] theorem bump_mem {s} : (bump s).mem = s.mem := rfl
@[simp] theorem bump_syn {s} : (bump s).syn = s.syn := rfl
@[simp] theorem bump_hostMem {s} : (bump s).hostMem = s.hostMem := rfl
@[simp] theorem bump_hostBad {s} : (bump s).hostBad = s.hostBad := rfl
@[simp] theorem bump_tie {s} : (bump s).tie = s.tie := rfl
@[simp] theorem bump_int0 {s} : (bump s).int0 = s.int0 := rfl
@[simp] theorem bump_til {s} : (bump s).til = s.til := rfl
@[simp] theorem bump_shf {s} : (bump s).shf = s.shf := rfl
@[simp] theorem bump_host {s} : (bump s).host = s.host := rfl
@[simp] theorem bump_sch {s} : (bump s).sch = s.sch := rfl
@[simp] theorem bump_ctx {s} : (bump s).ctx = s.ctx := rfl
@[simp] theorem bump_descBad {s} : (bump s).descBad = s.descBad := rfl
@[simp] theorem bump_cows {s} : (bump s).cows = s.cows := rfl
@[simp] theorem bump_bnk {s} : (bump s).bnk = s.bnk := rfl
@[simp] theorem bump_pools {s} : (bump s).pools = s.pools := rfl
@[simp] theorem bump_fab {s} : (bump s).fab = s.fab := rfl
@[simp] theorem bump_rows {s} : (bump s).rows = s.rows := rfl
@[simp] theorem bump_flash {s} : (bump s).flash = s.flash := rfl
@[simp] theorem bump_lat {s} : (bump s).lat = s.lat := rfl
@[simp] theorem bump_cmp {s} : (bump s).cmp = s.cmp := rfl
@[simp] theorem bump_meter {s} : (bump s).meter = s.meter := rfl
@[simp] theorem bump_port {s} : (bump s).port = s.port := rfl
@[simp] theorem bump_twin {s} : (bump s).twin = s.twin := rfl
@[simp] theorem bump_start {s} : (bump s).start = s.start := rfl
@[simp] theorem bump_sec {s} : (bump s).sec = s.sec := rfl
@[simp] theorem bump_stamp {s} : (bump s).stamp = s.stamp := rfl
@[simp] theorem bump_out {s} : (bump s).out = s.out := rfl

@[simp] theorem idle_pending {s} : (idle s).pending = s.pending := rfl
@[simp] theorem idle_fresh {s} : (idle s).fresh = s.fresh := rfl
@[simp] theorem idle_regs {s} : (idle s).regs = s.regs := rfl
@[simp] theorem idle_fuse {s} : (idle s).fuse = s.fuse := rfl
@[simp] theorem idle_image0 {s} : (idle s).image0 = s.image0 := rfl
@[simp] theorem idle_image1 {s} : (idle s).image1 = s.image1 := rfl
@[simp] theorem idle_pins {s} : (idle s).pins = s.pins := rfl
@[simp] theorem idle_keys {s} : (idle s).keys = s.keys := rfl
@[simp] theorem idle_isl {s} : (idle s).isl = s.isl := rfl
@[simp] theorem idle_gov {s} : (idle s).gov = s.gov := rfl
@[simp] theorem idle_age {s} : (idle s).age = s.age := rfl
@[simp] theorem idle_mem {s} : (idle s).mem = s.mem := rfl
@[simp] theorem idle_syn {s} : (idle s).syn = s.syn := rfl
@[simp] theorem idle_hostMem {s} : (idle s).hostMem = s.hostMem := rfl
@[simp] theorem idle_hostBad {s} : (idle s).hostBad = s.hostBad := rfl
@[simp] theorem idle_tie {s} : (idle s).tie = s.tie := rfl
@[simp] theorem idle_int0 {s} : (idle s).int0 = s.int0 := rfl
@[simp] theorem idle_til {s} : (idle s).til = s.til := rfl
@[simp] theorem idle_shf {s} : (idle s).shf = s.shf := rfl
@[simp] theorem idle_host {s} : (idle s).host = s.host := rfl
@[simp] theorem idle_sch {s} : (idle s).sch = s.sch := rfl
@[simp] theorem idle_ctx {s} : (idle s).ctx = s.ctx := rfl
@[simp] theorem idle_descBad {s} : (idle s).descBad = s.descBad := rfl
@[simp] theorem idle_cows {s} : (idle s).cows = s.cows := rfl
@[simp] theorem idle_bnk {s} : (idle s).bnk = s.bnk := rfl
@[simp] theorem idle_pools {s} : (idle s).pools = s.pools := rfl
@[simp] theorem idle_fab {s} : (idle s).fab = s.fab := rfl
@[simp] theorem idle_rows {s} : (idle s).rows = s.rows := rfl
@[simp] theorem idle_flash {s} : (idle s).flash = s.flash := rfl
@[simp] theorem idle_lat {s} : (idle s).lat = s.lat := rfl
@[simp] theorem idle_cmp {s} : (idle s).cmp = s.cmp := rfl
@[simp] theorem idle_meter {s} : (idle s).meter = s.meter := rfl
@[simp] theorem idle_port {s} : (idle s).port = s.port := rfl
@[simp] theorem idle_twin {s} : (idle s).twin = s.twin := rfl
@[simp] theorem idle_start {s} : (idle s).start = s.start := rfl
@[simp] theorem idle_sec {s} : (idle s).sec = s.sec := rfl
@[simp] theorem idle_stamp {s} : (idle s).stamp = s.stamp := rfl
@[simp] theorem idle_out {s} : (idle s).out = s.out := rfl

@[simp] theorem rput_pending {s r i w} : (rput s r i w).pending = s.pending := rfl
@[simp] theorem rput_fresh {s r i w} : (rput s r i w).fresh = s.fresh := rfl
@[simp] theorem rput_now {s r i w} : (rput s r i w).now = s.now := rfl
@[simp] theorem rput_gtime {s r i w} : (rput s r i w).gtime = s.gtime := rfl
@[simp] theorem rput_fuse {s r i w} : (rput s r i w).fuse = s.fuse := rfl
@[simp] theorem rput_image0 {s r i w} : (rput s r i w).image0 = s.image0 := rfl
@[simp] theorem rput_image1 {s r i w} : (rput s r i w).image1 = s.image1 := rfl
@[simp] theorem rput_pins {s r i w} : (rput s r i w).pins = s.pins := rfl
@[simp] theorem rput_keys {s r i w} : (rput s r i w).keys = s.keys := rfl
@[simp] theorem rput_isl {s r i w} : (rput s r i w).isl = s.isl := rfl
@[simp] theorem rput_gov {s r i w} : (rput s r i w).gov = s.gov := rfl
@[simp] theorem rput_age {s r i w} : (rput s r i w).age = s.age := rfl
@[simp] theorem rput_mem {s r i w} : (rput s r i w).mem = s.mem := rfl
@[simp] theorem rput_syn {s r i w} : (rput s r i w).syn = s.syn := rfl
@[simp] theorem rput_hostMem {s r i w} : (rput s r i w).hostMem = s.hostMem := rfl
@[simp] theorem rput_hostBad {s r i w} : (rput s r i w).hostBad = s.hostBad := rfl
@[simp] theorem rput_tie {s r i w} : (rput s r i w).tie = s.tie := rfl
@[simp] theorem rput_int0 {s r i w} : (rput s r i w).int0 = s.int0 := rfl
@[simp] theorem rput_til {s r i w} : (rput s r i w).til = s.til := rfl
@[simp] theorem rput_shf {s r i w} : (rput s r i w).shf = s.shf := rfl
@[simp] theorem rput_host {s r i w} : (rput s r i w).host = s.host := rfl
@[simp] theorem rput_sch {s r i w} : (rput s r i w).sch = s.sch := rfl
@[simp] theorem rput_ctx {s r i w} : (rput s r i w).ctx = s.ctx := rfl
@[simp] theorem rput_descBad {s r i w} : (rput s r i w).descBad = s.descBad := rfl
@[simp] theorem rput_cows {s r i w} : (rput s r i w).cows = s.cows := rfl
@[simp] theorem rput_bnk {s r i w} : (rput s r i w).bnk = s.bnk := rfl
@[simp] theorem rput_pools {s r i w} : (rput s r i w).pools = s.pools := rfl
@[simp] theorem rput_fab {s r i w} : (rput s r i w).fab = s.fab := rfl
@[simp] theorem rput_rows {s r i w} : (rput s r i w).rows = s.rows := rfl
@[simp] theorem rput_flash {s r i w} : (rput s r i w).flash = s.flash := rfl
@[simp] theorem rput_lat {s r i w} : (rput s r i w).lat = s.lat := rfl
@[simp] theorem rput_cmp {s r i w} : (rput s r i w).cmp = s.cmp := rfl
@[simp] theorem rput_meter {s r i w} : (rput s r i w).meter = s.meter := rfl
@[simp] theorem rput_port {s r i w} : (rput s r i w).port = s.port := rfl
@[simp] theorem rput_twin {s r i w} : (rput s r i w).twin = s.twin := rfl
@[simp] theorem rput_start {s r i w} : (rput s r i w).start = s.start := rfl
@[simp] theorem rput_sec {s r i w} : (rput s r i w).sec = s.sec := rfl
@[simp] theorem rput_stamp {s r i w} : (rput s r i w).stamp = s.stamp := rfl
@[simp] theorem rput_out {s r i w} : (rput s r i w).out = s.out := rfl

@[simp] theorem fput_pending {s f i v} : (fput s f i v).pending = s.pending := rfl
@[simp] theorem fput_fresh {s f i v} : (fput s f i v).fresh = s.fresh := rfl
@[simp] theorem fput_now {s f i v} : (fput s f i v).now = s.now := rfl
@[simp] theorem fput_gtime {s f i v} : (fput s f i v).gtime = s.gtime := rfl
@[simp] theorem fput_fuse {s f i v} : (fput s f i v).fuse = s.fuse := rfl
@[simp] theorem fput_image0 {s f i v} : (fput s f i v).image0 = s.image0 := rfl
@[simp] theorem fput_image1 {s f i v} : (fput s f i v).image1 = s.image1 := rfl
@[simp] theorem fput_pins {s f i v} : (fput s f i v).pins = s.pins := rfl
@[simp] theorem fput_keys {s f i v} : (fput s f i v).keys = s.keys := rfl
@[simp] theorem fput_isl {s f i v} : (fput s f i v).isl = s.isl := rfl
@[simp] theorem fput_gov {s f i v} : (fput s f i v).gov = s.gov := rfl
@[simp] theorem fput_age {s f i v} : (fput s f i v).age = s.age := rfl
@[simp] theorem fput_mem {s f i v} : (fput s f i v).mem = s.mem := rfl
@[simp] theorem fput_syn {s f i v} : (fput s f i v).syn = s.syn := rfl
@[simp] theorem fput_hostMem {s f i v} : (fput s f i v).hostMem = s.hostMem := rfl
@[simp] theorem fput_hostBad {s f i v} : (fput s f i v).hostBad = s.hostBad := rfl
@[simp] theorem fput_tie {s f i v} : (fput s f i v).tie = s.tie := rfl
@[simp] theorem fput_int0 {s f i v} : (fput s f i v).int0 = s.int0 := rfl
@[simp] theorem fput_til {s f i v} : (fput s f i v).til = s.til := rfl
@[simp] theorem fput_shf {s f i v} : (fput s f i v).shf = s.shf := rfl
@[simp] theorem fput_host {s f i v} : (fput s f i v).host = s.host := rfl
@[simp] theorem fput_sch {s f i v} : (fput s f i v).sch = s.sch := rfl
@[simp] theorem fput_ctx {s f i v} : (fput s f i v).ctx = s.ctx := rfl
@[simp] theorem fput_descBad {s f i v} : (fput s f i v).descBad = s.descBad := rfl
@[simp] theorem fput_cows {s f i v} : (fput s f i v).cows = s.cows := rfl
@[simp] theorem fput_bnk {s f i v} : (fput s f i v).bnk = s.bnk := rfl
@[simp] theorem fput_pools {s f i v} : (fput s f i v).pools = s.pools := rfl
@[simp] theorem fput_fab {s f i v} : (fput s f i v).fab = s.fab := rfl
@[simp] theorem fput_rows {s f i v} : (fput s f i v).rows = s.rows := rfl
@[simp] theorem fput_flash {s f i v} : (fput s f i v).flash = s.flash := rfl
@[simp] theorem fput_lat {s f i v} : (fput s f i v).lat = s.lat := rfl
@[simp] theorem fput_cmp {s f i v} : (fput s f i v).cmp = s.cmp := rfl
@[simp] theorem fput_meter {s f i v} : (fput s f i v).meter = s.meter := rfl
@[simp] theorem fput_port {s f i v} : (fput s f i v).port = s.port := rfl
@[simp] theorem fput_twin {s f i v} : (fput s f i v).twin = s.twin := rfl
@[simp] theorem fput_start {s f i v} : (fput s f i v).start = s.start := rfl
@[simp] theorem fput_sec {s f i v} : (fput s f i v).sec = s.sec := rfl
@[simp] theorem fput_stamp {s f i v} : (fput s f i v).stamp = s.stamp := rfl
@[simp] theorem fput_out {s f i v} : (fput s f i v).out = s.out := rfl

@[simp] theorem tput_pending {s t x} : (tput s t x).pending = s.pending := rfl
@[simp] theorem tput_fresh {s t x} : (tput s t x).fresh = s.fresh := rfl
@[simp] theorem tput_now {s t x} : (tput s t x).now = s.now := rfl
@[simp] theorem tput_gtime {s t x} : (tput s t x).gtime = s.gtime := rfl
@[simp] theorem tput_regs {s t x} : (tput s t x).regs = s.regs := rfl
@[simp] theorem tput_fuse {s t x} : (tput s t x).fuse = s.fuse := rfl
@[simp] theorem tput_image0 {s t x} : (tput s t x).image0 = s.image0 := rfl
@[simp] theorem tput_image1 {s t x} : (tput s t x).image1 = s.image1 := rfl
@[simp] theorem tput_pins {s t x} : (tput s t x).pins = s.pins := rfl
@[simp] theorem tput_keys {s t x} : (tput s t x).keys = s.keys := rfl
@[simp] theorem tput_isl {s t x} : (tput s t x).isl = s.isl := rfl
@[simp] theorem tput_gov {s t x} : (tput s t x).gov = s.gov := rfl
@[simp] theorem tput_age {s t x} : (tput s t x).age = s.age := rfl
@[simp] theorem tput_mem {s t x} : (tput s t x).mem = s.mem := rfl
@[simp] theorem tput_syn {s t x} : (tput s t x).syn = s.syn := rfl
@[simp] theorem tput_hostMem {s t x} : (tput s t x).hostMem = s.hostMem := rfl
@[simp] theorem tput_hostBad {s t x} : (tput s t x).hostBad = s.hostBad := rfl
@[simp] theorem tput_tie {s t x} : (tput s t x).tie = s.tie := rfl
@[simp] theorem tput_int0 {s t x} : (tput s t x).int0 = s.int0 := rfl
@[simp] theorem tput_shf {s t x} : (tput s t x).shf = s.shf := rfl
@[simp] theorem tput_host {s t x} : (tput s t x).host = s.host := rfl
@[simp] theorem tput_sch {s t x} : (tput s t x).sch = s.sch := rfl
@[simp] theorem tput_ctx {s t x} : (tput s t x).ctx = s.ctx := rfl
@[simp] theorem tput_descBad {s t x} : (tput s t x).descBad = s.descBad := rfl
@[simp] theorem tput_cows {s t x} : (tput s t x).cows = s.cows := rfl
@[simp] theorem tput_bnk {s t x} : (tput s t x).bnk = s.bnk := rfl
@[simp] theorem tput_pools {s t x} : (tput s t x).pools = s.pools := rfl
@[simp] theorem tput_fab {s t x} : (tput s t x).fab = s.fab := rfl
@[simp] theorem tput_rows {s t x} : (tput s t x).rows = s.rows := rfl
@[simp] theorem tput_flash {s t x} : (tput s t x).flash = s.flash := rfl
@[simp] theorem tput_lat {s t x} : (tput s t x).lat = s.lat := rfl
@[simp] theorem tput_cmp {s t x} : (tput s t x).cmp = s.cmp := rfl
@[simp] theorem tput_meter {s t x} : (tput s t x).meter = s.meter := rfl
@[simp] theorem tput_port {s t x} : (tput s t x).port = s.port := rfl
@[simp] theorem tput_twin {s t x} : (tput s t x).twin = s.twin := rfl
@[simp] theorem tput_start {s t x} : (tput s t x).start = s.start := rfl
@[simp] theorem tput_sec {s t x} : (tput s t x).sec = s.sec := rfl
@[simp] theorem tput_stamp {s t x} : (tput s t x).stamp = s.stamp := rfl
@[simp] theorem tput_out {s t x} : (tput s t x).out = s.out := rfl

@[simp] theorem shput_pending {s h x} : (shput s h x).pending = s.pending := rfl
@[simp] theorem shput_fresh {s h x} : (shput s h x).fresh = s.fresh := rfl
@[simp] theorem shput_now {s h x} : (shput s h x).now = s.now := rfl
@[simp] theorem shput_gtime {s h x} : (shput s h x).gtime = s.gtime := rfl
@[simp] theorem shput_regs {s h x} : (shput s h x).regs = s.regs := rfl
@[simp] theorem shput_fuse {s h x} : (shput s h x).fuse = s.fuse := rfl
@[simp] theorem shput_image0 {s h x} : (shput s h x).image0 = s.image0 := rfl
@[simp] theorem shput_image1 {s h x} : (shput s h x).image1 = s.image1 := rfl
@[simp] theorem shput_pins {s h x} : (shput s h x).pins = s.pins := rfl
@[simp] theorem shput_keys {s h x} : (shput s h x).keys = s.keys := rfl
@[simp] theorem shput_isl {s h x} : (shput s h x).isl = s.isl := rfl
@[simp] theorem shput_gov {s h x} : (shput s h x).gov = s.gov := rfl
@[simp] theorem shput_age {s h x} : (shput s h x).age = s.age := rfl
@[simp] theorem shput_mem {s h x} : (shput s h x).mem = s.mem := rfl
@[simp] theorem shput_syn {s h x} : (shput s h x).syn = s.syn := rfl
@[simp] theorem shput_hostMem {s h x} : (shput s h x).hostMem = s.hostMem := rfl
@[simp] theorem shput_hostBad {s h x} : (shput s h x).hostBad = s.hostBad := rfl
@[simp] theorem shput_tie {s h x} : (shput s h x).tie = s.tie := rfl
@[simp] theorem shput_int0 {s h x} : (shput s h x).int0 = s.int0 := rfl
@[simp] theorem shput_til {s h x} : (shput s h x).til = s.til := rfl
@[simp] theorem shput_host {s h x} : (shput s h x).host = s.host := rfl
@[simp] theorem shput_sch {s h x} : (shput s h x).sch = s.sch := rfl
@[simp] theorem shput_ctx {s h x} : (shput s h x).ctx = s.ctx := rfl
@[simp] theorem shput_descBad {s h x} : (shput s h x).descBad = s.descBad := rfl
@[simp] theorem shput_cows {s h x} : (shput s h x).cows = s.cows := rfl
@[simp] theorem shput_bnk {s h x} : (shput s h x).bnk = s.bnk := rfl
@[simp] theorem shput_pools {s h x} : (shput s h x).pools = s.pools := rfl
@[simp] theorem shput_fab {s h x} : (shput s h x).fab = s.fab := rfl
@[simp] theorem shput_rows {s h x} : (shput s h x).rows = s.rows := rfl
@[simp] theorem shput_flash {s h x} : (shput s h x).flash = s.flash := rfl
@[simp] theorem shput_lat {s h x} : (shput s h x).lat = s.lat := rfl
@[simp] theorem shput_cmp {s h x} : (shput s h x).cmp = s.cmp := rfl
@[simp] theorem shput_meter {s h x} : (shput s h x).meter = s.meter := rfl
@[simp] theorem shput_port {s h x} : (shput s h x).port = s.port := rfl
@[simp] theorem shput_twin {s h x} : (shput s h x).twin = s.twin := rfl
@[simp] theorem shput_start {s h x} : (shput s h x).start = s.start := rfl
@[simp] theorem shput_sec {s h x} : (shput s h x).sec = s.sec := rfl
@[simp] theorem shput_stamp {s h x} : (shput s h x).stamp = s.stamp := rfl
@[simp] theorem shput_out {s h x} : (shput s h x).out = s.out := rfl

@[simp] theorem cxPut_pending {s c x} : (cxPut s c x).pending = s.pending := rfl
@[simp] theorem cxPut_fresh {s c x} : (cxPut s c x).fresh = s.fresh := rfl
@[simp] theorem cxPut_now {s c x} : (cxPut s c x).now = s.now := rfl
@[simp] theorem cxPut_gtime {s c x} : (cxPut s c x).gtime = s.gtime := rfl
@[simp] theorem cxPut_regs {s c x} : (cxPut s c x).regs = s.regs := rfl
@[simp] theorem cxPut_fuse {s c x} : (cxPut s c x).fuse = s.fuse := rfl
@[simp] theorem cxPut_image0 {s c x} : (cxPut s c x).image0 = s.image0 := rfl
@[simp] theorem cxPut_image1 {s c x} : (cxPut s c x).image1 = s.image1 := rfl
@[simp] theorem cxPut_pins {s c x} : (cxPut s c x).pins = s.pins := rfl
@[simp] theorem cxPut_keys {s c x} : (cxPut s c x).keys = s.keys := rfl
@[simp] theorem cxPut_isl {s c x} : (cxPut s c x).isl = s.isl := rfl
@[simp] theorem cxPut_gov {s c x} : (cxPut s c x).gov = s.gov := rfl
@[simp] theorem cxPut_age {s c x} : (cxPut s c x).age = s.age := rfl
@[simp] theorem cxPut_mem {s c x} : (cxPut s c x).mem = s.mem := rfl
@[simp] theorem cxPut_syn {s c x} : (cxPut s c x).syn = s.syn := rfl
@[simp] theorem cxPut_hostMem {s c x} : (cxPut s c x).hostMem = s.hostMem := rfl
@[simp] theorem cxPut_hostBad {s c x} : (cxPut s c x).hostBad = s.hostBad := rfl
@[simp] theorem cxPut_tie {s c x} : (cxPut s c x).tie = s.tie := rfl
@[simp] theorem cxPut_int0 {s c x} : (cxPut s c x).int0 = s.int0 := rfl
@[simp] theorem cxPut_til {s c x} : (cxPut s c x).til = s.til := rfl
@[simp] theorem cxPut_shf {s c x} : (cxPut s c x).shf = s.shf := rfl
@[simp] theorem cxPut_host {s c x} : (cxPut s c x).host = s.host := rfl
@[simp] theorem cxPut_sch {s c x} : (cxPut s c x).sch = s.sch := rfl
@[simp] theorem cxPut_descBad {s c x} : (cxPut s c x).descBad = s.descBad := rfl
@[simp] theorem cxPut_cows {s c x} : (cxPut s c x).cows = s.cows := rfl
@[simp] theorem cxPut_bnk {s c x} : (cxPut s c x).bnk = s.bnk := rfl
@[simp] theorem cxPut_pools {s c x} : (cxPut s c x).pools = s.pools := rfl
@[simp] theorem cxPut_fab {s c x} : (cxPut s c x).fab = s.fab := rfl
@[simp] theorem cxPut_rows {s c x} : (cxPut s c x).rows = s.rows := rfl
@[simp] theorem cxPut_flash {s c x} : (cxPut s c x).flash = s.flash := rfl
@[simp] theorem cxPut_lat {s c x} : (cxPut s c x).lat = s.lat := rfl
@[simp] theorem cxPut_cmp {s c x} : (cxPut s c x).cmp = s.cmp := rfl
@[simp] theorem cxPut_meter {s c x} : (cxPut s c x).meter = s.meter := rfl
@[simp] theorem cxPut_port {s c x} : (cxPut s c x).port = s.port := rfl
@[simp] theorem cxPut_twin {s c x} : (cxPut s c x).twin = s.twin := rfl
@[simp] theorem cxPut_start {s c x} : (cxPut s c x).start = s.start := rfl
@[simp] theorem cxPut_sec {s c x} : (cxPut s c x).sec = s.sec := rfl
@[simp] theorem cxPut_stamp {s c x} : (cxPut s c x).stamp = s.stamp := rfl
@[simp] theorem cxPut_out {s c x} : (cxPut s c x).out = s.out := rfl

@[simp] theorem poolPut_pending {s h x} : (poolPut s h x).pending = s.pending := rfl
@[simp] theorem poolPut_fresh {s h x} : (poolPut s h x).fresh = s.fresh := rfl
@[simp] theorem poolPut_now {s h x} : (poolPut s h x).now = s.now := rfl
@[simp] theorem poolPut_gtime {s h x} : (poolPut s h x).gtime = s.gtime := rfl
@[simp] theorem poolPut_regs {s h x} : (poolPut s h x).regs = s.regs := rfl
@[simp] theorem poolPut_fuse {s h x} : (poolPut s h x).fuse = s.fuse := rfl
@[simp] theorem poolPut_image0 {s h x} : (poolPut s h x).image0 = s.image0 := rfl
@[simp] theorem poolPut_image1 {s h x} : (poolPut s h x).image1 = s.image1 := rfl
@[simp] theorem poolPut_pins {s h x} : (poolPut s h x).pins = s.pins := rfl
@[simp] theorem poolPut_keys {s h x} : (poolPut s h x).keys = s.keys := rfl
@[simp] theorem poolPut_isl {s h x} : (poolPut s h x).isl = s.isl := rfl
@[simp] theorem poolPut_gov {s h x} : (poolPut s h x).gov = s.gov := rfl
@[simp] theorem poolPut_age {s h x} : (poolPut s h x).age = s.age := rfl
@[simp] theorem poolPut_mem {s h x} : (poolPut s h x).mem = s.mem := rfl
@[simp] theorem poolPut_syn {s h x} : (poolPut s h x).syn = s.syn := rfl
@[simp] theorem poolPut_hostMem {s h x} : (poolPut s h x).hostMem = s.hostMem := rfl
@[simp] theorem poolPut_hostBad {s h x} : (poolPut s h x).hostBad = s.hostBad := rfl
@[simp] theorem poolPut_tie {s h x} : (poolPut s h x).tie = s.tie := rfl
@[simp] theorem poolPut_int0 {s h x} : (poolPut s h x).int0 = s.int0 := rfl
@[simp] theorem poolPut_til {s h x} : (poolPut s h x).til = s.til := rfl
@[simp] theorem poolPut_shf {s h x} : (poolPut s h x).shf = s.shf := rfl
@[simp] theorem poolPut_host {s h x} : (poolPut s h x).host = s.host := rfl
@[simp] theorem poolPut_sch {s h x} : (poolPut s h x).sch = s.sch := rfl
@[simp] theorem poolPut_ctx {s h x} : (poolPut s h x).ctx = s.ctx := rfl
@[simp] theorem poolPut_descBad {s h x} : (poolPut s h x).descBad = s.descBad := rfl
@[simp] theorem poolPut_cows {s h x} : (poolPut s h x).cows = s.cows := rfl
@[simp] theorem poolPut_bnk {s h x} : (poolPut s h x).bnk = s.bnk := rfl
@[simp] theorem poolPut_fab {s h x} : (poolPut s h x).fab = s.fab := rfl
@[simp] theorem poolPut_rows {s h x} : (poolPut s h x).rows = s.rows := rfl
@[simp] theorem poolPut_flash {s h x} : (poolPut s h x).flash = s.flash := rfl
@[simp] theorem poolPut_lat {s h x} : (poolPut s h x).lat = s.lat := rfl
@[simp] theorem poolPut_cmp {s h x} : (poolPut s h x).cmp = s.cmp := rfl
@[simp] theorem poolPut_meter {s h x} : (poolPut s h x).meter = s.meter := rfl
@[simp] theorem poolPut_port {s h x} : (poolPut s h x).port = s.port := rfl
@[simp] theorem poolPut_twin {s h x} : (poolPut s h x).twin = s.twin := rfl
@[simp] theorem poolPut_start {s h x} : (poolPut s h x).start = s.start := rfl
@[simp] theorem poolPut_sec {s h x} : (poolPut s h x).sec = s.sec := rfl
@[simp] theorem poolPut_stamp {s h x} : (poolPut s h x).stamp = s.stamp := rfl
@[simp] theorem poolPut_out {s h x} : (poolPut s h x).out = s.out := rfl

@[simp] theorem pqPut_pending {s i x} : (pqPut s i x).pending = s.pending := rfl
@[simp] theorem pqPut_fresh {s i x} : (pqPut s i x).fresh = s.fresh := rfl
@[simp] theorem pqPut_now {s i x} : (pqPut s i x).now = s.now := rfl
@[simp] theorem pqPut_gtime {s i x} : (pqPut s i x).gtime = s.gtime := rfl
@[simp] theorem pqPut_regs {s i x} : (pqPut s i x).regs = s.regs := rfl
@[simp] theorem pqPut_fuse {s i x} : (pqPut s i x).fuse = s.fuse := rfl
@[simp] theorem pqPut_image0 {s i x} : (pqPut s i x).image0 = s.image0 := rfl
@[simp] theorem pqPut_image1 {s i x} : (pqPut s i x).image1 = s.image1 := rfl
@[simp] theorem pqPut_pins {s i x} : (pqPut s i x).pins = s.pins := rfl
@[simp] theorem pqPut_keys {s i x} : (pqPut s i x).keys = s.keys := rfl
@[simp] theorem pqPut_isl {s i x} : (pqPut s i x).isl = s.isl := rfl
@[simp] theorem pqPut_gov {s i x} : (pqPut s i x).gov = s.gov := rfl
@[simp] theorem pqPut_age {s i x} : (pqPut s i x).age = s.age := rfl
@[simp] theorem pqPut_mem {s i x} : (pqPut s i x).mem = s.mem := rfl
@[simp] theorem pqPut_syn {s i x} : (pqPut s i x).syn = s.syn := rfl
@[simp] theorem pqPut_hostMem {s i x} : (pqPut s i x).hostMem = s.hostMem := rfl
@[simp] theorem pqPut_hostBad {s i x} : (pqPut s i x).hostBad = s.hostBad := rfl
@[simp] theorem pqPut_tie {s i x} : (pqPut s i x).tie = s.tie := rfl
@[simp] theorem pqPut_int0 {s i x} : (pqPut s i x).int0 = s.int0 := rfl
@[simp] theorem pqPut_til {s i x} : (pqPut s i x).til = s.til := rfl
@[simp] theorem pqPut_shf {s i x} : (pqPut s i x).shf = s.shf := rfl
@[simp] theorem pqPut_host {s i x} : (pqPut s i x).host = s.host := rfl
@[simp] theorem pqPut_sch {s i x} : (pqPut s i x).sch = s.sch := rfl
@[simp] theorem pqPut_ctx {s i x} : (pqPut s i x).ctx = s.ctx := rfl
@[simp] theorem pqPut_descBad {s i x} : (pqPut s i x).descBad = s.descBad := rfl
@[simp] theorem pqPut_cows {s i x} : (pqPut s i x).cows = s.cows := rfl
@[simp] theorem pqPut_bnk {s i x} : (pqPut s i x).bnk = s.bnk := rfl
@[simp] theorem pqPut_pools {s i x} : (pqPut s i x).pools = s.pools := rfl
@[simp] theorem pqPut_fab {s i x} : (pqPut s i x).fab = s.fab := rfl
@[simp] theorem pqPut_rows {s i x} : (pqPut s i x).rows = s.rows := rfl
@[simp] theorem pqPut_flash {s i x} : (pqPut s i x).flash = s.flash := rfl
@[simp] theorem pqPut_lat {s i x} : (pqPut s i x).lat = s.lat := rfl
@[simp] theorem pqPut_cmp {s i x} : (pqPut s i x).cmp = s.cmp := rfl
@[simp] theorem pqPut_meter {s i x} : (pqPut s i x).meter = s.meter := rfl
@[simp] theorem pqPut_twin {s i x} : (pqPut s i x).twin = s.twin := rfl
@[simp] theorem pqPut_start {s i x} : (pqPut s i x).start = s.start := rfl
@[simp] theorem pqPut_sec {s i x} : (pqPut s i x).sec = s.sec := rfl
@[simp] theorem pqPut_stamp {s i x} : (pqPut s i x).stamp = s.stamp := rfl
@[simp] theorem pqPut_out {s i x} : (pqPut s i x).out = s.out := rfl

@[simp] theorem pxPut_pending {s p x} : (pxPut s p x).pending = s.pending := rfl
@[simp] theorem pxPut_fresh {s p x} : (pxPut s p x).fresh = s.fresh := rfl
@[simp] theorem pxPut_now {s p x} : (pxPut s p x).now = s.now := rfl
@[simp] theorem pxPut_gtime {s p x} : (pxPut s p x).gtime = s.gtime := rfl
@[simp] theorem pxPut_regs {s p x} : (pxPut s p x).regs = s.regs := rfl
@[simp] theorem pxPut_fuse {s p x} : (pxPut s p x).fuse = s.fuse := rfl
@[simp] theorem pxPut_image0 {s p x} : (pxPut s p x).image0 = s.image0 := rfl
@[simp] theorem pxPut_image1 {s p x} : (pxPut s p x).image1 = s.image1 := rfl
@[simp] theorem pxPut_pins {s p x} : (pxPut s p x).pins = s.pins := rfl
@[simp] theorem pxPut_keys {s p x} : (pxPut s p x).keys = s.keys := rfl
@[simp] theorem pxPut_isl {s p x} : (pxPut s p x).isl = s.isl := rfl
@[simp] theorem pxPut_gov {s p x} : (pxPut s p x).gov = s.gov := rfl
@[simp] theorem pxPut_age {s p x} : (pxPut s p x).age = s.age := rfl
@[simp] theorem pxPut_mem {s p x} : (pxPut s p x).mem = s.mem := rfl
@[simp] theorem pxPut_syn {s p x} : (pxPut s p x).syn = s.syn := rfl
@[simp] theorem pxPut_hostMem {s p x} : (pxPut s p x).hostMem = s.hostMem := rfl
@[simp] theorem pxPut_hostBad {s p x} : (pxPut s p x).hostBad = s.hostBad := rfl
@[simp] theorem pxPut_tie {s p x} : (pxPut s p x).tie = s.tie := rfl
@[simp] theorem pxPut_int0 {s p x} : (pxPut s p x).int0 = s.int0 := rfl
@[simp] theorem pxPut_til {s p x} : (pxPut s p x).til = s.til := rfl
@[simp] theorem pxPut_shf {s p x} : (pxPut s p x).shf = s.shf := rfl
@[simp] theorem pxPut_host {s p x} : (pxPut s p x).host = s.host := rfl
@[simp] theorem pxPut_sch {s p x} : (pxPut s p x).sch = s.sch := rfl
@[simp] theorem pxPut_ctx {s p x} : (pxPut s p x).ctx = s.ctx := rfl
@[simp] theorem pxPut_descBad {s p x} : (pxPut s p x).descBad = s.descBad := rfl
@[simp] theorem pxPut_cows {s p x} : (pxPut s p x).cows = s.cows := rfl
@[simp] theorem pxPut_bnk {s p x} : (pxPut s p x).bnk = s.bnk := rfl
@[simp] theorem pxPut_pools {s p x} : (pxPut s p x).pools = s.pools := rfl
@[simp] theorem pxPut_rows {s p x} : (pxPut s p x).rows = s.rows := rfl
@[simp] theorem pxPut_flash {s p x} : (pxPut s p x).flash = s.flash := rfl
@[simp] theorem pxPut_lat {s p x} : (pxPut s p x).lat = s.lat := rfl
@[simp] theorem pxPut_cmp {s p x} : (pxPut s p x).cmp = s.cmp := rfl
@[simp] theorem pxPut_meter {s p x} : (pxPut s p x).meter = s.meter := rfl
@[simp] theorem pxPut_port {s p x} : (pxPut s p x).port = s.port := rfl
@[simp] theorem pxPut_twin {s p x} : (pxPut s p x).twin = s.twin := rfl
@[simp] theorem pxPut_start {s p x} : (pxPut s p x).start = s.start := rfl
@[simp] theorem pxPut_sec {s p x} : (pxPut s p x).sec = s.sec := rfl
@[simp] theorem pxPut_stamp {s p x} : (pxPut s p x).stamp = s.stamp := rfl
@[simp] theorem pxPut_out {s p x} : (pxPut s p x).out = s.out := rfl

@[simp] theorem opPut_pending {s k o} : (opPut s k o).pending = s.pending := rfl
@[simp] theorem opPut_fresh {s k o} : (opPut s k o).fresh = s.fresh := rfl
@[simp] theorem opPut_now {s k o} : (opPut s k o).now = s.now := rfl
@[simp] theorem opPut_gtime {s k o} : (opPut s k o).gtime = s.gtime := rfl
@[simp] theorem opPut_regs {s k o} : (opPut s k o).regs = s.regs := rfl
@[simp] theorem opPut_fuse {s k o} : (opPut s k o).fuse = s.fuse := rfl
@[simp] theorem opPut_image0 {s k o} : (opPut s k o).image0 = s.image0 := rfl
@[simp] theorem opPut_image1 {s k o} : (opPut s k o).image1 = s.image1 := rfl
@[simp] theorem opPut_pins {s k o} : (opPut s k o).pins = s.pins := rfl
@[simp] theorem opPut_keys {s k o} : (opPut s k o).keys = s.keys := rfl
@[simp] theorem opPut_isl {s k o} : (opPut s k o).isl = s.isl := rfl
@[simp] theorem opPut_gov {s k o} : (opPut s k o).gov = s.gov := rfl
@[simp] theorem opPut_age {s k o} : (opPut s k o).age = s.age := rfl
@[simp] theorem opPut_mem {s k o} : (opPut s k o).mem = s.mem := rfl
@[simp] theorem opPut_syn {s k o} : (opPut s k o).syn = s.syn := rfl
@[simp] theorem opPut_hostMem {s k o} : (opPut s k o).hostMem = s.hostMem := rfl
@[simp] theorem opPut_hostBad {s k o} : (opPut s k o).hostBad = s.hostBad := rfl
@[simp] theorem opPut_tie {s k o} : (opPut s k o).tie = s.tie := rfl
@[simp] theorem opPut_int0 {s k o} : (opPut s k o).int0 = s.int0 := rfl
@[simp] theorem opPut_til {s k o} : (opPut s k o).til = s.til := rfl
@[simp] theorem opPut_shf {s k o} : (opPut s k o).shf = s.shf := rfl
@[simp] theorem opPut_host {s k o} : (opPut s k o).host = s.host := rfl
@[simp] theorem opPut_sch {s k o} : (opPut s k o).sch = s.sch := rfl
@[simp] theorem opPut_ctx {s k o} : (opPut s k o).ctx = s.ctx := rfl
@[simp] theorem opPut_descBad {s k o} : (opPut s k o).descBad = s.descBad := rfl
@[simp] theorem opPut_cows {s k o} : (opPut s k o).cows = s.cows := rfl
@[simp] theorem opPut_bnk {s k o} : (opPut s k o).bnk = s.bnk := rfl
@[simp] theorem opPut_pools {s k o} : (opPut s k o).pools = s.pools := rfl
@[simp] theorem opPut_rows {s k o} : (opPut s k o).rows = s.rows := rfl
@[simp] theorem opPut_flash {s k o} : (opPut s k o).flash = s.flash := rfl
@[simp] theorem opPut_lat {s k o} : (opPut s k o).lat = s.lat := rfl
@[simp] theorem opPut_cmp {s k o} : (opPut s k o).cmp = s.cmp := rfl
@[simp] theorem opPut_meter {s k o} : (opPut s k o).meter = s.meter := rfl
@[simp] theorem opPut_port {s k o} : (opPut s k o).port = s.port := rfl
@[simp] theorem opPut_twin {s k o} : (opPut s k o).twin = s.twin := rfl
@[simp] theorem opPut_start {s k o} : (opPut s k o).start = s.start := rfl
@[simp] theorem opPut_sec {s k o} : (opPut s k o).sec = s.sec := rfl
@[simp] theorem opPut_out {s k o} : (opPut s k o).out = s.out := rfl

@[simp] theorem twPut_pending {s h x} : (twPut s h x).pending = s.pending := rfl
@[simp] theorem twPut_fresh {s h x} : (twPut s h x).fresh = s.fresh := rfl
@[simp] theorem twPut_now {s h x} : (twPut s h x).now = s.now := rfl
@[simp] theorem twPut_gtime {s h x} : (twPut s h x).gtime = s.gtime := rfl
@[simp] theorem twPut_regs {s h x} : (twPut s h x).regs = s.regs := rfl
@[simp] theorem twPut_fuse {s h x} : (twPut s h x).fuse = s.fuse := rfl
@[simp] theorem twPut_image0 {s h x} : (twPut s h x).image0 = s.image0 := rfl
@[simp] theorem twPut_image1 {s h x} : (twPut s h x).image1 = s.image1 := rfl
@[simp] theorem twPut_pins {s h x} : (twPut s h x).pins = s.pins := rfl
@[simp] theorem twPut_keys {s h x} : (twPut s h x).keys = s.keys := rfl
@[simp] theorem twPut_isl {s h x} : (twPut s h x).isl = s.isl := rfl
@[simp] theorem twPut_gov {s h x} : (twPut s h x).gov = s.gov := rfl
@[simp] theorem twPut_age {s h x} : (twPut s h x).age = s.age := rfl
@[simp] theorem twPut_mem {s h x} : (twPut s h x).mem = s.mem := rfl
@[simp] theorem twPut_syn {s h x} : (twPut s h x).syn = s.syn := rfl
@[simp] theorem twPut_hostMem {s h x} : (twPut s h x).hostMem = s.hostMem := rfl
@[simp] theorem twPut_hostBad {s h x} : (twPut s h x).hostBad = s.hostBad := rfl
@[simp] theorem twPut_tie {s h x} : (twPut s h x).tie = s.tie := rfl
@[simp] theorem twPut_int0 {s h x} : (twPut s h x).int0 = s.int0 := rfl
@[simp] theorem twPut_til {s h x} : (twPut s h x).til = s.til := rfl
@[simp] theorem twPut_shf {s h x} : (twPut s h x).shf = s.shf := rfl
@[simp] theorem twPut_host {s h x} : (twPut s h x).host = s.host := rfl
@[simp] theorem twPut_sch {s h x} : (twPut s h x).sch = s.sch := rfl
@[simp] theorem twPut_ctx {s h x} : (twPut s h x).ctx = s.ctx := rfl
@[simp] theorem twPut_descBad {s h x} : (twPut s h x).descBad = s.descBad := rfl
@[simp] theorem twPut_cows {s h x} : (twPut s h x).cows = s.cows := rfl
@[simp] theorem twPut_bnk {s h x} : (twPut s h x).bnk = s.bnk := rfl
@[simp] theorem twPut_pools {s h x} : (twPut s h x).pools = s.pools := rfl
@[simp] theorem twPut_fab {s h x} : (twPut s h x).fab = s.fab := rfl
@[simp] theorem twPut_rows {s h x} : (twPut s h x).rows = s.rows := rfl
@[simp] theorem twPut_flash {s h x} : (twPut s h x).flash = s.flash := rfl
@[simp] theorem twPut_lat {s h x} : (twPut s h x).lat = s.lat := rfl
@[simp] theorem twPut_cmp {s h x} : (twPut s h x).cmp = s.cmp := rfl
@[simp] theorem twPut_meter {s h x} : (twPut s h x).meter = s.meter := rfl
@[simp] theorem twPut_port {s h x} : (twPut s h x).port = s.port := rfl
@[simp] theorem twPut_start {s h x} : (twPut s h x).start = s.start := rfl
@[simp] theorem twPut_sec {s h x} : (twPut s h x).sec = s.sec := rfl
@[simp] theorem twPut_stamp {s h x} : (twPut s h x).stamp = s.stamp := rfl
@[simp] theorem twPut_out {s h x} : (twPut s h x).out = s.out := rfl

@[simp] theorem cmpPut_pending {s c x} : (cmpPut s c x).pending = s.pending := rfl
@[simp] theorem cmpPut_fresh {s c x} : (cmpPut s c x).fresh = s.fresh := rfl
@[simp] theorem cmpPut_now {s c x} : (cmpPut s c x).now = s.now := rfl
@[simp] theorem cmpPut_gtime {s c x} : (cmpPut s c x).gtime = s.gtime := rfl
@[simp] theorem cmpPut_regs {s c x} : (cmpPut s c x).regs = s.regs := rfl
@[simp] theorem cmpPut_fuse {s c x} : (cmpPut s c x).fuse = s.fuse := rfl
@[simp] theorem cmpPut_image0 {s c x} : (cmpPut s c x).image0 = s.image0 := rfl
@[simp] theorem cmpPut_image1 {s c x} : (cmpPut s c x).image1 = s.image1 := rfl
@[simp] theorem cmpPut_pins {s c x} : (cmpPut s c x).pins = s.pins := rfl
@[simp] theorem cmpPut_keys {s c x} : (cmpPut s c x).keys = s.keys := rfl
@[simp] theorem cmpPut_isl {s c x} : (cmpPut s c x).isl = s.isl := rfl
@[simp] theorem cmpPut_gov {s c x} : (cmpPut s c x).gov = s.gov := rfl
@[simp] theorem cmpPut_age {s c x} : (cmpPut s c x).age = s.age := rfl
@[simp] theorem cmpPut_mem {s c x} : (cmpPut s c x).mem = s.mem := rfl
@[simp] theorem cmpPut_syn {s c x} : (cmpPut s c x).syn = s.syn := rfl
@[simp] theorem cmpPut_hostMem {s c x} : (cmpPut s c x).hostMem = s.hostMem := rfl
@[simp] theorem cmpPut_hostBad {s c x} : (cmpPut s c x).hostBad = s.hostBad := rfl
@[simp] theorem cmpPut_tie {s c x} : (cmpPut s c x).tie = s.tie := rfl
@[simp] theorem cmpPut_int0 {s c x} : (cmpPut s c x).int0 = s.int0 := rfl
@[simp] theorem cmpPut_til {s c x} : (cmpPut s c x).til = s.til := rfl
@[simp] theorem cmpPut_shf {s c x} : (cmpPut s c x).shf = s.shf := rfl
@[simp] theorem cmpPut_host {s c x} : (cmpPut s c x).host = s.host := rfl
@[simp] theorem cmpPut_sch {s c x} : (cmpPut s c x).sch = s.sch := rfl
@[simp] theorem cmpPut_ctx {s c x} : (cmpPut s c x).ctx = s.ctx := rfl
@[simp] theorem cmpPut_descBad {s c x} : (cmpPut s c x).descBad = s.descBad := rfl
@[simp] theorem cmpPut_cows {s c x} : (cmpPut s c x).cows = s.cows := rfl
@[simp] theorem cmpPut_bnk {s c x} : (cmpPut s c x).bnk = s.bnk := rfl
@[simp] theorem cmpPut_pools {s c x} : (cmpPut s c x).pools = s.pools := rfl
@[simp] theorem cmpPut_fab {s c x} : (cmpPut s c x).fab = s.fab := rfl
@[simp] theorem cmpPut_rows {s c x} : (cmpPut s c x).rows = s.rows := rfl
@[simp] theorem cmpPut_flash {s c x} : (cmpPut s c x).flash = s.flash := rfl
@[simp] theorem cmpPut_lat {s c x} : (cmpPut s c x).lat = s.lat := rfl
@[simp] theorem cmpPut_meter {s c x} : (cmpPut s c x).meter = s.meter := rfl
@[simp] theorem cmpPut_port {s c x} : (cmpPut s c x).port = s.port := rfl
@[simp] theorem cmpPut_twin {s c x} : (cmpPut s c x).twin = s.twin := rfl
@[simp] theorem cmpPut_start {s c x} : (cmpPut s c x).start = s.start := rfl
@[simp] theorem cmpPut_sec {s c x} : (cmpPut s c x).sec = s.sec := rfl
@[simp] theorem cmpPut_stamp {s c x} : (cmpPut s c x).stamp = s.stamp := rfl
@[simp] theorem cmpPut_out {s c x} : (cmpPut s c x).out = s.out := rfl

@[simp] theorem lrankPut_pending {s r x} : (lrankPut s r x).pending = s.pending := rfl
@[simp] theorem lrankPut_fresh {s r x} : (lrankPut s r x).fresh = s.fresh := rfl
@[simp] theorem lrankPut_now {s r x} : (lrankPut s r x).now = s.now := rfl
@[simp] theorem lrankPut_gtime {s r x} : (lrankPut s r x).gtime = s.gtime := rfl
@[simp] theorem lrankPut_regs {s r x} : (lrankPut s r x).regs = s.regs := rfl
@[simp] theorem lrankPut_fuse {s r x} : (lrankPut s r x).fuse = s.fuse := rfl
@[simp] theorem lrankPut_image0 {s r x} : (lrankPut s r x).image0 = s.image0 := rfl
@[simp] theorem lrankPut_image1 {s r x} : (lrankPut s r x).image1 = s.image1 := rfl
@[simp] theorem lrankPut_pins {s r x} : (lrankPut s r x).pins = s.pins := rfl
@[simp] theorem lrankPut_keys {s r x} : (lrankPut s r x).keys = s.keys := rfl
@[simp] theorem lrankPut_isl {s r x} : (lrankPut s r x).isl = s.isl := rfl
@[simp] theorem lrankPut_gov {s r x} : (lrankPut s r x).gov = s.gov := rfl
@[simp] theorem lrankPut_age {s r x} : (lrankPut s r x).age = s.age := rfl
@[simp] theorem lrankPut_mem {s r x} : (lrankPut s r x).mem = s.mem := rfl
@[simp] theorem lrankPut_syn {s r x} : (lrankPut s r x).syn = s.syn := rfl
@[simp] theorem lrankPut_hostMem {s r x} : (lrankPut s r x).hostMem = s.hostMem := rfl
@[simp] theorem lrankPut_hostBad {s r x} : (lrankPut s r x).hostBad = s.hostBad := rfl
@[simp] theorem lrankPut_tie {s r x} : (lrankPut s r x).tie = s.tie := rfl
@[simp] theorem lrankPut_int0 {s r x} : (lrankPut s r x).int0 = s.int0 := rfl
@[simp] theorem lrankPut_til {s r x} : (lrankPut s r x).til = s.til := rfl
@[simp] theorem lrankPut_shf {s r x} : (lrankPut s r x).shf = s.shf := rfl
@[simp] theorem lrankPut_host {s r x} : (lrankPut s r x).host = s.host := rfl
@[simp] theorem lrankPut_sch {s r x} : (lrankPut s r x).sch = s.sch := rfl
@[simp] theorem lrankPut_ctx {s r x} : (lrankPut s r x).ctx = s.ctx := rfl
@[simp] theorem lrankPut_descBad {s r x} : (lrankPut s r x).descBad = s.descBad := rfl
@[simp] theorem lrankPut_cows {s r x} : (lrankPut s r x).cows = s.cows := rfl
@[simp] theorem lrankPut_bnk {s r x} : (lrankPut s r x).bnk = s.bnk := rfl
@[simp] theorem lrankPut_pools {s r x} : (lrankPut s r x).pools = s.pools := rfl
@[simp] theorem lrankPut_fab {s r x} : (lrankPut s r x).fab = s.fab := rfl
@[simp] theorem lrankPut_rows {s r x} : (lrankPut s r x).rows = s.rows := rfl
@[simp] theorem lrankPut_flash {s r x} : (lrankPut s r x).flash = s.flash := rfl
@[simp] theorem lrankPut_cmp {s r x} : (lrankPut s r x).cmp = s.cmp := rfl
@[simp] theorem lrankPut_meter {s r x} : (lrankPut s r x).meter = s.meter := rfl
@[simp] theorem lrankPut_port {s r x} : (lrankPut s r x).port = s.port := rfl
@[simp] theorem lrankPut_twin {s r x} : (lrankPut s r x).twin = s.twin := rfl
@[simp] theorem lrankPut_start {s r x} : (lrankPut s r x).start = s.start := rfl
@[simp] theorem lrankPut_sec {s r x} : (lrankPut s r x).sec = s.sec := rfl
@[simp] theorem lrankPut_stamp {s r x} : (lrankPut s r x).stamp = s.stamp := rfl
@[simp] theorem lrankPut_out {s r x} : (lrankPut s r x).out = s.out := rfl

@[simp] theorem latPut_pending {s t q} : (latPut s t q).pending = s.pending := rfl
@[simp] theorem latPut_fresh {s t q} : (latPut s t q).fresh = s.fresh := rfl
@[simp] theorem latPut_now {s t q} : (latPut s t q).now = s.now := rfl
@[simp] theorem latPut_gtime {s t q} : (latPut s t q).gtime = s.gtime := rfl
@[simp] theorem latPut_regs {s t q} : (latPut s t q).regs = s.regs := rfl
@[simp] theorem latPut_fuse {s t q} : (latPut s t q).fuse = s.fuse := rfl
@[simp] theorem latPut_image0 {s t q} : (latPut s t q).image0 = s.image0 := rfl
@[simp] theorem latPut_image1 {s t q} : (latPut s t q).image1 = s.image1 := rfl
@[simp] theorem latPut_pins {s t q} : (latPut s t q).pins = s.pins := rfl
@[simp] theorem latPut_keys {s t q} : (latPut s t q).keys = s.keys := rfl
@[simp] theorem latPut_isl {s t q} : (latPut s t q).isl = s.isl := rfl
@[simp] theorem latPut_gov {s t q} : (latPut s t q).gov = s.gov := rfl
@[simp] theorem latPut_age {s t q} : (latPut s t q).age = s.age := rfl
@[simp] theorem latPut_mem {s t q} : (latPut s t q).mem = s.mem := rfl
@[simp] theorem latPut_syn {s t q} : (latPut s t q).syn = s.syn := rfl
@[simp] theorem latPut_hostMem {s t q} : (latPut s t q).hostMem = s.hostMem := rfl
@[simp] theorem latPut_hostBad {s t q} : (latPut s t q).hostBad = s.hostBad := rfl
@[simp] theorem latPut_tie {s t q} : (latPut s t q).tie = s.tie := rfl
@[simp] theorem latPut_int0 {s t q} : (latPut s t q).int0 = s.int0 := rfl
@[simp] theorem latPut_til {s t q} : (latPut s t q).til = s.til := rfl
@[simp] theorem latPut_shf {s t q} : (latPut s t q).shf = s.shf := rfl
@[simp] theorem latPut_host {s t q} : (latPut s t q).host = s.host := rfl
@[simp] theorem latPut_sch {s t q} : (latPut s t q).sch = s.sch := rfl
@[simp] theorem latPut_ctx {s t q} : (latPut s t q).ctx = s.ctx := rfl
@[simp] theorem latPut_descBad {s t q} : (latPut s t q).descBad = s.descBad := rfl
@[simp] theorem latPut_cows {s t q} : (latPut s t q).cows = s.cows := rfl
@[simp] theorem latPut_bnk {s t q} : (latPut s t q).bnk = s.bnk := rfl
@[simp] theorem latPut_pools {s t q} : (latPut s t q).pools = s.pools := rfl
@[simp] theorem latPut_fab {s t q} : (latPut s t q).fab = s.fab := rfl
@[simp] theorem latPut_rows {s t q} : (latPut s t q).rows = s.rows := rfl
@[simp] theorem latPut_flash {s t q} : (latPut s t q).flash = s.flash := rfl
@[simp] theorem latPut_cmp {s t q} : (latPut s t q).cmp = s.cmp := rfl
@[simp] theorem latPut_meter {s t q} : (latPut s t q).meter = s.meter := rfl
@[simp] theorem latPut_port {s t q} : (latPut s t q).port = s.port := rfl
@[simp] theorem latPut_twin {s t q} : (latPut s t q).twin = s.twin := rfl
@[simp] theorem latPut_start {s t q} : (latPut s t q).start = s.start := rfl
@[simp] theorem latPut_sec {s t q} : (latPut s t q).sec = s.sec := rfl
@[simp] theorem latPut_stamp {s t q} : (latPut s t q).stamp = s.stamp := rfl
@[simp] theorem latPut_out {s t q} : (latPut s t q).out = s.out := rfl

@[simp] theorem partPut_pending {s p x} : (partPut s p x).pending = s.pending := rfl
@[simp] theorem partPut_fresh {s p x} : (partPut s p x).fresh = s.fresh := rfl
@[simp] theorem partPut_now {s p x} : (partPut s p x).now = s.now := rfl
@[simp] theorem partPut_gtime {s p x} : (partPut s p x).gtime = s.gtime := rfl
@[simp] theorem partPut_regs {s p x} : (partPut s p x).regs = s.regs := rfl
@[simp] theorem partPut_fuse {s p x} : (partPut s p x).fuse = s.fuse := rfl
@[simp] theorem partPut_image0 {s p x} : (partPut s p x).image0 = s.image0 := rfl
@[simp] theorem partPut_image1 {s p x} : (partPut s p x).image1 = s.image1 := rfl
@[simp] theorem partPut_pins {s p x} : (partPut s p x).pins = s.pins := rfl
@[simp] theorem partPut_keys {s p x} : (partPut s p x).keys = s.keys := rfl
@[simp] theorem partPut_isl {s p x} : (partPut s p x).isl = s.isl := rfl
@[simp] theorem partPut_gov {s p x} : (partPut s p x).gov = s.gov := rfl
@[simp] theorem partPut_age {s p x} : (partPut s p x).age = s.age := rfl
@[simp] theorem partPut_mem {s p x} : (partPut s p x).mem = s.mem := rfl
@[simp] theorem partPut_syn {s p x} : (partPut s p x).syn = s.syn := rfl
@[simp] theorem partPut_hostMem {s p x} : (partPut s p x).hostMem = s.hostMem := rfl
@[simp] theorem partPut_hostBad {s p x} : (partPut s p x).hostBad = s.hostBad := rfl
@[simp] theorem partPut_tie {s p x} : (partPut s p x).tie = s.tie := rfl
@[simp] theorem partPut_int0 {s p x} : (partPut s p x).int0 = s.int0 := rfl
@[simp] theorem partPut_til {s p x} : (partPut s p x).til = s.til := rfl
@[simp] theorem partPut_shf {s p x} : (partPut s p x).shf = s.shf := rfl
@[simp] theorem partPut_host {s p x} : (partPut s p x).host = s.host := rfl
@[simp] theorem partPut_ctx {s p x} : (partPut s p x).ctx = s.ctx := rfl
@[simp] theorem partPut_descBad {s p x} : (partPut s p x).descBad = s.descBad := rfl
@[simp] theorem partPut_cows {s p x} : (partPut s p x).cows = s.cows := rfl
@[simp] theorem partPut_bnk {s p x} : (partPut s p x).bnk = s.bnk := rfl
@[simp] theorem partPut_pools {s p x} : (partPut s p x).pools = s.pools := rfl
@[simp] theorem partPut_fab {s p x} : (partPut s p x).fab = s.fab := rfl
@[simp] theorem partPut_rows {s p x} : (partPut s p x).rows = s.rows := rfl
@[simp] theorem partPut_flash {s p x} : (partPut s p x).flash = s.flash := rfl
@[simp] theorem partPut_lat {s p x} : (partPut s p x).lat = s.lat := rfl
@[simp] theorem partPut_cmp {s p x} : (partPut s p x).cmp = s.cmp := rfl
@[simp] theorem partPut_meter {s p x} : (partPut s p x).meter = s.meter := rfl
@[simp] theorem partPut_port {s p x} : (partPut s p x).port = s.port := rfl
@[simp] theorem partPut_twin {s p x} : (partPut s p x).twin = s.twin := rfl
@[simp] theorem partPut_start {s p x} : (partPut s p x).start = s.start := rfl
@[simp] theorem partPut_sec {s p x} : (partPut s p x).sec = s.sec := rfl
@[simp] theorem partPut_stamp {s p x} : (partPut s p x).stamp = s.stamp := rfl
@[simp] theorem partPut_out {s p x} : (partPut s p x).out = s.out := rfl

@[simp] theorem stkPut_pending {s k x} : (stkPut s k x).pending = s.pending := rfl
@[simp] theorem stkPut_fresh {s k x} : (stkPut s k x).fresh = s.fresh := rfl
@[simp] theorem stkPut_now {s k x} : (stkPut s k x).now = s.now := rfl
@[simp] theorem stkPut_gtime {s k x} : (stkPut s k x).gtime = s.gtime := rfl
@[simp] theorem stkPut_regs {s k x} : (stkPut s k x).regs = s.regs := rfl
@[simp] theorem stkPut_fuse {s k x} : (stkPut s k x).fuse = s.fuse := rfl
@[simp] theorem stkPut_image0 {s k x} : (stkPut s k x).image0 = s.image0 := rfl
@[simp] theorem stkPut_image1 {s k x} : (stkPut s k x).image1 = s.image1 := rfl
@[simp] theorem stkPut_pins {s k x} : (stkPut s k x).pins = s.pins := rfl
@[simp] theorem stkPut_keys {s k x} : (stkPut s k x).keys = s.keys := rfl
@[simp] theorem stkPut_isl {s k x} : (stkPut s k x).isl = s.isl := rfl
@[simp] theorem stkPut_gov {s k x} : (stkPut s k x).gov = s.gov := rfl
@[simp] theorem stkPut_age {s k x} : (stkPut s k x).age = s.age := rfl
@[simp] theorem stkPut_mem {s k x} : (stkPut s k x).mem = s.mem := rfl
@[simp] theorem stkPut_syn {s k x} : (stkPut s k x).syn = s.syn := rfl
@[simp] theorem stkPut_hostMem {s k x} : (stkPut s k x).hostMem = s.hostMem := rfl
@[simp] theorem stkPut_hostBad {s k x} : (stkPut s k x).hostBad = s.hostBad := rfl
@[simp] theorem stkPut_tie {s k x} : (stkPut s k x).tie = s.tie := rfl
@[simp] theorem stkPut_int0 {s k x} : (stkPut s k x).int0 = s.int0 := rfl
@[simp] theorem stkPut_til {s k x} : (stkPut s k x).til = s.til := rfl
@[simp] theorem stkPut_shf {s k x} : (stkPut s k x).shf = s.shf := rfl
@[simp] theorem stkPut_host {s k x} : (stkPut s k x).host = s.host := rfl
@[simp] theorem stkPut_sch {s k x} : (stkPut s k x).sch = s.sch := rfl
@[simp] theorem stkPut_ctx {s k x} : (stkPut s k x).ctx = s.ctx := rfl
@[simp] theorem stkPut_descBad {s k x} : (stkPut s k x).descBad = s.descBad := rfl
@[simp] theorem stkPut_cows {s k x} : (stkPut s k x).cows = s.cows := rfl
@[simp] theorem stkPut_pools {s k x} : (stkPut s k x).pools = s.pools := rfl
@[simp] theorem stkPut_fab {s k x} : (stkPut s k x).fab = s.fab := rfl
@[simp] theorem stkPut_rows {s k x} : (stkPut s k x).rows = s.rows := rfl
@[simp] theorem stkPut_flash {s k x} : (stkPut s k x).flash = s.flash := rfl
@[simp] theorem stkPut_lat {s k x} : (stkPut s k x).lat = s.lat := rfl
@[simp] theorem stkPut_cmp {s k x} : (stkPut s k x).cmp = s.cmp := rfl
@[simp] theorem stkPut_meter {s k x} : (stkPut s k x).meter = s.meter := rfl
@[simp] theorem stkPut_port {s k x} : (stkPut s k x).port = s.port := rfl
@[simp] theorem stkPut_twin {s k x} : (stkPut s k x).twin = s.twin := rfl
@[simp] theorem stkPut_start {s k x} : (stkPut s k x).start = s.start := rfl
@[simp] theorem stkPut_sec {s k x} : (stkPut s k x).sec = s.sec := rfl
@[simp] theorem stkPut_stamp {s k x} : (stkPut s k x).stamp = s.stamp := rfl
@[simp] theorem stkPut_out {s k x} : (stkPut s k x).out = s.out := rfl

@[simp] theorem winPut_pending {s w x} : (winPut s w x).pending = s.pending := rfl
@[simp] theorem winPut_fresh {s w x} : (winPut s w x).fresh = s.fresh := rfl
@[simp] theorem winPut_now {s w x} : (winPut s w x).now = s.now := rfl
@[simp] theorem winPut_gtime {s w x} : (winPut s w x).gtime = s.gtime := rfl
@[simp] theorem winPut_regs {s w x} : (winPut s w x).regs = s.regs := rfl
@[simp] theorem winPut_fuse {s w x} : (winPut s w x).fuse = s.fuse := rfl
@[simp] theorem winPut_image0 {s w x} : (winPut s w x).image0 = s.image0 := rfl
@[simp] theorem winPut_image1 {s w x} : (winPut s w x).image1 = s.image1 := rfl
@[simp] theorem winPut_pins {s w x} : (winPut s w x).pins = s.pins := rfl
@[simp] theorem winPut_keys {s w x} : (winPut s w x).keys = s.keys := rfl
@[simp] theorem winPut_isl {s w x} : (winPut s w x).isl = s.isl := rfl
@[simp] theorem winPut_gov {s w x} : (winPut s w x).gov = s.gov := rfl
@[simp] theorem winPut_age {s w x} : (winPut s w x).age = s.age := rfl
@[simp] theorem winPut_mem {s w x} : (winPut s w x).mem = s.mem := rfl
@[simp] theorem winPut_syn {s w x} : (winPut s w x).syn = s.syn := rfl
@[simp] theorem winPut_hostMem {s w x} : (winPut s w x).hostMem = s.hostMem := rfl
@[simp] theorem winPut_hostBad {s w x} : (winPut s w x).hostBad = s.hostBad := rfl
@[simp] theorem winPut_int0 {s w x} : (winPut s w x).int0 = s.int0 := rfl
@[simp] theorem winPut_til {s w x} : (winPut s w x).til = s.til := rfl
@[simp] theorem winPut_shf {s w x} : (winPut s w x).shf = s.shf := rfl
@[simp] theorem winPut_host {s w x} : (winPut s w x).host = s.host := rfl
@[simp] theorem winPut_sch {s w x} : (winPut s w x).sch = s.sch := rfl
@[simp] theorem winPut_ctx {s w x} : (winPut s w x).ctx = s.ctx := rfl
@[simp] theorem winPut_descBad {s w x} : (winPut s w x).descBad = s.descBad := rfl
@[simp] theorem winPut_cows {s w x} : (winPut s w x).cows = s.cows := rfl
@[simp] theorem winPut_bnk {s w x} : (winPut s w x).bnk = s.bnk := rfl
@[simp] theorem winPut_pools {s w x} : (winPut s w x).pools = s.pools := rfl
@[simp] theorem winPut_fab {s w x} : (winPut s w x).fab = s.fab := rfl
@[simp] theorem winPut_rows {s w x} : (winPut s w x).rows = s.rows := rfl
@[simp] theorem winPut_flash {s w x} : (winPut s w x).flash = s.flash := rfl
@[simp] theorem winPut_lat {s w x} : (winPut s w x).lat = s.lat := rfl
@[simp] theorem winPut_cmp {s w x} : (winPut s w x).cmp = s.cmp := rfl
@[simp] theorem winPut_meter {s w x} : (winPut s w x).meter = s.meter := rfl
@[simp] theorem winPut_port {s w x} : (winPut s w x).port = s.port := rfl
@[simp] theorem winPut_twin {s w x} : (winPut s w x).twin = s.twin := rfl
@[simp] theorem winPut_start {s w x} : (winPut s w x).start = s.start := rfl
@[simp] theorem winPut_sec {s w x} : (winPut s w x).sec = s.sec := rfl
@[simp] theorem winPut_stamp {s w x} : (winPut s w x).stamp = s.stamp := rfl
@[simp] theorem winPut_out {s w x} : (winPut s w x).out = s.out := rfl

@[simp] theorem setUse_pending {s k u} : (setUse s k u).pending = s.pending := rfl
@[simp] theorem setUse_fresh {s k u} : (setUse s k u).fresh = s.fresh := rfl
@[simp] theorem setUse_now {s k u} : (setUse s k u).now = s.now := rfl
@[simp] theorem setUse_gtime {s k u} : (setUse s k u).gtime = s.gtime := rfl
@[simp] theorem setUse_regs {s k u} : (setUse s k u).regs = s.regs := rfl
@[simp] theorem setUse_fuse {s k u} : (setUse s k u).fuse = s.fuse := rfl
@[simp] theorem setUse_image0 {s k u} : (setUse s k u).image0 = s.image0 := rfl
@[simp] theorem setUse_image1 {s k u} : (setUse s k u).image1 = s.image1 := rfl
@[simp] theorem setUse_pins {s k u} : (setUse s k u).pins = s.pins := rfl
@[simp] theorem setUse_keys {s k u} : (setUse s k u).keys = s.keys := rfl
@[simp] theorem setUse_isl {s k u} : (setUse s k u).isl = s.isl := rfl
@[simp] theorem setUse_gov {s k u} : (setUse s k u).gov = s.gov := rfl
@[simp] theorem setUse_age {s k u} : (setUse s k u).age = s.age := rfl
@[simp] theorem setUse_mem {s k u} : (setUse s k u).mem = s.mem := rfl
@[simp] theorem setUse_syn {s k u} : (setUse s k u).syn = s.syn := rfl
@[simp] theorem setUse_hostMem {s k u} : (setUse s k u).hostMem = s.hostMem := rfl
@[simp] theorem setUse_hostBad {s k u} : (setUse s k u).hostBad = s.hostBad := rfl
@[simp] theorem setUse_int0 {s k u} : (setUse s k u).int0 = s.int0 := rfl
@[simp] theorem setUse_til {s k u} : (setUse s k u).til = s.til := rfl
@[simp] theorem setUse_shf {s k u} : (setUse s k u).shf = s.shf := rfl
@[simp] theorem setUse_host {s k u} : (setUse s k u).host = s.host := rfl
@[simp] theorem setUse_sch {s k u} : (setUse s k u).sch = s.sch := rfl
@[simp] theorem setUse_ctx {s k u} : (setUse s k u).ctx = s.ctx := rfl
@[simp] theorem setUse_descBad {s k u} : (setUse s k u).descBad = s.descBad := rfl
@[simp] theorem setUse_cows {s k u} : (setUse s k u).cows = s.cows := rfl
@[simp] theorem setUse_bnk {s k u} : (setUse s k u).bnk = s.bnk := rfl
@[simp] theorem setUse_pools {s k u} : (setUse s k u).pools = s.pools := rfl
@[simp] theorem setUse_fab {s k u} : (setUse s k u).fab = s.fab := rfl
@[simp] theorem setUse_rows {s k u} : (setUse s k u).rows = s.rows := rfl
@[simp] theorem setUse_flash {s k u} : (setUse s k u).flash = s.flash := rfl
@[simp] theorem setUse_lat {s k u} : (setUse s k u).lat = s.lat := rfl
@[simp] theorem setUse_cmp {s k u} : (setUse s k u).cmp = s.cmp := rfl
@[simp] theorem setUse_meter {s k u} : (setUse s k u).meter = s.meter := rfl
@[simp] theorem setUse_port {s k u} : (setUse s k u).port = s.port := rfl
@[simp] theorem setUse_twin {s k u} : (setUse s k u).twin = s.twin := rfl
@[simp] theorem setUse_start {s k u} : (setUse s k u).start = s.start := rfl
@[simp] theorem setUse_sec {s k u} : (setUse s k u).sec = s.sec := rfl
@[simp] theorem setUse_stamp {s k u} : (setUse s k u).stamp = s.stamp := rfl
@[simp] theorem setUse_out {s k u} : (setUse s k u).out = s.out := rfl

@[simp] theorem migPut_pending {s l m} : (migPut s l m).pending = s.pending := rfl
@[simp] theorem migPut_fresh {s l m} : (migPut s l m).fresh = s.fresh := rfl
@[simp] theorem migPut_now {s l m} : (migPut s l m).now = s.now := rfl
@[simp] theorem migPut_gtime {s l m} : (migPut s l m).gtime = s.gtime := rfl
@[simp] theorem migPut_regs {s l m} : (migPut s l m).regs = s.regs := rfl
@[simp] theorem migPut_fuse {s l m} : (migPut s l m).fuse = s.fuse := rfl
@[simp] theorem migPut_image0 {s l m} : (migPut s l m).image0 = s.image0 := rfl
@[simp] theorem migPut_image1 {s l m} : (migPut s l m).image1 = s.image1 := rfl
@[simp] theorem migPut_pins {s l m} : (migPut s l m).pins = s.pins := rfl
@[simp] theorem migPut_keys {s l m} : (migPut s l m).keys = s.keys := rfl
@[simp] theorem migPut_isl {s l m} : (migPut s l m).isl = s.isl := rfl
@[simp] theorem migPut_gov {s l m} : (migPut s l m).gov = s.gov := rfl
@[simp] theorem migPut_age {s l m} : (migPut s l m).age = s.age := rfl
@[simp] theorem migPut_mem {s l m} : (migPut s l m).mem = s.mem := rfl
@[simp] theorem migPut_syn {s l m} : (migPut s l m).syn = s.syn := rfl
@[simp] theorem migPut_hostMem {s l m} : (migPut s l m).hostMem = s.hostMem := rfl
@[simp] theorem migPut_hostBad {s l m} : (migPut s l m).hostBad = s.hostBad := rfl
@[simp] theorem migPut_tie {s l m} : (migPut s l m).tie = s.tie := rfl
@[simp] theorem migPut_int0 {s l m} : (migPut s l m).int0 = s.int0 := rfl
@[simp] theorem migPut_til {s l m} : (migPut s l m).til = s.til := rfl
@[simp] theorem migPut_shf {s l m} : (migPut s l m).shf = s.shf := rfl
@[simp] theorem migPut_host {s l m} : (migPut s l m).host = s.host := rfl
@[simp] theorem migPut_sch {s l m} : (migPut s l m).sch = s.sch := rfl
@[simp] theorem migPut_ctx {s l m} : (migPut s l m).ctx = s.ctx := rfl
@[simp] theorem migPut_descBad {s l m} : (migPut s l m).descBad = s.descBad := rfl
@[simp] theorem migPut_cows {s l m} : (migPut s l m).cows = s.cows := rfl
@[simp] theorem migPut_bnk {s l m} : (migPut s l m).bnk = s.bnk := rfl
@[simp] theorem migPut_pools {s l m} : (migPut s l m).pools = s.pools := rfl
@[simp] theorem migPut_fab {s l m} : (migPut s l m).fab = s.fab := rfl
@[simp] theorem migPut_flash {s l m} : (migPut s l m).flash = s.flash := rfl
@[simp] theorem migPut_lat {s l m} : (migPut s l m).lat = s.lat := rfl
@[simp] theorem migPut_cmp {s l m} : (migPut s l m).cmp = s.cmp := rfl
@[simp] theorem migPut_meter {s l m} : (migPut s l m).meter = s.meter := rfl
@[simp] theorem migPut_port {s l m} : (migPut s l m).port = s.port := rfl
@[simp] theorem migPut_twin {s l m} : (migPut s l m).twin = s.twin := rfl
@[simp] theorem migPut_start {s l m} : (migPut s l m).start = s.start := rfl
@[simp] theorem migPut_sec {s l m} : (migPut s l m).sec = s.sec := rfl
@[simp] theorem migPut_stamp {s l m} : (migPut s l m).stamp = s.stamp := rfl
@[simp] theorem migPut_out {s l m} : (migPut s l m).out = s.out := rfl

@[simp] theorem reqPut_pending {s i x} : (reqPut s i x).pending = s.pending := rfl
@[simp] theorem reqPut_fresh {s i x} : (reqPut s i x).fresh = s.fresh := rfl
@[simp] theorem reqPut_now {s i x} : (reqPut s i x).now = s.now := rfl
@[simp] theorem reqPut_gtime {s i x} : (reqPut s i x).gtime = s.gtime := rfl
@[simp] theorem reqPut_regs {s i x} : (reqPut s i x).regs = s.regs := rfl
@[simp] theorem reqPut_fuse {s i x} : (reqPut s i x).fuse = s.fuse := rfl
@[simp] theorem reqPut_image0 {s i x} : (reqPut s i x).image0 = s.image0 := rfl
@[simp] theorem reqPut_image1 {s i x} : (reqPut s i x).image1 = s.image1 := rfl
@[simp] theorem reqPut_pins {s i x} : (reqPut s i x).pins = s.pins := rfl
@[simp] theorem reqPut_keys {s i x} : (reqPut s i x).keys = s.keys := rfl
@[simp] theorem reqPut_isl {s i x} : (reqPut s i x).isl = s.isl := rfl
@[simp] theorem reqPut_gov {s i x} : (reqPut s i x).gov = s.gov := rfl
@[simp] theorem reqPut_age {s i x} : (reqPut s i x).age = s.age := rfl
@[simp] theorem reqPut_mem {s i x} : (reqPut s i x).mem = s.mem := rfl
@[simp] theorem reqPut_syn {s i x} : (reqPut s i x).syn = s.syn := rfl
@[simp] theorem reqPut_hostMem {s i x} : (reqPut s i x).hostMem = s.hostMem := rfl
@[simp] theorem reqPut_hostBad {s i x} : (reqPut s i x).hostBad = s.hostBad := rfl
@[simp] theorem reqPut_tie {s i x} : (reqPut s i x).tie = s.tie := rfl
@[simp] theorem reqPut_int0 {s i x} : (reqPut s i x).int0 = s.int0 := rfl
@[simp] theorem reqPut_til {s i x} : (reqPut s i x).til = s.til := rfl
@[simp] theorem reqPut_shf {s i x} : (reqPut s i x).shf = s.shf := rfl
@[simp] theorem reqPut_host {s i x} : (reqPut s i x).host = s.host := rfl
@[simp] theorem reqPut_sch {s i x} : (reqPut s i x).sch = s.sch := rfl
@[simp] theorem reqPut_ctx {s i x} : (reqPut s i x).ctx = s.ctx := rfl
@[simp] theorem reqPut_descBad {s i x} : (reqPut s i x).descBad = s.descBad := rfl
@[simp] theorem reqPut_cows {s i x} : (reqPut s i x).cows = s.cows := rfl
@[simp] theorem reqPut_bnk {s i x} : (reqPut s i x).bnk = s.bnk := rfl
@[simp] theorem reqPut_pools {s i x} : (reqPut s i x).pools = s.pools := rfl
@[simp] theorem reqPut_fab {s i x} : (reqPut s i x).fab = s.fab := rfl
@[simp] theorem reqPut_flash {s i x} : (reqPut s i x).flash = s.flash := rfl
@[simp] theorem reqPut_lat {s i x} : (reqPut s i x).lat = s.lat := rfl
@[simp] theorem reqPut_cmp {s i x} : (reqPut s i x).cmp = s.cmp := rfl
@[simp] theorem reqPut_meter {s i x} : (reqPut s i x).meter = s.meter := rfl
@[simp] theorem reqPut_port {s i x} : (reqPut s i x).port = s.port := rfl
@[simp] theorem reqPut_twin {s i x} : (reqPut s i x).twin = s.twin := rfl
@[simp] theorem reqPut_start {s i x} : (reqPut s i x).start = s.start := rfl
@[simp] theorem reqPut_sec {s i x} : (reqPut s i x).sec = s.sec := rfl
@[simp] theorem reqPut_stamp {s i x} : (reqPut s i x).stamp = s.stamp := rfl
@[simp] theorem reqPut_out {s i x} : (reqPut s i x).out = s.out := rfl

@[simp] theorem zeroFrame_pending {s k} : (zeroFrame s k).pending = s.pending := rfl
@[simp] theorem zeroFrame_fresh {s k} : (zeroFrame s k).fresh = s.fresh := rfl
@[simp] theorem zeroFrame_now {s k} : (zeroFrame s k).now = s.now := rfl
@[simp] theorem zeroFrame_gtime {s k} : (zeroFrame s k).gtime = s.gtime := rfl
@[simp] theorem zeroFrame_regs {s k} : (zeroFrame s k).regs = s.regs := rfl
@[simp] theorem zeroFrame_fuse {s k} : (zeroFrame s k).fuse = s.fuse := rfl
@[simp] theorem zeroFrame_image0 {s k} : (zeroFrame s k).image0 = s.image0 := rfl
@[simp] theorem zeroFrame_image1 {s k} : (zeroFrame s k).image1 = s.image1 := rfl
@[simp] theorem zeroFrame_pins {s k} : (zeroFrame s k).pins = s.pins := rfl
@[simp] theorem zeroFrame_keys {s k} : (zeroFrame s k).keys = s.keys := rfl
@[simp] theorem zeroFrame_isl {s k} : (zeroFrame s k).isl = s.isl := rfl
@[simp] theorem zeroFrame_gov {s k} : (zeroFrame s k).gov = s.gov := rfl
@[simp] theorem zeroFrame_age {s k} : (zeroFrame s k).age = s.age := rfl
@[simp] theorem zeroFrame_hostMem {s k} : (zeroFrame s k).hostMem = s.hostMem := rfl
@[simp] theorem zeroFrame_hostBad {s k} : (zeroFrame s k).hostBad = s.hostBad := rfl
@[simp] theorem zeroFrame_tie {s k} : (zeroFrame s k).tie = s.tie := rfl
@[simp] theorem zeroFrame_int0 {s k} : (zeroFrame s k).int0 = s.int0 := rfl
@[simp] theorem zeroFrame_til {s k} : (zeroFrame s k).til = s.til := rfl
@[simp] theorem zeroFrame_shf {s k} : (zeroFrame s k).shf = s.shf := rfl
@[simp] theorem zeroFrame_host {s k} : (zeroFrame s k).host = s.host := rfl
@[simp] theorem zeroFrame_sch {s k} : (zeroFrame s k).sch = s.sch := rfl
@[simp] theorem zeroFrame_ctx {s k} : (zeroFrame s k).ctx = s.ctx := rfl
@[simp] theorem zeroFrame_descBad {s k} : (zeroFrame s k).descBad = s.descBad := rfl
@[simp] theorem zeroFrame_cows {s k} : (zeroFrame s k).cows = s.cows := rfl
@[simp] theorem zeroFrame_bnk {s k} : (zeroFrame s k).bnk = s.bnk := rfl
@[simp] theorem zeroFrame_pools {s k} : (zeroFrame s k).pools = s.pools := rfl
@[simp] theorem zeroFrame_fab {s k} : (zeroFrame s k).fab = s.fab := rfl
@[simp] theorem zeroFrame_rows {s k} : (zeroFrame s k).rows = s.rows := rfl
@[simp] theorem zeroFrame_flash {s k} : (zeroFrame s k).flash = s.flash := rfl
@[simp] theorem zeroFrame_lat {s k} : (zeroFrame s k).lat = s.lat := rfl
@[simp] theorem zeroFrame_cmp {s k} : (zeroFrame s k).cmp = s.cmp := rfl
@[simp] theorem zeroFrame_meter {s k} : (zeroFrame s k).meter = s.meter := rfl
@[simp] theorem zeroFrame_port {s k} : (zeroFrame s k).port = s.port := rfl
@[simp] theorem zeroFrame_twin {s k} : (zeroFrame s k).twin = s.twin := rfl
@[simp] theorem zeroFrame_start {s k} : (zeroFrame s k).start = s.start := rfl
@[simp] theorem zeroFrame_sec {s k} : (zeroFrame s k).sec = s.sec := rfl
@[simp] theorem zeroFrame_stamp {s k} : (zeroFrame s k).stamp = s.stamp := rfl
@[simp] theorem zeroFrame_out {s k} : (zeroFrame s k).out = s.out := rfl

@[simp] theorem zeroRange_pending {s a n} : (zeroRange s a n).pending = s.pending := rfl
@[simp] theorem zeroRange_fresh {s a n} : (zeroRange s a n).fresh = s.fresh := rfl
@[simp] theorem zeroRange_now {s a n} : (zeroRange s a n).now = s.now := rfl
@[simp] theorem zeroRange_gtime {s a n} : (zeroRange s a n).gtime = s.gtime := rfl
@[simp] theorem zeroRange_regs {s a n} : (zeroRange s a n).regs = s.regs := rfl
@[simp] theorem zeroRange_fuse {s a n} : (zeroRange s a n).fuse = s.fuse := rfl
@[simp] theorem zeroRange_image0 {s a n} : (zeroRange s a n).image0 = s.image0 := rfl
@[simp] theorem zeroRange_image1 {s a n} : (zeroRange s a n).image1 = s.image1 := rfl
@[simp] theorem zeroRange_pins {s a n} : (zeroRange s a n).pins = s.pins := rfl
@[simp] theorem zeroRange_keys {s a n} : (zeroRange s a n).keys = s.keys := rfl
@[simp] theorem zeroRange_isl {s a n} : (zeroRange s a n).isl = s.isl := rfl
@[simp] theorem zeroRange_gov {s a n} : (zeroRange s a n).gov = s.gov := rfl
@[simp] theorem zeroRange_age {s a n} : (zeroRange s a n).age = s.age := rfl
@[simp] theorem zeroRange_hostMem {s a n} : (zeroRange s a n).hostMem = s.hostMem := rfl
@[simp] theorem zeroRange_hostBad {s a n} : (zeroRange s a n).hostBad = s.hostBad := rfl
@[simp] theorem zeroRange_tie {s a n} : (zeroRange s a n).tie = s.tie := rfl
@[simp] theorem zeroRange_int0 {s a n} : (zeroRange s a n).int0 = s.int0 := rfl
@[simp] theorem zeroRange_til {s a n} : (zeroRange s a n).til = s.til := rfl
@[simp] theorem zeroRange_shf {s a n} : (zeroRange s a n).shf = s.shf := rfl
@[simp] theorem zeroRange_host {s a n} : (zeroRange s a n).host = s.host := rfl
@[simp] theorem zeroRange_sch {s a n} : (zeroRange s a n).sch = s.sch := rfl
@[simp] theorem zeroRange_ctx {s a n} : (zeroRange s a n).ctx = s.ctx := rfl
@[simp] theorem zeroRange_descBad {s a n} : (zeroRange s a n).descBad = s.descBad := rfl
@[simp] theorem zeroRange_cows {s a n} : (zeroRange s a n).cows = s.cows := rfl
@[simp] theorem zeroRange_bnk {s a n} : (zeroRange s a n).bnk = s.bnk := rfl
@[simp] theorem zeroRange_pools {s a n} : (zeroRange s a n).pools = s.pools := rfl
@[simp] theorem zeroRange_fab {s a n} : (zeroRange s a n).fab = s.fab := rfl
@[simp] theorem zeroRange_rows {s a n} : (zeroRange s a n).rows = s.rows := rfl
@[simp] theorem zeroRange_flash {s a n} : (zeroRange s a n).flash = s.flash := rfl
@[simp] theorem zeroRange_lat {s a n} : (zeroRange s a n).lat = s.lat := rfl
@[simp] theorem zeroRange_cmp {s a n} : (zeroRange s a n).cmp = s.cmp := rfl
@[simp] theorem zeroRange_meter {s a n} : (zeroRange s a n).meter = s.meter := rfl
@[simp] theorem zeroRange_port {s a n} : (zeroRange s a n).port = s.port := rfl
@[simp] theorem zeroRange_twin {s a n} : (zeroRange s a n).twin = s.twin := rfl
@[simp] theorem zeroRange_start {s a n} : (zeroRange s a n).start = s.start := rfl
@[simp] theorem zeroRange_sec {s a n} : (zeroRange s a n).sec = s.sec := rfl
@[simp] theorem zeroRange_stamp {s a n} : (zeroRange s a n).stamp = s.stamp := rfl
@[simp] theorem zeroRange_out {s a n} : (zeroRange s a n).out = s.out := rfl

/-! ### Read after write -/

@[simp] theorem stk_stkPut_self (s : State) (k : Nat) (x : Stk) : stk (stkPut s k x) k = x := nget_nput_self _ _ _ _
theorem stk_stkPut_ne (s : State) {i k : Nat} (x : Stk) (h : i ≠ k) : stk (stkPut s k x) i = stk s i := nget_nput_ne _ _ _ h
@[simp] theorem cmpOf_cmpPut_self (s : State) (k : Nat) (x : Comp) : cmpOf (cmpPut s k x) k = x := nget_nput_self _ _ _ _
theorem cmpOf_cmpPut_ne (s : State) {i k : Nat} (x : Comp) (h : i ≠ k) : cmpOf (cmpPut s k x) i = cmpOf s i := nget_nput_ne _ _ _ h
@[simp] theorem poolOf_poolPut_self (s : State) (k : Nat) (x : Pools) : poolOf (poolPut s k x) k = x := nget_nput_self _ _ _ _
theorem poolOf_poolPut_ne (s : State) {i k : Nat} (x : Pools) (h : i ≠ k) : poolOf (poolPut s k x) i = poolOf s i := nget_nput_ne _ _ _ h
@[simp] theorem tw_twPut_self (s : State) (k : Nat) (x : TwinHalf) : tw (twPut s k x) k = x := nget_nput_self _ _ _ _
theorem tw_twPut_ne (s : State) {i k : Nat} (x : TwinHalf) (h : i ≠ k) : tw (twPut s k x) i = tw s i := nget_nput_ne _ _ _ h
@[simp] theorem part_partPut_self (s : State) (k : Nat) (x : Part) : part (partPut s k x) k = x := nget_nput_self _ _ _ _
theorem part_partPut_ne (s : State) {i k : Nat} (x : Part) (h : i ≠ k) : part (partPut s k x) i = part s i := nget_nput_ne _ _ _ h
@[simp] theorem lrank_lrankPut_self (s : State) (k : Nat) (x : LatRank) : lrank (lrankPut s k x) k = x := nget_nput_self _ _ _ _
theorem lrank_lrankPut_ne (s : State) {i k : Nat} (x : LatRank) (h : i ≠ k) : lrank (lrankPut s k x) i = lrank s i := nget_nput_ne _ _ _ h
@[simp] theorem frameUse_setUse_self (s : State) (k : Nat) (x : Nat) : frameUse (setUse s k x) k = x := nget_nput_self _ _ _ _
theorem frameUse_setUse_ne (s : State) {i k : Nat} (x : Nat) (h : i ≠ k) : frameUse (setUse s k x) i = frameUse s i := nget_nput_ne _ _ _ h
@[simp] theorem px_pxPut_self (s : State) (k : Nat) (x : PeerX) : px (pxPut s k x) k = x := nget_nput_self _ _ _ _
theorem px_pxPut_ne (s : State) {i k : Nat} (x : PeerX) (h : i ≠ k) : px (pxPut s k x) i = px s i := nget_nput_ne _ _ _ h
@[simp] theorem pq_pqPut_self (s : State) (k : Nat) (x : PortQ) : pq (pqPut s k x) k = x := nget_nput_self _ _ _ _
theorem pq_pqPut_ne (s : State) {i k : Nat} (x : PortQ) (h : i ≠ k) : pq (pqPut s k x) i = pq s i := nget_nput_ne _ _ _ h
@[simp] theorem win_winPut_self (s : State) (k : Nat) (x : Win) : win (winPut s k x) k = x := nget_nput_self _ _ _ _
theorem win_winPut_ne (s : State) {i k : Nat} (x : Win) (h : i ≠ k) : win (winPut s k x) i = win s i := nget_nput_ne _ _ _ h
@[simp] theorem latReq_latPut_self (s : State) (k : Nat) (x : LatReq) : latReq (latPut s k x) k = some x := nfind_nset_self _ _ _
theorem latReq_latPut_ne (s : State) {i k : Nat} (x : LatReq) (h : i ≠ k) : latReq (latPut s k x) i = latReq s i := nfind_nset_ne _ _ h
@[simp] theorem rowReq_reqPut_self (s : State) (k : Nat) (x : RowReq) : rowReq (reqPut s k x) k = some x := nfind_nset_self _ _ _
theorem rowReq_reqPut_ne (s : State) {i k : Nat} (x : RowReq) (h : i ≠ k) : rowReq (reqPut s k x) i = rowReq s i := nfind_nset_ne _ _ h
@[simp] theorem migOf_migPut_self (s : State) (k : Nat) (x : Mig) : migOf (migPut s k x) k = some x := nfind_nset_self _ _ _
theorem migOf_migPut_ne (s : State) {i k : Nat} (x : Mig) (h : i ≠ k) : migOf (migPut s k x) i = migOf s i := nfind_nset_ne _ _ h

end Sys2Proof.Machine
end

