-- ==== Sys2Proof/Laws/Step.lean ====
section
/-!
SUPPORT. What a step can do, said once: it lets a nanosecond pass, or it runs the command at the front of the queue.
-/

namespace Sys2Proof.Machine

/-- A step lets one nanosecond pass on an empty queue, or runs the front command on the queue's rest. -/
theorem step_cases {s u : State} (h : step s = .next u) : (s.pending = [] ∧ u = idle s) ∨
    ∃ c r, s.pending = c :: r ∧ exec c { s with pending := r } = .next u := by
  unfold step at h
  split at h
  · rename_i e; cases h; exact .inl ⟨e, rfl⟩
  · rename_i c r e; exact .inr ⟨c, r, e, h⟩

/-- What every step keeps: the queue's rest, the fuses and boot images, the canonical forms, the reserved bits. -/
theorem step_keeps {s u : State} (h : step s = .next u) : ∃ W, Keeps ⟨W, { s with pending := s.pending.tail }⟩ u := by
  obtain ⟨e, rfl⟩ | ⟨c, r, e, k⟩ := step_cases h
  · refine ⟨12, ?_⟩
    have : { s with pending := s.pending.tail } = s := by rw [e]; cases s; cases e; rfl
    rw [this]
    have h (W : Nat) (w : sub 12 W = true) : Keeps ⟨W, s⟩ (idle s) := idle_keeps w (Keeps.refl W s)
    exact h 12 rfl
  · rw [e]; exact ⟨_, exec_frame c { s with pending := r } u k⟩

end Sys2Proof.Machine
end

