-- ==== Sys2Proof/Laws/Vector.lean ====
section
/-!
SUPPORT. Laws of the vector pipe: what a lane-by-lane instruction and a conversion leave in VD, and what a vector store leaves in
memory.
-/

namespace Sys2Proof.Machine

/-! ### Lanes -/

theorem ofLanes_bits (l : List Lane) (k : Nat) : bits (ofLanes l) (32 * k) 32 = (l.getD k 0).toNat := by
  induction l generalizing k with
  | nil => simp [ofLanes, bits]
  | cons x l ih =>
    have hx := x.isLt
    cases k with
    | zero => simp only [ofLanes, bits, Nat.mul_zero, Nat.pow_zero, Nat.div_one, List.getD_cons_zero]; omega
    | succ k =>
      have e : 2 ^ (32 * (k + 1)) = 2 ^ 32 * 2 ^ (32 * k) := by rw [← Nat.pow_add]; congr 1; omega
      have q : (x.toNat + 2 ^ 32 * ofLanes l) / 2 ^ 32 = ofLanes l := by omega
      rw [List.getD_cons_succ, ← ih, ofLanes, bits, bits, e, ← Nat.div_div_eq_div_mul, q]

theorem ofLanes_lt (l : List Lane) : ofLanes l < 2 ^ (32 * l.length) := by
  induction l with
  | nil => simp [ofLanes]
  | cons x l ih =>
    have hx := x.isLt
    have e : 2 ^ (32 * (l.length + 1)) = 2 ^ 32 * 2 ^ (32 * l.length) := by rw [← Nat.pow_add]; congr 1; omega
    rw [ofLanes, List.length_cons, e]
    calc x.toNat + 2 ^ 32 * ofLanes l < 2 ^ 32 + 2 ^ 32 * ofLanes l := by omega
      _ = 2 ^ 32 * (ofLanes l + 1) := by rw [Nat.mul_add]; omega
      _ ≤ 2 ^ 32 * 2 ^ (32 * l.length) := Nat.mul_le_mul_left _ ih

/-- Lane `k` of a register made of 128 lanes. -/
theorem laneN_ofLanes {l : List Lane} (h : l.length = 128) (k : Nat) : laneN (BitVec.ofNat 4096 (ofLanes l)) k = (l.getD k 0).toNat := by
  have e := ofLanes_lt l
  rw [h] at e
  rw [laneN, bget, BitVec.toNat_ofNat, Nat.mod_eq_of_lt e, ofLanes_bits]

@[simp] theorem laneN_vmake (f : Nat → Lane) {k : Nat} (h : k < 128) : laneN (vmake f) k = (f k).toNat := by
  rw [vmake, laneN_ofLanes (by simp)]
  simp [List.getD_eq_getElem?_getD, h]

/-- A lane-by-lane instruction that runs: lane k of VD is the result where the guard bit is 1, else its old word. -/
theorem vwrite_lanes (s : State) (t : Nat) (b : BitVec 54) (f : Nat → LaneRes) :
    laneEffect s (vwrite s t (fVD b) (lanes (preg (til s t) (guardOf b)) (vreg (til s t) (fVD b)) f)) t b f := by
  have same (w : VReg) : advPc (vset (til s t) (fVD b) w) = { til s t with pc := (til s t).pc + 8, v := (advPc (vset (til s t) (fVD b) w)).v } := rfl
  refine ⟨advPc (vset (til s t) (fVD b) (lanesReg (lanes (preg (til s t) (guardOf b)) (vreg (til s t) (fVD b)) f))), ?_, same _,
    fun r hr => (vreg_advPc _ _).trans (vreg_vset_ne _ _ hr), fun k hk => ?_⟩
  · have e : ∀ (g : PReg) (old : VReg), lanesFlags (lanes g old f) = laneFlags g f := by
      intro g old
      have : (fun (a : Nat) k => a ||| (if bbit g k then f k else (laneN old k, 0)).2) = fun a k => if bbit g k then a ||| (f k).2 else a := by
        funext a k; split <;> simp
      rw [lanesFlags, lanes, List.foldl_map, laneFlags, this]
    rw [vwrite, tupd, e]
  · rw [vreg_advPc, vreg_vset_self, lanesReg, laneN_ofLanes (by simp [lanes])]
    simp only [lanes, List.map_map, List.getD_eq_getElem?_getD, List.getElem?_map, List.getElem?_range hk, Option.map_some,
      Option.getD_some, Function.comp, BitVec.toNat_ofNat]
    split
    · rfl
    · exact Nat.mod_eq_of_lt (bget_lt _ _ _)

/-- Everything a lane-by-lane instruction that is legal and ready does. -/
theorem vlanes_runs {s : State} {t op : Nat} {b : BitVec 54} {types zs vs ss ps : List Nat} {f : Tiller → Nat → LaneRes}
    (h1 : canIssue (til s t) = true) (h2 : awaitP (til s t) (guardOf b) = false) (h3 : types.contains (fTYPE b) = true)
    (h4 : zeros (fVres b :: zs) = true) (h5 : (freeV (til s t) (fVD b :: vs) && freeS (til s t) ss && freeP (til s t) ps) = true) :
    laneEffect s (vlanes s t op b types zs vs ss ps f) t b (f (til s t)) := by
  have e : vlanes s t op b types zs vs ss ps f = vwrite s t (fVD b) (lanes (preg (til s t) (guardOf b)) (vreg (til s t) (fVD b)) (f (til s t))) := by
    unfold vlanes
    exact issue_runs h1 h2 (.inl rfl) (by rw [h3, h4]; rfl) h5
  rw [e]
  exact vwrite_lanes _ _ _ _

/-! ### Bytes of a tiller's memories -/

theorem ngets_bytes {α : Type} (d : Nat → α) (m : NMap α) (a n : Nat) : ngets d m a n = (List.range n).flatMap (fun j => ngets d m (a + j) 1) := by
  induction n generalizing a with
  | zero => rfl
  | succ n ih =>
    rw [List.range_succ_eq_map, List.flatMap_cons, List.flatMap_map, ngets, ih]
    have : (fun j => ngets d m (a + Nat.succ j) 1) = fun j => ngets d m (a + 1 + j) 1 := by
      funext j; rw [show a + Nat.succ j = a + 1 + j by omega]
    rw [this]
    rfl

/-- A range read is its bytes, each read alone. -/
theorem tread_bytes {s : State} {t a n : Nat} (h : (inLocal a n || inStore a n) = true) :
    tread s t a n = (List.range n).flatMap (fun j => tread s t (a + j) 1) := by
  have key : ∀ {f g : Nat → List Byte}, (∀ j, j < n → f j = g j) → (List.range n).flatMap f = (List.range n).flatMap g := by
    intro f g e
    rw [List.flatMap_def, List.flatMap_def]
    congr 1
    exact List.map_congr_left (fun j hj => e j (List.mem_range.1 hj))
  by_cases hl : inLocal a n = true
  · rw [tread, if_pos hl, localBytes, ngets_bytes]
    apply key
    intro j hj
    have : inLocal (a + j) 1 = true := by
      simp only [inLocal, decide_eq_true_eq] at hl ⊢; omega
    rw [tread, if_pos this]; rfl
  · have hs : inStore a n = true := by simpa [hl] using h
    rw [tread, if_neg hl, storeBytes, ngets_bytes]
    apply key
    intro j hj
    simp only [inStore, Bool.and_eq_true, decide_eq_true_eq] at hs
    have h1 : ¬(a + j + 1 ≤ sramSize) := by
      have : storeBase = 0x1000000 := rfl
      have : sramSize = 0x200000 := rfl
      omega
    have : ¬inLocal (a + j) 1 = true := by
      simpa only [inLocal, decide_eq_true_eq] using h1
    rw [tread, if_neg this, storeBytes, show a + j - storeBase = a - storeBase + j by omega]

/-- Byte `i` of a number. -/
def byteOf (v i : Nat) : Byte := BitVec.ofNat 8 (v / 256 ^ i)

theorem toBytes_eq (n v : Nat) : toBytes n v = (List.range n).map (byteOf v) := by
  induction n generalizing v with
  | zero => rfl
  | succ n ih =>
    rw [List.range_succ_eq_map, List.map_cons, List.map_map, toBytes, ih]
    congr 1
    · simp [byteOf]
    · apply List.map_congr_left
      intro i _
      simp [byteOf, Function.comp, Nat.pow_succ, Nat.div_div_eq_div_mul, Nat.mul_comm]

/-- One byte of a range that was just written. -/
theorem tread_twrite {s : State} {t a c n v : Nat} (h : (inLocal a n || inStore a n) = true) (hc : (inLocal c 1 || inStore c 1) = true) :
    tread (twrite s t a (toBytes n v)) t c 1 = if a ≤ c ∧ c < a + n then [byteOf v (c - a)] else tread s t c 1 := by
  have hlen := toBytes_length n v
  have st := twrite_stored (s := s) (t := t) (a := a) (bs := toBytes n v) advPc (fun x => ⟨advPc x, rfl, rfl, rfl, fun _ _ => rfl⟩)
    (by rw [hlen]; exact h)
  have same : ∀ c n, tread (tupd (twrite s t a (toBytes n v)) t advPc) t c n = tread (twrite s t a (toBytes n v)) t c n := by
    intro c n; simp only [tread, tupd, til_tput_self, shf_tput]; rfl
  have same' : ∀ c m, tread (tupd (twrite s t a (toBytes n v)) t advPc) t c m = tread (twrite s t a (toBytes n v)) t c m := by
    intro c m; simp only [tread, tupd, til_tput_self, shf_tput]; rfl
  obtain ⟨e1, e2, -⟩ := st
  rw [hlen] at e1 e2
  by_cases hr : a ≤ c ∧ c < a + n
  · rw [if_pos hr]
    rw [same', tread_bytes h, toBytes_eq] at e1
    have ln : ∀ c, (tread (twrite s t a ((List.range n).map (byteOf v))) t c 1).length = 1 := by
      intro c; simp only [tread]; split <;> exact ngets_length _ _ _ _
    have key : ∀ (n : Nat) (f : Nat → List Byte) (g : Nat → Byte), (∀ j, (f j).length = 1) →
        (List.range n).flatMap f = (List.range n).map g → ∀ j, j < n → f j = [g j] := by
      intro n f g hf e j hj
      have hm : (List.range n).flatMap f = (List.range n).map (fun j => (f j).headD 0) := by
        rw [List.map_eq_flatMap, List.flatMap_def, List.flatMap_def]
        congr 1
        apply List.map_congr_left
        intro j _
        obtain ⟨x, hx⟩ := List.length_eq_one_iff.1 (hf j)
        rw [hx]; rfl
      rw [hm] at e
      have := List.map_inj_left.1 e j (List.mem_range.2 hj)
      obtain ⟨x, hx⟩ := List.length_eq_one_iff.1 (hf j)
      rw [hx] at this ⊢
      rw [← this]; rfl
    have := key n _ _ (fun j => ln (a + j)) e1 (c - a) (by omega)
    rw [show a + (c - a) = c by omega] at this
    rw [toBytes_eq]; exact this
  · rw [if_neg hr, ← same', e2 c hc (by omega)]

/-- The parts of the device a write by a tiller leaves alone. -/
theorem twrite_frame {s : State} {t a : Nat} {bs : List Byte} :
    (∀ k, k ≠ t → til (twrite s t a bs) k = til s k) ∧ (∀ h, h ≠ sheafOf t → shf (twrite s t a bs) h = shf s h) ∧
    (∃ m l, til (twrite s t a bs) t = { til s t with sram := m, bad := l }) ∧
    (∃ m l, shf (twrite s t a bs) (sheafOf t) = { shf s (sheafOf t) with store := m, bad := l }) ∧
    (∃ m n, twrite s t a bs = { s with til := m, shf := n }) := by
  unfold twrite
  split
  · refine ⟨fun k hk => til_tput_ne _ _ hk, fun _ _ => rfl, ⟨_, _, til_tput_self _ _ _⟩, ⟨_, _, rfl⟩, ⟨_, _, rfl⟩⟩
  · refine ⟨fun _ _ => rfl, fun h hh => shf_shput_ne _ _ hh, ⟨_, _, rfl⟩, ⟨_, _, shf_shput_self _ _ _⟩, ⟨_, _, rfl⟩⟩

/-- The bytes that a vector store leaves at its address: of the active lanes their words, else what was there. -/
def vstBytes (s : State) (t a : Nat) (v : VReg) (g : PReg) : List Byte :=
  (List.range 128).flatMap (fun k => if bbit g k then toBytes 4 (laneN v k) else tread s t (a + 4 * k) 4)

/-- Every byte, after the lanes of a list are stored. -/
theorem storeLanes_byte {s : State} {t a : Nat} {v : VReg} {g : PReg} (ha : (inLocal a 512 || inStore a 512) = true)
    {l : List Nat} (hl : ∀ k ∈ l, k < 128) {c : Nat} (hc : (inLocal c 1 || inStore c 1) = true) :
    tread (storeLanes s t a v g l) t c 1 = if a ≤ c ∧ (c - a) / 4 ∈ l ∧ bbit g ((c - a) / 4) = true then
      [byteOf (laneN v ((c - a) / 4)) ((c - a) % 4)] else tread s t c 1 := by
  induction l generalizing s with
  | nil => simp [storeLanes]
  | cons k l ih =>
    rw [storeLanes, ih (fun j hj => hl j (List.mem_cons_of_mem _ hj))]
    have hk := hl k List.mem_cons_self
    have h4 : (inLocal (a + 4 * k) 4 || inStore (a + 4 * k) 4) = true := by
      simp only [inLocal, inStore, Bool.or_eq_true, Bool.and_eq_true, decide_eq_true_eq] at ha ⊢; omega
    by_cases h1 : a ≤ c ∧ (c - a) / 4 ∈ l ∧ bbit g ((c - a) / 4) = true
    · rw [if_pos h1, if_pos ⟨h1.1, List.mem_cons_of_mem _ h1.2.1, h1.2.2⟩]
    · rw [if_neg h1]
      by_cases hg : bbit g k = true
      · rw [if_pos hg, tread_twrite h4 hc]
        by_cases h2 : a + 4 * k ≤ c ∧ c < a + 4 * k + 4
        · have e : (c - a) / 4 = k := by omega
          rw [if_pos h2, if_pos ⟨by omega, by rw [e]; exact List.mem_cons_self, by rw [e]; exact hg⟩, e, show c - (a + 4 * k) = (c - a) % 4 by omega]
        · rw [if_neg h2, if_neg]
          rintro ⟨p, q, r⟩
          rcases List.mem_cons.1 q with q | q
          · omega
          · exact h1 ⟨p, q, r⟩
      · rw [if_neg hg, if_neg]
        rintro ⟨p, q, r⟩
        rcases List.mem_cons.1 q with q | q
        · exact hg (q ▸ r)
        · exact h1 ⟨p, q, r⟩

theorem storeLanes_frame (s : State) (t a : Nat) (v : VReg) (g : PReg) (l : List Nat) :
    (∀ k, k ≠ t → til (storeLanes s t a v g l) k = til s k) ∧ (∀ h, h ≠ sheafOf t → shf (storeLanes s t a v g l) h = shf s h) ∧
    (∃ m l', til (storeLanes s t a v g l) t = { til s t with sram := m, bad := l' }) ∧
    (∃ m l', shf (storeLanes s t a v g l) (sheafOf t) = { shf s (sheafOf t) with store := m, bad := l' }) ∧
    (∃ m n, storeLanes s t a v g l = { s with til := m, shf := n }) := by
  induction l generalizing s with
  | nil => exact ⟨fun _ _ => rfl, fun _ _ => rfl, ⟨_, _, rfl⟩, ⟨_, _, rfl⟩, ⟨_, _, rfl⟩⟩
  | cons k l ih =>
    rw [storeLanes]
    split
    · obtain ⟨a1, a2, ⟨m1, l1, a3⟩, ⟨m2, l2, a4⟩, a5⟩ := ih (twrite s t (a + 4 * k) (toBytes 4 (laneN v k)))
      obtain ⟨b1, b2, ⟨m3, l3, b3⟩, ⟨m4, l4, b4⟩, b5⟩ := twrite_frame (s := s) (t := t) (a := a + 4 * k) (bs := toBytes 4 (laneN v k))
      refine ⟨fun j hj => (a1 j hj).trans (b1 j hj), fun h hh => (a2 h hh).trans (b2 h hh), ⟨m1, l1, by rw [a3, b3]⟩, ⟨m2, l2, by rw [a4, b4]⟩, ?_⟩
      obtain ⟨m5, n5, a5⟩ := a5
      obtain ⟨m6, n6, b5⟩ := b5
      exact ⟨m5, n5, by rw [a5, b5]⟩
    · exact ih s

theorem tread_advPc (s : State) (t c n : Nat) : tread (tupd s t advPc) t c n = tread s t c n := by
  simp only [tread, tupd, til_tput_self, shf_tput]; rfl

/-- Everything a vector store does. -/
theorem storeLanes_stored {s : State} {t a : Nat} {v : VReg} {g : PReg} (ha : (inLocal a 512 || inStore a 512) = true) :
    stored s (tupd (storeLanes s t a v g (List.range 128)) t advPc) t a (vstBytes s t a v g) (advPc (til s t)) := by
  have hl : ∀ k ∈ List.range 128, k < 128 := fun k hk => List.mem_range.1 hk
  have len4 : ∀ c, (tread s t c 4).length = 4 := by intro c; simp only [tread]; split <;> exact ngets_length _ _ _ _
  have hlen : (vstBytes s t a v g).length = 512 := by
    have : ∀ k, (if bbit g k then toBytes 4 (laneN v k) else tread s t (a + 4 * k) 4).length = 4 := by
      intro k; split
      · exact toBytes_length _ _
      · exact len4 _
    have key : ∀ (n : Nat) (f : Nat → List Byte), (∀ k, (f k).length = 4) → ((List.range n).flatMap f).length = 4 * n := by
      intro n f hf
      induction n with
      | zero => rfl
      | succ n ih => rw [List.range_succ, List.flatMap_append, List.length_append, ih]; simp [hf]; omega
    exact key 128 _ this
  obtain ⟨f1, f2, ⟨m1, l1, f3⟩, ⟨m2, l2, f4⟩, ⟨m3, n3, f5⟩⟩ := storeLanes_frame s t a v g (List.range 128)
  unfold stored
  rw [hlen]
  refine ⟨?_, fun c hc ho => ?_, fun k hk => ?_, fun h hh => ?_, ?_, ?_, ?_⟩
  · rw [tread_bytes ha]
    have hb : ∀ j, j < 512 → tread (tupd (storeLanes s t a v g (List.range 128)) t advPc) t (a + j) 1 =
        if bbit g (j / 4) then [byteOf (laneN v (j / 4)) (j % 4)] else tread s t (a + 4 * (j / 4) + j % 4) 1 := by
      intro j hj
      have hc : (inLocal (a + j) 1 || inStore (a + j) 1) = true := by
        simp only [inLocal, inStore, Bool.or_eq_true, Bool.and_eq_true, decide_eq_true_eq] at ha ⊢; omega
      rw [tread_advPc, storeLanes_byte ha hl hc, show a + j - a = j by omega, show a + 4 * (j / 4) + j % 4 = a + j by omega]
      by_cases hg : bbit g (j / 4) = true
      · rw [if_pos ⟨by omega, List.mem_range.2 (by omega), hg⟩, if_pos hg]
      · rw [if_neg (fun h => hg h.2.2), if_neg hg]
    have split : ∀ (n : Nat) (f : Nat → List Byte), (List.range (4 * n)).flatMap f =
        (List.range n).flatMap (fun k => (List.range 4).flatMap (fun i => f (4 * k + i))) := by
      intro n f
      induction n with
      | zero => rfl
      | succ n ih =>
        rw [show 4 * (n + 1) = 4 * n + 4 by omega, List.range_add, List.flatMap_append, ih, List.range_succ (n := n), List.flatMap_append]
        simp [List.flatMap_map]
    have cong : ∀ {n : Nat} {f g : Nat → List Byte}, (∀ j, j < n → f j = g j) → (List.range n).flatMap f = (List.range n).flatMap g := by
      intro n f g e
      rw [List.flatMap_def, List.flatMap_def, List.map_congr_left (fun j hj => e j (List.mem_range.1 hj))]
    rw [cong hb, show (512 : Nat) = 4 * 128 by rfl, split, vstBytes]
    apply cong
    intro k hk
    have : ∀ i, i < 4 → (4 * k + i) / 4 = k ∧ (4 * k + i) % 4 = i := fun i hi => by omega
    have h4 : (inLocal (a + 4 * k) 4 || inStore (a + 4 * k) 4) = true := by
      simp only [inLocal, inStore, Bool.or_eq_true, Bool.and_eq_true, decide_eq_true_eq] at ha ⊢; omega
    by_cases hg : bbit g k = true
    · rw [if_pos hg, toBytes_eq, List.map_eq_flatMap]
      apply cong
      intro i hi
      rw [(this i hi).1, (this i hi).2, if_pos hg]
    · rw [if_neg hg, tread_bytes h4]
      apply cong
      intro i hi
      rw [(this i hi).1, (this i hi).2, if_neg hg]
  · rw [tread_advPc, storeLanes_byte ha hl hc, if_neg]
    rintro ⟨p, q, -⟩
    have := List.mem_range.1 q
    omega
  · rw [tupd, til_tput_ne _ _ hk]; exact f1 k hk
  · rw [tupd, shf_tput]; exact f2 h hh
  · rw [tupd, til_tput_self, f3]; rfl
  · rw [tupd, shf_tput, f4]
  · rw [f5]; rfl

/-! ### Conversions (R137) -/

/-- Elements written one after another into a register: the values, then the flags. -/
theorem foldl_elems (P : Nat → Bool) (r : Nat → LaneRes) (pos : Nat → Nat) (w : Nat) (l : List Nat) (x fl : Nat) :
    l.foldl (fun (a : Nat × Nat) k => if P k then (setBits a.1 (pos k) w (r k).1, a.2 ||| (r k).2) else a) (x, fl) =
      (l.foldl (fun a k => if P k then setBits a (pos k) w (r k).1 else a) x, l.foldl (fun a k => if P k then a ||| (r k).2 else a) fl) := by
  induction l generalizing x fl with
  | nil => rfl
  | cons k l ih => simp only [List.foldl_cons]; split <;> rw [ih]

theorem foldl_elems_out {P : Nat → Bool} {r : Nat → LaneRes} {pos : Nat → Nat} {w lo n : Nat} {l : List Nat} {x : Nat}
    (h : ∀ k ∈ l, lo + n ≤ pos k ∨ pos k + w ≤ lo) :
    bits (l.foldl (fun a k => if P k then setBits a (pos k) w (r k).1 else a) x) lo n = bits x lo n := by
  induction l generalizing x with
  | nil => rfl
  | cons k l ih =>
    rw [List.foldl_cons, ih (fun j hj => h j (List.mem_cons_of_mem _ hj))]
    split
    · exact bits_setBits_ne _ _ _ _ _ _ (h k (List.mem_cons_self ..))
    · rfl

theorem foldl_elems_in {P : Nat → Bool} {r : Nat → LaneRes} {pos : Nat → Nat} {w : Nat} {l : List Nat} {x k : Nat} (hn : l.Nodup)
    (hd : ∀ i ∈ l, ∀ j ∈ l, i ≠ j → pos i + w ≤ pos j ∨ pos j + w ≤ pos i) (hk : k ∈ l) :
    bits (l.foldl (fun a k => if P k then setBits a (pos k) w (r k).1 else a) x) (pos k) w =
      if P k then (r k).1 % 2 ^ w else bits x (pos k) w := by
  induction l generalizing x with
  | nil => cases hk
  | cons j l ih =>
    rw [List.nodup_cons] at hn
    rw [List.foldl_cons]
    rcases List.mem_cons.1 hk with rfl | hk
    · rw [foldl_elems_out (fun i hi => hd k (List.mem_cons_self ..) i (List.mem_cons_of_mem _ hi) (fun e => hn.1 (e ▸ hi)))]
      split
      · exact bits_setBits_self _ _ _ _
      · rfl
    · rw [ih hn.2 (fun a ha b hb => hd a (List.mem_cons_of_mem _ ha) b (List.mem_cons_of_mem _ hb)) hk]
      have hne : k ≠ j := fun e => hn.1 (e ▸ hk)
      split
      · rfl
      · split
        · exact bits_setBits_ne _ _ _ _ _ _ (hd k (List.mem_cons_of_mem _ hk) j (List.mem_cons_self ..) hne)
        · rfl

theorem bits_mod {x lo w n : Nat} (h : lo + w ≤ n) : bits (x % 2 ^ n) lo w = bits x lo w := by
  refine Nat.eq_of_testBit_eq fun j => ?_
  rw [testBit_bits, testBit_bits, Nat.testBit_mod_two_pow]
  by_cases hj : j < w
  · simp [hj, show lo + j < n by omega]
  · simp [hj]

theorem cvtWidth_le (ty : Nat) : cvtWidth ty ≤ 4 ∧ (cvtWidth ty = 3 → False) := by
  unfold cvtWidth; split <;> decide

/-- Everything that a conversion does to its register: the element of an active lane holds the converted one, that of another lane
keeps its value, the bytes outside the written range are kept when HALF is 1 and the destination is not the wider type and are 0
else, and the active lanes raise their flags. -/
theorem vcvtReg_spec {st dt half : Nat} {sat : Bool} {g : PReg} {src old : VReg} (hh : half ≤ 1) :
    let sw := cvtWidth st
    let dw := cvtWidth dt
    let from_ (k : Nat) : Nat := if sw < dw ∨ (sw = 2 ∧ dw = 2) then 128 * half + k else k
    let put (k : Nat) : Nat := if sw < dw ∨ dw = 4 then k else 128 * half + k
    let res (k : Nat) : LaneRes := cvtElem st dt sat (bget src (8 * sw * from_ k) (8 * sw))
    let r := vcvtReg st dt sat half g src old
    r.2 = laneFlags g res ∧
    (∀ k, k < 128 → bget r.1 (8 * (dw * put k)) (8 * dw) = if bbit g k then (res k).1 % 2 ^ (8 * dw) else bget old (8 * (dw * put k)) (8 * dw)) ∧
    ∀ n, n < 512 → n < dw * put 0 ∨ dw * (put 0 + 128) ≤ n → bget r.1 (8 * n) 8 = if half = 1 ∧ ¬sw < dw then bget old (8 * n) 8 else 0 := by
  intro sw dw from_ put res r
  have hto : ∀ k, (if cvtWidth st < cvtWidth dt then k else if cvtWidth dt = 4 then k else 128 * half + k) = put k := by
    intro k
    show (if sw < dw then k else if dw = 4 then k else 128 * half + k) = put k
    simp only [put]
    by_cases a : sw < dw
    · rw [if_pos a, if_pos (.inl a)]
    · by_cases c : dw = 4
      · rw [if_neg a, if_pos c, if_pos (.inr c)]
      · rw [if_neg a, if_neg c, if_neg (by simp [a, c])]
  have hw := (cvtWidth_le dt).1
  have hr : r = (BitVec.ofNat 4096 ((List.range 128).foldl (fun a k => if bbit g k then setBits a (8 * (dw * put k)) (8 * dw) (res k).1 else a)
      (if (half = 1 ∧ ¬sw < dw) ∨ dw = 4 then old.toNat
        else setBits 0 (8 * dw * put 0) (8 * dw * 128) (bget old (8 * dw * put 0) (8 * dw * 128)))), laneFlags g res) := by
    unfold r vcvtReg putBytes
    dsimp only
    rw [foldl_elems (fun k => bbit g k)]
    simp only [hto]
    unfold laneFlags
    generalize List.range 128 = L
    rfl
  have hto0 : ∀ k, put k = put 0 + k := by
    intro k; simp only [put]; split <;> omega
  have hdw : dw ≤ 4 := hw
  have hmul : ∀ k, dw * put k = dw * put 0 + dw * k := fun k => by rw [hto0 k, Nat.mul_add]
  have hend : dw * put 0 + dw * 128 ≤ 512 := by
    have hv := (cvtWidth_le dt).2
    simp only [put]
    split
    · have : dw * 128 ≤ 4 * 128 := Nat.mul_le_mul_right _ hdw
      omega
    · rename_i hc
      have : dw ≤ 2 := by
        have h3 : dw ≠ 3 := fun e => hv e
        omega
      have a : dw * (128 * half + 0) ≤ 2 * 128 := Nat.mul_le_mul this (by omega)
      have b : dw * 128 ≤ 2 * 128 := Nat.mul_le_mul_right _ this
      omega
  have hlen : ∀ k, k < 128 → 8 * (dw * put k) + 8 * dw ≤ 4096 := by
    intro k hk
    have := Nat.mul_le_mul_left dw (show k + 1 ≤ 128 by omega)
    rw [Nat.mul_add, Nat.mul_one] at this
    rw [hmul]; omega
  have hsep : ∀ i ∈ List.range 128, ∀ j ∈ List.range 128, i ≠ j →
      8 * (dw * put i) + 8 * dw ≤ 8 * (dw * put j) ∨ 8 * (dw * put j) + 8 * dw ≤ 8 * (dw * put i) := by
    intro i _ j _ hij
    rw [hmul i, hmul j]
    rcases Nat.lt_or_gt_of_ne hij with h | h
    · have := Nat.mul_le_mul_left dw (show i + 1 ≤ j by omega)
      rw [Nat.mul_add, Nat.mul_one] at this; omega
    · have := Nat.mul_le_mul_left dw (show j + 1 ≤ i by omega)
      rw [Nat.mul_add, Nat.mul_one] at this; omega
  rw [hr]
  refine ⟨rfl, fun k hk => ?_, fun n hn ho => ?_⟩
  · rw [bget, BitVec.toNat_ofNat, bits_mod (hlen k hk), foldl_elems_in List.nodup_range hsep (List.mem_range.2 hk)]
    split
    · rfl
    · split
      · rfl
      · refine Nat.eq_of_testBit_eq fun j => ?_
        have hb := hlen k hk
        have he := hmul k
        have hkk := Nat.mul_le_mul_left dw (show k + 1 ≤ 128 by omega)
        rw [Nat.mul_add, Nat.mul_one] at hkk
        by_cases hj : j < 8 * dw
        · have e : 8 * (dw * put k) + j = 8 * dw * put 0 + (8 * (dw * k) + j) := by rw [he, Nat.mul_assoc]; omega
          have s := congrArg (fun v => v.testBit (8 * (dw * k) + j)) (bits_setBits_self 0 (8 * dw * put 0) (8 * dw * 128) (bget old (8 * dw * put 0) (8 * dw * 128)))
          have hlt : 8 * (dw * k) + j < 8 * dw * 128 := by rw [Nat.mul_assoc]; omega
          simp only [testBit_bits, hlt, decide_true, Bool.true_and, bget, Nat.testBit_mod_two_pow] at s
          simp only [bget, testBit_bits, e] at s ⊢
          rw [s]
        · simp only [bget, testBit_bits, hj, decide_false, Bool.false_and]
  · rw [bget, BitVec.toNat_ofNat, bits_mod (by omega), foldl_elems_out]
    · by_cases hq : half = 1 ∧ ¬sw < dw
      · rw [if_pos (.inl hq), if_pos hq]; rfl
      · rw [if_neg hq]
        by_cases h44 : dw = 4
        · exfalso
          have : put 0 = 0 := by simp [put, h44]
          rw [this, h44] at ho; omega
        · rw [if_neg (not_or.2 ⟨hq, h44⟩), bits_setBits_ne _ _ _ _ _ _ ?_]
          · simp [bits]
          · rw [Nat.mul_assoc, Nat.mul_assoc]
            rw [Nat.mul_add] at ho
            omega
    · intro k hk
      have hkk := Nat.mul_le_mul_left dw (show k + 1 ≤ 128 by have := List.mem_range.1 hk; omega)
      rw [Nat.mul_add, Nat.mul_one] at hkk
      rw [hmul k]
      rw [Nat.mul_add] at ho
      omega

end Sys2Proof.Machine
end

