-- ==== Sys2Proof/WellFormed.lean ====
section
/-!
DEFINITION. Well-formed commands: operands that arrive from outside keep the widths and lengths that the spec gives them.
-/

namespace Sys2Proof

/-- A number fits a field of `w` bits. -/
def fits (w n : Nat) : Bool := decide (n < 2 ^ w)

/-- Sensors: a value of 16 bits for each. -/
def GovSample.wf (g : GovSample) : Bool :=
  g.half.length == 2 && g.stack.length == 8 && g.flash.length == 2 && (g.half ++ g.stack ++ g.flash).all (fits 16)

/-- An outside access lies within one granule of 128 bytes of the stacks (R252). -/
def OAccess.wf (a : OAccess) : Bool :=
  fits 50 a.addr && decide (0 < a.len) && decide (a.addr % 128 + a.len ≤ 128) && a.data.all (fun d => d.length == a.len)

def RowAns.wf (a : RowAns) : Bool := fits 8 a.status && fits 16 a.peer && fits 32 a.version && decide (a.data.length ≤ 1024)

def MigMsg.wf (m : MigMsg) : Bool :=
  fits 16 m.peer && fits 10 m.table && fits 40 m.row && fits 8 m.kind && fits 32 m.version && decide (m.data.length ≤ 1024)

/-- Fields of the transport header (R438). -/
def Pkt.wf (p : Pkt) : Bool :=
  fits 4 p.typ && fits 3 p.cls && fits 6 p.tenant && fits 32 p.src && fits 32 p.psn && fits 32 p.msg && fits 32 p.key &&
  fits 32 p.seg && fits 32 p.total && fits 64 p.roff && fits 16 p.epoch && fits 10 p.comp && fits 32 p.arg

/-- An arriving frame: at most 9,216 bytes with its FCS, a DSCP of 6 bits. -/
def RxMeta.wf (m : RxMeta) : Bool := decide (m.bytes ≤ 9216) && fits 6 m.dscp && decide (m.fault ≤ 2)

/-- A packet that keeps R438 carries 0-4,096 bytes, a multiple of 64. -/
def Rx.wf (r : Rx) : Bool := r.m.wf && r.p.wf && (!r.ok || (r.p.data.length % 64 == 0 && decide (r.p.data.length ≤ 4096)))

def RxFrame.wf (r : RxFrame) : Bool := r.m.wf && r.p.wf && decide (r.frame.length ≤ 9212)

/-- Fields of the lattice header (R516). -/
def LPkt.wf (p : LPkt) : Bool :=
  fits 8 p.lop && fits 3 p.cls && fits 6 p.tenant && fits 32 p.src && fits 32 p.lsn && fits 16 p.lines && fits 32 p.tag &&
  fits 32 p.ctag && fits 8 p.status && fits 64 p.laddr && fits 16 p.epoch && fits 10 p.comp && fits 32 p.arg

def LRx.wf (r : LRx) : Bool := r.m.wf && r.p.wf && (!r.ok || (r.p.data.length % 64 == 0 && decide (r.p.data.length ≤ 4096)))

/-- Fields of a journal entry (R548). -/
def JEntry.wf (e : JEntry) : Bool :=
  fits 64 e.jsn && fits 8 e.typ && fits 16 e.count && fits 32 e.obj && fits 16 e.incarn && fits 32 e.arg && fits 320 e.data

/-- Fields of a twin frame (R545-R547). -/
def TwinFrame.wf (f : TwinFrame) : Bool :=
  fits 4 f.typ && fits 32 f.node && fits 64 f.jsn && fits 64 f.ack && fits 32 f.arg && fits 16 f.incarn &&
  decide (f.ents.length ≤ 128) && f.ents.all JEntry.wf && fits 8 f.role && fits 8 f.pair && fits 32 f.boot && fits 32 f.taken &&
  decide (f.line.length ≤ 64)

def Probe.wf (p : Probe) : Bool := fits 16 p.osc && decide (-32768 ≤ p.slack) && decide (p.slack < 32768)

/-- A link of 0-16 lanes and a speed code of HST_STAT; stacks and tillers by number. -/
def StartObs.wf (o : StartObs) : Bool :=
  decide (o.width ≤ 16) && decide (o.speed ≤ 6) && o.upStacks.all (fun k => decide (k < 8)) && o.tests.all (fun k => decide (k < 512))

/-- The operands of a command keep their ranges. -/
def Instr.wf : Instr → Bool
  | .registerWrite fn off _ => fits 26 off && (fn == 0 || fits 16 off)
  | .misalignedAccess _ off size => fits 26 off && decide (0 < size) && !(off % 8 == 0 && size == 8)
  | .rcFieldRead fn off => fits 26 off && (fn == 0 || fits 16 off)
  | .islClkCtl _ _ => true
  | .clockChangeDone _ => true
  | .crossingDeliver _ => true
  | .crossing _ _ _ => true
  | .governorSample g => g.wf
  | .powerBrake => true
  | .thermalTrip _ => true
  | .railFault _ => true
  | .addI64 _ _ => true
  | .subI64 _ _ => true
  | .andI64 _ _ => true
  | .orI64 _ _ => true
  | .xorI64 _ _ => true
  | .shlI64 _ _ => true
  | .shrI64 _ _ => true
  | .sarI64 _ _ => true
  | .mulI64 _ _ => true
  | .mulhuI64 _ _ => true
  | .divuI64 _ _ => true
  | .remuI64 _ _ => true
  | .minI64 _ _ => true
  | .maxI64 _ _ => true
  | .minuI64 _ _ => true
  | .maxuI64 _ _ => true
  | .clzI64 _ _ => true
  | .popcI64 _ _ => true
  | .selI64 _ _ => true
  | .cmpEq _ _ => true
  | .cmpNe _ _ => true
  | .cmpLt _ _ => true
  | .cmpLtu _ _ => true
  | .cmpGe _ _ => true
  | .cmpGeu _ _ => true
  | .addiI64 _ _ => true
  | .andiI64 _ _ => true
  | .oriI64 _ _ => true
  | .xoriI64 _ _ => true
  | .shliI64 _ _ => true
  | .shriI64 _ _ => true
  | .sariI64 _ _ => true
  | .ldiI64 _ _ => true
  | .ldihI64 _ _ => true
  | .cmpiEq _ _ => true
  | .cmpiLt _ _ => true
  | .cmpiGe _ _ => true
  | .ldU8 _ _ => true
  | .ldU16 _ _ => true
  | .ldU32 _ _ => true
  | .ld64 _ _ => true
  | .st8 _ _ => true
  | .st16 _ _ => true
  | .st32 _ _ => true
  | .st64 _ _ => true
  | .amoAdd _ _ => true
  | .amoSwap _ _ => true
  | .amoCas _ _ => true
  | .loadDataReturn _ _ => true
  | .brEq _ _ => true
  | .brNe _ _ => true
  | .brLt _ _ => true
  | .brGe _ _ => true
  | .brLtu _ _ => true
  | .brGeu _ _ => true
  | .brP _ _ => true
  | .jmp _ _ => true
  | .jal _ _ => true
  | .jr _ _ => true
  | .codeEndReached _ => true
  | .pAnd _ _ => true
  | .pOr _ _ => true
  | .pXor _ _ => true
  | .pNot _ _ => true
  | .pMask _ _ => true
  | .pCnt _ _ => true
  | .vadd _ _ => true
  | .vsub _ _ => true
  | .vmul _ _ => true
  | .vfma _ _ => true
  | .vmax _ _ => true
  | .vmin _ _ => true
  | .vabs _ _ => true
  | .vneg _ _ => true
  | .vand _ _ => true
  | .vor _ _ => true
  | .vxor _ _ => true
  | .vshl _ _ => true
  | .vshr _ _ => true
  | .vsel _ _ => true
  | .vbcast _ _ => true
  | .vlane _ _ => true
  | .vperm _ _ => true
  | .viota _ _ => true
  | .vcmpEq _ _ => true
  | .vcmpLt _ _ => true
  | .vcmpLe _ _ => true
  | .vcvt _ _ => true
  | .vexp _ _ => true
  | .vln _ _ => true
  | .vrcp _ _ => true
  | .vrsum _ _ => true
  | .vrmax _ _ => true
  | .vrng _ _ => true
  | .vqmx _ _ => true
  | .vkv4e _ _ => true
  | .vkv4d _ _ => true
  | .vldacc _ _ => true
  | .vld _ _ => true
  | .vst _ _ => true
  | .vldB32 _ _ => true
  | .mmaTile _ _ => true
  | .arrayComplete _ _ => true
  | .accClr _ _ => true
  | .accLd _ _ => true
  | .accSt _ _ => true
  | .movCpy _ _ => true
  | .movFill _ _ => true
  | .moveComplete _ => true
  | .ctxRd _ _ => true
  | .ctxStep _ _ => true
  | .ctxBind _ _ => true
  | .ctxEmit _ _ => true
  | .ctxSpan _ _ => true
  | .copyOnWriteDone _ => true
  | .ctxHold _ _ => true
  | .contextAnswer _ _ => true
  | .bnkStroke _ _ => true
  | .fabPut _ _ => true
  | .fabPutf _ _ => true
  | .fabGet _ _ => true
  | .fabSend _ _ => true
  | .rowGet _ _ => true
  | .rowUpd _ _ => true
  | .syncFence _ _ => true
  | .syncReg _ _ => true
  | .syncArr _ _ => true
  | .syncMov _ _ => true
  | .syncBar _ _ => true
  | .wiPush _ _ => true
  | .pushStallDone _ => true
  | .wiEnd _ _ => true
  | .nop _ _ => true
  | .sysId _ _ => true
  | .sysTrap _ _ => true
  | .exceptionDelivery _ => true
  | .itemTimeout _ => true
  | .itemDispatch _ => true
  | .dispatchHeldPlace _ => true
  | .itemTake _ => true
  | .steal _ => true
  | .itemStart _ => true
  | .imageLoad _ => true
  | .strokeCommandCheck _ => true
  | .strokeQueueEntry _ => true
  | .strokeStart _ => true
  | .strokeEnd _ => true
  | .rowStepEnd _ _ => true
  | .outsideAccess a => a.wf
  | .refreshDue _ => true
  | .refreshEnd _ => true
  | .attentionRequest slot => fits 14 slot
  | .attentionItemsEnd slot => fits 14 slot
  | .stepFormation _ _ => true
  | .commitPoint _ _ => true
  | .preempt _ => true
  | .resume _ => true
  | .swapOut _ => true
  | .swapIn _ => true
  | .release _ => true
  | .schPartCtl _ _ => true
  | .schRatio _ _ => true
  | .prefillToReady _ => true
  | .promptPartDone _ => true
  | .contextClose _ => true
  | .contextRelease _ => true
  | .attachmentEnd _ => true
  | .publicationEnd _ => true
  | .pfxInval _ _ => true
  | .invalidationEnd _ => true
  | .ctxPeekSel _ _ => true
  | .swapOutDone _ => true
  | .swapInDone _ => true
  | .frameMoveDone _ => true
  | .alloc => true
  | .freeObj => true
  | .moveObj => true
  | .gather => true
  | .transfer => true
  | .reclaim _ => true
  | .slowTierReclaim _ => true
  | .tieWinCtl _ _ => true
  | .windowFillDone _ => true
  | .rowRequestGet _ => true
  | .rowRequestUpd _ => true
  | .rowAnswer _ a => a.wf
  | .rowResend _ => true
  | .applyTimer _ => true
  | .rowCreate => true
  | .rowDestroy => true
  | .rowMigrate => true
  | .rowResetHistory => true
  | .migrationRowReceive m => m.wf
  | .migrationReplay m => m.wf
  | .migrationSwitch _ => true
  | .migrationHomeUpdate m => m.wf
  | .migrationActivation m => m.wf
  | .migrationAbort _ _ => true
  | .flashMountDone _ => true
  | .journalPageProgram _ => true
  | .checkpointTimer _ => true
  | .unitReadDone _ _ _ _ => true
  | .unitProgramDone _ _ => true
  | .blockEraseDone _ _ => true
  | .targetTimeout _ _ => true
  | .flashReclaim _ => true
  | .blockRefresh _ => true
  | .patrol _ _ _ _ => true
  | .flsCheckpoint => true
  | .flsPatrol => true
  | .flsRetire => true
  | .flsFormat => true
  | .flsShutdown => true
  | .flsHlogSnap _ => true
  | .put r => r.wf
  | .getReq r => r.wf
  | .getResp r => r.wf
  | .send r => r.wf
  | .ack r => r.wf
  | .nack r => r.wf
  | .doneMsg r => r.wf
  | .abortMsg r => r.wf
  | .probe r => r.wf
  | .probeReply r => r.wf
  | .frameReceive f => f.wf
  | .importDone => true
  | .cancelMessage => true
  | .report => true
  | .hiddenDone => true
  | .importKeyed => true
  | .ackTimer peer => fits 16 peer
  | .reorderTimer peer psn => fits 16 peer && fits 32 psn
  | .retransmitTimeout peer psn => fits 16 peer && fits 32 psn
  | .rnrRetry peer psn => fits 16 peer && fits 32 psn
  | .getTimeout _ => true
  | .doneHoldEnd _ => true
  | .messageIdle _ => true
  | .probeTimer peer => fits 16 peer
  | .pathHoldEnd peer _ => fits 16 peer
  | .rateUpdate peer => fits 16 peer
  | .peerEnable peer => fits 16 peer
  | .fabRegister => true
  | .fabRevoke => true
  | .revokeEnd _ => true
  | .fabTimeAdj _ => true
  | .limiterRelease peer => fits 16 peer
  | .wheelSlot => true
  | .frameStart _ => true
  | .linkDown _ => true
  | .linkUp _ => true
  | .ringPoll => true
  | .latDoorbell _ => true
  | .latticeLoad r => r.wf
  | .latticeStore r => r.wf
  | .add64 r => r.wf
  | .swap64 r => r.wf
  | .cas64 r => r.wf
  | .latticeResp r => r.wf
  | .lack r => r.wf
  | .lprobe r => r.wf
  | .lprobeReply r => r.wf
  | .lprobeTimer _ => true
  | .latticeTimeout _ => true
  | .dedupExpiry _ => true
  | .latWinCtl _ _ => true
  | .windowUnpin _ => true
  | .apertureRead off len => fits 36 off && decide (0 < len)
  | .apertureWrite off data => fits 36 off && !data.isEmpty
  | .apertureTimeout _ => true
  | .cmpOpen => true
  | .cmpStage => true
  | .cmpCommit => true
  | .cmpRetire => true
  | .cmpClose => true
  | .compositionClosed _ => true
  | .epochRetire _ => true
  | .cmpMtrSnap _ => true
  | .meterTick => true
  | .hello _ f => f.f.wf
  | .helloTimer _ => true
  | .journal _ f => f.f.wf
  | .jack _ f => f.f.wf
  | .jackTimer _ => true
  | .journalResend _ => true
  | .twinLinkLoss _ => true
  | .fetch _ f => f.f.wf
  | .fetchData _ f => f.f.wf
  | .fetchTimeout _ => true
  | .voteReq _ f => f.f.wf
  | .vote _ f => f.f.wf
  | .voteRetry _ => true
  | .voteTimeout _ => true
  | .giveup _ f => f.f.wf
  | .d2dLoss => true
  | .d2dReturn => true
  | .fenceHoldEnd _ => true
  | .twnTakeover => true
  | .twnResync => true
  | .poisonTest frame fails _ => fits 24 frame && fails.all (fits 10)
  | .rowRepair _ _ _ => true
  | .intSeal => true
  | .intAudit => true
  | .intTest => true
  | .intScrub => true
  | .intLogBase _ => true
  | .testIdle _ => true
  | .testSegmentEnd _ _ => true
  | .scrubTimer => true
  | .ageSample rs => rs.all Probe.wf
  | .agePlan => true
  | .planApply _ => true
  | .powerOnReset => true
  | .deviceReset _ => true
  | .halfReset _ => true
  | .hostPortReset => true
  | .glbReset _ => true
  | .resetRelease => true
  | .startStep o => o.wf
  | .discoveryFrame => true
  | .announce => true
  | .registered node boot => fits 32 node && fits 32 boot
  | .backoff => true
  | .heartbeat => true
  | .openCtx _ => true
  | .openExt _ => true
  | .append _ => true
  | .modify _ => true
  | .cancel _ => true
  | .readLog _ => true
  | .requestDoorbell _ _ _ => true
  | .completionHeadDoorbell _ _ _ => true
  | .rxTailDoorbell _ _ => true
  | .txTailDoorbell _ _ => true
  | .transmitFrameDone _ => true
  | .spillDrain _ => true
  | .coalesceTimer _ => true
  | .ringCtl k n _ => (match k with | .req => true | .cpl => true | .rx => decide (n.val < 64) | .tx => decide (n.val < 64))
  | .flr _ => true
  | .atsInvalidation iova len => fits 64 iova && fits 64 len
  | .setEndpointId _ => true
  | .getEndpointId => true
  | .getMctpVersionSupport => true
  | .getMessageTypeSupport => true
  | .getIdentity => true
  | .getHealth => true
  | .getThermal => true
  | .getPower => true
  | .setPowerLimit watts => fits 16 watts
  | .mctpReset _ => true
  | .readReg off => fits 32 off
  | .secQuote _ => true
  | .zeroise => true
  | .eraseMedia => true
  | .debugUnlock => true
  | .bypass _ => true
  | .idcode => true
  | .samplePreload => true
  | .extest _ => true
  | .illegalInstruction _ _ => true
  | .gateEntry _ => true
  | .powerBrakeRelease => true
  | .quoteDone => true
  | .meterSnapshotDone => true
  | .auditEnd => true
  | .configurationRequest => true

end Sys2Proof
end

