-- ==== Sys2Proof/Tests/Slice0.lean ====
section
/-!
SUPPORT. Smoke tests of the well-formedness checks, and for every statement with hypotheses a concrete state and operands
that meet them.
-/

set_option Elab.async false

namespace Sys2Proof.Tests

open Sys2Proof Sys2Proof.Machine

/-! EmptyQueueLetsTimePass -/

theorem witness_EmptyQueueLetsTimePass : State.reset.pending = [] := by decide

/-! ReservedBitsStayZero -/

theorem witness_ReservedBitsStayZero : ∃ u, step State.reset = .next u := ⟨_, rfl⟩

/-! MemoriesStayCanonical -/

theorem witness_MemoriesStayCanonical : nwf memDefault State.reset.mem = true ∧ nwf regDefault State.reset.regs = true ∧
    ∃ u, step State.reset = .next u := ⟨by decide, by decide, _, rfl⟩

/-! FusesAndBootImagesArePermanent -/

theorem witness_FusesAndBootImagesArePermanent : ∃ u, step State.reset = .next u := ⟨_, rfl⟩

/-! EveryCommandChangesOnlyItsWriteSet -/

theorem witness_EveryCommandChangesOnlyItsWriteSet : ∃ u, exec .powerBrake State.reset = .next u := ⟨_, rfl⟩

/-! ScalarArithmeticResults -/

/-- An image with 800 bytes of code. -/
def img : Img := { codeLen := 800 }

/-- A tiller that runs an item at the first instruction of that image. -/
def runs : Tiller := { item := some { bits := 0 }, img := some img, pc := 64 }

/-- The device with tiller 0 as `runs`. -/
def active : State := tput State.reset 0 runs

theorem witness_ScalarArithmeticResults : issues (til active 0) 0 ∧ fRlow 0 = 0 ∧ fPD 0 = 0 ∧ fRB 0 = 0 ∧
    freeS (til active 0) [fRD 0, fRA 0, fRB 0] = true ∧ freeP (til active 0) [fPD 0] = true := by
  unfold issues
  decide

/-! ScalarImmediateResults -/

theorem witness_ScalarImmediateResults : issues (til active 0) 5 ∧ fRB 5 = 0 ∧ fPD 5 = 0 ∧ fI32 5 = 0 ∧ fIMM 5 < 64 ∧ fRA 5 = 0 ∧
    freeS (til active 0) [fRD 5, fRA 5] = true := by
  unfold issues
  decide

/-! ComparesAndPredicateLogic -/

theorem witness_ComparesAndPredicateLogic : issues (til active 0) 0 ∧ freeS (til active 0) [fRD 0, fRA 0, fRB 0] = true ∧
    freeP (til active 0) [fPD 0, fRA 0, fRB 0] = true ∧ fRD 0 = 0 ∧ fRlow 0 = 0 ∧ fRA 0 < 8 ∧ fRB 0 = 0 ∧ fI32 0 = 0 ∧ fIMM 0 = 0 ∧
    fPD 0 = 0 := by
  unfold issues
  decide

/-! LoadsIssueAndDeliver -/

theorem witness_LoadsIssueAndDeliver : issues (til active 0) 0 ∧ fRB 0 = 0 ∧ fPD 0 = 0 ∧ fI32 0 = 0 ∧
    freeS (til active 0) [fRD 0, fRA 0] = true ∧ sramWait (til active 0).pend 0 8 false = false ∧
    ((sreg (til active 0) (fRA 0) + fIMMs 0).toNat = 0 ∧ (inLocal 0 8 || inStore 0 8) = true) := by
  unfold issues
  decide

theorem witness_LoadsDeliver : pendOp (pended runs 0x033 0 (.load 3 8 0)) 0 = some (.load 3 8 0) ∧
    tparity (tput State.reset 0 (pended runs 0x033 0 (.load 3 8 0))) 0 0 8 = false := by decide

/-! StoresWriteTheirBytes -/

theorem witness_StoresWriteTheirBytes : issues (til active 0) 2048 ∧ fRB 2048 = 0 ∧ fPD 2048 = 0 ∧ fI32 2048 = 0 ∧
    freeS (til active 0) [fRD 2048, fRA 2048] = true ∧ (sreg (til active 0) (fRA 2048) + fIMMs 2048).toNat = 2048 ∧
    (inLocal 2048 8 || inStore 2048 8) = true ∧ imageEnd (til active 0) ≤ 2048 ∧
    sramWait (til active 0).pend 2048 8 true = false := by
  unfold issues
  decide

/-! AtomicsExchangeAWord -/

/-- Tiller 0 with s1 at the start of the sheaf store. -/
def atStore : State := tput State.reset 0 (sset runs 1 0x1000000)

theorem witness_AtomicsExchangeAWord : issues (til atStore 0) (BitVec.ofNat 54 (2 ^ 41)) ∧ fPD (BitVec.ofNat 54 (2 ^ 41)) = 0 ∧
    fI32 (BitVec.ofNat 54 (2 ^ 41)) = 0 ∧
    freeS (til atStore 0) [fRD (BitVec.ofNat 54 (2 ^ 41)), fRA (BitVec.ofNat 54 (2 ^ 41)), fRB (BitVec.ofNat 54 (2 ^ 41))] = true ∧
    (sreg (til atStore 0) (fRA (BitVec.ofNat 54 (2 ^ 41))) + fIMMs (BitVec.ofNat 54 (2 ^ 41))).toNat = 0x1000000 ∧
    inStore 0x1000000 8 = true ∧ tparity atStore 0 0x1000000 8 = false := by
  unfold issues
  decide

/-! BadScalarAddressesRaiseAddress -/

theorem witness_BadScalarAddressesRaiseAddress : issues (til active 0) 1 ∧ fPD 1 = 0 ∧ fI32 1 = 0 ∧ fRB 1 = 0 ∧
    freeS (til active 0) [fRD 1, fRA 1, fRB 1] = true ∧ (sreg (til active 0) (fRA 1) + fIMMs 1).toNat = 1 ∧
    1 < imageEnd (til active 0) ∧ inLocal 1 1 = true ∧ inLocal 1 8 = true ∧ inStore 1 8 = false ∧
    sramWait (til active 0).pend 1 8 true = false := by
  unfold issues
  decide

/-! BranchesGoToTheirTarget -/

theorem witness_BranchesGoToTheirTarget : issues (til active 0) 1 ∧ fBres 1 = 0 ∧ freeS (til active 0) [fBRA 1, fBRB 1] = true ∧
    freeP (til active 0) [fBPS 1] = true ∧ fBPS 1 = 0 ∧ fBRA 1 = 0 ∧ fBRB 1 = 0 ∧
    inCode (til active 0) ((til active 0).pc + BitVec.ofInt 64 (8 * (BitVec.ofNat 32 (fOFF 1)).toInt)).toNat = true := by
  unfold issues
  decide

theorem witness_JrGoesToS1 : issues (til (tput State.reset 0 (sset runs 1 72)) 0) (BitVec.ofNat 54 (2 ^ 46)) ∧
    fBRA (BitVec.ofNat 54 (2 ^ 46)) = 1 ∧ fOFF (BitVec.ofNat 54 (2 ^ 46)) = 0 ∧
    inCode (sset runs 1 72) (sreg (sset runs 1 72) 1).toNat = true := by
  unfold issues
  decide

/-! BadBranchTargetsRaiseAddress -/

theorem witness_BadBranchTargetsRaiseAddress : issues (til active 0) 0xFFFFFFFF ∧ fBres 0xFFFFFFFF = 0 ∧
    (til active 0).img = some img ∧ freeS (til active 0) [fBRA 0xFFFFFFFF, fBRB 0xFFFFFFFF] = true ∧
    freeP (til active 0) [fBPS 0xFFFFFFFF] = true ∧ fBPS 0xFFFFFFFF = 0 ∧ fBRA 0xFFFFFFFF = 0 ∧ fBRB 0xFFFFFFFF = 0 ∧
    ((til active 0).pc + BitVec.ofInt 64 (8 * (BitVec.ofNat 32 (fOFF 0xFFFFFFFF)).toInt)).toNat = 56 ∧
    (sreg (til active 0) (fBRA 0)).toNat < 64 ∧ fOFF 0 = 0 ∧ issues (til active 0) 0 := by
  unfold issues
  decide

/-! SystemInstructionsComplete -/

theorem witness_SystemInstructionsComplete : issues (til active 0) 0 ∧ bget (0 : BitVec 54) 0 51 = 0 ∧ fXRD 0 = 0 ∧ fXRA 0 = 0 ∧
    fXRB 0 = 0 ∧ fXRC 0 = 0 ∧ fXPD 0 = 0 ∧ fXIMM 0 = 0 ∧ fXIMM 3 = 3 ∧ awaitS (til active 0) (fXRA 0) = false ∧
    (til active 0).pend = [] := by
  unfold issues
  decide

/-! BarriersPushesAndItemEnd -/

theorem witness_BarriersPushesAndItemEnd : issues (til active 0) 0 ∧ fXRD 0 = 0 ∧ fXRB 0 = 0 ∧ fXRC 0 = 0 ∧ fXPD 0 = 0 ∧
    fXIMM 0 = 0 ∧ freeS (til active 0) [fXRA 0, fXRB 0] = true ∧ itScope (BitVec.ofNat 128 0) ≠ 3 ∧ itRes (BitVec.ofNat 128 0) = 0 ∧
    (til active 0).pend = [] ∧ (til active 0).item = some { bits := 0 } ∧ (til active 0).deque = [] ∧ islState active 0 ≠ 3 := by
  unfold issues
  decide +kernel

/-- SYNC.BAR with s1 = 3, s2 = 2. -/
def barWord : BitVec 54 := BitVec.ofNat 54 (2 ^ 41 + 2 ^ 37)

/-- A tiller with s1 = 3 and s2 = 2. -/
def atBarrier : Tiller := sset (sset runs 1 3) 2 2

theorem witness_FirstArrival : issues (til (tput State.reset 0 atBarrier) 0) barWord ∧ fXRD barWord = 0 ∧ fXRC barWord = 0 ∧
    fXPD barWord = 0 ∧ fXIMM barWord = 0 ∧ freeS (til (tput State.reset 0 atBarrier) 0) [fXRA barWord, fXRB barWord] = true ∧
    sreg (til (tput State.reset 0 atBarrier) 0) (fXRA barWord) = 3 ∧ sreg (til (tput State.reset 0 atBarrier) 0) (fXRB barWord) = 2 ∧
    (nget (fun _ => {}) (shf (tput State.reset 0 atBarrier) 0).bars 3).arrived = [] := by
  unfold issues
  decide +kernel

/-- A sheaf of whose tillers number 5 waits at barrier 3 for a second one. -/
def oneWaits : State := shput (tput (tput State.reset 0 atBarrier) 5 { atBar := some 3 }) 0 { bars := [(3, { need := 2, arrived := [5] })] }

theorem witness_LastArrival : issues (til oneWaits 0) barWord ∧ (nget (fun _ => {}) (shf oneWaits 0).bars 3).arrived = [5] ∧
    (nget (fun _ => {}) (shf oneWaits 0).bars 3).need = 2 ∧ (til oneWaits 5).atBar = some 3 := by
  unfold issues
  decide +kernel

theorem witness_StalledPush : (til (tput State.reset 0 { pushing := some { bits := 7 } }) 0).pushing = some { bits := 7 } ∧
    (til (tput State.reset 0 { pushing := some { bits := 7 } }) 0).deque = [] ∧
    islState (tput State.reset 0 { pushing := some { bits := 7 } }) 0 ≠ 3 := by decide +kernel

/-- A tiller whose deque is full. -/
def crowded : Tiller := { runs with deque := List.replicate 64 { bits := 1 } }

/-- A tiller and a sheaf without room for another item. -/
def full : State := shput (tput State.reset 0 crowded) 0 { ovf := List.replicate 1024 { bits := 1 } }

theorem full_til : til full 0 = crowded := by rw [full, til_shput]; exact til_tput_self _ _ _

theorem full_shf : (shf full 0).ovf = List.replicate 1024 { bits := 1 } := by rw [full, shf_shput_self]

theorem witness_PushStalls : (til full 0).deque.length = 64 ∧ (shf full 0).ovf.length = 1024 ∧ issues (til full 0) 0 := by
  rw [full_shf, full_til]
  refine ⟨List.length_replicate, List.length_replicate, ?_⟩
  unfold issues
  decide

/-! ExceptionsAreRecordedAndDelivered -/

theorem witness_ExceptionsAreRecordedAndDelivered : issues (til active 0) 5 ∧ fXRD 5 = 0 ∧ fXRA 5 = 0 ∧ fXRB 5 = 0 ∧ fXRC 5 = 0 ∧
    fXPD 5 = 0 ∧ fXIMM 5 < 65536 ∧ listedOp (bget (0 : Word) 54 10) = false ∧ canIssue (til active 0) = true := by
  unfold issues
  decide

theorem witness_CodeEnd : (til (tput State.reset 0 { runs with pc := 864 }) 0).img = some img ∧ 64 + img.codeLen ≤ 864 ∧
    (til (tput State.reset 0 { runs with pc := 864 }) 0).item.isSome = true := by decide

/-- The item of tiller 0 has run for 3 T-cycles, and the limit is 2. -/
def late : State := tput (rput State.reset .SCH_ITEM_LIMIT 0 2) 0 { runs with cyc := 3000 }

theorem witness_Timeout : (til late 0).item.isSome = true ∧ (til late 0).late = false ∧ (til late 0).exc = none ∧ fget late F.SCH_ITEM_LIMIT_LIMIT 0 = 2 ∧
    2 * 1000 ≤ tcyc late 0 - (til late 0).itemCyc := by
  have e : til late 0 = { runs with cyc := 3000 } := til_tput_self _ _ _
  refine ⟨by rw [e]; rfl, by rw [e]; rfl, by rw [e]; rfl, rfl, ?_⟩
  rw [tcyc, e]
  generalize islFreq late 0 = f
  generalize late.now = n
  simp only [runs]
  omega

theorem witness_Delivery : (til (tput State.reset 0 { runs with exc := some { code := 1, pc := 64 } }) 0).exc = some { code := 1, pc := 64 } ∧
    (til (tput State.reset 0 { runs with exc := some { code := 1, pc := 64 } }) 0).pend = [] ∧ runs.pushing = none ∧ runs.atBar = none := by decide

/-! ItemsArePlacedTakenAndStolen -/

/-- Sheaf 0 with an item to place, and tiller 3 with one to take or to be stolen from. -/
def work : State := shput (tput State.reset 3 { deque := [{ bits := 5 }], search := 3 }) 0 { inbox := [{ bits := 7 }] }

theorem witness_ItemDispatch : (shf work 0).inbox = [{ bits := 7 }] ∧ (shf work 0).held = [] ∧ 3 ∈ sheafTillers 0 ∧
    running work 3 = true ∧ (til work 3).deque.length < 64 := by decide +kernel

theorem witness_ItemTake : looking work 3 = true ∧ (til work 3).deque.any (mayRun work 3) = true ∧ imageHeld work 3 { bits := 5 } = true := by
  decide +kernel

theorem witness_Steal : looking (tput work 1 { search := 3 }) 1 = true ∧ (til (tput work 1 { search := 3 }) 1).search = 3 ∧
    victims (rput (tput work 1 { search := 3 }) .TIL_CTL 3 0xFFFF) 1 0 = [3] := by decide +kernel

theorem witness_HeldItems : (shf (shput State.reset 0 { inbox := [{ bits := 7 }], held := [{ bits := 6 }] }) 0).held = [{ bits := 6 }] ∧
    (shf (shput State.reset 0 { inbox := [{ bits := 7 }], held := [{ bits := 6 }] }) 0).inbox = [{ bits := 7 }] := by decide +kernel

/-! ItemsStartWithTheirBitsInS1AndS2 -/

theorem witness_ItemsStart : (til (tput State.reset 0 { taken := some { bits := 7 } }) 0).taken = some { bits := 7 } ∧
    running (tput State.reset 0 { taken := some { bits := 7 } }) 0 = true ∧
    mayRun (tput State.reset 0 { taken := some { bits := 7 } }) 0 { bits := 7 } = true ∧
    imageHeld (tput State.reset 0 { taken := some { bits := 7 } }) 0 { bits := 7 } = true := by decide +kernel

/-- Memory with a good image header at stack address 0, and tiller 0 loading it. -/
def loads : State := tput (memWrite State.reset 0 ((toBytes 4 0x43524953) ++ toBytes 4 1 ++ toBytes 4 8)) 0 { loading := some (0, 0) }

theorem witness_ImageLoads : (til loads 0).loading = some (0, 0) ∧ memNat loads 8 4 = 8 ∧ memNat loads 12 4 = 0 ∧
    badLineIn loads 0 (min (roundUp (64 + 8 + 0) 64) 262144) = none ∧ headerOk loads 0 = true := by decide +kernel

/-! VectorLanesHoldTheirResults -/

/-- A vector word of a type. -/
def vword (ty : Nat) : BitVec 54 := BitVec.ofNat 54 (ty * 2 ^ 24)

theorem witness_VectorLanesHoldTheirResults (ty : Fin 10) : vissues (til active 0) (vword ty) ∧ fVres (vword ty) = 0 ∧ fTYPE (vword ty) = ty ∧
    fVA (vword ty) = 0 ∧ fVB (vword ty) = 0 ∧ fVC (vword ty) = 0 ∧ fVPD (vword ty) = 0 ∧ fVRS (vword ty) = 0 ∧ fVIMM (vword ty) = 0 ∧
    freeV (til active 0) [fVD (vword ty), fVA (vword ty), fVB (vword ty), fVC (vword ty)] = true ∧
    freeS (til active 0) [fVRS (vword ty)] = true ∧ freeP (til active 0) [fVPD (vword ty)] = true := by
  unfold vissues
  revert ty
  decide

/-! VectorFunctionsAndReductions -/

theorem witness_VectorFunctionsAndReductions (ty : Fin 10) : vissues (til active 0) (vword ty) ∧ fVres (vword ty) = 0 ∧ fVD (vword ty) = 0 ∧
    freeV (til active 0) [fVD (vword ty), fVA (vword ty), fVB (vword ty)] = true ∧
    freeS (til active 0) [fVRS (vword ty), fVRS (vword ty) + 1] = true ∧ freeP (til active 0) [fVPD (vword ty)] = true ∧
    kv4Legal (fVIMM (vword ty)) = true ∧ awaitAcc (til active 0) 0 = false ∧ preg (til active 0) (guardOf (vword ty)) ≠ 0 ∧
    cvtWidth (fVIMM (vword ty) % 16) = 4 ∧ fVIMM (vword ty) / 32 % 2 = 0 := by
  unfold vissues
  revert ty
  decide

/-! VectorMemory -/

/-- Word of a vector memory instruction with RS = 0 and IMM = 32. -/
def vmemWord : BitVec 54 := BitVec.ofNat 54 32

theorem witness_VectorMemory : vissues (til active 0) vmemWord ∧ fTYPE vmemWord = 0 ∧ fVres vmemWord = 0 ∧ fVD vmemWord = 0 ∧
    fVA vmemWord = 0 ∧ fVB vmemWord = 0 ∧ fVC vmemWord = 0 ∧ fVPD vmemWord = 0 ∧ freeV (til active 0) [fVD vmemWord, fVA vmemWord] = true ∧
    freeS (til active 0) [fVRS vmemWord] = true ∧ preg (til active 0) (guardOf vmemWord) ≠ 0 ∧
    (sreg (til active 0) (fVRS vmemWord) + BitVec.ofInt 64 (64 * sext 16 (fVIMM vmemWord))).toNat = 2048 ∧
    (inLocal 2048 512 || inStore 2048 512) = true ∧ imageEnd (til active 0) ≤ 2048 ∧ sramWait (til active 0).pend 2048 512 true = false ∧
    (sreg (til active 0) (fVRS vmemWord) + BitVec.ofInt 64 (4 * sext 16 (fVIMM vmemWord))).toNat = 128 := by
  unfold vissues
  decide

theorem witness_VectorLoadsDeliver : pendOp (pended runs 0x0C1 0 (.vload 3 5 64)) 0 = some (.vload 3 5 64) ∧
    pendOp (pended runs 0x0C3 0 (.vword 3 5 64)) 0 = some (.vword 3 5 64) ∧ tparity active 0 64 4 = false ∧
    (∀ k : Fin 128, tparity active 0 (64 + 4 * k) 4 = false) := by decide

/-! ArrayInstructionsAccumulateBlocks -/

/-- Word of MMA.TILE with TA = TB = E4M3 and NB = 1, s1 the address of both operands. -/
def mmaWord : BitVec 54 := BitVec.ofNat 54 (3 * 2 ^ 30 + 3 * 2 ^ 26)

theorem witness_ArrayIssue : issues (til active 0) mmaWord ∧ pairOk (fTA mmaWord) (fTB mmaWord) = true ∧ fAres mmaWord = 0 ∧ fARS mmaWord = 0 ∧
    isMx (fTA mmaWord) = false ∧ freeS (til active 0) [fARA mmaWord, fARB mmaWord, fARS mmaWord] = true ∧
    accBusy (til active 0) (fACC mmaWord) = false ∧ (sreg (til active 0) (fARA mmaWord)).toNat % 64 = 0 ∧
    inLocal (sreg (til active 0) (fARA mmaWord)).toNat ((fNBM1 mmaWord + 1) * 32 * runBytes (fTA mmaWord)) = true ∧
    (til active 0).pend = [] ∧ inLocal (sreg (til active 0) (fARA mmaWord)).toNat 4096 = true := by
  unfold issues
  decide

theorem witness_ArrayClear : issues (til active 0) 0 ∧ bget (0 : BitVec 54) 0 49 = 0 ∧ bget (0 : BitVec 54) 0 44 = 0 ∧
    imageEnd (til (tput State.reset 0 (sset runs 1 1024)) 0) ≤ (sreg (til (tput State.reset 0 (sset runs 1 1024)) 0) 1).toNat := by
  unfold issues
  decide

theorem witness_ArrayCompletes : pendOp (pended runs 0x101 0 (.mma 2 64 1088 0 3 3 false 1)) 0 = some (.mma 2 64 1088 0 3 3 false 1) ∧
    pendOp (pended runs 0x104 0 (.accStore 2 64)) 0 = some (.accStore 2 64) ∧ pendOp (pended runs 0x103 0 (.accLoad 2 64)) 0 = some (.accLoad 2 64) ∧
    runs.bad = [] ∧ tparity active 0 64 4096 = false := by decide

/-! MovesCompleteInIssueOrder -/

/-- Word of a move with RA = 1, RB = 2, RC = 3. -/
def movWord : BitVec 54 := BitVec.ofNat 54 (2 ^ 41 + 2 * 2 ^ 36 + 3 * 2 ^ 31)

/-- A tiller with s1 = 4096, s2 = 8192, s3 = 128. -/
def mover : State := tput State.reset 0 (sset (sset (sset runs 1 4096) 2 8192) 3 128)

theorem witness_MovesIssue : issues (til mover 0) movWord ∧ fXPD movWord = 0 ∧ fXIMM movWord = 0 ∧
    freeS (til mover 0) [fXRD movWord, fXRA movWord, fXRB movWord, fXRC movWord] = true ∧ movePipeFree (til mover 0) = true ∧
    (sreg (til mover 0) (fXRA movWord)).toNat = 4096 ∧ (sreg (til mover 0) (fXRB movWord)).toNat = 8192 ∧
    (sreg (til mover 0) (fXRC movWord)).toNat = 128 ∧ imageEnd (til mover 0) ≤ 4096 ∧ inMap mover 4096 128 = true ∧
    inMap mover 8192 128 = true ∧ farDev mover 0 4096 = false ∧ farDev mover 0 8192 = false ∧ (til mover 0).pend = [] := by
  unfold issues
  decide

theorem witness_MovesComplete : pendOp (pended runs 0x141 0 (.copy 4 4096 8192 128)) 0 = some (.copy 4 4096 8192 128) ∧
    pendOp (pended runs 0x142 0 (.fill 4 4096 5 128)) 0 = some (.fill 4 4096 5 128) ∧ (inLocal 4096 128 || inStore 4096 128) = true ∧
    (inLocal 8192 128 || inStore 8192 128) = true ∧ tparity active 0 8192 128 = false ∧ flashWaits active 0 128 = false ∧
    badLineIn active 0 128 = none := by decide +kernel

/-! ContextInstructionsReadAndBind -/

/-- Context 0 in DECODE with a span of one page column whose page 0 is frame 5 of stack 0. -/
def decoding : State := cxPut active 0 { d := ds (ds (ds (ds 0 D.STATE stDECODE) D.SPAN_PT 65536) D.PPS 1) D.PROMPT_LEN 4 }

theorem witness_ContextInstructions : issues (til decoding 0) 0 ∧ fXRC (0 : BitVec 54) = 0 ∧ freeS (til decoding 0) [fXRD 0, fXRA 0, fXRB 0] = true ∧
    freeP (til decoding 0) [fXPD 0] = true ∧ movePipeFree (til decoding 0) = true ∧ decoding.twin.lost = false ∧ decoding.descBad = [] ∧
    dg (cx decoding 0).d D.STATE = stDECODE ∧ dg (cx decoding 0).d D.STOP_REC = 0 ∧ dg (cx decoding 0).d D.LENGTH = 0 ∧
    0 < 65536 * dPages (cx decoding 0).d ∧ fXIMM (0 : BitVec 54) = 0 := by
  unfold issues
  decide +kernel

theorem witness_SpanPages : lineOk decoding (pteAddr (cx decoding 0).d 0) = true ∧ pV (ptGet decoding (cx decoding 0).d 0) = false ∧
    pV (ptGet (memPut decoding (pteAddr (cx decoding 0).d 0) 8 (2 ^ 63 + 5)) (cx decoding 0).d 0) = true ∧
    pLost (ptGet (memPut decoding (pteAddr (cx decoding 0).d 0) 8 (2 ^ 63 + 5)) (cx decoding 0).d 0) = false ∧
    pagePoison decoding (w64 (2 ^ 63 + 5)) = false := by decide +kernel

/-! ContextAnswersReachTheirRegisters -/

/-- A tiller of context 0 in DECODE, with a matcher whose end token is 7. -/
def offering : State := tput decoding 0 { sset runs 2 7 with matcher := some { ends := [7], inc := 0 } }

theorem witness_ContextAnswers : issues (til offering 0) 0 ∧ fXRC (0 : BitVec 54) = 0 ∧ fXIMM (0 : BitVec 54) = 0 ∧
    freeS (til offering 0) [fXRD 0, fXRA 0, fXRB 0] = true ∧ movePipeFree (til offering 0) = true ∧ offering.twin.lost = false ∧
    dg (cx offering 0).d D.STATE = stDECODE ∧ (til offering 0).matcher = some { ends := [7], inc := 0 } ∧
    dg (cx offering 0).d D.INCARNATION = 0 ∧ (cx offering 0).offer = none := by
  unfold issues
  decide +kernel

theorem witness_AnswersArrive : pendOp (pended runs 0x181 0 (.ctx 3 5 none false 0)) 0 = some (.ctx 3 5 none false 0) ∧
    pendOp (pended runs 0x185 0 (.ctx 3 5 (some (2, true)) false 0)) 0 = some (.ctx 3 5 (some (2, true)) false 0) ∧
    (pended runs 0x181 0 (.ctx 3 5 none true 0)).pend[0]? = some { op := .ctx 3 5 none true 0, pc := 64, word := wordOf 0x181 0 } ∧
    runs.exc = none := by decide

theorem witness_CopyEnds : nfind ({ decoding with cows := [(4, { cid := 0, old := pte true false 0 false 0 0 5, frame := 2 ^ 21 + 7, u := 4 })] } : State).cows 4 =
    some { cid := 0, old := pte true false 0 false 0 0 5, frame := 2 ^ 21 + 7, u := 4 } ∧ dg (cx decoding 0).d D.FMT ≠ 2 ∧
    pFrame (pte true false 0 false 0 0 5) / 2 ^ 21 ≠ (2 ^ 21 + 7) / 2 ^ 21 ∧
    badLineIn decoding (pKey (pte true false 0 false 0 0 5) * 65536) (4 * dSlotBytes (cx decoding 0).d) = none := by decide +kernel

/-! TransferInstructionsStartTheirRequests -/

/-- A FAB descriptor for peer 0: 128 bytes at 4,096, key 0. -/
def fabNum : Nat := 4096 * 2 ^ 128 + 128 * 2 ^ 192

/-- The device with a reachable peer 0 and tiller 0 whose s1 points at that descriptor in local SRAM. -/
def sender : State :=
  fput (memPut (tput State.reset 0 (sset (localWrite runs 2048 (toBytes 64 fabNum)) 1 2048)) 23 1 1) F.FAB_PEER_BASE_COUNT 0 1

/-- Word of an instruction with RD = 4, RA = 1. -/
def askWord : BitVec 54 := BitVec.ofNat 54 (4 * 2 ^ 46 + 2 ^ 41)

theorem witness_StrokeIssues : issues (til active 0) 0 ∧ fXRC (0 : BitVec 54) = 0 ∧ fXPD (0 : BitVec 54) = 0 ∧ fXIMM (0 : BitVec 54) = 0 ∧
    freeS (til active 0) [fXRD 0, fXRA 0, fXRB 0] = true ∧ movePipeFree (til active 0) = true ∧ (til active 0).pend = [] ∧
    inMap active 0 64 = true ∧ farDev active 0 0 = false := by
  unfold issues
  decide

theorem witness_FabricIssues : issues (til sender 0) askWord ∧ (sreg (til sender 0) (fXRA askWord)).toNat = 2048 ∧
    inLocal 2048 64 = true ∧ parityBad (til sender 0).bad 2048 64 = false ∧ fXRB askWord = 0 ∧ fXRC askWord = 0 ∧ fXPD askWord = 0 ∧ fXIMM askWord = 0 ∧
    freeS (til sender 0) [fXRD askWord, fXRA askWord] = true ∧ (fabDesc fabNum).peer = 0 ∧ unreachable sender 0 = false ∧
    (fabDesc fabNum).key = 0 ∧ (fabDesc fabNum).len = 128 ∧ msgOf sender (msgKey 0 0) = none ∧ sender.fab.gets = [] ∧ (til sender 0).pend = [] ∧ inDev (fabDesc fabNum).laddr = false := by
  unfold issues
  decide +kernel

theorem witness_FabricDescriptor : ofBytes (localBytes (til sender 0) 2048 64) = fabNum ∧ fabBad sender 0 fabNum 1 = false ∧ fabBad sender 0 fabNum 3 = false ∧
    sourceBad sender 0 (fabDesc fabNum) = none := by decide +kernel

/-- Table 0 is LIVE, of one member and one local row, its map in frame 0 of object 0. -/
def rowHome : State :=
  let s := memPut (memPut (tput State.reset 0 (sset runs 3 4096)) (tblAddr State.reset 0) 8 (1 + 6 * 2 ^ 32)) (tblAddr State.reset 0 + 8) 16 (1 + 2 ^ 64 + 2 ^ 96)
  { s with rows := { s.rows with tab := [(0, { local' := 1 })] } }

/-- Word of an instruction with RC = 3. -/
def rowWord : BitVec 54 := BitVec.ofNat 54 (3 * 2 ^ 31)

theorem witness_RowIssues : issues (til rowHome 0) rowWord ∧ fXPD rowWord = 0 ∧ fXIMM rowWord = 0 ∧ (sreg (til rowHome 0) (fXRA rowWord)).toNat = 0 ∧
    (sreg (til rowHome 0) (fXRB rowWord)).toNat = 0 ∧ (sreg (til rowHome 0) (fXRC rowWord)).toNat = 4096 ∧
    freeS (til rowHome 0) [fXRD rowWord, fXRA rowWord, fXRB rowWord, fXRC rowWord] = true ∧ (til rowHome 0).pend = [] := by
  unfold issues
  decide +kernel

theorem witness_RowTable : tLive rowHome 0 = true ∧ inMap rowHome 4096 (tSize rowHome 0) = true ∧ farDev rowHome 0 4096 = false ∧ homeHere rowHome 0 0 = true ∧
    imageEnd (til rowHome 0) ≤ 4096 ∧ goodBytes rowHome 0 4096 (tSize rowHome 0) = tSize rowHome 0 := by decide +kernel

/-! RegisterAccessesFollowTheirCodes -/

/-- The device READY and reached by the host. -/
def ready : State := { fput State.reset F.GLB_STAT_PHASE 0 12 with host := { State.reset.host with cfg := 2 } }

theorem witness_RegisterAccesses : hostReach ready = true ∧ fget ready F.GLB_STAT_PHASE 0 = 12 ∧
    (∃ r i, r ∈ plainRegs ∧ placePf (r.offset i) = .reg r i ∧ r.offset i < 0x3000000 ∧ r.offset i % 8 = 0) ∧ placePf 0x1FFFF8 = .none := by
  refine ⟨by decide +kernel, by decide +kernel, ⟨.HST_ERR, 0, by decide +kernel, by decide +kernel, by decide +kernel, by decide +kernel⟩, by decide +kernel⟩

theorem witness_OtherRegisterAccesses : placePf 0x180008 = .msix 1 ∧ placeVf 1 8 = .bell 1 ∧ placeVf 1 0x1008 = .reg .HST_REQ_CTL 4 ∧
    (Reg.ISL_CLK_STAT.offset 0 < 0x3000000) ∧ (∃ f ∈ Reg.CTX_WALK.fields, f.acc = .RC) ∧ placePf (Reg.CTX_WALK.offset 0) = .reg .CTX_WALK 0 := by
  decide +kernel

theorem witness_EarlyAccesses : hostReach { State.reset with host := { State.reset.host with cfg := 2 } } = true ∧
    fget { State.reset with host := { State.reset.host with cfg := 2 } } F.GLB_STAT_PHASE 0 ≠ 12 ∧
    fget { State.reset with host := { State.reset.host with cfg := 2 } } F.GLB_STAT_PHASE 0 ≠ 15 ∧
    0x200000 ≤ Reg.CTX_WALK.offset 0 ∧ earlyBlock (Reg.CTX_WALK.offset 0) = false ∧ Reg.CTX_WALK.offset 0 % 8 = 0 := by
  decide +kernel

/-! ClocksAndCrossingsOfIslands -/

theorem witness_IslandClocks : hostReach ready = true ∧ fget ready F.GLB_STAT_PHASE 0 = 12 ∧ islAdj 0 = true ∧ islAdj 544 = false ∧
    nfind ready.isl.changing 0 = none ∧
    effClock (fput ready F.ISL_CLK_CTL_FREQ_REQ 0 1000) 0 ≠ islFreq ready 0 := by decide +kernel

/-- An island 0 whose clock changes to its effective clock, and one crossing held. -/
def changing : State := { ready with isl := { ready.isl with changing := [(0, { target := 2000 })], held := [(1133, [{ x := 7, since := 0 }])] } }

theorem witness_ClockChangeDone : nfind changing.isl.changing 0 = some { target := 2000 } ∧ effClock changing 0 = 2000 ∧
    effClock (fput changing F.ISL_CLK_CTL_FREQ_REQ 0 1000) 0 ≠ 2000 := by decide +kernel

theorem witness_Crossings : chanHeld changing { src := 1, dst := 0, resp := true } = [{ x := 7, since := 0 }] ∧
    chanCut changing { src := 1, dst := 0, resp := true } = false ∧ chanHeld ready { src := 1, dst := 0, resp := true } = [] := by decide +kernel

/-! StacksRunStrokes -/

/-- A FILL header: one column. -/
def fillHead : List Byte := toBytes 64 (4 + 2 ^ 48)

/-- A FILL of frame 16, as it arrives from tiller 0. -/
def fillCmd : Arrival := { head := fillHead, cols := toBytes 16 16 }

/-- The sequence it gives. -/
def fillSeq : Seq := { op := 4, cols := [{ fa := 16 }] }

/-- The device with stack 0 in service. -/
def served : State := fput State.reset F.BNK_STK_STAT_STATE 0 0

theorem witness_CommandChecks : ofBytes fillCmd.head % 256 = 4 ∧ fillCmd.fail = none ∧ fillCmd.qfail = none ∧ headOk served fillCmd (ofBytes fillHead) = true ∧
    plainSeq served fillCmd (ofBytes fillHead) = .inr fillSeq := by decide +kernel

/-- Stack 0 with a running FILL, and one waiting. -/
def filling : State := fput (stkPut served 0 { run := some fillSeq, wait := [fillSeq] }) F.BNK_CTL_STROKE_EN 0 1

theorem witness_Strokes : stroking filling 0 = false ∧ (stk filling 0).refreshing = false ∧ fget filling F.BNK_CTL_STROKE_EN 0 = 1 ∧
    strokeGap filling 0 = 0 ∧ (stk filling 0).run = some fillSeq ∧ fget filling F.BNK_STK_STAT_STATE 0 = 0 ∧
    (stk filling 0).wait = [fillSeq] ∧ stroking (fset filling F.BNK_STK_STAT_STROKING 0) 0 = true := by decide +kernel

/-! YieldPointsRefreshAndAttention -/

/-- Stack 0 with a stroke of a FILL running in one column. -/
def stroked : State := stkPut served 0 { run := some { fillSeq with now := [{ fa := 16 }] } }

theorem witness_RowSteps : stepsLeft (stk stroked 0) 3 = [.scratch ((List.range 16).map (16 + ·)) 512] ∧ (stk stroked 0).out = [] := by decide +kernel

theorem witness_Outside : addrTier 128 = 0 ∧ mapped served 128 = true ∧ 128 % 128 + [(0 : Byte)].length ≤ 128 ∧ stackRetired served (addrStack 128) = false ∧
    (stk served 0).refreshing = false ∧ stepsLeft (stk served 0) (bankOf 128) = [] ∧ (stk served 0).out = [] ∧
    destStack served 128 1 = none ∧ served.tie.fwd = [] ∧ stepsLeft (stk stroked 0) (bankOf 128) ≠ [] ∧ mapped stroked 128 = true := by decide +kernel

theorem witness_Refresh : stroking served 0 = false ∧ (stk (stkPut served 0 { refreshing := true }) 0).refreshing = true ∧
    stroking (fset served F.BNK_STK_STAT_STROKING 0) 0 = true := by decide +kernel

/-- A device that serves attention, with a request in slot 5; its header is all zero. -/
def asked : State :=
  let s := fput (fput served F.BNK_CTL_INBOX_EN 0 1) F.GLB_CFG_CONFIG 0 1
  { s with bnk := { s.bnk with inbox := [{ slot := 5, peer := 0, comp := 0, epoch := 0, cls := 0, tenant := 0 }] } }

theorem witness_AttentionRequests : (asked.bnk.inbox.find? (fun y => y.slot == 5)).isSome = true ∧ fget asked F.BNK_CTL_INBOX_EN 0 = 1 ∧
    nfind asked.bnk.slots 5 = none ∧ attCheck asked 0 = .refuse 1 := by decide +kernel

/-- With context 0 READY at the request's position, or with that very request in progress. -/
def askedReady (busy : Nat) : State :=
  let s := setProg (cxPut asked 0 { d := ds (ds 0 D.STATE stREADY) D.LAYERS_M1 1 }) 0 0 (busy == 1) 0 0
  if busy = 1 then { s with bnk := { s.bnk with slots := [(3, {})] } } else s

theorem witness_AttentionVerdicts : attCheck (askedReady 0) 0 = .serve true ∧ attCheck (askedReady 1) 0 = .discard := by decide +kernel

theorem witness_AttentionEnds : (∃ q : AttReq, q.items = 0 ∧ attStatus q = 0 ∧ q.place = true ∧ q.reqId = 0 ∧ q.pos = 0 ∧ q.layer = 0) ∧
    (∃ q : AttReq, q.items = 0 ∧ attStatus q ≠ 0 ∧ q.place = true ∧ q.reqId = 0 ∧ q.pos = 0 ∧ q.layer = 0) ∧
    named (askedReady 1) 0 0 = true ∧ 0 < dg (cx (askedReady 1) 0).d D.LAYERS_M1 ∧ progWord (askedReady 1) 0 % 2 ^ 29 = 0 ∧ bits (progWord (askedReady 1) 0) 32 32 = 0 := by
  refine ⟨⟨{ }, by decide, by decide, rfl, rfl, rfl, rfl⟩, ⟨{ bad := 6 }, by decide, by decide, rfl, rfl, rfl, rfl⟩, by decide +kernel, by decide +kernel, by decide +kernel, by decide +kernel⟩

/-! ContextEventsMoveDescriptors -/

/-- The device, standalone, with context 0 as given. -/
def holds (x : Ctx) : State := cxPut (fput ready F.GLB_CFG_CONFIG 0 1) 0 x

/-- A prefilled context, its import done. -/
def prefilled : Ctx := { d := ds (ds (ds 0 D.STATE stPREFILL) D.IMPORT_DONE 1) D.HIDDEN_DONE 1 }

theorem witness_PrefillEnds : prefillDone (holds prefilled) prefilled.d = true ∧ prefilled.attach = 0 ∧ promptMember (holds prefilled) = false ∧
    prefillDone (fput (holds prefilled) F.GLB_CFG_CONFIG 0 0) prefilled.d = true ∧ promptMember (fput (holds prefilled) F.GLB_CFG_CONFIG 0 0) = true ∧
    prefilled.exports = [] := by decide +kernel

/-- A context in a state. -/
def inState (st : Nat) : Ctx := { d := ds 0 D.STATE st }

theorem witness_Close : dg (cx (holds (inState stDRAINING)) 0).d D.STATE = stDRAINING ∧ ctxBusy (holds (inState stDRAINING)) 0 = false := by decide +kernel

theorem witness_Release : dg (inState stREADY).d D.STATE = stREADY ∧
    ctxBusy (revokeSpans (cxPut (holds { inState stREADY with release := true }) 0 { inState stREADY with release := true }) 0 0) 0 = false := by
  decide +kernel

theorem witness_Swaps : dg (inState stPREEMPTED).d D.STATE = stPREEMPTED ∧ privatePages (holds { inState stPREEMPTED with swap := 1 }) 0 = [] ∧
    dg (inState stSWAPPED).d D.STATE = stSWAPPED ∧ slowPages (holds { inState stSWAPPED with swap := 2 }) 0 = [] ∧
    dg (inState stSWAPPED).d D.NAMESPACE = 0 ∧ dHole (inState stSWAPPED).d = false ∧ dg (ds (inState stSWAPPED).d D.RESUME stREADY) D.RESUME = stREADY ∧
    attachBlocked (holds { inState stPREFILL with attach := 1 }) 0 0 = none ∧ publishBlocked (holds { inState stREADY with pub := 1 }) 0 = none ∧ (holds {}).tie.moves = [] := by decide +kernel

theorem witness_PeekAndInval : ready.descBad = [] ∧ bbit (0x100000007#64) 32 = true ∧ (poolOf ready 0).inval = none ∧
    (poolOf (poolPut ready 0 { inval := some 7 }) 0).inval = some 7 := by decide +kernel

/-! ContextCommandsApply -/

/-- A running scheduler with partition 0 enabled, context 0 in a state, and a context command for it queued. -/
def commanded (st op : Nat) : State := setQueue (fput (fput (holds (inState st)) F.SCH_CTL_RUN 0 1) F.SCH_PART_CTL_EN 0 1) 0 [.cmd (w64 (op * 2 ^ 60))]

theorem witness_ContextCommands : (∀ op < 6, schQueue (commanded stREADY op) 0 = [.cmd (w64 (op * 2 ^ 60))] ∧ bget (w64 (op * 2 ^ 60)) 60 4 = op ∧
      bget (w64 (op * 2 ^ 60)) 0 18 = 0 ∧ bget (w64 (op * 2 ^ 60)) 44 16 = 0) ∧
    (∀ st < 9, dg (cx (commanded st 1) 0).d D.STATE = st ∧ dg (cx (commanded st 1) 0).d D.INCARNATION = 0 ∧ (commanded st 1).descBad = [] ∧
      (cx (commanded st 1) 0).swap = 0 ∧ forming (commanded st 1) 0 = true) ∧
    swapInNeeds (setQueue (commanded stSWAPPED 4) 0 []) 0 ≤ halfFree (setQueue (commanded stSWAPPED 4) 0 []) (ctxHalf 0) := by decide +kernel

/-! StepsFormAndCommit -/

/-- A device whose scheduler runs with partition 0 enabled, context 0 in DECODE of step 1 of it with token 5 offered. -/
def decodes1 : State :=
  let s := fput (fput (holds { d := ds (ds 0 D.STATE stDECODE) D.SPAN_PT 0, dec := some (0, 1), offer := some (5, 0, 0) }) F.SCH_CTL_RUN 0 1) F.SCH_PART_CTL_EN 0 1
  stepPut s 0 { num := 1, a := { formed := true, dec := [0] }, b := { formed := true } }

theorem witness_Formation : mayForm (partPut decodes1 0 {}) 0 0 = true ∧ (part (partPut decodes1 0 {}) 0).step = none ∧
    (∀ q ∈ groupOf (partPut decodes1 0 {}) 0, (part (partPut decodes1 0 {}) q).step = none) := by decide +kernel

theorem witness_Commit : (∃ k, (part decodes1 0).step = some k ∧ stepOpen decodes1 0 0 k = false ∧ (stepHalf k 0).committed = false ∧
      (stepHalf k 1).committed = false ∧ (stepHalf k 0).dec = [0] ∧ (stepHalf k 0).chunks = [] ∧ (cx decodes1 0).dec = some (0, k.num)) ∧
    dg (cx decodes1 0).d D.STATE = stDECODE ∧ dg (cx decodes1 0).d D.CANCEL = 0 ∧ dg (cx decodes1 0).d D.KV_BAD = 0 ∧ dg (cx decodes1 0).d D.HELD = 0 ∧
    dg (cx decodes1 0).d D.DL_MODE = 0 ∧ decodes1.descBad = [] ∧ logBad decodes1 (cx decodes1 0).d 0 = none ∧ hostReach decodes1 = true := by
  refine ⟨⟨_, rfl, ?_⟩, ?_⟩ <;> decide +kernel

/-- A running scheduler whose partition 0 may admit context 0, READY. -/
def formable : State :=
  fput (fput (fput (fput (partPut (holds (inState stREADY)) 0 {}) F.SCH_CTL_RUN 0 1) F.SCH_PART_CTL_EN 0 1) F.SCH_PART_CTL_SHEAVES 0 0xFFFFFFFF) F.SCH_STEP_CTL_BATCH_MAX 0 8

/-- A formation that admits it into the batch. -/
theorem witness_FormationAdmits : othersTurn (giveTurn formable 0) 0 = false ∧ (formWith (giveTurn formable 0) 0 0 0).1 ≠ 0 := by decide +kernel

/-! TierCommandsComplete -/

/-- The device with an object table of four entries and a page-table pool. -/
def tabled : State := fput (fput ready F.TIE_OBJ_BASE_COUNT 0 4) F.CTX_POOL_SIZE_PT 0 4

/-- That device with one tier command queued. -/
def queued (s : State) (c : TieCmd) : State := { s with tie := { s.tie with queue := [c] } }

/-- A tier command: OP, object, frames, place. -/
def tierCmd (op id frames place : Nat) : TieCmd := { cmd0 := w64 id, cmd1 := w64 (op * 2 ^ 60 + place * 2 ^ 54 + frames * 2 ^ 32) }

theorem witness_Table : ∃ l s1, takePt tabled 0 8 = some (l, s1) ∧ s1.tie = tabled.tie ∧ s1.regs = tabled.regs ∧ s1.flash = tabled.flash := by
  have h : ∀ cand, ∃ u, fitUnits [] 4096 1 cand = some u := by
    intro cand
    refine ⟨cand % 4096, ?_⟩
    simp only [fitUnits, List.all_nil, Bool.and_true, List.map_nil]
    rw [List.filter_cons_of_pos (by have := Nat.mod_lt cand (show 0 < 4096 by decide); simpa using by omega)]
    rfl
  obtain ⟨u, hu⟩ := h (choiceOf tabled 15)
  have e1 : (poolOf tabled 0).pt = [] := by decide +kernel
  have e2 : fget tabled F.CTX_POOL_SIZE_PT 0 = 4 := by decide +kernel
  have hu' : fitUnits (poolOf tabled 0).pt (fget tabled F.CTX_POOL_SIZE_PT 0 * 1024) (cdiv 8 64) (choiceOf tabled 15) = some u := by
    rw [e1, e2, show 4 * 1024 = 4096 from rfl, show cdiv 8 64 = 1 by decide]; exact hu
  unfold takePt
  dsimp only
  rw [hu']
  generalize tabled = s
  exact ⟨_, _, rfl, rfl, rfl, rfl⟩

theorem pick_some {s : State} {k : Nat} (h1 : stackFree s k ≠ 0) (h2 : frameFree s (k * 2 ^ 21 + fget s F.TIE_STK_FIXED_END k) = true) :
    ∃ f, pickStack s k = some f := by
  unfold pickStack
  dsimp only
  rw [if_neg h1]
  split
  · exact ⟨_, rfl⟩
  · exact ⟨_, by rw [firstFree, if_pos h2]⟩

theorem witness_AllocFrames : ∃ l s1 s2, takePt tabled 0 8 = some (l, s1) ∧ allocFrames s1 0 0 l 1 0 = some s2 := by
  obtain ⟨l, s1, h, h1, h2, h3⟩ := witness_Table
  have k0 : ∀ (u : State) (k : Nat), u.regs = tabled.regs → shareOk u k = true := by
    intro u k h
    have hb : ∀ i, fget u F.PFX_SHARE_POOL_BASE i = fget tabled F.PFX_SHARE_POOL_BASE i := fun i => by
      unfold fget rword; rw [h]
    have h0 : fget u F.PFX_SHARE_POOL_BASE (k / 2 ^ 23 % 2) = 0 := by
      rw [hb]
      rcases Nat.mod_two_eq_zero_or_one (k / 2 ^ 23) with e | e <;> rw [e] <;> decide +kernel
    unfold shareOk shareAddr
    rw [h0]; rfl
  have w0 : ∀ u : State, u.regs = tabled.regs → withheld u 0 = [] := by
    intro u h
    have hb : fget u F.PFX_SHARE_POOL_BASE (0 / 4) = 0 := by
      rw [show fget u F.PFX_SHARE_POOL_BASE (0 / 4) = fget tabled F.PFX_SHARE_POOL_BASE (0 / 4) by unfold fget rword; rw [h]]; decide +kernel
    unfold withheld
    rw [hb]; rfl
  have a : ∀ (u w : State), u.tie = w.tie → u.regs = w.regs → u.flash = w.flash → (∀ k, shareOk u k = shareOk w k) → withheld u 0 = withheld w 0 → stackFree u 0 = stackFree w 0 ∧
      frameFree u (0 * 2 ^ 21 + fget u F.TIE_STK_FIXED_END 0) = frameFree w (0 * 2 ^ 21 + fget w F.TIE_STK_FIXED_END 0) := by
    intro u w h1 h2 h3 h4 h5
    unfold frameFree stackFree
    rw [h4, h5]
    clear h4 h5
    cases u; cases w; dsimp only at h1 h2 h3; subst h1 h2 h3
    exact ⟨rfl, rfl⟩
  obtain ⟨a, b⟩ := a s1 tabled h1 h2 h3 (fun k => by rw [k0 s1 k h2, k0 tabled k rfl]) (by rw [w0 s1 h2, w0 tabled rfl])
  obtain ⟨f, hf⟩ := pick_some (s := s1) (k := 0) (by rw [a]; decide +kernel) (by rw [b]; decide +kernel)
  have hm : mostFree s1 [0] = some 0 := by
    have : stackFree s1 0 ≠ 0 := by rw [a]; decide +kernel
    simp [mostFree, this]
  have ho : objPick s1 0 0 = some f := by simp [objPick, placeStacks, hm, hf]
  exact ⟨l, s1, _, h, by simp only [allocFrames, ho]; rfl⟩

theorem witness_AllocCommand : let c := tierCmd 1 1 1 0
    bget c.cmd1 60 4 = 1 ∧ tcId c < fget tabled F.TIE_OBJ_BASE_COUNT 0 ∧ tcTier c ≠ 3 ∧ tcPlace c = 0 ∧ tcFrames c = 1 ∧ tcArg c = 0 ∧
    oState (obj tabled 1) = 0 ∧ lineOk tabled (objAddr tabled 1) = true := by decide +kernel

/-- An object of the table in a state, with no frames. -/
def object (st : Nat) : State := setObj tabled 1 st

theorem witness_FreeAndMove : (let c := tierCmd 2 1 0 0
    bget c.cmd1 60 4 = 2 ∧ tcArg c = 0 ∧ oState (obj (object 1) 1) = 1 ∧ objPinned (object 1) 1 = false ∧ badLineIn (object 1) 0 0 = none) ∧
    nextOut (objState (object 1) 1 2) 1 0 10 = none ∧ movesOf (objState (object 1) 1 2) 1 = [] ∧ objPinned (objState (object 1) 1 2) 1 = false ∧
    (object 1).tie.moves = [] := by decide +kernel

/-- An object in a state, with one frame, frame 5 of the host tier. -/
def framedIn (st : Nat) : State := memPut (setObj tabled 1 (st + 1 * 2 ^ 32 + 65536 * 2 ^ 64)) 65536 8 (pte true true 1 false 0 0 (2 ^ 32 + 5)).toNat
def framed : State := framedIn 1

theorem witness_MoveStarts : nextOut framed 1 0 0 = some 0 ∧ (movesOf framed 1).length < readAhead framed (pKey (objEnt framed 1 0)) ∧ objPinned framed 1 = false ∧
    ∃ k, objPick framed 0 0 = some k := by
  refine ⟨by decide +kernel, by decide +kernel, by decide +kernel, ?_⟩
  obtain ⟨f, hf⟩ := pick_some (s := framed) (k := 0) (by decide +kernel) (by decide +kernel)
  have hm : mostFree framed [0] = some 0 := by decide +kernel
  exact ⟨f, by simp [objPick, placeStacks, hm, hf]⟩

theorem witness_GatherAndTransfer : named (holds (inState stPREEMPTED)) 0 0 = true ∧ cstate (holds (inState stPREEMPTED)) 0 = stPREEMPTED ∧
    gatherNext (holds (inState stPREEMPTED)) 0 = none ∧ bget (tierCmd 4 0 0 0).cmd1 60 4 = 4 ∧ bget (tierCmd 5 0 0 0).cmd1 60 4 = 5 ∧
    ready.tie.xfer = [] ∧ ready.tie.left = false ∧ ready.fab.ops = [] ∧ ready.fab.ended = [] := by decide +kernel

theorem witness_FrameMoveDone : let m : FrameMove := { owner := 1, old := 2 ^ 32 + 5, new := 7 }
    unitsDone (framedIn 2) m = true ∧ frameBad (framedIn 2) m.old = none ∧ pV (objEnt (framedIn 2) 1 0) = true ∧ pKey (objEnt (framedIn 2) 1 0) = m.old ∧
    oState (obj (framedIn 2) 1) = 2 ∧ givenUp (framedIn 2) m = false := by decide +kernel

/-- Context 0 with a one-page span in frame 7. -/
def paged : State := ptPut (holds { d := ds (ds (ds 0 D.STATE stREADY) D.SPAN_PT 4) D.PPS 1 }) 0 0 (pte true true 0 false 0 0 7)

theorem witness_PageMoveDone : let m : FrameMove := { kind := 1, old := 7, new := 9 }
    unitsDone paged m = true ∧ givenUp paged m = false ∧ frameBad paged m.old = none ∧ pV (ptGet paged (cx paged 0).d 0) = true ∧ pKey (ptGet paged (cx paged 0).d 0) = 7 := by
  decide +kernel

/-! ReclaimAndWindows -/

/-- A half whose mark asks for reclaim, with one prefix node. -/
def wanting : State := poolPut (fput (fput ready F.TIE_CTL_RECLAIM_EN 0 1) F.TIE_POOL_MARK_LOW 0 0xFFFFFF) 0 { nodes := [3] }

theorem witness_Reclaim : reclaims wanting 0 (halfFree wanting 0) (fget wanting F.TIE_POOL_MARK_LOW 0) (fget wanting F.TIE_POOL_MARK_HIGH 0) = true ∧
    3 ∈ (poolOf wanting 0).nodes ∧ nChildren (node wanting 3) = 0 ∧
    reclaims ready 0 (halfFree ready 0) (fget ready F.TIE_POOL_MARK_LOW 0) (fget ready F.TIE_POOL_MARK_HIGH 0) = false := by decide +kernel

/-- The host tier below its mark, with a SWAPPED context that has a page there. -/
def slowWanting : State :=
  fput (fput (memPut (holds { d := ds (ds (ds (ds 0 D.STATE stSWAPPED) D.SPAN_PT 4) D.PPS 1) D.LAYERS_M1 0 }) 516 8
    (pte true true 1 false 0 0 7).toNat) F.TIE_CTL_RECLAIM_EN 0 1) F.TIE_SLOW_MARK_HOST_LOW 0 100

theorem witness_SlowReclaim : reclaims slowWanting 2 (slowFree slowWanting 1) (slowMark slowWanting 1) (slowMark slowWanting 1 + 1024) = true ∧
    0 ∈ ctxsOf slowWanting 0 ∧ cstate slowWanting 0 = stSWAPPED ∧
    (slowPages slowWanting 0).any (fun v => pTier (ptGet slowWanting (cx slowWanting 0).d v) == 1) = true := by decide +kernel

/-- A value that enables a window of one frame in stack 0 for partition 0. -/
def winVal : Word := rword (fput (fput (fput ready F.TIE_WIN_CTL_EN 0 1) F.TIE_WIN_CTL_STACKS 0 1) F.TIE_WIN_CTL_LAYER_FRAMES 0 1) .TIE_WIN_CTL 0

theorem witness_WindowEnable : winEn ready 0 = false ∧ bbit winVal 63 = true ∧ windowFits ready 0 winVal = true ∧
    windowFits ready 0 0x8000000000000000#64 = false ∧ (part ready 0).step = none := by decide +kernel

/-- A window that fills slot 0 from an object of one frame. -/
def winFilling : State :=
  winPut (memPut (setObj (fput (rput tabled .TIE_WIN_CTL 0 winVal) F.TIE_WIN_SRC_OBJECT 0 1) 1 (1 + 4 * 2 ^ 8 + 1 * 2 ^ 32 + 65536 * 2 ^ 64)) 65536 8
    (pte true true 1 false 0 0 (2 ^ 32 + 5)).toNat) 0 { slots := [(0, { st := 1 })] }

theorem witness_WindowFill : fbit winFilling F.TIE_WIN_CTL_SRC_KIND 0 = false ∧ (win winFilling 0).slots.find? (fun e => e.2.st == 1) = some (0, { st := 1 }) ∧
    (win winFilling 0).refill = [] ∧ winFilling.fab.ended = [] ∧ sourceFrames winFilling 0 0 = some [2 ^ 32 + 5] ∧ fillCount winFilling [2 ^ 32 + 5] = 1 ∧
    [2 ^ 32 + 5].findSome? (frameBad winFilling) = none ∧ flashWaits winFilling (keyAddr (2 ^ 32 + 5)) 65536 = false := by
  decide +kernel

/-! RowRequestsAndCommands -/

/-- The device with a row table: table 0, one member, four rows of 64 bytes, its map in object 1 and its slots in object 2, both of
one frame in the stacks, pinned. Row 0 is LOCAL in the first slot's place. -/
def rowed : State :=
  let s := fput (fput (fput ready F.TIE_OBJ_BASE_COUNT 0 4) F.TIE_OBJ_BASE_BASE 0 1) F.ROW_CTL_SERVE_EN 0 1
  let s := memPut (memPut s 65536 8 (pte true true 0 false 0 0 16).toNat) 65600 8 (pte true true 0 false 0 0 17).toNat
  let s := setObj (setObj s 1 (1 + 2 ^ 8 + 2 ^ 32 + 65536 * 2 ^ 64)) 2 (1 + 2 ^ 8 + 2 ^ 32 + 65600 * 2 ^ 64)
  let s := memPut s 0 64 (1 + 6 * 2 ^ 32 + 2 ^ 48 + 4 * 2 ^ 64 + 2 ^ 128 + 2 ^ 160 + 2 ^ 192 + 2 ^ 208 + 2 * 2 ^ 224 + 65536 * 2 ^ 320)
  tabPut (memPut s 1048576 32 (mkRow 0 0 false false 0 1114112 5 {} 0 0)) 0 { local' := 4 }

/-- A request for row 0 of that table. -/
def rowHead1 (op : Nat) : List Byte := rowHdrBytes { op := op, shift := 6, row := 0, reqId := 9 }

theorem witness_RowServed : let x := rowHdr (ofBytes (rowHead1 1))
    x.op = 1 ∧ (rowHead1 1).length = 64 ∧ x.resv = false ∧ x.row < tRows rowed x.table ∧ x.shift = tf rowed x.table 4 1 ∧ x.merge = tf rowed x.table 1 1 ∧
    tMembers rowed x.table = 1 ∧ fbit rowed F.ROW_CTL_SERVE_EN 0 = true ∧ tLive rowed x.table = true ∧ rowAt rowed x.table x.row = some { addr := 1048576 } ∧
    lineOk rowed 1048576 = true ∧ reKind (rowEnt rowed { addr := 1048576 }) = 0 ∧ reInbound (rowEnt rowed { addr := 1048576 }) = false ∧
    reOutbound (rowEnt rowed { addr := 1048576 }) = false ∧
    (lookup (fadd1 (observe rowed 0 0 { addr := 1048576 }) F.ROW_LOOKUPS_SERVED 0 1) 0 0 0 { addr := 1048576 }).1.isSome = true := by decide +kernel

theorem witness_RowStaged : (rowHdr (ofBytes (rowHead1 2))).op = 2 ∧ (rowHead1 2).length = 64 ∧ ∃ u, stage rowed 0 0 {} (List.replicate 64 1) = some u := by
  refine ⟨by decide +kernel, by decide +kernel, ?_⟩
  have h : ∃ a, pickSlot rowed 0 = some a := by
    unfold pickSlot
    dsimp only
    split
    · exact ⟨_, rfl⟩
    · exact ⟨1114112, by decide +kernel⟩
  obtain ⟨a, ha⟩ := h
  have hc : ∀ n, stageCount rowed n = 0 := fun n => rfl
  exact ⟨_, by rw [stage, ha]; dsimp only; rw [hc, if_neg (by decide)]⟩

theorem witness_RowAnswer : rowReq (reqPut ready 9 {}) 9 = some {} ∧ destWaits (reqPut ready 9 {}) 9 = false ∧
    (reqPut ready 9 {}).fab.ended.any (fun e => e.1 == 4 && e.2.1 == 9) = false ∧ (part ready 0).step = none ∧
    nget (fun _ => 0) ({ ready with now := 1000000 } : State).rows.applied 0 + 1000000 ≤ ({ ready with now := 1000000 } : State).now := by decide +kernel

/-- A row command for a table, with the staged descriptor. -/
def rowCmd (op t : Nat) (cmd0 : Word) (stage : List Word) : RowCmd := { cmd0 := cmd0, cmd1 := w64 (op * 2 ^ 60 + t), stage := stage }

/-- The descriptor of table 0, not live yet, as staged words. -/
def staged1 : List Word := (List.range 8).map (fun i => w64 (memNat rowed (8 * i) 8 - if i = 0 then 1 else 0))

/-- That device with a row command queued. -/
def rowQueued (c : RowCmd) : State := { rowed with rows := { rowed.rows with cmds := [c] } }

theorem witness_RowCreate : let c := rowCmd 1 3 0 staged1
    rowHead (rowQueued c) 1 = some c ∧ tState (rowQueued c) 3 = 0 ∧ descFits (packWords staged1) = true ∧ bits (packWords staged1) 8 8 = 0 ∧
    objsFit (rowQueued c) (packWords staged1) = true := by decide +kernel

theorem witness_RowCommands : rowHead (rowQueued (rowCmd 2 0 0 [])) 2 = some (rowCmd 2 0 0 []) ∧ tState (tfPut rowed 0 0 1 2) 0 = 2 ∧
    rowed.rows.reqs = [] ∧ rowed.rows.inbound = [] ∧ rowed.fab.rows = [] ∧ rowHead (rowQueued (rowCmd 4 0 0 [])) 4 = some (rowCmd 4 0 0 []) ∧
    tLive (rowQueued (rowCmd 4 0 0 [])) 0 = true := by decide +kernel

/-- That table shared by two members: slot 0 this device, slot 1 peer 1, node 7. -/
def rowShared : State :=
  let s := fput (tfPut rowed 0 20 2 2) F.CMP_CTL_BASE 0 64
  memPut (memPut s (mapAddr s 0 0 0) 32 (2 ^ 48)) (mapAddr s 0 0 1) 32 (7 + 2 ^ 32 + 2 ^ 48)

theorem witness_RowMigrate : rowHead (rowQueued (rowCmd 3 0 0x0001200000000000#64 [])) 3 = some (rowCmd 3 0 0x0001200000000000#64 []) ∧ bbit (0x0001200000000000#64) 45 = true ∧
    bget (0x0001200000000000#64) 48 16 = 1 ∧ bget (0x0001200000000000#64) 0 40 = 0 ∧ tLive rowShared 0 = true ∧ tMembers rowShared 0 = 2 ∧
    rowAt rowShared 0 0 = some { addr := 1048576 } ∧ lineOk rowShared 1048576 = true ∧ reKind (rowEnt rowShared { addr := 1048576 }) = 0 ∧
    reOutbound (rowEnt rowShared { addr := 1048576 }) = false ∧ 1 ∈ mapSlots rowShared (tComp rowShared 0) 0 ∧
    mPeer (member rowShared (tComp rowShared 0) 0 1) = 1 ∧ mNode (member rowShared (tComp rowShared 0) 0 1) ≠ fget rowShared F.FAB_NODE_NODE 0 ∧
    rowShared.rows.migs = [] := by decide +kernel

/-! MigrationsMoveRows -/

/-- A member of the composition with eight guest entries, whose map starts with no local rows. -/
def guestTable : State := tabPut (tfPut rowed 0 32 4 8) 0 {}

theorem guest_slot : ∃ x, pickSlot guestTable 0 = some x := by
  unfold pickSlot
  dsimp only
  split
  · exact ⟨_, rfl⟩
  · exact ⟨1114112, by decide +kernel⟩

theorem witness_Receive : fbit guestTable F.ROW_CTL_SERVE_EN 0 = true ∧ tLive guestTable 0 = true ∧ 2 < tRows guestTable 0 ∧
    (List.replicate 64 (1 : Byte)).length = tSize guestTable 0 ∧ rowAt guestTable 0 2 = none ∧ (guestFree guestTable 0 2).isSome = true ∧
    (guestProbe guestTable 0 2).all (fun i => reKind (rowEnt guestTable { addr := guestAddr guestTable 0 i 0, guest := some i }) != 2) = true := by decide +kernel

theorem witness_Replay : (0, 0) ∈ ({ rowed with rows := { rowed.rows with inbound := [(0, 0)] } } : State).rows.inbound ∧
    rowAt ({ rowed with rows := { rowed.rows with inbound := [(0, 0)] } } : State) 0 0 = some { addr := 1048576 } := by decide +kernel

/-- Table 0 with a migration of row 0 under log 0. -/
def moves (log : List (RowKey × List Byte)) (phase : Nat) : State := migPut rowed 0 { peer := 1, phase := phase, log := log }

theorem witness_Switch : migOf (moves [] 1) 0 = some { peer := 1, phase := 1 } ∧ rowAt (moves [] 1) 0 0 = some { addr := 1048576 } ∧
    migOf (moves [({}, [])] 1) 0 = some { peer := 1, phase := 1, log := [({}, [])] } ∧
    (moves [] 2).rows.migs.find? (fun e => e.2.table == 0 && e.2.row == 0 && e.2.phase == 2) = some (0, { peer := 1, phase := 2 }) ∧
    shardPeer (moves [] 1) 0 0 = 65535 ∧ shardPeer rowShared 0 1 = 1 := by decide +kernel

theorem witness_Abort (w : State) : stageAll w 0 0 [] = some w := rfl

/-! FlashOperationsComplete -/

/-- Flash media of 16 channels, one target of one LUN with 64 blocks of 4 pages each. -/
def media1 : FlsMedia :=
  { roots := [(0, { seq := 1 })], chan := (List.range 16).map (fun ch => (ch, { speed := 1, targets := 1, luns := 1, planes := 1, blocks := 64, pages := 4, main := 16384, spare := 1184 })) }

/-- The device with a flash tier in a state on that media. -/
def flash1 (st : Nat) : State := fput { ready with flash := { ready.flash with media := media1 } } F.FLS_STAT_STATE 0 st

/-- That tier with units that wait to be programmed, and a map. -/
def mapped1 (wr : List Nat) (m : NMap Nat) : State := { flash1 2 with flash := { (flash1 2).flash with map := m, wr := wr } }

theorem witness_Mount : fget (flash1 1) F.FLS_STAT_STATE 0 = 1 ∧ geometryOk (showGeometry (flash1 1)) = true ∧ (rootFound (showGeometry (flash1 1)) { rootA := true, rootB := false, pagesA := 0, pagesB := 0 }).isSome = true ∧
    (flash1 1).flash.media.kek = (flash1 1).keys.kek ∧ flashUp (flash1 2) = true ∧
    geometryOk (showGeometry (fput ready F.FLS_STAT_STATE 0 1)) = false ∧ fget (fput ready F.FLS_STAT_STATE 0 1) F.FLS_STAT_STATE 0 = 1 := by decide +kernel

theorem witness_JournalAndRead : (let s := { flsJournal (flash1 2) 0 5 7 with now := 10000000000000 }; (flsHalf s 0).jr ≠ [] ∧ journalDue s 0 = true ∧ checkpointDue s 0 = true) ∧
    (readLoc (mapped1 [] [(5, 7)]) 5 < flsLOST ∧ goodAt (mapped1 [] [(5, 7)]) 5 (some 0) = some 0 ∧ goodAt (mapped1 [] [(5, 7)]) 5 none = none ∧ goodAt (mapped1 [] [(5, 7)]) 5 (some 200) = none) ∧
    flashUp (mapped1 [] [(5, 7)]) = true ∧ synOk (mapped1 [] [(5, 7)]) (flsEntAddr (mapped1 [] [(5, 7)]) 5) = true ∧ flsMap (mapped1 [] [(5, 7)]) 5 < flsLOST := by
  decide +kernel

theorem witness_Program : writing (mapped1 [5] []) 5 = true ∧ fget (mapped1 [5] []) F.FLS_STAT_STATE 0 = 2 ∧ sourceFails (mapped1 [5] []) 5 = false ∧ ∃ r, nextPage (flash1 2) 5 1 = some r := by
  refine ⟨by decide +kernel, by decide +kernel, by decide +kernel, ?_⟩
  unfold nextPage
  dsimp only
  have h : ((chList (flash1 2) 5).filter (fun e => e.2.st == 1)) = [] := by decide +kernel
  rw [h]
  dsimp only [List.find?]
  split
  · exact ⟨_, rfl⟩
  · rename_i e; cases e
  · have : freeBlk (flash1 2) 5 = some (5 * 2 ^ 32 + 8) := by decide +kernel
    rw [this]
    exact ⟨_, rfl⟩

theorem witness_Erase : ∀ u, u = { flash1 2 with flash := { (flash1 2).flash with work := [(0, (1, 9))] } } →
    nfind u.flash.work (9 / 2 ^ 32) = some (1, 9) ∧ blkValid u 9 = [] ∧ (flsBlk u 9).chg ≤ (flsHalf u 0).jp ∧ flashUp u = true ∧ readsHold u 9 = false ∧
    (3 : Nat) ∉ u.flash.media.failed ∧ (0 : Nat) < (flsChan u 0).targets ∧ nget (fun _ => 0) u.flash.late 0 < 2 := by
  intro u hu
  subst hu
  decide +kernel

/-- That tier with a closed block 9 of channel 0, and reclaim called for. -/
def closed1 (refresh : Nat) : State :=
  fput (fput (fput (flsBlkPut (flash1 2) 9 { st := 3, refresh := refresh }) F.FLS_RECLAIM_FREE_LOW 0 60) F.FLS_CTL_RECLAIM_EN 0 1) F.FLS_CTL_REFRESH_EN 0 1

theorem witness_ReclaimRefreshPatrol : nfind (closed1 0).flash.work 0 = none ∧ chFree (closed1 0) 0 < fget (closed1 0) F.FLS_RECLAIM_FREE_LOW 0 ∧
    fbit (closed1 0) F.FLS_CTL_RECLAIM_EN 0 = true ∧ refreshPick (closed1 0) 0 = none ∧ reclaimPick (closed1 0) 0 = some 9 ∧
    refreshPick (closed1 1) 0 = some (2, 9) ∧ flashUp (closed1 1) = true ∧
    patrolNext (fput (closed1 0) F.FLS_CTL_PATROL_EN 0 1) 0 = some 9 ∧ (closed1 0).flash.due = [] ∧ chBusy (fput (closed1 0) F.FLS_CTL_PATROL_EN 0 1) 0 = false ∧ goodAt (closed1 0) 0 (some 0) = some 0 := by decide +kernel

/-! FlashCommandsComplete -/

/-- That tier with a command: OP and the rest of the word. -/
def flashRun (st op rest : Nat) : State := { flash1 st with flash := { (flash1 st).flash with cmd := some (w64 (op * 2 ^ 60 + rest)) } }

theorem witness_FlashCommands : flashUp (flashRun 2 1 0) = true ∧ (flsCmd (flashRun 2 1 0) 1).isSome = true ∧ (flsCmd (flashRun 2 2 0) 2).isSome = true ∧
    (flashRun 2 2 0).flash.due = [] ∧ (flsCmd (flashRun 2 5 0) 5).isSome = true ∧ (flsCmd (flashRun 2 3 (20 * 2 ^ 12)) 3).isSome = true ∧
    blkIn (flsChan (flash1 2) 0) 20 = true ∧ blkBad (flash1 2) 20 = false ∧ blkSys (flash1 2) 20 = false ∧ (flsBlk (flash1 2) 20).st ≠ 6 ∧
    (flsCmd (flashRun 4 4 0) 4).isSome = true ∧ fget (flashRun 4 4 0) F.FLS_STAT_STATE 0 = 4 ∧ geometryOk (flashRun 4 4 0) = true ∧
    bbit (1#64) 0 = true := by decide +kernel

/-! PacketsTakeTheirEffect -/

/-- The device with one peer, node 7, in a state, that accepts packets. -/
def peered (st : Nat) : State := pfPut (pfPut (fput (fput (fput ready F.FAB_CTL_ACCEPT 0 1) F.FAB_CTL_EN 0 1) F.FAB_PEER_BASE_COUNT 0 2) 0 16 4 7) 0 23 1 st

/-- A packet of that peer. -/
def fromPeer (p : Pkt) : Rx := { m := { port := 0, bytes := 100, ce := false, ect := false, dscp := 0, fault := 0 }, ok := true, p := { p with src := 7 } }

/-- A packet of that peer has been counted. -/
def counted : State := fadd1 (peered 1) F.FAB_PKTS_RX 0 1

theorem witness_Packets : fbit (peered 1) F.FAB_CTL_ACCEPT 0 = true ∧ peerOf (peered 1) 7 = some 0 ∧ fbit (peered 1) F.SHP_PORT_CTL_POLICE_EN 0 = false ∧
    fget counted F.GLB_STAT_PHASE 0 = 12 ∧ psnAbove 0 (rxPsn counted 0) < 4096 ∧ 0 ∉ (px counted 0).got ∧
    (placePut counted { typ := 1, src := 7 } 0 (portFar counted 0)).1.wait = false ∧ (getReq counted 0 { typ := 2, src := 7 } 0).1.wait = false ∧
    (getResp counted { typ := 3, src := 7 }).1.wait = false ∧ (placeSend counted { typ := 4, src := 7, arg := 1 } 0 0).1.wait = false ∧
    pState (pxUpd (fadd1 (peered 2) F.FAB_PKTS_RX 0 1) 0 (fun x => { x with probing := false })) 0 = 2 := by decide +kernel

theorem witness_Frames : (fromPeer {}).m.fault = 0 ∧ fbit (fput ready F.FAB_CTL_HOST_RX 0 1) F.FAB_CTL_HOST_RX 0 = true ∧ fbit ready F.FAB_CTL_HOST_RX 0 = false := by
  decide +kernel

/-! TransportTimersAndContextMessages -/

/-- That peer with one packet in flight. -/
def inFlight (u : Unacked) : State := pxUpd (fput (peered 1) F.FAB_TIMER0_RETRY_MAX 0 7) 0 (fun x => { x with un := [u] })

theorem witness_PacketTimers : 0 < (px (pxUpd (peered 1) 0 (fun x => { x with rxPkts := 1 })) 0).rxPkts ∧ unOf (inFlight { later := true }) 0 0 = some { later := true } ∧
    unOf (inFlight { rnrWait := true }) 0 0 = some { rnrWait := true } ∧ unOf (inFlight {}) 0 0 = some {} ∧
    0 + 1 < fget (pathLoss (inFlight {}) 0 0) F.FAB_TIMER0_RETRY_MAX 0 ∧ 0 < peerCount (peered 2) ∧ pState (peered 2) 0 = 2 ∧
    bits (pf (pfPut (peered 1) 0 34 2 1) 0 34 2) 0 1 = 1 ∧ (px (pxUpd (peered 1) 0 (fun x => { x with pkts := 9 })) 0).pkts ≠ 0 := by decide +kernel

theorem witness_MessageTimers : nfind ({ ready with fab := { ready.fab with gets := [(3, {})] } } : State).fab.gets 3 = some {} ∧ rxOf (rxPut ready 4 { done := true }) 4 = some { done := true } ∧
    rxOf (rxPut ready 4 {}) 4 = some {} := by decide +kernel

/-- Context 0 in PREFILL, and a message of the context service. -/
def served1 (op status id : Nat) : State := { holds (inState stPREFILL) with fab := { ready.fab with svc := [(0, ctxMsg op status 0 id 5)] } }

theorem witness_Messages : ((svcHead (served1 1 0 0) 1).map (fun e => (svcNames e.2 e.1, cstate e.2 e.1.id))) = some (true, stPREFILL) ∧
    ((svcHead (served1 2 0 0) 2).map (fun e => svcNames e.2 e.1)) = some true ∧ ((svcHead (served1 3 1 0) 3).map (fun e => (svcNames e.2 e.1, e.1.status))) = some (true, 1) ∧
    ((svcHead (served1 4 0 0) 4).map (fun e => (svcNames e.2 e.1, cstate e.2 e.1.id))) = some (true, stPREFILL) := by decide +kernel

theorem witness_Keyed : let s := memPut (fput (served1 5 0 65536) F.FAB_REGION_BASE_BASE 0 8) (8 * 65536 + 32) 32 (1 + 32)
    ((svcHead s 5).map (fun e => (e.1.id / 65536, e.1.id % 65536))) = some (1, 0) ∧ rgState (region s 1) = 1 ∧ rgSpan (region s 1) = true ∧ rgGen (region s 1) = 0 ∧
    named s (rgCtx (region s 1)) (rgInc (region s 1)) = true := by decide +kernel

/-! RegionsAndPortsComplete -/

/-- The device with region commands queued. -/
def regional (cmds : List FabCmd) (revoke : Option Nat) : State := { fput ready F.GLB_CFG_CONFIG 0 1 with fab := { ready.fab with cmds := cmds, revoke := revoke } }

/-- REGISTER of 64 bytes at address 65,536 at a free index. -/
def registerCmd : FabCmd := { cmd0 := 65536#64, cmd1 := 1#64, cmd2 := w64 (2 ^ 60 + 2 ^ 58 + 2 ^ 57 + 2 ^ 16) }

theorem witness_Register : fabHead (regional [registerCmd] none) 1 = some registerCmd ∧
    (registerResult (regional [registerCmd] none) registerCmd).isRight = true ∧ (regional [registerCmd] none).fab.revoke = none := by decide +kernel

theorem witness_Revoke : let s := memPut (regional [{ cmd0 := 0x10005#64, cmd2 := w64 (2 ^ 61) }] none) 32 32 (1 + 5 * 2 ^ 16)
    fabHead s 2 = some { cmd0 := 0x10005#64, cmd2 := w64 (2 ^ 61) } ∧ rgState (region s 1) = 1 ∧ rgGen (region s 1) = 5 ∧
    bget (0x10005#64) 0 32 = 65541 ∧ (0x10005#64).toNat / 2 ^ 32 = 0 ∧
    rgState (region (memPut (regional [] (some 1)) 32 32 (2 + 5 * 2 ^ 16)) 1) = 2 ∧ (setRegion (memPut (regional [] (some 1)) 32 32 (2 + 5 * 2 ^ 16)) 1 0).fab.revoke = some 1 := by
  decide +kernel

/-- A peer with a packet to send over port 0, which is up. -/
def sending : State := pxUpd (fput (peered 1) F.FAB_PORT_STAT_LINK 0 2) 0 (fun x => { x with wait := [{ p := { typ := 2 } }] })

/-- That peer on the wheel. -/
def paced1 : State := fput (pfPut sending 0 32 1 1) F.SHP_CTL_CREDIT_ALL 0 0

/-- Port 0 up, with one frame in its CONTROL queue. -/
def framing : State := pushPriv sending 0 1 { wire := 100 }

theorem witness_Ports : limiterReady sending 0 = true ∧ paced1.fab.peers.length = 1 ∧
    credited paced1 0 = false ∧ limiterReady paced1 0 = true ∧ portUp framing 0 = true ∧ portQuiet framing 0 = false ∧
    framing.pins.outputsStopped = false ∧ 0 ≤ privBucket framing 0 ∧ leastTag (pq framing 0) (privReady framing 0) = some 1 ∧
    fbit (fput framing F.FAB_PORT_CTL_EN 0 1) F.FAB_PORT_CTL_EN 0 = true ∧ fget (fput ready F.FAB_PORT_STAT_LINK 0 1) F.FAB_PORT_STAT_LINK 0 = 1 ∧
    fbit (fput ready F.SHP_PORT_CTL_GATE_EN 0 1) F.SHP_PORT_CTL_GATE_EN 0 = true := by decide +kernel

/-! MemberServesLatticeRequests -/

/-- A device that serves the lattice: its peer, node 7, is member 3, UP, window 0 allows every operation on frame 0 to any
composition, and composition 0 is open. -/
def latticed : State :=
  let s := fput (fput (fput (fput (peered 1) F.LAT_MEMBER_EN 3 1) F.LAT_MEMBER_STATE 3 2) F.LAT_CTL_SERVE_EN 0 1) F.CMP_CTL_EN 0 1
  let s := fput (fput (fput (fput (fput (fput s F.LAT_WIN_CTL_EN 0 1) F.LAT_WIN_CTL_READ 0 1) F.LAT_WIN_CTL_WRITE 0 1) F.LAT_WIN_CTL_ATOMIC 0 1)
    F.LAT_WIN_CTL_ANY_COMP 0 1) F.LAT_WIN_CTL_FRAMES 0 1
  cmpPut s 0 { open' := true }

/-- A lattice packet of that member. -/
def fromMember (p : LPkt) : LRx := { m := (fromPeer {}).m, ok := true, p := { p with src := 7 } }

/-- Its request of one line at address 64. -/
def lineReq (lop : Nat) : LPkt := { lop := lop, lines := 1, laddr := 64, src := 7, data := if lop = 1 then [] else List.replicate 64 5 }

/-- Such a request has been counted as a packet. -/
def latCounted : State := fadd1 latticed F.FAB_PKTS_RX 0 1

theorem witness_LatArrive : latArrive latticed (fromMember (lineReq 2)) = (latCounted, some 0) ∧ rankOf latCounted 7 = some 3 ∧ latExpect latCounted 3 = 0 ∧
    (lineReq 2).merged = false ∧ (1 : Nat) ≠ latExpect latCounted 3 := by decide +kernel

theorem witness_LatChecked : ∀ lop : Fin 5, latChecked latCounted (lineReq (lop.val + 1)) {} := by unfold latChecked; decide +kernel

theorem witness_LatPerform : let m := meter (fadd1 (compMark latCounted 0 0 {}) F.LAT_CNT_SERVED 0 1) 0 3 64
    goodLines m 64 1 = 1 ∧ writeWaits m 64 64 = false ∧ writeWaits m 64 8 = false ∧ writeDown m 64 = false ∧ flashShut m 64 = false ∧ badLineIn m 64 8 = none := by decide +kernel

/-- That device with an unanswered LOAD of one line from member 3. -/
def latAsked : State := latPut (fput latticed F.LAT_TIMER_RETRY_MAX 0 8) 9 { rank := 3, p := lineReq 1 }

theorem witness_LatAnswers : nfind (keepResp latCounted { lineReq 3 with combine := true, tag := 9 } {}).lat.kept (keptKey { lineReq 3 with combine := true, tag := 9 }) =
      some { src := 7, tag := 9, p := {} } ∧
    latArrive latAsked (fromMember { lop := 8, tag := 9 }) = (fadd1 latAsked F.FAB_PKTS_RX 0 1, some 0) ∧
    latReq (fadd1 latAsked F.FAB_PKTS_RX 0 1) 9 = some { rank := 3, p := lineReq 1 } ∧ 0 + 1 < fget latAsked F.LAT_TIMER_RETRY_MAX 0 ∧
    (let s := fput latticed F.LAT_MEMBER_STATE 3 0; rankOn s 3 = true ∧ ownRank s 3 = false ∧ rankUp s 3 = false ∧ fget s F.GLB_STAT_PHASE 0 = 12) := by decide +kernel

/-! CompositionCommandsAndMetering -/

/-- The device with composition 1 as given, and composition commands queued. -/
def composed (x : Comp) (cmds : List CmpCmd) : State :=
  let s := fput (fput ready F.GLB_CFG_CONFIG 0 1) F.CMP_CTL_EN 0 1
  cmpPut { s with cmp := { s.cmp with cmds := cmds } } 1 x

/-- A composition command for composition 1. -/
def cmpCmd (op : Nat) : CmpCmd := { cmd0 := 1#64, cmd1 := w64 (op * 2 ^ 60) }

theorem witness_Compositions : (let s := composed {} [cmpCmd 1]; cmpHead s 1 = some (cmpCmd 1) ∧ isOpen s 1 = false ∧ s.cmp.cmds = [cmpCmd 1] ∧ ccComp (cmpCmd 1) = 1) ∧
    (∀ op : Fin 6, 2 ≤ op.val → let s := composed { open' := true, prevValid := op.val == 4 } [cmpCmd op.val]
      cmpHead s op.val = some (cmpCmd op.val) ∧ isOpen s 1 = true ∧ entryFormat (cmpCmd op.val).stage = true ∧ (cmpOf s 1).prevValid = (op.val == 4)) ∧
    (let s := composed { open' := true, closing := true } []; (cmpOf s 1).closing = true ∧ oldCount s 1 = 0) ∧
    (let s := fput (composed { open' := true, prevValid := true } []) F.CMP_TIMER_QUIET_MS 0 0; (cmpOf s 1).prevValid = true ∧ oldCount s 1 = 0 ∧
      (cmpOf s 1).lastOld + fget s F.CMP_TIMER_QUIET_MS 0 * 1000000 ≤ s.now) := by decide +kernel

theorem witness_Metering : (holds { d := ds 0 D.TENANT 5 }).ctx.length = 1 ∧ objIdxs (holds { d := ds 0 D.TENANT 5 }) = [] ∧
    bbit 1#64 0 = true ∧ fbit ready F.CMP_MTR_SNAP_BUSY 0 = false ∧ fbit (fset ready F.CMP_MTR_SNAP_BUSY 0) F.CMP_MTR_SNAP_BUSY 0 = true := by decide +kernel

/-! TwinFramesAndTheMirrorComplete -/

/-- The device with twin links in use, its twin node 9, and half 0 in a pair state with this record. -/
def twinned (p : Nat) (x : TwinHalf) : State :=
  twPut (fput (fput (fput (fput ready F.TWN_CTL_EN 0 1) F.TWN_CTL_TWIN_NODE 0 9) F.TWN_HS_STAT_PAIR 0 p) F.TWN_HS_MIRROR_GIB 0 1) 0 x

/-- A frame of the twin. -/
def fromTwin (f : TwinFrame) : TwinRx := { ok := true, f := { f with node := 9 } }

/-- That device when the frame has been counted. -/
def twCounted (p : Nat) (x : TwinHalf) : State := fadd1 (twinned p x) F.TWN_HS_CNT_FRAMES 0 1

/-- The twin's mirror holds one open context with 16 log words. -/
def mirrored : TwinHalf := { mir := [(5, { d := ds (ds 0 D.STATE stPREFILL) D.LENGTH 16 })] }

theorem witness_TwinFrames : reached (twinned 2 {}) 0 8 = true ∧ (twinned 2 {}).pins.outputsStopped = false ∧ fbit (twinned 2 {}) F.TWN_CTL_EN 0 = true ∧
    (fromTwin {}).f.node = fget (twinned 2 {}) F.TWN_CTL_TWIN_NODE 0 ∧ twinAck (twCounted 2 {}) 0 0 = twCounted 2 {} ∧ pairState (twCounted 0 {}) 0 = 0 ∧
    heldHalf (twCounted 2 {}) 0 = false ∧ (tw (twCounted 2 {}) 0).unacked < 32 ∧ fenced (twCounted 2 {}) 0 = false ∧ pairState (twCounted 2 {}) 0 = 2 ∧
    (mirLine (twCounted 2 mirrored) 0 { arg := 5 }).isSome = true ∧ mirLine (twCounted 2 {}) 0 { arg := 5 } = none := by decide +kernel

theorem witness_TwinFetch : (let w := { twCounted 2 {} with twin := { (twCounted 2 {}).twin with fetches := [(3, { cid := 0 })] } }
    w.twin.fetches.find? (fun e => ctxHalf e.2.cid == 0 && e.2.line == 0 && e.2.inc == 0 && dg (cx w e.2.cid).d D.INCARNATION == 0) = some (3, { cid := 0 }) ∧ nfind w.twin.fetches 3 = some { cid := 0 }) := by
  decide +kernel

theorem witness_TwinMirror : (let x : TwinHalf := { expect := some 4 }; let w := twCounted 2 x; tw w 0 = x ∧ heldHalf w 0 = false ∧
    mirBytes (applyEnt { x with group := [{ jsn := 4, typ := 4, count := 1 }] } { jsn := 4, typ := 4, count := 1 }) ≤
      fget (twPut w 0 { x with group := [{ jsn := 4, typ := 4, count := 1 }] }) F.TWN_HS_MIRROR_GIB 0 * 2 ^ 30 ∧ (5 : Nat) ≠ nextJsn (tw w 0) 5) ∧
    (tw (twinned 2 { unacked := 3 }) 0).unacked ≠ 0 := by decide +kernel

/-! VotesFencingAndTakeover -/

/-- The device with twin links in use, half 0 having asked for a vote as given. -/
def asking (suspended : Bool) (ask : Nat) : State := twinned 2 { suspended := suspended, ask := ask }

theorem witness_Votes : (let w := twCounted 2 { suspended := true, ask := 6 }; fenced w 0 = false ∧ fget w F.TWN_LEAD_LEADER 0 = 0 ∧ w.twin.vote = none ∧
      (tw w 0).suspended = true ∧ (tw w 0).ask = 6) ∧ epochNewer 7 6 = true ∧ epochNewer 6 6 = false ∧ epochNewer 5 6 = false := by decide +kernel

theorem witness_Loss : (let s := fput (twinned 2 {}) F.TWN_LEAD_D2D_UP 0 1; s.twin.lost = false ∧ fbit s F.TWN_LEAD_D2D_UP 0 = true ∧ fbit (cutHalves s) F.TWN_CTL_EN 0 = true ∧
      fbit (cutHalves (fput s F.TWN_CTL_EN 0 0)) F.TWN_CTL_EN 0 = false) ∧
    (let s := fput { ready with twin := { ready.twin with lost := true } } F.TWN_LEAD_FENCED_B 0 1; s.twin.lost = true ∧ fenced s 1 = true ∧ fenced s 0 = false ∧
      (tw s 0).suspended = false ∧ fbit s F.TWN_CTL_FENCE_MODE 0 = false ∧ fget s F.TWN_LEAD_LEADER 0 = 0) := by decide +kernel

/-- A LOST half whose twin gave up, with a TWN command queued. -/
def takeable (op : Nat) : State :=
  let s := fset (fset (twinned 3 { peerRole := roleCode ready }) F.TWN_HS_STAT_MIRROR_OK 0) F.TWN_HS_STAT_GAVE_UP 0
  { s with twin := { s.twin with cmds := [w64 (op * 2 ^ 60)] } }

theorem witness_Takeover : twnHead (takeable 1) 1 = some (w64 (2 ^ 60)) ∧ takeRefusal (takeable 1) 0 false = 0 ∧ (takeAll (takeable 1) 0 0 []).1 = 0 ∧ (tw (takeable 1) 0).mir = [] ∧
    twnHead (takeable 2) 2 = some (w64 (2 * 2 ^ 60)) ∧ pairState (takeable 2) 0 ≠ 0 ∧ bget (w64 (2 * 2 ^ 60)) 59 1 = 0 ∧ bbit (w64 (2 ^ 60)) 58 = false := by decide +kernel

/-! IntegrityTestAndAgeingComplete -/

/-- The device with a frame that waits for its poison test. -/
def poisoned : State := setUse ready 9 4

theorem witness_Poison : frameUse poisoned 9 = 4 ∧ stackRetired poisoned (addrStack (keyAddr 9)) = false ∧ stroking poisoned (addrStack (keyAddr 9)) = false := by decide +kernel

theorem witness_Repair : (let s := fput (fput { ready with int0 := { ready.int0 with fails := [(0, 0), (0, 0)] } } F.INT_CTL_REPAIR_EN 0 1) F.INT_CTL_REPAIR_H 0 1
    fbit s F.INT_CTL_REPAIR_EN 0 = true ∧ stackRetired s 0 = false ∧ stroking s 0 = false ∧ 2 ≤ rowFails s 0 (bankOf 0) (rowOf 0)) := by decide +kernel

/-- The device with an INT command that waits to be run. -/
def intWaits (s : State) (op arg : Nat) : State := { fset s F.INT_CMD_STAT_BUSY 0 with int0 := { s.int0 with op := op, arg := arg } }

theorem witness_IntCommands : intHead (intWaits ready 2 0) 2 = true ∧ intHead (intWaits ready 3 0) 3 = true ∧ islState ready 0 ≠ 3 ∧ intHead (intWaits ready 4 0) 4 = true ∧
    intHead (intWaits (object 1) 1 1) 1 = true ∧ (1 : Nat) < fget (object 1) F.TIE_OBJ_BASE_COUNT 0 ∧ oState (obj (object 1) 1) = 1 ∧ objFrames (object 1) 1 = [] ∧ covered (object 1) [] = false ∧
    ready.tie.share = [] ∧ tableRefs ready = [] ∧ setRefs ready = [] ∧ unnamed (shareRewrite (shareRewrite ready 0) 1) = [] := by decide +kernel

theorem witness_Tests : (let s := fput (fput ready F.INT_CTL_TEST_EN 0 1) F.INT_TEST_IDLE_T 0 0; (til s 0).item = none ∧ (til s 0).taken = none ∧ (til s 0).loading = none ∧ islState s 0 = 0 ∧
      fbit s F.INT_CTL_TEST_EN 0 = true ∧ (til s 0).deque = [] ∧ fget s F.INT_TEST_IDLE_T 0 * 1000 ≤ tcyc s 0 - (til s 0).idleCyc) ∧
    (let s := fput ready F.ISL_CLK_STAT_STATE 0 2; islState s 0 = 2 ∧ (til s 0).bad = [] ∧ (til s 0).sigBad = none ∧ (til s 0).testAll = false) ∧ fbit (fput ready F.INT_CTL_LOG_EN 0 0) F.INT_CTL_LOG_EN 0 = false := by
  decide +kernel

theorem witness_Ageing : fbit (fput ready F.AGE_CTL_EN 0 1) F.AGE_CTL_EN 0 = true ∧
    (let s := ageUpd (fput (fput ready F.AGE_ISL_PLAN_VOFF 3 2) F.ISL_CLK_STAT_CEIL 3 1000) 3 (fun x => { x with next := some (4, 1025) });
      (ageIsl s 3).next = some (4, 1025) ∧ (ageIsl s 3).old = none ∧ fget s F.AGE_ISL_PLAN_VOFF 3 < 4 ∧ fget s F.ISL_CLK_STAT_CEIL 3 < 1025) := by decide +kernel

/-! ResetsAndTheStartOrderComplete -/

/-- The device at a phase, in no reset. -/
def phased (n : Nat) : State := fput { ready with start := { ready.start with held := false } } F.GLB_STAT_PHASE 0 n

/-- A device with one registrar, peer 0. -/
def registering : State := fput (fput (phased 12) F.GLB_DISC_CTL_REG0 0 0) F.GLB_DISC_CTL_REG1 0 65535

/-- Its discovery frame. -/
def frame0 : Disc := { frame := 0, slot := 0, reg0 := 0, reg1 := 65535, tries := 1 }

theorem witness_Resets : fbit (fput ready F.GLB_CFG_PERST_SCOPE 0 0) F.GLB_CFG_PERST_SCOPE 0 = false ∧ fbit (fput ready F.GLB_CFG_PERST_SCOPE 0 1) F.GLB_CFG_PERST_SCOPE 0 = true ∧
    deviceStarting (phased 12) = false ∧ halfStarting (phased 12) 1 = false ∧ hostReach (phased 12) = true ∧ bget (w64 (0xC9C9 * 2 ^ 48 + 1)) 48 16 = 0xC9C9 ∧
    bget (w64 (0xC9C9 * 2 ^ 48 + 1)) 0 2 = 1 ∧ (holdReset ready).start.held = true ∧ (holdReset ready).pins.thermTrip = false := by decide +kernel

theorem witness_Starts : (phased 1).start.held = false ∧ (phased 1).pins.outputsStopped = false ∧ fget (phased 1) F.GLB_STAT_PHASE 0 = 1 ∧
    accepts { phased 3 with image0 := { signed := true, valid := true } } { signed := true, valid := true } = true ∧
    (let s := fput (fput (phased 11) F.GLB_DISC_CTL_REG0 0 65535) F.GLB_DISC_CTL_REG1 0 65535; registrars s = [] ∧ registrars (windowsGo (goTo (stampStep s 11) 12)) = []) := by decide +kernel

theorem witness_Discovery : announces registering = true ∧ registrars registering = [0] ∧ registering.start.disc = none ∧ frame0.sent = false ∧ frame0.reg0 ≠ 65535 ∧ frame0.reg1 = 65535 ∧
    takeStew registering 2 = registering ∧ (let s := fput (fset registering F.GLB_STAT_DISCOVERED 0) F.GLB_DISC_STAT_REG_MS 0 5
    fbit s F.GLB_STAT_DISCOVERED 0 = true ∧ fget s F.GLB_DISC_STAT_REG_MS 0 ≠ 0 ∧ registrars s = [0]) := by decide +kernel

/-! HostRequestsAreTakenAndAnswered -/

/-- Function 0 with request ring 0 of four entries at host address 4096, its completion ring and everything it needs enabled, one entry
posted, and context 0 as given; host software has written the entry. -/
def requested (x : Ctx) (e : List Byte) : State :=
  let s := fput (fput (fput (holds x) F.HST_CTL_EN 0 1) F.HST_REQ_CTL_EN 0 1) F.HST_REQ_CTL_SIZE 0 2
  let s := fput (fput (fput (fput s F.HST_REQ_BASE_BASE 0 1) F.HST_REQ_PTR_HOST 0 1) F.HST_CPL_CTL_EN 0 1) F.HST_CPL_CTL_SIZE 0 2
  { s with hostMem := nputs (fun _ => 0) [] 4096 e }

/-- An entry: OP, FLAGS, and four words from byte 16 on. -/
def entryOf (op flags a b : Nat) : List Byte := toBytes 1 op ++ toBytes 15 flags ++ toBytes 4 a ++ toBytes 4 b

theorem witness_Requests : (reqHead (requested {} (entryOf 2 0 0 0)) 0).map (fun e => bits e 0 8) = some 2 ∧
    (∀ op : Fin 4, (reqHead (requested (inState stOPEN) (entryOf (op.val + 3) 0 0 0)) 0).map (fun e => (bits e 0 8, reqCtx (reqTake (requested (inState stOPEN) (entryOf (op.val + 3) 0 0 0)) 0 1 e) 0 e)) =
      some (op.val + 3, some 0)) ∧
    (reqHead (requested (inState stOPEN) (entryOf 3 0 0 0)) 0).map (fun e => (appendFormat e, modifyFormat e, cancelFormat e)) = some (false, false, false) := by decide +kernel

theorem witness_Append : ∀ e, e = 3 → let w := reqTake (requested (inState stOPEN) (entryOf 3 0 0 0)) 0 1 e
    w.descBad = [] ∧ dg (cx w 0).d D.STATE = stOPEN ∧ dg (cx w 0).d D.LENGTH + bits e 128 32 ≤ dg (cx w 0).d D.MAX_LEN ∧ appendWords w e = some [] := by
  intro e he
  subst he
  decide +kernel

theorem witness_Cancel : (cancelCtx (holds (inState stREADY)) 0).1 = anACCEPTED ∧ (cancelCtx (holds (inState stCLOSED)) 0).1 ≠ anACCEPTED := by decide +kernel

theorem witness_ReadLog : (let x := inState stREADY; let d := ds (ds x.d D.LENGTH 4) D.LOG_DIR 65536; let w := holds { x with d := d }
    readFormat (6 + 1 * 2 ^ 160) = false ∧ named w 0 0 = true ∧ dg (cx w 0).d D.STATE ≠ stCLOSED ∧ (0 : Nat) + 1 ≤ dg (cx w 0).d D.LENGTH ∧ badFrom w 0 0 1 = none) := by decide +kernel

/-- A device that opens contexts in half 0: it has log and page-table space. -/
def opening : State :=
  let s := fput (fput (fput (requested {} (entryOf 1 1 0 0)) F.CTX_CTL_OPEN_EN 0 1) F.CTX_POOL_SIZE_LOG 0 4) F.CTX_POOL_SIZE_PT 0 4
  fput (fput s F.HST_FN_OPEN_EN 0 1) F.HST_FN_PARTS 0 255

/-- A span geometry that has no room of its own to ask for: one layer, one head, 64 positions. -/
def opened : OpenReq := { half := 1, d := ds (ds 0 D.MAX_LEN 64) D.PPS 1 }

theorem fit_some {size n : Nat} (cand : Nat) (h : n ≤ size) : ∃ u, fitUnits [] size n cand = some u := by
  simp only [fitUnits, List.all_nil, Bool.and_true, List.map_nil]
  by_cases hc : cand % max size 1 + n ≤ size
  · exact ⟨cand % max size 1, by rw [List.filter_cons_of_pos (by simpa using hc)]; rfl⟩
  · exact ⟨0, by rw [List.filter_cons_of_neg (by simpa using hc), List.filter_cons_of_pos (by simpa using h)]; rfl⟩

theorem room_ok {s : State} {h n : Nat} (e : (poolOf s h).pt = []) (hn : cdiv n 64 ≤ fget s F.CTX_POOL_SIZE_PT h * 1024) : ∃ y, takePt s h n = some y := by
  obtain ⟨u, hu⟩ := fit_some (choiceOf s 15) hn
  unfold takePt
  dsimp only
  rw [e, hu]
  exact ⟨_, rfl⟩

theorem witness_OpenRefusal : openRefusal opening 0 opened.d = none := by
  obtain ⟨y, hy⟩ := room_ok (s := opening) (h := 0) (n := ptBytes (dStreams opened.d) (dg opened.d D.PPS)) (by decide +kernel) (by decide +kernel)
  unfold openRefusal
  dsimp only
  rw [if_neg (by decide +kernel), if_neg (by decide +kernel), if_neg (by decide +kernel), hy,
    if_neg (show ¬ (some y).isNone = true from Bool.false_ne_true), if_neg (by decide +kernel), if_neg (by decide +kernel)]

theorem witness_Opens : fbit opening F.CTX_CTL_OPEN_EN 0 = true ∧ openHalf opening 1 = 0 ∧ kindOk opening 0 = true ∧ opened.stopIova = 0 ∧
    ringEn opening .req 0 = true ∧ 0 < ringSize opening .req 0 := by decide +kernel

/-- An OPEN of 64 positions and its OPEN_EXT, both posted. -/
def openWord : Nat := 1 + 2 ^ 8 + 64 * 2 ^ 128

/-- The device that has them in its ring. -/
def openRing : State := { fput opening F.HST_REQ_PTR_HOST 0 2 with hostMem := nputs (fun _ => 0) [] 4096 (toBytes 64 openWord ++ toBytes 64 2) }

theorem witness_OpenEntry : reqHead openRing 0 = some openWord ∧ bits openWord 0 8 = 1 ∧ bits openWord 8 1 = 1 ∧
    (fget openRing F.HST_REQ_PTR_DEV 0 + 1) % reqSize openRing 0 ≠ fget openRing F.HST_REQ_PTR_HOST 0 ∧ reqEntry openRing 0 (fget openRing F.HST_REQ_PTR_DEV 0 + 1) = 2 ∧
    openFormat openWord 2 = false ∧ fbit (reqTake openRing 0 2 openWord) F.HST_FN_OPEN_EN 0 = true ∧
    bits (fget (reqTake openRing 0 2 openWord) F.HST_FN_PARTS 0) (bits openWord 227 3) 1 = 1 := by decide +kernel

theorem open_ok {s : State} {r : OpenReq} {h : Nat} {z : Nat × State} (hh : openHalf s r.half = h) (h1 : fbit s F.CTX_CTL_OPEN_EN h = true) (h2 : kindOk s (dg r.d D.KIND) = true)
    (h3 : openRefusal s h r.d = none) (h4 : r.stopIova = 0) (h5 : openAs s h (openCtxOf r 0) [] = some z) : openCtxReq s r = (rqOK, z.1, z.2) := by
  rw [openCtxReq, hh, h1, h2, h3, if_neg (by decide), if_neg (by decide)]
  show openCtxDo s h r = _
  rw [openCtxDo, if_neg (by simp [h4]), openStop, if_pos h4, if_pos h4, openCtxAs, h5]
  rfl

theorem witness_OpenTaken : ∃ c v, openCtxReq (reqTake openRing 0 2 openWord) (openReq (reqTake openRing 0 2 openWord) 0 openWord 2) = (rqOK, c, v) := by
  have h0 : openHalf (reqTake openRing 0 2 openWord) (openReq (reqTake openRing 0 2 openWord) 0 openWord 2).half = 0 := by decide +kernel
  obtain ⟨y, hy⟩ := room_ok (s := reqTake openRing 0 2 openWord) (h := 0) (n := ptBytes (dStreams (openReq (reqTake openRing 0 2 openWord) 0 openWord 2).d)
    (dg (openReq (reqTake openRing 0 2 openWord) 0 openWord 2).d D.PPS)) (by decide +kernel) (by decide +kernel)
  have hr : openRefusal (reqTake openRing 0 2 openWord) 0 (openReq (reqTake openRing 0 2 openWord) 0 openWord 2).d = none := by
    unfold openRefusal
    dsimp only
    rw [if_neg (by decide +kernel), if_neg (by decide +kernel), if_neg (by decide +kernel), hy,
    if_neg (show ¬ (some y).isNone = true from Bool.false_ne_true), if_neg (by decide +kernel), if_neg (by decide +kernel)]
  have hs : (openReq (reqTake openRing 0 2 openWord) 0 openWord 2).stopIova = 0 := by decide +kernel
  have hd : ptBytes (dStreams (openCtxOf (openReq (reqTake openRing 0 2 openWord) 0 openWord 2) 0).d) (dg (openCtxOf (openReq (reqTake openRing 0 2 openWord) 0 openWord 2) 0).d D.PPS) =
      ptBytes (dStreams (openReq (reqTake openRing 0 2 openWord) 0 openWord 2).d) (dg (openReq (reqTake openRing 0 2 openWord) 0 openWord 2).d D.PPS) := by decide +kernel
  have ho : ∃ z, openAs (reqTake openRing 0 2 openWord) 0 (openCtxOf (openReq (reqTake openRing 0 2 openWord) 0 openWord 2) 0) [] = some z := by
    unfold openAs
    dsimp only
    rw [hd, hy]
    exact ⟨_, rfl⟩
  obtain ⟨z, hz⟩ := ho
  exact ⟨z.1, z.2, open_ok h0 (by decide +kernel) (by decide +kernel) hr hs hz⟩

/-! RingsOfTheHostPortComplete -/

/-- Function 0 with every ring enabled, four entries each. -/
def ringed : State :=
  let s := fput (fput (fput (fput ready F.HST_CPL_CTL_EN 0 1) F.HST_CPL_CTL_SIZE 0 2) F.HST_RX_CTL_EN 0 1) F.HST_RX_CTL_SIZE 0 2
  fput (fput s F.HST_TX_CTL_EN 0 1) F.HST_TX_CTL_SIZE 0 2

theorem witness_Rings : hostReach ringed = true ∧ ringEn ringed .cpl 0 = true ∧ ringEn ringed .rx 0 = true ∧ ringEn ringed .tx 0 = true ∧ bget 3#64 0 16 = 3 ∧
    3 < ringSize ringed .cpl 0 ∧ 3 < ringSize ringed .rx 0 ∧ 3 < ringSize ringed .tx 0 ∧ halfQuiet ringed 0 = false ∧ txList (txPut ringed 0 [{ st := 1 }]) 0 = [{ st := 1 }] ∧
    cplFree (setSpill ringed [{ ring := 0, slot := 0 }]) 0 = true ∧ fget (fput ringed F.HST_CPL_CTL_COAL_US 0 5) F.HST_CPL_CTL_COAL_US 0 ≠ 0 ∧
    (cplOf (setCpl ringed 0 { coal := 1 }) 0).coal ≠ 0 ∧ ringEn ready .req 0 = false ∧ (0 : Nat) < ringCount .req ∧ ready.start.held = (ready.start.held && true) := by decide +kernel

theorem witness_Flr : (let w := recordsGone (ringsOff (holds (inState stREADY)) 0) 0; ctxsOf w 0 ++ ctxsOf w 1 = [0] ∧ (cx w 0).fn = 0 ∧ cstate w 0 ≠ stFREE) ∧
    (phased 12).start.held = false ∧ ready.pins.outputsStopped = false := by decide +kernel

/-! ManagementCommandsAreAnswered -/

theorem witness_Mctp : mctpUp ready = true ∧ ready.pins.outputsStopped = false ∧ (9 : Byte) ≠ 0 ∧ (9 : Byte) ≠ 0xFF ∧ ready.pins.pwrBrake = false ∧
    deviceStarting (mctpAnswer (phased 12) 6 []) = false ∧ mctpUp (phased 12) = true := by decide +kernel

/-! SecurityAndTestPortComplete -/

/-- The device with a key command that runs. -/
def secRuns (op c : Nat) : State := { fset (flash1 4) F.SEC_CMD_STAT_BUSY 0 with sec := { ready.sec with cmd := some (op, c) } }

theorem witness_Security : bbit 1#64 0 = true ∧ fbit ready F.SEC_QUOTE_BUSY 0 = false ∧
    ({ ready.sec with quote := some [] } : Sec).quote = some [] ∧ secHead (secRuns 1 0xC9C9) 1 = some 0xC9C9 ∧ secHead (secRuns 2 0) 2 = some 0 ∧
    fget (secRuns 2 0) F.FLS_STAT_STATE 0 = 4 ∧ geometryOk (secRuns 2 0) = true ∧ secHead (secRuns 3 0) 3 = some 0 ∧
    hostFails (secRuns 3 0) (fget (secRuns 3 0) F.SEC_TOKEN_ADDR 0 * 64) 128 = false ∧ ({ ready.pins with sysRst := true } : Pins).sysRst = true ∧ ready.pins.sysRst = false := by decide +kernel
/-! ### Well-formedness: a good term, and an ill-formed one for each check -/

/-- Offsets and sizes of register accesses. -/
theorem test_wf_registers : Instr.wf (.registerWrite 0 0x10000 0) = true ∧
    Instr.wf (.registerWrite 0 0x4000000 0) = false ∧
    Instr.wf (.registerWrite 1 0x10000 0) = false ∧
    Instr.wf (.misalignedAccess false 0x4000001 4) = false ∧
    Instr.wf (.misalignedAccess false 4 0) = false ∧
    Instr.wf (.misalignedAccess false 8 8) = false ∧
    Instr.wf (.rcFieldRead 0 0x4000000) = false ∧
    Instr.wf (.rcFieldRead 1 0x10000) = false := by decide +kernel

/-- Fields of the transport header, and of an arriving frame. -/
theorem test_wf_packets : Instr.wf (.ack { m := { port := 0, bytes := 100, ce := false, ect := false, dscp := 0, fault := 0 }, ok := true, p := {} }) = true ∧
    Instr.wf (.ack { m := { port := 0, bytes := 100, ce := false, ect := false, dscp := 0, fault := 0 }, ok := true, p := { typ := 2 ^ 4 } }) = false ∧
    Instr.wf (.ack { m := { port := 0, bytes := 100, ce := false, ect := false, dscp := 0, fault := 0 }, ok := true, p := { cls := 2 ^ 3 } }) = false ∧
    Instr.wf (.ack { m := { port := 0, bytes := 100, ce := false, ect := false, dscp := 0, fault := 0 }, ok := true, p := { tenant := 2 ^ 6 } }) = false ∧
    Instr.wf (.ack { m := { port := 0, bytes := 100, ce := false, ect := false, dscp := 0, fault := 0 }, ok := true, p := { src := 2 ^ 32 } }) = false ∧
    Instr.wf (.ack { m := { port := 0, bytes := 100, ce := false, ect := false, dscp := 0, fault := 0 }, ok := true, p := { psn := 2 ^ 32 } }) = false ∧
    Instr.wf (.ack { m := { port := 0, bytes := 100, ce := false, ect := false, dscp := 0, fault := 0 }, ok := true, p := { msg := 2 ^ 32 } }) = false ∧
    Instr.wf (.ack { m := { port := 0, bytes := 100, ce := false, ect := false, dscp := 0, fault := 0 }, ok := true, p := { key := 2 ^ 32 } }) = false ∧
    Instr.wf (.ack { m := { port := 0, bytes := 100, ce := false, ect := false, dscp := 0, fault := 0 }, ok := true, p := { seg := 2 ^ 32 } }) = false ∧
    Instr.wf (.ack { m := { port := 0, bytes := 100, ce := false, ect := false, dscp := 0, fault := 0 }, ok := true, p := { total := 2 ^ 32 } }) = false ∧
    Instr.wf (.ack { m := { port := 0, bytes := 100, ce := false, ect := false, dscp := 0, fault := 0 }, ok := true, p := { roff := 2 ^ 64 } }) = false ∧
    Instr.wf (.ack { m := { port := 0, bytes := 100, ce := false, ect := false, dscp := 0, fault := 0 }, ok := true, p := { epoch := 2 ^ 16 } }) = false ∧
    Instr.wf (.ack { m := { port := 0, bytes := 100, ce := false, ect := false, dscp := 0, fault := 0 }, ok := true, p := { comp := 2 ^ 10 } }) = false ∧
    Instr.wf (.ack { m := { port := 0, bytes := 100, ce := false, ect := false, dscp := 0, fault := 0 }, ok := true, p := { arg := 2 ^ 32 } }) = false ∧
    Instr.wf (.ack { m := { port := 0, bytes := 100, ce := false, ect := false, dscp := 0, fault := 0 }, ok := true, p := { data := [0] } }) = false ∧
    Instr.wf (.ack { m := { port := 0, bytes := 100, ce := false, ect := false, dscp := 0, fault := 0 }, ok := true, p := { data := List.replicate 4160 0 } }) = false ∧
    Instr.wf (.ack { m := { port := 0, bytes := 9217, ce := false, ect := false, dscp := 0, fault := 0 }, ok := true, p := {} }) = false ∧
    Instr.wf (.ack { m := { port := 0, bytes := 100, ce := false, ect := false, dscp := 64, fault := 0 }, ok := true, p := {} }) = false ∧
    Instr.wf (.ack { m := { port := 0, bytes := 100, ce := false, ect := false, dscp := 0, fault := 3 }, ok := true, p := {} }) = false := by decide +kernel

/-- Every kind of packet is checked. -/
theorem test_wf_packet_kinds : Instr.wf (.put { m := { port := 0, bytes := 100, ce := false, ect := false, dscp := 0, fault := 0 }, ok := true, p := { typ := 16 } }) = false ∧
    Instr.wf (.getReq { m := { port := 0, bytes := 100, ce := false, ect := false, dscp := 0, fault := 0 }, ok := true, p := { typ := 16 } }) = false ∧
    Instr.wf (.getResp { m := { port := 0, bytes := 100, ce := false, ect := false, dscp := 0, fault := 0 }, ok := true, p := { typ := 16 } }) = false ∧
    Instr.wf (.send { m := { port := 0, bytes := 100, ce := false, ect := false, dscp := 0, fault := 0 }, ok := true, p := { typ := 16 } }) = false ∧
    Instr.wf (.nack { m := { port := 0, bytes := 100, ce := false, ect := false, dscp := 0, fault := 0 }, ok := true, p := { typ := 16 } }) = false ∧
    Instr.wf (.doneMsg { m := { port := 0, bytes := 100, ce := false, ect := false, dscp := 0, fault := 0 }, ok := true, p := { typ := 16 } }) = false ∧
    Instr.wf (.abortMsg { m := { port := 0, bytes := 100, ce := false, ect := false, dscp := 0, fault := 0 }, ok := true, p := { typ := 16 } }) = false ∧
    Instr.wf (.probe { m := { port := 0, bytes := 100, ce := false, ect := false, dscp := 0, fault := 0 }, ok := true, p := { typ := 16 } }) = false ∧
    Instr.wf (.probeReply { m := { port := 0, bytes := 100, ce := false, ect := false, dscp := 0, fault := 0 }, ok := true, p := { typ := 16 } }) = false ∧
    Instr.wf (.frameReceive { m := { port := 0, bytes := 100, ce := false, ect := false, dscp := 0, fault := 0 }, forUs := true, p := { typ := 16 }, ptp := false, frame := [] }) = false ∧
    Instr.wf (.frameReceive { m := { port := 0, bytes := 100, ce := false, ect := false, dscp := 0, fault := 0 }, forUs := true, p := {}, ptp := false, frame := List.replicate 9213 0 }) = false := by decide +kernel

/-- Fields of the lattice header. -/
theorem test_wf_lattice : Instr.wf (.lack { m := { port := 0, bytes := 100, ce := false, ect := false, dscp := 0, fault := 0 }, ok := true, p := {} }) = true ∧
    Instr.wf (.lack { m := { port := 0, bytes := 100, ce := false, ect := false, dscp := 0, fault := 0 }, ok := true, p := { lop := 2 ^ 8 } }) = false ∧
    Instr.wf (.lack { m := { port := 0, bytes := 100, ce := false, ect := false, dscp := 0, fault := 0 }, ok := true, p := { cls := 2 ^ 3 } }) = false ∧
    Instr.wf (.lack { m := { port := 0, bytes := 100, ce := false, ect := false, dscp := 0, fault := 0 }, ok := true, p := { tenant := 2 ^ 6 } }) = false ∧
    Instr.wf (.lack { m := { port := 0, bytes := 100, ce := false, ect := false, dscp := 0, fault := 0 }, ok := true, p := { src := 2 ^ 32 } }) = false ∧
    Instr.wf (.lack { m := { port := 0, bytes := 100, ce := false, ect := false, dscp := 0, fault := 0 }, ok := true, p := { lsn := 2 ^ 32 } }) = false ∧
    Instr.wf (.lack { m := { port := 0, bytes := 100, ce := false, ect := false, dscp := 0, fault := 0 }, ok := true, p := { lines := 2 ^ 16 } }) = false ∧
    Instr.wf (.lack { m := { port := 0, bytes := 100, ce := false, ect := false, dscp := 0, fault := 0 }, ok := true, p := { tag := 2 ^ 32 } }) = false ∧
    Instr.wf (.lack { m := { port := 0, bytes := 100, ce := false, ect := false, dscp := 0, fault := 0 }, ok := true, p := { ctag := 2 ^ 32 } }) = false ∧
    Instr.wf (.lack { m := { port := 0, bytes := 100, ce := false, ect := false, dscp := 0, fault := 0 }, ok := true, p := { status := 2 ^ 8 } }) = false ∧
    Instr.wf (.lack { m := { port := 0, bytes := 100, ce := false, ect := false, dscp := 0, fault := 0 }, ok := true, p := { laddr := 2 ^ 64 } }) = false ∧
    Instr.wf (.lack { m := { port := 0, bytes := 100, ce := false, ect := false, dscp := 0, fault := 0 }, ok := true, p := { epoch := 2 ^ 16 } }) = false ∧
    Instr.wf (.lack { m := { port := 0, bytes := 100, ce := false, ect := false, dscp := 0, fault := 0 }, ok := true, p := { comp := 2 ^ 10 } }) = false ∧
    Instr.wf (.lack { m := { port := 0, bytes := 100, ce := false, ect := false, dscp := 0, fault := 0 }, ok := true, p := { arg := 2 ^ 32 } }) = false ∧
    Instr.wf (.lack { m := { port := 0, bytes := 100, ce := false, ect := false, dscp := 0, fault := 0 }, ok := true, p := { data := [0] } }) = false ∧
    Instr.wf (.lack { m := { port := 0, bytes := 100, ce := false, ect := false, dscp := 0, fault := 0 }, ok := true, p := { data := List.replicate 4160 0 } }) = false ∧
    Instr.wf (.latticeLoad { m := { port := 0, bytes := 100, ce := false, ect := false, dscp := 0, fault := 0 }, ok := true, p := { lop := 256 } }) = false ∧
    Instr.wf (.latticeStore { m := { port := 0, bytes := 100, ce := false, ect := false, dscp := 0, fault := 0 }, ok := true, p := { lop := 256 } }) = false ∧
    Instr.wf (.add64 { m := { port := 0, bytes := 100, ce := false, ect := false, dscp := 0, fault := 0 }, ok := true, p := { lop := 256 } }) = false ∧
    Instr.wf (.swap64 { m := { port := 0, bytes := 100, ce := false, ect := false, dscp := 0, fault := 0 }, ok := true, p := { lop := 256 } }) = false ∧
    Instr.wf (.cas64 { m := { port := 0, bytes := 100, ce := false, ect := false, dscp := 0, fault := 0 }, ok := true, p := { lop := 256 } }) = false ∧
    Instr.wf (.latticeResp { m := { port := 0, bytes := 100, ce := false, ect := false, dscp := 0, fault := 0 }, ok := true, p := { lop := 256 } }) = false ∧
    Instr.wf (.lprobe { m := { port := 0, bytes := 100, ce := false, ect := false, dscp := 0, fault := 0 }, ok := true, p := { lop := 256 } }) = false ∧
    Instr.wf (.lprobeReply { m := { port := 0, bytes := 100, ce := false, ect := false, dscp := 0, fault := 0 }, ok := true, p := { lop := 256 } }) = false := by decide +kernel

/-- Fields of a twin frame and of a journal entry. -/
theorem test_wf_twin : Instr.wf (.jack 0 { ok := true, f := {} }) = true ∧
    Instr.wf (.jack 0 { ok := true, f := { typ := 2 ^ 4 } }) = false ∧
    Instr.wf (.jack 0 { ok := true, f := { node := 2 ^ 32 } }) = false ∧
    Instr.wf (.jack 0 { ok := true, f := { jsn := 2 ^ 64 } }) = false ∧
    Instr.wf (.jack 0 { ok := true, f := { ack := 2 ^ 64 } }) = false ∧
    Instr.wf (.jack 0 { ok := true, f := { arg := 2 ^ 32 } }) = false ∧
    Instr.wf (.jack 0 { ok := true, f := { incarn := 2 ^ 16 } }) = false ∧
    Instr.wf (.jack 0 { ok := true, f := { role := 2 ^ 8 } }) = false ∧
    Instr.wf (.jack 0 { ok := true, f := { pair := 2 ^ 8 } }) = false ∧
    Instr.wf (.jack 0 { ok := true, f := { boot := 2 ^ 32 } }) = false ∧
    Instr.wf (.jack 0 { ok := true, f := { taken := 2 ^ 32 } }) = false ∧
    Instr.wf (.jack 0 { ok := true, f := { line := List.replicate 65 0 } }) = false ∧
    Instr.wf (.jack 0 { ok := true, f := { ents := List.replicate 129 {} } }) = false ∧
    Instr.wf (.jack 0 { ok := true, f := { ents := [{ jsn := 2 ^ 64 }] } }) = false ∧
    Instr.wf (.jack 0 { ok := true, f := { ents := [{ typ := 2 ^ 8 }] } }) = false ∧
    Instr.wf (.jack 0 { ok := true, f := { ents := [{ count := 2 ^ 16 }] } }) = false ∧
    Instr.wf (.jack 0 { ok := true, f := { ents := [{ obj := 2 ^ 32 }] } }) = false ∧
    Instr.wf (.jack 0 { ok := true, f := { ents := [{ incarn := 2 ^ 16 }] } }) = false ∧
    Instr.wf (.jack 0 { ok := true, f := { ents := [{ arg := 2 ^ 32 }] } }) = false ∧
    Instr.wf (.jack 0 { ok := true, f := { ents := [{ data := 2 ^ 160 * 2 ^ 160 }] } }) = false ∧
    Instr.wf (.hello 0 { ok := true, f := { typ := 16 } }) = false ∧
    Instr.wf (.journal 0 { ok := true, f := { typ := 16 } }) = false ∧
    Instr.wf (.fetch 0 { ok := true, f := { typ := 16 } }) = false ∧
    Instr.wf (.fetchData 0 { ok := true, f := { typ := 16 } }) = false ∧
    Instr.wf (.voteReq 0 { ok := true, f := { typ := 16 } }) = false ∧
    Instr.wf (.vote 0 { ok := true, f := { typ := 16 } }) = false ∧
    Instr.wf (.giveup 0 { ok := true, f := { typ := 16 } }) = false := by decide +kernel

/-- Peers and PSNs of the transport timers. -/
theorem test_wf_peers : Instr.wf (.ackTimer 65536) = false ∧
    Instr.wf (.reorderTimer 65536 0) = false ∧
    Instr.wf (.reorderTimer 0 4294967296) = false ∧
    Instr.wf (.retransmitTimeout 65536 0) = false ∧
    Instr.wf (.retransmitTimeout 0 4294967296) = false ∧
    Instr.wf (.rnrRetry 65536 0) = false ∧
    Instr.wf (.rnrRetry 0 4294967296) = false ∧
    Instr.wf (.probeTimer 65536) = false ∧
    Instr.wf (.pathHoldEnd 65536 0) = false ∧
    Instr.wf (.rateUpdate 65536) = false ∧
    Instr.wf (.peerEnable 65536) = false ∧
    Instr.wf (.limiterRelease 65536) = false := by decide +kernel

/-- Answers of the row service and messages of a migration. -/
theorem test_wf_rows : Instr.wf (.migrationReplay { peer := 0, table := 0, row := 0, kind := 0, version := 0, data := [] }) = true ∧
    Instr.wf (.migrationReplay { peer := 65536, table := 0, row := 0, kind := 0, version := 0, data := [] }) = false ∧
    Instr.wf (.migrationReplay { peer := 0, table := 1024, row := 0, kind := 0, version := 0, data := [] }) = false ∧
    Instr.wf (.migrationReplay { peer := 0, table := 0, row := 2 ^ 40, kind := 0, version := 0, data := [] }) = false ∧
    Instr.wf (.migrationReplay { peer := 0, table := 0, row := 0, kind := 256, version := 0, data := [] }) = false ∧
    Instr.wf (.migrationReplay { peer := 0, table := 0, row := 0, kind := 0, version := 2 ^ 32, data := [] }) = false ∧
    Instr.wf (.migrationReplay { peer := 0, table := 0, row := 0, kind := 0, version := 0, data := List.replicate 1025 0 }) = false ∧
    Instr.wf (.migrationRowReceive { peer := 65536, table := 0, row := 0, kind := 0, version := 0, data := [] }) = false ∧
    Instr.wf (.migrationHomeUpdate { peer := 65536, table := 0, row := 0, kind := 0, version := 0, data := [] }) = false ∧
    Instr.wf (.migrationActivation { peer := 65536, table := 0, row := 0, kind := 0, version := 0, data := [] }) = false ∧
    Instr.wf (.rowAnswer 0 { status := 0 }) = true ∧
    Instr.wf (.rowAnswer 0 { status := 256 }) = false ∧
    Instr.wf (.rowAnswer 0 { status := 0, peer := 65536 }) = false ∧
    Instr.wf (.rowAnswer 0 { status := 0, version := 2 ^ 32 }) = false ∧
    Instr.wf (.rowAnswer 0 { status := 0, data := List.replicate 1025 0 }) = false := by decide +kernel

/-- Sensor samples, probes and the ends of start steps. -/
theorem test_wf_sensors : Instr.wf (.governorSample { draw := 0, half := [0, 0], stack := List.replicate 8 0, flash := [0, 0] }) = true ∧
    Instr.wf (.governorSample { draw := 0, half := [0], stack := List.replicate 8 0, flash := [0, 0] }) = false ∧
    Instr.wf (.governorSample { draw := 0, half := [0, 0], stack := [], flash := [0, 0] }) = false ∧
    Instr.wf (.governorSample { draw := 0, half := [0, 0], stack := List.replicate 8 0, flash := [] }) = false ∧
    Instr.wf (.governorSample { draw := 0, half := [65536, 0], stack := List.replicate 8 0, flash := [0, 0] }) = false ∧
    Instr.wf (.ageSample [{ isl := 0, osc := 0, slack := 0 }]) = true ∧
    Instr.wf (.ageSample [{ isl := 0, osc := 65536, slack := 0 }]) = false ∧
    Instr.wf (.ageSample [{ isl := 0, osc := 0, slack := 32768 }]) = false ∧
    Instr.wf (.ageSample [{ isl := 0, osc := 0, slack := -32769 }]) = false ∧
    Instr.wf (.startStep {}) = true ∧
    Instr.wf (.startStep { width := 17 }) = false ∧
    Instr.wf (.startStep { speed := 7 }) = false ∧
    Instr.wf (.startStep { upStacks := [8] }) = false ∧
    Instr.wf (.startStep { tests := [512] }) = false := by decide +kernel

/-- Outside accesses, the aperture, rings and management. -/
theorem test_wf_accesses : Instr.wf (.outsideAccess { addr := 0, len := 128, data := none }) = true ∧
    Instr.wf (.outsideAccess { addr := 2 ^ 50, len := 8, data := none }) = false ∧
    Instr.wf (.outsideAccess { addr := 0, len := 0, data := none }) = false ∧
    Instr.wf (.outsideAccess { addr := 64, len := 128, data := none }) = false ∧
    Instr.wf (.outsideAccess { addr := 0, len := 2, data := some [1] }) = false ∧
    Instr.wf (.attentionRequest 16384) = false ∧
    Instr.wf (.attentionItemsEnd 16384) = false ∧
    Instr.wf (.apertureRead 0 4) = true ∧
    Instr.wf (.apertureRead (2 ^ 36) 4) = false ∧
    Instr.wf (.apertureRead 0 0) = false ∧
    Instr.wf (.apertureWrite (2 ^ 36) [0]) = false ∧
    Instr.wf (.apertureWrite 0 []) = false ∧
    Instr.wf (.poisonTest (2 ^ 24) [] false) = false ∧
    Instr.wf (.poisonTest 0 [1024] false) = false ∧
    Instr.wf (.registered (2 ^ 32) 0) = false ∧
    Instr.wf (.registered 0 (2 ^ 32)) = false ∧
    Instr.wf (.ringCtl .req 255 0) = true ∧
    Instr.wf (.ringCtl .rx 64 0) = false ∧
    Instr.wf (.ringCtl .tx 64 0) = false ∧
    Instr.wf (.atsInvalidation (2 ^ 64) 0) = false ∧
    Instr.wf (.atsInvalidation 0 (2 ^ 64)) = false ∧
    Instr.wf (.setPowerLimit 65536) = false ∧
    Instr.wf (.readReg (2 ^ 32)) = false := by decide +kernel

end Sys2Proof.Tests
end

section
/-!
The statements of 00_scope.md: reset and reserved bits (R18, R19), the write sets of commands, and the access codes of
registers (R15-R20, R623).
-/

namespace Sys2Proof.Machine

/-! ### Reset and reserved bits (R18, R19) -/

theorem reset_reservedZero : State.reset.ReservedZero := regDefault_holds

theorem reset_canon : State.reset.Canon := ⟨rfl, rfl, rfl, rfl⟩

/-- Settles O4: every memory of `State.reset` lists nothing, so a register reads as `regDefault`, which its mask covers. -/
theorem resetIsCanonicalWithReservedZero : Obligations.ResetIsCanonicalWithReservedZero :=
  ⟨reset_canon, reset_reservedZero, rfl⟩

/-- The queue has no part in the reserved bits, so the rest of the queue starts from the same registers. -/
theorem step_reservedZero {s u : State} (h : s.ReservedZero) (e : step s = .next u) : u.ReservedZero := by
  obtain ⟨_, k⟩ := step_keeps e
  exact k.reserved h

/-- Settles O5: every operation of the device keeps reserved bits 0 (`step_keeps`), and a read is cut to the register's
mask. -/
theorem reservedBitsStayZero : Obligations.ReservedBitsStayZero :=
  ⟨fun _ _ h e => step_reservedZero h e, fun s r i => r.holds_and (viewWord s r i)⟩

/-! ### Write sets -/

/-- Settles O8: `exec_frame` gives what each command keeps under the mask of its write set, and a mask is a write set. -/
theorem everyCommandChangesOnlyItsWriteSet : Obligations.EveryCommandChangesOnlyItsWriteSet :=
  fun c s u e => (exec_frame c s u e).changedIn

/-! ### Fields of a register -/

/-- Two fields share no bit. -/
def FieldSpec.Apart (f g : FieldSpec) : Prop := f.lo + f.w ≤ g.lo ∨ g.lo + g.w ≤ f.lo

theorem FieldSpec.Apart.symm {f g : FieldSpec} (h : f.Apart g) : g.Apart f := Or.symm h

/-- The fields of a register share no bit. -/
theorem Reg.fields_apart (r : Reg) : r.fields.Pairwise FieldSpec.Apart := by
  unfold FieldSpec.Apart
  cases r <;> decide

theorem Reg.fields_fit (r : Reg) : ∀ f ∈ r.fields, f.lo + f.w ≤ 64 := fun f hf =>
  Fld.ok_fits (List.all_eq_true.1 r.fields_ok f hf)

/-- A field of a word made of a number reads as that field of the number. -/
theorem bget_w64 {lo w : Nat} (n : Nat) (h : lo + w ≤ 64) : bget (w64 n) lo w = bits n lo w := by
  rw [bget, w64, BitVec.toNat_ofNat, bits_mod h]

/-! ### A write by access codes (R19, R20) -/

/-- A write by its access code gives no bit beyond the field. -/
theorem FieldSpec.written_lt {f : FieldSpec} {old v : Nat} (ho : old < 2 ^ f.w) (hv : v < 2 ^ f.w) : f.written old v < 2 ^ f.w := by
  unfold FieldSpec.written
  split
  · exact hv
  · exact ho
  · exact ho
  · exact Nat.lt_of_le_of_lt (Nat.sub_le _ _) ho
  · exact Nat.or_lt_two_pow ho hv
  · exact ho

/-- Each field written holds what its access code gives. -/
theorem bits_fieldsWritten {old v : Nat} {f : FieldSpec} {l : List FieldSpec} (h : l.Pairwise FieldSpec.Apart) (hf : f ∈ l) :
    bits (fieldsWritten old v l) f.lo f.w = f.written (bits old f.lo f.w) (bits v f.lo f.w) := by
  induction l with
  | nil => cases hf
  | cons g l ih =>
    obtain ⟨hg, hl⟩ := List.pairwise_cons.1 h
    rw [fieldsWritten]
    cases hf with
    | head => rw [bits_setBits_self, Nat.mod_eq_of_lt (FieldSpec.written_lt (bits_lt _ _ _) (bits_lt _ _ _))]
    | tail _ hf => rw [bits_setBits_ne _ _ _ _ _ _ (hg f hf).symm, ih hl hf]

/-- A register without limits of its own: each field of the word written holds what its access code gives. -/
theorem bget_written {r : Reg} {f : FieldSpec} (hl : r.limits = []) (hf : f ∈ r.fields) (old v : Word) :
    bget (r.written old v) f.lo f.w = f.written (bget old f.lo f.w) (bget v f.lo f.w) := by
  rw [Reg.written, hl, List.foldl_nil, bget_w64 _ (r.fields_fit f hf), bits_fieldsWritten r.fields_apart hf, bget, bget]

theorem plainRegs_regWrite {r : Reg} (h : r ∈ plainRegs) (s : State) (i : Nat) (v : Word) : regWrite s r i v = plain s r i v := by
  simp only [plainRegs, List.mem_cons, List.not_mem_nil, or_false] at h
  rcases h with rfl | rfl | rfl | rfl | rfl | rfl | rfl | rfl | rfl | rfl | rfl | rfl |
      rfl | rfl | rfl | rfl | rfl | rfl | rfl | rfl | rfl | rfl | rfl <;> rfl

theorem plainRegs_limits {r : Reg} (h : r ∈ plainRegs) : r.limits = [] := by
  have none : plainRegs.all (fun r => r.limits.isEmpty) = true := rfl
  exact List.isEmpty_iff.1 (List.all_eq_true.1 none r h)

theorem plainRegs_no_W1S : ∀ r ∈ plainRegs, ∀ f ∈ r.fields, f.acc ≠ .W1S := by decide

/-! ### A read (R20) -/

/-- Bits that no field of the list covers are left by the clearing of its RC fields. -/
theorem bits_rcCleared_out {v : Nat} {f : FieldSpec} {l : List FieldSpec} (h : ∀ g ∈ l, f.Apart g) :
    bits (rcCleared v l) f.lo f.w = bits v f.lo f.w := by
  induction l with
  | nil => rfl
  | cons g l ih =>
    obtain ⟨hg, hl⟩ := List.forall_mem_cons.1 h
    rw [rcCleared]
    split
    · rw [bits_setBits_ne _ _ _ _ _ _ hg, ih hl]
    · exact ih hl

/-- A read clears the RC fields and leaves the others. -/
theorem bits_rcCleared {v : Nat} {f : FieldSpec} {l : List FieldSpec} (h : l.Pairwise FieldSpec.Apart) (hf : f ∈ l) :
    bits (rcCleared v l) f.lo f.w = if f.acc = .RC then 0 else bits v f.lo f.w := by
  induction l with
  | nil => cases hf
  | cons g l ih =>
    obtain ⟨hg, hl⟩ := List.pairwise_cons.1 h
    rw [rcCleared]
    cases hf with
    | head =>
      split
      · rw [bits_setBits_self, Nat.zero_mod]
      · exact bits_rcCleared_out hg
    | tail _ hf =>
      split
      · rw [bits_setBits_ne _ _ _ _ _ _ (hg f hf).symm, ih hl hf]
      · exact ih hl hf

theorem bget_rcCleared {r : Reg} {f : FieldSpec} (hf : f ∈ r.fields) (w : Word) :
    bget (w64 (rcCleared w.toNat r.fields)) f.lo f.w = if f.acc = .RC then 0 else bget w f.lo f.w := by
  rw [bget_w64 _ (r.fields_fit f hf), bits_rcCleared r.fields_apart hf, bget]

/-! ### Accesses of the host -/

/-- What a write at a place of a function's register space does. -/
def Place.write (s : State) (fn : Nat) (v : Word) : Place → State
  | .reg r i => regWrite s r i v
  | .msix k => msixWrite s fn k v
  | .pba => s
  | .bell k => bellWrite s fn k v
  | .none => s

/-- A host write at a multiple of 8. -/
theorem exec_registerWrite_aligned {off : Nat} (h : off % 8 = 0) (fn : Fin 64) (v : Word) (s : State) :
    exec (.registerWrite fn off v) s = .next (hostRegWrite s fn off v) := by
  change execRegisterWrite fn off v s = _
  rw [execRegisterWrite, if_neg (fun odd => odd h)]

section
variable {s : State} {off : Nat} (reach : hostReach s = true)
include reach

theorem exec_registerWrite_misaligned (h : off % 8 ≠ 0) (fn : Fin 64) (v : Word) :
    exec (.registerWrite fn off v) s = .next (fput (hstErr s F.HST_ERR_REG_ACCESS) F.HST_ERR_ADDR_ADDR 0 off) := by
  change execRegisterWrite fn off v s = _
  rw [execRegisterWrite, if_pos h, if_pos reach]
  rfl

theorem exec_misalignedAccess {size : Nat} (h : off % 8 ≠ 0 ∨ size ≠ 8) (write : Bool) :
    exec (.misalignedAccess write off size) s = .next (misaligned s write off) := by
  change execMisalignedAccess write off size s = _
  rw [execMisalignedAccess, if_neg]
  intro exact8
  simp only [reach, Bool.not_true, Bool.false_or, Bool.and_eq_true, beq_iff_eq] at exact8
  omega

/-- A read of the PF at a multiple of 8: the value leaves on the PCIe link. -/
theorem exec_rcFieldRead_pf (h : off % 8 = 0) : exec (.rcFieldRead 0 off) s =
    .next { (hostRead s 0 off).2 with out := { (hostRead s 0 off).2.out with readData := (hostRead s 0 off).1 } } := by
  change execRcFieldRead 0 off s = _
  rw [execRcFieldRead, if_neg (by rw [reach, h]; decide)]
  rfl

/-- READY, or in a block that answers before: the write goes on. -/
theorem hostGate_open (h : fget s F.GLB_STAT_PHASE 0 = 12 ∨ off < 0x200000) (f : State → State) : hostGate s off f = f s := by
  rw [hostGate, if_neg (by rw [reach]; decide), if_pos h]

theorem hostGate_early (h : fget s F.GLB_STAT_PHASE 0 ≠ 12) (ho : 0x200000 ≤ off) (f : State → State) :
    hostGate s off f = fset s F.GLB_STAT_EARLY_WRITE 0 := by
  rw [hostGate, if_neg (by rw [reach]; decide), if_neg (by omega)]

/-- READY: a write of the PF goes to what lies at its offset. -/
theorem exec_registerWrite_pf (aligned : off % 8 = 0) (ready : fget s F.GLB_STAT_PHASE 0 = 12) (below : off < 0x3000000) (v : Word) :
    exec (.registerWrite 0 off v) s = .next ((placePf off).write s 0 v) := by
  rw [exec_registerWrite_aligned aligned, Fin.val_zero, hostRegWrite, if_neg (fun n => n rfl), if_neg (by omega),
    hostGate_open reach (.inl ready), if_pos rfl]
  cases placePf off <;> rfl

/-- Before READY a write to a block from 0x200000 on sets EARLY_WRITE (R623). -/
theorem exec_registerWrite_early (aligned : off % 8 = 0) (early : fget s F.GLB_STAT_PHASE 0 ≠ 12) (from2 : 0x200000 ≤ off)
    (below : off < 0x3000000) (v : Word) : exec (.registerWrite 0 off v) s = .next (fset s F.GLB_STAT_EARLY_WRITE 0) := by
  rw [exec_registerWrite_aligned aligned, Fin.val_zero, hostRegWrite, if_neg (fun n => n rfl), if_neg (by omega),
    hostGate_early reach early from2]

theorem exec_registerWrite_vf (aligned : off % 8 = 0) {fn : Fin 64} (vf : fn ≠ 0) (v : Word) :
    exec (.registerWrite fn off v) s = .next ((placeVf fn off).write s fn v) := by
  have h : (fn : Nat) ≠ 0 := Fin.val_ne_zero_iff.2 vf
  rw [exec_registerWrite_aligned aligned, hostRegWrite, if_pos h, if_pos reach, if_neg h]
  cases placeVf fn off <;> rfl

end

/-- The reserved range of R17 takes no write of the PF. -/
theorem exec_registerWrite_beyond {off : Nat} (aligned : off % 8 = 0) (beyond : 0x3000000 ≤ off) (v : Word) (s : State) :
    exec (.registerWrite 0 off v) s = .next s := by
  rw [exec_registerWrite_aligned aligned, Fin.val_zero, hostRegWrite, if_neg (fun n => n rfl), if_pos beyond]

theorem hostRead_ready_reg {s : State} {off i : Nat} {r : Reg} (h : fget s F.GLB_STAT_PHASE 0 = 12) (e : placePf off = .reg r i) :
    hostRead s 0 off = regRead (counted s r i) r i := by
  simp only [hostRead, BEq.rfl, h, bne_self_eq_false, Bool.and_false, Nat.reduceBEq, Bool.and_self, Bool.false_and,
    Bool.false_eq_true, ↓reduceIte, e]

theorem hostRead_ready_none {s : State} {off : Nat} (h : fget s F.GLB_STAT_PHASE 0 = 12) (e : placePf off = .none) :
    hostRead s 0 off = (0, s) := by
  simp only [hostRead, BEq.rfl, h, bne_self_eq_false, Bool.and_false, Nat.reduceBEq, Bool.and_self, Bool.false_and,
    Bool.false_eq_true, ↓reduceIte, e, BitVec.ofNat_eq_ofNat]

/-- Before READY a register outside the GLB, HST and ISL blocks reads as its reset value (R623). -/
theorem hostRead_early_reg {s : State} {off i : Nat} {r : Reg} (h : fget s F.GLB_STAT_PHASE 0 ≠ 12)
    (h15 : fget s F.GLB_STAT_PHASE 0 ≠ 15) (hb : earlyBlock off = false) (e : placePf off = .reg r i) :
    hostRead s 0 off = (r.resetWord i, s) := by
  simp only [hostRead, BEq.rfl, Bool.true_and, Bool.and_eq_true, bne_iff_ne, ne_eq, h, not_false_eq_true, beq_iff_eq, h15,
    and_false, false_and, decide_eq_true_eq, ↓reduceIte, e, hb, Bool.not_false, Bool.and_true]

/-! ### Registers with no effect of their own -/

/-- A write to a register without effects of its own changes its word alone, each field by its access code. -/
theorem plainRegs_write {r : Reg} (hr : r ∈ plainRegs) (s : State) (i : Nat) (v : Word) :
    ∃ w, regWrite s r i v = rput s r i w ∧
      ∀ f ∈ r.fields, bget w f.lo f.w = f.written (bget (rword s r i) f.lo f.w) (bget v f.lo f.w) :=
  ⟨_, plainRegs_regWrite hr s i v, fun _ hf => bget_written (plainRegs_limits hr) hf _ _⟩

/-- Settles O31: each access goes to what lies at its offset, and a register's fields, which share no bit, act one by one. -/
theorem registerAccessesFollowTheirCodes : Obligations.RegisterAccessesFollowTheirCodes := by
  intro s off v reach returns
  refine ⟨?ready, ?vf, ?early, ?misalignedWrite, ?misalignedAccess⟩
  case ready =>
    intro aligned ready
    refine ⟨fun r i place => ⟨fun below => ⟨?_, fun plain => ?_⟩, _, ?_, fun f mem => bget_rcCleared mem _⟩,
      fun k place below => ?_, fun nothing => ?_, fun nothing => ?_⟩
    · rw [exec_registerWrite_pf reach aligned ready below, place, Place.write]
    · obtain ⟨w, hw, fields⟩ := plainRegs_write plain s i v
      refine ⟨w, hw, fun f mem => (fields f mem).trans ?_⟩
      rw [FieldSpec.written]
      cases acc : f.acc with
      | W1S => exact absurd acc (plainRegs_no_W1S r plain f mem)
      | RW | RO | WO | W1C | RC => rfl
    · rw [exec_rcFieldRead_pf reach aligned, hostRead_ready_reg ready place, regRead]
    · rw [exec_registerWrite_pf reach aligned ready below, place, Place.write]
    · by_cases below : off < 0x3000000
      · rw [exec_registerWrite_pf reach aligned ready below, nothing.resolve_right (by omega), Place.write]
      · exact exec_registerWrite_beyond aligned (by omega) v s
    · rw [exec_rcFieldRead_pf reach aligned, hostRead_ready_none ready nothing]
  case vf =>
    refine fun fn vf aligned => ⟨fun k place => ?_, fun r i place => ?_⟩
    · rw [exec_registerWrite_vf reach aligned vf, place, Place.write]
    · rw [exec_registerWrite_vf reach aligned vf, place, Place.write]
  case early =>
    refine fun aligned early from2 => ⟨fun below => ?_, fun r i place phase15 block => ?_⟩
    · exact exec_registerWrite_early reach aligned early from2 below v
    · rw [exec_rcFieldRead_pf reach aligned, hostRead_early_reg early phase15 block place]
  case misalignedWrite => exact fun fn a odd => exec_registerWrite_misaligned reach odd fn v
  case misalignedAccess =>
    intro write size bad
    rw [exec_misalignedAccess reach bad]
    cases write <;> rfl

end Sys2Proof.Machine
end

section
/-!
The power and temperature governor and its pins (R47, R679, R682-R687).
-/

namespace Sys2Proof.Machine

/-! ### Governor caps shown in the islands -/

@[simp] theorem tcycFix_ISL_CLK_STAT {s : State} {t : Nat} (i : Nat) : rword (tcycFix s t) .ISL_CLK_STAT i = rword s .ISL_CLK_STAT i :=
  (keeps_of (fun _ w => tcycFix_keeps w (Keeps.refl _ s))).reg _ _ rfl rfl

@[simp] theorem xstallFix_ISL_CLK_STAT {s : State} {j : Nat} (i : Nat) : rword (xstallFix s j) .ISL_CLK_STAT i = rword s .ISL_CLK_STAT i :=
  (keeps_of (fun _ w => xstallFix_keeps w (Keeps.refl _ s))).reg _ _ rfl rfl

@[simp] theorem clockMove_GLB_ID {s : State} {j : Nat} (i : Nat) : rword (clockMove s j) .GLB_ID i = rword s .GLB_ID i :=
  (keeps_of (fun _ w => clockMove_keeps w (Keeps.refl _ s))).reg _ _ rfl rfl

@[simp] theorem clockMove_gov {s : State} {j : Nat} : (clockMove s j).gov = s.gov :=
  (keeps_of (fun _ w => clockMove_keeps w (Keeps.refl _ s))).same .gov rfl nofun

@[simp] theorem rword_setChange (s : State) (m : NMap ClkChange) (r : Reg) (i : Nat) : rword (setChange s m) r i = rword s r i := rfl

/-- A field reads alike in two states that hold the same word of its register. -/
theorem fget_congr {s t : State} {f : Fld} {i : Nat} (h : rword t f.reg i = rword s f.reg i) : fget t f i = fget s f i := by
  rw [fget, fget, h]

/-- The index of a register counts modulo 65,536. -/
theorem fget_congr_index {i j : Nat} (h : i % 65536 = j % 65536) (s : State) (f : Fld) : fget s f i = fget s f j := by
  rw [fget, fget, rword, rword, rkey, rkey, h]

/-- A field that shares no bit with the one written reads as before, at every index. -/
theorem fget_fput_apart (s : State) {f g : Fld} {i j : Nat} (v : Nat) (hr : f.reg = g.reg) (hn : f.lo + f.w ≤ 64)
    (h : g.lo + g.w ≤ f.lo ∨ f.lo + f.w ≤ g.lo) : fget (fput s f i v) g j = fget s g j := by
  by_cases same : j % 65536 = i % 65536
  · rw [fget_congr_index same, fget_congr_index same, fget_fput_field s v hr hn h]
  · exact fget_fput_reg s v (.inr (Ne.symm same))

/-- An island on its way to its clock keeps the cap it was given. -/
theorem fget_GOV_clockMove (s : State) (i j : Nat) : fget (clockMove s i) F.ISL_CLK_STAT_GOV j = fget s F.ISL_CLK_STAT_GOV j := by
  rw [clockMove]
  split
  · rfl
  · extract_lets moving
    rw [fget_fput_apart (f := F.ISL_CLK_STAT_FREQ_NOW) (g := F.ISL_CLK_STAT_GOV) _ _ rfl (by decide) (by decide), fset,
      fget_fput_apart (f := F.ISL_CLK_STAT_CHANGING) (g := F.ISL_CLK_STAT_GOV) _ _ rfl (by decide) (by decide)]
    exact fget_congr ((rword_setChange ..).trans ((xstallFix_ISL_CLK_STAT j).trans (tcycFix_ISL_CLK_STAT j)))

/-- The governor's cap reaches one island. -/
def showCap (s : State) (i : Nat) : State :=
  if fget s F.ISL_CLK_STAT_GOV i = govCap s i then s else clockMove (fput s F.ISL_CLK_STAT_GOV i (govCap s i)) i

theorem showCaps_eq_foldl (s : State) : showCaps s = adjIslands.foldl showCap s := rfl

/-- Giving an island a cap and moving it to its clock leave the grade as it was. -/
theorem grade_capMove (s : State) (j v : Nat) : grade (clockMove (fput s F.ISL_CLK_STAT_GOV j v) j) = grade s := by
  have apart : F.ISL_CLK_STAT_GOV.reg ≠ F.GLB_ID_GRADE.reg := nofun
  rw [grade, fget_congr (f := F.GLB_ID_GRADE) (clockMove_GLB_ID 0), fget_fput_reg s v (.inl apart), grade]

/-- A cap is computed from the pins, the governor's state and the grade alone. -/
theorem govCap_congr {s t : State} (hp : t.pins = s.pins) (hg : t.gov = s.gov) (hi : grade t = grade s) (i : Nat) :
    govCap t i = govCap s i := by
  simp only [govCap, topT, hp, hg, hi]

/-- Showing one island its cap changes no other cap, so the order in which caps are shown does not matter. -/
theorem govCap_showCap (s : State) (i j : Nat) : govCap (showCap s j) i = govCap s i := by
  rw [showCap]
  split
  · rfl
  · exact govCap_congr (clockMove_pins.trans fput_pins) (clockMove_gov.trans fput_gov) (grade_capMove s j _) i

theorem fget_showCap_self (s : State) (i : Nat) : fget (showCap s i) F.ISL_CLK_STAT_GOV i = govCap s i % 2 ^ 12 := by
  rw [showCap]
  split
  next shown => exact shown ▸ (Nat.mod_eq_of_lt (fget_lt s F.ISL_CLK_STAT_GOV i)).symm
  next => rw [fget_GOV_clockMove, fget_fput_self _ _ _ _ (by decide)]; rfl

theorem fget_showCap_ne (s : State) {i j : Nat} (h : j % 65536 ≠ i % 65536) :
    fget (showCap s j) F.ISL_CLK_STAT_GOV i = fget s F.ISL_CLK_STAT_GOV i := by
  rw [showCap]
  split
  · rfl
  · rw [fget_GOV_clockMove, fget_fput_reg s _ (.inr h)]

theorem fget_foldl_showCap_notMem {l : List Nat} {i : Nat} (hi : i < 65536) (hl : ∀ j ∈ l, j < 65536) (h : i ∉ l) (s : State) :
    fget (l.foldl showCap s) F.ISL_CLK_STAT_GOV i = fget s F.ISL_CLK_STAT_GOV i := by
  induction l generalizing s with
  | nil => rfl
  | cons j l ih =>
    obtain ⟨hj, hrest⟩ := List.forall_mem_cons.1 hl
    obtain ⟨hne, hnot⟩ := not_or.1 (mt List.mem_cons.2 h)
    rw [List.foldl_cons, ih hrest hnot, fget_showCap_ne s (by omega)]

theorem fget_foldl_showCap_mem {l : List Nat} {i : Nat} (hl : ∀ j ∈ l, j < 65536) (h : i ∈ l) (s : State) :
    fget (l.foldl showCap s) F.ISL_CLK_STAT_GOV i = govCap s i % 2 ^ 12 := by
  induction l generalizing s with
  | nil => cases h
  | cons j l ih =>
    obtain ⟨hj, hrest⟩ := List.forall_mem_cons.1 hl
    rw [List.foldl_cons]
    by_cases later : i ∈ l
    · rw [ih hrest later, govCap_showCap]
    · obtain rfl : i = j := (List.mem_cons.1 h).resolve_right later
      rw [fget_foldl_showCap_notMem hj hrest later, fget_showCap_self]

theorem mem_adjIslands {i : Nat} : i ∈ adjIslands ↔ i < 566 ∧ islAdj i = true := by
  rw [adjIslands, List.mem_filter, List.mem_range]

/-- Every adjustable island shows the governor's cap. -/
theorem fget_GOV_showCaps (s : State) {i : Nat} (hi : i < 566) (adj : islAdj i = true) :
    fget (showCaps s) F.ISL_CLK_STAT_GOV i = govCap s i % 2 ^ 12 := by
  rw [showCaps_eq_foldl]
  exact fget_foldl_showCap_mem (fun j hj => by have := (mem_adjIslands.1 hj).1; omega) (mem_adjIslands.2 ⟨hi, adj⟩) s

theorem islMin_lt (i : Nat) : islMin i < 2 ^ 12 := by
  unfold islMin
  split <;> decide

/-- While the brake is asserted the cap of every island is its lowest clock (R684). -/
theorem govCap_brake {s : State} (h : s.pins.pwrBrake = true) (i : Nat) : govCap s i = islMin i := by
  rw [govCap, if_pos h]

/-! ### A sample of the governor -/

@[simp] theorem governorRead_draw (s : State) (g : GovSample) : (governorRead s g).gov.draw = g.draw := by
  simp only [governorRead, flashTempSample_gov]

@[simp] theorem governorRead_limit (s : State) (g : GovSample) : (governorRead s g).gov.limit = s.gov.limit := by
  simp only [governorRead, flashTempSample_gov]

@[simp] theorem governorRead_quiet (s : State) (g : GovSample) : (governorRead s g).gov.quiet = s.gov.quiet := by
  simp only [governorRead, flashTempSample_gov]

@[simp] theorem governorRead_pins (s : State) (g : GovSample) : (governorRead s g).pins = s.pins := by
  simp only [governorRead, flashTempSample_pins]

/-- The governor's state but for the caps it has chosen: what it measures, its limits and its quiet time. -/
def Gov.measured (g : Gov) : Gov := { g with capT := [], capS := [], capN := [], gap := [] }

@[simp] theorem stepDown_measured (s : State) (h : Nat) : (stepDown s h).gov.measured = s.gov.measured := by
  simp only [stepDown]
  split
  · rfl
  · split
    · rfl
    · split <;> rfl

@[simp] theorem stepUp_measured (s : State) (h : Nat) : (stepUp s h).gov.measured = s.gov.measured := rfl

theorem stepDownIf_measured (s : State) (b : Bool) (h : Nat) : (if b = true then stepDown s h else s).gov.measured = s.gov.measured := by
  split
  · exact stepDown_measured s h
  · rfl

theorem stepUpIf_measured (s : State) (p : Prop) [Decidable p] :
    (if p then stepUp (stepUp s 0) 1 else s).gov.measured = s.gov.measured := by
  split <;> rfl

theorem showCapsIf_gov (s : State) (p : Prop) [Decidable p] : (if p then showCaps s else s).gov = s.gov := by
  split
  · exact showCaps_gov
  · rfl

theorem Gov.measured_quiet (g : Gov) (n : Nat) : ({ g with quiet := n } : Gov).measured = { g.measured with quiet := n } := rfl

theorem Gov.quiet_measured (g : Gov) : g.measured.quiet = g.quiet := rfl

/-- The actions of the governor choose caps and count its quiet time; all it has measured stays. -/
theorem governorAct_measured (s : State) (past calls h0 h1 : Bool) :
    (governorAct s past calls h0 h1).gov.measured = { s.gov.measured with quiet := if calls = true then 0 else s.gov.quiet + 1 } := by
  rw [governorAct, showCapsIf_gov, stepUpIf_measured, Gov.measured_quiet, ← Gov.quiet_measured, stepDownIf_measured, stepDownIf_measured,
    Gov.quiet_measured]

@[simp] theorem governorAct_pins (s : State) (past calls h0 h1 : Bool) : (governorAct s past calls h0 h1).pins = s.pins :=
  (keeps_of (fun _ w => governorAct_keeps w (Keeps.refl _ s))).same .pins rfl nofun

/-- A sample keeps what it has read, and restarts the quiet time at any of the four causes (R685). -/
theorem governor_measured (s : State) (g : GovSample) :
    (governor s g).gov.measured = { (governorRead s g).gov.measured with
      quiet := if decide (s.gov.limit < g.draw) = true ∨ nget (fun _ => false) (governorRead s g).gov.hot 0 = true ∨
        nget (fun _ => false) (governorRead s g).gov.hot 1 = true ∨ s.pins.pwrBrake = true then 0 else s.gov.quiet + 1 } := by
  simp only [governor, governorAct_measured, governorAlert, governorRead_limit, governorRead_quiet, governorRead_pins,
    Bool.or_eq_true, or_assoc]

/-- The alert is set from the caps as they stand when the sensors are read, before the governor acts (R683). -/
theorem governor_pwrAlert (s : State) (g : GovSample) : (governor s g).pins.pwrAlert =
    (s.pins.outputsStopped || (decide (s.gov.limit < g.draw) && atFloor (governorRead s g) 0 && atFloor (governorRead s g) 1)) := by
  simp only [governor, governorAct_pins, governorAlert, governorRead_limit, governorRead_pins]

/-! ### Device reset -/

theorem fget_cause_deviceReset (s : State) (cause : Nat) : fget (deviceReset s cause) F.GLB_RESET_CAUSE_CAUSE 0 = cause % 2 ^ 3 :=
  fget_fput_self _ F.GLB_RESET_CAUSE_CAUSE 0 cause (by decide)

theorem fget_holdReset (s : State) (f : Fld) (i : Nat) : fget (holdReset s) f i = fget s f i := rfl

/-- Settles O33: a sample's actions touch only caps and the quiet time, so what it read and the alert stand; the brake makes
every adjustable island's cap its lowest clock, and a thermal trip is a device reset with the cause that was there. -/
theorem governorAndPowerPins : Obligations.GovernorAndPowerPins := by
  intro s g n
  refine ⟨?sample, ?brake, rfl, rfl, ?trip⟩
  case sample =>
    have measured := governor_measured s g
    refine ⟨governor s g, rfl, (congrArg Gov.draw measured).trans (governorRead_draw s g),
      (congrArg Gov.limit measured).trans (governorRead_limit s g),
      ⟨(congrArg Gov.tempHalf measured :), (congrArg Gov.tempStack measured :), (congrArg Gov.hot measured :)⟩,
      governor_pwrAlert s g, congrArg Gov.quiet measured⟩
  case brake =>
    refine ⟨_, rfl, showCaps_pins, showCaps_gov, fun i hi adj => ?_⟩
    rw [fget_GOV_showCaps _ hi adj, govCap_brake rfl, Nat.mod_eq_of_lt (islMin_lt i)]
  case trip =>
    refine ⟨_, rfl, rfl, rfl, ?_, rfl, rfl, rfl⟩
    rw [fget_holdReset, fget_cause_deviceReset]
    exact Nat.mod_eq_of_lt (fget_lt s F.GLB_RESET_CAUSE_CAUSE 0)

end Sys2Proof.Machine
end

section
/-!
The statements of 02_islands_latency.md: the time a step on an empty queue takes (R56), the clocks of islands (R51-R54) and
the crossings between them (R57, R58, R61).
-/

namespace Sys2Proof.Machine

/-! ### Time on an empty queue -/

theorem step_of_empty {s : State} (empty : s.pending = []) : step s = .next (idle s) := by
  rw [step, empty]

/-- Settles O2: on an empty queue a step is `idle`, whose rate of the global time base is the one of R433. -/
theorem emptyQueueLetsTimePass : Obligations.EmptyQueueLetsTimePass := fun _ empty => step_of_empty empty

/-! ### Held cycles brought up to the present -/

/-- Counting held cycles touches, of the islands' own data, only the time up to which they are counted. -/
theorem xstallFix_isl (s : State) (i : Nat) : (xstallFix s i).isl = { s.isl with stall := (xstallFix s i).isl.stall } := by
  rw [xstallFix]
  cases nfind s.isl.stall i <;> rfl

@[simp] theorem xstallFix_held (s : State) (i : Nat) : (xstallFix s i).isl.held = s.isl.held :=
  (congrArg Isl.held (xstallFix_isl s i) :)

@[simp] theorem xstallFix_delivered (s : State) (i : Nat) : (xstallFix s i).isl.delivered = s.isl.delivered :=
  (congrArg Isl.delivered (xstallFix_isl s i) :)

@[simp] theorem xstallFix_frozen (s : State) (i : Nat) : (xstallFix s i).isl.frozen = s.isl.frozen :=
  (congrArg Isl.frozen (xstallFix_isl s i) :)

@[simp] theorem xstallFix_ISL_CLK_CTL (s : State) (j i : Nat) : rword (xstallFix s j) .ISL_CLK_CTL i = rword s .ISL_CLK_CTL i :=
  (keeps_of (fun _ w => xstallFix_keeps w (Keeps.refl _ s))).reg _ _ rfl rfl

/-- A counter grows and holds its maximum (R24). -/
theorem fget_fadd1_self (s : State) (f : Fld) (i n : Nat) (h : f.lo + f.w ≤ 64) :
    fget (fadd1 s f i n) f i = min (fget s f i + n) (2 ^ f.w - 1) := by
  rw [fadd1, fget_fput_self _ _ _ _ h, Nat.mod_eq_of_lt]
  have := Nat.two_pow_pos f.w
  omega

/-- The cycles since the count last stood still or was brought up are counted while some transfer was held (R61). -/
theorem fget_XSTALL_xstallFix (s : State) (i : Nat) : fget (xstallFix s i) F.ISL_XSTALL_COUNT i =
    match nfind s.isl.stall i with
    | some m => min (fget s F.ISL_XSTALL_COUNT i + (s.now + 1 - m) * islFreq s i / 1000) (2 ^ 64 - 1)
    | none => fget s F.ISL_XSTALL_COUNT i := by
  rw [xstallFix]
  cases nfind s.isl.stall i with
  | none => rfl
  | some m => exact fget_fadd1_self s F.ISL_XSTALL_COUNT i _ (by decide)

/-! ### The clock of an island -/

@[simp] theorem tcycFix_isl (s : State) (t : Nat) : (tcycFix s t).isl = s.isl :=
  (keeps_of (fun _ w => tcycFix_keeps w (Keeps.refl _ s))).same .isl rfl nofun

@[simp] theorem tcycFix_ISL_CLK_CTL (s : State) (t i : Nat) : rword (tcycFix s t) .ISL_CLK_CTL i = rword s .ISL_CLK_CTL i :=
  (keeps_of (fun _ w => tcycFix_keeps w (Keeps.refl _ s))).reg _ _ rfl rfl

/-- The counts of an island's cycles are brought up to the present at its clock in force, which stays. -/
theorem islFreq_counted (s : State) (i : Nat) (m : NMap ClkChange) :
    islFreq (setChange (xstallFix (tcycFix s i) i) m) i = islFreq s i :=
  fget_congr ((rword_setChange ..).trans ((xstallFix_ISL_CLK_STAT i).trans (tcycFix_ISL_CLK_STAT i)))

@[simp] theorem clockMove_ISL_CLK_CTL (s : State) (j i : Nat) : rword (clockMove s j) .ISL_CLK_CTL i = rword s .ISL_CLK_CTL i :=
  (keeps_of (fun _ w => clockMove_keeps w (Keeps.refl _ s))).reg _ _ rfl rfl

/-- The clock of island `i` is set to `f` and its CHANGING to `ch`, once its cycle counts are brought up to the present;
the changes in progress are `m` from then on. Both ends of a clock change have this form. -/
def clockSet (s : State) (i : Nat) (m : NMap ClkChange) (ch f : Nat) : State :=
  fput (fput (setChange (xstallFix (tcycFix s i) i) m) F.ISL_CLK_STAT_CHANGING i ch) F.ISL_CLK_STAT_FREQ_NOW i f

section
variable (s : State) (i : Nat) (m : NMap ClkChange) (ch f : Nat)

@[simp] theorem clockSet_changing : (clockSet s i m ch f).isl.changing = m := rfl

@[simp] theorem clockSet_frozen : (clockSet s i m ch f).isl.frozen = s.isl.frozen := by
  change (xstallFix (tcycFix s i) i).isl.frozen = _
  rw [xstallFix_frozen, tcycFix_isl]

@[simp] theorem fget_FREQ_REQ_clockSet : fget (clockSet s i m ch f) F.ISL_CLK_CTL_FREQ_REQ i = fget s F.ISL_CLK_CTL_FREQ_REQ i := by
  have apart : Reg.ISL_CLK_STAT ≠ Reg.ISL_CLK_CTL := nofun
  rw [clockSet, fget_fput_reg _ _ (.inl apart), fget_fput_reg _ _ (.inl apart)]
  exact fget_congr ((rword_setChange ..).trans ((xstallFix_ISL_CLK_CTL ..).trans (tcycFix_ISL_CLK_CTL ..)))

/-- A field of ISL_CLK_STAT but for CHANGING and FREQ_NOW stays. -/
theorem fget_clockSet_apart {g : Fld} (stat : g.reg = .ISL_CLK_STAT) (changing : g.lo + g.w ≤ 3 ∨ 4 ≤ g.lo)
    (freq : g.lo + g.w ≤ 12 ∨ 24 ≤ g.lo) : fget (clockSet s i m ch f) g i = fget s g i := by
  rw [clockSet, fget_fput_apart (f := F.ISL_CLK_STAT_FREQ_NOW) _ _ stat.symm (by decide) freq,
    fget_fput_apart (f := F.ISL_CLK_STAT_CHANGING) _ _ stat.symm (by decide) changing]
  refine fget_congr ?_
  rw [stat, rword_setChange, xstallFix_ISL_CLK_STAT, tcycFix_ISL_CLK_STAT]

@[simp] theorem fget_CHANGING_clockSet : fget (clockSet s i m ch f) F.ISL_CLK_STAT_CHANGING i = ch % 2 := by
  rw [clockSet, fget_fput_apart (f := F.ISL_CLK_STAT_FREQ_NOW) (g := F.ISL_CLK_STAT_CHANGING) _ _ rfl (by decide) (by decide),
    fget_fput_self _ _ _ _ (by decide)]
  rfl

@[simp] theorem islFreq_clockSet : islFreq (clockSet s i m ch f) i = f % 4096 :=
  fget_fput_self _ F.ISL_CLK_STAT_FREQ_NOW i f (by decide)

end

/-- The effective clock is computed from the request, the ceiling, the cap and the state of the island alone (R51, R69). -/
theorem effClock_congr {s t : State} {i : Nat} (frozen : t.isl.frozen = s.isl.frozen)
    (asked : fget t F.ISL_CLK_CTL_FREQ_REQ i = fget s F.ISL_CLK_CTL_FREQ_REQ i)
    (state : fget t F.ISL_CLK_STAT_STATE i = fget s F.ISL_CLK_STAT_STATE i)
    (ceil : fget t F.ISL_CLK_STAT_CEIL i = fget s F.ISL_CLK_STAT_CEIL i)
    (cap : fget t F.ISL_CLK_STAT_GOV i = fget s F.ISL_CLK_STAT_GOV i) : effClock t i = effClock s i := by
  rw [effClock, effClock, freqAsked, freqAsked, islState, islState, frozen, asked, state, ceil, cap]

/-- The clock in force has no part in the effective clock. -/
@[simp] theorem effClock_clockSet (s : State) (i : Nat) (m : NMap ClkChange) (ch f : Nat) :
    effClock (clockSet s i m ch f) i = effClock s i :=
  effClock_congr (clockSet_frozen ..) (fget_FREQ_REQ_clockSet ..)
    (fget_clockSet_apart _ _ _ _ _ (g := F.ISL_CLK_STAT_STATE) rfl (by decide) (by decide))
    (fget_clockSet_apart _ _ _ _ _ (g := F.ISL_CLK_STAT_CEIL) rfl (by decide) (by decide))
    (fget_clockSet_apart _ _ _ _ _ (g := F.ISL_CLK_STAT_GOV) rfl (by decide) (by decide))

/-- An island at its effective clock stays there. -/
theorem clockMove_of_eq {s : State} {i : Nat} (there : effClock s i = islFreq s i) : clockMove s i = s := by
  rw [clockMove, if_pos (.inr (.inr there))]

/-- An adjustable island that is at another clock starts a change, and runs at the lower of the two (R53). -/
theorem clockMove_of_ne {s : State} {i : Nat} (adj : islAdj i = true) (still : nfind s.isl.changing i = none)
    (away : effClock s i ≠ islFreq s i) : clockMove s i =
      clockSet s i (nset s.isl.changing i { target := effClock s i }) 1 (min (effClock s i) (islFreq s i)) := by
  rw [clockMove, if_neg (by simp [adj, still, away])]
  extract_lets counted
  rw [show islFreq counted i = islFreq s i from islFreq_counted ..]
  rfl

/-- What an island does on its way to its effective clock: nothing, or it sets its clock. -/
theorem clockMove_cases (s : State) (i : Nat) : clockMove s i = s ∨ ∃ m ch f, clockMove s i = clockSet s i m ch f := by
  rw [clockMove]
  split
  · exact .inl rfl
  · exact .inr ⟨_, _, _, rfl⟩

@[simp] theorem effClock_clockMove (s : State) (i : Nat) : effClock (clockMove s i) i = effClock s i := by
  obtain stays | ⟨m, ch, f, sets⟩ := clockMove_cases s i
  · rw [stays]
  · rw [sets, effClock_clockSet]

theorem fget_CLAMP_clockMove (s : State) (i : Nat) : fget (clockMove s i) F.ISL_CLK_STAT_CLAMP i = fget s F.ISL_CLK_STAT_CLAMP i := by
  obtain stays | ⟨m, ch, f, sets⟩ := clockMove_cases s i
  · rw [stays]
  · rw [sets, fget_clockSet_apart _ _ _ _ _ (g := F.ISL_CLK_STAT_CLAMP) rfl (by decide) (by decide)]

theorem islFreq_lt (s : State) (i : Nat) : islFreq s i < 4096 := fget_lt s F.ISL_CLK_STAT_FREQ_NOW i

/-- A change to clock `t` is in progress, from clock `f`: CHANGING reads 1 and the island runs at the lower of the two (R53). -/
def ChangesTo (u : State) (i t f : Nat) : Prop :=
  nfind u.isl.changing i = some { target := t } ∧ fget u F.ISL_CLK_STAT_CHANGING i = 1 ∧ islFreq u i = min t f

theorem clockMove_changesTo {s : State} {i : Nat} (adj : islAdj i = true) (still : nfind s.isl.changing i = none)
    (away : effClock s i ≠ islFreq s i) : ChangesTo (clockMove s i) i (effClock s i) (islFreq s i) := by
  have lower : min (effClock s i) (islFreq s i) < 4096 := Nat.lt_of_le_of_lt (Nat.min_le_right ..) (islFreq_lt s i)
  rw [clockMove_of_ne adj still away]
  exact ⟨by rw [clockSet_changing, nfind_nset_self], fget_CHANGING_clockSet .., (islFreq_clockSet ..).trans (Nat.mod_eq_of_lt lower)⟩

/-- A change that is done sets the clock to its target, and the island moves on from there (R54). -/
theorem clockDone_of_changing {s : State} {i : Nat} {k : ClkChange} (h : nfind s.isl.changing i = some k) :
    clockDone s i = clockMove (clockSet s i (nerase s.isl.changing i) 0 k.target) i := by
  rw [clockDone, h]
  rfl

theorem islMax_lt (g i : Nat) : islMax g i < 2 ^ 12 := by
  unfold islMax
  split
  · split <;> decide
  all_goals decide

/-- What a write of FREQ_REQ leaves before the island moves: the request clamped to the range, and CLAMP (R52). -/
def freqWritten (s : State) (i f g : Nat) : State :=
  fsetIf (fput s F.ISL_CLK_CTL_FREQ_REQ i g) (f != g) F.ISL_CLK_STAT_CLAMP i

theorem clkCtl_of_adj {s : State} {i : Nat} (adj : islAdj i = true) (val : Word) : clkCtl s i val =
    clockMove (freqWritten s i (bget val 0 12) (max (islMin i) (min (bget val 0 12) (islMax (grade s) i)))) i := by
  rw [clkCtl, if_neg (by rw [adj]; decide)]
  rfl

theorem clkCtl_of_fixed {s : State} {i : Nat} (fixed : islAdj i = false) (val : Word) : clkCtl s i val = s := by
  rw [clkCtl, if_pos (by rw [fixed]; decide)]

section
variable (s : State) (i f g : Nat)

@[simp] theorem freqWritten_isl : (freqWritten s i f g).isl = s.isl := by
  rw [freqWritten, fsetIf]
  split <;> rfl

theorem fget_FREQ_REQ_freqWritten (h : g < 2 ^ 12) : fget (freqWritten s i f g) F.ISL_CLK_CTL_FREQ_REQ i = g := by
  have request : fget (fput s F.ISL_CLK_CTL_FREQ_REQ i g) F.ISL_CLK_CTL_FREQ_REQ i = g :=
    (fget_fput_self s F.ISL_CLK_CTL_FREQ_REQ i g (by decide)).trans (Nat.mod_eq_of_lt h)
  have apart : F.ISL_CLK_STAT_CLAMP.reg ≠ F.ISL_CLK_CTL_FREQ_REQ.reg := nofun
  rw [freqWritten, fsetIf]
  split
  · rw [fset, fget_fput_reg _ _ (.inl apart), request]
  · exact request

theorem fget_CLAMP_freqWritten : fget (freqWritten s i f g) F.ISL_CLK_STAT_CLAMP i =
    if f = g then fget s F.ISL_CLK_STAT_CLAMP i else 1 := by
  have apart : F.ISL_CLK_CTL_FREQ_REQ.reg ≠ F.ISL_CLK_STAT_CLAMP.reg := nofun
  by_cases inRange : f = g
  · rw [freqWritten, fsetIf, if_neg (by simpa using inRange), if_pos inRange, fget_fput_reg _ _ (.inl apart)]
  · rw [freqWritten, fsetIf, if_pos (by simpa using inRange), if_neg inRange, fset, fget_fput_self _ _ _ _ (by decide)]
    rfl

@[simp] theorem islFreq_freqWritten : islFreq (freqWritten s i f g) i = islFreq s i := by
  have apart : F.ISL_CLK_CTL_FREQ_REQ.reg ≠ F.ISL_CLK_STAT_FREQ_NOW.reg := nofun
  rw [freqWritten, fsetIf, islFreq, islFreq]
  split
  · rw [fset, fget_fput_apart (f := F.ISL_CLK_STAT_CLAMP) (g := F.ISL_CLK_STAT_FREQ_NOW) _ _ rfl (by decide) (by decide),
      fget_fput_reg _ _ (.inl apart)]
  · rw [fget_fput_reg _ _ (.inl apart)]

end

theorem exec_islClkCtl_ready {s : State} (reach : hostReach s = true) (ready : fget s F.GLB_STAT_PHASE 0 = 12) (i : Fin 566)
    (val : Word) : exec (.islClkCtl i val) s = .next (clkCtl s i val) := by
  change execIslClkCtl i val s = _
  rw [execIslClkCtl, regGate, hostGate_open reach (.inl ready)]

/-! ### Crossings -/

@[simp] theorem chanHeld_setHeld (s : State) (c : Chan) (l : List HeldX) : chanHeld (setHeld s c l) c = l := nget_nput_self ..

@[simp] theorem chanHeld_xstallFix (s : State) (c : Chan) (i : Nat) : chanHeld (xstallFix s i) c = chanHeld s c := by
  rw [chanHeld, chanHeld, xstallFix_held]

@[simp] theorem chanHeld_chanArrive (s : State) (c d : Chan) (x : Nat) : chanHeld (chanArrive s d x) c = chanHeld s c := rfl

/-- A transfer arrives behind the others delivered into its island. -/
theorem delivered_chanArrive (s : State) (c : Chan) (x : Nat) : nget (fun _ => []) (chanArrive s c x).isl.delivered c.dst =
    nget (fun _ => []) s.isl.delivered c.dst ++ [(chanNo c, x)] :=
  nget_nupd_self (fun _ => []) s.isl.delivered c.dst (· ++ [(chanNo c, x)])

theorem fget_chanArrive (s : State) (c : Chan) (x : Nat) (f : Fld) (i : Nat) : fget (chanArrive s c x) f i = fget s f i := rfl

theorem crossing_blocked_iff (s : State) (c : Chan) (full : Bool) :
    (full || !(chanHeld s c).isEmpty || chanCut s c) = true ↔ full = true ∨ chanHeld s c ≠ [] ∨ chanCut s c = true := by
  simp [or_assoc]

/-- A transfer that is blocked is held behind the others of its channel (R58, R61). -/
theorem crossing_of_blocked {s : State} {c : Chan} {full : Bool} (blocked : full = true ∨ chanHeld s c ≠ [] ∨ chanCut s c = true)
    (x : Nat) : crossing s c x full =
      xstallFix (setHeld s c (chanHeld s c ++ [{ x := x, since := s.now, cut := chanCut s c }])) c.dst :=
  if_pos ((crossing_blocked_iff s c full).2 blocked)

theorem crossing_of_free {s : State} {c : Chan} {full : Bool} (free : ¬ (full = true ∨ chanHeld s c ≠ [] ∨ chanCut s c = true))
    (x : Nat) : crossing s c x full = chanArrive s c x :=
  if_neg (mt (crossing_blocked_iff s c full).1 free)

/-- The oldest held transfer of a channel that is not cut arrives (R61). -/
theorem crossingDeliver_of_held {s : State} {c : Chan} {h : HeldX} {r : List HeldX} (held : chanHeld s c = h :: r)
    (joined : chanCut s c = false) : crossingDeliver s c = chanArrive (xstallFix (setHeld s c r) c.dst) c h.x := by
  simp only [crossingDeliver, held, joined, Bool.false_eq_true, ↓reduceIte]

/-- Settles O32: a write of FREQ_REQ and the end of a change leave the effective clock as it is and then move the island to
it, which starts a change exactly when the clock in force differs; crossings touch only what is held, what is delivered and
the count of held cycles. -/
theorem clocksAndCrossingsOfIslands : Obligations.ClocksAndCrossingsOfIslands := by
  intro s i val c x full
  refine ⟨fun reach ready => ⟨fun fixed => ?fixed, fun adj => ?write⟩, fun k changing fits => ?done, ?cross, ?deliver⟩
  case fixed => rw [exec_islClkCtl_ready reach ready, clkCtl_of_fixed fixed]
  case write =>
    intro g
    have small : g < 2 ^ 12 := by
      have := islMin_lt i
      have := islMax_lt (grade s) i
      omega
    refine ⟨_, (exec_islClkCtl_ready reach ready i val).trans (congrArg Host.Outcome.next (clkCtl_of_adj adj val)), ?_, ?_,
      fun still away => ?_⟩
    · rw [fget_congr (f := F.ISL_CLK_CTL_FREQ_REQ) (clockMove_ISL_CLK_CTL ..), fget_FREQ_REQ_freqWritten _ _ _ _ small]
    · rw [fget_CLAMP_clockMove, fget_CLAMP_freqWritten]
    · rw [effClock_clockMove] at away ⊢
      have starts := clockMove_changesTo (s := freqWritten s i (bget val 0 12) g) adj (by rw [freqWritten_isl, still])
        (by rwa [islFreq_freqWritten])
      rwa [islFreq_freqWritten] at starts
  case done =>
    have freq : islFreq (clockSet s i (nerase s.isl.changing i) 0 k.target) i = k.target :=
      (islFreq_clockSet ..).trans (Nat.mod_eq_of_lt fits)
    have still : nfind (clockSet s i (nerase s.isl.changing i) 0 k.target).isl.changing i = none := by
      rw [clockSet_changing, nfind_nerase_self]
    refine ⟨_, congrArg Host.Outcome.next (clockDone_of_changing changing), fun there => ?_, fun adj away => ?_⟩
    · rw [clockMove_of_eq (by rw [effClock_clockSet, freq, there])]
      exact ⟨still, fget_CHANGING_clockSet .., freq⟩
    · have starts := clockMove_changesTo adj still (by rwa [effClock_clockSet, freq])
      rwa [effClock_clockSet, freq] at starts
  case cross =>
    split
    next blocked =>
      refine ⟨_, congrArg Host.Outcome.next (crossing_of_blocked blocked x), ?_, xstallFix_delivered ..⟩
      rw [chanHeld_xstallFix, chanHeld_setHeld]
    next free =>
      exact ⟨_, congrArg Host.Outcome.next (crossing_of_free free x), rfl, delivered_chanArrive s c x⟩
  case deliver =>
    intro h r held joined
    refine ⟨_, congrArg Host.Outcome.next (crossingDeliver_of_held held joined), ?_, ?_, ?_⟩
    · rw [chanHeld_chanArrive, chanHeld_xstallFix, chanHeld_setHeld]
    · rw [delivered_chanArrive, xstallFix_delivered]
      rfl
    · rw [fget_chanArrive, fget_XSTALL_xstallFix]
      rfl

end Sys2Proof.Machine
end

section
/-!
The statements of 04_sirec_isa.md on scalar, branch, predicate and system instructions: what each gives at its issue
(R122-R136, R158), and the exceptions (R166-R168, R693).
-/

namespace Sys2Proof.Machine

/-! ### Issue -/

@[simp] theorem zeros_nil : zeros [] = true := rfl

@[simp] theorem zeros_cons (f : Nat) (fs : List Nat) : zeros (f :: fs) = true ↔ f = 0 ∧ zeros fs = true := by
  rw [zeros, List.all_cons, Bool.and_eq_true, beq_iff_eq, zeros]

@[simp] theorem freeS_nil (x : Tiller) : freeS x [] = true := rfl

@[simp] theorem freeS_cons (x : Tiller) (r : Nat) (rs : List Nat) :
    freeS x (r :: rs) = true ↔ awaitS x r = false ∧ freeS x rs = true := by
  rw [freeS, List.all_cons, Bool.and_eq_true, Bool.not_eq_true', freeS]

theorem freeS_of_subset {x : Tiller} {l m : List Nat} (h : l ⊆ m) (free : freeS x m = true) : freeS x l = true :=
  List.all_eq_true.2 fun r hr => List.all_eq_true.1 free r (h hr)

@[simp] theorem freeP_nil (x : Tiller) : freeP x [] = true := rfl

@[simp] theorem freeP_cons (x : Tiller) (r : Nat) (rs : List Nat) :
    freeP x (r :: rs) = true ↔ awaitP x r = false ∧ freeP x rs = true := by
  rw [freeP, List.all_cons, Bool.and_eq_true, Bool.not_eq_true', freeP]

/-- A non-vector instruction that issues with guard bit 1, legal and ready, has its effect (R72, R124, R127). -/
theorem issue_of_issues {s : State} {t : Nat} {b : BitVec 54} (runs : issues (til s t) b) {op : Nat} {legal ready : Bool}
    {k : State → State} (legal_ : legal = true) (ready_ : ready = true) : issue s t op b false legal ready k = k s := by
  obtain ⟨can, noWait, guard⟩ := runs
  exact issue_runs can noWait (.inr guard) legal_ ready_

/-! ### Numbers -/

theorem bbit_eq_getLsbD {n : Nat} (v : BitVec n) (k : Nat) : bbit v k = v.getLsbD k := by
  rw [bbit, bget, bits, Nat.pow_one, BitVec.getLsbD, Nat.testBit_eq_decide_div_mod_eq]
  rfl

theorem sext_eq_toInt (n : Nat) : sext 32 n = (BitVec.ofNat 32 n).toInt := by
  rw [sext, BitVec.toInt, BitVec.toNat_ofNat]
  split <;> split <;> omega

/-- IMM of format I as a 64-bit word. -/
theorem fIMMs_eq_signExtend (b : BitVec 54) : fIMMs b = (BitVec.ofNat 32 (fIMM b)).signExtend 64 := by
  rw [fIMMs, sext_eq_toInt, wInt, BitVec.signExtend]

/-- `popc n` counts the bits set below place `n`. -/
theorem popc_eq_length_filter (n v : Nat) : popc n v = ((List.range n).filter (fun k => v.testBit k)).length := by
  induction n generalizing v with
  | zero => rfl
  | succ n ih =>
    have higher : (fun k => v.testBit k) ∘ Nat.succ = fun k => (v / 2).testBit k := by
      funext k
      exact Nat.testBit_succ v k
    rw [popc, ih, List.range_succ_eq_map, List.filter_cons, List.filter_map, higher, Nat.testBit_zero]
    rcases Nat.mod_two_eq_zero_or_one v with even | odd
    · simp [even]
    · simp [odd, Nat.add_comm]

theorem ofNat_popc {n : Nat} (v : BitVec n) :
    w64 (popc n v.toNat) = BitVec.ofNat 64 ((List.range n).filter (fun k => v.getLsbD k)).length := by
  rw [popc_eq_length_filter]
  rfl

/-- The number of leading zeros: at most 64, and the highest bit set stands just below them. -/
theorem clz64_spec (p : Word) :
    ∃ n, n ≤ 64 ∧ clz64 p = BitVec.ofNat 64 n ∧ p.toNat < 2 ^ (64 - n) ∧ (n < 64 → 2 ^ (63 - n) ≤ p.toNat) := by
  by_cases zero : p = 0
  · exact ⟨64, Nat.le_refl _, by rw [clz64, if_pos zero]; rfl, by rw [zero]; decide, fun small => absurd small (by decide)⟩
  · have nonzero : p.toNat ≠ 0 := fun e => zero (BitVec.eq_of_toNat_eq e)
    have top : p.toNat.log2 < 64 := (Nat.log2_lt nonzero).2 p.isLt
    refine ⟨63 - p.toNat.log2, by omega, by rw [clz64, if_neg zero]; rfl, ?_, fun _ => ?_⟩
    · rw [show 64 - (63 - p.toNat.log2) = p.toNat.log2 + 1 by omega]
      exact Nat.lt_log2_self
    · rw [show 63 - (63 - p.toNat.log2) = p.toNat.log2 by omega]
      exact Nat.log2_self_le nonzero

theorem sltW_iff (p q : Word) : sltW p q = true ↔ p.toInt < q.toInt := by
  rw [sltW, BitVec.slt_iff_toInt_lt]

theorem ultW_iff (p q : Word) : ultW p q = true ↔ p.toNat < q.toNat := by
  rw [ultW, BitVec.ult_iff_toNat_lt]

theorem sgeW_iff (p q : Word) : sgeW p q = true ↔ q.toInt ≤ p.toInt := by
  rw [sgeW, Bool.not_eq_true', Bool.eq_false_iff, ne_eq, BitVec.slt_iff_toInt_lt, Int.not_lt]

theorem ugeW_iff (p q : Word) : ugeW p q = true ↔ q.toNat ≤ p.toNat := by
  rw [ugeW, Bool.not_eq_true', Bool.eq_false_iff, ne_eq, BitVec.ult_iff_toNat_lt, Nat.not_lt]

/-! ### Scalar arithmetic -/

section
variable {s : State} {t : Nat} {b : BitVec 54} (runs : issues (til s t) b)
include runs

/-- Format R with two sources that issues: rd holds the operation's result. -/
theorem aluR_of_issues (pd : fPD b = 0) (low : fRlow b = 0) (free : freeS (til s t) [fRD b, fRA b, fRB b] = true) (op : Nat)
    (f : Word → Word → Word) :
    aluR s t op b f = tput s t (advPc (sset (til s t) (fRD b) (f (sreg (til s t) (fRA b)) (sreg (til s t) (fRB b))))) := by
  rw [aluR]
  exact issue_of_issues runs (by simp [pd, low]) free

/-- Format R with one source that issues. -/
theorem aluR1_of_issues (pd : fPD b = 0) (low : fRlow b = 0) (rb : fRB b = 0) (free : freeS (til s t) [fRD b, fRA b] = true)
    (op : Nat) (f : Word → Word) : aluR1 s t op b f = tput s t (advPc (sset (til s t) (fRD b) (f (sreg (til s t) (fRA b))))) := by
  rw [aluR1]
  exact issue_of_issues runs (by simp [pd, low, rb]) free

end

theorem divuI64_value (p q : Word) : (if q = 0 then BitVec.allOnes 64 else p / q) =
    if q = 0 then 0xFFFFFFFFFFFFFFFF else BitVec.ofNat 64 (p.toNat / q.toNat) := by
  rw [BitVec.udiv_def]
  rfl

theorem remuI64_value (p q : Word) : (if q = 0 then p else p % q) = if q = 0 then p else BitVec.ofNat 64 (p.toNat % q.toNat) := by
  rw [BitVec.umod_def]

/-- A choice by `<` said by `≤`: where the two numbers are equal, so are the words. -/
theorem ite_lt_eq_ite_le {f : Word → Int} (inj : Function.Injective f) (p q : Word) :
    (if f p < f q then q else p) = if f p ≤ f q then q else p := by
  by_cases less : f p < f q
  · rw [if_pos less, if_pos (Int.le_of_lt less)]
  · rw [if_neg less]
    split
    next le => exact inj (Int.le_antisymm le (Int.not_lt.1 less))
    next => rfl

theorem minI64_value (p q : Word) : (if sltW q p then q else p) = if p.toInt ≤ q.toInt then p else q := by
  simp only [sltW_iff, ← Int.not_le, ite_not]

theorem maxI64_value (p q : Word) : (if sltW p q then q else p) = if p.toInt ≤ q.toInt then q else p := by
  simp only [sltW_iff]
  exact ite_lt_eq_ite_le (fun _ _ => BitVec.eq_of_toInt_eq) p q

theorem minuI64_value (p q : Word) : (if ultW q p then q else p) = if p.toNat ≤ q.toNat then p else q := by
  simp only [ultW_iff, ← Nat.not_le, ite_not]

theorem maxuI64_value (p q : Word) : (if ultW p q then q else p) = if p.toNat ≤ q.toNat then q else p := by
  have inj : Function.Injective (fun w : Word => (w.toNat : Int)) := fun _ _ e => BitVec.eq_of_toNat_eq (Int.ofNat_inj.1 e)
  simp only [ultW_iff, ← Int.ofNat_lt, ← Int.ofNat_le]
  exact ite_lt_eq_ite_le inj p q

/-- Settles O9: each operation issues through one of three forms, which write its result to rd. -/
theorem scalarArithmeticResults : Obligations.ScalarArithmeticResults := by
  intro s t b runs low free x p q gives
  obtain ⟨freeD, freeA, freeB⟩ : awaitS x (fRD b) = false ∧ awaitS x (fRA b) = false ∧ awaitS x (fRB b) = false := by
    simpa using free
  refine ⟨fun pd => ?twoSources, fun pd rb => ?oneSource, fun freeG => ?sel⟩
  case twoSources =>
    have alu {c : Instr} (op : Nat) (f : Word → Word → Word) {w : Word} (h : exec c s = .next (aluR s t op b f)) (e : f p q = w) :
        gives c w := by
      rw [← e]
      exact h.trans (congrArg Host.Outcome.next (aluR_of_issues runs pd low free op f))
    exact ⟨alu _ _ rfl rfl, alu _ _ rfl rfl, alu _ _ rfl rfl, alu _ _ rfl rfl, alu _ _ rfl rfl, alu _ _ rfl rfl, alu _ _ rfl rfl,
      alu _ _ rfl rfl, alu _ _ rfl rfl, alu _ _ rfl rfl, alu _ _ rfl (divuI64_value p q), alu _ _ rfl (remuI64_value p q),
      alu _ _ rfl (minI64_value p q), alu _ _ rfl (maxI64_value p q), alu _ _ rfl (minuI64_value p q),
      alu _ _ rfl (maxuI64_value p q)⟩
  case oneSource =>
    have alu {c : Instr} (op : Nat) (f : Word → Word) {w : Word} (h : exec c s = .next (aluR1 s t op b f)) (e : f p = w) :
        gives c w := by
      rw [← e]
      exact h.trans (congrArg Host.Outcome.next (aluR1_of_issues runs pd low rb (by simp [freeD, freeA, x]) op f))
    obtain ⟨n, most, value, below, atTop⟩ := clz64_spec p
    exact ⟨⟨n, most, alu _ _ rfl value, below, atTop⟩, alu _ _ rfl (ofNat_popc p)⟩
  case sel =>
    exact congrArg Host.Outcome.next (issue_of_issues runs (by simp [low]) (by simp [freeD, freeA, freeB, freeG, x]))

/-! ### Compares and predicates -/

theorem pfill_spec {c : Bool} {h : Prop} (e : c = true ↔ h) : (h → pfill c = BitVec.allOnes 128) ∧ (¬h → pfill c = 0) := by
  refine ⟨fun holds => by rw [e.2 holds]; rfl, fun fails => ?_⟩
  rw [Bool.eq_false_iff.2 (mt e.1 fails)]
  rfl

theorem testBit_ofBools (l : List Bool) (k : Nat) : (ofBools l).testBit k = l.getD k false := by
  induction l generalizing k with
  | nil => exact Nat.zero_testBit k
  | cons b l ih =>
    have low : b2n b < 2 := by cases b <;> decide
    cases k with
    | zero =>
      rw [ofBools, Nat.testBit_zero, Nat.add_mul_mod_self_left, Nat.mod_eq_of_lt low]
      cases b <;> rfl
    | succ k => rw [ofBools, Nat.testBit_succ, show (b2n b + 2 * ofBools l) / 2 = ofBools l by omega, ih, List.getD_cons_succ]

theorem getLsbD_pmake (f : Nat → Bool) {k : Nat} (h : k < 128) : (pmake f).getLsbD k = f k := by
  rw [pmake, BitVec.getLsbD_ofNat, testBit_ofBools]
  simp [List.getD_eq_getElem?_getD, h]

section
variable {s : State} {t : Nat} {b : BitVec 54} (runs : issues (til s t) b)
include runs

/-- A compare of two registers that issues: p[PD] is all ones or all zeros. -/
theorem cmpR_of_issues (rd : fRD b = 0) (low : fRlow b = 0) (free : freeS (til s t) [fRA b, fRB b] = true)
    (freeD : freeP (til s t) [fPD b] = true) (op : Nat) (f : Word → Word → Bool) :
    cmpR s t op b f = tput s t (advPc (pset (til s t) (fPD b) (pfill (f (sreg (til s t) (fRA b)) (sreg (til s t) (fRB b)))))) := by
  rw [cmpR]
  exact issue_of_issues runs (by simp [rd, low]) (by rw [free, freeD]; rfl)

/-- A compare with an immediate that issues. -/
theorem cmpI_of_issues (rd : fRD b = 0) (rb : fRB b = 0) (high : fI32 b = 0) (free : freeS (til s t) [fRA b] = true)
    (freeD : freeP (til s t) [fPD b] = true) (op : Nat) (f : Word → Word → Bool) :
    cmpI s t op b f = tput s t (advPc (pset (til s t) (fPD b) (pfill (f (sreg (til s t) (fRA b)) (fIMMs b))))) := by
  rw [cmpI]
  exact issue_of_issues runs (by simp [rd, rb, high]) (by rw [free, freeD]; rfl)

/-- A combination of two predicates that issues. -/
theorem predR_of_issues (rd : fRD b = 0) (low : fRlow b = 0) (ra : fRA b < 8) (rb : fRB b < 8)
    (free : freeP (til s t) [fPD b, fRA b, fRB b] = true) (op : Nat) (f : PReg → PReg → PReg) :
    predR s t op b f = tput s t (advPc (pset (til s t) (fPD b) (f (preg (til s t) (fRA b)) (preg (til s t) (fRB b))))) := by
  rw [predR]
  exact issue_of_issues runs (by simp [rd, low, Nat.div_eq_of_lt ra, Nat.div_eq_of_lt rb]) free

end

/-- Settles O11: each compare fills p[PD] with its truth value, and each predicate instruction issues with its operation on
the bits. -/
theorem comparesAndPredicateLogic : Obligations.ComparesAndPredicateLogic := by
  intro s t b runs freeS_ freeP_ x p q imm gives all
  obtain ⟨freeD, freeA, freeB⟩ : awaitS x (fRD b) = false ∧ awaitS x (fRA b) = false ∧ awaitS x (fRB b) = false := by
    simpa using freeS_
  obtain ⟨pfreeD, pfreeA, -⟩ : awaitP x (fPD b) = false ∧ awaitP x (fRA b) = false ∧ awaitP x (fRB b) = false := by
    simpa using freeP_
  refine ⟨fun rd low => ?registers, fun rd rb high => ?immediates, fun rd low ra rb => ?logic, fun rd ra high imm0 => ?mask,
    fun pd low ra rb => ?count⟩
  case registers =>
    have cmp {c : Instr} (op : Nat) (f : Word → Word → Bool) {h : Prop} (e : exec c s = .next (cmpR s t op b f))
        (iff : f p q = true ↔ h) : ∃ v, all h v ∧ gives c v :=
      ⟨_, pfill_spec iff, e.trans (congrArg Host.Outcome.next
        (cmpR_of_issues runs rd low (by simp [freeA, freeB, x]) (by simp [pfreeD, x]) op f))⟩
    exact ⟨cmp _ _ rfl beq_iff_eq, cmp _ _ rfl bne_iff_ne, cmp _ _ rfl (sltW_iff p q), cmp _ _ rfl (ultW_iff p q),
      cmp _ _ rfl (sgeW_iff p q), cmp _ _ rfl (ugeW_iff p q)⟩
  case immediates =>
    have cmp {c : Instr} (op : Nat) (f : Word → Word → Bool) {h : Prop} (e : exec c s = .next (cmpI s t op b f))
        (iff : f p imm = true ↔ h) : ∃ v, all h v ∧ gives c v := by
      refine ⟨_, pfill_spec iff, e.trans (congrArg Host.Outcome.next ?_)⟩
      rw [cmpI_of_issues runs rd rb high (by simp [freeA, x]) (by simp [pfreeD, x]), fIMMs_eq_signExtend]
    exact ⟨cmp _ _ rfl beq_iff_eq, cmp _ _ rfl (sltW_iff p imm), cmp _ _ rfl (sgeW_iff p imm)⟩
  case logic =>
    have pred {c : Instr} (op : Nat) (f : PReg → PReg → PReg) (e : exec c s = .next (predR s t op b f)) :
        gives c (f (preg x (fRA b)) (preg x (fRB b))) :=
      e.trans (congrArg Host.Outcome.next (predR_of_issues runs rd low ra rb freeP_ op f))
    refine ⟨pred 0x061 (· &&& ·) rfl, pred 0x062 (· ||| ·) rfl, pred 0x063 (· ^^^ ·) rfl, fun rb0 => ?_⟩
    exact congrArg Host.Outcome.next (issue_of_issues runs (by simp [rd, rb0, low, Nat.div_eq_of_lt ra])
      (by simp [pfreeD, pfreeA, x]))
  case mask =>
    refine ⟨_, congrArg Host.Outcome.next (issue_of_issues runs (by simp [rd, ra, high, imm0]) (by simp [freeB, pfreeD, x])),
      fun k small => ?_⟩
    rw [getLsbD_pmake _ small, decide_eq_true_iff]
  case count =>
    rw [← ofNat_popc]
    exact congrArg Host.Outcome.next (issue_of_issues runs (by simp [pd, low, rb, Nat.div_eq_of_lt ra])
      (by simp [freeD, pfreeA, x]))

/-! ### Scalar memory addresses (R134) -/

section
variable {s : State} {t : Nat} {b : BitVec 54} (runs : issues (til s t) b) (pd : fPD b = 0) (high : fI32 b = 0)
include runs pd high

theorem loadI_of_bad_address (rb : fRB b = 0) (free : freeS (til s t) [fRD b, fRA b] = true) (op : Nat) {n : Nat}
    (noWait : ¬sramWait (til s t).pend (memAddr (til s t) b) n false = true)
    (bad : memAddr (til s t) b % n ≠ 0 ∨ (!(inLocal (memAddr (til s t) b) n || inStore (memAddr (til s t) b) n)) = true) :
    loadI s t op b n = trapped s t op b 2 (w64 (memAddr (til s t) b)) := by
  rw [loadI, ← raiseAt_trapped runs.1]
  refine (issue_of_issues runs (by simp [pd, high, rb]) free).trans ?_
  rw [if_neg noWait, if_pos bad]

theorem storeI_of_bad_address (rb : fRB b = 0) (free : freeS (til s t) [fRD b, fRA b] = true) (op : Nat) {n : Nat}
    (noWait : ¬sramWait (til s t).pend (memAddr (til s t) b) n true = true)
    (bad : memAddr (til s t) b % n ≠ 0 ∨ (!(inLocal (memAddr (til s t) b) n || inStore (memAddr (til s t) b) n)) = true ∨
      (inLocal (memAddr (til s t) b) n && decide (memAddr (til s t) b < imageEnd (til s t))) = true) :
    storeI s t op b n = trapped s t op b 2 (w64 (memAddr (til s t) b)) := by
  rw [storeI, ← raiseAt_trapped runs.1]
  refine (issue_of_issues runs (by simp [pd, high, rb]) free).trans ?_
  rw [if_neg noWait, if_pos bad]

theorem amoI_of_bad_address (free : freeS (til s t) [fRD b, fRA b, fRB b] = true) (op : Nat) (f : Word → Word → Word → Word)
    (bad : memAddr (til s t) b % 8 ≠ 0 ∨ (!inStore (memAddr (til s t) b) 8) = true) :
    amoI s t op b f = trapped s t op b 2 (w64 (memAddr (til s t) b)) := by
  rw [amoI, ← raiseAt_trapped runs.1]
  exact (issue_of_issues runs (by simp [pd, high]) free).trans (if_pos bad)

end

/-- Settles O15: the address checks of loads, stores and atomics come first at issue, so nothing but the exception record
changes. -/
theorem badScalarAddressesRaiseAddress : Obligations.BadScalarAddressesRaiseAddress := by
  intro s t b runs pd high free x a raises waits
  have free1 : freeS x [fRD b, fRA b] = true := freeS_of_subset (by simp) free
  refine ⟨fun rb => ?loadsAndStores, fun bad => ?atomics⟩
  case loadsAndStores =>
    have load {c : Instr} (op n : Nat) (e : exec c s = .next (loadI s t op b n)) (odd : a % n ≠ 0) (noWait : ¬waits n false) :
        raises c op :=
      e.trans (congrArg Host.Outcome.next (loadI_of_bad_address runs pd high rb free1 op noWait (.inl odd)))
    have store {c : Instr} (op n : Nat) (e : exec c s = .next (storeI s t op b n)) (odd : a % n ≠ 0) (noWait : ¬waits n true) :
        raises c op :=
      e.trans (congrArg Host.Outcome.next (storeI_of_bad_address runs pd high rb free1 op noWait (.inl odd)))
    have image {c : Instr} (op n : Nat) (e : exec c s = .next (storeI s t op b n)) (low : a < imageEnd x)
        (inside : inLocal a n = true) (noWait : ¬waits n true) : raises c op :=
      e.trans (congrArg Host.Outcome.next (storeI_of_bad_address runs pd high rb free1 op noWait
        (.inr (.inr (Bool.and_eq_true_iff.2 ⟨inside, decide_eq_true low⟩)))))
    exact ⟨load _ _ rfl, load _ _ rfl, load _ _ rfl, store _ _ rfl, store _ _ rfl, store _ _ rfl,
      fun low => ⟨image _ _ rfl low, image _ _ rfl low, image _ _ rfl low, image _ _ rfl low⟩⟩
  case atomics =>
    have amo {c : Instr} (op : Nat) (f : Word → Word → Word → Word) (e : exec c s = .next (amoI s t op b f)) : raises c op :=
      e.trans (congrArg Host.Outcome.next (amoI_of_bad_address runs pd high free op f
        (bad.imp id (fun out => (Bool.not_eq_true' _).mpr out))))
    exact ⟨amo _ _ rfl, amo _ _ rfl, amo _ _ rfl⟩

/-! ### Branches (R135, R136) -/

theorem branchTarget_eq (x : Tiller) (b : BitVec 54) :
    branchTarget x b = x.pc + BitVec.ofInt 64 (8 * (BitVec.ofNat 32 (fOFF b)).toInt) := by
  rw [branchTarget, sext_eq_toInt, wInt]

theorem inCode_of_bad {x : Tiller} {g : Img} (image : x.img = some g) {w : Word}
    (bad : w.toNat % 8 ≠ 0 ∨ w.toNat < 64 ∨ 64 + g.codeLen ≤ w.toNat) : inCode x w.toNat = false := by
  rw [inCode, image, Bool.eq_false_iff]
  intro good
  simp only [Bool.and_eq_true, decide_eq_true_eq, beq_iff_eq] at good
  omega

/-- A taken branch to a good target, without a link. -/
theorem branchTo_of_inCode {s : State} {t : Nat} {target : Word} (good : inCode (til s t) target.toNat = true) (op : Nat)
    (b : BitVec 54) : branchTo s t op b target none = tput s t { til s t with pc := target } := by
  simp only [branchTo, good, ↓reduceIte]

theorem branchTo_link_of_inCode {s : State} {t : Nat} {target : Word} (good : inCode (til s t) target.toNat = true) (op : Nat)
    (b : BitVec 54) (r : Nat) :
    branchTo s t op b target (some r) = tput s t { sset (til s t) r ((til s t).pc + 8) with pc := target } := by
  simp only [branchTo, good, ↓reduceIte]

/-- A branch to a bad target raises ADDRESS on itself; no link is written (R136). -/
theorem branchTo_of_not_inCode {s : State} {t : Nat} {target : Word} (can : canIssue (til s t) = true)
    (bad : inCode (til s t) target.toNat = false) (op : Nat) (b : BitVec 54) (link : Option Nat) :
    branchTo s t op b target link = trapped s t op b 2 target := by
  simp only [branchTo, bad, Bool.false_eq_true, ↓reduceIte, raiseAt_trapped can]

section
variable {s : State} {t : Fin 512} {b : BitVec 54} (runs : issues (til s t) b) (res : fBres b = 0)
include runs res

/-- A branch on a comparison that issues. -/
theorem branchCmp_of_issues (ps : fBPS b = 0) (free : freeS (til s t) [fBRA b, fBRB b] = true) (op : Nat) (f : Word → Word → Bool) :
    branchCmp s t op b f = if f (sreg (til s t) (fBRA b)) (sreg (til s t) (fBRB b)) then
      branchTo s t op b (branchTarget (til s t) b) none else tput s t (advPc (til s t)) := by
  rw [branchCmp]
  exact issue_of_issues runs (by simp [res, ps]) free

theorem exec_brP_of_issues (ra : fBRA b = 0) (rb : fBRB b = 0) (free : freeP (til s t) [fBPS b] = true) :
    exec (.brP t b) s = .next (if bbit (preg (til s t) (fBPS b)) 0 then
      branchTo s t 0x047 b (branchTarget (til s t) b) none else tput s t (advPc (til s t))) :=
  congrArg Host.Outcome.next (issue_of_issues runs (by simp [res, ra, rb]) free)

theorem exec_jmp_of_issues (ra : fBRA b = 0) (rb : fBRB b = 0) (ps : fBPS b = 0) :
    exec (.jmp t b) s = .next (branchTo s t 0x048 b (branchTarget (til s t) b) none) :=
  congrArg Host.Outcome.next (issue_of_issues runs (by simp [res, ra, rb, ps]) rfl)

theorem exec_jal_of_issues (rb : fBRB b = 0) (ps : fBPS b = 0) (free : freeS (til s t) [fBRA b] = true) :
    exec (.jal t b) s = .next (branchTo s t 0x049 b (branchTarget (til s t) b) (some (fBRA b))) :=
  congrArg Host.Outcome.next (issue_of_issues runs (by simp [res, rb, ps]) free)

theorem exec_jr_of_issues (rb : fBRB b = 0) (ps : fBPS b = 0) (off : fOFF b = 0) (free : freeS (til s t) [fBRA b] = true) :
    exec (.jr t b) s = .next (branchTo s t 0x04A b (sreg (til s t) (fBRA b)) none) :=
  congrArg Host.Outcome.next (issue_of_issues runs (by simp [res, rb, ps, off]) free)

end

/-- Settles O16: a branch that issues moves the pc on or goes to its target, which lies in the code area. -/
theorem branchesGoToTheirTarget : Obligations.BranchesGoToTheirTarget := by
  intro s t b runs res free freeG x p q target goes branches
  have freeA : freeS x [fBRA b] = true := freeS_of_subset (by simp) free
  have there : branchTarget (til s t) b = target := branchTarget_eq (til s t) b
  -- a conditional branch, from its form after the issue
  have branch {c : Instr} (op : Nat) {f : Bool} {taken : Prop} (iff : f = true ↔ taken)
      (e : exec c s = .next (if f then branchTo s t op b (branchTarget (til s t) b) none else tput s t (advPc (til s t)))) :
      branches c taken := by
    refine ⟨fun stays => ?_, fun taken good => ?_⟩
    · rw [if_neg (mt iff.1 stays)] at e
      exact e
    · rw [if_pos (iff.2 taken), there, branchTo_of_inCode good] at e
      exact e
  refine ⟨fun ps => ?compares, fun ra rb => ?predicate, fun ps rb => ⟨fun ra good => ?jmp, fun good => ?jal, fun off good => ?jr⟩⟩
  case compares =>
    have cmp {c : Instr} (op : Nat) (f : Word → Word → Bool) (e : exec c s = .next (branchCmp s t op b f)) {taken : Prop}
        (iff : f p q = true ↔ taken) : branches c taken :=
      branch op iff (e.trans (congrArg Host.Outcome.next (branchCmp_of_issues runs res ps free op f)))
    exact ⟨cmp _ _ rfl beq_iff_eq, cmp _ _ rfl bne_iff_ne, cmp _ _ rfl (sltW_iff p q), cmp _ _ rfl (sgeW_iff p q),
      cmp _ _ rfl (ultW_iff p q), cmp _ _ rfl (ugeW_iff p q)⟩
  case predicate => exact branch 0x047 (by rw [bbit_eq_getLsbD]) (exec_brP_of_issues runs res ra rb freeG)
  case jmp =>
    change exec _ s = _
    rw [exec_jmp_of_issues runs res ra rb ps, there, branchTo_of_inCode good]
  case jal =>
    change exec _ s = _
    rw [exec_jal_of_issues runs res rb ps freeA, there, branchTo_link_of_inCode good]
  case jr =>
    change exec _ s = _
    rw [exec_jr_of_issues runs res rb ps off freeA, branchTo_of_inCode good]

/-- Settles O17: a bad target is not in the code area, where `branchTo` does nothing but raise ADDRESS. -/
theorem badBranchTargetsRaiseAddress : Obligations.BadBranchTargetsRaiseAddress := by
  intro s t b g runs res image free freeG x p q target bad raises
  have freeA : freeS x [fBRA b] = true := freeS_of_subset (by simp) free
  have trap (op : Nat) {w : Word} (out : bad w) (link : Option Nat) : branchTo s t op b w link = trapped s t op b 2 w :=
    branchTo_of_not_inCode runs.1 (inCode_of_bad image out) op b link
  refine ⟨fun out => ?targets, fun out ps rb off => ?jr⟩
  case targets =>
    have trapTarget (op : Nat) (link : Option Nat) : branchTo s t op b (branchTarget (til s t) b) link = trapped s t op b 2 target := by
      rw [branchTarget_eq]
      exact trap op out link
    refine ⟨fun ps => ?compares, fun ra rb taken => ?predicate, fun ps rb => ⟨fun ra => ?jmp, ?jal⟩⟩
    case compares =>
      have cmp {c : Instr} (op : Nat) (f : Word → Word → Bool) (e : exec c s = .next (branchCmp s t op b f)) (taken : f p q = true) :
          raises c op target := by
        refine e.trans (congrArg Host.Outcome.next ?_)
        rw [branchCmp_of_issues runs res ps free, if_pos taken, trapTarget]
      exact ⟨fun h => cmp _ _ rfl (beq_iff_eq.2 h), fun h => cmp _ _ rfl (bne_iff_ne.2 h), fun h => cmp _ _ rfl ((sltW_iff p q).2 h),
        fun h => cmp _ _ rfl ((sgeW_iff p q).2 h), fun h => cmp _ _ rfl ((ultW_iff p q).2 h), fun h => cmp _ _ rfl ((ugeW_iff p q).2 h)⟩
    case predicate =>
      change exec _ s = _
      rw [exec_brP_of_issues runs res ra rb freeG, if_pos (by rw [bbit_eq_getLsbD, taken]), trapTarget]
    case jmp =>
      change exec _ s = _
      rw [exec_jmp_of_issues runs res ra rb ps, trapTarget]
    case jal =>
      change exec _ s = _
      rw [exec_jal_of_issues runs res rb ps freeA, trapTarget]
  case jr =>
    change exec _ s = _
    rw [exec_jr_of_issues runs res rb ps off freeA, trap _ out]

/-! ### System instructions (R158) -/

/-- What SYS.ID writes for each value of IMM. -/
def sysIdValue (s : State) (t : Nat) : Nat → Word
  | 0 => rword s .TIL_ID t
  | 1 => w64 (tcyc s t / 1000)
  | 2 => w64 (timeNs s)
  | _ => rword s .TIL_FPSTAT t

section
variable {s : State} {t : Fin 512} {b : BitVec 54} (runs : issues (til s t) b)
include runs

theorem exec_sysId_of_issues (ra : fXRA b = 0) (rb : fXRB b = 0) (rc : fXRC b = 0) (pd : fXPD b = 0) (imm : fXIMM b < 4)
    (free : freeS (til s t) [fXRD b] = true) :
    exec (.sysId t b) s = .next (tput s t (advPc (sset (til s t) (fXRD b) (sysIdValue s t (fXIMM b))))) :=
  congrArg Host.Outcome.next (issue_of_issues runs (by simp [ra, rb, rc, pd, imm]) free)

theorem exec_syncFence_of_issues (rd : fXRD b = 0) (ra : fXRA b = 0) (rb : fXRB b = 0) (rc : fXRC b = 0) (pd : fXPD b = 0)
    (imm : fXIMM b < 8) (clear : ∀ p ∈ (til s t).pend, ¬(fXIMM b % 2 = 1 ∧ p.op.inStore = true) ∧
      ¬(fXIMM b / 2 % 2 = 1 ∧ p.op.inDevice = true) ∧ ¬(fXIMM b / 4 % 2 = 1 ∧ p.op.movLocal = true)) :
    exec (.syncFence t b) s = .next (tput s t (advPc (til s t))) := by
  refine congrArg Host.Outcome.next
    ((issue_of_issues runs (by simp [rd, ra, rb, rc, pd, imm]) rfl).trans (if_pos (List.all_eq_true.2 fun p mem => ?_)))
  obtain ⟨store, device, move⟩ := clear p mem
  rw [Bool.not_eq_true', Bool.eq_false_iff]
  intro reaches
  simp only [bits, Nat.pow_zero, Nat.div_one, Nat.reducePow, Bool.or_eq_true, Bool.and_eq_true, beq_iff_eq] at reaches
  rcases reaches with (inStore | inDevice) | movLocal
  · exact store inStore
  · exact device inDevice
  · exact move movLocal

end

/-- Settles O18: each SYNC issues with the condition it waits for, which holds, and SYS.ID writes the value IMM names. -/
theorem systemInstructionsComplete : Obligations.SystemInstructionsComplete := by
  intro s t b runs x passes
  refine ⟨fun zero => ?nop, fun rd rb rc pd => ⟨fun imm free => ?reg, fun ra => ⟨fun imm clear => ?fence, fun imm few => ?arr,
    fun imm few => ?mov⟩⟩, ?sysId⟩
  case nop => exact congrArg Host.Outcome.next (issue_of_issues runs (by simp [zero]) rfl)
  case reg => exact congrArg Host.Outcome.next (issue_of_issues runs (by simp [rd, rb, rc, pd, imm]) (by simpa using free))
  case fence => exact exec_syncFence_of_issues runs rd ra rb rc pd imm clear
  case arr =>
    exact congrArg Host.Outcome.next ((issue_of_issues runs (by simp [rd, ra, rb, rc, pd, imm]) rfl).trans (if_pos few))
  case mov =>
    exact congrArg Host.Outcome.next ((issue_of_issues runs (by simp [rd, ra, rb, rc, pd, imm]) rfl).trans (if_pos few))
  case sysId =>
    intro ra rb rc pd free gives
    have id {n : Nat} (small : n < 4) (imm : fXIMM b = n) : gives (sysIdValue s t n) := by
      rw [← imm]
      exact exec_sysId_of_issues runs ra rb rc pd (imm ▸ small) (by simpa using free)
    exact ⟨id (by decide), id (by decide), id (by decide), id (by decide)⟩

/-! ### Exceptions (R166-R168, R693) -/

/-- A word is its opcode and the 54 bits below it (R123). -/
theorem wordOf_opcode (w : Word) : wordOf (bget w 54 10) (w.setWidth 54) = w := by
  apply BitVec.eq_of_toNat_eq
  have := w.isLt
  simp only [wordOf, w64, bget, bits, BitVec.toNat_ofNat, BitVec.toNat_setWidth]
  omega

theorem exec_illegalInstruction_of_unlisted {s : State} {t : Fin 512} {w : Word} (can : canIssue (til s t) = true)
    (unlisted : listedOp (bget w 54 10) = false) :
    exec (.illegalInstruction t w) s = .next (trapped s t (bget w 54 10) (w.setWidth 54) 1 0) := by
  rw [← raiseAt_trapped can]
  exact congrArg Host.Outcome.next (if_neg (by simp [can, unlisted]))

theorem codeEnd_of_end {s : State} {t : Nat} {g : Img} (image : (til s t).img = some g)
    (ended : ((til s t).item.isSome && (til s t).exc.isNone && (til s t).atBar.isNone && (til s t).pushing.isNone &&
      decide (64 + g.codeLen ≤ (til s t).pc.toNat)) = true) :
    codeEnd s t = raise s t { code := 2, precise := true, pc := (til s t).pc, instr := 0, addr := (til s t).pc } := by
  simp only [codeEnd, image, ended, ↓reduceIte]

/-- A tiller past its limit whose item has no exception yet records TIMEOUT and leaves its barrier (R159, R166). -/
theorem exec_itemTimeout_of_late {s : State} {t : Fin 512} (clear : (til s t).exc = none)
    (late : ((til s t).item.isSome && !(til s t).late && fget s F.SCH_ITEM_LIMIT_LIMIT 0 != 0 &&
      decide (fget s F.SCH_ITEM_LIMIT_LIMIT 0 * 1000 ≤ tcyc s t - (til s t).itemCyc)) = true) :
    exec (.itemTimeout t) s = .next (tput s t { til s t with
      late := true
      atBar := none
      exc := some { code := 6, precise := false, pc := (til s t).pc, instr := 0, addr := 0, time := timeNs s,
                    n := (til s t).seq, cyc := tcyc s t / 1000 } }) := by
  refine (if_pos late).trans (congrArg Host.Outcome.next ?_)
  have cycles : tcyc (tput s t { til s t with late := true, atBar := none }) t = tcyc s t := tcyc_tput s t _ rfl rfl
  rw [tupd, raise_records (by rw [til_tput_self]; exact clear), cycles, til_tput_self, tput_tput]
  rfl

/-! ### The end of an item -/

@[simp] theorem tcount_til (s : State) (f : Fld) (t n : Nat) : (tcount s f t n).til = s.til := by
  rw [tcount]
  split <;> rfl

@[simp] theorem til_tcount (s : State) (f : Fld) (t n k : Nat) : til (tcount s f t n) k = til s k :=
  til_of (tcount_til ..) k

/-- TIL_BUSY brought up to the present: of the tillers, only the time up to which it is counted changes. -/
theorem busyFix_til {s : State} {t : Nat} {w : Work} (item : (til s t).item = some w) :
    (busyFix s t).til = (tput s t { til s t with
      busyCyc := (til s t).busyCyc + 1000 * ((tcyc s t - (til s t).busyCyc) / 1000) }).til := by
  rw [busyFix, item]
  exact tcount_til ..

theorem faultContextsIf_til (s : State) (w : Work) (code : Nat) : (if code = 0 then s else faultContexts s w code).til = s.til := by
  split
  · rfl
  · exact faultContexts_til

theorem tput_til_congr {s u : State} (h : u.til = s.til) (t : Nat) (x : Tiller) : (tput u t x).til = (tput s t x).til := by
  rw [tput, tput, h]

/-- Of the tillers, the end of an item changes only its own: it is free and searches (R112, R160, R167). -/
theorem itemEnd_til {s : State} {t : Nat} {w : Work} (item : (til s t).item = some w) (status code : Nat) :
    (itemEnd s t status code).til = (tput s t (freed (til s t) (tcyc s t))).til := by
  simp only [itemEnd, item]
  rw [reap_til, attEnd_til, releaseSlots_til, stepSub_til, faultContextsIf_til, tupd, til_tcount, til_of (busyFix_til item),
    til_tput_self, tput_til_congr ((tcount_til ..).trans (busyFix_til item)), tput_tput, freed]

/-! ### Delivery of an exception (R167) -/

theorem islFreq_logRecord (s : State) (h : Option Nat) (bs : List Byte) (i : Nat) : islFreq (logRecord s h bs) i = islFreq s i :=
  fget_congr (f := F.ISL_CLK_STAT_FREQ_NOW) (logRecord_ISL_CLK_STAT i)

theorem til_logRecord (s : State) (h : Option Nat) (bs : List Byte) (t : Nat) : til (logRecord s h bs) t = til s t :=
  til_of logRecord_til t

theorem tcyc_logRecord (s : State) (h : Option Nat) (bs : List Byte) (t : Nat) : tcyc (logRecord s h bs) t = tcyc s t := by
  rw [tcyc, tcyc, til_logRecord, logRecord_now, islFreq_logRecord]

/-- An exception whose tiller has completed all it issued is delivered: the record, and the end of the item as faulted. -/
theorem deliver_of_complete {s : State} {t : Nat} {e : Exc} {w : Work} (exc : (til s t).exc = some e) (item : (til s t).item = some w)
    (pend : (til s t).pend = []) (pushing : (til s t).pushing = none) (atBar : (til s t).atBar = none) :
    deliver s t = itemEnd (logRecord s none (excRecord t (til s t) e w)) t 0 e.code := by
  simp only [deliver, exc, item, pend, pushing, atBar, List.isEmpty_nil, Bool.not_true, Bool.false_eq_true, Option.isSome_none,
    or_self, ↓reduceIte]

/-- Settles O20: each clause is `raise` on a tiller without an exception, which records it and touches nothing else; delivery
is the end of the item, and neither the log nor what the end releases touches another tiller. -/
theorem exceptionsAreRecordedAndDelivered : Obligations.ExceptionsAreRecordedAndDelivered := by
  refine ⟨?trap, ?illegal, ?codeEnd, ?timeout, ?delivery⟩
  case trap =>
    intro s t b runs rd ra rb rc pd imm
    rw [← raiseAt_trapped runs.1]
    exact congrArg Host.Outcome.next (issue_of_issues runs (by simp [rd, ra, rb, rc, pd, imm]) rfl)
  case illegal =>
    intro s t w can unlisted
    rw [exec_illegalInstruction_of_unlisted can unlisted, trapped, wordOf_opcode]
  case codeEnd =>
    intro s t g image item clear atBar pushing ended
    refine congrArg Host.Outcome.next ((codeEnd_of_end image ?_).trans (raise_records clear))
    simp [item, clear, atBar, pushing, ended]
  case timeout =>
    intro s t item fresh clear limited used
    exact exec_itemTimeout_of_late clear (by simp [item, fresh, limited, used])
  case delivery =>
    intro s t e w exc item pend pushing atBar
    have ended := itemEnd_til (s := logRecord s none (excRecord t (til s t) e w)) (by rw [til_logRecord]; exact item) 0 e.code
    rw [til_logRecord, tcyc_logRecord] at ended
    refine ⟨_, congrArg Host.Outcome.next (deliver_of_complete exc item pend pushing atBar), rfl, ?_, fun k other => ?_⟩
    · rw [til_of ended, til_tput_self]
    · rw [til_of ended, til_tput_ne _ _ other, til_logRecord]

end Sys2Proof.Machine
end

section
/-!
The statements of 04_sirec_isa.md on context instructions: the answer each takes at its issue, and the answers' arrival
(R149-R152, R191-R197, R311, R315, R316).
-/

namespace Sys2Proof.Machine

/-! ### Issue -/

theorem pushPend_eq (s : State) (t op : Nat) (b : BitVec 54) (p : Pend) :
    pushPend s t op b p = tput s t (pended (til s t) op b p) := rfl

/-- The tiller may reach the context: it is of its half, or the die-to-die link stands (R574). -/
theorem reach_iff {s : State} {t c : Nat} : reach s t c = true ↔ s.twin.lost = false ∨ halfOf t = ctxHalf c := by
  rw [reach, Bool.or_eq_true, Bool.not_eq_true', beq_iff_eq]

/-- A context instruction that issues is incomplete with the answer `p` it takes, which may have changed the state to `u`. -/
theorem ctxIssue_of_issues {s : State} {t : Nat} {b : BitVec 54} (runs : issues (til s t) b)
    (free : freeS (til s t) [fXRD b, fXRA b, fXRB b] = true) (freeG : freeP (til s t) [fXPD b] = true)
    (room : movePipeFree (til s t) = true) {op c : Nat} {w : Word} {legal useB useP : Bool} {k : State → Nat → Word → State × Pend}
    {u : State} {p : Pend} (legal_ : legal = true) (ctx : (sreg (til s t) (fXRA b)).toNat % 2 ^ 18 = c)
    (operand : sreg (til s t) (fXRB b) = w) (answer : k s c w = (u, p)) :
    ctxIssue s t op b legal useB useP k = tput u t (pended (til u t) op b p) := by
  have freeUsed : freeS (til s t) ([fXRD b, fXRA b] ++ if useB then [fXRB b] else []) = true := by
    refine freeS_of_subset ?_ free
    cases useB <;> simp
  subst ctx operand
  rw [ctxIssue]
  refine (issue_of_issues runs legal_ (by rw [freeUsed, freeG, room, Bool.or_true]; rfl)).trans ?_
  simp only [answer]
  rfl

/-- A state in which a context may be read for its step: PREFILL, DECODE or REBUILD. -/
theorem inStep_iff {st : Nat} :
    (st == stPREFILL || st == stDECODE || st == stREBUILD) = true ↔ st = stPREFILL ∨ st = stDECODE ∨ st = stREBUILD := by
  simp only [Bool.or_eq_true, beq_iff_eq, or_assoc]

/-! ### CTX.RD, CTX.STEP, CTX.BIND and CTX.HOLD -/

/-- A descriptor whose words all have right parity reads without effect. -/
theorem descRead_of_good {s : State} {c : Nat} (good : s.descBad.any (fun k => k / 32 == c) = false) : descRead s c = s := by
  rw [descRead, descReadAt, if_neg (by rw [good]; decide)]

theorem descBad_any_eq_false {s : State} {c : Nat} (good : ∀ k ∈ s.descBad, k / 32 ≠ c) :
    s.descBad.any (fun k => k / 32 == c) = false := by
  rw [List.any_eq_false]
  exact fun k mem => by simpa using good k mem

/-- The first position of the context's work in the step (CTX.STEP), state by state. -/
theorem firstPos_eq (x : Ctx) : firstPos x = if dg x.d D.STATE = stDECODE then dg x.d D.LENGTH
    else if dg x.d D.STATE = stREBUILD then dg x.d D.HOLE_START else (x.chunk.map (·.start)).getD (dg x.d D.KV_VALID) := by
  rw [firstPos]
  cases x.chunk <;> rfl

theorem foldl_eq_self {α β : Type} {f : β → α → β} {b : β} {l : List α} (h : ∀ a ∈ l, f b a = b) : l.foldl f b = b := by
  induction l with
  | nil => rfl
  | cons a l ih =>
    rw [List.foldl_cons, h a List.mem_cons_self]
    exact ih fun x mem => h x (List.mem_cons_of_mem a mem)

/-- When none of the last 31 log words lies in a failed line, nothing is asked of the twin (R181). -/
theorem bindLogCheck_of_good {s : State} {c : Nat}
    (good : ∀ p, dg (cx s c).d D.LENGTH - 31 ≤ p → p < dg (cx s c).d D.LENGTH → logBad s (cx s c).d p = none) :
    bindLogCheck s c = s := by
  refine foldl_eq_self fun p mem => ?_
  obtain ⟨i, small, rfl⟩ := List.mem_map.1 mem
  have := List.mem_range.1 small
  have reads := good (dg (cx s c).d D.LENGTH - min 31 (dg (cx s c).d D.LENGTH) + i) (by omega) (by omega)
  simp only [reads]

/-- A context without a stop record binds a matcher that knows no stop sequence and no end token (R315). -/
theorem bindOf_of_no_record {s : State} {c : Nat} (none_ : dg (cx s c).d D.STOP_REC = 0) :
    ∃ m : Matcher, bindOf s c = some m ∧ m.cid = c ∧ m.inc = dg (cx s c).d D.INCARNATION ∧ m.ends = [] ∧ m.seqs = [] ∧
      m.maxTok = dg (cx s c).d D.MAX_TOKENS ∧ m.generated = dg (cx s c).d D.GENERATED ∧ m.maxLen = dg (cx s c).d D.MAX_LEN ∧
      m.length = dg (cx s c).d D.LENGTH ∧ m.last.length = min 31 (dg (cx s c).d D.LENGTH) := by
  refine ⟨_, if_pos none_, rfl, rfl, rfl, rfl, rfl, rfl, rfl, rfl, ?_⟩
  rw [List.length_map, List.length_range]

theorem til_dmod (s : State) (c : Nat) (f : Desc → Desc) (t : Nat) : til (dmod s c f) t = til s t := til_of cxChange_til t

/-! ### CTX.SPAN for read (R191-R195) -/

/-- A walk counts as a hit or as a miss, and reads nothing else of the state. -/
theorem countWalk_eq (s : State) (c : Nat) : ∃ f, (f = F.CTX_WALK_HITS ∨ f = F.CTX_WALK_MISSES) ∧
    countWalk s c = fadd1 (bump s) f (ctxHalf c) 1 := by
  rw [countWalk]
  split
  · exact ⟨_, .inl rfl, rfl⟩
  · exact ⟨_, .inr rfl, rfl⟩

theorem spanAllowed_of_inStep {s : State} {st : Nat} (inStep : st = stPREFILL ∨ st = stDECODE ∨ st = stREBUILD) (write : Bool) :
    spanAllowed s st write = true := by
  rw [spanAllowed, inStep_iff.2 inStep, Bool.true_or]

theorem ptCheck_of_lineOk {s : State} {c v : Nat} (good : lineOk s (pteAddr (cx s c).d v) = true) : ptCheck s c v = s := by
  rw [ptCheck]
  exact if_pos good

theorem cx_countWalk (s : State) (c k : Nat) : cx (countWalk s c) k = cx s k := by
  rw [countWalk]
  split <;> rfl

theorem ptGet_countWalk (s : State) (c : Nat) (d : Desc) (v : Nat) : ptGet (countWalk s c) d v = ptGet s d v := by
  rw [countWalk]
  split <;> rfl

theorem stackRetired_countWalk (s : State) (c k : Nat) : stackRetired (countWalk s c) k = stackRetired s k := by
  have apart : Reg.CTX_WALK ≠ Reg.BNK_STK_STAT := nofun
  rw [stackRetired, stackRetired, countWalk]
  split
  · rw [fadd1, fget_fput_reg _ _ (.inl apart)]
    rfl
  · rw [fadd1, fget_fput_reg _ _ (.inl apart)]
    rfl

theorem pagePoison_countWalk (s : State) (c : Nat) (e : Word) : pagePoison (countWalk s c) e = pagePoison s e := by
  have shares : share (countWalk s c) (pKey e) = share s (pKey e) := by
    rw [countWalk]
    split <;> rfl
  rw [pagePoison, pagePoison, shares, stackRetired_countWalk]

/-- What a walk for read answers for an entry: the page's address, or that it is not backed. -/
def readAnswer (e : Word) (off : Nat) : Word × Bool := if !pV e || pLost e then (0, false) else (w64 (pageAddr e off), true)

/-- A walk for read of an entry in a good line, of a page that is not newly found bad: it counts, and nothing else changes. -/
theorem walk_read {s : State} {t c off : Nat} (inStep : dg (cx s c).d D.STATE = stPREFILL ∨ dg (cx s c).d D.STATE = stDECODE ∨
      dg (cx s c).d D.STATE = stREBUILD) (inSpan : off < 65536 * dPages (cx s c).d) (reached : reach s t c = true)
    (line : lineOk s (pteAddr (cx s c).d (off / 65536)) = true)
    (clean : (pV (ptGet s (cx s c).d (off / 65536)) && !pLost (ptGet s (cx s c).d (off / 65536)) &&
      pagePoison s (ptGet s (cx s c).d (off / 65536))) = false) :
    walk s t c off false = (countWalk s c, .inl (some (readAnswer (ptGet s (cx s c).d (off / 65536)) off))) := by
  have allowed : ¬((!spanAllowed s (dg (cx s c).d D.STATE) false) = true ∨ 65536 * dPages (cx s c).d ≤ off ∨ (!reach s t c) = true) := by
    rw [spanAllowed_of_inStep inStep, reached]
    simp [inSpan]
  rw [walk, if_neg allowed]
  simp only [ptCheck_of_lineOk line, cx_countWalk, ptGet_countWalk, pagePoison_countWalk, clean, Bool.false_and,
    Bool.false_eq_true, ↓reduceIte, Bool.not_false, readAnswer]
  split <;> rfl

theorem fXIMM_zero_write {b : BitVec 54} (imm : fXIMM b = 0) : (fXIMM b == 1) = false := by rw [imm]; rfl

/-- CTX.SPAN for read that issues: the walk's answer, with its count. -/
theorem exec_ctxSpan_read {s : State} {t : Fin 512} {b : BitVec 54} (runs : issues (til s t) b) (rc : fXRC b = 0) (imm : fXIMM b = 0)
    (free : freeS (til s t) [fXRD b, fXRA b, fXRB b] = true) (freeG : freeP (til s t) [fXPD b] = true)
    (room : movePipeFree (til s t) = true) {u : State} {a : Word} {q : Bool}
    (w : walk s t ((sreg (til s t) (fXRA b)).toNat % 2 ^ 18) (sreg (til s t) (fXRB b)).toNat false = (u, .inl (some (a, q)))) :
    exec (.ctxSpan t b) s =
      .next (pushPend u t 0x185 b (.ctx (fXRD b) a (some (fXPD b, q)) false ((sreg (til s t) (fXRA b)).toNat % 2 ^ 18))) := by
  refine congrArg Host.Outcome.next ((issue_of_issues runs (by simp [rc, imm])
    (by rw [free, freeG, room, fXIMM_zero_write imm]; rfl)).trans ?_)
  simp only [fXIMM_zero_write imm, w, Bool.false_and, Bool.false_eq_true, ↓reduceIte]

/-- Settles O28: each instruction issues with the answer its condition gives, and the walk of CTX.SPAN for read changes only the
hit or miss counter. -/
theorem contextInstructionsReadAndBind : Obligations.ContextInstructionsReadAndBind := by
  intro s t b runs rc free freeG room x c off d st reachable
  have reached : reach s t c = true := reach_iff.2 reachable
  have legal4 (rb : fXRB b = 0) (pd : fXPD b = 0) {n : Nat} (imm : n = 0) : zeros [fXRB b, fXRC b, fXPD b, n] = true := by
    simp [rb, rc, pd, imm]
  refine ⟨fun rb pd => ⟨fun imm good live => ?rd, fun imm inStep => ?step, fun imm decode noRecord log => ?bind,
    fun imm inStep => ?hold⟩, fun imm inStep inSpan line => ?span⟩
  case rd =>
    have clean : s.descBad.any (fun k => k / 32 == c) = false := descBad_any_eq_false good
    have notFree : (cstate s c == stFREE) = false := beq_eq_false_iff_ne.2 live
    refine congrArg Host.Outcome.next
      (ctxIssue_of_issues (c := c) runs free freeG room (legal4 rb pd (Nat.div_eq_of_lt imm)) rfl rfl ?_)
    simp only [descRead_of_good clean, clean, notFree, reached, Nat.mod_eq_of_lt imm, Bool.not_true, Bool.or_self,
      Bool.false_eq_true, ↓reduceIte]
    rfl
  case step =>
    refine congrArg Host.Outcome.next (ctxIssue_of_issues (c := c) runs free freeG room (legal4 rb pd imm) rfl rfl ?_)
    refine (if_pos (Bool.and_eq_true_iff.2 ⟨inStep_iff.2 inStep, reached⟩)).trans ?_
    rw [firstPos_eq]
    rfl
  case bind =>
    obtain ⟨m, bound, fields⟩ := bindOf_of_no_record (s := s) (c := c) noRecord
    refine ⟨m, ?_, fields⟩
    refine congrArg Host.Outcome.next ((ctxIssue_of_issues (c := c) (u := tput s t { x with matcher := some m }) (p := ctxVal b 0 c)
      runs free freeG room (legal4 rb pd imm) rfl rfl
      ((if_pos (Bool.and_eq_true_iff.2 ⟨beq_iff_eq.2 decode, reached⟩)).trans ?_)).trans ?_)
    · simp only [bindLogCheck_of_good log, bound]
      rfl
    · rw [til_tput_self, tput_tput, ctxVal]
  case hold =>
    refine ⟨_, congrArg Host.Outcome.next
      (ctxIssue_of_issues (c := c) runs free freeG room (legal4 rb pd (Nat.div_eq_of_lt imm)) rfl rfl
        (if_pos (Bool.and_eq_true_iff.2 ⟨inStep_iff.2 inStep, reached⟩))), ?_, fun k other => ?_, ?_, fun k other => ?_⟩
    · rw [cx_tput, cx_dmod_self, Nat.mod_eq_of_lt imm]
    · rw [cx_tput, cx_dmod_ne _ _ other]
    · rw [til_tput_self, til_dmod]
      rfl
    · rw [til_tput_ne _ _ other, til_dmod]
  case span =>
    intro e takes
    obtain ⟨f, hitOrMiss, counts⟩ := countWalk_eq s c
    have answers {a : Word} {q : Bool} (clean : (pV e && !pLost e && pagePoison s e) = false) (answer : readAnswer e off = (a, q)) :
        takes a q := by
      have walks := walk_read inStep inSpan reached line clean
      refine ⟨f, hitOrMiss, (exec_ctxSpan_read runs rc imm free freeG room (walks.trans (by rw [answer]))).trans ?_⟩
      rw [counts]
      rfl
    refine ⟨fun empty => answers (by rw [empty]; rfl) (if_pos (by rw [empty]; rfl)), fun backed kept sound => ?_⟩
    exact answers (by rw [sound, Bool.and_false]) (if_neg (by rw [backed, kept]; decide))

/-! ### CTX.EMIT (R149, R316) -/

/-- An end token gives reason 1 (R316). -/
theorem stopReason_of_end {m : Matcher} {tok : Nat} (h : tok ∈ m.ends) : stopReason m tok = (1, 0) :=
  if_pos (List.contains_iff_mem.2 h)

/-- Stop sequence `i` of the matcher ends with the offered token. -/
def stopMatches (m : Matcher) (tok i : Nat) : Bool :=
  decide ((m.seqs.getD i []).length ≤ m.generated + 1) && tailMatches (m.seqs.getD i []).reverse ((tok, true) :: m.last.reverse)

/-- For a token that ends nothing by itself, the lowest stop sequence that matches decides, else the length limits. -/
theorem stopReason_of_not_end {m : Matcher} {tok : Nat} (h : tok ∉ m.ends) : stopReason m tok =
    match (List.range m.seqs.length).find? (stopMatches m tok) with
    | some i => (2, i)
    | none => if m.generated + 1 = m.maxTok ∨ m.length + 1 = m.maxLen then (3, 0) else (0, 0) := by
  rw [stopReason, if_neg (mt List.contains_iff_mem.1 h)]
  rfl

theorem stopReason_of_sequence {m : Matcher} {tok k : Nat} (h : tok ∉ m.ends) (small : k < m.seqs.length)
    (here : stopMatches m tok k = true) (first : ∀ j, j < k → stopMatches m tok j = false) : stopReason m tok = (2, k) := by
  have found : (List.range m.seqs.length).find? (stopMatches m tok) = some k :=
    List.find?_range_eq_some.2 ⟨here, List.mem_range.2 small, fun j less => by rw [first j less]; rfl⟩
  rw [stopReason_of_not_end h, found]

theorem stopReason_of_no_sequence {m : Matcher} {tok : Nat} (h : tok ∉ m.ends)
    (none_ : ∀ k, k < m.seqs.length → stopMatches m tok k = false) :
    stopReason m tok = (if m.generated + 1 = m.maxTok ∨ m.length + 1 = m.maxLen then 3 else 0, 0) := by
  have found : (List.range m.seqs.length).find? (stopMatches m tok) = none :=
    List.find?_range_eq_none.2 fun k small => by rw [none_ k small]; rfl
  rw [stopReason_of_not_end h, found]
  dsimp only
  split <;> rfl

/-! ### Answers (R151, R166) -/

/-- The registers when an answer without exception has arrived: rd, and the predicate if the answer has one. -/
def ctxAnswered (x : Tiller) (rd : Nat) (v : Word) : Option (Nat × Bool) → Tiller
  | some (p, q) => pset (sset x rd v) p (pfill q)
  | none => sset x rd v

theorem contextAnswer_of_good {s : State} {t i rd c : Nat} {v : Word} {pd : Option (Nat × Bool)}
    (h : pendOp (til s t) i = some (.ctx rd v pd false c)) :
    contextAnswer s t i = tput s t (ctxAnswered (dropPend (til s t) i) rd v pd) := by
  rw [contextAnswer, h]
  cases pd <;> rfl

/-- An exception at completion of an instruction whose tiller has none yet: recorded as imprecise, and the instruction ends. -/
theorem imprecise_records {s : State} {t i : Nat} {p : Issued} (h : (til s t).pend[i]? = some p) (clear : (til s t).exc = none)
    (code : Nat) (addr : Word) : imprecise s t i code addr = tput s t { dropPend (til s t) i with
      exc := some { code := code, precise := false, pc := p.pc, instr := p.word, addr := addr, time := timeNs s,
                    n := p.n, cyc := tcyc s t / 1000 } } := by
  have cycles : tcyc (tput s t (dropPend (til s t) i)) t = tcyc s t := tcyc_tput s t _ rfl rfl
  rw [imprecise, h]
  dsimp only
  rw [tupd, raise_records (by rw [til_tput_self]; exact clear), cycles, til_tput_self, tput_tput]
  rfl

/-! ### The end of a copy on write (R197) -/

/-- What a good copy of FP8 slots between two stacks leaves, but for the walks it answers: the slots are written, the new frame has
COUNT 1, the page's entry names it, the old frame is released, and the copy counts. -/
def cowCopied (s : State) (n : Nat) (w : Cow) : State :=
  let d := (cx s w.cid).d
  let s1 := memWrite { s with cows := nerase s.cows n } (w.frame * 65536) (memBytes s (pKey w.old * 65536) (w.u * dSlotBytes d))
  let s2 := ptPut (setShare s1 w.frame { share s1 w.frame with count := 1 }) w.cid w.v (pte true true 0 false (dg d D.FMT) w.side w.frame)
  fadd1 (releaseEntry s2 w.cid w.old) F.CTX_COW_COUNT (ctxHalf w.cid) 1

theorem cowCopied_cows (s : State) (n : Nat) (w : Cow) : (cowCopied s n w).cows = nerase s.cows n := by
  rw [cowCopied]
  extract_lets
  rw [fadd1, fput_cows, releaseEntry_cows, ptPut_cows, setShare_cows, memWrite_cows]

theorem fget_COUNT_cowCopied (s : State) (n : Nat) (w : Cow) : fget (cowCopied s n w) F.CTX_COW_COUNT (ctxHalf w.cid) =
    min (fget s F.CTX_COW_COUNT (ctxHalf w.cid) + 1) (2 ^ F.CTX_COW_COUNT.w - 1) := by
  have before : fget { s with cows := nerase s.cows n } F.CTX_COW_COUNT (ctxHalf w.cid) = fget s F.CTX_COW_COUNT (ctxHalf w.cid) := rfl
  rw [cowCopied]
  extract_lets
  rw [fget_fadd1_self _ F.CTX_COW_COUNT _ 1 (by decide), fget_congr (f := F.CTX_COW_COUNT) (releaseEntry_CTX_COW _),
    fget_congr (f := F.CTX_COW_COUNT) (ptPut_CTX_COW _), fget_congr (f := F.CTX_COW_COUNT) (setShare_CTX_COW _),
    fget_congr (f := F.CTX_COW_COUNT) (memWrite_CTX_COW _), before]

theorem cowDone_of_good {s : State} {n : Nat} {w : Cow} (h : nfind s.cows n = some w) (fp8 : dg (cx s w.cid).d D.FMT ≠ 2)
    (apart : pTier w.old ≠ 0 ∨ pFrame w.old / 2 ^ 21 ≠ w.frame / 2 ^ 21)
    (good : w.u * dSlotBytes (cx s w.cid).d = 0 ∨ badLineIn s (pKey w.old * 65536) (w.u * dSlotBytes (cx s w.cid).d) = none) :
    cowDone s n = { cowCopied s n w with til := (cowDone s n).til } := by
  have two : (pTier w.old == 0 && pFrame w.old / 2 ^ 21 == w.frame / 2 ^ 21) = false := by
    simpa only [Bool.and_eq_false_iff, beq_eq_false_iff_ne] using apart
  have sound : ((badLineIn s (pKey w.old * 65536) (w.u * dSlotBytes (cx s w.cid).d)).isSome &&
      w.u * dSlotBytes (cx s w.cid).d != 0) = false := by
    rcases good with empty | lines
    · simp [empty]
    · simp [lines]
  simp only [cowDone, h, two, sound, Bool.false_and, Bool.false_eq_true, ↓reduceIte, if_neg fp8]
  rfl

/-- Settles O29: `stopReason` takes its cases in the order of R316, an answer ends its instruction and then writes or raises, and
the fields that answering the walks changes are the tillers' alone. -/
theorem contextAnswersReachTheirRegisters : Obligations.ContextAnswersReachTheirRegisters := by
  refine ⟨?emit, ?answer, ?copy⟩
  case emit =>
    intro s t b m runs rc imm free freeG room x c tok d matches' reachable decode matcher cid inc small none_
    have reached : reach s t c = true := reach_iff.2 reachable
    refine ⟨(stopReason m tok).1, (stopReason m tok).2, ?_, fun isEnd => ?_, fun notEnd =>
      ⟨fun k less here first => ?_, fun noSeq => ?_⟩⟩
    · refine congrArg Host.Outcome.next ((ctxIssue_of_issues (c := c) (w := sreg x (fXRB b))
        (u := cxPut s c { cx s c with offer := some (tok, stopReason m tok) })
        (p := .ctx (fXRD b) (w64 ((stopReason m tok).1 + (stopReason m tok).2 * 256)) (some (fXPD b, (stopReason m tok).1 != 0)) false c)
        runs free freeG room (by simp [rc, imm]) rfl rfl ?_).trans ?_)
      · have bound : (til s t).matcher = some m := matcher
        simp only [bound]
        refine if_neg ?_
        rintro (h | h | h | h | h | h)
        · exact h decode
        · exact h cid
        · exact h inc
        · exact absurd small (Nat.not_lt.2 h)
        · rw [none_] at h
          cases h
        · rw [reached] at h
          cases h
      · rw [til_cxPut, Nat.mul_comm (stopReason m tok).2]
        rfl
    · rw [stopReason_of_end isEnd]
      exact ⟨rfl, rfl⟩
    · rw [stopReason_of_sequence notEnd less here first]
      exact ⟨rfl, rfl⟩
    · rw [stopReason_of_no_sequence notEnd noSeq]
      exact ⟨rfl, rfl⟩
  case answer =>
    intro s t i rd c v pd x
    refine ⟨fun here => congrArg Host.Outcome.next ((contextAnswer_of_good here).trans ?_), fun p here op clear => ?_⟩
    · cases pd <;> rfl
    · have raises : pendOp (til s t) i = some (.ctx rd v pd true c) := by rw [pendOp, here, ← op]; rfl
      refine congrArg Host.Outcome.next (Eq.trans ?_ (imprecise_records here clear 4 0))
      rw [contextAnswer, raises]
      rfl
  case copy =>
    intro s n w here d fp8 apart good
    refine ⟨_, congrArg Host.Outcome.next (cowDone_of_good here fp8 apart good), cowCopied_cows s n w, fget_COUNT_cowCopied s n w⟩

end Sys2Proof.Machine
end

section
/-!
The statements of 04_sirec_isa.md, 09_row_tables.md and 11_fabric_transport.md on instructions that ask another unit: the
request that each starts at its issue (R153-R155, R376, R451, R452, R460).
-/

namespace Sys2Proof.Machine

/-! ### BNK.STROKE (R153) -/

/-- Whatever a command's reads give, it carries its tiller, its number and its two addresses. -/
theorem readCommand_ids (s : State) (t id ra rb : Nat) :
    (readCommand s t id ra rb).til = t ∧ (readCommand s t id ra rb).id = id ∧ (readCommand s t id ra rb).ra = ra ∧
      (readCommand s t id ra rb).rb = rb := by
  rw [readCommand]
  extract_lets
  split
  · exact ⟨rfl, rfl, rfl, rfl⟩
  · split <;> exact ⟨rfl, rfl, rfl, rfl⟩

/-- A header that the move pipe reaches is read, whatever becomes of the query block and the column list. -/
theorem readCommand_head {s : State} {t ra : Nat} (mapped : inMap s ra 64 = true) (near : farDev s t ra = false) (id rb : Nat) :
    (readCommand s t id ra rb).head = movRead s t ra 64 := by
  rw [readCommand]
  extract_lets
  rw [if_neg (by rw [mapped, near]; decide)]
  split <;> rfl

theorem exec_bnkStroke_of_issues {s : State} {t : Fin 512} {b : BitVec 54} (runs : issues (til s t) b) (rc : fXRC b = 0)
    (pd : fXPD b = 0) (imm : fXIMM b = 0) (free : freeS (til s t) [fXRD b, fXRA b, fXRB b] = true)
    (room : movePipeFree (til s t) = true) {a : Arrival}
    (read : readCommand s t s.fresh (sreg (til s t) (fXRA b)).toNat (sreg (til s t) (fXRB b)).toNat = a)
    (header : sramWait (til s t).pend a.ra 64 false = false) (ranges : sramBusy (til s t).pend (strokeRanges a) = false) :
    exec (.bnkStroke t b) s = .next (pushPend { bump s with bnk := { s.bnk with arr := nset s.bnk.arr s.fresh a } } t 0x1A1 b
      (.ask (fXRD b) s.fresh (strokeRanges a))) := by
  refine congrArg Host.Outcome.next ((issue_of_issues runs (by simp [rc, pd, imm]) (by rw [free, room]; rfl)).trans ?_)
  simp only [read, header, ranges, Bool.or_self, Bool.false_eq_true, ↓reduceIte]

/-! ### Fabric: the state of a transfer -/

theorem px_of {s u : State} (h : u.fab = s.fab) (p : Nat) : px u p = px s p := by rw [px, h, px]
theorem opOf_of {s u : State} (h : u.fab = s.fab) (k : Nat) : opOf u k = opOf s k := by rw [opOf, h, opOf]
theorem msgOf_of {s u : State} (h : u.fab = s.fab) (k : Nat) : msgOf u k = msgOf s k := by rw [msgOf, h, msgOf]

theorem til_exportSet (s : State) (c : Option Nat) (k : Nat) (on : Bool) (t : Nat) : til (exportSet s c k on) t = til s t :=
  til_of exportSet_til t

/-- An operation put under its number is found there; only its stamp is the device's. -/
theorem opOf_opPut_self (s : State) (k : Nat) (o : FabOp) : ∃ n, opOf (opPut s k o) k = some { o with stamp := n } :=
  ⟨_, nfind_nset_self ..⟩

theorem msgOf_msgPut_self (s : State) (k : Nat) (m : MsgTx) : msgOf (msgPut s k m) k = some m := nfind_nset_self ..

/-! ### Packets that wait for their peer's limiter -/

/-- A packet joins behind those of its peer that wait. -/
theorem wait_enqueueTx_self (s : State) (p : Nat) (r : TxRef) : (px (enqueueTx s p r) p).wait = (px s p).wait ++ [r] := by
  rw [enqueueTx, pxUpd, px_pxPut_self]
  split
  next idle => rw [List.isEmpty_iff.1 idle, List.nil_append]
  next => rfl

theorem wait_foldl_enqueueTx (l : List TxRef) (s : State) (p : Nat) :
    (px (l.foldl (fun s r => enqueueTx s p r) s) p).wait = (px s p).wait ++ l := by
  induction l generalizing s with
  | nil => rw [List.foldl_nil, List.append_nil]
  | cons r l ih => rw [List.foldl_cons, ih, wait_enqueueTx_self, List.append_assoc, List.singleton_append]

/-- What every packet leaves alone, all of them do. -/
theorem foldl_enqueueTx_keeps {α : Type} (g : State → α) {p : Nat} (h : ∀ s r, g (enqueueTx s p r) = g s) (l : List TxRef) (s : State) :
    g (l.foldl (fun s r => enqueueTx s p r) s) = g s := by
  induction l generalizing s with
  | nil => rfl
  | cons r l ih => rw [List.foldl_cons, ih, h]

theorem segments_length (k kind base : Nat) (d : FabDesc) (at' : Option (Nat × Nat)) (bs : List Byte) :
    (segments k kind base d at' bs).length = cdiv d.len 4096 := by
  rw [segments, List.length_map, List.length_range]

/-! ### FAB.PUT, FAB.PUTF and FAB.SEND (R451, R452) -/

/-- The entry of a message that begins with an instruction. -/
def newMsg (d : FabDesc) : MsgTx := { key := d.key, cls := d.cls, tenant := d.tenant, comp := d.comp, epoch := d.epoch }

/-- A message that the table does not hold begins with the instruction's fields; only its length can be refused. -/
theorem msgCheck_of_new {s : State} {d : FabDesc} (new : msgOf s (msgKey d.peer d.msg) = none) (kind : Nat) :
    msgCheck s kind d = (if 262144 < cdiv d.len 4096 then fsMALFORMED else 0, newMsg d) := by
  rw [msgCheck, new]
  rfl

/-- The message and the operation of a transfer that starts, before its packets are queued. -/
def transferOpened (s : State) (k : Nat) (o : FabOp) (d : FabDesc) : State :=
  exportSet (opPut (msgPut s (msgKey d.peer d.msg) { newMsg d with segs := cdiv d.len 4096 }) k { o with left := cdiv d.len 4096 })
    o.cid (msgKey d.peer d.msg) true

theorem startOp_transfer {s : State} {k : Nat} {o : FabOp} {d : FabDesc} (kind : o.kind ≠ 3)
    (new : msgOf s (msgKey d.peer d.msg) = none) : startOp s k o d [] =
      (segments k o.kind 0 d (some (o.til, d.laddr)) []).foldl (fun s r => enqueueTx s d.peer r) (transferOpened s k o d) := by
  rw [startOp, if_neg kind, msgCheck_of_new new]
  simp only [List.isEmpty_nil, ↓reduceIte, newMsg, segments_length, Nat.zero_add]
  rfl

theorem til_transferOpened (s : State) (k : Nat) (o : FabOp) (d : FabDesc) (t : Nat) : til (transferOpened s k o d) t = til s t :=
  til_exportSet ..

theorem px_transferOpened (s : State) (k : Nat) (o : FabOp) (d : FabDesc) (p : Nat) : px (transferOpened s k o d) p = px s p :=
  px_of exportSet_fab p

theorem opOf_transferOpened (s : State) (k : Nat) (o : FabOp) (d : FabDesc) :
    ∃ n, opOf (transferOpened s k o d) k = some { o with left := cdiv d.len 4096, stamp := n } := by
  obtain ⟨n, put⟩ := opOf_opPut_self (msgPut s (msgKey d.peer d.msg) { newMsg d with segs := cdiv d.len 4096 }) k
    { o with left := cdiv d.len 4096 }
  exact ⟨n, (opOf_of exportSet_fab k).trans put⟩

theorem msgOf_transferOpened (s : State) (k : Nat) (o : FabOp) (d : FabDesc) :
    msgOf (transferOpened s k o d) (msgKey d.peer d.msg) = some { newMsg d with segs := cdiv d.len 4096 } :=
  (msgOf_of exportSet_fab _).trans (msgOf_msgPut_self s _ _)

/-- A transfer of a new message: its packets wait in segment order, the operation counts them, and the message is open. -/
theorem startOp_transfer_starts {s : State} {k : Nat} {o : FabOp} {d : FabDesc} (kind : o.kind ≠ 3)
    (new : msgOf s (msgKey d.peer d.msg) = none) (t : Nat) :
    til (startOp s k o d []) t = til s t ∧
    (px (startOp s k o d []) d.peer).wait = (px s d.peer).wait ++ segments k o.kind 0 d (some (o.til, d.laddr)) [] ∧
    (∃ n, opOf (startOp s k o d []) k = some { o with left := cdiv d.len 4096, stamp := n }) ∧
    msgOf (startOp s k o d []) (msgKey d.peer d.msg) = some { newMsg d with segs := cdiv d.len 4096 } := by
  rw [startOp_transfer kind new]
  refine ⟨?_, ?_, ?_, ?_⟩
  · rw [foldl_enqueueTx_keeps (til · t) (fun _ _ => rfl), til_transferOpened]
  · rw [wait_foldl_enqueueTx, px_transferOpened]
  · rw [foldl_enqueueTx_keeps (opOf · k) (fun _ _ => rfl)]
    exact opOf_transferOpened s k o d
  · rw [foldl_enqueueTx_keeps (msgOf · (msgKey d.peer d.msg)) (fun _ _ => rfl), msgOf_transferOpened]

/-! ### FAB.GET (R460) -/

theorem sendGets_of_done {s : State} {k : Nat} {o : FabOp} (op : opOf s k = some o) (done : o.more = []) (f : Nat) :
    sendGets s k f = s := by
  cases f with
  | zero => rfl
  | succ f => simp only [sendGets, op, done]

/-- One request of a GET sent under tag `tag`, `r` being the requests that are left. -/
def getSent (s : State) (k : Nat) (o : FabOp) (off len tag : Nat) (r : List (Nat × Nat)) : State :=
  let s := opPut s k { o with more := r, left := o.left + 1 }
  let s := { s with fab := { s.fab with gets := nset s.fab.gets tag { op := k, off := off, len := len } } }
  enqueueTx s o.peer { op := k, p := { o.head with roff := o.head.roff + off, total := len, arg := tag } }

theorem sendGets_of_more {s : State} {k : Nat} {o : FabOp} (op : opOf s k = some o) {off len : Nat} {r : List (Nat × Nat)}
    (more : o.more = (off, len) :: r) (tags : s.fab.gets.length < 4096) (f : Nat) :
    ∃ tag, sendGets s k (f + 1) = sendGets (getSent s k o off len tag r) k f := by
  refine ⟨lowestOut (s.fab.gets.map (·.1)) s.fab.gets.length 0, ?_⟩
  rw [sendGets]
  simp only [op, more, if_neg (Nat.not_le.2 tags)]
  rfl

theorem opOf_getSent (s : State) (k : Nat) (o : FabOp) (off len tag : Nat) (r : List (Nat × Nat)) :
    ∃ n, opOf (getSent s k o off len tag r) k = some { o with more := r, left := o.left + 1, stamp := n } :=
  opOf_opPut_self s k { o with more := r, left := o.left + 1 }

theorem wait_getSent (s : State) (k : Nat) (o : FabOp) (off len tag : Nat) (r : List (Nat × Nat)) :
    (px (getSent s k o off len tag r) o.peer).wait = (px s o.peer).wait ++
      [{ op := k, p := { o.head with roff := o.head.roff + off, total := len, arg := tag } }] :=
  wait_enqueueTx_self _ _ _

/-- The operation of a GET of at most one request's length, before that request is sent. -/
def getAsked (o : FabOp) (d : FabDesc) : FabOp :=
  { o with
    head := { typ := 2, cls := d.cls, tenant := d.tenant, key := d.key, roff := d.roff, epoch := d.epoch, comp := d.comp }
    more := [(0, d.len)] }

/-- A GET of at most one request's length sends it under a free tag. -/
theorem startOp_get {s : State} {k : Nat} {o : FabOp} {d : FabDesc} (kind : o.kind = 3) (peer : o.peer = d.peer) (low : 64 ≤ d.len)
    (short : d.len ≤ 65536) (tags : s.fab.gets.length < 4096) (t : Nat) : ∃ tag, til (startOp s k o d []) t = til s t ∧
      (startOp s k o d []).fab.gets = nset s.fab.gets tag { op := k, off := 0, len := d.len } ∧
      (px (startOp s k o d []) d.peer).wait = (px s d.peer).wait ++ [
        { op := k, p := { typ := 2, cls := d.cls, tenant := d.tenant, key := d.key, roff := d.roff, epoch := d.epoch, comp := d.comp,
                          total := d.len, arg := tag } }] := by
  have one : cdiv d.len 65536 = 1 := by rw [cdiv]; omega
  obtain ⟨n, asked⟩ := opOf_opPut_self s k (getAsked o d)
  obtain ⟨tag, sends⟩ := sendGets_of_more asked rfl tags 1
  obtain ⟨m, sent⟩ := opOf_getSent (opPut s k (getAsked o d)) k { getAsked o d with stamp := n } 0 d.len tag []
  have starts : startOp s k o d [] = getSent (opPut s k (getAsked o d)) k { getAsked o d with stamp := n } 0 d.len tag [] := by
    rw [startOp, if_pos kind]
    simp only [one, List.range_one, List.map_cons, List.map_nil, Nat.mul_zero, Nat.sub_zero, Nat.min_eq_right short]
    exact sends.trans (sendGets_of_done sent rfl 1)
  refine ⟨tag, ?_, ?_, ?_⟩
  · rw [starts]
    rfl
  · rw [starts]
    rfl
  · rw [starts, ← peer]
    exact wait_getSent (opPut s k (getAsked o d)) k { getAsked o d with stamp := n } 0 d.len tag []

/-! ### Fabric instructions (R154-R156) -/

/-- A fabric instruction of a readable descriptor that R154 allows, whose addresses nothing holds, goes on with it. -/
theorem fabIssue_of_good {s : State} {t : Nat} {b : BitVec 54} (runs : issues (til s t) b) (rb : fXRB b = 0) (rc : fXRC b = 0)
    (pd : fXPD b = 0) (imm : fXIMM b = 0) (free : freeS (til s t) [fXRD b, fXRA b] = true) (room : movePipeFree (til s t) = true)
    {ra n : Nat} (address : (sreg (til s t) (fXRA b)).toNat = ra) (wait : sramWait (til s t).pend ra 64 false = false)
    (aligned : ra % 64 = 0) (inside : inLocal ra 64 = true) (parity : parityBad (til s t).bad ra 64 = false)
    (bytes : ofBytes (localBytes (til s t) ra 64) = n) (op : Nat) {kind : Nat} (good : fabBad s t n kind = false)
    (waitData : ∀ w, sramWait (til s t).pend (fabDesc n).laddr (fabDesc n).len w = false) :
    fabIssue s t op kind b = fabGo s t op kind b (fabDesc n) := by
  subst address
  rw [fabIssue]
  refine (issue_of_issues runs (by simp [rb, rc, pd, imm]) (by rw [free, room]; rfl)).trans ?_
  simp only [wait, aligned, inside, parity, bytes, good, waitData, ne_eq, not_true_eq_false, Bool.not_true, or_self,
    Bool.false_eq_true, ↓reduceIte]

/-- The instruction takes its place in the move pipe, and waits for the answer under the next number. -/
def fabAsk (s : State) (t op kind : Nat) (b : BitVec 54) (d : FabDesc) : State :=
  pushPend (bump s) t op b (.ask (fXRD b) (s.fresh + 1) [(d.laddr, d.len, kind == 3)])

/-- The operation of an instruction, before it starts. -/
def fabOp (s : State) (t kind : Nat) (d : FabDesc) : FabOp :=
  { kind := kind, ask := some (t, s.fresh + 1), peer := d.peer, msg := d.msg, til := t, laddr := d.laddr, len := d.len, cid := itemCtx s t }

/-- An instruction for another device that nothing refuses and whose source is good starts its operation. -/
theorem fabGo_of_good {s : State} {t op kind : Nat} {b : BitVec 54} {d : FabDesc}
    (flash : ¬(kind ≠ 3 ∧ inDev d.laddr = true ∧ flashWaits s (devAddr d.laddr) d.len = true)) (status : startStatus s kind d = 0)
    (source : kind ≠ 3 → sourceBad s t d = none) (peer : d.peer ≠ 65535) :
    fabGo s t op kind b d = startOp (fabAsk s t op kind b d) (s.fresh + 1) (fabOp s t kind d) d [] := by
  have sound : (if kind = 3 then none else sourceBad s t d) = none := by
    split
    · rfl
    next transfer => exact source transfer
  simp only [fabGo, if_neg flash, status, sound, ne_eq, not_true_eq_false, peer, not_false_eq_true, ↓reduceIte]
  rfl

theorem len_of_fabBad {s : State} {t n kind : Nat} (good : fabBad s t n kind = false) :
    64 ≤ (fabDesc n).len ∧ (fabDesc n).len ≤ 2 ^ 30 := by
  simp only [fabBad, Bool.or_eq_false_iff, decide_eq_false_iff_not] at good
  omega

/-- Nothing refuses a transfer of a new message to a reachable peer. -/
theorem startStatus_transfer {s : State} {kind : Nat} {d : FabDesc} (transfer : kind ≠ 3)
    (send : kind = 4 → d.key = 0 ∧ d.len ≤ 131072 ∧ d.roff ≤ 255) (reachable : unreachable s d.peer = false) (long : d.len ≤ 2 ^ 30)
    (new : msgOf s (msgKey d.peer d.msg) = none) : startStatus s kind d = 0 := by
  have formed : ¬(kind = 4 ∧ (d.key ≠ 0 ∨ 131072 < d.len ∨ 255 < d.roff)) := by
    rintro ⟨four, bad⟩
    have := send four
    omega
  have segs : ¬262144 < cdiv d.len 4096 := by rw [cdiv]; omega
  rw [startStatus, if_neg formed, if_neg (by rw [reachable]; simp), if_neg transfer, msgCheck_of_new new, if_neg segs]

theorem startStatus_get {s : State} {d : FabDesc} (reachable : unreachable s d.peer = false) : startStatus s 3 d = 0 := by
  rw [startStatus, if_neg (by simp), if_neg (by rw [reachable]; simp), if_pos rfl]

/-! ### Row instructions (R376, R377, R379) -/

/-- The header of request `id`. -/
def askHeader (s : State) (id : Nat) (q : RowReq) : RowHdr :=
  { op := if q.upd then 2 else 1, fwd := q.fwd, table := q.table, shift := tf s q.table 4 1, merge := tf s q.table 1 1, key := q.key
    row := q.row, replyKey := choiceOf s 21 % 2 ^ 32, replyOff := choiceOf s 22 % 2 ^ 58 * 64, reqId := id
    epoch := if tMembers s q.table = 1 then 0 else (cmpOf s (tComp s q.table)).cur
    comp := if tMembers s q.table = 1 then 0 else tComp s q.table }

/-- Request `id` in the requester's memory and in this device's own row queue. -/
def rowAsked (s : State) (id : Nat) (q : RowReq) : State :=
  let u := reqPut { s with fab := { s.fab with ended := s.fab.ended.filter (fun e => !(e.1 == 4 && e.2.1 == id)) } } id
    { q with waiting := false }
  { u with fab := { u.fab with rows := u.fab.rows ++ [(65535, halfOf q.til, rowHdrBytes (askHeader s id q) ++ q.data)] } }

theorem rowSend_here {q : RowReq} (here : q.peer = 65535) (s : State) (id : Nat) : rowSend s id q = rowAsked s id q := if_pos here

theorem rowReq_rowAsked (s : State) (id : Nat) (q : RowReq) : rowReq (rowAsked s id q) id = some { q with waiting := false } :=
  nfind_nset_self ..

theorem rows_rowAsked (s : State) (id : Nat) (q : RowReq) : (rowAsked s id q).fab.rows =
    s.fab.rows ++ [(65535, halfOf q.til, rowHdrBytes (askHeader s id q) ++ q.data)] := rfl

theorem til_rowAsked (s : State) (id : Nat) (q : RowReq) (t : Nat) : til (rowAsked s id q) t = til s t := rfl

theorem firstPeer_here {s : State} {tb r : Nat} (here : homeHere s tb r = true) : firstPeer s tb r = 65535 := if_pos here

/-- A row instruction takes its place in the move pipe, and waits for the answer under the next number. -/
def rowPended (s : State) (t op : Nat) (upd : Bool) (b : BitVec 54) (a n : Nat) : State :=
  pushPend (bump s) t op b (.ask (fXRD b) (s.fresh + 1) [(a, n, !upd)])

/-- An update draws the next sequence number of its table. -/
def seqDrawn (s : State) (upd : Bool) (tb : Nat) : State :=
  let q0 := nget (fun _ => 0) s.rows.seq tb
  if upd then { s with rows := { s.rows with seq := nput (fun _ => 0) s.rows.seq tb ((q0 + 1) % 2 ^ 32) } } else s

theorem seqDrawn_fab (s : State) (upd : Bool) (tb : Nat) : (seqDrawn s upd tb).fab = s.fab := by
  cases upd <;> rfl

theorem til_seqDrawn (s : State) (upd : Bool) (tb t : Nat) : til (seqDrawn s upd tb) t = til s t := by
  cases upd <;> rfl

/-- The request of a row instruction: an update carries its key and the row read at issue. -/
def rowRequest (s : State) (t : Nat) (upd : Bool) (tb r a : Nat) : RowReq :=
  { til := t, upd := upd, table := tb, row := r, addr := a
    key := if upd then { step := keyStep s t, rank := fget s F.ROW_CFG_RANK 0, seq := nget (fun _ => 0) s.rows.seq tb } else {}
    data := if upd then movRead s t a (tSize s tb) else []
    peer := firstPeer s tb r }

/-- A row instruction of a live table that nothing refuses sends its request. -/
theorem rowIssue_of_good {s : State} {t : Nat} {b : BitVec 54} (runs : issues (til s t) b) (pd : fXPD b = 0) (imm : fXIMM b = 0)
    (free : freeS (til s t) [fXRD b, fXRA b, fXRB b, fXRC b] = true) (room : movePipeFree (til s t) = true) {tb r a : Nat}
    (table : (sreg (til s t) (fXRA b)).toNat = tb) (row : (sreg (til s t) (fXRB b)).toNat = r)
    (addr : (sreg (til s t) (fXRC b)).toNat = a) (live : tLive s tb = true) (aligned : a % 64 = 0)
    (mapped : inMap s a (tSize s tb) = true) (near : farDev s t a = false)
    (wait : ∀ w, sramWait (til s t).pend a (tSize s tb) w = false) (op : Nat) {upd : Bool}
    (above : upd = false → imageEnd (til s t) ≤ a) (source : upd = true → goodBytes s t a (tSize s tb) = tSize s tb) :
    rowIssue s t op upd b =
      rowSend (seqDrawn (rowPended s t op upd b a (tSize s tb)) upd tb) (s.fresh + 1) (rowRequest s t upd tb r a) := by
  have out : ¬(a % 64 ≠ 0 ∨ (!inMap s a (tSize s tb)) = true ∨ farDev s t a = true ∨ (!upd) = true ∧ a < imageEnd (til s t)) := by
    rw [aligned, mapped, near]
    rintro (h | h | h | ⟨get, below⟩)
    · exact h rfl
    · cases h
    · cases h
    · exact absurd below (Nat.not_lt.2 (above (by simpa using get)))
  have whole : ¬(if upd then goodBytes s t a (tSize s tb) else tSize s tb) < tSize s tb := by
    split
    next update => rw [source update]; exact Nat.lt_irrefl _
    next => exact Nat.lt_irrefl _
  subst table row addr
  rw [rowIssue]
  refine (issue_of_issues runs (by simp [pd, imm]) (by rw [free, room]; rfl)).trans ?_
  simp only [live, wait, ↓reduceIte, Bool.not_true, Bool.false_eq_true, if_neg out, if_neg whole]
  cases upd <;> rfl

/-- What a row instruction whose row is at home here leaves: its request in this device's own row queue. -/
theorem rowIssue_puts {s u : State} {t op tb r a : Nat} {b : BitVec 54} {upd : Bool} (here : homeHere s tb r = true)
    (sends : u = rowSend (seqDrawn (rowPended s t op upd b a (tSize s tb)) upd tb) (s.fresh + 1) (rowRequest s t upd tb r a)) :
    til u t = pended (til s t) op b (.ask (fXRD b) (s.fresh + 1) [(a, tSize s tb, !upd)]) ∧
    (∃ h : RowHdr, u.fab.rows = s.fab.rows ++ [(65535, halfOf t, rowHdrBytes h ++ if upd then movRead s t a (tSize s tb) else [])] ∧
      h.op = (if upd then 2 else 1) ∧ h.table = tb ∧ h.row = r ∧ h.reqId = s.fresh + 1 ∧ h.fwd = false) ∧
    ∃ q, rowReq u (s.fresh + 1) = some q ∧ q.til = t ∧ q.table = tb ∧ q.row = r ∧ q.addr = a := by
  rw [rowSend_here (show (rowRequest s t upd tb r a).peer = 65535 from firstPeer_here here)] at sends
  subst sends
  refine ⟨?_, ⟨askHeader (seqDrawn (rowPended s t op upd b a (tSize s tb)) upd tb) (s.fresh + 1) (rowRequest s t upd tb r a), ?_,
    rfl, rfl, rfl, rfl, rfl⟩, _, rowReq_rowAsked .., rfl, rfl, rfl, rfl⟩
  · rw [til_rowAsked, til_seqDrawn, rowPended, pushPend_eq, til_tput_self]
    rfl
  · rw [rows_rowAsked, seqDrawn_fab]
    rfl

/-- Settles O30: an instruction that nothing refuses takes its place in the move pipe and then makes the request of its kind,
the engine's arrival (R153), the queued packets or one tagged request (R154), or the row queue's entry (R155). -/
theorem transferInstructionsStartTheirRequests : Obligations.TransferInstructionsStartTheirRequests := by
  refine ⟨?stroke, ?fabric, ?row⟩
  case stroke =>
    intro s t b runs rc pd imm free room header a ranges
    obtain ⟨isTil, isId, isRa, isRb⟩ := readCommand_ids s t s.fresh (sreg (til s t) (fXRA b)).toNat (sreg (til s t) (fXRB b)).toNat
    refine ⟨_, exec_bnkStroke_of_issues runs rc pd imm free room rfl (by rw [isRa]; exact header) ranges, ?_, rfl, isTil, isId,
      isRa, isRb, fun mapped near => ?_, rfl, fun k => rfl⟩
    · rw [pushPend_eq, til_tput_self]
      rfl
    · rw [isRa] at mapped near ⊢
      exact readCommand_head mapped near _ _
  case fabric =>
    intro s t b ra n d runs rb rc pd imm free room address wait aligned inside parity bytes desc peer reachable waitData flash k asks
    subst desc
    have goes (op : Nat) {kind : Nat} (good : fabBad s t n kind = false) :=
      fabIssue_of_good runs rb rc pd imm free room address.symm wait aligned inside parity bytes.symm op good waitData
    have asked (op kind : Nat) (isGet : (op == 0x1C3) = (kind == 3)) : asks (fabAsk s t op kind b (fabDesc n)) op := by
      rw [fabAsk, pushPend_eq]
      refine (til_tput_self ..).trans ?_
      rw [isGet]
      rfl
    refine ⟨?transfer, fun good short tags => ?get⟩
    case transfer =>
      intro good source new sends
      have send {c : Instr} (op : Nat) {kind : Nat} (e : exec c s = .next (fabIssue s t op kind b)) (isPut : kind ≠ 3)
          (isOp : (op == 0x1C3) = (kind == 3)) (isSend : kind = 4 → (fabDesc n).key = 0 ∧ (fabDesc n).len ≤ 131072 ∧ (fabDesc n).roff ≤ 255) :
          sends c op kind := by
        have goodHere : fabBad s t n kind = false := by
          rw [← good, fabBad, fabBad, beq_false_of_ne isPut]
          rfl
        have starts := (goes op goodHere).trans (fabGo_of_good (fun waits => flash.elim (by simp [waits.2.1]) (by simp [waits.2.2]))
          (startStatus_transfer isPut isSend reachable (len_of_fabBad good).2 new) (fun _ => source) peer)
        obtain ⟨atTil, waits, ⟨m, op'⟩, msg⟩ := startOp_transfer_starts (s := fabAsk s t op kind b (fabDesc n)) (k := s.fresh + 1)
          (o := fabOp s t kind (fabDesc n)) (d := fabDesc n) isPut new t
        rw [← starts] at atTil waits op' msg
        exact ⟨_, e, atTil.trans (asked op kind isOp), waits, ⟨_, op', rfl, rfl, rfl, rfl, rfl⟩, _, msg, rfl, rfl, rfl⟩
      exact ⟨send 0x1C1 (kind := 1) rfl (by decide) rfl nofun, send 0x1C2 (kind := 2) rfl (by decide) rfl nofun,
        fun key len off => send 0x1C4 (kind := 4) rfl (by decide) rfl fun _ => ⟨key, len, off⟩⟩
    case get =>
      have starts := (goes 0x1C3 good).trans (fabGo_of_good (fun waits => absurd rfl waits.1) (startStatus_get reachable)
        (fun transfer => absurd rfl transfer) peer)
      obtain ⟨tag, atTil, gets, waits⟩ := startOp_get (s := fabAsk s t 0x1C3 3 b (fabDesc n)) (k := s.fresh + 1)
        (o := fabOp s t 3 (fabDesc n)) (d := fabDesc n) rfl rfl (len_of_fabBad good).1 short tags t
      rw [← starts] at atTil gets waits
      exact ⟨_, tag, rfl, atTil.trans (asked 0x1C3 3 rfl), gets, waits⟩
  case row =>
    intro s t b tb r a runs pd imm free room table row addr live aligned mapped near here wait k puts
    have put {c : Instr} {op kind : Nat} (upd : Bool) (e : exec c s = .next (rowIssue s t op upd b)) (isKind : kind = if upd then 2 else 1)
        (above : upd = false → imageEnd (til s t) ≤ a) (source : upd = true → goodBytes s t a (tSize s tb) = tSize s tb) :
        puts c op kind (if upd then movRead s t a (tSize s tb) else []) := by
      obtain ⟨atTil, ⟨h, rows, isOp, isTable, isRow, isId, isFwd⟩, q, req, ofTil, ofTable, ofRow, ofAddr⟩ := rowIssue_puts here
        (rowIssue_of_good runs pd imm free room table.symm row.symm addr.symm live aligned mapped near wait op above source)
      refine ⟨_, h, q, e, ?_, rows, isOp.trans isKind.symm, isTable, isRow, isId, isFwd, req, ofTil, ofTable, ofRow, ofAddr⟩
      rw [atTil, isKind]
      cases upd <;> rfl
    exact ⟨fun above => put false rfl rfl (fun _ => above) nofun, fun good => put true rfl rfl nofun fun _ => good⟩

end Sys2Proof.Machine
end

section
/-!
The statements of 05_contexts.md: what the events of a context do to its descriptor (R183-R185, R199, R205, R208, R213, R216).
-/

namespace Sys2Proof.Machine

/-! ### Descriptors as events leave them -/

theorem dg_STATE_ds (d : Desc) (v : Nat) : dg (ds d D.STATE v) D.STATE = v % 16 := dg_ds_self d D.STATE v (by decide)

theorem dg_INCARNATION_ds_STATE (d : Desc) (v : Nat) : dg (ds d D.STATE v) D.INCARNATION = dg d D.INCARNATION :=
  dg_ds_ne d D.STATE D.INCARNATION v (by decide) (by decide)

/-- A change of a context keeps everything but the time of its entry as it was put. -/
theorem cx_cxChange_of {α : Type} (g : Ctx → α) (h : ∀ x t, g { x with entered := t } = g x) (s : State) (c : Nat) (x : Ctx)
    (l : List JEntry) : g (cx (cxChange s c x l) c) = g x := by
  rw [cx_cxChange_self]
  split
  · exact h x _
  · rfl

theorem pairState_congr {s t : State} {h : Nat} (e : rword t .TWN_HS_STAT h = rword s .TWN_HS_STAT h) : pairState t h = pairState s h :=
  fget_congr (f := F.TWN_HS_STAT_PAIR) e

/-! ### Entry into DRAINING (R185) -/

/-- The context as it enters DRAINING. -/
def drained (x : Ctx) (e : Ending) : Ctx :=
  let x := abandon x
  let d := ds (ds x.d D.STATE stDRAINING) D.STATUS e.status
  { x with
    d := d
    pub := if db d D.PUBLISH_CLOSE && (e.status == endSTOP || e.status == endLENGTH) && dg d D.NAMESPACE != 0 then 2 else x.pub }

theorem drain_ctx (s : State) (c : Nat) (x : Ctx) (e : Ending) (l : List JEntry) :
    (drain s c x e l).ctx = (cxChange s c (drained x e) l).ctx := by
  refine revokeSpans_ctx.trans ?_
  split
  · rfl
  · exact doneCount_ctx.trans record_ctx

theorem cx_drain_d (s : State) (c : Nat) (x : Ctx) (e : Ending) (l : List JEntry) :
    (cx (drain s c x e l) c).d = ds (ds (abandon x).d D.STATE stDRAINING) D.STATUS e.status := by
  rw [cx_of (drain_ctx ..), cx_cxChange_d, drained]

theorem cx_drain_ne (s : State) {c k : Nat} (x : Ctx) (e : Ending) (l : List JEntry) (h : k ≠ c) : cx (drain s c x e l) k = cx s k := by
  rw [cx_of (drain_ctx ..), cx_cxChange_ne _ _ _ h]

/-! ### CLOSED and FREE (transitions 21-23) -/

/-- A context that `releaseAll` has taken all from, CLOSED. -/
def closing (s : State) (c : Nat) : State :=
  let v := releaseAll s c
  let x := cx v c
  cxChange v c { x with d := ds x.d D.STATE stCLOSED, closeJsn := (tw v (ctxHalf c)).jsn + 1, swap := 0, rel := [] }
    [{ typ := 5, obj := c, incarn := dg x.d D.INCARNATION }]

theorem pairState_closing (s : State) (c h : Nat) : pairState (closing s c) h = pairState s h :=
  pairState_congr ((cxChange_TWN_HS_STAT h).trans (releaseAll_TWN_HS_STAT h))

theorem ctxClosed_eq (s : State) (c : Nat) :
    ctxClosed s c = if pairState s (ctxHalf c) = 2 then closing s c else ctxFree (closing s c) c := by
  rw [← pairState_closing s c]
  rfl

theorem cx_closing_d (s : State) (c : Nat) : (cx (closing s c) c).d = ds (cx s c).d D.STATE stCLOSED := by
  rw [closing, cx_cxChange_d, cx_of releaseAll_ctx]

theorem cx_closing_ne (s : State) {c k : Nat} (h : k ≠ c) : cx (closing s c) k = cx s k := by
  rw [closing, cx_cxChange_ne _ _ _ h, cx_of releaseAll_ctx]

theorem cx_ctxFree_d (s : State) (c : Nat) : (cx (ctxFree s c) c).d = ds (cx s c).d D.STATE stFREE := cx_cxChange_d ..

/-- A context that closes is CLOSED while its half is paired, else FREE; it keeps its INCARNATION, and no other changes. -/
theorem cx_ctxClosed (s : State) (c : Nat) :
    dg (cx (ctxClosed s c) c).d D.STATE = (if pairState s (ctxHalf c) = 2 then stCLOSED else stFREE) ∧
    dg (cx (ctxClosed s c) c).d D.INCARNATION = dg (cx s c).d D.INCARNATION ∧ ∀ k, k ≠ c → cx (ctxClosed s c) k = cx s k := by
  rw [ctxClosed_eq]
  split
  · refine ⟨?_, ?_, fun k other => cx_closing_ne s other⟩
    · rw [cx_closing_d, dg_STATE_ds]; rfl
    · rw [cx_closing_d, dg_INCARNATION_ds_STATE]
  · refine ⟨?_, ?_, fun k other => (cx_cxChange_ne _ _ _ other).trans (cx_closing_ne s other)⟩
    · rw [cx_ctxFree_d, dg_STATE_ds]; rfl
    · rw [cx_ctxFree_d, dg_INCARNATION_ds_STATE, cx_closing_d, dg_INCARNATION_ds_STATE]

/-! ### Swaps (R199, R323) -/

theorem takeSide_ctx {s u : State} {h i : Nat} (e : takeSide s h = some (i, u)) : u.ctx = s.ctx := by
  rw [takeSide] at e
  split at e
  · cases e
  · obtain ⟨-, rfl⟩ := Prod.mk.inj (Option.some.inj e)
    exact memWrite_ctx

theorem cx_swapFail_ne (s : State) {c k : Nat} (h : k ≠ c) : cx (swapFail s c) k = cx s k := cx_cxChange_ne s _ [] h

/-- The next page of a swap moves, or the swap fails: no other context has a part in it. -/
theorem cx_swapNext_ne (s : State) {c k : Nat} (h : k ≠ c) : cx (swapNext s c) k = cx s k := by
  unfold swapNext
  extract_lets x
  split
  · rfl
  split
  · split
    · rfl
    · extract_lets e far
      split
      next i u _ side =>
        have same : u.ctx = s.ctx := by
          split at side
          · exact takeSide_ctx side
          · cases side; rfl
        refine cx_of (moveStart_ctx.trans (takeFrame_ctx.trans ?_)) k
        split
        · exact memWrite_ctx.trans same
        · exact same
      next => exact cx_swapFail_ne s h
  split
  · split
    · rfl
    · extract_lets e pick
      cases pick with
      | none => rfl
      | some n => exact cx_of (moveStart_ctx.trans takeFrame_ctx) k
  · rfl

theorem cx_swapOutStart_ne (s : State) {c k : Nat} (h : k ≠ c) : cx (swapOutStart s c) k = cx s k :=
  (cx_swapNext_ne _ h).trans (cx_cxChange_ne s _ [] h)

theorem cx_swapInStart_ne (s : State) {c k : Nat} (h : k ≠ c) : cx (swapInStart s c) k = cx s k :=
  (cx_swapNext_ne _ h).trans (cx_cxPut_ne s _ h)

/-- What `startSwaps` does with one context of the half. -/
def startSwap (h : Nat) (s : State) (c : Nat) : State :=
  if (cx s c).swap ≠ 0 ∨ (cx s c).swapFailed then s
  else if cstate s c = stPREEMPTED ∧ mayOut s c then swapOutStart s c
  else if cstate s c = stSWAPPED ∧ (cx s c).swapAsk ∧ swapRoom s h ∧ swapInNeeds s c ≤ halfFree s h then swapInStart s c
  else s

theorem startSwaps_eq_foldl (s : State) (h : Nat) : startSwaps s h = (ctxsOf s h).foldl (startSwap h) s := rfl

/-- No swap of the context may start. -/
def SwapIdle (x : Ctx) : Prop := dg x.d D.STATE ≠ stPREEMPTED ∧ (dg x.d D.STATE = stSWAPPED → x.swapAsk = false)

theorem startSwap_of_idle {s : State} {h c : Nat} (idle : SwapIdle (cx s c)) : startSwap h s c = s := by
  obtain ⟨notOut, notIn⟩ := idle
  rw [startSwap]
  split
  · rfl
  · rw [if_neg fun out => notOut out.1, if_neg]
    rintro ⟨swapped, asked, -⟩
    rw [notIn swapped] at asked
    cases asked

theorem cx_startSwap_ne (s : State) (h : Nat) {c k : Nat} (other : k ≠ c) : cx (startSwap h s c) k = cx s k := by
  rw [startSwap]
  split
  · rfl
  split
  · exact cx_swapOutStart_ne s other
  split
  · exact cx_swapInStart_ne s other
  · rfl

theorem cx_startSwap_of_idle {s : State} {c : Nat} (idle : SwapIdle (cx s c)) (h k : Nat) : cx (startSwap h s k) c = cx s c := by
  by_cases same : c = k
  · rw [← same, startSwap_of_idle idle]
  · exact cx_startSwap_ne s h same

/-- Starting the swaps of a half leaves a context alone whose own may not start. -/
theorem cx_startSwaps_of_idle {s : State} {c : Nat} (idle : SwapIdle (cx s c)) (h : Nat) : cx (startSwaps s h) c = cx s c := by
  rw [startSwaps_eq_foldl]
  generalize ctxsOf s h = l
  induction l generalizing s with
  | nil => rfl
  | cons k l ih =>
    have same := cx_startSwap_of_idle idle h k
    rw [List.foldl_cons, ih (same ▸ idle), same]

/-- Operations that leave the contexts alone leave them alone one after another. -/
theorem ctx_foldl (f : State → Nat → State) (h : ∀ s v, (f s v).ctx = s.ctx) (l : List Nat) (s : State) :
    (l.foldl f s).ctx = s.ctx := by
  induction l generalizing s with
  | nil => rfl
  | cons v l ih => rw [List.foldl_cons, ih, h]

/-- Transition 13. -/
theorem cx_swapOutDone {s : State} {c : Nat} (outward : (cx s c).swap = 1) (noAsk : (cx s c).swapAsk = false)
    (preempted : dg (cx s c).d D.STATE = stPREEMPTED) (noPrivate : privatePages s c = [])
    (still : s.tie.moves.any (fun m => m.2.kind == 1 && m.2.owner == c) = false) :
    (cx (swapOutDone s c) c).d = ds (ds (cx s c).d D.SWAP_BUSY 0) D.STATE stSWAPPED := by
  rw [swapOutDone, if_neg (by simp [outward, preempted, noPrivate, still])]
  extract_lets vs gone cols y
  have kept : cx gone c = cx s c := cx_of (ctx_foldl _ (fun _ _ => ptPut_ctx.trans releaseEntry_ctx) vs s) c
  rw [cx_startSwaps_of_idle, cx_cxChange_d]
  · exact congrArg (fun z : Ctx => ds (ds z.d D.SWAP_BUSY 0) D.STATE stSWAPPED) kept
  · refine ⟨?_, fun _ => ?_⟩
    · rw [cx_cxChange_d, dg_STATE_ds]; decide
    · rw [cx_cxChange_of (·.swapAsk) fun _ _ => rfl]
      exact (congrArg Ctx.swapAsk kept).trans noAsk

/-- Transition 14, for a descriptor without a hole. -/
theorem cx_swapInEnd {s : State} {d : Desc} (whole : dHole d = false)
    (back : dg d D.RESUME = stPREFILL ∨ dg d D.RESUME = stREADY) (c : Nat) :
    (cx (swapInEnd s c d) c).d = ds d D.STATE (dg d D.RESUME) := by
  rw [swapInEnd, whole, if_neg Bool.false_ne_true, cx_startSwaps_of_idle, cx_cxChange_d]
  rw [SwapIdle, cx_cxChange_d, dg_STATE_ds]
  rcases back with back | back <;> rw [back] <;> exact ⟨by decide, fun swapped => absurd swapped (by decide)⟩

theorem swapInDone_of_whole {s : State} {c : Nat} (inward : (cx s c).swap = 2) (swapped : dg (cx s c).d D.STATE = stSWAPPED)
    (noSlow : slowPages s c = []) (still : s.tie.moves.any (fun m => m.2.kind == 1 && m.2.owner == c) = false)
    (own : dg (cx s c).d D.NAMESPACE = 0 ∨ dg (cx s c).d D.SHARED_LEN = 0) (kept : (cx s c).rel = []) :
    swapInDone s c = swapInEnd s c (cx s c).d := by
  rw [swapInDone, if_neg (by simp [swapped, still]), if_pos inward, if_neg (by rw [noSlow]; decide),
    if_neg fun both => own.elim both.1 both.2, kept]
  rfl

/-! ### CTX_PEEK and PFX_INVAL (R213, R216, R218) -/

section
variable {s : State} (reach : hostReach s = true) (ready : fget s F.GLB_STAT_PHASE 0 = 12)
include reach ready

theorem exec_ctxPeekSel_ready (h : Fin 2) (val : Word) : exec (.ctxPeekSel h val) s = .next (ctxPeekSel s h val) := by
  change execCtxPeekSel h val s = _
  rw [execCtxPeekSel, regGate, hostGate_open reach (.inl ready)]

theorem exec_pfxInval_ready (h : Fin 2) (val : Word) : exec (.pfxInval h val) s = .next (pfxInval s h val) := by
  change execPfxInval h val s = _
  rw [execPfxInval, regGate, hostGate_open reach (.inl ready)]

end

/-- The first `n` words of a descriptor laid out as half `h`'s peek words. -/
def peeked (s : State) (h : Nat) (d : Desc) (n : Nat) : State :=
  (List.range n).foldl (fun s n => rput s .CTX_PEEK_W (16 * h + n) (dword d n)) s

theorem peeked_succ (s : State) (h : Nat) (d : Desc) (n : Nat) :
    peeked s h d (n + 1) = rput (peeked s h d n) .CTX_PEEK_W (16 * h + n) (dword d n) := by
  rw [peeked, List.range_succ, List.foldl_append]
  rfl

theorem peeked_ctx (s : State) (h : Nat) (d : Desc) (n : Nat) : (peeked s h d n).ctx = s.ctx := by
  induction n with
  | zero => rfl
  | succ n ih => rw [peeked_succ, rput_ctx, ih]

theorem rword_peeked_reg (s : State) (h : Nat) (d : Desc) (n i : Nat) {r : Reg} (other : Reg.CTX_PEEK_W ≠ r) :
    rword (peeked s h d n) r i = rword s r i := by
  induction n with
  | zero => rfl
  | succ n ih => rw [peeked_succ, rword_rput_ne _ _ (.inl other), ih]

theorem rword_peeked (s : State) {h : Nat} (d : Desc) {n : Nat} (n16 : n ≤ 16) {k : Nat} (hk : k < n) :
    rword (peeked s h d n) .CTX_PEEK_W (16 * h + k) = dword d k := by
  induction n with
  | zero => cases hk
  | succ n ih =>
    rw [peeked_succ]
    by_cases same : k = n
    · rw [same, rword_rput_self]
    · rw [rword_rput_ne _ _ (.inr (by omega)), ih (by omega) (by omega)]

theorem ctxPeekSel_of_good {s : State} {h : Nat} {val : Word} (good : ∀ j ∈ s.descBad, j / 32 ≠ h * 131072 + bget val 0 17) :
    ctxPeekSel s h val = peeked (fput s F.CTX_PEEK_SEL_INDEX h (bget val 0 17)) h (cx s (h * 131072 + bget val 0 17)).d 16 := by
  have still : descRead (fput s F.CTX_PEEK_SEL_INDEX h (bget val 0 17)) (h * 131072 + bget val 0 17) =
      fput s F.CTX_PEEK_SEL_INDEX h (bget val 0 17) :=
    descRead_of_good (descBad_any_eq_false good)
  rw [ctxPeekSel, still]
  rfl

theorem pfxInval_starts {s : State} {h : Nat} {val : Word} (go : bbit val 32 = true) (idle : (poolOf s h).inval = none) :
    pfxInval s h val = fset (poolPut s h { poolOf s h with inval := some (bget val 0 32) }) F.PFX_USED_INVAL_BUSY h := by
  rw [pfxInval, go]
  dsimp only
  rw [idle]
  rfl

theorem pfxInval_queues {s : State} {h : Nat} {val : Word} (go : bbit val 32 = true) (busy : (poolOf s h).inval ≠ none) :
    pfxInval s h val = poolPut s h { poolOf s h with invalNext := some (bget val 0 32) } := by
  obtain ⟨ns, running⟩ := Option.ne_none_iff_exists'.1 busy
  rw [pfxInval, go]
  dsimp only
  rw [running]
  rfl

theorem exec_invalidationEnd_of_running {s : State} {h : Fin 2} {ns : Nat} (running : (poolOf s h).inval = some ns) :
    exec (.invalidationEnd h) s = .next (fput (poolPut (staleAll s ns) h
      { poolOf (staleAll s ns) h with inval := (poolOf s h).invalNext, invalNext := none }) F.PFX_USED_INVAL_BUSY h
        (b2n (poolOf s h).invalNext.isSome)) := by
  change execInvalidationEnd h s = _
  rw [execInvalidationEnd, running]

theorem fget_fset_self (s : State) {f : Fld} (i : Nat) (h : f.lo + f.w ≤ 64) (w : f.w ≠ 0) : fget (fset s f i) f i = 1 := by
  rw [fset, fget_fput_self _ _ _ _ h]
  exact Nat.mod_eq_of_lt (Nat.one_lt_two_pow w)

theorem poolOf_fput (s : State) (f : Fld) (i v h : Nat) : poolOf (fput s f i v) h = poolOf s h := rfl

theorem b2n_lt (b : Bool) : b2n b < 2 := by cases b <;> decide

/-! ### The events -/

theorem next_of {c : Instr} {s t u : State} (run : exec c s = .next t) (e : t = u) : exec c s = .next u := e ▸ run

theorem prefillToReady_of_done {s : State} {c : Nat} (done : prefillDone s (cx s c).d = true) (clear : (cx s c).attach = 0)
    (ready : promptMember s = false) : prefillToReady s c =
    cxChange s c { cx s c with d := ds (cx s c).d D.STATE stREADY, pub := pubAt (cx s c).d } [] := by
  simp only [prefillToReady, done, clear, ready, BEq.rfl, Bool.not_false, Bool.and_self, ↓reduceIte]

theorem promptPartDone_of_done {s : State} {c : Nat} (done : prefillDone s (cx s c).d = true) (clear : (cx s c).attach = 0)
    (prompt : promptMember s = true) (sent : (cx s c).exports = []) : promptPartDone s c = endNow s c { status := endLENGTH } := by
  simp only [promptPartDone, done, clear, prompt, sent, BEq.rfl, List.isEmpty_nil, Bool.and_self, ↓reduceIte]

theorem ctxClose_of_quiet {s : State} {c : Nat} (draining : dg (cx s c).d D.STATE = stDRAINING) (unpublished : (cx s c).pub = 0)
    (quiet : ctxBusy s c = false) : ctxClose s c = ctxClosed s c := by
  rw [ctxClose, if_pos ⟨draining, unpublished, by rw [quiet]; rfl⟩]

/-- The context asked to release gives up what runs for it, and its regions become REVOKING. -/
def releasing (s : State) (c : Nat) : State :=
  revokeSpans (cxPut s c { cx s c with attach := 0, swap := 0, pub := 0, chunk := none }) c (dg (cx s c).d D.INCARNATION)

theorem ctxRelease_of_quiet {s : State} {c : Nat} (asked : (cx s c).release = true)
    (st : dg (cx s c).d D.STATE = stPREFILL ∨ dg (cx s c).d D.STATE = stREADY) (quiet : ctxBusy (releasing s c) c = false) :
    ctxRelease s c = ctxClosed (releasing s c) c := by
  rw [ctxRelease, cstate, if_neg]
  · exact if_neg (Bool.eq_false_iff.1 quiet)
  · rcases st with st | st <;> simp [st, asked, stPREFILL, stREADY, stFREE, stDECODE, stDRAINING, stCLOSED]

theorem cx_releasing_ne (s : State) {c k : Nat} (h : k ≠ c) : cx (releasing s c) k = cx s k :=
  (cx_of revokeSpans_ctx k).trans (cx_cxPut_ne s _ h)

theorem logHolds_none (s : State) (c : Nat) : logHolds s c none = none := ite_self _

theorem attachmentEnd_of_open {s : State} {c : Nat} (first : (cx s c).attach = 1)
    (clear : attachBlocked s c ((dg (cx s c).d D.PROMPT_LEN - 1) / 32) = none) :
    let r := attach s c ((dg (cx s c).d D.PROMPT_LEN - 1) / 32)
    attachmentEnd s c = cxChange r.2.2 c { cx s c with
      attach := 0, d := ds (ds (ds (cx s c).d D.KV_VALID r.1) D.SHARED_LEN r.1) D.PFX_NODE r.2.1 } [] := by
  intro r
  have kept : cx r.2.2 c = cx s c := cx_of attach_ctx c
  rw [attachmentEnd]
  dsimp only
  rw [if_neg (by rw [first]; decide), if_pos first, clear, logHolds_none, if_pos first]
  dsimp only
  rw [kept]

theorem publicationEnd_of_open {s : State} {c : Nat} (publishes : (cx s c).pub ≠ 0) (clear : publishBlocked s c = none) :
    publicationEnd s c = cxPut (publish s c) c { cx s c with pub := 0 } := by
  rw [publicationEnd, if_neg publishes, clear, logHolds_none, ← cx_of (publish_ctx (a0 := s) (a1 := c)) c]
  rfl

/-- Settles O36: each event is one change of the context (`cxChange`) on a state whose contexts are those before it; a close is
`ctxClosed`, and the swaps that start after a swap's end leave the context of that swap alone (`cx_startSwaps_of_idle`). -/
theorem contextEventsMoveDescriptors : Obligations.ContextEventsMoveDescriptors := by
  intro s c h val x st
  refine ⟨?prefill, ?close, ?release, ?attachment, ?publication, ?swapOut, ?swapIn, ?registers, ?invalidation⟩
  case prefill =>
    intro done clear
    refine ⟨fun notPrompt => ⟨_, next_of rfl (prefillToReady_of_done done clear notPrompt), cx_cxChange_d .., ?_,
      fun k other => cx_cxChange_ne _ _ _ other⟩, fun prompt sent => ⟨_, next_of rfl (promptPartDone_of_done done clear prompt sent),
      cx_drain_d .., fun k other => cx_drain_ne _ _ _ _ other⟩⟩
    exact cx_cxChange_of (·.pub) (fun _ _ => rfl) ..
  case close =>
    intro draining unpublished quiet
    exact ⟨_, next_of rfl (ctxClose_of_quiet draining unpublished quiet), cx_ctxClosed s c⟩
  case release =>
    intro asked active v quiet
    obtain ⟨state, -, others⟩ := cx_ctxClosed (releasing s c) c
    exact ⟨_, next_of rfl (ctxRelease_of_quiet asked active quiet), state,
      fun k other => (others k other).trans (cx_releasing_ne s other)⟩
  case attachment =>
    intro first clear r
    refine ⟨_, next_of rfl (attachmentEnd_of_open first clear), cx_cxChange_of (·.attach) (fun _ _ => rfl) .., cx_cxChange_d ..,
      fun k other => (cx_cxChange_ne _ _ _ other).trans (cx_of attach_ctx k)⟩
  case publication =>
    intro publishes clear
    exact ⟨_, next_of rfl (publicationEnd_of_open publishes clear), cx_cxPut_self ..,
      fun k other => (cx_cxPut_ne _ _ other).trans (cx_of publish_ctx k)⟩
  case swapOut =>
    intro outward noAsk preempted noPrivate still
    exact ⟨_, rfl, cx_swapOutDone outward noAsk preempted noPrivate still⟩
  case swapIn =>
    intro inward swapped noSlow still own kept whole back
    exact ⟨_, next_of rfl (swapInDone_of_whole inward swapped noSlow still own kept), cx_swapInEnd whole back c⟩
  case registers =>
    intro reach ready
    refine ⟨?peek, fun go idle => ⟨_, (exec_pfxInval_ready reach ready h val).trans (congrArg _ (pfxInval_starts go idle)), ?_, ?_⟩,
      fun go busy => ?_⟩
    case peek =>
      rintro k rfl good
      refine ⟨_, exec_ctxPeekSel_ready reach ready h val, ?_⟩
      rw [ctxPeekSel_of_good good]
      refine ⟨(peeked_ctx ..).trans fput_ctx, ?_, fun n hn => rword_peeked _ _ (Nat.le_refl _) hn⟩
      rw [fget_congr (f := F.CTX_PEEK_SEL_INDEX) (rword_peeked_reg _ _ _ _ _ nofun), fget_fput_self _ _ _ _ (by decide)]
      exact Nat.mod_eq_of_lt (bget_lt ..)
    · exact fget_fset_self _ _ (by decide) (by decide)
    · rw [fset, poolOf_fput, poolOf_poolPut_self]
    · rw [exec_pfxInval_ready reach ready, pfxInval_queues go busy]
  case invalidation =>
    intro ns running
    refine ⟨_, exec_invalidationEnd_of_running running, ?_, fput_mem.trans poolPut_mem, ?_⟩
    · have same : poolOf (staleAll s ns) h = poolOf s h := by rw [poolOf, staleAll_pools, poolOf]
      rw [poolOf_fput, poolOf_poolPut_self, same]
    · rw [fget_fput_self _ _ _ _ (by decide)]
      exact Nat.mod_eq_of_lt (b2n_lt _)

end Sys2Proof.Machine
end

section
/-!
The statements of 14_twin_halves.md: frames of a twin link, the journal and the mirror (R181, R545-R559).
-/

namespace Sys2Proof.Machine

/-! ### Frames (R545) -/

theorem fget_fadd1_reg (s : State) {f g : Fld} {i j n : Nat} (h : f.reg ≠ g.reg) : fget (fadd1 s f i n) g j = fget s g j :=
  fget_fput_reg s _ (.inl h)

/-- A frame of the partner at a half in service: it is counted, and then its ACK is taken but for a HELLO's. -/
theorem frameHere_of_good {s : State} {h typ step : Nat} {r : TwinRx} (started : reached s h step = true)
    (on : s.pins.outputsStopped = false) (ok : r.ok = true) (enabled : fbit s F.TWN_CTL_EN 0 = true)
    (partner : r.f.node = fget s F.TWN_CTL_TWIN_NODE 0) (is : r.f.typ = typ) (f : State → State) :
    let v := fadd1 s F.TWN_HS_CNT_FRAMES h 1
    frameHere s h r typ step f = f (if typ = 1 then v else twinAck v h r.f.ack) := by
  intro v
  have apart : F.TWN_HS_CNT_FRAMES.reg ≠ .TWN_CTL := nofun
  have en : fbit v F.TWN_CTL_EN 0 = true := by
    rw [fbit, fget_fadd1_reg s apart]
    exact enabled
  have node : r.f.node = fget v F.TWN_CTL_TWIN_NODE 0 := by
    rw [fget_fadd1_reg s apart]
    exact partner
  rw [frameHere, started, on, ok, Bool.not_true, Bool.or_false, if_neg Bool.false_ne_true, if_neg Bool.false_ne_true, if_neg]
  rintro (other | off | other)
  · exact other is
  · rw [en] at off; cases off
  · exact other node

section
variable {s : State} {h : Fin 2} {r : TwinRx} (started : reached s h 8 = true) (on : s.pins.outputsStopped = false)
  (ok : r.ok = true) (enabled : fbit s F.TWN_CTL_EN 0 = true) (partner : r.f.node = fget s F.TWN_CTL_TWIN_NODE 0)
include started on ok enabled partner

theorem exec_hello_of_good (typ : r.f.typ = 1) :
    exec (.hello h r) s = .next (helloIn (fadd1 s F.TWN_HS_CNT_FRAMES h 1) h r.f) := by
  change execHello h r s = _
  rw [execHello, frameHere_of_good started on ok enabled partner typ, if_pos rfl]

/-- Every frame but a HELLO is handled where its ACK has been taken. -/
theorem frameHere_acked {typ : Nat} (is : r.f.typ = typ) (notHello : typ ≠ 1) (f : State → State) :
    frameHere s h r typ 8 f = f (twinAck (fadd1 s F.TWN_HS_CNT_FRAMES h 1) h r.f.ack) := by
  rw [frameHere_of_good started on ok enabled partner is, if_neg notHello]

end

/-! ### HELLO (R557) -/

/-- What a HELLO says of its sender is kept. -/
def met (s : State) (h : Nat) (f : TwinFrame) : State :=
  twUpd (fput s F.TWN_HS_STAT_TWIN_ROLE h f.role) h (fun x => { x with seen := f.boot, peerRole := f.role })

theorem helloIn_of_unpaired {s : State} {h : Nat} {f : TwinFrame} (unpaired : pairState s h = 0) (running : f.devReset = false)
    (untaken : f.taken = 0) (free : f.held = false) : helloIn s h f = enterSync (met s h f) h := by
  rw [helloIn, unpaired, running, untaken, free]
  dsimp only
  rw [if_neg fun taken => taken.1 rfl, if_neg Bool.false_ne_true, if_pos rfl,
    if_neg fun lost : 0 = 3 ∧ _ => absurd lost.1 (by decide),
    if_neg fun reset => Bool.false_ne_true reset.2]
  rfl

/-! ### JOURNAL (R551) -/

theorem journalIn_nil {s : State} {h : Nat} {f : TwinFrame} (free : heldHalf s h = false) (empty : f.ents = [])
    (few : (tw s h).unacked < 32) :
    journalIn s h f = s := by
  rw [journalIn, free, empty]
  exact if_neg (Nat.not_le.2 few)

theorem journalIn_singleton {s : State} {h : Nat} {f : TwinFrame} {e : JEntry} (free : heldHalf s h = false) (one : f.ents = [e]) :
    journalIn s h f = if 32 ≤ (tw (entryIn s h e) h).unacked then sendJack (entryIn s h e) h else entryIn s h e := by
  rw [journalIn, free, one]
  rfl

theorem entryIn_of_unexpected {s : State} {h : Nat} {e : JEntry} (other : e.jsn ≠ nextJsn (tw s h) e.jsn) : entryIn s h e = s := by
  rw [entryIn, if_pos (.inr (.inr other))]

/-- An entry by itself, within the mirror's area, is applied as one change. -/
theorem applyGroup_singleton {s : State} {h last : Nat} {e : JEntry}
    (fits : mirBytes (applyEnt (tw s h) e) ≤ fget s F.TWN_HS_MIRROR_GIB h * 2 ^ 30) (notEnd : e.typ ≠ 8) :
    applyGroup s h [e] last = fput (twPut s h { applyEnt (tw s h) e with
      expect := some (last + 1), group := [], unacked := (tw s h).unacked + 1 }) F.TWN_HS_JAPPLIED_JSN h last := by
  have noEnd : ([e].any fun e => e.typ == 8) = false := by
    rw [List.any_cons, List.any_nil, Bool.or_false]
    exact beq_eq_false_iff_ne.2 notEnd
  rw [applyGroup]
  simp only [List.foldl_cons, List.foldl_nil, noEnd]
  rw [if_neg (Nat.not_lt.2 fits), if_neg Bool.false_ne_true]
  rfl

/-- The next expected entry, which no group waits for and which ends its own, goes to the mirror at once. -/
theorem entryIn_of_expected {s : State} {h : Nat} {e : JEntry} (expected : (tw s h).expect = some e.jsn) (alone : (tw s h).group = [])
    (paired : pairState s h ≠ 0) (free : heldHalf s h = false) (ends : e.cont = false) :
    entryIn s h e = applyGroup (twPut s h { tw s h with group := [e] }) h [e] e.jsn := by
  have next : e.jsn = nextJsn (tw s h) e.jsn := by rw [nextJsn, expected, alone]; rfl
  rw [entryIn, if_neg]
  · simp only [expected, alone, ends, Option.isNone_some, Bool.false_eq_true, ↓reduceIte, List.nil_append]
  · rintro (off | held | other)
    · exact paired off
    · rw [free] at held; cases held
    · exact other next

/-! ### Log lines (R556) -/

theorem fetchIn_eq {s : State} {h : Nat} {f : TwinFrame} (inService : fenced s h = false) : fetchIn s h f = (mirLine s h f).elim
    (twinSend s h { typ := 7, jsn := f.jsn, incarn := f.incarn, arg := 1 })
    (fun bs => twinSend s h { typ := 7, jsn := f.jsn, incarn := f.incarn, line := bs }) := by
  rw [fetchIn, inService, if_neg Bool.false_ne_true]
  cases mirLine s h f <;> rfl

theorem fetchDataIn_of_found {s : State} {h k : Nat} {f : TwinFrame} {g : Fetch}
    (found : s.twin.fetches.find? (fun e => ctxHalf e.2.cid == h && e.2.line == f.jsn && e.2.inc == f.incarn &&
      dg (cx s e.2.cid).d D.INCARNATION == f.incarn) = some (k, g)) :
    fetchDataIn s h f = if f.arg % 2 = 1 then fetchNone (dropFetch s k) g else fetchGood (dropFetch s k) g f.line := by
  rw [fetchDataIn, found]

/-- Settles O51: a good frame goes to its handler behind its ACK (`frameHere_acked`), and each handler takes one of its branches; the
next expected entry is a group of its own, which `applyGroup_singleton` puts into the mirror. -/
theorem twinFramesAndTheMirrorComplete : Obligations.TwinFramesAndTheMirrorComplete := by
  intro s v w h r e x y k g
  refine ⟨?frames, ?applied, entryIn_of_unexpected, ?helloTimer, ?jackTimer, ?lost, ?timeout⟩
  case frames =>
    rintro started on ok enabled partner rfl rfl
    have acked {n : Nat} (typ : r.f.typ = n) := frameHere_acked (h := h) started on ok enabled partner typ
    refine ⟨?hello, ?empty, ?entry, ?jack, ?fetch, ?fetchData, ?giveup⟩
    case hello =>
      rintro u rfl typ unpaired running untaken free
      rw [exec_hello_of_good started on ok enabled partner typ, helloIn_of_unpaired unpaired running untaken free, met]
    case empty =>
      intro typ free empty few
      exact next_of rfl ((acked typ (by decide) _).trans (journalIn_nil free empty few))
    case entry =>
      rintro u rfl typ free one
      exact next_of rfl ((acked typ (by decide) _).trans (journalIn_singleton free one))
    case jack => exact fun typ => next_of rfl (acked typ (by decide) id)
    case fetch =>
      intro typ inService
      have run : exec (.fetch h r) s = _ := next_of rfl ((acked typ (by decide) _).trans (fetchIn_eq inService))
      refine ⟨fun bs line => ?_, fun noLine => ?_⟩
      · rw [run, line]; rfl
      · rw [run, noLine]; rfl
    case fetchData =>
      intro typ found
      have run : exec (.fetchData h r) s = _ := next_of rfl ((acked typ (by decide) _).trans (fetchDataIn_of_found found))
      refine ⟨fun line => ?_, fun noLine => ?_⟩
      · rw [run, line]; rfl
      · rw [run, noLine]; rfl
    case giveup =>
      rintro u rfl typ
      exact next_of rfl (acked typ (by decide) _)
  case applied =>
    rintro rfl expected alone rfl paired free ends rfl rfl fits notEnd
    rw [entryIn_of_expected expected alone paired free ends, applyGroup_singleton, tw_twPut_self]
    · rw [tw_twPut_self]; exact fits
    · exact notEnd
  case helloTimer => exact fun started => next_of rfl (if_pos started)
  case jackTimer => exact fun waits => next_of rfl (if_neg waits)
  case lost =>
    intro linked
    exact ⟨next_of rfl (if_pos linked), next_of rfl (if_neg (by omega))⟩
  case timeout =>
    intro waits
    change execFetchTimeout k s = _
    rw [execFetchTimeout, waits]

end Sys2Proof.Machine
end

section
/-!
The statements of 17_host_interface.md: the requests of host software (R171-R180, R319, R638-R642).
-/

namespace Sys2Proof.Machine

/-! ### Taking an entry (R638, R639) -/

theorem reqServe_of_head {s : State} {n op e : Nat} (head : reqHead s n = some e) (is : bits e 0 8 = op) (f : State → Nat → State) :
    reqServe s n op f = reqReserved (f s e) n (reqSize s n) := by
  rw [reqServe, head]
  exact if_pos is

section
variable {s : State} {ring : Fin 256} {e : Nat} (head : reqHead s ring = some e)
include head

theorem exec_openCtx_of_head (is : bits e 0 8 = 1) :
    exec (.openCtx ring) s = .next (reqReserved (openEntry s ring e) ring (reqSize s ring)) := next_of rfl (reqServe_of_head head is _)

theorem exec_openExt_of_head (is : bits e 0 8 = 2) : exec (.openExt ring) s =
    .next (reqReserved (reqRefuse (reqTake s ring 1 e) ring e rqFORMAT) ring (reqSize s ring)) := next_of rfl (reqServe_of_head head is _)

theorem exec_append_of_head (is : bits e 0 8 = 3) :
    exec (.append ring) s = .next (reqReserved (appendEntry s ring e) ring (reqSize s ring)) := next_of rfl (reqServe_of_head head is _)

theorem exec_modify_of_head (is : bits e 0 8 = 4) :
    exec (.modify ring) s = .next (reqReserved (modifyEntry s ring e) ring (reqSize s ring)) := next_of rfl (reqServe_of_head head is _)

theorem exec_cancel_of_head (is : bits e 0 8 = 5) :
    exec (.cancel ring) s = .next (reqReserved (cancelEntry s ring e) ring (reqSize s ring)) := next_of rfl (reqServe_of_head head is _)

theorem exec_readLog_of_head (is : bits e 0 8 = 6) :
    exec (.readLog ring) s = .next (reqReserved (readEntry s ring e) ring (reqSize s ring)) := next_of rfl (reqServe_of_head head is _)

end

/-- No descriptor of a device without failed words is found bad. -/
theorem descRead_of_no_bad {s : State} (good : s.descBad = []) (c : Nat) : descRead s c = s :=
  descRead_of_good (by rw [good, List.any_nil])

/-! ### OPEN (R171, R172, R177, R641) -/

/-- An OPEN and its OPEN_EXT that pass checks 1 and 2 are answered with the context they open. -/
theorem openEntry_of_opens {s v : State} {n e x c : Nat} (two : bits e 8 1 = 1)
    (posted : (fget s F.HST_REQ_PTR_DEV n + 1) % reqSize s n ≠ fget s F.HST_REQ_PTR_HOST n)
    (next : x = reqEntry s n (fget s F.HST_REQ_PTR_DEV n + 1)) (ext : bits x 0 8 = 2) (good : openFormat e x = false)
    (mayOpen : fbit (reqTake s n 2 e) F.HST_FN_OPEN_EN (n / 4) = true)
    (inPart : bits (fget (reqTake s n 2 e) F.HST_FN_PARTS (n / 4)) (bits e 227 3) 1 = 1)
    (opens : openCtxReq (reqTake s n 2 e) (openReq (reqTake s n 2 e) n e x) = (rqOK, c, v)) :
    openEntry s n e = reqAnswer v n e rqOK c (dg (cx v c).d D.INCARNATION) 0 := by
  rw [openEntry]
  dsimp only
  rw [if_neg fun waits => posted waits.2, ← next, two, ext, if_neg (by decide), good, if_neg Bool.false_ne_true, mayOpen, inPart,
    if_neg (by decide), opens]
  exact if_pos rfl

/-- What a context takes at its OPEN besides its page-table block at `a`: its auxiliary frame, its place, a new INCARNATION. -/
def openedDesc (d : Desc) (a : Nat) (aux : Option Nat) (inc : Nat) : Desc :=
  ds (ds (ds (ds d D.SPAN_PT a) D.LOG_DIR a) D.AUX ((aux.map keyAddr).getD 0)) D.INCARNATION (inc + 1)

theorem openAs_of_takePt {s w : State} {h a : Nat} {x : Ctx} (room : takePt s h (ptBytes (dStreams x.d) (dg x.d D.PPS)) = some (a, w)) :
    let aux := if needsAux w x.d then anyFrame w h else none
    let u := aux.elim w (fun k => setUse w k 6)
    openAs s h x [] = some (lowDesc s h, cxChange u (lowDesc s h) { x with
      d := openedDesc x.d a aux (dg (cx u (lowDesc s h)).d D.INCARNATION) } []) := by
  rw [openAs, room, Option.map_some]
  dsimp only
  cases (if needsAux w x.d = true then anyFrame w h else none) <;> rfl

theorem openCtxDo_of_no_stop {r : OpenReq} (noStop : r.stopIova = 0) (s : State) (h : Nat) :
    openCtxDo s h r = openCtxAs s h (openCtxOf r 0) := by
  rw [openCtxDo, if_neg fun stop => stop.1 noStop, openStop, if_pos noStop, if_pos noStop]

theorem openCtxReq_of_checked {s : State} {r : OpenReq} (enabled : fbit s F.CTX_CTL_OPEN_EN (openHalf s r.half) = true)
    (suits : kindOk s (dg r.d D.KIND) = true) (room : openRefusal s (openHalf s r.half) r.d = none) :
    openCtxReq s r = openCtxDo s (openHalf s r.half) r := by
  rw [openCtxReq, enabled, suits, room, if_neg (by decide), if_neg (by decide)]
  rfl

theorem openCtxAs_of_opened {s u : State} {h c : Nat} {x : Ctx} (opened : openAs s h x [] = some (c, u)) :
    openCtxAs s h x = (rqOK, c, u) := by
  rw [openCtxAs, opened]
  rfl

/-! ### APPEND (R180, R642) -/

theorem appendEntry_of_fits {s : State} {n e c : Nat} {ws : List Nat} (good : appendFormat e = false)
    (names : reqCtx (reqTake s n 1 e) n e = some c) (whole : (reqTake s n 1 e).descBad = [])
    (opened : dg (cx (reqTake s n 1 e) c).d D.STATE = stOPEN)
    (fits : dg (cx (reqTake s n 1 e) c).d D.LENGTH + bits e 128 32 ≤ dg (cx (reqTake s n 1 e) c).d D.MAX_LEN)
    (words : appendWords (reqTake s n 1 e) e = some ws) (tokens : ws.any (fun w => decide (2 ^ 20 ≤ w)) = false) :
    let w := reqTake s n 1 e
    let v := if ws.isEmpty then w else appendTo w c ws
    appendEntry s n e = reqAnswer (if bits e 8 1 = 1 then closePrompt v c else v) n e rqOK c (dg (cx w c).d D.INCARNATION)
      (dg (cx w c).d D.LENGTH + ws.length) := by
  rw [appendEntry]
  simp only [good, names, descRead_of_no_bad whole, opened, Nat.not_lt.2 fits, words, tokens, ne_eq, not_true_eq_false,
    Bool.false_eq_true, ↓reduceIte]

/-! ### MODIFY and CANCEL (R174, R319) -/

theorem modifyEntry_of_names {s : State} {n e c : Nat} (good : modifyFormat e = false) (names : reqCtx (reqTake s n 1 e) n e = some c) :
    let w := reqTake s n 1 e
    modifyEntry s n e = setQueue w (ctxHalf c) (schQueue w (ctxHalf c) ++ [.modify (n / 4) (reqCring n e) (toBytes 64 e)]) := by
  simp only [modifyEntry, good, names, Bool.false_eq_true, ↓reduceIte]

theorem cancelEntry_of_names {s : State} {n e c : Nat} (good : cancelFormat e = false) (names : reqCtx (reqTake s n 1 e) n e = some c) :
    let w := reqTake s n 1 e
    cancelEntry s n e = if (cancelCtx w c).1 = anACCEPTED
      then reqAnswer (ownerMsg (cancelCtx w c).2 (cx w c).d 3 endCANCELLED 0) n e rqOK c (bits e 96 16) 0
      else reqAnswer (cancelCtx w c).2 n e rqALREADY c (bits e 96 16) 0 := by
  rw [cancelEntry, good, names]
  rfl

/-! ### READ_LOG (R642, R181) -/

theorem readTry_of_good {s : State} {cring e : Nat} (current : named s (bits e 64 18) (bits e 96 16) = true)
    (kept : dg (cx s (bits e 64 18)).d D.STATE ≠ stCLOSED)
    (fits : bits e 128 32 + bits e 160 32 ≤ dg (cx s (bits e 64 18)).d D.LENGTH)
    (whole : badFrom s (bits e 64 18) (bits e 128 32) (bits e 160 32) = none) (again : Bool) :
    readTry s cring e again = readOut s cring e (bits e 64 18) := by
  simp only [readTry, current, kept, Nat.not_lt.2 fits, whole, Bool.not_true, Bool.false_eq_true, ↓reduceIte]

theorem readEntry_of_names {s : State} {n e c : Nat} (good : readFormat e = false) (names : reqCtx (reqTake s n 1 e) n e = some c)
    (whole : (reqTake s n 1 e).descBad = []) : readEntry s n e = readTry (reqTake s n 1 e) (reqCring n e) e false := by
  simp only [readEntry, good, names, descRead_of_no_bad whole, Bool.false_eq_true, ↓reduceIte]

/-! ### The doorbell -/

theorem reqBell_of_enabled {s : State} {n : Nat} {v : Word} (reach : hostReach s = true) (enabled : ringEn s .req n = true)
    (inRing : bget v 0 16 < ringSize s .req n) : reqBell s n v = reqReserved (setHost s .req n (bget v 0 16)) n (reqSize s n) := by
  rw [reqBell, doorbell]
  simp only [reach, enabled, Nat.not_le.2 inRing, decide_false, Bool.not_true, Bool.or_self, Bool.false_eq_true, ↓reduceIte]

/-- Settles O55: the entry at the head of the ring is served by its OP's function (`reqServe_of_head`), which takes the branch of a
request that no check refuses. -/
theorem hostRequestsAreTakenAndAnswered : Obligations.HostRequestsAreTakenAndAnswered := by
  intro s v w ring fn k val e x c h a i d r ws
  refine ⟨?entries, ?opens, ?bell⟩
  case entries =>
    intro head
    refine ⟨?openExt, ?openCtx, ?others⟩
    case openExt =>
      rintro i rfl rfl rfl is
      exact exec_openExt_of_head head is
    case openCtx =>
      rintro is two posted next ext rfl good mayOpen inPart opens
      rw [exec_openCtx_of_head head is, openEntry_of_opens two posted next ext good mayOpen inPart opens]
    case others =>
      rintro rfl
      refine ⟨?append, ?modify, ?cancel, ?readLog⟩
      case append =>
        rintro is good names whole rfl opened fits words tokens rfl
        rw [exec_append_of_head head is, appendEntry_of_fits good names whole opened fits words tokens]
      case modify =>
        intro is good names
        rw [exec_modify_of_head head is, modifyEntry_of_names good names]
      case cancel =>
        rintro is good names - rfl
        have run := cancelEntry_of_names good names
        refine ⟨fun accepted => ?_, fun already => ?_⟩
        · rw [exec_cancel_of_head head is, run, if_pos accepted]
        · rw [exec_cancel_of_head head is, run, if_neg already]
      case readLog =>
        rintro is good names rfl whole current rfl kept fits clean rfl
        rw [exec_readLog_of_head head is, readEntry_of_names good names whole, readTry_of_good current kept fits clean, readOut]
  case opens =>
    rintro rfl enabled suits free noStop room rfl y aux u rfl streams pages rfl rfl
    rw [openCtxReq_of_checked enabled suits free, openCtxDo_of_no_stop noStop]
    refine openCtxAs_of_opened (openAs_of_takePt ?_)
    rw [streams, pages]
    exact room
  case bell =>
    rintro rfl reach enabled inRing rfl
    exact next_of rfl (reqBell_of_enabled reach enabled inRing)

end Sys2Proof.Machine
end

section
/-!
The statements of 06_bank_attention.md: strokes of a stack and their queue (R241-R247), yield points, outside accesses and
refresh (R251-R259), and the requests of the attention inbox (R265-R272).
-/

namespace Sys2Proof.Machine

/-! ### One stack and its registers -/

@[simp] theorem stk_stkUpd_self (s : State) (k : Nat) (f : Stk → Stk) : stk (stkUpd s k f) k = f (stk s k) := stk_stkPut_self ..

theorem stk_stkUpd_ne (s : State) {j k : Nat} (f : Stk → Stk) (h : j ≠ k) : stk (stkUpd s k f) j = stk s j := stk_stkPut_ne _ _ h

/-- A second change of a stack is made to what the first left. -/
@[simp] theorem stkUpd_stkUpd (s : State) (k : Nat) (f g : Stk → Stk) : stkUpd (stkUpd s k f) k g = stkUpd s k (fun x => g (f x)) := by
  rw [stkUpd, stk_stkUpd_self, stkUpd, stkUpd, stkPut, stkPut, stkPut, nput_nput]

@[simp] theorem stk_fput (s : State) (f : Fld) (i v k : Nat) : stk (fput s f i v) k = stk s k := rfl
@[simp] theorem stk_fset (s : State) (f : Fld) (i k : Nat) : stk (fset s f i) k = stk s k := rfl
@[simp] theorem stk_fadd1 (s : State) (f : Fld) (i n k : Nat) : stk (fadd1 s f i n) k = stk s k := rfl
@[simp] theorem stk_fmaxTo (s : State) (f : Fld) (i n k : Nat) : stk (fmaxTo s f i n) k = stk s k := rfl
@[simp] theorem fget_stkUpd (s : State) (k : Nat) (u : Stk → Stk) (f : Fld) (i : Nat) : fget (stkUpd s k u) f i = fget s f i := rfl

theorem stk_of {s t : State} (h : t.bnk = s.bnk) (k : Nat) : stk t k = stk s k := by rw [stk, h, stk]

/-- What every step of a fold leaves alone, the fold leaves alone. -/
theorem foldl_leaves {α β : Type} (g : State → β) {f : State → α → State} (h : ∀ s x, g (f s x) = g s) (l : List α) (s : State) :
    g (l.foldl f s) = g s := by
  induction l generalizing s with
  | nil => rfl
  | cons x l ih => rw [List.foldl_cons, ih, h]

/-! ### Commands and the queue (R244, R245) -/

/-- The state whose arrivals no longer hold command `k`. -/
def withoutArrival (s : State) (k : Nat) : State := { s with bnk := { s.bnk with arr := nerase s.bnk.arr k } }

/-- A command whose address is bad, unless it is an ATTN.SPAN, is rejected with FORMAT. -/
theorem commandCheck_of_badAddress {s : State} {k : Nat} {a : Arrival} (arrived : nfind s.bnk.arr k = some a) (clean : a.fail = none)
    (queryClean : a.qfail = none) (notSpan : bits (ofBytes a.head) 0 8 ≠ 2) (bad : a.addrBad = true) :
    commandCheck s k =
      askDone (fadd1 (withoutArrival s k) F.BNK_STROKES_REJECTED (bits (ofBytes a.head) 32 3) 1) a.til a.id (w64 bkFORMAT) := by
  have rejected : (a.addrBad && !(bits (ofBytes a.head) 0 8 == 2)) = true := by simp [bad, notSpan]
  rw [commandCheck, arrived]
  simp only [clean, queryClean, rejected, Bool.true_or, if_true]
  rfl

/-- A command that keeps the rules and names no context gives its sequence to the stack. -/
theorem commandCheck_of_plain {s : State} {k : Nat} {a : Arrival} {q : Seq} (arrived : nfind s.bnk.arr k = some a) (clean : a.fail = none)
    (queryClean : a.qfail = none) (notSpan : bits (ofBytes a.head) 0 8 ≠ 2) (good : a.addrBad = false) (whole : a.head ≠ [])
    (ok : headOk (withoutArrival s k) a (ofBytes a.head) = true) (plain : plainSeq (withoutArrival s k) a (ofBytes a.head) = .inr q) :
    commandCheck s k = enqueueSeq (withoutArrival s k) q := by
  have accepted : ¬ ((a.addrBad && !(bits (ofBytes a.head) 0 8 == 2)) || a.head.isEmpty ||
      !headOk (withoutArrival s k) a (ofBytes a.head)) = true := by simp [good, whole, ok]
  rw [commandCheck, arrived]
  simp only [clean, queryClean]
  refine (if_neg accepted).trans ?_
  rw [if_neg notSpan, ← withoutArrival, plain]

theorem stk_enqueueSeq (s : State) (q : Seq) : stk (enqueueSeq s q) q.stack =
    if (stk s q.stack).wait = [] ∧ (stk s q.stack).queue.length < 64 then { stk s q.stack with queue := (stk s q.stack).queue ++ [q] }
    else { stk s q.stack with wait := (stk s q.stack).wait ++ [q] } := by
  rw [enqueueSeq, stk_stkUpd_self]
  simp only [Bool.and_eq_true, List.isEmpty_iff, decide_eq_true_eq]

theorem stk_queueEntry_self {s : State} {st : Nat} {q : Seq} {r : List Seq} (waits : (stk s st).wait = q :: r)
    (free : (stk s st).queue.length < 64) : stk (queueEntry s st) st = { stk s st with queue := (stk s st).queue ++ [q], wait := r } := by
  rw [queueEntry, stk_stkUpd_self, waits]
  exact if_pos free

/-! ### The start of a stroke (R241-R246) -/

/-- A stack as its next stroke starts: the longest run of whole units that fits is performed, the rest of the columns stay. -/
def strokeBegun (s : State) (q : Seq) (x : Stk) : Stk :=
  { x with
    run := some { q with cols := (cut q [] (unitsOf q q.cols)).2.flatten, now := (cut q [] (unitsOf q q.cols)).1.flatten }
    steps := [], cap := [], side := [], scratchBad := [], t0 := s.now }

/-- The running sequence starts its next stroke; only attention reads side records. -/
theorem strokeStart_of_running {s : State} {st : Nat} {q : Seq} (still : stroking s st = false)
    (noRefresh : (stk s st).refreshing = false) (enabled : fget s F.BNK_CTL_STROKE_EN 0 = 1) (noGap : strokeGap s st = 0)
    (runs : (stk s st).run = some q) (inService : fget s F.BNK_STK_STAT_STATE st = 0) (noAttention : q.op ≠ 1) :
    strokeStart s st = fset (stkUpd s st (strokeBegun s q)) F.BNK_STK_STAT_STROKING st := by
  have starts : ¬ (stroking s st || (stk s st).refreshing || !fbit s F.BNK_CTL_STROKE_EN 0 ||
      (strokeGap s st != 0 && decide (s.now < (stk s st).t0 + strokeGap s st))) = true := by
    simp [still, noRefresh, fbit, enabled, noGap]
  rw [strokeStart, if_neg starts]
  simp only [runs, Option.isNone_some, Bool.false_eq_true, if_false, inService, ne_eq, not_true_eq_false, noAttention, and_false]
  rfl

/-! ### The end of a stroke (R246) -/

/-- A change of one stack that keeps the time of its stroke's start keeps that of every stack. -/
theorem t0_stkUpd {s : State} {j k : Nat} {f : Stk → Stk} (h : ∀ x, (f x).t0 = x.t0 := by intro; rfl) :
    (stk (stkUpd s j f) k).t0 = (stk s k).t0 := by
  by_cases same : k = j
  · rw [same, stk_stkUpd_self, h]
  · rw [stk_stkUpd_ne _ _ same]

theorem t0_serve (s : State) (o : Outside) (k : Nat) : (stk (serve s o) k).t0 = (stk s k).t0 := by
  unfold serve
  split
  · rfl
  split
  · exact t0_stkUpd
  extract_lets u
  have same : u.bnk = s.bnk := fwdWrite_bnk
  split
  · rw [stk_of (pushToSet_bnk.trans same)]
  · rw [stk_of same]

theorem t0_serveAll (s : State) (st : Nat) (f : Outside → Bool) (k : Nat) : (stk (serveAll s st f) k).t0 = (stk s k).t0 :=
  (foldl_leaves (fun u => (stk u k).t0) (fun u o => t0_serve u o k) _ _).trans t0_stkUpd

theorem t0_outsideStep (s : State) (st b k : Nat) : (stk (outsideStep s st b) k).t0 = (stk s k).t0 := by
  unfold outsideStep
  split
  · rfl
  · exact t0_serveAll ..

theorem t0_yieldPoint (s : State) (st b k : Nat) : (stk (yieldPoint s st b) k).t0 = (stk s k).t0 := by
  unfold yieldPoint
  split
  · rfl
  · rw [t0_outsideStep, stk_fmaxTo, stk_fadd1]

theorem t0_capture (s : State) (st b : Nat) (fs : RowStep) (k : Nat) : (stk (capture s st b fs) k).t0 = (stk s k).t0 := by
  unfold capture
  split
  · exact t0_stkUpd
  split
  · rfl
  · exact t0_stkUpd

theorem t0_rowStepEnd (s : State) (st b k : Nat) : (stk (rowStepEnd s st b) k).t0 = (stk s k).t0 := by
  unfold rowStepEnd
  split
  next => rfl
  next fs _ _ =>
    extract_lets captured yielded
    have same : (stk yielded k).t0 = (stk s k).t0 :=
      (t0_yieldPoint ..).trans (Eq.trans t0_stkUpd (t0_capture ..))
    split
    · exact (foldl_leaves (fun u => (stk u k).t0) (fun u _ => t0_outsideStep u st b k) _ _).trans same
    · exact same

/-- The row steps that are left do not move the time of a stroke's start. -/
theorem t0_finishSteps (s : State) (st k : Nat) : (stk (finishSteps s st) k).t0 = (stk s k).t0 :=
  foldl_leaves (fun u => (stk u k).t0)
    (fun _ b => foldl_leaves (fun u => (stk u k).t0) (fun v _ => t0_rowStepEnd v st b k) _ _) _ _

/-- What a stack's registers show of its strokes: STROKING, and the M-cycles counted in BNK_BUSY. -/
def strokeShown (s : State) (st : Nat) : Nat × Nat := (fget s F.BNK_STK_STAT_STROKING st, fget s F.BNK_BUSY_COUNT st)

theorem strokeShown_congr {s t : State} {st : Nat} (stat : rword t .BNK_STK_STAT st = rword s .BNK_STK_STAT st)
    (busy : rword t .BNK_BUSY st = rword s .BNK_BUSY st) : strokeShown t st = strokeShown s st := by
  rw [strokeShown, fget_congr (f := F.BNK_STK_STAT_STROKING) stat, fget_congr (f := F.BNK_BUSY_COUNT) busy, strokeShown]

/-- STROKING and OWED are fields of one register. -/
theorem fget_STROKING_fput_OWED (s : State) (st v : Nat) :
    fget (fput s F.BNK_STK_STAT_OWED st v) F.BNK_STK_STAT_STROKING st = fget s F.BNK_STK_STAT_STROKING st :=
  fget_fput_field s v rfl (by decide) (by decide)

theorem strokeShown_boundary (s : State) (st : Nat) : strokeShown (boundary s st) st = strokeShown s st := by
  unfold boundary
  extract_lets x waits served
  have same : strokeShown served st = strokeShown s st := strokeShown_congr (serveAll_BNK_STK_STAT st) (serveAll_BNK_BUSY st)
  split
  · refine Eq.trans ?_ same
    rw [refreshBegin, strokeShown, fget_stkUpd, fget_stkUpd, fget_STROKING_fput_OWED,
      fget_fput_reg (f := F.BNK_STK_STAT_OWED) (g := F.BNK_BUSY_COUNT) _ _ (.inl nofun), strokeShown]
  · exact same

/-- A failed line is counted and reported elsewhere. -/
theorem strokeShown_lineFailed (s : State) (st l cid inc : Nat) :
    strokeShown (lineFailureOf (fadd1 s F.BNK_LINE_ERR_COUNT st 1) 2 1 l cid inc) st = strokeShown s st :=
  strokeShown_congr ((lineFailureOf_BNK_STK_STAT st).trans (rword_rput_ne (r := .BNK_LINE_ERR) _ _ (.inl nofun)))
    ((lineFailureOf_BNK_BUSY st).trans (rword_rput_ne (r := .BNK_LINE_ERR) _ _ (.inl nofun)))

/-- The stroke's time is counted and STROKING cleared; nothing that follows at the end of the stroke touches either. -/
theorem strokeShown_strokeEnd {s : State} {st : Nat} (runs : stroking s st = true) :
    strokeShown (strokeEnd s st) st = (0, min (fget s F.BNK_BUSY_COUNT st + (s.now - (stk s st).t0)) (2 ^ 64 - 1)) := by
  rw [strokeEnd, runs, Bool.not_true, if_neg Bool.false_ne_true]
  extract_lets done counted
  have shown : strokeShown counted st = (0, min (fget s F.BNK_BUSY_COUNT st + (s.now - (stk s st).t0)) (2 ^ 64 - 1)) := by
    have apart : F.BNK_STK_STAT_STROKING.reg ≠ F.BNK_BUSY_COUNT.reg := nofun
    have busy : fget done F.BNK_BUSY_COUNT st = fget s F.BNK_BUSY_COUNT st := fget_congr (finishSteps_BNK_BUSY st)
    rw [strokeShown, fget_fadd1_reg _ apart.symm, fget_fput_self _ F.BNK_STK_STAT_STROKING _ _ (by decide),
      fget_fadd1_self _ F.BNK_BUSY_COUNT _ _ (by decide), fget_fput_reg _ _ (.inl apart), busy, finishSteps_now, t0_finishSteps]
    rfl
  split
  next => exact shown
  next q _ =>
    extract_lets metered bad c failed lost q₁ q₂ q₃ all settled ended
    refine (strokeShown_boundary ended st).trans (Eq.trans ?_ shown)
    have ofMetered : strokeShown metered st = strokeShown counted st := by
      unfold metered
      split
      · exact strokeShown_congr (meter_BNK_STK_STAT st) (meter_BNK_BUSY st)
      · rfl
    have ofFailed : strokeShown failed st = strokeShown metered st :=
      foldl_leaves (strokeShown · st) (fun u l => strokeShown_lineFailed u st l c.1 c.2) _ _
    have ofSettled : strokeShown settled st = strokeShown failed st :=
      strokeShown_congr (spanLost_BNK_STK_STAT st) (spanLost_BNK_BUSY st)
    have ofEnded : strokeShown ended st = strokeShown settled st := by
      unfold ended
      split
      · exact strokeShown_congr (seqEnd_BNK_STK_STAT st) (seqEnd_BNK_BUSY st)
      split
      · exact strokeShown_congr (seqFinish_BNK_STK_STAT st) (seqFinish_BNK_BUSY st)
      · rfl
    exact ofEnded.trans (ofSettled.trans (ofFailed.trans ofMetered))

/-- Settles O34: a command is checked by `commandCheck`, a stroke starts as `strokeStart_of_running` says, and what the registers show
at its end is `strokeShown_strokeEnd`. -/
theorem stacksRunStrokes : Obligations.StacksRunStrokes := by
  intro s st k a q r
  refine ⟨?check, ?entry, ?start, ?ends⟩
  case check =>
    intro w h arrived clean queryClean notSpan
    refine ⟨fun bad => ?_, fun good whole ok plain => ⟨_, rfl, ?_⟩⟩
    · exact congrArg Host.Outcome.next (commandCheck_of_badAddress arrived clean queryClean notSpan bad)
    · rw [commandCheck_of_plain arrived clean queryClean notSpan good whole ok plain]
      exact ⟨nfind_nerase_self _ k, stk_enqueueSeq _ q⟩
  case entry =>
    intro waits free
    exact ⟨_, rfl, stk_queueEntry_self waits free, fun j other => stk_stkUpd_ne _ _ other⟩
  case start =>
    intro still noRefresh enabled noGap runs inService noAttention
    refine ⟨_, rfl, ?_⟩
    rw [strokeStart_of_running still noRefresh enabled noGap runs inService noAttention]
    refine ⟨?_, stk_stkUpd_self ..⟩
    rw [stroking, fbit, fget_fset_self _ _ (by decide) (by decide)]
    rfl
  case ends =>
    intro runs
    obtain ⟨stopped, counted⟩ := Prod.mk.inj (strokeShown_strokeEnd runs)
    refine ⟨_, rfl, ?_, counted⟩
    rw [stroking, fbit, stopped]
    rfl

/-! ### A stack whose accesses have all been served -/

section
variable {s : State} {st : Nat} (quiet : (stk s st).out = [])
include quiet

theorem outsideStep_of_quiet (b : Nat) : outsideStep s st b = s := by
  rw [outsideStep, quiet]
  rfl

theorem yieldPoint_of_quiet (b : Nat) : yieldPoint s st b = s := by
  rw [yieldPoint, quiet]
  rfl

theorem serveAll_of_quiet (f : Outside → Bool) : serveAll s st f = stkUpd s st (fun x => { x with out := [] }) := by
  rw [serveAll, quiet]
  rfl

end

/-! ### Row steps (R251-R254) -/

/-- What a bank's row step adds to its stack's data: the granules it reads, or the failed lines of a destination row. -/
def stepCaptured (s : State) (bank : Nat) (step : RowStep) (x : Stk) : Stk :=
  { x with
    cap := match step with
      | .read fs => fs.foldl (fun m f => nset m (granAddr f bank) (granule s (granAddr f bank))) x.cap
      | .scratch _ _ => x.cap
    scratchBad := match step with
      | .read _ => x.scratchBad
      | .scratch fs m =>
        if m ≤ bank then x.scratchBad else x.scratchBad ++ fs.flatMap (fun f => granBad (granAddr f bank) (granule s (granAddr f bank))) }

/-- A capture followed by another change of the stack. -/
theorem stkUpd_capture (s : State) (st bank : Nat) (step : RowStep) (g : Stk → Stk) :
    stkUpd (capture s st bank step) st g = stkUpd s st (fun x => g (stepCaptured s bank step x)) := by
  cases step with
  | read fs =>
    simp only [capture, stkUpd_stkUpd, List.foldl_map, stepCaptured]
  | scratch fs m =>
    rw [capture]
    split
    next past => simp only [stepCaptured, past, if_true]
    next within => simp only [stkUpd_stkUpd, stepCaptured, within, if_false]

/-- A stack whose bank has captured a row step's granules and counted the step. -/
def stepEnded (s : State) (bank : Nat) (step : RowStep) (x : Stk) : Stk :=
  { stepCaptured s bank step x with steps := nupd (fun _ => 0) x.steps bank (· + 1) }

/-- With no access waiting, all that the end of a row step changes is in its stack. -/
theorem rowStepEnd_of_quiet {s : State} {st bank : Nat} {step : RowStep} {r : List RowStep}
    (left : stepsLeft (stk s st) bank = step :: r) (quiet : (stk s st).out = []) :
    rowStepEnd s st bank = stkUpd s st (stepEnded s bank step) := by
  rw [rowStepEnd, left]
  dsimp -zeta only
  extract_lets captured yielded
  have stepped : stkUpd captured st (fun x => { x with steps := nupd (fun _ => 0) x.steps bank (· + 1) }) =
      stkUpd s st (stepEnded s bank step) := stkUpd_capture ..
  have still : (stk (stkUpd s st (stepEnded s bank step)) st).out = [] := by
    rw [stk_stkUpd_self]
    exact quiet
  have same : yielded = stkUpd s st (stepEnded s bank step) := by
    unfold yielded
    rw [stepped, yieldPoint_of_quiet still]
  rw [same, still, List.foldl_nil, ite_self]

/-! ### Outside accesses (R252, R253, R255) -/

/-- A write to a stack that no forwarding redirects is a plain write: only the flash tier can be shut to one. -/
theorem fwdWrite_of_stack {s : State} {a : Nat} {bs : List Byte} (tier : addrTier a = 0) (direct : s.tie.fwd = []) :
    fwdWrite s a bs = memWrite s a bs := by
  have opens : flashShut s a = false := by simp [flashShut, tier]
  rw [fwdWrite, opens, direct]
  rfl

section
variable {s : State} {a n : Nat} {bs : List Byte} (tier : addrTier a = 0) (is : mapped s a = true) (one : a % 128 + bs.length ≤ 128)
  (inUse : stackRetired s (addrStack a) = false)
include tier is one inUse

/-- A write that one granule of a stack in use holds reaches its bank: it waits or is served. -/
theorem outsideAccess_of_reaches : outsideAccess s { addr := a, len := n, data := some bs } =
    if (stk s (addrStack a)).refreshing || !(stepsLeft (stk s (addrStack a)) (bankOf a)).isEmpty ||
        (stk s (addrStack a)).out.any (fun p => bankOf p.addr == bankOf a) then
      stkUpd s (addrStack a) (fun x => { x with out := x.out ++ [{ addr := a, len := bs.length, t := s.now, data := some bs }] })
    else serve s { addr := a, len := bs.length, t := s.now, data := some bs } := by
  have reaches : ¬ (addrTier a ≠ 0 ∨ (!mapped s a) = true ∨ 128 < a % 128 + bs.length ∨ stackRetired s (addrStack a) = true) := by
    simp [tier, is, inUse, one]
  exact if_neg reaches

theorem outsideAccess_of_free (noRefresh : (stk s (addrStack a)).refreshing = false) (noStep : stepsLeft (stk s (addrStack a)) (bankOf a) = [])
    (quiet : (stk s (addrStack a)).out = []) (unclaimed : destStack s a bs.length = none) :
    outsideAccess s { addr := a, len := n, data := some bs } = fwdWrite s a bs := by
  rw [outsideAccess_of_reaches tier is one inUse, if_neg (by simp [noRefresh, noStep, quiet])]
  simp only [serve, unclaimed]

theorem outsideAccess_of_busy (busy : (stk s (addrStack a)).refreshing = true ∨ stepsLeft (stk s (addrStack a)) (bankOf a) ≠ []) :
    outsideAccess s { addr := a, len := n, data := some bs } =
      stkUpd s (addrStack a) (fun x => { x with out := x.out ++ [{ addr := a, len := bs.length, t := s.now, data := some bs }] }) := by
  rw [outsideAccess_of_reaches tier is one inUse, if_pos]
  rcases busy with busy | busy <;> simp [busy]

end

/-! ### Refresh (R257-R259) -/

@[simp] theorem owed_stkUpd (s : State) (k : Nat) (f : Stk → Stk) (st : Nat) : owed (stkUpd s k f) st = owed s st := rfl

theorem owed_lt (s : State) (st : Nat) : owed s st < 8 := fget_lt s F.BNK_STK_STAT_OWED st

theorem owed_fput_self {n : Nat} (h : n < 8) (s : State) (st : Nat) : owed (fput s F.BNK_STK_STAT_OWED st n) st = n :=
  (fget_fput_self s F.BNK_STK_STAT_OWED st n (by decide)).trans (Nat.mod_eq_of_lt h)

/-- HOT shows the refresh interval in force. -/
def hotShown (s : State) (st : Nat) : State :=
  fput s F.BNK_STK_STAT_HOT st (b2n (decide (680 < sext 16 (nget (fun _ => 0) s.gov.tempStack st))))

theorem stk_hotShown (s : State) (st k : Nat) : stk (hotShown s st) k = stk s k := stk_fput ..

theorem stroking_hotShown (s : State) (st : Nat) : stroking (hotShown s st) st = stroking s st :=
  congrArg (· == 1) (fget_fput_field (f := F.BNK_STK_STAT_HOT) (g := F.BNK_STK_STAT_STROKING) s _ rfl (by decide) (by decide))

theorem owed_hotShown (s : State) (st : Nat) : owed (hotShown s st) st = owed s st :=
  fget_fput_field (f := F.BNK_STK_STAT_HOT) (g := F.BNK_STK_STAT_OWED) s _ rfl (by decide) (by decide)

/-- A refresh that falls due is owed while a stroke or a refresh is performed, and begins at once otherwise. -/
theorem refreshDue_eq (s : State) (st : Nat) : refreshDue s st =
    if stroking s st || (stk s st).refreshing then
      fmaxTo (fput (hotShown s st) F.BNK_STK_STAT_OWED st (min 4 (owed s st + 1))) F.BNK_REFRESH_MAX_OWED st (min 4 (owed s st + 1))
    else stkUpd (hotShown s st) st (fun x => { x with refreshing := true }) := by
  rw [← stroking_hotShown, ← owed_hotShown]
  rfl

theorem stk_refreshBegin (s : State) (st : Nat) : stk (refreshBegin s st) st = { stk s st with refreshing := true } := stk_stkUpd_self ..

theorem owed_refreshBegin (s : State) (st : Nat) : owed (refreshBegin s st) st = owed s st - 1 := by
  have := owed_lt s st
  exact owed_fput_self (by omega) s st

theorem refreshDue_of_still {s : State} {st : Nat} (still : stroking s st = false) (idle : (stk s st).refreshing = false) :
    refreshDue s st = stkUpd (hotShown s st) st (fun x => { x with refreshing := true }) := by
  rw [refreshDue_eq, still, idle]
  rfl

theorem refreshDue_of_busy {s : State} {st : Nat} (busy : stroking s st = true ∨ (stk s st).refreshing = true) :
    stk (refreshDue s st) st = stk s st ∧ owed (refreshDue s st) st = min 4 (owed s st + 1) := by
  have apart : F.BNK_REFRESH_MAX_OWED.reg ≠ F.BNK_STK_STAT_OWED.reg := nofun
  rw [refreshDue_eq, if_pos (by simpa using busy)]
  refine ⟨?_, (fget_fput_reg _ _ (.inl apart)).trans (owed_fput_self (by omega) _ st)⟩
  rw [stk_fmaxTo, stk_fput, stk_hotShown]

/-- With no access waiting, the end of a refresh counts it, and the next one owed begins. -/
theorem refreshEnd_of_quiet {s : State} {st : Nat} (refreshes : (stk s st).refreshing = true) (quiet : (stk s st).out = []) :
    (stk (refreshEnd s st) st).refreshing = decide (owed s st ≠ 0) ∧ owed (refreshEnd s st) st = owed s st - 1 ∧
      fget (refreshEnd s st) F.BNK_REFRESH_COUNT st = min (fget s F.BNK_REFRESH_COUNT st + 1) (2 ^ 32 - 1) := by
  have apart : F.BNK_REFRESH_COUNT.reg ≠ F.BNK_STK_STAT_OWED.reg := nofun
  rw [refreshEnd, refreshes, Bool.not_true, if_neg Bool.false_ne_true]
  extract_lets ended
  have isEnded : stk ended st = { stk s st with refreshing := false } :=
    (stk_fadd1 ..).trans (stk_stkUpd_self ..)
  have quietEnded : (stk ended st).out = [] := by rw [isEnded]; exact quiet
  have sameOwed : owed ended st = owed s st := fget_fadd1_reg _ apart
  have counted : fget ended F.BNK_REFRESH_COUNT st = min (fget s F.BNK_REFRESH_COUNT st + 1) (2 ^ 32 - 1) :=
    fget_fadd1_self _ F.BNK_REFRESH_COUNT _ _ (by decide)
  rw [sameOwed]
  split
  next noneOwed =>
    rw [serveAll_of_quiet quietEnded, stk_stkUpd_self, isEnded, owed_stkUpd, sameOwed, noneOwed, fget_stkUpd]
    exact ⟨rfl, rfl, counted⟩
  next someOwed =>
    rw [foldl_eq_self fun b _ => outsideStep_of_quiet quietEnded b, stk_refreshBegin, owed_refreshBegin, sameOwed]
    refine ⟨(decide_eq_true someOwed).symm, rfl, ?_⟩
    rw [refreshBegin, fget_stkUpd, fget_fput_reg _ _ (.inl apart.symm), counted]

/-! ### Requests of the attention inbox (R265, R270, R271) -/

/-- The state whose inbox no longer holds the first completion of slot `n`. -/
def withoutRequest (s : State) (n : Nat) : State :=
  { s with bnk := { s.bnk with inbox := s.bnk.inbox.eraseIdx (s.bnk.inbox.findIdx (fun y => y.slot == n)) } }

/-- The request of a slot, of its header as a number and the message that filled the slot. -/
def requestOf (x : InboxNote) (h : Nat) : AttReq :=
  { reqId := bits h 0 32, cid := bits h 32 18, inc := bits h 64 16, layer := bits h 80 8, pos := bits h 96 32, key := bits h 128 32
    off := bits h 160 64, stepNo := bits h 224 32, peer := x.peer, comp := x.comp, epoch := x.epoch, cls := x.cls, tenant := x.tenant }

/-- The state in which slot `n` holds request `q` in progress. -/
def inProgress (s : State) (n : Nat) (q : AttReq) : State := { s with bnk := { s.bnk with slots := nset s.bnk.slots n q } }

/-- What becomes of request `q` of slot `n` under a verdict. -/
def requestHandled (w : State) (n : Nat) (q : AttReq) : AttVerdict → State
  | .refuse e => attReply (if e = atNOTSERV then progRepair w q.cid else w) q e
  | .discard => w
  | .serve place =>
    let word := progWord w q.cid
    let k := dg (cx w q.cid).d D.KVH_M1 + 1
    let u := if place then setProg w q.cid q.reqId true (bits word 8 21) (bits word 0 8) else w
    let u := inProgress u n { q with items := k, place := place, prev := bits word 32 32 }
    (List.range k).foldl (fun t j => pushToSet t (attSheaves u (ctxHalf q.cid))
      { bits := mkItem q.cid false q.layer 0 2 (fget t F.BNK_ATTN_ENTRY_ENTRY 0) (j * 65536 + n), slot := n + 1 }) u

/-- The first completion of a free slot is taken from the inbox and handled under its verdict. -/
theorem attRequest_of_first {s : State} {n : Nat} {x : InboxNote} (first : s.bnk.inbox.find? (fun y => y.slot == n) = some x)
    (enabled : fget s F.BNK_CTL_INBOX_EN 0 = 1) (free : nfind s.bnk.slots n = none) :
    let w := withoutRequest s n
    let h := memNat w (slotAddr w n) 64
    attRequest s n = requestHandled w n (requestOf x h) (attCheck w h) := by
  intro w h
  have takes : ¬ (!fbit s F.BNK_CTL_INBOX_EN 0 || (nfind s.bnk.slots n).isSome) = true := by simp [fbit, enabled, free]
  rw [attRequest, first]
  refine (if_neg takes).trans ?_
  extract_lets bnk taken header c q
  change _ = requestHandled taken n q (attCheck taken header)
  cases attCheck taken header <;> rfl

/-- A request that is served is in progress, its items pushed: pushing touches neither the inbox nor the slots. -/
theorem requestHandled_serve_bnk (w : State) (n : Nat) (q : AttReq) (place : Bool) :
    (requestHandled w n q (.serve place)).bnk = { w.bnk with
      slots := nset w.bnk.slots n
        { q with items := dg (cx w q.cid).d D.KVH_M1 + 1, place := place, prev := bits (progWord w q.cid) 32 32 } } := by
  refine (foldl_leaves State.bnk (fun _ _ => pushToSet_bnk) _ _).trans ?_
  cases place
  case false => rfl
  case true => rw [inProgress, if_pos rfl, setProg_bnk]

/-! ### The end of a request's items (R268, R272) -/

/-- What becomes of the progress word once request `q` has been answered. -/
def progressMoved (v : State) (q : AttReq) : State :=
  let word := progWord v q.cid
  if !q.place || !named v q.cid q.inc || bits word 32 32 != q.reqId || bits word 8 21 != q.pos || bits word 0 8 != q.layer then v
  else if attStatus q ≠ 0 then setProg v q.cid q.prev false q.pos q.layer
  else if q.layer < dg (cx v q.cid).d D.LAYERS_M1 then setProg v q.cid q.reqId false q.pos (q.layer + 1)
  else dmod (setProg v q.cid q.reqId false (q.pos + 1) 0) q.cid (fun d => ds d D.KV_VALID (q.pos + 1))

/-- When the items of a request have all ended its slot is free and it is answered. -/
theorem attItemsEnd_of_ended {s : State} {n : Nat} {q : AttReq} (held : nfind s.bnk.slots n = some q) (ended : q.items = 0) :
    attItemsEnd s n =
      progressMoved (attReply { s with bnk := { s.bnk with slots := nerase s.bnk.slots n } } q (attStatus q)) q := by
  rw [attItemsEnd, held]
  exact if_neg (not_not_intro ended)

/-- A request that was served again moves no progress word. -/
theorem progressMoved_of_again {v : State} {q : AttReq} (again : q.place = false) : progressMoved v q = v :=
  if_pos (by simp [again])

/-- A request that placed K and V moves the progress word that still names it. -/
theorem progressMoved_of_current {v : State} {q : AttReq} (place : q.place = true) (names : named v q.cid q.inc = true)
    (sameId : bits (progWord v q.cid) 32 32 = q.reqId) (samePos : bits (progWord v q.cid) 8 21 = q.pos)
    (sameLayer : bits (progWord v q.cid) 0 8 = q.layer) : progressMoved v q =
      if attStatus q ≠ 0 then setProg v q.cid q.prev false q.pos q.layer
      else if q.layer < dg (cx v q.cid).d D.LAYERS_M1 then setProg v q.cid q.reqId false q.pos (q.layer + 1)
      else dmod (setProg v q.cid q.reqId false (q.pos + 1) 0) q.cid (fun d => ds d D.KV_VALID (q.pos + 1)) :=
  if_neg (by simp [place, names, sameId, samePos, sameLayer])

/-- Settles O35: each command is its event (`rowStepEnd`, `outsideAccess`, `refreshDue`, `refreshEnd`, `attRequest`, `attItemsEnd`), which
the lemmas above say for a stack where no access waits, for a free slot and for a request whose items have ended. -/
theorem yieldPointsRefreshAndAttention : Obligations.YieldPointsRefreshAndAttention := by
  intro s st bank a n bs
  refine ⟨?rowStep, ?outside, ?dueStill, ?dueBusy, ?refreshEnds, ?request, ?itemsEnd⟩
  case rowStep =>
    intro step r left quiet
    exact congrArg Host.Outcome.next (rowStepEnd_of_quiet left quiet)
  case outside =>
    intro tier is one inUse x
    refine ⟨fun noRefresh noStep quiet unclaimed => ⟨?_, fwdWrite_of_stack tier⟩, fun busy => ?_⟩
    · exact congrArg Host.Outcome.next (outsideAccess_of_free tier is one inUse noRefresh noStep quiet unclaimed)
    · exact congrArg Host.Outcome.next (outsideAccess_of_busy tier is one inUse busy)
  case dueStill =>
    intro still idle
    refine ⟨_, rfl, ?_⟩
    rw [refreshDue_of_still still idle, stk_stkUpd_self, stk_hotShown, owed_stkUpd, owed_hotShown]
    exact ⟨rfl, rfl⟩
  case dueBusy => exact fun busy => ⟨_, rfl, refreshDue_of_busy busy⟩
  case refreshEnds => exact fun refreshes quiet => ⟨_, rfl, refreshEnd_of_quiet refreshes quiet⟩
  case request =>
    intro x first enabled free w h q
    have run : exec (.attentionRequest n) s = .next (requestHandled w n q (attCheck w h)) :=
      congrArg Host.Outcome.next (attRequest_of_first first enabled free)
    refine ⟨fun discarded => ?_, fun e refused other => ?_, fun place served => ?_⟩
    · rw [run, discarded, requestHandled]
    · rw [run, refused, requestHandled, if_neg (show e ≠ atNOTSERV from other)]
    · refine ⟨_, run, ?_⟩
      rw [served, requestHandled_serve_bnk]
      exact ⟨rfl, nfind_nset_self ..⟩
  case itemsEnd =>
    intro q held ended v
    have run : exec (.attentionItemsEnd n) s = .next (progressMoved v q) :=
      congrArg Host.Outcome.next (attItemsEnd_of_ended held ended)
    refine ⟨fun again => ?_, fun place names sameId samePos sameLayer => ?_⟩
    · rw [run, progressMoved_of_again again]
    · rw [run, progressMoved_of_current place names sameId samePos sameLayer]
      refine ⟨fun failed => ?_, fun ok more => ?_, fun ok last => ?_⟩
      · rw [if_pos failed]
      · rw [if_neg (not_not_intro ok), if_pos more]
      · rw [if_neg (not_not_intro ok), if_neg (Nat.not_lt.2 last)]

end Sys2Proof.Machine
end

section
/-!
The statements of 07_step_scheduler.md: context commands (R321-R326), a half's part of a step from its formation to its commit
(R290-R296, R308, R309), and the partitions' settings (R279, R283, R334).
-/

namespace Sys2Proof.Machine

/-! ### The halves of a step -/

theorem stepHalf_setStepHalf_self (k : Step) (h : Nat) (x : StepHalf) : stepHalf (setStepHalf k h x) h = x := by
  unfold stepHalf setStepHalf
  split <;> rfl

theorem part_congr {s t : State} (e : t.sch = s.sch) (p : Nat) : part t p = part s p := by rw [part, e, part]

theorem part_fput (s : State) (f : Fld) (i v p : Nat) : part (fput s f i v) p = part s p := part_congr fput_sch p

theorem part_stepPut_self (s : State) (p : Nat) (k : Step) : part (stepPut s p k) p = { part s p with step := some k } :=
  part_partPut_self ..

theorem part_stepPut_ne (s : State) {p q : Nat} (k : Step) (h : q ≠ p) : part (stepPut s p k) q = part s q :=
  part_partPut_ne _ _ h

/-! ### Formation (R280, R296) -/

/-- Half `h` has formed its part of the step in progress of partition `p`. -/
def HasFormed (h p : Nat) (s : State) : Prop := ∃ k, (part s p).step = some k ∧ (stepHalf k h).formed = true

theorem hasFormed_congr {h p : Nat} {s t : State} (formed : HasFormed h p s) (e : t.sch = s.sch) : HasFormed h p t := by
  rw [HasFormed, part_congr e]
  exact formed

theorem hasFormed_stepPut (s : State) (h p : Nat) (k : Step) {x : StepHalf} (formed : x.formed = true) :
    HasFormed h p (stepPut s p (setStepHalf k h x)) := by
  refine ⟨setStepHalf k h x, by rw [part_stepPut_self], ?_⟩
  rw [stepHalf_setStepHalf_self, formed]

/-- An item added to a step changes its counts of items alone. -/
theorem hasFormed_stepAdd {h p : Nat} {s : State} (formed : HasFormed h p s) (w : Work) : HasFormed h p (stepAdd s w) := by
  rw [stepAdd]
  split
  · exact formed
  split
  next => exact formed
  next j found =>
    by_cases same : p = w.part
    · subst same
      obtain ⟨k, step, done⟩ := formed
      obtain rfl : k = j := by
        rw [stepOf, step] at found
        exact Option.some.inj (Option.filter_eq_some_iff.1 found).1
      exact ⟨_, congrArg Part.step (part_stepPut_self ..), done⟩
    · rw [HasFormed, part_stepPut_ne _ _ same]
      exact formed

/-- Items of a step that are counted and pushed leave what the halves have formed. -/
theorem hasFormed_pushed {h p : Nat} {s : State} (formed : HasFormed h p s) (l : List Nat) (w : Work) :
    HasFormed h p (pushToSet (stepAdd s w) l w) := hasFormed_congr (hasFormed_stepAdd formed w) pushToSet_sch

theorem hasFormed_foldl {α : Type} {h p : Nat} {f : State → α → State} (keeps : ∀ s a, HasFormed h p s → HasFormed h p (f s a))
    (l : List α) {s : State} (formed : HasFormed h p s) : HasFormed h p (l.foldl f s) := by
  induction l generalizing s with
  | nil => exact formed
  | cons a l ih => exact ih (keeps s a formed)

theorem admitDecode_sch (s : State) (p num : Nat) (l : List Nat) : (admitDecode s p num l).sch = s.sch :=
  foldl_leaves State.sch (fun _ _ => cxChange_sch) _ _

theorem admitChunks_sch (s : State) (p num : Nat) (l : List (Nat × Nat × Nat × Bool)) : (admitChunks s p num l).sch = s.sch :=
  foldl_leaves State.sch (fun _ _ => cxPut_sch) _ _

/-- A formation that gives a step's number has a part of that step formed. -/
theorem hasFormed_formWith {s : State} {h p dl : Nat} (admits : (formWith s h p dl).1 ≠ 0) : HasFormed h p (formWith s h p dl).2 := by
  revert admits
  unfold formWith
  extract_lets t turn old n ctl ratio gen pre num fresh base numbered zeroed push
  have pushes (u : State) (l : List Nat) (kind : Nat) (b : ItemBits) (formed : HasFormed h p u) : HasFormed h p (push u l kind b) :=
    hasFormed_pushed formed ..
  split
  next dec chunks _ =>
  extract_lets toks shown1 shown2 shown3 part admitted written batch items
  split
  · exact fun zero => absurd rfl zero
  split
  · exact fun zero => absurd rfl zero
  intro
  have put : HasFormed h p part := hasFormed_stepPut _ _ _ _ rfl
  have admits : HasFormed h p admitted := hasFormed_congr put ((admitChunks_sch ..).trans (admitDecode_sch ..))
  refine hasFormed_foldl (fun u _ => pushes u _ _ _) chunks ?_
  change HasFormed h p (if _ then _ else _)
  split
  · exact admits
  · exact pushes _ _ _ _ (hasFormed_congr admits memWrite_sch)

/-- A half that may form, with no step in progress in its partition's group, is not held back. -/
theorem formBlocked_of_idle {s : State} {h p : Nat} (idle : (part s p).step = none)
    (group : ∀ q ∈ groupOf s p, (part s q).step = none) : formBlocked s h p = false := by
  have others : (groupOf s p).any (fun q => q != p && (part s q).step.isSome) = false :=
    List.any_eq_false.2 fun q member => by simp [group q member]
  rw [formBlocked, idle, others]
  rfl

/-- What a half does that has its group's next step: steps 1 to 6 of R296, again with the step's number once it has one. -/
def formNumbered (s : State) (h p : Nat) : Nat × State :=
  formWith s h p (formNumber s h p (formWith s h p 0).1)

theorem formation_of_open {s : State} {h p : Nat} (may : mayForm s h p = true) (free : formBlocked s h p = false) :
    formation s h p = if othersTurn (giveTurn s p) p = true then giveTurn s p else (formNumbered (giveTurn s p) h p).2 := by
  rw [formation, if_neg (by rw [may, free]; decide)]
  dsimp only [formNumbered]
  split
  · rfl
  split
  next unnumbered => rw [unnumbered]
  · rfl

/-! ### The commit point (R290-R293) -/

/-- The contexts and chunks of half `h`'s part have committed. -/
def partCommitted (s : State) (h p : Nat) (k : Step) : State :=
  (stepHalf k h).chunks.foldl (fun s c => commitChunk s p k.num c)
    ((stepHalf k h).dec.foldl (fun s c => commitDecode s h p k.num c) s)

/-- The step with half `h`'s part committed. -/
def stepCommitted (k : Step) (h : Nat) : Step := setStepHalf k h { stepHalf k h with committed := true }

/-- The device past the commit point of half `h`, before the step may end. -/
def pastCommit (s : State) (h p : Nat) (k : Step) : State :=
  fput (stepPut (partCommitted s h p k) p (stepCommitted k h)) F.SCH_STEP_STAT_PHASE p 3

theorem commitPoint_of_ended {s : State} {h p : Nat} {k : Step} (step : (part s p).step = some k) (ended : stepOpen s h p k = false)
    (before : (stepHalf k h).committed = false) : commitPoint s h p =
      if (stepCommitted k h).a.committed = true ∧ (stepCommitted k h).b.committed = true then
        stepOver (pastCommit s h p k) p (stepCommitted k h)
      else pastCommit s h p k := by
  rw [commitPoint, step]
  dsimp only
  rw [if_neg (by simp [ended, before])]
  simp only [Bool.and_eq_true]
  rfl

theorem step_pastCommit (s : State) (h p : Nat) (k : Step) : (part (pastCommit s h p k) p).step = some (stepCommitted k h) :=
  congrArg Part.step (part_stepPut_self ..)

theorem phase_pastCommit (s : State) (h p : Nat) (k : Step) : fget (pastCommit s h p k) F.SCH_STEP_STAT_PHASE p = 3 :=
  fget_fput_self _ _ _ _ (by decide)

/-- The step is not over while the other half has not committed its part. -/
theorem not_over_of_other {k : Step} {h : Fin 2} (other : (stepHalf k (1 - h)).committed = false) :
    ¬((stepCommitted k h).a.committed = true ∧ (stepCommitted k h).b.committed = true) := by
  rintro ⟨a, b⟩
  match h with
  | 0 => exact absurd (b.symm.trans other) nofun
  | 1 => exact absurd (a.symm.trans other) nofun

theorem cx_pastCommit (s : State) (h p : Nat) (k : Step) (c : Nat) : cx (pastCommit s h p k) c = cx (partCommitted s h p k) c :=
  cx_of (fput_ctx.trans rfl) c

theorem partCommitted_of_one {k : Step} {h c : Nat} (dec : (stepHalf k h).dec = [c]) (chunks : (stepHalf k h).chunks = [])
    (s : State) (p : Nat) : partCommitted s h p k = commitDecode s h p k.num c := by
  rw [partCommitted, dec, chunks]
  rfl

/-! ### A token commits (R308, R309) -/

/-- A log word written to a good line changes no context. -/
theorem logWrite_ctx_of_good {s : State} {c p : Nat} (good : logBad s (cx s c).d p = none) (w : BitVec 32) :
    (logWrite s c p w).ctx = s.ctx := by
  rw [logWrite]
  dsimp only
  rw [good]
  exact memPut_ctx.trans logSegment_ctx

/-- A context without an output buffer shows the host nothing of a token. -/
theorem tokenOut_of_no_buffer {s : State} {c : Nat} (noBuffer : (cx s c).outIova = 0) (h step pos word : Nat) :
    tokenOut s h c step pos word = s := by
  simp only [tokenOut, noBuffer, ↓reduceIte, true_or, ite_self]

/-- The descriptor after a token was committed at position LENGTH. -/
def tokenTaken (d : Desc) (num st : Nat) : Desc :=
  ds (ds (ds (ds (ds d D.KV_VALID (dg d D.LENGTH)) D.LENGTH (dg d D.LENGTH + 1)) D.GENERATED (dg d D.GENERATED + 1)) D.LAST_STEP num) D.STATE st

/-- Neither KV_VALID nor LENGTH shares a bit with GENERATED. -/
theorem dg_GENERATED_ds (d : Desc) (a b : Nat) : dg (ds (ds d D.KV_VALID a) D.LENGTH b) D.GENERATED = dg d D.GENERATED := by
  rw [dg_ds_ne _ D.LENGTH _ _ (by decide) (by decide), dg_ds_ne _ D.KV_VALID _ _ (by decide) (by decide)]

/-- The context after a token was committed. -/
def tokenCtx (x : Ctx) (num st : Nat) : Ctx := { x with d := tokenTaken x.d num st, rebuilds := 0, lastHole := none }

theorem cx_cxChange_entered (s : State) (c : Nat) (x : Ctx) (l : List JEntry) :
    ∃ t, cx (cxChange s c x l) c = { x with entered := t } := by
  rw [cx_cxChange_self]
  split
  · exact ⟨_, rfl⟩
  · exact ⟨_, rfl⟩

/-- A token that is not late, committed by a context without an output buffer into a good log line: the context has it, but for
the time of its entry into the new state, and no other context changes. -/
theorem cx_commitToken {s : State} {c : Nat} (good : logBad s (cx s c).d (dg (cx s c).d D.LENGTH) = none)
    (noBuffer : (cx s c).outIova = 0) (h num token st : Nat) :
    (∃ t, cx (commitToken s h c num token false st) c = { tokenCtx (cx s c) num st with entered := t }) ∧
      ∀ k, k ≠ c → cx (commitToken s h c num token false st) k = cx s k := by
  generalize run : commitToken s h c num token false st = u
  unfold commitToken at run
  extract_lets pos word v x d d' d'' v' v'' v3 at run
  have logged : v.ctx = s.ctx := logWrite_ctx_of_good good _
  have same : x = cx s c := cx_of logged c
  have taken : d'' = tokenTaken (cx s c).d num st := by
    have generated : dg d D.GENERATED = dg (cx s c).d D.GENERATED := (dg_GENERATED_ds ..).trans (by rw [same])
    have before : d = ds (ds (cx s c).d D.KV_VALID pos) D.LENGTH (pos + 1) := by rw [← same]
    calc d'' = ds (ds (ds d D.GENERATED (dg d D.GENERATED + 1)) D.LAST_STEP num) D.STATE st := if_neg Bool.false_ne_true
      _ = tokenTaken (cx s c).d num st := by rw [generated, before, tokenTaken]
  obtain ⟨t, changed⟩ : ∃ t, cx v' c = { tokenCtx (cx s c) num st with entered := t } := by
    rw [tokenCtx, ← taken, ← same]
    exact cx_cxChange_entered ..
  have notLate : v'' = v' := if_neg Bool.false_ne_true
  have unmetered (k : Nat) : cx v3 k = cx v' k := (cx_of meter_ctx k).trans (by rw [notLate])
  have buffer : (cx v3 c).outIova = 0 :=
    calc (cx v3 c).outIova = (cx v' c).outIova := congrArg Ctx.outIova (unmetered c)
      _ = x.outIova := cx_cxChange_of Ctx.outIova (fun _ _ => rfl) ..
      _ = 0 := (congrArg Ctx.outIova same).trans noBuffer
  rw [tokenOut_of_no_buffer buffer] at run
  rw [← run]
  refine ⟨⟨t, (unmetered c).trans changed⟩, fun k other => ?_⟩
  rw [unmetered, cx_cxChange_ne _ _ _ other, cx_of logged]

/-- The context that leaves its step: what it was in the step with is gone. -/
def stepLeft (x : Ctx) : Ctx := { x with dec := none, offer := none, exc := 0, fault := false }

/-- A decode context of the step with an offered token and nothing that stops it commits the token. -/
theorem commitDecode_of_offer {s : State} {h p num c token seq : Nat} (decode : dg (cx s c).d D.STATE = stDECODE)
    (inStep : (cx s c).dec = some (p, num)) (kept : (cx s c).release = false) (uncancelled : dg (cx s c).d D.CANCEL = 0)
    (noExc : (cx s c).exc = 0) (goodLog : (cx s c).badLog = false) (goodKv : dg (cx s c).d D.KV_BAD = 0)
    (unheld : dg (cx s c).d D.HELD = 0) (noDeadline : dg (cx s c).d D.DL_MODE = 0) (offer : (cx s c).offer = some (token, 0, seq))
    (good : ∀ j ∈ s.descBad, j / 32 ≠ c) : commitDecode s h p num c =
      commitToken (cxPut s c (stepLeft (cx s c))) h c num token false stREADY := by
  have zero {f : DFld} (is : dg (cx s c).d f = 0) : db (cx s c).d f = false := by rw [db, is]; rfl
  rw [commitDecode, descRead_of_good (descBad_any_eq_false good)]
  dsimp only
  rw [if_neg (fun h => h.elim (· decode) (· inStep)), if_neg (by rw [kept]; decide), if_neg (by rw [zero uncancelled]; decide),
    if_neg (fun h => h.elim (· noExc) (fun bad => absurd (bad.symm.trans goodLog) nofun)),
    if_neg (fun h => absurd (h.1.symm.trans noDeadline) (by decide)), if_neg (by rw [zero goodKv, zero unheld]; decide),
    offer, noDeadline]
  rfl

/-- Whether a log line is bad does not depend on the contexts. -/
theorem logBad_cxPut (s : State) (c : Nat) (x : Ctx) (d : Desc) (p : Nat) : logBad (cxPut s c x) d p = logBad s d p := rfl

/-! ### SCH_PART_CTL and SCH_RATIO (R279, R283, R334) -/

section
variable {s : State} (reach : hostReach s = true) (ready : fget s F.GLB_STAT_PHASE 0 = 12)
include reach ready

theorem exec_schPartCtl_ready (p : Fin 8) (val : Word) : exec (.schPartCtl p val) s = .next (partCtl s p val) := by
  change execSchPartCtl p val s = _
  rw [execSchPartCtl, regGate, hostGate_open reach (.inl ready)]

theorem exec_schRatio_ready (p : Fin 8) (val : Word) : exec (.schRatio p val) s = .next (ratioWrite s p val) := by
  change execSchRatio p val s = _
  rw [execSchRatio, regGate, hostGate_open reach (.inl ready)]

end

/-- A step is in progress in one of some partitions. -/
theorem any_step_iff {s : State} {l : List Nat} :
    l.any (fun q => (part s q).step.isSome) = true ↔ ∃ q ∈ l, (part s q).step ≠ none := by
  simp only [List.any_eq_true, Option.isSome_iff_ne_none]

theorem fget_partPut (s : State) (p : Nat) (x : Part) (f : Fld) (i : Nat) : fget (partPut s p x) f i = fget s f i :=
  fget_congr (t := partPut s p x) rfl

/-- A field of SCH_RATIO above the sheaf counts keeps what a write gave it. -/
theorem fget_ratioWrite {s : State} {p : Nat} (w : Word) {g : Fld} (reg : g.reg = .SCH_RATIO) (above : 22 ≤ g.lo) :
    fget (ratioWrite s p w) g p =
      fget (fput (fput s F.SCH_RATIO_DWELL p (max 1 (bget w 32 4))) F.SCH_RATIO_HYST p (max 1 (bget w 24 4))) g p := by
  have apart {f : Fld} (fits : f.reg = .SCH_RATIO ∧ f.lo + f.w ≤ 22) (t : State) (v : Nat) : fget (fput t f p v) g p = fget t g p :=
    fget_fput_field _ _ (fits.1.trans reg.symm) (by omega) (.inr (by omega))
  have max_ := @apart F.SCH_RATIO_P_MAX (by decide)
  have min_ := @apart F.SCH_RATIO_P_MIN (by decide)
  have init := @apart F.SCH_RATIO_P_INIT (by decide)
  simp only [ratioWrite, fget_partPut, init, min_, max_]

/-- A write to SCH_RATIO restarts the controller at the next formation. -/
theorem part_ratioWrite (s : State) (p : Nat) (w : Word) : part (ratioWrite s p w) p = { part s p with restart := true } := by
  simp only [ratioWrite, part_partPut_self, part_fput]

theorem max_one_lt {n k : Nat} (h : n < 2 ^ k) (pos : 0 < k) : max 1 n < 2 ^ k := by
  have := Nat.one_lt_two_pow_iff.2 (Nat.ne_of_gt pos)
  omega

/-- Settles O38: a formation that gives a number has put its part into the step (`hasFormed_formWith`), the commit point is
`commitPoint_of_ended`, and the one token it commits is one change of the context (`cx_commitToken`). -/
theorem stepsFormAndCommit : Obligations.StepsFormAndCommit := by
  intro s h p val k
  refine ⟨?formation, ?commit, ?token, ?settings⟩
  case formation =>
    intro may idle group v n f
    have both : f = formNumbered v h p := by
      change (if n = 0 then formWith v h p 0 else formWith v h p n) = formWith v h p n
      split
      next unnumbered => rw [unnumbered]
      · rfl
    rw [both]
    exact ⟨congrArg Host.Outcome.next (formation_of_open may (formBlocked_of_idle idle group)), hasFormed_formWith⟩
  case commit =>
    intro step ended before v k' w
    exact ⟨congrArg Host.Outcome.next (commitPoint_of_ended step ended before), step_pastCommit s h p k, phase_pastCommit s h p k⟩
  case token =>
    intro c token seq step ended before other dec chunks x pos decode inStep kept uncancelled noExc goodLog goodKv unheld noDeadline
      offer noBuffer good log
    refine ⟨_, congrArg Host.Outcome.next ((commitPoint_of_ended step ended before).trans (if_neg (not_over_of_other other))), ?_⟩
    have runs (j : Nat) : cx (pastCommit s h p k) j = cx (commitToken (cxPut s c (stepLeft x)) h c k.num token false stREADY) j := by
      rw [cx_pastCommit, partCommitted_of_one dec chunks, commitDecode_of_offer decode inStep kept uncancelled noExc goodLog goodKv
        unheld noDeadline offer good]
    have left : cx (cxPut s c (stepLeft x)) c = stepLeft x := cx_cxPut_self ..
    obtain ⟨⟨t, taken⟩, others⟩ := cx_commitToken (s := cxPut s c (stepLeft x)) (c := c) (by rw [left, logBad_cxPut]; exact log)
      (by rw [left]; exact noBuffer) h k.num token stREADY
    rw [left] at taken
    refine ⟨?_, ?_, ?_, fun j apart => by rw [runs, others j apart, cx_cxPut_ne _ _ apart]⟩
    · rw [runs, taken]; rfl
    · rw [runs, taken]; rfl
    · rw [runs, taken]; rfl
  case settings =>
    intro reach ready
    refine ⟨(exec_schPartCtl_ready reach ready p val).trans (congrArg Host.Outcome.next ?_), _,
      exec_schRatio_ready reach ready p val, ?_, ?_, ?_⟩
    · simp only [partCtl, any_step_iff]
    · exact part_ratioWrite ..
    · rw [fget_ratioWrite val rfl (by decide),
        fget_fput_field (f := F.SCH_RATIO_HYST) (g := F.SCH_RATIO_DWELL) _ _ rfl (by decide) (by decide), fget_fput_self _ _ _ _ (by decide)]
      exact Nat.mod_eq_of_lt (max_one_lt (bget_lt ..) (by decide))
    · rw [fget_ratioWrite val rfl (by decide), fget_fput_self _ _ _ _ (by decide)]
      exact Nat.mod_eq_of_lt (max_one_lt (bget_lt ..) (by decide))

/-! ### Context commands (R321-R326) -/

theorem schQueue_congr {s t : State} (e : t.sch = s.sch) (h : Nat) : schQueue t h = schQueue s h := by rw [schQueue, e, schQueue]

theorem schQueue_setQueue_self (s : State) (h : Nat) (l : List StepReq) : schQueue (setQueue s h l) h = l := nget_nput_self ..

theorem cx_setQueue (s : State) (h : Nat) (l : List StepReq) (k : Nat) : cx (setQueue s h l) k = cx s k := rfl

theorem cx_cmdResult (s : State) (c res k : Nat) : cx (cmdResult s c res) k = cx s k := cx_of (fput_ctx.trans fput_ctx) k

theorem cmdResult_sch (s : State) (c res : Nat) : (cmdResult s c res).sch = s.sch := fput_sch.trans fput_sch

theorem fget_RESULT_cmdResult (s : State) (c : Nat) : fget (cmdResult s c 0) F.SCH_CMD_STAT_RESULT 0 = 0 := by
  rw [cmdResult, fget_fput_field (f := F.SCH_CMD_STAT_CTX) (g := F.SCH_CMD_STAT_RESULT) _ _ rfl (by decide) (by decide),
    fget_fput_self _ _ _ _ (by decide)]
  rfl

theorem fget_CTX_cmdResult (s : State) (w : Word) (res : Nat) :
    fget (cmdResult s (bget w 0 18) res) F.SCH_CMD_STAT_CTX 0 = bget w 0 18 := by
  rw [cmdResult, fget_fput_self _ _ _ _ (by decide)]
  exact Nat.mod_eq_of_lt (bget_lt w 0 18)

/-- The head of a queue, a context command with the OP, leaves the queue and is applied. -/
theorem applyHead_of_cmd {s : State} {h op : Nat} {w : Word} {r : List StepReq} (head : schQueue s h = .cmd w :: r)
    (may : forming s h = true) (is : bget w 60 4 = op) : applyHead s h op = applyCmd (setQueue s h r) w := by
  rw [applyHead, head]
  exact if_pos ⟨is, may⟩

/-- PREEMPT holds a context. -/
def preemptHold (d : Desc) : Desc := ds (ds d D.HELD 1) D.HOLD_REASON 4

theorem dg_STATE_ds_HELD (d : Desc) (v : Nat) : dg (ds d D.HELD v) D.STATE = dg d D.STATE := dg_ds_ne _ _ _ _ (by decide) (by decide)

theorem dg_STATE_preemptHold (d : Desc) : dg (preemptHold d) D.STATE = dg d D.STATE :=
  (dg_ds_ne _ _ _ _ (by decide) (by decide)).trans (dg_STATE_ds_HELD d 1)

theorem named_of {s : State} {c inc : Nat} (live : dg (cx s c).d D.STATE ≠ stFREE) (same : dg (cx s c).d D.INCARNATION = inc) :
    named s c inc = true := by
  rw [named, cstate, bne_iff_ne.2 live, same, BEq.rfl]
  rfl

section
variable {s : State} {w : Word} {c : Nat} (ctx : bget w 0 18 = c) (live : named s c (bget w 44 16) = true)
  (good : ∀ k ∈ s.descBad, k / 32 ≠ c)
include ctx live good

theorem applyCmd_preempt_idle (op : bget w 60 4 = 1) (idle : cstate s c = stREADY ∨ cstate s c = stPREFILL ∨ cstate s c = stREBUILD) :
    applyCmd s w = cmdResult (preemptNow (dmod s c preemptHold) c) c 0 := by
  simp only [applyCmd, op, ctx, live, descRead_of_good (descBad_any_eq_false good)]
  rw [if_neg (by decide), if_neg (by decide), if_neg, if_pos idle]
  · rfl
  · rcases idle with st | st | st <;> rw [st] <;> decide

theorem applyCmd_preempt_decode (op : bget w 60 4 = 1) (decode : cstate s c = stDECODE) :
    applyCmd s w = cmdResult (cxUpd (dmod s c preemptHold) c fun x => { x with preempt := true }) c 0 := by
  simp only [applyCmd, op, ctx, live, descRead_of_good (descBad_any_eq_false good), decode]
  rfl

theorem applyCmd_resume (op : bget w 60 4 = 2) (preempted : cstate s c = stPREEMPTED) :
    applyCmd s w = cmdResult (resumeNow (dmod s c fun d => ds d D.HELD 0) c) c 0 := by
  simp only [applyCmd, op, ctx, live, descRead_of_good (descBad_any_eq_false good), preempted]
  rfl

theorem applyCmd_swapOut (op : bget w 60 4 = 3) (preempted : cstate s c = stPREEMPTED) (still : (cx s c).swap = 0) :
    applyCmd s w =
      cmdResult (if mayOut s c = true then swapOutStart s c else cxUpd s c fun x => { x with swapAsk := true }) c 0 := by
  simp only [applyCmd, op, ctx, live, descRead_of_good (descBad_any_eq_false good), preempted, still]
  rw [apply_ite (fun t => cmdResult t c 0)]
  rfl

theorem applyCmd_swapIn (op : bget w 60 4 = 4) (swapped : cstate s c = stSWAPPED) (still : (cx s c).swap = 0)
    (room : swapInNeeds s c ≤ halfFree s (ctxHalf c)) : applyCmd s w =
      cmdResult (if swapRoom s (ctxHalf c) = true then swapInStart s c else cxUpd s c fun x => { x with swapAsk := true }) c 0 := by
  simp only [applyCmd, op, ctx, live, descRead_of_good (descBad_any_eq_false good), swapped, still, Nat.not_lt.2 room]
  rw [apply_ite (fun t => cmdResult t c 0)]
  rfl

theorem applyCmd_release (op : bget w 60 4 = 5) (before : cstate s c ≠ stDRAINING ∧ cstate s c ≠ stCLOSED) :
    applyCmd s w = cmdResult (dmod s c fun d => ds d D.HELD 0) c 0 := by
  simp only [applyCmd, op, ctx, live, descRead_of_good (descBad_any_eq_false good), beq_eq_false_iff_ne.2 before.1,
    beq_eq_false_iff_ne.2 before.2]
  rfl

end

/-- Starting a swap, or marking it, leaves the scheduler's own state alone. -/
theorem ite_cxUpd_sch {s t : State} (e : t.sch = s.sch) (b : Bool) (c : Nat) (f : Ctx → Ctx) :
    (if b = true then t else cxUpd s c f).sch = s.sch := by
  cases b
  · rfl
  · exact e

/-- Settles O37: the command leaves the queue (`applyHead_of_cmd`) and is applied to a live context, one lemma for each OP; what it
changes but the context's state and SCH_CMD_STAT is not the scheduler's own. -/
theorem contextCommandsApply : Obligations.ContextCommandsApply := by
  intro s h w r head may c x st v done good notFree incarnation
  have live : named v c (bget w 44 16) = true := named_of notFree incarnation
  have queue {u : State} (e : u.sch = v.sch) : schQueue u h = r := (schQueue_congr e h).trans (schQueue_setQueue_self ..)
  have shown {t : State} (e : t.sch = v.sch) : done t (cmdResult t c 0) :=
    ⟨cx_cmdResult .., fun k _ => cx_cmdResult .., queue ((cmdResult_sch ..).trans e), fget_RESULT_cmdResult .., fget_CTX_cmdResult ..⟩
  have run {op : Nat} {t : State} (is : bget w 60 4 = op) (applied : applyCmd v w = cmdResult t c 0) :
      applyHead s h op = cmdResult t c 0 := (applyHead_of_cmd head may is).trans applied
  refine ⟨fun op => ⟨fun idle => ?preempt, fun decode => ?mark⟩, fun op preempted => ?resume, fun op preempted still => ?swapOut,
    fun op swapped still room => ?swapIn, fun op undrained unclosed => ?release⟩
  case preempt =>
    have moved : (preemptNow (dmod v c preemptHold) c).sch = v.sch := cxChange_sch.trans cxChange_sch
    obtain ⟨same, others, left, result, -⟩ := shown moved
    refine ⟨_, congrArg Host.Outcome.next (run op (applyCmd_preempt_idle rfl live good op idle)), ?_, left, result, fun k other => ?_⟩
    · rw [same, preemptNow, cx_cxChange_d, cx_dmod_self, dg_STATE_preemptHold]
      rfl
    · rw [others k other, preemptNow, cx_cxChange_ne _ _ _ other, cx_dmod_ne _ _ other, cx_setQueue]
  case mark =>
    refine ⟨_, congrArg Host.Outcome.next (run op (applyCmd_preempt_decode rfl live good op decode)), ?_, ?_, fun k other => ?_⟩
    · rw [cx_cmdResult, cxUpd, cx_cxPut_self]
      exact cx_dmod_self ..
    · rw [cx_cmdResult, cxUpd, cx_cxPut_self]
    · rw [cx_cmdResult, cxUpd, cx_cxPut_ne _ _ other, cx_dmod_ne _ _ other, cx_setQueue]
  case resume =>
    have moved : (resumeNow (dmod v c fun d => ds d D.HELD 0) c).sch = v.sch := cxChange_sch.trans cxChange_sch
    obtain ⟨same, others, left, -⟩ := shown moved
    refine ⟨_, congrArg Host.Outcome.next (run op (applyCmd_resume rfl live good op preempted)), ?_, ?_, left, fun k other => ?_⟩
    · rw [same, resumeNow, cx_cxChange_d, cx_dmod_self]
      rfl
    · rw [same, resumeNow]
      exact cx_cxChange_of Ctx.swap (fun _ _ => rfl) ..
    · rw [others k other, resumeNow, cx_cxChange_ne _ _ _ other, cx_dmod_ne _ _ other, cx_setQueue]
  case swapOut =>
    exact ⟨_, congrArg Host.Outcome.next (run op (applyCmd_swapOut rfl live good op preempted still)),
      shown (ite_cxUpd_sch swapOutStart_sch ..)⟩
  case swapIn =>
    exact ⟨_, congrArg Host.Outcome.next (run op (applyCmd_swapIn rfl live good op swapped still room)),
      shown (ite_cxUpd_sch swapInStart_sch ..)⟩
  case release =>
    obtain ⟨same, others, left, -⟩ := shown (t := dmod v c fun d => ds d D.HELD 0) cxChange_sch
    refine ⟨_, congrArg Host.Outcome.next (run op (applyCmd_release rfl live good op ⟨undrained, unclosed⟩)), ?_, left, fun k other => ?_⟩
    · rw [same, cx_dmod_self]
      rfl
    · rw [others k other, cx_dmod_ne _ _ other, cx_setQueue]

end Sys2Proof.Machine
end

section
/-!
The statements of 08_memory_tiers.md: the canonical form of the memories, tier commands (R350-R352), and the end of a frame move
(R346-R349).
-/

namespace Sys2Proof.Machine

/-! ### The canonical form -/

/-- The queue has no part in the canonical forms, so the rest of the queue starts from the same memories. -/
theorem step_canon {s u : State} (h : s.Canon) (e : step s = .next u) : u.Canon := by
  obtain ⟨_, k⟩ := step_keeps e
  obtain ⟨mem, syn, regs, hostMem⟩ := h
  exact k.canon ⟨mem, syn, regs, hostMem⟩

/-- Settles O6: every operation of the device keeps the canonical forms (`step_keeps`). -/
theorem memoriesStayCanonical : Obligations.MemoriesStayCanonical := fun _ _ h e => step_canon h e

/-! ### The end of a tier command (R350) -/

theorem irq_tie (s : State) (f v : Nat) : (irq s f v).tie = s.tie := by
  unfold irq
  split <;> rfl

theorem irq_mem (s : State) (f v : Nat) : (irq s f v).mem = s.mem := by
  unfold irq
  split <;> rfl

theorem fget_irq (s : State) (f v : Nat) (g : Fld) (i : Nat) : fget (irq s f v) g i = fget s g i := by
  unfold irq
  split <;> rfl

theorem fsetIf_tie (s : State) (b : Bool) (f : Fld) (i : Nat) : (fsetIf s b f i).tie = s.tie := by
  cases b <;> rfl

theorem fsetIf_mem (s : State) (b : Bool) (f : Fld) (i : Nat) : (fsetIf s b f i).mem = s.mem := by
  cases b <;> rfl

theorem fget_fsetIf_reg (s : State) (b : Bool) {f g : Fld} (i j : Nat) (h : f.reg ≠ g.reg) :
    fget (fsetIf s b f i) g j = fget s g j := by
  cases b
  · rfl
  · exact fget_fput_reg _ _ (.inl h)

theorem tieEnd_tie (s : State) (res id : Nat) : (tieEnd s res id).tie = { s.tie with run := none, left := false, xfer := [] } := by
  rw [tieEnd, irq_tie, finc, fput_tie, fput_tie, fput_tie, fsetIf_tie]

theorem tieEnd_mem (s : State) (res id : Nat) : (tieEnd s res id).mem = s.mem := by
  rw [tieEnd, irq_mem, finc, fput_mem, fput_mem, fput_mem, fsetIf_mem]

/-- RESULT of a command that ends: neither ID nor SEQ shares a bit with it. -/
theorem fget_RESULT_tieEnd (s : State) (res id : Nat) : fget (tieEnd s res id) F.TIE_CMD_STAT_RESULT 0 = res % 16 := by
  rw [tieEnd, fget_irq, finc, fget_fput_field (f := F.TIE_CMD_STAT_SEQ) (g := F.TIE_CMD_STAT_RESULT) _ _ rfl (by decide) (by decide),
    fget_fput_field (f := F.TIE_CMD_STAT_ID) (g := F.TIE_CMD_STAT_RESULT) _ _ rfl (by decide) (by decide),
    fget_fput_self _ _ _ _ (by decide)]
  rfl

theorem fget_ID_tieEnd (s : State) (res id : Nat) : fget (tieEnd s res id) F.TIE_CMD_STAT_ID 0 = id % 2 ^ 18 := by
  rw [tieEnd, fget_irq, finc, fget_fput_field (f := F.TIE_CMD_STAT_SEQ) (g := F.TIE_CMD_STAT_ID) _ _ rfl (by decide) (by decide),
    fget_fput_self _ _ _ _ (by decide)]
  rfl

theorem fget_SEQ_tieEnd (s : State) (res id : Nat) :
    fget (tieEnd s res id) F.TIE_CMD_STAT_SEQ 0 = (fget s F.TIE_CMD_STAT_SEQ 0 + 1) % 256 := by
  have other : F.TIE_ERR_NO_ROOM.reg ≠ F.TIE_CMD_STAT_SEQ.reg := nofun
  rw [tieEnd, fget_irq, finc, fget_fput_self _ _ _ _ (by decide),
    fget_fput_field (f := F.TIE_CMD_STAT_ID) (g := F.TIE_CMD_STAT_SEQ) _ _ rfl (by decide) (by decide),
    fget_fput_field (f := F.TIE_CMD_STAT_RESULT) (g := F.TIE_CMD_STAT_SEQ) _ _ rfl (by decide) (by decide),
    fget_fsetIf_reg _ _ _ _ other]
  exact Nat.mod_mod _ _

theorem tieReserved_of_empty {s : State} (empty : s.tie.queue = []) (n : Nat) : tieReserved s n = s := by
  cases n with
  | zero => rfl
  | succ n => rw [tieReserved, empty, ite_self]

/-- With no other command queued, a command that ends is all that happens. -/
theorem tieDone_of_empty {s : State} (empty : s.tie.queue = []) (res id : Nat) : tieDone s res id = tieEnd s res id :=
  tieReserved_of_empty ((congrArg Tie.queue (tieEnd_tie ..)).trans empty) 16

/-! ### The head of the queue (R350) -/

theorem tieHead_of_queued {s : State} {c : TieCmd} {r : List TieCmd} {op : Nat} (idle : s.tie.run = none) (queue : s.tie.queue = c :: r)
    (is : bget c.cmd1 60 4 = op) : tieHead s op = some (c, { s with tie := { s.tie with queue := r } }) := by
  rw [tieHead, idle, queue]
  exact if_pos is

theorem placeBad_eq_false {c : TieCmd} (place : tcTier c = 0 → tcPlace c ≤ 10) : placeBad c = false := by
  simpa [placeBad] using place

theorem noObject_eq_false {s : State} {c : TieCmd} (inTable : tcId c < fget s F.TIE_OBJ_BASE_COUNT 0) : noObject s c = false :=
  decide_eq_false (Nat.not_le.2 inTable)

section
variable {s w : State} {c : TieCmd}

theorem exec_alloc_of_fits (head : tieHead s 1 = some (c, w)) (inTable : tcId c < fget w F.TIE_OBJ_BASE_COUNT 0)
    (tier : tcTier c ≠ 3) (place : tcTier c = 0 → tcPlace c ≤ 10) (frames : tcFrames c ≠ 0) (bit3 : bits (tcArg c) 3 1 = 0)
    (bits6 : bits (tcArg c) 6 2 = 0) (bits14 : bits (tcArg c) 14 18 = 0) (demote : bits (tcArg c) 1 1 = 0 ↔ bits (tcArg c) 4 2 = 0)
    (good : objCheck w (tcId c) = w) (free : oState (obj w (tcId c)) = 0) {l : Nat} {s1 s2 : State}
    (list : takePt w 0 (8 * tcFrames c) = some (l, s1)) (room : allocFrames s1 (tcTier c) (tcPlace c) l (tcFrames c) 0 = some s2) :
    exec .alloc s = .next (tieDone (setObj s2 (tcId c) (1 + bits (tcArg c) 0 3 * 2 ^ 8 + bits (tcArg c) 4 2 * 2 ^ 16 +
      bits (tcArg c) 8 6 * 2 ^ 24 + tcFrames c * 2 ^ 32 + l * 2 ^ 64 + timeMs s2 * 2 ^ 128)) 0 (tcId c)) := by
  change execAlloc s = _
  rw [execAlloc, head]
  dsimp only
  rw [if_neg (by simp [tier, placeBad_eq_false place, frames, bit3, bits6, bits14, demote]), noObject_eq_false inTable,
    if_neg Bool.false_ne_true, good, if_neg (not_not_intro free), list]
  dsimp only
  rw [room]

theorem exec_freeObj_of_unpinned (head : tieHead s 2 = some (c, w)) (arg : tcArg c = 0) (inTable : tcId c < fget w F.TIE_OBJ_BASE_COUNT 0)
    (used : oState (obj w (tcId c)) ≠ 0) (unpinned : objPinned w (tcId c) = false) :
    exec .freeObj s = .next (tieDone (setObj (dropPt (objRelease (dropMoves w (tcId c)) (tcId c)) 0
      (oList (obj (dropMoves w (tcId c)) (tcId c)))) (tcId c) 0) 0 (tcId c)) := by
  change execFreeObj s = _
  rw [execFreeObj, head]
  dsimp only
  rw [if_neg (not_not_intro arg), if_neg (by simp [noObject_eq_false inTable, used]), unpinned,
    if_neg Bool.false_ne_true]

/-! ### MOVE (R346-R350) -/

/-- The state in which a MOVE has the object MOVING and runs. -/
def moveBegun (w : State) (c : TieCmd) : State := { objState w (tcId c) 2 with tie := { w.tie with run := some c } }

theorem exec_moveObj_of_live (head : tieHead s 3 = some (c, w)) (arg : tcArg c = 0) (tier : tcTier c ≠ 3)
    (place : tcTier c = 0 → tcPlace c ≤ 10) (inTable : tcId c < fget w F.TIE_OBJ_BASE_COUNT 0) (good : objCheck w (tcId c) = w)
    (live : oState (obj w (tcId c)) = 1) (unpinned : objPinned w (tcId c) = false) :
    exec .moveObj s = .next (moveGo (moveBegun w c) c) := by
  change execMoveObj s = _
  rw [execMoveObj, head]
  dsimp only
  rw [if_neg (by simp [arg, tier, placeBad_eq_false place]), noObject_eq_false inTable, if_neg Bool.false_ne_true, good, live, unpinned,
    if_neg (by decide), if_neg Bool.false_ne_true, if_neg (by decide), if_neg (by decide)]
  rfl

end

section
variable {v : State} {c : TieCmd} (unpinned : objPinned v (tcId c) = false) {q : State × Bool}
  (starts : objStarts v (tcId c) (tcTier c) (tcPlace c) 0 256 = q)
include unpinned starts

/-- A MOVE that has no move under way, after it has started what may start, ends. -/
theorem moveGo_of_still (still : movesOf q.1 (tcId c) = []) :
    moveGo v c = tieDone (objUsed (objState v (tcId c) 1) (tcId c)) (if q.2 = true then 3 else 0) (tcId c) := by
  rw [moveGo, unpinned, if_neg Bool.false_ne_true, objNext, starts, still]
  rfl

theorem moveGo_of_moving (moving : movesOf q.1 (tcId c) ≠ []) : moveGo v c = q.1 := by
  have underWay : (movesOf q.1 (tcId c)).isEmpty = false := List.isEmpty_eq_false_iff.2 moving
  rw [moveGo, unpinned, if_neg Bool.false_ne_true, objNext, starts]
  simp only [underWay]
  rfl

end

theorem objStarts_of_none {v : State} {o tier place : Nat} (nothingLeft : nextOut v o tier place = none) (why n : Nat) :
    objStarts v o tier place why n = (v, false) := by
  cases n with
  | zero => rfl
  | succ n => rw [objStarts, nothingLeft]

theorem objStarts_of_next {v : State} {o tier place i k : Nat} (next : nextOut v o tier place = some i)
    (pick : objPick v tier place = some k) (fewer : (movesOf v o).length < readAhead v (pKey (objEnt v o i))) (why n : Nat) :
    objStarts v o tier place why (n + 1) = objStarts (moveStart (setUse (bump v) k 2)
      { kind := 0, owner := o, idx := i, pte := place, old := pKey (objEnt v o i), new := k, why := why }) o tier place why n := by
  rw [objStarts, next]
  dsimp only
  rw [if_neg (Nat.not_le.2 fewer), pick]

/-! ### GATHER and TRANSFER (R227, R350-R352) -/

/-- The state in which a GATHER runs. -/
def gatherBegun (w : State) (c : TieCmd) : State := { w with tie := { w.tie with run := some c, left := false } }

theorem exec_gather_of_named {s w : State} {c : TieCmd} (head : tieHead s 4 = some (c, w)) (arg : tcArg c = 0)
    (names : named w (tcId c) (tcInc c) = true) (preempted : cstate w (tcId c) = stPREEMPTED) :
    exec .gather s = .next (gatherGo (gatherBegun w c) c) := by
  change execGather s = _
  rw [execGather, head]
  dsimp only
  rw [if_neg (not_not_intro arg), names, preempted]
  rfl

theorem gatherGo_of_none {v : State} {c : TieCmd} (stays : v.tie.left = false) (names : named v (tcId c) (tcInc c) = true)
    (preempted : cstate v (tcId c) = stPREEMPTED) (nothingLeft : gatherNext v (tcId c) = none) : gatherGo v c = tieDone v 0 (tcId c) := by
  rw [gatherGo]
  dsimp only
  rw [if_neg (by simp [stays, names, preempted]), nothingLeft]

/-- A TRANSFER whose writes have all ended, none of them badly, and that has no page left to send, ends. -/
theorem exec_transfer_of_sent {s : State} {c : TieCmd} (run : s.tie.run = some c) (op : bget c.cmd1 60 4 = 5) (stays : s.tie.left = false)
    (sent : s.tie.xfer = []) (quiet : s.fab.ops.any (fun e => e.2.owner == 2 && e.2.arg == tcId c) = false)
    (well : s.fab.ended.any (fun e => e.1 == 2 && e.2.1 == tcId c && e.2.2 != 0) = false)
    (names : named s (tcId c) (tcInc c) = true) (preempted : cstate s (tcId c) = stPREEMPTED) :
    exec .transfer s = .next (transferEnd
      { s with fab := { s.fab with ended := s.fab.ended.filter (fun e => !(e.1 == 2 && e.2.1 == tcId c)) } } c) := by
  have noBad : (s.fab.ended.filter (fun e => e.1 == 2 && e.2.1 == tcId c)).find? (fun e => e.2.2 != 0) = none := by
    refine List.find?_eq_none.2 fun e member => ?_
    obtain ⟨listed, mine⟩ := List.mem_filter.1 member
    have ended := List.any_eq_false.1 well e listed
    rwa [mine, Bool.true_and] at ended
  change execTransfer s = _
  rw [execTransfer, run]
  dsimp only
  rw [if_pos op, transferGo]
  dsimp only
  rw [quiet, if_neg Bool.false_ne_true, if_neg, noBad]
  · dsimp only
    rw [sent]
  · change ¬ (s.tie.left || !named s (tcId c) (tcInc c) || cstate s (tcId c) != stPREEMPTED) = true
    simp [stays, names, preempted]

/-! ### The end of a frame move (R346, R348) -/

/-- The state in which a move is no longer under way. -/
def moveTaken (s : State) (k : Nat) : State := { s with tie := { s.tie with moves := nerase s.tie.moves k } }

/-- The entry that names the frame a move copies: in a page table, or in an object's list. -/
def movedEntry (v : State) (m : FrameMove) : Word :=
  if m.kind = 1 then ptGet v (cx v m.owner).d m.idx else objEnt v m.owner m.idx

/-- A good copy becomes the home that the entry names, and what asked for the move goes on. -/
theorem frameMoveDone_of_copied {s : State} {k : Nat} {m : FrameMove} (found : nfind s.tie.moves k = some m) (done : unitsDone s m = true)
    (good : frameBad s m.old = none) (kept : givenUp (moveTaken s k) m = false)
    (moving : ¬ (m.kind = 0 ∧ oState (obj (moveTaken s k) m.owner) ≠ 2)) {e : Word} (ent : movedEntry (moveTaken s k) m = e)
    (valid : pV e = true) (names : pKey e = m.old) : let v := copyFrame (moveTaken s k) m.old m.new
    frameMoveDone s k = if m.kind = 1 then
        moveAfter (fwdSet (releaseOld (ptPut (dropOldSide v m e) m.owner m.idx (entAt e m.new m.pte)) m.old) m.old m.new) m false
      else moveAfter (fwdSet (giveFrame (memPut v (oList (obj v m.owner) + 8 * m.idx) 8 (entAt e m.new 0).toNat) m.old) m.old m.new) m
        false := by
  intro v
  unfold frameMoveDone
  split
  next lost => exact absurd (lost.symm.trans found) nofun
  next m' found' =>
  obtain rfl : m = m' := Option.some.inj (found.symm.trans found')
  extract_lets shut tie taken d entry copied dropped put
  have same : entry = e := ent
  have notUp : givenUp taken m = false := kept
  have stillGood : frameBad taken m.old = none := good
  rw [if_neg (by simp [done]), if_neg (by exact moving), if_neg (by simp [same, valid, names, notUp]), if_neg (by simp [shut, done]),
    stillGood, ← same]
  rfl

/-! ### The statement -/

/-- Settles O39: TIE_CMD_STAT shows the command that ended (`tieEnd`), each command at the head of the queue passes its checks and takes
one branch, and the end of a copy is `frameMoveDone_of_copied`. -/
theorem tierCommandsComplete : Obligations.TierCommandsComplete := by
  intro s c r id w op
  refine ⟨fun res empty => ?result, fun idle queue => ⟨?alloc, ?free, ?move, ?gather⟩, ?transfer, ?copied⟩
  case result =>
    have id_lt : id < 2 ^ 18 := bget_lt ..
    intro u
    rw [show u = tieEnd s res id from tieDone_of_empty empty res id]
    exact ⟨fget_RESULT_tieEnd .., (fget_ID_tieEnd ..).trans (Nat.mod_eq_of_lt id_lt), fget_SEQ_tieEnd .., tieEnd_tie .., tieEnd_mem ..⟩
  case alloc =>
    intro op inTable tier place frames bit3 bits6 bits14 demote good free l s1 s2 list room
    exact exec_alloc_of_fits (tieHead_of_queued idle queue op) inTable tier place frames bit3 bits6 bits14 demote good free list room
  case free =>
    intro op arg inTable used unpinned
    exact exec_freeObj_of_unpinned (tieHead_of_queued idle queue op) arg inTable used unpinned
  case move =>
    intro op arg tier place inTable good live unpinned v q still
    have runs := exec_moveObj_of_live (tieHead_of_queued idle queue op) arg tier place inTable good live unpinned
    refine ⟨fun nothing => ?_, fun moves => ?_, fun nothingLeft => objStarts_of_none nothingLeft 0 256,
      fun i k next pick fewer => objStarts_of_next next pick fewer 0 255⟩
    · exact next_of runs (moveGo_of_still still rfl nothing)
    · exact next_of runs (moveGo_of_moving still rfl moves)
  case gather =>
    intro op arg names preempted v nothingLeft
    exact next_of (exec_gather_of_named (tieHead_of_queued idle queue op) arg names preempted)
      (gatherGo_of_none (v := gatherBegun w c) rfl names preempted nothingLeft)
  case transfer =>
    intro run op stays sent quiet well v names preempted
    exact exec_transfer_of_sent run op stays sent quiet well names preempted
  case copied =>
    intro k m found done good v a e kept
    have of_copied := frameMoveDone_of_copied found done good kept
    refine ⟨fun kind moving valid names => ?_, fun kind valid names => ?_⟩
    · have list : m.kind ≠ 1 := by rw [kind]; decide
      exact congrArg Host.Outcome.next ((of_copied (fun h => h.2 moving) (if_neg list) valid names).trans (if_neg list))
    · have table : m.kind ≠ 0 := by rw [kind]; decide
      exact congrArg Host.Outcome.next ((of_copied (fun h => table h.1) (if_pos kind) valid names).trans (if_pos kind))

end Sys2Proof.Machine
end

section
/-!
Reclaim (R353-R357) and weight windows (R358-R366) of 08_memory_tiers.md.
-/

namespace Sys2Proof.Machine

/-! ### Candidates (R354, R355) -/

/-- The older of the oldest candidate so far and the next one. -/
def elder (b : Option Candidate) (x : Candidate) : Option Candidate :=
  match b with
  | none => some x
  | some y => if y.age < x.age ∨ (y.age = x.age ∧ (x.rank < y.rank ∨ (x.rank = y.rank ∧ x.id < y.id))) then some x else some y

theorem oldest_eq_foldl (l : List Candidate) : oldest l = l.foldl elder none := rfl

/-- The older of two candidates is one of them, and neither is older than it. -/
theorem elder_some (y x : Candidate) :
    ∃ z, elder (some y) x = some z ∧ (z = y ∨ z = x) ∧ y.age ≤ z.age ∧ x.age ≤ z.age := by
  by_cases older : y.age < x.age ∨ (y.age = x.age ∧ (x.rank < y.rank ∨ (x.rank = y.rank ∧ x.id < y.id)))
  · exact ⟨x, if_pos older, .inr rfl, by omega, Nat.le_refl _⟩
  · exact ⟨y, if_neg older, .inl rfl, Nat.le_refl _, by omega⟩

/-- The oldest of a list and a candidate before it is one of them, and none of them is older. -/
theorem foldl_elder_some (l : List Candidate) (b : Candidate) :
    ∃ z, l.foldl elder (some b) = some z ∧ z ∈ b :: l ∧ ∀ y ∈ b :: l, y.age ≤ z.age := by
  induction l generalizing b with
  | nil => exact ⟨b, rfl, List.mem_cons_self, by simp⟩
  | cons x l ih =>
    obtain ⟨a, next, oneOfTwo, b_le, x_le⟩ := elder_some b x
    obtain ⟨z, is, member, older⟩ := ih a
    have a_le := older a List.mem_cons_self
    refine ⟨z, by rw [List.foldl_cons, next, is], ?_, fun y listed => ?_⟩
    · rcases List.mem_cons.1 member with rfl | inTail
      · rcases oneOfTwo with rfl | rfl <;> simp
      · simp [inTail]
    · rcases List.mem_cons.1 listed with rfl | inTail
      · exact Nat.le_trans b_le a_le
      · rcases List.mem_cons.1 inTail with rfl | later
        · exact Nat.le_trans x_le a_le
        · exact older y (List.mem_cons_of_mem _ later)

/-- Of a list that is not empty the oldest is one, and no candidate is older. -/
theorem oldest_of_mem {l : List Candidate} {y : Candidate} (h : y ∈ l) : ∃ z ∈ l, oldest l = some z ∧ y.age ≤ z.age := by
  cases l with
  | nil => exact absurd h List.not_mem_nil
  | cons x l =>
    obtain ⟨z, is, member, older⟩ := foldl_elder_some l x
    exact ⟨z, member, (oldest_eq_foldl _).trans is, older y h⟩

/-- A candidate that is a context of some half in a state. -/
theorem mem_ctxCandidates {s : State} {h st : Nat} {x : Candidate} (member : x ∈ ctxCandidates s h st) :
    x.rank = 0 ∧ x.id ∈ ctxsOf s h ∧ cstate s x.id = st := by
  obtain ⟨c, listed, rfl⟩ := List.mem_map.1 member
  obtain ⟨half, state⟩ := List.mem_filter.1 listed
  exact ⟨rfl, half, eq_of_beq state⟩

/-- A candidate that is an object is LIVE and evictable, and not pinned. -/
theorem mem_objCandidates {s : State} {f : Nat → Bool} {x : Candidate} (member : x ∈ objCandidates s f) :
    x.rank = 1 ∧ oState (obj s x.id) = 1 ∧ oEvictable (obj s x.id) = true ∧ objPinned s x.id = false := by
  obtain ⟨o, listed, rfl⟩ := List.mem_map.1 member
  have test := (List.mem_filter.1 listed).2
  simp only [Bool.and_eq_true, beq_iff_eq, Bool.not_eq_true'] at test
  obtain ⟨⟨⟨live, evictable⟩, unpinned⟩, -⟩ := test
  exact ⟨rfl, live, evictable, unpinned⟩

/-! ### Reclaim (R354-R356) -/

theorem reclaim_of_enough {s : State} {h : Nat}
    (enough : reclaims s h (halfFree s h) (fget s F.TIE_POOL_MARK_LOW 0) (fget s F.TIE_POOL_MARK_HIGH 0) = false) :
    reclaim s h = setReclaiming s h false := by
  rw [reclaim]
  dsimp only
  rw [enough]
  rfl

/-- While a half's pool wants frames, a node of its pool without children is a candidate, so reclaim takes one that is as old. -/
theorem reclaim_of_node {s : State} {h i : Nat}
    (wants : reclaims s h (halfFree s h) (fget s F.TIE_POOL_MARK_LOW 0) (fget s F.TIE_POOL_MARK_HIGH 0) = true)
    (listed : i ∈ (poolOf s h).nodes) (leaf : nChildren (node s i) = 0) :
    ∃ x : Candidate, reclaim s h = setReclaiming (reclaimOne s x 0) h true ∧ (useNow s + 2 ^ 32 - nLastUse (node s i)) % 2 ^ 32 ≤ x.age ∧
      ((x.rank = 0 ∧ x.id ∈ ctxsOf s h ∧ cstate s x.id = stPREEMPTED) ∨
        (x.rank = 1 ∧ oState (obj s x.id) = 1 ∧ oEvictable (obj s x.id) = true ∧ objPinned s x.id = false) ∨
        (x.rank = 2 ∧ x.id ∈ (poolOf s h).nodes ∧ nChildren (node s x.id) = 0)) := by
  unfold reclaim
  extract_lets free nodes room objs tier ctxs
  rw [if_neg (by rw [wants]; decide)]
  have candidate : { age := (useNow s + 2 ^ 32 - nLastUse (node s i)) % 2 ^ 32, rank := 2, id := i } ∈ nodes :=
    List.mem_map.2 ⟨i, List.mem_filter.2 ⟨listed, beq_iff_eq.2 leaf⟩, rfl⟩
  obtain ⟨x, member, is, older⟩ := oldest_of_mem (List.mem_append_right (ctxs ++ objs) candidate)
  refine ⟨x, by rw [is], older, ?_⟩
  rcases List.mem_append.1 member with member | isNode
  · rcases List.mem_append.1 member with isCtx | isObj
    · left
      refine mem_ctxCandidates (h := h) (st := stPREEMPTED) ?_
      simp only [ctxs] at isCtx
      split at isCtx
      · exact isCtx
      · exact absurd isCtx List.not_mem_nil
    · exact .inr (.inl (mem_objCandidates (List.mem_filter.1 isObj).1))
  · obtain ⟨j, isLeaf, rfl⟩ := List.mem_map.1 isNode
    obtain ⟨inHalf, childless⟩ := List.mem_filter.1 isLeaf
    exact .inr (.inr ⟨rfl, inHalf, eq_of_beq childless⟩)

/-- While a slow tier wants frames, a SWAPPED context with a page there is a candidate, so reclaim takes one that is as old. -/
theorem slowReclaim_of_ctx {s : State} {t c : Nat}
    (wants : reclaims s (t + 1) (slowFree s t) (slowMark s t) (slowMark s t + 1024) = true) (listed : c ∈ ctxsOf s 0)
    (swapped : cstate s c = stSWAPPED) (page : (slowPages s c).any (fun v => pTier (ptGet s (cx s c).d v) == t) = true) :
    ∃ x : Candidate, slowReclaim s t = setReclaiming (reclaimOne s x t) (t + 1) true ∧ timeMs s - (cx s c).entered / 1000000 ≤ x.age ∧
      ((x.rank = 0 ∧ cstate s x.id = stSWAPPED) ∨
        (x.rank = 1 ∧ oState (obj s x.id) = 1 ∧ oEvictable (obj s x.id) = true ∧ objPinned s x.id = false)) := by
  unfold slowReclaim
  extract_lets free mark ctxs
  rw [if_neg (by rw [wants]; decide)]
  have candidate : { age := timeMs s - (cx s c).entered / 1000000, rank := 0, id := c } ∈ ctxs :=
    List.mem_filter.2 ⟨List.mem_append_left _ (List.mem_map.2 ⟨c, List.mem_filter.2 ⟨listed, beq_iff_eq.2 swapped⟩, rfl⟩), page⟩
  obtain ⟨x, member, is, older⟩ := oldest_of_mem (List.mem_append_left (objCandidates s fun k => k / 2 ^ 32 == t) candidate)
  refine ⟨x, by rw [is], older, ?_⟩
  rcases List.mem_append.1 member with isCtx | isObj
  · have isSwapped {h : Nat} (half : x ∈ ctxCandidates s h stSWAPPED) : x.rank = 0 ∧ cstate s x.id = stSWAPPED :=
      let ⟨rank, _, state⟩ := mem_ctxCandidates half
      ⟨rank, state⟩
    exact .inl ((List.mem_append.1 (List.mem_filter.1 isCtx).1).elim isSwapped isSwapped)
  · exact .inr (mem_objCandidates isObj)

/-! ### Weight windows (R358-R361) -/

theorem exec_tieWinCtl_ready {s : State} (reach : hostReach s = true) (ready : fget s F.GLB_STAT_PHASE 0 = 12) (w : Fin 8) (val : Word) :
    exec (.tieWinCtl w val) s = .next (tieWinCtl s w val) := by
  change execTieWinCtl w val s = _
  rw [execTieWinCtl, regGate, hostGate_open reach (.inl ready)]

/-- A write that sets EN of a window that is not enabled. -/
theorem tieWinCtl_of_enable {s : State} {w : Nat} {val : Word} (off : winEn s w = false) (enable : bbit val 63 = true) :
    tieWinCtl s w val = if windowFits s w val = true then windowNext (windowOn s w val) w else fset s F.TIE_ERR_WIN_CFG 0 := by
  rw [tieWinCtl]
  dsimp only
  rw [off, enable, if_neg Bool.false_ne_true, if_neg (by decide)]

/-- A window enabled while its partition has no step in progress begins with the next step. -/
theorem windowOn_of_idle {s : State} {w : Nat} {val : Word}
    (idle : (part s (fget (rput s .TIE_WIN_CTL w val) F.TIE_WIN_CTL_PARTITION w)).step = none) :
    let v := rput s .TIE_WIN_CTL w val
    let u := (winFrames v w).foldl (fun s k => setUse s k 3) v
    windowOn s w val = winPut (fput (fput u F.TIE_WIN_STAT_STATE w 1) F.TIE_WIN_STAT_NEXT w 0) w
      { pass := lastStep u (fget v F.TIE_WIN_CTL_PARTITION w) + 1 } := by
  intro v u
  have sch : u.sch = s.sch := foldl_leaves State.sch (f := fun s k => setUse s k 3) (fun _ _ => rfl) (winFrames v w) v
  have noStep : (part u (fget v F.TIE_WIN_CTL_PARTITION w)).step = none := by rw [part_congr sch]; exact idle
  have pass : (match (part u (fget v F.TIE_WIN_CTL_PARTITION w)).step with
      | some k => k.num
      | none => lastStep u (fget v F.TIE_WIN_CTL_PARTITION w) + 1) = lastStep u (fget v F.TIE_WIN_CTL_PARTITION w) + 1 := by rw [noStep]
  exact congrArg (fun n => winPut (fput (fput u F.TIE_WIN_STAT_STATE w 1) F.TIE_WIN_STAT_NEXT w 0) w { pass := n }) pass

/-- With no read that has ended and no frame to fill again, re-fills do nothing. -/
theorem refillAll_of_nothing {s : State} {w : Nat} (refill : (win s w).refill = []) (ended : s.fab.ended = []) : refillAll s w = s := by
  have same : { s with fab := { s.fab with ended := [] } } = s := by
    rw [← ended]
  simp only [refillAll, ended, List.filter_nil, List.foldl_nil, same, refill, List.map_nil]

/-- The reads outstanding of a fill from an object end well. -/
theorem windowFillDone_of_good {s : State} {w i : Nat} {x : WinSlot} {l : List Nat} (object : fbit s F.TIE_WIN_CTL_SRC_KIND w = false)
    (fills : (win s w).slots.find? (fun e => e.2.st == 1) = some (i, x)) (refill : (win s w).refill = []) (ended : s.fab.ended = [])
    (source : sourceFrames s w x.layer = some l) :
    let n := fillCount s (l.drop x.got)
    let now := (l.drop x.got).take n
    now.any (fun k => flashWaits s (keyAddr k) 65536) = false → now.findSome? (frameBad s) = none →
    let v := (List.range n).foldl (fun s j => copyFrame s (l.getD (x.got + j) 0) (winFrame s w i (x.got + j))) s
    windowFillDone s w = if x.got + n < l.length
      then winPut v w { win v w with slots := nset (win v w).slots i { x with got := x.got + n } } else fillReady v w i x := by
  intro n now still good v
  rw [windowFillDone, refillAll_of_nothing refill ended]
  dsimp only
  rw [fills]
  dsimp only
  rw [object, if_neg Bool.false_ne_true, source]
  dsimp only
  rw [if_neg (by rw [still]; decide), good]

/-- Settles O40: a candidate of the list makes reclaim take one as old (`oldest_of_mem`), an enabling write takes one of two branches, and
a fill whose reads are good copies them. -/
theorem reclaimAndWindows : Obligations.ReclaimAndWindows := by
  intro s h fl w val
  refine ⟨fun enough => ?enough, fun wants i listed leaf => ?half, fun t is wants c listed swapped page => ?slow,
    fun reach ready off enable => ⟨fun misfit => ?misfit, fun fits idle => ?fits⟩, ?fill⟩
  case enough => exact congrArg Host.Outcome.next (reclaim_of_enough enough)
  case half =>
    obtain ⟨x, takes, older, kind⟩ := reclaim_of_node wants listed leaf
    exact ⟨x, congrArg Host.Outcome.next takes, older, kind⟩
  case slow =>
    obtain ⟨x, takes, older, kind⟩ := slowReclaim_of_ctx wants listed swapped page
    subst is
    exact ⟨x, congrArg Host.Outcome.next takes, older, kind⟩
  case misfit =>
    exact next_of (exec_tieWinCtl_ready reach ready w val)
      ((tieWinCtl_of_enable off enable).trans (if_neg (by rw [misfit]; decide)))
  case fits =>
    exact next_of (exec_tieWinCtl_ready reach ready w val)
      (((tieWinCtl_of_enable off enable).trans (if_pos fits)).trans (congrArg (windowNext · w) (windowOn_of_idle idle)))
  case fill =>
    intro i x l object fills refill ended source n now still good v
    exact congrArg Host.Outcome.next (windowFillDone_of_good object fills refill ended source still good)

end Sys2Proof.Machine
end

section
/-!
Row tables: what their operations leave of the row service's own data, and the one branch that each takes for a row whose line
is good (R370-R374, R388, R399).
-/

namespace Sys2Proof.Machine

/-! ### The row service's data -/

theorem irq_rows (s : State) (f v : Nat) : (irq s f v).rows = s.rows := by
  unfold irq
  split <;> rfl

/-- Writes to device memory, one after another, leave the row service's own data alone. -/
theorem foldl_memWrite_rows {α : Type} (a : State → α → Nat) (bs : State → α → List Byte) (l : List α) (s : State) :
    (l.foldl (fun s x => memWrite s (a s x) (bs s x)) s).rows = s.rows :=
  foldl_leaves State.rows (fun _ _ => memWrite_rows) l s

/-- Of the row service's own data, only the records that leave the directory go. -/
theorem shadowsKeep_rows (s : State) (p : Shadow → Bool) :
    (shadowsKeep s p).rows = { s.rows with shadows := s.rows.shadows.filter p } :=
  congrArg (fun r : Rows => { r with shadows := r.shadows.filter p }) (foldl_memWrite_rows _ _ _ s)

@[simp] theorem tabOf_tabPut_self (s : State) (t : Nat) (x : RowTab) : tabOf (tabPut s t x) t = x := nget_nput_self ..

theorem tabOf_congr {s u : State} (h : u.rows = s.rows) (t : Nat) : tabOf u t = tabOf s t := by
  rw [tabOf, tabOf, h]

/-! ### A row's entry -/

/-- A map entry in a good line is read without effect (R581). -/
theorem entryCheck_of_lineOk {s : State} {a : RowAt} (line : lineOk s a.addr = true) (t r : Nat) : entryCheck s t r a = s :=
  if_pos line

/-- A row that is at home here is not served elsewhere (R382). -/
theorem elsewhere_of_local {s : State} {x : RowHdr} {a : RowAt} (entry : rowAt s x.table x.row = some a)
    (home : reKind (rowEnt s a) = 0) : elsewhere s x = none := by
  rw [elsewhere, entry]
  exact if_neg (by rw [home]; decide)

/-! ### The end of a row command (R399) -/

theorem rowCmdEnd_rows (s : State) (res t : Nat) :
    (rowCmdEnd s res t).rows = { s.rows with cmds := s.rows.cmds.drop 1, run := none } := by
  rw [rowCmdEnd, irq_rows, finc, fput_rows, fput_rows, fput_rows]

/-- RESULT of a command that ends: neither TABLE nor SEQ shares a bit with it. -/
theorem fget_RESULT_rowCmdEnd (s : State) (res t : Nat) : fget (rowCmdEnd s res t) F.ROW_CMD_STAT_RESULT 0 = res % 16 := by
  rw [rowCmdEnd, fget_irq, finc, fget_fput_field (f := F.ROW_CMD_STAT_SEQ) (g := F.ROW_CMD_STAT_RESULT) _ _ rfl (by decide) (by decide),
    fget_fput_field (f := F.ROW_CMD_STAT_TABLE) (g := F.ROW_CMD_STAT_RESULT) _ _ rfl (by decide) (by decide),
    fget_fput_self _ _ _ _ (by decide)]
  rfl

theorem fget_TABLE_rowCmdEnd (s : State) (res t : Nat) : fget (rowCmdEnd s res t) F.ROW_CMD_STAT_TABLE 0 = t % 1024 := by
  rw [rowCmdEnd, fget_irq, finc, fget_fput_field (f := F.ROW_CMD_STAT_SEQ) (g := F.ROW_CMD_STAT_TABLE) _ _ rfl (by decide) (by decide),
    fget_fput_self _ _ _ _ (by decide)]
  rfl

theorem fget_SEQ_rowCmdEnd (s : State) (res t : Nat) :
    fget (rowCmdEnd s res t) F.ROW_CMD_STAT_SEQ 0 = (fget s F.ROW_CMD_STAT_SEQ 0 + 1) % 256 := by
  have ended : fget (fput (fput s F.ROW_CMD_STAT_RESULT 0 res) F.ROW_CMD_STAT_TABLE 0 t) F.ROW_CMD_STAT_SEQ 0 =
      fget s F.ROW_CMD_STAT_SEQ 0 := by
    rw [fget_fput_field (f := F.ROW_CMD_STAT_TABLE) (g := F.ROW_CMD_STAT_SEQ) _ _ rfl (by decide) (by decide),
      fget_fput_field (f := F.ROW_CMD_STAT_RESULT) (g := F.ROW_CMD_STAT_SEQ) _ _ rfl (by decide) (by decide)]
  rw [rowCmdEnd, fget_irq, finc, fget_fput_self _ _ _ _ (by decide)]
  exact (Nat.mod_mod _ _).trans (congrArg (fun n => (n + 1) % 256) ended)

theorem rowReserved_of_empty {s : State} (empty : s.rows.cmds = []) (n : Nat) : rowReserved s n = s := by
  cases n with
  | zero => rfl
  | succ n => rw [rowReserved, empty, ite_self]

/-- With no other command queued, a command that ends is all that happens. -/
theorem rowDone_of_only {s : State} {c : RowCmd} (only : s.rows.cmds = [c]) (res t : Nat) : rowDone s res t = rowCmdEnd s res t := by
  refine rowReserved_of_empty ?_ 16
  rw [rowCmdEnd_rows, only]
  rfl

end Sys2Proof.Machine
end

section
/-!
The statements of 09_row_tables.md on requests, their answers, and row commands (R373, R378-R382, R388, R390, R399).
-/

namespace Sys2Proof.Machine

/-! ### Serving a request (R378, R380, R382, R388) -/

/-- The state in which request `k` has left the row queue. -/
def rowTaken (s : State) (k : Nat) : State := { s with fab := { s.fab with rows := s.fab.rows.eraseIdx k } }

/-- A well-formed request of a LIVE table whose one member serves it is accepted at its home (R380). -/
theorem homeCheck_of_fits {s : State} {x : RowHdr} (serves : fbit s F.ROW_CTL_SERVE_EN 0 = true) (live : tLive s x.table = true)
    (clean : x.resv = false) (inTable : x.row < tRows s x.table) (shift : x.shift = tf s x.table 4 1) (merge : x.merge = tf s x.table 1 1)
    (one : tMembers s x.table = 1) : homeCheck s x = (s, roOK, 0) := by
  rw [homeCheck]
  extract_lets
  rw [if_neg (by rw [serves, live]; decide), if_neg (by rw [clean]; decide), if_neg (Nat.not_le.2 inTable),
    if_neg (by simp [shift, merge]), if_pos one]

section
variable {s : State} {x : RowHdr} {a : RowAt} (entry : rowAt s x.table x.row = some a) (line : lineOk s a.addr = true)
  (home : reKind (rowEnt s a) = 0) (arrived : reInbound (rowEnt s a) = false)
include entry line home arrived

/-- A GET of a LOCAL row that is not INBOUND is observed, counted and answered with what its lookup reads. -/
theorem serveGet_of_local {h : Nat} {r : List Byte} {u : State} (mounted : flashWaits s (reAddr (rowEnt s a)) (tSize s x.table) = false)
    (reads : lookup (fadd1 (observe s x.table x.row a) F.ROW_LOOKUPS_SERVED 0 1) x.table x.row h a = (some r, u)) :
    serveGet s x h = some ({ status := roOK, version := reVersion (rowEnt s a), data := r }, u) := by
  rw [serveGet, entry]
  dsimp only
  rw [entryCheck_of_lineOk line, elsewhere_of_local entry home]
  dsimp only
  rw [if_neg (by rw [home]; decide), if_neg (by rw [arrived, mounted]; decide), reads]

/-- An update of a LOCAL row that is neither INBOUND nor OUTBOUND is staged. -/
theorem serveUpd_of_local {bs : List Byte} {u : State} (stays : reOutbound (rowEnt s a) = false)
    (staged : stage s x.table x.row x.key bs = some u) : serveUpd s x bs = some ({ status := roOK }, u) := by
  rw [serveUpd, entry]
  dsimp only
  rw [entryCheck_of_lineOk line, elsewhere_of_local entry home]
  dsimp only
  rw [if_neg (by rw [home]; exact fun h => nomatch h.1), if_neg (by rw [arrived]; decide), if_neg (by rw [stays]; decide), staged]

end

/-- A queued request of the served kind that its home accepts and serves is answered with what serves it. -/
theorem rowServe_of_served {s u : State} {k peer h : Nat} {bs : List Byte} {upd : Bool} {ans : RowAns} {x : RowHdr}
    (queued : s.fab.rows[k]? = some (peer, h, bs)) (header : rowHdr (ofBytes (bs.take 64)) = x)
    (ready : peer = 65535 → destWaits s (reqFull s x.reqId) = false) (op : x.op = if upd then 2 else 1) (clean : x.resv = false)
    (length : bs.length - 64 = if upd then 2 ^ x.shift else 0) (accepts : homeCheck (rowTaken s k) x = (rowTaken s k, roOK, 0))
    (serves : (if upd then serveUpd (rowTaken s k) x (bs.drop 64) else serveGet (rowTaken s k) x h) = some (ans, u)) :
    rowServe s k upd = rowReply u peer x ans := by
  have kind : (x.op == 2) = upd := by rw [op]; cases upd <;> rfl
  have known : (x.op != 1 && x.op != 2) = false := by rw [op]; cases upd <;> rfl
  have writable : (peer == 65535 && destWaits s (reqFull s x.reqId)) = false := by
    by_cases own : peer = 65535
    · rw [ready own, Bool.and_false]
    · rw [beq_eq_false_iff_ne.2 own, Bool.false_and]
  have taken : ¬((x.op == 2) != upd || (peer == 65535 && destWaits s (reqFull s x.reqId))) = true := by
    rw [kind, writable, bne_self_eq_false]
    decide
  have sound : (x.resv || (x.op != 1 && x.op != 2) || (bs.length - 64 != if upd then 2 ^ x.shift else 0)) = x.resv := by
    rw [clean, known, length, bne_self_eq_false]
    rfl
  subst header
  rw [rowServe, queued]
  dsimp -zeta only
  extract_lets hd fab s1 checked
  have same : checked = hd := congrArg (fun b => { hd with resv := b }) sound
  have accepted : homeCheck s1 hd = (s1, roOK, 0) := accepts
  refine (if_neg taken).trans ?_
  rw [same, accepted]
  refine (if_neg (not_not_intro rfl)).trans ?_
  rw [show (if upd then serveUpd s1 hd (bs.drop 64) else serveGet s1 hd h) = some (ans, u) from serves]

/-! ### The requester (R377, R381) -/

/-- An OK answer to a GET writes the row at the tiller's address and ends the request. -/
theorem rowAnswered_of_get {s : State} {id : Nat} {q : RowReq} {x : RowAns} (req : rowReq s id = some q) (get : q.upd = false)
    (ok : x.status = roOK) :
    rowAnswered s id x = rowEnd (movWrite s q.til q.addr (x.data.take (tSize s q.table))) id roOK x.version := by
  rw [rowAnswered, req]
  dsimp only
  rw [ok, if_neg (by decide), if_neg (by decide), if_neg (fun h => nomatch h.1), get, if_pos ⟨rfl, rfl⟩]

/-- An answer to a request that waits for nothing, whose message did not fail, is taken. -/
theorem rowAnswer_of_delivered {s : State} {id : Nat} {q : RowReq} (req : rowReq s id = some q) (sent : q.waiting = false)
    (writable : destWaits s id = false) (delivered : s.fab.ended.any (fun e => e.1 == 4 && e.2.1 == id) = false) (x : RowAns) :
    rowAnswer s id x = rowAnswered
      { s with fab := { s.fab with ended := s.fab.ended.filter (fun e => !(e.1 == 4 && e.2.1 == id)) } } id x := by
  rw [rowAnswer, req]
  dsimp only
  rw [if_neg (by rw [sent, writable]; decide), delivered, if_neg Bool.false_ne_true]

theorem exec_rowResend_of_waiting {s : State} {id : Nat} {q : RowReq} (req : rowReq s id = some q) (waits : q.waiting = true) :
    exec (.rowResend id) s = .next (rowSend s id { q with retries := q.retries + 1 }) := by
  change execRowResend id s = _
  rw [execRowResend, req]
  dsimp only
  rw [if_pos waits]

theorem exec_applyTimer_of_due {s : State} {p : Fin 8} (still : (part s p).step = none)
    (due : nget (fun _ => 0) s.rows.applied p + 1000000 ≤ s.now) : exec (.applyTimer p) s = .next (applyPoint s p) :=
  congrArg Host.Outcome.next (if_pos ⟨Option.isNone_iff_eq_none.2 still, due⟩)

/-! ### Commands (R373, R374, R393, R399) -/

section
variable {s : State} {c : RowCmd} {t : Nat} (table : bget c.cmd1 0 10 = t)
include table

/-- CREATE of a free table whose descriptor and objects fit: it becomes LIVE, and the row service holds its local rows, with no slot
in use. -/
theorem rowCreate_of_fits {d : Nat} (staged : packWords c.stage = d) (free : tState s t = 0) (fits : descFits d = true)
    (merge : ¬(bits d 8 8 = 1 ∧ bits d 16 8 = 15)) (objects : objsFit s d = true) :
    ∃ v, rowCreate s c = rowDone (tfPut v t 0 1 1) 0 t ∧ tabOf v t = { local' := localRows s d } := by
  subst table staged
  rw [rowCreate]
  extract_lets n made entries guests cleared
  refine ⟨cleared, ?_, ?_⟩
  · rw [if_neg (not_not_intro free), if_neg (by rw [fits]; decide), if_neg merge, if_neg (by rw [objects]; decide)]
  · have same : cleared.rows = made.rows :=
      (foldl_memWrite_rows _ _ _ guests).trans ((foldl_memWrite_rows _ _ _ entries).trans (foldl_memWrite_rows _ _ _ made))
    rw [tabOf_congr same]
    exact tabOf_tabPut_self ..

/-- DESTROY of a closing table that no request and no migration here names: its staged updates and its shadows go. -/
theorem rowDestroy_of_unnamed (closing : tState s t = 2) (reqs : s.rows.reqs.any (fun e => e.2.table == t) = false)
    (inbound : s.rows.inbound.any (fun e => e.1 == t) = false)
    (queue : s.fab.rows.any (fun e => (rowHdr (ofBytes (e.2.2.take 64))).table == t) = false) :
    ∃ v, rowDestroy s c = rowDone (tfPut v t 0 1 0) 0 t ∧ tabOf v t = {} ∧
      v.rows.staged = s.rows.staged.filter (fun e => e.table != t) ∧
      v.rows.shadows = s.rows.shadows.filter (fun x => x.table != t) := by
  subst table
  rw [rowDestroy]
  extract_lets closed rows discarded dropped kept unhinted
  have stays : closed = s := if_neg (by rw [closing]; decide)
  have left : unhinted.rows.staged = s.rows.staged.filter (fun e => e.table != bget c.cmd1 0 10) ∧
      unhinted.rows.shadows = s.rows.shadows.filter (fun x => x.table != bget c.cmd1 0 10) := by
    rw [← stays]
    exact ⟨congrArg Rows.staged (shadowsKeep_rows discarded _), congrArg Rows.shadows (shadowsKeep_rows discarded _)⟩
  refine ⟨tabPut unhinted (bget c.cmd1 0 10) {}, ?_, tabOf_tabPut_self .., left⟩
  rw [if_neg (fun h => h.2 closing), if_neg]
  change ¬(closed.rows.reqs.any _ || closed.rows.inbound.any _ || closed.fab.rows.any _) = true
  rw [stays, reqs, inbound, queue]
  decide

theorem rowReset_of_live (live : tLive s t = true) :
    rowReset s c = rowDone ((freqBytes s t).foldl (fun s a => memPut s a 1 0) (tfPut s t 48 8 0)) 0 t := by
  subst table
  exact if_neg (by rw [live]; decide)

/-- MIGRATE of a LOCAL row that does not move yet, to another member of its composition, waits under log 0 when no log is in use. -/
theorem rowMigrate_of_remote {r peer i : Nat} {a : RowAt} (row : bget c.cmd0 0 40 = r) (dest : bget c.cmd0 48 16 = peer)
    (live : tLive s t = true) (inTable : r < tRows s t) (entry : rowAt s t r = some a) (line : lineOk s a.addr = true)
    (home : reKind (rowEnt s a) = 0) (stays : reOutbound (rowEnt s a) = false) (arrived : reInbound (rowEnt s a) = false)
    (remote : bbit c.cmd0 45 = true) (many : tMembers s t ≠ 1) (slot : i ∈ mapSlots s (tComp s t) 0)
    (names : mPeer (member s (tComp s t) 0 i) = peer) (other : mNode (member s (tComp s t) 0 i) ≠ fget s F.FAB_NODE_NODE 0)
    (noLog : s.rows.migs = []) :
    rowMigrate s c = migPut { s with rows := { s.rows with run := some 0 } } 0 { table := t, row := r, peer := peer } := by
  have member' : (mapSlots s (tComp s t) 0).any (fun i =>
      mPeer (member s (tComp s t) 0 i) == peer && mNode (member s (tComp s t) 0 i) != fget s F.FAB_NODE_NODE 0) = true :=
    List.any_eq_true.2 ⟨i, slot, by rw [names, beq_self_eq_true, bne_iff_ne.2 other]; rfl⟩
  have log : lowestOut (s.rows.migs.map (·.1)) s.rows.migs.length 0 = 0 := by rw [noLog]; rfl
  subst table row dest
  rw [rowMigrate, if_neg (by rw [live]; decide), if_neg (Nat.not_le.2 inTable), entry]
  dsimp only
  rw [entryCheck_of_lineOk line, log, if_neg (not_not_intro home), if_neg, if_neg (by simp [stays, arrived]), if_neg (by decide),
    if_neg (by rw [remote]; decide)]
  rw [remote, member', bne_iff_ne.2 many, if_pos rfl]
  decide

end

/-- Settles O41: ROW_CMD_STAT shows the command that ended (`rowCmdEnd`), a request that its home accepts is served by one rule for
each kind (`serveGet_of_local`, `serveUpd_of_local`), the requester's events take one branch each, and each command at the head of the
queue passes its checks. -/
theorem rowRequestsAndCommands : Obligations.RowRequestsAndCommands := by
  intro s k id p peer h bs ans q c x w
  refine ⟨fun res t only => ?ended, fun a queued ready serves live clean inTable shift merge one entry line home arrived => ?served,
    fun req sent get writable delivered ok => ?answered, exec_rowResend_of_waiting, exec_applyTimer_of_due, ?commands⟩
  case ended =>
    intro u
    rw [show u = rowCmdEnd s res t from rowDone_of_only only res t]
    refine ⟨fget_RESULT_rowCmdEnd .., fget_TABLE_rowCmdEnd .., fget_SEQ_rowCmdEnd .., (rowCmdEnd_rows ..).trans ?_⟩
    rw [only]
    rfl
  case served =>
    have accepts : homeCheck (rowTaken s k) x = (rowTaken s k, roOK, 0) := homeCheck_of_fits serves live clean inTable shift merge one
    refine ⟨fun r u op length mounted reads => ?_, fun u op length stays staged => ?_⟩
    · refine congrArg Host.Outcome.next (rowServe_of_served (upd := false) queued rfl ready op clean (by rw [length]; rfl) accepts ?_)
      exact serveGet_of_local entry line home arrived mounted reads
    · refine congrArg Host.Outcome.next
        (rowServe_of_served (upd := true) queued rfl ready op clean (by rw [length, Nat.add_sub_cancel_left]; rfl) accepts ?_)
      exact serveUpd_of_local entry line home arrived stays staged
  case answered =>
    intro v
    exact congrArg Host.Outcome.next ((rowAnswer_of_delivered req sent writable delivered ans).trans (rowAnswered_of_get req get ok))
  case commands =>
    intro t d
    refine ⟨fun head free fits merge objects => ?create, fun head closing reqs inbound queue => ?destroy, fun head live => ?reset,
      fun a i head live inTable entry line home stays arrived remote many slot names other noLog => ?migrate⟩
    case create =>
      obtain ⟨v, creates, holds⟩ := rowCreate_of_fits (c := c) rfl rfl free fits merge objects
      refine ⟨v, ?_, holds⟩
      change execRowCreate s = _
      rw [execRowCreate, head, ← creates]
    case destroy =>
      obtain ⟨v, destroys, leaves⟩ := rowDestroy_of_unnamed (c := c) rfl closing reqs inbound queue
      refine ⟨v, ?_, leaves⟩
      change execRowDestroy s = _
      rw [execRowDestroy, head, ← destroys]
    case reset =>
      change execRowResetHistory s = _
      rw [execRowResetHistory, head, ← rowReset_of_live rfl live]
    case migrate =>
      change execRowMigrate s = _
      rw [execRowMigrate, head, ← rowMigrate_of_remote rfl rfl rfl live inTable entry line home stays arrived remote many slot names
        other noLog]

end Sys2Proof.Machine
end

section
/-!
The statements of 09_row_tables.md on migrations between members (R393-R395, R397).
-/

namespace Sys2Proof.Machine

/-! ### At the destination (R394 steps 2, 3 and 6) -/

theorem inbound_contains {s : State} {t r : Nat} (inbound : (t, r) ∈ s.rows.inbound) : s.rows.inbound.contains (t, r) = true :=
  List.contains_iff_mem.2 inbound

/-- What a row that a migration brings to slot `x` and guest entry `i`, at `a`, leaves: the entry is LOCAL and INBOUND, and the guest
entry VALID for the row. -/
def guestArrived (u : State) (m : MigMsg) (a : RowAt) (i x : Nat) : State :=
  let key : RowKey := { step := m.step, rank := m.rank, seq := m.seq }
  let v := rowPut u a (mkRow 0 0 false true (tf u m.table 7 1) x m.version key 0 0)
  let w := memPut v (guestAddr v m.table i 32) 8 (2 ^ 63 + m.row)
  { w with rows := { w.rows with inbound := w.rows.inbound ++ [(m.table, m.row)] } }

/-- A row that has no entry at its destination gets a slot and a free guest entry there, and is acknowledged. -/
theorem migReceive_of_new {s : State} {m : MigMsg} {i x : Nat} (request : m.ack = false) (wanted : m.refused = false)
    (serves : fbit s F.ROW_CTL_SERVE_EN 0 = true) (live : tLive s m.table = true) (inTable : m.row < tRows s m.table)
    (size : m.data.length = tSize s m.table) (noEntry : rowAt s m.table m.row = none) (guest : guestFree s m.table m.row = some i)
    (slot : pickSlot s m.table = some x) : migReceive s m = migReply (guestArrived (memWrite (takeSlot s m.table x) x m.data) m
      { addr := guestAddr s m.table i 0, guest := some i } i x) m true := by
  rw [migReceive, if_neg (by simp [request, wanted]), if_neg (by simp [serves, live, inTable, size])]
  extract_lets place key
  have placed : place = some ({ addr := guestAddr s m.table i 0, guest := some i }, some i) := by
    simp only [place, noEntry, guest, Option.map_some]
  rw [placed, slot]
  dsimp -zeta only
  extract_lets lost old stored kept
  have same : kept = stored := if_neg (by rw [Option.isNone_some, Bool.and_false]; decide)
  exact congrArg (fun u => migReply (guestArrived u m { addr := guestAddr s m.table i 0, guest := some i } i x) m true) same

/-- A logged update of an INBOUND row is staged under its own key and acknowledged. -/
theorem migReplay_of_inbound {s u : State} {m : MigMsg} (request : m.ack = false) (wanted : m.refused = false)
    (inbound : (m.table, m.row) ∈ s.rows.inbound)
    (staged : stage s m.table m.row { step := m.step, rank := m.rank, seq := m.seq } m.data = some u) :
    migReplay s m = migReply u m true := by
  rw [migReplay, if_neg (by simp [request, wanted]), if_neg (by rw [inbound_contains inbound]; decide), staged]

/-- The entry that an activation leaves: LOCAL unless it is LOST by then, not INBOUND, with the new version. -/
def activated (v version : Nat) : Nat := setBits (setBits (setBits v 62 2 (if reKind v = 2 then 2 else 0)) 57 1 0) 64 64 version

theorem migActive_of_inbound {s : State} {m : MigMsg} {a : RowAt} (inbound : (m.table, m.row) ∈ s.rows.inbound)
    (entry : rowAt s m.table m.row = some a) :
    let u := rowPut s a (activated (rowEnt s a) m.version)
    migActive s m = { u with rows := { u.rows with inbound := u.rows.inbound.filter (fun e => e != (m.table, m.row)) } } := by
  rw [migActive, if_neg (by rw [inbound_contains inbound]; decide), entry]
  rfl

/-! ### At the shard home (R394 step 5) -/

/-- The shard home writes REMOTE with the new home and version, and acknowledges. -/
theorem migHome_of_update {s : State} {m : MigMsg} {a : RowAt} (request : m.ack = false) (entry : rowAt s m.table m.row = some a) :
    migHome s m = migReply (rowPut s a (mkRow 1 0 false false (reDepoch (rowEnt s a)) m.home m.version (reKey (rowEnt s a))
      (reFreq (rowEnt s a)) 0)) m true := by
  rw [migHome, if_neg (by rw [request]; decide), entry]

/-- The shard home's acknowledgement lets the old home send the activation. -/
theorem migHome_of_ack {s : State} {m : MigMsg} {l : Nat} {g : Mig} (ack : m.ack = true)
    (told : s.rows.migs.find? (fun e => e.2.table == m.table && e.2.row == m.row && e.2.phase == 2) = some (l, g)) :
    migHome s m = migActivate s l g := by
  rw [migHome, if_pos ack, told]

/-! ### At the old home (R394 steps 3 and 4, R395) -/

/-- Messages to one member, sent one after another, stand behind those sent before. -/
theorem foldl_migSend {α : Type} (peer : Nat) (f : α → MigMsg) (l : List α) (s : State) :
    l.foldl (fun s e => migSend s peer (f e)) s =
      { s with rows := { s.rows with sent := s.rows.sent ++ l.map (fun e => (peer, f e)) } } := by
  induction l generalizing s with
  | nil => rw [List.foldl_nil, List.map_nil, List.append_nil]
  | cons e l ih =>
    rw [List.foldl_cons, ih, List.map_cons, migSend]
    simp only [List.append_assoc, List.cons_append, List.nil_append]

/-- The message that replays a logged update. -/
def replayMsg (g : Mig) (e : RowKey × List Byte) : MigMsg :=
  { peer := g.peer, table := g.table, row := g.row, kind := 3, step := e.1.step, rank := e.1.rank, seq := e.1.seq, data := e.2 }

/-- The old home's entry once it has switched: REMOTE at the destination, with the next version (R394 step 4). -/
def switched (v peer : Nat) : Nat := mkRow 1 0 false false (reDepoch v) peer (reVersion v + 1) (reKey v) (reFreq v) 0

section
variable {s : State} {l : Nat} {g : Mig} (runs : migOf s l = some g) (outbound : g.phase = 1)
include runs outbound

/-- An acknowledgement with a log left: the log's updates go out and count as replayed. -/
theorem migSwitch_of_log (log : g.log ≠ []) : migSwitch s l =
    migPut (g.log.foldl (fun s e => migSend s g.peer (replayMsg g e)) s) l { g with log := [], done := g.done ++ g.log } := by
  rw [migSwitch, runs]
  dsimp only
  rw [if_neg (not_not_intro outbound), if_pos (by simp [log])]
  rfl

/-- With an empty log the old home switches: the entry becomes REMOTE, its slot returns, and the activation goes out unless a third
member, the shard home, is to be told first. -/
theorem migSwitch_of_empty {a : RowAt} (log : g.log = []) (entry : rowAt s g.table g.row = some a) :
    let w := dropSlot (rowPut s a (switched (rowEnt s a) g.peer)) g.table (reAddr (rowEnt s a))
    let n : Mig := { g with phase := 2, version := reVersion (rowEnt s a) + 1 }
    let h := shardPeer w g.table g.row
    migSwitch s l = if h = 65535 ∨ h = g.peer then migActivate w l n
      else migSend (migPut w l n) h { peer := h, table := g.table, row := g.row, kind := 5, version := n.version, home := g.peer } := by
  rw [migSwitch, runs]
  dsimp only
  rw [if_neg (not_not_intro outbound), if_neg (by simp [log]), entry]
  rfl

/-- A migration given up before its switch: the old home stages its updates again and ends the command. -/
theorem migAbort_of_staged {a : RowAt} {u : State} (entry : rowAt s g.table g.row = some a)
    (staged : stageAll (rowPut s a (setBits (setBits (rowEnt s a) 58 1 0) 224 8 0)) g.table g.row (g.done ++ g.log) = some u)
    (refused : Bool) : migAbort s l refused = migEnd u l (if refused then 6 else 8) g.table := by
  rw [migAbort, runs]
  dsimp only
  rw [if_neg (not_not_intro outbound), entry]
  dsimp only
  rw [staged]

end

/-- Settles O42: each message and each event takes one branch of its function, which the lemmas above name for the destination, the
shard home and the old home. -/
theorem migrationsMoveRows : Obligations.MigrationsMoveRows := by
  intro s l m g a refused x t key v
  refine ⟨fun i request wanted serves live inTable size noEntry guest _ slot => ?receive, fun u request wanted inbound staged => ?replay,
    fun inbound entry => ?activate, fun request entry => ?update, fun ack told => ?told, fun runs outbound =>
      ⟨fun log => ?log, fun log entry => ?switch, fun u entry staged => ?abort⟩⟩
  case receive =>
    exact congrArg Host.Outcome.next (migReceive_of_new request wanted serves live inTable size noEntry guest slot)
  case replay => exact congrArg Host.Outcome.next (migReplay_of_inbound request wanted inbound staged)
  case activate =>
    refine ⟨_, congrArg Host.Outcome.next (migActive_of_inbound inbound entry), fun still => ?_, rfl⟩
    have kept := (List.mem_filter.1 still).2
    rw [bne_self_eq_false] at kept
    cases kept
  case update => exact congrArg Host.Outcome.next (migHome_of_update request entry)
  case told => exact congrArg Host.Outcome.next (migHome_of_ack ack told)
  case log =>
    refine ⟨_, congrArg Host.Outcome.next (migSwitch_of_log runs outbound log), migOf_migPut_self .., ?_⟩
    rw [foldl_migSend]
    rfl
  case switch =>
    intro w n h
    have switches := migSwitch_of_empty runs outbound log entry
    exact ⟨fun direct => congrArg Host.Outcome.next (switches.trans (if_pos direct)), fun third other =>
      congrArg Host.Outcome.next (switches.trans (if_neg (fun direct => direct.elim third other)))⟩
  case abort => exact congrArg Host.Outcome.next (migAbort_of_staged runs outbound entry staged refused)

end Sys2Proof.Machine
end

section
/-!
The flash tier's own state (10_flash_tier.md): registers written one after another, and what the operations that the tier's
statements share leave of the map, the blocks and the channels' work.
-/

namespace Sys2Proof.Machine

/-! ### Registers written one after another -/

/-- Registers of one kind written in turn: each keeps the word it was given. -/
theorem rword_foldl_rput (r : Reg) (w : State → Nat → Word) (s : State) {n i : Nat} (inside : i < n) (few : n ≤ 65536) :
    rword ((List.range n).foldl (fun t j => rput t r j (w t j)) s) r i =
      w ((List.range i).foldl (fun t j => rput t r j (w t j)) s) i := by
  induction n with
  | zero => exact absurd inside (Nat.not_lt_zero i)
  | succ n ih =>
    rw [List.range_succ, List.foldl_append, List.foldl_cons, List.foldl_nil]
    by_cases last : i = n
    · rw [last, rword_rput_self]
    · rw [rword_rput_ne _ _ (.inr (by omega)), ih (by omega) (by omega)]

/-- Fields of one kind written in turn: each reads as the low bits of what it was given. -/
theorem fget_foldl_fput (f : Fld) (fits : f.lo + f.w ≤ 64) (v : Nat → Nat) (s : State) {n i : Nat} (inside : i < n)
    (few : n ≤ 65536) : fget ((List.range n).foldl (fun t j => fput t f j (v j)) s) f i = v i % 2 ^ f.w := by
  have word := rword_foldl_rput f.reg (fun t j => bset (rword t f.reg j) f.lo f.w (v j)) s inside few
  exact (congrArg (fun x : Word => bget x f.lo f.w) word).trans (bget_bset_self _ _ _ _ fits)

/-! ### What shared operations leave alone -/

theorem irq_flash (s : State) (f v : Nat) : (irq s f v).flash = s.flash := by
  unfold irq
  split <;> rfl

/-- The channel registers follow the blocks, which stay as they are. -/
theorem flsStat_flash (s : State) (ch : Nat) : (flsStat s ch).flash = s.flash :=
  (keeps_of (N := 7849442160315082732511453473063883638495181783824410345472)
    (fun W h => flsStat_keeps h (Keeps.refl W s))).same .flash rfl nofun

theorem flsStatAll_flash (s : State) : (flsStatAll s).flash = s.flash := foldl_leaves State.flash flsStat_flash _ s

theorem showGeometry_flash (s : State) : (showGeometry s).flash = s.flash :=
  (keeps_of (N := 9194973245195333150150082162901855101712434733101613056)
    (fun W h => showGeometry_keeps h (Keeps.refl W s))).same .flash rfl nofun

theorem showGeometry_keys (s : State) : (showGeometry s).keys = s.keys :=
  (keeps_of (N := 9194973245195333150150082162901855101712434733101613056)
    (fun W h => showGeometry_keeps h (Keeps.refl W s))).same .keys rfl nofun

theorem clearSyn_flash (s : State) (line n : Nat) : (clearSyn s line n).flash = s.flash := by
  induction n generalizing s line with
  | zero => rfl
  | succ n ih => rw [clearSyn, ih]

/-- A write into the tier queues its units and leaves the map, which their programs change (R413). -/
theorem flsWrites_map (s : State) (a n : Nat) : (flsWrites s a n).flash.map = s.flash.map := by
  unfold flsWrites
  split <;> rfl

theorem memWrite_map (s : State) (a : Nat) (bs : List Byte) : (memWrite s a bs).flash.map = s.flash.map := by
  unfold memWrite
  split
  · rfl
  · exact (congrArg Flash.map (clearSyn_flash ..)).trans (flsWrites_map s a bs.length)

theorem flsEntPut_map (s : State) (L v : Nat) : (flsEntPut s L v).flash.map = s.flash.map := by
  unfold flsEntPut
  split
  · rfl
  · exact memWrite_map ..

/-- Showing the map in device memory (R408) does not change it. -/
theorem showMap_map (s : State) (sel : Nat → Bool) : (showMap s sel).flash.map = s.flash.map :=
  foldl_leaves (fun t : State => t.flash.map) (fun t L => flsEntPut_map t L (flsMap t L)) _ s

theorem restoreData_flash (s : State) (sel : Nat → Bool) : (restoreData s sel).flash = s.flash :=
  (keeps_of (N := 24576) (fun W h => restoreData_keeps h (Keeps.refl W s))).same .flash rfl nofun

/-! ### Blocks and journals -/

@[simp] theorem flsBlk_flsBlkPut_self (s : State) (k : Nat) (b : FlsBlk) : flsBlk (flsBlkPut s k b) k = b := nget_nput_self ..

theorem flsBlk_congr {s t : State} (h : t.flash.media.blk = s.flash.media.blk) (k : Nat) : flsBlk t k = flsBlk s k := by
  rw [flsBlk, flsBlk, h]

end Sys2Proof.Machine
end

section
/-!
The statement of 10_flash_tier.md on the tier's commands (R431) and its health log (R429).
-/

namespace Sys2Proof.Machine

/-! ### The end of a command (R431) -/

theorem flsDone_flash (s : State) (res : Nat) : (flsDone s res).flash = { s.flash with cmd := none } := by
  rw [flsDone, irq_flash]
  rfl

/-- RESULT of a command that ends: neither BUSY nor SEQ shares a bit with it. -/
theorem fget_RESULT_flsDone (s : State) (res : Nat) : fget (flsDone s res) F.FLS_CMD_STAT_RESULT 0 = res % 16 := by
  rw [flsDone, fget_irq, finc,
    fget_fput_field (f := F.FLS_CMD_STAT_SEQ) (g := F.FLS_CMD_STAT_RESULT) _ _ rfl (by decide) (by decide),
    fget_fput_field (f := F.FLS_CMD_STAT_BUSY) (g := F.FLS_CMD_STAT_RESULT) _ _ rfl (by decide) (by decide),
    fget_fput_self _ _ _ _ (by decide)]
  rfl

theorem fget_BUSY_flsDone (s : State) (res : Nat) : fget (flsDone s res) F.FLS_CMD_STAT_BUSY 0 = 0 := by
  rw [flsDone, fget_irq, finc,
    fget_fput_field (f := F.FLS_CMD_STAT_SEQ) (g := F.FLS_CMD_STAT_BUSY) _ _ rfl (by decide) (by decide),
    fget_fput_self _ _ _ _ (by decide)]
  rfl

theorem fget_SEQ_flsDone (s : State) (res : Nat) :
    fget (flsDone s res) F.FLS_CMD_STAT_SEQ 0 = (fget s F.FLS_CMD_STAT_SEQ 0 + 1) % 256 := by
  have other : F.FLS_STAT_CKPT_BUSY.reg ≠ F.FLS_CMD_STAT_SEQ.reg := nofun
  rw [flsDone, fget_irq, finc, fget_fput_self _ _ _ _ (by decide),
    fget_fput_field (f := F.FLS_CMD_STAT_BUSY) (g := F.FLS_CMD_STAT_SEQ) _ _ rfl (by decide) (by decide),
    fget_fput_field (f := F.FLS_CMD_STAT_RESULT) (g := F.FLS_CMD_STAT_SEQ) _ _ rfl (by decide) (by decide),
    fget_fput_reg _ _ (.inl other)]
  exact Nat.mod_mod _ _

/-! ### Commands (R414, R418, R424, R427, R431) -/

section
variable {s : State} {w : Word} (up : flashUp s = true)
include up

theorem exec_flsCheckpoint_of_up (runs : flsCmd s 1 = some w) :
    exec .flsCheckpoint s = .next (flsDone (checkpoint (checkpoint s 0 false) 1 false) 0) := by
  change execFlsCheckpoint s = _
  rw [execFlsCheckpoint, runs]
  exact congrArg Host.Outcome.next (if_pos up)

/-- Without a pass in progress PATROL begins one over every closed block. -/
theorem exec_flsPatrol_of_idle (runs : flsCmd s 2 = some w) (idle : s.flash.due = []) :
    exec .flsPatrol s = .next (patrolEnd { s with flash := { s.flash with due := (List.range 16).flatMap (closedOf s) } }) := by
  change execFlsPatrol s = _
  rw [execFlsPatrol, runs]
  dsimp only
  rw [if_neg (by simp [up]), if_pos (by rw [idle]; rfl)]

theorem exec_flsShutdown_of_up (runs : flsCmd s 5 = some w) :
    exec .flsShutdown s = .next (flsDone (checkpoint (checkpoint s 0 false) 1 true) 0) := by
  change execFlsShutdown s = _
  rw [execFlsShutdown, runs]
  exact congrArg Host.Outcome.next (if_neg (by simp [up]))

/-- RETIRE treats the block it names as after a program fail (R427). -/
theorem exec_flsRetire_of_good {k : Nat} (names : k = bget w 32 4 * 2 ^ 32 + bget w 12 20) (runs : flsCmd s 3 = some w)
    (inside : blkIn (flsChan s (bget w 32 4)) k = true) (good : blkBad s k = false) (user : blkSys s k = false)
    (inUse : (flsBlk s k).st ≠ 6) : exec .flsRetire s = .next (flsDone (retiring (fset s F.FLS_ERR_PROG_FAIL 0) k) 0) := by
  change execFlsRetire s = _
  rw [execFlsRetire, runs]
  dsimp only
  rw [← names, if_neg (by simp [up]), if_neg (by simp [inside, good, user, inUse])]

end

/-- FORMAT and ERASE_MEDIA are taken by a FAILED tier, or by one whose frames are all free, of right geometry (R431, R670). -/
theorem formatRefuses_eq_false {s : State}
    (free : fget s F.FLS_STAT_STATE 0 = 4 ∨ (flashUp s = true ∧ slowFree s 2 = flashFrames s)) (geometry : geometryOk s = true) :
    (!(fget s F.FLS_STAT_STATE 0 == 4 || (flashUp s && slowFree s 2 == flashFrames s)) || !geometryOk s) = false := by
  rcases free with failed | ⟨up, empty⟩
  · simp [failed, geometry]
  · simp [up, empty, geometry]

theorem exec_flsFormat_of_free {s : State} {w : Word} (runs : flsCmd s 4 = some w)
    (free : fget s F.FLS_STAT_STATE 0 = 4 ∨ (flashUp s = true ∧ slowFree s 2 = flashFrames s)) (geometry : geometryOk s = true) :
    exec .flsFormat s =
      .next (flsDone (flsMounted (flsLog (flsFormat s true) (fun l => { powerOn := l.powerOn, hist := l.hist }))) 0) := by
  change execFlsFormat s = _
  rw [execFlsFormat, runs]
  dsimp only
  rw [formatRefuses_eq_false free geometry]
  exact congrArg Host.Outcome.next (if_neg Bool.false_ne_true)

/-! ### The health log (R429) -/

/-- A copy of the health log is a fold of register writes, which no part of the device but the register file sees. -/
theorem hlogSnap_leaves {β : Type} (g : State → β) (h : ∀ t i v, g (fput t F.FLS_HLOG_WORD i v) = g t) (s : State) :
    g (hlogSnap s) = g s := foldl_leaves g (fun t i => h t i _) _ s

theorem exec_flsHlogSnap_ready {s : State} (reach : hostReach s = true) (ready : fget s F.GLB_STAT_PHASE 0 = 12) {val : Word}
    (go : bbit val 0 = true) : exec (.flsHlogSnap val) s = .next (hlogSnap s) := by
  change execFlsHlogSnap val s = _
  rw [execFlsHlogSnap, regGate, hostGate_open reach (.inl ready), if_pos go]

/-- Settles O44: a command that runs takes its one branch and ends by `flsDone`; the copy of the health log writes the 64 words in
turn (`fget_foldl_fput`). -/
theorem flashCommandsComplete : Obligations.FlashCommandsComplete := by
  intro s w val
  refine ⟨?ends, ?serves, exec_flsFormat_of_free, ?snap⟩
  case ends =>
    intro res
    exact ⟨fget_RESULT_flsDone s res, fget_BUSY_flsDone s res, fget_SEQ_flsDone s res, flsDone_flash s res⟩
  case serves =>
    intro up
    exact ⟨exec_flsCheckpoint_of_up up, exec_flsPatrol_of_idle up, exec_flsShutdown_of_up up, fun _ => exec_flsRetire_of_good up⟩
  case snap =>
    intro reach ready go
    refine ⟨_, exec_flsHlogSnap_ready reach ready go, fun i inside => ?_, hlogSnap_leaves State.flash (fun _ _ _ => rfl) s,
      hlogSnap_leaves State.mem (fun _ _ _ => rfl) s, hlogSnap_leaves State.ctx (fun _ _ _ => rfl) s⟩
    exact fget_foldl_fput F.FLS_HLOG_WORD (by decide) (fun i => ofBytes (((healthPage s).drop (8 * i)).take 8)) s inside (by decide)

end Sys2Proof.Machine
end

section
/-!
The statement of 10_flash_tier.md on the events of the tier: mount (R415-R418), journal pages and checkpoints (R412-R414), unit reads
and programs (R406, R413), erases (R426), target timeouts (R427), reclaim and refresh (R419-R424), and the patrol (R424).
-/

namespace Sys2Proof.Machine

/-! ### Mount (R404, R415-R418) -/

theorem restore_map (s : State) (r : FlsRoot) (o : MountObs) : (restore s r o).flash.map = restored s r o := by
  unfold restore
  exact (showMap_map _ _).trans (congrArg Flash.map (restoreData_flash _ _))

theorem restore_mediaKey (s : State) (r : FlsRoot) (o : MountObs) : (restore s r o).keys.media = s.flash.media.key := by
  unfold restore
  exact congrArg Keys.media (showMap_keys.trans restoreData_keys)

theorem flsMounted_map (s : State) : (flsMounted s).flash.map = s.flash.map := by
  unfold flsMounted
  extract_lets logical shown now
  have kept : shown.flash = s.flash := fput_flash.trans (fput_flash.trans fput_flash)
  clear_value shown
  rw [flsStatAll_flash]
  change shown.flash.map = s.flash.map
  rw [kept]

theorem mountCount_map (s : State) (clean : Bool) : (mountCount s clean).flash.map = s.flash.map := rfl

theorem mountCount_keys (s : State) (clean : Bool) : (mountCount s clean).keys = s.keys := rfl

theorem flsMounted_keys (s : State) : (flsMounted s).keys = s.keys :=
  (keeps_of (N := 7861702124642009843378320249281086111964131696802952904704)
    (fun W h => flsMounted_keeps h (Keeps.refl W s))).same .keys rfl nofun

section
variable {s : State} {o : MountObs} (mounting : fget s F.FLS_STAT_STATE 0 = 1)
include mounting

theorem mountDone_of_root {r : FlsRoot} (geometry : geometryOk (showGeometry s) = true) (root : rootFound (showGeometry s) o = some r)
    (unwraps : s.flash.media.kek = s.keys.kek) :
    mountDone s o = flsMounted (mountCount (restore (showGeometry s) r o) r.clean) := by
  rw [mountDone, if_neg (not_not_intro mounting)]
  dsimp only
  rw [if_neg (by simp [geometry]), root]
  exact if_neg (by rw [showGeometry_flash, showGeometry_keys]; exact not_not_intro unwraps)

theorem mountDone_of_bad_geometry (geometry : geometryOk (showGeometry s) = false) :
    mountDone s o = fset (fput (showGeometry s) F.FLS_STAT_STATE 0 4) F.FLS_ERR_GEOMETRY 0 := by
  rw [mountDone, if_neg (not_not_intro mounting)]
  exact if_pos (by simp [geometry])

end

/-! ### Journal pages and checkpoints (R412-R414) -/

/-- A half whose oldest entries, up to 1,020, have been programmed. -/
def paged (x : FlsHalf) : FlsHalf :=
  { x with jr := x.jr.drop 1020, jt := x.jt.drop 1020, jp := x.jp + (x.jr.take 1020).length }

/-- A journal page with the oldest entries of a half is on the media. -/
def pageProgrammed (s : State) (h : Nat) : State :=
  flsMed { s with flash := { s.flash with half := nput (fun _ => {}) s.flash.half h (paged (flsHalf s h)) } }
    (fun m => { m with pages := nupd (fun _ => []) m.pages h (· ++ [(flsHalf s h).jr.take 1020]) })

theorem flsHalf_pageProgrammed_self (s : State) (h : Nat) : flsHalf (pageProgrammed s h) h = paged (flsHalf s h) := nget_nput_self ..

theorem pages_pageProgrammed_self (s : State) (h : Nat) : nget (fun _ => []) (pageProgrammed s h).flash.media.pages h =
    nget (fun _ => []) s.flash.media.pages h ++ [(flsHalf s h).jr.take 1020] :=
  nget_nupd_self (fun _ => []) s.flash.media.pages h (· ++ [(flsHalf s h).jr.take 1020])

theorem journalPage_of_due {s : State} {h : Nat} (up : flashUp s = true) (waits : (flsHalf s h).jr ≠ [])
    (due : journalDue s h = true) : journalPage s h = pageProgrammed s h := by
  rw [journalPage]
  exact if_neg (by simp [up, due, waits])

/-- Where a checkpoint puts its root record: the place that the newest one does not hold (R414). -/
def rootPlace (s : State) : Nat := match newest s.flash.media.roots with
  | some (0, _) => 1
  | _ => 0

theorem rootPlace_ne_newest {s : State} {e : Nat × FlsRoot} (holds : newest s.flash.media.roots = some e) : rootPlace s ≠ e.1 := by
  obtain ⟨place, root⟩ := e
  rw [rootPlace, holds]
  cases place with
  | zero => exact Nat.one_ne_zero
  | succ place => exact (Nat.succ_ne_zero place).symm

theorem nfind_roots_checkpoint (s : State) (h : Nat) (clean : Bool) :
    nfind (checkpoint s h clean).flash.media.roots (rootPlace s) = some (nextRoot s h clean) := nfind_nset_self ..

theorem flsHalf_checkpoint_self (s : State) (h : Nat) (clean : Bool) :
    flsHalf (checkpoint s h clean) h = { flsHalf s h with ckptT := timeMs s } := nget_nput_self ..

theorem checkpoint_map (s : State) (h : Nat) (clean : Bool) : (checkpoint s h clean).flash.map = s.flash.map := rfl

theorem exec_checkpointTimer_of_due {s : State} {h : Fin 2} (up : flashUp s = true) (due : checkpointDue s h = true) :
    exec (.checkpointTimer h) s = .next (checkpoint s h false) := by
  change execCheckpointTimer h s = _
  rw [execCheckpointTimer, if_pos (by simp [up, due])]

/-! ### Unit reads and programs (R405-R407, R413) -/

section
variable {s : State} {k : Nat} (unit : k < 2 ^ 40) (up : flashUp s = true)
include unit up

/-- A unit that is on the media and whose map line is good is read from its block. -/
theorem unitRead_of_present (line : synOk s (flsEntAddr s k) = true) (present : readLoc s k < flsLOST) (worst total : Nat)
    (good : Option Nat) :
    unitRead s k worst total good =
      let b := locBlk k (readLoc s k)
      let v := readEffects s b worst total (goodAt s k good)
      if (goodAt s k good).isNone then uncorrectable v k b else markRead v k := by
  have goodLine : mapLineCheck s k = s := if_pos line
  rw [unitRead, Nat.mod_eq_of_lt unit]
  dsimp only
  rw [if_neg (by simp [up]), goodLine, if_neg (by omega), if_neg (by omega)]

/-- The data of a unit that waits go to the next page for writes of its channel. -/
theorem unitProgram_of_written {b page : Nat} (waits : writing s k = true) (mounted : fget s F.FLS_STAT_STATE 0 = 2)
    (source : sourceFails s k = false) (next : nextPage s (k % 16) 1 = some (b, page)) :
    unitProgram s k true = written (tgtOk (usePage s b page 1) b) k (b % 2 ^ 20 * 4096 + page) := by
  have own : decide (2 ^ 40 ≤ k) = false := by simpa using unit
  have known : decide (2 ^ 41 ≤ k) = false := decide_eq_false (by omega)
  rw [unitProgram, Nat.mod_eq_of_lt unit, own, known]
  dsimp only
  rw [if_neg (by simp [up, waits, mounted, source])]
  simp only [next, Bool.false_eq_true, if_false, Bool.not_true]

end

/-! ### Erases and target timeouts (R426, R427) -/

/-- A block that is empty, journaled and unread is erased: it is free, worn once more, and its channel is done with it. -/
theorem blockErase_of_empty {s : State} {k kind : Nat} (up : flashUp s = true)
    (work : nfind s.flash.work (k / 2 ^ 32) = some (kind, k)) (kept : kind ≠ 3) (empty : blkValid s k = [])
    (journaled : (flsBlk s k).chg ≤ (flsHalf s (k / 2 ^ 32 / 8)).jp) (unread : readsHold s k = false) :
    flsBlk (blockErase s k true) k = { erases := (flsBlk s k).erases + 1 } ∧
      nfind (blockErase s k true).flash.work (k / 2 ^ 32) = none := by
  rw [blockErase, work]
  dsimp only
  rw [if_neg (by simpa [kept, empty, unread, up] using journaled), if_neg (by decide)]
  refine ⟨?_, ?_⟩
  · rw [flsBlk_congr (congrArg (fun f : Flash => f.media.blk) (flsStat_flash ..))]
    exact flsBlk_flsBlkPut_self ..
  · rw [flsStat_flash]
    exact nfind_nerase_self ..

/-- One more timeout in a row of a target has been counted. -/
def timeoutCounted (s : State) (t : Nat) : State :=
  { s with flash := { s.flash with late := nput (fun _ => 0) s.flash.late t (nget (fun _ => 0) s.flash.late t + 1) } }

theorem late_timeoutCounted_self (s : State) (t : Nat) :
    nget (fun _ => 0) (timeoutCounted s t).flash.late t = nget (fun _ => 0) s.flash.late t + 1 :=
  nget_nput_self (fun _ => 0) s.flash.late t (nget (fun _ => 0) s.flash.late t + 1)

/-- The first and the second timeout in a row only count. -/
theorem targetTimeout_of_early {s : State} {ch tgt : Nat} (up : flashUp s = true) (alive : (16 * ch + tgt) ∉ s.flash.media.failed)
    (present : tgt < (flsChan s ch).targets) (early : nget (fun _ => 0) s.flash.late (16 * ch + tgt) < 2) :
    targetTimeout s ch tgt = timeoutCounted s (16 * ch + tgt) := by
  rw [targetTimeout, if_neg (by simp [up, alive, present])]
  exact if_pos (by omega)

/-! ### Reclaim and refresh (R419, R424) -/

theorem nfind_work_workOn (s : State) (ch kind k : Nat) : nfind (workOn s ch kind k).flash.work ch = some (kind, k) :=
  nfind_nset_self ..

/-- A channel that is called to reclaim. -/
def reclaimCalled (s : State) (ch : Nat) : State :=
  { s with flash := { s.flash with reclaiming := nput (fun _ => false) s.flash.reclaiming ch true } }

/-- Reclaim that is called for begins with the block picked, unless it is off, the channel works, or a refresh goes first. -/
theorem flashReclaim_of_want {s : State} {ch : Nat} (want : (decide (chFree s ch < fget s F.FLS_RECLAIM_FREE_LOW 0) ||
      (nget (fun _ => false) s.flash.reclaiming ch && decide (chFree s ch < fget s F.FLS_RECLAIM_FREE_HIGH 0))) = true) :
    flashReclaim s ch =
      if !flashUp s || !true || !(fbit s F.FLS_CTL_RECLAIM_EN 0 || decide (chFree s ch ≤ 2)) || (nfind s.flash.work ch).isSome ||
        (refreshPick (reclaimCalled s ch) ch).isSome then reclaimCalled s ch
      else match reclaimPick (reclaimCalled s ch) ch with
        | none => reclaimCalled s ch
        | some k => workOn (reclaimCalled s ch) ch 1 k := by
  rw [flashReclaim]
  dsimp only
  rw [want]
  rfl

/-- Below FREE_LOW an idle channel with nothing to refresh reclaims the block it picks. -/
theorem flashReclaim_of_low {s : State} {ch k : Nat} (up : flashUp s = true) (idle : nfind s.flash.work ch = none)
    (low : chFree s ch < fget s F.FLS_RECLAIM_FREE_LOW 0)
    (enabled : fbit s F.FLS_CTL_RECLAIM_EN 0 = true) (noRefresh : refreshPick (reclaimCalled s ch) ch = none)
    (pick : reclaimPick (reclaimCalled s ch) ch = some k) :
    flashReclaim s ch = workOn (reclaimCalled s ch) ch 1 k := by
  rw [flashReclaim_of_want (by simp [low]), if_neg (by simp [up, enabled, idle, noRefresh]), pick]

theorem exec_blockRefresh_of_pick {s : State} {ch : Fin 16} {kind k : Nat} (up : flashUp s = true)
    (idle : nfind s.flash.work ch = none) (pick : refreshPick s ch = some (kind, k)) :
    exec (.blockRefresh ch) s = .next (workOn s ch kind k) := by
  change execBlockRefresh ch s = _
  rw [execBlockRefresh, if_neg (by simp [up, idle]), pick]

/-! ### Patrol (R424) -/

/-- When the channels' passes began, once the channel's patrol reads block `k`: its pass begins now, unless it goes on. -/
def passBegun (s : State) (ch k : Nat) : NMap Nat :=
  if (!s.flash.due.contains k && decide (k ≤ nget (fun _ => 0) s.flash.patrol ch)) || (nfind s.flash.passT ch).isNone then
    nset s.flash.passT ch (timeMs s) else s.flash.passT

/-- The patrol of a channel has come to block `k`. -/
def patrolAt (s : State) (ch k : Nat) : State :=
  { s with flash := { s.flash with
    patrol := nset s.flash.patrol ch k, passT := passBegun s ch k, due := s.flash.due.filter (· != k) } }

theorem passBegun_of_no_command {s : State} (noCommand : s.flash.due = []) (ch k : Nat) :
    passBegun s ch k = if k ≤ nget (fun _ => 0) s.flash.patrol ch ∨ nfind s.flash.passT ch = none then
      nset s.flash.passT ch (timeMs s) else s.flash.passT := by
  simp [passBegun, noCommand]

theorem patrolAt_of_no_command {s : State} (noCommand : s.flash.due = []) (ch k : Nat) :
    patrolAt s ch k = { s with flash := { s.flash with patrol := nset s.flash.patrol ch k, passT := passBegun s ch k } } := by
  have none : s.flash.due.filter (· != k) = s.flash.due := by rw [noCommand]; rfl
  rw [patrolAt, none]

/-- A good patrol read of an otherwise idle channel, with no PATROL command under way, leaves its effects and ages the block. -/
theorem patrol_of_good {s : State} {ch k lvl : Nat} {good : Option Nat} (up : flashUp s = true) (next : patrolNext s ch = some k)
    (noCommand : s.flash.due = []) (idle : chBusy s ch = false) (reads : goodAt s ch good = some lvl) (worst total : Nat) :
    patrol s ch worst total good =
      let v := readEffects (patrolAt s ch k) k worst total (some lvl)
      if (flsBlk s k).closed + fget v F.FLS_REFRESH_RETAIN_DAYS 0 * 86400000 < timeMs v then queueRefresh v k 2 else v := by
  rw [patrol, reads]
  dsimp only
  rw [if_neg (by simp [up, idle]), next]
  exact if_neg (by simp [noCommand])

/-- Settles O43: each event takes one branch of its function, which the lemmas above name; what it leaves is read off from them. -/
theorem flashOperationsComplete : Obligations.FlashOperationsComplete := by
  intro s h ch tgt o k worst total lvl page good r
  refine ⟨?mount, ?badGeometry, fun up => ⟨?journal, ?checkpoint, ?read, ?program, ?erase, ?timeout, ?relocate, ?patrol⟩⟩
  case mount =>
    intro mounting geometry root unwraps
    refine ⟨_, congrArg Host.Outcome.next (mountDone_of_root mounting geometry root unwraps), ?_, ?_⟩
    · rw [flsMounted_map, mountCount_map, restore_map]
    · rw [flsMounted_keys, mountCount_keys, restore_mediaKey, showGeometry_flash]
  case badGeometry =>
    intro mounting geometry
    exact congrArg Host.Outcome.next (mountDone_of_bad_geometry mounting geometry)
  case journal =>
    intro waits due
    exact ⟨_, congrArg Host.Outcome.next (journalPage_of_due up waits due), flsHalf_pageProgrammed_self ..,
      pages_pageProgrammed_self ..⟩
  case checkpoint =>
    intro due
    exact ⟨_, rootPlace s, exec_checkpointTimer_of_due up due, nfind_roots_checkpoint .., fun e => rootPlace_ne_newest,
      flsHalf_checkpoint_self .., checkpoint_map ..⟩
  case read =>
    intro unit line present
    have ends := unitRead_of_present unit up line present worst total good
    exact ⟨fun reads => congrArg Host.Outcome.next (ends.trans (by rw [reads]; rfl)),
      fun fails => congrArg Host.Outcome.next (ends.trans (by rw [fails]; rfl))⟩
  case program =>
    intro b unit waits mounted source next
    exact congrArg Host.Outcome.next (unitProgram_of_written unit up waits mounted source next)
  case erase =>
    intro kind work kept empty journaled unread
    exact ⟨_, rfl, blockErase_of_empty up work kept empty journaled unread⟩
  case timeout =>
    intro alive present early
    exact ⟨_, congrArg Host.Outcome.next (targetTimeout_of_early up alive present early), late_timeoutCounted_self ..⟩
  case relocate =>
    intro idle
    refine ⟨fun v called low enabled noRefresh pick => ?_, fun kind pick => ?_⟩
    · rw [called] at noRefresh pick
      exact ⟨_, congrArg Host.Outcome.next (flashReclaim_of_low up idle low enabled noRefresh pick), nfind_work_workOn ..⟩
    · exact ⟨_, exec_blockRefresh_of_pick up idle pick, nfind_work_workOn ..⟩
  case patrol =>
    intro next noCommand idle reads
    have ends := patrol_of_good up next noCommand idle reads worst total
    rw [patrolAt_of_no_command noCommand, passBegun_of_no_command noCommand] at ends
    exact congrArg Host.Outcome.next ends

end Sys2Proof.Machine
end

section
/-!
The statement of 18_security.md on quotes (R664), key commands (R669-R672) and the test port (R671).
-/

namespace Sys2Proof.Machine

/-! ### Quotes (R664, R665) -/

theorem exec_secQuote_ready {s : State} (reach : hostReach s = true) (ready : fget s F.GLB_STAT_PHASE 0 = 12) {val : Word}
    (go : bbit val 0 = true) (idle : fbit s F.SEC_QUOTE_BUSY 0 = false) :
    exec (.secQuote val) s = .next (fset { s with sec := { s.sec with quote := some (quoteMsg s) } } F.SEC_QUOTE_BUSY 0) := by
  change execSecQuote val s = _
  rw [execSecQuote, regGate, hostGate_open reach (.inl ready), secQuote, if_neg (by simp [go, idle])]

/-- The words of the signature written in turn. -/
def signedWords (s : State) (m : List Byte) (n : Nat) : State :=
  (List.range n).foldl (fun s n => rput s .SEC_SIG n (Config.signature s.keys.identity m s.fresh n)) s

theorem quoteDone_of_quote {s : State} {m : List Byte} (quote : s.sec.quote = some m) :
    quoteDone s = bump (fput { signedWords s m 12 with sec := { (signedWords s m 12).sec with quote := none } } F.SEC_QUOTE_BUSY 0 0) := by
  rw [quoteDone, quote]
  rfl

theorem signedWords_keys (s : State) (m : List Byte) (n : Nat) : (signedWords s m n).keys = s.keys := by
  unfold signedWords
  exact foldl_leaves State.keys (fun _ _ => rput_keys) _ s

theorem signedWords_fresh (s : State) (m : List Byte) (n : Nat) : (signedWords s m n).fresh = s.fresh := by
  unfold signedWords
  exact foldl_leaves State.fresh (fun _ _ => rput_fresh) _ s

/-- Every word of a signature is made with the key and the draw that stood before the first. -/
theorem rword_signedWords (s : State) (m : List Byte) {n k : Nat} (inside : n < k) (few : k ≤ 65536) :
    rword (signedWords s m k) .SEC_SIG n = Config.signature s.keys.identity m s.fresh n := by
  rw [signedWords, rword_foldl_rput .SEC_SIG (fun t n => Config.signature t.keys.identity m t.fresh n) s inside few]
  exact congrArg₂ (fun (k : Keys) d => Config.signature k.identity m d n) (signedWords_keys s m n) (signedWords_fresh s m n)

/-! ### Key commands (R669, R670, R672) -/

theorem exec_zeroise_of_confirm {s : State} (runs : secHead s 1 = some 0xC9C9) : exec .zeroise s = .next (zeroised s) := by
  change execZeroise s = _
  rw [execZeroise, runs]
  exact congrArg Host.Outcome.next (if_pos rfl)

theorem exec_eraseMedia_of_free {s : State} {c : Nat} (runs : secHead s 2 = some c)
    (free : fget s F.FLS_STAT_STATE 0 = 4 ∨ (flashUp s = true ∧ slowFree s 2 = flashFrames s)) (geometry : geometryOk s = true) :
    exec .eraseMedia s =
      .next (secDone (flsMounted (flsLog (flsFormat s true) (fun l => { powerOn := l.powerOn, hist := l.hist }))) 0) := by
  change execEraseMedia s = _
  rw [execEraseMedia, runs]
  dsimp only
  rw [formatRefuses_eq_false free geometry]
  rfl

/-- A token that the host delivers decides: one that verifies opens the chains and clears the keys, another ends STATE (R672). -/
theorem exec_debugUnlock_of_token {s : State} {c : Nat} (runs : secHead s 3 = some c)
    (delivered : hostFails s (fget s F.SEC_TOKEN_ADDR 0 * 64) 128 = false) :
    exec .debugUnlock s = .next (if Config.tokenVerifies (token s) s.fuse.serial ((List.range 4).map (rword s .SEC_NONCE)) = true
      then zeroised { s with fuse := { s.fuse with debugged := true }, sec := { s.sec with chains := 1 } } else secDone s 1) := by
  change execDebugUnlock s = _
  rw [execDebugUnlock, runs]
  dsimp only
  cases verifies : Config.tokenVerifies (token s) s.fuse.serial ((List.range 4).map (rword s .SEC_NONCE)) with
  | true => rw [if_neg (by simp [delivered]), if_pos rfl]
  | false => rw [if_pos (by simp), if_neg (by decide)]

theorem fget_BUSY_secDone (s : State) (res : Nat) : fget (secDone s res) F.SEC_CMD_STAT_BUSY 0 = 0 :=
  fget_fput_self _ F.SEC_CMD_STAT_BUSY 0 0 (by decide)

/-- RESULT of a command that ends: BUSY shares no bit with it. -/
theorem fget_RESULT_secDone (s : State) (res : Nat) :
    fget (secDone s res) F.SEC_CMD_STAT_RESULT 0 = res % 2 ^ F.SEC_CMD_STAT_RESULT.w := by
  rw [secDone, fget_fput_field (f := F.SEC_CMD_STAT_BUSY) (g := F.SEC_CMD_STAT_RESULT) _ _ rfl (by decide) (by decide),
    fget_fput_self _ _ _ _ (by decide)]

/-! ### The test port (R671) -/

theorem exec_extest_in_reset {s : State} (reset : s.pins.sysRst = true) (pins : List Bool) :
    exec (.extest pins) s = .next { s with pins := { s.pins with extest := some pins } } := by
  change execExtest pins s = _
  rw [execExtest, if_pos reset]

theorem exec_extest_out_of_reset {s : State} (running : s.pins.sysRst = false) (pins : List Bool) (code : Nat) :
    exec (.extest pins) s = exec (.bypass code) s := by
  change execExtest pins s = execBypass code s
  rw [execExtest, execBypass, if_neg (by simp [running])]

/-- Settles O58: each command takes its one branch, which the lemmas above name; BYPASS, IDCODE and SAMPLE/PRELOAD have no other. -/
theorem securityAndTestPortComplete : Obligations.SecurityAndTestPortComplete := by
  intro s v w val c code m pins
  refine ⟨?quote, ?signed, exec_zeroise_of_confirm, ?zeroised, ?erase, ?unlock, ?ends, rfl, rfl, rfl,
    fun reset => exec_extest_in_reset reset pins, fun running => exec_extest_out_of_reset running pins code⟩
  case quote =>
    intro reach ready go idle
    refine ⟨_, exec_secQuote_ready reach ready go idle, rfl, ?_⟩
    exact beq_iff_eq.2 (fget_fset_self _ _ (by decide) (by decide))
  case signed =>
    intro quote
    refine ⟨_, congrArg Host.Outcome.next (quoteDone_of_quote quote), rfl, ?_, fun n inside => ?_⟩
    · exact congrArg (· == 1) (fget_fput_self _ F.SEC_QUOTE_BUSY 0 0 (by decide))
    · have other : Reg.SEC_QUOTE ≠ .SEC_SIG := nofun
      exact (rword_rput_ne _ _ (.inl other)).trans (rword_signedWords s m inside (by decide))
  case zeroised => exact fun notice => ⟨by rw [notice]; rfl, rfl⟩
  case erase =>
    intro runs free geometry formatted mounted
    rw [mounted, formatted]
    exact exec_eraseMedia_of_free runs free geometry
  case unlock =>
    intro runs delivered opened
    rw [opened]
    exact exec_debugUnlock_of_token runs delivered
  case ends =>
    intro done
    rw [done]
    exact ⟨rfl, congrArg (· == 1) (fget_BUSY_secDone s c), fget_RESULT_secDone s c⟩

end Sys2Proof.Machine
end

section
/-!
The statements of 00_scope.md on what a step does to the queue, the fuses and the boot images (R618, R661, R672).
-/

namespace Sys2Proof.Machine

/-- Settles O1: a step takes the command off the front of the queue and runs it. -/
theorem stepRunsTheFrontCommand : Obligations.StepRunsTheFrontCommand := fun _ _ _ => rfl

theorem exec_pending {c : Instr} {s u : State} (run : exec c s = .next u) : u.pending = s.pending := (exec_frame c s u run).pending

/-- Settles O3: every command answers (`exec_next`), and the queue is among what every operation keeps (`exec_frame`). -/
theorem everyCommandLeavesTheQueue : Obligations.EveryCommandLeavesTheQueue := by
  intro c s
  obtain ⟨u, run⟩ := exec_next c s
  exact ⟨u, run, exec_pending run⟩

/-- Settles O7: every operation of the device keeps the boot images, and the fuses but for the debugged mark (`step_keeps`). -/
theorem fusesAndBootImagesArePermanent : Obligations.FusesAndBootImagesArePermanent := by
  intro s u run
  obtain ⟨_, keeps⟩ := step_keeps run
  exact ⟨keeps.image0, keeps.image1, keeps.fuse⟩

end Sys2Proof.Machine
end

section
/-!
The statement of 04_sirec_isa.md on scalar immediates (R129, R131).
-/

namespace Sys2Proof.Machine

section
variable {s : State} {t : Nat} {b : BitVec 54} (runs : issues (til s t) b)
include runs

/-- Format I with one source that issues: rd holds the operation's result with IMM sign-extended. -/
theorem aluI_of_issues (rb : fRB b = 0) (pd : fPD b = 0) (high : fI32 b = 0) (free : freeS (til s t) [fRD b, fRA b] = true) (op : Nat)
    (f : Word → Word → Word) : aluI s t op b f =
      tput s t (advPc (sset (til s t) (fRD b) (f (sreg (til s t) (fRA b)) ((BitVec.ofNat 32 (fIMM b)).signExtend 64)))) := by
  rw [aluI, fIMMs_eq_signExtend]
  exact issue_of_issues runs (by simp [rb, pd, high]) free

/-- A shift by an immediate below 64 that issues. -/
theorem shiftI_of_issues (rb : fRB b = 0) (pd : fPD b = 0) (high : fI32 b = 0) (small : fIMM b < 64)
    (free : freeS (til s t) [fRD b, fRA b] = true) (op : Nat) (f : Word → Nat → Word) :
    shiftI s t op b f = tput s t (advPc (sset (til s t) (fRD b) (f (sreg (til s t) (fRA b)) (fIMM b)))) := by
  rw [shiftI, Nat.mod_eq_of_lt small]
  exact issue_of_issues runs (by simp [rb, pd, high, Nat.div_eq_of_lt small]) free

end

/-- A word put together from a high and a low half. -/
theorem w64_halves (n : Nat) (w : Word) : w64 (n * 2 ^ 32 + w.toNat % 2 ^ 32) = BitVec.ofNat 32 n ++ w.setWidth 32 := by
  apply BitVec.eq_of_toNat_eq
  have low : w.toNat % 2 ^ 32 < 2 ^ 32 := Nat.mod_lt _ (by decide)
  rw [w64, BitVec.toNat_append, BitVec.toNat_setWidth, BitVec.toNat_ofNat, BitVec.toNat_ofNat, Nat.shiftLeft_eq, Nat.mul_comm _ (2 ^ 32),
    Nat.mul_comm _ (2 ^ 32), ← Nat.two_pow_add_eq_or_of_lt low]
  omega

/-- Settles O10: each operation issues through one of two forms or alone, which write its result to rd. -/
theorem scalarImmediateResults : Obligations.ScalarImmediateResults := by
  intro s t b runs rb pd high free x p imm gives
  obtain ⟨freeD, -⟩ : awaitS x (fRD b) = false ∧ awaitS x (fRA b) = false := by simpa using free
  have alu {c : Instr} (op : Nat) (f : Word → Word → Word) (h : exec c s = .next (aluI s t op b f)) : gives c (f p imm) :=
    h.trans (congrArg Host.Outcome.next (aluI_of_issues runs rb pd high free op f))
  refine ⟨alu _ _ rfl, alu _ _ rfl, alu _ _ rfl, alu _ _ rfl, fun small => ?shifts, fun ra => ?loads⟩
  case shifts =>
    have shift {c : Instr} (op : Nat) (f : Word → Nat → Word) (h : exec c s = .next (shiftI s t op b f)) : gives c (f p (fIMM b)) :=
      h.trans (congrArg Host.Outcome.next (shiftI_of_issues runs rb pd high small free op f))
    exact ⟨shift _ _ rfl, shift _ _ rfl, shift _ _ rfl⟩
  case loads =>
    have loads {c : Instr} {op : Nat} {v : Tiller → Word} {w : Word} (h : exec c s = .next (issue s t op b false (zeros [fRA b, fRB b, fPD b, fI32 b])
        (freeS x [fRD b]) (fun s => tupd s t (fun x => advPc (sset x (fRD b) (v x)))))) (e : v x = w) : gives c w := by
      rw [← e]
      exact h.trans (congrArg Host.Outcome.next (issue_of_issues runs (by simp [ra, rb, pd, high]) (by simp [freeD])))
    exact ⟨loads rfl (fIMMs_eq_signExtend b), loads rfl (w64_halves _ _)⟩

end Sys2Proof.Machine
end

section
/-!
The statement of 11_fabric_transport.md on arriving packets (R434, R440, R442, R453-R468, R503).
-/

namespace Sys2Proof.Machine

/-! ### Arrival (R434, R440) -/

/-- A frame without a fault and without CE passes its port as it is. -/
theorem frameIn_of_good {s : State} {m : RxMeta} (good : m.fault = 0) (unmarked : m.ce = false) : frameIn s m = (s, true) := by
  rw [frameIn, frameIn.fsetCe, unmarked, if_neg Bool.false_ne_true, if_pos good]

/-- A frame that fails its FCS is dropped, and counted at its port. -/
theorem frameIn_of_bad_fcs {s : State} {m : RxMeta} (bad : m.fault = 1) (unmarked : m.ce = false) :
    frameIn s m = (dropped (fadd1 s F.FAB_PORT_CNT_FCS_ERR m.port 1), false) := by
  rw [frameIn, frameIn.fsetCe, unmarked, if_neg Bool.false_ne_true, if_neg (by simp [bad]), if_pos bad]

theorem policed_of_off {s : State} {m : RxMeta} (off : fbit s F.SHP_PORT_CTL_POLICE_EN m.port = false) (c typ : Nat) :
    policed s m c typ = (s, true, m.ce) := by
  rw [policed, off, if_pos (by simp)]

/-- A packet with a new PSN of the window, on a device that is READY, does its work unless that has to wait, and is acknowledged (R463). -/
theorem dataPkt_of_new {s w : State} {r : Rx} {peer typ : Nat} {ce d : Bool} {k : State → Nat → Pkt → Verdict × Bool} {q : Verdict}
    (arrived : arriveAt s r typ = (w, some (peer, ce))) (ready : fget w F.GLB_STAT_PHASE 0 = 12)
    (window : psnAbove r.p.psn (rxPsn w peer) < 4096) (new : r.p.psn ∉ (px w peer).got)
    (work : k w peer { r.p with typ := typ } = (q, d)) (goes : q.wait = false) :
    dataPkt s r typ k = rxDone q.s peer { r.p with typ := typ } ce q d := by
  have serving : starting w = false := by rw [starting, ready]; rfl
  have inside : ¬ (4096 ≤ psnAbove r.p.psn (rxPsn w peer) ∧ psnAbove r.p.psn (rxPsn w peer) < 2 ^ 31) := fun h => by omega
  have fresh : ¬ (2 ^ 31 ≤ psnAbove r.p.psn (rxPsn w peer) ∨ (px w peer).got.contains r.p.psn = true) := by
    rintro (above | seen)
    · omega
    · exact new (List.contains_iff_mem.1 seen)
  rw [dataPkt, arrived]
  dsimp only
  rw [if_neg inside, if_neg fresh, serving, Bool.false_and, if_neg Bool.false_ne_true, work]
  exact if_neg (by simp [goes])

section
variable {s : State} {r : Rx} {peer : Nat} (good : r.m.fault = 0) (unmarked : r.m.ce = false) (accepts : fbit s F.FAB_CTL_ACCEPT 0 = true)
  (known : peerOf s r.p.src = some peer) (wellFormed : r.ok = true) (unpoliced : fbit s F.SHP_PORT_CTL_POLICE_EN r.m.port = false)
include good unmarked accepts known wellFormed unpoliced

/-- A good packet of a known peer counts in FAB_PKTS.RX and is let in. -/
theorem arriveAt_of_good (typ : Nat) : arriveAt s r typ = (fadd1 s F.FAB_PKTS_RX 0 1, some (peer, false)) := by
  rw [arriveAt, frameIn_of_good good unmarked]
  simp only [accepts, known, wellFormed, policed_of_off unpoliced, unmarked]
  rfl

/-- A packet without a PSN does its work at once. -/
theorem plainPkt_of_good (typ : Nat) (k : State → Nat → State) : plainPkt s r typ k = k (fadd1 s F.FAB_PKTS_RX 0 1) peer := by
  rw [plainPkt, arriveAt_of_good good unmarked accepts known wellFormed unpoliced]

end

/-- A PROBE_REPLY of a DOWN peer sets it UP with half its rate (R442, R468). -/
theorem probeReplyIn_of_down {s u : State} {peer : Nat} (stopped : u = pxUpd s peer (fun x => { x with probing := false }))
    (down : pState u peer = 2) :
    probeReplyIn s peer = peerReset (pfPut u peer 23 1 1) peer (max (fget u F.FAB_RATE0_MIN 0) (pRate u peer / 2)) := by
  subst stopped
  exact if_pos down

/-! ### Frames of another kind (R434, R440) -/

section
variable {s : State} {f : RxFrame} (good : f.m.fault = 0) (unmarked : f.m.ce = false)
include good unmarked

/-- A frame of another kind goes to the host's receive ring while HOST_RX is 1, and is dropped else. -/
theorem frameReceive_of_foreign (foreign : f.forUs = false) : frameReceive s f = if fbit s F.FAB_CTL_HOST_RX 0 = true then
    rxFrame s { kind := 1, port := f.m.port, time := if f.ptp then s.gtime * 16 / 1000000000 else 0 } f.frame else dropped s := by
  rw [frameReceive, frameIn_of_good good unmarked, foreign]
  rfl

/-- A frame for this device with a reserved TYPE is answered MALFORMED. -/
theorem frameReceive_of_reserved_type {peer : Nat} (ours : f.forUs = true) (accepts : fbit s F.FAB_CTL_ACCEPT 0 = true)
    (known : peerOf s f.p.src = some peer) :
    frameReceive s f = sendNack (fset (fadd1 s F.FAB_PKTS_RX 0 1) F.FAB_ERR_MALFORMED_RX 0) peer f.p fsMALFORMED 0 0 := by
  rw [frameReceive, frameIn_of_good good unmarked]
  simp only [ours, accepts, known]
  rfl

end

theorem frameReceive_of_bad_fcs {s : State} {f : RxFrame} (bad : f.m.fault = 1) (unmarked : f.m.ce = false) :
    frameReceive s f = fadd1 (fadd1 s F.FAB_PORT_CNT_FCS_ERR f.m.port 1) F.FAB_LOSS_DROPPED 0 1 := by
  rw [frameReceive, frameIn_of_bad_fcs bad unmarked]
  rfl

/-- Settles O45: a good packet comes in by `arriveAt_of_good` and then does its type's work, with the acknowledgement of `dataPkt` when it
carries a PSN; a frame of another kind takes its branch of `frameReceive`. -/
theorem packetsTakeTheirEffect : Obligations.PacketsTakeTheirEffect := by
  intro s r f peer w as
  refine ⟨fun good unmarked accepts known wellFormed unpoliced => ?packets, fun unmarked => ⟨?toHost, ?dropped, ?reserved, ?fcs⟩⟩
  case packets =>
    have plain (typ : Nat) (k : State → Nat → State) : plainPkt s r typ k = k w peer :=
      plainPkt_of_good good unmarked accepts known wellFormed unpoliced typ k
    refine ⟨fun ready window new => ?psn, congrArg _ (plain _ _), congrArg _ (plain _ _), congrArg _ (plain _ _), congrArg _ (plain _ _),
      congrArg _ (plain _ _), fun u stopped down => congrArg _ ((plain _ _).trans (probeReplyIn_of_down stopped down))⟩
    have data {typ : Nat} {k : State → Nat → Pkt → Verdict × Bool} {q : Verdict} {d : Bool} (work : k w peer (as typ) = (q, d))
        (goes : q.wait = false) : dataPkt s r typ k = rxDone q.s peer (as typ) false q d :=
      dataPkt_of_new (arriveAt_of_good good unmarked accepts known wellFormed unpoliced _) ready window new work goes
    exact ⟨fun q d work goes => congrArg _ (data work goes), fun q d work goes => congrArg _ (data work goes),
      fun q d work goes => congrArg _ (data work goes), fun q d work goes => congrArg _ (data work goes)⟩
  case toHost =>
    exact fun good foreign taken => congrArg _ ((frameReceive_of_foreign good unmarked foreign).trans (if_pos taken))
  case dropped =>
    exact fun good foreign closed => congrArg _ ((frameReceive_of_foreign good unmarked foreign).trans (if_neg (by simp [closed])))
  case reserved =>
    exact fun good ours accepts known => congrArg _ (frameReceive_of_reserved_type good unmarked ours accepts known)
  case fcs => exact fun bad => congrArg _ (frameReceive_of_bad_fcs bad unmarked)

end Sys2Proof.Machine
end

section
/-!
The statement of 11_fabric_transport.md on the transport's timers (R442, R444, R454, R459, R460, R464-R469) and of 05_contexts.md on
the messages of the context service (R44, R184, R462).
-/

namespace Sys2Proof.Machine

/-! ### Packets that were not acknowledged (R465-R468) -/

section
variable {s : State} {peer psn : Nat} {u : Unacked} (outstanding : unOf s peer psn = some u)
include outstanding

theorem exec_reorderTimer_of_late (once : u.again = false) (late : u.later = true) (accepted : u.rnrWait = false) :
    exec (.reorderTimer peer psn) s = .next (again (pathLoss s peer u.path) peer psn id) := by
  change execReorderTimer peer psn s = _
  rw [execReorderTimer, outstanding]
  exact congrArg _ (if_pos (by simp [once, late, accepted]))

theorem exec_rnrRetry_of_refused (refused : u.rnrWait = true) :
    exec (.rnrRetry peer psn) s = .next (again s peer psn (fun u => { u with rnrWait := false })) := by
  change execRnrRetry peer psn s = _
  rw [execRnrRetry, outstanding]
  exact congrArg _ (if_pos refused)

/-- An expiry below RETRY_MAX: the path loses, the rate is halved, and the packet goes again with a longer timer. -/
theorem rtoExpiry_of_few {l r v : State} (once : u.again = false) (accepted : u.rnrWait = false) (lost : l = pathLoss s peer u.path)
    (slowed : r = pfPut (pfPut (pfPut (pfPut l peer 24 4 (max (fget l F.FAB_RATE0_MIN 0) (pRate l peer / 2))) peer 28 4 65536) peer 33 1 0)
      peer 32 1 0)
    (fresh : v = pxUpd r peer (fun x => { x with acked := 0, c := 0, cT := r.now }))
    (few : u.expiries + 1 < fget v F.FAB_TIMER0_RETRY_MAX 0) : rtoExpiry s peer psn =
      again v peer psn (fun u => { u with expiries := u.expiries + 1, rto := min (2 * u.rto) (fget v F.FAB_TIMER0_RTO_MAX_US 0) }) := by
  rw [rtoExpiry, outstanding]
  dsimp only
  rw [if_neg (by simp [once, accepted]), ← lost, ← slowed, ← fresh, if_neg (Nat.not_le.2 few)]

end

/-! ### The message table (R454, R459) -/

theorem rxOf_rxErase_self (s : State) (k : Nat) : rxOf (rxErase s k) k = none := by
  rw [rxOf, rxErase, reap_fab]
  exact nfind_nerase_self ..

section
variable {s : State} {k : Nat} {m : MsgRx} (entry : rxOf s k = some m)
include entry

theorem exec_doneHoldEnd_of_done (done : m.done = true) : exec (.doneHoldEnd k) s = .next (rxErase s k) := by
  change execDoneHoldEnd k s = _
  rw [execDoneHoldEnd, entry]
  exact congrArg _ (if_pos done)

theorem exec_messageIdle_of_open (open_ : m.done = false) : exec (.messageIdle k) s = .next (fset (rxDrop s k) F.FAB_ERR_IDLE_DROP 0) := by
  change execMessageIdle k s = _
  rw [execMessageIdle, entry]
  exact congrArg _ (if_neg (by simp [open_]))

end

/-! ### Peers, paths and rates (R442, R444, R468, R469) -/

theorem exec_peerEnable_of_off {s v : State} {peer : Nat} (listed : peer < peerCount s) (off : pState s peer = 0 ∨ pState s peer = 2)
    (reset : v = peerReset (pfPut (bump s) peer 23 1 1) peer (fget s F.FAB_RATE0_INIT 0)) : exec (.peerEnable peer) s =
      .next (sendProbes (pxUpd (pfPut (pfPut (pfPut v peer 33 1 0) peer 34 2 0) peer 44 4 (choiceOf s 8 % 2 ^ 32)) peer
        (fun x => { x with probing := true, un := [], wait := [] })) peer) := by
  rw [reset]
  exact congrArg _ (if_pos ⟨listed, off⟩)

/-- The rate law without a mark: ALPHA falls by a sixteenth, and the rate grows towards MAX. -/
theorem rateUpdate_of_clean {s v : State} {peer n x : Nat} {a : Int} (alpha : a = pf s peer 28 4) (clean : n = min 255 (pf s peer 33 1 + 1))
    (top : x = fget s F.FAB_RATE1_MAX 0)
    (counted : v = pxPut (pfPut s peer 28 4 (a + (0 - a) / 16).toNat) peer { px s peer with pkts := 0, ce := 0 })
    (some_ : (px s peer).pkts ≠ 0) (unmarked : (px s peer).ce = 0) : rateUpdate s peer =
      pfPut (pfPut v peer 24 4 (if n ≤ 4 then min x (pRate s peer + fget v F.FAB_RATE1_AI 0)
        else min x (pRate s peer + (x - pRate s peer) / 8))) peer 33 1 n := by
  have none_ : ((px s peer).ce : Int) * 65536 / (px s peer).pkts = 0 := by rw [unmarked]; simp
  rw [rateUpdate]
  dsimp only
  rw [if_neg some_, none_, ← alpha, ← counted, if_neg (by simp [unmarked]), ← clean, ← top]

/-! ### The context service (R44, R184, R462) -/

theorem importDone_of_prefill {s : State} {p c pos : Nat} (prefill : cstate s c = stPREFILL) : importDone s p c pos =
    ownerMsg (dmod (memberSeen s c p) c (fun d => ds (ds d D.KV_VALID (if dg (cx s c).d D.KIND = 0 ∧ standalone (memberSeen s c p) = true
      then min pos (dg (cx s c).d D.PROMPT_LEN - 1) else pos)) D.IMPORT_DONE 1)) (cx s c).d 1 0 pos :=
  if_neg (not_not.2 prefill)

section
variable {s w : State} {c : SvcMsg}

theorem exec_importDone_of_named (head : svcHead s 1 = some (c, w)) (names : svcNames w c = true) :
    exec .importDone s = .next (importDone w c.peer c.id c.pos) := by
  change execImportDone s = _
  rw [execImportDone, head]
  exact congrArg _ (if_pos names)

theorem exec_cancelMessage_of_named (head : svcHead s 2 = some (c, w)) (names : svcNames w c = true) : exec .cancelMessage s =
    .next (deviceSend (cancelCtx w c.id).2 3 0 c.peer 2 (ctxMsg 3 (cancelCtx w c.id).1 c.inc c.id 0)) := by
  change execCancelMessage s = _
  rw [execCancelMessage, head]
  exact congrArg _ (if_pos names)

theorem exec_report_of_record (head : svcHead s 3 = some (c, w)) (names : svcNames w c = true) (low : 1 ≤ c.status) (high : c.status ≤ 6) :
    exec .report s = .next (cancelCtx w c.id).2 := by
  change execReport s = _
  rw [execReport, head]
  dsimp only
  rw [names, if_neg (by decide), if_pos ⟨low, high⟩]

theorem exec_hiddenDone_of_prefill (head : svcHead s 4 = some (c, w)) (names : svcNames w c = true) (prefill : cstate w c.id = stPREFILL) :
    exec .hiddenDone s = .next (dmod (memberSeen w c.id c.peer) c.id (fun d => ds d D.HIDDEN_DONE 1)) := by
  change execHiddenDone s = _
  rw [execHiddenDone, head]
  exact congrArg _ (if_pos (by simp [names, prefill]))

/-- IMPORT_KEYED acts on the context of the span region that its key names. -/
theorem exec_importKeyed_of_span (head : svcHead s 5 = some (c, w)) {v : Nat} (entry : v = region w (c.id / 65536)) (live : rgState v = 1)
    (span : rgSpan v = true) (gen : rgGen v = c.id % 65536) (names : named w (rgCtx v) (rgInc v) = true) :
    exec .importKeyed s = .next (importDone w c.peer (rgCtx v) c.pos) := by
  change execImportKeyed s = _
  rw [execImportKeyed, head]
  dsimp only
  rw [← entry, if_pos ⟨live, span, gen, names⟩]

end

/-- Settles O46: each timer and each message takes one branch of its command, which the lemmas above name. -/
theorem transportTimersAndContextMessages : Obligations.TransportTimersAndContextMessages := by
  intro s peer psn k tag path u g m c w
  refine ⟨fun came => congrArg _ (if_pos came), fun outstanding once => ⟨?reorder, ?rnr, ?rto⟩, ?get,
    fun entry => ⟨?hold, exec_messageIdle_of_open entry⟩, fun listed => ⟨?probe, fun v reset off => exec_peerEnable_of_off listed off reset⟩,
    fun off => congrArg _ (if_pos off), ?rate, ?import_, fun head names => exec_cancelMessage_of_named head names,
    fun head names low high => exec_report_of_record head names low high,
    fun head names prefill => exec_hiddenDone_of_prefill head names prefill, ?keyed⟩
  case reorder => exact fun late accepted => exec_reorderTimer_of_late outstanding once late accepted
  case rnr => exact exec_rnrRetry_of_refused outstanding
  case rto =>
    exact fun l r v lost slowed fresh accepted few =>
      congrArg _ (rtoExpiry_of_few outstanding once accepted lost slowed fresh few)
  case get =>
    intro found
    change execGetTimeout tag s = _
    rw [execGetTimeout, found]
  case hold => exact fun done => ⟨_, exec_doneHoldEnd_of_done entry done, rxOf_rxErase_self s k⟩
  case probe => exact fun down => congrArg _ (if_pos ⟨listed, .inl down⟩)
  case rate =>
    exact fun a n x v alpha clean top counted some_ unmarked =>
      congrArg _ (rateUpdate_of_clean alpha clean top counted some_ unmarked)
  case import_ =>
    intro head names prefill
    rw [exec_importDone_of_named head names, importDone_of_prefill prefill]
  case keyed =>
    exact fun v entry head live span gen names => exec_importKeyed_of_span head entry live span gen names

end Sys2Proof.Machine
end

section
/-!
The statement of 11_fabric_transport.md on region commands (R450, R472-R474, R479) and the time base (R433), and of 12_egress_shaping.md
on limiters, ports and gates (R485-R499).
-/

namespace Sys2Proof.Machine

/-! ### The end of a command: result, operand, number, interrupt -/

/-- Two fields of one register that share no bit. -/
def Fld.apart (f g : Fld) : Bool :=
  f.reg == g.reg && decide (f.lo + f.w ≤ 64) && decide (g.lo + g.w ≤ 64) && (decide (g.lo + g.w ≤ f.lo) || decide (f.lo + f.w ≤ g.lo))

theorem Fld.fits_of_apart {f g : Fld} (h : f.apart g = true) : f.lo + f.w ≤ 64 := by
  simp only [Fld.apart, Bool.and_eq_true, decide_eq_true_eq] at h
  exact h.1.1.2

theorem fget_fput_of_apart {f g : Fld} (h : f.apart g = true) (s : State) (i v : Nat) : fget (fput s f i v) g i = fget s g i := by
  simp only [Fld.apart, Bool.and_eq_true, Bool.or_eq_true, beq_iff_eq, decide_eq_true_eq] at h
  obtain ⟨⟨⟨reg, fits⟩, -⟩, away⟩ := h
  exact fget_fput_field s v reg fits away

/-- What the three fields of a status register show when a command has ended: what it wrote to two of them, and one more in the count. -/
theorem fget_of_command_end {f g c : Fld} (fg : f.apart g = true) (gf : g.apart f = true) (fc : f.apart c = true) (cf : c.apart f = true)
    (gc : g.apart c = true) (cg : c.apart g = true) (s : State) (x y fn v : Nat) :
    let u := irq (finc (fput (fput s f 0 x) g 0 y) c 0) fn v
    fget u f 0 = x % 2 ^ f.w ∧ fget u g 0 = y % 2 ^ g.w ∧ fget u c 0 = (fget s c 0 + 1) % 2 ^ c.w := by
  dsimp only
  refine ⟨?_, ?_, ?_⟩
  · rw [fget_irq, finc, fget_fput_of_apart cf, fget_fput_of_apart gf, fget_fput_self _ _ _ _ (Fld.fits_of_apart fg)]
  · rw [fget_irq, finc, fget_fput_of_apart cg, fget_fput_self _ _ _ _ (Fld.fits_of_apart gf)]
  · rw [fget_irq, finc, fget_fput_self _ _ _ _ (Fld.fits_of_apart cf), fget_fput_of_apart gc, fget_fput_of_apart fc, Nat.mod_mod]

theorem irq_fab (s : State) (f v : Nat) : (irq s f v).fab = s.fab := by
  unfold irq
  split <;> rfl

/-! ### Region commands -/

theorem fabReserved_of_empty {s : State} (empty : s.fab.cmds = []) (n : Nat) : fabReserved s n = s := by
  cases n with
  | zero => rfl
  | succ n => rw [fabReserved, empty, ite_self]

/-- Ending the only region command brings no other one to the head. -/
theorem fabCmdDone_of_only {s : State} {c : FabCmd} (only : s.fab.cmds = [c]) (res key : Nat) : fabCmdDone s res key = fabCmdEnd s res key := by
  refine fabReserved_of_empty ?_ 16
  rw [fabCmdEnd, irq_fab]
  change s.fab.cmds.drop 1 = []
  rw [only, List.drop_one, List.tail_cons]

theorem fabCmdEnd_of_only {s : State} {c : FabCmd} (only : s.fab.cmds = [c]) (res key : Nat) :
    (fabCmdEnd s res key).fab = { s.fab with cmds := [] } := by
  rw [fabCmdEnd, irq_fab]
  change { s.fab with cmds := s.fab.cmds.drop 1 } = _
  rw [only, List.drop_one, List.tail_cons]

theorem fabRegister_of_entry {s : State} {c : FabCmd} {i v : Nat} (head : fabHead s 1 = some c) (entry : registerResult s c = .inr (i, v)) :
    exec .fabRegister s = .next (fabCmdDone (setRegion s i v) 0 (i * 65536 + rgGen v)) := by
  change execFabRegister s = _
  rw [execFabRegister, head]
  dsimp only
  rw [entry]

theorem fabRevoke_of_live {s : State} {c : FabCmd} {i : Nat} (index : i = bget c.cmd0 0 32 / 65536) (head : fabHead s 2 = some c)
    (format : c.cmd0.toNat / 2 ^ 32 = 0) (live : rgState (region s i) = 1) (gen : rgGen (region s i) = bget c.cmd0 0 32 % 65536) :
    exec .fabRevoke s = .next { setRegion s i (setBits (region s i) 0 2 2) with fab := { s.fab with revoke := some i } } := by
  change execFabRevoke s = _
  rw [execFabRevoke, head]
  dsimp only
  rw [← index, if_neg (not_not.mpr format), if_neg (fun h => by simp [live] at h), if_neg (by simp [live, gen])]

theorem revokeEnd_of_own {s w u : State} {i v : Nat} (entry : v = region s i)
    (freed : w = (s.fab.rx.filter (fun e => !e.2.send && !e.2.done && e.2.key / 65536 == i)).foldl (fun s e => rxErase s e.1) s)
    (after : u = setRegion w i (setBits v 0 2 0)) (revoking : rgState v = 2) (own : u.fab.revoke = some i) :
    revokeEnd s i = fabCmdDone { u with fab := { u.fab with revoke := none } } 0 (i * 65536 + rgGen v) := by
  rw [revokeEnd, ← entry, ← freed]
  dsimp only
  rw [if_neg (not_not.mpr revoking), ← after, if_pos own]

/-! ### Pacing and ports -/

theorem wheelSlot_of_one {s : State} {peer : Nat} {x : PeerX} (one : s.fab.peers = [(peer, x)]) (wheel : credited s peer = false)
    (due : limiterReady s peer = true) : exec .wheelSlot s = .next (releasePeer s peer) := by
  change execWheelSlot s = _
  rw [execWheelSlot, one, List.foldl_cons, List.foldl_nil]
  dsimp only
  rw [wheel, due]
  rfl

theorem frameStart_of_priv {s : State} {port q : Nat} (up : portUp s port = true) (loud : portQuiet s port = false)
    (out : s.pins.outputsStopped = false) (bucket : 0 ≤ privBucket s port) (least : leastTag (pq s port) (privReady s port) = some q) :
    frameStart s port = sendPriv s port q := by
  rw [frameStart, if_neg (by rw [up, loud, out]; decide), if_pos bucket, least]

theorem linkDown_of_up {s : State} {port : Nat} (up : portUp s port = true) (enabled : fbit s F.FAB_PORT_CTL_EN port = true) :
    linkDown s port = portClear (fput s F.FAB_PORT_STAT_LINK port 1) port := by
  rw [linkDown, if_pos up, if_pos enabled]

/-- A write of FAB_TIME_ADJ that reaches the register. -/
theorem fabTimeAdj_of_ready {s : State} (reach : hostReach s = true) (ready : fget s F.GLB_STAT_PHASE 0 = 12) (val : Word) :
    exec (.fabTimeAdj val) s = .next (timeAdj s val) :=
  congrArg Host.Outcome.next (hostGate_open reach (.inl ready) _)

/-- Settles O47: each command and event takes its only branch; a command's end writes three fields that share no bit. -/
theorem regionsAndPortsComplete : Obligations.RegionsAndPortsComplete := by
  unfold Obligations.RegionsAndPortsComplete
  intro s c idx val port peer q
  refine ⟨?_, ?_, ?_, ?_, ?_, ?_, ?_, ?_, ?_, ?_, ?_⟩
  · intro res key only _
    dsimp only
    rw [fabCmdDone_of_only only]
    obtain ⟨result, id, seq⟩ := fget_of_command_end (f := F.FAB_CMD_STAT_RESULT) (g := F.FAB_CMD_STAT_KEY) (c := F.FAB_CMD_STAT_SEQ)
      rfl rfl rfl rfl rfl rfl { s with fab := { s.fab with cmds := s.fab.cmds.drop 1 } } res key 0 10
    exact ⟨result, id, seq, fabCmdEnd_of_only only res key⟩
  · exact fun i v head entry => fabRegister_of_entry head entry
  · exact fun i index head format live gen => ⟨_, fabRevoke_of_live index head format live gen, rfl, rfl⟩
  · exact fun v w u entry freed after revoking own => congrArg Host.Outcome.next (revokeEnd_of_own entry freed after revoking own)
  · intro reach ready
    refine ⟨_, fabTimeAdj_of_ready reach ready val, rfl, ?_⟩
    rw [timeAdj, fget_fput_self _ _ _ _ (by decide)]
    exact Nat.mod_eq_of_lt (bget_lt ..)
  · exact fun due => congrArg Host.Outcome.next (if_pos due)
  · exact fun x one wheel due => wheelSlot_of_one one wheel due
  · exact fun up loud out bucket least => congrArg Host.Outcome.next (frameStart_of_priv up loud out bucket least)
  · exact fun up enabled => congrArg Host.Outcome.next (linkDown_of_up up enabled)
  · intro training
    have link : fget (fput s F.FAB_PORT_STAT_LINK port 2) F.FAB_PORT_STAT_LINK port = 2 := fget_fput_self _ _ _ _ (by decide)
    exact ⟨_, congrArg Host.Outcome.next (if_pos training), link, by rw [portUp, link]; rfl⟩
  · exact fun gated => ⟨_, congrArg Host.Outcome.next (if_pos gated), pq_pqPut_self ..⟩

end Sys2Proof.Machine
end

section
/-!
The statement of 13_lattice_composition.md on the requests a member serves (R516-R529), their answers (R514, R519) and probes (R511, R531).
-/

namespace Sys2Proof.Machine

/-! ### An ordered request -/

/-- A request of an enabled rank that is not combined goes to the ordered stream of the rank. -/
theorem latRequest_of_ordered {s v : State} {r : LRx} {p n : Nat} (arrived : latArrive s r = (v, some p))
    (direct : ¬ (r.p.merged = true ∧ r.p.src = fget v F.LAT_SWITCH_NODE 0)) (rank : rankOf v r.p.src = some n) (plain : r.p.combine = false)
    (lop : Nat) : latRequest s r lop = latOrdered s v n { r.p with lop := lop } r.ok := by
  rw [latRequest, arrived]
  dsimp only
  rw [if_neg direct, rank]
  dsimp only
  rw [plain]
  rfl

/-- A request at another LSN than the one expected gets a LACK (R519). -/
theorem latRequest_of_other_lsn {s v : State} {r : LRx} {p n : Nat} (arrived : latArrive s r = (v, some p))
    (direct : ¬ (r.p.merged = true ∧ r.p.src = fget v F.LAT_SWITCH_NODE 0)) (rank : rankOf v r.p.src = some n) (plain : r.p.combine = false)
    (other : r.p.lsn ≠ latExpect v n) (lop : Nat) : latRequest s r lop = sendLack v n := by
  rw [latRequest_of_ordered arrived direct rank plain, latOrdered]
  exact if_pos other

/-- A request at the LSN expected is served, answered, and the next LSN expected. -/
theorem latRequest_of_next_lsn {s v t : State} {r : LRx} {k resp : LPkt} {p n : Nat} {lop : Nat} (arrived : latArrive s r = (v, some p))
    (direct : ¬ (r.p.merged = true ∧ r.p.src = fget v F.LAT_SWITCH_NODE 0)) (rank : rankOf v r.p.src = some n) (plain : r.p.combine = false)
    (next : r.p.lsn = latExpect v n) (kind : k = { r.p with lop := lop }) (served : laServe v k r.ok = { s := t, k := resp }) :
    latRequest s r lop = latAnswer (expectPut t n (r.p.lsn + 1)) k.src resp := by
  rw [latRequest_of_ordered arrived direct rank plain, ← kind, latOrdered, served]
  dsimp only
  rw [if_neg (by rw [kind]; exact not_not.mpr next), ← next]
  rfl

/-! ### The checks of a member and the operations -/

theorem laServe_of_checked {s : State} {k : LPkt} {c : CmpCheck} (h : latChecked s k c) : laServe s k true = laPerform (compMark s k.comp k.epoch c) k := by
  obtain ⟨serves, started, header, comp, allowed, pages, oneTier, stack, mounted⟩ := h
  have reach : ((List.range (cdiv (laAddr k.laddr % 65536 + laLen k) 65536)).all
      (fun j => mapped (compMark s k.comp k.epoch c) (laAddr k.laddr / 65536 * 65536 + j * 65536)) &&
      addrTier (laAddr k.laddr) == addrTier (laAddr k.laddr + laLen k - 1) && (k.lop ≤ 2 || addrTier (laAddr k.laddr) == 0)) = true := by
    simp only [Bool.and_eq_true, List.all_eq_true, List.mem_range, Bool.or_eq_true, decide_eq_true_eq, beq_iff_eq]
    exact ⟨⟨pages, oneTier⟩, stack⟩
  rw [laServe, serves, started, header, comp]
  dsimp only
  rw [allowed, reach]
  simp only [Bool.not_true, Bool.or_self, Bool.false_eq_true, if_false, if_true]
  rw [if_neg (by decide), if_neg (not_not.mpr rfl), if_neg]
  rintro ⟨read, waits⟩
  rw [mounted read] at waits
  exact Bool.false_ne_true waits

section
variable {w m : State} {k : LPkt} (charged : m = meter (fadd1 w F.LAT_CNT_SERVED 0 1) k.tenant 3 (64 * k.lines))
include charged

theorem laPerform_of_load (load : k.lop = 1) (good : goodLines m (laAddr k.laddr) k.lines = k.lines) :
    laPerform w k = { s := m, k := laResp k laOK (memBytes m (laAddr k.laddr) (64 * k.lines)) } := by
  rw [laPerform]
  dsimp only
  rw [← charged, if_pos load, good, if_neg (lt_irrefl _), if_neg (lt_irrefl _)]

variable (free : writeWaits m (laAddr k.laddr) (laLen k) = false) (up : writeDown m (laAddr k.laddr) = false) (opened : flashShut m (laAddr k.laddr) = false)
include free up opened

theorem laPerform_of_store (store : k.lop = 2) : laPerform w k = { s := memWrite m (laAddr k.laddr) k.data, k := laResp k laOK [] } := by
  rw [laPerform]
  dsimp only
  rw [← charged, if_neg (by rw [store]; decide), free, up, opened, if_pos store]
  rfl

theorem laPerform_of_atomic {t : State} (atomic : 3 ≤ k.lop) (good : badLineIn m (laAddr k.laddr) 8 = none)
    (put : t = memPut m (laAddr k.laddr) 8
      (atomicNew k.lop (memNat m (laAddr k.laddr) 8) (ofBytes (k.data.take 8)) (ofBytes ((k.data.drop 8).take 8)))) :
    laPerform w k = { s := t, k := laResp k laOK (toBytes 8 (memNat m (laAddr k.laddr) 8) ++ List.replicate 56 0) } := by
  rw [laPerform]
  dsimp only
  rw [← charged, if_neg (by omega), free, up, opened, if_neg (show ¬ k.lop = 2 by omega), good]
  dsimp only
  rw [← put]
  rfl

end

/-! ### Kept answers, answers and probes -/

theorem latRequest_of_kept {s v : State} {r : LRx} {k : LPkt} {p n : Nat} {x : Kept} {lop : Nat} (arrived : latArrive s r = (v, some p))
    (rank : rankOf v r.p.src = some n) (combined : r.p.combine = true) (kind : k = { r.p with lop := lop })
    (found : nfind v.lat.kept (keptKey k) = some x) : latRequest s r lop = latAnswer v k.src x.p := by
  have again : latCombined s v k r.ok = latAnswer v k.src x.p := by
    rw [latCombined, found]
  subst kind
  rw [latRequest, arrived]
  dsimp only
  rw [again, ite_eq_left_iff, rank]
  intro _
  dsimp only
  rw [combined, if_pos rfl]

theorem latPlain_of_good {s v : State} {r : LRx} {p n : Nat} (arrived : latArrive s r = (v, some p)) (good : r.ok = true)
    (rank : rankOf v r.p.src = some n) (k : State → Nat → State) : latPlain s r k = k v n := by
  rw [latPlain, arrived]
  dsimp only
  rw [good, rank]
  rfl

theorem latResp_of_final {s : State} {n : Nat} {p : LPkt} {q : LatReq} (found : latReq s p.tag = some q) (rank : q.rank = n)
    (final : p.status ≠ laREDIRECT) (free : p.status ≠ laBUSY) :
    latResp s n p = latEnd (meter s q.p.tenant 2 p.data.length) p.tag q p.status p.data := by
  rw [latResp, found]
  dsimp only
  rw [if_neg (not_not.mpr rank), if_neg (fun h => final h.1), if_neg (fun h => free h.1)]

theorem restartStreams_regs (s : State) (r l : Nat) : (restartStreams s r l).regs = s.regs := by
  refine foldl_leaves State.regs (fun s i => ?_) _ s
  dsimp only
  split <;> rfl

/-- A member that answered a probe is UP. -/
theorem memberState_of_lprobeReply (s : State) (n l : Nat) : fget (lprobeReply s n l) F.LAT_MEMBER_STATE n = 2 := by
  have regs : fget (lprobeReply s n l) F.LAT_MEMBER_STATE n =
      fget (latStat (fput (fput s F.LAT_DOWN_RANKS 0 (setBits (fget s F.LAT_DOWN_RANKS 0) n 1 0)) F.LAT_MEMBER_STATE n 2)) F.LAT_MEMBER_STATE n :=
    fget_congr (congrArg (fun m => nget regDefault m _) (restartStreams_regs _ n l))
  rw [regs, latStat, fget_fput_reg _ _ (.inl (by decide)), fget_fput_reg _ _ (.inl (by decide)), fget_fput_self _ _ _ _ (by decide)]
  rfl

theorem lprobeTimer_of_down {s : State} {n : Nat} (on : rankOn s n = true) (other : ownRank s n = false) (down : rankUp s n = false)
    (ready : fget s F.GLB_STAT_PHASE 0 = 12) :
    lprobeTimer s n = latSend (fput s F.LAT_MEMBER_STATE n 1) n { lop := 10, lsn := (lrank s n).lsn } := by
  rw [lprobeTimer, on, other, down, ready]
  rfl

theorem latTimeout_of_unanswered {s : State} {tag : Nat} {q : LatReq} (found : latReq s tag = some q) (sent : q.busy = false)
    (below : q.tries + 1 < fget s F.LAT_TIMER_RETRY_MAX 0) : latTimeout s tag =
      let t := changePath (latPut s tag { q with tries := q.tries + 1 }) q.rank
      if q.p.combine then latSend t q.rank { q.p with retx := true } else latAgain t q.rank none := by
  rw [latTimeout, found]
  dsimp only
  rw [sent, if_neg Bool.false_ne_true, if_neg (not_le.mpr below)]

/-- Settles O48: a request's checks leave the operation, whose state the answer goes out from; the other events take their only branch. -/
theorem memberServesLatticeRequests : Obligations.MemberServesLatticeRequests := by
  unfold Obligations.MemberServesLatticeRequests
  intro s v w m r k p n tag rank c q x
  refine ⟨?_, ?_, ?_, ?_, ?_, ?_, ?_, ?_⟩
  · intro arrived direct rank plain other
    have lack (lop : Nat) : Host.Outcome.next (latRequest s r lop) = (.next (sendLack v n) : Host.Outcome State Fault Refusal) :=
      congrArg _ (latRequest_of_other_lsn arrived direct rank plain other lop)
    exact ⟨lack 1, lack 2, lack 3, lack 4, lack 5⟩
  · intro arrived direct rank plain next good checked mark charged
    have done {lop : Nat} {t : State} {resp : LPkt} (kind : k = { r.p with lop := lop }) (did : laPerform w k = { s := t, k := resp }) :
        latRequest s r lop = latAnswer (expectPut t n (r.p.lsn + 1)) k.src resp := by
      refine latRequest_of_next_lsn arrived direct rank plain next kind ?_
      rw [good, laServe_of_checked checked, ← mark, did]
    refine ⟨?_, fun free up opened => ⟨?_, ?_⟩⟩
    · exact fun kind lines => congrArg Host.Outcome.next (done kind (laPerform_of_load charged (congrArg LPkt.lop kind) lines))
    · exact fun kind => congrArg Host.Outcome.next (done kind (laPerform_of_store charged free up opened (congrArg LPkt.lop kind)))
    · intro t u line put answer
      have atomic {lop : Nat} (kind : k = { r.p with lop := lop }) (three : 3 ≤ lop) : Host.Outcome.next (latRequest s r lop) =
          (.next u : Host.Outcome State Fault Refusal) := by
        have is : k.lop = lop := congrArg LPkt.lop kind
        rw [answer, done kind (laPerform_of_atomic charged free up opened (is ▸ three) line put)]
      exact ⟨fun kind => atomic kind (by decide), fun kind => atomic kind (by decide), fun kind => atomic kind (by decide)⟩
  · refine fun lop a b old => ⟨?_, ?_, ?_⟩
    · exact fun h => if_pos h
    · rintro rfl
      rfl
    · rintro rfl
      rfl
  · exact fun arrived rank combined kind found => congrArg Host.Outcome.next (latRequest_of_kept arrived rank combined kind found)
  · exact ⟨_, rfl, nfind_nerase_self .., rfl⟩
  · intro arrived good rank
    have plain (k : State → Nat → State) : (.next (latPlain s r k) : Host.Outcome State Fault Refusal) = .next (k v n) :=
      congrArg _ (latPlain_of_good arrived good rank k)
    refine ⟨?_, plain _, plain _, ⟨_, plain _, memberState_of_lprobeReply ..⟩⟩
    intro found is final free
    exact (plain _).trans (congrArg _ (latResp_of_final found is final free))
  · exact fun on other down ready => congrArg Host.Outcome.next (lprobeTimer_of_down on other down ready)
  · exact fun found sent below => congrArg Host.Outcome.next (latTimeout_of_unanswered found sent below)

end Sys2Proof.Machine
end

section
/-!
The statement of 13_lattice_composition.md on request rings (R513, R518), windows (R530, R543), and of 17_host_interface.md on the aperture
(R654, R655).
-/

namespace Sys2Proof.Machine

/-! ### Request rings -/

/-- A pass over a list in which one element alone does something. -/
theorem foldl_of_one {α β : Type} {f : β → α → β} {b c : β} {a : α} {l : List α} (once : l.Nodup) (mem : a ∈ l) (act : f b a = c)
    (before : ∀ x ∈ l, x ≠ a → f b x = b) (after : ∀ x ∈ l, x ≠ a → f c x = c) : l.foldl f b = c := by
  obtain ⟨front, back, rfl⟩ := List.append_of_mem mem
  have apart := (List.nodup_middle.mp once).notMem
  have other {x : α} (h : x ∈ front ++ back) : x ∈ front ++ a :: back ∧ x ≠ a := by
    refine ⟨?_, fun e => apart (e ▸ h)⟩
    simp only [List.mem_append, List.mem_cons] at h ⊢
    tauto
  have untouched : front.foldl f b = b := foldl_eq_self fun x hx => by
    obtain ⟨hl, ne⟩ := other (List.mem_append_left _ hx)
    exact before x hl ne
  rw [List.foldl_append, untouched, List.foldl_cons, act]
  exact foldl_eq_self fun x hx => by
    obtain ⟨hl, ne⟩ := other (List.mem_append_right _ hx)
    exact after x hl ne

theorem ringHead_of_entry {s t : State} {n i : Nat} (head : i = fget s F.LAT_RING_HEAD_HEAD n) (engine : fbit s F.LAT_CTL_EN 0 = true)
    (ring : fbit s F.LAT_RING_HEAD_EN n = true) (good : lineOk s (ringAddr s n i) = true) (mark : memNat s (ringAddr s n i + 2) 1 = 255)
    (taken : latTake s n i = some t) : ringHead s n = fput t F.LAT_RING_HEAD_HEAD n ((i + 1) % (fget t F.LAT_RING_ENTRIES_M1 n + 1)) := by
  rw [ringHead]
  rw [← head, engine, ring, good, mark, if_neg (by decide), taken]

theorem ringHead_of_disabled {s : State} {n : Nat} (off : fbit s F.LAT_RING_HEAD_EN n = false) : ringHead s n = s := by
  rw [ringHead]
  rw [off]
  simp only [Bool.not_false, Bool.or_true, Bool.true_or, if_true]

/-- A well-formed LOAD entry that asks for no combining and no item is issued as it stands. -/
theorem latTake_of_load {s : State} {n i v tag : Nat} (entry : v = memNat s (ringAddr s n i) 64) (good : entryBad s v = false) (load : bits v 0 8 = 1)
    (flags : bits v 8 8 = 0) (epoch : bits v 48 16 ≠ 0) (number : tag = (s.fresh + 1) % 2 ^ 32) :
    latTake s n i = latIssue (bump s) tag
      { ring := n, idx := i, rank := laRank (bits v 64 64), loc := bits v 128 64
        p := { lop := 1, tenant := bits v 24 8, lines := bits v 192 16, tag := tag, laddr := bits v 64 64, epoch := bits v 48 16, comp := bits v 32 16 } } := by
  have combine : bits v 8 1 = 0 := by
    unfold bits at flags ⊢
    omega
  have item : bits v 9 1 = 0 := by
    unfold bits at flags ⊢
    omega
  rw [latTake, ← entry]
  dsimp only
  rw [good, load, combine, item, if_neg epoch, ← number]
  rfl

/-! ### Requests of this device -/

theorem latIssue_of_member {s t : State} {tag : Nat} {q : LatReq} (on : rankOn s q.rank = true) (other : ownRank s q.rank = false)
    (up : rankDown s q.rank = false) (first : q.redirected = false) (plain : q.p.combine = false)
    (counted : t = meter (fadd1 s F.LAT_CNT_SENT 0 1) q.p.tenant 2 q.p.data.length) (wait : (lrank t q.rank).wait = [])
    (room : (lrank t q.rank).un.length < 256) : latIssue s tag q = some (latLaunch t tag q) := by
  rw [latIssue, on, other, up, first]
  simp only [Bool.not_true, Bool.false_eq_true, if_false]
  rw [latIssue.sent, ← counted, latIssue.go, plain, wait, if_neg Bool.false_ne_true, if_neg]
  simp only [List.isEmpty_nil, Bool.not_true, Bool.false_or, decide_eq_true_eq]
  exact not_le.mpr room

theorem latIssue_of_no_member {s : State} {q : LatReq} (off : rankOn s q.rank = false) (tag : Nat) :
    latIssue s tag q = some (latFinish s tag q laNOTMEMBER []) := by
  rw [latIssue, off]
  rfl

/-! ### Windows -/

/-- What a write that enables a window keeps of its value. -/
theorem bget_winKeep (val : Word) : bget (w64 (bget val 0 34 + bget val 49 15 * 2 ^ 49)) 63 1 = bget val 63 1 ∧
    bget (w64 (bget val 0 34 + bget val 49 15 * 2 ^ 49)) 0 34 = bget val 0 34 := by
  have small := val.isLt
  simp only [bget, bits, w64, BitVec.toNat_ofNat]
  omega

theorem latWinCtl_of_enable {s : State} {w : Nat} {val : Word} (off : fbit s F.LAT_WIN_CTL_EN w = false) (on : bbit val 63 = true)
    (fits : latWinFits s w val = true) : fbit (latWinCtl s w val) F.LAT_WIN_CTL_EN w = true ∧ fget (latWinCtl s w val) F.LAT_WIN_CTL_FRAMES w = bget val 0 34 := by
  obtain ⟨enabled, frames⟩ := bget_winKeep val
  have word : latWinCtl s w val = rput s .LAT_WIN_CTL w (w64 (bget val 0 34 + bget val 49 15 * 2 ^ 49)) := by
    rw [latWinCtl]
    dsimp only
    rw [off, on, fits]
    rfl
  rw [word, fbit, fget, fget]
  change (bget (rword (rput s .LAT_WIN_CTL w _) .LAT_WIN_CTL w) 63 1 == 1) = true ∧ bget (rword (rput s .LAT_WIN_CTL w _) .LAT_WIN_CTL w) 0 34 = _
  rw [rword_rput_self, enabled, frames]
  exact ⟨on, rfl⟩

theorem latWinCtl_of_disable {s : State} {w : Nat} {val : Word} (on : fbit s F.LAT_WIN_CTL_EN w = true) (off : bbit val 63 = false) :
    fbit (latWinCtl s w val) F.LAT_WIN_CTL_EN w = false ∧ (latWinCtl s w val).lat = { s.lat with unpin := s.lat.unpin ++ [w] } := by
  obtain ⟨t, cleared⟩ : ∃ t, t = fput s F.LAT_WIN_CTL_EN w 0 := ⟨_, rfl⟩
  have word : latWinCtl s w val = { t with lat := { t.lat with unpin := t.lat.unpin ++ [w] } } := by
    rw [latWinCtl]
    simp only [on, off, ← cleared, if_true, Bool.false_eq_true, if_false]
  have bit : fbit t F.LAT_WIN_CTL_EN w = false := by
    rw [cleared, fbit, fget_fput_self _ _ _ _ (by decide)]
    rfl
  have lat : t.lat = s.lat := by rw [cleared, fput_lat]
  rw [word, ← lat]
  exact ⟨bit, rfl⟩

/-! ### The aperture -/

theorem aperIssue_of_issued {s u t : State} {off len lop a c tag : Nat} {k : LPkt} {data : List Byte}
    (addr : a = fget s F.HST_APER_BASE 0 * 2 ^ 36 + off) (comp : c = fget s F.LAT_HOST_COMP 0) (engine : fbit s F.LAT_CTL_EN 0 = true)
    (number : tag = (s.fresh + 1) % 2 ^ 32)
    (request : k = { lop := lop, tenant := fget s F.LAT_HOST_TENANT 0, lines := 1, tag := tag, laddr := a / 64 * 64, epoch := (cmpOf s c).cur, comp := c,
                     data := data })
    (asked : u = { bump s with host := { s.host with aper := nset s.host.aper tag { write := lop == 2, off := off, len := len } } })
    (issued : latIssue u tag { ring := 8, rank := laRank a, p := k } = some t) : aperIssue s off len lop data = t := by
  have tenant : fget u F.LAT_HOST_TENANT 0 = fget s F.LAT_HOST_TENANT 0 := by rw [asked]; rfl
  have epoch : (cmpOf u c).cur = (cmpOf s c).cur := by rw [asked]; rfl
  have still : fbit u F.LAT_CTL_EN 0 = true := by rw [asked]; exact engine
  rw [aperIssue]
  simp only [← number, ← addr, ← comp, bump_host, ← asked, still, tenant, epoch, ← request, issued]
  rfl

theorem irq_aper (s : State) (f v : Nat) : (irq s f v).host.aper = s.host.aper := by
  unfold irq
  split <;> rfl

theorem hstErr_aper (s : State) (f : Fld) : (hstErr s f).host.aper = s.host.aper := by
  unfold hstErr
  split
  · rfl
  · exact irq_aper ..

theorem fget_hstErr_reg (s : State) {f g : Fld} (h : f.reg ≠ g.reg) (i : Nat) : fget (hstErr s f) g i = fget s g i := by
  unfold hstErr
  split
  · rfl
  · rw [fget_irq, fset, fget_fput_reg _ _ (.inl h)]

/-- A read without its RESP ends with all ones and the status. -/
theorem aperDone_of_lost_read {s : State} {tag : Nat} {x : Aper} (found : nfind s.host.aper tag = some x) (read : x.write = false) :
    ∃ v, aperDone s tag laUNREACH [] = v ∧ nfind v.host.aper tag = none ∧ v.out.aperData = List.replicate x.len 0xFF ∧
      fget v F.HST_APER_STAT_STATUS 0 = laUNREACH := by
  have ends (t : State) (ht : t = { s with host := { s.host with aper := nerase s.host.aper tag } }) :
      aperDone s tag laUNREACH [] = { aperFail t laUNREACH with out := { (aperFail t laUNREACH).out with aperData := List.replicate x.len 0xFF } } := by
    rw [aperDone, found]
    dsimp only
    rw [← ht, read]
    rfl
  refine ⟨_, ends _ rfl, ?_, rfl, ?_⟩
  · change nfind (aperFail _ _).host.aper tag = none
    rw [aperFail, hstErr_aper]
    exact nfind_nerase_self ..
  · change fget (aperFail _ _) _ _ = _
    rw [aperFail, fget_hstErr_reg _ (by decide), fget_fput_self _ _ _ _ (by decide)]
    rfl

/-- Settles O49: a pass over the rings in which one ring alone has an entry, the branches of a request's issue, and the fields of a window's
word. -/
theorem ringsWindowsAndTheApertureComplete : Obligations.RingsWindowsAndTheApertureComplete := by
  unfold Obligations.RingsWindowsAndTheApertureComplete
  intro s t u val w n i lop tag off len a c q k x data
  refine ⟨?_, ?_, ?_, ?_, ?_, ?_, ?_, ?_⟩
  · intro below head engine ring good mark taken after
    have act : ringHead s n = u := (ringHead_of_entry head engine ring good mark taken).trans after.symm
    have mem : n ∈ List.range 8 := List.mem_range.mpr below
    constructor
    · intro rest
      refine congrArg Host.Outcome.next (foldl_of_one List.nodup_range mem act ?_ ?_)
      · exact fun m hm ne => ringHead_of_disabled (rest m (List.mem_range.mp hm) ne).1
      · exact fun m hm ne => ringHead_of_disabled (rest m (List.mem_range.mp hm) ne).2
    · intro reach ready named
      refine congrArg Host.Outcome.next ((hostGate_open reach (.inl ready) _).trans (foldl_of_one List.nodup_range mem ?_ ?_ ?_))
      · rw [named n below, decide_eq_true rfl, if_pos rfl, act]
      · intro m hm ne
        rw [named m (List.mem_range.mp hm), decide_eq_false ne, if_neg Bool.false_ne_true]
      · intro m hm ne
        rw [named m (List.mem_range.mp hm), decide_eq_false ne, if_neg Bool.false_ne_true]
  · intro v entry good load flags epoch number request
    rw [request]
    exact latTake_of_load entry good load flags epoch number
  · exact latIssue_of_member
  · exact fun no => latIssue_of_no_member no tag
  · intro reach ready
    have write : exec (.latWinCtl w val) s = .next (latWinCtl s w val) := congrArg Host.Outcome.next (hostGate_open reach (.inl ready) _)
    exact ⟨fun off' on fits => ⟨_, write, latWinCtl_of_enable off' on fits⟩, fun on off' => ⟨_, write, latWinCtl_of_disable on off'⟩⟩
  · refine ⟨_, rfl, ?_, rfl⟩
    simp only [List.mem_filter, bne_self_eq_false, Bool.false_eq_true, and_false, not_false_eq_true]
  · intro addr comp engine inside number request issued
    have done := aperIssue_of_issued addr comp engine number request rfl issued
    constructor
    · rintro rfl some' oneLine rfl
      exact congrArg Host.Outcome.next ((if_neg (by omega)).trans done)
    · rintro rfl rfl aligned full
      exact congrArg Host.Outcome.next ((if_neg (by omega)).trans done)
  · intro found read
    obtain ⟨v, done, facts⟩ := aperDone_of_lost_read found read
    exact ⟨v, congrArg Host.Outcome.next done, facts⟩

end Sys2Proof.Machine
end

section
/-!
The statement of 13_lattice_composition.md on composition commands (R532-R534), the end of an epoch (R537) and metering (R541, R542).
-/

namespace Sys2Proof.Machine

/-! ### Composition commands -/

theorem irq_cmp (s : State) (f v : Nat) : (irq s f v).cmp = s.cmp := by
  unfold irq
  split <;> rfl

theorem cmpReserved_of_empty {s : State} (empty : s.cmp.cmds = []) (n : Nat) : cmpReserved s n = s := by
  cases n with
  | zero => rfl
  | succ n => rw [cmpReserved, empty, ite_self]

theorem cmpEnd_of_only {s : State} {c : CmpCmd} (only : s.cmp.cmds = [c]) (res i : Nat) : (cmpEnd s res i).cmp = { s.cmp with cmds := [] } := by
  rw [cmpEnd, irq_cmp]
  change { s.cmp with cmds := s.cmp.cmds.drop 1 } = _
  rw [only, List.drop_one, List.tail_cons]

/-- Ending the only composition command brings no other one to the head. -/
theorem cmpDone_of_only {s : State} {c : CmpCmd} (only : s.cmp.cmds = [c]) (res i : Nat) : cmpDone s res i = cmpEnd s res i :=
  cmpReserved_of_empty (by rw [cmpEnd_of_only only]) 16

theorem fget_cmpEnd (s : State) (res i : Nat) : fget (cmpEnd s res i) F.CMP_CMD_STAT_RESULT 0 = res % 16 ∧
    fget (cmpEnd s res i) F.CMP_CMD_STAT_COMP 0 = i % 1024 ∧ fget (cmpEnd s res i) F.CMP_CMD_STAT_SEQ 0 = (fget s F.CMP_CMD_STAT_SEQ 0 + 1) % 256 :=
  fget_of_command_end (f := F.CMP_CMD_STAT_RESULT) (g := F.CMP_CMD_STAT_COMP) (c := F.CMP_CMD_STAT_SEQ) rfl rfl rfl rfl rfl rfl
    { s with cmp := { s.cmp with cmds := s.cmp.cmds.drop 1 } } res i 0 13

section
variable {s : State} {c : CmpCmd} {i : Nat} (comp : i = ccComp c)
include comp

theorem cmpOpen_of_closed {t : State} (head : cmpHead s 1 = some c) (closed : isOpen s i = false) (cleared : t = zeroRange s (mapAddr s i 0 0) 98304) :
    exec .cmpOpen s = .next (cmpDone (cmpPut t i { open' := true, cur := bget c.cmd0 48 16, committed := t.now, lastOld := t.now }) 0 i) := by
  change execCmpOpen s = _
  rw [execCmpOpen, head]
  dsimp only
  rw [cmpOpenCmd, ← comp, closed, if_neg Bool.false_ne_true, ← cleared]

theorem cmpStage_of_open (head : cmpHead s 2 = some c) (opened : isOpen s i = true) (format : entryFormat c.stage = true) :
    exec .cmpStage s = .next (cmpDone (memPut s (mapAddr s i 2 (bget c.cmd0 32 10)) 32 c.stage) 0 i) := by
  change execCmpStage s = _
  rw [execCmpStage, head]
  dsimp only
  rw [cmpStageCmd, ← comp, opened, format, if_neg (by decide), if_neg (by decide)]

theorem cmpCommit_of_open {t u v : State} (head : cmpHead s 3 = some c) (opened : isOpen s i = true) (single : (cmpOf s i).prevValid = false)
    (copied : t = copyMap (copyMap s i 0 1) i 2 0)
    (next : u = cmpPut t i { cmpOf s i with prev := (cmpOf s i).cur, prevValid := true, cur := ((cmpOf s i).cur + 1) % 65536,
                                            committed := t.now, lastOld := t.now })
    (sent : v = journal u 0 (mapEnts u i (((cmpOf s i).cur + 1) % 65536))) : exec .cmpCommit s = .next (cmpDone v 0 i) := by
  change execCmpCommit s = _
  rw [execCmpCommit, head]
  dsimp only
  rw [cmpCommitCmd, ← comp, opened, single, if_neg (by decide), if_neg (by decide), ← copied, sent, next]

theorem cmpRetire_of_previous (head : cmpHead s 4 = some c) (previous : (cmpOf s i).prevValid = true) :
    exec .cmpRetire s = .next (cmpDone (cmpPut s i { cmpOf s i with prevValid := false }) 0 i) := by
  change execCmpRetire s = _
  rw [execCmpRetire, head]
  dsimp only
  rw [cmpRetireCmd, ← comp, if_pos previous, retireEpoch]

theorem cmpClose_of_open (head : cmpHead s 5 = some c) (opened : isOpen s i = true) :
    exec .cmpClose s = .next (cmpDone (cmpPut s i { cmpOf s i with closing := true }) 0 i) := by
  change execCmpClose s = _
  rw [execCmpClose, head]
  dsimp only
  rw [cmpCloseCmd, ← comp, opened, if_neg (by decide)]

end

/-! ### The end of an epoch, and metering -/

theorem epochRetire_of_due {s : State} {n : Nat} (previous : (cmpOf s n).prevValid = true)
    (due : (oldCount s n = 0 ∧ (cmpOf s n).lastOld + fget s F.CMP_TIMER_QUIET_MS 0 * 1000000 ≤ s.now) ∨
      (cmpOf s n).committed + fget s F.CMP_TIMER_RETIRE_MS 0 * 1000000 ≤ s.now) :
    epochRetire s n = cmpPut s n { cmpOf s n with prevValid := false } := by
  rw [epochRetire]
  refine (if_pos ⟨previous, ?_⟩).trans (by rw [retireEpoch])
  simpa only [Bool.and_eq_true, beq_iff_eq, decide_eq_true_eq] using due

theorem meterTick_of_one {s t : State} {e : Nat × Ctx} (one : s.ctx = [e]) (charged : t = meter s (dg e.2.d D.TENANT) 7 (privatePages s e.1).length)
    (none' : objIdxs t = []) : meterTick s = t := by
  rw [meterTick, one, List.foldl_cons, List.foldl_nil, ← charged, none', List.foldl_nil]

/-- One register of the snapshot takes its counter. -/
def copyMeter (s : State) (j : Nat) : State := fput s F.CMP_MTR_VALUE j (nget (fun _ => 0) s.meter j)

theorem fget_copyMeters (s : State) {j : Nat} (inside : j < 512) :
    fget ((List.range 512).foldl copyMeter s) F.CMP_MTR_VALUE j = nget (fun _ => 0) s.meter j % 2 ^ 64 := by
  have word := rword_foldl_rput .CMP_MTR (fun t j => bset (rword t .CMP_MTR j) 0 64 (nget (fun _ => 0) t.meter j)) s inside (by decide)
  have counters : ((List.range j).foldl copyMeter s).meter = s.meter := foldl_leaves (f := copyMeter) State.meter (fun _ _ => rfl) _ s
  rw [← counters]
  exact (congrArg (fun x : Word => bget x 0 64) word).trans (bget_bset_self _ _ _ _ (by decide))

/-- A snapshot shows the counters and the time as they stand, and is no longer under way. -/
theorem fget_meterSnapshot {s : State} (busy : fbit s F.CMP_MTR_SNAP_BUSY 0 = true) :
    fbit (meterSnapshot s) F.CMP_MTR_SNAP_BUSY 0 = false ∧ fget (meterSnapshot s) F.CMP_MTR_TIME_TIME 0 = timeNs s % 2 ^ 64 ∧
    ∀ j, j < 512 → fget (meterSnapshot s) F.CMP_MTR_VALUE j = nget (fun _ => 0) s.meter j % 2 ^ 64 := by
  obtain ⟨t, copied⟩ : ∃ t, t = (List.range 512).foldl copyMeter s := ⟨_, rfl⟩
  have time : timeNs t = timeNs s := by
    rw [copied]
    exact foldl_leaves (f := copyMeter) timeNs (fun _ _ => rfl) _ s
  have ends : meterSnapshot s = fput (fput t F.CMP_MTR_TIME_TIME 0 (timeNs s)) F.CMP_MTR_SNAP_BUSY 0 0 := by
    have step : (fun (t : State) j => fput t F.CMP_MTR_VALUE j (nget (fun _ => 0) t.meter j)) = copyMeter := rfl
    rw [meterSnapshot, busy, step, ← copied, ← time]
    rfl
  rw [ends]
  refine ⟨?_, ?_, fun j hj => ?_⟩
  · rw [fbit, fget_fput_self _ _ _ _ (by decide)]
    rfl
  · rw [fget_fput_reg _ _ (.inl (by decide)), fget_fput_self _ _ _ _ (by decide)]
    rfl
  · rw [fget_fput_reg _ _ (.inl (by decide)), fget_fput_reg _ _ (.inl (by decide)), copied]
    exact fget_copyMeters s hj

/-- Settles O50: each command has one branch and ends as the only one; the meters are read one register at a time. -/
theorem compositionCommandsAndMetering : Obligations.CompositionCommandsAndMetering := by
  unfold Obligations.CompositionCommandsAndMetering
  intro s t c i n val e
  refine ⟨?_, ?_, ?_, ?_, ?_, ?_, ?_, ?_, ?_, ?_, ?_⟩
  · intro only u done
    rw [done, cmpDone_of_only only]
    obtain ⟨result, comp, seq⟩ := fget_cmpEnd s 0 (ccComp c)
    exact ⟨result, comp.trans (Nat.mod_eq_of_lt (bget_lt ..)), seq, cmpEnd_of_only only 0 (ccComp c)⟩
  · exact fun comp => cmpOpen_of_closed comp
  · exact cmpStage_of_open
  · exact fun u v comp => cmpCommit_of_open comp
  · exact cmpRetire_of_previous
  · exact cmpClose_of_open
  · exact fun closing none' => congrArg Host.Outcome.next (if_pos ⟨closing, none'⟩)
  · exact fun previous due => congrArg Host.Outcome.next (epochRetire_of_due previous due)
  · exact fun one charged none' => congrArg Host.Outcome.next (meterTick_of_one one charged none')
  · intro reach ready go idle
    refine congrArg Host.Outcome.next ((hostGate_open reach (.inl ready) _).trans ?_)
    exact if_pos (by rw [go, idle]; rfl)
  · exact fun busy => ⟨_, rfl, fget_meterSnapshot busy⟩

end Sys2Proof.Machine
end

section
/-!
The statement of 14_twin_halves.md on votes and fencing (R566-R575) and on TAKEOVER and RESYNC (R557, R561-R564).
-/

namespace Sys2Proof.Machine

/-! ### Votes -/

section
variable {s : State} {h : Nat} {f : TwinFrame} {e q : Nat} (free : fenced s h = false) (leader : fget s F.TWN_LEAD_LEADER 0 = h)
  (epoch : e = f.jsn % 2 ^ 32) (half : q = f.arg % 2)
include free leader epoch half

/-- No vote has been given, or one of an older epoch: the request is granted and recorded. -/
theorem voteReqIn_of_new {g l : Nat} {u : State}
    (newer : s.twin.vote = none ∨ (s.twin.vote = some (g, l) ∧ epochNewer e g = true))
    (recorded : u = { s with twin := { s.twin with vote := some (e, q) } }) : voteReqIn s h f = twinSend u h { typ := 5, jsn := e, arg := 4 * q } := by
  rw [voteReqIn]
  dsimp only
  rw [free, if_neg Bool.false_ne_true, if_neg (fun x => x.1 leader), ← epoch, ← half, ← recorded, Nat.zero_add]
  obtain first | ⟨older, newer⟩ := newer
  · rw [first]
  · rw [older]
    dsimp only
    rw [if_pos newer]

theorem voteReqIn_of_same (same : s.twin.vote = some (e, q)) (known : epochNewer e e = false) :
    voteReqIn s h f = twinSend s h { typ := 5, jsn := e, arg := 4 * q } := by
  rw [voteReqIn]
  dsimp only
  rw [free, if_neg Bool.false_ne_true, if_neg (fun x => x.1 leader), ← epoch, ← half, same, Nat.zero_add]
  dsimp only
  rw [known, if_neg Bool.false_ne_true, if_pos ⟨rfl, rfl⟩]

theorem voteReqIn_of_other {g l : Nat} (given : s.twin.vote = some (g, l)) (older : epochNewer e g = false) (other : ¬ (e = g ∧ q = l)) :
    voteReqIn s h f = twinSend s h { typ := 5, jsn := e, arg := 1 + 4 * l } := by
  rw [voteReqIn]
  dsimp only
  rw [free, if_neg Bool.false_ne_true, if_neg (fun x => x.1 leader), ← epoch, ← half, given]
  dsimp only
  rw [older, if_neg Bool.false_ne_true, if_neg other]

end

section
variable {s : State} {h : Nat} {f : TwinFrame} (suspended : (tw s h).suspended = true) (asked : (tw s h).ask ≠ 0) (answer : f.jsn = (tw s h).ask)
include suspended asked answer

theorem awaits_answer : ¬ ((!(tw s h).suspended) = true ∨ (tw s h).ask = 0 ∨ f.jsn ≠ (tw s h).ask) := by
  rw [suspended, not_or, not_or]
  exact ⟨Bool.false_ne_true, asked, not_not.mpr answer⟩

theorem voteIn_of_granted (granted : f.arg = 0) : voteIn s h f = lead s h f.jsn := by
  rw [voteIn, if_neg (awaits_answer suspended asked answer), ← answer, granted]
  rfl

theorem voteIn_of_refused (refused : f.arg % 4 = 1) : voteIn s h f = voteLost s h := by
  rw [voteIn, if_neg (awaits_answer suspended asked answer), refused]
  rfl

end

/-- A VOTE is handled from step 7 on, so from step 8 on too. -/
theorem reached_of_le {s : State} {h n m : Nat} (le : m ≤ n) (there : reached s h n = true) : reached s h m = true := by
  simp only [reached, Bool.and_eq_true, decide_eq_true_eq, Option.all_eq_true] at there ⊢
  obtain ⟨device, half⟩ := there
  exact ⟨le.trans device, fun k hk => le.trans (half k hk)⟩

/-! ### The loss of the die-to-die link -/

theorem d2dLoss_of_up {s : State} (there : s.twin.lost = false) (up : fbit s F.TWN_LEAD_D2D_UP 0 = true) :
    exec .d2dLoss s = .next (lossVote (cutHalves s)) := by
  change execD2dLoss s = _
  rw [execD2dLoss, there, up, if_neg (by decide)]

theorem lossVote_of_alone {s : State} {e : Nat} (alone : fbit s F.TWN_CTL_EN 0 = false) (epoch : e = (fget s F.TWN_LEAD_LEPOCH 0 + 1) % 2 ^ 32) :
    lossVote s = fence (lead s 0 e) 1 := by
  rw [lossVote, ← epoch]
  dsimp only
  rw [alone]
  exact if_pos rfl

theorem lossVote_of_twin {s t u : State} {e : Nat} (twin : fbit s F.TWN_CTL_EN 0 = true) (epoch : e = (fget s F.TWN_LEAD_LEPOCH 0 + 1) % 2 ^ 32)
    (first : t = twUpd s 0 (fun x => { x with suspended := true, ask := e })) (second : u = twUpd t 1 (fun x => { x with suspended := true, ask := e })) :
    lossVote s = sendVoteReq u (fget u F.TWN_LEAD_LEADER 0) e false := by
  rw [lossVote, ← epoch]
  dsimp only
  rw [twin, if_neg (by decide), List.foldl_cons, List.foldl_cons, List.foldl_nil, ← first, ← second]

/-! ### A fenced half -/

theorem portClear_regs (s : State) (i : Nat) : (portClear s i).regs = s.regs :=
  foldl_leaves (f := fun s f => txMark s f 2) State.regs (fun _ _ => rfl) _ s

theorem fget_portClear (s : State) (i : Nat) (f : Fld) (j : Nat) : fget (portClear s i) f j = fget s f j :=
  fget_congr (congrArg (fun m => nget regDefault m _) (portClear_regs s i))

theorem fget_twUpd (s : State) (h : Nat) (x : TwinHalf → TwinHalf) (f : Fld) (i : Nat) : fget (twUpd s h x) f i = fget s f i := rfl

/-- A port's link goes down and its frames are gone. -/
def portDown (s : State) (i : Nat) : State := portClear (fput s F.FAB_PORT_STAT_LINK i 0) i

theorem fget_portDown_reg (s : State) {f : Fld} (h : F.FAB_PORT_STAT_LINK.reg ≠ f.reg) (i j : Nat) : fget (portDown s i) f j = fget s f j := by
  rw [portDown, fget_portClear, fget_fput_reg _ _ (.inl h)]

theorem link_portDown_self (s : State) (i : Nat) : fget (portDown s i) F.FAB_PORT_STAT_LINK i = 0 := by
  rw [portDown, fget_portClear, fget_fput_self _ _ _ _ (by decide)]
  rfl

theorem link_portDown_ne (s : State) {i j : Nat} (h : i % 65536 ≠ j % 65536) : fget (portDown s i) F.FAB_PORT_STAT_LINK j = fget s F.FAB_PORT_STAT_LINK j := by
  rw [portDown, fget_portClear, fget_fput_reg _ _ (.inr h)]

/-- A half that fences and does not reset has its flag, and its first port is down. -/
theorem fence_of_hold {s : State} (hold : fbit s F.TWN_CTL_FENCE_MODE 0 = false) (h : Fin 2) :
    fenced (fence s h) h = true ∧ fget (fence s h) F.FAB_PORT_STAT_LINK (3 * h) = 0 := by
  obtain ⟨t, flagged⟩ : ∃ t, t = twUpd (fset s (if h.val = 0 then F.TWN_LEAD_FENCED_A else F.TWN_LEAD_FENCED_B) 0) h
    (fun x => { x with suspended := false, ask := 0 }) := ⟨_, rfl⟩
  obtain ⟨u, down⟩ : ∃ u, u = [3 * h.val, 3 * h.val + 1, 3 * h.val + 2].foldl portDown t := ⟨_, rfl⟩
  have other {f : Fld} (apart : F.FAB_PORT_STAT_LINK.reg ≠ f.reg) (j : Nat) : fget u f j = fget t f j := by
    rw [down]
    exact foldl_leaves (fun s => fget s f j) (fun s i => fget_portDown_reg s apart i j) _ t
  have mode : fbit u F.TWN_CTL_FENCE_MODE 0 = false := by
    rw [fbit, other (by decide), flagged, fget_twUpd, fset, fget_fput_reg _ _ (.inl (by split <;> decide))]
    exact hold
  have flag : fenced u h = true := by
    fin_cases h
    · rw [fenced, if_pos rfl, fbit, other (by decide), flagged, fget_twUpd]
      exact beq_iff_eq.mpr (fget_fset_self s 0 (by decide) (by decide))
    · rw [fenced, if_neg (by decide), fbit, other (by decide), flagged, fget_twUpd]
      exact beq_iff_eq.mpr (fget_fset_self s 0 (by decide) (by decide))
  have held : fence s h = u := by
    have step : (fun (s : State) i => portClear (fput s F.FAB_PORT_STAT_LINK i 0) i) = portDown := rfl
    rw [fence, step, ← flagged, ← down, mode, if_neg Bool.false_ne_true]
  rw [held]
  refine ⟨flag, ?_⟩
  rw [down, List.foldl_cons, List.foldl_cons, List.foldl_cons, List.foldl_nil, link_portDown_ne _ (by omega), link_portDown_ne _ (by omega), link_portDown_self]

/-! ### TAKEOVER and RESYNC -/

theorem takeover_of_allowed {s t u : State} {c : Word} {h n : Nat} (head : twnHead s 1 = some c) (half : h = bget c 59 1)
    (allowed : takeRefusal s h (bbit c 58) = 0) (took : takeAll s h 0 (tw s h).mir = (n, t))
    (ended : u = fput (twnDone (fput t F.TWN_CMD_STAT_ENTRIES 0 n) 0) F.TWN_HS_STAT_MIRROR_OK h 0) : exec .twnTakeover s =
      .next (let y := twUpd u h (fun x => { x with mir := [], mirReg := [], mirMap := [], taken := x.before })
      if heldHalf y h then enterSync y h else y) := by
  change execTwnTakeover s = _
  rw [execTwnTakeover, head]
  dsimp only
  rw [← half, takeover, allowed, took]
  dsimp only
  rw [← ended]
  exact congrArg Host.Outcome.next (if_neg (not_not.mpr rfl))

theorem resync_of_paired {s : State} {c : Word} {h : Nat} (head : twnHead s 2 = some c) (half : h = bget c 59 1) (paired : pairState s h ≠ 0) :
    exec .twnResync s = .next (twnDone (enterSync s h) 0) := by
  change execTwnResync s = _
  rw [execTwnResync, head]
  dsimp only
  rw [← half, if_neg paired]

/-- Settles O52: a frame that is taken reaches the vote's branch; the other events and commands take their only branch. -/
theorem votesFencingAndTakeover : Obligations.VotesFencingAndTakeover := by
  unfold Obligations.VotesFencingAndTakeover
  intro s v w h r g q e l c
  refine ⟨?_, ?_, ?_, ?_, ?_, ?_, ?_, ?_⟩
  · intro started on ok enabled partner counted acked
    constructor
    · intro typ free leader epoch half
      have taken : exec (.voteReq h r) s = .next (voteReqIn w h r.f) := by
        change execVoteReq h r s = _
        rw [execVoteReq, frameHere_acked started on ok enabled partner typ (by decide), ← counted, ← acked]
      rw [taken]
      refine ⟨?_, ?_, ?_⟩
      · exact fun newer u recorded => congrArg _ (voteReqIn_of_new free leader epoch half newer recorded)
      · exact fun same known => congrArg _ (voteReqIn_of_same free leader epoch half same known)
      · exact fun given older other => congrArg _ (voteReqIn_of_other free leader epoch half given older other)
    · intro typ suspended asked answer
      have taken : exec (.vote h r) s = .next (voteIn w h r.f) := by
        change execVote h r s = _
        rw [execVote, frameHere_of_good (reached_of_le (by decide) started) on ok enabled partner typ, if_neg (by decide), ← counted, ← acked]
      rw [taken]
      exact ⟨fun granted => congrArg _ (voteIn_of_granted suspended asked answer granted),
        fun refused => congrArg _ (voteIn_of_refused suspended asked answer refused)⟩
  · intro suspended asked
    have waits : ((tw s h).suspended && (tw s h).ask != 0) = true := by
      rw [suspended, Bool.true_and, bne_iff_ne]
      exact asked
    exact ⟨congrArg Host.Outcome.next (if_pos waits), congrArg Host.Outcome.next (if_pos waits)⟩
  · intro there up cut epoch
    rw [d2dLoss_of_up there up, ← cut]
    exact ⟨fun alone => congrArg _ (lossVote_of_alone alone epoch), fun twin t u first second => congrArg _ (lossVote_of_twin twin epoch first second)⟩
  · exact fun hold => fence_of_hold hold h
  · rintro rfl lost other free resumed hold
    exact congrArg Host.Outcome.next (if_pos (by rw [lost, other, free, resumed, hold]; rfl))
  · exact fun lost out => congrArg Host.Outcome.next (if_pos (by rw [lost, out]; rfl))
  · exact fun n t u head half allowed took ended => takeover_of_allowed head half allowed took ended
  · exact fun head half paired => resync_of_paired head half paired

end Sys2Proof.Machine
end

section
/-!
The statement of 16_bringup.md on resets (R610-R616, R657), the start order (R617) and discovery (R626-R630).
-/

namespace Sys2Proof.Machine

/-! ### What a device reset leaves -/

/-- A register that is not the reset's cause reads as after reset. -/
theorem rword_deviceReset (s : State) (cause : Nat) {r : Reg} (other : r ≠ .GLB_RESET_CAUSE) (i : Nat) :
    rword (deviceReset s cause) r i = rword State.reset r i := by
  rw [deviceReset]
  exact rword_rput_ne _ _ (.inl other.symm)

theorem boot_deviceReset (s : State) (cause : Nat) (h : Fin 2) : (tw (deviceReset s cause) h).boot ≠ 0 := by
  have drawn (s : State) : bootDraw s ≠ 0 := Nat.one_le_iff_ne_zero.mp (Nat.le_max_left ..)
  fin_cases h
  · exact drawn s
  · exact drawn (bump s)

theorem til_deviceReset (s : State) (cause t : Nat) : til (deviceReset s cause) t = til State.reset t := rfl

theorem cx_deviceReset (s : State) (cause c : Nat) : cx (deviceReset s cause) c = cx State.reset c := rfl

/-! ### What asks for a reset -/

theorem askedReset_of_started {s : State} (started : deviceStarting s = false) (cause : Nat) :
    askedReset s cause = deviceReset (giveupOn (giveupOn (withdraw s) 0) 1) cause := by
  rw [askedReset, started, if_neg Bool.false_ne_true]

theorem askedHalf_one_of_started {s : State} (device : deviceStarting s = false) (half : halfStarting s 1 = false) :
    askedHalf s 1 = Machine.halfReset (giveupOn s 1) 1 := by
  rw [askedHalf, device, half, if_neg (by decide), if_neg (fun x => absurd x.1 (by decide))]

theorem glbReset_of_device {s : State} {val : Word} (reach : hostReach s = true) (confirm : bget val 48 16 = 0xC9C9) (kind : bget val 0 2 = 1) :
    exec (.glbReset val) s = .next (askedReset s 3) := by
  refine congrArg Host.Outcome.next ((hostGate_open reach (.inr (by decide)) _).trans ?_)
  rw [Machine.glbReset, if_neg (not_not.mpr confirm), kind]
  rfl

theorem resetRelease_of_held {s : State} (held : s.start.held = true) (cool : s.pins.thermTrip = false) : ∃ t, exec .resetRelease s = .next t ∧
    t.start.held = false ∧ t.now = 0 ∧ t.pins.sysRst = false ∧ t.pins.perst = false :=
  ⟨_, congrArg Host.Outcome.next (if_neg (by rw [held, cool]; decide)), rfl, rfl, rfl, rfl⟩

/-! ### Steps of the start order -/

theorem startStep_of_device {s : State} {o : StartObs} (going : s.start.held = false) (on : s.pins.outputsStopped = false) (notPcie : o.pcie = false)
    (notHalf : o.half = none) : exec (.startStep o) s = .next (deviceStep s o) := by
  change execStartStep o s = _
  rw [execStartStep, going, on, notPcie, notHalf, if_neg (by decide), if_neg Bool.false_ne_true]

theorem goTo_of_not_ready (s : State) {n : Nat} (h : n ≠ 12) : goTo s n = fput s F.GLB_STAT_PHASE 0 n := by
  rw [goTo, if_neg h]

theorem deviceStep_one {s : State} {o : StartObs} (step : fget s F.GLB_STAT_PHASE 0 = 1) (ok : o.ok = true) :
    deviceStep s o = fput (stampStep s 1) F.GLB_STAT_PHASE 0 2 := by
  rw [deviceStep, step]
  exact (if_pos ok).trans (goTo_of_not_ready _ (by decide))

theorem deviceStep_three {s : State} {o : StartObs} (step : fget s F.GLB_STAT_PHASE 0 = 3) (accepted : accepts s s.image0 = true) :
    deviceStep s o = fput (beginPcie (stampStep (loadImage s s.image0 false) 3)) F.GLB_STAT_PHASE 0 5 := by
  rw [deviceStep, step]
  exact (if_pos accepted).trans (goTo_of_not_ready _ (by decide))

theorem deviceStep_eleven {s t : State} {o : StartObs} (step : fget s F.GLB_STAT_PHASE 0 = 11) (next : t = windowsGo (goTo (stampStep s 11) 12))
    (alone : registrars t = []) : deviceStep s o =
      cmpReserved (irq (fsetIf (fset t F.GLB_STAT_DISCOVERED 0) (!standalone t) F.GLB_STAT_NO_REG 0) 0 16) 16 := by
  rw [deviceStep, step]
  change ready s = _
  rw [ready, ← next, alone, List.isEmpty_nil, if_pos rfl]

/-! ### Discovery -/

theorem discoveryFrame_of_first {s v : State} {d : Disc} {slot : Nat} (announcing : announces s = true) (some' : registrars s ≠ [])
    (first : s.start.disc = none) (drawn : slot = drawOf s 21 % max (fget s F.GLB_DISC_CTL_SLOTS 0) 1)
    (settings : d = { frame := 0, slot := slot, reg0 := fget s F.GLB_DISC_CTL_REG0 0, reg1 := fget s F.GLB_DISC_CTL_REG1 0,
                      tries := fget s F.GLB_DISC_CTL_TRIES 0 })
    (begun : v = { s with start := { s.start with disc := some d } }) : discoveryFrame s = bump (fput v F.GLB_DISC_STAT_SLOT 0 slot) := by
  have kept : frameOver s = s := by rw [frameOver, first]
  have named : (registrars s).isEmpty = false := by rw [List.isEmpty_eq_false_iff]; exact some'
  rw [discoveryFrame, announcing, named, if_neg (by decide), first]
  dsimp only
  rw [kept, ← drawn, ← settings, ← begun]

theorem announce_of_slot {s v : State} {d : Disc} (announcing : announces s = true) (frame : s.start.disc = some d) (waits : d.sent = false)
    (registrar : d.reg0 ≠ 65535) (alone : d.reg1 = 65535) (sent : v = { s with start := { s.start with disc := some { d with sent := true } } }) :
    announce s = deviceSend v 5 0 d.reg0 3 (discMsg v 1 d.frame) := by
  have one : [d.reg0, d.reg1].filter (· != 65535) = [d.reg0] := by
    rw [alone]
    simp only [List.filter_cons, bne_self_eq_false, bne_iff_ne.mpr registrar, if_true, Bool.false_eq_true, if_false, List.filter_nil]
  rw [announce, frame]
  dsimp only
  rw [announcing, waits, if_neg (by decide), ← sent, one, List.foldl_cons, List.foldl_nil]

theorem registered_of_frame {s v u : State} {d : Disc} {node boot : Nat} (taken : v = takeStew s 2) (announcing : announces v = true)
    (own : node = fget v F.FAB_NODE_NODE 0) (same : boot = (tw v 0).boot) (frame : v.start.disc = some d)
    (known : u = fset { v with start := { v.start with disc := none } } F.GLB_STAT_DISCOVERED 0) :
    exec (.registered node boot) s = .next (cmpReserved (irq (fput u F.GLB_DISC_STAT_REG_MS 0 (msNow u % 2 ^ 32)) 0 16) 16) := by
  change execRegistered node boot s = _
  rw [execRegistered, ← taken]
  dsimp only
  rw [announcing, ← own, ← same, frame, bne_self_eq_false, bne_self_eq_false, Option.isNone_some, if_neg (by decide), ← known]

theorem takeStew_fab (s : State) (op : Nat) : takeStew s op = { s with fab := { s.fab with stew := (takeStew s op).fab.stew } } := by
  rw [takeStew]
  split <;> rfl

theorem heartbeat_of_one {s : State} {node : Nat} (discovered : fbit s F.GLB_STAT_DISCOVERED 0 = true) (registered : fget s F.GLB_DISC_STAT_REG_MS 0 ≠ 0)
    (one : registrars s = [node]) : exec .heartbeat s = .next (deviceSend s 5 0 node 3 (discMsg s 4 0)) := by
  change execHeartbeat s = _
  rw [execHeartbeat, discovered, beq_eq_false_iff_ne.mpr registered, if_neg (by decide), one, List.foldl_cons, List.foldl_nil]

/-- Settles O54: what a device reset keeps is read off its record; each event and step takes its only branch. -/
theorem resetsAndTheStartOrderComplete : Obligations.ResetsAndTheStartOrderComplete := by
  unfold Obligations.ResetsAndTheStartOrderComplete
  intro s u v cause h val o d node boot slot
  refine ⟨?_, ?_, ?_, ?_, ?_, ?_, ?_, ?_, ?_, ?_, ?_, ?_⟩
  · rintro rfl
    exact ⟨rfl, rfl, rfl, rfl, rfl, rfl, rfl, fget_cause_deviceReset s cause, fun r i other => rword_deviceReset s cause other i,
      cx_deviceReset s cause, til_deviceReset s cause, boot_deviceReset s cause h⟩
  · rintro rfl
    rfl
  · rintro rfl
    rfl
  · rintro rfl device
    exact congrArg Host.Outcome.next (if_neg (ne_true_of_eq_false device))
  · exact fun port => ⟨congrArg Host.Outcome.next (if_pos port), rfl⟩
  · intro device half
    refine ⟨congrArg Host.Outcome.next (askedHalf_one_of_started device half), fun reach confirm kind => ?_⟩
    rw [glbReset_of_device reach confirm kind, askedReset_of_started device]
  · exact resetRelease_of_held
  · intro going on notPcie notHalf
    rw [startStep_of_device going on notPcie notHalf]
    refine ⟨?_, ?_, ?_⟩
    · exact fun step ok => congrArg _ (deviceStep_one step ok)
    · exact fun step accepted => congrArg _ (deviceStep_three step accepted)
    · intro step _ alone t next
      exact congrArg _ (deviceStep_eleven step next (next ▸ alone))
  · intro announcing
    constructor
    · exact fun some' first drawn settings begun => congrArg Host.Outcome.next (discoveryFrame_of_first announcing some' first drawn settings begun)
    · exact fun frame waits registrar alone sent => congrArg Host.Outcome.next (announce_of_slot announcing frame waits registrar alone sent)
  · exact registered_of_frame
  · exact ⟨_, rfl, takeStew_fab s 3⟩
  · exact heartbeat_of_one

end Sys2Proof.Machine
end

section
/-!
The statement of 15_integrity_ageing.md: poison and repair (R585-R587), the INT commands (R580, R584, R607), tests in service (R594-R598) and
ageing (R600-R605).
-/

namespace Sys2Proof.Machine

/-! ### Poison, repair and the INT commands -/

theorem poisonTest_of_good {s : State} {k : Nat} (poisoned : frameUse s k = 4) (serves : stackRetired s (addrStack (keyAddr k)) = false)
    (idle : stroking s (addrStack (keyAddr k)) = false) : poisonTest s k [] false = clearPoison s k := by
  rw [poisonTest]
  dsimp only
  rw [if_neg (not_not.mpr poisoned), serves, idle, if_neg (by decide), List.isEmpty_nil, if_pos rfl]

theorem rowRepair_of_failing {s : State} {st bank row : Nat} (enabled : fbit s F.INT_CTL_REPAIR_EN 0 = true) (serves : stackRetired s st = false)
    (idle : stroking s st = false) (twice : 2 ≤ rowFails s st bank row) : rowRepair s st bank row = (repairRow s st bank row).2 := by
  rw [rowRepair, enabled, serves, idle, decide_eq_false (not_lt.mpr twice), if_neg (by decide)]

theorem irq_int0 (s : State) (f v : Nat) : (irq s f v).int0 = s.int0 := by
  unfold irq
  split <;> rfl

theorem fget_intDone (s : State) (n : Nat) : fget (intDone s n) F.INT_CMD_STAT_RESULT 0 = n % 16 ∧
    fget (intDone s n) F.INT_CMD_STAT_BUSY 0 = 0 ∧ fget (intDone s n) F.INT_CMD_STAT_SEQ 0 = (fget s F.INT_CMD_STAT_SEQ 0 + 1) % 256 :=
  fget_of_command_end (f := F.INT_CMD_STAT_RESULT) (g := F.INT_CMD_STAT_BUSY) (c := F.INT_CMD_STAT_SEQ) rfl rfl rfl rfl rfl rfl
    { s with int0 := { s.int0 with op := 0, arg := 0 } } n 0 0 11

theorem intDone_int0 (s : State) (n : Nat) : (intDone s n).int0 = { s.int0 with op := 0, arg := 0 } := by
  rw [intDone, irq_int0]
  rfl

theorem intSeal_of_host {s : State} (head : intHead s 1 = true) (inside : s.int0.arg < fget s F.TIE_OBJ_BASE_COUNT 0)
    (live : oState (obj s s.int0.arg) = 1) (host : ∀ f, f ∈ objFrames s s.int0.arg → addrTier (keyAddr f) = 1)
    (free : covered s (objFrames s s.int0.arg) = false) :
    intSeal s = intDone { s with syn := s.syn.filter (fun e => !(objFrames s s.int0.arg).contains (e.1 / 1024)) } 0 := by
  have none' : (objFrames s s.int0.arg).any (fun f => addrTier (keyAddr f) != 1) = false := by
    rw [List.any_eq_false]
    exact fun f hf => by rw [host f hf]; decide
  rw [intSeal, head, if_neg (by decide)]
  dsimp only
  rw [none', free, if_neg]
  rintro (x | x | x | x)
  · exact absurd x (not_le.mpr inside)
  · exact x live
  · cases x
  · cases x

/-- AUDIT of tables that name no frame, with no shared frame: nothing is written but failed share lines, and nothing is freed. -/
theorem auditEnd_of_empty {s v w : State} (op : s.int0.op = 2) (begun : s.int0.begun = true) (share : s.tie.share = []) (tables : tableRefs s = [])
    (sets : setRefs s = []) (named : ∀ f, f ∈ unnamed w → f ∉ s.int0.orphans) (rewritten : w = shareRewrite (shareRewrite s 0) 1)
    (ended : v = { w with int0 := { w.int0 with begun := false, filter := [], orphans := [] } }) :
    auditEnd s = intDone (event v 0x29 1 561 0 0 0 0 0) 0 := by
  have none' : (unnamed w).filter (fun k => s.int0.orphans.contains k && !s.int0.filter.contains k) = [] := by
    rw [List.filter_eq_nil_iff]
    intro f hf
    rw [List.contains_eq_mem, decide_eq_false (named f hf), Bool.false_and]
    exact Bool.false_ne_true
  rw [auditEnd, begun, if_neg (by simp [op])]
  dsimp only
  rw [share, tables, sets, List.map_nil, List.append_nil, List.append_nil, List.foldl_nil, ← rewritten, none', List.foldl_nil, ← ended, List.length_nil]

theorem intTest_of_tiller {s v : State} (t : Fin 512) (head : intHead s 3 = true) (tiller : s.int0.arg = t) (serves : islState s t ≠ 3)
    (begun : v = tupd { s with int0 := { s.int0 with begun := true } } t (fun x => { x with testAll := true, segDone := 0, sigBad := none, passStart := s.now })) :
    exec .intTest s = .next (testIdle v t) := by
  have inside : ¬ (512 ≤ s.int0.arg ∨ islState s s.int0.arg = 3) := by
    rw [tiller, not_or]
    exact ⟨not_le.mpr t.isLt, serves⟩
  change execIntTest s = _
  rw [execIntTest, head, if_neg (by decide)]
  dsimp only
  rw [if_neg inside, begun, ← tiller]

/-! ### The event log's registers -/

theorem fget_intLogBase {s : State} {val : Word} (off : fbit s F.INT_CTL_LOG_EN 0 = false) :
    fget (intLogBase s val) F.INT_LOG_BASE_BASE 0 = bget val 16 48 ∧ fget (intLogBase s val) F.INT_LOG_BASE_SIZE 0 = max 10 (min 20 (bget val 0 5)) ∧
      fget (intLogBase s val) F.INT_LOG_HEAD_HEAD 0 = 0 ∧ fget (intLogBase s val) F.INT_LOG_STAT_TAIL 0 = 0 := by
  rw [intLogBase, off, if_neg Bool.false_ne_true]
  dsimp only
  refine ⟨?_, ?_, ?_, ?_⟩
  · rw [fget_fput_reg _ _ (.inl (by decide)), fget_fput_reg _ _ (.inl (by decide)),
      fget_fput_of_apart (f := F.INT_LOG_BASE_SIZE) (g := F.INT_LOG_BASE_BASE) rfl, fget_fput_self _ _ _ _ (by decide)]
    exact Nat.mod_eq_of_lt (bget_lt ..)
  · rw [fget_fput_reg _ _ (.inl (by decide)), fget_fput_reg _ _ (.inl (by decide)), fget_fput_self _ _ _ _ (by decide)]
    exact Nat.mod_eq_of_lt (by change _ < 32; omega)
  · rw [fget_fput_reg _ _ (.inl (by decide)), fget_fput_self _ _ _ _ (by decide)]
    rfl
  · rw [fget_fput_self _ _ _ _ (by decide)]
    rfl

/-! ### Tests in service -/

theorem testIdle_of_idle {s : State} {t : Nat} (item : (til s t).item = none) (taken : (til s t).taken = none) (loading : (til s t).loading = none)
    (run : islState s t = 0) (enabled : fbit s F.INT_CTL_TEST_EN 0 = true) (deque : (til s t).deque = [])
    (long : fget s F.INT_TEST_IDLE_T 0 * 1000 ≤ tcyc s t - (til s t).idleCyc) : testIdle s t = fput s F.ISL_CLK_STAT_STATE t 2 := by
  rw [testIdle, item, taken, loading, enabled, deque, decide_eq_true long, if_pos ⟨rfl, .inr ⟨run, .inl rfl⟩⟩, setIsl]

section
variable {s v : State} {t : Nat} {val : Word} (testing : islState s t = 2) (clean : (til s t).bad = [])
  (junk : v = tupd { s with fresh := s.fresh + 1 } t (fun x => segJunk x (s.fresh + 1)))
include testing clean junk

theorem segmentEnd_of_good (first : (til s t).sigBad = none) (good : val = Config.testSignature (til s t).segDone) : segmentEnd s t val = segNext v t := by
  rw [segmentEnd]
  dsimp only
  rw [if_neg (not_not.mpr testing), clean, List.find?_nil]
  dsimp only
  rw [← junk, if_pos good, first]

theorem segmentEnd_of_first_bad (first : (til s t).sigBad = none) (bad : val ≠ Config.testSignature (til s t).segDone) :
    segmentEnd s t val = tupd (fadd1 v F.INT_TEST_STAT_FAILS 0 1) t (fun x => { x with sigBad := some val }) := by
  rw [segmentEnd]
  dsimp only
  rw [if_neg (not_not.mpr testing), clean, List.find?_nil]
  dsimp only
  rw [← junk, if_neg bad, first, Option.isNone_none, if_pos rfl]

theorem segmentEnd_of_second_bad {g : Word} {u : State} (again : (til s t).sigBad = some g) (bad : val ≠ Config.testSignature (til s t).segDone)
    (idle : (til s t).testAll = false)
    (recorded : u = event v 0x25 2 t 1 0 0 0 ((til s t).segDone % 65536 + val.toNat % 2 ^ 32 * 2 ^ 32)) :
    segmentEnd s t val = tupd (retireTiller u t) t (fun x => { x with testAll := false, sigBad := none }) := by
  rw [segmentEnd]
  dsimp only
  rw [if_neg (not_not.mpr testing), clean, List.find?_nil]
  dsimp only
  rw [← junk, if_neg bad, again, Option.isNone_some, if_neg Bool.false_ne_true, if_neg (not_and_of_not_left _ (ne_true_of_eq_false idle)), ← recorded]

end

/-! ### Ageing -/

theorem ageSample_eq {s v w : State} {p : Probe}
    (read : w = fput (fput (fput s F.AGE_ISL_NOW_OSC p.isl (p.osc % 65536)) F.AGE_ISL_NOW_FREQ p.isl (islFreq s p.isl)) F.AGE_ISL_NOW_SLACK p.isl
      (p.slack % 65536).toNat)
    (kept : v = ageUpd w p.isl (fun x => { x with samples := x.samples ++ [{ t := timeMs w, f := islFreq s p.isl, slack := p.slack }] })) :
    ageSample s p = if islAdj p.isl && fbit v F.AGE_CTL_EMERG_EN 0 && decide (p.slack * 2 < fget v F.AGE_PLAN_GUARD_PS 0 * 8) then
      ageLimit (setCeil v p.isl (max (islMin p.isl) (fget v F.ISL_CLK_STAT_CEIL p.isl - 25))) p.isl p.slack else v := by
  rw [ageSample, ← read, ← kept]

section
variable {s v : State} {i n k c0 c1 : Nat} (plan : (ageIsl s i).next = some (n, k)) (fresh : (ageIsl s i).old = none)
  (volt : c0 = fget s F.AGE_ISL_PLAN_VOFF i) (ceil : c1 = fget s F.ISL_CLK_STAT_CEIL i)
  (kept : v = ageUpd s i (fun x => { x with old := some (c0, c1) }))
include plan fresh volt ceil kept

theorem planApply_of_rise (up : c0 < n) (more : c1 < k) : planApply s i = fput v F.AGE_ISL_PLAN_VOFF i n := by
  rw [planApply]
  dsimp only
  rw [plan]
  dsimp only
  rw [fresh, ← volt, ← ceil, decide_eq_true up, decide_eq_true more]
  dsimp only [Option.getD_none]
  rw [← kept]
  exact (if_pos rfl).trans (if_pos up)

theorem planApply_of_fall (down : n < c0) (less : k < c1) : planApply s i = setCeil v i k := by
  rw [planApply]
  dsimp only
  rw [plan]
  dsimp only
  rw [fresh, ← volt, ← ceil, decide_eq_true down, decide_eq_true less]
  dsimp only [Option.getD_none]
  rw [← kept]
  exact (if_pos (by simp)).trans (if_neg (by omega))

end

/-- Settles O53: each command and event takes its only branch; AUDIT's passes run over lists that are empty. -/
theorem integrityTestAndAgeingComplete : Obligations.IntegrityTestAndAgeingComplete := by
  unfold Obligations.IntegrityTestAndAgeingComplete
  intro s v w k row n st bank t i val p c0 c1
  refine ⟨?_, ?_, ?_, ?_, ?_, ?_, ?_, ?_, ?_, ?_, ?_, ?_, ?_, ?_, ?_, ?_⟩
  · exact fun poisoned serves idle => congrArg Host.Outcome.next (poisonTest_of_good poisoned serves idle)
  · exact fun enabled serves idle twice => congrArg Host.Outcome.next (rowRepair_of_failing enabled serves idle twice)
  · intro u done
    obtain ⟨result, busy, seq⟩ := fget_intDone s n
    rw [done]
    exact ⟨result, by rw [fbit, busy]; rfl, seq, intDone_int0 s n⟩
  · exact fun head inside live host free => congrArg Host.Outcome.next (intSeal_of_host head inside live host free)
  · exact fun head => congrArg Host.Outcome.next (if_neg (by rw [head]; decide))
  · exact fun op begun share tables sets named rewritten ended =>
      congrArg Host.Outcome.next (auditEnd_of_empty op begun share tables sets named rewritten ended)
  · exact intTest_of_tiller t
  · exact fun head => congrArg Host.Outcome.next (if_pos head)
  · exact fun enabled => congrArg Host.Outcome.next (if_pos enabled)
  · exact fun reach ready off => ⟨_, congrArg Host.Outcome.next (hostGate_open reach (.inl ready) _), fget_intLogBase off⟩
  · exact fun item taken loading run enabled deque long =>
      congrArg Host.Outcome.next (testIdle_of_idle item taken loading run enabled deque long)
  · intro testing clean junk first
    exact ⟨fun good => congrArg Host.Outcome.next (segmentEnd_of_good testing clean junk first good),
      fun bad => congrArg Host.Outcome.next (segmentEnd_of_first_bad testing clean junk first bad)⟩
  · exact fun g u testing clean junk again bad idle recorded =>
      congrArg Host.Outcome.next (segmentEnd_of_second_bad testing clean junk again bad idle recorded)
  · intro enabled read kept
    refine congrArg Host.Outcome.next ((if_pos enabled).trans ?_)
    rw [List.foldl_cons, List.foldl_nil, ageSample_eq read kept]
  · intro planned
    change execAgePlan s = _
    rw [execAgePlan, agePlan, planAll, ← planned, planCount]
  · intro plan fresh volt ceil kept
    exact ⟨fun up more => congrArg Host.Outcome.next (planApply_of_rise plan fresh volt ceil kept up more),
      fun down less => congrArg Host.Outcome.next (planApply_of_fall plan fresh volt ceil kept down less)⟩

end Sys2Proof.Machine
end

section
/-!
The statement of 17_host_interface.md on the rings of the host port (R644-R653, R660), FLR (R656) and ATS (R658), and of 16_bringup.md on
configuration requests (R617).
-/

namespace Sys2Proof.Machine

/-! ### Doorbells -/

/-- A doorbell of an enabled ring whose INDEX lies in it. -/
theorem doorbell_of_ring {s : State} {kind : RingKind} {n i : Nat} {val : Word} (index : i = bget val 0 16) (reach : hostReach s = true)
    (ring : ringEn s kind n = true) (inside : i < ringSize s kind n) (f : State → Nat → State) : doorbell s kind n val f = f s i := by
  rw [doorbell, ← index, reach, if_neg (by decide), ring, decide_eq_false (not_le.mpr inside), if_neg (by decide)]

theorem cplBell_of_ring {s v : State} {m i : Nat} {val : Word} (index : i = bget val 0 16) (reach : hostReach s = true)
    (ring : ringEn s .cpl m = true) (inside : i < ringSize s .cpl m)
    (passed : v = setHost (setCpl s m { cplOf s m with used := (cplOf s m).used - (i + cplSize s m - fget s F.HST_CPL_PTR_HOST m) % cplSize s m }) .cpl m i) :
    cplBell s m val = (List.range 4).foldl (fun s j => reqReserved s (m / 4 * 4 + j) (reqSize s (m / 4 * 4 + j))) v := by
  rw [cplBell, doorbell_of_ring index reach ring inside, passed]

/-! ### What the host port writes -/

theorem txDone_of_one {s : State} {n i : Nat} {x : TxEnt} (loud : halfQuiet s 0 = false) (one : txList s n = [x]) (ended : x.st ≠ 0)
    (entry : i = fget s F.HST_TX_BASE_BASE n * 4096 + 64 * x.idx) :
    txDone s n = irq (hostWrite (hostWrite (txPut s n []) (i + 16) (toBytes 1 (x.st - 1))) (i + 60) (toBytes 4 (5 + x.phase * 2 ^ 31))) n 5 := by
  have first : [x].findIdx? (fun x => x.st != 0) = some 0 := by
    rw [List.findIdx?_cons, bne_iff_ne.mpr ended, if_pos rfl]
  rw [txDone, loud, if_neg Bool.false_ne_true, one, first]
  rw [entry]
  rfl

theorem spillDrain_of_one {s : State} {n : Nat} {e : SpillEnt} (loud : halfQuiet s 0 = false) (free : cplFree s n = true) (one : s.host.spill = [e])
    (own : e.ring = n) : spillDrain s n =
      cplWrite (setSpill s []) n 1 (memBytes s (fget s F.HST_SPILL_BASE 0 * 65536 + 64 * e.slot) 60) := by
  have first : [e].findIdx? (fun e => e.ring == n) = some 0 := by
    rw [List.findIdx?_cons, beq_iff_eq.mpr own, if_pos rfl]
  rw [spillDrain, loud, free, if_neg (by decide), one, first]
  rfl

theorem coalesceTimer_of_waiting {s : State} {n : Fin 256} (ring : fbit s F.HST_CPL_CTL_EN n = true) (waits : (cplOf s n).coal ≠ 0)
    (timed : fget s F.HST_CPL_CTL_COAL_US n ≠ 0) : exec (.coalesceTimer n) s = .next (cplSignal s n) :=
  congrArg Host.Outcome.next (if_pos (by rw [ring, bne_iff_ne.mpr waits, bne_iff_ne.mpr timed]; rfl))

/-! ### Ring control -/

theorem ringCtl_of_reach {s : State} {kind : RingKind} {n : Fin 256} (reach : hostReach s = true) (inside : n.val < ringCount kind) (val : Word) :
    exec (.ringCtl kind n val) s = .next (ringCtlWrite s kind n val) :=
  congrArg Host.Outcome.next (if_pos (by rw [reach, decide_eq_true inside]; rfl))

theorem ringCtlWrite_of_start {s : State} {kind : RingKind} {n : Nat} {val : Word} (off : ringEn s kind n = false) (on : bbit val 63 = true) :
    ringCtlWrite s kind n val = ringStart (plain s (ringCtlReg kind) n val) kind n := by
  rw [ringCtlWrite, off, if_neg Bool.false_ne_true, on]
  exact if_pos rfl

theorem ringEn_of_stop {s : State} {kind : RingKind} {n : Nat} {val : Word} (on : ringEn s kind n = true) (off : bbit val 63 = false) :
    ringEn (ringCtlWrite s kind n val) kind n = false := by
  rw [ringCtlWrite, on, if_pos rfl, off, if_neg Bool.false_ne_true, ringEn, rword_rput_self, bbit, bget_bset_self _ _ _ _ (by decide)]
  rfl

/-! ### A function-level reset -/

/-- A cancel of a context that has not ended is accepted. -/
theorem cancelCtx_of_running {s : State} {c : Nat} (running : ¬ (cstate s c = stDRAINING ∨ cstate s c = stCLOSED)) : (cancelCtx s c).1 = anACCEPTED := by
  rw [cancelCtx, if_neg running]
  split <;> rfl

theorem cancelCtx_of_ended {s : State} {c : Nat} (ended : cstate s c = stDRAINING ∨ cstate s c = stCLOSED) : cancelCtx s c = (anALREADY, s) := by
  rw [cancelCtx]
  exact if_pos ended

theorem cstate_of_norec (s : State) (c : Nat) : cstate (cxUpd s c (fun x => { x with norec := true })) c = cstate s c := by
  rw [cstate, cxUpd, cx_cxPut_self, cstate]

theorem flr_of_one {s w : State} {fn c : Nat} (off : w = recordsGone (ringsOff s fn) fn) (one : ctxsOf w 0 ++ ctxsOf w 1 = [c]) (own : (cx w c).fn = fn)
    (used : cstate w c ≠ stFREE) : flr s fn = if cstate w c = stDRAINING ∨ cstate w c = stCLOSED then cxUpd w c (fun x => { x with norec := true })
      else ownerMsg (cancelCtx (cxUpd w c (fun x => { x with norec := true })) c).2 (cx w c).d 3 endCANCELLED 0 := by
  obtain ⟨v, silent⟩ : ∃ v, v = cxUpd w c (fun x => { x with norec := true }) := ⟨_, rfl⟩
  have state : cstate v c = cstate w c := by rw [silent, cstate_of_norec]
  rw [flr, ← off, one, List.foldl_cons, List.foldl_nil, if_neg (by rw [not_or]; exact ⟨not_not.mpr own, used⟩), ← silent]
  dsimp only
  by_cases ended : cstate w c = stDRAINING ∨ cstate w c = stCLOSED
  · rw [if_pos ended, cancelCtx_of_ended (state ▸ ended)]
    exact if_neg (show ¬ anALREADY = anACCEPTED by decide)
  · rw [if_neg ended, if_pos (cancelCtx_of_running (state ▸ ended))]

/-- Settles O56: a doorbell that is taken reaches its ring; lists of one entry are taken whole; a context that ended is not cancelled again. -/
theorem ringsOfTheHostPortComplete : Obligations.RingsOfTheHostPortComplete := by
  unfold Obligations.RingsOfTheHostPortComplete
  intro s v w n fn k kind val i j iova len c x e
  refine ⟨?_, ?_, ?_, ?_, ?_, ?_, ?_, ?_⟩
  · intro index reach
    refine ⟨?_, ?_, ?_⟩
    · rintro m rfl ring inside passed
      exact congrArg Host.Outcome.next (cplBell_of_ring index reach ring inside passed)
    · exact fun ring inside => congrArg Host.Outcome.next (doorbell_of_ring index reach ring inside _)
    · exact fun ring inside => congrArg Host.Outcome.next (doorbell_of_ring index reach ring inside _)
  · exact fun loud one ended entry => congrArg Host.Outcome.next (txDone_of_one loud one ended entry)
  · exact fun loud free one own => congrArg Host.Outcome.next (spillDrain_of_one loud free one own)
  · exact coalesceTimer_of_waiting
  · intro reach inside
    rw [ringCtl_of_reach reach inside]
    exact ⟨fun off on => congrArg _ (ringCtlWrite_of_start off on), fun on off => ⟨_, rfl, ringEn_of_stop on off⟩⟩
  · exact fun off one own used => congrArg Host.Outcome.next (flr_of_one off one own used)
  · exact fun reach on => congrArg Host.Outcome.next (if_pos (by rw [reach, on]; rfl))
  · exact fun released => congrArg Host.Outcome.next (if_neg (ne_true_of_eq_false released))

end Sys2Proof.Machine
end

section
/-!
The statement of 17_host_interface.md on management over MCTP (R659, R681), and of 16_bringup.md on its reset (R630).
-/

namespace Sys2Proof.Machine

theorem mctp_of_up {s : State} (up : mctpUp s = true) (f : State → State) : mctp s f = .next (f s) :=
  congrArg Host.Outcome.next (if_pos up)

theorem fget_mctpAnswer (s : State) (cmd : Nat) (bs : List Byte) (f : Fld) (i : Nat) : fget (mctpAnswer s cmd bs) f i = fget s f i := by
  rw [mctpAnswer]
  split <;> rfl

section
variable {s : State} (up : mctpUp s = true)
include up

theorem setEndpointId_of_id {eid : Byte} (notNull : eid ≠ 0) (notAll : eid ≠ 0xFF) :
    exec (.setEndpointId eid) s = .next (mctpAnswer (fput s F.HST_MCTP_EID 0 eid.toNat) 257 [0, eid, 0]) := by
  change execSetEndpointId eid s = _
  rw [execSetEndpointId, mctp_of_up up, if_neg (not_or.mpr ⟨notNull, notAll⟩)]

theorem getIdentity_of_up : exec .getIdentity s = .next (mctpAnswer s 1 (toBytes 8 (regView s .GLB_ID 0).toNat ++ toBytes 8 (regView s .GLB_SERIAL 0).toNat ++
    toBytes 8 (regView s .GLB_CFG 0).toNat ++ toBytes 8 (regView s .GLB_STAT 0).toNat)) := by
  change execGetIdentity s = _
  rw [execGetIdentity, mctp_of_up up, List.flatMap_cons, List.flatMap_cons, List.flatMap_cons, List.flatMap_cons, List.flatMap_nil, List.append_nil,
    List.append_assoc, List.append_assoc]

theorem setPowerLimit_of_range {watts : Nat} (low : 900 ≤ watts) (high : watts ≤ 2400) (brake : s.pins.pwrBrake = false) :
    exec (.setPowerLimit watts) s = .next (mctpAnswer { s with gov := { s.gov with limit := watts } } 5 []) := by
  change execSetPowerLimit watts s = _
  rw [execSetPowerLimit, mctp_of_up up, if_neg (by omega), setLimit, brake, if_neg Bool.false_ne_true]

theorem mctpReset_of_confirmed {v : State} (answered : v = mctpAnswer s 6 []) (started : deviceStarting v = false) :
    exec (.mctpReset 0xC9C9) s = .next (deviceReset (giveupOn (giveupOn (withdraw v) 0) 1) 4) := by
  change execMctpReset 0xC9C9 s = _
  rw [execMctpReset, mctp_of_up up, if_pos rfl, ← answered, askedReset_of_started started]

theorem readReg_of_open {off : Nat} (place : off < 0xF00000 ∨ (0x1000000 ≤ off ∧ off < 0x4000000)) (aligned : off % 8 = 0) :
    exec (.readReg off) s = .next (mctpAnswer (hostRead s 0 off).2 7 (toBytes 8 (hostRead s 0 off).1.toNat)) := by
  change execReadReg off s = _
  rw [execReadReg, mctp_of_up up, if_neg (by omega), if_neg (not_not.mpr aligned)]

end

/-- Settles O57: while the endpoint answers, each command is its answer; an answer leaves the registers as they are. -/
theorem managementCommandsAreAnswered : Obligations.ManagementCommandsAreAnswered := by
  unfold Obligations.ManagementCommandsAreAnswered
  intro s v cmd watts off bs eid
  refine ⟨fun on => if_neg (ne_true_of_eq_false on), fun up => ⟨?_, ?_, ?_, ?_, ?_, ?_, ?_, ?_, ?_, ?_, ?_⟩⟩
  · intro notNull notAll
    refine ⟨_, setEndpointId_of_id up notNull notAll, rfl, fun _ => ?_⟩
    rw [fget_mctpAnswer, fget_fput_self _ _ _ _ (by decide)]
    exact Nat.mod_eq_of_lt eid.isLt
  · exact mctp_of_up up (fun s => mctpAnswer s 258 [BitVec.ofNat 8 (fget s F.HST_MCTP_EID 0), 0, 0])
  · exact mctp_of_up up (fun s => mctpAnswer (bump s) 260 (1 :: toBytes 4 (choiceOf s 33)))
  · exact mctp_of_up up (fun s => mctpAnswer s 261 [1, 0x7E])
  · exact getIdentity_of_up up
  · exact mctp_of_up up (fun s => mctpAnswer s 2 (healthPage s))
  · change execGetThermal s = _
    rw [execGetThermal, mctp_of_up up]
  · exact mctp_of_up up (fun s => mctpAnswer s 4 (toBytes 2 s.gov.draw ++ toBytes 2 s.gov.limit))
  · exact setPowerLimit_of_range up
  · exact mctpReset_of_confirmed up
  · exact readReg_of_open up

end Sys2Proof.Machine
end

section
/-!
The statements of 04_sirec_isa.md on scalar memory (R79-R82): a load issues and its data returns, a store and an atomic of the
sheaf store write their bytes.
-/

namespace Sys2Proof.Machine

/-! ### Loads and stores at a good address (R134) -/

section
variable {s : State} {t : Nat} {b : BitVec 54} (runs : issues (til s t) b) (pd : fPD b = 0) (high : fI32 b = 0)
include runs pd high

theorem loadI_of_address (rb : fRB b = 0) (free : freeS (til s t) [fRD b, fRA b] = true) (op : Nat) {n : Nat}
    (aligned : memAddr (til s t) b % n = 0)
    (inside : (inLocal (memAddr (til s t) b) n || inStore (memAddr (til s t) b) n) = true)
    (noWait : sramWait (til s t).pend (memAddr (til s t) b) n false = false) :
    loadI s t op b n = tput s t (pended (til s t) op b (.load (fRD b) n (memAddr (til s t) b))) := by
  rw [loadI, ← pushPend_eq]
  refine (issue_of_issues runs (by simp [pd, high, rb]) free).trans ?_
  rw [if_neg (by simp [noWait]), if_neg (by simp [aligned, inside])]

theorem storeI_of_address (rb : fRB b = 0) (free : freeS (til s t) [fRD b, fRA b] = true) (op : Nat) {n : Nat}
    (aligned : memAddr (til s t) b % n = 0)
    (inside : (inLocal (memAddr (til s t) b) n || inStore (memAddr (til s t) b) n) = true)
    (above : inLocal (memAddr (til s t) b) n = true → imageEnd (til s t) ≤ memAddr (til s t) b)
    (noWait : sramWait (til s t).pend (memAddr (til s t) b) n true = false) :
    storeI s t op b n = tupd (twrite s t (memAddr (til s t) b) (toBytes n (sreg (til s t) (fRD b)).toNat)) t advPc := by
  rw [storeI]
  refine (issue_of_issues runs (by simp [pd, high, rb]) free).trans ?_
  rw [if_neg (by simp [noWait]), if_neg]
  simpa [aligned, inside] using above

/-- An atomic on a word of the sheaf store with good parity: the new word is written and rd takes the old one (R81). -/
theorem amoI_of_address (free : freeS (til s t) [fRD b, fRA b, fRB b] = true) (op : Nat) (f : Word → Word → Word → Word)
    (aligned : memAddr (til s t) b % 8 = 0) (inside : inStore (memAddr (til s t) b) 8 = true)
    (good : tparity s t (memAddr (til s t) b) 8 = false) :
    let old := w64 (ofBytes (tread s t (memAddr (til s t) b) 8))
    amoI s t op b f = tupd (twrite s t (memAddr (til s t) b)
      (toBytes 8 (f old (sreg (til s t) (fRB b)) (sreg (til s t) (fRD b))).toNat)) t (fun x => advPc (sset x (fRD b) old)) := by
  intro old
  rw [amoI]
  refine (issue_of_issues runs (by simp [pd, high]) free).trans ?_
  rw [if_neg (by simp [aligned, inside]), if_neg (by simp [good])]

end

/-! ### A store beside a write to an s register -/

@[simp] theorem sset_sram (x : Tiller) (r : Nat) (w : Word) : (sset x r w).sram = x.sram := by rw [sset_eq]
@[simp] theorem sset_bad (x : Tiller) (r : Nat) (w : Word) : (sset x r w).bad = x.bad := by rw [sset_eq]
@[simp] theorem sset_junk (x : Tiller) (r : Nat) (w : Word) : (sset x r w).junk = x.junk := by rw [sset_eq]
@[simp] theorem sset_junkFrom (x : Tiller) (r : Nat) (w : Word) : (sset x r w).junkFrom = x.junkFrom := by rw [sset_eq]

/-- A write to an s register does not look at local SRAM. -/
theorem sset_withSram (x : Tiller) (m : NMap Byte) (l : List Nat) (r : Nat) (w : Word) :
    sset { x with sram := m, bad := l } r w = { sset x r w with sram := m, bad := l } := by
  unfold sset
  split <;> rfl

/-- A store that also writes an s register and moves the pc on. -/
theorem twrite_stored_sset {s : State} {t a : Nat} {bs : List Byte} (r : Nat) (w : Word)
    (inside : (inLocal a bs.length || inStore a bs.length) = true) :
    stored s (tupd (twrite s t a bs) t (fun x => advPc (sset x r w))) t a bs (advPc (sset (til s t) r w)) :=
  twrite_stored (fun x => advPc (sset x r w)) (fun x => ⟨advPc (sset x r w), by simp [advPc], by simp [advPc], by simp [advPc],
    fun m l => by rw [sset_withSram]; rfl⟩) inside

/-! ### Data that returns (R80, R82) -/

theorem loadReturn_load {s : State} {t i rd n a : Nat} (op : pendOp (til s t) i = some (.load rd n a))
    (good : tparity s t a n = false) :
    loadReturn s t i = tput s t (sset (dropPend (til s t) i) rd (w64 (ofBytes (tread s t a n)))) := by
  simp only [loadReturn, op, good, Bool.false_eq_true, ↓reduceIte, tupd]

/-- Settles O12: the four loads are one operation with a size, which joins the incomplete instructions; its data is written to
rd as it returns. -/
theorem loadsIssueAndDeliver : Obligations.LoadsIssueAndDeliver := by
  refine ⟨fun s t b runs rb pd high free => ?issue, fun s t i rd n a op good => ?deliver⟩
  case issue =>
    intro x a gives
    have load {c : Instr} (op n : Nat) (e : exec c s = .next (loadI s t op b n)) : gives c op n := fun aligned inside noWait =>
      e.trans (congrArg Host.Outcome.next (loadI_of_address runs pd high rb free op aligned inside noWait))
    exact ⟨load _ _ rfl, load _ _ rfl, load _ _ rfl, load _ _ rfl⟩
  case deliver => exact congrArg Host.Outcome.next (loadReturn_load op good)

/-- Settles O13: the four stores are one operation with a size, which writes the low bytes of the register. -/
theorem storesWriteTheirBytes : Obligations.StoresWriteTheirBytes := by
  intro s t b runs rb pd high free x a stores
  have store {c : Instr} (op n : Nat) (e : exec c s = .next (storeI s t op b n)) : stores c n := by
    intro aligned inside above noWait
    refine ⟨_, e.trans (congrArg Host.Outcome.next (storeI_of_address runs pd high rb free op aligned inside above noWait)), ?_⟩
    exact twrite_stored advPc (fun x => ⟨advPc x, rfl, rfl, rfl, fun _ _ => rfl⟩) (by rw [toBytes_length]; exact inside)
  exact ⟨store _ _ rfl, store _ _ rfl, store _ _ rfl, store _ _ rfl⟩

/-- Settles O14: the three atomics are one operation with a function for the new word, which is stored while rd takes the old
one. -/
theorem atomicsExchangeAWord : Obligations.AtomicsExchangeAWord := by
  intro s t b runs pd high free x a old rb rd leaves aligned inside good
  have amo {c : Instr} (op : Nat) (f : Word → Word → Word → Word) (e : exec c s = .next (amoI s t op b f)) :
      leaves c (f old rb rd) := by
    refine ⟨_, e.trans (congrArg Host.Outcome.next (amoI_of_address runs pd high free op f aligned inside good)), ?_⟩
    exact twrite_stored_sset (fRD b) old (by rw [toBytes_length, Bool.or_eq_true]; exact .inr inside)
  exact ⟨amo 0x038 (fun old rb _ => old + rb) rfl, amo 0x039 (fun _ rb _ => rb) rfl,
    amo 0x03A (fun old rb rd => if old = rb then rd else old) rfl⟩

end Sys2Proof.Machine
end

section
/-!
The statements of 04_sirec_isa.md on barriers (R159), pushed work items (R111, R288) and the end of an item (R160).
-/

namespace Sys2Proof.Machine

/-! ### Barriers (R159) -/

/-- A tiller that can issue waits at no barrier. -/
theorem atBar_of_canIssue {x : Tiller} (can : canIssue x = true) : x.atBar = none := by
  simp only [canIssue, Bool.and_eq_true, Option.isNone_iff_eq_none] at can
  obtain ⟨⟨⟨_, atBar⟩, _⟩, _⟩ := can
  exact atBar

/-- Barrier `n` of a sheaf set to a round. -/
def barPut (s : State) (h n : Nat) (r : Bar) : State := shupd s h (fun x => { x with bars := nput (fun _ => {}) x.bars n r })

/-- A tiller no longer waits at barrier `n`. -/
def unbarred (n : Nat) (x : Tiller) : Tiller := if x.atBar = some n then { x with atBar := none } else x

@[simp] theorem til_barPut (s : State) (h n : Nat) (r : Bar) (k : Nat) : til (barPut s h n r) k = til s k := rfl

theorem bars_barPut (s : State) (h n : Nat) (r : Bar) : nget (fun _ => {}) (shf (barPut s h n r) h).bars n = r := by
  rw [barPut, shupd, shf_shput_self, nget_nput_self]

theorem unbarred_of_atBar {n : Nat} {x : Tiller} (waits : x.atBar = some n) : unbarred n x = { x with atBar := none } := if_pos waits

theorem unbarred_of_none {n : Nat} {x : Tiller} (free : x.atBar = none) : unbarred n x = x := if_neg (by simp [free])

@[simp] theorem unbarred_unbarred (n : Nat) (x : Tiller) : unbarred n (unbarred n x) = unbarred n x := by
  by_cases waits : x.atBar = some n
  · rw [unbarred_of_atBar waits]
    exact unbarred_of_none rfl
  · rw [unbarred, unbarred, if_neg waits, if_neg waits]

/-- An arrival either waits or, as the last, releases every tiller that has arrived. -/
theorem arrive_eq {s : State} {t n c need : Nat} {r : Bar} (round : r = nget (fun _ => {}) (shf s (sheafOf t)).bars n)
    (count : need = if r.arrived = [] then c else r.need) :
    arrive s t n c = if need ≤ r.arrived.length + 1 then
        (r.arrived ++ [t]).foldl (fun s u => tupd s u (unbarred n)) (barPut s (sheafOf t) n {})
      else tupd (barPut s (sheafOf t) n { need := need, arrived := r.arrived ++ [t] }) t (fun x => { x with atBar := some n }) := by
  subst round count
  simp only [arrive, List.isEmpty_iff, List.length_append, List.length_cons, List.length_nil, Nat.zero_add]
  rfl

/-- Of the tillers, a release changes those listed. -/
theorem til_foldl_unbarred (n k : Nat) (l : List Nat) (s : State) :
    til (l.foldl (fun s u => tupd s u (unbarred n)) s) k = if k ∈ l then unbarred n (til s k) else til s k := by
  induction l generalizing s with
  | nil => rfl
  | cons u l ih =>
    rw [List.foldl_cons, ih, tupd]
    by_cases same : k = u
    · subst same
      simp
    · rw [til_tput_ne _ _ same]
      simp [same]

theorem shf_foldl_unbarred (n h : Nat) (l : List Nat) (s : State) :
    shf (l.foldl (fun s u => tupd s u (unbarred n)) s) h = shf s h :=
  foldl_leaves (f := fun s u => tupd s u (unbarred n)) (shf · h) (fun _ _ => rfl) l s

/-! ### Pushes (R111) -/

@[simp] theorem islState_tput (s : State) (t : Nat) (x : Tiller) (i : Nat) : islState (tput s t x) i = islState s i := rfl

/-- Items of a tiller in service stay on its deque. -/
theorem spill_of_serves {s : State} {t : Nat} (serves : islState s t ≠ 3) : spill s t = s := if_pos (.inl serves)

theorem pushItem_of_room {s : State} {t : Nat} (serves : islState s t ≠ 3) (room : (til s t).deque.length < 64) (w : Work) :
    pushItem s t w = some (tput s t { til s t with deque := w :: (til s t).deque }) := by
  rw [pushItem, if_pos room, tupd, spill_of_serves (by rwa [islState_tput])]

theorem pushItem_of_full {s : State} {t : Nat} (deque : 64 ≤ (til s t).deque.length) (queue : 1024 ≤ (shf s (sheafOf t)).ovf.length)
    (w : Work) : pushItem s t w = none := by
  rw [pushItem, if_neg (Nat.not_lt.2 deque), if_neg (Nat.not_lt.2 queue)]

/-- A pushed item has joined its step and its attention slot (R272, R290), and the pc has moved on. -/
def pushCounted (s : State) (t : Nat) (w : Work) : State := slotAdd (stepAdd (tupd s t advPc) w) w

theorem til_pushCounted (s : State) (t : Nat) (w : Work) (k : Nat) : til (pushCounted s t w) k = til (tput s t (advPc (til s t))) k :=
  til_of (slotAdd_til.trans stepAdd_til) k

theorem shf_pushCounted (s : State) (t : Nat) (w : Work) (h : Nat) : shf (pushCounted s t w) h = shf s h :=
  shf_of (slotAdd_shf.trans stepAdd_shf) h

theorem islState_pushCounted (s : State) (t : Nat) (w : Work) (i : Nat) : islState (pushCounted s t w) i = islState s i :=
  fget_congr (f := F.ISL_CLK_STAT_STATE) ((slotAdd_ISL_CLK_STAT i).trans (stepAdd_ISL_CLK_STAT i))

section
variable {s : State} {t : Fin 512} {b : BitVec 54} (runs : issues (til s t) b) (rd : fXRD b = 0) (rc : fXRC b = 0) (pd : fXPD b = 0)
  (imm : fXIMM b = 0)
include runs rd rc pd imm

theorem exec_syncBar_of_issues (free : freeS (til s t) [fXRA b, fXRB b] = true) {n c : Nat} (number : n = (sreg (til s t) (fXRA b)).toNat)
    (count : c = (sreg (til s t) (fXRB b)).toNat) (small : n ≤ 15) (least : 2 ≤ c) (most : c ≤ 16) :
    exec (.syncBar t b) s = .next (arrive (tput s t (advPc (til s t))) t n c) := by
  subst number count
  exact congrArg Host.Outcome.next
    ((issue_of_issues runs (by simp [rd, rc, pd, imm]) free).trans (if_neg (by omega)))

/-- A push of a legal item: on the deque or the overflow queue, or stalled. -/
theorem exec_wiPush_of_issues (free : freeS (til s t) [fXRA b, fXRB b] = true) {item : ItemBits}
    (spells : item = BitVec.ofNat 128 ((sreg (til s t) (fXRA b)).toNat + (sreg (til s t) (fXRB b)).toNat * 2 ^ 64))
    (scope : itScope item ≠ 3) (reserved : itRes item = 0) {w : Work} (pusher : (til s t).item = some w) {v : State}
    (counted : v = pushCounted s t { w with bits := item }) :
    exec (.wiPush t b) s = .next ((pushItem v t { w with bits := item }).getD
      (tput v t { til v t with pushing := some { w with bits := item } })) := by
  subst counted spells
  refine congrArg Host.Outcome.next
    ((issue_of_issues runs (by simp [rd, rc, pd, imm]) free).trans ((if_neg (not_or.2 ⟨scope, not_not.2 reserved⟩)).trans ?_))
  rw [pusher, Option.getD_some, pushCounted]
  dsimp only
  split
  next pushed => rw [pushed]; rfl
  next stalled => rw [stalled]; rfl

theorem exec_wiEnd_of_issues (rb : fXRB b = 0) (done : (til s t).pend = []) :
    exec (.wiEnd t b) s = .next (itemEnd (tput s t (advPc (til s t))) t ((sreg (til s t) (fXRA b)).toNat % 256) 0) :=
  congrArg Host.Outcome.next ((issue_of_issues runs (by simp [rd, rb, rc, pd, imm]) rfl).trans
    (if_pos (by rw [done, List.isEmpty_nil])))

end

/-- A stalled push of a tiller in service completes on its deque once that has room. -/
theorem exec_pushStallDone_of_room {s : State} {t : Fin 512} {w : Work} (stalled : (til s t).pushing = some w)
    (serves : islState s t ≠ 3) (room : (til s t).deque.length < 64) :
    exec (.pushStallDone t) s = .next (tput s t { til s t with deque := w :: (til s t).deque, pushing := none }) := by
  change execPushStallDone t s = _
  simp only [execPushStallDone, stalled, pushItem_of_room serves room, tupd, til_tput_self, tput_tput]

/-- Settles O19: an arrival waits or releases, a push takes the deque's head or stalls, and WI.END is the end of the item; each
is read off tiller by tiller. -/
theorem barriersPushesAndItemEnd : Obligations.BarriersPushesAndItemEnd := by
  refine ⟨fun s t b runs rd rc pd imm free => ?_, fun s t w stalled serves room => exec_pushStallDone_of_room stalled serves room,
    fun s t b runs rd rb rc pd imm done => ?itemEnd⟩
  · intro x n c bar need item
    refine ⟨fun small least most => ?barrier, fun scope reserved w pusher => ?push⟩
    case barrier =>
      have arrived := exec_syncBar_of_issues (n := n) (c := c) runs rd rc pd imm free rfl rfl small least most
      rw [arrive_eq (s := tput s t (advPc (til s t))) (r := bar) (need := need) rfl rfl] at arrived
      refine ⟨fun fewer => ?waits, fun last => ?releases⟩
      case waits =>
        rw [if_neg (Nat.not_le.2 fewer)] at arrived
        refine ⟨_, arrived, ?_, fun k other => ?_, ?_⟩
        · rw [tupd, til_tput_self, til_barPut, til_tput_self]
          rfl
        · rw [tupd, til_tput_ne _ _ other, til_barPut, til_tput_ne _ _ other]
        · exact bars_barPut _ _ _ _
      case releases =>
        rw [if_pos last] at arrived
        have here : unbarred n (advPc x) = advPc x := unbarred_of_none (atBar_of_canIssue (x := x) runs.1)
        refine ⟨_, arrived, ?_, ?_, fun k mem waits other => ?_, fun k absent other => ?_⟩
        · rw [til_foldl_unbarred, til_barPut, til_tput_self, here, ite_self]
          rfl
        · rw [shf_foldl_unbarred]
          exact bars_barPut _ _ _ _
        · rw [til_foldl_unbarred, if_pos (List.mem_append_left _ mem), til_barPut, til_tput_ne _ _ other, unbarred_of_atBar waits]
        · rw [til_foldl_unbarred, if_neg (by simp [absent, other]), til_barPut, til_tput_ne _ _ other]
    case push =>
      have pushed := exec_wiPush_of_issues runs rd rc pd imm free rfl scope reserved pusher rfl
      have til_t := til_pushCounted s t { w with bits := item } t
      rw [til_tput_self] at til_t
      refine ⟨fun serves room => ?placed, fun deque queue => ?stalled⟩
      case placed =>
        rw [pushItem_of_room (by rwa [islState_pushCounted]) (by rw [til_t]; exact room), Option.getD_some] at pushed
        refine ⟨_, pushed, ?_, fun k other => ?_⟩
        · rw [til_tput_self, til_t]
          rfl
        · rw [til_tput_ne _ _ other, til_pushCounted, til_tput_ne _ _ other]
      case stalled =>
        rw [pushItem_of_full (by rw [til_t]; exact deque) (by rw [shf_pushCounted]; exact queue), Option.getD_none] at pushed
        refine ⟨_, pushed, ?_⟩
        rw [til_tput_self, til_t]
        rfl
  case itemEnd =>
    obtain ⟨w, item⟩ : ∃ w, (til s t).item = some w := by
      have can := runs.1
      simp only [canIssue, Bool.and_eq_true, Option.isSome_iff_exists] at can
      obtain ⟨⟨⟨⟨item, _⟩, _⟩, _⟩, _⟩ := can
      exact item
    have ended := itemEnd_til (s := tput s t (advPc (til s t))) (t := t) (w := w) (by rw [til_tput_self]; exact item)
      ((sreg (til s t) (fXRA b)).toNat % 256) 0
    rw [til_tput_self, tcyc_tput _ _ _ (by rfl) (by rfl), tput_tput] at ended
    refine ⟨_, exec_wiEnd_of_issues runs rd rc pd imm rb done, ?_, fun k other => ?_⟩
    · rw [til_of ended, til_tput_self]
      rfl
    · rw [til_of ended, til_tput_ne _ _ other]

end Sys2Proof.Machine
end

section
/-!
The statements of 03_tiller_engine.md on work items: placing, taking and stealing them (R110, R112, R113), their start (R109, R161,
R165) and the load of their image (R162, R163).
-/

namespace Sys2Proof.Machine

/-! ### Placing (R110) -/

/-- `k` is the dispatcher's choice among the tillers of a sheaf: in RUN, with room, none of which has fewer items, and of those
with as few the lowest number. -/
def fewestItems (s : State) (h k : Nat) : Prop :=
  k ∈ sheafTillers h ∧ running s k = true ∧ (til s k).deque.length < 64 ∧
    ∀ u ∈ sheafTillers h, running s u = true → (til s u).deque.length < 64 →
      (til s k).deque.length < (til s u).deque.length ∨ ((til s k).deque.length = (til s u).deque.length ∧ k ≤ u)

/-- Where a tiller of the sheaf has room, an item goes to the head of the deque with the fewest. -/
theorem placeItem_of_room {s : State} {h j : Nat} (mem : j ∈ sheafTillers h) (run : running s j = true)
    (room : (til s j).deque.length < 64) (w : Work) :
    ∃ k, fewestItems s h k ∧ placeItem s h w = some (tput s k { til s k with deque := w :: (til s k).deque }) := by
  obtain ⟨k, choice⟩ := fewest_isSome mem run room
  exact ⟨k, fewest_some choice, by rw [placeItem, choice]; rfl⟩

section
variable {s : State} {h : Fin 32} {w : Work} {r : List Work}

theorem exec_itemDispatch_of_none_held {v : State} (inbox : (shf s h).inbox = w :: r) (held : (shf s h).held = [])
    (placed : placeItem (shput s h { shf s h with inbox := r }) h w = some v) : exec (.itemDispatch h) s = .next v := by
  change execItemDispatch h s = _
  simp only [execItemDispatch, inbox, shupd, shf_shput_self]
  rw [if_pos (List.isEmpty_iff.2 held), placed]

theorem exec_itemDispatch_of_held (inbox : (shf s h).inbox = w :: r) (held : (shf s h).held ≠ []) :
    exec (.itemDispatch h) s = .next (shput s h { shf s h with inbox := r, held := (shf s h).held ++ [w] }) := by
  change execItemDispatch h s = _
  simp only [execItemDispatch, inbox, shupd, shf_shput_self, List.isEmpty_iff, held, ↓reduceIte, shput_shput]

theorem exec_dispatchHeldPlace_of_placed {v : State} (held : (shf s h).held = w :: r) (placed : placeItem s h w = some v) :
    exec (.dispatchHeldPlace h) s = .next (shput v h { shf v h with held := r }) := by
  change execDispatchHeldPlace h s = _
  simp only [execDispatchHeldPlace, held, placed, shupd]

end

/-! ### Taking (R112, R163) -/

/-- A tiller that looks for an item and holds its image takes the item. -/
theorem itemTake_of_first {s : State} {t : Nat} {w : Work} {r : List Work} (look : looking s t = true)
    (first : takeFirst (mayRun s t) (til s t).deque = some (w, r)) (image : imageHeld s t w = true) :
    itemTake s t = tput s t { til s t with deque := r, taken := some w, search := 0 } := by
  simp only [itemTake, look, Bool.not_true, Bool.false_eq_true, ↓reduceIte, first, image, tupd]

/-! ### Stealing (R113) -/

/-- The image an item needs depends on the steps in progress, and whether it is held on the tiller's own. -/
theorem imageHeld_congr {s u : State} {t : Nat} (sch : u.sch = s.sch) (img : (til u t).img = (til s t).img) (w : Work) :
    imageHeld u t w = imageHeld s t w := by
  simp only [imageHeld, imageNeeded, stepOf, part, sch, img]

theorem stolen_of_imageHeld {s : State} {t : Nat} {w : Work} (image : imageHeld s t w = true) :
    stolen s t w = tput s t { til s t with taken := some w, search := 0 } := if_pos image

/-- A draw among a list that is not empty is one of it. -/
theorem getD_mod_mem {l : List Nat} (any : l ≠ []) (n : Nat) : l.getD (n % max l.length 1) 0 ∈ l := by
  have inside : n % max l.length 1 < l.length := by
    have := List.length_pos_iff.2 any
    exact Nat.lt_of_lt_of_eq (Nat.mod_lt _ (by omega)) (by omega)
  rw [List.getD_eq_getElem _ _ inside]
  exact List.getElem_mem _

theorem ne_of_mem_victims {s : State} {t g v : Nat} (mem : v ∈ victims s t g) : v ≠ t := by
  simp only [victims, List.mem_filter, Bool.and_eq_true, bne_iff_ne] at mem
  obtain ⟨_, ⟨other, _⟩, _⟩ := mem
  exact other

theorem any_of_mem_victims {s : State} {t g v : Nat} (mem : v ∈ victims s t g) : (til s v).deque.any (thiefMay s t g) = true := by
  simp only [victims, List.mem_filter, Bool.and_eq_true] at mem
  obtain ⟨_, _, any⟩ := mem
  exact any

/-- What a steal from tiller `v` leaves before the item reaches the thief: the item is off the deque, and both tillers have
counted (R113). -/
def stealCounted (s : State) (t v : Nat) (f : Fld) (r : List Work) : State :=
  fadd1 (tcount (tput (bump s) v { til s v with deque := r }) F.TIL_STEALS_STOLEN v 1) f t 1

theorem til_stealCounted (s : State) (t v : Nat) (f : Fld) (r : List Work) (k : Nat) :
    til (stealCounted s t v f r) k = til (tput s v { til s v with deque := r }) k :=
  til_of (tcount_til ..) k

theorem sch_stealCounted (s : State) (t v : Nat) (f : Fld) (r : List Work) : (stealCounted s t v f r).sch = s.sch := by
  change (tcount _ _ _ _).sch = _
  rw [tcount]
  split <;> rfl

/-- A steal from a deque of sheaf `g`: the peer drawn loses its last item that the thief may take. -/
theorem stealDeque_eq {s : State} {t g v : Nat} {w : Work} {r : List Work}
    (drawn : v = (victims s t g).getD (drawOf s 10 % max (victims s t g).length 1) 0)
    (last : takeLast (thiefMay s t g) (til s v).deque = some (w, r)) (f : Fld) :
    stealDeque s t g f = stolen (stealCounted s t v f r) t w := by
  subst drawn
  simp only [stealDeque, last]
  rfl

theorem steal_of_sheaf {s : State} {t : Nat} (look : looking s t = true) (search : (til s t).search = 3)
    (any : victims s t (sheafOf t) ≠ []) : steal s t = stealDeque s t (sheafOf t) F.TIL_STEALS_SHEAF := by
  simp only [steal, look, search, Bool.not_true, Bool.false_eq_true, Nat.lt_irrefl, or_self, List.isEmpty_iff, any, ↓reduceIte]

/-- Settles O21: `fewest`, `takeFirst` and `takeLast` choose as the rules say, and the rest of each step is one deque and the
taker. -/
theorem itemsArePlacedTakenAndStolen : Obligations.ItemsArePlacedTakenAndStolen := by
  refine ⟨fun s h w r j mem run room => ?place, fun s h w r inbox held => exec_itemDispatch_of_held inbox held,
    fun s t look any => ?take, fun s t look search any => ?steal⟩
  case place =>
    refine ⟨fun inbox held => ?_, fun held => ?_⟩
    · obtain ⟨k, best, placed⟩ := placeItem_of_room (s := shput s h { shf s h with inbox := r }) mem run room w
      exact ⟨k, best, exec_itemDispatch_of_none_held inbox held placed⟩
    · obtain ⟨k, best, placed⟩ := placeItem_of_room mem run room w
      exact ⟨k, best, exec_dispatchHeldPlace_of_placed held placed⟩
  case take =>
    obtain ⟨⟨w, r⟩, first⟩ := takeFirst_isSome any
    obtain ⟨a, b, deque, rest, may, earlier⟩ := takeFirst_some first
    exact ⟨a, w, b, deque, may, earlier, fun image =>
      congrArg Host.Outcome.next ((itemTake_of_first look first image).trans (by rw [rest]))⟩
  case steal =>
    have mem := getD_mod_mem any (drawOf s 10)
    obtain ⟨⟨w, r⟩, last⟩ := takeLast_isSome (any_of_mem_victims mem)
    obtain ⟨a, b, deque, rest, may, later⟩ := takeLast_some last
    refine ⟨_, mem, a, w, b, deque, may, later, fun image => ?_⟩
    have other := ne_of_mem_victims mem
    generalize drawn : (victims s t (sheafOf t)).getD (drawOf s 10 % max (victims s t (sheafOf t)).length 1) 0 = v at *
    have mine : til (stealCounted s t v F.TIL_STEALS_SHEAF r) t = til s t := by
      rw [til_stealCounted, til_tput_ne _ _ other.symm]
    have held : imageHeld (stealCounted s t v F.TIL_STEALS_SHEAF r) t w = true := by
      rw [imageHeld_congr (sch_stealCounted s t v _ r) (by rw [mine]), image]
    refine ⟨_, congrArg Host.Outcome.next ((steal_of_sheaf look search any).trans
      ((stealDeque_eq drawn.symm last _).trans (stolen_of_imageHeld held))), ?_, ?_, fun k notVictim notThief => ?_⟩
    · rw [til_tput_ne _ _ other, til_stealCounted, til_tput_self, rest]
    · rw [til_tput_self, mine]
    · rw [til_tput_ne _ _ notThief, til_stealCounted, til_tput_ne _ _ notVictim]

/-! ### The start of an item (R109, R161, R165) -/

/-- The s registers of a tiller that starts an item (R109). -/
def startedRegs (w : Work) : NMap Word :=
  nput (fun _ => 0) (nput (fun _ => 0) [] 1 (w64 (bget w.bits 0 64))) 2 (w64 (bget w.bits 64 64))

/-- The tiller that starts an item (R109, R161): it holds its bits in s1 and s2, its other registers but the acc tiles are 0, and
`e` is the exception that its ENTRY raises. -/
def startedTiller (x : Tiller) (stamp c : Nat) (w : Work) (e : Option Exc) : Tiller :=
  { x with
    item := some w, taken := none, start := stamp, s := startedRegs w, v := [], p := [], pc := w64 (itEntry w.bits)
    itemCyc := c, busyCyc := c, idleCyc := 0, search := 0, pend := [], suppressed := 0, seq := 0, late := false, grants := []
    exc := e }

theorem sreg_startedTiller (x : Tiller) (stamp c : Nat) (w : Work) (e : Option Exc) (r : Nat) :
    sreg (startedTiller x stamp c w e) r =
      if r = 1 then w64 (bget w.bits 0 64) else if r = 2 then w64 (bget w.bits 64 64) else 0 := by
  rw [sreg, startedTiller, startedRegs]
  by_cases two : r = 2
  · simp [two]
  · by_cases one : r = 1
    · simp [one, nget_nput_ne]
    · simp [one, two, nget_nput_ne, nget]

/-- The exception of an ENTRY that lies outside the code area or is no multiple of 8 (R165). -/
def entryExc (s : State) (t : Nat) (entry : Nat) : Option Exc :=
  if inCode (til s t) entry then none
  else some { code := 2, precise := true, pc := w64 entry, instr := 0, addr := w64 entry, time := timeNs s, cyc := tcyc s t / 1000 }

/-- A taken item that its tiller may run starts; nothing differs but that tiller and the stamp of the start. -/
theorem itemStart_of_taken {s : State} {t : Nat} {w : Work} (taken : (til s t).taken = some w) (run : running s t = true)
    (may : mayRun s t w = true) (image : imageHeld s t w = true) (idle : (til s t).item = none) (clear : (til s t).exc = none) :
    itemStart s t = tput { s with stamp := s.stamp + 1 } t
      (startedTiller (til s t) s.stamp (tcyc s t) w (entryExc s t (itEntry w.bits))) := by
  have good : (!(running s t && mayRun s t w && imageHeld s t w && (til s t).item.isNone)) = false := by
    simp [run, may, image, idle]
  have started : itemStart s t =
      let v := tput { s with stamp := s.stamp + 1 } t (startedTiller (til s t) s.stamp (tcyc s t) w (til s t).exc)
      if inCode (til s t) (itEntry w.bits) then v
      else raise v t { code := 2, precise := true, pc := w64 (itEntry w.bits), instr := 0, addr := w64 (itEntry w.bits) } := by
    simp only [itemStart, taken, good, Bool.false_eq_true, ↓reduceIte, tupd, til_tput_self, tput_tput]
    rfl
  rw [started, clear, entryExc]
  split
  next => rfl
  next =>
    rw [raise_records (by rw [til_tput_self]; rfl), tcyc_tput _ _ _ (by rfl) (by rfl), til_tput_self, tput_tput]
    rfl

/-! ### Image loads (R162, R163) -/

/-- An image whose lines and header are right is in local SRAM from address 0 on, and resident. -/
theorem imageLoad_of_good {s : State} {t a n code data len : Nat} (loading : (til s t).loading = some (a, n))
    (codeLen : code = memNat s (a + 8) 4) (dataLen : data = memNat s (a + 12) 4) (whole : len = roundUp (64 + code + data) 64)
    (lines : badLineIn s a (min len 262144) = none) (header : headerOk s a = true) :
    imageLoad s t = tput s t { localWrite (til s t) 0 (memBytes s a len) with
      img := some { home := a, codeLen := code, dataLen := data, id := BitVec.ofNat 64 (memNat s (a + 16) 8) }, loading := none
      noImg := nerase (til s t).noImg (til s t).loadFor.1 } := by
  subst codeLen dataLen whole
  simp only [imageLoad, loading, lines, header, Bool.not_true, Bool.false_eq_true, ↓reduceIte]
  rfl

/-- Settles O22: the start of an item is `startedTiller`, with ADDRESS recorded where ENTRY is bad; the end of an image load is one
write of local SRAM. -/
theorem itemsStartWithTheirBitsInS1AndS2 : Obligations.ItemsStartWithTheirBitsInS1AndS2 := by
  refine ⟨fun s t w taken run may image idle clear => ?start, fun s t a n loading => ?load⟩
  case start =>
    intro entry
    refine ⟨_, congrArg Host.Outcome.next (itemStart_of_taken taken run may image idle clear), ?_⟩
    rw [til_tput_self]
    refine ⟨rfl, rfl, sreg_startedTiller .., sreg_startedTiller .., fun r one two => ?_, fun _ => rfl, fun r zero => if_neg zero,
      fun _ => rfl, fun _ _ => rfl, rfl, rfl, rfl, fun k other => til_tput_ne _ _ other⟩
    rw [sreg_startedTiller, if_neg one, if_neg two]
  case load =>
    intro code data len lines header
    exact congrArg Host.Outcome.next (imageLoad_of_good loading rfl rfl rfl lines header)

end Sys2Proof.Machine
end

section
/-!
The statement of 04_sirec_isa.md on vector instructions that work lane by lane (R87, R119, R128).
-/

namespace Sys2Proof.Machine

/-! ### Issue -/

@[simp] theorem freeV_nil (x : Tiller) : freeV x [] = true := rfl

@[simp] theorem freeV_cons (x : Tiller) (r : Nat) (rs : List Nat) :
    freeV x (r :: rs) = true ↔ awaitV x r = false ∧ freeV x rs = true := by
  rw [freeV, List.all_cons, Bool.and_eq_true, Bool.not_eq_true', freeV]

theorem freeV_of_subset {x : Tiller} {l m : List Nat} (h : l ⊆ m) (free : freeV x m = true) : freeV x l = true :=
  List.all_eq_true.2 fun r hr => List.all_eq_true.1 free r (h hr)

theorem freeP_of_subset {x : Tiller} {l m : List Nat} (h : l ⊆ m) (free : freeP x m = true) : freeP x l = true :=
  List.all_eq_true.2 fun r hr => List.all_eq_true.1 free r (h hr)

/-- A vector instruction that is legal and ready has its effect, whatever its guard (R128). -/
theorem issue_of_vissues {s : State} {t : Nat} {b : BitVec 54} (runs : vissues (til s t) b) {op : Nat} {legal ready : Bool}
    {k : State → State} (legal_ : legal = true) (ready_ : ready = true) : issue s t op b true legal ready k = k s := by
  obtain ⟨can, noWait⟩ := runs
  exact issue_runs can noWait (.inl rfl) legal_ ready_

/-- What a lane-by-lane instruction that issues, legal and ready, gives. -/
theorem vlanes_gives {s : State} {t : Nat} {b : BitVec 54} (runs : vissues (til s t) b) (res : fVres b = 0) {c : Instr} {op : Nat}
    {types zs vs ss ps : List Nat} {f : Tiller → Nat → LaneRes} (e : exec c s = .next (vlanes s t op b types zs vs ss ps f))
    (type : fTYPE b ∈ types) (zero : zeros zs = true) (freeV_ : freeV (til s t) (fVD b :: vs) = true)
    (freeS_ : freeS (til s t) ss = true) (freeP_ : freeP (til s t) ps = true) {g : Nat → LaneRes} (same : f (til s t) = g) :
    ∃ u, exec c s = .next u ∧ laneEffect s u t b g := by
  obtain ⟨can, noWait⟩ := runs
  subst same
  exact ⟨_, e, vlanes_runs can noWait (List.contains_iff_mem.2 type) ((zeros_cons _ _).2 ⟨res, zero⟩) (by rw [freeV_, freeS_, freeP_]; rfl)⟩

/-! ### I32 results (log entry 12) -/

theorem i32Res_spec (op a b : Nat) (i : Int) : (i32Res op a b i).2 = 0 ∧
    (-(2 ^ 31) ≤ i → i < 2 ^ 31 → ((i32Res op a b i).1 : Int) = i % 2 ^ 32) := by
  rw [i32Res]
  split
  next inside =>
    refine ⟨rfl, fun _ _ => ?_⟩
    rw [Int.toNat_of_nonneg (Int.emod_nonneg _ (by decide)), Int.add_emod_right]
  next outside => exact ⟨rfl, fun low high => absurd ⟨low, high⟩ outside⟩

/-- Settles O23: each instruction is one form, `vlanes`, with its types and the function of a lane. -/
theorem vectorLanesHoldTheirResults : Obligations.VectorLanesHoldTheirResults := by
  intro s t b runs res freeV_ freeS_ freeP_ x p q gives givesI
  have lane {c : Instr} (op : Nat) (types zs vs ss ps : List Nat) (f : Tiller → Nat → LaneRes)
      (e : exec c s = .next (vlanes s t op b types zs vs ss ps f)) (type : fTYPE b ∈ types) (zero : zeros zs = true)
      (vsub : fVD b :: vs ⊆ [fVD b, fVA b, fVB b, fVC b]) (ssub : ss ⊆ [fVRS b]) (psub : ps ⊆ [fVPD b]) {g : Nat → LaneRes}
      (same : f x = g) : gives c g :=
    vlanes_gives runs res e type zero (freeV_of_subset vsub freeV_) (freeS_of_subset ssub freeS_) (freeP_of_subset psub freeP_) same
  -- an I32 result of `f` in each lane
  have free32 {c : Instr} (op : Nat) (u v : Nat → Nat) (i : Nat → Int) (e : gives c (fun k => i32Res op (u k) (v k) (i k))) :
      givesI c i := ⟨fun k => i32Res op (u k) (v k) (i k), e, fun k => i32Res_spec op (u k) (v k) (i k)⟩
  refine ⟨fun vc pd imm => ?plain, fun pd rs imm => ?fma, fun vc rs imm type => ?sel⟩
  case plain =>
    have two {c : Instr} (op : Nat) {types : List Nat} {f : Nat → Nat → LaneRes} (g : Nat → Nat → LaneRes) (rs : fVRS b = 0)
        (type : fTYPE b ∈ types) (e : exec c s = .next (vop2 s t op b types f)) (same : ∀ y z, f y z = g y z) :
        gives c (fun k => g (p k) (q k)) :=
      lane op types _ _ _ _ _ e type (by simp [vc, pd, imm, rs]) (by simp) (by simp) (by simp) (funext fun k => same (p k) (q k))
    have one {c : Instr} (op : Nat) {types : List Nat} {f : Nat → LaneRes} (g : Nat → LaneRes) (vb : fVB b = 0) (rs : fVRS b = 0)
        (type : fTYPE b ∈ types) (e : exec c s = .next (vop1 s t op b types f)) (same : ∀ y, f y = g y) : gives c (fun k => g (p k)) :=
      lane op types _ _ _ _ _ e type (by simp [vc, pd, imm, rs, vb]) (by simp) (by simp) (by simp) (funext fun k => same (p k))
    refine ⟨fun rs type => ?f32, fun rs type => ?bf16, fun rs type => ?i32, fun vb rs => ⟨fun type => ?sign32, fun type => ?sign16,
      fun type => ?signI⟩, fun vb type => ?shift, fun va vb type => ?bcast, fun vb type => ?lane, fun rs type => ?perm,
      fun va vb type => ?iota⟩
    case f32 =>
      have f32 {c : Instr} (op : Nat) (ff : Fmt → Nat → Nat → LaneRes) (fi : Nat → Nat → LaneRes)
          (e : exec c s = .next (vop2 s t op b tyArith (byType (fTYPE b) ff fi))) : gives c (fun k => ff fmtF32 (p k) (q k)) :=
        two op (ff fmtF32) rs (by simp [type, tyArith]) e fun _ _ => if_pos type
      exact ⟨f32 _ _ _ rfl, f32 _ _ _ rfl, f32 _ _ _ rfl, f32 _ _ _ rfl, f32 _ _ _ rfl⟩
    case bf16 =>
      have notF32 : ¬fTYPE b = 0 := by simp [type]
      have bf16 {c : Instr} (op : Nat) (ff : Fmt → Nat → Nat → LaneRes) (fi : Nat → Nat → LaneRes)
          (e : exec c s = .next (vop2 s t op b tyArith (byType (fTYPE b) ff fi))) : gives c (fun k => pair16 (ff fmtBf16) (p k) (q k)) :=
        two op (pair16 (ff fmtBf16)) rs (by simp [type, tyArith]) e fun _ _ => (if_neg notF32).trans (if_pos type)
      exact ⟨bf16 _ _ _ rfl, bf16 _ _ _ rfl, bf16 _ _ _ rfl, bf16 _ _ _ rfl, bf16 _ _ _ rfl⟩
    case i32 =>
      have notF32 : ¬fTYPE b = 0 := by simp [type]
      have notBf16 : ¬fTYPE b = 1 := by simp [type]
      have ints {c : Instr} (op : Nat) (ff : Fmt → Nat → Nat → LaneRes) (fi : Nat → Nat → LaneRes)
          (e : exec c s = .next (vop2 s t op b tyArith (byType (fTYPE b) ff fi))) : gives c (fun k => fi (p k) (q k)) :=
        two op fi rs (by simp [type, tyArith]) e fun _ _ => (if_neg notF32).trans (if_neg notBf16)
      have ranged {c : Instr} (op : Nat) (ff : Fmt → Nat → Nat → LaneRes) (i : Nat → Nat → Int)
          (e : exec c s = .next (vop2 s t op b tyArith (byType (fTYPE b) ff (fun y z => i32Res op y z (i y z))))) :
          givesI c (fun k => i (p k) (q k)) :=
        free32 op p q (fun k => i (p k) (q k)) (ints op ff (fun y z => i32Res op y z (i y z)) e)
      exact ⟨ranged 0x081 fadd (fun y z => sext 32 y + sext 32 z) rfl, ranged 0x082 fsub (fun y z => sext 32 y - sext 32 z) rfl,
        ints 0x083 fmul (fun y z => (y * z % 2 ^ 32, 0)) rfl, ints 0x085 fmax (fun y z => (if sext 32 y < sext 32 z then z else y, 0)) rfl,
        ints 0x086 fmin (fun y z => (if sext 32 z < sext 32 y then z else y, 0)) rfl,
        two 0x089 (fun y z => (Nat.land y z, 0)) rs (by simp [type]) rfl fun _ _ => rfl,
        two 0x08A (fun y z => (Nat.lor y z, 0)) rs (by simp [type]) rfl fun _ _ => rfl,
        two 0x08B (fun y z => (Nat.xor y z, 0)) rs (by simp [type]) rfl fun _ _ => rfl⟩
    case sign32 =>
      have isArith : fTYPE b ∈ tyArith := by simp [type, tyArith]
      exact ⟨one 0x087 (fun y => (y % 2 ^ 31, 0)) vb rs isArith rfl fun y => if_pos type,
        one 0x088 (fun y => (Nat.xor y 0x80000000, 0)) vb rs isArith rfl fun y => if_pos type⟩
    case sign16 =>
      have isArith : fTYPE b ∈ tyArith := by simp [type, tyArith]
      have notF32 : ¬fTYPE b = 0 := by simp [type]
      exact ⟨one 0x088 (fun y => (Nat.xor y 0x80008000, 0)) vb rs isArith rfl fun y => (if_neg notF32).trans (if_pos type),
        one 0x087 (fun y => (y / 65536 % 2 ^ 15 * 65536 + y % 2 ^ 15, 0)) vb rs isArith rfl
          fun y => (if_neg notF32).trans (if_pos type)⟩
    case signI =>
      have isArith : fTYPE b ∈ tyArith := by simp [type, tyArith]
      have notF32 : ¬fTYPE b = 0 := by simp [type]
      have notBf16 : ¬fTYPE b = 1 := by simp [type]
      exact ⟨free32 0x087 p (fun _ => 0) (fun k => (sext 32 (p k)).natAbs) (one 0x087 (fun y => i32Res 0x087 y 0 (sext 32 y).natAbs) vb rs
          isArith rfl fun y => (if_neg notF32).trans (if_neg notBf16)),
        free32 0x088 p (fun _ => 0) (fun k => -(sext 32 (p k))) (one 0x088 (fun y => i32Res 0x088 y 0 (-(sext 32 y))) vb rs
          isArith rfl fun y => (if_neg notF32).trans (if_neg notBf16))⟩
    case shift =>
      exact ⟨lane 0x08C _ _ _ _ _ _ rfl (by simp [type]) (by simp [vc, pd, imm, vb]) (by simp) (by simp) (by simp) rfl,
        lane 0x08D _ _ _ _ _ _ rfl (by simp [type]) (by simp [vc, pd, imm, vb]) (by simp) (by simp) (by simp) rfl⟩
    case bcast => exact lane 0x08F _ _ _ _ _ _ rfl (by simpa using type) (by simp [va, vb, vc, pd, imm]) (by simp) (by simp) (by simp) rfl
    case lane => exact lane 0x090 _ _ _ _ _ _ rfl (by simpa using type) (by simp [vb, vc, pd, imm]) (by simp) (by simp) (by simp) rfl
    case perm => exact lane 0x091 _ _ _ _ _ _ rfl (by simpa using type) (by simp [vc, pd, rs, imm]) (by simp) (by simp) (by simp) rfl
    case iota =>
      exact free32 0x092 (fun _ => (sreg x (fVRS b)).toNat % 2 ^ 32) id (fun k => sext 32 ((sreg x (fVRS b)).toNat % 2 ^ 32) + k)
        (lane 0x092 _ _ _ _ _ _ rfl (by simp [type]) (by simp [va, vb, vc, pd, imm]) (by simp) (by simp) (by simp) rfl)
  case fma =>
    refine ⟨fun type => ?_, fun type => ?_⟩
    · exact lane 0x084 _ _ _ _ _ _ rfl (by simp [type]) (by simp [pd, rs, imm]) (by simp) (by simp) (by simp) (funext fun k => if_pos type)
    · have notF32 : ¬fTYPE b = 0 := by simp [type]
      exact lane 0x084 _ _ _ _ _ _ rfl (by simp [type]) (by simp [pd, rs, imm]) (by simp) (by simp) (by simp)
        (funext fun k => if_neg notF32)
  case sel => exact lane 0x08E _ _ _ _ _ _ rfl (by simpa using Nat.lt_succ_of_le type) (by simp [vc, rs, imm]) (by simp) (by simp) (by simp) rfl

end Sys2Proof.Machine
end

section
/-!
The statement of 04_sirec_isa.md on vector compares, conversions, functions, reductions, draws and quantisers (R95, R96, R100,
R137-R140).
-/

namespace Sys2Proof.Machine

/-- What a vector instruction that issues, legal and ready, gives when its effect is to write VD. -/
theorem vwrite_gives {s : State} {t : Nat} {b : BitVec 54} (runs : vissues (til s t) b) {c : Instr} {op : Nat} {legal ready : Bool}
    {k : State → State} (f : Nat → LaneRes) (e : exec c s = .next (issue s t op b true legal ready k)) (legal_ : legal = true)
    (ready_ : ready = true)
    (writes : k s = vwrite s t (fVD b) (lanes (preg (til s t) (guardOf b)) (vreg (til s t) (fVD b)) f)) :
    ∃ u, exec c s = .next u ∧ laneEffect s u t b f :=
  ⟨_, e.trans (congrArg Host.Outcome.next ((issue_of_vissues runs legal_ ready_).trans writes)), vwrite_lanes s t b f⟩

/-- The flags of results that are nothing in the lanes turned off are those of the active lanes. -/
theorem lanesFlags_guarded (g : PReg) (f : Nat → LaneRes) :
    lanesFlags ((List.range 128).map (fun k => if bbit g k then f k else (0, 0))) = laneFlags g f := by
  rw [lanesFlags, laneFlags, List.foldl_map]
  congr 1
  funext a k
  by_cases on : bbit g k = true <;> simp [on]

theorem toNat_lane (v : VReg) (k : Nat) : (lane v k).toNat = laneN v k := by
  rw [lane, BitVec.toNat_ofNat]
  exact Nat.mod_eq_of_lt (bget_lt _ _ _)

/-- A choice between two registers lane by lane. -/
theorem laneN_vmake_ite (g : PReg) (v w : VReg) {k : Nat} (small : k < 128) :
    laneN (vmake (fun k => if bbit g k then lane v k else lane w k)) k = if bbit g k then laneN v k else laneN w k := by
  rw [laneN_vmake _ small]
  split <;> exact toNat_lane _ _

/-! ### Sums over the four blocks of VQMX -/

theorem foldl_add_range_four (f : Nat → Nat) : (List.range 4).foldl (fun a i => a + f i) 0 = f 0 + f 1 + f 2 + f 3 := by
  simp [List.range_succ]

theorem flatMap_range_four {α : Type} (f : Nat → List α) : (List.range 4).flatMap f = f 0 ++ f 1 ++ f 2 ++ f 3 := by
  simp [List.range_succ]

/-! ### Compares and reductions -/

section
variable {s : State} {t : Nat} {b : BitVec 54} (runs : vissues (til s t) b)
include runs

theorem vcmp_of_vissues {op : Nat} {f : Int → Int → Bool}
    (legal : ([0, 9].contains (fTYPE b) && zeros [fVres b, fVD b, fVC b, fVRS b, fVIMM b]) = true)
    (ready : (freeV (til s t) [fVA b, fVB b] && freeP (til s t) [fVPD b]) = true) :
    let x := til s t
    let p (k : Nat) : Nat := laneN (vreg x (fVA b)) k
    let q (k : Nat) : Nat := laneN (vreg x (fVB b)) k
    let nan (k : Nat) : Bool := fTYPE b == 0 && (fisNan fmtF32 (p k) || fisNan fmtF32 (q k))
    vcmp s t op b f = fpFlags (tput s t (advPc (pset x (fVPD b) (pmake (fun k => bbit (preg x (guardOf b)) k &&
      if nan k then false
      else if fTYPE b = 0 then f (fkey fmtF32 (p k)) (fkey fmtF32 (q k)) else f (sext 32 (p k)) (sext 32 (q k))))))) t
      (if (List.range 128).any (fun k => bbit (preg x (guardOf b)) k && nan k) then flNANIN else 0) := by
  intro x p q nan
  rw [vcmp]
  exact issue_of_vissues runs legal ready

theorem vreduce_of_vissues {op ident : Nat} {f : Nat → Nat → LaneRes}
    (legal : ([0, 9].contains (fTYPE b) && zeros [fVres b, fVD b, fVB b, fVC b, fVPD b, fVIMM b]) = true)
    (ready : (freeV (til s t) [fVA b] && freeS (til s t) [fVRS b]) = true) :
    let x := til s t
    let xs := (List.range 128).map (fun k => if bbit (preg x (guardOf b)) k then laneN (vreg x (fVA b)) k else ident)
    let r := tree f 7 xs 0
    vreduce s t op b ident f = fpFlags (tput s t (advPc (sset x (fVRS b) (BitVec.ofNat 64 r.1)))) t
      (if fTYPE b == 0 && xs.any (fisNan fmtF32) then r.2 else r.2 % flNANIN) := by
  intro x xs r
  rw [vreduce]
  exact issue_of_vissues runs legal ready

end

/-- Settles O24: each instruction, legal and ready, has its effect (R128); lane by lane it is a write of VD. -/
theorem vectorFunctionsAndReductions : Obligations.VectorFunctionsAndReductions := by
  intro s t b runs res vc freeV_ freeS_ freeP_ x g p q ty imm gives
  have vFree {l : List Nat} (h : l ⊆ [fVD b, fVA b, fVB b]) : freeV x l = true := freeV_of_subset h freeV_
  have sFree {l : List Nat} (h : l ⊆ [fVRS b, fVRS b + 1]) : freeS x l = true := freeS_of_subset h freeS_
  have pFree {l : List Nat} (h : l ⊆ [fVPD b]) : freeP x l = true := freeP_of_subset h freeP_
  refine ⟨fun vb pd rs (noImm : fVIMM b = 0) (f32 : fTYPE b = 0) => ?functions,
    fun vb pd (small : fVIMM b < 16) even (f32 : fTYPE b = 0) => ?draws,
    fun pd rs (kv : kv4Legal (fVIMM b) = true) (f32 : fTYPE b = 0) => ?kv4d,
    fun va vb pd rs (small : fVIMM b < 32) free (f32 : fTYPE b = 0) => ?tile,
    fun vd rs (noImm : fVIMM b = 0) (type : fTYPE b = 0 ∨ fTYPE b = 9) => ?compares,
    fun vd vb pd (noImm : fVIMM b = 0) (type : fTYPE b = 0 ∨ fTYPE b = 9) => ?reduces,
    fun vb pd rs (small : fVIMM b < 64) src dst widths => ?converts,
    fun vb pd (noImm : fVIMM b = 0) (type : fTYPE b = 5 ∨ fTYPE b = 6 ∨ fTYPE b = 7 ∨ fTYPE b = 8) => ?quantises,
    fun (kv : kv4Legal (fVIMM b) = true) (f32 : fTYPE b = 0) active => ?kv4e⟩
  case functions =>
    have one {c : Instr} (op : Nat) (f : Nat → LaneRes) (e : exec c s = .next (vop1 s t op b [0] f)) : gives c (fun k => f (p k)) :=
      vlanes_gives runs res e (List.mem_singleton.2 f32) (by simp [vc, pd, noImm, rs, vb]) (vFree (by simp)) rfl rfl rfl
    exact ⟨one _ _ rfl, one _ _ rfl, one _ _ rfl⟩
  case draws =>
    refine vlanes_gives runs res (c := .vrng t b) rfl (List.mem_singleton.2 f32) ?_ (vFree (by simp)) (sFree (by simp)) rfl ?_
    · simp [vb, vc, pd, even, small]
    · rw [Nat.mod_eq_of_lt small]
  case kv4d =>
    exact vwrite_gives runs _ (c := .vkv4d t b) rfl (by simp [f32, kv, res, vc, pd, rs]) (vFree (by simp)) rfl
  case tile =>
    have group : fVIMM b / 4 % 8 = fVIMM b / 4 := Nat.mod_eq_of_lt (by omega)
    refine vwrite_gives runs _ (c := .vldacc t b) rfl ?_ ?_ ?_
    · simp [f32, res, va, vb, vc, pd, rs, small]
    · rw [Bool.and_eq_true, free]
      exact ⟨vFree (by simp), rfl⟩
    · rw [group]
  case compares =>
    intro nan a c compares
    have compare {i : Instr} (op : Nat) {f : Int → Int → Bool} {r : Int → Int → Prop} (same : ∀ y z, f y z = true ↔ r y z)
        (e : exec i s = .next (vcmp s t op b f)) : compares i r := by
      refine ⟨_, e.trans (congrArg Host.Outcome.next (vcmp_of_vissues runs ?_ ?_)), fun k small => ?_⟩
      · simp [type, res, vd, vc, rs, noImm]
      · rw [Bool.and_eq_true]
        exact ⟨vFree (by simp), pFree (by simp)⟩
      · rw [getLsbD_pmake _ small, Bool.and_eq_true, ← same]
        refine and_congr_right fun _ => ?_
        by_cases isNan : nan k = true
        · exact iff_of_false (fun h => Bool.false_ne_true ((if_pos isNan).symm.trans h)) fun h => by simp [isNan] at h
        · refine .trans (iff_of_eq (congrArg (· = true) ((if_neg isNan).trans ?_)))
            (and_iff_right (Bool.not_eq_true _ ▸ isNan)).symm
          simp only [a, c, ty]
          split <;> rfl
    exact ⟨compare _ (fun y z => decide_eq_true_iff) rfl, compare _ (fun y z => decide_eq_true_iff) rfl,
      compare _ (fun y z => decide_eq_true_iff) rfl⟩
  case reduces =>
    intro reduces
    have reduce {i : Instr} (op ident : Nat) (f : Nat → Nat → LaneRes) (e : exec i s = .next (vreduce s t op b ident f)) :
        reduces i ident f := by
      refine e.trans (congrArg Host.Outcome.next (vreduce_of_vissues runs ?_ ?_))
      · simp [type, res, vd, vb, vc, pd, noImm]
      · rw [Bool.and_eq_true]
        exact ⟨vFree (by simp), sFree (by simp)⟩
    exact ⟨reduce _ _ _ rfl, reduce _ _ _ rfl⟩
  case converts =>
    intro sw dw half reads writes result
    obtain ⟨flags, elems, others⟩ := vcvtReg_spec (st := fVIMM b % 16) (dt := fTYPE b) (half := half) (sat := fVIMM b / 16 % 2 == 0)
      (g := g) (src := vreg x (fVA b)) (old := vreg x (fVD b)) (Nat.le_of_lt_succ (Nat.mod_lt _ (by decide)))
    refine ⟨_, (congrArg Host.Outcome.next (issue_of_vissues runs ?_ (vFree (by simp)))).trans ?_, elems, others⟩
    · have beyond : fVIMM b / 64 = 0 := Nat.div_eq_of_lt small
      have noHalf : (cvtWidth (fVIMM b % 16) == 4 && cvtWidth (fTYPE b) == 4 && fVIMM b / 32 % 2 == 1) = false :=
        Bool.eq_false_iff.2 (by simpa [and_assoc] using widths)
      rw [noHalf, bne_iff_ne.2 src, bne_iff_ne.2 dst]
      simp [beyond, res, vb, vc, pd, rs]
    · rw [← flags]
      rfl
  case quantises =>
    intro block codes elems packed
    refine ⟨_, (congrArg Host.Outcome.next (issue_of_vissues runs ?_ ?_)).trans ?_, fun k small => laneN_vmake_ite _ _ _ small⟩
    · simp [type, res, vb, vc, pd, noImm]
    · rw [Bool.and_eq_true]
      exact ⟨vFree (by simp), sFree (by simp)⟩
    · have pack := foldl_add_range_four elems
      have scales := foldl_add_range_four fun i => (block i).2 * 2 ^ (8 * i)
      have all := flatMap_range_four fun i => (block i).1
      simp only [Nat.mul_zero, Nat.pow_zero, Nat.mul_one, Nat.reduceMul] at scales
      rw [← lanesFlags_guarded, ← scales]
      simp only [codes, packed, ← all, ← pack]
      rfl
  case kv4e =>
    intro n sv outs
    refine (congrArg Host.Outcome.next (issue_of_vissues runs ?_ ?_)).trans ?_
    · simp [f32, kv, res, vc]
    · rw [Bool.and_eq_true, Bool.and_eq_true]
      exact ⟨⟨vFree (by simp), sFree (by simp)⟩, pFree (by simp)⟩
    · have kept (w : VReg) : vset x (fVD b) w = if g = 0 then x else vset x (fVD b) w := (if_neg active).symm
      rw [kept]
      rfl

end Sys2Proof.Machine
end

section
/-!
The statement of 04_sirec_isa.md on vector memory (R82, R128, R142).
-/

namespace Sys2Proof.Machine

/-! ### Issue at a good address -/

section
variable {s : State} {t : Fin 512} {b : BitVec 54} (runs : vissues (til s t) b) (active : preg (til s t) (guardOf b) ≠ 0)
  (fields : zeros [fTYPE b, fVres b, fVB b, fVC b, fVPD b] = true)
include runs active fields

theorem exec_vld_of_address (va : fVA b = 0) (free : freeV (til s t) [fVD b] = true) (freeS_ : freeS (til s t) [fVRS b] = true)
    (aligned : vmemAddr (til s t) b 64 % 64 = 0)
    (inside : (inLocal (vmemAddr (til s t) b 64) 512 || inStore (vmemAddr (til s t) b 64) 512) = true)
    (noWait : sramWait (til s t).pend (vmemAddr (til s t) b 64) 512 false = false) :
    exec (.vld t b) s = .next (tput s t (pended (til s t) 0x0C1 b
      (.vload (fVD b) (preg (til s t) (guardOf b)) (vmemAddr (til s t) b 64)))) := by
  change execVld t b s = _
  rw [execVld, ← pushPend_eq]
  refine congrArg Host.Outcome.next ((issue_of_vissues runs (by simpa [va] using fields) (by rw [free, freeS_]; rfl)).trans ?_)
  rw [if_neg active, if_neg (by simp [noWait]), if_neg (by simp [aligned, inside])]

theorem exec_vldB32_of_address (va : fVA b = 0) (free : freeV (til s t) [fVD b] = true) (freeS_ : freeS (til s t) [fVRS b] = true)
    (aligned : vmemAddr (til s t) b 4 % 4 = 0)
    (inside : (inLocal (vmemAddr (til s t) b 4) 4 || inStore (vmemAddr (til s t) b 4) 4) = true)
    (noWait : sramWait (til s t).pend (vmemAddr (til s t) b 4) 4 false = false) :
    exec (.vldB32 t b) s = .next (tput s t (pended (til s t) 0x0C3 b
      (.vword (fVD b) (preg (til s t) (guardOf b)) (vmemAddr (til s t) b 4)))) := by
  change execVldB32 t b s = _
  rw [execVldB32, ← pushPend_eq]
  refine congrArg Host.Outcome.next ((issue_of_vissues runs (by simpa [va] using fields) (by rw [free, freeS_]; rfl)).trans ?_)
  rw [if_neg active, if_neg (by simp [noWait]), if_neg (by simp [aligned, inside])]

theorem exec_vst_of_address (vd : fVD b = 0) (free : freeV (til s t) [fVA b] = true) (freeS_ : freeS (til s t) [fVRS b] = true)
    (aligned : vmemAddr (til s t) b 64 % 64 = 0)
    (inside : (inLocal (vmemAddr (til s t) b 64) 512 || inStore (vmemAddr (til s t) b 64) 512) = true)
    (above : inLocal (vmemAddr (til s t) b 64) 512 = true → imageEnd (til s t) ≤ vmemAddr (til s t) b 64)
    (noWait : sramWait (til s t).pend (vmemAddr (til s t) b 64) 512 true = false) :
    exec (.vst t b) s = .next (tupd (storeLanes s t (vmemAddr (til s t) b 64) (vreg (til s t) (fVA b)) (preg (til s t) (guardOf b))
      (List.range 128)) t advPc) := by
  change execVst t b s = _
  rw [execVst]
  refine congrArg Host.Outcome.next ((issue_of_vissues runs (by simpa [vd] using fields) (by rw [free, freeS_]; rfl)).trans ?_)
  rw [if_neg active, if_neg (by simp [noWait]), if_neg]
  simpa [aligned, inside] using above

end

/-! ### Data that returns -/

theorem loadReturn_vload {s : State} {t i vd a : Nat} {g : PReg} (op : pendOp (til s t) i = some (.vload vd g a))
    (good : ∀ k, k < 128 → bbit g k = true → tparity s t (a + 4 * k) 4 = false) :
    loadReturn s t i = tput s t (vset (dropPend (til s t) i) vd (vmake (fun k =>
      if bbit g k then lane (BitVec.ofNat 4096 (ofBytes (tread s t a 512))) k else lane (vreg (til s t) vd) k))) := by
  have untouched : (List.range 128).any (fun k => bbit g k && tparity s t (a + 4 * k) 4) = false := by
    rw [List.any_eq_false]
    intro k mem both
    obtain ⟨on, bad⟩ := Bool.and_eq_true_iff.1 both
    exact absurd bad (by simp [good k (List.mem_range.1 mem) on])
  simp only [loadReturn, op, untouched, Bool.false_eq_true, ↓reduceIte, tupd]

theorem loadReturn_vword {s : State} {t i vd a : Nat} {g : PReg} (op : pendOp (til s t) i = some (.vword vd g a))
    (good : tparity s t a 4 = false) :
    loadReturn s t i = tput s t (vset (dropPend (til s t) i) vd (vmake (fun k =>
      if bbit g k then BitVec.ofNat 32 (ofBytes (tread s t a 4)) else lane (vreg (til s t) vd) k))) := by
  simp only [loadReturn, op, good, Bool.false_eq_true, ↓reduceIte, tupd]

/-- Settles O25: a vector memory instruction with an active lane at a good address issues; a load's data is written to VD lane by
lane, and a store writes its active lanes one by one. -/
theorem vectorMemory : Obligations.VectorMemory := by
  refine ⟨fun s t b runs type res vb vc pd freeV_ freeS_ => ?issue, fun s t i vd a g op good => ?vload, fun s t i vd a g op good => ?vword⟩
  case issue =>
    intro x g a active
    have fields : zeros [fTYPE b, fVres b, fVB b, fVC b, fVPD b] = true := by simp [type, res, vb, vc, pd]
    have freeVD : freeV x [fVD b] = true := freeV_of_subset (by simp) freeV_
    have freeVA : freeV x [fVA b] = true := freeV_of_subset (by simp) freeV_
    refine ⟨fun va aligned inside noWait => ?_, fun va aligned inside noWait => ?_, fun vd aligned inside above noWait => ?_⟩
    · exact exec_vld_of_address runs active fields va freeVD freeS_ aligned inside noWait
    · exact exec_vldB32_of_address runs active fields va freeVD freeS_ aligned inside noWait
    · exact ⟨_, exec_vst_of_address runs active fields vd freeVA freeS_ aligned inside above noWait, storeLanes_stored inside⟩
  case vload =>
    refine ⟨_, congrArg Host.Outcome.next (loadReturn_vload op good), fun k small => ?_⟩
    rw [laneN_vmake_ite _ _ _ small, laneN, bget, BitVec.toNat_ofNat]
  case vword =>
    refine ⟨_, congrArg Host.Outcome.next (loadReturn_vword op good), fun k small => ?_⟩
    rw [laneN_vmake _ small]
    split
    · rw [BitVec.toNat_ofNat]
    · exact toNat_lane _ _

end Sys2Proof.Machine
end

section
/-!
The statement of 04_sirec_isa.md on moves (R83, R131, R146-R148).
-/

namespace Sys2Proof.Machine

/-! ### Addresses of the tiller address map -/

theorem inDev_iff {a : Nat} : inDev a = true ↔ devBase ≤ a := decide_eq_true_iff

/-- A range in local SRAM or the sheaf store begins below the device window. -/
theorem inDev_of_near {a n : Nat} (near : (inLocal a n || inStore a n) = true) : inDev a = false := by
  have inSram : sramSize < devBase := by decide
  have inSheaf : storeBase + storeSize < devBase := by decide
  rw [Bool.or_eq_true, inLocal, inStore, Bool.and_eq_true, decide_eq_true_iff, decide_eq_true_iff, decide_eq_true_iff] at near
  rw [inDev, decide_eq_false_iff_not]
  omega

theorem movWrite_of_near {s : State} {t a : Nat} {bs : List Byte} (near : inDev a = false) (some_ : bs ≠ []) :
    movWrite s t a bs = twrite s t a bs := by
  rw [movWrite, if_neg (by simpa using some_), near]
  rfl

@[simp] theorem tread_length (s : State) (t a n : Nat) : (tread s t a n).length = n := by
  rw [tread]
  split <;> exact ngets_length _ _ _ _

/-- The source of a move, and what is read of it, when all of it is good. -/
theorem goodBytes_of_near {s : State} {t a n : Nat} (near : inDev a = false) (good : tparity s t a n = false) : goodBytes s t a n = n := by
  simp [goodBytes, near, good]

theorem goodBytes_of_device {s : State} {t a n : Nat} (device : devBase ≤ a) (good : badLineIn s (a - devBase) n = none) :
    goodBytes s t a n = n := by
  rw [goodBytes, if_pos (inDev_iff.2 device), devAddr, good]

/-! ### Issue (R146) -/

section
variable {s : State} {t : Fin 512} {b : BitVec 54} (runs : issues (til s t) b) (pd : fXPD b = 0) (imm : fXIMM b = 0)
  (free : freeS (til s t) [fXRD b, fXRA b, fXRB b, fXRC b] = true) (room : movePipeFree (til s t) = true)
include runs pd imm free room

theorem exec_movCpy_of_allowed {d r n : Nat} (dst : (sreg (til s t) (fXRA b)).toNat = d) (src : (sreg (til s t) (fXRB b)).toNat = r)
    (len : (sreg (til s t) (fXRC b)).toNat = n) (mounted : devBase ≤ r → flashWaits s (r - devBase) n = false)
    (noWait : sramWait (til s t).pend d n true = false) (noWait' : sramWait (til s t).pend r n false = false)
    (allowed : copyBad s (til s t) d r n = false) (reach : farDev s t d = false) (reach' : farDev s t r = false) :
    exec (.movCpy t b) s = .next (tput s t (pended (til s t) 0x141 b (.copy (fXRD b) d r n))) := by
  subst dst src len
  change execMovCpy t b s = _
  rw [execMovCpy, ← pushPend_eq]
  have noMount : (inDev (sreg (til s t) (fXRB b)).toNat && flashWaits s (devAddr (sreg (til s t) (fXRB b)).toNat)
      (sreg (til s t) (fXRC b)).toNat) = false := by
    rw [Bool.and_eq_false_imp, inDev_iff]
    exact mounted
  refine congrArg Host.Outcome.next ((issue_of_issues runs (by simp [pd, imm]) ?_).trans ?_)
  · rw [free, room, noMount]
    rfl
  · rw [if_neg (by simp [sramBusy, noWait, noWait']), if_neg (by simp [allowed, reach, reach'])]

theorem exec_movFill_of_allowed {d n : Nat} (dst : (sreg (til s t) (fXRA b)).toNat = d) (len : (sreg (til s t) (fXRC b)).toNat = n)
    (noWait : sramWait (til s t).pend d n true = false) (allowed : fillBad s (til s t) d n = false) (reach : farDev s t d = false) :
    exec (.movFill t b) s = .next (tput s t (pended (til s t) 0x142 b (.fill (fXRD b) d (sreg (til s t) (fXRB b)) n))) := by
  subst dst len
  change execMovFill t b s = _
  rw [execMovFill, ← pushPend_eq]
  refine congrArg Host.Outcome.next ((issue_of_issues runs (by simp [pd, imm]) (by rw [free, room]; rfl)).trans ?_)
  rw [if_neg (by simp [noWait]), if_neg (by simp [allowed, reach])]

end

/-! ### Completion (R147, R148) -/

theorem pendOp_eq_some {x : Tiller} {i : Nat} {p : Pend} : pendOp x i = some p ↔ ∃ e, x.pend[i]? = some e ∧ e.op = p := by
  rw [pendOp, Option.map_eq_some_iff]

/-- The first move among the incomplete instructions is the oldest. -/
theorem oldestMove_of_first {x : Tiller} {i : Nat} {p : Pend} (op : pendOp x i = some p) (isMov : p.isMov = true)
    (first : ∀ k, k < i → ∀ q, pendOp x k = some q → q.isMov = false) : oldestMove x = some (i, p) := by
  obtain ⟨e, atI, rfl⟩ := pendOp_eq_some.1 op
  have inside : i < x.pend.length := (List.getElem?_eq_some_iff.1 atI).1
  have found : (List.range x.pend.length).find? (fun i => (x.pend[i]?).any (fun p => p.op.isMov)) = some i := by
    rw [List.find?_range_eq_some]
    refine ⟨by simp [atI, isMov], List.mem_range.2 inside, fun k before => ?_⟩
    cases here : x.pend[k]? with
    | none => rfl
    | some q => simp [first k before q.op (pendOp_eq_some.2 ⟨q, here, rfl⟩)]
  rw [oldestMove, found, Option.bind_some, op]
  rfl

section
variable {s : State} {t i rd d n : Nat} (near : inDev d = false)
include near

theorem moveComplete_copy {r : Nat} (oldest : oldestMove (til s t) = some (i, .copy rd d r n))
    (mounted : (inDev r && flashWaits s (devAddr r) n) = false) (good : goodBytes s t r n = n) :
    moveComplete s t = tupd (movWrite s t d (movRead s t r n)) t (fun x => sset (dropPend x i) rd 0) := by
  simp only [moveComplete, oldest, near, mounted, good, Bool.false_and, Bool.or_false, Bool.false_eq_true, Nat.lt_irrefl, ↓reduceIte]

theorem moveComplete_fill {pat : Word} (oldest : oldestMove (til s t) = some (i, .fill rd d pat n)) :
    moveComplete s t = tupd (movWrite s t d ((List.range (n / 8)).flatMap (fun _ => toBytes 8 pat.toNat))) t
      (fun x => sset (dropPend x i) rd 0) := by
  simp only [moveComplete, oldest, near, Bool.false_and, Bool.false_eq_true, ↓reduceIte]

end

/-- A write by a move that then leaves the list of incomplete instructions, with its result in rd. -/
theorem movWrite_stored {s : State} {t d i rd : Nat} {bs : List Byte} (near : (inLocal d bs.length || inStore d bs.length) = true)
    (some_ : bs ≠ []) :
    stored s (tupd (movWrite s t d bs) t (fun x => sset (dropPend x i) rd 0)) t d bs (sset (dropPend (til s t) i) rd 0) := by
  rw [movWrite_of_near (inDev_of_near near) some_]
  exact twrite_stored (fun x => sset (dropPend x i) rd 0) (fun x => ⟨sset (dropPend x i) rd 0,
    sset_withSram (dropPend x i) x.sram x.bad rd 0, sset_junk (dropPend x i) rd 0, sset_junkFrom (dropPend x i) rd 0,
    fun m l => sset_withSram (dropPend x i) m l rd 0⟩) near

/-- The length of a pattern that fills a range. -/
theorem length_pattern (n : Nat) (w : Word) : ((List.range (n / 8)).flatMap (fun _ => toBytes 8 w.toNat)).length = n / 8 * 8 := by
  rw [List.length_flatMap]
  simp [toBytes_length]

/-- Settles O27: a move that R146 allows joins the incomplete instructions, and the oldest one's end is a write of its bytes. -/
theorem movesCompleteInIssueOrder : Obligations.MovesCompleteInIssueOrder := by
  refine ⟨fun s t b runs pd imm free room => ?issue, fun s t i rd d r n pat near granules some_ first => ?complete⟩
  case issue =>
    intro x d r n dstAligned lenAligned some_ short above mapped reach noWait
    have low : ¬d < imageEnd (til s t) := Nat.not_lt.2 above
    have long : ¬16777216 < n := Nat.not_lt.2 short
    refine ⟨fun srcAligned notBoth apart mapped' reach' noWait' mounted => ?copy, ?fill⟩
    case copy =>
      refine exec_movCpy_of_allowed runs pd imm free room rfl rfl rfl mounted noWait noWait' ?_ reach reach'
      have near : (inDev d && inDev r) = false := by rwa [Bool.eq_false_iff, ne_eq, Bool.and_eq_true, inDev_iff, inDev_iff]
      have disjoint : (decide (d < r + n) && decide (r < d + n)) = false := by
        rw [Bool.eq_false_iff, ne_eq, Bool.and_eq_true, decide_eq_true_iff, decide_eq_true_iff]
        omega
      simp [copyBad, dstAligned, srcAligned, lenAligned, some_, long, near, disjoint, low, mapped, mapped']
    case fill =>
      refine exec_movFill_of_allowed runs pd imm free room rfl rfl noWait ?_ reach
      simp [fillBad, dstAligned, lenAligned, some_, long, low, mapped]
  case complete =>
    intro ends
    have ends_of {bs : List Byte} (len : bs.length = n)
        (e : moveComplete s t = tupd (movWrite s t d bs) t (fun x => sset (dropPend x i) rd 0)) : ends bs := by
      refine ⟨_, congrArg Host.Outcome.next e, movWrite_stored (by rw [len]; exact near) ?_⟩
      rintro rfl
      exact some_ len.symm
    refine ⟨fun op => ?fill, fun op => ⟨fun near' good => ?copy, fun device mounted lines => ?load⟩⟩
    case fill =>
      refine ends_of ?_ (moveComplete_fill (inDev_of_near near) (oldestMove_of_first op rfl first))
      rw [length_pattern]
      omega
    case copy =>
      have here := inDev_of_near near'
      refine ends_of (tread_length ..) ((moveComplete_copy (inDev_of_near near) (oldestMove_of_first op rfl first)
        (by rw [here]; rfl) (goodBytes_of_near here good)).trans ?_)
      simp [movRead, here]
    case load =>
      refine ends_of (ngets_length ..) ((moveComplete_copy (inDev_of_near near) (oldestMove_of_first op rfl first)
        (by rw [devAddr, mounted, Bool.and_false]) (goodBytes_of_device device lines)).trans ?_)
      rw [movRead, if_pos (inDev_iff.2 device), devAddr]

end Sys2Proof.Machine
end

section
/-!
The statement of 04_sirec_isa.md on array instructions (R82, R88, R132, R143-R145).
-/

namespace Sys2Proof.Machine

/-! ### Issue at good operands -/

/-- An access to no byte waits for nothing. -/
@[simp] theorem sramWait_none (ps : List Issued) (a : Nat) (w : Bool) : sramWait ps a 0 w = false := by
  simp [sramWait, sameGranule]

section
variable {s : State} {t : Fin 512} {b : BitVec 54} (runs : issues (til s t) b)
include runs

theorem exec_accClr_of_issues (zero : bget b 0 49 = 0) (idle : accBusy (til s t) (fACC b) = false) :
    exec (.accClr t b) s = .next (tput s t (advPc (aset (til s t) (fACC b) 0))) := by
  change execAccClr t b s = _
  exact congrArg Host.Outcome.next (issue_of_issues runs (by simp [zero]) (by rw [idle]; rfl))

section
variable {a : Nat} (addr : (sreg (til s t) (fARA b)).toNat = a) (zero : bget b 0 44 = 0) (free : freeS (til s t) [fARA b] = true)
  (aligned : a % 64 = 0) (inside : inLocal a 4096 = true)
include addr zero free aligned inside

theorem exec_accLd_of_address (idle : accBusy (til s t) (fACC b) = false) (noWait : sramWait (til s t).pend a 4096 false = false) :
    exec (.accLd t b) s = .next (tput s t (pended (til s t) 0x103 b (.accLoad (fACC b) a))) := by
  subst addr
  change execAccLd t b s = _
  rw [execAccLd, ← pushPend_eq]
  refine congrArg Host.Outcome.next ((issue_of_issues runs (by simp [zero]) (by rw [free, idle]; rfl)).trans ?_)
  rw [if_neg (by simp [noWait]), if_neg (by simp [aligned, inside])]

theorem exec_accSt_of_address (idle : awaitAcc (til s t) (fACC b) = false) (noWait : sramWait (til s t).pend a 4096 true = false)
    (above : imageEnd (til s t) ≤ a) :
    exec (.accSt t b) s = .next (tput s t (pended (til s t) 0x104 b (.accStore (fACC b) a))) := by
  subst addr
  change execAccSt t b s = _
  rw [execAccSt, ← pushPend_eq]
  refine congrArg Host.Outcome.next ((issue_of_issues runs (by simp [zero]) (by rw [free, idle]; rfl)).trans ?_)
  rw [if_neg (by simp [noWait]), if_neg (by simp [aligned, inside, above])]

end

/-- An operand of an MMA.TILE that raises nothing and waits for nothing. -/
def operandOk (x : Tiller) (a n : Nat) : Prop := a % 64 = 0 ∧ inLocal a n = true ∧ sramWait x.pend a n false = false

theorem exec_mmaTile_of_operands {ra rb : Nat} (addrA : (sreg (til s t) (fARA b)).toNat = ra)
    (addrB : (sreg (til s t) (fARB b)).toNat = rb) (pair : pairOk (fTA b) (fTB b) = true) (res : fAres b = 0)
    (scales : isMx (fTA b) = true ∨ fARS b = 0) (free : freeS (til s t) [fARA b, fARB b, fARS b] = true)
    (idle : accBusy (til s t) (fACC b) = false) (okA : operandOk (til s t) ra ((fNBM1 b + 1) * 32 * runBytes (fTA b)))
    (okB : operandOk (til s t) rb ((fNBM1 b + 1) * 32 * runBytes (fTB b)))
    (okS : isMx (fTA b) = true → operandOk (til s t) (sreg (til s t) (fARS b)).toNat (64 * (fNBM1 b + 1))) :
    exec (.mmaTile t b) s = .next (tput s t (pended (til s t) 0x101 b (.mma (fACC b) ra rb
      (if isMx (fTA b) then (sreg (til s t) (fARS b)).toNat else 0) (fTA b) (fTB b) (fZERO b == 1) (fNBM1 b + 1)))) := by
  subst addrA addrB
  obtain ⟨alignedA, insideA, noWaitA⟩ := okA
  obtain ⟨alignedB, insideB, noWaitB⟩ := okB
  change execMmaTile t b s = _
  rw [execMmaTile, ← pushPend_eq]
  refine congrArg Host.Outcome.next ((issue_of_issues runs ?_ (by rw [free, idle]; rfl)).trans ?_)
  · simpa [pair, res] using scales
  · cases mx : isMx (fTA b) with
    | false => simp [sramBusy, alignedA, insideA, noWaitA, alignedB, insideB, noWaitB]
    | true =>
      obtain ⟨alignedS, insideS, noWaitS⟩ := okS mx
      simp [sramBusy, alignedA, insideA, noWaitA, alignedB, insideB, noWaitB, alignedS, insideS, noWaitS]

end

/-! ### Tiles element by element -/

/-- Rows one after another, each of `n` elements, are the elements in row-major order. -/
theorem flatMap_range_map {α : Type} (f : Nat → Nat → α) {n : Nat} (pos : 0 < n) (m : Nat) :
    (List.range m).flatMap (fun i => (List.range n).map (f i)) = (List.range (m * n)).map (fun e => f (e / n) (e % n)) := by
  induction m with
  | zero => simp
  | succ m ih =>
    have row : (List.range n).map (f m) = (List.range n).map (fun j => f ((m * n + j) / n) ((m * n + j) % n)) := by
      refine List.map_congr_left fun j mem => ?_
      have small := List.mem_range.1 mem
      rw [Nat.mul_comm m n, Nat.mul_add_div pos, Nat.mul_add_mod, Nat.div_eq_of_lt small, Nat.mod_eq_of_lt small, Nat.add_zero]
    rw [List.range_succ, List.flatMap_append, ih, Nat.succ_mul, List.range_add, List.map_append, List.map_map, List.flatMap_cons,
      List.flatMap_nil, List.append_nil, row]
    rfl

/-- Row `i` of block `k` of the first operand of an MMA.TILE with its scale, and column `j` of the second (R143, R144). -/
def mmaRow (x : Tiller) (ra rs ta k i : Nat) : List FV × Option Int :=
  (runVals x ta (ra + k * 32 * runBytes ta + i * runBytes ta), scaleAt x (isMx ta) (rs + 32 * k + i))
def mmaCol (x : Tiller) (rb rs ta tb nb k j : Nat) : List FV × Option Int :=
  (runVals x tb (rb + k * 32 * runBytes tb + j * runBytes tb), scaleAt x (isMx ta) (rs + 32 * nb + 32 * k + j))

/-- One contribution added to an element. -/
def mmaAdd (z : Nat) (row col : List FV × Option Int) : Nat × Nat := accAdd z (blkSum row.1 col.1 {}) (scaleSum row.2 col.2)

/-- A block adds to element (i, j) the contribution of row i and column j. -/
theorem mmaBlock_elements (row col : Nat → List FV × Option Int) (z : Nat → Nat) (fl : Nat) :
    (mmaBlock ((List.range 32).map row) ((List.range 32).map col) ((List.range 1024).map z) fl).1 =
      (List.range 1024).map (fun e => (mmaAdd (z e) (row (e / 32)) (col (e % 32))).1) := by
  have pairs : ((List.range 32).map row).flatMap (fun a => ((List.range 32).map col).map (fun c => (a, c))) =
      (List.range 1024).map (fun e => (row (e / 32), col (e % 32))) := by
    rw [List.flatMap_map]
    simp only [List.map_map]
    exact flatMap_range_map (fun i j => (row i, col j)) (by decide) 32
  rw [mmaBlock, pairs]
  simp only [List.zipWith_map, List.zipWith_self, List.map_map, mmaAdd, Function.comp_def]

/-- The blocks from `k` on are added in order. -/
theorem mmaBlocks_elements (x : Tiller) (ra rb rs ta tb nb n k : Nat) (z : Nat → Nat) (fl : Nat) :
    (mmaBlocks x ra rb rs ta tb nb n k ((List.range 1024).map z) fl).1 = (List.range 1024).map (fun e =>
      (List.range' k n).foldl (fun z k => (mmaAdd z (mmaRow x ra rs ta k (e / 32)) (mmaCol x rb rs ta tb nb k (e % 32))).1) (z e)) := by
  induction n generalizing k z fl with
  | zero => simp only [mmaBlocks, List.range'_zero, List.foldl_nil]
  | succ n ih =>
    simp only [List.range'_succ, List.foldl_cons, mmaBlocks]
    rw [← ih (fl := (mmaBlock ((List.range 32).map (mmaRow x ra rs ta k)) ((List.range 32).map (mmaCol x rb rs ta tb nb k))
      ((List.range 1024).map z) fl).2), ← mmaBlock_elements _ _ z fl]
    rfl

theorem bget_zero (w lo n : Nat) : bget (0 : BitVec w) lo n = 0 := by
  simp [bget, bits]

/-- Element `k` of a tile made of words. -/
theorem bget_ofNat_ofLanes {w : Nat} {l : List Lane} (fits : 32 * l.length ≤ w) (k : Nat) :
    bget (BitVec.ofNat w (ofLanes l)) (32 * k) 32 = (l.getD k 0).toNat := by
  have small : ofLanes l < 2 ^ w := Nat.lt_of_lt_of_le (ofLanes_lt l) (Nat.pow_le_pow_right (by decide) fits)
  rw [bget, BitVec.toNat_ofNat, Nat.mod_eq_of_lt small, ofLanes_bits]

/-- The tile whose element `e` is the word `f e`. -/
theorem bget_tile (f : Nat → Nat) {e : Nat} (small : e < 1024) :
    bget (BitVec.ofNat 32768 (ofLanes (((List.range 1024).map f).map (fun n => BitVec.ofNat 32 n)))) (32 * e) 32 = f e % 2 ^ 32 := by
  rw [bget_ofNat_ofLanes (by simp)]
  simp [List.getD_eq_getElem?_getD, small]

/-! ### Completion -/

theorem arrayDone_accStore {s : State} {t i acc a : Nat} (op : pendOp (til s t) i = some (.accStore acc a)) :
    arrayDone s t i = tput s t (localWrite (dropPend (til s t) i) a (toBytes 4096 (areg (til s t) acc).toNat)) := by
  simp only [arrayDone, op, tupd]

theorem loadReturn_accLoad {s : State} {t i acc a : Nat} (op : pendOp (til s t) i = some (.accLoad acc a))
    (good : tparity s t a 4096 = false) :
    loadReturn s t i = tput s t (aset (dropPend (til s t) i) acc (BitVec.ofNat 32768 (ofBytes (tread s t a 4096)))) := by
  simp only [loadReturn, op, good, Bool.false_eq_true, ↓reduceIte, tupd]

/-- The elements of a tile after an MMA.TILE, and its flags. -/
def mmaResult (x : Tiller) (acc ra rb rs ta tb : Nat) (zero : Bool) (nb : Nat) : List Nat × Nat :=
  mmaBlocks x ra rb rs ta tb nb nb 0 (tileElems (if zero then 0 else areg x acc)) 0

theorem arrayDone_mma {s : State} {t n acc ra rb rs ta tb nb : Nat} {zero : Bool}
    (op : pendOp (til s t) n = some (.mma acc ra rb rs ta tb zero nb)) (goodA : parityBad (til s t).bad ra (nb * 32 * runBytes ta) = false)
    (goodB : parityBad (til s t).bad rb (nb * 32 * runBytes tb) = false)
    (goodS : isMx ta = true → parityBad (til s t).bad rs (64 * nb) = false) :
    let r := mmaResult (til s t) acc ra rb rs ta tb zero nb
    arrayDone s t n = fpFlags (tput s t (aset (dropPend (til s t) n) acc
      (BitVec.ofNat 32768 (ofLanes (r.1.map (fun n => BitVec.ofNat 32 n)))))) t r.2 := by
  have good : (isMx ta && parityBad (til s t).bad rs (64 * nb)) = false := by
    rw [Bool.and_eq_false_imp]
    exact goodS
  simp only [arrayDone, op, goodA, goodB, good, Bool.false_eq_true, ↓reduceIte, tupd, mmaResult]

/-- Settles O26: an array instruction with good operands joins the incomplete ones; the blocks of an MMA.TILE are added element by
element, by induction on their number. -/
theorem arrayInstructionsAccumulateBlocks : Obligations.ArrayInstructionsAccumulateBlocks := by
  refine ⟨fun s t b runs => ?issue, fun s t i acc a => ⟨fun op => ?store, fun op good => ?load⟩,
    fun s t n acc ra rb rs ta tb nb zero op => ?mma⟩
  case issue =>
    intro x at'
    refine ⟨exec_accClr_of_issues runs, fun zero free aligned inside => ⟨fun idle noWait => ?_, fun idle noWait above => ?_⟩,
      fun pair res scales free idle => ?_⟩
    · exact exec_accLd_of_address runs rfl zero free aligned inside idle noWait
    · exact exec_accSt_of_address runs rfl zero free aligned inside idle noWait above
    · intro nb na nc alignedA insideA noWaitA alignedB insideB noWaitB okS
      exact exec_mmaTile_of_operands runs rfl rfl pair res scales free idle ⟨alignedA, insideA, noWaitA⟩ ⟨alignedB, insideB, noWaitB⟩ okS
  case store => exact congrArg Host.Outcome.next (arrayDone_accStore op)
  case load => exact congrArg Host.Outcome.next (loadReturn_accLoad op good)
  case mma =>
    intro x goodA goodB goodS row col scale old
    refine ⟨_, _, congrArg Host.Outcome.next (arrayDone_mma op goodA goodB goodS), rfl, fun q other => areg_aset_ne _ _ other,
      fun i j hi hj => ?_⟩
    rw [areg_aset_self, mmaResult, tileElems, mmaBlocks_elements, bget_tile _ (by omega)]
    have row_ : (32 * i + j) / 32 = i := by omega
    have col_ : (32 * i + j) % 32 = j := by omega
    rw [row_, col_, List.range_eq_range']
    have start : old i j = bget (if zero then 0 else areg x acc) (32 * (32 * i + j)) 32 := by
      cases zero with
      | false => rfl
      | true => exact (bget_zero _ _ _).symm
    rw [start]
    rfl

end Sys2Proof.Machine
end
